-- ==== Sys2Proof/Machine/SMap.lean ====
section
/-!
DEFINITION. A sparse map from numbers to values, the one container of the model's memories, register files and
tables of units. It lists only the keys whose value differs from the default, with keys strictly rising, so that
equal contents are equal data.
-/
namespace Sys2Proof.Machine

/-- A sparse map: the listed cells, keys strictly rising; an unlisted key reads as the default value. -/
structure SMap (α : Type) where
  cells : List (Nat × α) := []
deriving DecidableEq, Repr, Inhabited

/-- The value that a list of cells gives key `k`. -/
def SMap.getL {α : Type} [Inhabited α] : List (Nat × α) → Nat → α
  | [], _ => default
  | c :: m, k => if k = c.1 then c.2 else getL m k

/-- The value of key `k`; the default where nothing is listed. -/
def SMap.get {α : Type} [Inhabited α] (m : SMap α) (k : Nat) : α := SMap.getL m.cells k

/-- Puts `v` at key `k` in a list of cells, keeping the keys rising. -/
def SMap.insL {α : Type} (k : Nat) (v : α) : List (Nat × α) → List (Nat × α)
  | [] => [(k, v)]
  | c :: m => if k = c.1 then (k, v) :: m else if k < c.1 then (k, v) :: c :: m else c :: insL k v m

/-- Removes key `k` from a list of cells. -/
def SMap.delL {α : Type} (k : Nat) : List (Nat × α) → List (Nat × α)
  | [] => []
  | c :: m => if k = c.1 then delL k m else c :: delL k m

/-- Writes `v` at key `k`; writing the default removes the cell. -/
def SMap.set {α : Type} [Inhabited α] [DecidableEq α] (m : SMap α) (k : Nat) (v : α) : SMap α :=
  ⟨if v = default then SMap.delL k m.cells else SMap.insL k v m.cells⟩

/-- Changes the value of key `k` by `f`. -/
def SMap.upd {α : Type} [Inhabited α] [DecidableEq α] (m : SMap α) (k : Nat) (f : α → α) : SMap α :=
  m.set k (f (m.get k))

/-- Keeps the cells whose key and value satisfy `p`; the others read as the default again. -/
def SMap.keep {α : Type} (m : SMap α) (p : Nat → α → Bool) : SMap α := ⟨m.cells.filter (fun c => p c.1 c.2)⟩

/-- Drops the cells of a sparse map with keys in `[a, a + n)`. -/
def SMap.cut {α : Type} (m : SMap α) (a n : Nat) : SMap α := m.keep (fun k _ => k < a || a + n ≤ k)

/-- The keys that are listed, rising. -/
def SMap.keys {α : Type} (m : SMap α) : List Nat := m.cells.map (·.1)

/-- The listed cells from key `a` on have rising keys and no default value. -/
def SMap.wfL {α : Type} [Inhabited α] [DecidableEq α] : Nat → List (Nat × α) → Bool
  | _, [] => true
  | a, c :: m => decide (a ≤ c.1) && !decide (c.2 = default) && wfL (c.1 + 1) m

/-- The canonical form: keys strictly rising, no listed value equal to the default. -/
def SMap.wf {α : Type} [Inhabited α] [DecidableEq α] (m : SMap α) : Bool := SMap.wfL 0 m.cells

end Sys2Proof.Machine
end

