-- ==== Sys2Proof/Word.lean ====
section
/-!
DEFINITION. The words of the machine and the plainest arithmetic on them: a 64-bit Virelo word, a byte,
little-endian byte strings (R4) and saturation.
-/
namespace Sys2Proof

/-- A control-core register, 64 bits. -/
abbrev Word := BitVec 64

/-- One byte. -/
abbrev Byte := BitVec 8

/-- A signal-core register, 24 bits. -/
abbrev SWord := BitVec 24

/-- A signal-core accumulator, 56 bits. -/
abbrev Acc := BitVec 56

/-- The `n` low bytes of `v`, least significant byte first (R4). -/
def bytesLE : Nat → Nat → List Byte
  | 0, _ => []
  | n + 1, v => BitVec.ofNat 8 v :: bytesLE n (v / 256)

/-- The number that little-endian bytes spell (R4). -/
def ofBytesLE : List Byte → Nat
  | [] => 0
  | b :: bs => b.toNat + 256 * ofBytesLE bs

/-- Bits `[lo + w - 1 : lo]` of `v`. -/
def bitsOf (v lo w : Nat) : Nat := v / 2 ^ lo % 2 ^ w

/-- Bit `n` of `v`. -/
def bitOf (v n : Nat) : Bool := v / 2 ^ n % 2 == 1

/-- The number whose bits a list gives, lowest first. -/
def ofBits : List Bool → Nat
  | [] => 0
  | b :: bs => (if b then 1 else 0) + 2 * ofBits bs

/-- 1 for true, 0 for false. -/
def ofBool (b : Bool) : Nat := if b then 1 else 0

/-- `v` with bit `n` set to `b`. -/
def withBit (v n : Nat) (b : Bool) : Nat := v - v / 2 ^ n % 2 * 2 ^ n + ofBool b * 2 ^ n

/-- An addition that stops at the all-ones value of `w` bits (R44). -/
def satAdd (w a b : Nat) : Nat := min (a + b) (2 ^ w - 1)

end Sys2Proof
end

