-- ==== Sys2Proof/Payload.lean ====
section
/-!
DEFINITION. The data that commands carry from outside the block: NoC packets, and the payload records of the other
protocols.
-/
namespace Sys2Proof

/-- A NoC packet: the header fields of Table 14.2 and the bytes it carries, `data` byte `j` being the byte at
`addr + j` (a CAS carries 16 bytes, an MWRITE 64). -/
structure Packet where
  opc : Nat := 0
  len : Nat := 0
  addr : Nat := 0
  dev : Nat := 0
  srcdev : Nat := 0
  init : Nat := 0
  tag : Nat := 0
  keyid : Nat := 0
  pmask : Nat := 0
  cls : Nat := 0
  prio : Nat := 0
  status : Nat := 0
  atop : Nat := 0
  tgen : Bool := false
  mask : Nat := 0
  data : List Byte := []
deriving DecidableEq, Repr, Inhabited

/-- The signals that a memory block port samples at an edge (Table 4.3). -/
structure PortIn where
  en : Bool := false
  we : Nat := 0
  addr : Nat := 0
  din : Nat := 0
deriving DecidableEq, Repr, Inhabited

/-- The signals that a slice samples at an edge (Table 5.2), but those of coefficient writes and swap requests. -/
structure SliceIn where
  ce : Bool := false
  a : Nat := 0
  d : Nat := 0
  b : Nat := 0
  caddr : Nat := 0
  c : Nat := 0
  opIn : Nat := 0
  first : Bool := false
deriving DecidableEq, Repr, Inhabited

/-- What drives a bay track that an input of user logic takes (R70): nothing, a value that is combinational at the edge
(F of a cell or a dedicated signal of another unit), Q of logic cell `i` of cluster `c`, bit `n` of port `p` of memory block
`k` (DOUT from 0, then CE at 64, UE and BUSY), bit `n` of slice `k` (Y from 0, P from 24, IDX from 80, OVF, PRE_OV, IDX_OVF and YOV
from 96), wire `n` of the boundary entry point on side `d` (0 west, 1 south, 2 east, 3 north), and the dedicated signals of
Table 3.9. Which driver reaches which input is the content of the track frames, whose encoding the spec leaves to the
frame database (R166), so a command names it. -/
inductive TrackSrc where
  | off
  | val (v : Bool)
  | q (c i : Nat)
  | blk (k p n : Nat)
  | slc (k n : Nat)
  | entry (d n : Nat)
  | pickStb (k : Nat)
  | poisonIn
  | run
deriving DecidableEq, Repr, Inhabited

/-- A unit that takes an edge: unit `u` of its kind at bay `b` on clock input `k`, the drivers of its inputs in order, and for a
cluster the drivers of the input lines of the clusters below it in its column, from row 0. A cluster is numbered 64y + x, a boundary
group 8 x side + group, a GPIO attach port 2 x bank + port, a lane attach port by its lane. -/
structure EdgeUnit where
  b : Nat := 0
  u : Nat := 0
  k : Nat := 0
  lines : List TrackSrc := []
  below : List (List TrackSrc) := []
deriving DecidableEq, Repr, Inhabited

/-- What a register write brings: its value, and what hardware adds or sets in the same register in the same cycle, each field in
its place (R55). -/
structure CsrData where
  v : Nat := 0
  upd : Nat := 0
deriving DecidableEq, Repr, Inhabited

end Sys2Proof
end

