-- ==== Sys2Proof/Machine/Outcome.lean ====
section
/-!
DEFINITION. What the block sends to the world outside it: the messages and words that leave the device or reach user
logic, in the order in which they leave.
-/
namespace Sys2Proof.Machine

/-- One thing that leaves the block. -/
inductive Out where
  /-- a beat delivered to a skein at a bay port: bay, kind (0 response, 1 target request), status, poison mask, data -/
  | skein (bay kind status pmask : Nat) (data : List Byte)
  /-- a memory block port presents its outputs: bay, block, port, data, flags CE UE BUSY -/
  | blockOut (bay blk port dout : Nat) (ce ue busy : Bool)
  /-- a slice presents its outputs: bay, slice, Y, accumulator, IDX, flags -/
  | sliceOut (bay sl y acc idx flags : Nat)
  /-- a warp flit: port, kind, sequence number, payload -/
  | flit (port kind seq : Nat) (data : List Byte)
  /-- a Reed symbol: warp port, kind, operation number, payload -/
  | reed (port kind a b c : Nat)
  /-- a lane transmits a word: lane, word, kind (0 data, 1 fill, 2 training, 3 marker) -/
  | laneWord (lane kind w : Nat)
  /-- a lane delivers a word to its attach port: lane, word, flags -/
  | attachWord (lane flags w : Nat)
  /-- the GPIO outputs of a bank: pins driven, their values in the first and in the second half of the port clock period -/
  | pins (bank drive r f : Nat)
  /-- a PCI Express completion: tag, status (0 Successful, 1 Unsupported Request, 2 Successful with
  EP = 1, 3 Completer Abort), data -/
  | tlpCpl (tag status : Nat) (data : List Byte)
  /-- a PCI Express memory read request of a DMA queue: queue, descriptor, host address, length, No Snoop -/
  | tlpRead (q d addr len : Nat) (noSnoop : Bool)
  /-- a PCI Express memory write: host address, poisoned, No Snoop, data -/
  | tlpWrite (addr : Nat) (poison noSnoop : Bool) (data : List Byte)
  /-- an MSI-X message: vector, address, data -/
  | msix (v addr data : Nat)
  /-- a command on a DRAM channel: port, kind, DIMM, physical rank, 3DS chip ID (R443), bank, row, column C[10:4] (R442) -/
  | dram (port kind dimm prank chip bank row col : Nat)
  /-- a read of the xSPI flash: command, flash offset (R264) -/
  | xspiRead (cmd off : Nat)
  /-- the answer to a register or window access that came as a command: initiator, status, data -/
  | reply (init status : Nat) (data : List Byte)
  /-- a frame read back or captured to memory: address, length -/
  | note (kind a b c : Nat)
deriving DecidableEq, Repr

end Sys2Proof.Machine
end

