-- ==== Sys2Proof/Config.lean ====
section
/-!
DEFINITION. What an implementation fixes and the spec leaves open: the free values, and the fuses, ROM contents and
wrapping keys of the device. A constant without a body is opaque: nothing in Lean can evaluate it.
-/
namespace Sys2Proof.Config

/-- The n-th value that a rule calls undefined (R6) or that the spec leaves unstated. The step reads it at
`State.freeCtr` and advances that counter. Log entry 2. -/
opaque freeValue : Nat → BitVec 64

/-- A fuse-loaded field (form F of Table 2.2): field number, unit, copy. Log entry 3. -/
opaque fuse : Nat → Nat → Nat → Nat

/-- A byte of the boot ROM (R263). Log entry 4. -/
opaque romByte : Nat → Byte

/-- The fused key digest `k` (R198). Log entry 3. -/
opaque keyDigest : Nat → List Byte

/-- The wrapping key that the device derives from its PUF for each class of key slot (R293). Log entry 6. -/
opaque wrapKey : Nat → BitVec 256

/-- RAAIMT and RAAMMT of the modules of a memory port (R455). Log entry 13. -/
opaque raaimt : Nat → Nat
opaque raammt : Nat → Nat

/-- Whether the skein of a bay has a target interface (R27): the frame database that would say so from the bay-port frames
is not given (R166). Log entry 35. -/
opaque targetIface : List Byte → Bool

end Sys2Proof.Config
end

