-- ==== Sys2Proof/Machine/RegTypes.lean ====
section
/-!
DEFINITION. What a register field is: its place in its register, its access code (Table 2.3), its reset value and
reset form (Table 2.2); what a register is; and the blocks of the register space (Table 2.1).
-/
namespace Sys2Proof.Machine

/-- Access codes, Table 0.3 and Table 2.3. -/
inductive Access where
  | rw | ro | wo | w1c | w1s | rc | rws | hw
deriving DecidableEq, Repr

/-- Reset column forms, Table 2.2: a value, (c), (p), F, X, and a field with no storage. -/
inductive Keep where
  | every | cold | por | fuse | undef | noStore
deriving DecidableEq, Repr

/-- A register field: a number of its own, its low bit, its width, its access code, its reset value and form, and,
where the register repeats it, how many copies and how many bits apart. -/
structure Field where
  id : Nat
  lo : Nat
  w : Nat
  acc : Access
  rst : Nat
  form : Keep
  reps : Nat
  step : Nat
deriving DecidableEq, Repr

/-- The blocks of Table 2.1, the unit header (Table 2.4), the family header (R48), and the system-register spaces
of the cores (Tables 7.4, 8.3, 12.4, 25.4). -/
inductive Blk where
  | hdr | fam | global | clk | pwr | irq | cfg | hd | mpe | noc | reed | bist | dbg | dcmp | gpio | pcie | spb | lane | bay | sc | mp | warp | cc | vsr | ssr
deriving DecidableEq, Repr

/-- A register: its block, its first offset, the distance and number of its copies, and its fields. -/
structure Reg where
  blk : Blk
  off : Nat
  stride : Nat
  count : Nat
  fields : List Field
deriving DecidableEq, Repr

end Sys2Proof.Machine
end

