-- ==== Sys2Proof/Machine/Fields.lean ====
section
/-!
DEFINITION. The catalogue of the register fields: every field of every register table of the spec, with its bits,
access code, reset value and reset form (R41). Written from the register tables of spec/.
-/
namespace Sys2Proof.Machine

/-! ### HDR -/

/-- STAGE_CTL.DISCARD [8:8], 02_registers.md R47: 1: discard all staged values of the unit (R60) -/
def F.STAGE_CTL_DISCARD : Field := ⟨1, 8, 1, .wo, 0, .noStore, 1, 0⟩
/-- STAGE_CTL.POLICY [1:0], 02_registers.md R47: 0b00 NEXT, 0b01 AT_PICK, 0b10 HOLD, 0b11 reserved; a write of 0b11 leaves POLICY … -/
def F.STAGE_CTL_POLICY : Field := ⟨2, 0, 2, .rw, 0, .every, 1, 0⟩
/-- STAGE_PICK.PICK [63:0], 02_registers.md R47: Pick boundary N for POLICY = AT_PICK -/
def F.STAGE_PICK_PICK : Field := ⟨3, 0, 64, .rw, 0, .every, 1, 0⟩
/-- UNIT_STATUS.COLLIDE [4:4], 02_registers.md R47: Software and hardware wrote a hardware-advanced pointer of the unit in the same cycle -/
def F.UNIT_STATUS_COLLIDE : Field := ⟨4, 4, 1, .w1c, 0, .every, 1, 0⟩
/-- UNIT_STATUS.ARMED [3:3], 02_registers.md R47: The unit is armed for a Reed mode change -/
def F.UNIT_STATUS_ARMED : Field := ⟨5, 3, 1, .ro, 0, .every, 1, 0⟩
/-- UNIT_STATUS.SPLIT [2:2], 02_registers.md R47: An RWS write landed in the application-edge cycle of a boundary at which the unit … -/
def F.UNIT_STATUS_SPLIT : Field := ⟨6, 2, 1, .w1c, 0, .every, 1, 0⟩
/-- UNIT_STATUS.LATE [1:1], 02_registers.md R47: Staged values are held because pick STAGE_PICK has passed -/
def F.UNIT_STATUS_LATE : Field := ⟨7, 1, 1, .w1c, 0, .every, 1, 0⟩
/-- UNIT_STATUS.PENDING [0:0], 02_registers.md R47: At least one RWS write is staged and not yet applied or discarded -/
def F.UNIT_STATUS_PENDING : Field := ⟨8, 0, 1, .ro, 0, .every, 1, 0⟩
/-- UNIT_ID.FAMILY [31:24], 02_registers.md R47: 0x00 single block, 0x01 lane, 0x02 bay, 0x03 signal core, 0x04 memory port, 0x05 warp … -/
def F.UNIT_ID_FAMILY : Field := ⟨9, 24, 8, .ro, 0, .noStore, 1, 0⟩
/-- UNIT_ID.INDEX [23:8], 02_registers.md R47: Unit index within the family; for a single block, its block number (offset ÷ 0x10_0000) -/
def F.UNIT_ID_INDEX : Field := ⟨10, 8, 16, .ro, 0, .noStore, 1, 0⟩
/-- UNIT_ID.HDR_VER [7:0], 02_registers.md R47: Header layout version -/
def F.UNIT_ID_HDR_VER : Field := ⟨11, 0, 8, .ro, 1, .every, 1, 0⟩

/-! ### FAM -/

/-- SEL.BCAST [31:31], 02_registers.md R48: 1: window writes go to every unit of the family -/
def F.SEL_BCAST : Field := ⟨12, 31, 1, .rw, 0, .every, 1, 0⟩
/-- SEL.INDEX [15:0], 02_registers.md R48: Selected unit -/
def F.SEL_INDEX : Field := ⟨13, 0, 16, .rw, 0, .every, 1, 0⟩
/-- FAMILY_INFO.FAMILY [23:16], 02_registers.md R48: Family code as in UNIT_ID -/
def F.FAMILY_INFO_FAMILY : Field := ⟨14, 16, 8, .ro, 0, .noStore, 1, 0⟩
/-- FAMILY_INFO.COUNT [15:0], 02_registers.md R48: 192 lanes, 768 bays, 96 signal cores, 16 memory ports, 12 warp ports, 8 control cores -/
def F.FAMILY_INFO_COUNT : Field := ⟨15, 0, 16, .ro, 0, .noStore, 1, 0⟩

/-! ### GLOBAL -/

/-- DEV_ID.DEV_ID [8:0], 02_registers.md R47: Device ID, set by topology discovery as the chapter 'Warp links and multi-device … -/
def F.DEV_ID : Field := ⟨16, 0, 9, .hw, 0, .every, 1, 0⟩
/-- REVISION.REVISION [15:0], 02_registers.md R47: Silicon revision -/
def F.REVISION : Field := ⟨17, 0, 16, .ro, 0, .fuse, 1, 0⟩
/-- INIT_ID.INIT_ID [11:0], 02_registers.md R47: Initiator ID of the request that reads it -/
def F.INIT_ID : Field := ⟨18, 0, 12, .ro, 0, .noStore, 1, 0⟩
/-- INIT_CTL.SHADOW_VIEW [0:0], 02_registers.md R47: INIT_CTL: banked per initiator ID. 1: reads of RWS fields return the staged value (R56) -/
def F.INIT_CTL_SHADOW_VIEW : Field := ⟨19, 0, 1, .rw, 0, .every, 1, 0⟩
/-- ERR_REC.ERR_OFFSET [29:0], 02_registers.md R47: CSR offset of the first failing access since ERR_VALID was cleared -/
def F.ERR_REC_ERR_OFFSET : Field := ⟨20, 0, 30, .hw, 0, .every, 1, 0⟩
/-- ERR_REC.ERR_INIT [43:32], 02_registers.md R47: Initiator ID of that access -/
def F.ERR_REC_ERR_INIT : Field := ⟨21, 32, 12, .hw, 0, .every, 1, 0⟩
/-- ERR_STAT.ERR_VALID [0:0], 02_registers.md R47: ERR_OFFSET and ERR_INIT hold a record -/
def F.ERR_STAT_ERR_VALID : Field := ⟨22, 0, 1, .w1c, 0, .every, 1, 0⟩
/-- ERR_STAT.ERR_COUNT [31:16], 02_registers.md R47: Failing CSR accesses, saturating. Software may write it (counter rule, R55). -/
def F.ERR_STAT_ERR_COUNT : Field := ⟨23, 16, 16, .hw, 0, .every, 1, 0⟩
/-- GRADE.SPEED [9:8], 02_registers.md R47: GRADE: speed grade, 0b01 S1, 0b10 S2, 0b11 S3 -/
def F.GRADE_SPEED : Field := ⟨24, 8, 2, .ro, 0, .fuse, 1, 0⟩
/-- GRADE.TEMP [1:0], 02_registers.md R47: GRADE: temperature grade, 0b01 E, 0b10 I -/
def F.GRADE_TEMP : Field := ⟨25, 0, 2, .ro, 0, .fuse, 1, 0⟩
/-- BOOT_STATUS.DONE [63:63], 08_virelo_exceptions.md R267: A slot passed and its program was entered -/
def F.BOOT_STATUS_DONE : Field := ⟨26, 63, 1, .hw, 0, .every, 1, 0⟩
/-- BOOT_STATUS.FAILED [62:62], 08_virelo_exceptions.md R267: Both slots failed -/
def F.BOOT_STATUS_FAILED : Field := ⟨27, 62, 1, .hw, 0, .every, 1, 0⟩
/-- BOOT_STATUS.SLOT [49:48], 08_virelo_exceptions.md R267: 0b00 slot A, 0b01 slot B, 0b11 none -/
def F.BOOT_STATUS_SLOT : Field := ⟨28, 48, 2, .hw, 3, .every, 1, 0⟩
/-- BOOT_STATUS.CODE_B [15:8], 08_virelo_exceptions.md R267: Result of slot B -/
def F.BOOT_STATUS_CODE_B : Field := ⟨29, 8, 8, .hw, 0, .every, 1, 0⟩
/-- BOOT_STATUS.CODE_A [7:0], 08_virelo_exceptions.md R267: Result of slot A -/
def F.BOOT_STATUS_CODE_A : Field := ⟨30, 0, 8, .hw, 0, .every, 1, 0⟩

/-! ### CLK -/

/-- SPLL_CFG.EN [63:63], 21_clocks.md R643: SPLLn_CFG, n = 0–5: enabled (R631). For n = 5, every field is RO and set by hardware. -/
def F.SPLL_CFG_EN : Field := ⟨31, 63, 1, .rw, 0, .cold, 1, 0⟩
/-- SPLL_CFG.REF [57:56], 21_clocks.md R643: 0 crystal, 1 timebase; SPLL5: 0 crystal, 2 parent lane -/
def F.SPLL_CFG_REF : Field := ⟨32, 56, 2, .rw, 0, .cold, 1, 0⟩
/-- SPLL_CFG.POSTDIV [46:40], 21_clocks.md R643: 1–64 -/
def F.SPLL_CFG_POSTDIV : Field := ⟨33, 40, 7, .rw, 2, .cold, 1, 0⟩
/-- SPLL_CFG.FBDIV [31:24], 21_clocks.md R643: 8–255 -/
def F.SPLL_CFG_FBDIV : Field := ⟨34, 24, 8, .rw, 80, .cold, 1, 0⟩
/-- SPLL_CFG.PREDIV [18:16], 21_clocks.md R643: 1–8 -/
def F.SPLL_CFG_PREDIV : Field := ⟨35, 16, 3, .rw, 1, .cold, 1, 0⟩
/-- SPLL_STATUS.LOCK [63:63], 21_clocks.md R643: SPLLn_STATUS: locked (R630) -/
def F.SPLL_STATUS_LOCK : Field := ⟨36, 63, 1, .hw, 0, .every, 1, 0⟩
/-- SPLL_STATUS.FAIL [62:62], 21_clocks.md R643: Failed and not yet good again -/
def F.SPLL_STATUS_FAIL : Field := ⟨37, 62, 1, .hw, 0, .every, 1, 0⟩
/-- SPLL_STATUS.FREQ_KHZ [31:0], 21_clocks.md R643: Nominal output; 0 while not locked -/
def F.SPLL_STATUS_FREQ_KHZ : Field := ⟨38, 0, 32, .hw, 0, .every, 1, 0⟩
/-- FPLL_CFG.EN [63:63], 21_clocks.md R643: FPLLm_CFG, m = 0–23: enabled (R634) -/
def F.FPLL_CFG_EN : Field := ⟨39, 63, 1, .rw, 0, .cold, 1, 0⟩
/-- FPLL_CFG.REF [57:56], 21_clocks.md R643: 0 crystal, 1 timebase, 2 lane -/
def F.FPLL_CFG_REF : Field := ⟨40, 56, 2, .rw, 0, .cold, 1, 0⟩
/-- FPLL_CFG.LANE [55:48], 21_clocks.md R643: Global lane of a lane reference, 0–191 -/
def F.FPLL_CFG_LANE : Field := ⟨41, 48, 8, .rw, 0, .cold, 1, 0⟩
/-- FPLL_CFG.POSTDIV [46:40], 21_clocks.md R643: As SPLLn_CFG -/
def F.FPLL_CFG_POSTDIV : Field := ⟨42, 40, 7, .rw, 8, .cold, 1, 0⟩
/-- FPLL_CFG.FBDIV [31:24], 21_clocks.md R643: As SPLLn_CFG -/
def F.FPLL_CFG_FBDIV : Field := ⟨43, 24, 8, .rw, 80, .cold, 1, 0⟩
/-- FPLL_CFG.PREDIV [18:16], 21_clocks.md R643: As SPLLn_CFG -/
def F.FPLL_CFG_PREDIV : Field := ⟨44, 16, 3, .rw, 1, .cold, 1, 0⟩
/-- FPLL_CFG.ODIV [11:8], 21_clocks.md R643: Output divider 1–15; 0 means 16 (R631) -/
def F.FPLL_CFG_ODIV : Field := ⟨45, 8, 4, .rw, 1, .cold, 1, 0⟩
/-- FPLL_STATUS.LOCK [63:63], 21_clocks.md R643: locked -/
def F.FPLL_STATUS_LOCK : Field := ⟨46, 63, 1, .hw, 0, .every, 1, 0⟩
/-- FPLL_STATUS.FAIL [62:62], 21_clocks.md R643: failed -/
def F.FPLL_STATUS_FAIL : Field := ⟨47, 62, 1, .hw, 0, .every, 1, 0⟩
/-- FPLL_STATUS.FREQ_KHZ [31:0], 21_clocks.md R643: measured -/
def F.FPLL_STATUS_FREQ_KHZ : Field := ⟨48, 0, 32, .hw, 0, .every, 1, 0⟩
/-- GLINE_CFG.EN [63:63], 21_clocks.md R643: GLINE_CFG(l), l = 24–27: line driven -/
def F.GLINE_CFG_EN : Field := ⟨49, 63, 1, .rw, 0, .cold, 1, 0⟩
/-- GLINE_CFG.SRC [57:56], 21_clocks.md R643: 0 lane, 1 crystal, 2 timebase; 3 acts as 1 -/
def F.GLINE_CFG_SRC : Field := ⟨50, 56, 2, .rw, 0, .cold, 1, 0⟩
/-- GLINE_CFG.LANE [55:48], 21_clocks.md R643: Global lane 0–191 -/
def F.GLINE_CFG_LANE : Field := ⟨51, 48, 8, .rw, 0, .cold, 1, 0⟩
/-- GLINE_CFG.K [2:0], 21_clocks.md R643: Timebase divided by 2^K; 7 acts as 6 -/
def F.GLINE_CFG_K : Field := ⟨52, 0, 3, .rw, 0, .cold, 1, 0⟩
/-- GLINE_FREQ.FREQ_KHZ [31:0], 21_clocks.md R643: GLINE_FREQ(l) (R634) -/
def F.GLINE_FREQ_FREQ_KHZ : Field := ⟨53, 0, 32, .hw, 0, .every, 1, 0⟩
/-- DOM_CTL.ALT_EN [63:63], 21_clocks.md R643: DOMd_CTL: fail over to ALT (R640) -/
def F.DOM_CTL_ALT_EN : Field := ⟨54, 63, 1, .rw, 1, .every, 1, 0⟩
/-- DOM_CTL.ALT [56:56], 21_clocks.md R643: 0 FOSC (FOSC/8 for d = 5), 1 crystal (d = 0–3 only) -/
def F.DOM_CTL_ALT : Field := ⟨55, 56, 1, .rw, 0, .every, 1, 0⟩
/-- DOM_CTL.SRC [49:48], 21_clocks.md R643: 0 own SPLL (crystal for d = 5), 1 FOSC (FOSC/8 for d = 5), 2 crystal (d = 0–3); 3 ignored -/
def F.DOM_CTL_SRC : Field := ⟨56, 48, 2, .rw, 1, .every, 1, 0⟩
/-- DOM_CTL.DDIV [4:0], 21_clocks.md R643: Target divider 1–31; 0 means 32 -/
def F.DOM_CTL_DDIV : Field := ⟨57, 0, 5, .rw, 1, .every, 1, 0⟩
/-- DOM_STATUS.STATE [63:61], 21_clocks.md R643: DOMd_STATUS: 0 RUN, 1 SWITCHING, 2 ALT, 3 WAITING, 4 STOPPED (source disabled, not … -/
def F.DOM_STATUS_STATE : Field := ⟨58, 61, 3, .hw, 0, .every, 1, 0⟩
/-- DOM_STATUS.CUR_SRC [49:48], 21_clocks.md R643: Source in use, coded as SRC; 3 none -/
def F.DOM_STATUS_CUR_SRC : Field := ⟨59, 48, 2, .hw, 1, .every, 1, 0⟩
/-- DOM_STATUS.CUR_DDIV [4:0], 21_clocks.md R643: Divider in use; 0 means 32 -/
def F.DOM_STATUS_CUR_DDIV : Field := ⟨60, 0, 5, .hw, 1, .every, 1, 0⟩
/-- CLK_GOOD.GOOD [35:0], 21_clocks.md R643: CLK_GOOD: [0] crystal, [1] FOSC, [7:2] SPLL0–5, [31:8] FPLL0–23, [35:32] sources of … -/
def F.CLK_GOOD_GOOD : Field := ⟨61, 0, 36, .hw, 0, .every, 1, 0⟩
/-- CLK_FAILEVT.FAIL [35:0], 21_clocks.md R643: CLK_FAILEVT: bit set on each failure, as CLK_GOOD -/
def F.CLK_FAILEVT_FAIL : Field := ⟨62, 0, 36, .w1c, 0, .every, 1, 0⟩
/-- QREF_GOOD.GOOD [47:0], 21_clocks.md R643: QREF_GOOD: bit q, QREFq good -/
def F.QREF_GOOD_GOOD : Field := ⟨63, 0, 48, .hw, 0, .every, 1, 0⟩
/-- QREF_FAILEVT.FAIL [47:0], 21_clocks.md R643: QREF_FAILEVT -/
def F.QREF_FAILEVT_FAIL : Field := ⟨64, 0, 48, .w1c, 0, .every, 1, 0⟩
/-- LINE_FORCED.FORCED [27:0], 21_clocks.md R643: LINE_FORCED: bit l, outputs forced by failure of line l -/
def F.LINE_FORCED_FORCED : Field := ⟨65, 0, 28, .hw, 0, .every, 1, 0⟩
/-- LINE_FORCE_CLR.CLR [27:0], 21_clocks.md R643: LINE_FORCE_CLR: lift the force of line l once the line runs; ignored otherwise -/
def F.LINE_FORCE_CLR_CLR : Field := ⟨66, 0, 28, .wo, 0, .noStore, 1, 0⟩
/-- CLK_ERR.PLLCFG [3:3], 21_clocks.md R643: CLK_ERR: invalid PLL configuration (R631) -/
def F.CLK_ERR_PLLCFG : Field := ⟨67, 3, 1, .w1c, 0, .every, 1, 0⟩
/-- CLK_ERR.SWERR [2:2], 21_clocks.md R643: Write during a switch (R637) -/
def F.CLK_ERR_SWERR : Field := ⟨68, 2, 1, .w1c, 0, .every, 1, 0⟩
/-- CLK_ERR.LINEBUSY [1:1], 21_clocks.md R643: Line change refused (R634) -/
def F.CLK_ERR_LINEBUSY : Field := ⟨69, 1, 1, .w1c, 0, .every, 1, 0⟩
/-- CLK_ERR.MEMBUSY [0:0], 21_clocks.md R643: Memory-domain change refused (R632) -/
def F.CLK_ERR_MEMBUSY : Field := ⟨70, 0, 1, .w1c, 0, .every, 1, 0⟩

/-! ### PWR -/

/-- PWR_MODE.MODE [2:0], 07_virelo_isa.md R235: 0b000 IDLE, 0b001 SLEEP, 0b010 DEEP SLEEP, 0b011 OFF; other values act as IDLE -/
def F.PWR_MODE_MODE : Field := ⟨71, 0, 3, .rw, 0, .every, 1, 0⟩
/-- PWR_STATUS.ABANDONED [63:63], 23_power_reset.md R687: PWR_STATUS: an entry was abandoned (R678) -/
def F.PWR_STATUS_ABANDONED : Field := ⟨72, 63, 1, .w1c, 0, .every, 1, 0⟩
/-- PWR_STATUS.WAKE_SRC [39:32], 23_power_reset.md R687: Last wake event: 1 source, 2 PCI Express, 3 warp packet, 4 Reed symbol, 5 timer, 6 … -/
def F.PWR_STATUS_WAKE_SRC : Field := ⟨73, 32, 8, .hw, 0, .every, 1, 0⟩
/-- PWR_STATUS.LAST [18:16], 23_power_reset.md R687: Deepest state reached since the bits were last read: coded as PWR_MODE.MODE -/
def F.PWR_STATUS_LAST : Field := ⟨74, 16, 3, .hw, 0, .every, 1, 0⟩
/-- PWR_STATUS.BLOCK [7:0], 23_power_reset.md R687: Failing conditions of Table 23.3 -/
def F.PWR_STATUS_BLOCK : Field := ⟨75, 0, 8, .hw, 0, .every, 1, 0⟩
/-- PWR_WAKE_TIME.TIME [63:0], 23_power_reset.md R687: PWR_WAKE_TIME: system time of a timed wake; 0: none -/
def F.PWR_WAKE_TIME_TIME : Field := ⟨76, 0, 64, .rw, 0, .every, 1, 0⟩
/-- PWR_WAKE_GPIO.BANKS [23:0], 23_power_reset.md R687: PWR_WAKE_GPIO: bit b, an enabled input change in bank b wakes the device -/
def F.PWR_WAKE_GPIO_BANKS : Field := ⟨77, 0, 24, .rw, 0, .every, 1, 0⟩
/-- RST_CTL.WARM [8:8], 23_power_reset.md R687: RST_CTL: warm reset, when KEY is 0xA5 in the same write -/
def F.RST_CTL_WARM : Field := ⟨78, 8, 1, .wo, 0, .noStore, 1, 0⟩
/-- RST_CTL.KEY [7:0], 23_power_reset.md R687: Must be 0xA5 -/
def F.RST_CTL_KEY : Field := ⟨79, 0, 8, .wo, 0, .noStore, 1, 0⟩
/-- RST_CAUSE.CAUSE [63:56], 23_power_reset.md R687: RST_CAUSE: 0x01 POR, 0x02 RESETN, 0x03 WARM, 0x04 WATCHDOG, 0x05 REED, 0x06 RAIL, 0x07 … -/
def F.RST_CAUSE_CAUSE : Field := ⟨80, 56, 8, .hw, 1, .cold, 1, 0⟩
/-- RST_CAUSE.COUNT [15:0], 23_power_reset.md R687: Device resets since power-on. Power-on reset sets it to 0 and is not counted. Every … -/
def F.RST_CAUSE_COUNT : Field := ⟨81, 0, 16, .hw, 0, .por, 1, 0⟩
/-- WDT_CFG.EN [63:63], 23_power_reset.md R687: WDT_CFG: watchdog enabled (R689) -/
def F.WDT_CFG_EN : Field := ⟨82, 63, 1, .rw, 0, .cold, 1, 0⟩
/-- WDT_CFG.LOCK [62:62], 23_power_reset.md R687: Writes to WDT_CFG ignored until power-on reset or RESET_N -/
def F.WDT_CFG_LOCK : Field := ⟨83, 62, 1, .w1s, 0, .cold, 1, 0⟩
/-- WDT_CFG.ACTION [49:48], 23_power_reset.md R687: 0 interrupt, 1 warm reset, 2 full reset; 3 acts as 2 -/
def F.WDT_CFG_ACTION : Field := ⟨84, 48, 2, .rw, 1, .cold, 1, 0⟩
/-- WDT_CFG.PERIOD_MS [15:0], 23_power_reset.md R687: Period in ms; 0 acts as 1 -/
def F.WDT_CFG_PERIOD_MS : Field := ⟨85, 0, 16, .rw, 1000, .cold, 1, 0⟩
/-- WDT_KICK.KICK [0:0], 23_power_reset.md R687: WDT_KICK: restart the count -/
def F.WDT_KICK_KICK : Field := ⟨86, 0, 1, .wo, 0, .noStore, 1, 0⟩
/-- WDT_STATUS.STAGE [63:63], 23_power_reset.md R687: WDT_STATUS: the first expiry has passed -/
def F.WDT_STATUS_STAGE : Field := ⟨87, 63, 1, .hw, 0, .every, 1, 0⟩
/-- WDT_STATUS.MS [15:0], 23_power_reset.md R687: Milliseconds counted -/
def F.WDT_STATUS_MS : Field := ⟨88, 0, 16, .hw, 0, .every, 1, 0⟩
/-- PWR_MEAS.VIN_MV [47:32], 23_power_reset.md R687: PWR_MEAS: VIN in mV -/
def F.PWR_MEAS_VIN_MV : Field := ⟨89, 32, 16, .hw, 0, .every, 1, 0⟩
/-- PWR_MEAS.PIN_MW [31:0], 23_power_reset.md R687: Input power in mW, averaged over 10 µs -/
def F.PWR_MEAS_PIN_MW : Field := ⟨90, 0, 32, .hw, 0, .every, 1, 0⟩
/-- PWR_IIN.IIN_CA [15:0], 23_power_reset.md R687: PWR_IIN: input current in units of 10 mA -/
def F.PWR_IIN_IIN_CA : Field := ⟨91, 0, 16, .hw, 0, .every, 1, 0⟩
/-- PWR_LIMIT_MW.LIMIT_MW [31:0], 23_power_reset.md R687: PWR_LIMIT_MW (R667) -/
def F.PWR_LIMIT_MW_LIMIT_MW : Field := ⟨92, 0, 32, .rw, 600000, .cold, 1, 0⟩
/-- PWR_EVT.THERM [3:3], 23_power_reset.md R687: PWR_EVT: junction temperature within 5 °C of the grade maximum -/
def F.PWR_EVT_THERM : Field := ⟨93, 3, 1, .w1c, 0, .every, 1, 0⟩
/-- PWR_EVT.REQERR [2:2], 23_power_reset.md R687: A power request was refused (R671) -/
def F.PWR_EVT_REQERR : Field := ⟨94, 2, 1, .w1c, 0, .every, 1, 0⟩
/-- PWR_EVT.RAIL [1:1], 23_power_reset.md R687: A rail fault (R665) -/
def F.PWR_EVT_RAIL : Field := ⟨95, 1, 1, .w1c, 0, .every, 1, 0⟩
/-- PWR_EVT.LIMIT [0:0], 23_power_reset.md R687: The power limit was exceeded (R667) -/
def F.PWR_EVT_LIMIT : Field := ⟨96, 0, 1, .w1c, 0, .every, 1, 0⟩
/-- PWR_RAIL_LOG.VALID [63:63], 23_power_reset.md R687: PWR_RAIL_LOG: a fault is recorded -/
def F.PWR_RAIL_LOG_VALID : Field := ⟨97, 63, 1, .w1c, 0, .every, 1, 0⟩
/-- PWR_RAIL_LOG.RAIL [15:12], 23_power_reset.md R687: 0 VAON, 1 VSELV, 2 VBAY, 3 VLANE, 4 VDDQ, 5 VGB -/
def F.PWR_RAIL_LOG_RAIL : Field := ⟨98, 12, 4, .hw, 0, .every, 1, 0⟩
/-- PWR_RAIL_LOG.INDEX [9:0], 23_power_reset.md R687: Bay 0–767 for VBAY, bank 0–19 for VGB; 0 for the other rails -/
def F.PWR_RAIL_LOG_INDEX : Field := ⟨99, 0, 10, .hw, 0, .every, 1, 0⟩
/-- PWR_TEMP.TJ [15:0], 23_power_reset.md R687: PWR_TEMP: hottest junction, 1/16 °C, signed -/
def F.PWR_TEMP_TJ : Field := ⟨100, 0, 16, .hw, 0, .every, 1, 0⟩
/-- PWR_GPIO_V.READY [63:63], 23_power_reset.md R687: PWR_GPIO_V(b), b = 0–19: rail good (R666) -/
def F.PWR_GPIO_V_READY : Field := ⟨101, 63, 1, .hw, 0, .every, 1, 0⟩
/-- PWR_GPIO_V.VSEL [2:0], 23_power_reset.md R687: 0 off, 1 1.2 V, 2 1.5 V, 3 1.8 V, 4 3.3 V; 5–7 ignored -/
def F.PWR_GPIO_V_VSEL : Field := ⟨102, 0, 3, .rw, 0, .cold, 1, 0⟩
/-- PWR_CAP_MASK.MASK [63:0], 23_power_reset.md R687: PWR_CAP_MASK(k), k = 0–11: bit j, CAP of bay 64k + j (R674) -/
def F.PWR_CAP_MASK_MASK : Field := ⟨103, 0, 64, .rw, 0, .every, 1, 0⟩
/-- PWR_BAY_V.MAXED [63:63], 23_power_reset.md R687: PWR_BAY_V(i), i = 0–767: held at 0.85 V (R669) -/
def F.PWR_BAY_V_MAXED : Field := ⟨104, 63, 1, .hw, 0, .every, 1, 0⟩
/-- PWR_BAY_V.MV [9:0], 23_power_reset.md R687: Present VBAY in mV; 600 in retention; 0 off -/
def F.PWR_BAY_V_MV : Field := ⟨105, 0, 10, .hw, 800, .every, 1, 0⟩
/-- PWR_BAY_REQ.REQ [1:0] step 2, 23_power_reset.md R687: requested power state of bay 32k + j -/
def F.PWR_BAY_REQ_REQ : Field := ⟨106, 0, 2, .hw, 2, .every, 32, 2⟩
/-- PWR_BAY_STATE.STATE [1:0] step 2, 23_power_reset.md R687: power state of bay 32k + j -/
def F.PWR_BAY_STATE_STATE : Field := ⟨107, 0, 2, .hw, 2, .every, 32, 2⟩

/-! ### IRQ -/

/-- IRQ_SRC.ENABLE [63:63], 22_interrupts.md R662: IRQ_SRC(i), i = 0x000–0x7FF: source enabled -/
def F.IRQ_SRC_ENABLE : Field := ⟨108, 63, 1, .rw, 0, .every, 1, 0⟩
/-- IRQ_SRC.PENDING [62:62], 22_interrupts.md R662: Pending (R651, R654) -/
def F.IRQ_SRC_PENDING : Field := ⟨109, 62, 1, .w1c, 0, .every, 1, 0⟩
/-- IRQ_SRC.SWSET [61:61], 22_interrupts.md R662: Set PENDING (R654) -/
def F.IRQ_SRC_SWSET : Field := ⟨110, 61, 1, .wo, 0, .noStore, 1, 0⟩
/-- IRQ_SRC.ACTIVE [60:60], 22_interrupts.md R662: Claimed and not completed -/
def F.IRQ_SRC_ACTIVE : Field := ⟨111, 60, 1, .hw, 0, .every, 1, 0⟩
/-- IRQ_SRC.LEVEL [59:59], 22_interrupts.md R662: 1: level source (Table 22.1) -/
def F.IRQ_SRC_LEVEL : Field := ⟨112, 59, 1, .ro, 0, .noStore, 1, 0⟩
/-- IRQ_SRC.LINE [58:58], 22_interrupts.md R662: Present value of a level source's line; 0 for an edge source -/
def F.IRQ_SRC_LINE : Field := ⟨113, 58, 1, .ro, 0, .every, 1, 0⟩
/-- IRQ_SRC.MERGED [57:57], 22_interrupts.md R662: Events were merged (R648) -/
def F.IRQ_SRC_MERGED : Field := ⟨114, 57, 1, .w1c, 0, .every, 1, 0⟩
/-- IRQ_SRC.PRIO [51:48], 22_interrupts.md R662: Priority 0–15 -/
def F.IRQ_SRC_PRIO : Field := ⟨115, 48, 4, .rw, 0, .every, 1, 0⟩
/-- IRQ_SRC.KIND [41:40], 22_interrupts.md R662: 0 none, 1 control core, 2 signal core, 3 host vector (R652) -/
def F.IRQ_SRC_KIND : Field := ⟨116, 40, 2, .rw, 0, .every, 1, 0⟩
/-- IRQ_SRC.INDEX [26:16], 22_interrupts.md R662: Core, signal core or vector -/
def F.IRQ_SRC_INDEX : Field := ⟨117, 16, 11, .rw, 0, .every, 1, 0⟩
/-- IRQ_PEND.PEND [63:0], 22_interrupts.md R662: IRQ_PEND(k), k = 0–31: bit j, PENDING of source 64k + j -/
def F.IRQ_PEND_PEND : Field := ⟨118, 0, 64, .ro, 0, .every, 1, 0⟩
/-- IRQ_ACT.ACT [63:0], 22_interrupts.md R662: IRQ_ACT(k): bit j, ACTIVE of source 64k + j -/
def F.IRQ_ACT_ACT : Field := ⟨119, 0, 64, .ro, 0, .every, 1, 0⟩
/-- BAY_PSN_SUM.SUM [63:0], 22_interrupts.md R662: BAY_PSN_SUM(k), k = 0–11: bit j, bay 64k + j (R650) -/
def F.BAY_PSN_SUM_SUM : Field := ⟨120, 0, 64, .w1c, 0, .every, 1, 0⟩
/-- BAY_MCE_SUM.SUM [63:0], 22_interrupts.md R662: BAY_MCE_SUM(k), as BAY_PSN_SUM -/
def F.BAY_MCE_SUM_SUM : Field := ⟨121, 0, 64, .w1c, 0, .every, 1, 0⟩
/-- BAY_MUE_SUM.SUM [63:0], 22_interrupts.md R662: BAY_MUE_SUM(k), as BAY_PSN_SUM -/
def F.BAY_MUE_SUM_SUM : Field := ⟨122, 0, 64, .w1c, 0, .every, 1, 0⟩
/-- IRQ_STATUS.EOIERR [1:1], 22_interrupts.md R662: IRQ_STATUS: a completion was ignored (R656) -/
def F.IRQ_STATUS_EOIERR : Field := ⟨123, 1, 1, .w1c, 0, .every, 1, 0⟩
/-- IRQ_STATUS.TGTERR [0:0], 22_interrupts.md R662: A target or enable write was refused (R652) -/
def F.IRQ_STATUS_TGTERR : Field := ⟨124, 0, 1, .w1c, 0, .every, 1, 0⟩
/-- IRQ_HOST_EOI.SOURCE [10:0], 22_interrupts.md R662: IRQ_HOST_EOI: complete a host-targeted source (R657) -/
def F.IRQ_HOST_EOI_SOURCE : Field := ⟨125, 0, 11, .wo, 0, .noStore, 1, 0⟩
/-- IRQ_CC_THRESH.THRESH [3:0], 22_interrupts.md R662: IRQ_CC_THRESH(c), c = 0–7 (R653) -/
def F.IRQ_CC_THRESH_THRESH : Field := ⟨126, 0, 4, .rw, 0, .every, 1, 0⟩
/-- IRQ_CC_EOI.SOURCE [10:0], 22_interrupts.md R662: IRQ_CC_EOI(c) (R656) -/
def F.IRQ_CC_EOI_SOURCE : Field := ⟨127, 0, 11, .wo, 0, .noStore, 1, 0⟩
/-- IRQ_CC_PRES.VALID [63:63], 22_interrupts.md R662: IRQ_CC_PRES(c): a source is presented -/
def F.IRQ_CC_PRES_VALID : Field := ⟨128, 63, 1, .hw, 0, .every, 1, 0⟩
/-- IRQ_CC_PRES.SOURCE [10:0], 22_interrupts.md R662: The presented source -/
def F.IRQ_CC_PRES_SOURCE : Field := ⟨129, 0, 11, .hw, 0, .every, 1, 0⟩
/-- IRQ_CC_COAL.COUNT [23:16], 22_interrupts.md R662: IRQ_CC_COAL(c) (R659) -/
def F.IRQ_CC_COAL_COUNT : Field := ⟨130, 16, 8, .rw, 0, .every, 1, 0⟩
/-- IRQ_CC_COAL.TIME [15:0], 22_interrupts.md R662: Window limit in 100 ns; 0: none -/
def F.IRQ_CC_COAL_TIME : Field := ⟨131, 0, 16, .rw, 0, .every, 1, 0⟩
/-- IRQ_HOST_COAL.COUNT [23:16], 22_interrupts.md R662: IRQ_HOST_COAL(v), v = 0–2,047 -/
def F.IRQ_HOST_COAL_COUNT : Field := ⟨132, 16, 8, .rw, 0, .every, 1, 0⟩
/-- IRQ_HOST_COAL.TIME [15:0], 22_interrupts.md R662: As IRQ_CC_COAL -/
def F.IRQ_HOST_COAL_TIME : Field := ⟨133, 0, 16, .rw, 0, .every, 1, 0⟩
/-- IRQ_SC_THRESH.THRESH [3:0], 22_interrupts.md R662: as IRQ_CC_THRESH -/
def F.IRQ_SC_THRESH_THRESH : Field := ⟨134, 0, 4, .rw, 0, .every, 1, 0⟩
/-- IRQ_SC_EOI.SOURCE [10:0], 22_interrupts.md R662: as IRQ_CC_EOI -/
def F.IRQ_SC_EOI_SOURCE : Field := ⟨135, 0, 11, .wo, 0, .noStore, 1, 0⟩
/-- IRQ_SC_PRES.VALID [63:63], 22_interrupts.md R662: as IRQ_CC_PRES -/
def F.IRQ_SC_PRES_VALID : Field := ⟨136, 63, 1, .hw, 0, .every, 1, 0⟩
/-- IRQ_SC_PRES.SOURCE [10:0], 22_interrupts.md R662: as IRQ_CC_PRES -/
def F.IRQ_SC_PRES_SOURCE : Field := ⟨137, 0, 11, .hw, 0, .every, 1, 0⟩
/-- IRQ_SC_COAL.COUNT [23:16], 22_interrupts.md R662: as IRQ_CC_COAL -/
def F.IRQ_SC_COAL_COUNT : Field := ⟨138, 16, 8, .rw, 0, .every, 1, 0⟩
/-- IRQ_SC_COAL.TIME [15:0], 22_interrupts.md R662: as IRQ_CC_COAL -/
def F.IRQ_SC_COAL_TIME : Field := ⟨139, 0, 16, .rw, 0, .every, 1, 0⟩

/-! ### CFG -/

/-- CFG_POLICY.DIG_REVOKED [11:8], 06_configuration_plane.md R199: CFG_POLICY: bit k, key digest k revoked -/
def F.CFG_POLICY_DIG_REVOKED : Field := ⟨140, 8, 4, .ro, 0, .fuse, 1, 0⟩
/-- CFG_POLICY.DIG_PRESENT [7:4], 06_configuration_plane.md R199: Bit k: key digest k programmed -/
def F.CFG_POLICY_DIG_PRESENT : Field := ⟨141, 4, 4, .ro, 0, .fuse, 1, 0⟩
/-- CFG_POLICY.REQ_ENC [1:1], 06_configuration_plane.md R199: Encryption required (R182) -/
def F.CFG_POLICY_REQ_ENC : Field := ⟨142, 1, 1, .w1s, 0, .cold, 1, 0⟩
/-- CFG_POLICY.REQ_SIG [0:0], 06_configuration_plane.md R199: Signature required (R182) -/
def F.CFG_POLICY_REQ_SIG : Field := ⟨143, 0, 1, .w1s, 0, .cold, 1, 0⟩
/-- CFG_IKEY.VALID [15:0], 06_configuration_plane.md R199: CFG_IKEY: bit k, slot IKk holds a key -/
def F.CFG_IKEY_VALID : Field := ⟨144, 0, 16, .hw, 0, .every, 1, 0⟩
/-- CFG_LOAD.LOADING [63:63], 06_configuration_plane.md R199: CFG_LOAD: a load is between step 1 and its end -/
def F.CFG_LOAD_LOADING : Field := ⟨145, 63, 1, .hw, 0, .every, 1, 0⟩
/-- CFG_LOAD.CONSUMED [39:0], 06_configuration_plane.md R199: Bytes consumed of the current or last image -/
def F.CFG_LOAD_CONSUMED : Field := ⟨146, 0, 40, .hw, 0, .every, 1, 0⟩
/-- CFG_FAULT.VALID [63:63], 06_configuration_plane.md R199: CFG_FAULT: a fault record is held -/
def F.CFG_FAULT_VALID : Field := ⟨147, 63, 1, .w1c, 0, .every, 1, 0⟩
/-- CFG_FAULT.CODE [55:48], 06_configuration_plane.md R199: Code from Table 6.11 -/
def F.CFG_FAULT_CODE : Field := ⟨148, 48, 8, .hw, 0, .every, 1, 0⟩
/-- CFG_FAULT.OFFSET [39:0], 06_configuration_plane.md R199: Image offset of the unit in which the fault was found, or of the unit holding the … -/
def F.CFG_FAULT_OFFSET : Field := ⟨149, 0, 40, .hw, 0, .every, 1, 0⟩
/-- SCRUB_CTL.CONT [63:63], 11_scrub_capture.md R362: SCRUB_CTL: continuous scrubbing on (R339) -/
def F.SCRUB_CTL_CONT : Field := ⟨150, 63, 1, .hw, 1, .every, 1, 0⟩
/-- SCRUB_CTL.RATE [31:0], 11_scrub_capture.md R362: Scrub rate in MB/s, set only by `LSCRUB` -/
def F.SCRUB_CTL_RATE : Field := ⟨151, 0, 32, .hw, 4000, .every, 1, 0⟩
/-- SCRUB_DEF.UE_ACT [9:8], 11_scrub_capture.md R362: SCRUB_DEF: UE_ACT given to new loads -/
def F.SCRUB_DEF_UE_ACT : Field := ⟨152, 8, 2, .rw, 0, .every, 1, 0⟩
/-- SCRUB_DEF.CE_IRQ [4:4], 11_scrub_capture.md R362: SCRUB_DEF: CE_IRQ given to new loads -/
def F.SCRUB_DEF_CE_IRQ : Field := ⟨153, 4, 1, .rw, 0, .every, 1, 0⟩
/-- SCRUB_STATUS.ONEPASS [63:63], 11_scrub_capture.md R362: SCRUB_STATUS: a MODE 1 pass is running -/
def F.SCRUB_STATUS_ONEPASS : Field := ⟨154, 63, 1, .hw, 0, .every, 1, 0⟩
/-- SCRUB_STATUS.SELV_UE [62:62], 11_scrub_capture.md R362: A selvage frame was classed UE_ESSENTIAL (R350) -/
def F.SCRUB_STATUS_SELV_UE : Field := ⟨155, 62, 1, .w1c, 0, .every, 1, 0⟩
/-- SCRUB_STATUS.SELV [61:61], 11_scrub_capture.md R362: The scrubber is in the selvage frames -/
def F.SCRUB_STATUS_SELV : Field := ⟨156, 61, 1, .hw, 0, .every, 1, 0⟩
/-- SCRUB_STATUS.BAY [41:32], 11_scrub_capture.md R362: Bay being scrubbed -/
def F.SCRUB_STATUS_BAY : Field := ⟨157, 32, 10, .hw, 0, .every, 1, 0⟩
/-- SCRUB_STATUS.FRAME [15:0], 11_scrub_capture.md R362: Frame being scrubbed -/
def F.SCRUB_STATUS_FRAME : Field := ⟨158, 0, 16, .hw, 0, .every, 1, 0⟩
/-- SCRUB_PASS.PASSES [63:32], 11_scrub_capture.md R362: SCRUB_PASS: continuous passes completed, wrapping -/
def F.SCRUB_PASS_PASSES : Field := ⟨159, 32, 32, .hw, 0, .every, 1, 0⟩
/-- SCRUB_PASS.LAST_US [31:0], 11_scrub_capture.md R362: Duration of the last complete continuous pass, µs -/
def F.SCRUB_PASS_LAST_US : Field := ⟨160, 0, 32, .hw, 0, .every, 1, 0⟩
/-- SCRUB_CNT0.CE_ESS [63:32], 11_scrub_capture.md R362: SCRUB_CNT0: class 1 words, saturating (R44). Software may write it (counter rule, R55). -/
def F.SCRUB_CNT0_CE_ESS : Field := ⟨161, 32, 32, .hw, 0, .every, 1, 0⟩
/-- SCRUB_CNT0.CE_BEN [31:0], 11_scrub_capture.md R362: Class 0 words, as CE_ESS -/
def F.SCRUB_CNT0_CE_BEN : Field := ⟨162, 0, 32, .hw, 0, .every, 1, 0⟩
/-- SCRUB_CNT1.UE_ESS [63:32], 11_scrub_capture.md R362: SCRUB_CNT1: class 3 words, as CE_ESS -/
def F.SCRUB_CNT1_UE_ESS : Field := ⟨163, 32, 32, .hw, 0, .every, 1, 0⟩
/-- SCRUB_CNT1.UE_BEN [31:0], 11_scrub_capture.md R362: Class 2 words, as CE_ESS -/
def F.SCRUB_CNT1_UE_BEN : Field := ⟨164, 0, 32, .hw, 0, .every, 1, 0⟩
/-- SCRUB_CNT2.MAPERR [31:0], 11_scrub_capture.md R362: SCRUB_CNT2: class 4 words, as CE_ESS -/
def F.SCRUB_CNT2_MAPERR : Field := ⟨165, 0, 32, .hw, 0, .every, 1, 0⟩
/-- SCRUB_LOG.VALID [63:63], 11_scrub_capture.md R362: SCRUB_LOG: a record is held -/
def F.SCRUB_LOG_VALID : Field := ⟨166, 63, 1, .w1c, 0, .every, 1, 0⟩
/-- SCRUB_LOG.CLASS [62:60], 11_scrub_capture.md R362: Code from Table 11.1 -/
def F.SCRUB_LOG_CLASS : Field := ⟨167, 60, 3, .hw, 0, .every, 1, 0⟩
/-- SCRUB_LOG.PATH [59:58], 11_scrub_capture.md R362: 0b00 scrubber, 0b01 `LREAD`, 0b10 migration copy, 0b11 reserved -/
def F.SCRUB_LOG_PATH : Field := ⟨168, 58, 2, .hw, 0, .every, 1, 0⟩
/-- SCRUB_LOG.SELVAGE [57:57], 11_scrub_capture.md R362: The frame is a selvage frame -/
def F.SCRUB_LOG_SELVAGE : Field := ⟨169, 57, 1, .hw, 0, .every, 1, 0⟩
/-- SCRUB_LOG.FRAME [47:32], 11_scrub_capture.md R362: Frame number -/
def F.SCRUB_LOG_FRAME : Field := ⟨170, 32, 16, .hw, 0, .every, 1, 0⟩
/-- SCRUB_LOG.BAY [25:16], 11_scrub_capture.md R362: Linear bay index; 0 for the selvage -/
def F.SCRUB_LOG_BAY : Field := ⟨171, 16, 10, .hw, 0, .every, 1, 0⟩
/-- SCRUB_LOG.WORD [12:8], 11_scrub_capture.md R362: Word 0–31 -/
def F.SCRUB_LOG_WORD : Field := ⟨172, 8, 5, .hw, 0, .every, 1, 0⟩
/-- SCRUB_LOG.BIT [6:0], 11_scrub_capture.md R362: 0–63 data bit, 64–71 check bit, 0x7E CRC field, 0x7F not located -/
def F.SCRUB_LOG_BIT : Field := ⟨173, 0, 7, .hw, 0, .every, 1, 0⟩

/-! ### HD -/

/-- HD_WEIGHT.W_EDGE [39:32], 10_heddle_placement.md R335: HD_WEIGHT: weight of E (R307) -/
def F.HD_WEIGHT_W_EDGE : Field := ⟨174, 32, 8, .rws, 2, .every, 1, 0⟩
/-- HD_WEIGHT.W_DIST [31:24], 10_heddle_placement.md R335: Weight of D -/
def F.HD_WEIGHT_W_DIST : Field := ⟨175, 24, 8, .rws, 4, .every, 1, 0⟩
/-- HD_WEIGHT.W_POWER [23:16], 10_heddle_placement.md R335: Weight of P -/
def F.HD_WEIGHT_W_POWER : Field := ⟨176, 16, 8, .rws, 8, .every, 1, 0⟩
/-- HD_WEIGHT.W_WEAR [15:8], 10_heddle_placement.md R335: Weight of V -/
def F.HD_WEIGHT_W_WEAR : Field := ⟨177, 8, 8, .rws, 1, .every, 1, 0⟩
/-- HD_WEIGHT.W_HEALTH [7:0], 10_heddle_placement.md R335: Weight of H -/
def F.HD_WEIGHT_W_HEALTH : Field := ⟨178, 0, 8, .rws, 64, .every, 1, 0⟩
/-- HD_SWEIGHT.W_FILL [15:8], 10_heddle_placement.md R335: HD_SWEIGHT: weight of F (R322) -/
def F.HD_SWEIGHT_W_FILL : Field := ⟨179, 8, 8, .rws, 1, .every, 1, 0⟩
/-- HD_SWEIGHT.W_SDIST [7:0], 10_heddle_placement.md R335: Weight of spool distance -/
def F.HD_SWEIGHT_W_SDIST : Field := ⟨180, 0, 8, .rws, 4, .every, 1, 0⟩
/-- HD_STATUS.CONDEMN [63:63], 10_heddle_placement.md R335: HD_STATUS: an occupied bay became UNUSABLE (R317) -/
def F.HD_STATUS_CONDEMN : Field := ⟨181, 63, 1, .w1c, 0, .every, 1, 0⟩
/-- HD_STATUS.POOLERR [62:62], 10_heddle_placement.md R335: A pool enable was refused (R320) -/
def F.HD_STATUS_POOLERR : Field := ⟨182, 62, 1, .w1c, 0, .every, 1, 0⟩
/-- HD_STATUS.MOVELATE [61:61], 10_heddle_placement.md R335: A spool-move commit missed its pick (R329) -/
def F.HD_STATUS_MOVELATE : Field := ⟨183, 61, 1, .w1c, 0, .every, 1, 0⟩
/-- HD_STATUS.CINST [47:32], 10_heddle_placement.md R335: Instance of the first condemned bay since CONDEMN was cleared -/
def F.HD_STATUS_CINST : Field := ⟨184, 32, 16, .hw, 0, .every, 1, 0⟩
/-- HD_STATUS.CCOUNT [31:16], 10_heddle_placement.md R335: Condemned-bay events, saturating (R44). Software may write it (counter rule, R55). -/
def F.HD_STATUS_CCOUNT : Field := ⟨185, 16, 16, .hw, 0, .every, 1, 0⟩
/-- HD_STATUS.SPOOLS [11:0], 10_heddle_placement.md R335: Live spools -/
def F.HD_STATUS_SPOOLS : Field := ⟨186, 0, 12, .hw, 0, .every, 1, 0⟩
/-- HD_INST_SEL.INSTANCE [15:0], 10_heddle_placement.md R335: HD_INST_SEL -/
def F.HD_INST_SEL_INSTANCE : Field := ⟨187, 0, 16, .rw, 0, .every, 1, 0⟩
/-- HD_INST.VALID [63:63], 10_heddle_placement.md R335: HD_INST: the instance exists -/
def F.HD_INST_VALID : Field := ⟨188, 63, 1, .hw, 0, .every, 1, 0⟩
/-- HD_INST.PRIORITY [58:56], 10_heddle_placement.md R335: Priority (R314) -/
def F.HD_INST_PRIORITY : Field := ⟨189, 56, 3, .hw, 0, .every, 1, 0⟩
/-- HD_INST.STATE [55:53], 10_heddle_placement.md R335: OSTATE of its bays (Table 10.2) -/
def F.HD_INST_STATE : Field := ⟨190, 53, 3, .hw, 0, .every, 1, 0⟩
/-- HD_INST.ANCHORED [52:52], 10_heddle_placement.md R335: The image declares anchors -/
def F.HD_INST_ANCHORED : Field := ⟨191, 52, 1, .hw, 0, .every, 1, 0⟩
/-- HD_INST.ADJ [51:51], 10_heddle_placement.md R335: Linked to another instance (R313) -/
def F.HD_INST_ADJ : Field := ⟨192, 51, 1, .hw, 0, .every, 1, 0⟩
/-- HD_INST.ORG_R [44:40], 10_heddle_placement.md R335: Origin row -/
def F.HD_INST_ORG_R : Field := ⟨193, 40, 5, .hw, 0, .every, 1, 0⟩
/-- HD_INST.ORG_C [36:32], 10_heddle_placement.md R335: Origin column -/
def F.HD_INST_ORG_C : Field := ⟨194, 32, 5, .hw, 0, .every, 1, 0⟩
/-- HD_INST.HEIGHT [29:24], 10_heddle_placement.md R335: h -/
def F.HD_INST_HEIGHT : Field := ⟨195, 24, 6, .hw, 0, .every, 1, 0⟩
/-- HD_INST.WIDTH [20:16], 10_heddle_placement.md R335: w -/
def F.HD_INST_WIDTH : Field := ⟨196, 16, 5, .hw, 0, .every, 1, 0⟩
/-- HD_INST.NSPOOL [7:0], 10_heddle_placement.md R335: Spools mapped, NEW and SHARE -/
def F.HD_INST_NSPOOL : Field := ⟨197, 0, 8, .hw, 0, .every, 1, 0⟩
/-- HD_SPOOL_SEL.SPOOL_ID [11:0], 10_heddle_placement.md R335: HD_SPOOL_SEL -/
def F.HD_SPOOL_SEL_SPOOL_ID : Field := ⟨198, 0, 12, .rw, 0, .every, 1, 0⟩
/-- HD_SPOOL0.VALID [63:63], 10_heddle_placement.md R335: HD_SPOOL0: the spool is live -/
def F.HD_SPOOL0_VALID : Field := ⟨199, 63, 1, .hw, 0, .every, 1, 0⟩
/-- HD_SPOOL0.DRAM [62:62], 10_heddle_placement.md R335: 1: DRAM; 0: scratchpad -/
def F.HD_SPOOL0_DRAM : Field := ⟨200, 62, 1, .hw, 0, .every, 1, 0⟩
/-- HD_SPOOL0.POOL [60:56], 10_heddle_placement.md R335: Pool holding it -/
def F.HD_SPOOL0_POOL : Field := ⟨201, 56, 5, .hw, 0, .every, 1, 0⟩
/-- HD_SPOOL0.OWNER [47:32], 10_heddle_placement.md R335: Creating instance -/
def F.HD_SPOOL0_OWNER : Field := ⟨202, 32, 16, .hw, 0, .every, 1, 0⟩
/-- HD_SPOOL0.REFS [15:0], 10_heddle_placement.md R335: Reference count (R323) -/
def F.HD_SPOOL0_REFS : Field := ⟨203, 0, 16, .hw, 0, .every, 1, 0⟩
/-- HD_SPOOL1.BASE [51:12], 10_heddle_placement.md R335: HD_SPOOL1: base as in Table 10.8 -/
def F.HD_SPOOL1_BASE : Field := ⟨204, 12, 40, .hw, 0, .every, 1, 0⟩
/-- HD_SPOOL2.SIZE [31:0], 10_heddle_placement.md R335: HD_SPOOL2: granules -/
def F.HD_SPOOL2_SIZE : Field := ⟨205, 0, 32, .hw, 0, .every, 1, 0⟩
/-- HD_MOVE_CTL.GO [63:63], 10_heddle_placement.md R335: HD_MOVE_CTL: reserve (R328) -/
def F.HD_MOVE_CTL_GO : Field := ⟨206, 63, 1, .w1s, 0, .every, 1, 0⟩
/-- HD_MOVE_CTL.COMMIT [62:62], 10_heddle_placement.md R335: Commit (R329) -/
def F.HD_MOVE_CTL_COMMIT : Field := ⟨207, 62, 1, .w1s, 0, .every, 1, 0⟩
/-- HD_MOVE_CTL.CANCEL [61:61], 10_heddle_placement.md R335: Release the reservation -/
def F.HD_MOVE_CTL_CANCEL : Field := ⟨208, 61, 1, .wo, 0, .noStore, 1, 0⟩
/-- HD_MOVE_CTL.ATPICK [60:60], 10_heddle_placement.md R335: Commit at HD_MOVE_PICK -/
def F.HD_MOVE_CTL_ATPICK : Field := ⟨209, 60, 1, .rw, 0, .every, 1, 0⟩
/-- HD_MOVE_CTL.STATE [57:56], 10_heddle_placement.md R335: 0 IDLE, 1 RESERVED, 2 COMMITTING, 3 FAILED -/
def F.HD_MOVE_CTL_STATE : Field := ⟨210, 56, 2, .hw, 0, .every, 1, 0⟩
/-- HD_MOVE_CTL.POOL [52:48], 10_heddle_placement.md R335: Destination pool -/
def F.HD_MOVE_CTL_POOL : Field := ⟨211, 48, 5, .rw, 0, .every, 1, 0⟩
/-- HD_MOVE_CTL.SPOOL_ID [11:0], 10_heddle_placement.md R335: Spool to move -/
def F.HD_MOVE_CTL_SPOOL_ID : Field := ⟨212, 0, 12, .rw, 0, .every, 1, 0⟩
/-- HD_MOVE_PICK.PICK [63:0], 10_heddle_placement.md R335: HD_MOVE_PICK -/
def F.HD_MOVE_PICK_PICK : Field := ⟨213, 0, 64, .rw, 0, .every, 1, 0⟩
/-- HD_MOVE_BASE.BASE [51:12], 10_heddle_placement.md R335: HD_MOVE_BASE: reserved extent -/
def F.HD_MOVE_BASE_BASE : Field := ⟨214, 12, 40, .hw, 0, .every, 1, 0⟩
/-- HD_NOFIT_ORG.VALID [63:63], 10_heddle_placement.md R335: HD_NOFIT_ORGn, core n = 0–7: suggestion held (R316) -/
def F.HD_NOFIT_ORG_VALID : Field := ⟨215, 63, 1, .w1c, 0, .every, 1, 0⟩
/-- HD_NOFIT_ORG.ORG_R [44:40], 10_heddle_placement.md R335: Suggested origin row -/
def F.HD_NOFIT_ORG_ORG_R : Field := ⟨216, 40, 5, .hw, 0, .every, 1, 0⟩
/-- HD_NOFIT_ORG.ORG_C [36:32], 10_heddle_placement.md R335: Suggested origin column -/
def F.HD_NOFIT_ORG_ORG_C : Field := ⟨217, 32, 5, .hw, 0, .every, 1, 0⟩
/-- HD_NOFIT_ORG.COUNT [2:0], 10_heddle_placement.md R335: Instances to evict, 1–4 -/
def F.HD_NOFIT_ORG_COUNT : Field := ⟨218, 0, 3, .hw, 0, .every, 1, 0⟩
/-- HD_NOFIT_VICT.VICT [15:0] step 16, 10_heddle_placement.md R335: suggested victims -/
def F.HD_NOFIT_VICT_VICT : Field := ⟨219, 0, 16, .hw, 0, .every, 4, 16⟩
/-- HD_POOL_CTL.EN [63:63], 10_heddle_placement.md R335: HD_POOLp_CTL, p = 0–31: pool enabled (R320) -/
def F.HD_POOL_CTL_EN : Field := ⟨220, 63, 1, .rw, 0, .every, 1, 0⟩
/-- HD_POOL_CTL.DRAM [62:62], 10_heddle_placement.md R335: 1: memory port; 0: scratchpad bank -/
def F.HD_POOL_CTL_DRAM : Field := ⟨221, 62, 1, .rw, 0, .every, 1, 0⟩
/-- HD_POOL_CTL.UNIT [53:48], 10_heddle_placement.md R335: Bank 0–63 or port 0–15 -/
def F.HD_POOL_CTL_UNIT : Field := ⟨222, 48, 6, .rw, 0, .every, 1, 0⟩
/-- HD_POOL_CTL.KEYID [45:40], 10_heddle_placement.md R335: Key ID of a DRAM pool -/
def F.HD_POOL_CTL_KEYID : Field := ⟨223, 40, 6, .rw, 0, .every, 1, 0⟩
/-- HD_POOL_CTL.USED [31:0], 10_heddle_placement.md R335: Granules allocated -/
def F.HD_POOL_CTL_USED : Field := ⟨224, 0, 32, .hw, 0, .every, 1, 0⟩
/-- HD_POOL_BASE.BASE [51:12], 10_heddle_placement.md R335: HD_POOLp_BASE: first granule -/
def F.HD_POOL_BASE_BASE : Field := ⟨225, 12, 40, .rw, 0, .every, 1, 0⟩
/-- HD_POOL_LAST.LAST [51:12], 10_heddle_placement.md R335: HD_POOLp_LAST: last granule -/
def F.HD_POOL_LAST_LAST : Field := ⟨226, 12, 40, .rw, 0, .every, 1, 0⟩
/-- HD_MAP.OWNER [63:48], 10_heddle_placement.md R335: HD_MAP(i), bay i = 0–767 (Table 10.1) -/
def F.HD_MAP_OWNER : Field := ⟨227, 48, 16, .hw, 0, .every, 1, 0⟩
/-- HD_MAP.OSTATE [42:40], 10_heddle_placement.md R335: Table 10.2 -/
def F.HD_MAP_OSTATE : Field := ⟨228, 40, 3, .hw, 0, .every, 1, 0⟩
/-- HD_MAP.HSTATE [33:32], 10_heddle_placement.md R335: R303 -/
def F.HD_MAP_HSTATE : Field := ⟨229, 32, 2, .hw, 0, .every, 1, 0⟩
/-- HD_MAP.WEAR [23:16], 10_heddle_placement.md R335: R303 -/
def F.HD_MAP_WEAR : Field := ⟨230, 16, 8, .hw, 0, .every, 1, 0⟩
/-- HD_MAP.PSTATE [9:8], 10_heddle_placement.md R335: R303 -/
def F.HD_MAP_PSTATE : Field := ⟨231, 8, 2, .hw, 2, .every, 1, 0⟩
/-- HD_MAP.CAP [4:4], 10_heddle_placement.md R335: R303 -/
def F.HD_MAP_CAP : Field := ⟨232, 4, 1, .hw, 0, .every, 1, 0⟩

/-! ### MPE -/

/-- MPE_CTL.NOREG_IRQ [0:0], 16_memory_encryption.md R514: MPE_CTL: interrupt on alarms outside regions -/
def F.MPE_CTL_NOREG_IRQ : Field := ⟨233, 0, 1, .rw, 0, .cold, 1, 0⟩
/-- MPE_KEY.LOADED [63:1], 16_memory_encryption.md R514: MPE_KEY: bit k, slot k holds a key -/
def F.MPE_KEY_LOADED : Field := ⟨234, 1, 63, .hw, 0, .cold, 1, 0⟩
/-- MPE_STATUS.DESCERR [63:63], 16_memory_encryption.md R514: MPE_STATUS: a descriptor write was refused -/
def F.MPE_STATUS_DESCERR : Field := ⟨235, 63, 1, .w1c, 0, .every, 1, 0⟩
/-- MPE_STATUS.DESCCODE [55:48], 16_memory_encryption.md R514: Table 16.1 -/
def F.MPE_STATUS_DESCCODE : Field := ⟨236, 48, 8, .hw, 0, .every, 1, 0⟩
/-- MPE_STATUS.DESCREG [36:32], 16_memory_encryption.md R514: Region of the refused write -/
def F.MPE_STATUS_DESCREG : Field := ⟨237, 32, 5, .hw, 0, .every, 1, 0⟩
/-- MPE_ALARM_LOG.VALID [63:63], 16_memory_encryption.md R514: MPE_ALARM_LOG: a record is held -/
def F.MPE_ALARM_LOG_VALID : Field := ⟨238, 63, 1, .w1c, 0, .every, 1, 0⟩
/-- MPE_ALARM_LOG.NOREG [60:60], 16_memory_encryption.md R514: The alarm involved no region -/
def F.MPE_ALARM_LOG_NOREG : Field := ⟨239, 60, 1, .hw, 0, .every, 1, 0⟩
/-- MPE_ALARM_LOG.CAUSE [59:56], 16_memory_encryption.md R514: Table 16.7 -/
def F.MPE_ALARM_LOG_CAUSE : Field := ⟨240, 56, 4, .hw, 0, .every, 1, 0⟩
/-- MPE_ALARM_LOG.REGION [52:48], 16_memory_encryption.md R514: Region -/
def F.MPE_ALARM_LOG_REGION : Field := ⟨241, 48, 5, .hw, 0, .every, 1, 0⟩
/-- MPE_ALARM_LOG.SRCDEV [44:36], 16_memory_encryption.md R514: Device of the initiator -/
def F.MPE_ALARM_LOG_SRCDEV : Field := ⟨242, 36, 9, .hw, 0, .every, 1, 0⟩
/-- MPE_ALARM_LOG.INIT [35:24], 16_memory_encryption.md R514: Initiator; 0 for CTRMAX -/
def F.MPE_ALARM_LOG_INIT : Field := ⟨243, 24, 12, .hw, 0, .every, 1, 0⟩
/-- MPE_ALARM_ADDR.ADDR [51:0], 16_memory_encryption.md R514: MPE_ALARM_ADDR: local address of the request or entry -/
def F.MPE_ALARM_ADDR_ADDR : Field := ⟨244, 0, 52, .hw, 0, .every, 1, 0⟩
/-- MPE_ALARM_CNT.COUNT [31:0], 16_memory_encryption.md R514: MPE_ALARM_CNT, saturating (R44). Software may write it (counter rule, R55). -/
def F.MPE_ALARM_CNT_COUNT : Field := ⟨245, 0, 32, .hw, 0, .every, 1, 0⟩
/-- MPE_BLOCK_CNT.COUNT [31:0], 16_memory_encryption.md R514: MPE_BLOCK_CNT, as MPE_ALARM_CNT -/
def F.MPE_BLOCK_CNT_COUNT : Field := ⟨246, 0, 32, .hw, 0, .every, 1, 0⟩
/-- MPE_BLOCK_LOG.VALID [63:63], 16_memory_encryption.md R514: MPE_BLOCK_LOG: a record is held -/
def F.MPE_BLOCK_LOG_VALID : Field := ⟨247, 63, 1, .w1c, 0, .every, 1, 0⟩
/-- MPE_BLOCK_LOG.REGION [52:48], 16_memory_encryption.md R514: Region -/
def F.MPE_BLOCK_LOG_REGION : Field := ⟨248, 48, 5, .hw, 0, .every, 1, 0⟩
/-- MPE_BLOCK_LOG.SRCDEV [44:36], 16_memory_encryption.md R514: Device of the initiator -/
def F.MPE_BLOCK_LOG_SRCDEV : Field := ⟨249, 36, 9, .hw, 0, .every, 1, 0⟩
/-- MPE_BLOCK_LOG.INIT [35:24], 16_memory_encryption.md R514: Initiator refused -/
def F.MPE_BLOCK_LOG_INIT : Field := ⟨250, 24, 12, .hw, 0, .every, 1, 0⟩
/-- MPR_CTL.VALID [63:63], 16_memory_encryption.md R514: MPR_CTL: region valid. Software writes it as R479 and R482 give. -/
def F.MPR_CTL_VALID : Field := ⟨251, 63, 1, .hw, 0, .cold, 1, 0⟩
/-- MPR_CTL.ROT_START [62:62], 16_memory_encryption.md R514: Start a rotation (R502) -/
def F.MPR_CTL_ROT_START : Field := ⟨252, 62, 1, .wo, 0, .noStore, 1, 0⟩
/-- MPR_CTL.UNFREEZE [61:61], 16_memory_encryption.md R514: Leave FROZEN (R508) -/
def F.MPR_CTL_UNFREEZE : Field := ⟨253, 61, 1, .wo, 0, .noStore, 1, 0⟩
/-- MPR_CTL.STATE [58:56], 16_memory_encryption.md R514: 0 OFF, 1 ACTIVE, 2 ROTATING, 3 FROZEN, 4 ZEROISED, 5 LOST -/
def F.MPR_CTL_STATE : Field := ⟨254, 56, 3, .hw, 0, .cold, 1, 0⟩
/-- MPR_CTL.EPOCH [55:55], 16_memory_encryption.md R514: Epoch of SLOT_CUR (R501) -/
def F.MPR_CTL_EPOCH : Field := ⟨255, 55, 1, .hw, 0, .cold, 1, 0⟩
/-- MPR_CTL.SLOT_NEW [53:48], 16_memory_encryption.md R514: Rotation slot; writes ignored while ROTATING -/
def F.MPR_CTL_SLOT_NEW : Field := ⟨256, 48, 6, .rw, 0, .cold, 1, 0⟩
/-- MPR_CTL.SLOT_CUR [45:40], 16_memory_encryption.md R514: Current slot. Software may write it while VALID is 0. -/
def F.MPR_CTL_SLOT_CUR : Field := ⟨257, 40, 6, .hw, 0, .cold, 1, 0⟩
/-- MPR_CTL.KEYID [37:32], 16_memory_encryption.md R514: Key ID of the region's requests; writes ignored while VALID -/
def F.MPR_CTL_KEYID : Field := ⟨258, 32, 6, .rw, 0, .cold, 1, 0⟩
/-- MPR_CTL.LOG2SIZE [29:24], 16_memory_encryption.md R514: s; writes ignored while VALID -/
def F.MPR_CTL_LOG2SIZE : Field := ⟨259, 24, 6, .rw, 0, .cold, 1, 0⟩
/-- MPR_CTL.PORT [19:16], 16_memory_encryption.md R514: Memory port; writes ignored while VALID -/
def F.MPR_CTL_PORT : Field := ⟨260, 16, 4, .rw, 0, .cold, 1, 0⟩
/-- MPR_CTL.ALARM_ACT [9:8], 16_memory_encryption.md R514: Table 16.8 -/
def F.MPR_CTL_ALARM_ACT : Field := ⟨261, 8, 2, .rw, 1, .cold, 1, 0⟩
/-- MPR_CTL.DBGVIEW [4:4], 16_memory_encryption.md R514: 0 BLOCKED, 1 MEDIATED (R506) -/
def F.MPR_CTL_DBGVIEW : Field := ⟨262, 4, 1, .rw, 0, .cold, 1, 0⟩
/-- MPR_BASE.BASE [40:21], 16_memory_encryption.md R514: MPR_BASE: data range port offset; writes ignored while VALID -/
def F.MPR_BASE_BASE : Field := ⟨263, 21, 20, .rw, 0, .cold, 1, 0⟩
/-- MPR_META.META [40:19], 16_memory_encryption.md R514: MPR_META: metadata range port offset; writes ignored while VALID -/
def F.MPR_META_META : Field := ⟨264, 19, 22, .rw, 0, .cold, 1, 0⟩
/-- MPR_RIGHTS.DBG_W [3:3], 16_memory_encryption.md R514: MPR_RIGHTS: debug writes permitted -/
def F.MPR_RIGHTS_DBG_W : Field := ⟨265, 3, 1, .rw, 0, .cold, 1, 0⟩
/-- MPR_RIGHTS.DBG_R [2:2], 16_memory_encryption.md R514: Debug reads permitted -/
def F.MPR_RIGHTS_DBG_R : Field := ⟨266, 2, 1, .rw, 0, .cold, 1, 0⟩
/-- MPR_RIGHTS.BAR_W [1:1], 16_memory_encryption.md R514: BAR writes permitted -/
def F.MPR_RIGHTS_BAR_W : Field := ⟨267, 1, 1, .rw, 0, .cold, 1, 0⟩
/-- MPR_RIGHTS.BAR_R [0:0], 16_memory_encryption.md R514: BAR reads permitted -/
def F.MPR_RIGHTS_BAR_R : Field := ⟨268, 0, 1, .rw, 0, .cold, 1, 0⟩
/-- MPR_DMA_R.DMA_R [63:0], 16_memory_encryption.md R514: MPR_DMA_R: bit q, queue pair q may read -/
def F.MPR_DMA_R_DMA_R : Field := ⟨269, 0, 64, .rw, 0, .cold, 1, 0⟩
/-- MPR_DMA_W.DMA_W [63:0], 16_memory_encryption.md R514: MPR_DMA_W: bit q, queue pair q may write -/
def F.MPR_DMA_W_DMA_W : Field := ⟨270, 0, 64, .rw, 0, .cold, 1, 0⟩
/-- MPR_ROT.ROT_GAP [63:48], 16_memory_encryption.md R514: MPR_ROT: ns between sweep re-encryptions -/
def F.MPR_ROT_ROT_GAP : Field := ⟨271, 48, 16, .rw, 16000, .cold, 1, 0⟩
/-- MPR_ROT.WMARK [28:0], 16_memory_encryption.md R514: Next leaf of the sweep (R503) -/
def F.MPR_ROT_WMARK : Field := ⟨272, 0, 29, .hw, 0, .cold, 1, 0⟩
/-- MPR_STAT.ALARMS [63:32], 16_memory_encryption.md R514: MPR_STAT: alarms of the region, as MPE_ALARM_CNT -/
def F.MPR_STAT_ALARMS : Field := ⟨273, 32, 32, .hw, 0, .every, 1, 0⟩
/-- MPR_STAT.REENC [31:0], 16_memory_encryption.md R514: Page re-encryptions, as MPE_ALARM_CNT -/
def F.MPR_STAT_REENC : Field := ⟨274, 0, 32, .hw, 0, .every, 1, 0⟩

/-! ### NOC -/

/-- NOC_LATE.COUNT [31:0], 14_noc.md R429: NOC_LATE: discarded responses (R424), saturating (R44). Software may write it (counter … -/
def F.NOC_LATE_COUNT : Field := ⟨275, 0, 32, .hw, 0, .every, 1, 0⟩
/-- NOC_TOLOG.VALID [63:63], 14_noc.md R429: NOC_TOLOG: a TIMEOUT is recorded -/
def F.NOC_TOLOG_VALID : Field := ⟨276, 63, 1, .w1c, 0, .every, 1, 0⟩
/-- NOC_TOLOG.INIT [59:48], 14_noc.md R429: Initiator of the first TIMEOUT since VALID was cleared -/
def F.NOC_TOLOG_INIT : Field := ⟨277, 48, 12, .hw, 0, .every, 1, 0⟩
/-- NOC_TOLOG.TAG [47:40], 14_noc.md R429: Its tag -/
def F.NOC_TOLOG_TAG : Field := ⟨278, 40, 8, .hw, 0, .every, 1, 0⟩
/-- NOC_TOLOG.COUNT [31:0], 14_noc.md R429: TIMEOUTs synthesised, saturating. Software may write it (counter rule). -/
def F.NOC_TOLOG_COUNT : Field := ⟨279, 0, 32, .hw, 0, .every, 1, 0⟩
/-- NOC_TOADDR.ADDR [51:0], 14_noc.md R429: NOC_TOADDR: address of the recorded request -/
def F.NOC_TOADDR_ADDR : Field := ⟨280, 0, 52, .hw, 0, .every, 1, 0⟩
/-- TRACE_BASE.BASE [51:6], 14_noc.md R429: TRACE_BASE: scratchpad address, aligned to 2^SIZE -/
def F.TRACE_BASE_BASE : Field := ⟨281, 6, 46, .rw, 0, .every, 1, 0⟩
/-- TRACE_CFG.STOP [8:8], 14_noc.md R429: TRACE_CFG: stop when full (R429) -/
def F.TRACE_CFG_STOP : Field := ⟨282, 8, 1, .rw, 0, .every, 1, 0⟩
/-- TRACE_CFG.SIZE [4:0], 14_noc.md R429: Ring of 2^SIZE bytes, 12–21; other values act as 12 -/
def F.TRACE_CFG_SIZE : Field := ⟨283, 0, 5, .rw, 12, .every, 1, 0⟩
/-- TRACE_WP.WP [20:0], 14_noc.md R429: TRACE_WP: next write offset. Software may write it (R429). -/
def F.TRACE_WP_WP : Field := ⟨284, 0, 21, .hw, 0, .every, 1, 0⟩
/-- TRACE_RP.RP [20:0], 14_noc.md R429: TRACE_RP: offset software has read up to -/
def F.TRACE_RP_RP : Field := ⟨285, 0, 21, .rw, 0, .every, 1, 0⟩
/-- TRACE_DROP.COUNT [31:0], 14_noc.md R429: TRACE_DROP: records lost, saturating. Software may write it (counter rule). -/
def F.TRACE_DROP_COUNT : Field := ⟨286, 0, 32, .hw, 0, .every, 1, 0⟩
/-- PROBE_CTL.EN [63:63], 14_noc.md R429: PROBE_CTL, probe p = 0–31: probe enabled (R427) -/
def F.PROBE_CTL_EN : Field := ⟨287, 63, 1, .rws, 0, .every, 1, 0⟩
/-- PROBE_CTL.TRACE [62:62], 14_noc.md R429: Send trace records -/
def F.PROBE_CTL_TRACE : Field := ⟨288, 62, 1, .rw, 0, .every, 1, 0⟩
/-- PROBE_CTL.ERRONLY [61:61], 14_noc.md R429: Match error responses only -/
def F.PROBE_CTL_ERRONLY : Field := ⟨289, 61, 1, .rw, 0, .every, 1, 0⟩
/-- PROBE_CTL.PSNONLY [60:60], 14_noc.md R429: Match poisoned packets only -/
def F.PROBE_CTL_PSNONLY : Field := ⟨290, 60, 1, .rw, 0, .every, 1, 0⟩
/-- PROBE_CTL.CLSMASK [51:48], 14_noc.md R429: Bit c: class c matches -/
def F.PROBE_CTL_CLSMASK : Field := ⟨291, 48, 4, .rw, 0, .every, 1, 0⟩
/-- PROBE_CTL.OPCMASK [47:32], 14_noc.md R429: Bit o: OPC o matches -/
def F.PROBE_CTL_OPCMASK : Field := ⟨292, 32, 16, .rw, 0, .every, 1, 0⟩
/-- PROBE_CTL.DIR [16:16], 14_noc.md R429: 0: into the router; 1: out of it -/
def F.PROBE_CTL_DIR : Field := ⟨293, 16, 1, .rw, 0, .every, 1, 0⟩
/-- PROBE_CTL.ROUTER [14:8], 14_noc.md R429: Router index 0–95 (R425) -/
def F.PROBE_CTL_ROUTER : Field := ⟨294, 8, 7, .rw, 0, .every, 1, 0⟩
/-- PROBE_CTL.PORT [3:0], 14_noc.md R429: Port -/
def F.PROBE_CTL_PORT : Field := ⟨295, 0, 4, .rw, 0, .every, 1, 0⟩
/-- PROBE_INIT.IMASK [27:16], 14_noc.md R429: PROBE_INIT: initiator mask -/
def F.PROBE_INIT_IMASK : Field := ⟨296, 16, 12, .rw, 0, .every, 1, 0⟩
/-- PROBE_INIT.IMATCH [11:0], 14_noc.md R429: Initiator value -/
def F.PROBE_INIT_IMATCH : Field := ⟨297, 0, 12, .rw, 0, .every, 1, 0⟩
/-- PROBE_ALO.ALO [51:0], 14_noc.md R429: PROBE_ALO: lowest matching address -/
def F.PROBE_ALO_ALO : Field := ⟨298, 0, 52, .rw, 0, .every, 1, 0⟩
/-- PROBE_AHI.AHI [51:0], 14_noc.md R429: PROBE_AHI: highest matching address -/
def F.PROBE_AHI_AHI : Field := ⟨299, 0, 52, .rw, 4503599627370495, .every, 1, 0⟩
/-- PCOUNT.COUNT [63:0], 14_noc.md R429: PCOUNT: matched packets, wrapping. Software may write it (counter rule). -/
def F.PCOUNT_COUNT : Field := ⟨300, 0, 64, .hw, 0, .every, 1, 0⟩
/-- PBYTES.COUNT [63:0], 14_noc.md R429: PBYTES: matched data bytes, wrapping. Software may write it (counter rule). -/
def F.PBYTES_COUNT : Field := ⟨301, 0, 64, .hw, 0, .every, 1, 0⟩
/-- NOC_INITCFG.PRIO [9:8], 14_noc.md R429: NOC_INITCFG(i), initiator ID i = 0x000–0x4FF: priority (R415) -/
def F.NOC_INITCFG_PRIO : Field := ⟨302, 8, 2, .rw, 1, .every, 1, 0⟩
/-- NOC_INITCFG.TO_EXP [4:0], 14_noc.md R429: Timeout exponent (R422) -/
def F.NOC_INITCFG_TO_EXP : Field := ⟨303, 0, 5, .rw, 20, .every, 1, 0⟩

/-! ### REED -/

/-- WARP_SYS_CFG.REQ_V [63:63], 19_warp_links.md R593: WARP_SYS_CFG: REQ_ID is requested (R583) -/
def F.WARP_SYS_CFG_REQ_V : Field := ⟨304, 63, 1, .rw, 0, .cold, 1, 0⟩
/-- WARP_SYS_CFG.REQ_ID [56:48], 19_warp_links.md R593: Requested device ID -/
def F.WARP_SYS_CFG_REQ_ID : Field := ⟨305, 48, 9, .rw, 0, .cold, 1, 0⟩
/-- WARP_SYS_CFG.SETTLE_US [31:16], 19_warp_links.md R593: Settling interval in µs; 0 acts as 1 -/
def F.WARP_SYS_CFG_SETTLE_US : Field := ⟨306, 16, 16, .rw, 20, .every, 1, 0⟩
/-- WARP_SYS_CFG.DRAIN_US [15:0], 19_warp_links.md R593: Route-change hold in µs (R586) -/
def F.WARP_SYS_CFG_DRAIN_US : Field := ⟨307, 0, 16, .rw, 10, .every, 1, 0⟩
/-- WARP_SYS_CTL.REJOIN [1:1], 19_warp_links.md R593: WARP_SYS_CTL: R591 -/
def F.WARP_SYS_CTL_REJOIN : Field := ⟨308, 1, 1, .wo, 0, .noStore, 1, 0⟩
/-- WARP_SYS_CTL.START [0:0], 19_warp_links.md R593: Begin discovery (R581) -/
def F.WARP_SYS_CTL_START : Field := ⟨309, 0, 1, .wo, 0, .noStore, 1, 0⟩
/-- WARP_SYS_STATUS.STATE [63:60], 19_warp_links.md R593: WARP_SYS_STATUS: 0 IDLE, 1 DISCOVER, 2 MEMBER, 3 ISOLATED, 4 REJECTED -/
def F.WARP_SYS_STATUS_STATE : Field := ⟨310, 60, 4, .hw, 0, .every, 1, 0⟩
/-- WARP_SYS_STATUS.CAUSE [59:56], 19_warp_links.md R593: 1 PARTITION, 2 IDCONFLICT, 3 OVERFLOW -/
def F.WARP_SYS_STATUS_CAUSE : Field := ⟨311, 56, 4, .hw, 0, .every, 1, 0⟩
/-- WARP_SYS_STATUS.MEMBERS [41:32], 19_warp_links.md R593: Devices in the membership, 1–512 -/
def F.WARP_SYS_STATUS_MEMBERS : Field := ⟨312, 32, 10, .hw, 0, .every, 1, 0⟩
/-- WARP_SYS_STATUS.ROOT [24:16], 19_warp_links.md R593: Root DEV_ID -/
def F.WARP_SYS_STATUS_ROOT : Field := ⟨313, 16, 9, .hw, 0, .every, 1, 0⟩
/-- WARP_SYS_STATUS.GEN [15:0], 19_warp_links.md R593: Settlements since reset, wrapping -/
def F.WARP_SYS_STATUS_GEN : Field := ⟨314, 0, 16, .hw, 0, .every, 1, 0⟩
/-- DEV_UID.DEV_UID [63:0], 19_warp_links.md R593: Device unique identifier -/
def F.DEV_UID : Field := ⟨315, 0, 64, .ro, 0, .fuse, 1, 0⟩
/-- WARP_SYS_EVT.IDCONF [2:2], 19_warp_links.md R593: WARP_SYS_EVT: ID conflict or overflow -/
def F.WARP_SYS_EVT_IDCONF : Field := ⟨316, 2, 1, .w1c, 0, .every, 1, 0⟩
/-- WARP_SYS_EVT.ISOL [1:1], 19_warp_links.md R593: The device became ISOLATED -/
def F.WARP_SYS_EVT_ISOL : Field := ⟨317, 1, 1, .w1c, 0, .every, 1, 0⟩
/-- WARP_SYS_EVT.TOPO [0:0], 19_warp_links.md R593: A settlement changed membership or routes -/
def F.WARP_SYS_EVT_TOPO : Field := ⟨318, 0, 1, .w1c, 0, .every, 1, 0⟩
/-- ISOL_PICK.PICK [63:0], 19_warp_links.md R593: ISOL_PICK: pick of isolation (R590) -/
def F.ISOL_PICK_PICK : Field := ⟨319, 0, 64, .hw, 0, .every, 1, 0⟩
/-- WARP_RT.VALID [63:63], 19_warp_links.md R593: WARP_RT(d), d = 0–511: a route exists -/
def F.WARP_RT_VALID : Field := ⟨320, 63, 1, .hw, 0, .every, 1, 0⟩
/-- WARP_RT.LOCAL [62:62], 19_warp_links.md R593: d is this device -/
def F.WARP_RT_LOCAL : Field := ⟨321, 62, 1, .hw, 0, .every, 1, 0⟩
/-- WARP_RT.HOPS [52:48], 19_warp_links.md R593: Route length -/
def F.WARP_RT_HOPS : Field := ⟨322, 48, 5, .hw, 0, .every, 1, 0⟩
/-- WARP_RT.NEXT [40:32], 19_warp_links.md R593: First-hop device -/
def F.WARP_RT_NEXT : Field := ⟨323, 32, 9, .hw, 0, .every, 1, 0⟩
/-- WARP_RT.PORTS [11:0], 19_warp_links.md R593: Ports that reach NEXT -/
def F.WARP_RT_PORTS : Field := ⟨324, 0, 12, .hw, 0, .every, 1, 0⟩
/-- SYSTIME.SYSTIME [63:0], 20_reed_pick.md R628: System time, ns (R594) -/
def F.SYSTIME : Field := ⟨325, 0, 64, .ro, 0, .cold, 1, 0⟩
/-- PICK_CNT.PICK_CNT [63:0], 20_reed_pick.md R628: Pick counter -/
def F.PICK_CNT : Field := ⟨326, 0, 64, .ro, 0, .cold, 1, 0⟩
/-- PICK_NS.PICK_NS [29:0], 20_reed_pick.md R628: Pick period, ns (R596) -/
def F.PICK_NS : Field := ⟨327, 0, 30, .rws, 1000, .cold, 1, 0⟩
/-- ORIGIN_T.ORIGIN_T [63:0], 20_reed_pick.md R628: System time of the last schedule origin -/
def F.ORIGIN_T : Field := ⟨328, 0, 64, .ro, 0, .cold, 1, 0⟩
/-- ORIGIN_N.ORIGIN_N [63:0], 20_reed_pick.md R628: Boundary number of that origin -/
def F.ORIGIN_N : Field := ⟨329, 0, 64, .ro, 0, .cold, 1, 0⟩
/-- TB_CTL.RESYNC [63:63], 20_reed_pick.md R628: TB_CTL: take the parent's schedule (R602) -/
def F.TB_CTL_RESYNC : Field := ⟨330, 63, 1, .wo, 0, .noStore, 1, 0⟩
/-- TB_STATUS.STATE [2:0], 20_reed_pick.md R628: TB_STATUS: Table 20.1 -/
def F.TB_STATUS_STATE : Field := ⟨331, 0, 3, .hw, 0, .every, 1, 0⟩
/-- TB_OFFSET.OFFSET [31:0], 20_reed_pick.md R628: TB_OFFSET: last parent offset, ps, signed -/
def F.TB_OFFSET_OFFSET : Field := ⟨332, 0, 32, .hw, 0, .every, 1, 0⟩
/-- TB_TREE.DEPTH [60:56], 20_reed_pick.md R628: TB_TREE: tree depth -/
def F.TB_TREE_DEPTH : Field := ⟨333, 56, 5, .hw, 0, .every, 1, 0⟩
/-- TB_TREE.LEVEL [52:48], 20_reed_pick.md R628: Level of this device -/
def F.TB_TREE_LEVEL : Field := ⟨334, 48, 5, .hw, 0, .every, 1, 0⟩
/-- TB_TREE.PPORT [43:40], 20_reed_pick.md R628: Parent port; the parent device is in TB_PARENT -/
def F.TB_TREE_PPORT : Field := ⟨335, 40, 4, .hw, 0, .every, 1, 0⟩
/-- TB_TREE.CHILDREN [11:0], 20_reed_pick.md R628: Bit p: port p leads to a child -/
def F.TB_TREE_CHILDREN : Field := ⟨336, 0, 12, .hw, 0, .every, 1, 0⟩
/-- TB_PARENT.PARENT [8:0], 20_reed_pick.md R628: TB_PARENT: parent DEV_ID -/
def F.TB_PARENT_PARENT : Field := ⟨337, 0, 9, .hw, 0, .every, 1, 0⟩
/-- TB_EVT.PICKMM [3:3], 20_reed_pick.md R628: TB_EVT: schedule mismatch (R602) -/
def F.TB_EVT_PICKMM : Field := ⟨338, 3, 1, .w1c, 0, .every, 1, 0⟩
/-- TB_EVT.HOLD [2:2], 20_reed_pick.md R628: Entered HOLDOVER -/
def F.TB_EVT_HOLD : Field := ⟨339, 2, 1, .w1c, 0, .every, 1, 0⟩
/-- TB_EVT.LOCK [1:1], 20_reed_pick.md R628: Entered LOCKED -/
def F.TB_EVT_LOCK : Field := ⟨340, 1, 1, .w1c, 0, .every, 1, 0⟩
/-- TB_EVT.SLEW [0:0], 20_reed_pick.md R628: Entered SLEW -/
def F.TB_EVT_SLEW : Field := ⟨341, 0, 1, .w1c, 0, .every, 1, 0⟩
/-- REED_OP_CTL.GO [63:63], 20_reed_pick.md R628: REED_OPs_CTL, s = 0–7: start (R609) -/
def F.REED_OP_CTL_GO : Field := ⟨342, 63, 1, .w1s, 0, .every, 1, 0⟩
/-- REED_OP_CTL.STATE [57:56], 20_reed_pick.md R628: 0 IDLE, 1 BUSY, 2 DONE -/
def F.REED_OP_CTL_STATE : Field := ⟨343, 56, 2, .hw, 0, .every, 1, 0⟩
/-- REED_OP_CTL.STATUS [55:48], 20_reed_pick.md R628: Table 20.3 -/
def F.REED_OP_CTL_STATUS : Field := ⟨344, 48, 8, .hw, 0, .every, 1, 0⟩
/-- REED_OP_CTL.COLL_ID [47:32], 20_reed_pick.md R628: Collective identifier -/
def F.REED_OP_CTL_COLL_ID : Field := ⟨345, 32, 16, .rw, 0, .every, 1, 0⟩
/-- REED_OP_CTL.TAG [31:24], 20_reed_pick.md R628: SNAPSHOT tag -/
def F.REED_OP_CTL_TAG : Field := ⟨346, 24, 8, .rw, 0, .every, 1, 0⟩
/-- REED_OP_CTL.RESULT_OVF [16:16], 20_reed_pick.md R628: SUM overflowed (R611) -/
def F.REED_OP_CTL_RESULT_OVF : Field := ⟨347, 16, 1, .hw, 0, .every, 1, 0⟩
/-- REED_OP_CTL.SWACK [12:12], 20_reed_pick.md R628: MODE: require MODE_CTL.READY -/
def F.REED_OP_CTL_SWACK : Field := ⟨348, 12, 1, .rw, 0, .every, 1, 0⟩
/-- REED_OP_CTL.SCOPE [8:8], 20_reed_pick.md R628: MODE: 0 SYSTEM, 1 LOCAL -/
def F.REED_OP_CTL_SCOPE : Field := ⟨349, 8, 1, .rw, 0, .every, 1, 0⟩
/-- REED_OP_CTL.FUNC [6:4], 20_reed_pick.md R628: REDUCE function (R611) -/
def F.REED_OP_CTL_FUNC : Field := ⟨350, 4, 3, .rw, 0, .every, 1, 0⟩
/-- REED_OP_CTL.OP [3:0], 20_reed_pick.md R628: 1 BARRIER, 2 BROADCAST, 3 REDUCE, 4 SNAPSHOT, 5 RESET, 6 MODE; others BADARG -/
def F.REED_OP_CTL_OP : Field := ⟨351, 0, 4, .rw, 0, .every, 1, 0⟩
/-- REED_OP_PICK.PICK [63:0], 20_reed_pick.md R628: N -/
def F.REED_OP_PICK_PICK : Field := ⟨352, 0, 64, .rw, 0, .every, 1, 0⟩
/-- REED_OP_ARG.ARG [63:0], 20_reed_pick.md R628: D for MODE; VALUE for REDUCE -/
def F.REED_OP_ARG_ARG : Field := ⟨353, 0, 64, .rw, 0, .every, 1, 0⟩
/-- REED_OP_RESULT.RESULT [63:0], 20_reed_pick.md R628: REDUCE result; MODE fault total -/
def F.REED_OP_RESULT_RESULT : Field := ⟨354, 0, 64, .hw, 0, .every, 1, 0⟩
/-- REED_OP_BUF.BUF [63:0], 20_reed_pick.md R628: BROADCAST source address -/
def F.REED_OP_BUF_BUF : Field := ⟨355, 0, 64, .rw, 0, .every, 1, 0⟩
/-- REED_OP_LEN.LEN [8:0], 20_reed_pick.md R628: BROADCAST length, 1–256 -/
def F.REED_OP_LEN_LEN : Field := ⟨356, 0, 9, .rw, 0, .every, 1, 0⟩
/-- BC_BASE.BASE [51:9], 20_reed_pick.md R628: BC_BASE: broadcast ring, 512-byte aligned -/
def F.BC_BASE_BASE : Field := ⟨357, 9, 43, .rw, 0, .every, 1, 0⟩
/-- BC_CFG.LOG2N [4:0], 20_reed_pick.md R628: BC_CFG: 2^LOG2N entries, 1–16; others act as 4 -/
def F.BC_CFG_LOG2N : Field := ⟨358, 0, 5, .rw, 4, .every, 1, 0⟩
/-- BC_WP.WP [15:0], 20_reed_pick.md R628: BC_WP: next entry. Software may write it (R55). -/
def F.BC_WP_WP : Field := ⟨359, 0, 16, .hw, 0, .every, 1, 0⟩
/-- BC_RP.RP [15:0], 20_reed_pick.md R628: BC_RP -/
def F.BC_RP_RP : Field := ⟨360, 0, 16, .rw, 0, .every, 1, 0⟩
/-- MODE_STATUS.OPID [63:0], 20_reed_pick.md R628: MODE_STATUS: OPID of the last mode change -/
def F.MODE_STATUS_OPID : Field := ⟨361, 0, 64, .hw, 0, .every, 1, 0⟩
/-- MODE_CTL.READY [63:63], 20_reed_pick.md R628: MODE_CTL: software readiness for MODE_STATUS.OPID (R618); clears at the decision -/
def F.MODE_CTL_READY : Field := ⟨362, 63, 1, .w1s, 0, .every, 1, 0⟩
/-- MODE_STATE.STATE [2:0], 20_reed_pick.md R628: MODE_STATE: 0 IDLE, 1 ARMED, 2 COMMITTED, 3 ABORTED, 4 FAULT -/
def F.MODE_STATE_STATE : Field := ⟨363, 0, 3, .hw, 0, .every, 1, 0⟩
/-- MODE_STATE.FENCE_CNT [47:32], 20_reed_pick.md R628: Units fenced on this device -/
def F.MODE_STATE_FENCE_CNT : Field := ⟨364, 32, 16, .hw, 0, .every, 1, 0⟩
/-- MODE_FENCE_LOG.VALID [63:63], 20_reed_pick.md R628: MODE_FENCE_LOG: a record is held -/
def F.MODE_FENCE_LOG_VALID : Field := ⟨365, 63, 1, .w1c, 0, .every, 1, 0⟩
/-- MODE_FENCE_LOG.CAUSE [58:56], 20_reed_pick.md R628: 1 POWER, 2 RESET, 3 CLOCK, 4 PARITY, 5 UNDECIDED -/
def F.MODE_FENCE_LOG_CAUSE : Field := ⟨366, 56, 3, .hw, 0, .every, 1, 0⟩
/-- MODE_FENCE_LOG.FAMILY [31:24], 20_reed_pick.md R628: As UNIT_ID.FAMILY -/
def F.MODE_FENCE_LOG_FAMILY : Field := ⟨367, 24, 8, .hw, 0, .every, 1, 0⟩
/-- MODE_FENCE_LOG.INDEX [23:8], 20_reed_pick.md R628: As UNIT_ID.INDEX -/
def F.MODE_FENCE_LOG_INDEX : Field := ⟨368, 8, 16, .hw, 0, .every, 1, 0⟩
/-- REED_TO.REED_TO [31:0], 20_reed_pick.md R628: Collective timeout, µs; 0: none -/
def F.REED_TO : Field := ⟨369, 0, 32, .rw, 0, .every, 1, 0⟩
/-- REED_STAT.RESET_LATE [63:63], 20_reed_pick.md R628: REED_STAT: a RESET was applied late (R615) -/
def F.REED_STAT_RESET_LATE : Field := ⟨370, 63, 1, .w1c, 0, .cold, 1, 0⟩
/-- REED_STAT.BC_DROP_CNT [31:0], 20_reed_pick.md R628: Broadcast entries dropped -/
def F.REED_STAT_BC_DROP_CNT : Field := ⟨371, 0, 32, .hw, 0, .every, 1, 0⟩
/-- REED_DISC.REED_DISC_CNT [31:0], 20_reed_pick.md R628: Late DOWN symbols discarded (R612) -/
def F.REED_DISC_REED_DISC_CNT : Field := ⟨372, 0, 32, .hw, 0, .every, 1, 0⟩
/-- REED_SNAPLOG.TAG [63:56], 20_reed_pick.md R628: REED_SNAPLOG: last SNAPSHOT tag received -/
def F.REED_SNAPLOG_TAG : Field := ⟨373, 56, 8, .hw, 0, .every, 1, 0⟩
/-- REED_SNAPLOG_PICK.PICK [63:0], 20_reed_pick.md R628: REED_SNAPLOG_PICK: its N -/
def F.REED_SNAPLOG_PICK_PICK : Field := ⟨374, 0, 64, .hw, 0, .every, 1, 0⟩

/-! ### BIST -/

/-- BIST_CTL.AUTO [63:63], 24_bist_ageing.md R712: BIST_CTL: free-bay sweep (R695) -/
def F.BIST_CTL_AUTO : Field := ⟨375, 63, 1, .rw, 0, .every, 1, 0⟩
/-- BIST_CTL.WARM_TEST [62:62], 24_bist_ageing.md R712: Privileged test before a warm reset (R702) -/
def F.BIST_CTL_WARM_TEST : Field := ⟨376, 62, 1, .rw, 0, .cold, 1, 0⟩
/-- BIST_CTL.FAIL_ACT [61:61], 24_bist_ageing.md R712: 0 resume, 1 hold outputs after a failed occupied-bay test (R697) -/
def F.BIST_CTL_FAIL_ACT : Field := ⟨377, 61, 1, .rw, 0, .every, 1, 0⟩
/-- BIST_CTL.AUTO_GAP_MS [47:32], 24_bist_ageing.md R712: ms between sweep tests; 0 acts as 1 -/
def F.BIST_CTL_AUTO_GAP_MS : Field := ⟨378, 32, 16, .rw, 1000, .every, 1, 0⟩
/-- BIST_CTL.CLKDIV [19:16], 24_bist_ageing.md R712: Test clock divider (R692) -/
def F.BIST_CTL_CLKDIV : Field := ⟨379, 16, 4, .rw, 4, .every, 1, 0⟩
/-- BIST_CTL.TEST_MV [9:0], 24_bist_ageing.md R712: Bay test voltage, mV; 0: present voltage -/
def F.BIST_CTL_TEST_MV : Field := ⟨380, 0, 10, .rw, 0, .every, 1, 0⟩
/-- BIST_REQ.GO [63:63], 24_bist_ageing.md R712: BIST_REQ: test the named unit; clears when the test starts -/
def F.BIST_REQ_GO : Field := ⟨381, 63, 1, .w1s, 0, .every, 1, 0⟩
/-- BIST_REQ.REQERR [62:62], 24_bist_ageing.md R712: A GO was ignored (R693) -/
def F.BIST_REQ_REQERR : Field := ⟨382, 62, 1, .w1c, 0, .every, 1, 0⟩
/-- BIST_REQ.FAMILY [59:56], 24_bist_ageing.md R712: 1 lane, 2 bay, 3 signal core, 6 control core, 7 bank, 8 router (index as R425); others … -/
def F.BIST_REQ_FAMILY : Field := ⟨383, 56, 4, .rw, 0, .every, 1, 0⟩
/-- BIST_REQ.INDEX [15:0], 24_bist_ageing.md R712: Unit index -/
def F.BIST_REQ_INDEX : Field := ⟨384, 0, 16, .rw, 0, .every, 1, 0⟩
/-- BIST_PICK.PICK [63:0], 24_bist_ageing.md R712: BIST_PICK: N -/
def F.BIST_PICK_PICK : Field := ⟨385, 0, 64, .rw, 0, .every, 1, 0⟩
/-- BIST_PICK2.PICK [63:0], 24_bist_ageing.md R712: BIST_PICK2: M -/
def F.BIST_PICK2_PICK : Field := ⟨386, 0, 64, .rw, 0, .every, 1, 0⟩
/-- BIST_STATUS.BUSY [63:63], 24_bist_ageing.md R712: BIST_STATUS: a test runs -/
def F.BIST_STATUS_BUSY : Field := ⟨387, 63, 1, .hw, 0, .every, 1, 0⟩
/-- BIST_STATUS.HELD [62:62], 24_bist_ageing.md R712: A request is held -/
def F.BIST_STATUS_HELD : Field := ⟨388, 62, 1, .hw, 0, .every, 1, 0⟩
/-- BIST_STATUS.FAMILY [59:56], 24_bist_ageing.md R712: Unit of the last test ended -/
def F.BIST_STATUS_FAMILY : Field := ⟨389, 56, 4, .hw, 0, .every, 1, 0⟩
/-- BIST_STATUS.INDEX [47:32], 24_bist_ageing.md R712: Its index -/
def F.BIST_STATUS_INDEX : Field := ⟨390, 32, 16, .hw, 0, .every, 1, 0⟩
/-- BIST_STATUS.RESULT [7:0], 24_bist_ageing.md R712: Table 24.4 -/
def F.BIST_STATUS_RESULT : Field := ⟨391, 0, 8, .hw, 0, .every, 1, 0⟩
/-- BIST_MISR.MISR [63:0], 24_bist_ageing.md R712: BIST_MISR (R691) -/
def F.BIST_MISR_MISR : Field := ⟨392, 0, 64, .hw, 0, .every, 1, 0⟩
/-- BIST_LOG.VALID [63:63], 24_bist_ageing.md R712: BIST_LOG: a failure is recorded -/
def F.BIST_LOG_VALID : Field := ⟨393, 63, 1, .w1c, 0, .every, 1, 0⟩
/-- BIST_LOG.FAMILY [59:56], 24_bist_ageing.md R712: Unit -/
def F.BIST_LOG_FAMILY : Field := ⟨394, 56, 4, .hw, 0, .every, 1, 0⟩
/-- BIST_LOG.INDEX [47:32], 24_bist_ageing.md R712: Its index -/
def F.BIST_LOG_INDEX : Field := ⟨395, 32, 16, .hw, 0, .every, 1, 0⟩
/-- BIST_LOG.KIND [3:0], 24_bist_ageing.md R712: 1 logic, 2 memory, 3 privileged -/
def F.BIST_LOG_KIND : Field := ⟨396, 0, 4, .hw, 0, .every, 1, 0⟩
/-- PRIV_RESULT.VALID [63:63], 24_bist_ageing.md R712: PRIV_RESULT: results held (R702) -/
def F.PRIV_RESULT_VALID : Field := ⟨397, 63, 1, .hw, 0, .undef, 1, 0⟩
/-- PRIV_RESULT.RAN_AT_START [62:62], 24_bist_ageing.md R712: The test ran at start-up (R704) -/
def F.PRIV_RESULT_RAN_AT_START : Field := ⟨398, 62, 1, .hw, 0, .undef, 1, 0⟩
/-- PRIV_RESULT.FAIL [6:0], 24_bist_ageing.md R712: [0] configuration engine, [1] protection engine, [2] CC0, [3] interrupt controller, … -/
def F.PRIV_RESULT_FAIL : Field := ⟨399, 0, 7, .hw, 0, .undef, 1, 0⟩
/-- AGE_CFG.EOL_WARN [63:32], 24_bist_ageing.md R712: AGE_CFG: warning threshold, hours (R710) -/
def F.AGE_CFG_EOL_WARN : Field := ⟨400, 32, 32, .rw, 8760, .every, 1, 0⟩
/-- AGE_CFG.DLIM [31:16], 24_bist_ageing.md R712: L, 0.01 %; 0 acts as 1 -/
def F.AGE_CFG_DLIM : Field := ⟨401, 16, 16, .rw, 600, .every, 1, 0⟩
/-- AGE_CFG.PERIOD_MS [15:0], 24_bist_ageing.md R712: Measurement period; 0 acts as 1 -/
def F.AGE_CFG_PERIOD_MS : Field := ⟨402, 0, 16, .rw, 1000, .every, 1, 0⟩
/-- AGE_EVT.TAULOST [3:3], 24_bist_ageing.md R712: AGE_EVT: TAU lost (R711) -/
def F.AGE_EVT_TAULOST : Field := ⟨403, 3, 1, .w1c, 0, .every, 1, 0⟩
/-- AGE_EVT.WARN_CORE [2:2], 24_bist_ageing.md R712: A core's WARN set -/
def F.AGE_EVT_WARN_CORE : Field := ⟨404, 2, 1, .w1c, 0, .every, 1, 0⟩
/-- AGE_EVT.WARN_QUAD [1:1], 24_bist_ageing.md R712: A quad's WARN set -/
def F.AGE_EVT_WARN_QUAD : Field := ⟨405, 1, 1, .w1c, 0, .every, 1, 0⟩
/-- AGE_EVT.WARN_BAY [0:0], 24_bist_ageing.md R712: A bay's WARN set -/
def F.AGE_EVT_WARN_BAY : Field := ⟨406, 0, 1, .w1c, 0, .every, 1, 0⟩
/-- BIST_SC_OK.SC_OK [63:0], 24_bist_ageing.md R712: BIST_SC_OK(k), k = 0–1: bit j, signal core 64k + j consents (R699). For k = 1, bits … -/
def F.BIST_SC_OK_SC_OK : Field := ⟨407, 0, 64, .rw, 0, .every, 1, 0⟩
/-- AGE_BAY.EOL_HOURS [63:32], 24_bist_ageing.md R712: AGE_BAY(i), i = 0–767 (R709) -/
def F.AGE_BAY_EOL_HOURS : Field := ⟨408, 32, 32, .hw, 4294967295, .every, 1, 0⟩
/-- AGE_BAY.TEMP [31:16], 24_bist_ageing.md R712: Last mean junction temperature, 1/4 °C, signed -/
def F.AGE_BAY_TEMP : Field := ⟨409, 16, 16, .hw, 0, .every, 1, 0⟩
/-- AGE_BAY.DRIFT [15:0], 24_bist_ageing.md R712: 0.01 %, signed (R707) -/
def F.AGE_BAY_DRIFT : Field := ⟨410, 0, 16, .hw, 0, .every, 1, 0⟩
/-- AGE_BAY_T.HCAUSE [63:60], 24_bist_ageing.md R712: AGE_BAY_T(i): 0 none, 1 TEST, 2 VMAX, 3 RAIL, 4 ROUTER, 5 SOFTWARE -/
def F.AGE_BAY_T_HCAUSE : Field := ⟨411, 60, 4, .hw, 0, .undef, 1, 0⟩
/-- AGE_BAY_T.WARN [59:59], 24_bist_ageing.md R712: R710 -/
def F.AGE_BAY_T_WARN : Field := ⟨412, 59, 1, .hw, 0, .every, 1, 0⟩
/-- AGE_BAY_T.TAU [31:0], 24_bist_ageing.md R712: Stress age, hours. Software may write it (R711). -/
def F.AGE_BAY_T_TAU : Field := ⟨413, 0, 32, .hw, 0, .undef, 1, 0⟩
/-- UNUSABLE_BANK.BANK [63:0], 24_bist_ageing.md R712: UNUSABLE_BANK: bit b, bank b. Software may write 1 (R706). -/
def F.UNUSABLE_BANK_BANK : Field := ⟨414, 0, 64, .hw, 0, .undef, 1, 0⟩
/-- UNUSABLE_SC.SC [63:0], 24_bist_ageing.md R712: UNUSABLE_SC(k), k = 0–1: bit j, signal core 64k + j; as UNUSABLE_BANK -/
def F.UNUSABLE_SC_SC : Field := ⟨415, 0, 64, .hw, 0, .undef, 1, 0⟩
/-- UNUSABLE_QUAD.QUAD [47:0], 24_bist_ageing.md R712: UNUSABLE_QUAD: bit q; as UNUSABLE_BANK -/
def F.UNUSABLE_QUAD_QUAD : Field := ⟨416, 0, 48, .hw, 0, .undef, 1, 0⟩
/-- UNUSABLE_CC.CC [7:0], 24_bist_ageing.md R712: UNUSABLE_CC: bit c; as UNUSABLE_BANK -/
def F.UNUSABLE_CC_CC : Field := ⟨417, 0, 8, .hw, 0, .undef, 1, 0⟩
/-- UNUSABLE_RTR.RTR [63:0], 24_bist_ageing.md R712: UNUSABLE_RTR(k), k = 0–1: bit j, router 64k + j; as UNUSABLE_BANK -/
def F.UNUSABLE_RTR_RTR : Field := ⟨418, 0, 64, .hw, 0, .undef, 1, 0⟩
/-- AGE_QUAD.EOL_HOURS [63:32], 24_bist_ageing.md R712: AGE_BAY(i), i = 0–767 (R709) -/
def F.AGE_QUAD_EOL_HOURS : Field := ⟨419, 32, 32, .hw, 4294967295, .every, 1, 0⟩
/-- AGE_QUAD.TEMP [31:16], 24_bist_ageing.md R712: Last mean junction temperature, 1/4 °C, signed -/
def F.AGE_QUAD_TEMP : Field := ⟨420, 16, 16, .hw, 0, .every, 1, 0⟩
/-- AGE_QUAD.DRIFT [15:0], 24_bist_ageing.md R712: 0.01 %, signed (R707) -/
def F.AGE_QUAD_DRIFT : Field := ⟨421, 0, 16, .hw, 0, .every, 1, 0⟩
/-- AGE_QUAD_T.HCAUSE [63:60], 24_bist_ageing.md R712: AGE_BAY_T(i): 0 none, 1 TEST, 2 VMAX, 3 RAIL, 4 ROUTER, 5 SOFTWARE -/
def F.AGE_QUAD_T_HCAUSE : Field := ⟨422, 60, 4, .hw, 0, .undef, 1, 0⟩
/-- AGE_QUAD_T.WARN [59:59], 24_bist_ageing.md R712: R710 -/
def F.AGE_QUAD_T_WARN : Field := ⟨423, 59, 1, .hw, 0, .every, 1, 0⟩
/-- AGE_QUAD_T.TAU [31:0], 24_bist_ageing.md R712: Stress age, hours. Software may write it (R711). -/
def F.AGE_QUAD_T_TAU : Field := ⟨424, 0, 32, .hw, 0, .undef, 1, 0⟩
/-- AGE_CC.EOL_HOURS [63:32], 24_bist_ageing.md R712: AGE_BAY(i), i = 0–767 (R709) -/
def F.AGE_CC_EOL_HOURS : Field := ⟨425, 32, 32, .hw, 4294967295, .every, 1, 0⟩
/-- AGE_CC.TEMP [31:16], 24_bist_ageing.md R712: Last mean junction temperature, 1/4 °C, signed -/
def F.AGE_CC_TEMP : Field := ⟨426, 16, 16, .hw, 0, .every, 1, 0⟩
/-- AGE_CC.DRIFT [15:0], 24_bist_ageing.md R712: 0.01 %, signed (R707) -/
def F.AGE_CC_DRIFT : Field := ⟨427, 0, 16, .hw, 0, .every, 1, 0⟩
/-- AGE_CC_T.HCAUSE [63:60], 24_bist_ageing.md R712: AGE_BAY_T(i): 0 none, 1 TEST, 2 VMAX, 3 RAIL, 4 ROUTER, 5 SOFTWARE -/
def F.AGE_CC_T_HCAUSE : Field := ⟨428, 60, 4, .hw, 0, .undef, 1, 0⟩
/-- AGE_CC_T.WARN [59:59], 24_bist_ageing.md R712: R710 -/
def F.AGE_CC_T_WARN : Field := ⟨429, 59, 1, .hw, 0, .every, 1, 0⟩
/-- AGE_CC_T.TAU [31:0], 24_bist_ageing.md R712: Stress age, hours. Software may write it (R711). -/
def F.AGE_CC_T_TAU : Field := ⟨430, 0, 32, .hw, 0, .undef, 1, 0⟩
/-- AGE_SC.EOL_HOURS [63:32], 24_bist_ageing.md R712: AGE_BAY(i), i = 0–767 (R709) -/
def F.AGE_SC_EOL_HOURS : Field := ⟨431, 32, 32, .hw, 4294967295, .every, 1, 0⟩
/-- AGE_SC.TEMP [31:16], 24_bist_ageing.md R712: Last mean junction temperature, 1/4 °C, signed -/
def F.AGE_SC_TEMP : Field := ⟨432, 16, 16, .hw, 0, .every, 1, 0⟩
/-- AGE_SC.DRIFT [15:0], 24_bist_ageing.md R712: 0.01 %, signed (R707) -/
def F.AGE_SC_DRIFT : Field := ⟨433, 0, 16, .hw, 0, .every, 1, 0⟩
/-- AGE_SC_T.HCAUSE [63:60], 24_bist_ageing.md R712: AGE_BAY_T(i): 0 none, 1 TEST, 2 VMAX, 3 RAIL, 4 ROUTER, 5 SOFTWARE -/
def F.AGE_SC_T_HCAUSE : Field := ⟨434, 60, 4, .hw, 0, .undef, 1, 0⟩
/-- AGE_SC_T.WARN [59:59], 24_bist_ageing.md R712: R710 -/
def F.AGE_SC_T_WARN : Field := ⟨435, 59, 1, .hw, 0, .every, 1, 0⟩
/-- AGE_SC_T.TAU [31:0], 24_bist_ageing.md R712: Stress age, hours. Software may write it (R711). -/
def F.AGE_SC_T_TAU : Field := ⟨436, 0, 32, .hw, 0, .undef, 1, 0⟩

/-! ### DBG -/

/-- DBG_STATUS.CHAL_VALID [16:16], 25_debug.md R744: DBG_STATUS: a nonce awaits VERIFY -/
def F.DBG_STATUS_CHAL_VALID : Field := ⟨437, 16, 1, .hw, 0, .every, 1, 0⟩
/-- DBG_STATUS.FAILCNT [12:8], 25_debug.md R744: Failed verifications, saturating at 16 (R726) -/
def F.DBG_STATUS_FAILCNT : Field := ⟨438, 8, 5, .hw, 0, .every, 1, 0⟩
/-- DBG_STATUS.LEVEL [1:0], 25_debug.md R744: 0 LOCKED, 1 RUNCTL, 2 FULL (R723) -/
def F.DBG_STATUS_LEVEL : Field := ⟨439, 0, 2, .hw, 0, .fuse, 1, 0⟩
/-- DBG_UNLOCK.CHAL_REQ [63:63], 25_debug.md R744: DBG_UNLOCK (port): draw a nonce (R724) -/
def F.DBG_UNLOCK_CHAL_REQ : Field := ⟨440, 63, 1, .wo, 0, .noStore, 1, 0⟩
/-- DBG_UNLOCK.VERIFY [62:62], 25_debug.md R744: Verify DBG_RESP (R725) -/
def F.DBG_UNLOCK_VERIFY : Field := ⟨441, 62, 1, .wo, 0, .noStore, 1, 0⟩
/-- DBG_UNLOCK.RELOCK [61:61], 25_debug.md R744: Return to LOCKED (R726) -/
def F.DBG_UNLOCK_RELOCK : Field := ⟨442, 61, 1, .wo, 0, .noStore, 1, 0⟩
/-- DBG_UNLOCK.REQ_LEVEL [1:0], 25_debug.md R744: Level requested -/
def F.DBG_UNLOCK_REQ_LEVEL : Field := ⟨443, 0, 2, .rw, 0, .every, 1, 0⟩
/-- DBG_CHAL.NONCE [63:0], 25_debug.md R744: DBG_CHAL(k), k = 0–3 (port) -/
def F.DBG_CHAL_NONCE : Field := ⟨444, 0, 64, .hw, 0, .every, 1, 0⟩
/-- DBG_RESP.RESP [63:0], 25_debug.md R744: DBG_RESP(k), k = 0–31 (port): bytes 8k to 8k + 7 -/
def F.DBG_RESP_RESP : Field := ⟨445, 0, 64, .rw, 0, .every, 1, 0⟩
/-- DBG_NOC_ADDR.ADDR [63:0], 25_debug.md R744: DBG_NOC_ADDR (port) -/
def F.DBG_NOC_ADDR_ADDR : Field := ⟨446, 0, 64, .rw, 0, .every, 1, 0⟩
/-- DBG_NOC_CTL.GO [63:63], 25_debug.md R744: DBG_NOC_CTL (port): issue (R727) -/
def F.DBG_NOC_CTL_GO : Field := ⟨447, 63, 1, .w1s, 0, .every, 1, 0⟩
/-- DBG_NOC_CTL.AUTOINC [24:24], 25_debug.md R744: Advance the address -/
def F.DBG_NOC_CTL_AUTOINC : Field := ⟨448, 24, 1, .rw, 0, .every, 1, 0⟩
/-- DBG_NOC_CTL.KEYID [21:16], 25_debug.md R744: Key ID attribute -/
def F.DBG_NOC_CTL_KEYID : Field := ⟨449, 16, 6, .rw, 0, .every, 1, 0⟩
/-- DBG_NOC_CTL.LEN [13:8], 25_debug.md R744: Bytes minus 1 -/
def F.DBG_NOC_CTL_LEN : Field := ⟨450, 8, 6, .rw, 7, .every, 1, 0⟩
/-- DBG_NOC_CTL.OP [0:0], 25_debug.md R744: 0 READ, 1 WRITE -/
def F.DBG_NOC_CTL_OP : Field := ⟨451, 0, 1, .rw, 0, .every, 1, 0⟩
/-- DBG_NOC_STAT.BUSY [63:63], 25_debug.md R744: DBG_NOC_STAT (port): request outstanding -/
def F.DBG_NOC_STAT_BUSY : Field := ⟨452, 63, 1, .hw, 0, .every, 1, 0⟩
/-- DBG_NOC_STAT.DONE [62:62], 25_debug.md R744: A response arrived -/
def F.DBG_NOC_STAT_DONE : Field := ⟨453, 62, 1, .w1c, 0, .every, 1, 0⟩
/-- DBG_NOC_STAT.POISON [8:8], 25_debug.md R744: Poisoned read data -/
def F.DBG_NOC_STAT_POISON : Field := ⟨454, 8, 1, .hw, 0, .every, 1, 0⟩
/-- DBG_NOC_STAT.CODE [7:0], 25_debug.md R744: NoC status -/
def F.DBG_NOC_STAT_CODE : Field := ⟨455, 0, 8, .hw, 0, .every, 1, 0⟩
/-- DBG_NOC_DATA.DATA [63:0], 25_debug.md R744: DBG_NOC_DATA(k), k = 0–7 (port) -/
def F.DBG_NOC_DATA_DATA : Field := ⟨456, 0, 64, .rw, 0, .every, 1, 0⟩
/-- DBG_CSEL.CORE [6:0], 25_debug.md R744: DBG_CSEL, banked (R721) -/
def F.DBG_CSEL_CORE : Field := ⟨457, 0, 7, .rw, 0, .every, 1, 0⟩
/-- DBG_REQ.REQ [63:63], 25_debug.md R744: DBG_REQ: debug event; clears when taken -/
def F.DBG_REQ_REQ : Field := ⟨458, 63, 1, .w1s, 0, .every, 1, 0⟩
/-- DBG_RACC_NUM.RNUM [15:0], 25_debug.md R744: DBG_RACC_NUM (port) -/
def F.DBG_RACC_NUM_RNUM : Field := ⟨459, 0, 16, .rw, 0, .every, 1, 0⟩
/-- DBG_RACC_DATA.DATA [63:0], 25_debug.md R744: DBG_RACC_DATA (port) -/
def F.DBG_RACC_DATA_DATA : Field := ⟨460, 0, 64, .rw, 0, .every, 1, 0⟩
/-- DBG_RACC_CTL.READ [63:63], 25_debug.md R744: DBG_RACC_CTL (port): read (R741) -/
def F.DBG_RACC_CTL_READ : Field := ⟨461, 63, 1, .wo, 0, .noStore, 1, 0⟩
/-- DBG_RACC_CTL.WRITE [62:62], 25_debug.md R744: Write -/
def F.DBG_RACC_CTL_WRITE : Field := ⟨462, 62, 1, .wo, 0, .noStore, 1, 0⟩
/-- DBG_RACC_CTL.RSTAT [1:0], 25_debug.md R744: 0 OK, 1 NOTHALTED, 2 BADNUM -/
def F.DBG_RACC_CTL_RSTAT : Field := ⟨463, 0, 2, .hw, 0, .every, 1, 0⟩
/-- DBG_RESUME.GO [63:63], 25_debug.md R744: DBG_RESUME (port): R742 -/
def F.DBG_RESUME_GO : Field := ⟨464, 63, 1, .wo, 0, .noStore, 1, 0⟩
/-- DBG_RESUME_PC.PC [63:0], 25_debug.md R744: DBG_RESUME_PC (port) -/
def F.DBG_RESUME_PC_PC : Field := ⟨465, 0, 64, .rw, 0, .every, 1, 0⟩
/-- MBOX_IN.IN [63:0], 25_debug.md R744: MBOX_IN(c), c = 0–7 -/
def F.MBOX_IN_IN : Field := ⟨466, 0, 64, .rw, 0, .every, 1, 0⟩
/-- MBOX_OUT.OUT [63:0], 25_debug.md R744: MBOX_OUT(c) -/
def F.MBOX_OUT_OUT : Field := ⟨467, 0, 64, .rw, 0, .every, 1, 0⟩
/-- MBOX_FLAG.OUT_FULL [1:1], 25_debug.md R744: MBOX_FLAG(c) (R740) -/
def F.MBOX_FLAG_OUT_FULL : Field := ⟨468, 1, 1, .w1c, 0, .every, 1, 0⟩
/-- MBOX_FLAG.IN_FULL [0:0], 25_debug.md R744: MBOX_FLAG(c) -/
def F.MBOX_FLAG_IN_FULL : Field := ⟨469, 0, 1, .w1c, 0, .every, 1, 0⟩

/-! ### DCMP -/

/-- DCMP_LO.LO [63:0], 25_debug.md R730: Lowest matching address or bundle -/
def F.DCMP_LO_LO : Field := ⟨470, 0, 64, .rw, 0, .every, 1, 0⟩
/-- DCMP_HI.HI [63:0], 25_debug.md R730: Highest matching address or bundle -/
def F.DCMP_HI_HI : Field := ⟨471, 0, 64, .rw, 0, .every, 1, 0⟩
/-- DCMP_CTL.EN [63:63], 25_debug.md R730: Comparator enabled -/
def F.DCMP_CTL_EN : Field := ⟨472, 63, 1, .rw, 0, .every, 1, 0⟩
/-- DCMP_CTL.ACC [61:60], 25_debug.md R730: Data: 0b01 load, 0b10 store, 0b11 either; 0b00 acts as 0b11 -/
def F.DCMP_CTL_ACC : Field := ⟨473, 60, 2, .rw, 0, .every, 1, 0⟩
/-- DCMP_CTL.ACTION [57:56], 25_debug.md R730: 0 NONE, 1 DEBUG, 2 IRQ, 3 DEBUG and IRQ -/
def F.DCMP_CTL_ACTION : Field := ⟨474, 56, 2, .rw, 0, .every, 1, 0⟩
/-- DCMP_CTL.PREV [52:48], 25_debug.md R730: Predecessor (R734) -/
def F.DCMP_CTL_PREV : Field := ⟨475, 48, 5, .rw, 31, .every, 1, 0⟩
/-- DCMP_CTL.PRIVF [45:44], 25_debug.md R730: Level filter (R732) -/
def F.DCMP_CTL_PRIVF : Field := ⟨476, 44, 2, .rw, 0, .every, 1, 0⟩
/-- DCMP_CTL.CTXEN [40:40], 25_debug.md R730: Match CTXID -/
def F.DCMP_CTL_CTXEN : Field := ⟨477, 40, 1, .rw, 0, .every, 1, 0⟩
/-- DCMP_CTL.CTXID [31:16], 25_debug.md R730: Context to match -/
def F.DCMP_CTL_CTXID : Field := ⟨478, 16, 16, .rw, 0, .every, 1, 0⟩
/-- DCMP_CTL.TARGET [15:0], 25_debug.md R730: Matches per fire; 0 acts as 1 -/
def F.DCMP_CTL_TARGET : Field := ⟨479, 0, 16, .rw, 1, .every, 1, 0⟩
/-- DCMP_CNT.CNT [15:0], 25_debug.md R730: Matches since the last fire. Software may write it (counter rule, R55). -/
def F.DCMP_CNT_CNT : Field := ⟨480, 0, 16, .hw, 0, .every, 1, 0⟩
/-- DCTL.OWN [63:63], 25_debug.md R730: Port owns the comparators (R736); writable only through DPACC -/
def F.DCTL_OWN : Field := ⟨481, 63, 1, .rw, 0, .every, 1, 0⟩
/-- DCTL.MONEXIT [2:2], 25_debug.md R730: Next `ERET` or `RTE` leaves the monitor (R739) -/
def F.DCTL_MONEXIT : Field := ⟨482, 2, 1, .rw, 0, .every, 1, 0⟩
/-- DCTL.STEP [1:1], 25_debug.md R730: Step on leaving the monitor -/
def F.DCTL_STEP : Field := ⟨483, 1, 1, .rw, 0, .every, 1, 0⟩
/-- DCTL.MON [0:0], 25_debug.md R730: Monitor active. Software may write it. -/
def F.DCTL_MON : Field := ⟨484, 0, 1, .hw, 0, .every, 1, 0⟩
/-- DSTATUS.SKIP [32:32], 25_debug.md R730: R738 -/
def F.DSTATUS_SKIP : Field := ⟨485, 32, 1, .hw, 0, .every, 1, 0⟩
/-- DSTATUS.ARMED [31:16], 25_debug.md R730: Bit k: comparator k armed -/
def F.DSTATUS_ARMED : Field := ⟨486, 16, 16, .hw, 65535, .every, 1, 0⟩
/-- DSTATUS.HIT [15:0], 25_debug.md R730: Bit k: comparator k has fired -/
def F.DSTATUS_HIT : Field := ⟨487, 0, 16, .w1c, 0, .every, 1, 0⟩
/-- DCMP_SEL.DCMP_SEL [3:0], 25_debug.md R744: comparator that system registers 0x061-0x064 reach -/
def F.DCMP_SEL : Field := ⟨488, 0, 4, .rw, 0, .every, 1, 0⟩

/-! ### GPIO -/

/-- GPIO_CFG.IRQ_MODE [22:20], 26_gpio.md R761: GPIO_CFG(b, i): event mode (R760) -/
def F.GPIO_CFG_IRQ_MODE : Field := ⟨489, 20, 3, .rw, 0, .every, 1, 0⟩
/-- GPIO_CFG.SYNC [16:16], 26_gpio.md R761: Extra input register (R750) -/
def F.GPIO_CFG_SYNC : Field := ⟨490, 16, 1, .rw, 0, .every, 1, 0⟩
/-- GPIO_CFG.DDR [12:12], 26_gpio.md R761: Double data rate at the port (R747) -/
def F.GPIO_CFG_DDR : Field := ⟨491, 12, 1, .rw, 0, .every, 1, 0⟩
/-- GPIO_CFG.TERM [8:8], 26_gpio.md R761: LVDS 100 Ω termination (R747) -/
def F.GPIO_CFG_TERM : Field := ⟨492, 8, 1, .rw, 0, .every, 1, 0⟩
/-- GPIO_CFG.PULL [5:4], 26_gpio.md R761: 0 none, 1 up, 2 down, 3 keeper -/
def F.GPIO_CFG_PULL : Field := ⟨493, 4, 2, .rw, 0, .every, 1, 0⟩
/-- GPIO_CFG.STD [0:0], 26_gpio.md R761: 0 LVCMOS, 1 LVDS (R746, R747) -/
def F.GPIO_CFG_STD : Field := ⟨494, 0, 1, .rw, 0, .every, 1, 0⟩
/-- GPIO_TSET.SET1 [31:16], 26_gpio.md R761: timing set 1 -/
def F.GPIO_TSET_SET1 : Field := ⟨495, 16, 16, .rw, 0, .every, 1, 0⟩
/-- GPIO_TSET.SET0 [15:0], 26_gpio.md R761: timing set 0 -/
def F.GPIO_TSET_SET0 : Field := ⟨496, 0, 16, .rw, 0, .every, 1, 0⟩
/-- GPIO_FRC.ETAB [51:36], 26_gpio.md R761: GPIO_FRC(b, i): enable table -/
def F.GPIO_FRC_ETAB : Field := ⟨497, 36, 16, .rws, 0, .every, 1, 0⟩
/-- GPIO_FRC.DTAB [35:20], 26_gpio.md R761: Data table -/
def F.GPIO_FRC_DTAB : Field := ⟨498, 20, 16, .rws, 0, .every, 1, 0⟩
/-- GPIO_FRC.SEL [19:0], 26_gpio.md R761: Five bits each, SELA in [4:0] (Table 26.3) -/
def F.GPIO_FRC_SEL : Field := ⟨499, 0, 20, .rws, 0, .every, 1, 0⟩
/-- GPIO_OSEL.OSEL [47:0], 26_gpio.md R761: GPIO_OSEL(b): bits [2i + 1:2i], 0 OFF, 1 FABRIC, 2 FRC, 3 SOFT -/
def F.GPIO_OSEL_OSEL : Field := ⟨500, 0, 48, .rws, 0, .every, 1, 0⟩
/-- GPIO_TSEL.TSEL [23:0], 26_gpio.md R761: GPIO_TSEL(b): active timing set -/
def F.GPIO_TSEL_TSEL : Field := ⟨501, 0, 24, .rws, 0, .every, 1, 0⟩
/-- GPIO_SWOUT.SWOUT [23:0], 26_gpio.md R761: GPIO_SWOUT(b) -/
def F.GPIO_SWOUT_SWOUT : Field := ⟨502, 0, 24, .rws, 0, .every, 1, 0⟩
/-- GPIO_SWOE.SWOE [23:0], 26_gpio.md R761: GPIO_SWOE(b) -/
def F.GPIO_SWOE_SWOE : Field := ⟨503, 0, 24, .rws, 0, .every, 1, 0⟩
/-- GPIO_IN.IN [23:0], 26_gpio.md R761: GPIO_IN(b) (R760) -/
def F.GPIO_IN_IN : Field := ⟨504, 0, 24, .ro, 0, .every, 1, 0⟩
/-- GPIO_EVT.EVT [23:0], 26_gpio.md R761: GPIO_EVT(b) (R760) -/
def F.GPIO_EVT_EVT : Field := ⟨505, 0, 24, .w1c, 0, .every, 1, 0⟩
/-- GPIO_BSTAT.OWNER1 [63:48], 26_gpio.md R761: GPIO_BSTAT(b): instance on port 1; 0 inactive -/
def F.GPIO_BSTAT_OWNER1 : Field := ⟨506, 48, 16, .hw, 0, .every, 1, 0⟩
/-- GPIO_BSTAT.OWNER0 [47:32], 26_gpio.md R761: Instance on port 0 -/
def F.GPIO_BSTAT_OWNER0 : Field := ⟨507, 32, 16, .hw, 0, .every, 1, 0⟩
/-- GPIO_BSTAT.FORCED [3:3], 26_gpio.md R761: Row 2 of Table 26.4 applies -/
def F.GPIO_BSTAT_FORCED : Field := ⟨508, 3, 1, .hw, 0, .every, 1, 0⟩
/-- GPIO_BSTAT.FENCED [2:2], 26_gpio.md R761: R758 -/
def F.GPIO_BSTAT_FENCED : Field := ⟨509, 2, 1, .w1c, 0, .every, 1, 0⟩
/-- GPIO_BSTAT.TSERR [1:1], 26_gpio.md R761: R756 -/
def F.GPIO_BSTAT_TSERR : Field := ⟨510, 1, 1, .w1c, 0, .every, 1, 0⟩
/-- GPIO_BSTAT.CFGERR [0:0], 26_gpio.md R761: R747 -/
def F.GPIO_BSTAT_CFGERR : Field := ⟨511, 0, 1, .w1c, 0, .every, 1, 0⟩

/-! ### PCIE -/

/-- PCIE_STATUS.WIDTH [20:16], 18_pcie_host.md R564: PCIE_STATUS: negotiated width 0, 1, 2, 4, 8 or 16 -/
def F.PCIE_STATUS_WIDTH : Field := ⟨512, 16, 5, .hw, 0, .every, 1, 0⟩
/-- PCIE_STATUS.SPEED [11:8], 18_pcie_host.md R564: 1 to 6: 2.5 to 64.0 GT/s -/
def F.PCIE_STATUS_SPEED : Field := ⟨513, 8, 4, .hw, 0, .every, 1, 0⟩
/-- PCIE_STATUS.FLIT [4:4], 18_pcie_host.md R564: Flit mode in use -/
def F.PCIE_STATUS_FLIT : Field := ⟨514, 4, 1, .hw, 0, .every, 1, 0⟩
/-- PCIE_STATUS.DSTATE [1:0], 18_pcie_host.md R564: 0 D0, 3 D3hot -/
def F.PCIE_STATUS_DSTATE : Field := ⟨515, 0, 2, .hw, 0, .every, 1, 0⟩
/-- PCIE_LINK.LINKUP [63:63], 18_pcie_host.md R564: PCIE_LINK: the data link is up -/
def F.PCIE_LINK_LINKUP : Field := ⟨516, 63, 1, .hw, 0, .every, 1, 0⟩
/-- PCIE_WERR.VALID [63:63], 18_pcie_host.md R564: PCIE_WERR: a failed BAR write is recorded (R555); its offset is in PCIE_WADDR -/
def F.PCIE_WERR_VALID : Field := ⟨517, 63, 1, .w1c, 0, .every, 1, 0⟩
/-- PCIE_WERR.BAR2 [62:62], 18_pcie_host.md R564: 1: BAR2; 0: BAR0 -/
def F.PCIE_WERR_BAR2 : Field := ⟨518, 62, 1, .hw, 0, .every, 1, 0⟩
/-- PCIE_WERR.CODE [55:48], 18_pcie_host.md R564: NoC error code -/
def F.PCIE_WERR_CODE : Field := ⟨519, 48, 8, .hw, 0, .every, 1, 0⟩
/-- PCIE_WADDR.OFFSET [35:0], 18_pcie_host.md R564: PCIE_WADDR: BAR offset of the recorded write -/
def F.PCIE_WADDR_OFFSET : Field := ⟨520, 0, 36, .hw, 0, .every, 1, 0⟩
/-- PCIE_WERR_CNT.COUNT [31:0], 18_pcie_host.md R564: PCIE_WERR_CNT, saturating (R44). Software may write it (counter rule, R55). -/
def F.PCIE_WERR_CNT_COUNT : Field := ⟨521, 0, 32, .hw, 0, .every, 1, 0⟩
/-- PCIE_APTSTAT.APTERR [63:63], 18_pcie_host.md R564: PCIE_APTSTAT: an aperture enable was refused (R551) -/
def F.PCIE_APTSTAT_APTERR : Field := ⟨522, 63, 1, .w1c, 0, .every, 1, 0⟩
/-- APT_CFG.EN [63:63], 18_pcie_host.md R564: APT_CFG(a), a = 0–63: aperture enabled -/
def F.APT_CFG_EN : Field := ⟨523, 63, 1, .rw, 0, .every, 1, 0⟩
/-- APT_CFG.LOCAL [62:62], 18_pcie_host.md R564: 1: this device -/
def F.APT_CFG_LOCAL : Field := ⟨524, 62, 1, .rw, 1, .every, 1, 0⟩
/-- APT_CFG.DEV [56:48], 18_pcie_host.md R564: Device ID when LOCAL is 0 -/
def F.APT_CFG_DEV : Field := ⟨525, 48, 9, .rw, 0, .every, 1, 0⟩
/-- APT_CFG.KEYID [45:40], 18_pcie_host.md R564: Key ID attribute -/
def F.APT_CFG_KEYID : Field := ⟨526, 40, 6, .rw, 0, .every, 1, 0⟩
/-- APT_BASE.BASE [51:30], 18_pcie_host.md R564: APT_BASE(a): local address bits [51:30] -/
def F.APT_BASE_BASE : Field := ⟨527, 30, 22, .rw, 0, .every, 1, 0⟩
/-- SQ_BASE.BASE [63:2], 18_pcie_host.md R564: SQ_BASE(q), q = 0–63: host address of the submission ring, 64-byte aligned ([5:2] must … -/
def F.SQ_BASE_BASE : Field := ⟨528, 2, 62, .rw, 0, .every, 1, 0⟩
/-- CQ_BASE.BASE [63:4], 18_pcie_host.md R564: CQ_BASE(q): host address of the completion ring, 16-byte aligned -/
def F.CQ_BASE_BASE : Field := ⟨529, 4, 60, .rw, 0, .every, 1, 0⟩
/-- Q_CFG.EN [8:8], 18_pcie_host.md R564: Q_CFG(q): queue enabled -/
def F.Q_CFG_EN : Field := ⟨530, 8, 1, .rw, 0, .every, 1, 0⟩
/-- Q_CFG.CQ_LOG2N [7:4], 18_pcie_host.md R564: Completion ring of 2^CQ_LOG2N entries, 1–12; other values act as 12 -/
def F.Q_CFG_CQ_LOG2N : Field := ⟨531, 4, 4, .rw, 0, .every, 1, 0⟩
/-- Q_CFG.SQ_LOG2N [3:0], 18_pcie_host.md R564: Submission ring of 2^SQ_LOG2N entries, as CQ_LOG2N -/
def F.Q_CFG_SQ_LOG2N : Field := ⟨532, 0, 4, .rw, 0, .every, 1, 0⟩
/-- SQ_TAIL.TAIL [11:0], 18_pcie_host.md R564: SQ_TAIL(q): doorbell -/
def F.SQ_TAIL_TAIL : Field := ⟨533, 0, 12, .rw, 0, .every, 1, 0⟩
/-- SQ_HEAD.HEAD [11:0], 18_pcie_host.md R564: SQ_HEAD(q): next descriptor fetched. Software may write it as R559 allows. -/
def F.SQ_HEAD_HEAD : Field := ⟨534, 0, 12, .hw, 0, .every, 1, 0⟩
/-- CQ_TAIL.TAIL [11:0], 18_pcie_host.md R564: CQ_TAIL(q): next completion entry written. Software may write it as R559 allows. -/
def F.CQ_TAIL_TAIL : Field := ⟨535, 0, 12, .hw, 0, .every, 1, 0⟩
/-- CQ_HEAD.HEAD [11:0], 18_pcie_host.md R564: CQ_HEAD(q): next entry the host reads -/
def F.CQ_HEAD_HEAD : Field := ⟨536, 0, 12, .rw, 0, .every, 1, 0⟩
/-- Q_STATUS.ERR [63:63], 18_pcie_host.md R564: Q_STATUS(q): the queue stopped on an error (R559) -/
def F.Q_STATUS_ERR : Field := ⟨537, 63, 1, .w1c, 0, .every, 1, 0⟩
/-- Q_STATUS.STOPPED [62:62], 18_pcie_host.md R564: Nothing is in progress and EN is 0 -/
def F.Q_STATUS_STOPPED : Field := ⟨538, 62, 1, .hw, 1, .every, 1, 0⟩
/-- Q_STATUS.ERRCODE [15:8], 18_pcie_host.md R564: 1: descriptor fetch failed; 2: completion write failed -/
def F.Q_STATUS_ERRCODE : Field := ⟨539, 8, 8, .hw, 0, .every, 1, 0⟩
/-- Q_STATUS.INFLIGHT [3:0], 18_pcie_host.md R564: Descriptors in progress, 0–8 -/
def F.Q_STATUS_INFLIGHT : Field := ⟨540, 0, 4, .hw, 0, .every, 1, 0⟩

/-! ### SPB -/

/-- SPB_PWR_REQ.PWR [1:0] step 2, 04_block_memory.md R135: requested power state -/
def F.SPB_PWR_REQ_PWR : Field := ⟨541, 0, 2, .rw, 2, .every, 32, 2⟩
/-- SPB_PWR_STATE.STATE [1:0] step 2, 04_block_memory.md R135: power state -/
def F.SPB_PWR_STATE_STATE : Field := ⟨542, 0, 2, .hw, 2, .every, 32, 2⟩
/-- SPB_ZERO.ZERO [0:0] step 1, 04_block_memory.md R131: fill bank b with zero -/
def F.SPB_ZERO_ZERO : Field := ⟨543, 0, 1, .w1s, 0, .every, 64, 1⟩
/-- SPB_CTL.CORR_WB [8:8], 04_block_memory.md R135: SPB_CTL: write back corrected bytes in scratchpad banks -/
def F.SPB_CTL_CORR_WB : Field := ⟨544, 8, 1, .rw, 1, .every, 1, 0⟩
/-- SPB_CTL.CE_SHIFT [4:0], 04_block_memory.md R135: SPB_CTL: correctable interrupt period 2^CE_SHIFT, for bay memory blocks and scratchpad … -/
def F.SPB_CTL_CE_SHIFT : Field := ⟨545, 0, 5, .rw, 10, .every, 1, 0⟩
/-- SPB_CE_CNT.COUNT [31:0], 04_block_memory.md R135: SPB_CE_CNT of bank b, saturating. Software may write it (counter rule, R55). -/
def F.SPB_CE_CNT_COUNT : Field := ⟨546, 0, 32, .hw, 0, .every, 1, 0⟩
/-- SPB_UE_CNT.COUNT [31:0], 04_block_memory.md R135: SPB_UE_CNT of bank b, saturating. Software may write it (counter rule, R55). -/
def F.SPB_UE_CNT_COUNT : Field := ⟨547, 0, 32, .hw, 0, .every, 1, 0⟩
/-- SPB_LOG.VALID [63:63], 04_block_memory.md R135: SPB_LOG of bank b: the log holds a record -/
def F.SPB_LOG_VALID : Field := ⟨548, 63, 1, .w1c, 0, .every, 1, 0⟩
/-- SPB_LOG.UE [62:62], 04_block_memory.md R135: The record is of an uncorrectable byte -/
def F.SPB_LOG_UE : Field := ⟨549, 62, 1, .hw, 0, .every, 1, 0⟩
/-- SPB_LOG.INIT [61:50], 04_block_memory.md R135: Initiator ID of the access; 0 for a write-back check -/
def F.SPB_LOG_INIT : Field := ⟨550, 50, 12, .hw, 0, .every, 1, 0⟩
/-- SPB_LOG.ROW [20:6], 04_block_memory.md R135: Row 0–32,767 -/
def F.SPB_LOG_ROW : Field := ⟨551, 6, 15, .hw, 0, .every, 1, 0⟩
/-- SPB_LOG.BYTE [5:0], 04_block_memory.md R135: Byte within the row; bank offset = ROW × 64 + BYTE -/
def F.SPB_LOG_BYTE : Field := ⟨552, 0, 6, .hw, 0, .every, 1, 0⟩

/-! ### LANE -/

/-- LANE_CTL.REACQ [63:63], 17_lanes.md R546: LANE_CTL: close the burst with TRUNC = 0 and re-acquire; leaves FAILED -/
def F.LANE_CTL_REACQ : Field := ⟨553, 63, 1, .wo, 0, .noStore, 1, 0⟩
/-- LANE_CTL.PRBS [20:18], 17_lanes.md R546: 0 PRBS7, 1 PRBS9, 2 PRBS15, 3 PRBS23, 4 PRBS31; other values act as 0 -/
def F.LANE_CTL_PRBS : Field := ⟨554, 18, 3, .rw, 0, .every, 1, 0⟩
/-- LANE_CTL.PRBS_CHK [17:17], 17_lanes.md R546: Check the received sequence (R529) -/
def F.LANE_CTL_PRBS_CHK : Field := ⟨555, 17, 1, .rw, 0, .every, 1, 0⟩
/-- LANE_CTL.SAFE_TX [13:12], 17_lanes.md R546: R545 -/
def F.LANE_CTL_SAFE_TX : Field := ⟨556, 12, 2, .rw, 0, .every, 1, 0⟩
/-- LANE_CTL.TX_SRC [9:8], 17_lanes.md R546: 0 FABRIC, 1 PRBS, 2 STREAM, 3 FILL -/
def F.LANE_CTL_TX_SRC : Field := ⟨557, 8, 2, .rws, 0, .every, 1, 0⟩
/-- LANE_CTL.LPBK [5:4], 17_lanes.md R546: Table 17.6 -/
def F.LANE_CTL_LPBK : Field := ⟨558, 4, 2, .rws, 0, .every, 1, 0⟩
/-- LANE_CTL.PCS [2:2], 17_lanes.md R546: 0 RAW, 1 ETH -/
def F.LANE_CTL_PCS : Field := ⟨559, 2, 1, .rw, 0, .every, 1, 0⟩
/-- LANE_CTL.MODE [1:1], 17_lanes.md R546: 0 ATTACH, 1 STREAM -/
def F.LANE_CTL_MODE : Field := ⟨560, 1, 1, .rw, 0, .every, 1, 0⟩
/-- LANE_CTL.EN [0:0], 17_lanes.md R546: Lane enabled (R523) -/
def F.LANE_CTL_EN : Field := ⟨561, 0, 1, .rw, 0, .every, 1, 0⟩
/-- QUAD_CFG.OWNER [63:62], 17_lanes.md R546: QUAD_CFG: 0 NONE, 1 FABRIC, 2 PCIE, 3 WARP (R515, R516) -/
def F.QUAD_CFG_OWNER : Field := ⟨562, 62, 2, .rw, 0, .every, 1, 0⟩
/-- QUAD_CFG.BRINGUP [56:56], 17_lanes.md R546: 0 FIXED, 1 STEP -/
def F.QUAD_CFG_BRINGUP : Field := ⟨563, 56, 1, .rw, 0, .every, 1, 0⟩
/-- QUAD_CFG.REF_SRC [52:52], 17_lanes.md R546: 1: reference of quad q − 1 (R521) -/
def F.QUAD_CFG_REF_SRC : Field := ⟨564, 52, 1, .rw, 0, .every, 1, 0⟩
/-- QUAD_CFG.REF_FREQ [48:48], 17_lanes.md R546: 0: 100 MHz, 1: 156.25 MHz -/
def F.QUAD_CFG_REF_FREQ : Field := ⟨565, 48, 1, .rw, 0, .every, 1, 0⟩
/-- QUAD_CFG.REF_SPREAD [44:44], 17_lanes.md R546: Reference is down-spread (R522) -/
def F.QUAD_CFG_REF_SPREAD : Field := ⟨566, 44, 1, .rw, 0, .every, 1, 0⟩
/-- QUAD_CFG.RATE [35:32], 17_lanes.md R546: Table 17.1 -/
def F.QUAD_CFG_RATE : Field := ⟨567, 32, 4, .rws, 0, .every, 1, 0⟩
/-- QUAD_CFG.CMOD [28:28], 17_lanes.md R546: Custom modulation: 0 NRZ, 1 PAM4 -/
def F.QUAD_CFG_CMOD : Field := ⟨568, 28, 1, .rws, 0, .every, 1, 0⟩
/-- QUAD_CFG.LDIV [27:25], 17_lanes.md R546: Custom lane divider 0–5; 6 and 7 fail R520 -/
def F.QUAD_CFG_LDIV : Field := ⟨569, 25, 3, .rws, 0, .every, 1, 0⟩
/-- QUAD_CFG.MULT [24:0], 17_lanes.md R546: Custom multiplier, 9 integer and 16 fraction bits -/
def F.QUAD_CFG_MULT : Field := ⟨570, 0, 25, .rws, 0, .every, 1, 0⟩
/-- LANE_TXEQ.POST1 [31:24], 17_lanes.md R546: LANE_TXEQ: post-cursor tap, signed, 1/128 of full swing -/
def F.LANE_TXEQ_POST1 : Field := ⟨571, 24, 8, .rws, 0, .every, 1, 0⟩
/-- LANE_TXEQ.MAIN [23:16], 17_lanes.md R546: Main tap; the device applies 128 minus the other magnitudes when the sum exceeds 128 -/
def F.LANE_TXEQ_MAIN : Field := ⟨572, 16, 8, .rws, 128, .every, 1, 0⟩
/-- LANE_TXEQ.PRE1 [15:8], 17_lanes.md R546: First pre-cursor tap, signed -/
def F.LANE_TXEQ_PRE1 : Field := ⟨573, 8, 8, .rws, 0, .every, 1, 0⟩
/-- LANE_TXEQ.PRE2 [7:0], 17_lanes.md R546: Second pre-cursor tap, signed -/
def F.LANE_TXEQ_PRE2 : Field := ⟨574, 0, 8, .rws, 0, .every, 1, 0⟩
/-- LANE_BOND.AM_EN [40:40], 17_lanes.md R546: LANE_BOND: send and lock to markers -/
def F.LANE_BOND_AM_EN : Field := ⟨575, 40, 1, .rw, 0, .every, 1, 0⟩
/-- LANE_BOND.AM_EXP [28:24], 17_lanes.md R546: Marker period 2^AM_EXP words (R537) -/
def F.LANE_BOND_AM_EXP : Field := ⟨576, 24, 5, .rw, 10, .every, 1, 0⟩
/-- LANE_BOND.GROUP [23:16], 17_lanes.md R546: Bond group 1–255; 0: unbonded -/
def F.LANE_BOND_GROUP : Field := ⟨577, 16, 8, .rw, 0, .every, 1, 0⟩
/-- LANE_BOND.POS [3:0], 17_lanes.md R546: Position in the group -/
def F.LANE_BOND_POS : Field := ⟨578, 0, 4, .rw, 0, .every, 1, 0⟩
/-- LANE_TO.TRAIN_TO [55:32], 17_lanes.md R546: LANE_TO: training limit in µs -/
def F.LANE_TO_TRAIN_TO : Field := ⟨579, 32, 24, .rw, 1000, .every, 1, 0⟩
/-- LANE_TO.LOS_TO [23:0], 17_lanes.md R546: Loss-of-input timeout in units of 10 ns (R535) -/
def F.LANE_TO_LOS_TO : Field := ⟨580, 0, 24, .rw, 200, .every, 1, 0⟩
/-- LANE_FILL.FILL [63:0], 17_lanes.md R546: LANE_FILL: fill pattern, repeated four times per word -/
def F.LANE_FILL_FILL : Field := ⟨581, 0, 64, .rw, 12297829382473034410, .every, 1, 0⟩
/-- LANE_STATUS.STATE [63:60], 17_lanes.md R546: LANE_STATUS: Table 17.2 -/
def F.LANE_STATUS_STATE : Field := ⟨582, 60, 4, .hw, 0, .every, 1, 0⟩
/-- LANE_STATUS.RATE_ACT [51:48], 17_lanes.md R546: Rate code in use -/
def F.LANE_STATUS_RATE_ACT : Field := ⟨583, 48, 4, .hw, 0, .every, 1, 0⟩
/-- LANE_STATUS.AM_LOCK [44:44], 17_lanes.md R546: Markers locked; for a group, the group deskewed -/
def F.LANE_STATUS_AM_LOCK : Field := ⟨584, 44, 1, .hw, 0, .every, 1, 0⟩
/-- LANE_STATUS.BURST [40:40], 17_lanes.md R546: A burst is open -/
def F.LANE_STATUS_BURST : Field := ⟨585, 40, 1, .hw, 0, .every, 1, 0⟩
/-- LANE_STATUS.LOS [36:36], 17_lanes.md R546: Input absent (R534) -/
def F.LANE_STATUS_LOS : Field := ⟨586, 36, 1, .hw, 0, .every, 1, 0⟩
/-- LANE_STATUS.PRBS_LOCK [32:32], 17_lanes.md R546: R529 -/
def F.LANE_STATUS_PRBS_LOCK : Field := ⟨587, 32, 1, .hw, 0, .every, 1, 0⟩
/-- LANE_STATUS.BURST_NUM [31:0], 17_lanes.md R546: Burst open or last closed, wrapping -/
def F.LANE_STATUS_BURST_NUM : Field := ⟨588, 0, 32, .hw, 0, .every, 1, 0⟩
/-- LANE_EVT.RATEERR [9:9], 17_lanes.md R546: LANE_EVT: rate or mode refused (R520, R521, R530, R540) -/
def F.LANE_EVT_RATEERR : Field := ⟨589, 9, 1, .w1c, 0, .every, 1, 0⟩
/-- LANE_EVT.BONDERR [8:8], 17_lanes.md R546: Group not formed (R536) -/
def F.LANE_EVT_BONDERR : Field := ⟨590, 8, 1, .w1c, 0, .every, 1, 0⟩
/-- LANE_EVT.SKEW [7:7], 17_lanes.md R546: Group skew above 40 ns -/
def F.LANE_EVT_SKEW : Field := ⟨591, 7, 1, .w1c, 0, .every, 1, 0⟩
/-- LANE_EVT.OWNERR [6:6], 17_lanes.md R546: OWNER write refused -/
def F.LANE_EVT_OWNERR : Field := ⟨592, 6, 1, .w1c, 0, .every, 1, 0⟩
/-- LANE_EVT.TXUNDER [5:5], 17_lanes.md R546: A fill word was sent for lack of data -/
def F.LANE_EVT_TXUNDER : Field := ⟨593, 5, 1, .w1c, 0, .every, 1, 0⟩
/-- LANE_EVT.STRMERR [4:4], 17_lanes.md R546: A stream write failed -/
def F.LANE_EVT_STRMERR : Field := ⟨594, 4, 1, .w1c, 0, .every, 1, 0⟩
/-- LANE_EVT.DROP [3:3], 17_lanes.md R546: A received word was discarded -/
def F.LANE_EVT_DROP : Field := ⟨595, 3, 1, .w1c, 0, .every, 1, 0⟩
/-- LANE_EVT.TRAINFAIL [2:2], 17_lanes.md R546: Training failed (R525) -/
def F.LANE_EVT_TRAINFAIL : Field := ⟨596, 2, 1, .w1c, 0, .every, 1, 0⟩
/-- LANE_EVT.GAP [1:1], 17_lanes.md R546: A loss of input was bridged -/
def F.LANE_EVT_GAP : Field := ⟨597, 1, 1, .w1c, 0, .every, 1, 0⟩
/-- LANE_EVT.TRUNC [0:0], 17_lanes.md R546: A burst closed with TRUNC -/
def F.LANE_EVT_TRUNC : Field := ⟨598, 0, 1, .w1c, 0, .every, 1, 0⟩
/-- RX_DROP_CNT.COUNT [31:0], 17_lanes.md R546: RX_DROP_CNT -/
def F.RX_DROP_CNT_COUNT : Field := ⟨599, 0, 32, .hw, 0, .every, 1, 0⟩
/-- BURST_CNT.TRUNC_CNT [63:32], 17_lanes.md R546: Bursts truncated -/
def F.BURST_CNT_TRUNC_CNT : Field := ⟨600, 32, 32, .hw, 0, .every, 1, 0⟩
/-- BURST_CNT.GAP_CNT [31:0], 17_lanes.md R546: Losses bridged -/
def F.BURST_CNT_GAP_CNT : Field := ⟨601, 0, 32, .hw, 0, .every, 1, 0⟩
/-- LANE_CNT.TX_UNDER_CNT [63:32], 17_lanes.md R546: Fill words sent for lack of data -/
def F.LANE_CNT_TX_UNDER_CNT : Field := ⟨602, 32, 32, .hw, 0, .every, 1, 0⟩
/-- LANE_CNT.PRBS_ERR_CNT [31:0], 17_lanes.md R546: Bit errors (R529) -/
def F.LANE_CNT_PRBS_ERR_CNT : Field := ⟨603, 0, 32, .hw, 0, .every, 1, 0⟩
/-- FEC_CNT.FEC_UE_CNT [63:32], 17_lanes.md R546: Uncorrectable codewords -/
def F.FEC_CNT_FEC_UE_CNT : Field := ⟨604, 32, 32, .hw, 0, .every, 1, 0⟩
/-- FEC_CNT.FEC_CE_CNT [31:0], 17_lanes.md R546: Corrected codewords -/
def F.FEC_CNT_FEC_CE_CNT : Field := ⟨605, 0, 32, .hw, 0, .every, 1, 0⟩
/-- STRM_BASE.BASE [51:12], 17_lanes.md R546: STRM_BASE -/
def F.STRM_BASE_BASE : Field := ⟨606, 12, 40, .rw, 0, .every, 1, 0⟩
/-- STRM_CFG.WRAP [8:8], 17_lanes.md R546: STRM_CFG: overwrite without regard to STRM_RP -/
def F.STRM_CFG_WRAP : Field := ⟨607, 8, 1, .rw, 0, .every, 1, 0⟩
/-- STRM_CFG.LOG2 [5:0], 17_lanes.md R546: Ring size 2^LOG2 bytes -/
def F.STRM_CFG_LOG2 : Field := ⟨608, 0, 6, .rw, 12, .every, 1, 0⟩
/-- STRM_WP.WP [39:12], 17_lanes.md R546: STRM_WP: next segment offset. Software may write it (R542). -/
def F.STRM_WP_WP : Field := ⟨609, 12, 28, .hw, 0, .every, 1, 0⟩
/-- STRM_RP.RP [39:12], 17_lanes.md R546: STRM_RP: offset that software has read up to -/
def F.STRM_RP_RP : Field := ⟨610, 12, 28, .rw, 0, .every, 1, 0⟩
/-- STRM_NOCERR_CNT.COUNT [31:0], 17_lanes.md R546: STRM_NOCERR_CNT -/
def F.STRM_NOCERR_CNT_COUNT : Field := ⟨611, 0, 32, .hw, 0, .every, 1, 0⟩
/-- TXS_BASE.BASE [51:6], 17_lanes.md R546: TXS_BASE -/
def F.TXS_BASE_BASE : Field := ⟨612, 6, 46, .rw, 0, .every, 1, 0⟩
/-- TXS_CTL.LOOP [63:63], 17_lanes.md R546: TXS_CTL: repeat (R544) -/
def F.TXS_CTL_LOOP : Field := ⟨613, 63, 1, .rw, 0, .every, 1, 0⟩
/-- TXS_CTL.DONE [62:62], 17_lanes.md R546: The buffer was sent once with LOOP = 0 -/
def F.TXS_CTL_DONE : Field := ⟨614, 62, 1, .w1c, 0, .every, 1, 0⟩
/-- TXS_CTL.LEN [39:6], 17_lanes.md R546: TXS_LEN in bytes; 0 sends LANE_FILL -/
def F.TXS_CTL_LEN : Field := ⟨615, 6, 34, .rw, 0, .every, 1, 0⟩
/-- TXS_ERR_CNT.COUNT [31:0], 17_lanes.md R546: TXS_ERR_CNT -/
def F.TXS_ERR_CNT_COUNT : Field := ⟨616, 0, 32, .hw, 0, .every, 1, 0⟩

/-! ### BAY -/

/-- BAY_CTL.HOLD_RESET [8:8], 03_fabric.md R98: 1: hold and reset the owning skein (R95) -/
def F.BAY_CTL_HOLD_RESET : Field := ⟨617, 8, 1, .wo, 0, .noStore, 1, 0⟩
/-- BAY_CTL.CLK_EN [7:0], 03_fabric.md R98: Bit k enables clock input k (R81) -/
def F.BAY_CTL_CLK_EN : Field := ⟨618, 0, 8, .rws, 255, .every, 1, 0⟩
/-- BAY_STATUS.OWNER [63:48], 03_fabric.md R98: Skein instance number, as the chapter 'Heddle: placement of work and data' defines; 0: … -/
def F.BAY_STATUS_OWNER : Field := ⟨619, 48, 16, .hw, 0, .every, 1, 0⟩
/-- BAY_STATUS.DX [44:40], 03_fabric.md R98: Column of this bay relative to the skein origin -/
def F.BAY_STATUS_DX : Field := ⟨620, 40, 5, .hw, 0, .every, 1, 0⟩
/-- BAY_STATUS.DY [36:32], 03_fabric.md R98: Row of this bay relative to the skein origin -/
def F.BAY_STATUS_DY : Field := ⟨621, 32, 5, .hw, 0, .every, 1, 0⟩
/-- BAY_STATUS.POISON [8:8], 03_fabric.md R98: POISON_IN of the skein (R86) -/
def F.BAY_STATUS_POISON : Field := ⟨622, 8, 1, .w1c, 0, .every, 1, 0⟩
/-- BAY_STATUS.ANCHORED [4:4], 03_fabric.md R98: At least one attach port of this bay is used by the skein -/
def F.BAY_STATUS_ANCHORED : Field := ⟨623, 4, 1, .hw, 0, .every, 1, 0⟩
/-- BAY_STATUS.RST_HELD [3:3], 03_fabric.md R98: Stage 3 applied -/
def F.BAY_STATUS_RST_HELD : Field := ⟨624, 3, 1, .hw, 1, .every, 1, 0⟩
/-- BAY_STATUS.WE_HELD [2:2], 03_fabric.md R98: Stage 2 applied -/
def F.BAY_STATUS_WE_HELD : Field := ⟨625, 2, 1, .hw, 1, .every, 1, 0⟩
/-- BAY_STATUS.OUT_HELD [1:1], 03_fabric.md R98: Stage 1 applied -/
def F.BAY_STATUS_OUT_HELD : Field := ⟨626, 1, 1, .hw, 1, .every, 1, 0⟩
/-- BAY_STATUS.LOADED [0:0], 03_fabric.md R98: The bay holds frames of an image that passed its end-of-image check -/
def F.BAY_STATUS_LOADED : Field := ⟨627, 0, 1, .hw, 0, .every, 1, 0⟩
/-- BAY_CLK_BIND.BOUND [5:5] step 6, 03_fabric.md R98: clock input k is bound -/
def F.BAY_CLK_BIND_BOUND : Field := ⟨628, 5, 1, .hw, 0, .every, 8, 6⟩
/-- BAY_CLK_BIND.LINE [4:0] step 6, 03_fabric.md R98: global line of input k -/
def F.BAY_CLK_BIND_LINE : Field := ⟨629, 0, 5, .hw, 0, .every, 8, 6⟩
/-- BAY_BOUNDARY.WEST_EN [31:24], 03_fabric.md R98: Bit g: outgoing group g on the west side is enabled -/
def F.BAY_BOUNDARY_WEST_EN : Field := ⟨630, 24, 8, .hw, 0, .every, 1, 0⟩
/-- BAY_BOUNDARY.SOUTH_EN [23:16], 03_fabric.md R98: The same for the south side -/
def F.BAY_BOUNDARY_SOUTH_EN : Field := ⟨631, 16, 8, .hw, 0, .every, 1, 0⟩
/-- BAY_BOUNDARY.EAST_EN [15:8], 03_fabric.md R98: The same for the east side -/
def F.BAY_BOUNDARY_EAST_EN : Field := ⟨632, 8, 8, .hw, 0, .every, 1, 0⟩
/-- BAY_BOUNDARY.NORTH_EN [7:0], 03_fabric.md R98: The same for the north side -/
def F.BAY_BOUNDARY_NORTH_EN : Field := ⟨633, 0, 8, .hw, 0, .every, 1, 0⟩
/-- BAY_POISON_CNT.COUNT [31:0], 03_fabric.md R98: Poisoned beats delivered to this bay's port, saturating (R44). Software may write it … -/
def F.BAY_POISON_CNT_COUNT : Field := ⟨634, 0, 32, .hw, 0, .every, 1, 0⟩
/-- BAY_MEM_CE_CNT.COUNT [31:0], 04_block_memory.md R124: BAY_MEM_CE_CNT: correctable bytes, saturating (R44). Software may write it (counter … -/
def F.BAY_MEM_CE_CNT_COUNT : Field := ⟨635, 0, 32, .hw, 0, .every, 1, 0⟩
/-- BAY_MEM_UE_CNT.COUNT [31:0], 04_block_memory.md R124: BAY_MEM_UE_CNT: uncorrectable bytes, saturating. Software may write it (counter rule, … -/
def F.BAY_MEM_UE_CNT_COUNT : Field := ⟨636, 0, 32, .hw, 0, .every, 1, 0⟩
/-- BAY_MEM_LOG.VALID [63:63], 04_block_memory.md R124: The log holds a record -/
def F.BAY_MEM_LOG_VALID : Field := ⟨637, 63, 1, .w1c, 0, .every, 1, 0⟩
/-- BAY_MEM_LOG.UE [62:62], 04_block_memory.md R124: The record is of an uncorrectable byte -/
def F.BAY_MEM_LOG_UE : Field := ⟨638, 62, 1, .hw, 0, .every, 1, 0⟩
/-- BAY_MEM_LOG.PATH [61:60], 04_block_memory.md R124: 0b00 port A, 0b01 port B, 0b10 window path, 0b11 write-back check -/
def F.BAY_MEM_LOG_PATH : Field := ⟨639, 60, 2, .hw, 0, .every, 1, 0⟩
/-- BAY_MEM_LOG.BLOCK [52:48], 04_block_memory.md R124: Block 0–23 -/
def F.BAY_MEM_LOG_BLOCK : Field := ⟨640, 48, 5, .hw, 0, .every, 1, 0⟩
/-- BAY_MEM_LOG.BYTE [11:0], 04_block_memory.md R124: Block byte address of the failing byte -/
def F.BAY_MEM_LOG_BYTE : Field := ⟨641, 0, 12, .hw, 0, .every, 1, 0⟩
/-- BAY_COEF_SEL.SEL [31:0], 05_arithmetic_slices.md R156: Bit s: active bank of slice s when its SWAPSRC = 0 (R151) -/
def F.BAY_COEF_SEL_SEL : Field := ⟨642, 0, 32, .rws, 0, .every, 1, 0⟩
/-- BAY_COEF_ACT.PEND [63:32], 05_arithmetic_slices.md R156: Bit s: slice s has a pending SWAP_REQ -/
def F.BAY_COEF_ACT_PEND : Field := ⟨643, 32, 32, .hw, 0, .every, 1, 0⟩
/-- BAY_COEF_ACT.ACT [31:0], 05_arithmetic_slices.md R156: Bit s: the bank active in slice s, whatever its source -/
def F.BAY_COEF_ACT_ACT : Field := ⟨644, 0, 32, .hw, 0, .every, 1, 0⟩
/-- BAY_SLICE_FLAG.YOV [63:32], 05_arithmetic_slices.md R156: Bit s: slice s produced YOV = 1 -/
def F.BAY_SLICE_FLAG_YOV : Field := ⟨645, 32, 32, .w1c, 0, .every, 1, 0⟩
/-- BAY_SLICE_FLAG.OVF [31:0], 05_arithmetic_slices.md R156: Bit s: slice s produced OVF = 1 -/
def F.BAY_SLICE_FLAG_OVF : Field := ⟨646, 0, 32, .w1c, 0, .every, 1, 0⟩
/-- XLATE0.VALID [63:63], 10_heddle_placement.md R325: The entry is in use -/
def F.XLATE0_VALID : Field := ⟨647, 63, 1, .hw, 0, .every, 1, 0⟩
/-- XLATE0.RO [62:62], 10_heddle_placement.md R325: Writes through the entry are refused -/
def F.XLATE0_RO : Field := ⟨648, 62, 1, .hw, 0, .every, 1, 0⟩
/-- XLATE0.SPOOL_ID [59:48], 10_heddle_placement.md R325: Spool, 1–4,095 -/
def F.XLATE0_SPOOL_ID : Field := ⟨649, 48, 12, .hw, 0, .every, 1, 0⟩
/-- XLATE0.HANDLE [47:32], 10_heddle_placement.md R325: Handle named by the skein -/
def F.XLATE0_HANDLE : Field := ⟨650, 32, 16, .hw, 0, .every, 1, 0⟩
/-- XLATE0.SIZE [31:0], 10_heddle_placement.md R325: Spool size in 4 KiB granules -/
def F.XLATE0_SIZE : Field := ⟨651, 0, 32, .hw, 0, .every, 1, 0⟩
/-- XLATE1.BASE [51:12], 10_heddle_placement.md R325: Spool base, local address bits [51:12], key ID bits included -/
def F.XLATE1_BASE : Field := ⟨652, 12, 40, .hw, 0, .every, 1, 0⟩
/-- BAY_SCRUB.CAPBUSY [16:16], 11_scrub_capture.md R362: The bay's capture store is busy (R356) -/
def F.BAY_SCRUB_CAPBUSY : Field := ⟨653, 16, 1, .hw, 0, .every, 1, 0⟩
/-- BAY_SCRUB.UE_ACT [9:8], 11_scrub_capture.md R362: Action on UE_ESSENTIAL (R348). Software may write it in an occupied bay (R346). -/
def F.BAY_SCRUB_UE_ACT : Field := ⟨654, 8, 2, .hw, 0, .every, 1, 0⟩
/-- BAY_SCRUB.CE_IRQ [4:4], 11_scrub_capture.md R362: Interrupt on CE_ESSENTIAL (R347). Software may write it as UE_ACT. -/
def F.BAY_SCRUB_CE_IRQ : Field := ⟨655, 4, 1, .hw, 0, .every, 1, 0⟩
/-- BAY_SCRUB.UE [1:1], 11_scrub_capture.md R362: The skein has had a UE_ESSENTIAL frame -/
def F.BAY_SCRUB_UE : Field := ⟨656, 1, 1, .w1c, 0, .every, 1, 0⟩
/-- BAY_SCRUB.CE [0:0], 11_scrub_capture.md R362: The skein has had a CE_ESSENTIAL correction -/
def F.BAY_SCRUB_CE : Field := ⟨657, 0, 1, .w1c, 0, .every, 1, 0⟩
/-- BAY_BIST.CONSENT [1:1], 24_bist_ageing.md R696: consent of the owning skein to self-test (R696) -/
def F.BAY_BIST_CONSENT : Field := ⟨658, 1, 1, .hw, 0, .every, 1, 0⟩
/-- BAY_BIST.CAPBUSY [0:0], 24_bist_ageing.md R696: repeats BAY_SCRUB.CAPBUSY -/
def F.BAY_BIST_CAPBUSY : Field := ⟨659, 0, 1, .hw, 0, .every, 1, 0⟩

/-! ### SC -/

/-- SC_CTL.START [1:1], 12_signal_cores.md R393: SC_CTL: start a core held in reset (R393) -/
def F.SC_CTL_START : Field := ⟨660, 1, 1, .wo, 0, .noStore, 1, 0⟩
/-- SC_CTL.RESET [0:0], 12_signal_cores.md R393: SC_CTL: reset and hold the core -/
def F.SC_CTL_RESET : Field := ⟨661, 0, 1, .wo, 0, .noStore, 1, 0⟩
/-- SC_ENTRY.ENTRY [11:0], 12_signal_cores.md R393: SC_ENTRY: first bundle for START -/
def F.SC_ENTRY_ENTRY : Field := ⟨662, 0, 12, .rw, 0, .every, 1, 0⟩
/-- SC_STATUS.LACT [8:8], 12_signal_cores.md R393: SC_STATUS: loop active -/
def F.SC_STATUS_LACT : Field := ⟨663, 8, 1, .hw, 0, .every, 1, 0⟩
/-- SC_STATUS.INTRAP [4:4], 12_signal_cores.md R393: In a trap handler -/
def F.SC_STATUS_INTRAP : Field := ⟨664, 4, 1, .hw, 0, .every, 1, 0⟩
/-- SC_STATUS.STATE [2:0], 12_signal_cores.md R393: 0b000 RESET_HELD, 0b001 RUN, 0b010 WAIT, 0b011 FAULT_HALT -/
def F.SC_STATUS_STATE : Field := ⟨665, 0, 3, .hw, 0, .every, 1, 0⟩
/-- SC_PC.PC [11:0], 12_signal_cores.md R393: SC_PC: last retired bundle -/
def F.SC_PC_PC : Field := ⟨666, 0, 12, .hw, 0, .every, 1, 0⟩
/-- SC_FAULT.VALID [63:63], 12_signal_cores.md R393: SC_FAULT: a fault-halt is recorded -/
def F.SC_FAULT_VALID : Field := ⟨667, 63, 1, .w1c, 0, .cold, 1, 0⟩
/-- SC_FAULT.FIRST [20:16], 12_signal_cores.md R393: CAUSE of the trap being handled -/
def F.SC_FAULT_FIRST : Field := ⟨668, 16, 5, .hw, 0, .cold, 1, 0⟩
/-- SC_FAULT.ACCESS [9:8], 12_signal_cores.md R393: Access kind of the halting condition, as SCAUSE.ACCESS -/
def F.SC_FAULT_ACCESS : Field := ⟨669, 8, 2, .hw, 0, .cold, 1, 0⟩
/-- SC_FAULT.CAUSE [4:0], 12_signal_cores.md R393: Cause of the halting condition -/
def F.SC_FAULT_CAUSE : Field := ⟨670, 0, 5, .hw, 0, .cold, 1, 0⟩
/-- SC_FAULT_PC.PC [11:0], 12_signal_cores.md R393: SC_FAULT_PC: bundle that met the condition -/
def F.SC_FAULT_PC_PC : Field := ⟨671, 0, 12, .hw, 0, .cold, 1, 0⟩
/-- SC_FAULT_ADDR.ADDR [63:0], 12_signal_cores.md R393: SC_FAULT_ADDR: address the condition would have recorded -/
def F.SC_FAULT_ADDR_ADDR : Field := ⟨672, 0, 64, .hw, 0, .cold, 1, 0⟩
/-- SC_STEAL.COUNT [31:0], 12_signal_cores.md R393: SC_STEAL: cycles taken from the core (R368), saturating. Software may write it … -/
def F.SC_STEAL_COUNT : Field := ⟨673, 0, 32, .hw, 0, .every, 1, 0⟩
/-- SC_MEM_CE_CNT.COUNT [31:0], 12_signal_cores.md R393: SC_MEM_CE_CNT: correctable bytes, as SC_STEAL -/
def F.SC_MEM_CE_CNT_COUNT : Field := ⟨674, 0, 32, .hw, 0, .every, 1, 0⟩
/-- SC_MEM_UE_CNT.COUNT [31:0], 12_signal_cores.md R393: SC_MEM_UE_CNT: uncorrectable bytes, as SC_STEAL -/
def F.SC_MEM_UE_CNT_COUNT : Field := ⟨675, 0, 32, .hw, 0, .every, 1, 0⟩
/-- SC_MEM_LOG.VALID [63:63], 12_signal_cores.md R393: SC_MEM_LOG: a record is held -/
def F.SC_MEM_LOG_VALID : Field := ⟨676, 63, 1, .w1c, 0, .every, 1, 0⟩
/-- SC_MEM_LOG.UE [62:62], 12_signal_cores.md R393: The record is of an uncorrectable byte -/
def F.SC_MEM_LOG_UE : Field := ⟨677, 62, 1, .hw, 0, .every, 1, 0⟩
/-- SC_MEM_LOG.PATH [61:60], 12_signal_cores.md R393: 0b00 core data, 0b01 fetch, 0b10 NoC path, 0b11 write-back check -/
def F.SC_MEM_LOG_PATH : Field := ⟨678, 60, 2, .hw, 0, .every, 1, 0⟩
/-- SC_MEM_LOG.ARRAY [49:48], 12_signal_cores.md R393: 0 OB0, 1 OB1, 2 code memory -/
def F.SC_MEM_LOG_ARRAY : Field := ⟨679, 48, 2, .hw, 0, .every, 1, 0⟩
/-- SC_MEM_LOG.BYTE [15:0], 12_signal_cores.md R393: Byte offset within the array -/
def F.SC_MEM_LOG_BYTE : Field := ⟨680, 0, 16, .hw, 0, .every, 1, 0⟩

/-! ### MP -/

/-- MP_CTL.ZFILL [4:4], 15_memory_ports.md R477: MP_CTL: add step 9 to a training that starts -/
def F.MP_CTL_ZFILL : Field := ⟨681, 4, 1, .rw, 0, .every, 1, 0⟩
/-- MP_CTL.SR_EXIT [2:2], 15_memory_ports.md R477: Leave self-refresh (R460) -/
def F.MP_CTL_SR_EXIT : Field := ⟨682, 2, 1, .wo, 0, .noStore, 1, 0⟩
/-- MP_CTL.SR_ENTER [1:1], 15_memory_ports.md R477: Enter self-refresh (R459) -/
def F.MP_CTL_SR_ENTER : Field := ⟨683, 1, 1, .wo, 0, .noStore, 1, 0⟩
/-- MP_CTL.TRAIN [0:0], 15_memory_ports.md R477: Start training (R436) -/
def F.MP_CTL_TRAIN : Field := ⟨684, 0, 1, .wo, 0, .noStore, 1, 0⟩
/-- MP_STATUS.FAILCODE [63:56], 15_memory_ports.md R477: MP_STATUS: Table 15.7 -/
def F.MP_STATUS_FAILCODE : Field := ⟨685, 56, 8, .hw, 0, .cold, 1, 0⟩
/-- MP_STATUS.FAILSTEP [51:48], 15_memory_ports.md R477: Step that failed -/
def F.MP_STATUS_FAILSTEP : Field := ⟨686, 48, 4, .hw, 0, .cold, 1, 0⟩
/-- MP_STATUS.STEP [43:40], 15_memory_ports.md R477: Step in progress -/
def F.MP_STATUS_STEP : Field := ⟨687, 40, 4, .hw, 0, .every, 1, 0⟩
/-- MP_STATUS.STATE [2:0], 15_memory_ports.md R477: Table 15.2; R461 -/
def F.MP_STATUS_STATE : Field := ⟨688, 0, 3, .hw, 0, .cold, 1, 0⟩
/-- MP_GEOM.CAP_LOG2 [47:40], 15_memory_ports.md R477: MP_GEOM: capacity 2^CAP_LOG2 bytes; 0: none -/
def F.MP_GEOM_CAP_LOG2 : Field := ⟨689, 40, 8, .hw, 0, .cold, 1, 0⟩
/-- MP_GEOM.L [34:32], 15_memory_ports.md R477: log2 of logical ranks -/
def F.MP_GEOM_L : Field := ⟨690, 32, 3, .hw, 0, .cold, 1, 0⟩
/-- MP_GEOM.DENSITY [25:24], 15_memory_ports.md R477: 0: 16 Gb, 1: 32 Gb, 2: 64 Gb -/
def F.MP_GEOM_DENSITY : Field := ⟨691, 24, 2, .hw, 0, .cold, 1, 0⟩
/-- MP_GEOM.STACK [21:20], 15_memory_ports.md R477: log2 of 3DS height -/
def F.MP_GEOM_STACK : Field := ⟨692, 20, 2, .hw, 0, .cold, 1, 0⟩
/-- MP_GEOM.PRANKS [16:16], 15_memory_ports.md R477: 0: 1, 1: 2 physical ranks per DIMM -/
def F.MP_GEOM_PRANKS : Field := ⟨693, 16, 1, .hw, 0, .cold, 1, 0⟩
/-- MP_GEOM.DIMMS [12:12], 15_memory_ports.md R477: 0: 1 DIMM, 1: 2 DIMMs -/
def F.MP_GEOM_DIMMS : Field := ⟨694, 12, 1, .hw, 0, .cold, 1, 0⟩
/-- MP_GEOM.DRFM [8:8], 15_memory_ports.md R477: The module supports DRFM -/
def F.MP_GEOM_DRFM : Field := ⟨695, 8, 1, .hw, 0, .cold, 1, 0⟩
/-- MP_TEMP.HIREF [16:16], 15_memory_ports.md R477: MP_TEMP: doubled refresh rate in force (R454) -/
def F.MP_TEMP_HIREF : Field := ⟨696, 16, 1, .hw, 0, .every, 1, 0⟩
/-- MP_TEMP.TEMP1 [15:8], 15_memory_ports.md R477: DIMM 1 sensor, °C, signed -/
def F.MP_TEMP_TEMP1 : Field := ⟨697, 8, 8, .hw, 0, .every, 1, 0⟩
/-- MP_TEMP.TEMP0 [7:0], 15_memory_ports.md R477: DIMM 0 sensor, °C, signed -/
def F.MP_TEMP_TEMP0 : Field := ⟨698, 0, 8, .hw, 0, .every, 1, 0⟩
/-- MP_SCHED.AGE_LIMIT [31:16], 15_memory_ports.md R477: MP_SCHED: ns before a request takes precedence -/
def F.MP_SCHED_AGE_LIMIT : Field := ⟨699, 16, 16, .rw, 2000, .every, 1, 0⟩
/-- MP_SCHED.WQ_HI [13:8], 15_memory_ports.md R477: Drain start -/
def F.MP_SCHED_WQ_HI : Field := ⟨700, 8, 6, .rw, 48, .every, 1, 0⟩
/-- MP_SCHED.WQ_LO [5:0], 15_memory_ports.md R477: Drain stop -/
def F.MP_SCHED_WQ_LO : Field := ⟨701, 0, 6, .rw, 16, .every, 1, 0⟩
/-- MP_REF.REF_LIMIT [2:0], 15_memory_ports.md R477: MP_REF: debt that forces REFab (R453) -/
def F.MP_REF_REF_LIMIT : Field := ⟨702, 0, 3, .rw, 4, .every, 1, 0⟩
/-- MP_RH.THR_GAP [47:32], 15_memory_ports.md R477: MP_RH: ns between requests of a throttled initiator -/
def F.MP_RH_THR_GAP : Field := ⟨703, 32, 16, .rw, 200, .every, 1, 0⟩
/-- MP_RH.THR_TIME [31:16], 15_memory_ports.md R477: µs of throttling -/
def F.MP_RH_THR_TIME : Field := ⟨704, 16, 16, .rw, 64, .every, 1, 0⟩
/-- MP_RH.TRK_THRESH [15:0], 15_memory_ports.md R477: Tracker threshold; 0 acts as 1 -/
def F.MP_RH_TRK_THRESH : Field := ⟨705, 0, 16, .rw, 1024, .every, 1, 0⟩
/-- MP_RH_LOG.VALID [63:63], 15_memory_ports.md R477: MP_RH_LOG: an event is recorded -/
def F.MP_RH_LOG_VALID : Field := ⟨706, 63, 1, .w1c, 0, .every, 1, 0⟩
/-- MP_RH_LOG.SRCDEV [60:52], 15_memory_ports.md R477: Device of the initiator -/
def F.MP_RH_LOG_SRCDEV : Field := ⟨707, 52, 9, .hw, 0, .every, 1, 0⟩
/-- MP_RH_LOG.INIT [51:40], 15_memory_ports.md R477: Initiator throttled -/
def F.MP_RH_LOG_INIT : Field := ⟨708, 40, 12, .hw, 0, .every, 1, 0⟩
/-- MP_RH_LOG.RANK [39:36], 15_memory_ports.md R477: Logical rank -/
def F.MP_RH_LOG_RANK : Field := ⟨709, 36, 4, .hw, 0, .every, 1, 0⟩
/-- MP_RH_LOG.BG [34:32], 15_memory_ports.md R477: Bank group -/
def F.MP_RH_LOG_BG : Field := ⟨710, 32, 3, .hw, 0, .every, 1, 0⟩
/-- MP_RH_LOG.BANK [29:28], 15_memory_ports.md R477: Bank -/
def F.MP_RH_LOG_BANK : Field := ⟨711, 28, 2, .hw, 0, .every, 1, 0⟩
/-- MP_RH_LOG.ROW [17:0], 15_memory_ports.md R477: Row -/
def F.MP_RH_LOG_ROW : Field := ⟨712, 0, 18, .hw, 0, .every, 1, 0⟩
/-- MP_RH_CNT.RFM [63:32], 15_memory_ports.md R477: MP_RH_CNT: tracker events, saturating. Software may write it (counter rule, R55). -/
def F.MP_RH_CNT_RFM : Field := ⟨713, 32, 32, .hw, 0, .every, 1, 0⟩
/-- MP_RH_CNT.THROTTLE [31:0], 15_memory_ports.md R477: Throttles begun, as RFM -/
def F.MP_RH_CNT_THROTTLE : Field := ⟨714, 0, 32, .hw, 0, .every, 1, 0⟩
/-- MP_ECC.PATROL_INT [63:32], 15_memory_ports.md R477: MP_ECC: ns between patrol reads; 0: off -/
def F.MP_ECC_PATROL_INT : Field := ⟨715, 32, 32, .rw, 5000, .every, 1, 0⟩
/-- MP_ECC.LB_LIMIT [23:16], 15_memory_ports.md R477: Leaky-bucket limit; 0 acts as 1 -/
def F.MP_ECC_LB_LIMIT : Field := ⟨716, 16, 8, .rw, 64, .every, 1, 0⟩
/-- MP_ECC.LEAK_EXP [12:8], 15_memory_ports.md R477: Leak period 2^LEAK_EXP µs -/
def F.MP_ECC_LEAK_EXP : Field := ⟨717, 8, 5, .rw, 10, .every, 1, 0⟩
/-- MP_ECC.CE_IRQ [1:1], 15_memory_ports.md R477: Interrupt on each new log entry -/
def F.MP_ECC_CE_IRQ : Field := ⟨718, 1, 1, .rw, 0, .every, 1, 0⟩
/-- MP_ECC.CE_WB [0:0], 15_memory_ports.md R477: Corrected write-back (R469) -/
def F.MP_ECC_CE_WB : Field := ⟨719, 0, 1, .rw, 1, .every, 1, 0⟩
/-- MP_CE_CNT.COUNT [31:0], 15_memory_ports.md R477: MP_CE_CNT (R473). Software may write it (counter rule). -/
def F.MP_CE_CNT_COUNT : Field := ⟨720, 0, 32, .hw, 0, .every, 1, 0⟩
/-- MP_UE_CNT.COUNT [31:0], 15_memory_ports.md R477: MP_UE_CNT, as MP_CE_CNT -/
def F.MP_UE_CNT_COUNT : Field := ⟨721, 0, 32, .hw, 0, .every, 1, 0⟩
/-- MP_PSN_CNT.COUNT [31:0], 15_memory_ports.md R477: MP_PSN_CNT, as MP_CE_CNT -/
def F.MP_PSN_CNT_COUNT : Field := ⟨722, 0, 32, .hw, 0, .every, 1, 0⟩
/-- MP_LB.OVF [63:63], 15_memory_ports.md R477: MP_LB: the bucket overflowed (R475) -/
def F.MP_LB_OVF : Field := ⟨723, 63, 1, .w1c, 0, .every, 1, 0⟩
/-- MP_LB.COUNT [7:0], 15_memory_ports.md R477: Bucket level -/
def F.MP_LB_COUNT : Field := ⟨724, 0, 8, .hw, 0, .every, 1, 0⟩
/-- MP_DEVMAP.DEV [19:0], 15_memory_ports.md R477: MP_DEVMAP: bit p, device p has been corrected -/
def F.MP_DEVMAP_DEV : Field := ⟨725, 0, 20, .w1c, 0, .every, 1, 0⟩
/-- MP_UE_LOG.VALID [63:63], 15_memory_ports.md R477: MP_UE_LOG: a UE is recorded -/
def F.MP_UE_LOG_VALID : Field := ⟨726, 63, 1, .w1c, 0, .every, 1, 0⟩
/-- MP_UE_LOG.PATROL [62:62], 15_memory_ports.md R477: Found by a patrol read -/
def F.MP_UE_LOG_PATROL : Field := ⟨727, 62, 1, .hw, 0, .every, 1, 0⟩
/-- MP_UE_LOG.ADDR [40:6], 15_memory_ports.md R477: Block port offset -/
def F.MP_UE_LOG_ADDR : Field := ⟨728, 6, 35, .hw, 0, .every, 1, 0⟩
/-- MP_PATROL.POS [40:7], 15_memory_ports.md R477: MP_PATROL: next patrol burst -/
def F.MP_PATROL_POS : Field := ⟨729, 7, 34, .hw, 0, .cold, 1, 0⟩
/-- MP_CELOG.VALID [63:63], 15_memory_ports.md R477: MP_CELOG(e), e = 0–15: entry in use -/
def F.MP_CELOG_VALID : Field := ⟨730, 63, 1, .w1c, 0, .every, 1, 0⟩
/-- MP_CELOG.DEVICE [60:56], 15_memory_ports.md R477: Position p last corrected -/
def F.MP_CELOG_DEVICE : Field := ⟨731, 56, 5, .hw, 0, .every, 1, 0⟩
/-- MP_CELOG.COUNT [55:48], 15_memory_ports.md R477: Corrections of the block, saturating at 255 -/
def F.MP_CELOG_COUNT : Field := ⟨732, 48, 8, .hw, 0, .every, 1, 0⟩
/-- MP_CELOG.ADDR [40:6], 15_memory_ports.md R477: Block port offset -/
def F.MP_CELOG_ADDR : Field := ⟨733, 6, 35, .hw, 0, .every, 1, 0⟩
/-- MP_REMAP.VALID [63:63], 15_memory_ports.md R477: MP_REMAP(e), e = 0–7: entry serves its block -/
def F.MP_REMAP_VALID : Field := ⟨734, 63, 1, .hw, 0, .cold, 1, 0⟩
/-- MP_REMAP.BUSY [62:62], 15_memory_ports.md R477: Install or release in progress -/
def F.MP_REMAP_BUSY : Field := ⟨735, 62, 1, .hw, 0, .cold, 1, 0⟩
/-- MP_REMAP.POISONED [61:61], 15_memory_ports.md R477: Filled from a UE or poisoned block -/
def F.MP_REMAP_POISONED : Field := ⟨736, 61, 1, .hw, 0, .cold, 1, 0⟩
/-- MP_REMAP.ADDR [40:6], 15_memory_ports.md R477: Block port offset; writes ignored while VALID or BUSY -/
def F.MP_REMAP_ADDR : Field := ⟨737, 6, 35, .rw, 0, .cold, 1, 0⟩
/-- MP_REMAP.RELEASE [1:1], 15_memory_ports.md R477: R472 -/
def F.MP_REMAP_RELEASE : Field := ⟨738, 1, 1, .wo, 0, .noStore, 1, 0⟩
/-- MP_REMAP.INSTALL [0:0], 15_memory_ports.md R477: R471 -/
def F.MP_REMAP_INSTALL : Field := ⟨739, 0, 1, .wo, 0, .noStore, 1, 0⟩

/-! ### WARP -/

/-- WARP_CFG.QUAD [13:8], 19_warp_links.md R592: WARP_CFG: quad of the port (R565) -/
def F.WARP_CFG_QUAD : Field := ⟨740, 8, 6, .rw, 0, .every, 1, 0⟩
/-- WARP_CFG.EN [0:0], 19_warp_links.md R592: Port enabled -/
def F.WARP_CFG_EN : Field := ⟨741, 0, 1, .rw, 0, .every, 1, 0⟩
/-- WARP_STATUS.STATE [63:60], 19_warp_links.md R592: WARP_STATUS: Table 19.4 -/
def F.WARP_STATUS_STATE : Field := ⟨742, 60, 4, .hw, 0, .every, 1, 0⟩
/-- WARP_STATUS.CAUSE [59:56], 19_warp_links.md R592: 1 KEEPALIVE, 2 REPLAY, 3 LANEFAIL, 4 SOFTWARE, 5 LOOP, 6 IDCONFLICT -/
def F.WARP_STATUS_CAUSE : Field := ⟨743, 56, 4, .hw, 0, .every, 1, 0⟩
/-- WARP_STATUS.PEER_PORT [51:48], 19_warp_links.md R592: Peer's port number -/
def F.WARP_STATUS_PEER_PORT : Field := ⟨744, 48, 4, .hw, 0, .every, 1, 0⟩
/-- WARP_STATUS.PEER_DEVV [44:44], 19_warp_links.md R592: The peer holds a DEV_ID -/
def F.WARP_STATUS_PEER_DEVV : Field := ⟨745, 44, 1, .hw, 0, .every, 1, 0⟩
/-- WARP_STATUS.PEER_DEV [40:32], 19_warp_links.md R592: Peer's DEV_ID -/
def F.WARP_STATUS_PEER_DEV : Field := ⟨746, 32, 9, .hw, 0, .every, 1, 0⟩
/-- PEER_UID.PEER_UID [63:0], 19_warp_links.md R592: Peer's DEV_UID -/
def F.PEER_UID : Field := ⟨747, 0, 64, .hw, 0, .every, 1, 0⟩
/-- WARP_ERRCNT.FEC_CORR_CNT [63:32], 19_warp_links.md R592: Code words corrected -/
def F.WARP_ERRCNT_FEC_CORR_CNT : Field := ⟨748, 32, 32, .hw, 0, .every, 1, 0⟩
/-- WARP_ERRCNT.CRC_ERR_CNT [31:0], 19_warp_links.md R592: Failed flits -/
def F.WARP_ERRCNT_CRC_ERR_CNT : Field := ⟨749, 0, 32, .hw, 0, .every, 1, 0⟩
/-- WARP_REPLAY.REPLAY_CNT [63:32], 19_warp_links.md R592: Replays -/
def F.WARP_REPLAY_REPLAY_CNT : Field := ⟨750, 32, 32, .hw, 0, .every, 1, 0⟩
/-- WARP_REPLAY.DOWN_CNT [31:0], 19_warp_links.md R592: Entries to DOWN -/
def F.WARP_REPLAY_DOWN_CNT : Field := ⟨751, 0, 32, .hw, 0, .every, 1, 0⟩
/-- WARP_DROP.REED_LATE_CNT [63:32], 19_warp_links.md R592: Reed symbols lost on this hop -/
def F.WARP_DROP_REED_LATE_CNT : Field := ⟨752, 32, 32, .hw, 0, .every, 1, 0⟩
/-- WARP_DROP.DROP_CNT [31:0], 19_warp_links.md R592: Packets or flits discarded (R569, R571) -/
def F.WARP_DROP_DROP_CNT : Field := ⟨753, 0, 32, .hw, 0, .every, 1, 0⟩
/-- TX_FLITS.TX_FLITS [63:0], 19_warp_links.md R592: Flits sent, wrapping -/
def F.TX_FLITS : Field := ⟨754, 0, 64, .hw, 0, .every, 1, 0⟩
/-- RX_FLITS.RX_FLITS [63:0], 19_warp_links.md R592: Flits received and not failed, wrapping -/
def F.RX_FLITS : Field := ⟨755, 0, 64, .hw, 0, .every, 1, 0⟩
/-- WARP_EVT.QUADERR [3:3], 19_warp_links.md R592: WARP_EVT: EN refused (R565) -/
def F.WARP_EVT_QUADERR : Field := ⟨756, 3, 1, .w1c, 0, .every, 1, 0⟩
/-- WARP_EVT.REJECT [2:2], 19_warp_links.md R592: The port entered REJECTED -/
def F.WARP_EVT_REJECT : Field := ⟨757, 2, 1, .w1c, 0, .every, 1, 0⟩
/-- WARP_EVT.DOWN [1:1], 19_warp_links.md R592: The port entered DOWN -/
def F.WARP_EVT_DOWN : Field := ⟨758, 1, 1, .w1c, 0, .every, 1, 0⟩
/-- WARP_EVT.UP [0:0], 19_warp_links.md R592: The port entered UP -/
def F.WARP_EVT_UP : Field := ⟨759, 0, 1, .w1c, 0, .every, 1, 0⟩

/-! ### CC -/

/-- CC_CTL.START [1:1], 07_virelo_isa.md R238: CC_CTL: start a core held in reset (R238) -/
def F.CC_CTL_START : Field := ⟨760, 1, 1, .wo, 0, .noStore, 1, 0⟩
/-- CC_CTL.RESET [0:0], 07_virelo_isa.md R238: CC_CTL: reset the core and hold it (R239) -/
def F.CC_CTL_RESET : Field := ⟨761, 0, 1, .wo, 0, .noStore, 1, 0⟩
/-- CC_ENTRY.ENTRY [63:2], 07_virelo_isa.md R238: CC_ENTRY: start address for START -/
def F.CC_ENTRY_ENTRY : Field := ⟨762, 2, 62, .rw, 0, .every, 1, 0⟩
/-- CC_STATUS.CTXID [31:16], 07_virelo_isa.md R238: CC_STATUS: current CTXID -/
def F.CC_STATUS_CTXID : Field := ⟨763, 16, 16, .hw, 0, .every, 1, 0⟩
/-- CC_STATUS.TW [8:8], 07_virelo_isa.md R238: CC_STATUS: in the trap window -/
def F.CC_STATUS_TW : Field := ⟨764, 8, 1, .hw, 0, .every, 1, 0⟩
/-- CC_STATUS.TASK [4:4], 07_virelo_isa.md R238: CC_STATUS: at task level -/
def F.CC_STATUS_TASK : Field := ⟨765, 4, 1, .hw, 0, .every, 1, 0⟩
/-- CC_STATUS.STATE [2:0], 07_virelo_isa.md R238: CC_STATUS: 0b000 RESET_HELD, 0b001 RUN, 0b010 WAIT, 0b011 FAULT_HALT -/
def F.CC_STATUS_STATE : Field := ⟨766, 0, 3, .hw, 0, .every, 1, 0⟩
/-- CC_PC.PC [63:0], 07_virelo_isa.md R238: CC_PC: address of the last retired instruction -/
def F.CC_PC_PC : Field := ⟨767, 0, 64, .hw, 0, .every, 1, 0⟩
/-- CC_FAULT.VALID [63:63], 08_virelo_exceptions.md R252: CC_FAULT: a fault-halt has been recorded -/
def F.CC_FAULT_VALID : Field := ⟨768, 63, 1, .w1c, 0, .cold, 1, 0⟩
/-- CC_FAULT.FIRST [20:16], 08_virelo_exceptions.md R252: CC_FAULT: TCAUSE.CAUSE of the trap being handled -/
def F.CC_FAULT_FIRST : Field := ⟨769, 16, 5, .hw, 0, .cold, 1, 0⟩
/-- CC_FAULT.ACCESS [9:8], 08_virelo_exceptions.md R252: CC_FAULT: access kind of the halting condition, coded as TCAUSE.ACCESS -/
def F.CC_FAULT_ACCESS : Field := ⟨770, 8, 2, .hw, 0, .cold, 1, 0⟩
/-- CC_FAULT.CAUSE [4:0], 08_virelo_exceptions.md R252: CC_FAULT: cause code of the halting condition -/
def F.CC_FAULT_CAUSE : Field := ⟨771, 0, 5, .hw, 0, .cold, 1, 0⟩
/-- CC_FAULT_PC.PC [63:0], 08_virelo_exceptions.md R252: CC_FAULT_PC: address of the instruction or fetch that met the condition -/
def F.CC_FAULT_PC_PC : Field := ⟨772, 0, 64, .hw, 0, .cold, 1, 0⟩
/-- CC_FAULT_ADDR.ADDR [63:0], 08_virelo_exceptions.md R252: CC_FAULT_ADDR: address that the condition would have recorded in TADDR -/
def F.CC_FAULT_ADDR_ADDR : Field := ⟨773, 0, 64, .hw, 0, .cold, 1, 0⟩
/-- LPQ_BASE.BASE [51:6], 09_loom_programs.md R301: LPQ_BASE: submission ring, 64-byte aligned, DRAM or scratchpad -/
def F.LPQ_BASE_BASE : Field := ⟨774, 6, 46, .rw, 0, .cold, 1, 0⟩
/-- LPQ_CFG.EN [8:8], 09_loom_programs.md R301: LPQ_CFG: intake enabled -/
def F.LPQ_CFG_EN : Field := ⟨775, 8, 1, .rw, 0, .cold, 1, 0⟩
/-- LPQ_CFG.LOG2N [3:0], 09_loom_programs.md R301: LPQ_CFG: ring of 2^LOG2N entries; values above 12 act as 12 -/
def F.LPQ_CFG_LOG2N : Field := ⟨776, 0, 4, .rw, 0, .cold, 1, 0⟩
/-- LPQ_TAIL.TAIL [11:0], 09_loom_programs.md R301: LPQ_TAIL: next entry the submitter writes -/
def F.LPQ_TAIL_TAIL : Field := ⟨777, 0, 12, .rw, 0, .every, 1, 0⟩
/-- LPQ_HEAD.HEAD [11:0], 09_loom_programs.md R301: LPQ_HEAD: next entry the intake takes. Software may write it (R299). -/
def F.LPQ_HEAD_HEAD : Field := ⟨778, 0, 12, .hw, 0, .every, 1, 0⟩
/-- LCQ_BASE.BASE [51:4], 09_loom_programs.md R301: LCQ_BASE: completion ring, 16-byte aligned -/
def F.LCQ_BASE_BASE : Field := ⟨779, 4, 48, .rw, 0, .cold, 1, 0⟩
/-- LCQ_CFG.LOG2N [3:0], 09_loom_programs.md R301: LCQ_CFG: as LPQ_CFG -/
def F.LCQ_CFG_LOG2N : Field := ⟨780, 0, 4, .rw, 0, .cold, 1, 0⟩
/-- LCQ_TAIL.TAIL [11:0], 09_loom_programs.md R301: LCQ_TAIL: next entry hardware writes -/
def F.LCQ_TAIL_TAIL : Field := ⟨781, 0, 12, .hw, 0, .every, 1, 0⟩
/-- LCQ_HEAD.HEAD [11:0], 09_loom_programs.md R301: LCQ_HEAD: next entry the consumer reads -/
def F.LCQ_HEAD_HEAD : Field := ⟨782, 0, 12, .rw, 0, .every, 1, 0⟩
/-- CC_PROG.LDM_PAGES [24:20], 09_loom_programs.md R301: CC_PROG: LDM program area size, 0–16 pages of 4 KiB -/
def F.CC_PROG_LDM_PAGES : Field := ⟨783, 20, 5, .rw, 0, .cold, 1, 0⟩
/-- CC_PROG.LDM_OFF [19:16], 09_loom_programs.md R301: CC_PROG: LDM program area start, in 4 KiB pages -/
def F.CC_PROG_LDM_OFF : Field := ⟨784, 16, 4, .rw, 0, .cold, 1, 0⟩
/-- CC_PROG.LIM_PAGES [8:4], 09_loom_programs.md R301: CC_PROG: LIM program area size, 0–16 pages -/
def F.CC_PROG_LIM_PAGES : Field := ⟨785, 4, 5, .rw, 0, .cold, 1, 0⟩
/-- CC_PROG.LIM_OFF [3:0], 09_loom_programs.md R301: CC_PROG: LIM program area start, in pages -/
def F.CC_PROG_LIM_OFF : Field := ⟨786, 0, 4, .rw, 0, .cold, 1, 0⟩
/-- LP_STATUS.LAST_CODE [15:8], 09_loom_programs.md R301: LP_STATUS: code of the last package taken -/
def F.LP_STATUS_LAST_CODE : Field := ⟨787, 8, 8, .hw, 0, .every, 1, 0⟩
/-- LP_STATUS.STATE [1:0], 09_loom_programs.md R301: LP_STATUS: 0 idle, 1 reading, 2 ready, 3 active -/
def F.LP_STATUS_STATE : Field := ⟨788, 0, 2, .hw, 0, .every, 1, 0⟩

/-! ### VSR -/

/-- PSTATE.TW [8:8], 07_virelo_isa.md R219: PSTATE: the core is in the trap window -/
def F.PSTATE_TW : Field := ⟨789, 8, 1, .ro, 0, .every, 1, 0⟩
/-- PSTATE.TRAPDZ [2:2], 07_virelo_isa.md R219: 1: division by zero takes the DZ trap (R229) -/
def F.PSTATE_TRAPDZ : Field := ⟨790, 2, 1, .rw, 0, .every, 1, 0⟩
/-- PSTATE.IE [1:1], 07_virelo_isa.md R219: 1: interrupts are taken -/
def F.PSTATE_IE : Field := ⟨791, 1, 1, .rw, 0, .every, 1, 0⟩
/-- PSTATE.TASK [0:0], 07_virelo_isa.md R219: 0: supervisor. 1: task. -/
def F.PSTATE_TASK : Field := ⟨792, 0, 1, .rw, 0, .every, 1, 0⟩
/-- FLAGS.DZ [4:4], 07_virelo_isa.md R219: FLAGS: sticky division-by-zero flag -/
def F.FLAGS_DZ : Field := ⟨793, 4, 1, .rw, 0, .every, 1, 0⟩
/-- FLAGS.NZCV [3:0], 07_virelo_isa.md R219: FLAGS: N [3], Z [2], C [1], V [0] -/
def F.FLAGS_NZCV : Field := ⟨794, 0, 4, .rw, 0, .every, 1, 0⟩
/-- CTXID.CTXID [15:0], 07_virelo_isa.md R219: Context identifier (R216) -/
def F.CTXID : Field := ⟨795, 0, 16, .rw, 0, .every, 1, 0⟩
/-- WSTATE.WDEPTH [11:8], 07_virelo_isa.md R219: WSTATE: resident caller windows, 0–10 -/
def F.WSTATE_WDEPTH : Field := ⟨796, 8, 4, .rw, 0, .every, 1, 0⟩
/-- WSTATE.CWP [3:0], 07_virelo_isa.md R219: WSTATE: current window, 0–11 -/
def F.WSTATE_CWP : Field := ⟨797, 0, 4, .rw, 0, .every, 1, 0⟩
/-- KEYATTR.KEYATTR [5:0], 07_virelo_isa.md R219: Key ID attribute of NoC accesses; 0: none (R207) -/
def F.KEYATTR : Field := ⟨798, 0, 6, .rw, 0, .every, 1, 0⟩
/-- CCFG.LIMRO [0:0], 07_virelo_isa.md R219: CCFG: 1: LIM is read-only until core reset -/
def F.CCFG_LIMRO : Field := ⟨799, 0, 1, .w1s, 0, .every, 1, 0⟩
/-- TAW_BASE.BASE [63:12], 07_virelo_isa.md R219: TAWn base, 4 KiB aligned, n = 0–7 -/
def F.TAW_BASE_BASE : Field := ⟨800, 12, 52, .rw, 0, .every, 1, 0⟩
/-- TAW_BASE.PERM [2:0], 07_virelo_isa.md R219: TAWn: X [2], W [1], R [0] -/
def F.TAW_BASE_PERM : Field := ⟨801, 0, 3, .rw, 0, .every, 1, 0⟩
/-- TAW_LAST.LAST [63:12], 07_virelo_isa.md R219: TAWn: base of the last 4 KiB page covered -/
def F.TAW_LAST_LAST : Field := ⟨802, 12, 52, .rw, 0, .every, 1, 0⟩
/-- CACHE_BASE.BASE [63:6], 07_virelo_isa.md R219: CACHE_BASEn, 64-byte aligned, n = 0–3 -/
def F.CACHE_BASE_BASE : Field := ⟨803, 6, 58, .rw, 0, .every, 1, 0⟩
/-- CACHE_BASE.EN [0:0], 07_virelo_isa.md R219: Range n enabled -/
def F.CACHE_BASE_EN : Field := ⟨804, 0, 1, .rw, 0, .every, 1, 0⟩
/-- CACHE_LIM.LAST [63:6], 07_virelo_isa.md R219: CACHE_LIMn: base of the last line covered -/
def F.CACHE_LIM_LAST : Field := ⟨805, 6, 58, .rw, 0, .every, 1, 0⟩
/-- CYCLE.CYCLE [63:0], 07_virelo_isa.md R219: Control-domain cycles since core reset, wrapping -/
def F.CYCLE : Field := ⟨806, 0, 64, .ro, 0, .every, 1, 0⟩
/-- RETIRED.RETIRED [63:0], 07_virelo_isa.md R219: Instructions retired since core reset, wrapping -/
def F.RETIRED : Field := ⟨807, 0, 64, .ro, 0, .every, 1, 0⟩
/-- CORE_ID.CORE [2:0], 07_virelo_isa.md R219: CORE_ID: index of this core, 0–7 -/
def F.CORE_ID_CORE : Field := ⟨808, 0, 3, .ro, 0, .noStore, 1, 0⟩
/-- TBASE.BASE [63:11], 08_virelo_exceptions.md R246: TBASE: vector base, 2 KiB aligned -/
def F.TBASE_BASE : Field := ⟨809, 11, 53, .rw, 1126999888232448, .every, 1, 0⟩
/-- TPC.TPC [63:0], 08_virelo_exceptions.md R246: Return address. Software may write it. -/
def F.TPC : Field := ⟨810, 0, 64, .hw, 0, .every, 1, 0⟩
/-- TPSTATE.TRAPDZ [2:2], 08_virelo_exceptions.md R246: TPSTATE: saved PSTATE.TRAPDZ. Software may write it. -/
def F.TPSTATE_TRAPDZ : Field := ⟨811, 2, 1, .hw, 0, .every, 1, 0⟩
/-- TPSTATE.IE [1:1], 08_virelo_exceptions.md R246: TPSTATE: saved PSTATE.IE -/
def F.TPSTATE_IE : Field := ⟨812, 1, 1, .hw, 0, .every, 1, 0⟩
/-- TPSTATE.TASK [0:0], 08_virelo_exceptions.md R246: TPSTATE: saved PSTATE.TASK -/
def F.TPSTATE_TASK : Field := ⟨813, 0, 1, .hw, 0, .every, 1, 0⟩
/-- TCAUSE.ACCESS [9:8], 08_virelo_exceptions.md R246: TCAUSE: 0b00 none, 0b01 fetch, 0b10 load, atomic, cache maintenance or `FILL`, 0b11 … -/
def F.TCAUSE_ACCESS : Field := ⟨814, 8, 2, .hw, 0, .every, 1, 0⟩
/-- TCAUSE.CAUSE [4:0], 08_virelo_exceptions.md R246: TCAUSE: code from Table 8.1 -/
def F.TCAUSE_CAUSE : Field := ⟨815, 0, 5, .hw, 0, .every, 1, 0⟩
/-- TADDR.TADDR [63:0], 08_virelo_exceptions.md R246: Address recorded by the trap -/
def F.TADDR : Field := ⟨816, 0, 64, .hw, 0, .every, 1, 0⟩
/-- TINFO.TINFO [15:0], 08_virelo_exceptions.md R246: Value recorded by the trap -/
def F.TINFO : Field := ⟨817, 0, 16, .hw, 0, .every, 1, 0⟩
/-- SERR_ADDR.ADDR [63:0], 08_virelo_exceptions.md R246: SERR_ADDR: address of the first failed store -/
def F.SERR_ADDR_ADDR : Field := ⟨818, 0, 64, .hw, 0, .every, 1, 0⟩
/-- SERR.VALID [63:63], 08_virelo_exceptions.md R246: SERR: a store error is recorded -/
def F.SERR_VALID : Field := ⟨819, 63, 1, .w1c, 0, .every, 1, 0⟩
/-- SERR.COUNT [31:16], 08_virelo_exceptions.md R246: SERR: failed stores, the recorded one included (R254), saturating (R44). Software may … -/
def F.SERR_COUNT : Field := ⟨820, 16, 16, .hw, 0, .every, 1, 0⟩
/-- SERR.CODE [7:0], 08_virelo_exceptions.md R246: SERR: NoC error code of the first failed store -/
def F.SERR_CODE : Field := ⟨821, 0, 8, .hw, 0, .every, 1, 0⟩

/-! ### SSR -/

/-- S_SSTATUS.PLACT [4:4], 12_signal_cores.md R373: SSTATUS: LACT saved at trap entry -/
def F.S_SSTATUS_PLACT : Field := ⟨822, 4, 1, .hw, 0, .every, 1, 0⟩
/-- S_SSTATUS.LACT [3:3], 12_signal_cores.md R373: A `REP` loop is active -/
def F.S_SSTATUS_LACT : Field := ⟨823, 3, 1, .ro, 0, .every, 1, 0⟩
/-- S_SSTATUS.INTRAP [2:2], 12_signal_cores.md R373: In a trap handler -/
def F.S_SSTATUS_INTRAP : Field := ⟨824, 2, 1, .ro, 0, .every, 1, 0⟩
/-- S_SSTATUS.PIE [1:1], 12_signal_cores.md R373: IE saved at trap entry -/
def F.S_SSTATUS_PIE : Field := ⟨825, 1, 1, .hw, 0, .every, 1, 0⟩
/-- S_SSTATUS.IE [0:0], 12_signal_cores.md R373: Interrupts are taken -/
def F.S_SSTATUS_IE : Field := ⟨826, 0, 1, .rw, 0, .every, 1, 0⟩
/-- S_SFLAGS.IXOVF [9:6], 12_signal_cores.md R373: SFLAGS: bit 6 + d, index overflow of ACCd. Software may write it. -/
def F.S_SFLAGS_IXOVF : Field := ⟨827, 6, 4, .hw, 0, .every, 1, 0⟩
/-- S_SFLAGS.OVX [5:5], 12_signal_cores.md R373: `EXT` result out of range, sticky. Software may write it. -/
def F.S_SFLAGS_OVX : Field := ⟨828, 5, 1, .hw, 0, .every, 1, 0⟩
/-- S_SFLAGS.OVA [4:1], 12_signal_cores.md R373: Bit 1 + d: ACCd left its range, sticky. Software may write it. -/
def F.S_SFLAGS_OVA : Field := ⟨829, 1, 4, .hw, 0, .every, 1, 0⟩
/-- S_SFLAGS.OV24 [0:0], 12_signal_cores.md R373: A 24-bit result left its range, sticky. Software may write it. -/
def F.S_SFLAGS_OV24 : Field := ⟨830, 0, 1, .hw, 0, .every, 1, 0⟩
/-- S_RCFG.RRB [12:8], 12_signal_cores.md R373: RCFG: rotating base. Software may write it (R370). -/
def F.S_RCFG_RRB : Field := ⟨831, 8, 5, .hw, 0, .every, 1, 0⟩
/-- S_RCFG.RSIZE [1:0], 12_signal_cores.md R373: Rotating region code (R370) -/
def F.S_RCFG_RSIZE : Field := ⟨832, 0, 2, .rw, 0, .every, 1, 0⟩
/-- S_SVEC.TVEC [11:6], 12_signal_cores.md R373: Vector base, in units of 64 bundles -/
def F.S_SVEC_TVEC : Field := ⟨833, 6, 6, .rw, 0, .every, 1, 0⟩
/-- S_STPC.STPC [11:0], 12_signal_cores.md R373: Return bundle. Software may write it. -/
def F.S_STPC_STPC : Field := ⟨834, 0, 12, .hw, 0, .every, 1, 0⟩
/-- S_SCAUSE.SLOT [9:8], 12_signal_cores.md R373: SCAUSE: 0 none, 1 M1, 2 M2, 3 fetch -/
def F.S_SCAUSE_SLOT : Field := ⟨835, 8, 2, .hw, 0, .every, 1, 0⟩
/-- S_SCAUSE.ACCESS [7:6], 12_signal_cores.md R373: 0b00 none, 0b01 fetch, 0b10 load, 0b11 store -/
def F.S_SCAUSE_ACCESS : Field := ⟨836, 6, 2, .hw, 0, .every, 1, 0⟩
/-- S_SCAUSE.CAUSE [4:0], 12_signal_cores.md R373: Table 12.11 -/
def F.S_SCAUSE_CAUSE : Field := ⟨837, 0, 5, .hw, 0, .every, 1, 0⟩
/-- S_STINFO.STINFO [15:0], 12_signal_cores.md R373: Value recorded by the trap -/
def F.S_STINFO_STINFO : Field := ⟨838, 0, 16, .hw, 0, .every, 1, 0⟩
/-- S_LR.LR [11:0], 12_signal_cores.md R373: Return bundle of `CALL`. Software may write it. -/
def F.S_LR_LR : Field := ⟨839, 0, 12, .hw, 0, .every, 1, 0⟩
/-- S_LCOUNT.LCOUNT [23:0], 12_signal_cores.md R373: Iterations left. Software may write it. -/
def F.S_LCOUNT_LCOUNT : Field := ⟨840, 0, 24, .hw, 0, .every, 1, 0⟩
/-- S_LSTART.LSTART [11:0], 12_signal_cores.md R373: First body bundle. Software may write it. -/
def F.S_LSTART_LSTART : Field := ⟨841, 0, 12, .hw, 0, .every, 1, 0⟩
/-- S_LEND.LEND [11:0], 12_signal_cores.md R373: Last body bundle. Software may write it. -/
def F.S_LEND_LEND : Field := ⟨842, 0, 12, .hw, 0, .every, 1, 0⟩
/-- S_SKEY.SKEY [5:0], 12_signal_cores.md R373: Key ID attribute; 0: none -/
def F.S_SKEY_SKEY : Field := ⟨843, 0, 6, .rw, 0, .every, 1, 0⟩
/-- S_CORE_ID.CORE_ID [6:0], 12_signal_cores.md R373: Index of this core, 0–95 -/
def F.S_CORE_ID_CORE_ID : Field := ⟨844, 0, 7, .ro, 0, .noStore, 1, 0⟩
/-- S_SERR.VALID [23:23], 12_signal_cores.md R373: SERR: a store error is recorded -/
def F.S_SERR_VALID : Field := ⟨845, 23, 1, .w1c, 0, .every, 1, 0⟩
/-- S_SERR.COUNT [15:8], 12_signal_cores.md R373: Store errors, saturating (R44). Software may write it (counter rule, R55). -/
def F.S_SERR_COUNT : Field := ⟨846, 8, 8, .hw, 0, .every, 1, 0⟩
/-- S_SERR.CODE [7:0], 12_signal_cores.md R373: NoC error code of the first failed store -/
def F.S_SERR_CODE : Field := ⟨847, 0, 8, .hw, 0, .every, 1, 0⟩
/-- S_STADDR.STADDR [63:0], 12_signal_cores.md R373: address recorded -/
def F.S_STADDR_STADDR : Field := ⟨848, 0, 64, .hw, 0, .every, 1, 0⟩
/-- S_SERR_ADDR.ADDR [63:0], 12_signal_cores.md R373: address of the first failed store -/
def F.S_SERR_ADDR_ADDR : Field := ⟨849, 0, 64, .hw, 0, .every, 1, 0⟩

end Sys2Proof.Machine
end

