-- ==== Sys2Proof/Machine/Registers.lean ====
section
/-!
DEFINITION. The catalogue of the registers: the block, offset, repetition and fields of each (R36 to R48), and the
list of the registers of each block that the register path of R404 looks up.
-/
namespace Sys2Proof.Machine

/-- STAGE_CTL, 02_registers.md R47. -/
def R.STAGE_CTL : Reg := ⟨.hdr, 0x0, 8, 1, [F.STAGE_CTL_DISCARD, F.STAGE_CTL_POLICY]⟩
/-- STAGE_PICK, 02_registers.md R47. -/
def R.STAGE_PICK : Reg := ⟨.hdr, 0x8, 8, 1, [F.STAGE_PICK_PICK]⟩
/-- UNIT_STATUS, 02_registers.md R47. -/
def R.UNIT_STATUS : Reg := ⟨.hdr, 0x10, 8, 1, [F.UNIT_STATUS_COLLIDE, F.UNIT_STATUS_ARMED, F.UNIT_STATUS_SPLIT, F.UNIT_STATUS_LATE, F.UNIT_STATUS_PENDING]⟩
/-- UNIT_ID, 02_registers.md R47. -/
def R.UNIT_ID : Reg := ⟨.hdr, 0x18, 8, 1, [F.UNIT_ID_FAMILY, F.UNIT_ID_INDEX, F.UNIT_ID_HDR_VER]⟩
/-- SEL, 02_registers.md R48. -/
def R.SEL : Reg := ⟨.fam, 0x0, 8, 1, [F.SEL_BCAST, F.SEL_INDEX]⟩
/-- FAMILY_INFO, 02_registers.md R48. -/
def R.FAMILY_INFO : Reg := ⟨.fam, 0x8, 8, 1, [F.FAMILY_INFO_FAMILY, F.FAMILY_INFO_COUNT]⟩
/-- DEV_ID, 02_registers.md R47. -/
def R.DEV_ID : Reg := ⟨.global, 0x100, 8, 1, [F.DEV_ID]⟩
/-- REVISION, 02_registers.md R47. -/
def R.REVISION : Reg := ⟨.global, 0x108, 8, 1, [F.REVISION]⟩
/-- INIT_ID, 02_registers.md R47. -/
def R.INIT_ID : Reg := ⟨.global, 0x110, 8, 1, [F.INIT_ID]⟩
/-- INIT_CTL, 02_registers.md R47. -/
def R.INIT_CTL : Reg := ⟨.global, 0x118, 8, 1, [F.INIT_CTL_SHADOW_VIEW]⟩
/-- ERR_REC, 02_registers.md R47. -/
def R.ERR_REC : Reg := ⟨.global, 0x120, 8, 1, [F.ERR_REC_ERR_OFFSET, F.ERR_REC_ERR_INIT]⟩
/-- ERR_STAT, 02_registers.md R47. -/
def R.ERR_STAT : Reg := ⟨.global, 0x128, 8, 1, [F.ERR_STAT_ERR_VALID, F.ERR_STAT_ERR_COUNT]⟩
/-- GRADE, 02_registers.md R47. -/
def R.GRADE : Reg := ⟨.global, 0x130, 8, 1, [F.GRADE_SPEED, F.GRADE_TEMP]⟩
/-- BOOT_STATUS, 08_virelo_exceptions.md R267. -/
def R.BOOT_STATUS : Reg := ⟨.global, 0x140, 8, 1, [F.BOOT_STATUS_DONE, F.BOOT_STATUS_FAILED, F.BOOT_STATUS_SLOT, F.BOOT_STATUS_CODE_B, F.BOOT_STATUS_CODE_A]⟩
/-- SPLL_CFG, 21_clocks.md R643. -/
def R.SPLL_CFG : Reg := ⟨.clk, 0x100, 16, 6, [F.SPLL_CFG_EN, F.SPLL_CFG_REF, F.SPLL_CFG_POSTDIV, F.SPLL_CFG_FBDIV, F.SPLL_CFG_PREDIV]⟩
/-- SPLL_STATUS, 21_clocks.md R643. -/
def R.SPLL_STATUS : Reg := ⟨.clk, 0x108, 16, 6, [F.SPLL_STATUS_LOCK, F.SPLL_STATUS_FAIL, F.SPLL_STATUS_FREQ_KHZ]⟩
/-- FPLL_CFG, 21_clocks.md R643. -/
def R.FPLL_CFG : Reg := ⟨.clk, 0x200, 16, 24, [F.FPLL_CFG_EN, F.FPLL_CFG_REF, F.FPLL_CFG_LANE, F.FPLL_CFG_POSTDIV, F.FPLL_CFG_FBDIV, F.FPLL_CFG_PREDIV, F.FPLL_CFG_ODIV]⟩
/-- FPLL_STATUS, 21_clocks.md R643. -/
def R.FPLL_STATUS : Reg := ⟨.clk, 0x208, 16, 24, [F.FPLL_STATUS_LOCK, F.FPLL_STATUS_FAIL, F.FPLL_STATUS_FREQ_KHZ]⟩
/-- GLINE_CFG, 21_clocks.md R643. -/
def R.GLINE_CFG : Reg := ⟨.clk, 0x400, 8, 4, [F.GLINE_CFG_EN, F.GLINE_CFG_SRC, F.GLINE_CFG_LANE, F.GLINE_CFG_K]⟩
/-- GLINE_FREQ, 21_clocks.md R643. -/
def R.GLINE_FREQ : Reg := ⟨.clk, 0x420, 8, 4, [F.GLINE_FREQ_FREQ_KHZ]⟩
/-- DOM_CTL, 21_clocks.md R643. -/
def R.DOM_CTL : Reg := ⟨.clk, 0x500, 16, 6, [F.DOM_CTL_ALT_EN, F.DOM_CTL_ALT, F.DOM_CTL_SRC, F.DOM_CTL_DDIV]⟩
/-- DOM_STATUS, 21_clocks.md R643. -/
def R.DOM_STATUS : Reg := ⟨.clk, 0x508, 16, 6, [F.DOM_STATUS_STATE, F.DOM_STATUS_CUR_SRC, F.DOM_STATUS_CUR_DDIV]⟩
/-- CLK_GOOD, 21_clocks.md R643. -/
def R.CLK_GOOD : Reg := ⟨.clk, 0x600, 8, 1, [F.CLK_GOOD_GOOD]⟩
/-- CLK_FAILEVT, 21_clocks.md R643. -/
def R.CLK_FAILEVT : Reg := ⟨.clk, 0x608, 8, 1, [F.CLK_FAILEVT_FAIL]⟩
/-- QREF_GOOD, 21_clocks.md R643. -/
def R.QREF_GOOD : Reg := ⟨.clk, 0x610, 8, 1, [F.QREF_GOOD_GOOD]⟩
/-- QREF_FAILEVT, 21_clocks.md R643. -/
def R.QREF_FAILEVT : Reg := ⟨.clk, 0x618, 8, 1, [F.QREF_FAILEVT_FAIL]⟩
/-- LINE_FORCED, 21_clocks.md R643. -/
def R.LINE_FORCED : Reg := ⟨.clk, 0x620, 8, 1, [F.LINE_FORCED_FORCED]⟩
/-- LINE_FORCE_CLR, 21_clocks.md R643. -/
def R.LINE_FORCE_CLR : Reg := ⟨.clk, 0x628, 8, 1, [F.LINE_FORCE_CLR_CLR]⟩
/-- CLK_ERR, 21_clocks.md R643. -/
def R.CLK_ERR : Reg := ⟨.clk, 0x630, 8, 1, [F.CLK_ERR_PLLCFG, F.CLK_ERR_SWERR, F.CLK_ERR_LINEBUSY, F.CLK_ERR_MEMBUSY]⟩
/-- PWR_MODE, 07_virelo_isa.md R235. -/
def R.PWR_MODE : Reg := ⟨.pwr, 0x100, 8, 1, [F.PWR_MODE_MODE]⟩
/-- PWR_STATUS, 23_power_reset.md R687. -/
def R.PWR_STATUS : Reg := ⟨.pwr, 0x108, 8, 1, [F.PWR_STATUS_ABANDONED, F.PWR_STATUS_WAKE_SRC, F.PWR_STATUS_LAST, F.PWR_STATUS_BLOCK]⟩
/-- PWR_WAKE_TIME, 23_power_reset.md R687. -/
def R.PWR_WAKE_TIME : Reg := ⟨.pwr, 0x110, 8, 1, [F.PWR_WAKE_TIME_TIME]⟩
/-- PWR_WAKE_GPIO, 23_power_reset.md R687. -/
def R.PWR_WAKE_GPIO : Reg := ⟨.pwr, 0x118, 8, 1, [F.PWR_WAKE_GPIO_BANKS]⟩
/-- RST_CTL, 23_power_reset.md R687. -/
def R.RST_CTL : Reg := ⟨.pwr, 0x120, 8, 1, [F.RST_CTL_WARM, F.RST_CTL_KEY]⟩
/-- RST_CAUSE, 23_power_reset.md R687. -/
def R.RST_CAUSE : Reg := ⟨.pwr, 0x128, 8, 1, [F.RST_CAUSE_CAUSE, F.RST_CAUSE_COUNT]⟩
/-- WDT_CFG, 23_power_reset.md R687. -/
def R.WDT_CFG : Reg := ⟨.pwr, 0x130, 8, 1, [F.WDT_CFG_EN, F.WDT_CFG_LOCK, F.WDT_CFG_ACTION, F.WDT_CFG_PERIOD_MS]⟩
/-- WDT_KICK, 23_power_reset.md R687. -/
def R.WDT_KICK : Reg := ⟨.pwr, 0x138, 8, 1, [F.WDT_KICK_KICK]⟩
/-- WDT_STATUS, 23_power_reset.md R687. -/
def R.WDT_STATUS : Reg := ⟨.pwr, 0x140, 8, 1, [F.WDT_STATUS_STAGE, F.WDT_STATUS_MS]⟩
/-- PWR_MEAS, 23_power_reset.md R687. -/
def R.PWR_MEAS : Reg := ⟨.pwr, 0x148, 8, 1, [F.PWR_MEAS_VIN_MV, F.PWR_MEAS_PIN_MW]⟩
/-- PWR_IIN, 23_power_reset.md R687. -/
def R.PWR_IIN : Reg := ⟨.pwr, 0x150, 8, 1, [F.PWR_IIN_IIN_CA]⟩
/-- PWR_LIMIT_MW, 23_power_reset.md R687. -/
def R.PWR_LIMIT_MW : Reg := ⟨.pwr, 0x158, 8, 1, [F.PWR_LIMIT_MW_LIMIT_MW]⟩
/-- PWR_EVT, 23_power_reset.md R687. -/
def R.PWR_EVT : Reg := ⟨.pwr, 0x160, 8, 1, [F.PWR_EVT_THERM, F.PWR_EVT_REQERR, F.PWR_EVT_RAIL, F.PWR_EVT_LIMIT]⟩
/-- PWR_RAIL_LOG, 23_power_reset.md R687. -/
def R.PWR_RAIL_LOG : Reg := ⟨.pwr, 0x168, 8, 1, [F.PWR_RAIL_LOG_VALID, F.PWR_RAIL_LOG_RAIL, F.PWR_RAIL_LOG_INDEX]⟩
/-- PWR_TEMP, 23_power_reset.md R687. -/
def R.PWR_TEMP : Reg := ⟨.pwr, 0x170, 8, 1, [F.PWR_TEMP_TJ]⟩
/-- PWR_GPIO_V, 23_power_reset.md R687. -/
def R.PWR_GPIO_V : Reg := ⟨.pwr, 0x200, 8, 20, [F.PWR_GPIO_V_READY, F.PWR_GPIO_V_VSEL]⟩
/-- PWR_CAP_MASK, 23_power_reset.md R687. -/
def R.PWR_CAP_MASK : Reg := ⟨.pwr, 0x500, 8, 12, [F.PWR_CAP_MASK_MASK]⟩
/-- PWR_BAY_V, 23_power_reset.md R687. -/
def R.PWR_BAY_V : Reg := ⟨.pwr, 0x1000, 8, 768, [F.PWR_BAY_V_MAXED, F.PWR_BAY_V_MV]⟩
/-- PWR_BAY_REQ, 23_power_reset.md R687. -/
def R.PWR_BAY_REQ : Reg := ⟨.pwr, 0x300, 8, 24, [F.PWR_BAY_REQ_REQ]⟩
/-- PWR_BAY_STATE, 23_power_reset.md R687. -/
def R.PWR_BAY_STATE : Reg := ⟨.pwr, 0x400, 8, 24, [F.PWR_BAY_STATE_STATE]⟩
/-- IRQ_SRC, 22_interrupts.md R662. -/
def R.IRQ_SRC : Reg := ⟨.irq, 0x8000, 8, 2048, [F.IRQ_SRC_ENABLE, F.IRQ_SRC_PENDING, F.IRQ_SRC_SWSET, F.IRQ_SRC_ACTIVE, F.IRQ_SRC_LEVEL, F.IRQ_SRC_LINE, F.IRQ_SRC_MERGED, F.IRQ_SRC_PRIO, F.IRQ_SRC_KIND, F.IRQ_SRC_INDEX]⟩
/-- IRQ_PEND, 22_interrupts.md R662. -/
def R.IRQ_PEND : Reg := ⟨.irq, 0xc000, 8, 32, [F.IRQ_PEND_PEND]⟩
/-- IRQ_ACT, 22_interrupts.md R662. -/
def R.IRQ_ACT : Reg := ⟨.irq, 0xc100, 8, 32, [F.IRQ_ACT_ACT]⟩
/-- BAY_PSN_SUM, 22_interrupts.md R662. -/
def R.BAY_PSN_SUM : Reg := ⟨.irq, 0xc200, 8, 12, [F.BAY_PSN_SUM_SUM]⟩
/-- BAY_MCE_SUM, 22_interrupts.md R662. -/
def R.BAY_MCE_SUM : Reg := ⟨.irq, 0xc260, 8, 12, [F.BAY_MCE_SUM_SUM]⟩
/-- BAY_MUE_SUM, 22_interrupts.md R662. -/
def R.BAY_MUE_SUM : Reg := ⟨.irq, 0xc2c0, 8, 12, [F.BAY_MUE_SUM_SUM]⟩
/-- IRQ_STATUS, 22_interrupts.md R662. -/
def R.IRQ_STATUS : Reg := ⟨.irq, 0x100, 8, 1, [F.IRQ_STATUS_EOIERR, F.IRQ_STATUS_TGTERR]⟩
/-- IRQ_HOST_EOI, 22_interrupts.md R662. -/
def R.IRQ_HOST_EOI : Reg := ⟨.irq, 0x108, 8, 1, [F.IRQ_HOST_EOI_SOURCE]⟩
/-- IRQ_CC_THRESH, 22_interrupts.md R662. -/
def R.IRQ_CC_THRESH : Reg := ⟨.irq, 0x200, 32, 8, [F.IRQ_CC_THRESH_THRESH]⟩
/-- IRQ_CC_EOI, 22_interrupts.md R662. -/
def R.IRQ_CC_EOI : Reg := ⟨.irq, 0x208, 32, 8, [F.IRQ_CC_EOI_SOURCE]⟩
/-- IRQ_CC_PRES, 22_interrupts.md R662. -/
def R.IRQ_CC_PRES : Reg := ⟨.irq, 0x210, 32, 8, [F.IRQ_CC_PRES_VALID, F.IRQ_CC_PRES_SOURCE]⟩
/-- IRQ_CC_COAL, 22_interrupts.md R662. -/
def R.IRQ_CC_COAL : Reg := ⟨.irq, 0x218, 32, 8, [F.IRQ_CC_COAL_COUNT, F.IRQ_CC_COAL_TIME]⟩
/-- IRQ_HOST_COAL, 22_interrupts.md R662. -/
def R.IRQ_HOST_COAL : Reg := ⟨.irq, 0x4000, 8, 2048, [F.IRQ_HOST_COAL_COUNT, F.IRQ_HOST_COAL_TIME]⟩
/-- IRQ_SC_THRESH, 22_interrupts.md R662. -/
def R.IRQ_SC_THRESH : Reg := ⟨.irq, 0x400, 32, 96, [F.IRQ_SC_THRESH_THRESH]⟩
/-- IRQ_SC_EOI, 22_interrupts.md R662. -/
def R.IRQ_SC_EOI : Reg := ⟨.irq, 0x408, 32, 96, [F.IRQ_SC_EOI_SOURCE]⟩
/-- IRQ_SC_PRES, 22_interrupts.md R662. -/
def R.IRQ_SC_PRES : Reg := ⟨.irq, 0x410, 32, 96, [F.IRQ_SC_PRES_VALID, F.IRQ_SC_PRES_SOURCE]⟩
/-- IRQ_SC_COAL, 22_interrupts.md R662. -/
def R.IRQ_SC_COAL : Reg := ⟨.irq, 0x418, 32, 96, [F.IRQ_SC_COAL_COUNT, F.IRQ_SC_COAL_TIME]⟩
/-- CFG_POLICY, 06_configuration_plane.md R199. -/
def R.CFG_POLICY : Reg := ⟨.cfg, 0x100, 8, 1, [F.CFG_POLICY_DIG_REVOKED, F.CFG_POLICY_DIG_PRESENT, F.CFG_POLICY_REQ_ENC, F.CFG_POLICY_REQ_SIG]⟩
/-- CFG_IKEY, 06_configuration_plane.md R199. -/
def R.CFG_IKEY : Reg := ⟨.cfg, 0x108, 8, 1, [F.CFG_IKEY_VALID]⟩
/-- CFG_LOAD, 06_configuration_plane.md R199. -/
def R.CFG_LOAD : Reg := ⟨.cfg, 0x110, 8, 1, [F.CFG_LOAD_LOADING, F.CFG_LOAD_CONSUMED]⟩
/-- CFG_FAULT, 06_configuration_plane.md R199. -/
def R.CFG_FAULT : Reg := ⟨.cfg, 0x118, 8, 1, [F.CFG_FAULT_VALID, F.CFG_FAULT_CODE, F.CFG_FAULT_OFFSET]⟩
/-- SCRUB_CTL, 11_scrub_capture.md R362. -/
def R.SCRUB_CTL : Reg := ⟨.cfg, 0x200, 8, 1, [F.SCRUB_CTL_CONT, F.SCRUB_CTL_RATE]⟩
/-- SCRUB_DEF, 11_scrub_capture.md R362. -/
def R.SCRUB_DEF : Reg := ⟨.cfg, 0x208, 8, 1, [F.SCRUB_DEF_UE_ACT, F.SCRUB_DEF_CE_IRQ]⟩
/-- SCRUB_STATUS, 11_scrub_capture.md R362. -/
def R.SCRUB_STATUS : Reg := ⟨.cfg, 0x210, 8, 1, [F.SCRUB_STATUS_ONEPASS, F.SCRUB_STATUS_SELV_UE, F.SCRUB_STATUS_SELV, F.SCRUB_STATUS_BAY, F.SCRUB_STATUS_FRAME]⟩
/-- SCRUB_PASS, 11_scrub_capture.md R362. -/
def R.SCRUB_PASS : Reg := ⟨.cfg, 0x218, 8, 1, [F.SCRUB_PASS_PASSES, F.SCRUB_PASS_LAST_US]⟩
/-- SCRUB_CNT0, 11_scrub_capture.md R362. -/
def R.SCRUB_CNT0 : Reg := ⟨.cfg, 0x220, 8, 1, [F.SCRUB_CNT0_CE_ESS, F.SCRUB_CNT0_CE_BEN]⟩
/-- SCRUB_CNT1, 11_scrub_capture.md R362. -/
def R.SCRUB_CNT1 : Reg := ⟨.cfg, 0x228, 8, 1, [F.SCRUB_CNT1_UE_ESS, F.SCRUB_CNT1_UE_BEN]⟩
/-- SCRUB_CNT2, 11_scrub_capture.md R362. -/
def R.SCRUB_CNT2 : Reg := ⟨.cfg, 0x230, 8, 1, [F.SCRUB_CNT2_MAPERR]⟩
/-- SCRUB_LOG, 11_scrub_capture.md R362. -/
def R.SCRUB_LOG : Reg := ⟨.cfg, 0x238, 8, 1, [F.SCRUB_LOG_VALID, F.SCRUB_LOG_CLASS, F.SCRUB_LOG_PATH, F.SCRUB_LOG_SELVAGE, F.SCRUB_LOG_FRAME, F.SCRUB_LOG_BAY, F.SCRUB_LOG_WORD, F.SCRUB_LOG_BIT]⟩
/-- HD_WEIGHT, 10_heddle_placement.md R335. -/
def R.HD_WEIGHT : Reg := ⟨.hd, 0x100, 8, 1, [F.HD_WEIGHT_W_EDGE, F.HD_WEIGHT_W_DIST, F.HD_WEIGHT_W_POWER, F.HD_WEIGHT_W_WEAR, F.HD_WEIGHT_W_HEALTH]⟩
/-- HD_SWEIGHT, 10_heddle_placement.md R335. -/
def R.HD_SWEIGHT : Reg := ⟨.hd, 0x108, 8, 1, [F.HD_SWEIGHT_W_FILL, F.HD_SWEIGHT_W_SDIST]⟩
/-- HD_STATUS, 10_heddle_placement.md R335. -/
def R.HD_STATUS : Reg := ⟨.hd, 0x110, 8, 1, [F.HD_STATUS_CONDEMN, F.HD_STATUS_POOLERR, F.HD_STATUS_MOVELATE, F.HD_STATUS_CINST, F.HD_STATUS_CCOUNT, F.HD_STATUS_SPOOLS]⟩
/-- HD_INST_SEL, 10_heddle_placement.md R335. -/
def R.HD_INST_SEL : Reg := ⟨.hd, 0x118, 8, 1, [F.HD_INST_SEL_INSTANCE]⟩
/-- HD_INST, 10_heddle_placement.md R335. -/
def R.HD_INST : Reg := ⟨.hd, 0x120, 8, 1, [F.HD_INST_VALID, F.HD_INST_PRIORITY, F.HD_INST_STATE, F.HD_INST_ANCHORED, F.HD_INST_ADJ, F.HD_INST_ORG_R, F.HD_INST_ORG_C, F.HD_INST_HEIGHT, F.HD_INST_WIDTH, F.HD_INST_NSPOOL]⟩
/-- HD_SPOOL_SEL, 10_heddle_placement.md R335. -/
def R.HD_SPOOL_SEL : Reg := ⟨.hd, 0x128, 8, 1, [F.HD_SPOOL_SEL_SPOOL_ID]⟩
/-- HD_SPOOL0, 10_heddle_placement.md R335. -/
def R.HD_SPOOL0 : Reg := ⟨.hd, 0x130, 8, 1, [F.HD_SPOOL0_VALID, F.HD_SPOOL0_DRAM, F.HD_SPOOL0_POOL, F.HD_SPOOL0_OWNER, F.HD_SPOOL0_REFS]⟩
/-- HD_SPOOL1, 10_heddle_placement.md R335. -/
def R.HD_SPOOL1 : Reg := ⟨.hd, 0x138, 8, 1, [F.HD_SPOOL1_BASE]⟩
/-- HD_SPOOL2, 10_heddle_placement.md R335. -/
def R.HD_SPOOL2 : Reg := ⟨.hd, 0x140, 8, 1, [F.HD_SPOOL2_SIZE]⟩
/-- HD_MOVE_CTL, 10_heddle_placement.md R335. -/
def R.HD_MOVE_CTL : Reg := ⟨.hd, 0x150, 8, 1, [F.HD_MOVE_CTL_GO, F.HD_MOVE_CTL_COMMIT, F.HD_MOVE_CTL_CANCEL, F.HD_MOVE_CTL_ATPICK, F.HD_MOVE_CTL_STATE, F.HD_MOVE_CTL_POOL, F.HD_MOVE_CTL_SPOOL_ID]⟩
/-- HD_MOVE_PICK, 10_heddle_placement.md R335. -/
def R.HD_MOVE_PICK : Reg := ⟨.hd, 0x158, 8, 1, [F.HD_MOVE_PICK_PICK]⟩
/-- HD_MOVE_BASE, 10_heddle_placement.md R335. -/
def R.HD_MOVE_BASE : Reg := ⟨.hd, 0x160, 8, 1, [F.HD_MOVE_BASE_BASE]⟩
/-- HD_NOFIT_ORG, 10_heddle_placement.md R335. -/
def R.HD_NOFIT_ORG : Reg := ⟨.hd, 0x200, 16, 8, [F.HD_NOFIT_ORG_VALID, F.HD_NOFIT_ORG_ORG_R, F.HD_NOFIT_ORG_ORG_C, F.HD_NOFIT_ORG_COUNT]⟩
/-- HD_NOFIT_VICT, 10_heddle_placement.md R335. -/
def R.HD_NOFIT_VICT : Reg := ⟨.hd, 0x208, 16, 8, [F.HD_NOFIT_VICT_VICT]⟩
/-- HD_POOL_CTL, 10_heddle_placement.md R335. -/
def R.HD_POOL_CTL : Reg := ⟨.hd, 0x800, 32, 32, [F.HD_POOL_CTL_EN, F.HD_POOL_CTL_DRAM, F.HD_POOL_CTL_UNIT, F.HD_POOL_CTL_KEYID, F.HD_POOL_CTL_USED]⟩
/-- HD_POOL_BASE, 10_heddle_placement.md R335. -/
def R.HD_POOL_BASE : Reg := ⟨.hd, 0x808, 32, 32, [F.HD_POOL_BASE_BASE]⟩
/-- HD_POOL_LAST, 10_heddle_placement.md R335. -/
def R.HD_POOL_LAST : Reg := ⟨.hd, 0x810, 32, 32, [F.HD_POOL_LAST_LAST]⟩
/-- HD_MAP, 10_heddle_placement.md R335. -/
def R.HD_MAP : Reg := ⟨.hd, 0x1000, 8, 768, [F.HD_MAP_OWNER, F.HD_MAP_OSTATE, F.HD_MAP_HSTATE, F.HD_MAP_WEAR, F.HD_MAP_PSTATE, F.HD_MAP_CAP]⟩
/-- MPE_CTL, 16_memory_encryption.md R514. -/
def R.MPE_CTL : Reg := ⟨.mpe, 0x100, 8, 1, [F.MPE_CTL_NOREG_IRQ]⟩
/-- MPE_KEY, 16_memory_encryption.md R514. -/
def R.MPE_KEY : Reg := ⟨.mpe, 0x108, 8, 1, [F.MPE_KEY_LOADED]⟩
/-- MPE_STATUS, 16_memory_encryption.md R514. -/
def R.MPE_STATUS : Reg := ⟨.mpe, 0x110, 8, 1, [F.MPE_STATUS_DESCERR, F.MPE_STATUS_DESCCODE, F.MPE_STATUS_DESCREG]⟩
/-- MPE_ALARM_LOG, 16_memory_encryption.md R514. -/
def R.MPE_ALARM_LOG : Reg := ⟨.mpe, 0x118, 8, 1, [F.MPE_ALARM_LOG_VALID, F.MPE_ALARM_LOG_NOREG, F.MPE_ALARM_LOG_CAUSE, F.MPE_ALARM_LOG_REGION, F.MPE_ALARM_LOG_SRCDEV, F.MPE_ALARM_LOG_INIT]⟩
/-- MPE_ALARM_ADDR, 16_memory_encryption.md R514. -/
def R.MPE_ALARM_ADDR : Reg := ⟨.mpe, 0x120, 8, 1, [F.MPE_ALARM_ADDR_ADDR]⟩
/-- MPE_ALARM_CNT, 16_memory_encryption.md R514. -/
def R.MPE_ALARM_CNT : Reg := ⟨.mpe, 0x128, 8, 1, [F.MPE_ALARM_CNT_COUNT]⟩
/-- MPE_BLOCK_CNT, 16_memory_encryption.md R514. -/
def R.MPE_BLOCK_CNT : Reg := ⟨.mpe, 0x130, 8, 1, [F.MPE_BLOCK_CNT_COUNT]⟩
/-- MPE_BLOCK_LOG, 16_memory_encryption.md R514. -/
def R.MPE_BLOCK_LOG : Reg := ⟨.mpe, 0x138, 8, 1, [F.MPE_BLOCK_LOG_VALID, F.MPE_BLOCK_LOG_REGION, F.MPE_BLOCK_LOG_SRCDEV, F.MPE_BLOCK_LOG_INIT]⟩
/-- MPR_CTL, 16_memory_encryption.md R514. -/
def R.MPR_CTL : Reg := ⟨.mpe, 0x1000, 64, 32, [F.MPR_CTL_VALID, F.MPR_CTL_ROT_START, F.MPR_CTL_UNFREEZE, F.MPR_CTL_STATE, F.MPR_CTL_EPOCH, F.MPR_CTL_SLOT_NEW, F.MPR_CTL_SLOT_CUR, F.MPR_CTL_KEYID, F.MPR_CTL_LOG2SIZE, F.MPR_CTL_PORT, F.MPR_CTL_ALARM_ACT, F.MPR_CTL_DBGVIEW]⟩
/-- MPR_BASE, 16_memory_encryption.md R514. -/
def R.MPR_BASE : Reg := ⟨.mpe, 0x1008, 64, 32, [F.MPR_BASE_BASE]⟩
/-- MPR_META, 16_memory_encryption.md R514. -/
def R.MPR_META : Reg := ⟨.mpe, 0x1010, 64, 32, [F.MPR_META_META]⟩
/-- MPR_RIGHTS, 16_memory_encryption.md R514. -/
def R.MPR_RIGHTS : Reg := ⟨.mpe, 0x1018, 64, 32, [F.MPR_RIGHTS_DBG_W, F.MPR_RIGHTS_DBG_R, F.MPR_RIGHTS_BAR_W, F.MPR_RIGHTS_BAR_R]⟩
/-- MPR_DMA_R, 16_memory_encryption.md R514. -/
def R.MPR_DMA_R : Reg := ⟨.mpe, 0x1020, 64, 32, [F.MPR_DMA_R_DMA_R]⟩
/-- MPR_DMA_W, 16_memory_encryption.md R514. -/
def R.MPR_DMA_W : Reg := ⟨.mpe, 0x1028, 64, 32, [F.MPR_DMA_W_DMA_W]⟩
/-- MPR_ROT, 16_memory_encryption.md R514. -/
def R.MPR_ROT : Reg := ⟨.mpe, 0x1030, 64, 32, [F.MPR_ROT_ROT_GAP, F.MPR_ROT_WMARK]⟩
/-- MPR_STAT, 16_memory_encryption.md R514. -/
def R.MPR_STAT : Reg := ⟨.mpe, 0x1038, 64, 32, [F.MPR_STAT_ALARMS, F.MPR_STAT_REENC]⟩
/-- NOC_LATE, 14_noc.md R429. -/
def R.NOC_LATE : Reg := ⟨.noc, 0x100, 8, 1, [F.NOC_LATE_COUNT]⟩
/-- NOC_TOLOG, 14_noc.md R429. -/
def R.NOC_TOLOG : Reg := ⟨.noc, 0x108, 8, 1, [F.NOC_TOLOG_VALID, F.NOC_TOLOG_INIT, F.NOC_TOLOG_TAG, F.NOC_TOLOG_COUNT]⟩
/-- NOC_TOADDR, 14_noc.md R429. -/
def R.NOC_TOADDR : Reg := ⟨.noc, 0x110, 8, 1, [F.NOC_TOADDR_ADDR]⟩
/-- TRACE_BASE, 14_noc.md R429. -/
def R.TRACE_BASE : Reg := ⟨.noc, 0x200, 8, 1, [F.TRACE_BASE_BASE]⟩
/-- TRACE_CFG, 14_noc.md R429. -/
def R.TRACE_CFG : Reg := ⟨.noc, 0x208, 8, 1, [F.TRACE_CFG_STOP, F.TRACE_CFG_SIZE]⟩
/-- TRACE_WP, 14_noc.md R429. -/
def R.TRACE_WP : Reg := ⟨.noc, 0x210, 8, 1, [F.TRACE_WP_WP]⟩
/-- TRACE_RP, 14_noc.md R429. -/
def R.TRACE_RP : Reg := ⟨.noc, 0x218, 8, 1, [F.TRACE_RP_RP]⟩
/-- TRACE_DROP, 14_noc.md R429. -/
def R.TRACE_DROP : Reg := ⟨.noc, 0x220, 8, 1, [F.TRACE_DROP_COUNT]⟩
/-- PROBE_CTL, 14_noc.md R429. -/
def R.PROBE_CTL : Reg := ⟨.noc, 0x1000, 64, 32, [F.PROBE_CTL_EN, F.PROBE_CTL_TRACE, F.PROBE_CTL_ERRONLY, F.PROBE_CTL_PSNONLY, F.PROBE_CTL_CLSMASK, F.PROBE_CTL_OPCMASK, F.PROBE_CTL_DIR, F.PROBE_CTL_ROUTER, F.PROBE_CTL_PORT]⟩
/-- PROBE_INIT, 14_noc.md R429. -/
def R.PROBE_INIT : Reg := ⟨.noc, 0x1008, 64, 32, [F.PROBE_INIT_IMASK, F.PROBE_INIT_IMATCH]⟩
/-- PROBE_ALO, 14_noc.md R429. -/
def R.PROBE_ALO : Reg := ⟨.noc, 0x1010, 64, 32, [F.PROBE_ALO_ALO]⟩
/-- PROBE_AHI, 14_noc.md R429. -/
def R.PROBE_AHI : Reg := ⟨.noc, 0x1018, 64, 32, [F.PROBE_AHI_AHI]⟩
/-- PCOUNT, 14_noc.md R429. -/
def R.PCOUNT : Reg := ⟨.noc, 0x1020, 64, 32, [F.PCOUNT_COUNT]⟩
/-- PBYTES, 14_noc.md R429. -/
def R.PBYTES : Reg := ⟨.noc, 0x1028, 64, 32, [F.PBYTES_COUNT]⟩
/-- NOC_INITCFG, 14_noc.md R429. -/
def R.NOC_INITCFG : Reg := ⟨.noc, 0x8000, 8, 1280, [F.NOC_INITCFG_PRIO, F.NOC_INITCFG_TO_EXP]⟩
/-- WARP_SYS_CFG, 19_warp_links.md R593. -/
def R.WARP_SYS_CFG : Reg := ⟨.reed, 0x4000, 8, 1, [F.WARP_SYS_CFG_REQ_V, F.WARP_SYS_CFG_REQ_ID, F.WARP_SYS_CFG_SETTLE_US, F.WARP_SYS_CFG_DRAIN_US]⟩
/-- WARP_SYS_CTL, 19_warp_links.md R593. -/
def R.WARP_SYS_CTL : Reg := ⟨.reed, 0x4008, 8, 1, [F.WARP_SYS_CTL_REJOIN, F.WARP_SYS_CTL_START]⟩
/-- WARP_SYS_STATUS, 19_warp_links.md R593. -/
def R.WARP_SYS_STATUS : Reg := ⟨.reed, 0x4010, 8, 1, [F.WARP_SYS_STATUS_STATE, F.WARP_SYS_STATUS_CAUSE, F.WARP_SYS_STATUS_MEMBERS, F.WARP_SYS_STATUS_ROOT, F.WARP_SYS_STATUS_GEN]⟩
/-- DEV_UID, 19_warp_links.md R593. -/
def R.DEV_UID : Reg := ⟨.reed, 0x4018, 8, 1, [F.DEV_UID]⟩
/-- WARP_SYS_EVT, 19_warp_links.md R593. -/
def R.WARP_SYS_EVT : Reg := ⟨.reed, 0x4020, 8, 1, [F.WARP_SYS_EVT_IDCONF, F.WARP_SYS_EVT_ISOL, F.WARP_SYS_EVT_TOPO]⟩
/-- ISOL_PICK, 19_warp_links.md R593. -/
def R.ISOL_PICK : Reg := ⟨.reed, 0x4028, 8, 1, [F.ISOL_PICK_PICK]⟩
/-- WARP_RT, 19_warp_links.md R593. -/
def R.WARP_RT : Reg := ⟨.reed, 0x8000, 8, 512, [F.WARP_RT_VALID, F.WARP_RT_LOCAL, F.WARP_RT_HOPS, F.WARP_RT_NEXT, F.WARP_RT_PORTS]⟩
/-- SYSTIME, 20_reed_pick.md R628. -/
def R.SYSTIME : Reg := ⟨.reed, 0x100, 8, 1, [F.SYSTIME]⟩
/-- PICK_CNT, 20_reed_pick.md R628. -/
def R.PICK_CNT : Reg := ⟨.reed, 0x108, 8, 1, [F.PICK_CNT]⟩
/-- PICK_NS, 20_reed_pick.md R628. -/
def R.PICK_NS : Reg := ⟨.reed, 0x110, 8, 1, [F.PICK_NS]⟩
/-- ORIGIN_T, 20_reed_pick.md R628. -/
def R.ORIGIN_T : Reg := ⟨.reed, 0x118, 8, 1, [F.ORIGIN_T]⟩
/-- ORIGIN_N, 20_reed_pick.md R628. -/
def R.ORIGIN_N : Reg := ⟨.reed, 0x120, 8, 1, [F.ORIGIN_N]⟩
/-- TB_CTL, 20_reed_pick.md R628. -/
def R.TB_CTL : Reg := ⟨.reed, 0x128, 8, 1, [F.TB_CTL_RESYNC]⟩
/-- TB_STATUS, 20_reed_pick.md R628. -/
def R.TB_STATUS : Reg := ⟨.reed, 0x130, 8, 1, [F.TB_STATUS_STATE]⟩
/-- TB_OFFSET, 20_reed_pick.md R628. -/
def R.TB_OFFSET : Reg := ⟨.reed, 0x138, 8, 1, [F.TB_OFFSET_OFFSET]⟩
/-- TB_TREE, 20_reed_pick.md R628. -/
def R.TB_TREE : Reg := ⟨.reed, 0x140, 8, 1, [F.TB_TREE_DEPTH, F.TB_TREE_LEVEL, F.TB_TREE_PPORT, F.TB_TREE_CHILDREN]⟩
/-- TB_PARENT, 20_reed_pick.md R628. -/
def R.TB_PARENT : Reg := ⟨.reed, 0x148, 8, 1, [F.TB_PARENT_PARENT]⟩
/-- TB_EVT, 20_reed_pick.md R628. -/
def R.TB_EVT : Reg := ⟨.reed, 0x150, 8, 1, [F.TB_EVT_PICKMM, F.TB_EVT_HOLD, F.TB_EVT_LOCK, F.TB_EVT_SLEW]⟩
/-- REED_OP_CTL, 20_reed_pick.md R628. -/
def R.REED_OP_CTL : Reg := ⟨.reed, 0x200, 64, 8, [F.REED_OP_CTL_GO, F.REED_OP_CTL_STATE, F.REED_OP_CTL_STATUS, F.REED_OP_CTL_COLL_ID, F.REED_OP_CTL_TAG, F.REED_OP_CTL_RESULT_OVF, F.REED_OP_CTL_SWACK, F.REED_OP_CTL_SCOPE, F.REED_OP_CTL_FUNC, F.REED_OP_CTL_OP]⟩
/-- REED_OP_PICK, 20_reed_pick.md R628. -/
def R.REED_OP_PICK : Reg := ⟨.reed, 0x208, 64, 8, [F.REED_OP_PICK_PICK]⟩
/-- REED_OP_ARG, 20_reed_pick.md R628. -/
def R.REED_OP_ARG : Reg := ⟨.reed, 0x210, 64, 8, [F.REED_OP_ARG_ARG]⟩
/-- REED_OP_RESULT, 20_reed_pick.md R628. -/
def R.REED_OP_RESULT : Reg := ⟨.reed, 0x218, 64, 8, [F.REED_OP_RESULT_RESULT]⟩
/-- REED_OP_BUF, 20_reed_pick.md R628. -/
def R.REED_OP_BUF : Reg := ⟨.reed, 0x220, 64, 8, [F.REED_OP_BUF_BUF]⟩
/-- REED_OP_LEN, 20_reed_pick.md R628. -/
def R.REED_OP_LEN : Reg := ⟨.reed, 0x228, 64, 8, [F.REED_OP_LEN_LEN]⟩
/-- BC_BASE, 20_reed_pick.md R628. -/
def R.BC_BASE : Reg := ⟨.reed, 0x400, 8, 1, [F.BC_BASE_BASE]⟩
/-- BC_CFG, 20_reed_pick.md R628. -/
def R.BC_CFG : Reg := ⟨.reed, 0x408, 8, 1, [F.BC_CFG_LOG2N]⟩
/-- BC_WP, 20_reed_pick.md R628. -/
def R.BC_WP : Reg := ⟨.reed, 0x410, 8, 1, [F.BC_WP_WP]⟩
/-- BC_RP, 20_reed_pick.md R628. -/
def R.BC_RP : Reg := ⟨.reed, 0x418, 8, 1, [F.BC_RP_RP]⟩
/-- MODE_STATUS, 20_reed_pick.md R628. -/
def R.MODE_STATUS : Reg := ⟨.reed, 0x420, 8, 1, [F.MODE_STATUS_OPID]⟩
/-- MODE_CTL, 20_reed_pick.md R628. -/
def R.MODE_CTL : Reg := ⟨.reed, 0x428, 8, 1, [F.MODE_CTL_READY]⟩
/-- MODE_STATE, 20_reed_pick.md R628. -/
def R.MODE_STATE : Reg := ⟨.reed, 0x430, 8, 1, [F.MODE_STATE_STATE, F.MODE_STATE_FENCE_CNT]⟩
/-- MODE_FENCE_LOG, 20_reed_pick.md R628. -/
def R.MODE_FENCE_LOG : Reg := ⟨.reed, 0x438, 8, 1, [F.MODE_FENCE_LOG_VALID, F.MODE_FENCE_LOG_CAUSE, F.MODE_FENCE_LOG_FAMILY, F.MODE_FENCE_LOG_INDEX]⟩
/-- REED_TO, 20_reed_pick.md R628. -/
def R.REED_TO : Reg := ⟨.reed, 0x440, 8, 1, [F.REED_TO]⟩
/-- REED_STAT, 20_reed_pick.md R628. -/
def R.REED_STAT : Reg := ⟨.reed, 0x448, 8, 1, [F.REED_STAT_RESET_LATE, F.REED_STAT_BC_DROP_CNT]⟩
/-- REED_DISC, 20_reed_pick.md R628. -/
def R.REED_DISC : Reg := ⟨.reed, 0x450, 8, 1, [F.REED_DISC_REED_DISC_CNT]⟩
/-- REED_SNAPLOG, 20_reed_pick.md R628. -/
def R.REED_SNAPLOG : Reg := ⟨.reed, 0x458, 8, 1, [F.REED_SNAPLOG_TAG]⟩
/-- REED_SNAPLOG_PICK, 20_reed_pick.md R628. -/
def R.REED_SNAPLOG_PICK : Reg := ⟨.reed, 0x460, 8, 1, [F.REED_SNAPLOG_PICK_PICK]⟩
/-- BIST_CTL, 24_bist_ageing.md R712. -/
def R.BIST_CTL : Reg := ⟨.bist, 0x100, 8, 1, [F.BIST_CTL_AUTO, F.BIST_CTL_WARM_TEST, F.BIST_CTL_FAIL_ACT, F.BIST_CTL_AUTO_GAP_MS, F.BIST_CTL_CLKDIV, F.BIST_CTL_TEST_MV]⟩
/-- BIST_REQ, 24_bist_ageing.md R712. -/
def R.BIST_REQ : Reg := ⟨.bist, 0x108, 8, 1, [F.BIST_REQ_GO, F.BIST_REQ_REQERR, F.BIST_REQ_FAMILY, F.BIST_REQ_INDEX]⟩
/-- BIST_PICK, 24_bist_ageing.md R712. -/
def R.BIST_PICK : Reg := ⟨.bist, 0x110, 8, 1, [F.BIST_PICK_PICK]⟩
/-- BIST_PICK2, 24_bist_ageing.md R712. -/
def R.BIST_PICK2 : Reg := ⟨.bist, 0x118, 8, 1, [F.BIST_PICK2_PICK]⟩
/-- BIST_STATUS, 24_bist_ageing.md R712. -/
def R.BIST_STATUS : Reg := ⟨.bist, 0x120, 8, 1, [F.BIST_STATUS_BUSY, F.BIST_STATUS_HELD, F.BIST_STATUS_FAMILY, F.BIST_STATUS_INDEX, F.BIST_STATUS_RESULT]⟩
/-- BIST_MISR, 24_bist_ageing.md R712. -/
def R.BIST_MISR : Reg := ⟨.bist, 0x128, 8, 1, [F.BIST_MISR_MISR]⟩
/-- BIST_LOG, 24_bist_ageing.md R712. -/
def R.BIST_LOG : Reg := ⟨.bist, 0x130, 8, 1, [F.BIST_LOG_VALID, F.BIST_LOG_FAMILY, F.BIST_LOG_INDEX, F.BIST_LOG_KIND]⟩
/-- PRIV_RESULT, 24_bist_ageing.md R712. -/
def R.PRIV_RESULT : Reg := ⟨.bist, 0x138, 8, 1, [F.PRIV_RESULT_VALID, F.PRIV_RESULT_RAN_AT_START, F.PRIV_RESULT_FAIL]⟩
/-- AGE_CFG, 24_bist_ageing.md R712. -/
def R.AGE_CFG : Reg := ⟨.bist, 0x140, 8, 1, [F.AGE_CFG_EOL_WARN, F.AGE_CFG_DLIM, F.AGE_CFG_PERIOD_MS]⟩
/-- AGE_EVT, 24_bist_ageing.md R712. -/
def R.AGE_EVT : Reg := ⟨.bist, 0x148, 8, 1, [F.AGE_EVT_TAULOST, F.AGE_EVT_WARN_CORE, F.AGE_EVT_WARN_QUAD, F.AGE_EVT_WARN_BAY]⟩
/-- BIST_SC_OK, 24_bist_ageing.md R712. -/
def R.BIST_SC_OK : Reg := ⟨.bist, 0x150, 8, 2, [F.BIST_SC_OK_SC_OK]⟩
/-- AGE_BAY, 24_bist_ageing.md R712. -/
def R.AGE_BAY : Reg := ⟨.bist, 0x1000, 16, 768, [F.AGE_BAY_EOL_HOURS, F.AGE_BAY_TEMP, F.AGE_BAY_DRIFT]⟩
/-- AGE_BAY_T, 24_bist_ageing.md R712. -/
def R.AGE_BAY_T : Reg := ⟨.bist, 0x1008, 16, 768, [F.AGE_BAY_T_HCAUSE, F.AGE_BAY_T_WARN, F.AGE_BAY_T_TAU]⟩
/-- UNUSABLE_BANK, 24_bist_ageing.md R712. -/
def R.UNUSABLE_BANK : Reg := ⟨.bist, 0x5000, 8, 1, [F.UNUSABLE_BANK_BANK]⟩
/-- UNUSABLE_SC, 24_bist_ageing.md R712. -/
def R.UNUSABLE_SC : Reg := ⟨.bist, 0x5008, 8, 2, [F.UNUSABLE_SC_SC]⟩
/-- UNUSABLE_QUAD, 24_bist_ageing.md R712. -/
def R.UNUSABLE_QUAD : Reg := ⟨.bist, 0x5018, 8, 1, [F.UNUSABLE_QUAD_QUAD]⟩
/-- UNUSABLE_CC, 24_bist_ageing.md R712. -/
def R.UNUSABLE_CC : Reg := ⟨.bist, 0x5020, 8, 1, [F.UNUSABLE_CC_CC]⟩
/-- UNUSABLE_RTR, 24_bist_ageing.md R712. -/
def R.UNUSABLE_RTR : Reg := ⟨.bist, 0x5028, 8, 2, [F.UNUSABLE_RTR_RTR]⟩
/-- AGE_QUAD, 24_bist_ageing.md R712. -/
def R.AGE_QUAD : Reg := ⟨.bist, 0x4000, 16, 48, [F.AGE_QUAD_EOL_HOURS, F.AGE_QUAD_TEMP, F.AGE_QUAD_DRIFT]⟩
/-- AGE_QUAD_T, 24_bist_ageing.md R712. -/
def R.AGE_QUAD_T : Reg := ⟨.bist, 0x4008, 16, 48, [F.AGE_QUAD_T_HCAUSE, F.AGE_QUAD_T_WARN, F.AGE_QUAD_T_TAU]⟩
/-- AGE_CC, 24_bist_ageing.md R712. -/
def R.AGE_CC : Reg := ⟨.bist, 0x4400, 16, 8, [F.AGE_CC_EOL_HOURS, F.AGE_CC_TEMP, F.AGE_CC_DRIFT]⟩
/-- AGE_CC_T, 24_bist_ageing.md R712. -/
def R.AGE_CC_T : Reg := ⟨.bist, 0x4408, 16, 8, [F.AGE_CC_T_HCAUSE, F.AGE_CC_T_WARN, F.AGE_CC_T_TAU]⟩
/-- AGE_SC, 24_bist_ageing.md R712. -/
def R.AGE_SC : Reg := ⟨.bist, 0x4500, 16, 96, [F.AGE_SC_EOL_HOURS, F.AGE_SC_TEMP, F.AGE_SC_DRIFT]⟩
/-- AGE_SC_T, 24_bist_ageing.md R712. -/
def R.AGE_SC_T : Reg := ⟨.bist, 0x4508, 16, 96, [F.AGE_SC_T_HCAUSE, F.AGE_SC_T_WARN, F.AGE_SC_T_TAU]⟩
/-- DBG_STATUS, 25_debug.md R744. -/
def R.DBG_STATUS : Reg := ⟨.dbg, 0x100, 8, 1, [F.DBG_STATUS_CHAL_VALID, F.DBG_STATUS_FAILCNT, F.DBG_STATUS_LEVEL]⟩
/-- DBG_UNLOCK, 25_debug.md R744. -/
def R.DBG_UNLOCK : Reg := ⟨.dbg, 0x108, 8, 1, [F.DBG_UNLOCK_CHAL_REQ, F.DBG_UNLOCK_VERIFY, F.DBG_UNLOCK_RELOCK, F.DBG_UNLOCK_REQ_LEVEL]⟩
/-- DBG_CHAL, 25_debug.md R744. -/
def R.DBG_CHAL : Reg := ⟨.dbg, 0x110, 8, 4, [F.DBG_CHAL_NONCE]⟩
/-- DBG_RESP, 25_debug.md R744. -/
def R.DBG_RESP : Reg := ⟨.dbg, 0x200, 8, 32, [F.DBG_RESP_RESP]⟩
/-- DBG_NOC_ADDR, 25_debug.md R744. -/
def R.DBG_NOC_ADDR : Reg := ⟨.dbg, 0x300, 8, 1, [F.DBG_NOC_ADDR_ADDR]⟩
/-- DBG_NOC_CTL, 25_debug.md R744. -/
def R.DBG_NOC_CTL : Reg := ⟨.dbg, 0x308, 8, 1, [F.DBG_NOC_CTL_GO, F.DBG_NOC_CTL_AUTOINC, F.DBG_NOC_CTL_KEYID, F.DBG_NOC_CTL_LEN, F.DBG_NOC_CTL_OP]⟩
/-- DBG_NOC_STAT, 25_debug.md R744. -/
def R.DBG_NOC_STAT : Reg := ⟨.dbg, 0x310, 8, 1, [F.DBG_NOC_STAT_BUSY, F.DBG_NOC_STAT_DONE, F.DBG_NOC_STAT_POISON, F.DBG_NOC_STAT_CODE]⟩
/-- DBG_NOC_DATA, 25_debug.md R744. -/
def R.DBG_NOC_DATA : Reg := ⟨.dbg, 0x340, 8, 8, [F.DBG_NOC_DATA_DATA]⟩
/-- DBG_CSEL, 25_debug.md R744. -/
def R.DBG_CSEL : Reg := ⟨.dbg, 0x400, 8, 1, [F.DBG_CSEL_CORE]⟩
/-- DBG_REQ, 25_debug.md R744. -/
def R.DBG_REQ : Reg := ⟨.dbg, 0x408, 8, 1, [F.DBG_REQ_REQ]⟩
/-- DBG_RACC_NUM, 25_debug.md R744. -/
def R.DBG_RACC_NUM : Reg := ⟨.dbg, 0x410, 8, 1, [F.DBG_RACC_NUM_RNUM]⟩
/-- DBG_RACC_DATA, 25_debug.md R744. -/
def R.DBG_RACC_DATA : Reg := ⟨.dbg, 0x418, 8, 1, [F.DBG_RACC_DATA_DATA]⟩
/-- DBG_RACC_CTL, 25_debug.md R744. -/
def R.DBG_RACC_CTL : Reg := ⟨.dbg, 0x420, 8, 1, [F.DBG_RACC_CTL_READ, F.DBG_RACC_CTL_WRITE, F.DBG_RACC_CTL_RSTAT]⟩
/-- DBG_RESUME, 25_debug.md R744. -/
def R.DBG_RESUME : Reg := ⟨.dbg, 0x428, 8, 1, [F.DBG_RESUME_GO]⟩
/-- DBG_RESUME_PC, 25_debug.md R744. -/
def R.DBG_RESUME_PC : Reg := ⟨.dbg, 0x430, 8, 1, [F.DBG_RESUME_PC_PC]⟩
/-- MBOX_IN, 25_debug.md R744. -/
def R.MBOX_IN : Reg := ⟨.dbg, 0x800, 32, 8, [F.MBOX_IN_IN]⟩
/-- MBOX_OUT, 25_debug.md R744. -/
def R.MBOX_OUT : Reg := ⟨.dbg, 0x808, 32, 8, [F.MBOX_OUT_OUT]⟩
/-- MBOX_FLAG, 25_debug.md R744. -/
def R.MBOX_FLAG : Reg := ⟨.dbg, 0x810, 32, 8, [F.MBOX_FLAG_OUT_FULL, F.MBOX_FLAG_IN_FULL]⟩
/-- DCMP_LO, 25_debug.md R730. -/
def R.DCMP_LO : Reg := ⟨.dcmp, 0x0, 1, 16, [F.DCMP_LO_LO]⟩
/-- DCMP_HI, 25_debug.md R730. -/
def R.DCMP_HI : Reg := ⟨.dcmp, 0x0, 1, 16, [F.DCMP_HI_HI]⟩
/-- DCMP_CTL, 25_debug.md R730. -/
def R.DCMP_CTL : Reg := ⟨.dcmp, 0x0, 1, 16, [F.DCMP_CTL_EN, F.DCMP_CTL_ACC, F.DCMP_CTL_ACTION, F.DCMP_CTL_PREV, F.DCMP_CTL_PRIVF, F.DCMP_CTL_CTXEN, F.DCMP_CTL_CTXID, F.DCMP_CTL_TARGET]⟩
/-- DCMP_CNT, 25_debug.md R730. -/
def R.DCMP_CNT : Reg := ⟨.dcmp, 0x0, 1, 16, [F.DCMP_CNT_CNT]⟩
/-- DCTL, 25_debug.md R730. -/
def R.DCTL : Reg := ⟨.dcmp, 0x0, 1, 1, [F.DCTL_OWN, F.DCTL_MONEXIT, F.DCTL_STEP, F.DCTL_MON]⟩
/-- DSTATUS, 25_debug.md R730. -/
def R.DSTATUS : Reg := ⟨.dcmp, 0x0, 1, 1, [F.DSTATUS_SKIP, F.DSTATUS_ARMED, F.DSTATUS_HIT]⟩
/-- DCMP_SEL, 25_debug.md R744. -/
def R.DCMP_SEL : Reg := ⟨.dcmp, 0x0, 8, 1, [F.DCMP_SEL]⟩
/-- GPIO_CFG, 26_gpio.md R761. -/
def R.GPIO_CFG : Reg := ⟨.gpio, 0x0, 8, 24, [F.GPIO_CFG_IRQ_MODE, F.GPIO_CFG_SYNC, F.GPIO_CFG_DDR, F.GPIO_CFG_TERM, F.GPIO_CFG_PULL, F.GPIO_CFG_STD]⟩
/-- GPIO_TSET, 26_gpio.md R761. -/
def R.GPIO_TSET : Reg := ⟨.gpio, 0xc0, 8, 24, [F.GPIO_TSET_SET1, F.GPIO_TSET_SET0]⟩
/-- GPIO_FRC, 26_gpio.md R761. -/
def R.GPIO_FRC : Reg := ⟨.gpio, 0x180, 8, 24, [F.GPIO_FRC_ETAB, F.GPIO_FRC_DTAB, F.GPIO_FRC_SEL]⟩
/-- GPIO_OSEL, 26_gpio.md R761. -/
def R.GPIO_OSEL : Reg := ⟨.gpio, 0x300, 8, 1, [F.GPIO_OSEL_OSEL]⟩
/-- GPIO_TSEL, 26_gpio.md R761. -/
def R.GPIO_TSEL : Reg := ⟨.gpio, 0x308, 8, 1, [F.GPIO_TSEL_TSEL]⟩
/-- GPIO_SWOUT, 26_gpio.md R761. -/
def R.GPIO_SWOUT : Reg := ⟨.gpio, 0x310, 8, 1, [F.GPIO_SWOUT_SWOUT]⟩
/-- GPIO_SWOE, 26_gpio.md R761. -/
def R.GPIO_SWOE : Reg := ⟨.gpio, 0x318, 8, 1, [F.GPIO_SWOE_SWOE]⟩
/-- GPIO_IN, 26_gpio.md R761. -/
def R.GPIO_IN : Reg := ⟨.gpio, 0x320, 8, 1, [F.GPIO_IN_IN]⟩
/-- GPIO_EVT, 26_gpio.md R761. -/
def R.GPIO_EVT : Reg := ⟨.gpio, 0x328, 8, 1, [F.GPIO_EVT_EVT]⟩
/-- GPIO_BSTAT, 26_gpio.md R761. -/
def R.GPIO_BSTAT : Reg := ⟨.gpio, 0x330, 8, 1, [F.GPIO_BSTAT_OWNER1, F.GPIO_BSTAT_OWNER0, F.GPIO_BSTAT_FORCED, F.GPIO_BSTAT_FENCED, F.GPIO_BSTAT_TSERR, F.GPIO_BSTAT_CFGERR]⟩
/-- PCIE_STATUS, 18_pcie_host.md R564. -/
def R.PCIE_STATUS : Reg := ⟨.pcie, 0x100, 8, 1, [F.PCIE_STATUS_WIDTH, F.PCIE_STATUS_SPEED, F.PCIE_STATUS_FLIT, F.PCIE_STATUS_DSTATE]⟩
/-- PCIE_LINK, 18_pcie_host.md R564. -/
def R.PCIE_LINK : Reg := ⟨.pcie, 0x108, 8, 1, [F.PCIE_LINK_LINKUP]⟩
/-- PCIE_WERR, 18_pcie_host.md R564. -/
def R.PCIE_WERR : Reg := ⟨.pcie, 0x110, 8, 1, [F.PCIE_WERR_VALID, F.PCIE_WERR_BAR2, F.PCIE_WERR_CODE]⟩
/-- PCIE_WADDR, 18_pcie_host.md R564. -/
def R.PCIE_WADDR : Reg := ⟨.pcie, 0x118, 8, 1, [F.PCIE_WADDR_OFFSET]⟩
/-- PCIE_WERR_CNT, 18_pcie_host.md R564. -/
def R.PCIE_WERR_CNT : Reg := ⟨.pcie, 0x120, 8, 1, [F.PCIE_WERR_CNT_COUNT]⟩
/-- PCIE_APTSTAT, 18_pcie_host.md R564. -/
def R.PCIE_APTSTAT : Reg := ⟨.pcie, 0x128, 8, 1, [F.PCIE_APTSTAT_APTERR]⟩
/-- APT_CFG, 18_pcie_host.md R564. -/
def R.APT_CFG : Reg := ⟨.pcie, 0x1000, 16, 64, [F.APT_CFG_EN, F.APT_CFG_LOCAL, F.APT_CFG_DEV, F.APT_CFG_KEYID]⟩
/-- APT_BASE, 18_pcie_host.md R564. -/
def R.APT_BASE : Reg := ⟨.pcie, 0x1008, 16, 64, [F.APT_BASE_BASE]⟩
/-- SQ_BASE, 18_pcie_host.md R564. -/
def R.SQ_BASE : Reg := ⟨.pcie, 0x4000, 64, 64, [F.SQ_BASE_BASE]⟩
/-- CQ_BASE, 18_pcie_host.md R564. -/
def R.CQ_BASE : Reg := ⟨.pcie, 0x4008, 64, 64, [F.CQ_BASE_BASE]⟩
/-- Q_CFG, 18_pcie_host.md R564. -/
def R.Q_CFG : Reg := ⟨.pcie, 0x4010, 64, 64, [F.Q_CFG_EN, F.Q_CFG_CQ_LOG2N, F.Q_CFG_SQ_LOG2N]⟩
/-- SQ_TAIL, 18_pcie_host.md R564. -/
def R.SQ_TAIL : Reg := ⟨.pcie, 0x4018, 64, 64, [F.SQ_TAIL_TAIL]⟩
/-- SQ_HEAD, 18_pcie_host.md R564. -/
def R.SQ_HEAD : Reg := ⟨.pcie, 0x4020, 64, 64, [F.SQ_HEAD_HEAD]⟩
/-- CQ_TAIL, 18_pcie_host.md R564. -/
def R.CQ_TAIL : Reg := ⟨.pcie, 0x4028, 64, 64, [F.CQ_TAIL_TAIL]⟩
/-- CQ_HEAD, 18_pcie_host.md R564. -/
def R.CQ_HEAD : Reg := ⟨.pcie, 0x4030, 64, 64, [F.CQ_HEAD_HEAD]⟩
/-- Q_STATUS, 18_pcie_host.md R564. -/
def R.Q_STATUS : Reg := ⟨.pcie, 0x4038, 64, 64, [F.Q_STATUS_ERR, F.Q_STATUS_STOPPED, F.Q_STATUS_ERRCODE, F.Q_STATUS_INFLIGHT]⟩
/-- SPB_PWR_REQ, 04_block_memory.md R135. -/
def R.SPB_PWR_REQ : Reg := ⟨.spb, 0x100, 8, 2, [F.SPB_PWR_REQ_PWR]⟩
/-- SPB_PWR_STATE, 04_block_memory.md R135. -/
def R.SPB_PWR_STATE : Reg := ⟨.spb, 0x110, 8, 2, [F.SPB_PWR_STATE_STATE]⟩
/-- SPB_ZERO, 04_block_memory.md R131. -/
def R.SPB_ZERO : Reg := ⟨.spb, 0x120, 8, 1, [F.SPB_ZERO_ZERO]⟩
/-- SPB_CTL, 04_block_memory.md R135. -/
def R.SPB_CTL : Reg := ⟨.spb, 0x128, 8, 1, [F.SPB_CTL_CORR_WB, F.SPB_CTL_CE_SHIFT]⟩
/-- SPB_CE_CNT, 04_block_memory.md R135. -/
def R.SPB_CE_CNT : Reg := ⟨.spb, 0x1000, 32, 64, [F.SPB_CE_CNT_COUNT]⟩
/-- SPB_UE_CNT, 04_block_memory.md R135. -/
def R.SPB_UE_CNT : Reg := ⟨.spb, 0x1008, 32, 64, [F.SPB_UE_CNT_COUNT]⟩
/-- SPB_LOG, 04_block_memory.md R135. -/
def R.SPB_LOG : Reg := ⟨.spb, 0x1010, 32, 64, [F.SPB_LOG_VALID, F.SPB_LOG_UE, F.SPB_LOG_INIT, F.SPB_LOG_ROW, F.SPB_LOG_BYTE]⟩
/-- LANE_CTL, 17_lanes.md R546. -/
def R.LANE_CTL : Reg := ⟨.lane, 0x100, 8, 1, [F.LANE_CTL_REACQ, F.LANE_CTL_PRBS, F.LANE_CTL_PRBS_CHK, F.LANE_CTL_SAFE_TX, F.LANE_CTL_TX_SRC, F.LANE_CTL_LPBK, F.LANE_CTL_PCS, F.LANE_CTL_MODE, F.LANE_CTL_EN]⟩
/-- QUAD_CFG, 17_lanes.md R546. -/
def R.QUAD_CFG : Reg := ⟨.lane, 0x108, 8, 1, [F.QUAD_CFG_OWNER, F.QUAD_CFG_BRINGUP, F.QUAD_CFG_REF_SRC, F.QUAD_CFG_REF_FREQ, F.QUAD_CFG_REF_SPREAD, F.QUAD_CFG_RATE, F.QUAD_CFG_CMOD, F.QUAD_CFG_LDIV, F.QUAD_CFG_MULT]⟩
/-- LANE_TXEQ, 17_lanes.md R546. -/
def R.LANE_TXEQ : Reg := ⟨.lane, 0x110, 8, 1, [F.LANE_TXEQ_POST1, F.LANE_TXEQ_MAIN, F.LANE_TXEQ_PRE1, F.LANE_TXEQ_PRE2]⟩
/-- LANE_BOND, 17_lanes.md R546. -/
def R.LANE_BOND : Reg := ⟨.lane, 0x118, 8, 1, [F.LANE_BOND_AM_EN, F.LANE_BOND_AM_EXP, F.LANE_BOND_GROUP, F.LANE_BOND_POS]⟩
/-- LANE_TO, 17_lanes.md R546. -/
def R.LANE_TO : Reg := ⟨.lane, 0x120, 8, 1, [F.LANE_TO_TRAIN_TO, F.LANE_TO_LOS_TO]⟩
/-- LANE_FILL, 17_lanes.md R546. -/
def R.LANE_FILL : Reg := ⟨.lane, 0x128, 8, 1, [F.LANE_FILL_FILL]⟩
/-- LANE_STATUS, 17_lanes.md R546. -/
def R.LANE_STATUS : Reg := ⟨.lane, 0x130, 8, 1, [F.LANE_STATUS_STATE, F.LANE_STATUS_RATE_ACT, F.LANE_STATUS_AM_LOCK, F.LANE_STATUS_BURST, F.LANE_STATUS_LOS, F.LANE_STATUS_PRBS_LOCK, F.LANE_STATUS_BURST_NUM]⟩
/-- LANE_EVT, 17_lanes.md R546. -/
def R.LANE_EVT : Reg := ⟨.lane, 0x138, 8, 1, [F.LANE_EVT_RATEERR, F.LANE_EVT_BONDERR, F.LANE_EVT_SKEW, F.LANE_EVT_OWNERR, F.LANE_EVT_TXUNDER, F.LANE_EVT_STRMERR, F.LANE_EVT_DROP, F.LANE_EVT_TRAINFAIL, F.LANE_EVT_GAP, F.LANE_EVT_TRUNC]⟩
/-- RX_DROP_CNT, 17_lanes.md R546. -/
def R.RX_DROP_CNT : Reg := ⟨.lane, 0x140, 8, 1, [F.RX_DROP_CNT_COUNT]⟩
/-- BURST_CNT, 17_lanes.md R546. -/
def R.BURST_CNT : Reg := ⟨.lane, 0x148, 8, 1, [F.BURST_CNT_TRUNC_CNT, F.BURST_CNT_GAP_CNT]⟩
/-- LANE_CNT, 17_lanes.md R546. -/
def R.LANE_CNT : Reg := ⟨.lane, 0x150, 8, 1, [F.LANE_CNT_TX_UNDER_CNT, F.LANE_CNT_PRBS_ERR_CNT]⟩
/-- FEC_CNT, 17_lanes.md R546. -/
def R.FEC_CNT : Reg := ⟨.lane, 0x158, 8, 1, [F.FEC_CNT_FEC_UE_CNT, F.FEC_CNT_FEC_CE_CNT]⟩
/-- STRM_BASE, 17_lanes.md R546. -/
def R.STRM_BASE : Reg := ⟨.lane, 0x180, 8, 1, [F.STRM_BASE_BASE]⟩
/-- STRM_CFG, 17_lanes.md R546. -/
def R.STRM_CFG : Reg := ⟨.lane, 0x188, 8, 1, [F.STRM_CFG_WRAP, F.STRM_CFG_LOG2]⟩
/-- STRM_WP, 17_lanes.md R546. -/
def R.STRM_WP : Reg := ⟨.lane, 0x190, 8, 1, [F.STRM_WP_WP]⟩
/-- STRM_RP, 17_lanes.md R546. -/
def R.STRM_RP : Reg := ⟨.lane, 0x198, 8, 1, [F.STRM_RP_RP]⟩
/-- STRM_NOCERR_CNT, 17_lanes.md R546. -/
def R.STRM_NOCERR_CNT : Reg := ⟨.lane, 0x1a0, 8, 1, [F.STRM_NOCERR_CNT_COUNT]⟩
/-- TXS_BASE, 17_lanes.md R546. -/
def R.TXS_BASE : Reg := ⟨.lane, 0x1a8, 8, 1, [F.TXS_BASE_BASE]⟩
/-- TXS_CTL, 17_lanes.md R546. -/
def R.TXS_CTL : Reg := ⟨.lane, 0x1b0, 8, 1, [F.TXS_CTL_LOOP, F.TXS_CTL_DONE, F.TXS_CTL_LEN]⟩
/-- TXS_ERR_CNT, 17_lanes.md R546. -/
def R.TXS_ERR_CNT : Reg := ⟨.lane, 0x1b8, 8, 1, [F.TXS_ERR_CNT_COUNT]⟩
/-- BAY_CTL, 03_fabric.md R98. -/
def R.BAY_CTL : Reg := ⟨.bay, 0x100, 8, 1, [F.BAY_CTL_HOLD_RESET, F.BAY_CTL_CLK_EN]⟩
/-- BAY_STATUS, 03_fabric.md R98. -/
def R.BAY_STATUS : Reg := ⟨.bay, 0x108, 8, 1, [F.BAY_STATUS_OWNER, F.BAY_STATUS_DX, F.BAY_STATUS_DY, F.BAY_STATUS_POISON, F.BAY_STATUS_ANCHORED, F.BAY_STATUS_RST_HELD, F.BAY_STATUS_WE_HELD, F.BAY_STATUS_OUT_HELD, F.BAY_STATUS_LOADED]⟩
/-- BAY_CLK_BIND, 03_fabric.md R98. -/
def R.BAY_CLK_BIND : Reg := ⟨.bay, 0x110, 8, 1, [F.BAY_CLK_BIND_BOUND, F.BAY_CLK_BIND_LINE]⟩
/-- BAY_BOUNDARY, 03_fabric.md R98. -/
def R.BAY_BOUNDARY : Reg := ⟨.bay, 0x118, 8, 1, [F.BAY_BOUNDARY_WEST_EN, F.BAY_BOUNDARY_SOUTH_EN, F.BAY_BOUNDARY_EAST_EN, F.BAY_BOUNDARY_NORTH_EN]⟩
/-- BAY_POISON_CNT, 03_fabric.md R98. -/
def R.BAY_POISON_CNT : Reg := ⟨.bay, 0x120, 8, 1, [F.BAY_POISON_CNT_COUNT]⟩
/-- BAY_MEM_CE_CNT, 04_block_memory.md R124. -/
def R.BAY_MEM_CE_CNT : Reg := ⟨.bay, 0x128, 8, 1, [F.BAY_MEM_CE_CNT_COUNT]⟩
/-- BAY_MEM_UE_CNT, 04_block_memory.md R124. -/
def R.BAY_MEM_UE_CNT : Reg := ⟨.bay, 0x130, 8, 1, [F.BAY_MEM_UE_CNT_COUNT]⟩
/-- BAY_MEM_LOG, 04_block_memory.md R124. -/
def R.BAY_MEM_LOG : Reg := ⟨.bay, 0x138, 8, 1, [F.BAY_MEM_LOG_VALID, F.BAY_MEM_LOG_UE, F.BAY_MEM_LOG_PATH, F.BAY_MEM_LOG_BLOCK, F.BAY_MEM_LOG_BYTE]⟩
/-- BAY_COEF_SEL, 05_arithmetic_slices.md R156. -/
def R.BAY_COEF_SEL : Reg := ⟨.bay, 0x140, 8, 1, [F.BAY_COEF_SEL_SEL]⟩
/-- BAY_COEF_ACT, 05_arithmetic_slices.md R156. -/
def R.BAY_COEF_ACT : Reg := ⟨.bay, 0x148, 8, 1, [F.BAY_COEF_ACT_PEND, F.BAY_COEF_ACT_ACT]⟩
/-- BAY_SLICE_FLAG, 05_arithmetic_slices.md R156. -/
def R.BAY_SLICE_FLAG : Reg := ⟨.bay, 0x150, 8, 1, [F.BAY_SLICE_FLAG_YOV, F.BAY_SLICE_FLAG_OVF]⟩
/-- XLATE0, 10_heddle_placement.md R325. -/
def R.XLATE0 : Reg := ⟨.bay, 0x400, 16, 64, [F.XLATE0_VALID, F.XLATE0_RO, F.XLATE0_SPOOL_ID, F.XLATE0_HANDLE, F.XLATE0_SIZE]⟩
/-- XLATE1, 10_heddle_placement.md R325. -/
def R.XLATE1 : Reg := ⟨.bay, 0x408, 16, 64, [F.XLATE1_BASE]⟩
/-- BAY_SCRUB, 11_scrub_capture.md R362. -/
def R.BAY_SCRUB : Reg := ⟨.bay, 0x160, 8, 1, [F.BAY_SCRUB_CAPBUSY, F.BAY_SCRUB_UE_ACT, F.BAY_SCRUB_CE_IRQ, F.BAY_SCRUB_UE, F.BAY_SCRUB_CE]⟩
/-- BAY_BIST, 24_bist_ageing.md R696. -/
def R.BAY_BIST : Reg := ⟨.bay, 0x168, 8, 1, [F.BAY_BIST_CONSENT, F.BAY_BIST_CAPBUSY]⟩
/-- SC_CTL, 12_signal_cores.md R393. -/
def R.SC_CTL : Reg := ⟨.sc, 0x100, 8, 1, [F.SC_CTL_START, F.SC_CTL_RESET]⟩
/-- SC_ENTRY, 12_signal_cores.md R393. -/
def R.SC_ENTRY : Reg := ⟨.sc, 0x108, 8, 1, [F.SC_ENTRY_ENTRY]⟩
/-- SC_STATUS, 12_signal_cores.md R393. -/
def R.SC_STATUS : Reg := ⟨.sc, 0x110, 8, 1, [F.SC_STATUS_LACT, F.SC_STATUS_INTRAP, F.SC_STATUS_STATE]⟩
/-- SC_PC, 12_signal_cores.md R393. -/
def R.SC_PC : Reg := ⟨.sc, 0x118, 8, 1, [F.SC_PC_PC]⟩
/-- SC_FAULT, 12_signal_cores.md R393. -/
def R.SC_FAULT : Reg := ⟨.sc, 0x120, 8, 1, [F.SC_FAULT_VALID, F.SC_FAULT_FIRST, F.SC_FAULT_ACCESS, F.SC_FAULT_CAUSE]⟩
/-- SC_FAULT_PC, 12_signal_cores.md R393. -/
def R.SC_FAULT_PC : Reg := ⟨.sc, 0x128, 8, 1, [F.SC_FAULT_PC_PC]⟩
/-- SC_FAULT_ADDR, 12_signal_cores.md R393. -/
def R.SC_FAULT_ADDR : Reg := ⟨.sc, 0x130, 8, 1, [F.SC_FAULT_ADDR_ADDR]⟩
/-- SC_STEAL, 12_signal_cores.md R393. -/
def R.SC_STEAL : Reg := ⟨.sc, 0x138, 8, 1, [F.SC_STEAL_COUNT]⟩
/-- SC_MEM_CE_CNT, 12_signal_cores.md R393. -/
def R.SC_MEM_CE_CNT : Reg := ⟨.sc, 0x140, 8, 1, [F.SC_MEM_CE_CNT_COUNT]⟩
/-- SC_MEM_UE_CNT, 12_signal_cores.md R393. -/
def R.SC_MEM_UE_CNT : Reg := ⟨.sc, 0x148, 8, 1, [F.SC_MEM_UE_CNT_COUNT]⟩
/-- SC_MEM_LOG, 12_signal_cores.md R393. -/
def R.SC_MEM_LOG : Reg := ⟨.sc, 0x150, 8, 1, [F.SC_MEM_LOG_VALID, F.SC_MEM_LOG_UE, F.SC_MEM_LOG_PATH, F.SC_MEM_LOG_ARRAY, F.SC_MEM_LOG_BYTE]⟩
/-- MP_CTL, 15_memory_ports.md R477. -/
def R.MP_CTL : Reg := ⟨.mp, 0x100, 8, 1, [F.MP_CTL_ZFILL, F.MP_CTL_SR_EXIT, F.MP_CTL_SR_ENTER, F.MP_CTL_TRAIN]⟩
/-- MP_STATUS, 15_memory_ports.md R477. -/
def R.MP_STATUS : Reg := ⟨.mp, 0x108, 8, 1, [F.MP_STATUS_FAILCODE, F.MP_STATUS_FAILSTEP, F.MP_STATUS_STEP, F.MP_STATUS_STATE]⟩
/-- MP_GEOM, 15_memory_ports.md R477. -/
def R.MP_GEOM : Reg := ⟨.mp, 0x110, 8, 1, [F.MP_GEOM_CAP_LOG2, F.MP_GEOM_L, F.MP_GEOM_DENSITY, F.MP_GEOM_STACK, F.MP_GEOM_PRANKS, F.MP_GEOM_DIMMS, F.MP_GEOM_DRFM]⟩
/-- MP_TEMP, 15_memory_ports.md R477. -/
def R.MP_TEMP : Reg := ⟨.mp, 0x118, 8, 1, [F.MP_TEMP_HIREF, F.MP_TEMP_TEMP1, F.MP_TEMP_TEMP0]⟩
/-- MP_SCHED, 15_memory_ports.md R477. -/
def R.MP_SCHED : Reg := ⟨.mp, 0x120, 8, 1, [F.MP_SCHED_AGE_LIMIT, F.MP_SCHED_WQ_HI, F.MP_SCHED_WQ_LO]⟩
/-- MP_REF, 15_memory_ports.md R477. -/
def R.MP_REF : Reg := ⟨.mp, 0x128, 8, 1, [F.MP_REF_REF_LIMIT]⟩
/-- MP_RH, 15_memory_ports.md R477. -/
def R.MP_RH : Reg := ⟨.mp, 0x130, 8, 1, [F.MP_RH_THR_GAP, F.MP_RH_THR_TIME, F.MP_RH_TRK_THRESH]⟩
/-- MP_RH_LOG, 15_memory_ports.md R477. -/
def R.MP_RH_LOG : Reg := ⟨.mp, 0x138, 8, 1, [F.MP_RH_LOG_VALID, F.MP_RH_LOG_SRCDEV, F.MP_RH_LOG_INIT, F.MP_RH_LOG_RANK, F.MP_RH_LOG_BG, F.MP_RH_LOG_BANK, F.MP_RH_LOG_ROW]⟩
/-- MP_RH_CNT, 15_memory_ports.md R477. -/
def R.MP_RH_CNT : Reg := ⟨.mp, 0x140, 8, 1, [F.MP_RH_CNT_RFM, F.MP_RH_CNT_THROTTLE]⟩
/-- MP_ECC, 15_memory_ports.md R477. -/
def R.MP_ECC : Reg := ⟨.mp, 0x148, 8, 1, [F.MP_ECC_PATROL_INT, F.MP_ECC_LB_LIMIT, F.MP_ECC_LEAK_EXP, F.MP_ECC_CE_IRQ, F.MP_ECC_CE_WB]⟩
/-- MP_CE_CNT, 15_memory_ports.md R477. -/
def R.MP_CE_CNT : Reg := ⟨.mp, 0x150, 8, 1, [F.MP_CE_CNT_COUNT]⟩
/-- MP_UE_CNT, 15_memory_ports.md R477. -/
def R.MP_UE_CNT : Reg := ⟨.mp, 0x158, 8, 1, [F.MP_UE_CNT_COUNT]⟩
/-- MP_PSN_CNT, 15_memory_ports.md R477. -/
def R.MP_PSN_CNT : Reg := ⟨.mp, 0x160, 8, 1, [F.MP_PSN_CNT_COUNT]⟩
/-- MP_LB, 15_memory_ports.md R477. -/
def R.MP_LB : Reg := ⟨.mp, 0x168, 8, 1, [F.MP_LB_OVF, F.MP_LB_COUNT]⟩
/-- MP_DEVMAP, 15_memory_ports.md R477. -/
def R.MP_DEVMAP : Reg := ⟨.mp, 0x170, 8, 1, [F.MP_DEVMAP_DEV]⟩
/-- MP_UE_LOG, 15_memory_ports.md R477. -/
def R.MP_UE_LOG : Reg := ⟨.mp, 0x178, 8, 1, [F.MP_UE_LOG_VALID, F.MP_UE_LOG_PATROL, F.MP_UE_LOG_ADDR]⟩
/-- MP_PATROL, 15_memory_ports.md R477. -/
def R.MP_PATROL : Reg := ⟨.mp, 0x180, 8, 1, [F.MP_PATROL_POS]⟩
/-- MP_CELOG, 15_memory_ports.md R477. -/
def R.MP_CELOG : Reg := ⟨.mp, 0x200, 8, 16, [F.MP_CELOG_VALID, F.MP_CELOG_DEVICE, F.MP_CELOG_COUNT, F.MP_CELOG_ADDR]⟩
/-- MP_REMAP, 15_memory_ports.md R477. -/
def R.MP_REMAP : Reg := ⟨.mp, 0x300, 8, 8, [F.MP_REMAP_VALID, F.MP_REMAP_BUSY, F.MP_REMAP_POISONED, F.MP_REMAP_ADDR, F.MP_REMAP_RELEASE, F.MP_REMAP_INSTALL]⟩
/-- WARP_CFG, 19_warp_links.md R592. -/
def R.WARP_CFG : Reg := ⟨.warp, 0x100, 8, 1, [F.WARP_CFG_QUAD, F.WARP_CFG_EN]⟩
/-- WARP_STATUS, 19_warp_links.md R592. -/
def R.WARP_STATUS : Reg := ⟨.warp, 0x108, 8, 1, [F.WARP_STATUS_STATE, F.WARP_STATUS_CAUSE, F.WARP_STATUS_PEER_PORT, F.WARP_STATUS_PEER_DEVV, F.WARP_STATUS_PEER_DEV]⟩
/-- PEER_UID, 19_warp_links.md R592. -/
def R.PEER_UID : Reg := ⟨.warp, 0x110, 8, 1, [F.PEER_UID]⟩
/-- WARP_ERRCNT, 19_warp_links.md R592. -/
def R.WARP_ERRCNT : Reg := ⟨.warp, 0x118, 8, 1, [F.WARP_ERRCNT_FEC_CORR_CNT, F.WARP_ERRCNT_CRC_ERR_CNT]⟩
/-- WARP_REPLAY, 19_warp_links.md R592. -/
def R.WARP_REPLAY : Reg := ⟨.warp, 0x120, 8, 1, [F.WARP_REPLAY_REPLAY_CNT, F.WARP_REPLAY_DOWN_CNT]⟩
/-- WARP_DROP, 19_warp_links.md R592. -/
def R.WARP_DROP : Reg := ⟨.warp, 0x128, 8, 1, [F.WARP_DROP_REED_LATE_CNT, F.WARP_DROP_DROP_CNT]⟩
/-- TX_FLITS, 19_warp_links.md R592. -/
def R.TX_FLITS : Reg := ⟨.warp, 0x130, 8, 1, [F.TX_FLITS]⟩
/-- RX_FLITS, 19_warp_links.md R592. -/
def R.RX_FLITS : Reg := ⟨.warp, 0x138, 8, 1, [F.RX_FLITS]⟩
/-- WARP_EVT, 19_warp_links.md R592. -/
def R.WARP_EVT : Reg := ⟨.warp, 0x140, 8, 1, [F.WARP_EVT_QUADERR, F.WARP_EVT_REJECT, F.WARP_EVT_DOWN, F.WARP_EVT_UP]⟩
/-- CC_CTL, 07_virelo_isa.md R238. -/
def R.CC_CTL : Reg := ⟨.cc, 0x100, 8, 1, [F.CC_CTL_START, F.CC_CTL_RESET]⟩
/-- CC_ENTRY, 07_virelo_isa.md R238. -/
def R.CC_ENTRY : Reg := ⟨.cc, 0x108, 8, 1, [F.CC_ENTRY_ENTRY]⟩
/-- CC_STATUS, 07_virelo_isa.md R238. -/
def R.CC_STATUS : Reg := ⟨.cc, 0x110, 8, 1, [F.CC_STATUS_CTXID, F.CC_STATUS_TW, F.CC_STATUS_TASK, F.CC_STATUS_STATE]⟩
/-- CC_PC, 07_virelo_isa.md R238. -/
def R.CC_PC : Reg := ⟨.cc, 0x118, 8, 1, [F.CC_PC_PC]⟩
/-- CC_FAULT, 08_virelo_exceptions.md R252. -/
def R.CC_FAULT : Reg := ⟨.cc, 0x120, 8, 1, [F.CC_FAULT_VALID, F.CC_FAULT_FIRST, F.CC_FAULT_ACCESS, F.CC_FAULT_CAUSE]⟩
/-- CC_FAULT_PC, 08_virelo_exceptions.md R252. -/
def R.CC_FAULT_PC : Reg := ⟨.cc, 0x128, 8, 1, [F.CC_FAULT_PC_PC]⟩
/-- CC_FAULT_ADDR, 08_virelo_exceptions.md R252. -/
def R.CC_FAULT_ADDR : Reg := ⟨.cc, 0x130, 8, 1, [F.CC_FAULT_ADDR_ADDR]⟩
/-- LPQ_BASE, 09_loom_programs.md R301. -/
def R.LPQ_BASE : Reg := ⟨.cc, 0x140, 8, 1, [F.LPQ_BASE_BASE]⟩
/-- LPQ_CFG, 09_loom_programs.md R301. -/
def R.LPQ_CFG : Reg := ⟨.cc, 0x148, 8, 1, [F.LPQ_CFG_EN, F.LPQ_CFG_LOG2N]⟩
/-- LPQ_TAIL, 09_loom_programs.md R301. -/
def R.LPQ_TAIL : Reg := ⟨.cc, 0x150, 8, 1, [F.LPQ_TAIL_TAIL]⟩
/-- LPQ_HEAD, 09_loom_programs.md R301. -/
def R.LPQ_HEAD : Reg := ⟨.cc, 0x158, 8, 1, [F.LPQ_HEAD_HEAD]⟩
/-- LCQ_BASE, 09_loom_programs.md R301. -/
def R.LCQ_BASE : Reg := ⟨.cc, 0x160, 8, 1, [F.LCQ_BASE_BASE]⟩
/-- LCQ_CFG, 09_loom_programs.md R301. -/
def R.LCQ_CFG : Reg := ⟨.cc, 0x168, 8, 1, [F.LCQ_CFG_LOG2N]⟩
/-- LCQ_TAIL, 09_loom_programs.md R301. -/
def R.LCQ_TAIL : Reg := ⟨.cc, 0x170, 8, 1, [F.LCQ_TAIL_TAIL]⟩
/-- LCQ_HEAD, 09_loom_programs.md R301. -/
def R.LCQ_HEAD : Reg := ⟨.cc, 0x178, 8, 1, [F.LCQ_HEAD_HEAD]⟩
/-- CC_PROG, 09_loom_programs.md R301. -/
def R.CC_PROG : Reg := ⟨.cc, 0x180, 8, 1, [F.CC_PROG_LDM_PAGES, F.CC_PROG_LDM_OFF, F.CC_PROG_LIM_PAGES, F.CC_PROG_LIM_OFF]⟩
/-- LP_STATUS, 09_loom_programs.md R301. -/
def R.LP_STATUS : Reg := ⟨.cc, 0x188, 8, 1, [F.LP_STATUS_LAST_CODE, F.LP_STATUS_STATE]⟩
/-- PSTATE, 07_virelo_isa.md R219. -/
def R.PSTATE : Reg := ⟨.vsr, 0x0, 8, 1, [F.PSTATE_TW, F.PSTATE_TRAPDZ, F.PSTATE_IE, F.PSTATE_TASK]⟩
/-- FLAGS, 07_virelo_isa.md R219. -/
def R.FLAGS : Reg := ⟨.vsr, 0x1, 8, 1, [F.FLAGS_DZ, F.FLAGS_NZCV]⟩
/-- CTXID, 07_virelo_isa.md R219. -/
def R.CTXID : Reg := ⟨.vsr, 0x2, 8, 1, [F.CTXID]⟩
/-- WSTATE, 07_virelo_isa.md R219. -/
def R.WSTATE : Reg := ⟨.vsr, 0x3, 8, 1, [F.WSTATE_WDEPTH, F.WSTATE_CWP]⟩
/-- KEYATTR, 07_virelo_isa.md R219. -/
def R.KEYATTR : Reg := ⟨.vsr, 0x4, 8, 1, [F.KEYATTR]⟩
/-- CCFG, 07_virelo_isa.md R219. -/
def R.CCFG : Reg := ⟨.vsr, 0x5, 8, 1, [F.CCFG_LIMRO]⟩
/-- TAW_BASE, 07_virelo_isa.md R219. -/
def R.TAW_BASE : Reg := ⟨.vsr, 0x10, 2, 8, [F.TAW_BASE_BASE, F.TAW_BASE_PERM]⟩
/-- TAW_LAST, 07_virelo_isa.md R219. -/
def R.TAW_LAST : Reg := ⟨.vsr, 0x11, 2, 8, [F.TAW_LAST_LAST]⟩
/-- CACHE_BASE, 07_virelo_isa.md R219. -/
def R.CACHE_BASE : Reg := ⟨.vsr, 0x20, 2, 4, [F.CACHE_BASE_BASE, F.CACHE_BASE_EN]⟩
/-- CACHE_LIM, 07_virelo_isa.md R219. -/
def R.CACHE_LIM : Reg := ⟨.vsr, 0x21, 2, 4, [F.CACHE_LIM_LAST]⟩
/-- CYCLE, 07_virelo_isa.md R219. -/
def R.CYCLE : Reg := ⟨.vsr, 0x30, 8, 1, [F.CYCLE]⟩
/-- RETIRED, 07_virelo_isa.md R219. -/
def R.RETIRED : Reg := ⟨.vsr, 0x31, 8, 1, [F.RETIRED]⟩
/-- CORE_ID, 07_virelo_isa.md R219. -/
def R.CORE_ID : Reg := ⟨.vsr, 0x38, 8, 1, [F.CORE_ID_CORE]⟩
/-- TBASE, 08_virelo_exceptions.md R246. -/
def R.TBASE : Reg := ⟨.vsr, 0x40, 8, 1, [F.TBASE_BASE]⟩
/-- TPC, 08_virelo_exceptions.md R246. -/
def R.TPC : Reg := ⟨.vsr, 0x41, 8, 1, [F.TPC]⟩
/-- TPSTATE, 08_virelo_exceptions.md R246. -/
def R.TPSTATE : Reg := ⟨.vsr, 0x42, 8, 1, [F.TPSTATE_TRAPDZ, F.TPSTATE_IE, F.TPSTATE_TASK]⟩
/-- TCAUSE, 08_virelo_exceptions.md R246. -/
def R.TCAUSE : Reg := ⟨.vsr, 0x43, 8, 1, [F.TCAUSE_ACCESS, F.TCAUSE_CAUSE]⟩
/-- TADDR, 08_virelo_exceptions.md R246. -/
def R.TADDR : Reg := ⟨.vsr, 0x44, 8, 1, [F.TADDR]⟩
/-- TINFO, 08_virelo_exceptions.md R246. -/
def R.TINFO : Reg := ⟨.vsr, 0x45, 8, 1, [F.TINFO]⟩
/-- SERR_ADDR, 08_virelo_exceptions.md R246. -/
def R.SERR_ADDR : Reg := ⟨.vsr, 0x48, 8, 1, [F.SERR_ADDR_ADDR]⟩
/-- SERR, 08_virelo_exceptions.md R246. -/
def R.SERR : Reg := ⟨.vsr, 0x49, 8, 1, [F.SERR_VALID, F.SERR_COUNT, F.SERR_CODE]⟩
/-- S_SSTATUS, 12_signal_cores.md R373. -/
def R.S_SSTATUS : Reg := ⟨.ssr, 0x0, 8, 1, [F.S_SSTATUS_PLACT, F.S_SSTATUS_LACT, F.S_SSTATUS_INTRAP, F.S_SSTATUS_PIE, F.S_SSTATUS_IE]⟩
/-- S_SFLAGS, 12_signal_cores.md R373. -/
def R.S_SFLAGS : Reg := ⟨.ssr, 0x1, 8, 1, [F.S_SFLAGS_IXOVF, F.S_SFLAGS_OVX, F.S_SFLAGS_OVA, F.S_SFLAGS_OV24]⟩
/-- S_RCFG, 12_signal_cores.md R373. -/
def R.S_RCFG : Reg := ⟨.ssr, 0x2, 8, 1, [F.S_RCFG_RRB, F.S_RCFG_RSIZE]⟩
/-- S_SVEC, 12_signal_cores.md R373. -/
def R.S_SVEC : Reg := ⟨.ssr, 0x3, 8, 1, [F.S_SVEC_TVEC]⟩
/-- S_STPC, 12_signal_cores.md R373. -/
def R.S_STPC : Reg := ⟨.ssr, 0x4, 8, 1, [F.S_STPC_STPC]⟩
/-- S_SCAUSE, 12_signal_cores.md R373. -/
def R.S_SCAUSE : Reg := ⟨.ssr, 0x5, 8, 1, [F.S_SCAUSE_SLOT, F.S_SCAUSE_ACCESS, F.S_SCAUSE_CAUSE]⟩
/-- S_STINFO, 12_signal_cores.md R373. -/
def R.S_STINFO : Reg := ⟨.ssr, 0x6, 8, 1, [F.S_STINFO_STINFO]⟩
/-- S_LR, 12_signal_cores.md R373. -/
def R.S_LR : Reg := ⟨.ssr, 0xa, 8, 1, [F.S_LR_LR]⟩
/-- S_LCOUNT, 12_signal_cores.md R373. -/
def R.S_LCOUNT : Reg := ⟨.ssr, 0xb, 8, 1, [F.S_LCOUNT_LCOUNT]⟩
/-- S_LSTART, 12_signal_cores.md R373. -/
def R.S_LSTART : Reg := ⟨.ssr, 0xc, 8, 1, [F.S_LSTART_LSTART]⟩
/-- S_LEND, 12_signal_cores.md R373. -/
def R.S_LEND : Reg := ⟨.ssr, 0xd, 8, 1, [F.S_LEND_LEND]⟩
/-- S_SKEY, 12_signal_cores.md R373. -/
def R.S_SKEY : Reg := ⟨.ssr, 0xe, 8, 1, [F.S_SKEY_SKEY]⟩
/-- S_CORE_ID, 12_signal_cores.md R373. -/
def R.S_CORE_ID : Reg := ⟨.ssr, 0xf, 8, 1, [F.S_CORE_ID_CORE_ID]⟩
/-- S_SERR, 12_signal_cores.md R373. -/
def R.S_SERR : Reg := ⟨.ssr, 0x10, 8, 1, [F.S_SERR_VALID, F.S_SERR_COUNT, F.S_SERR_CODE]⟩
/-- S_STADDR, 12_signal_cores.md R373. -/
def R.S_STADDR : Reg := ⟨.ssr, 0x7, 8, 1, [F.S_STADDR_STADDR]⟩
/-- S_SERR_ADDR, 12_signal_cores.md R373. -/
def R.S_SERR_ADDR : Reg := ⟨.ssr, 0x11, 8, 1, [F.S_SERR_ADDR_ADDR]⟩

/-- The registers of HDR. -/
def regsOfHdr : List Reg := [R.STAGE_CTL, R.STAGE_PICK, R.UNIT_STATUS, R.UNIT_ID]
/-- The registers of FAM. -/
def regsOfFam : List Reg := [R.SEL, R.FAMILY_INFO]
/-- The registers of GLOBAL. -/
def regsOfGlobal : List Reg := [R.DEV_ID, R.REVISION, R.INIT_ID, R.INIT_CTL, R.ERR_REC, R.ERR_STAT, R.GRADE, R.BOOT_STATUS]
/-- The registers of CLK. -/
def regsOfClk : List Reg := [R.SPLL_CFG, R.SPLL_STATUS, R.FPLL_CFG, R.FPLL_STATUS, R.GLINE_CFG, R.GLINE_FREQ, R.DOM_CTL, R.DOM_STATUS, R.CLK_GOOD, R.CLK_FAILEVT, R.QREF_GOOD, R.QREF_FAILEVT, R.LINE_FORCED, R.LINE_FORCE_CLR, R.CLK_ERR]
/-- The registers of PWR. -/
def regsOfPwr : List Reg := [R.PWR_MODE, R.PWR_STATUS, R.PWR_WAKE_TIME, R.PWR_WAKE_GPIO, R.RST_CTL, R.RST_CAUSE, R.WDT_CFG, R.WDT_KICK, R.WDT_STATUS, R.PWR_MEAS, R.PWR_IIN, R.PWR_LIMIT_MW, R.PWR_EVT, R.PWR_RAIL_LOG, R.PWR_TEMP, R.PWR_GPIO_V, R.PWR_CAP_MASK, R.PWR_BAY_V, R.PWR_BAY_REQ, R.PWR_BAY_STATE]
/-- The registers of IRQ. -/
def regsOfIrq : List Reg := [R.IRQ_SRC, R.IRQ_PEND, R.IRQ_ACT, R.BAY_PSN_SUM, R.BAY_MCE_SUM, R.BAY_MUE_SUM, R.IRQ_STATUS, R.IRQ_HOST_EOI, R.IRQ_CC_THRESH, R.IRQ_CC_EOI, R.IRQ_CC_PRES, R.IRQ_CC_COAL, R.IRQ_HOST_COAL, R.IRQ_SC_THRESH, R.IRQ_SC_EOI, R.IRQ_SC_PRES, R.IRQ_SC_COAL]
/-- The registers of CFG. -/
def regsOfCfg : List Reg := [R.CFG_POLICY, R.CFG_IKEY, R.CFG_LOAD, R.CFG_FAULT, R.SCRUB_CTL, R.SCRUB_DEF, R.SCRUB_STATUS, R.SCRUB_PASS, R.SCRUB_CNT0, R.SCRUB_CNT1, R.SCRUB_CNT2, R.SCRUB_LOG]
/-- The registers of HD. -/
def regsOfHd : List Reg := [R.HD_WEIGHT, R.HD_SWEIGHT, R.HD_STATUS, R.HD_INST_SEL, R.HD_INST, R.HD_SPOOL_SEL, R.HD_SPOOL0, R.HD_SPOOL1, R.HD_SPOOL2, R.HD_MOVE_CTL, R.HD_MOVE_PICK, R.HD_MOVE_BASE, R.HD_NOFIT_ORG, R.HD_NOFIT_VICT, R.HD_POOL_CTL, R.HD_POOL_BASE, R.HD_POOL_LAST, R.HD_MAP]
/-- The registers of MPE. -/
def regsOfMpe : List Reg := [R.MPE_CTL, R.MPE_KEY, R.MPE_STATUS, R.MPE_ALARM_LOG, R.MPE_ALARM_ADDR, R.MPE_ALARM_CNT, R.MPE_BLOCK_CNT, R.MPE_BLOCK_LOG, R.MPR_CTL, R.MPR_BASE, R.MPR_META, R.MPR_RIGHTS, R.MPR_DMA_R, R.MPR_DMA_W, R.MPR_ROT, R.MPR_STAT]
/-- The registers of NOC. -/
def regsOfNoc : List Reg := [R.NOC_LATE, R.NOC_TOLOG, R.NOC_TOADDR, R.TRACE_BASE, R.TRACE_CFG, R.TRACE_WP, R.TRACE_RP, R.TRACE_DROP, R.PROBE_CTL, R.PROBE_INIT, R.PROBE_ALO, R.PROBE_AHI, R.PCOUNT, R.PBYTES, R.NOC_INITCFG]
/-- The registers of REED. -/
def regsOfReed : List Reg := [R.WARP_SYS_CFG, R.WARP_SYS_CTL, R.WARP_SYS_STATUS, R.DEV_UID, R.WARP_SYS_EVT, R.ISOL_PICK, R.WARP_RT, R.SYSTIME, R.PICK_CNT, R.PICK_NS, R.ORIGIN_T, R.ORIGIN_N, R.TB_CTL, R.TB_STATUS, R.TB_OFFSET, R.TB_TREE, R.TB_PARENT, R.TB_EVT, R.REED_OP_CTL, R.REED_OP_PICK, R.REED_OP_ARG, R.REED_OP_RESULT, R.REED_OP_BUF, R.REED_OP_LEN, R.BC_BASE, R.BC_CFG, R.BC_WP, R.BC_RP, R.MODE_STATUS, R.MODE_CTL, R.MODE_STATE, R.MODE_FENCE_LOG, R.REED_TO, R.REED_STAT, R.REED_DISC, R.REED_SNAPLOG, R.REED_SNAPLOG_PICK]
/-- The registers of BIST. -/
def regsOfBist : List Reg := [R.BIST_CTL, R.BIST_REQ, R.BIST_PICK, R.BIST_PICK2, R.BIST_STATUS, R.BIST_MISR, R.BIST_LOG, R.PRIV_RESULT, R.AGE_CFG, R.AGE_EVT, R.BIST_SC_OK, R.AGE_BAY, R.AGE_BAY_T, R.UNUSABLE_BANK, R.UNUSABLE_SC, R.UNUSABLE_QUAD, R.UNUSABLE_CC, R.UNUSABLE_RTR, R.AGE_QUAD, R.AGE_QUAD_T, R.AGE_CC, R.AGE_CC_T, R.AGE_SC, R.AGE_SC_T]
/-- The registers of DBG. -/
def regsOfDbg : List Reg := [R.DBG_STATUS, R.DBG_UNLOCK, R.DBG_CHAL, R.DBG_RESP, R.DBG_NOC_ADDR, R.DBG_NOC_CTL, R.DBG_NOC_STAT, R.DBG_NOC_DATA, R.DBG_CSEL, R.DBG_REQ, R.DBG_RACC_NUM, R.DBG_RACC_DATA, R.DBG_RACC_CTL, R.DBG_RESUME, R.DBG_RESUME_PC, R.MBOX_IN, R.MBOX_OUT, R.MBOX_FLAG]
/-- The registers of DCMP. -/
def regsOfDcmp : List Reg := [R.DCMP_LO, R.DCMP_HI, R.DCMP_CTL, R.DCMP_CNT, R.DCTL, R.DSTATUS, R.DCMP_SEL]
/-- The registers of GPIO. -/
def regsOfGpio : List Reg := [R.GPIO_CFG, R.GPIO_TSET, R.GPIO_FRC, R.GPIO_OSEL, R.GPIO_TSEL, R.GPIO_SWOUT, R.GPIO_SWOE, R.GPIO_IN, R.GPIO_EVT, R.GPIO_BSTAT]
/-- The registers of PCIE. -/
def regsOfPcie : List Reg := [R.PCIE_STATUS, R.PCIE_LINK, R.PCIE_WERR, R.PCIE_WADDR, R.PCIE_WERR_CNT, R.PCIE_APTSTAT, R.APT_CFG, R.APT_BASE, R.SQ_BASE, R.CQ_BASE, R.Q_CFG, R.SQ_TAIL, R.SQ_HEAD, R.CQ_TAIL, R.CQ_HEAD, R.Q_STATUS]
/-- The registers of SPB. -/
def regsOfSpb : List Reg := [R.SPB_PWR_REQ, R.SPB_PWR_STATE, R.SPB_ZERO, R.SPB_CTL, R.SPB_CE_CNT, R.SPB_UE_CNT, R.SPB_LOG]
/-- The registers of LANE. -/
def regsOfLane : List Reg := [R.LANE_CTL, R.QUAD_CFG, R.LANE_TXEQ, R.LANE_BOND, R.LANE_TO, R.LANE_FILL, R.LANE_STATUS, R.LANE_EVT, R.RX_DROP_CNT, R.BURST_CNT, R.LANE_CNT, R.FEC_CNT, R.STRM_BASE, R.STRM_CFG, R.STRM_WP, R.STRM_RP, R.STRM_NOCERR_CNT, R.TXS_BASE, R.TXS_CTL, R.TXS_ERR_CNT]
/-- The registers of BAY. -/
def regsOfBay : List Reg := [R.BAY_CTL, R.BAY_STATUS, R.BAY_CLK_BIND, R.BAY_BOUNDARY, R.BAY_POISON_CNT, R.BAY_MEM_CE_CNT, R.BAY_MEM_UE_CNT, R.BAY_MEM_LOG, R.BAY_COEF_SEL, R.BAY_COEF_ACT, R.BAY_SLICE_FLAG, R.XLATE0, R.XLATE1, R.BAY_SCRUB, R.BAY_BIST]
/-- The registers of SC. -/
def regsOfSc : List Reg := [R.SC_CTL, R.SC_ENTRY, R.SC_STATUS, R.SC_PC, R.SC_FAULT, R.SC_FAULT_PC, R.SC_FAULT_ADDR, R.SC_STEAL, R.SC_MEM_CE_CNT, R.SC_MEM_UE_CNT, R.SC_MEM_LOG]
/-- The registers of MP. -/
def regsOfMp : List Reg := [R.MP_CTL, R.MP_STATUS, R.MP_GEOM, R.MP_TEMP, R.MP_SCHED, R.MP_REF, R.MP_RH, R.MP_RH_LOG, R.MP_RH_CNT, R.MP_ECC, R.MP_CE_CNT, R.MP_UE_CNT, R.MP_PSN_CNT, R.MP_LB, R.MP_DEVMAP, R.MP_UE_LOG, R.MP_PATROL, R.MP_CELOG, R.MP_REMAP]
/-- The registers of WARP. -/
def regsOfWarp : List Reg := [R.WARP_CFG, R.WARP_STATUS, R.PEER_UID, R.WARP_ERRCNT, R.WARP_REPLAY, R.WARP_DROP, R.TX_FLITS, R.RX_FLITS, R.WARP_EVT]
/-- The registers of CC. -/
def regsOfCc : List Reg := [R.CC_CTL, R.CC_ENTRY, R.CC_STATUS, R.CC_PC, R.CC_FAULT, R.CC_FAULT_PC, R.CC_FAULT_ADDR, R.LPQ_BASE, R.LPQ_CFG, R.LPQ_TAIL, R.LPQ_HEAD, R.LCQ_BASE, R.LCQ_CFG, R.LCQ_TAIL, R.LCQ_HEAD, R.CC_PROG, R.LP_STATUS]
/-- The registers of VSR. -/
def regsOfVsr : List Reg := [R.PSTATE, R.FLAGS, R.CTXID, R.WSTATE, R.KEYATTR, R.CCFG, R.TAW_BASE, R.TAW_LAST, R.CACHE_BASE, R.CACHE_LIM, R.CYCLE, R.RETIRED, R.CORE_ID, R.TBASE, R.TPC, R.TPSTATE, R.TCAUSE, R.TADDR, R.TINFO, R.SERR_ADDR, R.SERR]
/-- The registers of SSR. -/
def regsOfSsr : List Reg := [R.S_SSTATUS, R.S_SFLAGS, R.S_RCFG, R.S_SVEC, R.S_STPC, R.S_SCAUSE, R.S_STINFO, R.S_LR, R.S_LCOUNT, R.S_LSTART, R.S_LEND, R.S_SKEY, R.S_CORE_ID, R.S_SERR, R.S_STADDR, R.S_SERR_ADDR]

/-- The registers of a block or family window (Table 2.1). -/
def regsOf : Blk → List Reg
  | .hdr => regsOfHdr
  | .fam => regsOfFam
  | .global => regsOfGlobal
  | .clk => regsOfClk
  | .pwr => regsOfPwr
  | .irq => regsOfIrq
  | .cfg => regsOfCfg
  | .hd => regsOfHd
  | .mpe => regsOfMpe
  | .noc => regsOfNoc
  | .reed => regsOfReed
  | .bist => regsOfBist
  | .dbg => regsOfDbg
  | .dcmp => regsOfDcmp
  | .gpio => regsOfGpio
  | .pcie => regsOfPcie
  | .spb => regsOfSpb
  | .lane => regsOfLane
  | .bay => regsOfBay
  | .sc => regsOfSc
  | .mp => regsOfMp
  | .warp => regsOfWarp
  | .cc => regsOfCc
  | .vsr => regsOfVsr
  | .ssr => regsOfSsr

end Sys2Proof.Machine
end

