-- ==== Sys2Proof/Machine/Parts.lean ====
section
/-!
DEFINITION. The parts of the machine's state that are not register fields: staged values, requests on the on-chip
network, and what each kind of unit holds inside.
-/
namespace Sys2Proof.Machine

/-- A value staged in the shadow of an RWS field (R56): the unit whose header controls it, the field, unit, copy and
value. -/
structure Staged where
  hu : Nat
  fld : Field
  u : Nat
  i : Nat
  v : Nat
deriving DecidableEq, Repr

/-- Why an initiator issued a request: what its response is delivered to (Table 14.7). -/
inductive Purpose where
  /-- a control core's load, atomic, fetch or line fill: the core's `wait` says which -/
  | ccRead (c : Nat)
  /-- a posted store of a control core, or the write-back of an evicted line, with its address (R253) -/
  | ccStore (c a : Nat)
  /-- a precise write-back of a cache-maintenance instruction (Table 7.12) -/
  | ccWb (c : Nat)
  /-- access `k` of a SPILL or FILL (R249) -/
  | ccWin (c k : Nat)
  /-- a signal core's load (move slot `k`) -/
  | scRead (s k : Nat)
  /-- a posted store of a signal core, with its address (R386) -/
  | scStore (s a : Nat)
  /-- a bay-port request with the skein's own tag -/
  | bay (b id : Nat)
  /-- a PCI Express BAR read or atomic with its TLP tag: part `k` of `n`, BAR, offset -/
  | barRead (tlp k n bar off : Nat)
  /-- a PCI Express BAR write: BAR, offset -/
  | barWrite (bar off : Nat)
  /-- a request of the debug NoC initiator (R727) -/
  | debug
  /-- a data or header write of a lane stream (R541): lane, 0 data or 1 header -/
  | stream (l k : Nat)
  /-- a read of a lane's transmit stream (R544): lane, byte offset -/
  | txs (l off : Nat)
  /-- part of a DMA transfer: queue, descriptor, offset in the transfer, length -/
  | dma (q d off n : Nat)
  /-- a trace record write (R428) -/
  | trace
  /-- a write of a broadcast-ring entry (R613) -/
  | reed (e : Nat)
  /-- the read of a BROADCAST's source (R613): slot -/
  | reedRd (sl : Nat)
  /-- its initiator was reset; the response is discarded (R239, R393) -/
  | dropped
deriving DecidableEq, Repr, Inhabited

/-- A request of an initiator and where it stands: 0 waiting at the initiator, 1 in the network or at its target,
2 timed out with its tag held (R424); the TO_EXP that its timer runs with (R423). -/
structure Req where
  pkt : Packet
  why : Purpose
  phase : Nat := 0
  target : Nat := 0
  toExp : Nat := 0
deriving DecidableEq, Repr, Inhabited

/-- A packet inside the network: the router it waits at, the routers where it entered and will leave, the input it came in
by (a neighbour's number, or 1024 + the port of a unit), and, once it has left its last router, that it stands at its target
or initiator. -/
structure Hop where
  pkt : Packet
  at_ : Nat := 0
  src : Nat := 0
  dst : Nat := 0
  inp : Nat := 0
  arrived : Bool := false
deriving DecidableEq, Repr, Inhabited

/-- What a control core waits for before it issues its next instruction. -/
inductive VWait where
  /-- nothing: the core issues -/
  | none
  /-- an instruction fetch of the line or word at the address (R201) -/
  | fetch (a : Nat) (line : Bool)
  /-- an uncached load: destination, bytes, signed, address -/
  | load (rd w : Nat) (sgn : Bool) (a : Nat)
  /-- an atomic: destination, 0 SWAP 1 FADD 2 CAS, address -/
  | atomic (rd kind a : Nat)
  /-- a line fill for a cached load -/
  | fillLoad (rd w : Nat) (sgn : Bool) (a : Nat)
  /-- a line fill for a cached store -/
  | fillStore (w v a : Nat)
  /-- a line fill for a SPILL or FILL to a cached range -/
  | fillWin (fill : Bool) (a : Nat)
  /-- write-backs of a cache-maintenance instruction still out: how many, address, whether lines are then dropped -/
  | maint (n a : Nat) (inv : Bool) (err : Nat)
  /-- a SPILL over the network: accesses still out, the error kept (status + 1024 x (access + 1)), the address -/
  | spill (n err ea : Nat)
  /-- a FILL over the network: accesses still out, the error kept, the address, words received -/
  | fill (n err ea : Nat) (ws : List (Nat × Nat))
  /-- a store to the LDM that follows stores still out on the network (R256, R259): bytes, value, address -/
  | heldStore (w v a : Nat)
  /-- an atomic in the LDM that follows stores still out: destination, kind, address, compare value, operand -/
  | heldAtomic (rd kind a : Nat) (cmp op : Word)
  /-- a SPILL to the LDM that follows stores still out: its address -/
  | heldSpill (a : Nat)
  /-- LWAIT waits for a ticket (R276) -/
  | lwait (rd t : Nat)
  /-- LNEXT waits for a verified program (R298) -/
  | lnext (rd : Nat)
  /-- LEXIT waits for earlier accesses of the core, with its result (R300) -/
  | lexitDrain (v : Nat)
  /-- LEXIT waits for its completion entry to be written -/
  | lexit (v : Nat)
  /-- earlier accesses must complete: 0 FENCE.SL, 1 FENCE, 2 SYNC.I, 3 WAIT, 4 ERET -/
  | drain (k : Nat)
deriving DecidableEq, Repr, Inhabited

/-- A line of a data cache: the address of its first byte, its key ID, whether it is dirty, its 64 bytes (R206). -/
structure DLine where
  a : Nat
  key : Nat
  dirty : Bool
  data : List Byte
deriving DecidableEq, Repr, Inhabited

/-- What a control core holds beside its system registers: the PC, the physical registers (0-15 G, 16 + 12w + k for
W_k of window w, 160-175 the trap window), what it waits for, pending SBUS, a pending debug event (0 none, else KIND
and INDEX as in Table 25.3, with its address), a fetch that failed, the address whose fetch has completed, whether
it stays in the WAIT of a failed boot (R267), and the caches. -/
structure VCore where
  pc : Word := 0
  regs : SMap Word := {}
  wait : VWait := .none
  sbus : Bool := false
  dbg : Nat := 0
  dbgAddr : Nat := 0
  fetchErr : Nat := 0
  fetched : Option Nat := none
  stepArmed : Bool := false
  romWait : Bool := false
  dcache : List DLine := []
  icache : List (Nat × Nat) := []
deriving DecidableEq, Repr, Inhabited

/-- A switch of a clock domain in progress (R636): phase 0 none, 1 dividing on the old source, 3 stepping to the
target; a selection that waits for its source (R637); a failure that may fail over to ALT (R640). -/
structure DomSw where
  phase : Nat := 0
  waits : Bool := false
  failed : Bool := false
deriving DecidableEq, Repr, Inhabited

/-- A hold or release of a region in progress (R195): the instance whose bays it acts on, whether it is a hold, the
stage issued and not yet in effect, its last stage, the boundary of stage 3 of a release at a pick, and the command that
waits for it: core, slot and generation as one number, plus 1. -/
structure HoldOp where
  inst : Nat
  hold : Bool
  stage : Nat := 1
  last : Nat := 3
  pick : Option Nat := none
  ticket : Nat := 0
deriving DecidableEq, Repr, Inhabited

/-- What a memory block port presents, and with OREG = 1 the result that its output register takes next (R106). -/
structure PortOut where
  dout : Nat := 0
  ce : Bool := false
  ue : Bool := false
  busy : Bool := false
  pipe : Option (Nat × Bool × Bool) := none
  pipeBusy : Bool := false
deriving DecidableEq, Repr, Inhabited

/-- A window request that a memory block is serving (R121): bytes done, their data, poisoned flits. -/
structure WinProg where
  done : Nat := 0
  data : List Byte := []
  pmask : Nat := 0
deriving DecidableEq, Repr, Inhabited

/-- A request that a scratchpad bank has accepted (R127): its rows served so far, their data, poisoned flits, and
whether its first row has been granted. -/
structure SpadReq where
  pkt : Packet
  done : Nat := 0
  data : List Byte := []
  pmask : Nat := 0
deriving DecidableEq, Repr, Inhabited

/-- A scratchpad bank (R126, R127): the queues of its first two levels, the initiator last granted at each (INIT x 512 +
SRCDEV), a pending corrected-byte write-back, and the state it moves to (R129): 0 none, 1 to off, 2 to retention, 3 to on, 4 to
retention by way of on, 5 zero fill, 6 under test. -/
structure SpadBank where
  q1 : List SpadReq := []
  q2 : List SpadReq := []
  last1 : Nat := 0
  last2 : Nat := 0
  wb : Option Nat := none
  moving : Nat := 0
  stale : Bool := false
deriving DecidableEq, Repr, Inhabited

/-- An operation in flight in a slice (R138): its exact product, PRE_OV, C, operation code and FIRST. -/
structure SliceOp where
  m : Int := 0
  preOv : Bool := false
  c : Nat := 0
  op : Nat := 0
  first : Bool := false
deriving DecidableEq, Repr, Inhabited

/-- What an arithmetic slice holds (R136): its accumulator, index registers and flags, its outputs, the operations in
flight, and both coefficient banks (entry 16 x bank + i). -/
structure Slice where
  acc : Nat := 0
  ovf : Bool := false
  preOv : Bool := false
  idx : Nat := 0
  idxCnt : Nat := 0
  idxOvf : Bool := false
  y : Nat := 0
  yov : Bool := false
  yNext : Nat × Bool := (0, false)
  pipe : List SliceOp := []
  coef : SMap Nat := {}
deriving DecidableEq, Repr, Inhabited

/-! ### Signal cores (chapters 12, 13) -/

/-- A MAC-slot operation (Tables 12.5, 12.6): `op` is the code of its table where several share a layout; `bad` is a
reserved code or a field that must be 0 and is not. -/
inductive MacOp where
  | nop
  | bad
  | mul (op d a b : Nat) (sat uns : Bool)
  | accAdd (sub : Bool) (d src : Nat) (sat uns : Bool)
  | accLd (d a k : Nat) (uns : Bool)
  | accSra (d k : Nat)
  | accClr (d : Nat)
  | ext (src rd shift rnd : Nat) (sat24 uns : Bool)
  | search (max : Bool) (d a : Nat) (f dual u abs : Bool)
  | alu (op a b rd : Nat) (sat : Bool)
deriving DecidableEq, Repr, Inhabited

/-- A move-slot, control or long operation (Tables 12.8, 12.9a, 12.9b). -/
inductive MoveOp where
  | nop
  | bad
  | ld (v n m : Nat) (pair : Bool)
  | st (v n m : Nat) (pair : Bool)
  | mov (d a : Nat)
  | mvi (d imm : Nat)
  | aadd (a n : Nat)
  | mvta (a n p : Nat)
  | mvfa (d n p : Nat)
  | mvts (a n : Nat) (cs : Bool)
  | mvfs (d n : Nat) (cs : Bool)
  | mvtacc (a acc p : Nat)
  | mvfacc (d acc p : Nat)
  | mvtix (a acc : Nat) (c : Bool)
  | mvfix (d acc : Nat) (c : Bool)
  | mfsr (d sr : Nat)
  | mtsr (a sr : Nat)
  | lmvi (d imm : Nat)
  | lseta (n q imm : Nat) (ins : Bool)
  | lst (n : Nat) (cs : Bool) (imm : Nat)
  | branch (cond a disp : Nat)
  | jmp (t : Nat) (link : Bool)
  | ret
  | rep (imm : Bool) (n : Nat) (rot : Bool) (len : Nat)
  | rot
  | syncC
  | fence (full : Bool)
  | rte
  | trap (n : Nat)
  | waiti
  | raise (n : Nat)
deriving DecidableEq, Repr, Inhabited

/-- A bundle (R376): its MAC slot, M1 and M2; a long operation stands in `m1` with `m2` empty. -/
structure SBundle where
  mac : MacOp := .nop
  m1 : MoveOp := .nop
  m2 : MoveOp := .nop
deriving DecidableEq, Repr, Inhabited

/-- What a signal core waits for. -/
inductive SWait where
  | none
  /-- the responses to the NoC loads of a bundle (R377) -/
  | loads (b : SBundle)
  /-- earlier stores over the NoC, before a bundle that stores to the core's own bank (R256, R385) -/
  | order (b : SBundle)
  /-- the store of M2 to the core's own bank, after M1's over the NoC: container offset and words -/
  | heldStore (off : Nat) (ws : List Nat)
  /-- earlier accesses, with the bundle index that follows: FENCE.SL, FENCE, or WAITI when `w` -/
  | drain (w : Bool)
deriving DecidableEq, Repr, Inhabited

/-- What a signal core holds beside its system registers (Table 12.1): the next bundle's index, V by physical number,
ACC, IX, IXC, AP, ST and CS, the responses that its waiting bundle has (by slot: status, poisoned, data), pending SBUS
and debug event, bundles that fetch has read ahead with whether they are poisoned (R387), the repeat cache's tag and the
bundles it holds (R394), the ROT bit of the loop, corrected bytes to be written back, and a window request in progress. -/
structure SCore where
  pc : Nat := 0
  v : SMap SWord := {}
  acc : SMap Acc := {}
  ix : SMap Nat := {}
  ixc : SMap Nat := {}
  ap : SMap Word := {}
  st : SMap SWord := {}
  cs : SMap SWord := {}
  wait : SWait := .none
  resp : SMap (Option (Nat × Bool × List Byte)) := {}
  sbus : Bool := false
  dbg : Nat := 0
  dbgAddr : Nat := 0
  stepArmed : Bool := false
  ahead : List (Nat × Bool) := []
  tag : Option (Nat × Nat) := none
  held : List Nat := []
  loopRot : Bool := false
  wb : List Nat := []
  win : WinProg := {}
deriving DecidableEq, Repr, Inhabited

/-! ### Lanes and warp ports (chapters 17, 19) -/

/-- The boundary registers of a lane attach port (R89): towards the lane TXD with TXH from bit 256 and TXV; towards the skein RXD,
RXH and flags as in a receive entry, 0 when nothing is presented. -/
structure LaneAtt where
  tx : Nat := 0
  txv : Bool := false
  rxw : Nat := 0
  rxh : Nat := 0
  rxf : Nat := 0
deriving DecidableEq, Repr, Inhabited

/-- A segment of a lane stream (R541): its number in the stream's history, its ring offset, words in it, its number in the
burst, BURST_NUM, arrival time and pick of its first word, FLAGS, writes still out, whether its burst has ended, whether
its header has been written and answered. -/
structure Seg where
  id : Nat
  off : Nat
  n : Nat := 0
  num : Nat := 0
  burst : Nat := 0
  time : Nat := 0
  pick : Nat := 0
  flags : Nat := 0
  out : Nat := 0
  closed : Bool := false
  hdr : Nat := 0
deriving DecidableEq, Repr, Inhabited

/-- What a lane holds beside its registers: the attach-port queues (receive entries: word, headers, flags RXV 1, SOB 2,
GAP 4, ERR 8, EOB 16, TRUNC 32), pending SOB and GAP marks, the loss timer, STEP training (last word, valid words alike
in a row, words received and sent with ACK, the partner's mask, whether it has completed), for the quad's lane 0 the
codes it has removed and whether it has left code 0, PRBS history and error window, markers (words since one, count sent,
missed), the word to loop back, the open segment and those that follow, the read-ahead of the transmit stream,
and, for the quad's lane 0, whether the quad PLL has lost its lock (R641). -/
structure Lane where
  rxq : List (Nat × Nat × Nat) := []
  txq : List (Nat × Nat) := []
  sob : Bool := false
  gap : Bool := false
  timer : Bool := false
  trLast : Nat := 0
  trSame : Nat := 0
  trAckRx : Nat := 0
  trAckTx : Nat := 0
  trMask : Nat := 0
  trained : Bool := false
  cut : Nat := 0
  atRate : Bool := false
  prTx : Nat := 0
  prRx : Nat := 0
  prRun : Nat := 0
  prPos : Nat := 0
  prErrs : List Nat := []
  amTx : Nat := 0
  amCnt : Nat := 0
  amRx : Nat := 0
  amSeen : Bool := false
  amMiss : Nat := 0
  far : Option Nat := none
  segs : List Seg := []
  segId : Nat := 0
  segNum : Nat := 0
  dropped : Bool := false
  txRead : Nat := 0
  txSend : Nat := 0
  txBuf : List (Nat × Option Nat) := []
  pllLost : Bool := false
deriving DecidableEq, Repr, Inhabited

/-- A unit of a NoC packet on a link (R570): its class, whether it is the header, its bytes. -/
structure LinkUnit where
  cls : Nat
  head : Bool
  data : List Byte
deriving DecidableEq, Repr, Inhabited

/-- A flit that waits for acknowledgement (R574): sequence number, TYPE, bytes 8 to 239. -/
structure SentFlit where
  seq : Nat
  kind : Nat
  body : List Byte
deriving DecidableEq, Repr, Inhabited

/-- What a warp port holds beside its registers (R570 to R575, R608): the units that wait to be sent and the second half
of one sent in part, DISC payloads to send, its next SEQ, unacknowledged flits, how many of them a replay has still to
resend, the ACK that started it and replays without advance, credits by class, the expected SEQ and whether a flit has been
accepted, RTRY wanted and sent, buffers freed by class, units received and the first half of one by class, Reed symbols to
send with their RSEQ and remaining copies, the next RSEQ, unacknowledged symbols, the expected RSEQ, the RSEQ passed on
from the flit before, the highest RSEQ seen, and symbols that wait for Reed. -/
structure WPort where
  units : List LinkUnit := []
  half : Option LinkUnit := none
  disc : List (List Byte) := []
  seq : Nat := 0
  unacked : List SentFlit := []
  replay : Nat := 0
  replayAck : Option Nat := none
  replays : Nat := 0
  credit : SMap Nat := {}
  expect : Nat := 0
  ackv : Bool := false
  rtry : Bool := false
  rtrySent : Bool := false
  freed : SMap Nat := {}
  rx : List LinkUnit := []
  rxHalf : SMap (List Byte) := {}
  reedTx : List (Nat × Nat × List Byte) := []
  rseq : Nat := 0
  reedUnacked : List (Nat × List Byte) := []
  rexpect : Nat := 0
  rpassed : Option Nat := none
  rlast : Option Nat := none
  reedIn : List (Nat × List Byte) := []
  helloSent : Bool := false
  ackOwed : Bool := false
deriving DecidableEq, Repr, Inhabited

/-- A link-state record (R581): the UID it describes, its generation, REQ_ID when requested, the DEV_ID held, ISOLATED,
and its links: port, peer UID, peer port. -/
structure LinkRec where
  uid : Nat
  gen : Nat := 0
  req : Option Nat := none
  held : Option Nat := none
  isol : Bool := false
  links : List (Nat × Nat × Nat) := []
deriving DecidableEq, Repr, Inhabited

/-- What discovery holds (R581 to R588): the records, the device's own generation, the membership at the last settlement
as (UID, DEV_ID) and its root's UID, destinations whose changed route is held (R586), a decision to isolate whose boundary has not come (R590), records that
have changed since the last settlement, a REJOIN that waits for a settlement (R591). -/
structure Discovery where
  recs : List LinkRec := []
  gen : Nat := 0
  members : List (Nat × Nat) := []
  root : Nat := 0
  drain : List Nat := []
  isolating : Bool := false
  changed : Bool := false
  rejoin : Bool := false
deriving DecidableEq, Repr, Inhabited

/-! ### PCI Express (chapter 18) -/

/-- A BAR read or atomic under way (R552, R553): its TLP tag, the parts not yet completed, in address order, as (number,
address, length), and the responses that have come: part, status, poison mask, data. -/
structure BarTlp where
  tag : Nat
  parts : List (Nat × Nat × Nat) := []
  got : List (Nat × Nat × Nat × List Byte) := []
deriving DecidableEq, Repr, Inhabited

/-- A descriptor that a DMA queue has fetched (R557): ring index, its 64 bytes, started, bytes that the host has still to
deliver, NoC responses still out, and failures as (offset, STATUS, DETAIL). -/
structure DmaDesc where
  idx : Nat
  bytes : List Byte
  started : Bool := false
  host : Nat := 0
  noc : Nat := 0
  fails : List (Nat × Nat × Nat) := []
deriving DecidableEq, Repr, Inhabited

/-- A DMA queue pair: its fetched descriptors in ring order, and whether the completion ring is on an odd pass. -/
structure DmaQ where
  descs : List DmaDesc := []
  odd : Bool := false
deriving DecidableEq, Repr, Inhabited

/-- What the endpoint holds beside its registers: MSI-X Enable, the Function Mask and Bus Master Enable of configuration
space, the Pending Bit Array, BAR reads and atomics, and the queues. -/
structure PcieSt where
  msixEn : Bool := false
  funcMask : Bool := false
  bme : Bool := false
  pba : SMap Bool := {}
  bar : List BarTlp := []
  dma : SMap DmaQ := {}
deriving DecidableEq, Repr, Inhabited

/-! ### Reed (chapter 20) -/

/-- A Reed symbol (Table 20.2); `ts` is TAG or STATUS, `arg` the value at 0x18, `ext` PICK_NS, ORIGIN_T and ORIGIN_N. -/
structure RSym where
  kind : Nat := 0
  op : Nat := 0
  flags : Nat := 0
  ts : Nat := 0
  opid : Nat := 0
  pick : Nat := 0
  arg : Nat := 0
  count : Nat := 0
  len : Nat := 0
  data : List Byte := []
  ext : Nat × Nat × Nat := (0, 0, 0)
deriving DecidableEq, Repr, Inhabited

/-- A collective (R610): its COLL_ID, the UP symbols that have arrived by child port, the slots that have issued it, and
whether this device's UP symbol has gone. -/
structure RColl where
  coll : Nat
  kids : List (Nat × RSym) := []
  slots : List Nat := []
  sent : Bool := false
deriving DecidableEq, Repr, Inhabited

/-- A scheduled operation that a device keeps until its boundary (R614, R626); `late` when it came after it. -/
structure RSched where
  sym : RSym
  late : Bool := false
deriving DecidableEq, Repr, Inhabited

/-- A mode change at a device (R617 to R624): OPID, SYSTEM, N, D, SWACK, the slot of a LOCAL change, whether this device's
units joined it, GEN at its start, the readiness reported by child ports, whether this device has reported, the decision,
whether N has passed, the outcomes reported by child ports, whether this device's outcome has gone, and the fenced units here. -/
structure RMode where
  opid : Nat
  sys : Bool := true
  n : Nat := 0
  d : Nat := 0
  swack : Bool := false
  slot : Nat := 0
  joined : Bool := true
  gen : Nat := 0
  kids : List (Nat × Bool) := []
  sent : Bool := false
  dec : Option Bool := none
  past : Bool := false
  outs : List (Nat × Nat) := []
  osent : Bool := false
  fenced : Nat := 0
deriving DecidableEq, Repr, Inhabited

/-- An entry for the broadcast ring (R613): OPID, LEN, arrival time, data. -/
structure RRing where
  opid : Nat
  len : Nat
  time : Nat
  data : List Byte
deriving DecidableEq, Repr, Inhabited

/-- What Reed holds beside its registers: the next origin sequence number, the OPID plus 1 of each
BUSY slot, collectives, scheduled operations, mode changes
in progress, OPIDs of operations that are past, first fragments of broadcasts, entries for the ring, the writes of the entry in
flight with whether one failed, whether the timebase has had a measurement since reset, measurements in a row within 100 ps, the parent's schedule as last
reported, a RESYNC that waits for the next boundary, and the OPID that MODE_CTL.READY was written for. -/
structure ReedSt where
  seq : Nat := 0
  busy : SMap Nat := {}
  colls : List RColl := []
  kept : List RSched := []
  modes : List RMode := []
  gone : List Nat := []
  frags : List RSym := []
  ringQ : List RRing := []
  ringOut : Option (Nat × Bool) := none
  measured : Bool := false
  good : Nat := 0
  par : Option (Nat × Nat × Nat) := none
  resync : Bool := false
deriving DecidableEq, Repr, Inhabited

/-! ### Memory ports (chapters 15, 16) -/

/-- A write-queue entry (R446): block number, 64 bytes, byte mask, poison bit; the bytes that unpoisoned writes have covered
since it was poisoned (R467), and the initiator and device of its last write, to which its activation is attributed
(R456, log 36). -/
structure WEntry where
  blk : Nat
  data : List Byte
  mask : Nat
  psn : Bool := false
  clean : Nat := 0
  who : Nat × Nat := (0, 0)
deriving DecidableEq, Repr, Inhabited

/-- One block of a read as taken at acceptance (R445, R447): its bytes with the queued ones laid over, its class in DRAM
(Table 15.5: 0 CLEAN, 1 CE, 2 UE, 3 POISONED; 4 served on chip), the device corrected, and whether it is delivered
poisoned. -/
structure MSnap where
  blk : Nat
  data : List Byte
  cls : Nat := 0
  dev : Nat := 0
  psn : Bool := false
deriving DecidableEq, Repr, Inhabited

/-- An entry of a read queue (R450): kind 0 a request, 1 a patrol read, 2 the read of an INSTALL of entry `e`. -/
structure MRead where
  pkt : Packet := {}
  kind : Nat := 0
  e : Nat := 0
  snaps : List MSnap := []
  issued : Bool := false
  seq : Nat := 0
deriving DecidableEq, Repr, Inhabited

/-- A response that is ready and may wait for an earlier one of the same initiator (R445): acceptance number, request,
status, data, poison mask. -/
structure MResp where
  seq : Nat
  pkt : Packet
  st : Nat
  data : List Byte := []
  pm : Nat := 0
deriving DecidableEq, Repr, Inhabited

/-- An entry of an aggressor tracker (R456). -/
structure Track where
  row : Nat
  cnt : Nat
  init : Nat
  src : Nat
deriving DecidableEq, Repr, Inhabited

/-- A request in a protection pipe: its acceptance number, ALARM_ACT of its region at acceptance (R481), the packet. -/
structure PipeReq where
  seq : Nat
  act : Nat := 0
  pkt : Packet
deriving DecidableEq, Repr, Inhabited

/-- What a memory port holds beside its registers: its queues, open rows (by bank: row + 1), refresh debts (by
rank x 4 + bank), activation counts and trackers (by bank), throttled initiators (oldest event first), requests that wait
in its protection pipe, responses that are ready, whether its DRAM was zero filled since training (R438), and the
initiator and device of the request it serves now (R456). -/
structure MPort where
  wq : List WEntry := []
  rq : List MRead := []
  drain : Bool := false
  rows : SMap Nat := {}
  debt : SMap Nat := {}
  raa : SMap Nat := {}
  refs : SMap Nat := {}
  trk : SMap (List Track) := {}
  thr : List (Nat × Nat) := []
  pipe : List PipeReq := []
  who : Nat × Nat := (0, 0)
  seq : Nat := 0
  ready : List MResp := []
  zfill : Bool := false
  zeroed : Bool := false
  rate : Nat × Nat := (0, 1)
  clkLost : Bool := false
  exiting : Bool := false
  flushed : Bool := false
deriving DecidableEq, Repr, Inhabited

/-- The hidden state of a protected region (R480, R487): root counters, salts, the node key, the state that UNFREEZE
returns to, and whether CTRMAX froze it. -/
structure MRegion where
  roots : SMap Nat := {}
  saltCur : Nat := 0
  saltNew : Nat := 0
  nk : Nat := 0
  ctrMax : Bool := false
  rotating : Bool := false
deriving DecidableEq, Repr, Inhabited

/-- A metadata-cache entry (R496): its region, its level (0 leaf, 1 to T nodes, 99 a tag line), its index, its 64 bytes
and whether it is dirty. -/
structure MEnt where
  r : Nat
  lvl : Nat
  idx : Nat
  data : List Byte
  dirty : Bool := false
deriving DecidableEq, Repr, Inhabited

/-! ### The configuration plane (chapters 6, 9, 10, 11) -/

/-- A loom command that has been accepted (R269 to R273): its ticket, the copied descriptor and spool list, its phase (0
waiting, 1 in progress, 2 scheduled or armed and not yet fired, 3 ended and not yet reported), where a command in progress
stands, the instance that it names or created, its origin (column, row), the boundary of an armed capture that has fired,
RESULT and DETAIL, whether it came late, and whether its core has been reset (R295). -/
structure LCmd where
  ticket : Nat
  desc : List Byte
  spools : List Byte := []
  phase : Nat := 0
  part : Nat := 0
  inst : Nat := 0
  org : Nat × Nat := (0, 0)
  fired : Option Nat := none
  res : Nat := 0
  detail : Nat := 0
  late : Bool := false
  drop : Bool := false
deriving DecidableEq, Repr, Inhabited

/-- A command slot (R270, R271): its generation, whether it is taken, and the status word of a completed command. -/
structure LSlot where
  gen : Nat := 0
  used : Bool := false
  status : Option Nat := none
deriving DecidableEq, Repr, Inhabited

/-- The load in progress (Table 6.12): its command; part 0 asks Heddle, 1 consumes, 2 has consumed the trailer, 3 writes
zero after a failure, 4 places spools, 5 waits for a spool's zero fill, 6 writes zero after a spool failure; the bytes
consumed; the end of the ENVELOPE section (0 outside one), the end and type of the FRAMES or EBM section, the type of the
last one, top-level sections so far, the signature section; frames written as (bay, first, count); the next spool entry;
what a failure reports: RESULT, DETAIL, image offset. -/
structure LoadSt where
  ticket : Nat
  part : Nat := 0
  seen : List Byte := []
  envEnd : Nat := 0
  secEnd : Nat := 0
  sec : Nat := 0
  last : Nat := 0
  ebm : Bool := false
  tops : Nat := 0
  sigAt : Nat := 0
  written : List (Nat × Nat × Nat) := []
  entry : Nat := 0
  res : Nat := 0
  detail : Nat := 0
  foff : Nat := 0
deriving DecidableEq, Repr, Inhabited

/-- An instance (R304): its region, OSTATE, priority, anchors as descriptors of 8 bytes, ADJ partners that it was placed
beside, instances it is linked to, spools it maps, DESIGN_ID, CLK_USED and the line of each logical clock. -/
structure Skein where
  c : Nat
  r : Nat
  w : Nat
  h : Nat
  bolt : Bool := false
  ostate : Nat := 1
  prio : Nat := 0
  anchors : List (List Byte) := []
  partners : List Nat := []
  links : List Nat := []
  spools : List Nat := []
  design : List Byte := []
  clkUsed : Nat := 0
  bind : List Nat := []
deriving DecidableEq, Repr, Inhabited

/-- A live spool (R323): its pool, owner, reference count, base as in Table 10.8 and size in granules. -/
structure Spool where
  pool : Nat
  owner : Nat
  refs : Nat := 1
  base : Nat := 0
  size : Nat := 0
deriving DecidableEq, Repr, Inhabited

/-- A migration (Table 10.10): its command, instance, source and destination origins, picks, part (1 accepted, 2 frozen,
3 captured, 4 copied, 5 restored with stages 1 and 2 lifted, 6 past M with bays to erase), the outcome of one that cannot
complete, and the source or destination bays that are erased. -/
structure Migr where
  ticket : Nat
  inst : Nat
  src : Nat × Nat
  dst : Nat × Nat
  n : Nat
  m : Nat
  part : Nat := 1
  fail : Option (Nat × Nat) := none
  swapped : Bool := false
deriving DecidableEq, Repr, Inhabited

/-- A capture (R353 to R355): its command, instance, bays, destination, the snapshot header, the records of the bays, and the
clock inputs (bay, input) whose capture edge has not come. -/
structure Capt where
  ticket : Nat
  inst : Nat
  bays : List Nat
  dest : Nat
  head : List Byte := []
  recs : List (List Byte) := []
  wait : List (Nat × Nat) := []
deriving DecidableEq, Repr, Inhabited

/-- The scrubber (R338 to R340): where continuous scrubbing stands (bay, 768 for the selvage, and frame), when its pass
began, the commands of one-pass requests in order, and where the one in progress stands (bay number in the instance, frame). -/
structure ScrubSt where
  bay : Nat := 0
  frame : Nat := 0
  start : Nat := 0
  passes : List Nat := []
  pbay : Nat := 0
  pframe : Nat := 0
deriving DecidableEq, Repr, Inhabited

/-- A core's intake unit (R296 to R301): TAG and IRQ of the entry in hand, its package address, the entry point of a
verified program, completion entries that wait for room (TAG, RESULT, CODE, IRQ), and whether the completion ring is on an
odd pass. -/
structure Intake where
  tag : Nat := 0
  irq : Bool := false
  pkg : Nat := 0
  bad : Bool := false
  entry : Nat := 0
  waiting : List (Nat × Nat × Nat × Bool) := []
  odd : Bool := false
deriving DecidableEq, Repr, Inhabited

/-- A response that waits at a bay port (R84): the skein's tag, status, poison mask, data. -/
structure BayBeat where
  id : Nat
  st : Nat := 0
  pm : Nat := 0
  data : List Byte := []
deriving DecidableEq, Repr, Inhabited

/-- An occupied-bay test (Table 24.2): the bay, its instance, picks, part (1 accepted, 2 frozen, 3 tested), whether it
failed and in which part (1 logic, 2 memory), and a HOLD_RESET that waits for M (R698). -/
structure OccTest where
  bay : Nat
  inst : Nat
  n : Nat
  m : Nat
  part : Nat := 1
  failed : Bool := false
  kind : Nat := 0
  hold : Bool := false
deriving DecidableEq, Repr, Inhabited

/-! ### Self-test, debug and general-purpose I/O (chapters 24 to 26) -/

/-- A test request (R693): FAMILY, INDEX, and for an occupied bay N and M. -/
structure TestReq where
  fam : Nat
  idx : Nat
  n : Nat := 0
  m : Nat := 0
deriving DecidableEq, Repr, Inhabited

/-- What the self-test engine holds beside its registers: the request that has not started, the one that is held, the test
that runs with the VBAY and the HSTATE before it and whether it is one of the sweep, the next bay of the sweep (R695), the fraction of
each TAU in units of 2^-32 hours, by FAMILY x 4096 + INDEX (R708), and the units whose WARN has set before (R710). -/
structure BistSt where
  asked : Option TestReq := none
  held : Option TestReq := none
  run : Option TestReq := none
  mv : Nat := 800
  was : Nat := 0
  auto : Bool := false
  next : Nat := 0
  frac : SMap Nat := {}
  warned : List Nat := []
deriving DecidableEq, Repr, Inhabited

/-- What the debug port holds beside its registers: the TAP instruction in force (R715), the outcome of the last DPACC access
(STATUS, REG, data; R719), an access that waits for the NoC clock (OP, REG, data; R720), and a verification in progress: the level it asks for and whether the signature is good (R725). -/
structure DbgSt where
  ir : Nat := 2
  status : Nat := 0
  reg : Nat := 0
  data : Nat := 0
  wait : Option (Nat × Nat × Nat) := none
  verify : Option (Nat × Bool) := none
deriving DecidableEq, Repr, Inhabited

/-- What the GPIO banks hold beside their registers, by bank: the levels at the pins, whoever drives them, which keepers
hold; the levels last sampled (R760); the boundary-scan output cells: data in bits [23:0], enables in [47:24] (R717); and, by
bank x 2 + port, the input registers of the attach ports: IN_R in [11:0], IN_F in [23:12], the further register of SYNC in
[47:24] (R749, R750); and what the pins of each bank are driven to: the mask of driven pins, then their values in either half of
the period (R757). -/
structure GpioSt where
  pads : SMap Nat := {}
  seen : SMap Nat := {}
  cells : SMap Nat := {}
  ins : SMap Nat := {}
  shown : SMap Nat := {}
deriving DecidableEq, Repr, Inhabited

end Sys2Proof.Machine
end

