-- ==== Sys2Proof/Syntax.lean ====
section
/-!
DEFINITION. The commands of the block: one constructor per row of spec/opcode_table.json, in the table's order.
Operands: `c` a core, `rd rs1 rs2` register numbers, `mbz` the bits that the encoding says must be 0, and, for an
event, what the world outside the block brings to it.
-/
namespace Sys2Proof

/-- The commands of the block. -/
inductive Instr where
  /-- CSR_WRITE (R42). A write to a register field that has no row of its own takes effect as its access code gives. -/
  | csrWrite (init off n : Nat) (d : CsrData)
  /-- STAGE_WRITE (R56). A write to an RWS field changes only the unit's shadow and sets PENDING. -/
  | stageWrite (init off n v : Nat) (edge : Bool)
  /-- STAGE_DISCARD (R60). A write of DISCARD copies every active value back to its shadow and clears PENDING. -/
  | stageDiscard (hu : Nat)
  /-- PICK_BOUNDARY (R595). System time reaches the next boundary and the pick counter advances. -/
  | pickBoundary (parity : List Nat)
  /-- BAY_HOLD_RESET (R95). A write of HOLD_RESET applies all three hold stages to the whole owning skein. -/
  | bayHoldReset (b : Nat)
  /-- BAY_POISON_CLEAR (R86). A write of 1 to BAY_STATUS.POISON clears POISON_IN in every bay of the skein. -/
  | bayPoisonClear (b : Nat)
  /-- BAY_PORT_REQUEST (R326). A skein issues a bay-port request by handle, which is resolved against the translation table. -/
  | bayPortRequest (b id handle off opc n atop mask pm : Nat) (rlx : Bool) (d : List Byte)
  /-- BAY_PORT_RESPONSE_DELIVER (R84). A waiting response beat is delivered to the skein once bay clock input 0 runs. -/
  | bayPortResponseDeliver (b : Nat)
  /-- BAY_TARGET_REQUEST (R27). A NoC request to a bay window's target offsets is delivered to the skein's target channel. -/
  | bayTargetRequest (b : Nat) (ans : List Byte)
  /-- HOLD_STAGE_EFFECT (R195). An issued hold or release stage takes effect on the clock inputs of the region, and the next stage is issued. -/
  | holdStageEffect (inst : Nat)
  /-- MEM_BLOCK_ACCESS (R105). A memory block port samples an access at its clock edge and reads, writes, sets or clears bytes. -/
  | memBlockAccess (b k : Nat) (ea : Bool) (xa : PortIn) (eb : Bool) (xb : PortIn) (bLater : Bool)
  /-- BLOCK_CORR_WRITEBACK (R119). A pending corrected byte is written back in the first free cycle of port B's clock. -/
  | blockCorrWriteback (b k : Nat)
  /-- BLOCK_WINDOW_ACCESS (R122). The NoC window path serves an 8-byte word of a block in a cycle the borrowed port leaves free. -/
  | blockWindowAccess (b : Nat)
  /-- SPAD_REQUEST_ACCEPT (R127). A scratchpad bank accepts a NoC request into the queue of its arbitration level when there is room. -/
  | spadRequestAccept (b : Nat)
  /-- SPAD_GRANT (R126). A scratchpad bank grants one pending row access per cycle by level and round-robin. -/
  | spadGrant (b : Nat)
  /-- SPAD_CORR_WRITEBACK (R128). A corrected scratchpad byte is written back when level 3 is granted. -/
  | spadCorrWriteback (b : Nat)
  /-- SPB_PWR_REQ_WRITE (R130). A change of a bank's requested power state starts its transition. -/
  | spbPwrReqWrite (b v : Nat)
  /-- SPAD_PWR_TRANSITION_DONE (R129). A bank power transition or its fill ends and the bank reaches its new state. -/
  | spadPwrTransitionDone (b : Nat)
  /-- SPB_ZERO (R131). A write of 1 to a SPB_ZERO bit starts a zero fill of the bank. -/
  | spbZero (b : Nat)
  /-- SPAD_ZERO_FILL_DONE (R131). A bank zero fill ends and its SPB_ZERO bit clears. -/
  | spadZeroFillDone (b : Nat)
  /-- SLICE_OPERATION (R142). A slice samples an operation and computes its accumulator result with overflow and rounding. -/
  | sliceOperation (b k : Nat) (xs : List SliceIn)
  /-- SLICE_COEF_WRITE (R150). A sampled CW_EN writes an entry of the slice's standby coefficient bank. -/
  | sliceCoefWrite (b k addr data : Nat)
  /-- SLICE_SWAP_REQ (R152). A sampled SWAP_REQ sets the slice's pending bank-swap request. -/
  | sliceSwapReq (b k : Nat)
  /-- LLOAD (R279). A loom instruction that loads a skein or bolt and optionally releases it. -/
  | lload (c rd rs1 mbz : Nat)
  /-- IMAGE_RECORD (R174). The engine consumes an image record or section and writes its frames or map bits. -/
  | imageRecord
  /-- IMAGE_TRAILER (R179). The engine consumes the trailer, compares the CRC and starts signature verification. -/
  | imageTrailer
  /-- IMAGE_PASS (R187). When fill, map fill and verification have ended, the image passes and the region is finished. -/
  | imagePass
  /-- LOAD_REGION_ZERO_DONE (R188). The zero write after a failed load ends and the region returns to the unconfigured state. -/
  | loadRegionZeroDone
  /-- LREL (R283). A loom instruction that releases a loaded skein at once or at a pick. -/
  | lrel (c rd rs1 mbz : Nat)
  /-- LHOLD (R283). A loom instruction that applies the hold stages to a skein. -/
  | lhold (c rd rs1 mbz : Nat)
  /-- LFREE (R284). A loom instruction that erases a skein and frees its bays and spools. -/
  | lfree (c rd rs1 mbz : Nat)
  /-- LPLACE (R285). A loom instruction that asks Heddle for an origin without occupying it. -/
  | lplace (c rd rs1 mbz : Nat)
  /-- LSNAP (R286). A loom instruction that captures a skein's state now, at a pick, or on a Reed SNAPSHOT. -/
  | lsnap (c rd rs1 mbz : Nat)
  /-- LREST (R288). A loom instruction that restores a held skein from a snapshot. -/
  | lrest (c rd rs1 mbz : Nat)
  /-- LMIGR (R290). A loom instruction that moves a running skein to other bays. -/
  | lmigr (c rd rs1 mbz : Nat)
  /-- LSCRUB_SET_RATE (R339). LSCRUB MODE 0 sets the scrub bandwidth. -/
  | lscrubSetRate (c rd rs1 mbz : Nat)
  /-- LSCRUB_ONE_PASS (R340). LSCRUB MODE 1 scrubs every bay of one instance once. -/
  | lscrubOnePass (c rd rs1 mbz : Nat)
  /-- LSCRUB_CONT_ON (R339). LSCRUB MODE 2 resumes continuous scrubbing where it stopped. -/
  | lscrubContOn (c rd rs1 mbz : Nat)
  /-- LSCRUB_CONT_OFF (R339). LSCRUB MODE 3 stops continuous scrubbing after the frame in progress. -/
  | lscrubContOff (c rd rs1 mbz : Nat)
  /-- LREAD (R289). A loom instruction that reads back frames of a skein bay to memory. -/
  | lread (c rd rs1 mbz : Nat)
  /-- LKEY_LOAD (R292). LKEY LOAD unwraps a blob and writes the key into a slot. -/
  | lkeyLoad (c rd rs1 mbz : Nat)
  /-- LKEY_ERASE (R292). LKEY ERASE empties a key slot. -/
  | lkeyErase (c rd rs1 mbz : Nat)
  /-- LKEY_WRAP (R292). LKEY WRAP wraps a plaintext key into a blob in the LDM. -/
  | lkeyWrap (c rd rs1 mbz : Nat)
  /-- LABORT (R282). A loom instruction that cancels the command of a ticket. -/
  | labort (c rd rs1 mbz : Nat)
  /-- LWAIT (R276). A loom instruction that waits for a ticket and returns its status. -/
  | lwait (c rd rs1 mbz : Nat)
  /-- LSTAT (R276). A loom instruction that returns a ticket's status without waiting. -/
  | lstat (c rd rs1 mbz : Nat)
  /-- LNEXT (R298). A loom instruction that waits for the next verified program and returns its entry. -/
  | lnext (c rd rs1 mbz : Nat)
  /-- LEXIT (R300). A loom instruction that ends the current program with a result. -/
  | lexit (c rd rs1 mbz : Nat)
  /-- LOOM_COMMAND_START (R273). A waiting loom command begins on its path once the path and earlier commands allow it. -/
  | loomCommandStart (t : Nat)
  /-- LOOM_COMMAND_COMPLETE (R278). A loom command completes, records its status and raises its sources. -/
  | loomCommandComplete (t : Nat)
  /-- INTAKE_TAKE_ENTRY (R299). The intake takes the submission entry at LPQ_HEAD and starts reading its package. -/
  | intakeTakeEntry (c : Nat)
  /-- INTAKE_PACKAGE_CHECKED (R297). The intake finishes copying and checking a package and makes it ready or fails it. -/
  | intakePackageChecked (c : Nat)
  /-- COMPLETION_ENTRY_WRITE (R300). A completion entry is written at LCQ_TAIL once the completion ring has room. -/
  | completionEntryWrite (c : Nat)
  /-- HEDDLE_ORIGIN_REQUEST (R305). Heddle serves one origin request by filtering and scoring candidates from a copy of its maps. -/
  | heddleOriginRequest
  /-- SPOOL_PLACEMENT (R319). Heddle places one NEW or SHARE spool-list entry and writes its translation entries. -/
  | spoolPlacement
  /-- SPOOL_ZERO_FILL_DONE (R324). Heddle's zero writes of a ZERO spool complete and its translation entries are written. -/
  | spoolZeroFillDone
  /-- POOL_ENABLE (R320). A write of EN = 1 to a pool is accepted or refused with POOLERR. -/
  | poolEnable (p v : Nat)
  /-- SPOOL_MOVE_GO (R328). GO reserves an extent for a spool move in the named pool. -/
  | spoolMoveGo (id p : Nat)
  /-- SPOOL_MOVE_COMMIT (R329). COMMIT rewrites the spool's base in every translation entry at once or at a pick. -/
  | spoolMoveCommit (atPick : Bool)
  /-- SPOOL_MOVE_CANCEL (R328). CANCEL returns a reserved extent to its pool. -/
  | spoolMoveCancel
  /-- MIGRATION_COPY_DONE (R290). The frame copy of a migration to the destination bays ends. -/
  | migrationCopyDone (t : Nat)
  /-- MIGRATION_RESTORE_DONE (R331). The destination is restored from the buffer and its stages 1 and 2 are lifted. -/
  | migrationRestoreDone (t : Nat)
  /-- MIGRATION_ERASE_DONE (R331). The zero write of the vacated bays ends and they return to FREE. -/
  | migrationEraseDone (t : Nat)
  /-- SCRUB_FRAME (R342). The scrubber reads one stored frame at its rate and classifies its errors. -/
  | scrubFrame
  /-- BAY_SCRUB_WRITE (R346). A write of BAY_SCRUB in any bay of a skein writes it in every bay of the skein. -/
  | bayScrubWrite (b v : Nat)
  /-- CAPTURE_STREAM_DONE (R355). The capture stores of a skein have been streamed out and acknowledged. -/
  | captureStreamDone
  /-- ADD (R224). Virelo add of two registers with flags. -/
  | add (c rd rs1 rs2 mbz : Nat)
  /-- SUB (R224). Virelo subtract of two registers with flags. -/
  | sub (c rd rs1 rs2 mbz : Nat)
  /-- ADC (R224). Virelo add with carry. -/
  | adc (c rd rs1 rs2 mbz : Nat)
  /-- SBC (R224). Virelo subtract with borrow. -/
  | sbc (c rd rs1 rs2 mbz : Nat)
  /-- NEG (R228). Virelo negate. -/
  | neg (c rd rs1 mbz : Nat)
  /-- CMP (R224). Virelo compare setting flags only. -/
  | cmp (c rs1 rs2 mbz : Nat)
  /-- AND (R224). Virelo bitwise AND. -/
  | and (c rd rs1 rs2 mbz : Nat)
  /-- OR (R224). Virelo bitwise OR. -/
  | or (c rd rs1 rs2 mbz : Nat)
  /-- XOR (R224). Virelo bitwise XOR. -/
  | xor (c rd rs1 rs2 mbz : Nat)
  /-- ANDN (R224). Virelo AND with complement. -/
  | andn (c rd rs1 rs2 mbz : Nat)
  /-- MIN (R224). Virelo signed minimum. -/
  | min (c rd rs1 rs2 mbz : Nat)
  /-- MAX (R224). Virelo signed maximum. -/
  | max (c rd rs1 rs2 mbz : Nat)
  /-- MINU (R224). Virelo unsigned minimum. -/
  | minu (c rd rs1 rs2 mbz : Nat)
  /-- MAXU (R224). Virelo unsigned maximum. -/
  | maxu (c rd rs1 rs2 mbz : Nat)
  /-- CLZ (R224). Virelo count of leading zeros. -/
  | clz (c rd rs1 mbz : Nat)
  /-- POPC (R224). Virelo population count. -/
  | popc (c rd rs1 mbz : Nat)
  /-- ADDI (R222). Virelo add of a sign-extended immediate. -/
  | addi (c rd rs1 : Nat) (imm : BitVec 16)
  /-- CMPI (R222). Virelo compare with an immediate. -/
  | cmpi (c rs1 : Nat) (imm : BitVec 16) (mbz : Nat)
  /-- ANDI (R222). Virelo AND with a zero-extended immediate. -/
  | andi (c rd rs1 : Nat) (imm : BitVec 16)
  /-- ORI (R222). Virelo OR with a zero-extended immediate. -/
  | ori (c rd rs1 : Nat) (imm : BitVec 16)
  /-- XORI (R222). Virelo XOR with a zero-extended immediate. -/
  | xori (c rd rs1 : Nat) (imm : BitVec 16)
  /-- SETW (R221). Virelo constant construction setting one 16-bit part and clearing the rest. -/
  | setw (c rd q : Nat) (imm : BitVec 16) (mbz : Nat)
  /-- INSW (R221). Virelo constant construction inserting one 16-bit part. -/
  | insw (c rd q : Nat) (imm : BitVec 16) (mbz : Nat)
  /-- MUL (R224). Virelo low 64-bit multiply. -/
  | mul (c rd rs1 rs2 mbz : Nat)
  /-- MULH (R224). Virelo signed high multiply. -/
  | mulh (c rd rs1 rs2 mbz : Nat)
  /-- MULHU (R224). Virelo unsigned high multiply. -/
  | mulhu (c rd rs1 rs2 mbz : Nat)
  /-- DIV (R229). Virelo signed divide with defined results at zero and overflow. -/
  | div (c rd rs1 rs2 mbz : Nat)
  /-- DIVU (R229). Virelo unsigned divide. -/
  | divu (c rd rs1 rs2 mbz : Nat)
  /-- REM (R229). Virelo signed remainder. -/
  | rem (c rd rs1 rs2 mbz : Nat)
  /-- REMU (R229). Virelo unsigned remainder. -/
  | remu (c rd rs1 rs2 mbz : Nat)
  /-- SLL (R232). Virelo shift left by register. -/
  | sll (c rd rs1 rs2 mbz : Nat)
  /-- SRL (R232). Virelo logical shift right by register. -/
  | srl (c rd rs1 rs2 mbz : Nat)
  /-- SRA (R232). Virelo arithmetic shift right by register. -/
  | sra (c rd rs1 rs2 mbz : Nat)
  /-- ROR (R232). Virelo rotate right by register. -/
  | ror (c rd rs1 rs2 mbz : Nat)
  /-- SLLI (R232). Virelo shift left by immediate. -/
  | slli (c rd rs1 amt mbz : Nat)
  /-- SRLI (R232). Virelo logical shift right by immediate. -/
  | srli (c rd rs1 amt mbz : Nat)
  /-- SRAI (R232). Virelo arithmetic shift right by immediate. -/
  | srai (c rd rs1 amt mbz : Nat)
  /-- RORI (R232). Virelo rotate right by immediate. -/
  | rori (c rd rs1 amt mbz : Nat)
  /-- LD (R225). Virelo load of 8 bytes. -/
  | ld (c rd rs1 : Nat) (imm : BitVec 16)
  /-- LW (R225). Virelo load of 4 bytes, sign-extended. -/
  | lw (c rd rs1 : Nat) (imm : BitVec 16)
  /-- LWU (R225). Virelo load of 4 bytes, zero-extended. -/
  | lwu (c rd rs1 : Nat) (imm : BitVec 16)
  /-- LH (R225). Virelo load of 2 bytes, sign-extended. -/
  | lh (c rd rs1 : Nat) (imm : BitVec 16)
  /-- LHU (R225). Virelo load of 2 bytes, zero-extended. -/
  | lhu (c rd rs1 : Nat) (imm : BitVec 16)
  /-- LB (R225). Virelo load of 1 byte, sign-extended. -/
  | lb (c rd rs1 : Nat) (imm : BitVec 16)
  /-- LBU (R225). Virelo load of 1 byte, zero-extended. -/
  | lbu (c rd rs1 : Nat) (imm : BitVec 16)
  /-- SD (R253). Virelo store of 8 bytes. -/
  | sd (c rs2 rs1 : Nat) (imm : BitVec 16)
  /-- SW (R253). Virelo store of 4 bytes. -/
  | sw (c rs2 rs1 : Nat) (imm : BitVec 16)
  /-- SH (R253). Virelo store of 2 bytes. -/
  | sh (c rs2 rs1 : Nat) (imm : BitVec 16)
  /-- SB (R253). Virelo store of 1 byte. -/
  | sb (c rs2 rs1 : Nat) (imm : BitVec 16)
  /-- SWAP (R226). Virelo atomic swap. -/
  | swap (c rd rs1 rs2 mbz : Nat)
  /-- FADD (R226). Virelo atomic fetch and add. -/
  | fadd (c rd rs1 rs2 mbz : Nat)
  /-- CAS (R226). Virelo atomic compare and swap. -/
  | cas (c rd rs1 rs2 mbz : Nat)
  /-- DCWB (R205). Write back one data-cache line if dirty. -/
  | dcwb (c rs1 : Nat) (imm : BitVec 16)
  /-- DCINV (R205). Invalidate one data-cache line. -/
  | dcinv (c rs1 : Nat) (imm : BitVec 16)
  /-- DCWBI (R205). Write back and invalidate one data-cache line. -/
  | dcwbi (c rs1 : Nat) (imm : BitVec 16)
  /-- ICINV (R262). Invalidate one instruction-cache line. -/
  | icinv (c rs1 : Nat) (imm : BitVec 16)
  /-- DCWB_ALL (R205). Write back every dirty data-cache line. -/
  | dcwbAll (c mbz : Nat)
  /-- DCINV_ALL (R205). Invalidate every data-cache line. -/
  | dcinvAll (c mbz : Nat)
  /-- DCWBI_ALL (R205). Write back and invalidate every data-cache line. -/
  | dcwbiAll (c mbz : Nat)
  /-- ICINV_ALL (R262). Invalidate every instruction-cache line. -/
  | icinvAll (c mbz : Nat)
  /-- SPILL (R212). Store the oldest resident window and decrement WDEPTH. -/
  | spill (c rs1 mbz : Nat)
  /-- FILL (R212). Load a window below the oldest and increment WDEPTH. -/
  | fill (c rs1 mbz : Nat)
  /-- BCC (R227). Virelo conditional branch on the flags. -/
  | bcc (c cond : Nat) (disp : BitVec 22)
  /-- BZ (R222). Virelo branch if a register is zero. -/
  | bz (c rs1 : Nat) (imm : BitVec 16) (mbz : Nat)
  /-- BNZ (R222). Virelo branch if a register is not zero. -/
  | bnz (c rs1 : Nat) (imm : BitVec 16) (mbz : Nat)
  /-- CALL (R208). Virelo call writing W11. -/
  | call (c : Nat) (disp : BitVec 26)
  /-- JMP (R222). Virelo jump by displacement. -/
  | jmp (c : Nat) (disp : BitVec 26)
  /-- CALLR (R208). Virelo call to a register address. -/
  | callr (c rs1 mbz : Nat)
  /-- JR (R202). Virelo jump to a register address. -/
  | jr (c rs1 mbz : Nat)
  /-- ENTER (R211). Advance to the next register window or take WINOVF. -/
  | enter (c mbz : Nat)
  /-- LEAVE (R211). Return to the previous register window or take WINUNF. -/
  | leave (c mbz : Nat)
  /-- MFSR (R219). Virelo read of a system register. -/
  | mfsr (c rd : Nat) (sr : BitVec 12) (mbz : Nat)
  /-- MTSR (R219). Virelo write of a system register. -/
  | mtsr (c : Nat) (sr : BitVec 12) (rs1 mbz : Nat)
  /-- FENCE_SL (R258). Virelo store-load fence. -/
  | fenceSl (c mbz : Nat)
  /-- FENCE (R255). Virelo fence that waits for every earlier access to complete. -/
  | fence (c mbz : Nat)
  /-- SYNC_I (R261). Discard prefetched instructions after earlier stores complete. -/
  | syncI (c mbz : Nat)
  /-- WAIT (R233). Complete earlier work and stop the core's clock in the WAIT state. -/
  | wait (c mbz : Nat)
  /-- ERET (R244). Return from a trap. -/
  | eret (c mbz : Nat)
  /-- TRAP (R240). Take the SWTRAP trap with a number. -/
  | trap (c : Nat) (n : BitVec 16) (mbz : Nat)
  /-- CC_TAKE_INTERRUPT (R242). Between instructions a control core takes a presented interrupt. -/
  | ccTakeInterrupt (c : Nat)
  /-- CC_TAKE_SBUS (R254). Between instructions a control core takes a pending SBUS. -/
  | ccTakeSbus (c : Nat)
  /-- CC_TAKE_DEBUG (R738). Between instructions a control core takes a pending debug event as a DEBUG trap. -/
  | ccTakeDebug (c : Nat)
  /-- CC_WAKE (R234). A core in WAIT wakes when an interrupt, SBUS or debug request becomes pending. -/
  | ccWake (c : Nat)
  /-- CC_START (R238). CC_CTL.START starts a core held in reset at CC_ENTRY. -/
  | ccStart (c : Nat)
  /-- CC_RESET (R239). CC_CTL.RESET ends a core's execution and holds it in reset. -/
  | ccReset (c : Nat)
  /-- CC0_RELEASE (R238). After the fill, hardware releases CC0 into the boot ROM. -/
  | cc0Release (slotA slotB : List Byte)
  /-- CC_WINDOW_MEMORY_ACCESS (R729). An access through the control-core window to a core's LIM or LDM is served in a free or stolen cycle. -/
  | ccWindowMemoryAccess (init c off n : Nat) (wr : Bool) (data : List Byte)
  /-- SC_MAC_NOP (R376). MAC-slot no-operation. -/
  | scMacNop (n : Nat) (x1 x2 : BitVec 20)
  /-- SC_MUL (R378). Signal-core multiply into an accumulator. -/
  | scMul (n d a b : Nat) (sat uns : Bool) (mbz : Nat) (x1 x2 : BitVec 20)
  /-- SC_MAC (R378). Signal-core multiply-accumulate. -/
  | scMac (n d a b : Nat) (sat uns : Bool) (mbz : Nat) (x1 x2 : BitVec 20)
  /-- SC_MSU (R378). Signal-core multiply-subtract. -/
  | scMsu (n d a b : Nat) (sat uns : Bool) (mbz : Nat) (x1 x2 : BitVec 20)
  /-- SC_DMUL (R378). Signal-core dual multiply. -/
  | scDmul (n d a b : Nat) (sat uns : Bool) (mbz : Nat) (x1 x2 : BitVec 20)
  /-- SC_DMAC (R378). Signal-core dual multiply-accumulate. -/
  | scDmac (n d a b : Nat) (sat uns : Bool) (mbz : Nat) (x1 x2 : BitVec 20)
  /-- SC_DMSU (R378). Signal-core dual multiply-subtract. -/
  | scDmsu (n d a b : Nat) (sat uns : Bool) (mbz : Nat) (x1 x2 : BitVec 20)
  /-- SC_PMUL (R378). Signal-core paired multiply into two accumulators. -/
  | scPmul (n d a b : Nat) (sat uns : Bool) (mbz : Nat) (x1 x2 : BitVec 20)
  /-- SC_PMAC (R378). Signal-core paired multiply-accumulate. -/
  | scPmac (n d a b : Nat) (sat uns : Bool) (mbz : Nat) (x1 x2 : BitVec 20)
  /-- SC_ACCADD (R378). Add one accumulator to another. -/
  | scAccadd (n d src : Nat) (sat uns : Bool) (mbz : Nat) (x1 x2 : BitVec 20)
  /-- SC_ACCSUB (R378). Subtract one accumulator from another. -/
  | scAccsub (n d src : Nat) (sat uns : Bool) (mbz : Nat) (x1 x2 : BitVec 20)
  /-- SC_ACCLD (R378). Load an accumulator with a shifted register value. -/
  | scAccld (n d a k : Nat) (uns : Bool) (mbz : Nat) (x1 x2 : BitVec 20)
  /-- SC_ACCSRA (R378). Arithmetic shift right of an accumulator. -/
  | scAccsra (n d k : Nat) (mbz : Nat) (x1 x2 : BitVec 20)
  /-- SC_ACCCLR (R378). Clear an accumulator. -/
  | scAccclr (n d : Nat) (mbz : Nat) (x1 x2 : BitVec 20)
  /-- SC_EXT (R380). Extract a rounded, limited 24-bit value from an accumulator. -/
  | scExt (n src rd shift rnd : Nat) (sat24 uns : Bool) (mbz : Nat) (x1 x2 : BitVec 20)
  /-- SC_SMIN (R381). Signal-core minimum search with index. -/
  | scSmin (n d a : Nat) (f dual u abs : Bool) (mbz : Nat) (x1 x2 : BitVec 20)
  /-- SC_SMAX (R381). Signal-core maximum search with index. -/
  | scSmax (n d a : Nat) (f dual u abs : Bool) (mbz : Nat) (x1 x2 : BitVec 20)
  /-- SC_ADD (R379). Signal-core 24-bit add. -/
  | scAdd (n a b rd : Nat) (sat : Bool) (mbz : Nat) (x1 x2 : BitVec 20)
  /-- SC_SUB (R379). Signal-core 24-bit subtract. -/
  | scSub (n a b rd : Nat) (sat : Bool) (mbz : Nat) (x1 x2 : BitVec 20)
  /-- SC_NEG (R379). Signal-core 24-bit negate. -/
  | scNeg (n a rd : Nat) (sat : Bool) (mbz : Nat) (x1 x2 : BitVec 20)
  /-- SC_ABS (R379). Signal-core 24-bit absolute value. -/
  | scAbs (n a rd : Nat) (sat : Bool) (mbz : Nat) (x1 x2 : BitVec 20)
  /-- SC_MIN (R379). Signal-core signed minimum. -/
  | scMin (n a b rd : Nat) (sat : Bool) (mbz : Nat) (x1 x2 : BitVec 20)
  /-- SC_MAX (R379). Signal-core signed maximum. -/
  | scMax (n a b rd : Nat) (sat : Bool) (mbz : Nat) (x1 x2 : BitVec 20)
  /-- SC_AND (R379). Signal-core bitwise AND. -/
  | scAnd (n a b rd : Nat) (sat : Bool) (mbz : Nat) (x1 x2 : BitVec 20)
  /-- SC_OR (R379). Signal-core bitwise OR. -/
  | scOr (n a b rd : Nat) (sat : Bool) (mbz : Nat) (x1 x2 : BitVec 20)
  /-- SC_XOR (R379). Signal-core bitwise XOR. -/
  | scXor (n a b rd : Nat) (sat : Bool) (mbz : Nat) (x1 x2 : BitVec 20)
  /-- SC_SHL (R379). Signal-core shift left by register. -/
  | scShl (n a b rd : Nat) (sat : Bool) (mbz : Nat) (x1 x2 : BitVec 20)
  /-- SC_SHR (R379). Signal-core logical shift right by register. -/
  | scShr (n a b rd : Nat) (sat : Bool) (mbz : Nat) (x1 x2 : BitVec 20)
  /-- SC_SRA (R379). Signal-core arithmetic shift right by register. -/
  | scSra (n a b rd : Nat) (sat : Bool) (mbz : Nat) (x1 x2 : BitVec 20)
  /-- SC_SHLI (R379). Signal-core shift left by immediate. -/
  | scShli (n a k rd : Nat) (sat : Bool) (mbz : Nat) (x1 x2 : BitVec 20)
  /-- SC_SHRI (R379). Signal-core logical shift right by immediate. -/
  | scShri (n a k rd : Nat) (sat : Bool) (mbz : Nat) (x1 x2 : BitVec 20)
  /-- SC_SRAI (R379). Signal-core arithmetic shift right by immediate. -/
  | scSrai (n a k rd : Nat) (sat : Bool) (mbz : Nat) (x1 x2 : BitVec 20)
  /-- SC_FMUL (R379). Signal-core fractional multiply with rounding and saturation. -/
  | scFmul (n a b rd : Nat) (sat : Bool) (mbz : Nat) (x1 x2 : BitVec 20)
  /-- SC_MNOP (R376). Move-slot no-operation. -/
  | scMnop (n : Nat) (two : Bool) (mac : BitVec 24) (x : BitVec 20)
  /-- SC_LD (R366). Signal-core load of a word or pair with address modification. -/
  | scLd (n : Nat) (two : Bool) (v i m : Nat) (pair : Bool) (mbz : Nat) (mac : BitVec 24) (x : BitVec 20)
  /-- SC_ST (R366). Signal-core store of a word or pair with address modification. -/
  | scSt (n : Nat) (two : Bool) (v i m : Nat) (pair : Bool) (mbz : Nat) (mac : BitVec 24) (x : BitVec 20)
  /-- SC_MOV (R377). Signal-core register move. -/
  | scMov (n : Nat) (two : Bool) (d a : Nat) (mbz : Nat) (mac : BitVec 24) (x : BitVec 20)
  /-- SC_MVI (R377). Signal-core move of a short immediate. -/
  | scMvi (n : Nat) (two : Bool) (d : Nat) (imm : BitVec 10) (mac : BitVec 24) (x : BitVec 20)
  /-- SC_AADD (R374). Add a register to an address register with circular wrap. -/
  | scAadd (n : Nat) (two : Bool) (a i : Nat) (mbz : Nat) (mac : BitVec 24) (x : BitVec 20)
  /-- SC_MVTA (R372). Move a register into part of an address register. -/
  | scMvta (n : Nat) (two : Bool) (a i p : Nat) (mbz : Nat) (mac : BitVec 24) (x : BitVec 20)
  /-- SC_MVFA (R372). Move part of an address register into a register. -/
  | scMvfa (n : Nat) (two : Bool) (d i p : Nat) (mbz : Nat) (mac : BitVec 24) (x : BitVec 20)
  /-- SC_MVTS (R372). Move a register into a stride or circular-size register. -/
  | scMvts (n : Nat) (two : Bool) (a i : Nat) (cs : Bool) (mbz : Nat) (mac : BitVec 24) (x : BitVec 20)
  /-- SC_MVFS (R372). Move a stride or circular-size register into a register. -/
  | scMvfs (n : Nat) (two : Bool) (d i : Nat) (cs : Bool) (mbz : Nat) (mac : BitVec 24) (x : BitVec 20)
  /-- SC_MVTACC (R372). Move a register into part of an accumulator. -/
  | scMvtacc (n : Nat) (two : Bool) (a acc p : Nat) (mbz : Nat) (mac : BitVec 24) (x : BitVec 20)
  /-- SC_MVFACC (R372). Move part of an accumulator into a register. -/
  | scMvfacc (n : Nat) (two : Bool) (d acc p : Nat) (mbz : Nat) (mac : BitVec 24) (x : BitVec 20)
  /-- SC_MVTIX (R372). Move a register into an index or counter register. -/
  | scMvtix (n : Nat) (two : Bool) (a acc : Nat) (c : Bool) (mbz : Nat) (mac : BitVec 24) (x : BitVec 20)
  /-- SC_MVFIX (R372). Move an index or counter register into a register. -/
  | scMvfix (n : Nat) (two : Bool) (d acc : Nat) (c : Bool) (mbz : Nat) (mac : BitVec 24) (x : BitVec 20)
  /-- SC_MFSR (R373). Signal-core read of a system register. -/
  | scMfsr (n : Nat) (two : Bool) (d sr : Nat) (mbz : Nat) (mac : BitVec 24) (x : BitVec 20)
  /-- SC_MTSR (R373). Signal-core write of a system register. -/
  | scMtsr (n : Nat) (two : Bool) (a sr : Nat) (mbz : Nat) (mac : BitVec 24) (x : BitVec 20)
  /-- SC_LMVI (R376). Long move of a 24-bit immediate. -/
  | scLmvi (n : Nat) (d : Nat) (imm : BitVec 24) (mbz : Nat) (mac : BitVec 24)
  /-- SC_LSETA (R376). Long set of one part of an address register. -/
  | scLseta (n : Nat) (i q : Nat) (imm : BitVec 24) (mbz : Nat) (mac : BitVec 24)
  /-- SC_LINSA (R376). Long insert into one part of an address register. -/
  | scLinsa (n : Nat) (i q : Nat) (imm : BitVec 24) (mbz : Nat) (mac : BitVec 24)
  /-- SC_LST (R376). Long set of a stride or circular-size register. -/
  | scLst (n : Nat) (i : Nat) (cs : Bool) (imm : BitVec 24) (mbz : Nat) (mac : BitVec 24)
  /-- SC_BZ (R382). Signal-core branch if zero. -/
  | scBz (n : Nat) (a : Nat) (disp : BitVec 10) (mac : BitVec 24) (x1 : BitVec 20)
  /-- SC_BNZ (R382). Signal-core branch if not zero. -/
  | scBnz (n : Nat) (a : Nat) (disp : BitVec 10) (mac : BitVec 24) (x1 : BitVec 20)
  /-- SC_BLTZ (R382). Signal-core branch if negative. -/
  | scBltz (n : Nat) (a : Nat) (disp : BitVec 10) (mac : BitVec 24) (x1 : BitVec 20)
  /-- SC_BGEZ (R382). Signal-core branch if not negative. -/
  | scBgez (n : Nat) (a : Nat) (disp : BitVec 10) (mac : BitVec 24) (x1 : BitVec 20)
  /-- SC_JMP (R382). Signal-core jump. -/
  | scJmp (n : Nat) (t : BitVec 12) (mbz : Nat) (mac : BitVec 24) (x1 : BitVec 20)
  /-- SC_CALL (R382). Signal-core call writing LR. -/
  | scCall (n : Nat) (t : BitVec 12) (mbz : Nat) (mac : BitVec 24) (x1 : BitVec 20)
  /-- SC_RET (R398). Signal-core return to LR. -/
  | scRet (n : Nat) (mbz : Nat) (mac : BitVec 24) (x1 : BitVec 20)
  /-- SC_REP (R383). Start a hardware loop over the following bundles. -/
  | scRep (n : Nat) (imm : Bool) (c : Nat) (rot : Bool) (len : Nat) (mbz : Nat) (mac : BitVec 24) (x1 : BitVec 20)
  /-- SC_ROT (R370). Rotate the register names of the rotating region. -/
  | scRot (n : Nat) (mbz : Nat) (mac : BitVec 24) (x1 : BitVec 20)
  /-- SC_SYNC_C (R387). Discard fetched bundles and the repeat cache. -/
  | scSyncC (n : Nat) (mbz : Nat) (mac : BitVec 24) (x1 : BitVec 20)
  /-- SC_FENCE_SL (R385). Signal-core store-load fence. -/
  | scFenceSl (n : Nat) (mbz : Nat) (mac : BitVec 24) (x1 : BitVec 20)
  /-- SC_FENCE (R385). Signal-core fence waiting for earlier accesses. -/
  | scFence (n : Nat) (mbz : Nat) (mac : BitVec 24) (x1 : BitVec 20)
  /-- SC_RTE (R391). Return from a signal-core trap. -/
  | scRte (n : Nat) (mbz : Nat) (mac : BitVec 24) (x1 : BitVec 20)
  /-- SC_TRAP (R388). Take the signal-core SWTRAP trap. -/
  | scTrap (n : Nat) (i : BitVec 8) (mbz : Nat) (mac : BitVec 24) (x1 : BitVec 20)
  /-- SC_WAITI (R392). Wait for earlier accesses and stop in WAIT. -/
  | scWaiti (n : Nat) (mbz : Nat) (mac : BitVec 24) (x1 : BitVec 20)
  /-- SC_RAISE (R392). Raise a doorbell source of this signal core. -/
  | scRaise (n : Nat) (i : Nat) (mbz : Nat) (mac : BitVec 24) (x1 : BitVec 20)
  /-- SC_TAKE_INTERRUPT (R388). Between bundles a signal core takes a presented interrupt. -/
  | scTakeInterrupt (n : Nat)
  /-- SC_TAKE_SBUS (R386). Between bundles a signal core takes a pending SBUS. -/
  | scTakeSbus (n : Nat)
  /-- SC_TAKE_DEBUG (R738). Between bundles a signal core takes a pending debug event. -/
  | scTakeDebug (n : Nat)
  /-- SC_WAKE (R392). A signal core in WAIT resumes when an interrupt, SBUS or debug request becomes pending. -/
  | scWake (n : Nat)
  /-- SC_START (R393). SC_CTL.START starts a signal core held in reset at SC_ENTRY. -/
  | scStart (n : Nat)
  /-- SC_RESET (R393). SC_CTL.RESET ends a signal core's execution and holds it in reset. -/
  | scReset (n : Nat)
  /-- SC_WINDOW_ACCESS (R368). A NoC request to a signal core's memories is served in a free or stolen cycle. -/
  | scWindowAccess (n : Nat) (stolen : Bool)
  /-- SC_MEM_WRITEBACK (R369). A corrected signal-core memory byte is written back in the bank's first idle cycle. -/
  | scMemWriteback (n : Nat)
  /-- NOC_REQUEST_ISSUE (R412). An initiator issues a request once ordering and response buffer space allow it. -/
  | nocRequestIssue (init k tag : Nat)
  /-- NOC_ROUTER_FORWARD (R402). A router forwards a packet head when the next router has buffer space in its class. -/
  | nocRouterForward (r out : Nat) (aged : List Nat)
  /-- NOC_RESPONSE_ARRIVAL (R421). A response reaches its initiator and is delivered by initiator kind. -/
  | nocResponseArrival (init : Nat)
  /-- NOC_TIMEOUT (R422). A request's timeout limit passes and a TIMEOUT response is synthesised. -/
  | nocTimeout (init tag : Nat)
  /-- ROUTE_CHANGE (R405). Routes change around a router taken out of service once old packets have drained. -/
  | routeChange (r : Nat)
  /-- TRACE_WRITE (R428). The trace writer writes two queued trace records to the trace ring. -/
  | traceWrite
  /-- MP_REQUEST_ACCEPT (R444). A memory port accepts a request, checks it and places writes in the write queue. -/
  | mpRequestAccept (n : Nat)
  /-- MP_COMMAND_SLOT (R450). At each command slot the scheduler issues a refresh, RFM or eligible request. -/
  | mpCommandSlot (n : Nat) (aged gap : Bool)
  /-- MP_READ_RETURN (R464). A burst returns, each block is classified by ECC and delivered. -/
  | mpReadReturn (n : Nat)
  /-- MP_REFRESH_TICK (R452). A tREFI interval passes and each refresh debt increases. -/
  | mpRefreshTick (n : Nat)
  /-- MP_MR4_POLL (R454). Every 16 ms the port reads MR4 and the DIMM sensors. -/
  | mpMr4Poll (n : Nat) (hi : Bool) (t0 t1 : Nat)
  /-- MP_THROTTLE_END (R458). A throttled initiator's throttle time expires. -/
  | mpThrottleEnd (n init src : Nat)
  /-- MP_PATROL_READ (R468). The patrol interval passes and the port reads the next burst. -/
  | mpPatrolRead (n : Nat)
  /-- MP_LB_LEAK (R475). The leak period passes and the leaky-bucket count decrements. -/
  | mpLbLeak (n : Nat)
  /-- MP_TRAIN (R436). A write of TRAIN starts the training steps of a port. -/
  | mpTrain (n : Nat) (zfill : Bool)
  /-- MP_TRAINING_STEP_DONE (R437). A training step ends and the port moves on, enters service or fails. -/
  | mpTrainingStepDone (n code geom : Nat)
  /-- MP_SR_ENTER (R459). A write of SR_ENTER starts draining the port into self-refresh. -/
  | mpSrEnter (n : Nat)
  /-- MP_DRAIN_DONE (R459). Draining ends, SRE is issued and the port enters SELF_REFRESH. -/
  | mpDrainDone (n : Nat)
  /-- MP_SR_EXIT (R460). A write of SR_EXIT restarts the port's clocks and issues SRX. -/
  | mpSrExit (n : Nat)
  /-- MP_SR_EXIT_DONE (R460). Calibration and checks after self-refresh end and the port enters service. -/
  | mpSrExitDone (n : Nat)
  /-- MP_REMAP_INSTALL (R471). INSTALL starts copying a block into a remap entry. -/
  | mpRemapInstall (n e : Nat)
  /-- MP_REMAP_INSTALL_DONE (R471). The remap copy completes and the entry becomes valid. -/
  | mpRemapInstallDone (n e : Nat)
  /-- MP_REMAP_RELEASE (R472). RELEASE starts writing a remap entry back to DRAM. -/
  | mpRemapRelease (n e : Nat)
  /-- MPR_ENABLE (R479). A write of VALID = 1 enables a protected region or is refused. -/
  | mprEnable (r v : Nat)
  /-- MPR_DISABLE (R482). A write of VALID = 0 disables a region and discards its keys and metadata. -/
  | mprDisable (r v : Nat)
  /-- ROT_START (R502). ROT_START begins a key rotation of a region or is refused. -/
  | rotStart (r v : Nat)
  /-- ROTATION_SWEEP_STEP (R503). After ROT_GAP the sweep processes the next leaf of a rotating region. -/
  | rotationSweepStep (r : Nat)
  /-- UNFREEZE (R508). UNFREEZE returns a frozen region to ACTIVE or ROTATING. -/
  | unfreeze (r v : Nat)
  /-- PIPE_SERVE_REQUEST (R498). The protection pipe serves the next request to a page with encryption and verification. -/
  | pipeServeRequest (n : Nat)
  /-- PIPE_FLUSH_DONE (R510). The pipe has finished its requests and written back all dirty metadata. -/
  | pipeFlushDone (n : Nat)
  /-- LANE_ENABLE (R523). A write of EN = 1 starts bring-up of a lane. -/
  | laneEnable (l v : Nat)
  /-- LANE_DISABLE (R523). A write of EN = 0 closes the burst and turns the lane off. -/
  | laneDisable (l v : Nat)
  /-- LANE_REACQ (R533). LANE_CTL.REACQ closes the burst and re-acquires the lane. -/
  | laneReacq (l v : Nat)
  /-- QUAD_OWNER_WRITE (R516). A write of QUAD_CFG.OWNER takes effect or is refused with OWNERR. -/
  | quadOwnerWrite (l v : Nat)
  /-- LANE_BRINGUP_STEP_DONE (R523). A bring-up step completes and the lane moves to its next state. -/
  | laneBringupStepDone (l : Nat) (skewed : Bool)
  /-- LANE_STEP_TIMEOUT (R523). A bring-up step exceeds its limit and the lane returns to SIG_WAIT or steps down. -/
  | laneStepTimeout (l : Nat)
  /-- TRAINING_WORD (R524). A lane receives a training word and checks it for validity and ACK. -/
  | trainingWord (l w : Nat)
  /-- QUAD_TRAIN_TIMEOUT (R525). TRAIN_TO passes and lanes that have not trained enter FAILED. -/
  | quadTrainTimeout (q : Nat)
  /-- QUAD_PLL_RETRY (R521). A quad PLL not locked after 50 µs sets RATEERR and retries. -/
  | quadPllRetry (q : Nat)
  /-- LANE_LOSS_OF_INPUT (R534). A lane detects loss of input and enters GAP with its timer started. -/
  | laneLossOfInput (l : Nat)
  /-- LOS_TIMEOUT (R535). The loss-of-input timer expires and the burst closes with TRUNC. -/
  | losTimeout (l : Nat)
  /-- LANE_SIGNAL_DETECT (R535). Signal returns to a lane, which re-acquires. -/
  | laneSignalDetect (l : Nat)
  /-- LANE_RX_WORD (R531). A received word is delivered to the attach port or stream, or discarded. -/
  | laneRxWord (q j w hdr ce ue : Nat) (err : Bool)
  /-- LANE_TX_WORD (R532). At each word time the lane transmits a word from its source or fill. -/
  | laneTxWord (q j : Nat)
  /-- STREAM_SEGMENT_CLOSE (R541). A stream segment fills or its burst closes. -/
  | streamSegmentClose (l : Nat)
  /-- STREAM_HEADER_WRITE (R541). Once the segment's data writes are answered, its header is written. -/
  | streamHeaderWrite (l : Nat)
  /-- STREAM_WP_ADVANCE (R541). Once the header write is answered, STRM_WP advances by 4 KiB. -/
  | streamWpAdvance (l : Nat)
  /-- TXS_READ (R544). The lane reads ahead words of its transmit stream buffer. -/
  | txsRead (l : Nat)
  /-- PCIE_LINK_UP (R548). The endpoint trains the link and answers configuration requests. -/
  | pcieLinkUp (width speed : Nat) (flit : Bool)
  /-- BAR_READ (R552). A host memory read to BAR0 or BAR2 becomes NoC reads and completions. -/
  | barRead (tag bar off n : Nat)
  /-- BAR_WRITE (R552). A host posted write to BAR0 or BAR2 becomes NoC writes. -/
  | barWrite (bar off : Nat) (ep : Bool) (data : List Byte)
  /-- BAR_ATOMIC (R554). A host atomic to BAR2 becomes one NoC ATOMIC. -/
  | barAtomic (tag bar off kind size : Nat) (data : List Byte)
  /-- APERTURE_ENABLE (R551). A write of EN = 1 enables a BAR2 aperture or is refused with APTERR. -/
  | apertureEnable (a v : Nat)
  /-- DMA_DESCRIPTOR_FETCH (R556). A queue pair fetches descriptors while enabled and its ring is not empty. -/
  | dmaDescriptorFetch (q : Nat) (ok : Bool) (bytes : List Byte)
  /-- DMA_DESCRIPTOR_START (R557). A descriptor starts its transfer when order and FENCE allow. -/
  | dmaDescriptorStart (q : Nat)
  /-- DMA_COMPLETION_WRITE (R560). A completion entry is written once the transfer completes and the ring has room. -/
  | dmaCompletionWrite (q : Nat) (ok : Bool)
  /-- DMA_QUEUE_STOP (R559). A host write of EN = 0 stops a queue. -/
  | dmaQueueStop (q : Nat)
  /-- MSIX_MESSAGE (R562). A host-vector interrupt is sent as an MSI-X message or held in the PBA. -/
  | msixMessage (n : Nat)
  /-- MSIX_UNMASK (R562). The masking conditions clear and one message is sent per set PBA bit. -/
  | msixUnmask (en fmask bme : Bool)
  /-- PERST_N (R563). PERST_N assertion resets the endpoint and retrains the link. -/
  | perstN
  /-- HOT_RESET (R563). A hot reset resets the endpoint and retrains the link. -/
  | hotReset
  /-- FUNCTION_LEVEL_RESET (R563). A Function Level Reset resets the endpoint state apart from the link. -/
  | functionLevelReset
  /-- D3HOT (R563). The host puts the function in D3hot, stopping DMA and refusing BAR requests. -/
  | d3hot
  /-- WARP_PORT_ENABLE (R565). A write of EN = 1 enables a warp port or is refused with QUADERR. -/
  | warpPortEnable (p v : Nat)
  /-- WARP_FLIT_SEND (R568). A port sends its next flit, REED flits first. -/
  | warpFlitSend (p : Nat)
  /-- WARP_FLIT_RECEIVE (R569). A port receives a flit, corrects it and acts on its header and payload. -/
  | warpFlitReceive (p : Nat) (bytes : List Byte)
  /-- KEEPALIVE_TIMEOUT (R578). No good flit arrives for 2 µs and the port goes DOWN. -/
  | keepaliveTimeout (p : Nat)
  /-- LINK_HOLD_EXPIRY (R579). LINK_HOLD passes and a DOWN port trains again. -/
  | linkHoldExpiry (p : Nat)
  /-- DISCOVERY_START (R581). START begins topology discovery. -/
  | discoveryStart
  /-- SETTLE (R582). SETTLE_US passes without change and the device computes its part, IDs and routes. -/
  | settle
  /-- ROUTE_DRAIN_END (R586). DRAIN_US passes and packets on a changed route may leave. -/
  | routeDrainEnd
  /-- REJOIN (R591). REJOIN clears the ISOLATED flag and floods a new record. -/
  | rejoin
  /-- REED_SYMBOL_RECEIVE (R608). A Reed symbol is accepted on a hop and acted on by its kind and operation. -/
  | reedSymbolReceive (p t t2 : Nat)
  /-- REED_RESEND_TIMEOUT (R608). 256 ns pass without acknowledgement and unacknowledged symbols are resent. -/
  | reedResendTimeout (p : Nat)
  /-- TB_CALIBRATION (R598). Once per millisecond a child measures its offset from the parent. -/
  | tbCalibration (t1 : Nat)
  /-- TB_RESYNC (R602). RESYNC takes the parent's pick schedule at the next boundary. -/
  | tbResync
  /-- REED_BARRIER (R610). A slot GO with OP BARRIER starts a barrier collective. -/
  | reedBarrier (sl : Nat)
  /-- REED_BROADCAST (R613). A slot GO with OP BROADCAST sends a buffer to every member. -/
  | reedBroadcast (sl : Nat)
  /-- REED_REDUCE (R611). A slot GO with OP REDUCE starts a reduction collective. -/
  | reedReduce (sl : Nat)
  /-- REED_SNAPSHOT (R614). A slot GO with OP SNAPSHOT schedules armed captures at a boundary. -/
  | reedSnapshot (sl : Nat)
  /-- REED_RESET (R614). A slot GO with OP RESET schedules a Reed system reset at a boundary. -/
  | reedReset (sl : Nat)
  /-- REED_MODE (R617). A slot GO with OP MODE starts a two-phase mode change. -/
  | reedMode (sl : Nat)
  /-- REED_COLLECTIVE_TIMEOUT (R612). REED_TO passes and a collective slot completes with TIMEOUT. -/
  | reedCollectiveTimeout (sl : Nat)
  /-- BROADCAST_RING_WRITE (R613). A received broadcast entry is written to the ring and BC_WP advances on acknowledgement. -/
  | broadcastRingWrite
  /-- MODE_SOFTWARE_READY (R618). A write of MODE_CTL.READY gives software readiness for the mode change. -/
  | modeSoftwareReady
  /-- PLL_ENABLE (R631). A write of EN = 1 starts a PLL or sets PLLCFG. -/
  | pllEnable (fab : Bool) (n v : Nat)
  /-- PLL_DISABLE (R631). A write of EN = 0 stops a PLL unless a switch or memory port forbids it. -/
  | pllDisable (fab : Bool) (n v : Nat)
  /-- SOURCE_JUDGED_GOOD (R630). A source's stability count completes and it is judged stable or locked. -/
  | sourceJudgedGood (n : Nat)
  /-- DOMAIN_SWITCH (R636). A write of SRC or DDIV starts a glitch-free source switch. -/
  | domainSwitch (d v : Nat)
  /-- DOMAIN_SWITCH_STEP (R636). After 64 cycles a switching domain takes its next divider or multiplexer step. -/
  | domainSwitchStep (d : Nat)
  /-- CLOCK_SOURCE_FAIL (R638). A monitor finds a source failed and the forced safe states act. -/
  | clockSourceFail (n : Nat) (pulse : Bool)
  /-- DOMAIN_FAILOVER_RESTART (R640). A stopped domain restarts on ALT after 1 µs or on its returned source. -/
  | domainFailoverRestart (d : Nat)
  /-- GLINE_CFG_WRITE (R634). A write of a global line source is applied or refused with LINEBUSY. -/
  | glineCfgWrite (l v : Nat)
  /-- LINE_FORCE_CLR (R641). LINE_FORCE_CLR lifts the forced safe state of a line that runs again. -/
  | lineForceClr (mask : Nat)
  /-- IRQ_EVENT (R648). A unit raises an interrupt source and the controller records and presents it. -/
  | irqEvent (n : Nat)
  /-- IRQ_SRC_WRITE (R652). A write of IRQ_SRC sets enable, priority and target or sets TGTERR. -/
  | irqSrcWrite (n v : Nat)
  /-- IRQ_SWSET (R654). A write of SWSET sets a source pending. -/
  | irqSwset (n : Nat)
  /-- IRQ_PENDING_CLEAR (R654). A write of 1 to PENDING clears it. -/
  | irqPendingClear (n : Nat)
  /-- IRQ_EOI (R656). A core writes its EOI register to complete an active source. -/
  | irqEoi (kind idx n : Nat)
  /-- IRQ_HOST_EOI (R657). The host writes IRQ_HOST_EOI to complete a host-targeted source. -/
  | irqHostEoi (n : Nat)
  /-- IRQ_COAL_TIMEOUT (R659). A coalescing window's time limit passes and the window closes. -/
  | irqCoalTimeout (kind idx : Nat)
  /-- VIN_RISE (R663). VIN rises through 10.2 V and start-up begins. -/
  | vinRise (fail : Nat)
  /-- VIN_LOSS (R663). VIN below 9.8 V for 1 µs is a loss of supply. -/
  | vinLoss
  /-- RAIL_FAULT (R665). A rail outside ±5 % for 2 µs is a rail fault with a rail-specific effect. -/
  | railFault (rail idx fail : Nat)
  /-- PWR_GPIO_V_WRITE (R666). A change of a bank voltage turns its outputs off and ramps the rail. -/
  | pwrGpioVWrite (b v : Nat)
  /-- GPIO_RAIL_READY (R666). A bank rail ramp ends and READY sets. -/
  | gpioRailReady (b : Nat)
  /-- POWER_LIMIT_EXCEEDED (R667). Input power above the limit for 10 µs sets CAP on free bays. -/
  | powerLimitExceeded (mw : Nat)
  /-- POWER_LIMIT_CLEAR (R667). 100 µs below the limit CAP clears. -/
  | powerLimitClear (mw : Nat)
  /-- OVERCURRENT (R667). Input current above 70 A for 5 µs causes power-on reset. -/
  | overcurrent (ca fail : Nat)
  /-- THERMAL_RESET (R667). Junction temperature too far above the grade maximum causes power-on reset and OFF. -/
  | thermalReset (tj : Nat)
  /-- AVS_STEP (R668). Every 10 µs each bay's voltage loop moves VBAY by at most one step. -/
  | avsStep (b mv : Nat)
  /-- VMAX_REPORT (R669). A bay that misses its delay at 0.85 V for 1 ms is reported unusable. -/
  | vmaxReport (b : Nat)
  /-- PWR_BAY_REQ_WRITE (R671). A bay power request moves the bays of the skein together or is refused. -/
  | pwrBayReqWrite (b v : Nat)
  /-- BAY_PWR_TRANSITION_DONE (R670). A bay power transition ends and the bay reaches its new state. -/
  | bayPwrTransitionDone (b : Nat)
  /-- DEVICE_SLEEP_ENTRY (R677). With all conditions met, the device enters SLEEP or DEEP SLEEP. -/
  | deviceSleepEntry (stop src : Nat)
  /-- DEVICE_OFF_ENTRY (R679). With MODE OFF the device shuts down to VAON only. -/
  | deviceOffEntry (fail : Nat)
  /-- WAKE_EVENT (R681). A wake event returns the device to RUN in the wake order. -/
  | wakeEvent (src : Nat)
  /-- WAKE_PIN (R679). WAKE held high for 10 µs starts the device from OFF. -/
  | wakePin (cool : Bool) (fail : Nat)
  /-- RESET_N (R683). RESET_N low for 1 µs and released resets the device. -/
  | resetN (fail : Nat)
  /-- WARM_RESET (R685). RST_CTL.WARM with the key starts a warm reset after flush and drain. -/
  | warmReset (v fail : Nat)
  /-- WATCHDOG_EXPIRY (R689). The watchdog count reaches PERIOD_MS and raises its source or performs ACTION. -/
  | watchdogExpiry (fail : Nat)
  /-- WDT_KICK (R689). A write of WDT_KICK restarts the watchdog count. -/
  | wdtKick
  /-- BIST_REQUEST (R693). GO requests a test of a named unit, started or held. -/
  | bistRequest (v : Nat)
  /-- BIST_TEST_START (R693). A held or requested test starts once the engine is free. -/
  | bistTestStart
  /-- BIST_TEST_END (R693). A test ends and its result sets the unit's health. -/
  | bistTestEnd (pass : Bool) (misr kind : Nat)
  /-- BIST_AUTO_TICK (R695). Every AUTO_GAP_MS the engine tests the next free bay. -/
  | bistAutoTick
  /-- AGEING_MEASUREMENT (R707). Each period the monitors measure drift and update stress age, wear and predictions. -/
  | ageingMeasurement (fam idx drift temp : Nat)
  /-- HSTATE_WRITE (R706). A software write of UNUSABLE to a bay's HSTATE retires the bay. -/
  | hstateWrite (b v : Nat)
  /-- UNUSABLE_WRITE (R706). A write of 1 to an UNUSABLE bit retires a unit. -/
  | unusableWrite (fam idx : Nat)
  /-- BAY_BIST_CONSENT_WRITE (R696). A write of CONSENT in one bay writes it in every bay of the skein. -/
  | bayBistConsentWrite (b v : Nat)
  /-- TAP_RESET (R714). The TAP controller is reset and IDCODE loaded. -/
  | tapReset
  /-- TAP_UPDATE_IR (R715). A new TAP instruction takes effect at Update-IR. -/
  | tapUpdateIr (code : Nat)
  /-- BOUNDARY_SCAN_UPDATE (R718). Under EXTEST the boundary-scan cells drive the GPIO outputs. -/
  | boundaryScanUpdate (v : Nat)
  /-- DPACC_ACCESS (R719). Update-DR of DPACC starts a read or write of a debug block register. -/
  | dpaccAccess (op reg data : Nat)
  /-- CHAL_REQ (R724). CHAL_REQ draws a new unlock nonce. -/
  | chalReq
  /-- VERIFY (R725). VERIFY starts checking the signed unlock response. -/
  | verify
  /-- VERIFY_DONE (R725). Unlock verification ends and raises or keeps the level. -/
  | verifyDone (relocked : Bool)
  /-- RELOCK (R726). RELOCK returns the port to LOCKED. -/
  | relock
  /-- DBG_NOC_GO (R727). GO issues one request through the debug NoC initiator. -/
  | dbgNocGo
  /-- DBG_REQ (R737). A write of DBG_REQ makes a debug event pending at the selected core. -/
  | dbgReq (x : Nat)
  /-- DBG_RACC_READ (R741). The register access port reads one register of a halted core. -/
  | dbgRaccRead (x num : Nat)
  /-- DBG_RACC_WRITE (R741). The register access port writes one register of a halted core. -/
  | dbgRaccWrite (x num v : Nat)
  /-- DBG_RESUME (R742). DBG_RESUME.GO restarts a core from FAULT_HALT. -/
  | dbgResume (x pc : Nat)
  /-- MBOX_IN_WRITE (R740). A port write of MBOX_IN sets IN_FULL and raises the mailbox source. -/
  | mboxInWrite (c v : Nat)
  /-- MBOX_OUT_WRITE (R740). A write of MBOX_OUT sets OUT_FULL. -/
  | mboxOutWrite (c v : Nat)
  /-- GPIO_INPUT_CHANGE (R760). A GPIO input changes, is sampled and may set an event bit. -/
  | gpioInputChange (b lv : Nat)
  /-- GPIO_CFG_WRITE (R747). A write of STD, DDR or TERM takes effect or sets CFGERR. -/
  | gpioCfgWrite (b i v : Nat)
  /-- GPIO_TSET_WRITE (R756). A write of a timing set changes only the inactive set or sets TSERR. -/
  | gpioTsetWrite (b i v : Nat)
  /-- GPIO_FENCED_CLEAR (R758). A write of 1 to FENCED lifts a bank's fence. -/
  | gpioFencedClear (b : Nat)
  /-- FLIP_FLOP_EDGE (R64). On each rising edge of its control set's clock an LC flip-flop, and each boundary register, takes its next value. -/
  | flipFlopEdge (cells groups gpios lanes srs : List EdgeUnit)
  /-- RAIL_RECOVERY (R665). A faulted rail returns within ±5 % of its set value and the lanes or bank it forced safe leave that state. -/
  | railRecovery (rail idx : Nat)
  /-- THERMAL_WARNING (R774). The hottest junction reading comes within 5 °C of the grade maximum and PWR_EVT.THERM sets. -/
  | thermalWarning (tj : Nat)
  /-- TAG_HOLD_EXPIRY (R424). The further 2^TO_EXP cycles after a TIMEOUT pass and the initiator's tag becomes free for reuse. -/
  | tagHoldExpiry (init tag : Nat)
  /-- HOST_COMPLETION (R558). A PCI Express completion for a DMA host read arrives and its data, poison or error status is written or dropped for that part. -/
  | hostCompletion (q i off n status : Nat) (ep : Bool) (data : List Byte)
  /-- COMPLETION_TIMEOUT (R558). A DMA host read's completion timeout expires and the part is written as nothing with HOSTERR. -/
  | completionTimeout (q i off n : Nat)
  /-- D0_RETURN (R563). The host returns the function from D3hot to D0, so BAR requests and DMA are served again. -/
  | d0Return
deriving DecidableEq, Repr

end Sys2Proof
end

