-- ==== Sys2Proof/Machine/State.lean ====
section
/-!
DEFINITION. The state of the block, the reasons a step can stop, and the state after reset. Every register field of
the spec is a cell of `regs`, keyed by field, unit and copy (`Machine/Fields.lean` lists them); the other fields hold
what the spec gives the machine beside its registers.
-/
namespace Sys2Proof.Machine

/-- The device states of R676. -/
inductive DevState where
  | run | sleep | deepSleep | off
deriving DecidableEq, Repr, Inhabited

/-- A coalescing window of an interrupt target (R659): 0 closed and idle, 1 open, 2 closed with its sources still
to be claimed; the events it has counted; COUNT and whether TIME was not 0 when it opened (R660). -/
structure IrqWin where
  st : Nat := 0
  count : Nat := 0
  limit : Nat := 0
  timed : Bool := false
deriving DecidableEq, Repr, Inhabited

/-- The block's state. -/
structure State where
  /-- register fields: each cell holds the field's value XOR its reset value, so a field at reset is not listed -/
  regs : SMap Nat := {}
  /-- shadows of RWS fields that differ from a plain copy of the active value (R56) -/
  staged : List Staged := []
  /-- every byte of the device's memories, by address (`Machine/Ops.lean` gives the map) -/
  mem : SMap Byte := {}
  /-- stored check bits of on-chip bytes, as their difference from the correct check bits of the stored data (R115) -/
  ecc : SMap Nat := {}
  /-- control cores CC0-CC7 (R200-R262) -/
  vc : SMap VCore := {}
  /-- signal cores SC0-SC95 (R363-R401) -/
  sc : SMap SCore := {}
  /-- comparators armed by a fire of their predecessor, by core index (R734): bit `k` for comparator `k` -/
  cmpLatch : SMap Nat := {}
  /-- a device reset has been applied and CC0 has not been released yet (R238) -/
  startup : Bool := true
  /-- CC0's boot ROM overlay is in force (R263) -/
  romOverlay : Bool := true
  /-- requests of every initiator that are waiting, outstanding or held after a timeout (R412, R422, R424) -/
  reqs : List Req := []
  /-- packets in the routers and at their targets (R402) -/
  hops : List Hop := []
  /-- the last grant of each router output (R416): 64 x (16 x router + output) gives the input port plus 1, and that key plus
  1 and an input port gives the class last granted there, plus 1 -/
  nocRr : SMap Nat := {}
  /-- routers that routes go around (R405) -/
  noRouter : List Nat := []
  /-- records queued at the trace writer (R428) -/
  traceQ : List (List Byte) := []
  /-- tag generation bits: initiator x 256 + tag (R424) -/
  tgen : SMap Nat := {}
  /-- coalescing windows by target (R659) -/
  irqWin : SMap IrqWin := {}
  /-- events held on request lines while the NoC clock is stopped (R648) -/
  irqHeld : List Nat := []
  /-- device state (R676) -/
  dev : DevState := .run
  /-- clock domains that switch or wait, by domain index (R636) -/
  domSw : SMap DomSw := {}
  /-- global lines in the bindings of loading regions (R634) -/
  loadLines : List Nat := []
  /-- Q of the flip-flops, 16 bits for each cluster: bay x 1024 + 64y + x (R62) -/
  ffs : SMap Nat := {}
  /-- flip-flops that an asynchronous SR still holds, one bit each, by cluster (R65) -/
  ffWait : SMap Nat := {}
  /-- boundary registers, 64 bits for each group: bay x 32 + side x 8 + group (R73) -/
  bregs : SMap Nat := {}
  /-- registers of GPIO attach ports, by bank x 2 + port: OUT_R, OUT_F, OE of 12 I/O and FCTL (R89) -/
  gpioAtt : SMap Nat := {}
  /-- registers of lane attach ports, by lane (R89) -/
  laneAtt : SMap LaneAtt := {}
  /-- PICK_STB by bay: bit k a boundary whose application edge input k has not delivered, bit 8 + k PICK_STB_k is 1 (R82) -/
  strobe : SMap Nat := {}
  /-- staged values whose boundary has passed and whose own clock has given no edge since (R24, R35) -/
  owed : List Staged := []
  /-- the power state that a changing bay comes from (R670) -/
  bayFrom : SMap Nat := {}
  /-- holds and releases in progress (R195) -/
  holds : List HoldOp := []
  /-- stored check bits and CRCs of frames, as differences from the correct ones (R161) -/
  fdiff : SMap Nat := {}
  /-- what memory block ports present: (bay x 24 + block) x 2 + port (R106) -/
  blkOut : SMap PortOut := {}
  /-- memory blocks with a pending write-back: bay x 24 + block gives the byte plus 1 (R119) -/
  blkWb : SMap Nat := {}
  /-- window requests in progress at memory blocks, by bay (R121) -/
  blkWin : SMap WinProg := {}
  /-- scratchpad banks (R125) -/
  spad : SMap SpadBank := {}
  /-- arithmetic slices, by bay x 32 + slice (R136) -/
  slices : SMap Slice := {}
  /-- what bays take on the first edge of a stopped clock input (R94, R153): bit k a boundary that passed at
  input k; bit 8 + k is 1 once input k has taken stage 3 of the last hold; bit 16 the release of stage 3 at input 0 -/
  missed : SMap Nat := {}
  /-- lanes, by global lane (R515) -/
  lanes : SMap Lane := {}
  /-- warp ports (R565) -/
  warp : SMap WPort := {}
  /-- discovery (R580) -/
  disco : Discovery := {}
  /-- the PCI Express endpoint (R547) -/
  pcie : PcieSt := {}
  /-- Reed (R594 to R628) -/
  reed : ReedSt := {}
  /-- memory ports (R434) -/
  mp : SMap MPort := {}
  /-- what is stored in a DRAM block beside its data, as the difference of its 40 code symbols from the correct code words
  (R463): port x 2^35 + block -/
  dramErr : SMap Nat := {}
  /-- DRAM blocks written since training (R438) -/
  dramDef : SMap Bool := {}
  /-- protected regions (R480) -/
  mpr : SMap MRegion := {}
  /-- metadata caches of the pipes, by port, oldest entry first (R496) -/
  mcache : SMap (List MEnt) := {}
  /-- keys of the memory-protection slots 1 to 63 (R486) and of the image slots, 64 + k (R177) -/
  keys : SMap (List Byte) := {}
  /-- loom commands that have been accepted and not reported, in acceptance order (R273) -/
  cmds : List LCmd := []
  /-- command slots: 16 x core + slot (R270) -/
  slots : SMap LSlot := {}
  /-- the load in progress (Table 6.12) -/
  load : Option LoadSt := none
  /-- origin requests that Heddle has not served, by ticket (R17) -/
  hdq : List Nat := []
  /-- instances by number (R304) -/
  insts : SMap (Option Skein) := {}
  /-- the last instance number assigned (R304) -/
  lastInst : Nat := 0
  /-- live spools by SPOOL_ID (R323) -/
  spools : SMap (Option Spool) := {}
  /-- the spool and the destination pool of a move's reservation (R328) -/
  moving : Option (Nat × Nat) := none
  /-- migrations in progress (Table 10.10) -/
  migs : List Migr := []
  /-- captures that are streamed out, in acceptance order (R355) -/
  capts : List Capt := []
  /-- bays whose stage 3 acts in keep form (R361) -/
  keepForm : List Nat := []
  /-- clock inputs (bay, input) of frozen bays that have still to deliver their application edge for the freeze (R332) -/
  lastEdge : List (Nat × Nat) := []
  /-- bytes of memory blocks 0 to 3 that port A wrote last, by address (R354) -/
  blkByA : SMap Bool := {}
  /-- bays that a migration or a test has frozen (R332, R697) -/
  frozen : List Nat := []
  /-- the scrubber (R338) -/
  scrub : ScrubSt := {}
  /-- intake units, by core (R296) -/
  intake : SMap Intake := {}
  /-- responses that wait at bay ports, by bay (R84) -/
  bayq : SMap (List BayBeat) := {}
  /-- the occupied-bay test (R696) -/
  occ : Option OccTest := none
  /-- the self-test engine (R693) -/
  bist : BistSt := {}
  /-- the debug port (R714 to R728) -/
  dbg : DbgSt := {}
  /-- the general-purpose I/O banks (R746 to R761) -/
  gpio : GpioSt := {}
  /-- VIN is present (R663) -/
  vin : Bool := true
  /-- a thermal reset keeps the device in OFF (R667) -/
  hot : Bool := false
  /-- bays whose CAP the power limit sets (R667) -/
  limCap : List Nat := []
  /-- hold stages that retention applied, by bay: bit 0 stage 1, bit 1 stage 2 (R96) -/
  retHold : SMap Nat := {}
  /-- PWR_MODE named a deeper state than IDLE when a control core last entered WAIT (R235) -/
  deepWait : Bool := false
  /-- VLANE is faulty (R665) -/
  laneRail : Bool := false
  /-- the model's own field: how many free values have been drawn (log entry 2) -/
  freeCtr : Nat := 0
  /-- the model's own field: what has left the block, oldest first (log entry 5) -/
  out : List Out := []
  /-- the commands that are waiting, first in, first out -/
  pending : List Instr := []
deriving DecidableEq, Repr

/-- The reasons a step stops with a fault: the model has none, since the spec gives every command an effect. -/
inductive Fault where
  /-- raised by nothing; kept so that the type is not empty. Safe. -/
  | none
deriving DecidableEq, Repr

/-- The reasons a step is refused. -/
inductive Refusal where
  /-- raised by `exec` for a command whose meaning is not written yet, with its mnemonic. Safe. -/
  | notModelled (mnemonic : String)
deriving DecidableEq, Repr

/-- The block right after reset (R684): every register field at its reset value, memories filled with zero (R134),
no request, no command. -/
def State.reset : State := {}

end Sys2Proof.Machine
end

