-- ==== Sys2Proof/Machine/Ops.lean ====
section
/-!
DEFINITION. The named operations over register fields, memories and free values that every command is built from.
-/
namespace Sys2Proof.Machine
open Host (Outcome)

/-- What a command answers. -/
abbrev Res := Host.Outcome State Fault Refusal

/-- An injective pairing of two numbers. -/
def pairN (a b : Nat) : Nat := (a + b) * (a + b) + a

/-- The key of copy `i` of field `f` in unit `u`. -/
def fkey (f : Field) (u i : Nat) : Nat := pairN f.id (pairN u i)

/-- The whole square root of `n`, below `r + 2^k`, from `r` up. -/
def rootFrom (n : Nat) : Nat → Nat → Nat
  | 0, r => r
  | k + 1, r => rootFrom n k (if (r + 2 ^ k) * (r + 2 ^ k) ≤ n then r + 2 ^ k else r)

/-- The two numbers of a pair. -/
def unpairN (n : Nat) : Nat × Nat :=
  let r := rootFrom n (n.log2 / 2 + 1) 0
  (n - r * r, r - (n - r * r))

/-- The reset value of copy `i` of field `f` in unit `u`: the Reset column, with the per-unit values of Tables 8.3,
17.8, 18.7, 19.7 and 21.4, the fuse for form F (the debug level follows the key digests, R723), and zero where the spec gives none (log entry 1). -/
def Field.resetAt (f : Field) (u i : Nat) : Nat :=
  match f.form with
  | .fuse =>
    if f.id = F.DBG_STATUS_LEVEL.id then (if Config.fuse F.CFG_POLICY_DIG_PRESENT.id 0 0 % 16 = 0 then 2 else 0)
    else Config.fuse f.id u i % 2 ^ f.w
  | _ =>
    if f.id = F.TBASE_BASE.id ∧ u = 0 then 0x2008_00E0_0000_C000 / 2048
    else if f.id = F.QUAD_CFG_OWNER.id ∧ u < 4 then 2
    else if f.id = F.APT_CFG_EN.id ∧ i = 0 then 1
    else if f.id = F.APT_BASE_BASE.id ∧ i = 0 then 0x20_0000
    else if f.id = F.WARP_CFG_QUAD.id then 4 + u
    else if f.id = F.DOM_CTL_ALT_EN.id ∧ i = 4 then 0
    else if f.id = F.DOM_CTL_SRC.id ∧ i = 4 then 0
    else if f.id = F.DOM_STATUS_STATE.id ∧ i = 4 then 4
    else if f.id = F.DOM_STATUS_CUR_SRC.id ∧ i = 4 then 3
    else f.rst

/-- The value of copy `i` of field `f` in unit `u`. -/
def State.fld (s : State) (f : Field) (u : Nat := 0) (i : Nat := 0) : Nat :=
  s.regs.get (fkey f u i) ^^^ f.resetAt u i

/-- Sets copy `i` of field `f` in unit `u` to `v`, cut to the field's width. -/
def State.setFld (s : State) (f : Field) (u i v : Nat) : State :=
  { s with regs := s.regs.set (fkey f u i) (v % 2 ^ f.w ^^^ f.resetAt u i) }

/-- Sets a one-bit field to 1. -/
def State.setBit (s : State) (f : Field) (u : Nat := 0) (i : Nat := 0) : State := s.setFld f u i 1

/-- Clears a field. -/
def State.clrFld (s : State) (f : Field) (u : Nat := 0) (i : Nat := 0) : State := s.setFld f u i 0

/-- A one-bit field as a truth value. -/
def State.bit (s : State) (f : Field) (u : Nat := 0) (i : Nat := 0) : Bool := s.fld f u i == 1

/-- Adds `n` to a saturating counter (R44). -/
def State.bump (s : State) (f : Field) (u : Nat := 0) (i : Nat := 0) (n : Nat := 1) : State :=
  s.setFld f u i (satAdd f.w (s.fld f u i) n)

/-- Adds `n` to a wrapping counter. -/
def State.bumpWrap (s : State) (f : Field) (u : Nat := 0) (i : Nat := 0) (n : Nat := 1) : State :=
  s.setFld f u i (s.fld f u i + n)

/-- Sets bit `n` of copy `i` of a field that packs one flag a bit. -/
def State.setFlag (s : State) (f : Field) (u i n : Nat) (b : Bool := true) : State :=
  s.setFld f u i (withBit (s.fld f u i) n b)

/-- Sends something out of the block. -/
def State.emit (s : State) (o : Out) : State := { s with out := s.out ++ [o] }

/-- The next free value (R6), and the state that has drawn it. -/
def State.fresh (s : State) : BitVec 64 × State := (Config.freeValue s.freeCtr, { s with freeCtr := s.freeCtr + 1 })

/-- A free number of 64 x `n` bits. -/
def State.freshBits (s : State) (n : Nat) : Nat × State :=
  ((List.range n).foldl (fun a j => a + (Config.freeValue (s.freeCtr + j)).toNat * 2 ^ (64 * j)) 0, { s with freeCtr := s.freeCtr + n })

/-- `n` free bytes (the undefined data of a poisoned flit, R418). -/
def State.freshBytes (s : State) (n : Nat) : List Byte × State :=
  ((List.range n).map (fun j => (Config.freeValue (s.freeCtr + j)).setWidth 8), { s with freeCtr := s.freeCtr + n })

/-- Applies `f` to 0, 1, …, n - 1 in order. -/
def forN (n : Nat) (f : Nat → State → State) (s : State) : State := (List.range n).foldl (fun s i => f i s) s

/-- Applies `f` to each element of a list in order. -/
def forL {α : Type} (l : List α) (f : α → State → State) (s : State) : State := l.foldl (fun s a => f a s) s

/-- A domain of Table 21.4 runs: RUN, SWITCHING or ALT. -/
def domRuns (s : State) (d : Nat) : Bool := s.fld F.DOM_STATUS_STATE 0 d < 3

/-- The timebase domain has a clock (R594, R603): SPLL5 is locked. -/
def tbRuns (s : State) : Bool := s.bit F.SPLL_STATUS_LOCK 0 5

/-- Bay `b` is on (R670). -/
def bayOn (s : State) (b : Nat) : Bool := s.fld F.PWR_BAY_STATE_STATE 0 b == 2

/-! ### The map of the memories

Addresses below 2^52 are the local physical addresses of Table 1.5, with DRAM at its 45-bit offset (the key ID is not
part of the place). The arrays that no address of Table 1.5 reaches follow above. -/

/-- Byte `off` of memory port `n`'s DRAM. -/
def aDram (n off : Nat) : Nat := n * 2 ^ 41 + off
/-- Byte `off` of scratchpad bank `b`. -/
def aSpad (b off : Nat) : Nat := 0x8_0000_0000_0000 + b * 0x20_0000 + off
/-- Byte `off` of signal core `n`'s memories (R368 gives the layout). -/
def aSc (n off : Nat) : Nat := 0x8_0001_0000_0000 + n * 0x4_0000 + off
/-- Byte `off` of memory block `k` of bay `b`. -/
def aBlock (b k off : Nat) : Nat := 0x8_0002_0000_0000 + b * 0x10_0000 + k * 0x1000 + off
/-- Byte `off` of control core `c`'s private memories: LIM at 0, LDM at 0x1_0000 (R200). -/
def aPriv (c off : Nat) : Nat := 2 ^ 52 + c * 0x2_0000 + off
/-- Byte `off` of the boot ROM (R263). -/
def aRom (off : Nat) : Nat := 2 ^ 52 + 0x100_0000 + off
/-- Byte `j` of frame `f` of bay `b`; bay 768 is the selvage (R160). -/
def aFrame (b f j : Nat) : Nat := 2 ^ 53 + b * 0x8_0000 + f * 256 + j
/-- Where the stored check bits of word `w` of frame `f` of bay `b` (w = 32: the frame CRC) are kept, as their
difference from the correct ones (R161). -/
def aFrameCheck (b f w : Nat) : Nat := (b * 0x1_0000 + f) * 64 + w
/-- Byte `j` of the map frame of frame `f` of bay `b` (R192): the complement of the map, so that a fresh map, all
ones, lists nothing. -/
def aMap (b f j : Nat) : Nat := 2 ^ 54 + b * 0x8_0000 + f * 256 + j

/-- Byte `j` of remap entry `e` of memory port `n` (R470). -/
def aRemap (n e j : Nat) : Nat := 2 ^ 55 + (n * 8 + e) * 64 + j

/-- Byte `off` of the MSI-X table (R561); bit 0 of a vector's control word is kept inverted, since vectors are masked at
reset. -/
def aMsix (off : Nat) : Nat := 2 ^ 56 + off

/-- The stored byte at `a`. -/
def State.rdB (s : State) (a : Nat) : Byte := s.mem.get a

/-- Stores a byte at `a` with correct check bits. -/
def State.wrB (s : State) (a : Nat) (v : Byte) : State := { s with mem := s.mem.set a v, ecc := s.ecc.set a 0 }

/-- Stores the poison marker at `a` (R117): the check bits are all inverted. -/
def State.poisonB (s : State) (a : Nat) : State := { s with ecc := s.ecc.set a 31 }

/-- `n` bytes from `a`. -/
def State.rdBytes (s : State) (a n : Nat) : List Byte := (List.range n).map (fun j => s.rdB (a + j))

/-- Stores bytes from `a` on. -/
def State.wrBytes (s : State) (a : Nat) : List Byte → State
  | [] => s
  | b :: bs => (s.wrB a b).wrBytes (a + 1) bs

/-- Stores `n` zero bytes from `a` on (a fill): the cells in the range are dropped. -/
def State.zeroRange (s : State) (a n : Nat) : State :=
  { s with mem := s.mem.keep (fun k _ => k < a || a + n ≤ k), ecc := s.ecc.keep (fun k _ => k < a || a + n ≤ k) }

/-! ### The per-byte check code (Tables 4.7 and 4.8) -/

/-- How a read byte classifies (Table 4.8). -/
inductive Check where
  | good
  /-- correctable; the data bit to invert, or none when a check bit was wrong -/
  | corr (bit : Option Nat)
  | bad
deriving DecidableEq, Repr

/-- Parity of the low five bits. -/
def par5 (e : Nat) : Nat := (e % 2 + e / 2 % 2 + e / 4 % 2 + e / 8 % 2 + e / 16 % 2) % 2

/-- Table 4.8 from the difference `e` between stored and recomputed check bits (c0 to c3, then p): s is its low four
bits, and q, the parity of all 13 read bits, is the parity of `e`. -/
def classify (e : Nat) : Check :=
  let s := e % 16
  if s = 0 then (if par5 e = 0 then .good else .corr none)
  else if par5 e = 0 then .bad
  else match s with
    | 1 | 2 | 4 | 8 => .corr none
    | 3 => .corr (some 0) | 5 => .corr (some 1) | 6 => .corr (some 2) | 7 => .corr (some 3)
    | 9 => .corr (some 4) | 10 => .corr (some 5) | 11 => .corr (some 6) | 12 => .corr (some 7)
    | _ => .bad

/-- The check bits of a data byte (Table 4.7), c0 in bit 0, p in bit 4. -/
def checkBits (d : Byte) : Nat :=
  let b (i : Nat) : Nat := d.toNat / 2 ^ i % 2
  let c0 := (b 0 + b 1 + b 3 + b 4 + b 6) % 2
  let c1 := (b 0 + b 2 + b 3 + b 5 + b 6) % 2
  let c2 := (b 1 + b 2 + b 3 + b 7) % 2
  let c3 := (b 4 + b 5 + b 6 + b 7) % 2
  let p := (b 0 + b 1 + b 2 + b 3 + b 4 + b 5 + b 6 + b 7 + c0 + c1 + c2 + c3) % 2
  c0 + 2 * c1 + 4 * c2 + 8 * c3 + 16 * p

/-- The class of the byte stored at `a`. -/
def State.checkAt (s : State) (a : Nat) : Check := classify (s.ecc.get a)

/-- The byte that a read of `a` delivers when it is not uncorrectable (R116): the stored byte, its wrong bit inverted. -/
def State.rdC (s : State) (a : Nat) : Byte :=
  match s.checkAt a with
  | .corr (some k) => s.rdB a ^^^ BitVec.ofNat 8 (2 ^ k)
  | _ => s.rdB a

/-- An upset inverts the bits `dm` of the data and `cm` of the check bits of the byte stored at `a`. -/
def State.upset (s : State) (a dm cm : Nat) : State :=
  let d := s.rdB a
  let d' := d ^^^ BitVec.ofNat 8 dm
  { s with mem := s.mem.set a d', ecc := s.ecc.set a ((s.ecc.get a ^^^ checkBits d ^^^ checkBits d' ^^^ cm) % 32) }

/-! ### Unit headers (R46, R47) -/

/-- The header number of a single block (its block number), and of unit `i` of family `f`. -/
def hdrOf (family i : Nat) : Nat := family * 0x1000 + i

/-- Where a block's registers have their unit header. -/
def Blk.header (b : Blk) (u : Nat) : Nat :=
  match b with
  | .global => 0 | .clk => 1 | .pwr => 2 | .irq => 3 | .cfg => 4 | .hd => 5 | .mpe => 6 | .noc => 7 | .reed => 8
  | .bist => 9 | .dbg => 10 | .gpio => 11 | .pcie => 12 | .spb => 13
  | .lane => hdrOf 1 u | .bay => hdrOf 2 u | .sc => hdrOf 3 u | .mp => hdrOf 4 u | .warp => hdrOf 5 u
  | .cc => hdrOf 6 u
  | _ => 0

/-- Whether a staged value is that of copy `i` of field `f` in unit `u`. -/
def Staged.isOf (g : Staged) (f : Field) (u i : Nat) : Bool := g.fld.id == f.id && g.u == u && g.i == i

/-- The shadow value of an RWS field (R56): the staged value, or the active value where nothing is staged. -/
def State.shadow (s : State) (f : Field) (u i : Nat) : Nat :=
  match s.staged.find? (fun g => g.isOf f u i) with
  | some g => g.v
  | none => s.fld f u i

/-- PENDING of a unit: a write is staged and not yet applied or discarded (Table 2.7). -/
def State.stagedIn (s : State) (hu : Nat) : Bool := s.staged.any (fun g => g.hu == hu)

/-- Stages a value in the shadow of an RWS field, which sets PENDING of its unit (R56). -/
def State.stage (s : State) (hu : Nat) (f : Field) (u i v : Nat) : State :=
  let g : Staged := { hu := hu, fld := f, u := u, i := i, v := v % 2 ^ f.w }
  { s with staged := s.staged.filter (fun g => !g.isOf f u i) ++ [g] }

/-- Drops the shadows of a unit, which clears PENDING (R60, R61). -/
def State.discard (s : State) (hu : Nat) : State :=
  { s with staged := s.staged.filter (fun g => g.hu != hu), owed := s.owed.filter (fun g => g.hu != hu) }

/-- Copies every shadow of a unit to its active field and clears PENDING (R57). -/
def State.applyStaged (s : State) (hu : Nat) : State :=
  (forL (s.staged.filter (fun g => g.hu == hu)) (fun g s => s.setFld g.fld g.u g.i g.v) s).discard hu

/-- The pick counter (R594). -/
def State.pick (s : State) : Nat := s.fld F.PICK_CNT

/-- System time in nanoseconds (R594). -/
def State.now (s : State) : Nat := s.fld F.SYSTIME

/-! ### Health (R701, R703) -/

/-- A privileged unit, numbered as PRIV_RESULT.FAIL, has failed its test (R703). -/
def privBad (s : State) (k : Nat) : Bool := s.bit F.PRIV_RESULT_VALID && bitOf (s.fld F.PRIV_RESULT_FAIL) k

/-- Whether a unit of a UNUSABLE register is unusable (Table 24.5). -/
def bankBad (s : State) (b : Nat) : Bool := bitOf (s.fld F.UNUSABLE_BANK_BANK) b
def scBad (s : State) (n : Nat) : Bool := bitOf (s.fld F.UNUSABLE_SC_SC 0 (n / 64)) (n % 64)
def quadBad (s : State) (q : Nat) : Bool := bitOf (s.fld F.UNUSABLE_QUAD_QUAD) q
def ccBad (s : State) (c : Nat) : Bool := bitOf (s.fld F.UNUSABLE_CC_CC) c
def rtrBad (s : State) (r : Nat) : Bool := bitOf (s.fld F.UNUSABLE_RTR_RTR 0 (r / 64)) (r % 64)

/-- A control core that is not usable (R703). -/
def ccDead (s : State) (c : Nat) : Bool := ccBad s c || (c == 0 && privBad s 2)

/-- The core that boots: CC0, or where it has failed the next usable one (R703); 8 when there is none. -/
def bootCore (s : State) : Nat := ((List.range 8).find? (fun c => !ccDead s c)).getD 8

/-- Unit `idx` of FAMILY `fam` is under test (R693). -/
def underTest (s : State) (fam idx : Nat) : Bool := s.bist.run.any (fun r => r.fam == fam && r.idx == idx)

end Sys2Proof.Machine
end

