-- ==== Sys2Proof/Machine/Irq.lean ====
section
/-!
DEFINITION. The interrupt controller (chapter 22): sources and their lines, PENDING and ACTIVE, presentation,
claim, completion and coalescing.
-/
namespace Sys2Proof.Machine

/-- A source number that Table 22.1, or a table it refers to, assigns (R646). -/
def irqAssigned (n : Nat) : Bool :=
  n < 0x04D || (0x060 ≤ n && n < 0x066) || (0x080 ≤ n && n < 0x085) || (0x0A0 ≤ n && n < 0x0AB) ||
  (0x100 ≤ n && n < 0x184) || (0x1C0 ≤ n && n < 0x5E0) || (0x600 ≤ n && n < 0x600 + 480)

/-- The line of a level source (R647, Tables 22.1, 23.12, 24.6, 25.7, R760); `none` for an edge source. -/
def irqLevelLine (s : State) (n : Nat) : Option Bool :=
  if n < 0x020 then (if n % 4 = 0 then some (s.bit F.CC_FAULT_VALID (n / 4)) else none)
  else if n = 0x040 then some (s.fld F.CLK_FAILEVT_FAIL != 0 || s.fld F.QREF_FAILEVT_FAIL != 0)
  else if n = 0x041 then some (s.bit F.TB_EVT_PICKMM || s.bit F.TB_EVT_HOLD || s.bit F.TB_EVT_LOCK || s.bit F.TB_EVT_SLEW)
  else if n = 0x042 then some (s.bit F.WARP_SYS_EVT_IDCONF || s.bit F.WARP_SYS_EVT_ISOL || s.bit F.WARP_SYS_EVT_TOPO)
  else if n = 0x045 then some (s.bit F.CFG_FAULT_VALID)
  else if n = 0x048 then some (s.bit F.HD_STATUS_CONDEMN)
  else if n = 0x04A then some ((List.range 12).any (fun k => s.fld F.BAY_PSN_SUM_SUM 0 k != 0))
  else if n = 0x04B then some ((List.range 12).any (fun k => s.fld F.BAY_MCE_SUM_SUM 0 k != 0))
  else if n = 0x04C then some ((List.range 12).any (fun k => s.fld F.BAY_MUE_SUM_SUM 0 k != 0))
  else if n = 0x061 then some (s.bit F.PWR_EVT_LIMIT)
  else if n = 0x062 then some (s.bit F.PWR_EVT_RAIL)
  else if n = 0x063 then some (s.bit F.PWR_EVT_REQERR)
  else if n = 0x065 then some (s.bit F.PWR_EVT_THERM)
  else if n = 0x081 then some (s.bit F.BIST_LOG_VALID)
  else if n = 0x082 then some (s.bit F.AGE_EVT_TAULOST || s.bit F.AGE_EVT_WARN_CORE || s.bit F.AGE_EVT_WARN_QUAD ||
    s.bit F.AGE_EVT_WARN_BAY)
  else if 0x0A0 ≤ n ∧ n < 0x0A8 then some (s.bit F.MBOX_FLAG_IN_FULL 0 (n - 0x0A0))
  else if 0x160 ≤ n ∧ n < 0x170 then some (s.bit F.MP_LB_OVF (n - 0x160))
  else if 0x178 ≤ n ∧ n < 0x184 then
    let p := n - 0x178
    some (s.bit F.WARP_EVT_QUADERR p || s.bit F.WARP_EVT_REJECT p || s.bit F.WARP_EVT_DOWN p || s.bit F.WARP_EVT_UP p)
  else if 0x280 ≤ n ∧ n < 0x340 then
    let l := n - 0x280
    some ([F.LANE_EVT_RATEERR, F.LANE_EVT_BONDERR, F.LANE_EVT_SKEW, F.LANE_EVT_OWNERR, F.LANE_EVT_TXUNDER,
      F.LANE_EVT_STRMERR, F.LANE_EVT_DROP, F.LANE_EVT_TRAINFAIL, F.LANE_EVT_GAP, F.LANE_EVT_TRUNC].any (fun f => s.bit f l))
  else if 0x340 ≤ n ∧ n < 0x3A0 then some (s.bit F.SC_FAULT_VALID (n - 0x340))
  else if 0x600 ≤ n ∧ n < 0x600 + 480 then some (bitOf (s.fld F.GPIO_EVT_EVT ((n - 0x600) / 24)) ((n - 0x600) % 24))
  else none

/-- The present value of a source's line; 0 for an edge source (Table 22.2). -/
def irqLine (s : State) (n : Nat) : Bool := (irqLevelLine s n).getD false

/-- The target of a source as one number: KIND x 4096 + INDEX (R652). -/
def irqTarget (s : State) (n : Nat) : Nat := s.fld F.IRQ_SRC_KIND 0 n * 4096 + s.fld F.IRQ_SRC_INDEX 0 n

/-- The sources with PENDING 1, ascending. -/
def irqPending (s : State) : List Nat := (List.range 2048).filter (fun n => s.bit F.IRQ_SRC_PENDING 0 n)

/-- COUNT of the coalescing register of a target (R659); 0 for target none. -/
def irqCoalCount (s : State) (t : Nat) : Nat :=
  match t / 4096 with
  | 1 => s.fld F.IRQ_CC_COAL_COUNT 0 (t % 4096)
  | 2 => s.fld F.IRQ_SC_COAL_COUNT 0 (t % 4096)
  | 3 => s.fld F.IRQ_HOST_COAL_COUNT 0 (t % 4096)
  | _ => 0

/-- TIME of the coalescing register of a target (R659). -/
def irqCoalTime (s : State) (t : Nat) : Nat :=
  match t / 4096 with
  | 1 => s.fld F.IRQ_CC_COAL_TIME 0 (t % 4096)
  | 2 => s.fld F.IRQ_SC_COAL_TIME 0 (t % 4096)
  | 3 => s.fld F.IRQ_HOST_COAL_TIME 0 (t % 4096)
  | _ => 0

/-- Counts one event of source `n` in the window of its target (R659, R660); `merged` says that the source was PENDING
already, `others` that another source of the target is. -/
def irqNote (n : Nat) (merged others : Bool) (s : State) : State :=
  let t := irqTarget s n
  let w := s.irqWin.get t
  let c := irqCoalCount s t
  if t / 4096 = 0 then s
  else if s.fld F.IRQ_SRC_PRIO 0 n = 15 then
    { s with irqWin := s.irqWin.set t (if w.st = 1 then { st := 2 } else w) }
  else if w.st = 1 then
    { s with irqWin := s.irqWin.set t (if w.count + 1 ≥ w.limit then { st := 2 } else { w with count := w.count + 1 }) }
  else if c ≤ 1 || merged || (w.st = 2 && others) then s
  else { s with irqWin := s.irqWin.set t { st := 1, count := 1, limit := c, timed := irqCoalTime s t != 0 } }

/-- Sets PENDING of a source by an event, or MERGED where it is set already (R648, R651, R654). -/
def irqSet (n : Nat) (s : State) : State :=
  if !irqAssigned n then s
  else
    let others := (irqPending s).any (fun m => m != n && irqTarget s m == irqTarget s n)
    let merged := s.bit F.IRQ_SRC_PENDING 0 n
    irqNote n merged others (if merged then s.setBit F.IRQ_SRC_MERGED 0 n else s.setBit F.IRQ_SRC_PENDING 0 n)

/-- The NoC domain runs, so the controller takes events from its request lines (R648). -/
def irqOpen (s : State) : Bool := s.dev = .run && domRuns s 0

/-- A unit raises an edge source (R648): held on the request line while the NoC domain is stopped. -/
def irqEdge (n : Nat) (s : State) : State :=
  if irqOpen s then irqSet n s else { s with irqHeld := s.irqHeld ++ [n] }

/-- A level source's line is evaluated: while it is 1 and ACTIVE is 0, PENDING sets (R651). -/
def irqSample (n : Nat) (s : State) : State :=
  if irqAssigned n && irqLine s n && !s.bit F.IRQ_SRC_ACTIVE 0 n && !s.bit F.IRQ_SRC_PENDING 0 n then
    (if irqOpen s then irqSet n s else if s.irqHeld.contains n then s else { s with irqHeld := s.irqHeld ++ [n] })
  else s

/-- Sets a W1C status bit and evaluates the level source whose line it is. -/
def State.setEvt (s : State) (f : Field) (u i src : Nat) : State := irqSample src (s.setBit f u i)

/-- Whether a source is deliverable to its core (R653): one that pends again while ACTIVE is delivered again only after
completion (R651). -/
def irqDeliverable (s : State) (t n : Nat) : Bool :=
  let thr := if t / 4096 = 1 then s.fld F.IRQ_CC_THRESH_THRESH 0 (t % 4096) else s.fld F.IRQ_SC_THRESH_THRESH 0 (t % 4096)
  let top := ((List.range 2048).filter (fun m => s.bit F.IRQ_SRC_ACTIVE 0 m && irqTarget s m == t)).foldl
    (fun a m => max a (s.fld F.IRQ_SRC_PRIO 0 m + 1)) 0
  s.bit F.IRQ_SRC_ENABLE 0 n && s.bit F.IRQ_SRC_PENDING 0 n && !s.bit F.IRQ_SRC_ACTIVE 0 n && irqTarget s n == t &&
    thr < s.fld F.IRQ_SRC_PRIO 0 n && top ≤ s.fld F.IRQ_SRC_PRIO 0 n

/-- The source presented to a core (R653): the highest PRIO, among equals the lowest number; none while its
coalescing window is open (R659). -/
def irqPresented (s : State) (t : Nat) : Option Nat :=
  if (s.irqWin.get t).st = 1 then none
  else ((irqPending s).filter (irqDeliverable s t)).foldl
    (fun b n => match b with
      | none => some n
      | some m => if s.fld F.IRQ_SRC_PRIO 0 m < s.fld F.IRQ_SRC_PRIO 0 n then some n else b) none

/-- The target number of control core `c` and of signal core `c`. -/
def tgtCc (c : Nat) : Nat := 4096 + c
def tgtSc (c : Nat) : Nat := 8192 + c

/-- Closes a window whose sources have all been claimed or cleared (R659). -/
def irqSettle (t : Nat) (s : State) : State :=
  if (s.irqWin.get t).st = 2 && !(irqPending s).any (fun m => irqTarget s m == t)
  then { s with irqWin := s.irqWin.set t {} } else s

/-- Claim clears PENDING and sets ACTIVE of a source (R651). -/
def irqClaimSrc (n : Nat) (s : State) : State :=
  irqSettle (irqTarget s n) ((s.clrFld F.IRQ_SRC_PENDING 0 n).setBit F.IRQ_SRC_ACTIVE 0 n)

/-- A core claims at its trap entry (R655): the presented source, or 0xFFFF with nothing claimed. -/
def irqClaim (t : Nat) (s : State) : Nat × State :=
  match irqPresented s t with
  | some n => (n, irqClaimSrc n s)
  | none => (0xFFFF, s)

/-- Completion clears ACTIVE, and a level source samples its line again (R651). -/
def irqComplete (n : Nat) (s : State) : State := irqSample n (s.clrFld F.IRQ_SRC_ACTIVE 0 n)

/-- A core's write to its EOI register (R656). -/
def irqEoi (t n : Nat) (s : State) : State :=
  if s.bit F.IRQ_SRC_ACTIVE 0 n && irqTarget s n == t then irqComplete n s else s.setBit F.IRQ_STATUS_EOIERR

/-- The host's write to IRQ_HOST_EOI (R657). -/
def irqHostEoi (n : Nat) (s : State) : State :=
  if s.bit F.IRQ_SRC_ACTIVE 0 n && s.fld F.IRQ_SRC_KIND 0 n == 3 then irqComplete n s else s.setBit F.IRQ_STATUS_EOIERR

/-- Software sets a source pending (R654): as an edge event, for a source of either kind. -/
def irqSwSet (n : Nat) (s : State) : State := irqSet n s

/-- Software clears PENDING (R654); a level source whose line is 1 is set again. -/
def irqSwClear (n : Nat) (s : State) : State :=
  let t := irqTarget s n
  irqSample n (irqSettle t (s.clrFld F.IRQ_SRC_PENDING 0 n))

/-- The number of targets of a KIND (R652). -/
def irqKindCount : Nat → Nat
  | 0 => 2048
  | 1 => 8
  | 2 => 96
  | _ => 2048

/-- The PENDING of a source with PRIO 15 closes an open window of its target (R660). -/
def irqBypass (n : Nat) (s : State) : State :=
  let t := irqTarget s n
  if s.bit F.IRQ_SRC_PENDING 0 n && s.fld F.IRQ_SRC_PRIO 0 n == 15 && (s.irqWin.get t).st == 1 then
    { s with irqWin := s.irqWin.set t { st := 2 } }
  else s

/-- A write of IRQ_SRC(n) with the 64-bit value `v` (R652, R654); ENABLE = 1 is refused when the controller has failed its
self-test (R703). -/
def irqSrcWrite (n v : Nat) (s : State) : State :=
  if !irqAssigned n then s
  else
    let kind := bitsOf v 40 2
    let idx := bitsOf v 16 11
    let changes := kind != s.fld F.IRQ_SRC_KIND 0 n || idx != s.fld F.IRQ_SRC_INDEX 0 n
    let locked := s.bit F.IRQ_SRC_ENABLE 0 n || s.bit F.IRQ_SRC_ACTIVE 0 n
    let bad := idx ≥ irqKindCount kind
    let s1 := s.setFld F.IRQ_SRC_PRIO 0 n (bitsOf v 48 4)
    let s2 := if bitOf v 57 then s1.clrFld F.IRQ_SRC_MERGED 0 n else s1
    let priv := bitOf v 63 && privBad s 3
    let s3 := if bad || priv then s2 else s2.setFld F.IRQ_SRC_ENABLE 0 n (bitsOf v 63 1)
    let s4 := if bad || priv || (locked && changes) then s3.setBit F.IRQ_STATUS_TGTERR
      else (s3.setFld F.IRQ_SRC_KIND 0 n kind).setFld F.IRQ_SRC_INDEX 0 n idx
    let s5 := if bitOf v 62 then irqSwClear n s4 else s4
    let s6 := if bitOf v 61 then irqSwSet n s5 else s5
    irqBypass n (irqSettle (irqTarget s n) s6)

/-- The events that waited on request lines are applied when the NoC domain runs again (R648, R661): an edge source records each,
a level source samples its line. -/
def irqReleaseHeld (s : State) : State :=
  forL s.irqHeld (fun n s => if (irqLevelLine s n).isSome then irqSample n s else irqSet n s) { s with irqHeld := [] }

/-- R648. A unit raises a source: an edge source records the event, a level source is evaluated. -/
def execIrqEvent (n : Nat) (s : State) : Res :=
  .next (if (irqLevelLine s n).isSome then irqSample n s else irqEdge n s)

/-- R652. A write of IRQ_SRC. -/
def execIrqSrcWrite (n v : Nat) (s : State) : Res := .next (irqSrcWrite n v s)

/-- R654. A write of 1 to SWSET. -/
def execIrqSwset (n : Nat) (s : State) : Res := .next (irqSwSet n s)

/-- R654. A write of 1 to PENDING. -/
def execIrqPendingClear (n : Nat) (s : State) : Res := .next (irqSwClear n s)

/-- R656. A core writes its EOI register: KIND 1 a control core, 2 a signal core. -/
def execIrqEoi (kind idx n : Nat) (s : State) : Res := .next (irqEoi (kind * 4096 + idx) n s)

/-- R657. The host writes IRQ_HOST_EOI. -/
def execIrqHostEoi (n : Nat) (s : State) : Res := .next (irqHostEoi n s)

/-- R659. The time limit of an open coalescing window passes and the window closes. -/
def execIrqCoalTimeout (kind idx : Nat) (s : State) : Res :=
  let t := kind * 4096 + idx
  .next (if (s.irqWin.get t).st = 1 && (s.irqWin.get t).timed then irqSettle t { s with irqWin := s.irqWin.set t { st := 2 } } else s)

/-- A test ends (R693): BIST_STATUS shows the unit and its RESULT, and the test-complete source is raised. A failure of
kind `kind` (1 logic, 2 memory) is recorded in BIST_LOG while that is empty. -/
def testReport (fam idx res kind : Nat) (s : State) : State :=
  let s1 := irqEdge 0x080 (((s.setFld F.BIST_STATUS_FAMILY 0 0 fam).setFld F.BIST_STATUS_INDEX 0 0 idx).setFld F.BIST_STATUS_RESULT 0 0 res)
  if kind = 0 || s1.bit F.BIST_LOG_VALID then s1
  else (((s1.setFld F.BIST_LOG_FAMILY 0 0 fam).setFld F.BIST_LOG_INDEX 0 0 idx).setFld F.BIST_LOG_KIND 0 0 kind).setEvt F.BIST_LOG_VALID 0 0 0x081

/-- The test that runs ends with `res` and frees the engine. -/
def testEnd (fam idx res kind : Nat) (s : State) : State :=
  testReport fam idx res kind ({ s with bist := { s.bist with run := none, auto := false } }.clrFld F.BIST_STATUS_BUSY)

end Sys2Proof.Machine
end

