-- ==== Sys2Proof/Machine/Compare.lean ====
section
/-!
DEFINITION. The cores' comparators (R731 to R736): matching, counting, arming and firing. Core index 0-7 is a control
core, 8-103 a signal core.
-/
namespace Sys2Proof.Machine

/-- Whether comparator `k` of core `x` is armed (R734). -/
def cmpArmed (s : State) (x k : Nat) : Bool :=
  s.fld F.DCMP_CTL_PREV x k == 31 || s.fld F.DCMP_CTL_PREV x k == k || bitOf (s.cmpLatch.get x) k

/-- DSTATUS.ARMED of core `x`. -/
def cmpArmedMask (s : State) (x : Nat) : Nat :=
  (List.range 16).foldl (fun a k => a + ofBool (cmpArmed s x k) * 2 ^ k) 0

/-- The filters of R732 that do not depend on the access: enabled, level, context, armed. `task` is the level, `ctx`
the core's CTXID, absent for a signal core. -/
def cmpReady (s : State) (x k : Nat) (task : Bool) (ctx : Option Nat) : Bool :=
  s.bit F.DCMP_CTL_EN x k && cmpArmed s x k &&
  (match s.fld F.DCMP_CTL_PRIVF x k with | 1 => !task | 2 => task | _ => true) &&
  (match ctx with | some c => !s.bit F.DCMP_CTL_CTXEN x k || s.fld F.DCMP_CTL_CTXID x k == c | none => true)

/-- The instruction comparators that match address `a` (R732). -/
def cmpInstr (s : State) (x a : Nat) (task : Bool) (ctx : Option Nat) : List Nat :=
  (List.range 8).filter (fun k => cmpReady s x k task ctx && s.fld F.DCMP_LO_LO x k ≤ a && a ≤ s.fld F.DCMP_HI_HI x k)

/-- The data comparators that match an access of `n` bytes at `a` (R732): `ld` and `st` say what it counts as. -/
def cmpData (s : State) (x a n : Nat) (ld st : Bool) (task : Bool) (ctx : Option Nat) : List Nat :=
  ((List.range 8).map (· + 8)).filter (fun k => cmpReady s x k task ctx &&
    s.fld F.DCMP_LO_LO x k < a + n && a ≤ s.fld F.DCMP_HI_HI x k &&
    (match s.fld F.DCMP_CTL_ACC x k with | 1 => ld | 2 => st | _ => true))

/-- The matches `ms` of one cycle at core `x` (R734, R735): each counts, and those that reach TARGET fire together.
Answers the lowest comparator that fired with DEBUG. -/
def cmpCount (x : Nat) (ms : List Nat) (s : State) : Option Nat × State :=
  let fires := ms.filter (fun k => s.fld F.DCMP_CNT_CNT x k + 1 ≥ max 1 (s.fld F.DCMP_CTL_TARGET x k))
  let s1 := forL ms (fun k s => s.setFld F.DCMP_CNT_CNT x k (if fires.contains k then 0 else s.fld F.DCMP_CNT_CNT x k + 1)) s
  let s2 := forL fires (fun k s => s.setFlag F.DSTATUS_HIT x 0 k) s1
  let cleared := fires.foldl (fun m k => withBit m k false) (s2.cmpLatch.get x)
  let armed := (List.range 16).foldl (fun m k =>
    if fires.contains (s2.fld F.DCMP_CTL_PREV x k) then withBit m k true else m) cleared
  let s3 := { s2 with cmpLatch := s2.cmpLatch.set x armed }
  let s4 := if fires.any (fun k => s3.fld F.DCMP_CTL_ACTION x k / 2 % 2 == 1) then irqEdge 0x0AA s3 else s3
  (fires.find? (fun k => s.fld F.DCMP_CTL_ACTION x k % 2 == 1), s4)

end Sys2Proof.Machine
end

