-- ==== Sys2Proof/Machine/RegIO.lean ====
section
/-!
DEFINITION. Reading and writing a register as its fields' access codes give (R40, R42, R55, R56): finding the register
at an offset, packing its fields, and the plain effect of a write on each field.
-/
namespace Sys2Proof.Machine

/-- HW fields that their own definition lets software write (R42). A write that starts more than a change of the
field is a hook of its own in `Machine/CsrBus.lean`. -/
def hwWritable (f : Field) : Bool :=
  [F.ERR_STAT_ERR_COUNT, F.RST_CAUSE_COUNT, F.SCRUB_CNT0_CE_ESS, F.SCRUB_CNT0_CE_BEN, F.SCRUB_CNT1_UE_ESS,
   F.SCRUB_CNT1_UE_BEN, F.SCRUB_CNT2_MAPERR, F.HD_STATUS_CCOUNT, F.MPE_ALARM_CNT_COUNT, F.MPE_BLOCK_CNT_COUNT,
   F.MPR_STAT_ALARMS, F.MPR_STAT_REENC, F.NOC_LATE_COUNT, F.NOC_TOLOG_COUNT, F.TRACE_WP_WP, F.TRACE_DROP_COUNT,
   F.PCOUNT_COUNT, F.PBYTES_COUNT, F.BC_WP_WP, F.PCIE_WERR_CNT_COUNT, F.SPB_CE_CNT_COUNT, F.SPB_UE_CNT_COUNT,
   F.RX_DROP_CNT_COUNT, F.BURST_CNT_TRUNC_CNT, F.BURST_CNT_GAP_CNT, F.LANE_CNT_TX_UNDER_CNT, F.LANE_CNT_PRBS_ERR_CNT,
   F.FEC_CNT_FEC_UE_CNT, F.FEC_CNT_FEC_CE_CNT, F.STRM_NOCERR_CNT_COUNT, F.TXS_ERR_CNT_COUNT, F.STRM_WP_WP,
   F.BAY_POISON_CNT_COUNT, F.BAY_MEM_CE_CNT_COUNT, F.BAY_MEM_UE_CNT_COUNT, F.SC_STEAL_COUNT, F.SC_MEM_CE_CNT_COUNT,
   F.SC_MEM_UE_CNT_COUNT, F.MP_RH_CNT_RFM, F.MP_RH_CNT_THROTTLE, F.MP_CE_CNT_COUNT, F.MP_UE_CNT_COUNT,
   F.MP_PSN_CNT_COUNT, F.LPQ_HEAD_HEAD, F.AGE_BAY_T_TAU, F.AGE_QUAD_T_TAU, F.AGE_CC_T_TAU, F.AGE_SC_T_TAU,
   F.WARP_ERRCNT_FEC_CORR_CNT, F.WARP_ERRCNT_CRC_ERR_CNT, F.WARP_REPLAY_REPLAY_CNT, F.WARP_REPLAY_DOWN_CNT,
   F.WARP_DROP_REED_LATE_CNT, F.WARP_DROP_DROP_CNT, F.TX_FLITS, F.RX_FLITS, F.REED_STAT_BC_DROP_CNT,
   F.REED_DISC_REED_DISC_CNT, F.DCMP_CNT_CNT, F.DCTL_MON, F.MODE_STATE_FENCE_CNT].any (fun g => g.id == f.id)

/-- Copy `i` of register `r` lies at its offset plus `i` strides. -/
def Reg.indexAt (r : Reg) (off : Nat) : Option Nat :=
  if off < r.off then none
  else if r.count ≤ 1 then (if off = r.off then some 0 else none)
  else if (off - r.off) % r.stride = 0 ∧ (off - r.off) / r.stride < r.count then some ((off - r.off) / r.stride) else none

/-- The register of a list that lies at an offset, and which copy. -/
def findReg (rs : List Reg) (off : Nat) : Option (Reg × Nat) :=
  rs.findSome? (fun r => (r.indexAt off).map (fun i => (r, i)))

/-- Copy `i` of a register as a number: each field's value at its place; `val f k` gives copy `k` of field `f`. -/
def Reg.pack (r : Reg) (i : Nat) (val : Field → Nat → Nat) : Nat :=
  r.fields.foldl (fun a f => (List.range f.reps).foldl (fun a j => a + val f (i * f.reps + j) * 2 ^ (f.lo + j * f.step)) a) 0

/-- Applies `g f k bits` to each field copy of a register, with the bits that a written value holds for it. -/
def Reg.unpack (r : Reg) (i v : Nat) (g : Field → Nat → Nat → State → State) (s : State) : State :=
  forL r.fields (fun f s => forN f.reps (fun j s => g f (i * f.reps + j) (bitsOf v (f.lo + j * f.step) f.w) s) s) s

/-- The bits of `v` with the bits of `m` cleared. -/
def clearBits (w v m : Nat) : Nat := v &&& ((2 ^ w - 1) ^^^ (m % 2 ^ w))

/-- The plain effect of writing bits to copy `k` of a field in unit `u` (Table 2.3); `hu` is the header that stages it
and `hw` says that its definition lets software write an HW field. -/
def writeField (hu u : Nat) (hw : Bool) (f : Field) (k bits : Nat) (s : State) : State :=
  match f.acc with
  | .rw => s.setFld f u k bits
  | .w1c => s.setFld f u k (clearBits f.w (s.fld f u k) bits)
  | .w1s => s.setFld f u k (s.fld f u k ||| bits)
  | .rws => s.stage hu f u k bits
  | .hw => if hw then s.setFld f u k bits else s
  | .ro | .wo | .rc => s

/-- Copy `i` of a field returns to its reset value. -/
def State.resetFld (s : State) (f : Field) (u i : Nat) : State := { s with regs := s.regs.set (fkey f u i) 0 }

/-- Every copy of a register's fields of a unit returns to its reset value, but for the fields whose form `keep` holds. -/
def resetReg (keep : Keep → Bool) (u : Nat) (r : Reg) (s : State) : State :=
  forL r.fields (fun f s => if keep f.form then s else forN (max 1 r.count * f.reps) (fun i s => s.resetFld f u i) s) s

end Sys2Proof.Machine
end

