-- ==== Sys2Proof/Machine/Clocks.lean ====
section
/-!
DEFINITION. Clock sources, PLLs, global lines and domain switches (chapter 21, R629 to R637, R640, R641). The failure
of a source is in `Machine/ClockFail.lean`, since it reaches every unit.
-/
namespace Sys2Proof.Machine

/-- A frequency in kHz as a fraction. -/
structure Freq where
  num : Nat
  den : Nat
deriving DecidableEq, Repr, Inhabited

/-- `a` is not above `b`. -/
def Freq.le (a b : Freq) : Bool := a.num * b.den ≤ b.num * a.den

/-- A frequency divided by `n`. -/
def Freq.div (a : Freq) (n : Nat) : Freq := ⟨a.num, a.den * n⟩

/-- Whole kHz, rounded up (R634). -/
def Freq.ceil (a : Freq) : Nat := if a.den = 0 then 0 else (a.num + a.den - 1) / a.den

/-- The line rate of a standard code in kb/s (Table 17.1). -/
def lineRate : Nat → Nat
  | 0 => 1250000 | 1 => 2500000 | 2 => 5000000 | 3 => 8000000 | 4 => 10312500 | 5 => 16000000 | 6 => 25781250
  | 7 => 32000000 | 8 => 53125000 | 9 => 64000000 | 10 => 106250000 | 11 => 134400000 | _ => 0

/-- The quad that supplies quad `q`'s reference (R521). -/
def quadRef (s : State) (q : Nat) : Nat :=
  if s.bit F.QUAD_CFG_REF_SRC q && !(q == 0 || q == 8 || q == 16 || q == 32) then q - 1 else q

/-- The reference frequency of a quad in kHz (R521). -/
def quadRefKhz (s : State) (q : Nat) : Freq := if s.bit F.QUAD_CFG_REF_FREQ q then ⟨156250, 1⟩ else ⟨100000, 1⟩

/-- f_vco of a custom rate (R520). -/
def customVco (s : State) (q mult : Nat) : Freq := ⟨(quadRefKhz s q).num * mult, 65536⟩

/-- The word rate of a lane: its line rate divided by 256 (R519). -/
def laneWordFreq (s : State) (l : Nat) : Freq :=
  let q := l / 4
  let code := s.fld F.LANE_STATUS_RATE_ACT l
  if code = 15 then
    let v := customVco s q (s.fld F.QUAD_CFG_MULT q)
    ⟨v.num * 2 * (1 + s.fld F.QUAD_CFG_CMOD q), v.den * 2 ^ s.fld F.QUAD_CFG_LDIV q * 256⟩
  else ⟨lineRate code, 256⟩

/-- Source `n`, numbered as CLK_GOOD, is judged good. -/
def srcGood (s : State) (n : Nat) : Bool := bitOf (s.fld F.CLK_GOOD_GOOD) n

/-- A lane is ACTIVE (Table 17.2), so that its recovered clock is good (R634). -/
def laneActive (s : State) (l : Nat) : Bool := s.fld F.LANE_STATUS_STATE l == 7

/-- The output of a PLL (R631). -/
def pllOut (ref : Freq) (pre fb post odiv : Nat) : Freq := ⟨ref.num * fb, ref.den * (pre * post * odiv)⟩

/-- The configuration rule of R631, for a reference frequency. -/
def pllValid (ref : Freq) (pre fb post : Nat) : Bool :=
  1 ≤ pre && pre ≤ 8 && 8 ≤ fb && fb ≤ 255 && 1 ≤ post && post ≤ 64 &&
  Freq.le ⟨10000, 1⟩ (ref.div pre) && Freq.le (ref.div pre) ⟨500000, 1⟩ &&
  Freq.le ⟨4000000, 1⟩ ⟨ref.num * fb, ref.den * pre⟩ && Freq.le ⟨ref.num * fb, ref.den * pre⟩ ⟨8000000, 1⟩

/-- The reference of SPLL `n`: SPLL5 is set by hardware (R632). -/
def spllRef (s : State) (n : Nat) : Freq :=
  match s.fld F.SPLL_CFG_REF 0 n with
  | 0 => ⟨50000, 1⟩
  | 1 => ⟨1000000, 1⟩
  | _ => ⟨525000, 1⟩

/-- The reference of FPLL `m`. -/
def fpllRef (s : State) (m : Nat) : Freq :=
  match s.fld F.FPLL_CFG_REF 0 m with
  | 0 => ⟨50000, 1⟩
  | 1 => ⟨1000000, 1⟩
  | _ => laneWordFreq s (s.fld F.FPLL_CFG_LANE 0 m)

/-- ODIV, where 0 means 16 (Table 21.4). -/
def fpllOdiv (s : State) (m : Nat) : Nat := if s.fld F.FPLL_CFG_ODIV 0 m = 0 then 16 else s.fld F.FPLL_CFG_ODIV 0 m

/-- The nominal output of SPLL `n`; SPLL5 runs at 1 GHz (R632). -/
def spllFreq (s : State) (n : Nat) : Freq :=
  if n = 5 then ⟨1000000, 1⟩
  else pllOut (spllRef s n) (s.fld F.SPLL_CFG_PREDIV 0 n) (s.fld F.SPLL_CFG_FBDIV 0 n) (s.fld F.SPLL_CFG_POSTDIV 0 n) 1

/-- The nominal output of FPLL `m`. -/
def fpllFreq (s : State) (m : Nat) : Freq :=
  pllOut (fpllRef s m) (s.fld F.FPLL_CFG_PREDIV 0 m) (s.fld F.FPLL_CFG_FBDIV 0 m) (s.fld F.FPLL_CFG_POSTDIV 0 m) (fpllOdiv s m)

/-- The reference of an SPLL or FPLL, named by its code, is good. -/
def refGood (s : State) (code lane : Nat) : Bool :=
  match code with
  | 0 => srcGood s 0
  | 1 => srcGood s 7
  | _ => laneActive s lane

/-! ### Global lines -/

/-- The source of line 24 + j is good (R634). -/
def glineGood (s : State) (j : Nat) : Bool :=
  s.bit F.GLINE_CFG_EN 0 j &&
  (match s.fld F.GLINE_CFG_SRC 0 j with
   | 0 => laneActive s (s.fld F.GLINE_CFG_LANE 0 j)
   | 2 => srcGood s 7
   | _ => srcGood s 0)

/-- The nominal frequency of line 24 + j. -/
def glineFreq (s : State) (j : Nat) : Freq :=
  match s.fld F.GLINE_CFG_SRC 0 j with
  | 0 => laneWordFreq s (s.fld F.GLINE_CFG_LANE 0 j)
  | 2 => ⟨1000000, 2 ^ min 6 (s.fld F.GLINE_CFG_K 0 j)⟩
  | _ => ⟨50000, 1⟩

/-- Brings CLK_GOOD[35:32] and GLINE_FREQ to the present sources of lines 24 to 27. -/
def glineRefresh (s : State) : State :=
  forN 4 (fun j s => (s.setFlag F.CLK_GOOD_GOOD 0 0 (32 + j) (glineGood s j)).setFld F.GLINE_FREQ_FREQ_KHZ 0 j
    (if glineGood s j then (glineFreq s j).ceil else 0)) s

/-- Global line `l` runs. -/
def lineRuns (s : State) (l : Nat) : Bool := if l < 24 then srcGood s (8 + l) && s.bit F.FPLL_STATUS_LOCK 0 l else l < 28 && srcGood s (8 + l)

/-- FREQ_KHZ of global line `l` (R634). -/
def lineKhz (s : State) (l : Nat) : Nat :=
  if l < 24 then s.fld F.FPLL_STATUS_FREQ_KHZ 0 l else if l < 28 then s.fld F.GLINE_FREQ_FREQ_KHZ 0 (l - 24) else 0

/-- Clock input `k` of bay `b` is bound to a line (R78). -/
def bayBound (s : State) (b k : Nat) : Bool := s.bit F.BAY_CLK_BIND_BOUND b k

/-- The line of a bay's clock input. -/
def bayLine (s : State) (b k : Nat) : Nat := s.fld F.BAY_CLK_BIND_LINE b k

/-- A loaded bay or a loading region binds line `l` (R634). -/
def lineBusy (s : State) (l : Nat) : Bool :=
  s.loadLines.contains l ||
  (List.range 768).any (fun b => s.bit F.BAY_STATUS_LOADED b && (List.range 8).any (fun k => bayBound s b k && bayLine s b k == l))

/-- Clock input `k` of bay `b` delivers edges (R81, R84, R96, R332): bound, enabled, its line running, the bay on and not
frozen, but for the application edge of the boundary that freezes it. -/
def bayClk (s : State) (b k : Nat) : Bool :=
  (!s.frozen.contains b || s.lastEdge.contains (b, k)) && bayBound s b k && bitOf (s.fld F.BAY_CTL_CLK_EN b) k && bayOn s b && lineRuns s (bayLine s b k)

/-! ### Staged values and their own clocks (R24, R35) -/

/-- A staged value in the parts that have a clock each: CLK_EN bit by bit (R35). -/
def ownParts (g : Staged) : List Staged :=
  if g.fld.id = F.BAY_CTL_CLK_EN.id then (List.range 8).map (fun k => { g with i := k, v := ofBool (bitOf g.v k) }) else [g]

/-- The clock of a part runs: the line of its clock input for a bit of CLK_EN (R81), the configuration domain for Heddle, the NoC
domain for the NoC block and the GPIO block. DESIGN CHOICE (log entry 17): a bit of an unbound input, which has no clock, applies at the boundary. -/
def ownClock (s : State) (g : Staged) : Bool :=
  if g.fld.id = F.BAY_CTL_CLK_EN.id then !bayBound s g.u g.i || lineRuns s (bayLine s g.u g.i)
  else if g.hu = 5 then domRuns s 3
  else (g.hu != 7 && g.hu != 11) || domRuns s 0

/-- A part whose boundary has come applies on the next edge of its own clock: at once when that clock runs, else when it does. -/
def ownApply (g : Staged) (s : State) : State :=
  let s1 := { s with owed := s.owed.filter (fun x => !x.isOf g.fld g.u g.i) }
  if !ownClock s g then { s1 with owed := s1.owed ++ [g] }
  else if g.fld.id = F.BAY_CTL_CLK_EN.id then s1.setFlag g.fld g.u 0 g.i (g.v == 1)
  else s1.setFld g.fld g.u g.i g.v

/-- Values whose clock has come back apply. -/
def settleOwed (s : State) : State := forL s.owed ownApply s

/-! ### PLLs -/

/-- A memory port is TRAINING, IN_SERVICE or DRAINING (R632). -/
def memBusy (s : State) : Bool := (List.range 16).any (fun n => [1, 2, 5].contains (s.fld F.MP_STATUS_STATE n))

/-- The source number, as CLK_GOOD, of a domain's source code (Table 21.4); none for code 3. -/
def domSrc (d code : Nat) : Option Nat :=
  match code with
  | 0 => some (if d = 5 then 0 else 2 + d)
  | 1 => some 1
  | 2 => some 0
  | _ => none

/-- The nominal frequency of a domain's source code. -/
def domFreq (s : State) (d code : Nat) : Freq :=
  match code with
  | 0 => if d = 5 then ⟨50000, 1⟩ else spllFreq s d
  | 1 => if d = 5 then ⟨50000, 1⟩ else ⟨400000, 1⟩
  | _ => ⟨50000, 1⟩

/-- A domain's source code is good. -/
def domSrcGood (s : State) (d code : Nat) : Bool :=
  match domSrc d code with | some n => srcGood s n | none => false

/-- A domain is switching from or to SPLL `n` (R637). -/
def spllSwitching (s : State) (n : Nat) : Bool :=
  n < 5 && s.fld F.DOM_STATUS_STATE 0 n == 1 && (s.fld F.DOM_CTL_SRC 0 n == 0 || s.fld F.DOM_STATUS_CUR_SRC 0 n == 0)

/-- A PLL stops: its lock, frequency and good bit fall; a domain that runs from it reads STOPPED (Table 21.4). -/
def pllStop (n : Nat) (s : State) : State :=
  let s1 := s.setFlag F.CLK_GOOD_GOOD 0 0 n false
  if n < 8 then
    let k := n - 2
    let s2 := (s1.clrFld F.SPLL_STATUS_LOCK 0 k).clrFld F.SPLL_STATUS_FREQ_KHZ 0 k
    if k < 5 && s2.fld F.DOM_STATUS_CUR_SRC 0 k == 0 && s2.fld F.DOM_STATUS_STATE 0 k < 3 then
      { (s2.setFld F.DOM_STATUS_STATE 0 k 4).setFld F.DOM_STATUS_CUR_SRC 0 k 3 with domSw := s2.domSw.set k {} }
    else s2
  else (s1.clrFld F.FPLL_STATUS_LOCK 0 (n - 8)).clrFld F.FPLL_STATUS_FREQ_KHZ 0 (n - 8)

/-- A write of SPLLn_CFG (R631, R632, R637). -/
def spllWrite (n v : Nat) (s : State) : State :=
  let en := bitOf v 63
  if n ≥ 5 then s
  else if n = 4 && memBusy s then s.setBit F.CLK_ERR_MEMBUSY
  else if s.bit F.SPLL_CFG_EN 0 n then
    (if en then s else if spllSwitching s n then s.setBit F.CLK_ERR_SWERR
     else pllStop (2 + n) (s.clrFld F.SPLL_CFG_EN 0 n))
  else
    let s1 := (((s.setFld F.SPLL_CFG_REF 0 n (bitsOf v 56 2)).setFld F.SPLL_CFG_POSTDIV 0 n (bitsOf v 40 7)).setFld
      F.SPLL_CFG_FBDIV 0 n (bitsOf v 24 8)).setFld F.SPLL_CFG_PREDIV 0 n (bitsOf v 16 3)
    if !en then s1
    else if bitsOf v 56 2 < 2 && pllValid (spllRef s1 n) (bitsOf v 16 3) (bitsOf v 24 8) (bitsOf v 40 7) then s1.setBit F.SPLL_CFG_EN 0 n
    else s1.setBit F.CLK_ERR_PLLCFG

/-- A write of FPLLm_CFG (R631, R634). -/
def fpllWrite (m v : Nat) (s : State) : State :=
  let en := bitOf v 63
  if lineBusy s m then s.setBit F.CLK_ERR_LINEBUSY
  else if s.bit F.FPLL_CFG_EN 0 m then (if en then s else pllStop (8 + m) (s.clrFld F.FPLL_CFG_EN 0 m))
  else
    let s1 := (((((s.setFld F.FPLL_CFG_REF 0 m (bitsOf v 56 2)).setFld F.FPLL_CFG_LANE 0 m (bitsOf v 48 8)).setFld
      F.FPLL_CFG_POSTDIV 0 m (bitsOf v 40 7)).setFld F.FPLL_CFG_FBDIV 0 m (bitsOf v 24 8)).setFld
      F.FPLL_CFG_PREDIV 0 m (bitsOf v 16 3)).setFld F.FPLL_CFG_ODIV 0 m (bitsOf v 8 4)
    if !en then s1
    else if bitsOf v 56 2 < 3 && pllValid (fpllRef s1 m) (bitsOf v 16 3) (bitsOf v 24 8) (bitsOf v 40 7) then s1.setBit F.FPLL_CFG_EN 0 m
    else s1.setBit F.CLK_ERR_PLLCFG

/-- R631. A write of EN = 1, with the rest of the configuration, to SPLL `n` (or FPLL `n` when `fab`). -/
def execPllEnable (fab : Bool) (n v : Nat) (s : State) : Res :=
  .next (if fab then (if n < 24 then fpllWrite n (withBit v 63 true) s else s) else spllWrite n (withBit v 63 true) s)

/-- R631. A write of EN = 0. -/
def execPllDisable (fab : Bool) (n v : Nat) (s : State) : Res :=
  .next (if fab then (if n < 24 then fpllWrite n (withBit v 63 false) s else s) else spllWrite n (withBit v 63 false) s)

/-! ### Domains -/

/-- A divider field as a number, 0 meaning 32. -/
def ddiv (v : Nat) : Nat := if v = 0 then 32 else v

/-- Changes the switch record of a domain. -/
def State.updSw (s : State) (d : Nat) (w : DomSw) : State := { s with domSw := s.domSw.set d w }

/-- A domain's selection starts to move to DOM_CTL.SRC (R636), or waits for that source (R637). -/
def domStart (d : Nat) (s : State) : State :=
  if domSrcGood s d (s.fld F.DOM_CTL_SRC 0 d) then (s.setFld F.DOM_STATUS_STATE 0 d 1).updSw d { phase := 1 }
  else s.updSw d { s.domSw.get d with waits := true }

/-- A write of DOM_CTL(d) (R632, R635 to R637). -/
def domWrite (d v : Nat) (s : State) : State :=
  let st := s.fld F.DOM_STATUS_STATE 0 d
  if st = 1 then s.setBit F.CLK_ERR_SWERR
  else if d = 4 && memBusy s then s.setBit F.CLK_ERR_MEMBUSY
  else
    let src := bitsOf v 48 2
    let alt := bitsOf v 56 1
    let s1 := s.setFld F.DOM_CTL_ALT_EN 0 d (bitsOf v 63 1)
    let s2 := if d ≥ 4 && alt == 1 then s1 else s1.setFld F.DOM_CTL_ALT 0 d alt
    let s3 := if src = 3 || (d ≥ 4 && src == 2) then s2 else s2.setFld F.DOM_CTL_SRC 0 d src
    let s4 := s3.setFld F.DOM_CTL_DDIV 0 d (bitsOf v 0 5)
    if st < 3 && (s4.fld F.DOM_CTL_SRC 0 d != s4.fld F.DOM_STATUS_CUR_SRC 0 d || s4.fld F.DOM_CTL_DDIV 0 d != s4.fld F.DOM_STATUS_CUR_DDIV 0 d)
    then domStart d s4 else s4.updSw d { s4.domSw.get d with waits := false }

/-- R636. A write of SRC or DDIV of domain `d`, as the whole value of DOM_CTL. -/
def execDomainSwitch (d v : Nat) (s : State) : Res := .next (if d < 6 then domWrite d v s else s)

/-- The smallest divider at which `f` is not above `g`, or 32. -/
def smallestDiv (f g : Freq) : Nat := ((List.range 32).find? (fun k => Freq.le (f.div (k + 1)) g)).getD 31 + 1

/-- A domain's switch ends when its divider is the target (R636). -/
def domSettle (d : Nat) (s : State) : State :=
  if s.fld F.DOM_STATUS_CUR_DDIV 0 d = s.fld F.DOM_CTL_DDIV 0 d then
    (if s.fld F.DOM_STATUS_STATE 0 d = 1 then s.setFld F.DOM_STATUS_STATE 0 d 0 else s).updSw d { s.domSw.get d with phase := 0 }
  else s

/-- R636. A switching domain takes its next divider or multiplexer step. -/
def execDomainSwitchStep (d : Nat) (s : State) : Res :=
  .next (
    let w := s.domSw.get d
    let cur := ddiv (s.fld F.DOM_STATUS_CUR_DDIV 0 d)
    let tgt := ddiv (s.fld F.DOM_CTL_DDIV 0 d)
    let src := s.fld F.DOM_CTL_SRC 0 d
    let old := domFreq s d (s.fld F.DOM_STATUS_CUR_SRC 0 d)
    let new := domFreq s d src
    if d ≥ 6 then s
    else if w.phase = 1 then
      (if cur < 32 && !Freq.le (old.div cur) (new.div tgt) then s.setFld F.DOM_STATUS_CUR_DDIV 0 d (cur + 1)
       else domSettle d (((s.setFld F.DOM_STATUS_CUR_SRC 0 d src).setFld F.DOM_STATUS_CUR_DDIV 0 d (smallestDiv new (old.div cur))).updSw d { w with phase := 3 }))
    else if w.phase = 3 then
      domSettle d (s.setFld F.DOM_STATUS_CUR_DDIV 0 d (if cur < tgt then cur + 1 else if tgt < cur then cur - 1 else cur))
    else s)

/-- A source whose count of R630 can complete: enabled, with a good reference. -/
def srcReady (s : State) (n : Nat) : Bool :=
  if n < 2 then true
  else if n < 7 then s.bit F.SPLL_CFG_EN 0 (n - 2) && refGood s (s.fld F.SPLL_CFG_REF 0 (n - 2)) 0
  else if n = 7 then s.bit F.SPLL_CFG_EN 0 5 && (s.fld F.SPLL_CFG_REF 0 5 == 2 || srcGood s 0)
  else if n < 32 then s.bit F.FPLL_CFG_EN 0 (n - 8) && refGood s (s.fld F.FPLL_CFG_REF 0 (n - 8)) (s.fld F.FPLL_CFG_LANE 0 (n - 8))
  else n < 36 && glineGood s (n - 32)

/-- Hardware sets SPLL5 for its reference (R632): from the crystal, or from the parent lane. -/
def spll5Set (lane : Bool) (s : State) : State :=
  (((((s.setBit F.SPLL_CFG_EN 0 5).setFld F.SPLL_CFG_REF 0 5 (if lane then 2 else 0)).setFld F.SPLL_CFG_PREDIV 0 5 (if lane then 7 else 1)).setFld
    F.SPLL_CFG_FBDIV 0 5 80).setFld F.SPLL_CFG_POSTDIV 0 5 (if lane then 6 else 4))

/-- The timebase enters a state of Table 20.1, with its event (R597, Table 20.7). -/
def tbSet (st : Nat) (s : State) : State :=
  if s.fld F.TB_STATUS_STATE = st then s
  else
    let s1 := s.setFld F.TB_STATUS_STATE 0 0 st
    match st with
    | 2 => s1.setEvt F.TB_EVT_LOCK 0 0 0x041
    | 3 => s1.setEvt F.TB_EVT_HOLD 0 0 0x041
    | 4 => s1.setEvt F.TB_EVT_SLEW 0 0 0x041
    | _ => s1

/-- Power management has stopped a source (R676, R677). -/
def srcStopped (s : State) (n : Nat) : Bool :=
  !s.vin || (match s.dev with
    | .run => false
    | .sleep => (2 ≤ n && n < 6) || (8 ≤ n && n < 32)
    | .deepSleep => n != 0
    | .off => true)

/-- A write of GLINE_CFG(24 + j) (R634). -/
def glineWrite (j v : Nat) (s : State) : State :=
  if lineBusy s (24 + j) then s.setBit F.CLK_ERR_LINEBUSY
  else glineRefresh ((((s.setFld F.GLINE_CFG_EN 0 j (bitsOf v 63 1)).setFld F.GLINE_CFG_SRC 0 j (bitsOf v 56 2)).setFld
    F.GLINE_CFG_LANE 0 j (bitsOf v 48 8)).setFld F.GLINE_CFG_K 0 j (bitsOf v 0 3))

/-- R634. A write of the source of global line `l`. -/
def execGlineCfgWrite (l v : Nat) (s : State) : Res := .next (if 24 ≤ l && l < 28 then glineWrite (l - 24) v s else s)

end Sys2Proof.Machine
end

