-- ==== Sys2Proof/Machine/Cells.lean ====
section
/-!
DEFINITION. Logic cells, clusters and boundary registers (chapter 3, R62 to R68, R73 to R76; frame layouts of Tables 6.2
and R169).
-/
namespace Sys2Proof.Machine

/-- The cluster frame of cluster `c` = 64y + x of bay `b` as one number (R165). -/
def clusterFrame (s : State) (b c : Nat) : Nat := ofBytesLE (s.rdBytes (aFrame b c 0) 256)

/-- The outputs of logic cell `i` from its inputs A to D and its carry input (Tables 3.1 and 3.2): F, S and CO. -/
def lcEval (lc : Nat) (a b c d ci : Bool) : Bool × Bool × Bool :=
  let n := ofBool a + 2 * ofBool b + 4 * ofBool c
  if bitOf lc 16 then
    let p := bitOf lc n
    (p, p != ci, if p then ci else bitOf lc (8 + n))
  else
    let f := bitOf lc (n + 8 * ofBool d)
    (f, f, ci)

/-- Crossbar output `o` of a cluster: its source among F, Q and the cluster input lines (Table 6.2). -/
def xbar (fr f q lines o : Nat) : Bool :=
  let n := bitsOf fr (416 + 7 * o) 7
  if n < 16 then bitOf f n else if n < 32 then bitOf q (n - 16) else if n < 80 then bitOf lines (n - 32) else false

/-- F and S of the 16 cells of a cluster, from a given F, and CO of LC15; `cin` is the carry into LC0. -/
def clusterEval (fr f q lines : Nat) (cin : Bool) : Nat × Nat × Bool :=
  (List.range 16).foldl (fun (acc : Nat × Nat × Bool) i =>
    let lc := bitsOf fr (26 * i) 26
    let x (j : Nat) : Bool := xbar fr f q lines (4 * i + j)
    let ci := match bitsOf lc 24 2 with | 0 => acc.2.2 | 1 => false | 2 => true | _ => x 3
    let o := lcEval lc (x 0) (x 1) (x 2) (x 3) ci
    (acc.1 + ofBool o.1 * 2 ^ i, acc.2.1 + ofBool o.2.1 * 2 ^ i, o.2.2)) (0, 0, cin)

/-- F after `n` rounds of evaluation from all zeros; a cluster without combinational loops settles within 17. -/
def clusterSettle (fr q lines : Nat) (cin : Bool) : Nat → Nat
  | 0 => 0
  | n + 1 => (clusterEval fr (clusterSettle fr q lines cin n) q lines cin).1

/-- Control set `k` of a cluster: clock, and CE and SR from the crossbar (Table 3.3). -/
def ctlClk (fr k : Nat) : Nat := bitsOf fr (892 + 7 * k) 3
def ctlCe (fr f q lines k : Nat) : Bool := !bitOf fr (892 + 7 * k + 3) || xbar fr f q lines (64 + 2 * k)
def ctlSr (fr f q lines k : Nat) : Bool :=
  bitOf fr (892 + 7 * k + 4) && (xbar fr f q lines (65 + 2 * k) != bitOf fr (892 + 7 * k + 5))
def ctlAsync (fr k : Nat) : Bool := bitOf fr (892 + 7 * k + 6)

/-- Q and the synchroniser of one flip-flop after an edge (R64, R65). -/
def ffEdge (fr lc f q ss lines : Nat) (held : Bool) (i : Nat) (wait : Bool) : Bool × Bool :=
  let k := bitsOf lc 19 1
  let sr := bitOf lc 21 && ctlSr fr f q lines k
  let now := bitOf q i
  if held then (bitOf lc 23, sr && ctlAsync fr k)
  else if sr then (bitOf lc 22, ctlAsync fr k)
  else if wait then (now, false)
  else if bitOf lc 20 && !ctlCe fr f q lines k then (now, false)
  else (match bitsOf lc 17 2 with | 1 => bitOf ss i | 2 => xbar fr f q lines (4 * i + 3) | _ => bitOf f i, false)

/-- F of a cluster that settles; DESIGN CHOICE (log entry 49): where the crossbar closes a combinational loop that does not
settle, a free value, for the spec gives none. -/
def clusterF (fr q lines : Nat) (cin : Bool) (s : State) : Nat × State :=
  let f := clusterSettle fr q lines cin 17
  if (clusterEval fr f q lines cin).1 = f then (f, s) else (s.fresh.1.toNat % 2 ^ 16, s.fresh.2)

/-- The carry into the cluster above a column of clusters of bay `b`, of which the first is cluster `c`, with their input lines
(R68): the carry chain of a column starts with `cin` and passes from CO of LC15 to CI of LC0 of the cluster above. -/
def columnCarry (s0 : State) (b c : Nat) (cin : Bool) : List Nat → State → Bool × State
  | [], s => (cin, s)
  | lines :: rest, s =>
    let q := s0.ffs.get (b * 1024 + c)
    let f := clusterF (clusterFrame s0 b c) q lines cin s
    columnCarry s0 b (c + 64) (clusterEval (clusterFrame s0 b c) f.1 q lines cin).2.2 rest f.2

/-- A cluster's flip-flops on clock input `k` take an edge, from the state `s0` before it; with `k` = 8 its asynchronous SR
inputs act without one. -/
def clusterEdge (s0 : State) (b c k lines : Nat) (cin : Bool) (s : State) : State :=
  let fr := clusterFrame s0 b c
  let key := b * 1024 + c
  let q := s0.ffs.get key
  let w := s0.ffWait.get key
  let (fv, s1) := clusterF fr q lines cin s
  let ss := (clusterEval fr fv q lines cin).2.1
  let held := s0.bit F.BAY_STATUS_RST_HELD b
  if held && s0.keepForm.contains b then s else
  let r := (List.range 16).foldl (fun (acc : Nat × Nat) i =>
    let lc := bitsOf fr (26 * i) 26
    let cs := bitsOf lc 19 1
    let o :=
      if k = 8 then (if !held && bitOf lc 21 && ctlAsync fr cs && ctlSr fr fv q lines cs then (bitOf lc 22, true) else (bitOf q i, bitOf w i))
      else if ctlClk fr cs = k then ffEdge fr lc fv q ss lines held i (bitOf w i)
      else (bitOf q i, bitOf w i)
    (acc.1 + ofBool o.1 * 2 ^ i, acc.2 + ofBool o.2 * 2 ^ i)) (0, 0)
  { s1 with ffs := s1.ffs.set key r.1, ffWait := s1.ffWait.set key r.2 }

/-- The flip-flops of a bay on clock input `k` take INIT, and its boundary registers on that input 0 (Table 3.11,
stage 3). -/
def ffResetOn (b k : Nat) (s : State) : State :=
  let s1 := forN 1024 (fun c s =>
    let fr := clusterFrame s b c
    let q := s.ffs.get (b * 1024 + c)
    let q' := (List.range 16).foldl (fun a i =>
      let lc := bitsOf fr (26 * i) 26
      a + ofBool (if ctlClk fr (bitsOf lc 19 1) = k then bitOf lc 23 else bitOf q i) * 2 ^ i) 0
    { s with ffs := s.ffs.set (b * 1024 + c) q' }) s
  forN 32 (fun j s =>
    if bitsOf (ofBytesLE (s.rdBytes (aFrame b (1848 + j / 8) 0) 4)) (4 * (j % 8) + 1) 3 = k
    then { s with bregs := s.bregs.set (b * 32 + j) 0 } else s) s1

/-- The clock input that clocks boundary group `j` = 8 x side + group of a bay (R169). -/
def groupClk (s : State) (b j : Nat) : Nat := bitsOf (ofBytesLE (s.rdBytes (aFrame b (1848 + j / 8) 0) 4)) (4 * (j % 8) + 1) 3

/-- The image of a bay requests boundary group `j` (R169). -/
def groupUse (s : State) (b j : Nat) : Bool := bitOf (ofBytesLE (s.rdBytes (aFrame b (1848 + j / 8) 0) 4)) (4 * (j % 8))

/-- The attach bay of port `p` of GPIO bank `n` (Table 3.10). -/
def gpioBay (n p : Nat) : Nat := if n < 10 then 31 * 24 + 2 * n + 2 + p else 2 * (n - 10) + 2 + p

end Sys2Proof.Machine
end

