-- ==== Sys2Proof/Machine/Slices.lean ====
section
/-!
DEFINITION. Arithmetic slices (chapter 5): configuration, pre-adder, multiplier, accumulator operations, search,
rounding and the coefficient banks.
-/
namespace Sys2Proof.Machine

/-- Bits of slice `k`'s configuration frame in bay `b` (Table 6.4). -/
def slcCfg (s : State) (b k lo w : Nat) : Nat := bitsOf (ofBytesLE (s.rdBytes (aFrame b (1816 + k) 0) 8)) lo w

/-- A code marked reserved is loaded as 0 (R137). -/
def orZero (n v : Nat) : Nat := if v < n then v else 0

/-- The bay clock input of a slice. -/
def slcClk (s : State) (b k : Nat) : Nat := slcCfg s b k 0 3
/-- PREOP. -/
def slcPre (s : State) (b k : Nat) : Nat := orZero 3 (slcCfg s b k 7 2)
/-- SHIFT, at most 32. -/
def slcShift (s : State) (b k : Nat) : Nat := min 32 (slcCfg s b k 24 6)
/-- ZSEL; a cascade across clocks is loaded as zero (R148). -/
def slcZsel (s : State) (b k : Nat) : Nat :=
  let z := slcCfg s b k 18 2
  if z = 1 && k != 0 && slcClk s b k != slcClk s b (k - 1) then 3 else z
/-- SWAPSRC: user logic drives the swap (R152). -/
def slcSwapFabric (s : State) (b k : Nat) : Bool := slcCfg s b k 30 1 == 1

/-- The operations that are in flight at most: INREG + ADREG' + MREG (R157). -/
def slcDepth (s : State) (b k : Nat) : Nat :=
  slcCfg s b k 3 1 + (if slcPre s b k = 0 then 0 else slcCfg s b k 4 1) + slcCfg s b k 5 1

/-- A number of `w` bits as an integer, signed or not. -/
def asInt (sgn : Bool) (w v : Nat) : Int :=
  let v := v % 2 ^ w
  if sgn && bitOf v (w - 1) then (v : Int) - (2 ^ w : Nat) else v

/-- The low `w` bits of an integer. -/
def lowBits (w : Nat) (v : Int) : Nat := (v % ((2 ^ w : Nat) : Int)).toNat

/-- The bounds of a `w`-bit range. -/
def rangeLo (sgn : Bool) (w : Nat) : Int := if sgn then -((2 ^ (w - 1) : Nat) : Int) else 0
def rangeHi (sgn : Bool) (w : Nat) : Int := if sgn then ((2 ^ (w - 1) : Nat) : Int) - 1 else ((2 ^ w : Nat) : Int) - 1

/-- A value brought into a range (saturating or wrapping) and whether it left it (R143, R146). -/
def fitRange (sgn sat : Bool) (w : Nat) (v : Int) : Nat × Bool :=
  let lo := rangeLo sgn w
  let hi := rangeHi sgn w
  if lo ≤ v ∧ v ≤ hi then (lowBits w v, false)
  else (if sat then lowBits w (if v < lo then lo else hi) else lowBits w v, true)

/-- The pre-adder (R140): X and PRE_OV. -/
def preAdd (pre : Nat) (sgn : Bool) (a d : Nat) : Int × Bool :=
  let v := match pre with
    | 1 => asInt sgn 24 a + asInt sgn 24 d
    | 2 => asInt sgn 24 a - asInt sgn 24 d
    | _ => asInt sgn 24 a
  if v < rangeLo sgn 24 then (rangeLo sgn 24, true) else if rangeHi sgn 24 < v then (rangeHi sgn 24, true) else (v, false)

/-- The operation that a slice samples (R138, R140 to R142, R150). -/
def slcSample (s : State) (b k : Nat) (x : SliceIn) : SliceOp :=
  let xs := slcCfg s b k 9 1 == 1
  let ks := slcCfg s b k 10 1 == 1
  let (xv, ov) := preAdd (slcPre s b k) xs x.a x.d
  let bank := ofBool (bitOf (s.fld F.BAY_COEF_ACT_ACT b) k)
  let kv := if slcCfg s b k 11 1 = 1 then (s.slices.get (b * 32 + k)).coef.get (bank * 16 + x.caddr % 16) else x.b
  { m := xv * asInt ks 24 kv, preOv := ov, c := x.c % 2 ^ 56,
    op := orZero 10 (if slcCfg s b k 13 1 = 1 then x.opIn % 16 else slcCfg s b k 14 4), first := x.first }

/-- The search operations (R144, R145): whether `v` replaces the accumulator. DESIGN CHOICE (log entry 50): a product below 0 under
ASGN = 0, which R144 leaves out, is compared as the integer it is and stored modulo 2^56 with OVF 0. -/
def slcSearch (v : Slice) (sgn : Bool) (o : SliceOp) : Slice :=
  let x := if o.op < 8 then o.m else asInt sgn 56 o.c
  if o.first then { v with acc := lowBits 56 x, idx := 0, idxCnt := 1, idxOvf := false, ovf := false }
  else
    let a := asInt sgn 56 v.acc
    let ovf := v.idxOvf || v.idxCnt == 0xFFFF
    let better := if o.op % 2 = 0 then x < a else a < x
    { v with acc := if better then lowBits 56 x else v.acc, idx := if better then v.idxCnt else v.idx,
             idxCnt := if v.idxCnt < 0xFFFF then v.idxCnt + 1 else v.idxCnt, idxOvf := ovf, ovf := false }

/-- The accumulator after an operation (R142 to R145); `cas` is the predecessor's accumulator before the edge. -/
def slcAccumulate (s : State) (b k : Nat) (cas : Nat) (v : Slice) (o : SliceOp) : Slice :=
  let sgn := slcCfg s b k 12 1 == 1
  let z : Int := if o.first then 0 else match slcZsel s b k with
    | 0 => asInt sgn 56 v.acc | 1 => asInt sgn 56 cas | 2 => asInt sgn 56 o.c | _ => 0
  let put (t : Int) : Slice :=
    let (a, ov) := fitRange sgn (slcCfg s b k 20 1 == 1) 56 t
    { v with acc := a, ovf := ov }
  match o.op with
  | 1 => put o.m
  | 2 => put (z + o.m)
  | 3 => put (z - o.m)
  | 4 => put (z + asInt sgn 56 o.c)
  | 5 => put (z - asInt sgn 56 o.c)
  | 0 => { v with ovf := false }
  | _ => slcSearch v sgn o

/-- Rounding (R146): mode 0 TRUNC, 1 HALF_UP, 2 CONV. -/
def roundShift (rnd sh : Nat) (v : Int) : Int :=
  let p : Int := ((2 ^ sh : Nat) : Int)
  let q := v / p
  let r := v - q * p
  if sh = 0 then v
  else if rnd = 1 then (if p ≤ 2 * r then q + 1 else q)
  else if rnd = 2 then (if p < 2 * r ∨ (p = 2 * r ∧ q % 2 = 1) then q + 1 else q)
  else q

/-- Y and YOV from the accumulator (R146). -/
def slcY (s : State) (b k acc : Nat) : Nat × Bool :=
  let sgn := slcCfg s b k 12 1 == 1
  fitRange sgn (slcCfg s b k 21 1 == 1) 24 (roundShift (orZero 3 (slcCfg s b k 22 2)) (slcShift s b k) (asInt sgn 56 acc))

/-- One edge of slice `k` of bay `b` with CE = 1 (R139, R155, R157): the sampled operation enters, and the oldest one
reaches the accumulator when the pipeline is full. `s0` is the bay before the edge. DESIGN CHOICE (log entry 50): while stage 2 is
held, an operation that reaches the accumulator is dropped, and OVF, PRE_OV and YOV keep their values as the accumulator does. -/
def slcEdge (s0 : State) (b k : Nat) (x : SliceIn) (s : State) : State :=
  let v := s0.slices.get (b * 32 + k)
  let q := v.pipe ++ [slcSample s0 b k x]
  let held := s0.bit F.BAY_STATUS_WE_HELD b
  let yreg := slcCfg s0 b k 6 1 == 1
  let v0 : Slice := if yreg then { v with y := v.yNext.1, yov := v.yNext.2 } else v
  match q with
  | o :: rest =>
    if q.length ≤ slcDepth s0 b k then { s with slices := s.slices.set (b * 32 + k) { v0 with pipe := q } }
    else
      let cas := if k = 0 then 0 else (s0.slices.get (b * 32 + k - 1)).acc
      let v1 := if held then v0 else { slcAccumulate s0 b k cas v0 o with preOv := o.preOv }
      let yy := if held || o.op = 0 then (if yreg then v.yNext else (v.y, v.yov)) else slcY s0 b k v1.acc
      let v2 : Slice := if yreg then { v1 with pipe := rest, yNext := yy } else { v1 with pipe := rest, y := yy.1, yov := yy.2, yNext := yy }
      let s1 := { s with slices := s.slices.set (b * 32 + k) v2 }
      let s2 := if !held && v1.ovf then s1.setFlag F.BAY_SLICE_FLAG_OVF b 0 k else s1
      if !held && o.op != 0 && yy.2 then s2.setFlag F.BAY_SLICE_FLAG_YOV b 0 k else s2
  | [] => s

/-- What a slice shows user logic: flags OVF, PRE_OV, IDX_OVF, YOV from bit 0 (Table 5.2). -/
def slcShow (b k : Nat) (s : State) : State :=
  let v := s.slices.get (b * 32 + k)
  s.emit (.sliceOut b k v.y v.acc v.idx (ofBool v.ovf + 2 * ofBool v.preOv + 4 * ofBool v.idxOvf + 8 * ofBool v.yov))

/-- The banks of slice `k` of bay `b` take a boundary (R151 to R153): a request of the fabric toggles, else the bank
follows BAY_COEF_SEL. -/
def slcBoundary (b k : Nat) (s : State) : State :=
  let act := bitOf (s.fld F.BAY_COEF_ACT_ACT b) k
  if slcSwapFabric s b k then
    (if bitOf (s.fld F.BAY_COEF_ACT_PEND b) k then
      (s.setFlag F.BAY_COEF_ACT_ACT b 0 k (!act)).setFlag F.BAY_COEF_ACT_PEND b 0 k false
     else s)
  else s.setFlag F.BAY_COEF_ACT_ACT b 0 k (bitOf (s.fld F.BAY_COEF_SEL_SEL b) k)

/-- Stage 3 of a hold in a slice (R155): pipeline registers of 0 are operations on zero operands, under the static operation code
when OPSRC is 0. -/
def slcReset (b k : Nat) (s : State) : State :=
  let o : SliceOp := { op := if slcCfg s b k 13 1 = 1 then 0 else orZero 10 (slcCfg s b k 14 4) }
  let s1 := { s with slices := s.slices.upd (b * 32 + k) (fun v => { coef := v.coef, pipe := List.replicate (slcDepth s b k) o }) }
  let s2 := s1.setFlag F.BAY_COEF_ACT_PEND b 0 k false
  if slcSwapFabric s b k then s2.setFlag F.BAY_COEF_ACT_ACT b 0 k false else s2

/-- Stage 3 of a hold in the slices of a bay whose clock input `k` delivers it. -/
def slcResetOn (b k : Nat) (s : State) : State := forN 32 (fun i s => if slcClk s b i = k then slcReset b i s else s) s

/-- The slices of a bay on clock input `k` take a boundary. -/
def slcBoundaryOn (b k : Nat) (s : State) : State := forN 32 (fun i s => if slcClk s b i = k then slcBoundary b i s else s) s

/-- Something waits for the first delivered edge of clock input `k` of bay `b`. -/
def edgeOwed (s : State) (b k : Nat) : Bool :=
  bitOf (s.missed.get b) k || !bitOf (s.missed.get b) (8 + k) || (k == 0 && bitOf (s.missed.get b) 16)

/-- What clock input `k` of bay `b` takes on its first delivered edge (R94, R153): a boundary that passed, and stage 3 of
a hold, while it was stopped or unbound, and for RUN the release of stage 3. DESIGN CHOICE (log entry 19): an edge that delivers
both the hold and the release of stage 3 acts on the reset state. -/
def bayFirstEdge (b k : Nat) (s : State) : State :=
  let m := s.missed.get b
  let s1 := if bitOf m (8 + k) then s else ffResetOn b k (slcResetOn b k s)
  let s2 := if bitOf m k then slcBoundaryOn b k s1 else s1
  if edgeOwed s b k then
    { s2 with missed := s2.missed.set b (withBit (withBit (if k = 0 then withBit m 16 false else m) k false) (8 + k) true) }
  else s2

/-- R142. An edge of clock input `k` of bay `b`: every slice on that input samples its inputs, all from the state before
the edge (R149). -/
def execSliceOperation (b k : Nat) (xs : List SliceIn) (s : State) : Res :=
  .next (if b < 768 && k < 8 && bayClk s b k && !s.bit F.BAY_STATUS_RST_HELD b then
    let s0 := bayFirstEdge b k s
    forN 32 (fun i s1 =>
      let x := xs.getD i {}
      if slcClk s0 b i = k && x.ce then slcShow b i (slcEdge s0 b i x s1) else s1) s0
  else s)

/-- R150. A sampled CW_EN writes an entry of the bank that is standby after the edge. -/
def execSliceCoefWrite (b k addr data : Nat) (s : State) : Res :=
  .next (if b < 768 && k < 32 && bayClk s b (slcClk s b k) then
    let s1 := bayFirstEdge b (slcClk s b k) s
    let bank := ofBool (!bitOf (s1.fld F.BAY_COEF_ACT_ACT b) k)
    if s.bit F.BAY_STATUS_WE_HELD b then s1
    else { s1 with slices := s1.slices.upd (b * 32 + k) (fun v => { v with coef := v.coef.set (bank * 16 + addr % 16) (data % 2 ^ 24) }) }
  else s)

/-- R152. A sampled SWAP_REQ sets the slice's pending request, when SWAPSRC is 1. -/
def execSliceSwapReq (b k : Nat) (s : State) : Res :=
  .next (if b < 768 && k < 32 && bayClk s b (slcClk s b k) then
    let s1 := bayFirstEdge b (slcClk s b k) s
    if !s.bit F.BAY_STATUS_WE_HELD b && slcSwapFabric s b k then s1.setFlag F.BAY_COEF_ACT_PEND b 0 k else s1
  else s)

/-- A slice configuration frame has been written: both banks take COEF0 and COEF1 (R168). -/
def slcLoadCoefs (b k : Nat) (s : State) : State :=
  let c : SMap Nat := (List.range 32).foldl (fun m i =>
    m.set i (ofBytesLE (s.rdBytes (aFrame b (1816 + k) (8 + 3 * i)) 3))) {}
  { s with slices := s.slices.upd (b * 32 + k) (fun v => { v with coef := c }) }

end Sys2Proof.Machine
end

