-- ==== Sys2Proof/Machine/Noc.lean ====
section
/-!
DEFINITION. The on-chip network (chapter 14): target units of an address, routes, the building of requests and
responses, and the probes. The commands that move packets are in `Machine/NocServe.lean`.
-/
namespace Sys2Proof.Machine

/-- A target unit (R409), by Table 1.5. -/
inductive Target where
  | dram (n : Nat)
  | spad (b : Nat)
  | sc (n : Nat)
  | bay (i : Nat)
  | csr
  | unmapped
deriving DecidableEq, Repr

/-- The target unit of a 52-bit local address (R26). -/
def targetOf (a : Nat) : Target :=
  if a < 2 ^ 51 then .dram (a / 2 ^ 41 % 16)
  else if 0x8_0000_0000_0000 ≤ a ∧ a < 0x8_0000_0800_0000 then .spad (a / 0x20_0000 % 64)
  else if 0x8_0001_0000_0000 ≤ a ∧ a < 0x8_0001_0180_0000 then .sc (a / 0x4_0000 % 128)
  else if 0x8_0002_0000_0000 ≤ a ∧ a < 0x8_0002_3000_0000 then .bay (a / 0x10_0000 % 1024)
  else if 0x8_00F0_0000_0000 ≤ a ∧ a < 0x8_00F0_4000_0000 then .csr
  else .unmapped

/-- The key ID bits of a DRAM address (R26). -/
def keyBits (a : Nat) : Nat := if a < 2 ^ 51 then a / 2 ^ 45 % 64 else 0

/-- A DRAM address's place: memory port and offset in the port (R26). -/
def dramPort (a : Nat) : Nat := a / 2 ^ 41 % 16
def dramOff (a : Nat) : Nat := a % 2 ^ 41

/-! ### Routers and routes (R14 to R16, R308, R403) -/

/-- A router number: 8k + j for BR(k, j), 64 + ring position for a selvage router (R425). -/
abbrev Router := Nat

/-- Ring position (R16, R308): SRS0-7 at 0-7, SRE0-7 at 8-15, SRN7-0 at 16-23, SRW7-0 at 24-31. -/
def posSRS (k : Nat) : Nat := k
def posSRE (j : Nat) : Nat := 8 + j
def posSRN (k : Nat) : Nat := 16 + (7 - k)
def posSRW (j : Nat) : Nat := 24 + (7 - j)

/-- Distance on the ring of 32. -/
def ringDist (p q : Nat) : Nat := min ((p + 32 - q) % 32) ((q + 32 - p) % 32)

/-- The router of bay `i` (R14). -/
def bayRouter (i : Nat) : Router := (i % 24 / 3) * 8 + i / 24 / 4

/-- The router of quad `q` (Table 1.2). -/
def quadRouter (q : Nat) : Router :=
  64 + (if q < 8 then posSRS q else if q < 16 then posSRN (q - 8) else if q < 32 then posSRW ((q - 16) / 2)
    else posSRE ((q - 32) / 2))

/-- The router of a target unit (Tables 1.2, 14.1); SRS4 for the CSR space. -/
def targetRouter : Target → Router
  | .dram n => 64 + (if n < 8 then posSRW n else posSRE (n - 8))
  | .spad b => 64 + (if b < 32 then posSRW (b / 4) else posSRE ((b - 32) / 4))
  | .sc n => 64 + (if n < 48 then posSRW (n / 6) else posSRE ((n - 48) / 6))
  | .bay i => bayRouter i
  | .csr => 64 + posSRS 4
  | .unmapped => 64 + posSRS 4

/-- The router of an initiator (Tables 1.2, 14.1, 14.5). -/
def initRouter (init : Nat) : Router :=
  if init < 0x300 then bayRouter init
  else if init < 0x304 then 64 + posSRS 3
  else if init < 0x308 then 64 + posSRS 4
  else if init < 0x310 then 64
  else if init < 0x370 then targetRouter (.sc (init - 0x310))
  else if init < 0x400 then 64 + posSRS 0
  else if init < 0x4C0 then quadRouter ((init - 0x400) / 4)
  else if init = 0x4C0 then 64 + posSRS 3
  else 64 + posSRS 4

/-- Where a packet for `dst` leaves a column from BR(k, j): true through SRS_k (R403). -/
def exitSouth (k j : Nat) (dst : Router) : Bool :=
  if dst ≥ 64 then (j + 1) + ringDist (posSRS k) (dst - 64) ≤ (8 - j) + ringDist (posSRN k) (dst - 64)
  else
    let k' := dst / 8
    let j' := dst % 8
    let cost (so si : Bool) : Nat := (if so then j + 1 else 8 - j) +
      ringDist (if so then posSRS k else posSRN k) (if si then posSRS k' else posSRN k') + (if si then j' + 1 else 8 - j')
    min (cost true true) (cost true false) ≤ min (cost false true) (cost false false)

/-- Where a packet from `src` enters the column of BR(k', j'): true through SRS_k' (R403). -/
def enterSouth (src : Router) (k' j' : Nat) : Bool :=
  if src ≥ 64 then exitSouth k' j' src
  else
    let k := src / 8
    let j := src % 8
    let so := exitSouth k j (k' * 8 + j')
    let base (si : Bool) : Nat := ringDist (if so then posSRS k else posSRN k) (if si then posSRS k' else posSRN k') +
      (if si then j' + 1 else 8 - j')
    base true ≤ base false

/-- The routers from BR(k, j), itself left out, to the south or north end of its column and the selvage router there. -/
def colPath (k j : Nat) (south : Bool) : List Router :=
  if south then (List.range j).map (fun i => k * 8 + (j - 1 - i)) ++ [64 + posSRS k]
  else (List.range (7 - j)).map (fun i => k * 8 + (j + 1 + i)) ++ [64 + posSRN k]

/-- The ring routers after position `p` up to position `q`, ascending or descending. -/
def ringPath (p q : Nat) (up : Bool) : List Router :=
  if up then (List.range ((q + 32 - p) % 32)).map (fun i => 64 + (p + 1 + i) % 32)
  else (List.range ((p + 32 - q) % 32)).map (fun i => 64 + (p + 63 - i) % 32)

/-- The ring part of a route (R403): the shorter way, ascending at distance 16; the other way where a router inside it is
out of service (R405). -/
def ringLeg (out : List Router) (p q : Nat) : List Router :=
  let up := (q + 32 - p) % 32 ≤ 16
  let d := ringPath p q up
  if d.dropLast.any (fun r => out.contains r) then ringPath p q !up else d

/-- The end of a column that a route takes, `south` by the rule; the other one where its way is out of service (R405).
The router at the column's end counts unless it is the packet's destination or source. -/
def colEnd (out : List Router) (k j : Nat) (south : Bool) (other : Router) : Bool :=
  if (colPath k j south).any (fun r => out.contains r && r != other) then !south else south

/-- The routers of a route after its source, the destination last (R403, R405). -/
def routePath (out : List Router) (src dst : Router) : List Router :=
  if src = dst then []
  else if 64 ≤ src ∧ 64 ≤ dst then ringLeg out (src - 64) (dst - 64)
  else if src < 64 ∧ 64 ≤ dst then
    let so := colEnd out (src / 8) (src % 8) (exitSouth (src / 8) (src % 8) dst) dst
    colPath (src / 8) (src % 8) so ++ ringLeg out (if so then posSRS (src / 8) else posSRN (src / 8)) (dst - 64)
  else if 64 ≤ src then
    let si := colEnd out (dst / 8) (dst % 8) (enterSouth src (dst / 8) (dst % 8)) src
    let e := if si then posSRS (dst / 8) else posSRN (dst / 8)
    ringLeg out (src - 64) e ++ (colPath (dst / 8) (dst % 8) si).dropLast.reverse ++ [dst]
  else
    let k := src / 8
    let j := src % 8
    let k' := dst / 8
    let j' := dst % 8
    let direct := if j < j' then (List.range (j' - j)).map (fun i => k * 8 + j + 1 + i) else (List.range (j - j')).map (fun i => k * 8 + j - 1 - i)
    if k = k' ∧ !direct.dropLast.any (fun r => out.contains r) then direct
    else
      let so := if k = k' then decide (j < j') else colEnd out k j (exitSouth k j dst) dst
      let si := if k = k' then decide (j' < j) else colEnd out k' j' (enterSouth src k' j') src
      let x := if so then posSRS k else posSRN k
      let e := if si then posSRS k' else posSRN k'
      colPath k j so ++ ringLeg out x e ++ (colPath k' j' si).dropLast.reverse ++ [dst]

/-- The router after `r` on a route; `r` itself at its end. -/
def nextHop (out : List Router) (src dst r : Router) : Router :=
  if r = src then ((routePath out src dst).head?).getD r
  else (((routePath out src dst).dropWhile (fun x => x != r)).drop 1).head?.getD r

/-- The port of a router that leads to a neighbour (R425): 12 south and 13 north on a bay router; 0 lower, 1 higher ring
position and 2 the loom on a selvage router. -/
def linkPort (r nb : Router) : Nat :=
  if r < 64 then (if nb = 64 + posSRS (r / 8) ∨ (nb < 64 ∧ nb < r) then 12 else 13)
  else if nb < 64 then 2
  else if nb - 64 = (r - 64 + 1) % 32 then 1 else 0

/-- The port of a bay at its router: the bays of a router in linear order (R425). -/
def bayPort (i : Nat) : Nat := i / 24 % 4 * 3 + i % 24 % 3

/-- The port of a quad at its router (Table 1.2). -/
def quadPort (q : Nat) : Nat := if q < 16 then 3 else 14 + q % 2

/-- The port of a target unit at its router (R425, Table 1.2). -/
def targetPort : Target → Nat
  | .dram _ => 3
  | .spad b => 4 + b % 4
  | .sc n => 8 + n % 6
  | .bay i => bayPort i
  | .csr => 4
  | .unmapped => 4

/-- The port of an initiator at its router. -/
def initPort (init : Nat) : Nat :=
  if init < 0x300 then bayPort init
  else if 0x310 ≤ init ∧ init < 0x370 then 8 + (init - 0x310) % 6
  else if 0x400 ≤ init ∧ init < 0x4C0 then quadPort ((init - 0x400) / 4)
  else 4

/-! ### Packets -/

/-- Opcodes of Table 14.3. -/
def opREAD : Nat := 1
def opWRITE : Nat := 2
def opMWRITE : Nat := 3
def opATOMIC : Nat := 4
def opRDRESP : Nat := 8
def opWRRESP : Nat := 9
def opATRESP : Nat := 10

/-- Error codes of Table 14.6. -/
def eUNMAPPED : Nat := 1
def eACCESS : Nat := 2
def eTIMEOUT : Nat := 3
def eNOROUTE : Nat := 4
def eKEYCONFLICT : Nat := 5
def eINTEG : Nat := 6
def eBLOCKED : Nat := 7
def eFROZEN : Nat := 8
def eOFFLINE : Nat := 9

/-- The class of an initiator's requests (Table 14.5). -/
def initClass (init : Nat) : Nat :=
  if init < 0x3C0 then 0 else if init = 0x4C3 then 3 else 1

/-- The target unit of a request as a number, for the ordering rule of R412: the device and the unit. -/
def targetKey (p : Packet) : Nat :=
  p.dev * 0x10000 + (match targetOf p.addr with
    | .dram n => n | .spad b => 0x100 + b | .sc n => 0x200 + n | .bay i => 0x400 + i | .csr => 0x800 | .unmapped => 0x900)

/-- A request of Table 14.3 that keeps its rules (R409): a known opcode, sizes, and bytes in one target unit. -/
def packetOk (p : Packet) : Bool :=
  (p.opc == opREAD || p.opc == opWRITE || (p.opc == opMWRITE && p.len == 63 && p.addr % 64 == 0) ||
    (p.opc == opATOMIC && p.len == 7 && p.addr % 8 == 0 && p.atop < 3)) &&
  targetOf p.addr == targetOf (p.addr + p.len)

/-- How many flits a packet takes (R407, R408). -/
def flitsOf (p : Packet) : Nat :=
  if p.opc = opREAD ∨ p.opc = opWRRESP ∨ p.status ≠ 0 then 1
  else if p.opc = opMWRITE ∨ p.opc = opATOMIC ∨ p.opc = opATRESP then 2
  else 1 + ((p.addr + p.len) / 64 - p.addr / 64 + 1)

/-- An initiator forms a request (R407, R415); it waits at the initiator until NOC_REQUEST_ISSUE. -/
def State.request (s : State) (init dev addr opc : Nat) (len : Nat) (data : List Byte) (why : Purpose)
    (keyid : Nat := 0) (atop : Nat := 0) (mask : Nat := 0) (pmask : Nat := 0) (relaxed : Bool := false) : State :=
  let p : Packet := { opc := opc, len := len, addr := addr, dev := dev, srcdev := s.fld F.DEV_ID, init := init,
                      keyid := keyid, cls := if relaxed then 1 else initClass init,
                      prio := s.fld F.NOC_INITCFG_PRIO 0 init, atop := atop, mask := mask, pmask := pmask, data := data }
  { s with reqs := s.reqs ++ [{ pkt := p, why := why, target := targetKey p }] }

/-- Requests of initiator `i` that are not answered. -/
def outstanding (s : State) (i : Nat) : List Req := s.reqs.filter (fun r => r.pkt.init == i && r.phase < 2)

/-- The opcode of the response to a request. -/
def respOpc (opc : Nat) : Nat := if opc = opREAD then opRDRESP else if opc = opATOMIC then opATRESP else opWRRESP

/-- Whether a hop stands at a target unit, waiting to be served. -/
def Hop.atTarget (h : Hop) (t : Target) : Bool := h.arrived && h.pkt.opc < 8 && targetOf h.pkt.addr == t

/-- The first request that waits at a target, and the state without it. -/
def State.takeArrived (s : State) (t : Target) : Option (Packet × State) :=
  match s.hops.find? (·.atTarget t) with
  | some h => some (h.pkt, { s with hops := s.hops.erase h })
  | none => none

/-! ### Probes (R425 to R429) -/

/-- The data bytes a packet counts for PBYTES: LEN + 1 when it carries data. -/
def carries (p : Packet) : Bool := flitsOf p > 1

/-- Whether probe `k` matches a packet at a port of a router in a direction (R425, R426). -/
def probeMatch (s : State) (k r port dir : Nat) (p : Packet) : Bool :=
  s.bit F.PROBE_CTL_EN 0 k && s.fld F.PROBE_CTL_ROUTER 0 k == r && s.fld F.PROBE_CTL_PORT 0 k == port &&
  s.fld F.PROBE_CTL_DIR 0 k == dir && bitOf (s.fld F.PROBE_CTL_OPCMASK 0 k) p.opc &&
  bitOf (s.fld F.PROBE_CTL_CLSMASK 0 k) p.cls &&
  (p.init &&& s.fld F.PROBE_INIT_IMASK 0 k) == (s.fld F.PROBE_INIT_IMATCH 0 k &&& s.fld F.PROBE_INIT_IMASK 0 k) &&
  s.fld F.PROBE_ALO_ALO 0 k ≤ p.addr && p.addr ≤ s.fld F.PROBE_AHI_AHI 0 k &&
  (!s.bit F.PROBE_CTL_ERRONLY 0 k || p.status != 0) && (!s.bit F.PROBE_CTL_PSNONLY 0 k || p.pmask != 0)

/-- The header of a packet as the 16 bytes of Table 14.2. -/
def headerBits (p : Packet) : Nat :=
  p.opc + p.len * 2 ^ 4 + p.addr * 2 ^ 12 + p.dev * 2 ^ 64 + p.srcdev * 2 ^ 73 + p.init * 2 ^ 82 + p.tag * 2 ^ 94 +
  p.keyid * 2 ^ 102 + p.pmask * 2 ^ 108 + p.cls * 2 ^ 113 + p.prio * 2 ^ 115 + p.status * 2 ^ 117 + p.atop * 2 ^ 125 +
  ofBool p.tgen * 2 ^ 127

/-- A trace record (R428). -/
def traceRecord (s : State) (k : Nat) (p : Packet) : List Byte :=
  bytesLE 16 (headerBits p) ++ bytesLE 8 (s.now % 2 ^ 64) ++ bytesLE 1 k ++ bytesLE 7 0

/-- Every probe observes a packet at a port (R426, R428). -/
def probeAll (r port dir : Nat) (p : Packet) (s : State) : State :=
  forN 32 (fun k s =>
    if probeMatch s k r port dir p then
      let s1 := s.bumpWrap F.PCOUNT_COUNT 0 k
      let s2 := if carries p then s1.bumpWrap F.PBYTES_COUNT 0 k (p.len + 1) else s1
      if s2.bit F.PROBE_CTL_TRACE 0 k then
        (if s2.traceQ.length ≥ 64 then s2.bump F.TRACE_DROP_COUNT
         else { s2 with traceQ := s2.traceQ ++ [traceRecord s2 k p] })
      else s2
    else s) s

/-! ### Entering the network (R28, R30, R567, R585) -/

/-- The warp port by which packets for device `d` leave (R585): the (d mod k)-th of the k set bits of PORTS. -/
def exitPort (s : State) (d : Nat) : Option Nat :=
  let ps := (List.range 12).filter (fun p => bitOf (s.fld F.WARP_RT_PORTS 0 d) p)
  if s.bit F.WARP_RT_VALID 0 d then ps[d % ps.length]? else none

/-- The device that a packet goes to. -/
def packetDev (p : Packet) : Nat := if p.opc < 8 then p.dev else p.srcdev

/-- The router at which a packet leaves the network of this device; none where no route to its device exists. -/
def packetRouter (s : State) (p : Packet) : Option Router :=
  if packetDev p = s.fld F.DEV_ID then some (if p.opc < 8 then targetRouter (targetOf p.addr) else initRouter p.init)
  else (exitPort s (packetDev p)).map (fun w => quadRouter (s.fld F.WARP_CFG_QUAD w))

/-- The port of its last router by which a packet leaves the network of this device. -/
def packetPort (s : State) (p : Packet) : Nat :=
  if packetDev p = s.fld F.DEV_ID then (if p.opc < 8 then targetPort (targetOf p.addr) else initPort p.init)
  else match exitPort s (packetDev p) with
    | some w => quadPort (s.fld F.WARP_CFG_QUAD w)
    | none => 16

/-- The response to a request; DEV names the device it goes to (Table 14.2). -/
def responseTo (p : Packet) (status : Nat) (data : List Byte) (pmask : Nat) : Packet :=
  { p with opc := respOpc p.opc, dev := p.srcdev, cls := 2, status := status, mask := 0,
           data := if status = 0 then data else [], pmask := if status = 0 then pmask else 0 }

/-- A router refuses a request with an error response of its own. -/
def State.refuse (s : State) (r : Router) (p : Packet) (status : Nat) : State :=
  let q := responseTo p status [] 0
  match packetRouter s q with
  | some d => { s with hops := s.hops ++ [{ pkt := q, at_ := r, src := r, dst := d, inp := 1024 + 16 }] }
  | none => s

/-- A packet enters the network from a unit at a port of router `r`: an address outside Table 1.5 and a device without a
route are refused there. A response that finds its input full stands at its unit until the flits before it have left (R402): it
follows them in the list (log entry 51). -/
def State.enter (s : State) (r port : Nat) (p : Packet) : State :=
  let s1 := probeAll r port 0 p s
  if p.opc < 8 && p.dev == s.fld F.DEV_ID && targetOf p.addr == .unmapped then s1.refuse r p eUNMAPPED
  else match packetRouter s p with
    | some d => { s1 with hops := s1.hops ++ [{ pkt := p, at_ := r, src := r, dst := d, inp := 1024 + port }] }
    | none => if p.opc < 8 then s1.refuse r p eNOROUTE else s1

/-- A target answers a request (R409, R415): the response enters the target's router in class RESPONSE. -/
def State.respond (s : State) (p : Packet) (status : Nat) (data : List Byte := []) (pmask : Nat := 0) : State :=
  let t := targetOf p.addr
  s.enter (targetRouter t) (targetPort t) (responseTo p status data pmask)

/-- The flits of a class that wait at an input of a router. -/
def inputFill (s : State) (r inp cls : Nat) : Nat :=
  ((s.hops.filter (fun h => !h.arrived && h.at_ == r && h.inp == inp && h.pkt.cls == cls)).map (fun h => flitsOf h.pkt)).foldl (· + ·) 0

/-- An input of a router has room for a packet in its class: it holds 8 flits (R402). -/
def inputRoom (s : State) (r inp : Nat) (p : Packet) : Bool := inputFill s r inp p.cls + flitsOf p ≤ 8

/-- The input of an initiator at its first router, which the units of a port share, has room for a request (R402). -/
def portRoom (s : State) (p : Packet) : Bool := inputRoom s (initRouter p.init) (1024 + initPort p.init) p

/-- The data of a packet with the bytes of poisoned flits undefined (R6, R85, R418): free bytes in their place. -/
def freePoison (p : Packet) (pm : Nat) (d : List Byte) (s : State) : List Byte × State :=
  let base := if p.opc = opATOMIC then 0 else p.addr % 64
  if pm = 0 then (d, s)
  else
    let (f, s1) := s.freshBytes d.length
    (d.zipIdx.map (fun e => if bitOf pm ((base + e.2) / 64) then f.getD e.2 0 else e.1), s1)

/-- The timer exponent of an initiator: 0 disables it, 1 to 7 act as 8 (R422). -/
def timerExp (s : State) (init : Nat) : Nat :=
  let e := s.fld F.NOC_INITCFG_TO_EXP 0 init
  if e = 0 then 0 else max 8 e

/-- A TIMEOUT is counted, and the first one recorded (R422). -/
def logTimeout (p : Packet) (s : State) : State :=
  let s1 := irqEdge 0x043 (s.bump F.NOC_TOLOG_COUNT)
  if s.bit F.NOC_TOLOG_VALID then s1
  else (((s1.setBit F.NOC_TOLOG_VALID).setFld F.NOC_TOLOG_INIT 0 0 p.init).setFld F.NOC_TOLOG_TAG 0 0 p.tag).setFld F.NOC_TOADDR_ADDR 0 0 p.addr

end Sys2Proof.Machine
end

