-- ==== Sys2Proof/Machine/Sram.lean ====
section
/-!
DEFINITION. On-chip memories seen from the NoC and from user logic: error counting and logging, reads that correct and
poison, write-backs, and the parts of a request that fall in one 64-byte row (R115 to R124, R128, R407, R418, R419).
-/
namespace Sys2Proof.Machine

/-- CE_SHIFT of SPB_CTL (Table 4.12). -/
def ceShift (s : State) : Nat := s.fld F.SPB_CTL_CE_SHIFT

/-- Bay `b` raises a summary source (R650): its bit in the summary, and the level source whose line it is. -/
def bayRaise (f : Field) (src b : Nat) (s : State) : State := irqSample src (s.setFlag f 0 (b / 64) (b % 64))

/-- A failing byte of a memory block is counted, logged and reported (R120, R124). Path 0 port A, 1 port B, 2 window,
3 write-back check. -/
def blockErr (b blk path byte : Nat) (ue : Bool) (s : State) : State :=
  let hold := s.bit F.BAY_MEM_LOG_VALID b && (s.bit F.BAY_MEM_LOG_UE b || !ue)
  let s1 := if hold then s
    else ((((s.setBit F.BAY_MEM_LOG_VALID b).setFld F.BAY_MEM_LOG_UE b 0 (ofBool ue)).setFld F.BAY_MEM_LOG_PATH b 0 path).setFld
      F.BAY_MEM_LOG_BLOCK b 0 blk).setFld F.BAY_MEM_LOG_BYTE b 0 byte
  if ue then bayRaise F.BAY_MUE_SUM_SUM 0x04C b (s1.bump F.BAY_MEM_UE_CNT_COUNT b)
  else
    let s2 := s1.bump F.BAY_MEM_CE_CNT_COUNT b
    if s2.fld F.BAY_MEM_CE_CNT_COUNT b % 2 ^ ceShift s = 0 then bayRaise F.BAY_MCE_SUM_SUM 0x04B b s2 else s2

/-- A failing byte of scratchpad bank `b` is counted, logged and reported (R128). -/
def spadErr (b init row byte : Nat) (ue : Bool) (s : State) : State :=
  let hold := s.bit F.SPB_LOG_VALID 0 b && (s.bit F.SPB_LOG_UE 0 b || !ue)
  let s1 := if hold then s
    else ((((s.setBit F.SPB_LOG_VALID 0 b).setFld F.SPB_LOG_UE 0 b (ofBool ue)).setFld F.SPB_LOG_INIT 0 b init).setFld
      F.SPB_LOG_ROW 0 b row).setFld F.SPB_LOG_BYTE 0 b byte
  if ue then irqEdge (0x240 + b) (s1.bump F.SPB_UE_CNT_COUNT 0 b)
  else
    let s2 := s1.bump F.SPB_CE_CNT_COUNT 0 b
    if s2.fld F.SPB_CE_CNT_COUNT 0 b % 2 ^ ceShift s = 0 then irqEdge (0x200 + b) s2 else s2

/-- The bytes of `[a, a + n)` that are correctable and that are uncorrectable, ascending. -/
def ceBytes (s : State) (a n : Nat) : List Nat :=
  (List.range n).filter (fun j => match s.checkAt (a + j) with | .corr _ => true | _ => false)
def ueBytes (s : State) (a n : Nat) : List Nat :=
  (List.range n).filter (fun j => match s.checkAt (a + j) with | .bad => true | _ => false)

/-- Reports every failing byte of `[a, a + n)`, uncorrectable ones first (R124): `err j ue` for byte `j`. -/
def noteErrs (a n : Nat) (err : Nat → Bool → State → State) (s : State) : State :=
  forL (ceBytes s a n) (fun j s => err j false s) (forL (ueBytes s a n) (fun j s => err j true s) s)

/-- The corrected bytes of `[a, a + n)`. -/
def corrected (s : State) (a n : Nat) : List Byte := (List.range n).map (fun j => s.rdC (a + j))

/-- The parts of a request of `n` bytes at `addr` that lie in one 64-byte row each: flit number, offset from the
request's first byte, length (R407). -/
def rowsOf (addr n : Nat) : List (Nat × Nat × Nat) :=
  (List.range ((addr + n - 1) / 64 - addr / 64 + 1)).map (fun k =>
    let lo := max addr ((addr / 64 + k) * 64)
    let hi := min (addr + n) ((addr / 64 + k + 1) * 64)
    (k, lo - addr, hi - lo))

/-- Whether a request writes byte `j` of those it names: an MWRITE only those of its mask (Table 14.3). -/
def writesByte (p : Packet) (j : Nat) : Bool := p.opc != opMWRITE || bitOf p.mask j

/-- Stores the bytes of part `(k, o, n)` of a write at place `a`, as poison when its flit is poisoned (R419). -/
def storeRow (p : Packet) (a k o n : Nat) (s : State) : State :=
  forN n (fun j s =>
    if !writesByte p (o + j) then s
    else if bitOf p.pmask k then s.poisonB (a + j)
    else s.wrB (a + j) (p.data.getD (o + j) 0)) s

/-- A part of a read: its data (free when a byte is uncorrectable) and whether it is poisoned. -/
def readRow (a n : Nat) (err : Nat → Bool → State → State) (s : State) : List Byte × Bool × State :=
  let bad := !(ueBytes s a n).isEmpty
  let d := corrected s a n
  let s1 := noteErrs a n err s
  if bad then
    let (f, s2) := s1.freshBytes n
    (f, true, s2)
  else (d, false, s1)

/-- The effect of an ATOMIC on 8 old bytes (Table 14.3): kind, old value, operand bytes. -/
def atomicStore (p : Packet) (old : Nat) : Word :=
  let o : Word := BitVec.ofNat 64 old
  let x : Word := BitVec.ofNat 64 (ofBytesLE (p.data.take 8))
  match p.atop with
  | 0 => x
  | 1 => o + x
  | _ => if o = x then BitVec.ofNat 64 (ofBytesLE ((p.data.drop 8).take 8)) else o

/-! ### Memory blocks -/

/-- Configuration bits of block `k` of bay `b`, from its frame (Table 6.3). -/
def blkCfg (s : State) (b k lo w : Nat) : Nat := bitsOf (ofBytesLE (s.rdBytes (aFrame b (1792 + k) 0) 4)) lo w

/-- Width in bytes of port `p` (0 A, 1 B). -/
def blkWidth (s : State) (b k p : Nat) : Nat := 2 ^ blkCfg s b k (2 * p) 2
/-- The bay clock input of a port. -/
def blkClk (s : State) (b k p : Nat) : Nat := blkCfg s b k (4 + 3 * p) 3
/-- OREG of a port; OREG_B only in blocks 0-3. -/
def blkOreg (s : State) (b k p : Nat) : Bool := blkCfg s b k (10 + p) 1 == 1 && (p == 0 || k < 4)
/-- WMODE of a port; 0b11 is loaded as 0b00 (R107). -/
def blkWmode (s : State) (b k p : Nat) : Nat := blkCfg s b k (12 + 2 * p) 2 % 3
/-- WIN; 0b11 is loaded as 0b00. -/
def blkWin (s : State) (b k : Nat) : Nat := blkCfg s b k 16 2 % 3
/-- CORR_WB. -/
def blkCorr (s : State) (b k : Nat) : Bool := blkCfg s b k 18 1 == 1

/-- The first byte of the word that a port addresses (R104). -/
def blkByte (w addr : Nat) : Nat := addr % (4096 / w) * w

/-- A sampled access of a port: what it does (R105). -/
inductive BlkOp where
  | idle
  | read
  | write
deriving DecidableEq, Repr

/-- What port `p` of block `k` does with its sampled inputs (R105, R112): the range 0b11 ignores a write. -/
def blkOp (s : State) (b k p : Nat) (x : PortIn) : BlkOp :=
  let we := x.we % 2 ^ blkWidth s b k p
  if !x.en then .idle
  else if k < 4 then (if we = 0 then .read else .write)
  else if p = 0 then .read
  else if we = 0 then .idle else .write

/-- The enabled bytes of a write, as block byte addresses with their DIN bytes; none in the reserved range, none while
stage 2 is held (R108, R112). -/
def blkBytes (s : State) (b k p : Nat) (x : PortIn) : List (Nat × Byte) :=
  let w := blkWidth s b k p
  if x.addr / 4096 % 4 = 3 || s.bit F.BAY_STATUS_WE_HELD b then []
  else ((List.range w).filter (fun i => bitOf x.we i)).map (fun i =>
    (blkByte w x.addr + i, BitVec.ofNat 8 (x.din / 256 ^ i)))

/-- A byte that failed in an access: its place in the block, the port, whether it is uncorrectable. -/
abbrev BlkErr := Nat × Nat × Bool

/-- Stores one byte of a plain, set or clear write (R112 to R114); a write cancels a pending write-back of the byte (R119). -/
def blkStore (b k p range : Nat) (e : Nat × Byte) (s : State) : State :=
  let a := aBlock b k e.1
  let s0 := { s with blkWb := if s.blkWb.get (b * 24 + k) = e.1 + 1 then s.blkWb.set (b * 24 + k) 0 else s.blkWb,
                     blkByA := if k < 4 then s.blkByA.set a (p == 0) else s.blkByA }
  if range = 0 then s0.wrB a e.2
  else if s0.checkAt a = .bad then s0.poisonB a
  else s0.wrB a (if range = 1 then s0.rdC a ||| e.2 else s0.rdC a &&& ~~~e.2)

/-- The failing bytes that a merge of a set or clear write finds (R120). -/
def blkMergeErrs (s : State) (b k p : Nat) (l : List (Nat × Byte)) : List BlkErr :=
  l.filterMap (fun e => match s.checkAt (aBlock b k e.1) with
    | .good => none | .corr _ => some (e.1, p, false) | .bad => some (e.1, p, true))

/-- A correctable byte of a read is queued for write-back when CORR_WB is 1 and none is pending (R119). DESIGN CHOICE (log entry
49): of several such bytes of one read the lowest. -/
def blkQueueWb (b k byte n : Nat) (s : State) : State :=
  match (ceBytes s (aBlock b k byte) n).head? with
  | some j => if blkCorr s b k && s.blkWb.get (b * 24 + k) = 0 then { s with blkWb := s.blkWb.set (b * 24 + k) (byte + j + 1) } else s
  | none => s

/-- A write of block bytes `[o, o + n)` by the window path cancels a pending write-back there (R119), and is the last write of
those bytes by port B's side (R354). -/
def blkWinWritten (b k o n : Nat) (s : State) : State :=
  let w := s.blkWb.get (b * 24 + k)
  { s with blkWb := if o < w && w ≤ o + n then s.blkWb.set (b * 24 + k) 0 else s.blkWb,
           blkByA := s.blkByA.cut (aBlock b k o) n }

/-- Port `p` reads its word as it stands in `s0`: DOUT, CE and UE (R116, R118) and the failing bytes; the bytes that are
uncorrectable are free values. -/
def blkRead (s0 : State) (b k p : Nat) (x : PortIn) (s : State) : (Nat × Bool × Bool) × List BlkErr × State :=
  let w := blkWidth s0 b k p
  let o := blkByte w x.addr
  let a := aBlock b k o
  let ces := ceBytes s0 a w
  let ues := ueBytes s0 a w
  let (fr, s1) := if ues.isEmpty then ([], s) else s.freshBytes w
  let d := (List.range w).map (fun i => if ues.contains i then fr.getD i 0 else s0.rdC (a + i))
  ((ofBytesLE d, !ces.isEmpty, !ues.isEmpty), ues.map (fun j => (o + j, p, true)) ++ ces.map (fun j => (o + j, p, false)), s1)

/-- A port presents its outputs after an edge (R106): with OREG the result goes through the output register. `res` is
the read result of this edge, absent when the port's outputs hold. -/
def blkPresent (b k p : Nat) (res : Option (Nat × Bool × Bool)) (busy : Bool) (s : State) : State :=
  let key := (b * 24 + k) * 2 + p
  let q := s.blkOut.get key
  let direct := !blkOreg s b k p
  let now := if direct then res else q.pipe
  let q1 : PortOut := match now with | some r => { q with dout := r.1, ce := r.2.1, ue := r.2.2 } | none => q
  let q2 : PortOut := if direct then { q1 with busy := busy, pipe := none, pipeBusy := false }
    else { q1 with busy := q.pipeBusy, pipe := res, pipeBusy := busy }
  ({ s with blkOut := s.blkOut.set key q2 }).emit (.blockOut b k p q2.dout q2.ce q2.ue q2.busy)

/-- Two sampled accesses collide (R109): one writes a byte that the other reads or writes. -/
def blkCollide (s : State) (b k : Nat) (xa xb : PortIn) : Bool :=
  let span (p : Nat) (x : PortIn) : List Nat := (List.range (blkWidth s b k p)).map (fun i => blkByte (blkWidth s b k p) x.addr + i)
  let writes (p : Nat) (x : PortIn) : List Nat := if blkOp s b k p x = .write then (blkBytes s b k p x).map (·.1) else []
  let uses (p : Nat) (x : PortIn) : List Nat := match blkOp s b k p x with | .idle => [] | .read => span p x | .write => writes p x
  (writes 0 xa).any (fun i => (uses 1 xb).contains i) || (writes 1 xb).any (fun i => (uses 0 xa).contains i)

/-- The word that a port reads before the writes of its edge: that of a read, or of a READ_FIRST write (R107). -/
def blkOld (s0 : State) (b k p : Nat) (x : PortIn) (s : State) : Option (Nat × Bool × Bool) × List BlkErr × State :=
  let op := blkOp s0 b k p x
  if op = .read || (op = .write && k < 4 && blkWmode s0 b k p = 0) then
    let (v, e, s1) := blkRead s0 b k p x (blkQueueWb b k (blkByte (blkWidth s0 b k p) x.addr) (blkWidth s0 b k p) s)
    (some v, e, s1)
  else (none, [], s)

/-- The write of a port at its edge, if it makes one, and the failing bytes of its merge. -/
def blkWrite (b k p : Nat) (x : PortIn) (s : State) : List BlkErr × State :=
  if blkOp s b k p x = .write then
    let l := blkBytes s b k p x
    let range := x.addr / 4096 % 4
    (if range = 0 then [] else blkMergeErrs s b k p l, forL l (blkStore b k p range) s)
  else ([], s)

/-- What a port presents after its edge (R107, R110): the word before the writes of the edge, a WRITE_FIRST write the word after
them, and nothing new else. `spoil` says that the access collided: a read that did presents free values. DESIGN CHOICE (log entry 49):
DOUT of a write that collides is that of its WMODE, and an ignored write in the reserved range follows WMODE as a write. -/
def blkResult (s0 : State) (b k p : Nat) (x : PortIn) (spoil : Bool) (old : Option (Nat × Bool × Bool)) (s : State) :
    Option (Nat × Bool × Bool) × List BlkErr × State :=
  let op := blkOp s0 b k p x
  if spoil && op = .read then
    let (v, s4) := s.fresh
    let (f, s5) := s4.fresh
    (some (v.toNat % 256 ^ blkWidth s0 b k p, f.getLsbD 0, f.getLsbD 1), [], s5)
  else if op = .write && k < 4 && blkWmode s0 b k p = 1 then
    let (v, e, s1) := blkRead s b k p x s
    (some v, e, s1)
  else (old, [], s)

/-- Inserts a failing byte in ascending order. -/
def errInsert (e : BlkErr) : List BlkErr → List BlkErr
  | [] => [e]
  | x :: xs => if e.1 ≤ x.1 then e :: x :: xs else x :: errInsert e xs

/-- The failing bytes of one edge of a block are reported, each once: uncorrectable ones first, lowest byte first (R120, R124). -/
def blkReport (b k : Nat) (l : List BlkErr) (s : State) : State :=
  let sorted := l.eraseDups.foldr errInsert []
  forL (sorted.filter (fun e => e.2.2) ++ sorted.filter (fun e => !e.2.2)) (fun e s => blockErr b k e.2.1 e.1 e.2.2 s) s

/-- An edge of the ports of a block that have one, the earlier port first; `col` says that their accesses collide, which the later
one shows as BUSY (R110). -/
def blkEdge (b k : Nat) (l : List (Nat × PortIn)) (col : Bool) (s0 : State) : State :=
  let olds := l.foldl (fun (acc : List (Option (Nat × Bool × Bool)) × List BlkErr × State) e =>
    let r := blkOld s0 b k e.1 e.2 acc.2.2
    (acc.1 ++ [r.1], acc.2.1 ++ r.2.1, r.2.2)) ([], [], s0)
  let wr := l.foldl (fun (acc : List BlkErr × State) e => let r := blkWrite b k e.1 e.2 acc.2; (acc.1 ++ r.1, r.2)) olds.2
  let fin := l.zipIdx.foldl (fun (acc : List BlkErr × State) e =>
    let r := blkResult s0 b k e.1.1 e.1.2 col (olds.1.getD e.2 none) acc.2
    (acc.1 ++ r.2.1, blkPresent b k e.1.1 r.1 (col && e.2 == 1) r.2.2)) wr
  blkReport b k fin.1 fin.2

/-- R105, R110. The ports of block `k` of bay `b` that have a clock edge (`ea`, `eb`) sample their inputs; with both,
the edges lie less than 150 ps apart and `bLater` says which is later, port B when one clock input serves both (R111). -/
def execMemBlockAccess (b k : Nat) (ea : Bool) (xa : PortIn) (eb : Bool) (xb : PortIn) (bLater : Bool) (s : State) : Res :=
  .next (
    let ea := ea && bayClk s b (blkClk s b k 0)
    let eb := eb && bayClk s b (blkClk s b k 1)
    if b ≥ 768 || k ≥ 24 then s
    else if ea && eb then
      let later := bLater || blkClk s b k 0 == blkClk s b k 1
      blkEdge b k (if later then [(0, xa), (1, xb)] else [(1, xb), (0, xa)]) (blkCollide s b k xa xb) s
    else if ea then blkEdge b k [(0, xa)] false s
    else if eb then blkEdge b k [(1, xb)] false s
    else s)

/-- R119. A pending corrected byte of block `k` of bay `b` is written back; what the check of the write-back finds is counted and
logged (R120). -/
def execBlockCorrWriteback (b k : Nat) (s : State) : Res :=
  .next (
    let w := s.blkWb.get (b * 24 + k)
    if w = 0 || !bayClk s b (blkClk s b k 1) then s
    else
      let a := aBlock b k (w - 1)
      let v := s.rdC a
      let s1 := { s with blkWb := s.blkWb.set (b * 24 + k) 0 }
      match s.checkAt a with
      | .bad => blockErr b k 3 (w - 1) true s1
      | .corr _ => (blockErr b k 3 (w - 1) false s1).wrB a v
      | .good => s1)

/-! ### The window path (R121 to R123) -/

/-- Status of a window request to the memory block range of bay `b`: 0 when it is served. DESIGN CHOICE (log entry 49): a request
that crosses a block boundary and is not permitted by WIN either completes with ACCESS. -/
def blkWinStatus (s : State) (b : Nat) (p : Packet) : Nat :=
  let off := p.addr % 0x10_0000
  let k := off / 0x1000
  let rd := p.opc == opREAD
  if off / 0x1000 ≠ (off + p.len) / 0x1000 || p.opc == opATOMIC then eACCESS
  else if rd && blkWin s b k == 0 then eUNMAPPED
  else if !rd && (blkWin s b k != 2 || s.bit F.BAY_STATUS_WE_HELD b) then eUNMAPPED
  else 0

/-- The requests at bay `b`'s window that may be served next: of each initiator the oldest, for the window is one target unit
(R409, R411). -/
def bayHeads (s : State) (b : Nat) : List Packet :=
  (s.hops.filter (fun h => h.atTarget (.bay b))).foldl (fun l h =>
    if l.any (fun p => p.init == h.pkt.init && p.srcdev == h.pkt.srcdev) then l else l ++ [h.pkt]) []

/-- The request that is served next at bay `b`'s memory block range: the one in progress, or the first that may be. -/
def blkWinReq (s : State) (b : Nat) : Option Packet := (bayHeads s b).find? (fun p => p.addr % 0x10_0000 < 0x1_8000)

/-- Removes the first hop that carries a packet. -/
def State.dropArrived (s : State) (p : Packet) : State := { s with hops := s.hops.eraseP (fun h => h.arrived && h.pkt = p) }

/-- R122. The window path serves the next 8-byte word of the request that waits at bay `b`'s memory blocks, and
answers the request after its last word. A request whose first word has been served goes on to its last one: an error response
follows no effect (R417). -/
def execBlockWindowAccess (b : Nat) (s : State) : Res :=
  .next (
    match blkWinReq s b with
    | none => s
    | some p =>
      let st := if (s.blkWin.get b).done = 0 then blkWinStatus s b p else 0
      let off := p.addr % 0x10_0000
      let k := off / 0x1000
      let rd := p.opc == opREAD
      let port := if k < 4 then 1 else if rd then 0 else 1
      if st ≠ 0 then ((s.dropArrived p).respond p st)
      else if !bayClk s b (blkClk s b k port) then s
      else
        let g := s.blkWin.get b
        let o := off % 0x1000 + g.done
        let n := min (p.len + 1 - g.done) (8 - o % 8)
        let a := aBlock b k o
        let flit := (p.addr + g.done) / 64 - p.addr / 64
        let fin := g.done + n = p.len + 1
        if rd then
          let (d, bad, s1) := readRow a n (fun j ue s => blockErr b k 2 (o + j) ue s) (blkQueueWb b k o n s)
          let g1 : WinProg := { done := g.done + n, data := g.data ++ d, pmask := if bad then withBit g.pmask flit true else g.pmask }
          if fin then (({ s1 with blkWin := s1.blkWin.set b {} }).dropArrived p).respond p 0 g1.data g1.pmask
          else { s1 with blkWin := s1.blkWin.set b g1 }
        else
          let s1 := blkWinWritten b k o n (storeRow p a flit g.done n s)
          if fin then (({ s1 with blkWin := s1.blkWin.set b {} }).dropArrived p).respond p 0
          else { s1 with blkWin := s1.blkWin.set b { g with done := g.done + n } })

/-! ### Scratchpad banks -/

/-- The power state of bank `b`: 0 off, 1 retention, 2 on, 3 changing or filling. -/
def spadState (s : State) (b : Nat) : Nat := s.fld F.SPB_PWR_STATE_STATE 0 b

/-- Changes bank `b`. -/
def State.updBank (s : State) (b : Nat) (f : SpadBank → SpadBank) : State := { s with spad := s.spad.upd b f }

/-- The processor class of R126: CC0-CC7 and SC0-SC95. -/
def procClass (init : Nat) : Bool := (0x300 ≤ init && init < 0x370) && !(0x308 ≤ init && init < 0x310)

/-- The scratchpad domain has a clock (R125, R635). -/
def spadClk (s : State) : Bool := domRuns s 0

/-- The rank of an initiator: INIT, then SRCDEV (R410). -/
def initKey (p : Packet) : Nat := p.init * 512 + p.srcdev

/-- R127. Bank `b` accepts the first request that waits for it, when its level's queue has room; a bank that is not on
refuses it (R129, R130). -/
def execSpadRequestAccept (b : Nat) (s : State) : Res :=
  .next (
    let k := s.spad.get b
    if !spadClk s then s else
    match s.hops.find? (fun h => h.atTarget (.spad b) &&
      (spadState s b != 2 || (if procClass h.pkt.init then k.q1.length < 16 else k.q2.length < 16))) with
    | none => s
    | some h =>
      let s1 := { s with hops := s.hops.erase h }
      if spadState s b ≠ 2 then s1.respond h.pkt eUNMAPPED
      else if h.pkt.opc = opATOMIC ∧ h.pkt.pmask ≠ 0 then s1.respond h.pkt eACCESS
      else if procClass h.pkt.init then s1.updBank b (fun k => { k with q1 := k.q1 ++ [{ pkt := h.pkt }] })
      else s1.updBank b (fun k => { k with q2 := k.q2 ++ [{ pkt := h.pkt }] }))

/-- The initiator that a level grants, by its rank (R126, R410): the one that follows `last` in ascending order. DESIGN CHOICE (log
entry 52): after reset the order starts as if rank 0 had been granted last. -/
def nextInit (q : List SpadReq) (last : Nat) : Option Nat :=
  let ids := q.map (fun r => initKey r.pkt)
  let up := ids.filter (fun i => last < i)
  (if up.isEmpty then ids else up).min?

/-- A write to bytes of bank `b` from `o` on cancels a pending write-back of one that it writes (R119, R128). -/
def spadWritten (b o n : Nat) (wr : Nat → Bool) (s : State) : State :=
  s.updBank b (fun q => match q.wb with
    | some w => if o ≤ w && w < o + n && wr (w - o) then { q with wb := none } else q
    | none => q)

/-- A read of `n` bytes of bank `b` from `o` on queues the write-back of its first correctable byte (R128). -/
def spadQueueWb (b o n : Nat) (s : State) : State :=
  match (ceBytes s (aSpad b o) n).head? with
  | some j => if s.bit F.SPB_CTL_CORR_WB && (s.spad.get b).wb.isNone then s.updBank b (fun q => { q with wb := some (o + j) }) else s
  | none => s

/-- One row of a request is served (R125, R128): the request with its progress, and the state. -/
def spadRow (b : Nat) (r : SpadReq) (s : State) : SpadReq × State :=
  let p := r.pkt
  let off := p.addr % 0x20_0000
  match (rowsOf p.addr (p.len + 1))[r.done]? with
  | none => (r, s)
  | some (k, o, n) =>
    let a := aSpad b (off + o)
    let err (j : Nat) (ue : Bool) (s : State) : State := spadErr b p.init ((off + o + j) / 64) ((off + o + j) % 64) ue s
    if p.opc = opREAD ∨ p.opc = opATOMIC then
      let (d, bad, s2) := readRow a n err (spadQueueWb b (off + o) n s)
      let s3 := if p.opc = opATOMIC && !bad then
          spadWritten b (off + o) 8 (fun _ => true) (s2.wrBytes a (bytesLE 8 (atomicStore p (ofBytesLE d)).toNat)) else s2
      ({ r with done := r.done + 1, data := r.data ++ d, pmask := if bad then withBit r.pmask k true else r.pmask }, s3)
    else
      ({ r with done := r.done + 1 }, spadWritten b (off + o) n (fun j => writesByte p (o + j)) (storeRow p a k o n s))

/-- A bank that is leaving on finishes its moves only when no request is partly served (R130). -/
def spadPartial (k : SpadBank) : Bool := (k.q1 ++ k.q2).any (fun r => r.done != 0)

/-- Every access that a bank has pending completes with UNMAPPED, but one whose first row has been granted (R130). -/
def spadRefuse (b : Nat) (s : State) : State :=
  let k := s.spad.get b
  let drop := (k.q1 ++ k.q2).filter (fun r => r.done == 0)
  forL drop (fun r s => s.respond r.pkt eUNMAPPED)
    (s.updBank b (fun k => { k with q1 := k.q1.filter (fun r => r.done != 0), q2 := k.q2.filter (fun r => r.done != 0) }))

/-- R126. Bank `b` grants one pending row access; the request is answered after its last row. -/
def execSpadGrant (b : Nat) (s : State) : Res :=
  .next (
    let k := s.spad.get b
    let pick (q : List SpadReq) (last : Nat) : Option SpadReq :=
      match nextInit q last with
      | some i => q.find? (fun r => initKey r.pkt == i)
      | none => none
    let part := (k.q1 ++ k.q2).find? (fun r => r.done != 0)
    let choice := if spadState s b ≠ 2 then part
      else match pick k.q1 k.last1 with | some r => some r | none => pick k.q2 k.last2
    if !spadClk s then s else
    match choice with
    | none => s
    | some r =>
      let (r1, s1) := spadRow b r s
      let lvl1 := procClass r.pkt.init
      let fin := r1.done = (rowsOf r.pkt.addr (r.pkt.len + 1)).length
      let put (q : List SpadReq) : List SpadReq := if fin then q.erase r else q.map (fun x => if x = r then r1 else x)
      let s2 := s1.updBank b (fun k => if lvl1 then { k with q1 := put k.q1, last1 := initKey r.pkt } else { k with q2 := put k.q2, last2 := initKey r.pkt })
      if fin then s2.respond r.pkt 0 (if r.pkt.opc = opREAD ∨ r.pkt.opc = opATOMIC then r1.data else []) r1.pmask else s2)

/-- R128. A corrected byte of bank `b` is written back when neither higher level has an access pending; what the check of the
write-back finds is counted and logged (R120). -/
def execSpadCorrWriteback (b : Nat) (s : State) : Res :=
  .next (
    let k := s.spad.get b
    match k.wb with
    | some w =>
      if k.q1.isEmpty && k.q2.isEmpty && spadState s b == 2 && spadClk s then
        let a := aSpad b w
        let v := s.rdC a
        let s1 := s.updBank b (fun k => { k with wb := none })
        match s.checkAt a with
        | .bad => spadErr b 0 (w / 64) (w % 64) true s1
        | .corr _ => (spadErr b 0 (w / 64) (w % 64) false s1).wrB a v
        | .good => s1
      else s
    | none => s)

/-- A bank takes up its requested state, when it differs from the present one (R129, R130). -/
def spadTakeUp (b : Nat) (s : State) : State :=
  let st := spadState s b
  let rq := s.fld F.SPB_PWR_REQ_PWR 0 b
  if st = 3 || st = rq then s
  else
    let mv := if rq = 0 then 1 else if rq = 2 then 3 else if st = 0 then 4 else 2
    spadRefuse b ((s.setFld F.SPB_PWR_STATE_STATE 0 b 3).updBank b (fun k => { k with moving := mv, stale := st == 0, wb := none }))

/-- A write of bank `b`'s field of SPB_PWR_REQ (R130): 0b11 is ignored, and so is a write to an unusable bank (R701). -/
def spadReqWrite (b v : Nat) (s : State) : State := if v = 3 || bankBad s b then s else spadTakeUp b (s.setFld F.SPB_PWR_REQ_PWR 0 b v)

/-- R130. A write of a bank's requested power state. -/
def execSpbPwrReqWrite (b v : Nat) (s : State) : Res := .next (if b < 64 then spadReqWrite b (v % 4) s else s)

/-- Bank `b` is filled with zero (R129, R131). -/
def spadZero (b : Nat) (s : State) : State := s.zeroRange (aSpad b 0) 0x20_0000

/-- R129. A power transition of bank `b`, with its fill, ends: the bank loses its contents when it goes off, and is
filled with zero on its way back. -/
def execSpadPwrTransitionDone (b : Nat) (s : State) : Res :=
  .next (
    let k := s.spad.get b
    if spadState s b ≠ 3 || k.moving = 0 || k.moving = 5 || k.moving = 6 || spadPartial k || !spadClk s then s
    else
      let s1 := if k.moving = 1 || k.stale then spadZero b s else s
      let st := match k.moving with | 1 => 0 | 3 => 2 | _ => 1
      spadTakeUp b ((s1.setFld F.SPB_PWR_STATE_STATE 0 b st).updBank b (fun k => { k with moving := 0, stale := false })))

/-- A write of 1 to a bank's SPB_ZERO bit (R131): ignored for a bank that is not on. -/
def spadZeroStart (b : Nat) (s : State) : State :=
  if spadState s b ≠ 2 then s
  else spadRefuse b (((s.setFld F.SPB_PWR_STATE_STATE 0 b 3).setBit F.SPB_ZERO_ZERO 0 b).updBank b (fun k => { k with moving := 5, wb := none }))

/-- R131. A write of 1 to SPB_ZERO starts a fill. -/
def execSpbZero (b : Nat) (s : State) : Res := .next (if b < 64 then spadZeroStart b s else s)

/-- R131. A bank's zero fill ends and its SPB_ZERO bit clears. -/
def execSpadZeroFillDone (b : Nat) (s : State) : Res :=
  .next (
    let k := s.spad.get b
    if k.moving ≠ 5 || spadPartial k || !spadClk s then s
    else spadTakeUp b ((((spadZero b s).clrFld F.SPB_ZERO_ZERO 0 b).setFld F.SPB_PWR_STATE_STATE 0 b 2).updBank b (fun k => { k with moving := 0 })))

end Sys2Proof.Machine
end

