-- ==== Sys2Proof/Machine/SignalCore.lean ====
section
/-!
DEFINITION. What every signal-core bundle shares (chapters 12, 13): registers and rotation, the slot words, memories,
traps, fetch and the repeat cache, and the issue, waiting and retirement of a bundle.
-/
namespace Sys2Proof.Machine

/-- Changes signal core `n`. -/
def State.updSc (s : State) (n : Nat) (f : SCore → SCore) : State := { s with sc := s.sc.upd n f }

/-- Trap causes (Table 12.11). -/
def scILLEGAL : Nat := 1
def scALIGN : Nat := 2
def scADDRESS : Nat := 3
def scBUS : Nat := 4
def scPOISON : Nat := 5
def scSBUS : Nat := 6
def scSWTRAP : Nat := 7
def scDEBUG : Nat := 8
def scINTERRUPT : Nat := 16

/-! ### Slot words (Tables 12.5 to 12.9b) -/

/-- A MAC-slot word as its operation. -/
def macOf (x : BitVec 24) : MacOp :=
  let w := x.toNat
  let op := bitsOf w 18 6
  let d := bitsOf w 16 2
  let a := bitsOf w 11 5
  let b := bitsOf w 6 5
  let k := bitsOf w 0 6
  let lo (n : Nat) : Bool := bitsOf w 0 n != 0
  if w = 0 then .nop
  else if 1 ≤ op ∧ op ≤ 8 then (if lo 4 then .bad else .mul op d a b (bitOf w 5) (bitOf w 4))
  else if op = 9 ∨ op = 10 then
    (if lo 4 || a != 0 || bitsOf w 8 3 != 0 then .bad else .accAdd (op == 10) d (bitsOf w 6 2) (bitOf w 5) (bitOf w 4))
  else if op = 11 then (if lo 5 then .bad else .accLd d a b (bitOf w 5))
  else if op = 12 then (if bitsOf w 6 10 ≠ 0 then .bad else .accSra d k)
  else if op = 13 then (if bitsOf w 0 16 ≠ 0 then .bad else .accClr d)
  else if op = 14 then
    (if bitsOf w 3 2 = 3 || lo 1 then .bad else .ext d a (bitsOf w 5 6) (bitsOf w 3 2) (bitOf w 2) (bitOf w 1))
  else if op = 15 ∨ op = 16 then
    (if lo 2 || b != 0 then .bad else .search (op == 16) d a (bitOf w 5) (bitOf w 4) (bitOf w 3) (bitOf w 2))
  else if 0x11 ≤ op ∧ op ≤ 0x20 then
    let sat := bitOf w 5
    let satOk := [0x11, 0x12, 0x13, 0x14, 0x1A, 0x1D].contains op
    (if d ≠ 0 || (sat && !satOk) || ((op == 0x13 || op == 0x14) && b != 0) then .bad else .alu op a b (bitsOf w 0 5) sat)
  else .bad

/-- A move-slot word as its operation; `two` says that it stands in M2, the only place of the control operations. -/
def moveOf (two : Bool) (x : BitVec 20) : MoveOp :=
  let w := x.toNat
  let op := bitsOf w 15 5
  let d := bitsOf w 10 5
  let lo (n : Nat) : Bool := bitsOf w 0 n != 0
  if w = 0 then .nop
  else match op with
    | 1 => if lo 4 then .bad else .ld d (bitsOf w 7 3) (bitsOf w 5 2) (bitOf w 4)
    | 2 => if lo 4 then .bad else .st d (bitsOf w 7 3) (bitsOf w 5 2) (bitOf w 4)
    | 3 => if lo 5 then .bad else .mov d (bitsOf w 5 5)
    | 4 => .mvi d (bitsOf w 0 10)
    | 5 => if lo 7 then .bad else .aadd d (bitsOf w 7 3)
    | 6 => if lo 5 || bitsOf w 5 2 == 3 then .bad else .mvta d (bitsOf w 7 3) (bitsOf w 5 2)
    | 7 => if lo 5 || bitsOf w 5 2 == 3 then .bad else .mvfa d (bitsOf w 7 3) (bitsOf w 5 2)
    | 8 => if lo 6 then .bad else .mvts d (bitsOf w 7 3) (bitOf w 6)
    | 9 => if lo 6 then .bad else .mvfs d (bitsOf w 7 3) (bitOf w 6)
    | 10 => if lo 6 || bitsOf w 6 2 == 3 then .bad else .mvtacc d (bitsOf w 8 2) (bitsOf w 6 2)
    | 11 => if lo 6 || bitsOf w 6 2 == 3 then .bad else .mvfacc d (bitsOf w 8 2) (bitsOf w 6 2)
    | 12 => if lo 7 then .bad else .mvtix d (bitsOf w 8 2) (bitOf w 7)
    | 13 => if lo 7 then .bad else .mvfix d (bitsOf w 8 2) (bitOf w 7)
    | 14 => if lo 5 then .bad else .mfsr d (bitsOf w 5 5)
    | 15 => if lo 5 then .bad else .mtsr d (bitsOf w 5 5)
    | op =>
      if !two then .bad
      else match op with
        | 0x10 | 0x11 | 0x12 | 0x13 => .branch (op - 0x10) d (bitsOf w 0 10)
        | 0x14 => if bitsOf w 12 3 ≠ 0 then .bad else .jmp (bitsOf w 0 12) false
        | 0x15 => if bitsOf w 12 3 ≠ 0 then .bad else .jmp (bitsOf w 0 12) true
        | 0x16 => if lo 15 then .bad else .ret
        | 0x17 =>
          if bitOf w 14 then .rep true (bitsOf w 5 9) (bitOf w 4) (bitsOf w 0 4 + 1)
          else if bitsOf w 5 4 ≠ 0 then .bad else .rep false (bitsOf w 9 5) (bitOf w 4) (bitsOf w 0 4 + 1)
        | 0x18 => if lo 15 then .bad else .rot
        | 0x19 => if lo 15 then .bad else .syncC
        | 0x1A => if bitsOf w 1 14 ≠ 0 then .bad else .fence (bitOf w 0)
        | 0x1B => if lo 15 then .bad else .rte
        | 0x1C => if bitsOf w 8 7 ≠ 0 then .bad else .trap (bitsOf w 0 8)
        | 0x1D => if lo 15 then .bad else .waiti
        | 0x1E => if bitsOf w 2 13 ≠ 0 then .bad else .raise (bitsOf w 0 2)
        | _ => .bad

/-- The 35 bits of a long operation (Table 12.9a). -/
def longOf (l : Nat) : MoveOp :=
  let imm := bitsOf l 0 24
  let q := bitsOf l 25 2
  let partBad := bitOf l 24 || q == 3 || (q == 2 && bitsOf l 16 8 != 0)
  match bitsOf l 30 5 with
  | 0 => if bitOf l 24 then .bad else .lmvi (bitsOf l 25 5) imm
  | 1 => if partBad then .bad else .lseta (bitsOf l 27 3) q imm false
  | 2 => if partBad then .bad else .lseta (bitsOf l 27 3) q imm true
  | 3 => if bitsOf l 24 2 ≠ 0 then .bad else .lst (bitsOf l 27 3) (bitOf l 26) imm
  | _ => .bad

/-- The move slots of a bundle from their words (R376). -/
def movesOf (x1 x2 : BitVec 20) : MoveOp × MoveOp :=
  if bitsOf x1.toNat 15 5 = 0x1F then (longOf (bitsOf x1.toNat 0 15 * 2 ^ 20 + x2.toNat), .nop)
  else (moveOf false x1, moveOf true x2)

/-! ### Registers -/

/-- R of RCFG.RSIZE (R370). -/
def scRot (s : State) (n : Nat) : Nat :=
  match s.fld F.S_RCFG_RSIZE n with | 0 => 0 | 1 => 8 | 2 => 16 | _ => 32

/-- The physical register that logical register `v` names (R370). -/
def scPhys (s : State) (n v : Nat) : Nat :=
  let v := v % 32
  if v < scRot s n then (v + s.fld F.S_RCFG_RRB n) % scRot s n else v

/-- V register `v` of core `n`. -/
def State.svget (s : State) (n v : Nat) : SWord := (s.sc.get n).v.get (scPhys s n v)

/-- Writes V register `v`, named as in `s0` (R371). -/
def svset (s0 : State) (n v : Nat) (x : SWord) (s : State) : State := s.updSc n (fun k => { k with v := k.v.set (scPhys s0 n v) x })

/-- Accumulator `d`. -/
def State.saget (s : State) (n d : Nat) : Acc := (s.sc.get n).acc.get (d % 4)

/-- Writes accumulator `d`. -/
def saset (n d : Nat) (x : Acc) (s : State) : State := s.updSc n (fun k => { k with acc := k.acc.set (d % 4) x })

/-- Sets OVA bit of accumulator `d` when `b`. -/
def setOva (n d : Nat) (b : Bool) (s : State) : State := if b then s.setFlag F.S_SFLAGS_OVA n 0 (d % 4) else s

/-! ### The MAC slot (R378 to R381) -/

/-- A V register as an integer. -/
def sInt (s : State) (n v : Nat) (uns : Bool) : Int := asInt (!uns) 24 (s.svget n v).toNat

/-- An accumulator as an integer. -/
def aInt (s : State) (n d : Nat) (uns : Bool) : Int := asInt (!uns) 56 (s.saget n d).toNat

/-- Accumulator `d` takes the exact result `t` in its range (R378). -/
def accPut (n d : Nat) (sat uns : Bool) (t : Int) (s : State) : State :=
  let r := fitRange (!uns) sat 56 t
  setOva n d r.2 (saset n d (BitVec.ofNat 56 r.1) s)

/-- The multiply group 0x01 to 0x08. -/
def macMul (s0 : State) (n op d a b : Nat) (sat uns : Bool) (s : State) : State :=
  let m := sInt s0 n a uns * sInt s0 n b uns
  let m' := sInt s0 n (a + 1) uns * sInt s0 n (b + 1) uns
  let c := aInt s0 n d uns
  match op with
  | 1 => accPut n d sat uns m s
  | 2 => accPut n d sat uns (c + m) s
  | 3 => accPut n d sat uns (c - m) s
  | 4 => accPut n d sat uns (m + m') s
  | 5 => accPut n d sat uns (c + m + m') s
  | 6 => accPut n d sat uns (c - m - m') s
  | 7 => accPut n (d ^^^ 1) sat uns m' (accPut n d sat uns m s)
  | _ => accPut n (d ^^^ 1) sat uns (aInt s0 n (d ^^^ 1) uns + m') (accPut n d sat uns (c + m) s)

/-- One element of a search (R381): accumulator, IX, IXC, and whether IXOVF sets or, for a first element, clears. -/
def searchStep (max first : Bool) (x : Int) (acc : Acc) (ix ixc : Nat) (ovf : Bool) : Acc × Nat × Nat × Bool :=
  if first then (BitVec.ofInt 56 x, 0, 1, false)
  else
    let c := acc.toInt
    let better := if max then c < x else x < c
    (if better then BitVec.ofInt 56 x else acc, if better then ixc else ix, if ixc < 0xFFFF then ixc + 1 else ixc, ovf || ixc == 0xFFFF)

/-- An element's value (R381). -/
def searchVal (s : State) (n v : Nat) (u abs : Bool) : Int :=
  let x := sInt s n v u
  if abs && x < 0 then -x else x

/-- SMIN and SMAX. -/
def macSearch (s0 : State) (n : Nat) (max : Bool) (d a : Nat) (f dual u abs : Bool) (s : State) : State :=
  let k := s0.sc.get n
  let e1 := searchStep max f (searchVal s0 n a u abs) (s0.saget n d) (k.ix.get (d % 4)) (k.ixc.get (d % 4))
    (bitOf (s0.fld F.S_SFLAGS_IXOVF n) (d % 4))
  let e2 := if dual then searchStep max false (searchVal s0 n (a + 1) u abs) e1.1 e1.2.1 e1.2.2.1 e1.2.2.2 else e1
  let s1 := (saset n d e2.1 s).updSc n (fun k => { k with ix := k.ix.set (d % 4) e2.2.1, ixc := k.ixc.set (d % 4) e2.2.2.1 })
  s1.setFlag F.S_SFLAGS_IXOVF n 0 (d % 4) e2.2.2.2

/-- The exact result of a 24-bit operation (R379). -/
def aluExact (op : Nat) (a b : SWord) : Int :=
  let x := a.toInt
  let y := b.toInt
  match op with
  | 0x11 => x + y
  | 0x12 => x - y
  | 0x13 => -x
  | 0x14 => if x < 0 then -x else x
  | 0x15 => if x ≤ y then x else y
  | 0x16 => if x ≤ y then y else x
  | 0x17 => (a &&& b).toInt
  | 0x18 => (a ||| b).toInt
  | 0x19 => (a ^^^ b).toInt
  | 0x1A | 0x1D => if 24 ≤ b.toNat then x * 2 ^ 48 else x * 2 ^ b.toNat
  | 0x1B | 0x1E => (a >>> b.toNat).toInt
  | 0x1C | 0x1F => if 24 ≤ b.toNat then (if x < 0 then -1 else 0) else x / 2 ^ b.toNat
  | _ => roundShift 2 23 (x * y)

/-- A 24-bit operation (R379); the immediate shifts take their amount `b` as it stands. -/
def macAlu (s0 : State) (n op a b rd : Nat) (sat : Bool) (s : State) : State :=
  let y : SWord := if 0x1D ≤ op ∧ op ≤ 0x1F then BitVec.ofNat 24 b else s0.svget n b
  let r := fitRange true (sat || op == 0x20) 24 (aluExact op (s0.svget n a) y)
  svset s0 n rd (BitVec.ofNat 24 r.1) (if r.2 then s.setBit F.S_SFLAGS_OV24 n else s)

/-- EXT (R380). -/
def macExt (s0 : State) (n src rd shift rnd : Nat) (sat24 uns : Bool) (s : State) : State :=
  let r := fitRange (!uns) sat24 24 (roundShift rnd (min 32 shift) (aInt s0 n src uns))
  svset s0 n rd (BitVec.ofNat 24 r.1) (if r.2 then s.setBit F.S_SFLAGS_OVX n else s)

/-- The effect of the MAC slot; every register is read in `s0`, the state before the bundle (R377). -/
def macExec (s0 : State) (n : Nat) (op : MacOp) (s : State) : State :=
  match op with
  | .nop | .bad => s
  | .mul op d a b sat uns => macMul s0 n op d a b sat uns s
  | .accAdd sub d src sat uns =>
    let c := aInt s0 n d uns
    let x := aInt s0 n src uns
    accPut n d sat uns (if sub then c - x else c + x) s
  | .accLd d a k uns => saset n d (BitVec.ofInt 56 (sInt s0 n a uns * 2 ^ k)) s
  | .accSra d k => saset n d (BitVec.ofInt 56 ((s0.saget n d).toInt / 2 ^ k)) s
  | .accClr d => saset n d 0 s
  | .ext src rd shift rnd sat24 uns => macExt s0 n src rd shift rnd sat24 uns s
  | .search max d a f dual u abs => macSearch s0 n max d a f dual u abs s
  | .alu op a b rd sat => macAlu s0 n op a b rd sat s

/-! ### System registers (Table 12.4, R373) -/

/-- The system register of a number, and which 24-bit part of it. -/
def ssrFind (sr : Nat) : Option (Reg × Nat) :=
  if sr = 8 ∨ sr = 9 then some (R.S_STADDR, sr - 7)
  else if sr = 0x12 ∨ sr = 0x13 then some (R.S_SERR_ADDR, sr - 0x11)
  else ((regsOf .ssr).find? (fun r => r.off == sr)).map (fun r => (r, 0))

/-- The fields of Table 12.4 with access code HW that software may write. -/
def ssrHw (f : Field) : Bool :=
  [F.S_SFLAGS_IXOVF, F.S_SFLAGS_OVX, F.S_SFLAGS_OVA, F.S_SFLAGS_OV24, F.S_RCFG_RRB, F.S_STPC_STPC, F.S_LR_LR,
   F.S_LCOUNT_LCOUNT, F.S_LSTART_LSTART, F.S_LEND_LEND, F.S_SERR_COUNT].any (fun g => g.id == f.id)

/-- What MFSR returns. -/
def ssrRead (s : State) (n : Nat) (r : Reg) (part : Nat) : Nat :=
  r.pack 0 (fun f k => if f.id = F.S_CORE_ID_CORE_ID.id then n else s.fld f n k) / 2 ^ (24 * part) % 2 ^ 24

/-- What MTSR writes; a write of RCFG brings RRB into the new region (R370). -/
def ssrWrite (n : Nat) (r : Reg) (part v : Nat) (s : State) : State :=
  if part ≠ 0 then s
  else
    let s1 := r.unpack 0 v (fun f k bits s => writeField 0 n (ssrHw f) f k bits s) s
    if r.off = 2 then s1.setFld F.S_RCFG_RRB n 0 (if scRot s1 n = 0 then 0 else s1.fld F.S_RCFG_RRB n % scRot s1 n) else s1

/-! ### Addresses (R364, R366, R374, R375) -/

/-- The smallest power of two not below `c`. -/
def ceilPow2 (c : Nat) : Nat := ((List.range 25).find? (fun k => decide (c ≤ 2 ^ k))).elim (2 ^ 24) (fun k => 2 ^ k)

/-- APn after the addend `x` (R375). -/
def apAdd (ap : Word) (cs : SWord) (x : Int) : Word :=
  let a : Int := ap.toNat
  if cs = 0 then BitVec.ofInt 64 (a + x)
  else
    let b : Int := ap.toNat / ceilPow2 cs.toNat * ceilPow2 cs.toNat
    BitVec.ofInt 64 (b + (a - b + x) % cs.toNat)

/-- APn after an access with mode `m` (R374). -/
def apMode (k : SCore) (i m : Nat) : Word :=
  let ap := k.ap.get (i % 8)
  match m % 4 with
  | 0 => ap
  | 1 => apAdd ap (k.cs.get (i % 8)) (k.st.get (i % 8)).toInt
  | 2 => apAdd ap (k.cs.get (i % 8)) 4
  | _ => apAdd ap (k.cs.get (i % 8)) (-4)

/-- Where a signal core's data address leads: its own memories at an offset of Table 12.2, or the NoC. -/
inductive ScAddr where
  | bad
  | own (off : Nat)
  | noc (dev addr : Nat)
deriving DecidableEq, Repr

/-- Resolves a core address (R31, R364). -/
def scResolve (s : State) (n : Nat) (a : Word) : ScAddr :=
  let v := a.toNat
  let lo := v % 2 ^ 52
  let here := bitOf v 61 || v / 2 ^ 52 % 512 == s.fld F.DEV_ID
  let win := 0x8_0001_0000_0000 + n * 0x4_0000
  if 2 ^ 62 ≤ v then .bad
  else if bitOf v 61 && decide (0x8_00E0_0000_0000 ≤ lo) && decide (lo < 0x8_00E0_0004_0000) then .own (lo % 0x4_0000)
  else if here && decide (win ≤ lo) && decide (lo < win + 0x4_0000) then .own (lo % 0x4_0000)
  else .noc (if bitOf v 61 then s.fld F.DEV_ID else v / 2 ^ 52 % 512) lo

/-- A data access of a slot: store, V register, address, pair. -/
structure ScAcc where
  store : Bool
  v : Nat
  a : Word
  pair : Bool
deriving DecidableEq, Repr

/-- The access that a move slot makes. -/
def moveAcc (s : State) (n : Nat) : MoveOp → Option ScAcc
  | .ld v i _ pair => some ⟨false, v, (s.sc.get n).ap.get (i % 8), pair⟩
  | .st v i _ pair => some ⟨true, v, (s.sc.get n).ap.get (i % 8), pair⟩
  | _ => none

/-- Bytes of an access. -/
def ScAcc.size (x : ScAcc) : Nat := if x.pair then 8 else 4

/-- The words that a store writes, read before the bundle. -/
def ScAcc.words (x : ScAcc) (s : State) (n : Nat) : List Nat :=
  if x.pair then [(s.svget n x.v).toNat, (s.svget n (x.v + 1)).toNat] else [(s.svget n x.v).toNat]

/-- A container of four bytes: bits [23:0] and eight copies of bit 23 (R366). -/
def container (w : Nat) : List Byte := bytesLE 3 w ++ [if bitOf w 23 then 255 else 0]

/-- The address condition of an access, ADDRESS (R366). -/
def accBad (s : State) (n : Nat) (x : ScAcc) : Bool :=
  match scResolve s n x.a with
  | .bad => true
  | .own off => decide (0x2_8000 ≤ off) || (x.store && decide (0x2_0000 ≤ off))
  | .noc _ _ => false

/-! ### The core's own memories (R365, R369) -/

/-- A failing byte at offset `off` of core `n`'s memories is counted, logged and reported (R369, R124). -/
def scMemErr (n path off : Nat) (ue : Bool) (s : State) : State :=
  let hold := s.bit F.SC_MEM_LOG_VALID n && (s.bit F.SC_MEM_LOG_UE n || !ue)
  let s1 := if hold then s
    else ((((s.setBit F.SC_MEM_LOG_VALID n).setFld F.SC_MEM_LOG_UE n 0 (ofBool ue)).setFld F.SC_MEM_LOG_PATH n 0 path).setFld
      F.SC_MEM_LOG_ARRAY n 0 (off / 0x1_0000)).setFld F.SC_MEM_LOG_BYTE n 0 (off % 0x1_0000)
  if ue then irqEdge (0x400 + n) (s1.bump F.SC_MEM_UE_CNT_COUNT n)
  else
    let s2 := s1.bump F.SC_MEM_CE_CNT_COUNT n
    let s3 := s2.updSc n (fun k => if path == 3 || k.wb.contains off then k else { k with wb := k.wb ++ [off] })
    if s3.fld F.SC_MEM_CE_CNT_COUNT n % 2 ^ ceShift s = 0 then irqEdge (0x3A0 + n) s3 else s3

/-- Reads `c` bytes at offset `off`: corrected data, whether a byte is uncorrectable, with the errors reported. -/
def scBytes (n path off c : Nat) (s : State) : List Byte × Bool × State :=
  let a := aSc n off
  (corrected s a c, !(ueBytes s a c).isEmpty, noteErrs a c (fun j ue s => scMemErr n path (off + j) ue s) s)

/-- A word load from the core's own memories: an operand bank's container holds three bytes (R365, R366). -/
def scLoadWord (n off : Nat) (s : State) : Nat × Bool × State :=
  let r := scBytes n 0 off (if off < 0x2_0000 then 3 else 4) s
  (ofBytesLE r.1 % 2 ^ 24, r.2)

/-- Writes one byte of the core's memories; byte 3 of a container has no storage (R365). A pending write-back of the
byte is cancelled. -/
def scPutByte (n off : Nat) (psn : Bool) (v : Byte) (s : State) : State :=
  if off < 0x2_0000 ∧ off % 4 = 3 then s
  else
    let s1 := s.updSc n (fun k => { k with wb := k.wb.filter (· != off) })
    if psn then s1.poisonB (aSc n off) else s1.wrB (aSc n off) v

/-- Writes bytes from an offset on. -/
def scPutBytes (n off : Nat) (bs : List Byte) (s : State) : State :=
  forN bs.length (fun j s => scPutByte n (off + j) false (bs.getD j 0) s) s

/-- A store of words to the core's own operand bank. -/
def scStoreWords (n off : Nat) (ws : List Nat) (s : State) : State := scPutBytes n off (ws.flatMap container) s

/-! ### Fetch and the repeat cache (R387, R394 to R397) -/

/-- The bundles of a loop body; none when it is longer than the cache. -/
def bodyOf (t : Nat × Nat) : List Nat :=
  let len := (t.2 + 4096 - t.1) % 4096 + 1
  if len ≤ 16 then (List.range len).map (fun i => (t.1 + i) % 4096) else []

/-- The loop is active and its whole body is held in the cache: fetch does not use the code bus (R396). -/
def scCached (s : State) (n : Nat) : Bool :=
  let k := s.sc.get n
  match k.tag with
  | some t => s.bit F.S_SSTATUS_LACT n && t == (s.fld F.S_LSTART_LSTART n, s.fld F.S_LEND_LEND n) &&
      !(bodyOf t).isEmpty && (bodyOf t).all (fun q => k.held.contains q)
  | none => false

/-- Bundles of the tagged body that were read from code memory are in the cache (R394); a poisoned one is not. -/
def scHold (t : Nat × Nat) (qs : List (Nat × Bool)) (held : List Nat) : List Nat :=
  qs.foldl (fun h e => if (bodyOf t).contains e.1 && !e.2 && !h.contains e.1 then h ++ [e.1] else h) held

/-- Bundle `q` is read from code memory: into the fetched bundles, and into the cache when it is of the tagged body. -/
def scReadCode (n q : Nat) (s : State) : State :=
  let r := scBytes n 1 (0x2_0000 + 8 * q) 8 s
  r.2.2.updSc n (fun k =>
    { k with ahead := k.ahead ++ [(q, r.2.1)],
             held := match k.tag with | some t => scHold t [(q, r.2.1)] k.held | none => k.held })

/-- Bundle `q` is fetched unless it has been: from the cache when that holds it, in its old form (R387), else from code
memory (log 55: a held bundle of a body that is not yet complete comes from the cache too). -/
def scFetchOne (n q : Nat) (s : State) : State :=
  let k := s.sc.get n
  if k.ahead.any (fun e => e.1 == q) then s
  else if k.held.contains q then s.updSc n (fun k => { k with ahead := k.ahead ++ [(q, false)] })
  else scReadCode n q s

/-- A transfer of control discards the fetched bundles: the target and its successors are read anew (R387). -/
def scRefetch (n : Nat) (s : State) : State := s.updSc n (fun k => { k with ahead := [] })

/-- Fetch runs ahead of the PC: the bundle there and its three successors have been read when it is next to issue (R387).
While the loop is active and the cache holds its body nothing is read. -/
def scFill (n : Nat) (s : State) : State :=
  let p := (s.sc.get n).pc
  if scCached s n && (bodyOf (s.fld F.S_LSTART_LSTART n, s.fld F.S_LEND_LEND n)).contains p then s
  else forN 4 (fun i s => scFetchOne n ((p + i) % 4096) s)
    (s.updSc n (fun k => { k with ahead := k.ahead.filter (fun e => (e.1 + 4096 - p) % 4096 < 4) }))

/-- The bundle at the PC is taken from what fetch has read: whether it is poisoned. -/
def scFetch (n : Nat) (s : State) : Bool × State :=
  let p := (s.sc.get n).pc
  let s1 := scFill n s
  ((s1.sc.get n).ahead.any (fun e => e.1 == p && e.2), s1.updSc n (fun k => { k with ahead := k.ahead.filter (fun e => e.1 != p) }))

/-! ### Traps (R388 to R390) -/

/-- A trap condition: cause, slot, access kind, address and information. -/
structure STrap where
  cause : Nat
  slot : Nat := 0
  access : Nat := 0
  addr : Nat := 0
  info : Nat := 0
deriving DecidableEq, Repr

/-- FAULT_HALT (R390). -/
def scFaultHalt (n : Nat) (t : STrap) (s : State) : State :=
  let s1 := ((((((s.setBit F.SC_FAULT_VALID n).setFld F.SC_FAULT_FIRST n 0 (s.fld F.S_SCAUSE_CAUSE n)).setFld
    F.SC_FAULT_ACCESS n 0 t.access).setFld F.SC_FAULT_CAUSE n 0 t.cause).setFld F.SC_FAULT_PC_PC n 0 (s.sc.get n).pc).setFld
    F.SC_FAULT_ADDR_ADDR n 0 t.addr).setFld F.SC_STATUS_STATE n 0 3
  irqSample (0x340 + n) (s1.updSc n (fun k => { k with wait := .none, resp := {} }))

/-- Trap entry (R389); fetch starts anew at the handler (R387). -/
def scEntry (n : Nat) (t : STrap) (stpc : Nat) (s : State) : State :=
  let s1 := ((((((s.setFld F.S_STPC_STPC n 0 stpc).setFld F.S_SCAUSE_SLOT n 0 t.slot).setFld F.S_SCAUSE_ACCESS n 0 t.access).setFld
    F.S_SCAUSE_CAUSE n 0 t.cause).setFld F.S_STADDR_STADDR n 0 t.addr).setFld F.S_STINFO_STINFO n 0 t.info)
  let s2 := (s1.setFld F.S_SSTATUS_PIE n 0 (s.fld F.S_SSTATUS_IE n)).setFld F.S_SSTATUS_PLACT n 0 (s.fld F.S_SSTATUS_LACT n)
  let s3 := ((s2.clrFld F.S_SSTATUS_IE n).clrFld F.S_SSTATUS_LACT n).setBit F.S_SSTATUS_INTRAP n
  scFill n (s3.updSc n (fun k =>
    { k with ahead := [], pc := (s.fld F.S_SVEC_TVEC n * 64 + 2 * t.cause) % 4096, wait := .none, resp := {} }))

/-- A trap condition of a bundle: the trap, or FAULT_HALT in a handler. -/
def scTrap (n : Nat) (t : STrap) (stpc : Nat) (s : State) : State :=
  if s.bit F.S_SSTATUS_INTRAP n then scFaultHalt n t s else scEntry n t stpc s

/-! ### Checks before a bundle has effect (R373, R377, R383, R398) -/

/-- The registers that the MAC slot writes, numbered: V 0-31, ACC 64-67, IX 68-71, IXC 72-75, AP 80-87, ST 88-95,
CS 96-103, system registers from 128. -/
def macWrites : MacOp → List Nat
  | .nop | .bad => []
  | .mul op d _ _ _ _ => if op ≥ 7 then [64 + d % 4, 64 + (d % 4 ^^^ 1)] else [64 + d % 4]
  | .accAdd _ d _ _ _ => [64 + d % 4]
  | .accLd d _ _ _ => [64 + d % 4]
  | .accSra d _ => [64 + d % 4]
  | .accClr d => [64 + d % 4]
  | .ext _ rd _ _ _ _ => [rd % 32]
  | .search _ d _ _ _ _ _ => [64 + d % 4, 68 + d % 4, 72 + d % 4]
  | .alu _ _ _ rd _ => [rd % 32]

/-- The registers that a move slot writes. -/
def moveWrites : MoveOp → List Nat
  | .ld v i m pair => (if pair then [v % 32, (v + 1) % 32] else [v % 32]) ++ (if m % 4 = 0 then [] else [80 + i % 8])
  | .st _ i m _ => if m % 4 = 0 then [] else [80 + i % 8]
  | .mov d _ => [d % 32]
  | .mvi d _ => [d % 32]
  | .aadd _ i => [80 + i % 8]
  | .mvta _ i _ => [80 + i % 8]
  | .mvfa d _ _ => [d % 32]
  | .mvts _ i cs => [(if cs then 96 else 88) + i % 8]
  | .mvfs d _ _ => [d % 32]
  | .mvtacc _ d _ => [64 + d % 4]
  | .mvfacc d _ _ => [d % 32]
  | .mvtix _ d c => [(if c then 72 else 68) + d % 4]
  | .mvfix d _ _ => [d % 32]
  | .mfsr d _ => [d % 32]
  | .mtsr _ sr => [128 + sr % 32]
  | .lmvi d _ => [d % 32]
  | .lseta i _ _ _ => [80 + i % 8]
  | .lst i cs _ => [(if cs then 96 else 88) + i % 8]
  | .jmp _ link => if link then [128 + 0x0A] else []
  | .rep _ _ _ _ => [128 + 0x0B, 128 + 0x0C, 128 + 0x0D]
  | .rot => [128 + 2]
  | .rte => [128]
  | .nop | .bad | .branch _ _ _ | .ret | .syncC | .fence _ | .trap _ | .waiti | .raise _ => []

/-- Whether a move slot is ILLEGAL by itself, while a loop is active or not. -/
def moveIllegal (lact : Bool) : MoveOp → Bool
  | .bad => true
  | .mfsr _ sr => (ssrFind (sr % 32)).isNone
  | .mtsr _ sr => (ssrFind (sr % 32)).isNone || (lact && [2, 0x0B, 0x0C, 0x0D].contains (sr % 32))
  | .rep _ _ _ _ => lact
  | .rte => lact
  | _ => false

/-- Two lists share an element. -/
def clash (a b : List Nat) : Bool := a.any (fun x => b.contains x)

/-- The slot of an ILLEGAL condition: 1 M1, 2 M2, 0 the MAC slot or two slots that write one register. -/
def scIllegal (s : State) (n : Nat) (b : SBundle) : Option Nat :=
  let lact := s.bit F.S_SSTATUS_LACT n
  if moveIllegal lact b.m1 then some 1
  else if moveIllegal lact b.m2 then some 2
  else if b.mac = .bad || clash (macWrites b.mac) (moveWrites b.m1) || clash (macWrites b.mac) (moveWrites b.m2) ||
    clash (moveWrites b.m1) (moveWrites b.m2) then some 0
  else none

/-- The accesses of a bundle with their slots, M1's first. -/
def bundleAccs (s : State) (n : Nat) (b : SBundle) : List (Nat × ScAcc) :=
  ((moveAcc s n b.m1).toList.map (fun x => (1, x))) ++ ((moveAcc s n b.m2).toList.map (fun x => (2, x)))

/-- The trap condition of the bundle before any access is made, in the order of R388. -/
def scEarlyTrap (s : State) (n : Nat) (b : SBundle) : Option STrap :=
  match scIllegal s n b with
  | some slot => some { cause := scILLEGAL, slot := slot }
  | none =>
    let xs := bundleAccs s n b
    let mk (c : Nat) (x : Nat × ScAcc) : STrap := { cause := c, slot := x.1, access := if x.2.store then 3 else 2, addr := x.2.a.toNat }
    match xs.find? (fun x => x.2.a.toNat % x.2.size != 0) with
    | some x => some (mk scALIGN x)
    | none => (xs.find? (fun x => accBad s n x.2)).map (mk scADDRESS)

/-! ### Retirement -/

/-- Displacement of a branch (Table 12.9b): 10 bits, signed, from bundle `p`. -/
def scDisp (p disp : Nat) : Nat := (p + (if disp % 1024 < 512 then disp % 1024 else disp % 1024 + 4096 - 1024)) % 4096

/-- Whether a branch is taken. -/
def scTaken (cond : Nat) (v : SWord) : Bool :=
  match cond with
  | 0 => v == 0
  | 1 => v != 0
  | 2 => v.msb
  | _ => !v.msb

/-- The iteration count of REP (R383). -/
def repCount (s : State) (n : Nat) (imm : Bool) (c : Nat) : Nat := if imm then c % 512 + 1 else (s.svget n c).toNat

/-- The target of a transfer of control other than RTE and the loop end. -/
def scTarget (s : State) (n : Nat) (m2 : MoveOp) : Option Nat :=
  let p := (s.sc.get n).pc
  match m2 with
  | .branch c a d => if scTaken c (s.svget n a) then some (scDisp p d) else none
  | .jmp t _ => some (t % 4096)
  | .ret => some (s.fld F.S_LR_LR n)
  | _ => none

/-- The bundle ends an iteration (R383). -/
def atLoopEnd (s : State) (n : Nat) (m2 : MoveOp) : Bool :=
  s.bit F.S_SSTATUS_LACT n && (s.sc.get n).pc == s.fld F.S_LEND_LEND n && (scTarget s n m2).isNone

/-- LCOUNT after a loop end. -/
def lcountDown (s : State) (n : Nat) : Nat := (s.fld F.S_LCOUNT_LCOUNT n + 2 ^ 24 - 1) % 2 ^ 24

/-- The bundle that issues next after bundle `m2`, by its sequence (R382, R383, R391). -/
def scNext (s : State) (n : Nat) (m2 : MoveOp) : Nat :=
  let p := (s.sc.get n).pc
  match scTarget s n m2 with
  | some t => t
  | none => match m2 with
    | .rte => s.fld F.S_STPC_STPC n
    | .rep imm c _ len => if repCount s n imm c = 0 then (p + len + 1) % 4096 else (p + 1) % 4096
    | _ => if atLoopEnd s n m2 && lcountDown s n != 0 then s.fld F.S_LSTART_LSTART n else (p + 1) % 4096

/-- The bundle transfers control: what follows is not the next bundle in sequence, so fetch starts anew (R387). -/
def scJumps (s : State) (n : Nat) (m2 : MoveOp) : Bool :=
  (scTarget s n m2).isSome || m2 == .rte || (atLoopEnd s n m2 && lcountDown s n != 0) ||
  (match m2 with | .rep imm c _ _ => repCount s n imm c == 0 | _ => false)

/-- One rotation of the register names (R370). -/
def scRotate (n : Nat) (s : State) : State :=
  let r := scRot s n
  if r = 0 then s else s.setFld F.S_RCFG_RRB n 0 ((s.fld F.S_RCFG_RRB n + r - 1) % r)

/-- The cache takes a body as its own unless it has it (R394): it keeps what it holds under the same tag, else it is emptied;
of the bundles fetched ahead, those of the body are in it, so that the body is whole at the first loop-back (R395). -/
def scTag (n : Nat) (t : Nat × Nat) (s : State) : State :=
  s.updSc n (fun k => { k with tag := some t, held := scHold t k.ahead (if k.tag == some t then k.held else []) })

/-- The loop state after the bundle: a loop end, a transfer that leaves the loop, REP (R383, R394). A loop-back whose body
is not the cache's tag makes it so: after SYNC.C and after a handler's REP an active loop refills the cache on its next
iteration (R387, R395, R401). -/
def scLoop (s0 : State) (n : Nat) (m2 : MoveOp) (s : State) : State :=
  let p := (s0.sc.get n).pc
  if (scTarget s0 n m2).isSome then s.clrFld F.S_SSTATUS_LACT n
  else match m2 with
    | .rep imm c rot len =>
      let cnt := repCount s0 n imm c
      let s1 := ((s.setFld F.S_LSTART_LSTART n 0 (p + 1)).setFld F.S_LEND_LEND n 0 (p + len)).setFld F.S_LCOUNT_LCOUNT n 0 cnt
      if cnt = 0 then s1
      else scTag n ((p + 1) % 4096, (p + len) % 4096) ((s1.setBit F.S_SSTATUS_LACT n).updSc n (fun k => { k with loopRot := rot }))
    | _ =>
      if atLoopEnd s0 n m2 then
        let s1 := s.setFld F.S_LCOUNT_LCOUNT n 0 (lcountDown s0 n)
        let s2 := if (s0.sc.get n).loopRot then scRotate n s1 else s1
        let body := (s0.fld F.S_LSTART_LSTART n, s0.fld F.S_LEND_LEND n)
        if lcountDown s0 n = 0 then s2.clrFld F.S_SSTATUS_LACT n
        else if (s2.sc.get n).tag == some body then s2 else scTag n body (scRefetch n s2)
      else s

/-- Leaving the monitor by RTE (R739). -/
def scMonExit (n : Nat) (s : State) : State :=
  if s.bit F.DCTL_MONEXIT (8 + n) then
    ((s.clrFld F.DCTL_MON (8 + n)).clrFld F.DCTL_MONEXIT (8 + n)).updSc n (fun k => { k with stepArmed := s.bit F.DCTL_STEP (8 + n) })
  else s

/-- The other effects of the control operation in M2. -/
def scControl (s0 : State) (n : Nat) (m2 : MoveOp) (s : State) : State :=
  match m2 with
  | .jmp _ true => s.setFld F.S_LR_LR n 0 ((s0.sc.get n).pc + 1)
  | .rot => scRotate n s
  | .syncC => s.updSc n (fun k => { k with ahead := [], tag := none, held := [] })
  | .rte => scMonExit n (((s.setFld F.S_SSTATUS_IE n 0 (s0.fld F.S_SSTATUS_PIE n)).setFld F.S_SSTATUS_LACT n 0
      (s0.fld F.S_SSTATUS_PLACT n)).clrFld F.S_SSTATUS_INTRAP n)
  | .raise i => irqEdge (0x460 + 4 * n + i % 4) s
  | _ => s

/-- The initiator ID of signal core `n`. -/
def initSc (n : Nat) : Nat := 0x310 + n

/-- A request of a signal core with its key attribute, SKEY as it stood before the bundle `s0` (R373). -/
def scRequest (s0 : State) (n dev addr opc len : Nat) (data : List Byte) (why : Purpose) (s : State) : State :=
  s.request (initSc n) dev addr opc len data why (keyid := s0.fld F.S_SKEY_SKEY n)

/-- Part `p` of a 64-bit value replaced (Table 12.8). -/
def putPart (v p x w : Nat) : Nat := v - v / 2 ^ (24 * p) % 2 ^ w * 2 ^ (24 * p) + x % 2 ^ w * 2 ^ (24 * p)

/-- A store of a move slot (R366): to the core's own bank, or posted on the NoC. -/
def scStore (s0 : State) (n : Nat) (x : ScAcc) (s : State) : State :=
  match scResolve s0 n x.a with
  | .own off => scStoreWords n off (x.words s0 n) s
  | .noc dev addr => scRequest s0 n dev addr opWRITE (x.size - 1) ((x.words s0 n).flatMap container) (.scStore n x.a.toNat) s
  | .bad => s

/-- Writes APn. -/
def sapset (n i : Nat) (x : Word) (s : State) : State := s.updSc n (fun k => { k with ap := k.ap.set (i % 8) x })

/-- The effect of a move slot; `ws` are the words that its load returned. -/
def moveExec (s0 : State) (n : Nat) (op : MoveOp) (ws : List Nat) (s : State) : State :=
  let k0 := s0.sc.get n
  let v (i : Nat) : Nat := (s0.svget n i).toNat
  let put (d x : Nat) : State := svset s0 n d (BitVec.ofNat 24 x) s
  match op with
  | .ld d i m pair =>
    let s1 := svset s0 n d (BitVec.ofNat 24 (ws.getD 0 0)) s
    let s2 := if pair then svset s0 n (d + 1) (BitVec.ofNat 24 (ws.getD 1 0)) s1 else s1
    if m % 4 = 0 then s2 else sapset n i (apMode k0 i m) s2
  | .st _ i m _ => if m % 4 = 0 then s else sapset n i (apMode k0 i m) s
  | .mov d a => put d (v a)
  | .mvi d imm => put d (if imm % 1024 < 512 then imm % 1024 else imm % 1024 + 2 ^ 24 - 1024)
  | .aadd a i => sapset n i (apAdd (k0.ap.get (i % 8)) (k0.cs.get (i % 8)) (s0.svget n a).toInt) s
  | .mvta a i p => sapset n i (BitVec.ofNat 64 (putPart (k0.ap.get (i % 8)).toNat p (v a) (if p = 2 then 16 else 24))) s
  | .mvfa d i p => put d ((k0.ap.get (i % 8)).toNat / 2 ^ (24 * p) % 2 ^ (if p = 2 then 16 else 24))
  | .mvts a i cs => s.updSc n (fun k => if cs then { k with cs := k.cs.set (i % 8) (s0.svget n a) }
      else { k with st := k.st.set (i % 8) (s0.svget n a) })
  | .mvfs d i cs => put d (if cs then k0.cs.get (i % 8) else k0.st.get (i % 8)).toNat
  | .mvtacc a d p => saset n d (BitVec.ofNat 56 (putPart (s0.saget n d).toNat p (v a) (if p = 2 then 8 else 24))) s
  | .mvfacc d c p =>
    let x := (s0.saget n c).toNat / 2 ^ (24 * p)
    put d (if p = 2 then (if bitOf x 7 then x % 256 + 2 ^ 24 - 256 else x % 256) else x % 2 ^ 24)
  | .mvtix a d c => s.updSc n (fun k => if c then { k with ixc := k.ixc.set (d % 4) (v a % 2 ^ 16) }
      else { k with ix := k.ix.set (d % 4) (v a % 2 ^ 16) })
  | .mvfix d c i => put d (if i then k0.ixc.get (c % 4) else k0.ix.get (c % 4))
  | .mfsr d sr => match ssrFind (sr % 32) with | some (r, i) => put d (ssrRead s0 n r i) | none => s
  | .mtsr a sr => match ssrFind (sr % 32) with | some (r, i) => ssrWrite n r i (v a) s | none => s
  | .lmvi d imm => put d imm
  | .lseta i q imm ins => sapset n i (BitVec.ofNat 64 (putPart (if ins then (k0.ap.get (i % 8)).toNat else 0) q imm (if q = 2 then 16 else 24))) s
  | .lst i cs imm => s.updSc n (fun k => if cs then { k with cs := k.cs.set (i % 8) (BitVec.ofNat 24 imm) }
      else { k with st := k.st.set (i % 8) (BitVec.ofNat 24 imm) })
  | .nop | .bad | .branch _ _ _ | .jmp _ _ | .ret | .rep _ _ _ _ | .rot | .syncC | .fence _ | .rte | .trap _ | .waiti | .raise _ => s

/-- Data comparators after the accesses of a bundle (R732, R735). -/
def scDataCmp (s0 : State) (n : Nat) (b : SBundle) (s : State) : State :=
  if s0.bit F.S_SSTATUS_INTRAP n || s0.bit F.DCTL_MON (8 + n) then s
  else
    let xs := bundleAccs s0 n b
    let hit (k : Nat) (x : Nat × ScAcc) : Bool := (cmpData s0 (8 + n) x.2.a.toNat x.2.size (!x.2.store) x.2.store false none).contains k
    let ms := ((List.range 8).map (· + 8)).filter (fun k => xs.any (hit k))
    if ms.isEmpty then s
    else match cmpCount (8 + n) ms s with
      | (some k, s1) => s1.updSc n (fun v => if v.dbg = 0 then
          { v with dbg := 0x3000 + k, dbgAddr := ((xs.find? (hit k)).map (fun x => x.2.a.toNat)).getD 0 } else v)
      | (none, s1) => s1

/-- The bundle retires: SC_PC, the next bundle with fetch ahead of it, an armed step (R739), SKIP (R738). -/
def scRetire (n npc : Nat) (s : State) : State :=
  let quiet := !s.bit F.S_SSTATUS_INTRAP n && !s.bit F.DCTL_MON (8 + n)
  let s1 := (s.setFld F.SC_PC_PC n 0 (s.sc.get n).pc).updSc n (fun k =>
    { k with pc := npc % 4096, wait := .none, resp := {},
             dbg := if k.stepArmed && quiet && k.dbg = 0 then 0x4000 else k.dbg,
             stepArmed := k.stepArmed && !quiet })
  scFill n (if quiet then s1.clrFld F.DSTATUS_SKIP (8 + n) else s1)

/-- Requests of signal core `n` that are out. -/
def scOut (s : State) (n : Nat) : Bool := !(outstanding s (initSc n)).isEmpty

/-- Something that ends WAIT is pending (R392). -/
def scWakes (s : State) (n : Nat) : Bool := (irqPresented s (tgtSc n)).isSome || (s.sc.get n).sbus || (s.sc.get n).dbg != 0

/-- A core that waited for earlier accesses goes on when none is out. -/
def scDrainDone (n : Nat) (w : Bool) (s : State) : State :=
  if scOut s n then s
  else
    let s1 := s.updSc n (fun k => { k with wait := .none })
    if w && !scWakes s1 n then s1.setFld F.SC_STATUS_STATE n 0 2 else s1

/-- Where an access lies: the core's own memories, as device 0x1000, or a device and address on the NoC. -/
def scPlace (s : State) (n : Nat) (a : Word) : Option (Nat × Nat) :=
  match scResolve s n a with | .own o => some (0x1000, o) | .noc d l => some (d, l) | .bad => none

/-- What M1 stores in the `j`th word that M2 loads; none where it does not write that word (R377). -/
def stored (s0 : State) (n : Nat) (st ld : Option ScAcc) (j : Nat) : Option Nat :=
  match st, ld with
  | some x, some y =>
    if !x.store || y.store then none
    else match scPlace s0 n x.a, scPlace s0 n y.a with
      | some (d1, o1), some (d2, o2) =>
        let o := o2 + 4 * j
        if d1 = d2 ∧ o1 ≤ o ∧ o < o1 + x.size then some ((x.words s0 n).getD ((o - o1) / 4) 0) else none
      | _, _ => none
  | _, _ => none

/-- The words of a load from the core's own memories at offset `off`, with poison and the state after the reads; a word that
the bundle's other slot has stored, `fwd`, is not read from the bank. -/
def scOwnLoad (n off : Nat) (fwd : Nat → Option Nat) (c : Nat) (s : State) : List Nat × Bool × State :=
  (List.range c).foldl (fun r j => match fwd j with
    | some w => (r.1 ++ [w], r.2)
    | none => let l := scLoadWord n (off + 4 * j) r.2.2; (r.1 ++ [l.1], r.2.1 || l.2.1, l.2.2)) ([], false, s)

/-- What has come for the load of a slot while its bundle waited for loads. -/
def scResp (s : State) (n slot : Nat) : Option (Nat × Bool × List Byte) :=
  match (s.sc.get n).wait with
  | .loads _ => (s.sc.get n).resp.get slot
  | _ => none

/-- The words that a load of a slot returned: its own memories' now, or those that its response or an earlier read left;
with poison and the state after the reads. Poison of a response counts unless the bundle's store gives every word. -/
def scLoaded (s0 : State) (n slot : Nat) (x : Option ScAcc) (fwd : Nat → Option Nat) (s : State) : List Nat × Bool × State :=
  match x with
  | none => ([], false, s)
  | some x =>
    if x.store then ([], false, s)
    else match scResp s0 n slot, scResolve s0 n x.a with
      | some (_, bad, d), _ =>
        let js := List.range (x.size / 4)
        (js.map (fun j => (fwd j).getD (ofBytesLE ((d.drop (4 * j)).take 4) % 2 ^ 24)), bad && js.any (fun j => (fwd j).isNone), s)
      | none, .own off => scOwnLoad n off fwd (x.size / 4) s
      | none, _ => ([], false, s)

/-- Both slots load from banks of their own in one cycle, and M2's bytes lie lower: R124 logs the lowest ARRAY, then BYTE. -/
def m2Lower (s0 : State) (n : Nat) (x1 x2 : Option ScAcc) : Bool :=
  match x1.bind (fun x => scPlace s0 n x.a), x2.bind (fun x => scPlace s0 n x.a) with
  | some (0x1000, a), some (0x1000, b) => decide (b / 0x1_0000 < a / 0x1_0000)
  | _, _ => false

/-- The loads of both slots: M1's words and poison, M2's, and the state after the reads. M1's access is made first (R367). -/
def scLoads (s0 : State) (n : Nat) (x1 x2 : Option ScAcc) (s : State) : (List Nat × Bool) × (List Nat × Bool) × State :=
  let one (s : State) := scLoaded s0 n 1 x1 (fun _ => none) s
  let two (s : State) := scLoaded s0 n 2 x2 (stored s0 n x1 x2) s
  if m2Lower s0 n x1 x2 then
    let r2 := two s
    let r1 := one r2.2.2
    ((r1.1, r1.2.1), (r2.1, r2.2.1), r1.2.2)
  else
    let r1 := one s
    let r2 := two r1.2.2
    ((r1.1, r1.2.1), (r2.1, r2.2.1), r2.2.2)

/-- The error status of a slot's NoC load, 0 when it has none. -/
def respErr (s : State) (n slot : Nat) (x : Option ScAcc) : Nat :=
  match x with
  | some a =>
    (match a.store, scResolve s n a.a with
     | false, .noc _ _ => ((scResp s n slot).map (·.1)).getD 0
     | _, _ => 0)
  | none => 0

/-- The bundle's accesses have their data: the late trap conditions of R388 in order, or the bundle's effect. -/
def scFinish (n : Nat) (b : SBundle) (s0 : State) : State :=
  let x1 := moveAcc s0 n b.m1
  let x2 := moveAcc s0 n b.m2
  let pc := (s0.sc.get n).pc
  let at_ (x : Option ScAcc) : Nat := (x.map (·.a.toNat)).getD 0
  let ((w1, p1), (w2, p2), sb) := scLoads s0 n x1 x2 s0
  if respErr s0 n 1 x1 ≠ 0 then scTrap n { cause := scBUS, slot := 1, access := 2, addr := at_ x1, info := respErr s0 n 1 x1 } pc sb
  else if respErr s0 n 2 x2 ≠ 0 then scTrap n { cause := scBUS, slot := 2, access := 2, addr := at_ x2, info := respErr s0 n 2 x2 } pc sb
  else
    if p1 then scTrap n { cause := scPOISON, slot := 1, access := 2, addr := at_ x1 } pc sb
    else if p2 then scTrap n { cause := scPOISON, slot := 2, access := 2, addr := at_ x2 } pc sb
    else match b.m2 with
    | .trap i => scTrap n { cause := scSWTRAP, slot := 2, info := i % 256 } (scNext s0 n b.m2) sb
    | m2 =>
      let s1 := macExec s0 n b.mac sb
      let s2 := moveExec s0 n b.m1 w1 s1
      let s3 := moveExec s0 n m2 w2 s2
      let s4 := match x1 with | some x => if x.store then scStore s0 n x s3 else s3 | none => s3
      let ownM2 : Option Nat := match x2 with
        | some x => if x.store then (match scResolve s0 n x.a with | .own off => some off | _ => none) else none
        | none => none
      let held := ownM2.isSome && scOut s4 n
      let s5 := match x2 with | some x => if x.store && !held then scStore s0 n x s4 else s4 | none => s4
      let s5a := scControl s0 n m2 (scLoop s0 n m2 s5)
      let s6 := scRetire n (scNext s0 n m2) (scDataCmp s0 n b (if scJumps s0 n m2 then scRefetch n s5a else s5a))
      if held then s6.updSc n (fun k => { k with wait := .heldStore (ownM2.getD 0) ((x2.map (fun x => x.words s0 n)).getD []) })
      else match m2 with
        | .fence _ => scDrainDone n false (s6.updSc n (fun k => { k with wait := .drain false }))
        | .waiti => scDrainDone n true (s6.updSc n (fun k => { k with wait := .drain true }))
        | _ => s6

/-- The NoC loads of a bundle: slot, device, address, length. -/
def nocLoads (s : State) (n : Nat) (b : SBundle) : List (Nat × Nat × Nat × Nat) :=
  (bundleAccs s n b).filterMap (fun x => if x.2.store then none
    else match scResolve s n x.2.a with | .noc dev addr => some (x.1, dev, addr, x.2.size) | _ => none)

/-- A load of M1 from the core's own banks is performed before M2's NoC load goes out (R385): its words are kept. -/
def scFirst (n : Nat) (b : SBundle) (s : State) : State :=
  match moveAcc s n b.m1 with
  | some x => if x.store then s else match scResolve s n x.a with
    | .own _ =>
      let r := scLoaded s n 1 (some x) (fun _ => none) s
      r.2.2.updSc n (fun k => { k with resp := k.resp.set 1 (some (0, r.2.1, r.1.flatMap (bytesLE 4))) })
    | _ => s
  | none => s

/-- A bundle that passed its checks starts its accesses, or finishes when it has no NoC load. -/
def scStart (n : Nat) (b : SBundle) (s : State) : State :=
  let own := (bundleAccs s n b).any (fun x => x.2.store && (match scResolve s n x.2.a with | .own _ => true | _ => false))
  if own && scOut s n then s.updSc n (fun k => { k with wait := .order b })
  else if (nocLoads s n b).isEmpty then scFinish n b s
  else forL (nocLoads s n b) (fun x s => scRequest s n x.2.1 x.2.2.1 opREAD (x.2.2.2 - 1) [] (.scRead n x.1) s)
    (scFirst n b (s.updSc n (fun k => { k with wait := .loads b, resp := {} })))

/-- The response to the load of slot `slot` arrives. -/
def scArrived (n slot status : Nat) (bad : Bool) (d : List Byte) (s : State) : State :=
  let s1 := s.updSc n (fun k => { k with resp := k.resp.set slot (some (status, bad, d)) })
  match (s.sc.get n).wait with
  | .loads b => if (nocLoads s1 n b).all (fun x => ((s1.sc.get n).resp.get x.1).isSome) then scFinish n b s1 else s1
  | _ => s

/-- A response to a request of core `n` has come: what waits for earlier accesses goes on. -/
def scDrained (n : Nat) (s : State) : State :=
  if scOut s n then s
  else match (s.sc.get n).wait with
    | .order b => scStart n b (s.updSc n (fun k => { k with wait := .none }))
    | .heldStore off ws => (scStoreWords n off ws s).updSc n (fun k => { k with wait := .none })
    | .drain w => scDrainDone n w s
    | _ => s

/-- An error response to a posted store of core `n` (R386, R254). -/
def scStoreErr (n code : Nat) (addr : Nat) (s : State) : State :=
  let s1 := s.bump F.S_SERR_COUNT n
  if s.bit F.S_SERR_VALID n then s1
  else (((s1.setFld F.S_SERR_ADDR_ADDR n 0 addr).setFld F.S_SERR_CODE n 0 code).setBit F.S_SERR_VALID n).updSc n (fun k => { k with sbus := true })

/-- Signal core `n` may issue: it runs, waits for nothing, and no SBUS, debug event or interrupt is taken first (R388). -/
def scReady (s : State) (n : Nat) : Bool :=
  n < 96 && s.dev = .run && domRuns s 2 && s.fld F.SC_STATUS_STATE n == 1 && !underTest s 3 n && (s.sc.get n).wait = .none &&
  (s.bit F.S_SSTATUS_INTRAP n ||
    (!(s.sc.get n).sbus && (s.sc.get n).dbg == 0 && !(s.bit F.S_SSTATUS_IE n && (irqPresented s (tgtSc n)).isSome)))

/-- Instruction comparators at the next bundle (R732, R733, R738). -/
def scBreak (n : Nat) (s : State) : Bool × State :=
  if s.bit F.S_SSTATUS_INTRAP n || s.bit F.DCTL_MON (8 + n) || s.bit F.DSTATUS_SKIP (8 + n) then (false, s)
  else
    let p := (s.sc.get n).pc
    let ms := cmpInstr s (8 + n) p false none
    if ms.isEmpty then (false, s)
    else match cmpCount (8 + n) ms s with
      | (some k, s1) => (true, s1.updSc n (fun v => { v with dbg := 0x2000 + k, dbgAddr := p }))
      | (none, s1) => (false, s1)

/-- Core address of a bundle: its place in the private alias (R364). -/
def codeAddr (p : Nat) : Nat := 0x2008_00E0_0000_0000 + 0x2_0000 + 8 * p

/-- Signal core `n` issues the bundle that fetch delivers (R376, R377, R388). -/
def scIssue (n : Nat) (b : SBundle) (s : State) : State :=
  if !scReady s n then s
  else
    let pc := (s.sc.get n).pc
    let f := scFetch n s
    if f.1 then scTrap n { cause := scPOISON, slot := 3, access := 1, addr := codeAddr pc } pc f.2
    else match scBreak n f.2 with
      | (true, s1) => s1
      | (false, s1) =>
        match scEarlyTrap s1 n b with
        | some t => scTrap n t pc s1
        | none => scStart n b s1

end Sys2Proof.Machine
end

