-- ==== Sys2Proof/Machine/SignalOps.lean ====
section
/-!
DEFINITION. The signal-core commands (chapters 12, 13). A command is the issue of the bundle at the core's next index:
it names one slot operation with its fields and gives the words of the other slots. `mbz` holds the bits that the slot's
layout marks 0.
-/
namespace Sys2Proof.Machine

/-- A slot operation whose must-be-zero bits are 0, else a reserved one. -/
def macField (mbz : Nat) (op : MacOp) : MacOp := if mbz = 0 then op else .bad
def moveField (mbz : Nat) (op : MoveOp) : MoveOp := if mbz = 0 then op else .bad

/-- A bundle given by its MAC operation and the words of M1 and M2. -/
def scMacCmd (n : Nat) (op : MacOp) (x1 x2 : BitVec 20) (s : State) : Res :=
  .next (scIssue n { mac := op, m1 := (movesOf x1 x2).1, m2 := (movesOf x1 x2).2 } s)

/-- A bundle given by a move operation in M1 or M2, the MAC word and the word of the other move slot. -/
def scMoveCmd (n : Nat) (two : Bool) (op : MoveOp) (mac : BitVec 24) (x : BitVec 20) (s : State) : Res :=
  .next (scIssue n (if two then { mac := macOf mac, m1 := moveOf false x, m2 := op }
    else { mac := macOf mac, m1 := op, m2 := moveOf true x }) s)

/-- A bundle given by a long operation and the MAC word. -/
def scLongCmd (n : Nat) (op : MoveOp) (mac : BitVec 24) (s : State) : Res := .next (scIssue n { mac := macOf mac, m1 := op } s)

/-- A bundle given by a control operation in M2, the MAC word and the word of M1. -/
def scCtlCmd (n : Nat) (op : MoveOp) (mac : BitVec 24) (x1 : BitVec 20) (s : State) : Res :=
  .next (scIssue n { mac := macOf mac, m1 := moveOf false x1, m2 := op } s)

/-! ### MAC slot (Table 12.6) -/

/-- R376. NOP. -/
def execScMacNop (n : Nat) (x1 x2 : BitVec 20) (s : State) : Res := scMacCmd n .nop x1 x2 s

/-- R378. MUL. -/
def execScMul (n d a b : Nat) (sat uns : Bool) (mbz : Nat) (x1 x2 : BitVec 20) (s : State) : Res :=
  scMacCmd n (macField mbz (.mul 1 d a b sat uns)) x1 x2 s

/-- R378. MAC. -/
def execScMac (n d a b : Nat) (sat uns : Bool) (mbz : Nat) (x1 x2 : BitVec 20) (s : State) : Res :=
  scMacCmd n (macField mbz (.mul 2 d a b sat uns)) x1 x2 s

/-- R378. MSU. -/
def execScMsu (n d a b : Nat) (sat uns : Bool) (mbz : Nat) (x1 x2 : BitVec 20) (s : State) : Res :=
  scMacCmd n (macField mbz (.mul 3 d a b sat uns)) x1 x2 s

/-- R378. DMUL. -/
def execScDmul (n d a b : Nat) (sat uns : Bool) (mbz : Nat) (x1 x2 : BitVec 20) (s : State) : Res :=
  scMacCmd n (macField mbz (.mul 4 d a b sat uns)) x1 x2 s

/-- R378. DMAC. -/
def execScDmac (n d a b : Nat) (sat uns : Bool) (mbz : Nat) (x1 x2 : BitVec 20) (s : State) : Res :=
  scMacCmd n (macField mbz (.mul 5 d a b sat uns)) x1 x2 s

/-- R378. DMSU. -/
def execScDmsu (n d a b : Nat) (sat uns : Bool) (mbz : Nat) (x1 x2 : BitVec 20) (s : State) : Res :=
  scMacCmd n (macField mbz (.mul 6 d a b sat uns)) x1 x2 s

/-- R378. PMUL. -/
def execScPmul (n d a b : Nat) (sat uns : Bool) (mbz : Nat) (x1 x2 : BitVec 20) (s : State) : Res :=
  scMacCmd n (macField mbz (.mul 7 d a b sat uns)) x1 x2 s

/-- R378. PMAC. -/
def execScPmac (n d a b : Nat) (sat uns : Bool) (mbz : Nat) (x1 x2 : BitVec 20) (s : State) : Res :=
  scMacCmd n (macField mbz (.mul 8 d a b sat uns)) x1 x2 s

/-- R378. ACCADD. -/
def execScAccadd (n d src : Nat) (sat uns : Bool) (mbz : Nat) (x1 x2 : BitVec 20) (s : State) : Res :=
  scMacCmd n (macField mbz (.accAdd false d src sat uns)) x1 x2 s

/-- R378. ACCSUB. -/
def execScAccsub (n d src : Nat) (sat uns : Bool) (mbz : Nat) (x1 x2 : BitVec 20) (s : State) : Res :=
  scMacCmd n (macField mbz (.accAdd true d src sat uns)) x1 x2 s

/-- R378. ACCLD. -/
def execScAccld (n d a k : Nat) (uns : Bool) (mbz : Nat) (x1 x2 : BitVec 20) (s : State) : Res :=
  scMacCmd n (macField mbz (.accLd d a (k % 32) uns)) x1 x2 s

/-- R378. ACCSRA. -/
def execScAccsra (n d k : Nat) (mbz : Nat) (x1 x2 : BitVec 20) (s : State) : Res :=
  scMacCmd n (macField mbz (.accSra d (k % 64))) x1 x2 s

/-- R378. ACCCLR. -/
def execScAccclr (n d : Nat) (mbz : Nat) (x1 x2 : BitVec 20) (s : State) : Res :=
  scMacCmd n (macField mbz (.accClr d)) x1 x2 s

/-- R380. EXT; RND 3 is ILLEGAL. -/
def execScExt (n src rd shift rnd : Nat) (sat24 uns : Bool) (mbz : Nat) (x1 x2 : BitVec 20) (s : State) : Res :=
  scMacCmd n (macField mbz (if rnd % 4 = 3 then .bad else .ext src rd (shift % 64) (rnd % 4) sat24 uns)) x1 x2 s

/-- R381. SMIN. -/
def execScSmin (n d a : Nat) (f dual u abs : Bool) (mbz : Nat) (x1 x2 : BitVec 20) (s : State) : Res :=
  scMacCmd n (macField mbz (.search false d a f dual u abs)) x1 x2 s

/-- R381. SMAX. -/
def execScSmax (n d a : Nat) (f dual u abs : Bool) (mbz : Nat) (x1 x2 : BitVec 20) (s : State) : Res :=
  scMacCmd n (macField mbz (.search true d a f dual u abs)) x1 x2 s

/-- R379. ADD. -/
def execScAdd (n a b rd : Nat) (sat : Bool) (mbz : Nat) (x1 x2 : BitVec 20) (s : State) : Res :=
  scMacCmd n (macField mbz (.alu 0x11 a b rd sat)) x1 x2 s

/-- R379. SUB. -/
def execScSub (n a b rd : Nat) (sat : Bool) (mbz : Nat) (x1 x2 : BitVec 20) (s : State) : Res :=
  scMacCmd n (macField mbz (.alu 0x12 a b rd sat)) x1 x2 s

/-- R379. NEG. -/
def execScNeg (n a rd : Nat) (sat : Bool) (mbz : Nat) (x1 x2 : BitVec 20) (s : State) : Res :=
  scMacCmd n (macField mbz (.alu 0x13 a 0 rd sat)) x1 x2 s

/-- R379. ABS. -/
def execScAbs (n a rd : Nat) (sat : Bool) (mbz : Nat) (x1 x2 : BitVec 20) (s : State) : Res :=
  scMacCmd n (macField mbz (.alu 0x14 a 0 rd sat)) x1 x2 s

/-- R379. MIN. SAT must be 0. -/
def execScMin (n a b rd : Nat) (sat : Bool) (mbz : Nat) (x1 x2 : BitVec 20) (s : State) : Res :=
  scMacCmd n (macField mbz (if sat then .bad else .alu 0x15 a b rd false)) x1 x2 s

/-- R379. MAX. SAT must be 0. -/
def execScMax (n a b rd : Nat) (sat : Bool) (mbz : Nat) (x1 x2 : BitVec 20) (s : State) : Res :=
  scMacCmd n (macField mbz (if sat then .bad else .alu 0x16 a b rd false)) x1 x2 s

/-- R379. AND. SAT must be 0. -/
def execScAnd (n a b rd : Nat) (sat : Bool) (mbz : Nat) (x1 x2 : BitVec 20) (s : State) : Res :=
  scMacCmd n (macField mbz (if sat then .bad else .alu 0x17 a b rd false)) x1 x2 s

/-- R379. OR. SAT must be 0. -/
def execScOr (n a b rd : Nat) (sat : Bool) (mbz : Nat) (x1 x2 : BitVec 20) (s : State) : Res :=
  scMacCmd n (macField mbz (if sat then .bad else .alu 0x18 a b rd false)) x1 x2 s

/-- R379. XOR. SAT must be 0. -/
def execScXor (n a b rd : Nat) (sat : Bool) (mbz : Nat) (x1 x2 : BitVec 20) (s : State) : Res :=
  scMacCmd n (macField mbz (if sat then .bad else .alu 0x19 a b rd false)) x1 x2 s

/-- R379. SHL. -/
def execScShl (n a b rd : Nat) (sat : Bool) (mbz : Nat) (x1 x2 : BitVec 20) (s : State) : Res :=
  scMacCmd n (macField mbz (.alu 0x1A a b rd sat)) x1 x2 s

/-- R379. SHR. SAT must be 0. -/
def execScShr (n a b rd : Nat) (sat : Bool) (mbz : Nat) (x1 x2 : BitVec 20) (s : State) : Res :=
  scMacCmd n (macField mbz (if sat then .bad else .alu 0x1B a b rd false)) x1 x2 s

/-- R379. SRA. SAT must be 0. -/
def execScSra (n a b rd : Nat) (sat : Bool) (mbz : Nat) (x1 x2 : BitVec 20) (s : State) : Res :=
  scMacCmd n (macField mbz (if sat then .bad else .alu 0x1C a b rd false)) x1 x2 s

/-- R379. FMUL. SAT must be 0. -/
def execScFmul (n a b rd : Nat) (sat : Bool) (mbz : Nat) (x1 x2 : BitVec 20) (s : State) : Res :=
  scMacCmd n (macField mbz (if sat then .bad else .alu 0x20 a b rd false)) x1 x2 s

/-- R379. SHLI. -/
def execScShli (n a k rd : Nat) (sat : Bool) (mbz : Nat) (x1 x2 : BitVec 20) (s : State) : Res :=
  scMacCmd n (macField mbz (.alu 0x1D a (k % 32) rd sat)) x1 x2 s

/-- R379. SHRI. SAT must be 0. -/
def execScShri (n a k rd : Nat) (sat : Bool) (mbz : Nat) (x1 x2 : BitVec 20) (s : State) : Res :=
  scMacCmd n (macField mbz (if sat then .bad else .alu 0x1E a (k % 32) rd false)) x1 x2 s

/-- R379. SRAI. SAT must be 0. -/
def execScSrai (n a k rd : Nat) (sat : Bool) (mbz : Nat) (x1 x2 : BitVec 20) (s : State) : Res :=
  scMacCmd n (macField mbz (if sat then .bad else .alu 0x1F a (k % 32) rd false)) x1 x2 s

/-! ### Move slots (Table 12.8) -/

/-- R376. MNOP. -/
def execScMnop (n : Nat) (two : Bool) (mac : BitVec 24) (x : BitVec 20) (s : State) : Res := scMoveCmd n two .nop mac x s

/-- R366. LD. -/
def execScLd (n : Nat) (two : Bool) (v i m : Nat) (pair : Bool) (mbz : Nat) (mac : BitVec 24) (x : BitVec 20) (s : State) : Res :=
  scMoveCmd n two (moveField mbz (.ld v i m pair)) mac x s

/-- R366. ST. -/
def execScSt (n : Nat) (two : Bool) (v i m : Nat) (pair : Bool) (mbz : Nat) (mac : BitVec 24) (x : BitVec 20) (s : State) : Res :=
  scMoveCmd n two (moveField mbz (.st v i m pair)) mac x s

/-- R377. MOV. -/
def execScMov (n : Nat) (two : Bool) (d a : Nat) (mbz : Nat) (mac : BitVec 24) (x : BitVec 20) (s : State) : Res :=
  scMoveCmd n two (moveField mbz (.mov d a)) mac x s

/-- R377. MVI. -/
def execScMvi (n : Nat) (two : Bool) (d : Nat) (imm : BitVec 10) (mac : BitVec 24) (x : BitVec 20) (s : State) : Res :=
  scMoveCmd n two (.mvi d imm.toNat) mac x s

/-- R374. AADD. -/
def execScAadd (n : Nat) (two : Bool) (a i : Nat) (mbz : Nat) (mac : BitVec 24) (x : BitVec 20) (s : State) : Res :=
  scMoveCmd n two (moveField mbz (.aadd a i)) mac x s

/-- R372. MVTA; part 3 is ILLEGAL. -/
def execScMvta (n : Nat) (two : Bool) (a i p : Nat) (mbz : Nat) (mac : BitVec 24) (x : BitVec 20) (s : State) : Res :=
  scMoveCmd n two (moveField mbz (if p < 3 then .mvta a i p else .bad)) mac x s

/-- R372. MVFA; part 3 is ILLEGAL. -/
def execScMvfa (n : Nat) (two : Bool) (d i p : Nat) (mbz : Nat) (mac : BitVec 24) (x : BitVec 20) (s : State) : Res :=
  scMoveCmd n two (moveField mbz (if p < 3 then .mvfa d i p else .bad)) mac x s

/-- R372. MVTS. -/
def execScMvts (n : Nat) (two : Bool) (a i : Nat) (cs : Bool) (mbz : Nat) (mac : BitVec 24) (x : BitVec 20) (s : State) : Res :=
  scMoveCmd n two (moveField mbz (.mvts a i cs)) mac x s

/-- R372. MVFS. -/
def execScMvfs (n : Nat) (two : Bool) (d i : Nat) (cs : Bool) (mbz : Nat) (mac : BitVec 24) (x : BitVec 20) (s : State) : Res :=
  scMoveCmd n two (moveField mbz (.mvfs d i cs)) mac x s

/-- R372. MVTACC; part 3 is ILLEGAL. -/
def execScMvtacc (n : Nat) (two : Bool) (a acc p : Nat) (mbz : Nat) (mac : BitVec 24) (x : BitVec 20) (s : State) : Res :=
  scMoveCmd n two (moveField mbz (if p < 3 then .mvtacc a acc p else .bad)) mac x s

/-- R372. MVFACC; part 3 is ILLEGAL. -/
def execScMvfacc (n : Nat) (two : Bool) (d acc p : Nat) (mbz : Nat) (mac : BitVec 24) (x : BitVec 20) (s : State) : Res :=
  scMoveCmd n two (moveField mbz (if p < 3 then .mvfacc d acc p else .bad)) mac x s

/-- R372. MVTIX. -/
def execScMvtix (n : Nat) (two : Bool) (a acc : Nat) (c : Bool) (mbz : Nat) (mac : BitVec 24) (x : BitVec 20) (s : State) : Res :=
  scMoveCmd n two (moveField mbz (.mvtix a acc c)) mac x s

/-- R372. MVFIX. -/
def execScMvfix (n : Nat) (two : Bool) (d acc : Nat) (c : Bool) (mbz : Nat) (mac : BitVec 24) (x : BitVec 20) (s : State) : Res :=
  scMoveCmd n two (moveField mbz (.mvfix d acc c)) mac x s

/-- R373. MFSR. -/
def execScMfsr (n : Nat) (two : Bool) (d sr : Nat) (mbz : Nat) (mac : BitVec 24) (x : BitVec 20) (s : State) : Res :=
  scMoveCmd n two (moveField mbz (.mfsr d sr)) mac x s

/-- R373. MTSR. -/
def execScMtsr (n : Nat) (two : Bool) (a sr : Nat) (mbz : Nat) (mac : BitVec 24) (x : BitVec 20) (s : State) : Res :=
  scMoveCmd n two (moveField mbz (.mtsr a sr)) mac x s

/-! ### Long operations (Table 12.9a) -/

/-- R376. LMVI. -/
def execScLmvi (n : Nat) (d : Nat) (imm : BitVec 24) (mbz : Nat) (mac : BitVec 24) (s : State) : Res :=
  scLongCmd n (moveField mbz (.lmvi d imm.toNat)) mac s

/-- R376. LSETA; part 3, and bits above a 16-bit part, are ILLEGAL. -/
def execScLseta (n : Nat) (i q : Nat) (imm : BitVec 24) (mbz : Nat) (mac : BitVec 24) (s : State) : Res :=
  scLongCmd n (moveField mbz (if q < 2 || (q = 2 && decide (imm.toNat < 65536)) then .lseta i q imm.toNat false else .bad)) mac s

/-- R376. LINSA; part 3, and bits above a 16-bit part, are ILLEGAL. -/
def execScLinsa (n : Nat) (i q : Nat) (imm : BitVec 24) (mbz : Nat) (mac : BitVec 24) (s : State) : Res :=
  scLongCmd n (moveField mbz (if q < 2 || (q = 2 && decide (imm.toNat < 65536)) then .lseta i q imm.toNat true else .bad)) mac s

/-- R376. LST. -/
def execScLst (n : Nat) (i : Nat) (cs : Bool) (imm : BitVec 24) (mbz : Nat) (mac : BitVec 24) (s : State) : Res :=
  scLongCmd n (moveField mbz (.lst i cs imm.toNat)) mac s

/-! ### Control operations (Table 12.9b) -/

/-- R382. BZ. -/
def execScBz (n : Nat) (a : Nat) (disp : BitVec 10) (mac : BitVec 24) (x1 : BitVec 20) (s : State) : Res :=
  scCtlCmd n (.branch 0 a disp.toNat) mac x1 s

/-- R382. BNZ. -/
def execScBnz (n : Nat) (a : Nat) (disp : BitVec 10) (mac : BitVec 24) (x1 : BitVec 20) (s : State) : Res :=
  scCtlCmd n (.branch 1 a disp.toNat) mac x1 s

/-- R382. BLTZ. -/
def execScBltz (n : Nat) (a : Nat) (disp : BitVec 10) (mac : BitVec 24) (x1 : BitVec 20) (s : State) : Res :=
  scCtlCmd n (.branch 2 a disp.toNat) mac x1 s

/-- R382. BGEZ. -/
def execScBgez (n : Nat) (a : Nat) (disp : BitVec 10) (mac : BitVec 24) (x1 : BitVec 20) (s : State) : Res :=
  scCtlCmd n (.branch 3 a disp.toNat) mac x1 s

/-- R382. JMP. -/
def execScJmp (n : Nat) (t : BitVec 12) (mbz : Nat) (mac : BitVec 24) (x1 : BitVec 20) (s : State) : Res :=
  scCtlCmd n (moveField mbz (.jmp t.toNat false)) mac x1 s

/-- R382. CALL. -/
def execScCall (n : Nat) (t : BitVec 12) (mbz : Nat) (mac : BitVec 24) (x1 : BitVec 20) (s : State) : Res :=
  scCtlCmd n (moveField mbz (.jmp t.toNat true)) mac x1 s

/-- R398. RET. -/
def execScRet (n : Nat) (mbz : Nat) (mac : BitVec 24) (x1 : BitVec 20) (s : State) : Res :=
  scCtlCmd n (moveField mbz (.ret)) mac x1 s

/-- R383. REP; `len` is LEN, 1 to 16, and `c` COUNT9 or a register. -/
def execScRep (n : Nat) (imm : Bool) (c : Nat) (rot : Bool) (len : Nat) (mbz : Nat) (mac : BitVec 24) (x1 : BitVec 20) (s : State) : Res :=
  scCtlCmd n (moveField mbz (if len = 0 then .bad else .rep imm c rot ((len - 1) % 16 + 1))) mac x1 s

/-- R370. ROT. -/
def execScRot (n : Nat) (mbz : Nat) (mac : BitVec 24) (x1 : BitVec 20) (s : State) : Res :=
  scCtlCmd n (moveField mbz (.rot)) mac x1 s

/-- R387. SYNC.C. -/
def execScSyncC (n : Nat) (mbz : Nat) (mac : BitVec 24) (x1 : BitVec 20) (s : State) : Res :=
  scCtlCmd n (moveField mbz (.syncC)) mac x1 s

/-- R385. FENCE.SL. -/
def execScFenceSl (n : Nat) (mbz : Nat) (mac : BitVec 24) (x1 : BitVec 20) (s : State) : Res :=
  scCtlCmd n (moveField mbz (.fence false)) mac x1 s

/-- R385. FENCE. -/
def execScFence (n : Nat) (mbz : Nat) (mac : BitVec 24) (x1 : BitVec 20) (s : State) : Res :=
  scCtlCmd n (moveField mbz (.fence true)) mac x1 s

/-- R391. RTE. -/
def execScRte (n : Nat) (mbz : Nat) (mac : BitVec 24) (x1 : BitVec 20) (s : State) : Res :=
  scCtlCmd n (moveField mbz (.rte)) mac x1 s

/-- R388. TRAP. -/
def execScTrap (n : Nat) (i : BitVec 8) (mbz : Nat) (mac : BitVec 24) (x1 : BitVec 20) (s : State) : Res :=
  scCtlCmd n (moveField mbz (.trap i.toNat)) mac x1 s

/-- R392. WAITI. -/
def execScWaiti (n : Nat) (mbz : Nat) (mac : BitVec 24) (x1 : BitVec 20) (s : State) : Res :=
  scCtlCmd n (moveField mbz (.waiti)) mac x1 s

/-- R392. RAISE. -/
def execScRaise (n : Nat) (i : Nat) (mbz : Nat) (mac : BitVec 24) (x1 : BitVec 20) (s : State) : Res :=
  scCtlCmd n (moveField mbz (.raise i)) mac x1 s

/-! ### Between bundles -/

/-- Core `n` runs, between two bundles, outside a handler. -/
def scBetween (s : State) (n : Nat) : Bool :=
  n < 96 && s.dev = .run && domRuns s 2 && s.fld F.SC_STATUS_STATE n == 1 && !underTest s 3 n && (s.sc.get n).wait = .none && !s.bit F.S_SSTATUS_INTRAP n

/-- R388, R655. An interrupt is taken: the source presented is claimed, 0xFFFF when none is. -/
def execScTakeInterrupt (n : Nat) (s : State) : Res :=
  .next (if scBetween s n && s.bit F.S_SSTATUS_IE n && !(s.sc.get n).sbus && (s.sc.get n).dbg == 0 then
    let r := irqClaim (tgtSc n) s
    scEntry n { cause := scINTERRUPT, info := r.1 } (s.sc.get n).pc r.2
  else s)

/-- R386. A pending SBUS is taken. -/
def execScTakeSbus (n : Nat) (s : State) : Res :=
  .next (if scBetween s n && (s.sc.get n).sbus then
    scEntry n { cause := scSBUS, addr := s.fld F.S_SERR_ADDR_ADDR n, info := s.fld F.S_SERR_CODE n } (s.sc.get n).pc
      (s.updSc n (fun k => { k with sbus := false }))
  else s)

/-- R738. A pending debug event is taken. -/
def execScTakeDebug (n : Nat) (s : State) : Res :=
  .next (if scBetween s n && !(s.sc.get n).sbus && (s.sc.get n).dbg != 0 then
    let k := s.sc.get n
    let x := 8 + n
    let kind := k.dbg / 0x1000
    let addr := if kind = 2 ∨ kind = 3 then k.dbgAddr else 0
    let s1 := (s.updSc n (fun v => { v with dbg := if kind != 1 && s.bit F.DBG_REQ_REQ x then 0x1000 else 0, dbgAddr := 0 })).setBit F.DCTL_MON x
    let s2 := if kind = 1 then s1.clrFld F.DBG_REQ_REQ x else s1
    let s3 := if kind = 2 then s2.setBit F.DSTATUS_SKIP x else s2
    let s4 := if kind = 4 then s3.clrFld F.DCTL_STEP x else s3
    scEntry n { cause := scDEBUG, addr := addr, info := k.dbg } k.pc s4
  else s)

/-- R392. A core in WAIT resumes. -/
def execScWake (n : Nat) (s : State) : Res :=
  .next (if n < 96 && s.dev = .run && s.fld F.SC_STATUS_STATE n == 2 && scWakes s n then s.setFld F.SC_STATUS_STATE n 0 1 else s)

/-! ### Start and reset -/

/-- SC_CTL.START (R393); fetch begins at the entry. -/
def scStartCore (n : Nat) (s : State) : State :=
  if s.fld F.SC_STATUS_STATE n = 0 && !scBad s n && !underTest s 3 n then
    scFill n (((s.updSc n (fun k => { k with pc := s.fld F.SC_ENTRY_ENTRY n })).clrFld F.S_SSTATUS_IE n).setFld F.SC_STATUS_STATE n 0 1)
  else s

/-- SC_CTL.RESET (R393): the registers and the fields of Table 12.4 take their reset values, responses to accesses
already issued are discarded, a pending debug event is cleared (R737). Write-backs and window requests go on. -/
def scResetCore (n : Nat) (s : State) : State :=
  let s1 := forL ((regsOf .ssr).flatMap (·.fields)) (fun f s => s.clrFld f n) s
  let s2 := (s1.clrFld F.DBG_REQ_REQ (8 + n)).setFld F.SC_STATUS_STATE n 0 0
  let k := s2.sc.get n
  { s2 with sc := s2.sc.set n { wb := k.wb, win := k.win },
            reqs := s2.reqs.map (fun r => if r.pkt.init = initSc n then { r with why := .dropped } else r) }

/-- R393. SC_CTL.START. -/
def execScStart (n : Nat) (s : State) : Res := .next (if n < 96 then scStartCore n s else s)

/-- R393. SC_CTL.RESET. -/
def execScReset (n : Nat) (s : State) : Res := .next (if n < 96 then scResetCore n s else s)

/-! ### The window and write-backs (R368, R369) -/

/-- Status of a window request: 0 when it is served (R368). -/
def scWinStatus (p : Packet) : Nat :=
  let off := p.addr % 0x4_0000
  if p.opc = opATOMIC then eACCESS
  else if 0x2_8000 ≤ off + p.len then eUNMAPPED
  else if p.opc ≠ opREAD ∧ 0x2_0000 ≤ off + p.len ∧ (off % 8 ≠ 0 ∨ (p.len + 1) % 8 ≠ 0) then eACCESS
  else 0

/-- The bytes that a NoC read of `c` bytes at offset `o` returns: byte 3 of a container is eight copies of bit 23 of
its word (R365); and whether a byte is uncorrectable. -/
def scWinRead (n o c : Nat) (s : State) : List Byte × Bool × State :=
  if 0x2_0000 ≤ o then scBytes n 2 o c s
  else (List.range c).foldl (fun (r : List Byte × Bool × State) j =>
    let sign := (o + j) % 4 == 3
    let b := scBytes n 2 (if sign then o + j - 1 else o + j) 1 (if sign && j != 0 then s else r.2.2)
    let v := b.1.getD 0 0
    let s1 := if sign && j != 0 then r.2.2 else b.2.2
    (r.1 ++ [if sign then (if v.msb then 255 else 0) else v], r.2.1 || b.2.1, s1)) ([], false, s)

/-- R368. The next 8 bytes of the window request that waits at core `n` are served, in a free cycle or, when `stolen`,
in one taken from the running core; a request to code memory takes none while the body of a loop is held (R396). -/
def execScWindowAccess (n : Nat) (stolen : Bool) (s : State) : Res :=
  .next (
    if !(n < 96 && domRuns s 2) then s
    else match s.hops.find? (·.atTarget (.sc n)) with
    | none => s
    | some h =>
      let p := h.pkt
      let off := p.addr % 0x4_0000
      if scWinStatus p ≠ 0 then (s.dropArrived p).respond p (scWinStatus p)
      else
        let g := (s.sc.get n).win
        let o := off + g.done
        let c := min (p.len + 1 - g.done) (8 - o % 8)
        let flit := (p.addr + g.done) / 64 - p.addr / 64
        let fin := g.done + c = p.len + 1
        let taken := stolen && s.fld F.SC_STATUS_STATE n == 1 && !(decide (0x2_0000 ≤ o) && scCached s n)
        let s0 := if taken then s.bump F.SC_STEAL_COUNT n else s
        if p.opc = opREAD then
          let (d, bad, s1) := scWinRead n o c s0
          let (fr, s2) := if bad then s1.freshBytes c else (d, s1)
          let g1 : WinProg := { done := g.done + c, data := g.data ++ fr, pmask := if bad then withBit g.pmask flit true else g.pmask }
          if fin then ((s2.updSc n (fun k => { k with win := {} })).dropArrived p).respond p 0 g1.data g1.pmask
          else s2.updSc n (fun k => { k with win := g1 })
        else
          let s1 := forN c (fun j s =>
            if writesByte p (g.done + j) then scPutByte n (o + j) (bitOf p.pmask flit) (p.data.getD (g.done + j) 0) s else s) s0
          if fin then ((s1.updSc n (fun k => { k with win := {} })).dropArrived p).respond p 0
          else s1.updSc n (fun k => { k with win := { g with done := g.done + c } }))

/-- R369. The oldest corrected byte of core `n` is written back. -/
def execScMemWriteback (n : Nat) (s : State) : Res :=
  .next (match (s.sc.get n).wb with
    | [] => s
    | o :: rest =>
      if !domRuns s 2 then s
      else
        let s1 := s.updSc n (fun k => { k with wb := rest })
        match s.checkAt (aSc n o) with
        | .bad => scMemErr n 3 o true s1
        | .corr _ => (scMemErr n 3 o false s1).wrB (aSc n o) (s.rdC (aSc n o))
        | .good => s1)

end Sys2Proof.Machine
end

