-- ==== Sys2Proof/Machine/Flags.lean ====
section
/-!
DEFINITION. The flag computations of Virelo (R224, R228 to R232): each answers a result with N, Z, C and V.
-/
namespace Sys2Proof.Machine

/-- A result and its flags. -/
structure Flagged where
  val : Word
  n : Bool
  z : Bool
  c : Bool
  v : Bool
deriving DecidableEq, Repr

/-- NZCV as the field of FLAGS. -/
def Flagged.nzcv (f : Flagged) : Nat := ofBool f.n * 8 + ofBool f.z * 4 + ofBool f.c * 2 + ofBool f.v

/-- N and Z of a result, with given C and V (kinds L, H, M and D of R224). -/
def flagged (r : Word) (c v : Bool) : Flagged := ⟨r, r.msb, r == 0, c, v⟩

/-- Kind A, addition with carry in (R224): C is the carry out, V a signed result that differs from the exact one. -/
def addF (a b : Word) (cin : Bool) : Flagged :=
  let r := a + b + BitVec.ofNat 64 (ofBool cin)
  flagged r (2 ^ 64 ≤ a.toNat + b.toNat + ofBool cin) (r.toInt != a.toInt + b.toInt + (ofBool cin : Int))

/-- Kind A, subtraction with borrow in (R224): C is 1 when no borrow occurs. -/
def subF (a b : Word) (bin : Bool) : Flagged :=
  let r := a - b - BitVec.ofNat 64 (ofBool bin)
  flagged r (b.toNat + ofBool bin ≤ a.toNat) (r.toInt != a.toInt - b.toInt - (ofBool bin : Int))

/-- Kind L (R224). -/
def logicF (r : Word) : Flagged := flagged r false false

/-- Kind M (R224): V when the exact signed product does not fit in 64 bits. -/
def mulF (a b : Word) : Flagged := flagged (a * b) false ((a * b).toInt != a.toInt * b.toInt)

/-- The high 64 bits of the signed product. -/
def mulhF (a b : Word) : Flagged := logicF (BitVec.ofInt 64 (a.toInt * b.toInt / 2 ^ 64))

/-- The high 64 bits of the unsigned product. -/
def mulhuF (a b : Word) : Flagged := logicF (BitVec.ofNat 64 (a.toNat * b.toNat / 2 ^ 64))

/-- Signed division (Table 7.8, R229, R230). -/
def divF (a b : Word) : Flagged :=
  if b = 0 then flagged (BitVec.allOnes 64) false false
  else flagged (BitVec.ofInt 64 (a.toInt.tdiv b.toInt)) false (a = BitVec.intMin 64 && b = BitVec.allOnes 64)

/-- Unsigned division. -/
def divuF (a b : Word) : Flagged := if b = 0 then flagged (BitVec.allOnes 64) false false else flagged (a / b) false false

/-- Signed remainder, its sign that of the dividend. -/
def remF (a b : Word) : Flagged :=
  if b = 0 then flagged a false false
  else flagged (BitVec.ofInt 64 (a.toInt.tmod b.toInt)) false (a = BitVec.intMin 64 && b = BitVec.allOnes 64)

/-- Unsigned remainder. -/
def remuF (a b : Word) : Flagged := if b = 0 then flagged a false false else flagged (a % b) false false

/-- Shift left by any amount (R231, R232). -/
def sllF (a : Word) (k : Nat) : Flagged :=
  flagged (if k < 64 then a <<< k else 0) (decide (1 ≤ k ∧ k ≤ 64) && a.getLsbD (64 - k)) false

/-- Logical shift right (R232). -/
def srlF (a : Word) (k : Nat) : Flagged :=
  flagged (if k < 64 then a >>> k else 0) (decide (1 ≤ k ∧ k ≤ 64) && a.getLsbD (k - 1)) false

/-- Arithmetic shift right (R232): beyond 64, C is bit 63. -/
def sraF (a : Word) (k : Nat) : Flagged :=
  flagged (a.sshiftRight (min k 64)) (if k = 0 then false else if k ≤ 64 then a.getLsbD (k - 1) else a.msb) false

/-- Rotate right by the amount modulo 64 (R232). -/
def rorF (a : Word) (k : Nat) : Flagged :=
  let r := a.rotateRight (k % 64)
  flagged r (k % 64 != 0 && r.msb) false

/-- The number of leading zero bits. -/
def clz (a : Word) : Nat := 64 - (if a = 0 then 0 else Nat.log2 a.toNat + 1)

/-- The number of bits set. -/
def popc (a : Word) : Nat := (List.range 64).foldl (fun n i => n + ofBool (a.getLsbD i)) 0

/-- The conditions of Table 7.16 on NZCV; `none` for the reserved code. -/
def condHolds (cond nzcv : Nat) : Option Bool :=
  let n := bitOf nzcv 3
  let z := bitOf nzcv 2
  let c := bitOf nzcv 1
  let v := bitOf nzcv 0
  match cond with
  | 0 => some true
  | 2 => some z | 3 => some (!z)
  | 4 => some (!c) | 5 => some c
  | 6 => some (!c || z) | 7 => some (c && !z)
  | 8 => some (n != v) | 9 => some (n == v)
  | 10 => some (z || n != v) | 11 => some (!z && n == v)
  | 12 => some n | 13 => some (!n)
  | 14 => some v | 15 => some (!v)
  | _ => none

end Sys2Proof.Machine
end

