-- ==== Sys2Proof/Machine/Virelo.lean ====
section
/-!
DEFINITION. What every Virelo instruction shares (chapters 7, 8): the registers and windows, the core address space,
taking a trap and fault-halt, the fetch checks before an instruction and its retirement, caches and accesses.
-/
namespace Sys2Proof.Machine

/-- Changes control core `c`. -/
def State.updVc (s : State) (c : Nat) (f : VCore → VCore) : State := { s with vc := s.vc.upd c f }

/-- The PC of control core `c`. -/
def State.vpc (s : State) (c : Nat) : Word := (s.vc.get c).pc

/-- Trap causes (Table 8.1). -/
def cILLEGAL : Nat := 1
def cPRIV : Nat := 2
def cALIGN : Nat := 3
def cADDRESS : Nat := 4
def cBUS : Nat := 5
def cPOISON : Nat := 6
def cSBUS : Nat := 7
def cWINOVF : Nat := 8
def cWINUNF : Nat := 9
def cDZ : Nat := 10
def cSWTRAP : Nat := 11
def cDEBUG : Nat := 12
def cLOOM : Nat := 13
def cINTERRUPT : Nat := 16

/-- The physical register that number `n` names (R208, R209, R247): 0-15 G, 16 + 12w + k window w's W_k, 160-175 the
trap window. -/
def vphys (s : State) (c n : Nat) : Nat :=
  if n < 16 then n
  else if s.bit F.PSTATE_TW c then 160 + (n - 16)
  else
    let cwp := s.fld F.WSTATE_CWP c
    let k := n - 16
    if k < 12 then 16 + cwp * 12 + k else 16 + (cwp + 1) % 12 * 12 + (k - 12)

/-- Reads register `n` of core `c`; G0 reads 0. -/
def State.vget (s : State) (c n : Nat) : Word := if n = 0 then 0 else (s.vc.get c).regs.get (vphys s c n)

/-- Writes register `n` of core `c`; a write to G0 is discarded (R208). -/
def State.vset (s : State) (c n : Nat) (v : Word) : State :=
  if n = 0 then s else s.updVc c (fun k => { k with regs := k.regs.set (vphys s c n) v })

/-! ### Taking a trap -/

/-- Fault-halt (R250, R251): registers and TW are kept, the condition is recorded, and the core-fault source rises. -/
def vfaultHalt (c cause access : Nat) (pc addr : Word) (s : State) : State :=
  let s1 := ((((((s.setBit F.CC_FAULT_VALID c).setFld F.CC_FAULT_FIRST c 0 (s.fld F.TCAUSE_CAUSE c)).setFld
    F.CC_FAULT_ACCESS c 0 access).setFld F.CC_FAULT_CAUSE c 0 cause).setFld F.CC_FAULT_PC_PC c 0 pc.toNat).setFld
    F.CC_FAULT_ADDR_ADDR c 0 addr.toNat).setFld F.CC_STATUS_STATE c 0 3
  irqSample (4 * c) (s1.updVc c (fun k => { k with wait := .none }))

/-- Trap entry (R240, R243): TPC, TCAUSE, TADDR and TINFO are written, PSTATE[2:0] is saved, TASK and IE are cleared,
TW is set, and the PC is the vector. -/
def vtrapEntry (c cause access : Nat) (tpc taddr : Word) (tinfo : Nat) (s : State) : State :=
  let s1 := ((((s.setFld F.TPC c 0 tpc.toNat).setFld F.TCAUSE_CAUSE c 0 cause).setFld F.TCAUSE_ACCESS c 0 access).setFld
    F.TADDR c 0 taddr.toNat).setFld F.TINFO c 0 tinfo
  let s2 := ((s1.setFld F.TPSTATE_TRAPDZ c 0 (s.fld F.PSTATE_TRAPDZ c)).setFld F.TPSTATE_IE c 0 (s.fld F.PSTATE_IE c)).setFld
    F.TPSTATE_TASK c 0 (s.fld F.PSTATE_TASK c)
  let s3 := ((s2.clrFld F.PSTATE_TASK c).clrFld F.PSTATE_IE c).setBit F.PSTATE_TW c
  s3.updVc c (fun k => { k with pc := BitVec.ofNat 64 (s.fld F.TBASE_BASE c * 2048 + 64 * cause), wait := .none, fetchErr := 0, fetched := none })

/-- A synchronous trap condition of the instruction at `pc` (R240, R250): the trap, or fault-halt in the trap window. -/
def vtrap (c cause access : Nat) (pc tpc taddr : Word) (tinfo : Nat) (s : State) : State :=
  if s.bit F.PSTATE_TW c then vfaultHalt c cause access pc taddr s else vtrapEntry c cause access tpc taddr tinfo s

/-- A trap of the instruction in progress whose return address is that instruction. -/
def vtrapAt (c cause access : Nat) (taddr : Word) (tinfo : Nat) (s : State) : State :=
  vtrap c cause access (s.vpc c) (s.vpc c) taddr tinfo s

/-- The ILLEGAL trap. -/
def villegal (c : Nat) (s : State) : State := vtrapAt c cILLEGAL 0 0 0 s

/-! ### Retirement -/

/-- The instruction at the PC retires and the PC becomes `npc`. A step that was armed ends with a debug event of
KIND 4 (R739), and SKIP clears (R738). -/
def vretireTo (c : Nat) (npc : Word) (s : State) : State :=
  let pc := s.vpc c
  let quiet := !s.bit F.PSTATE_TW c && !s.bit F.DCTL_MON c
  let s1 := ((s.setFld F.CC_PC_PC c 0 pc.toNat).bumpWrap F.RETIRED c).updVc c (fun k =>
    { k with pc := npc, wait := .none, fetched := none,
             dbg := if k.stepArmed && quiet && k.dbg = 0 then 0x4000 else k.dbg,
             stepArmed := k.stepArmed && !quiet })
  if quiet then s1.clrFld F.DSTATUS_SKIP c else s1

/-- The instruction retires and the next one follows it. -/
def vretire (c : Nat) (s : State) : State := vretireTo c (s.vpc c + 4) s

/-- Writes a result and its flags and retires. -/
def vwriteF (c rd : Nat) (f : Flagged) (s : State) : State :=
  vretire c ((s.vset c rd f.val).setFld F.FLAGS_NZCV c 0 f.nzcv)

/-! ### Addresses -/

/-- Where a core address leads (R31, R200). -/
inductive VAddr where
  | bad
  | lim (off : Nat)
  | ldm (off : Nat)
  | noc (dev addr : Nat)
deriving DecidableEq, Repr

/-- Resolves a 64-bit core address (R31, R200). -/
def vresolve (s : State) (a : Word) : VAddr :=
  let n := a.toNat
  let lo := n % 2 ^ 52
  if 2 ^ 62 ≤ n then .bad
  else if bitOf n 61 then
    (if 0x8_00E0_0000_0000 ≤ lo ∧ lo < 0x8_00E0_0001_0000 then .lim (lo % 0x1_0000)
     else if 0x8_00E0_0001_0000 ≤ lo ∧ lo < 0x8_00E0_0002_0000 then .ldm (lo % 0x1_0000)
     else .noc (s.fld F.DEV_ID) lo)
  else .noc (n / 2 ^ 52 % 512) lo

/-- Whether a local address is DRAM or scratchpad (R201, R204, R226). -/
def isMemTarget (a : Nat) : Bool :=
  match targetOf a with
  | .dram _ | .spad _ => true
  | _ => false

/-- Whether task access window `i` of core `c` covers `n` bytes at `a` with permission bit `p` (R217). -/
def tawCovers (s : State) (c i a n p : Nat) : Bool :=
  s.fld F.TAW_BASE_BASE c i * 4096 ≤ a && a + n ≤ s.fld F.TAW_LAST_LAST c i * 4096 + 4096 &&
  bitOf (s.fld F.TAW_BASE_PERM c i) p

/-- Whether the level of core `c` allows an access (R217, R218): `ps` the permission bits needed (R 0, W 1, X 2). -/
def vallowed (s : State) (c a n : Nat) (ps : List Nat) : Bool :=
  !s.bit F.PSTATE_TASK c || (List.range 8).any (fun i => ps.all (fun p => tawCovers s c i a n p))

/-- Whether an address lies in an enabled cache range (R204). -/
def vcacheable (s : State) (c : Nat) (a : Word) : Bool :=
  (match vresolve s a with | .noc _ l => isMemTarget l | _ => false) &&
  (List.range 4).any (fun i => s.bit F.CACHE_BASE_EN c i && s.fld F.CACHE_BASE_BASE c i * 64 ≤ a.toNat &&
    a.toNat < s.fld F.CACHE_LIM_LAST c i * 64 + 64)

/-- The system address of a line or access on the NoC, as one number. -/
def sysAddr (dev addr : Nat) : Nat := dev * 2 ^ 52 + addr

/-- The ROM overlay covers a LIM offset of CC0 (R263). -/
def inOverlay (s : State) (c off : Nat) : Bool := c == bootCore s && s.romOverlay && 0xC000 ≤ off

/-- A byte of the LIM as core `c` loads or fetches it. -/
def limByte (s : State) (c off : Nat) : Byte :=
  if inOverlay s c off then Config.romByte (off - 0xC000) else s.rdB (aPriv c off)

/-! ### Before an instruction -/

/-- The initiator ID of control core `c`. -/
def initCc (c : Nat) : Nat := 0x300 + c

/-- A request of a control core with its key attribute (R207). -/
def vrequest (c dev addr opc len : Nat) (data : List Byte) (why : Purpose) (atop : Nat) (s : State) : State :=
  s.request (initCc c) dev addr opc len data why (keyid := s.fld F.KEYATTR c) (atop := atop)

/-- Whether core `c` may issue an instruction now: it runs, waits for nothing, and no SBUS or debug event is to be
taken first (R242). -/
def vready (s : State) (c : Nat) : Bool :=
  c < 8 && s.dev = .run && domRuns s 1 && s.fld F.CC_STATUS_STATE c == 1 && (s.vc.get c).wait = .none &&
  (s.bit F.PSTATE_TW c || (!(s.vc.get c).sbus && (s.vc.get c).dbg == 0 && !(s.bit F.PSTATE_IE c && (irqPresented s (tgtCc c)).isSome)))

/-- The outcome of fetching the instruction at the PC: it is there, a trap, or a request that must come back first. -/
inductive VFetch where
  | ok
  | trap (cause access : Nat) (info : Nat)
  | need (line : Bool) (dev addr len : Nat)
deriving DecidableEq, Repr

/-- The fetch at the PC of core `c` (R201, R202, R218, in the order of R241). -/
def vfetch (s : State) (c : Nat) : VFetch :=
  let k := s.vc.get c
  let a := k.pc
  if a.toNat % 4 ≠ 0 then .trap cALIGN 1 0
  else if !vallowed s c a.toNat 4 [2] then .trap cADDRESS 1 0
  else match vresolve s a with
    | .bad => .trap cADDRESS 1 0
    | .ldm _ => .trap cADDRESS 1 0
    | .lim _ => .ok
    | .noc dev l =>
      if !isMemTarget l then .trap cADDRESS 1 0
      else if k.fetchErr = 0x100 then .trap cPOISON 1 0
      else if k.fetchErr ≠ 0 then .trap cBUS 1 k.fetchErr
      else if vcacheable s c a then
        (if k.icache.contains (sysAddr dev l / 64 * 64, s.fld F.KEYATTR c) then .ok else .need true dev (l / 64 * 64) 63)
      else if k.fetched = some a.toNat then .ok
      else .need false dev l 3

/-- The trap a fetch takes: TPC and TADDR are the PC. -/
def vfetchTrap (c cause access info : Nat) (s : State) : State :=
  let a := s.vpc c
  vtrap c cause access a a a info (s.updVc c (fun k => { k with fetchErr := 0 }))

/-- Instruction comparators at the PC (R732, R733, R738): answers whether a debug event stops the issue. -/
def vbreak (c : Nat) (s : State) : Bool × State :=
  if s.bit F.PSTATE_TW c || s.bit F.DCTL_MON c || s.bit F.DSTATUS_SKIP c then (false, s)
  else
    let a := s.vpc c
    let ms := cmpInstr s c a.toNat (s.bit F.PSTATE_TASK c) (some (s.fld F.CTXID c))
    if ms.isEmpty then (false, s)
    else match cmpCount c ms s with
      | (some k, s1) => (true, s1.updVc c (fun v => { v with dbg := 0x2000 + k, dbgAddr := a.toNat }))
      | (none, s1) => (false, s1)

/-- A fetch by CC0 outside the boot ROM ends the ROM overlay (R263). -/
def vleaveRom (c : Nat) (s : State) : State :=
  match vresolve s (s.vpc c) with
  | .lim off => if c = bootCore s && off < 0xC000 then { s with romOverlay := false } else s
  | _ => if c = bootCore s then { s with romOverlay := false } else s

/-- What happens around an instruction of core `c`: nothing while the core cannot issue; the fetch's trap or request;
a comparator's debug event; else the instruction's own effect. -/
def vissue (c : Nat) (body : State → State) (s : State) : State :=
  if !vready s c then s
  else
    let s0 := vleaveRom c s
    match vfetch s0 c with
    | .trap cause access info => vfetchTrap c cause access info s0
    | .need line dev addr len =>
      vrequest c dev addr opREAD len [] (.ccRead c) 0
        (s0.updVc c (fun k => { k with wait := .fetch (s0.vpc c).toNat line }))
    | .ok =>
      match vbreak c s0 with
      | (true, s1) => s1
      | (false, s1) => body s1

/-- An instruction whose must-be-zero bits are 0, else ILLEGAL (R221, R222). -/
def vop (c mbz : Nat) (body : State → State) (s : State) : Res :=
  .next (vissue c (fun s => if mbz = 0 then body s else villegal c s) s)

/-- A supervisor instruction: PRIV at task level (R214). -/
def vsup (c : Nat) (body : State → State) (s : State) : State :=
  if s.bit F.PSTATE_TASK c then vtrapAt c cPRIV 0 0 0 s else body s

/-! ### Data accesses -/

/-- Data comparators after an access of `n` bytes at `a` (R732). -/
def vdataCmp (c : Nat) (tw mon : Bool) (a n : Nat) (ld st : Bool) (s : State) : State :=
  if tw || mon then s
  else
    let ms := cmpData s c a n ld st (s.bit F.PSTATE_TASK c) (some (s.fld F.CTXID c))
    if ms.isEmpty then s
    else match cmpCount c ms s with
      | (some k, s1) => s1.updVc c (fun v => if v.dbg = 0 then { v with dbg := 0x3000 + k, dbgAddr := a } else v)
      | (none, s1) => s1

/-- The comparators observe an access, then the instruction retires. -/
def vdone (c a n : Nat) (ld st : Bool) (s : State) : State :=
  vretire c (vdataCmp c (s.bit F.PSTATE_TW c) (s.bit F.DCTL_MON c) a n ld st s)

/-- Extends `w` loaded bytes to a register value (Table 7.10). -/
def extend (w : Nat) (sgn : Bool) (v : Nat) : Word :=
  if sgn && bitOf v (8 * w - 1) then BitVec.ofNat 64 (2 ^ 64 - 2 ^ (8 * w) + v % 2 ^ (8 * w)) else BitVec.ofNat 64 (v % 2 ^ (8 * w))

/-- The valid line of core `c`'s data cache that holds a system address under a key ID (R206). -/
def dline (s : State) (c a key : Nat) : Option DLine :=
  (s.vc.get c).dcache.find? (fun l => l.a == a / 64 * 64 && l.key == key)

/-- The `n` bytes of a line at address `a`. -/
def DLine.bytes (l : DLine) (a n : Nat) : List Byte := (l.data.drop (a % 64)).take n

/-- A line with bytes written at address `a`, dirty. -/
def DLine.write (l : DLine) (a : Nat) (bs : List Byte) : DLine :=
  { l with dirty := true, data := l.data.take (a % 64) ++ bs ++ l.data.drop (a % 64 + bs.length) }

/-- Replaces the line of the same address and key ID. -/
def putLine (ls : List DLine) (l : DLine) : List DLine := ls.map (fun m => if m.a == l.a && m.key == l.key then l else m)

/-- A line enters core `c`'s data cache (Table 7.1: 64 sets of 8 lines). A full set gives up a line that the spec does
not choose (free value); a dirty one is written back under its key ID (R206, R253). -/
def vfill (c : Nat) (l : DLine) (s : State) : State :=
  let set := (s.vc.get c).dcache.filter (fun m => m.a / 64 % 64 == l.a / 64 % 64)
  if set.length < 8 then s.updVc c (fun k => { k with dcache := k.dcache ++ [l] })
  else
    let (r, s1) := s.fresh
    match set[r.toNat % 8]? with
    | some old =>
      let s2 := s1.updVc c (fun k => { k with dcache := k.dcache.erase old ++ [l] })
      if old.dirty then
        s2.request (initCc c) (old.a / 2 ^ 52) (old.a % 2 ^ 52) opWRITE 63 old.data (.ccStore c old.a) (keyid := old.key)
      else s2
    | none => s1

/-- The checks of a data access before it is made, in the order of R241: alignment, then address (R31, R203, R218). -/
def vcheck (c : Nat) (a : Word) (n access : Nat) (ps : List Nat) (k : State → State) (s : State) : State :=
  if a.toNat % n ≠ 0 then vtrapAt c cALIGN access a 0 s
  else if vresolve s a = .bad || !vallowed s c a.toNat n ps then vtrapAt c cADDRESS access a 0 s
  else k s

/-- A load's value arrives: rd is written and the instruction retires. -/
def vloaded (c rd w : Nat) (sgn : Bool) (a v : Nat) (s : State) : State :=
  vdone c a w true false (s.vset c rd (extend w sgn v))

/-- A load of `w` bytes (Table 7.10, R201, R203, R204, R218): at once from the private memories or a cached line,
else as a request. -/
def vload (c rd w : Nat) (sgn : Bool) (a : Word) (s : State) : State :=
  vcheck c a w 2 [0] (fun s =>
    match vresolve s a with
    | .lim off => vloaded c rd w sgn a.toNat (ofBytesLE ((List.range w).map (fun j => limByte s c (off + j)))) s
    | .ldm off => vloaded c rd w sgn a.toNat (ofBytesLE (s.rdBytes (aPriv c (0x1_0000 + off)) w)) s
    | .noc dev l =>
      if vcacheable s c a then
        match dline s c (sysAddr dev l) (s.fld F.KEYATTR c) with
        | some ln => vloaded c rd w sgn a.toNat (ofBytesLE (ln.bytes l w)) s
        | none => vrequest c dev (l / 64 * 64) opREAD 63 [] (.ccRead c) 0
            (s.updVc c (fun k => { k with wait := .fillLoad rd w sgn a.toNat }))
      else vrequest c dev l opREAD (w - 1) [] (.ccRead c) 0 (s.updVc c (fun k => { k with wait := .load rd w sgn a.toNat }))
    | .bad => s) s

/-- Whether a store by core `c` may write the LIM at an offset (R201, R263). -/
def limWritable (s : State) (c off : Nat) : Bool := !s.bit F.CCFG_LIMRO c && !inOverlay s c off

/-- Whether core `c` has stores out on the network, which its stores and atomics in the LDM must follow (R256, R259). -/
def vstoresOut (s : State) (c : Nat) : Bool := !(outstanding s (initCc c)).isEmpty

/-- A store in the LDM is made and the instruction retires. -/
def vldmStore (c w v a off : Nat) (s : State) : State :=
  vdone c a w false true (s.wrBytes (aPriv c (0x1_0000 + off)) (bytesLE w v))

/-- A store of the low `w` bytes of `v` (Table 7.10). Stores to the NoC are posted (R253). -/
def vstore (c w : Nat) (v : Nat) (a : Word) (s : State) : State :=
  vcheck c a w 3 [1] (fun s =>
    match vresolve s a with
    | .lim off =>
      if limWritable s c off then vdone c a.toNat w false true (s.wrBytes (aPriv c off) (bytesLE w v))
      else vtrapAt c cADDRESS 3 a 0 s
    | .ldm off =>
      if vstoresOut s c then s.updVc c (fun k => { k with wait := .heldStore w v a.toNat })
      else vldmStore c w v a.toNat off s
    | .noc dev l =>
      if vcacheable s c a then
        match dline s c (sysAddr dev l) (s.fld F.KEYATTR c) with
        | some ln => vdone c a.toNat w false true
            (s.updVc c (fun k => { k with dcache := putLine k.dcache (ln.write l (bytesLE w v)) }))
        | none => vrequest c dev (l / 64 * 64) opREAD 63 [] (.ccRead c) 0
            (s.updVc c (fun k => { k with wait := .fillStore w v a.toNat }))
      else vdone c a.toNat w false true (vrequest c dev l opWRITE (w - 1) (bytesLE w v) (.ccStore c a.toNat) 0 s)
    | .bad => s) s

/-- The new memory value of an atomic (Table 7.11): kind 0 SWAP, 1 FADD, 2 CAS with the compare value `cmp`. -/
def atomicNew (kind : Nat) (old cmp op : Word) : Word :=
  match kind with
  | 0 => op
  | 1 => old + op
  | _ => if old = cmp then op else old

/-- An atomic's old value arrives: rd is written, CAS sets Z when the store was made, and the instruction retires. -/
def vatomicDone (c rd kind a : Nat) (cmp old : Word) (s : State) : State :=
  let nz := s.fld F.FLAGS_NZCV c
  let s1 := s.vset c rd old
  let s2 := if kind = 2 then s1.setFld F.FLAGS_NZCV c 0 (withBit nz 2 (old == cmp)) else s1
  vdone c a 8 true true s2

/-- An atomic in the LDM is performed. -/
def vldmAtomic (c rd kind a off : Nat) (cmp op : Word) (s : State) : State :=
  let m := aPriv c (0x1_0000 + off)
  let old := BitVec.ofNat 64 (ofBytesLE (s.rdBytes m 8))
  vatomicDone c rd kind a cmp old (s.wrBytes m (bytesLE 8 (atomicNew kind old cmp op).toNat))

/-- An atomic (R226): the LDM, a scratchpad bank or DRAM, uncached; any other target takes ADDRESS. -/
def vatomic (c rd rs1 rs2 kind : Nat) (s : State) : State :=
  let a := s.vget c rs1
  let op := s.vget c rs2
  let cmp := s.vget c rd
  vcheck c a 8 2 [0, 1] (fun s =>
    match vresolve s a with
    | .ldm off =>
      if vstoresOut s c then s.updVc c (fun k => { k with wait := .heldAtomic rd kind a.toNat cmp op })
      else vldmAtomic c rd kind a.toNat off cmp op s
    | .noc dev l =>
      if isMemTarget l && !vcacheable s c a then
        let data := if kind = 2 then bytesLE 8 cmp.toNat ++ bytesLE 8 op.toNat else bytesLE 8 op.toNat
        vrequest c dev l opATOMIC 7 data (.ccRead c) kind (s.updVc c (fun k => { k with wait := .atomic rd kind a.toNat }))
      else vtrapAt c cADDRESS 2 a 0 s
    | _ => vtrapAt c cADDRESS 2 a 0 s) s

end Sys2Proof.Machine
end

