-- ==== Sys2Proof/Decode.lean ====
section
/-!
DEFINITION. The command that a word of the opcode table spells (the table gives none of its rows bits: a command is an event at the
block with its operands, so no word spells one), and the commands that the instruction words of the cores spell, from the formats
and tables of the spec (R221 to R223, R268, R376).
-/
namespace Sys2Proof

/-- The command of a word of `nbits` bits: none, since no row of the table has bits. -/
def decodeTableWord (_nbits _w : Nat) : Option Instr := none

/-! ### Control cores (Tables 7.5 to 7.14, 9.1) -/

/-- Every word that no table lists is ILLEGAL (R222, R223): an ADD with bits set that must be 0. -/
def illegalWord (c : Nat) : Instr := .add c 0 0 0 1

/-- R-format operations of Table 7.7 (op 0x00), by fn[5:0]; `z` holds fn[10:6]. -/
def aluWord (c fn rd a b z : Nat) : Instr :=
  match fn with
  | 0x00 => .add c rd a b z
  | 0x01 => .sub c rd a b z
  | 0x02 => .adc c rd a b z
  | 0x03 => .sbc c rd a b z
  | 0x04 => .neg c rd a (z + b)
  | 0x05 => .cmp c a b (z + rd)
  | 0x08 => .and c rd a b z
  | 0x09 => .or c rd a b z
  | 0x0A => .xor c rd a b z
  | 0x0B => .andn c rd a b z
  | 0x0C => .min c rd a b z
  | 0x0D => .max c rd a b z
  | 0x0E => .minu c rd a b z
  | 0x0F => .maxu c rd a b z
  | 0x10 => .clz c rd a (z + b)
  | 0x11 => .popc c rd a (z + b)
  | _ => illegalWord c

/-- Table 7.8 (op 0x01). -/
def mulWord (c fn rd a b z : Nat) : Instr :=
  match fn with
  | 0 => .mul c rd a b z
  | 1 => .mulh c rd a b z
  | 2 => .mulhu c rd a b z
  | 4 => .div c rd a b z
  | 5 => .divu c rd a b z
  | 6 => .rem c rd a b z
  | 7 => .remu c rd a b z
  | _ => illegalWord c

/-- Table 7.9: shifts by a register (op 0x02) and by an immediate (op 0x03), which has its kind in [9:8]. -/
def shiftWord (c fn rd a b z : Nat) : Instr :=
  match fn with
  | 0 => .sll c rd a b z
  | 1 => .srl c rd a b z
  | 2 => .sra c rd a b z
  | 3 => .ror c rd a b z
  | _ => illegalWord c
def shiftImmWord (c rd a i : Nat) : Instr :=
  let z := bitsOf i 10 6 + bitsOf i 7 1
  let n := bitsOf i 0 7
  match bitsOf i 8 2 with
  | 0 => .slli c rd a n z
  | 1 => .srli c rd a n z
  | 2 => .srai c rd a n z
  | _ => .rori c rd a n z

/-- Table 7.11 (op 0x1C). -/
def atomicWord (c fn rd a b z : Nat) : Instr :=
  match fn with
  | 0 => .swap c rd a b z
  | 1 => .fadd c rd a b z
  | 2 => .cas c rd a b z
  | _ => illegalWord c

/-- Table 7.12 (op 0x1D), by the rd field. -/
def cacheWord (c rd a i : Nat) : Instr :=
  match rd with
  | 0 => .dcwb c a (BitVec.ofNat 16 i)
  | 1 => .dcinv c a (BitVec.ofNat 16 i)
  | 2 => .dcwbi c a (BitVec.ofNat 16 i)
  | 3 => .icinv c a (BitVec.ofNat 16 i)
  | 8 => .dcwbAll c (a + i)
  | 9 => .dcinvAll c (a + i)
  | 10 => .dcwbiAll c (a + i)
  | 11 => .icinvAll c (a + i)
  | _ => illegalWord c

/-- Op 0x32 of Table 7.14, by imm16; rd and rs1 must be 0. -/
def systemWord (c rd a i : Nat) : Instr :=
  match i with
  | 0x01 => .fenceSl c (rd + a)
  | 0x02 => .fence c (rd + a)
  | 0x03 => .syncI c (rd + a)
  | 0x10 => .wait c (rd + a)
  | 0x20 => .eret c (rd + a)
  | _ => illegalWord c

/-- Table 9.1 (op 0x3E), by fn[5:0]; `z` holds fn[10:6] and rs2. The mode of LSCRUB and the operation of LKEY stand in the
descriptor: every row of either has the same meaning. -/
def loomWord (c fn rd a z : Nat) : Instr :=
  match fn with
  | 0x00 => .lload c rd a z
  | 0x01 => .lrel c rd a z
  | 0x02 => .lhold c rd a z
  | 0x03 => .lfree c rd a z
  | 0x04 => .labort c rd a z
  | 0x05 => .lplace c rd a z
  | 0x06 => .lsnap c rd a z
  | 0x07 => .lrest c rd a z
  | 0x08 => .lmigr c rd a z
  | 0x09 => .lscrubSetRate c rd a z
  | 0x0A => .lread c rd a z
  | 0x0B => .lkeyLoad c rd a z
  | 0x10 => .lwait c rd a z
  | 0x11 => .lstat c rd a z
  | 0x12 => .lnext c rd a z
  | 0x13 => .lexit c rd a z
  | _ => illegalWord c

/-- The command that an instruction word of control core `c` spells (R221 to R223). -/
def vireloWord (c w : Nat) : Instr :=
  let rd := bitsOf w 21 5
  let a := bitsOf w 16 5
  let b := bitsOf w 11 5
  let fn := bitsOf w 0 6
  let z := bitsOf w 6 5
  let i := bitsOf w 0 16
  let im := BitVec.ofNat 16 i
  match bitsOf w 26 6 with
  | 0x00 => aluWord c fn rd a b z
  | 0x01 => mulWord c fn rd a b z
  | 0x02 => shiftWord c fn rd a b z
  | 0x03 => shiftImmWord c rd a i
  | 0x04 => .addi c rd a im
  | 0x05 => .cmpi c a im rd
  | 0x06 => .andi c rd a im
  | 0x07 => .ori c rd a im
  | 0x08 => .xori c rd a im
  | 0x0C => .setw c rd (a % 4) im (a / 4)
  | 0x0D => .insw c rd (a % 4) im (a / 4)
  | 0x10 => .ld c rd a im
  | 0x11 => .lw c rd a im
  | 0x12 => .lwu c rd a im
  | 0x13 => .lh c rd a im
  | 0x14 => .lhu c rd a im
  | 0x15 => .lb c rd a im
  | 0x16 => .lbu c rd a im
  | 0x18 => .sd c rd a im
  | 0x19 => .sw c rd a im
  | 0x1A => .sh c rd a im
  | 0x1B => .sb c rd a im
  | 0x1C => atomicWord c fn rd a b z
  | 0x1D => cacheWord c rd a i
  | 0x1E => if rd = 0 then .spill c a i else if rd = 1 then .fill c a i else illegalWord c
  | 0x20 => .bcc c (bitsOf w 22 4) (BitVec.ofNat 22 w)
  | 0x21 => .bz c a im rd
  | 0x22 => .bnz c a im rd
  | 0x24 => .call c (BitVec.ofNat 26 w)
  | 0x25 => .jmp c (BitVec.ofNat 26 w)
  | 0x26 => .callr c a (rd + i)
  | 0x27 => .jr c a (rd + i)
  | 0x28 => .enter c (bitsOf w 0 26)
  | 0x29 => .leave c (bitsOf w 0 26)
  | 0x30 => .mfsr c rd (BitVec.ofNat 12 i) (a + i / 4096)
  | 0x31 => .mtsr c (BitVec.ofNat 12 i) a (rd + i / 4096)
  | 0x32 => systemWord c rd a i
  | 0x33 => .trap c im (rd + a)
  | 0x3E => loomWord c fn rd a (z + b)
  | _ => illegalWord c

open Machine in
/-- The command at the PC of control core `c`, where the PC lies in its LIM (R200, R263). Log entry 27. -/
def vireloNext (s : State) (c : Nat) : Option Instr :=
  match vresolve s (s.vpc c) with
  | .lim off => some (vireloWord c (ofBytesLE ((List.range 4).map (fun j => limByte s c (off + j)))))
  | _ => none

/-! ### Signal cores (R376, Tables 12.5 to 12.9) -/

open Machine in
/-- A 24-bit operation of the MAC slot, by its op (Table 12.6). -/
def macAluWord (n op a b rd : Nat) (sat : Bool) (x1 x2 : BitVec 20) : Instr :=
  match op with
  | 0x11 => .scAdd n a b rd sat 0 x1 x2
  | 0x12 => .scSub n a b rd sat 0 x1 x2
  | 0x13 => .scNeg n a rd sat 0 x1 x2
  | 0x14 => .scAbs n a rd sat 0 x1 x2
  | 0x15 => .scMin n a b rd sat 0 x1 x2
  | 0x16 => .scMax n a b rd sat 0 x1 x2
  | 0x17 => .scAnd n a b rd sat 0 x1 x2
  | 0x18 => .scOr n a b rd sat 0 x1 x2
  | 0x19 => .scXor n a b rd sat 0 x1 x2
  | 0x1A => .scShl n a b rd sat 0 x1 x2
  | 0x1B => .scShr n a b rd sat 0 x1 x2
  | 0x1C => .scSra n a b rd sat 0 x1 x2
  | 0x1D => .scShli n a b rd sat 0 x1 x2
  | 0x1E => .scShri n a b rd sat 0 x1 x2
  | 0x1F => .scSrai n a b rd sat 0 x1 x2
  | _ => .scFmul n a b rd sat 0 x1 x2

open Machine in
/-- The command that a bundle of signal core `n` spells: the row of its MAC operation, with the words of the move slots. A
reserved MAC word is an ACCCLR with bits set that must be 0. -/
def bundleWord (n w : Nat) : Instr :=
  let x1 := BitVec.ofNat 20 (w / 2 ^ 20)
  let x2 := BitVec.ofNat 20 w
  match macOf (BitVec.ofNat 24 (w / 2 ^ 40)) with
  | .nop => .scMacNop n x1 x2
  | .mul 1 d a b sat uns => .scMul n d a b sat uns 0 x1 x2
  | .mul 2 d a b sat uns => .scMac n d a b sat uns 0 x1 x2
  | .mul 3 d a b sat uns => .scMsu n d a b sat uns 0 x1 x2
  | .mul 4 d a b sat uns => .scDmul n d a b sat uns 0 x1 x2
  | .mul 5 d a b sat uns => .scDmac n d a b sat uns 0 x1 x2
  | .mul 6 d a b sat uns => .scDmsu n d a b sat uns 0 x1 x2
  | .mul 7 d a b sat uns => .scPmul n d a b sat uns 0 x1 x2
  | .mul _ d a b sat uns => .scPmac n d a b sat uns 0 x1 x2
  | .accAdd false d src sat uns => .scAccadd n d src sat uns 0 x1 x2
  | .accAdd true d src sat uns => .scAccsub n d src sat uns 0 x1 x2
  | .accLd d a k uns => .scAccld n d a k uns 0 x1 x2
  | .accSra d k => .scAccsra n d k 0 x1 x2
  | .accClr d => .scAccclr n d 0 x1 x2
  | .ext src rd shift rnd sat24 uns => .scExt n src rd shift rnd sat24 uns 0 x1 x2
  | .search false d a f dual u abs => .scSmin n d a f dual u abs 0 x1 x2
  | .search true d a f dual u abs => .scSmax n d a f dual u abs 0 x1 x2
  | .alu op a b rd sat => macAluWord n op a b rd sat x1 x2
  | .bad => .scAccclr n 0 1 x1 x2

end Sys2Proof
end

