-- ==== Sys2Proof/Machine/Crypto.lean ====
section
/-!
DEFINITION. The cryptographic functions that the spec takes from their standards: AES-256 (FIPS 197), GCM (NIST SP 800-38D), AES
key wrap (NIST SP 800-38F), SHA-384 (FIPS 180-4) and ECDSA verification on curve P-384 (FIPS 186-5), for R176, R178, R293, R487 and
R488. A byte string is in the order of its standard: its first byte is the most significant of a number. Log entry 6.
-/
namespace Sys2Proof.Machine

/-- The `n` low bytes of `v`, most significant byte first. -/
def bytesBE (n v : Nat) : List Byte := (bytesLE n v).reverse

/-- The number that big-endian bytes spell. -/
def ofBytesBE (bs : List Byte) : Nat := ofBytesLE bs.reverse

/-- XOR of a byte string with another of at least its length; bytes that the other has not are 0. -/
def xorBytes (a b : List Byte) : List Byte := (List.range a.length).map (fun j => a.getD j 0 ^^^ b.getD j 0)

/-! ### AES-256 (FIPS 197) -/

/-- The S-box: entry v is byte v mod 32 of row v / 32. -/
def sboxRows : List Nat :=
  [0xC072A49CAFA2D4ADF04759FA7DC982CA76ABD7FE2B670130C56F6BF27B777C63,
   0x75B227EBE28012079A059618C323C7041531D871F1E5A534CCF73F362693FDB7,
   0xCF584C4A39BECB6A5BB1FC20ED00D153842FE329B3D63B52A05A6E1B1A2C8309,
   0xD2F3FF1021DAB6BCF5389D928F40A351A89F3C507F02F94585334D43FBAAEFD0,
   0xDB0B5EDE14B8EE4688902A22DC4F816073195D643D7EA7C41744975FEC130CCD,
   0x08AE7A65EAF4566CA94ED58D6D37C8E779E4959162ACD3C25C2406490A3A32E0,
   0x9E1DC186B95735610EF6034866B53E708A8BBD4B1F74DDE8C6B4A61C2E2578BA,
   0x16BB54B00F2D99416842E6BF0D89A18CDF2855CEE9871E9B948ED9691198F8E1]

/-- The inverse S-box. -/
def invSboxRows : List Nat :=
  [0xCBE9DEC444438E3487FF2F9B8239E37CFBD7F3819EA340BF38A53630D56A0952,
   0x25D18B6D49A25B76B224D92866A12E084EC3FA420B954CEE3D23C2A632947B54,
   0x849D8DA75746155EDAB9EDFD5048706C92B6655DCC5CA4D41698688664F6F872,
   0x6B8A130103BDAFC1020F3FCA8F1E2CD00645B3B80558E4F70AD3BC8C00ABD890,
   0x6EDF751CE837F9E28535ADE72274AC9673E6B4F0CECFF297EADC674F4111913A,
   0xF45ACD78FEC0DB9A2079D2C64B3E56FC1BBE18AA0E62B76F89C5291D711AF147,
   0xEF9CC9939F7AE52D0D4AB519A97F51605FEC8027591012B131C7078833A8DD1F,
   0x7D0C2155631469E126D677BA7E042B17619953833CBBEBC8B0F52AAE4D3BE0A0]

/-- A table entry. -/
def boxAt (rows : List Nat) (v : Nat) : Nat := rows.getD (v / 32) 0 / 2 ^ (8 * (v % 32)) % 256
def sbox (v : Nat) : Nat := boxAt sboxRows v
def invSbox (v : Nat) : Nat := boxAt invSboxRows v

/-- Multiplication by x in the field of AES. -/
def xtime (b : Nat) : Nat := if 128 ≤ b then (2 * b) ^^^ 0x11B else 2 * b

/-- Multiplication in the field of AES. -/
def gmul (a b : Nat) : Nat :=
  ((List.range 8).foldl (fun (acc : Nat × Nat) j => (if bitOf b j then acc.1 ^^^ acc.2 else acc.1, xtime acc.2)) (0, a)).1

/-- SubWord over the four bytes of a word. -/
def subWord (w : Nat) : Nat := ofBytesBE ((bytesBE 4 w).map (fun b => BitVec.ofNat 8 (sbox b.toNat)))

/-- RotWord. -/
def rotWord (w : Nat) : Nat := w % 2 ^ 24 * 256 + w / 2 ^ 24

/-- The next word of the key schedule of number `i`, from the words before it, the newest first. -/
def keyWord (i : Nat) (ws : List Nat) : Nat :=
  let t := ws.getD 0 0
  let u := if i % 8 = 0 then subWord (rotWord t) ^^^ 2 ^ (i / 8 - 1) * 2 ^ 24 else if i % 8 = 4 then subWord t else t
  ws.getD 7 0 ^^^ u

/-- The 15 round keys of an AES-256 key, as 16 bytes each. -/
def roundKeys (key : List Byte) : List (List Nat) :=
  let w0 := ((List.range 8).map (fun i => ofBytesBE ((List.range 4).map (fun j => key.getD (4 * i + j) 0)))).reverse
  let ws := ((List.range 52).foldl (fun ws i => keyWord (8 + i) ws :: ws) w0).reverse
  (List.range 15).map (fun r => (List.range 4).flatMap (fun j => (bytesBE 4 (ws.getD (4 * r + j) 0)).map (·.toNat)))

/-- AddRoundKey. -/
def addKey (st k : List Nat) : List Nat := List.zipWith (· ^^^ ·) st k

/-- ShiftRows, and its inverse. -/
def shiftRows (st : List Nat) : List Nat := (List.range 16).map (fun j => st.getD ((j + 4 * (j % 4)) % 16) 0)
def invShiftRows (st : List Nat) : List Nat := (List.range 16).map (fun j => st.getD ((j + 12 * (j % 4)) % 16) 0)

/-- MixColumns with the factors of one row. -/
def mixColumns (m : List Nat) (st : List Nat) : List Nat :=
  (List.range 16).map (fun j => (List.range 4).foldl (fun a i => a ^^^ gmul (st.getD (j / 4 * 4 + i) 0) (m.getD ((i + 4 - j % 4) % 4) 0)) 0)

/-- AES-256 of a block of 16 bytes. -/
def aes256 (key block : List Byte) : List Byte :=
  let ks := roundKeys key
  let s0 := addKey ((List.range 16).map (fun j => (block.getD j 0).toNat)) (ks.getD 0 [])
  let s1 := (List.range 13).foldl (fun s r => addKey (mixColumns [2, 3, 1, 1] (shiftRows (s.map sbox))) (ks.getD (r + 1) [])) s0
  (addKey (shiftRows (s1.map sbox)) (ks.getD 14 [])).map (BitVec.ofNat 8)

/-- The inverse cipher of AES-256. -/
def aes256Inv (key block : List Byte) : List Byte :=
  let ks := roundKeys key
  let s0 := addKey ((List.range 16).map (fun j => (block.getD j 0).toNat)) (ks.getD 14 [])
  let s1 := (List.range 13).foldl (fun s r => mixColumns [14, 11, 13, 9] (addKey ((invShiftRows s).map invSbox) (ks.getD (13 - r) []))) s0
  (addKey ((invShiftRows s1).map invSbox) (ks.getD 0 [])).map (BitVec.ofNat 8)

/-! ### GCM (NIST SP 800-38D) -/

/-- Multiplication in the field of GCM; bit 127 of a number is the first bit of its block. -/
def ghashMul (x y : Nat) : Nat :=
  ((List.range 128).foldl (fun (acc : Nat × Nat) i =>
    (if bitOf x (127 - i) then acc.1 ^^^ acc.2 else acc.1, if acc.2 % 2 = 1 then (acc.2 / 2) ^^^ 0xE1 * 2 ^ 120 else acc.2 / 2)) (0, y)).1

/-- A byte string padded with zeros to whole blocks, as numbers. -/
def gcmBlocks (bs : List Byte) : List Nat :=
  (List.range ((bs.length + 15) / 16)).map (fun i => ofBytesBE ((List.range 16).map (fun j => ((bs.drop (16 * i)).take 16).getD j 0)))

/-- GHASH under the hash key `h`. -/
def ghash (h : Nat) (xs : List Nat) : Nat := xs.foldl (fun y x => ghashMul (y ^^^ x) h) 0

/-- The hash key of a key. -/
def gcmH (key : List Byte) : Nat := ofBytesBE (aes256 key (List.replicate 16 0))

/-- The pre-counter block of an IV. -/
def gcmJ0 (key iv : List Byte) : Nat :=
  if iv.length = 12 then ofBytesBE iv * 2 ^ 32 + 1 else ghash (gcmH key) (gcmBlocks iv ++ [8 * iv.length])

/-- The counter block `n` after a block. -/
def gcmInc (j n : Nat) : Nat := j / 2 ^ 32 * 2 ^ 32 + (j + n) % 2 ^ 32

/-- `n` bytes of the key stream of a key and an IV, from block `b` of the text on. -/
def gcmStream (key iv : List Byte) (b n : Nat) : List Byte :=
  let j := gcmJ0 key iv
  ((List.range ((n + 15) / 16)).flatMap (fun i => aes256 key (bytesBE 16 (gcmInc j (b + i + 1))))).take n

/-- The 128-bit tag of a key, an IV, additional data and a ciphertext. -/
def gcmTag (key iv aad c : List Byte) : Nat :=
  ghash (gcmH key) (gcmBlocks aad ++ gcmBlocks c ++ [8 * aad.length * 2 ^ 64 + 8 * c.length]) ^^^ ofBytesBE (aes256 key (bytesBE 16 (gcmJ0 key iv)))

/-! ### AES key wrap (NIST SP 800-38F) -/

/-- The four 64-bit parts of a 32-byte key. -/
def keyParts (bs : List Byte) : List Nat := (List.range 4).map (fun i => ofBytesBE ((List.range 8).map (fun j => bs.getD (8 * i + j) 0)))

/-- AES key wrap of a 32-byte key under the device's wrapping key of a class (R293). -/
def keyWrap (cl : Nat) (bs : List Byte) : List Byte :=
  let kek := bytesBE 32 (Config.wrapKey cl).toNat
  let r := (List.range 24).foldl (fun (acc : Nat × List Nat) t =>
    let b := ofBytesBE (aes256 kek (bytesBE 16 (acc.1 * 2 ^ 64 + acc.2.getD (t % 4) 0)))
    ((b / 2 ^ 64) ^^^ (t + 1), acc.2.set (t % 4) (b % 2 ^ 64))) (0xA6A6A6A6A6A6A6A6, keyParts bs)
  bytesBE 8 r.1 ++ r.2.flatMap (bytesBE 8)

/-- Its inverse: none where the integrity check fails (R293). -/
def keyUnwrap (cl : Nat) (bs : List Byte) : Option (List Byte) :=
  let kek := bytesBE 32 (Config.wrapKey cl).toNat
  let r := (List.range 24).foldl (fun (acc : Nat × List Nat) u =>
    let t := 23 - u
    let b := ofBytesBE (aes256Inv kek (bytesBE 16 ((acc.1 ^^^ (t + 1)) * 2 ^ 64 + acc.2.getD (t % 4) 0)))
    (b / 2 ^ 64, acc.2.set (t % 4) (b % 2 ^ 64))) (ofBytesBE (bs.take 8), keyParts (bs.drop 8))
  if r.1 = 0xA6A6A6A6A6A6A6A6 then some (r.2.flatMap (bytesBE 8)) else none

/-! ### SHA-384 (FIPS 180-4) -/

/-- The constants of SHA-384 and SHA-512. -/
def shaK : List Nat :=
  [0x428A2F98D728AE22, 0x7137449123EF65CD, 0xB5C0FBCFEC4D3B2F, 0xE9B5DBA58189DBBC,
   0x3956C25BF348B538, 0x59F111F1B605D019, 0x923F82A4AF194F9B, 0xAB1C5ED5DA6D8118,
   0xD807AA98A3030242, 0x12835B0145706FBE, 0x243185BE4EE4B28C, 0x550C7DC3D5FFB4E2,
   0x72BE5D74F27B896F, 0x80DEB1FE3B1696B1, 0x9BDC06A725C71235, 0xC19BF174CF692694] ++
  [0xE49B69C19EF14AD2, 0xEFBE4786384F25E3, 0x0FC19DC68B8CD5B5, 0x240CA1CC77AC9C65,
   0x2DE92C6F592B0275, 0x4A7484AA6EA6E483, 0x5CB0A9DCBD41FBD4, 0x76F988DA831153B5,
   0x983E5152EE66DFAB, 0xA831C66D2DB43210, 0xB00327C898FB213F, 0xBF597FC7BEEF0EE4,
   0xC6E00BF33DA88FC2, 0xD5A79147930AA725, 0x06CA6351E003826F, 0x142929670A0E6E70] ++
  [0x27B70A8546D22FFC, 0x2E1B21385C26C926, 0x4D2C6DFC5AC42AED, 0x53380D139D95B3DF,
   0x650A73548BAF63DE, 0x766A0ABB3C77B2A8, 0x81C2C92E47EDAEE6, 0x92722C851482353B,
   0xA2BFE8A14CF10364, 0xA81A664BBC423001, 0xC24B8B70D0F89791, 0xC76C51A30654BE30,
   0xD192E819D6EF5218, 0xD69906245565A910, 0xF40E35855771202A, 0x106AA07032BBD1B8] ++
  [0x19A4C116B8D2D0C8, 0x1E376C085141AB53, 0x2748774CDF8EEB99, 0x34B0BCB5E19B48A8,
   0x391C0CB3C5C95A63, 0x4ED8AA4AE3418ACB, 0x5B9CCA4F7763E373, 0x682E6FF3D6B2B8A3,
   0x748F82EE5DEFB2FC, 0x78A5636F43172F60, 0x84C87814A1F0AB72, 0x8CC702081A6439EC,
   0x90BEFFFA23631E28, 0xA4506CEBDE82BDE9, 0xBEF9A3F7B2C67915, 0xC67178F2E372532B] ++
  [0xCA273ECEEA26619C, 0xD186B8C721C0C207, 0xEADA7DD6CDE0EB1E, 0xF57D4F7FEE6ED178,
   0x06F067AA72176FBA, 0x0A637DC5A2C898A6, 0x113F9804BEF90DAE, 0x1B710B35131C471B,
   0x28DB77F523047D84, 0x32CAAB7B40C72493, 0x3C9EBE0A15C9BEBC, 0x431D67C49C100D4C,
   0x4CC5D4BECB3E42B6, 0x597F299CFC657E2A, 0x5FCB6FAB3AD6FAEC, 0x6C44198C4A475817]

/-- The initial hash value of SHA-384. -/
def shaH : List Nat :=
  [0xCBBB9D5DC1059ED8, 0x629A292A367CD507, 0x9159015A3070DD17, 0x152FECD8F70E5939,
   0x67332667FFC00B31, 0x8EB44A8768581511, 0xDB0C2E0D64F98FA7, 0x47B5481DBEFA4FA4]

/-- Rotation of a 64-bit word to the right. -/
def rotr64 (w n : Nat) : Nat := w / 2 ^ n + w % 2 ^ n * 2 ^ (64 - n)

/-- The schedule of a block: word 79 first. -/
def shaSchedule (b : List Nat) : List Nat :=
  (List.range 64).foldl (fun ws _ =>
    let a := ws.getD 1 0
    let e := ws.getD 14 0
    let s1 := rotr64 a 19 ^^^ rotr64 a 61 ^^^ a / 2 ^ 6
    let s0 := rotr64 e 1 ^^^ rotr64 e 8 ^^^ e / 2 ^ 7
    (s1 + ws.getD 6 0 + s0 + ws.getD 15 0) % 2 ^ 64 :: ws) b.reverse

/-- One round over the working variables a to h. -/
def shaRound (v : List Nat) (kw : Nat) : List Nat :=
  let g (i : Nat) : Nat := v.getD i 0
  let t1 := g 7 + (rotr64 (g 4) 14 ^^^ rotr64 (g 4) 18 ^^^ rotr64 (g 4) 41) + ((g 4 &&& g 5) ^^^ ((2 ^ 64 - 1 - g 4) &&& g 6)) + kw
  let t2 := (rotr64 (g 0) 28 ^^^ rotr64 (g 0) 34 ^^^ rotr64 (g 0) 39) + ((g 0 &&& g 1) ^^^ (g 0 &&& g 2) ^^^ (g 1 &&& g 2))
  [(t1 + t2) % 2 ^ 64, g 0, g 1, g 2, (g 3 + t1) % 2 ^ 64, g 4, g 5, g 6]

/-- The padded message: 1, zeros, the length in bits. -/
def shaPad (m : List Byte) : List Byte :=
  m ++ [0x80] ++ List.replicate ((128 - (m.length + 17) % 128) % 128) 0 ++ bytesBE 16 (8 * m.length)

/-- SHA-384 of a byte string (R178). -/
def sha384 (m : List Byte) : List Byte :=
  let p := shaPad m
  let h := (List.range (p.length / 128)).foldl (fun h i =>
    let blk := (p.drop (128 * i)).take 128
    let ws := (shaSchedule ((List.range 16).map (fun j => ofBytesBE ((blk.drop (8 * j)).take 8)))).reverse
    let v := (List.zipWith (· + ·) shaK ws).foldl shaRound h
    List.zipWith (fun a b => (a + b) % 2 ^ 64) h v) shaH
  (h.take 6).flatMap (bytesBE 8)

/-! ### ECDSA on curve P-384 (FIPS 186-5) -/

/-- The prime, the order and the coefficient b of P-384; its coefficient a is -3. -/
def p384 : Nat := 2 ^ 384 - 2 ^ 128 - 2 ^ 96 + 2 ^ 32 - 1
def n384 : Nat := 0xFFFFFFFFFFFFFFFFFFFFFFFFFFFFFFFFFFFFFFFFFFFFFFFFC7634D81F4372DDF581A0DB248B0A77AECEC196ACCC52973
def b384 : Nat := 0xB3312FA7E23EE7E4988E056BE3F82D19181D9C6EFE8141120314088F5013875AC656398D8A2ED19D2A85C8EDD3EC2AEF

/-- The base point. -/
def g384 : Nat × Nat :=
  (0xAA87CA22BE8B05378EB1C71EF320AD746E1D3B628BA79B9859F741E082542A385502F25DBF55296C3A545E3872760AB7,
   0x3617DE4A96262C6F5D9E98BF9292DC29F8F41DBD289A147CE9DA3113B5F0B8C00A60B1CE1D7E819D7A431D7C90EA0E5F)

/-- `a` to the power `e` of 384 bits, modulo `m`. -/
def powMod (a e m : Nat) : Nat :=
  ((List.range 384).foldl (fun (acc : Nat × Nat) i => (if bitOf e i then acc.1 * acc.2 % m else acc.1, acc.2 * acc.2 % m)) (1, a % m)).1

/-- The inverse modulo a prime. -/
def invMod (a m : Nat) : Nat := powMod a (m - 2) m

/-- The point with a slope through another; none is the point at infinity. -/
def ecSlope (l : Nat) (a : Nat × Nat) (x : Nat) : Nat × Nat :=
  let x3 := (l * l + 2 * p384 - a.1 - x) % p384
  (x3, (l * (a.1 + p384 - x3) + p384 - a.2) % p384)

/-- Addition of points. -/
def ecAdd : Option (Nat × Nat) → Option (Nat × Nat) → Option (Nat × Nat)
  | none, q => q
  | p, none => p
  | some a, some b =>
    if a.1 = b.1 then
      (if (a.2 + b.2) % p384 = 0 then none
       else some (ecSlope ((3 * a.1 * a.1 + p384 - 3) * invMod (2 * a.2) p384 % p384) a a.1))
    else some (ecSlope ((b.2 + p384 - a.2) * invMod (b.1 + p384 - a.1) p384 % p384) a b.1)

/-- A point times a number of 384 bits. -/
def ecMul (k : Nat) (a : Nat × Nat) : Option (Nat × Nat) :=
  ((List.range 384).foldl (fun (acc : Option (Nat × Nat) × Option (Nat × Nat)) i =>
    (if bitOf k i then ecAdd acc.1 acc.2 else acc.1, ecAdd acc.2 acc.2)) (none, some a)).1

/-- A point lies on the curve. -/
def onCurve (a : Nat × Nat) : Bool :=
  a.1 < p384 && a.2 < p384 && a.2 * a.2 % p384 == (a.1 * a.1 * a.1 + (p384 - 3) * a.1 + b384) % p384

/-- ECDSA verification (R178): an uncompressed public key of 97 bytes, the message digest, r and s. -/
def ecdsaP384 (pub digest r s : List Byte) : Bool :=
  let q := (ofBytesBE ((pub.drop 1).take 48), ofBytesBE ((pub.drop 49).take 48))
  let rv := ofBytesBE r
  let sv := ofBytesBE s
  if (pub.getD 0 0).toNat ≠ 4 || !onCurve q || rv = 0 || n384 ≤ rv || sv = 0 || n384 ≤ sv then false
  else
    let w := invMod sv n384
    match ecAdd (ecMul (ofBytesBE digest * w % n384) g384) (ecMul (rv * w % n384) q) with
    | none => false
    | some x => x.1 % n384 == rv

end Sys2Proof.Machine
end

