-- ==== Sys2Proof/Machine/Codes.lean ====
section
/-!
DEFINITION. Checks over byte strings: CRC-32C (R179) and the reading of little-endian fields of a record.
-/
namespace Sys2Proof.Machine

/-- One bit of the reflected CRC-32C register (R179: polynomial 0x1EDC_6F41, reflected 0x82F6_3B78). -/
def crcBit (c : BitVec 32) : BitVec 32 := if c.getLsbD 0 then (c >>> 1) ^^^ 0x82F63B78#32 else c >>> 1

/-- One byte of the CRC. -/
def crcByte (c : BitVec 32) (b : Byte) : BitVec 32 :=
  crcBit (crcBit (crcBit (crcBit (crcBit (crcBit (crcBit (crcBit (c ^^^ b.setWidth 32))))))))

/-- CRC-32C of a byte string (R179). -/
def crc32c (bs : List Byte) : Nat := (bs.foldl crcByte (BitVec.allOnes 32) ^^^ BitVec.allOnes 32).toNat

/-- `n` bytes of a string from offset `o`. -/
def slice (bs : List Byte) (o n : Nat) : List Byte := (bs.drop o).take n

/-- The little-endian number in `n` bytes at offset `o` (R4). -/
def fieldLE (bs : List Byte) (o n : Nat) : Nat := ofBytesLE (slice bs o n)

/-- Whether `n` bytes at offset `o` are all 0. -/
def allZero (bs : List Byte) (o n : Nat) : Bool := (slice bs o n).all (· == 0)

/-- The signature test of R178 over signed bytes and a signature block at an offset: ECDSA P-384 over SHA-384, and the
digest of PUBKEY present and not revoked in CFG_POLICY. -/
def signatureOk (s : State) (signed block : List Byte) : Bool :=
  let pub := slice block 0x40 97
  ecdsaP384 pub (sha384 signed) (slice block 0xC0 48) (slice block 0xF0 48) &&
  (List.range 4).any (fun k => bitOf (s.fld F.CFG_POLICY_DIG_PRESENT) k && !bitOf (s.fld F.CFG_POLICY_DIG_REVOKED) k &&
    sha384 pub == Config.keyDigest k)

end Sys2Proof.Machine
end

