-- ==== Sys2Proof/Machine/Dram.lean ====
section
/-!
DEFINITION. External memory below the protection pipes (chapter 15): the Reed-Solomon code of a block, DRAM contents, the
write queue with its forwarding, the remap table, and the error counters and logs.
-/
namespace Sys2Proof.Machine

/-! ### The code of a block (R441, R463, R464) -/

/-- Twice a symbol in GF(2^16), reduced by x^16 + x^12 + x^3 + x + 1. -/
def gfDouble (a : Nat) : Nat := if 32768 ≤ a then (2 * a % 65536) ^^^ 0x100B else 2 * a

/-- A symbol times alpha^n. -/
def gfShift : Nat → Nat → Nat
  | 0, a => a
  | n + 1, a => gfShift n (gfDouble a)

/-- Symbol `p` of code word `i` in a block's 640-bit pattern. -/
def cwSym (e i p : Nat) : Nat := bitsOf e (16 * (20 * i + p)) 16

/-- Syndrome j of code word `i`. -/
def cwSyn (e i j : Nat) : Nat := (List.range 20).foldl (fun a p => a ^^^ gfShift (j * p) (cwSym e i p)) 0

/-- The position of a single-device error of code word `i` (R464). -/
def cwSingle (e i : Nat) : Option Nat :=
  if cwSyn e i 0 = 0 then none
  else (List.range 20).find? (fun p => (List.range 3).all (fun j => cwSyn e i (j + 1) == gfShift p (cwSyn e i j)))

/-- All four syndromes are 0. -/
def cwClean (e i : Nat) : Bool := (List.range 4).all (fun j => cwSyn e i j == 0)

/-- The poison marker of a block as a pattern (R466). -/
def markerPattern : Nat :=
  0x5A5A * (2 ^ (16 * 8) + 2 ^ (16 * 18) + 2 ^ (16 * 28) + 2 ^ (16 * 38))

/-- The syndromes are those of the poison marker. -/
def isMarker (e : Nat) : Bool :=
  (List.range 2).all (fun i => (List.range 4).all (fun j => cwSyn e i j == cwSyn markerPattern i j))

/-- The class of a block with pattern `e` (Table 15.5) and, for CE, the device. -/
def blkClass (e : Nat) : Nat × Nat :=
  if cwClean e 0 && cwClean e 1 then (0, 0)
  else if isMarker e then (3, 0)
  else match cwSingle e 0, cwSingle e 1 with
    | some p, some q => if p = q then (1, p) else (2, 0)
    | some p, none => if cwClean e 1 then (1, p) else (2, 0)
    | none, some q => if cwClean e 0 then (1, q) else (2, 0)
    | none, none => (2, 0)

/-- The pattern that is left after correction at device `p`. -/
def blkFixed (e p : Nat) : Nat :=
  e ^^^ (cwSyn e 0 0 * 2 ^ (16 * p)) ^^^ (cwSyn e 1 0 * 2 ^ (16 * (20 + p)))

/-- What a pattern does to block byte `b` (R441, R463). -/
def byteFlip (e b : Nat) : Byte :=
  let half := b / 32
  let k := b % 32 / 4
  let w := b % 4
  let nib (d : Nat) : Nat := cwSym e (k / 4) (10 * half + d) / 16 ^ (k % 4) % 16
  BitVec.ofNat 8 (nib (2 * w) + 16 * nib (2 * w + 1))

/-- Bytes of a block as a pattern changes them. -/
def flipBytes (e : Nat) (d : List Byte) : List Byte := (List.range 64).map (fun b => d.getD b 0 ^^^ byteFlip e b)

/-! ### DRAM contents -/

/-- The number of block `blk` of port `n`. -/
def blkKey (n blk : Nat) : Nat := n * 2 ^ 35 + blk

/-- Changes memory port `n`. -/
def State.updMp (s : State) (n : Nat) (f : MPort → MPort) : State := { s with mp := s.mp.upd n f }

/-- The stored data and pattern of a block; free values where nothing has written it since training (R438). -/
def dramRaw (n blk : Nat) (s : State) : List Byte × Nat × State :=
  if (s.mp.get n).zeroed || s.dramDef.get (blkKey n blk) then
    (s.rdBytes (aDram n (64 * blk)) 64, s.dramErr.get (blkKey n blk), s)
  else
    let (d, s1) := s.freshBytes 64
    let (e, s2) := s1.freshBits 10
    (d, e, s2)

/-- A block as the port decodes it: data, class and device (R464, R465). -/
def dramDecode (n blk : Nat) (s : State) : List Byte × Nat × Nat × State :=
  let (d, e, s1) := dramRaw n blk s
  let (c, p) := blkClass e
  ((if c = 1 then flipBytes (blkFixed e p) d else flipBytes e d), c, p, s1)

/-- Stores a block with correct check symbols, or with the poison marker. -/
def dramStore (n blk : Nat) (d : List Byte) (psn : Bool) (s : State) : State :=
  let s1 := s.wrBytes (aDram n (64 * blk)) (d.take 64)
  { s1 with dramErr := s1.dramErr.set (blkKey n blk) (if psn then markerPattern else 0),
            dramDef := s1.dramDef.set (blkKey n blk) true }

/-- An upset in DRAM changes the stored symbols of a block by a pattern. -/
def dramUpset (n blk e : Nat) (s : State) : State :=
  { s with dramErr := s.dramErr.set (blkKey n blk) (s.dramErr.get (blkKey n blk) ^^^ e % 2 ^ 640) }

/-! ### Banks, activations, disturbance (R442, R455 to R458) -/

/-- The number of logical ranks of port `n`. -/
def mpRanks (s : State) (n : Nat) : Nat := 2 ^ s.fld F.MP_GEOM_L n

/-- Bank and row of a block (Table 15.4): rank x 32 + bank group x 4 + bank. -/
def blkBank (s : State) (n blk : Nat) : Nat := blk / 2 ^ 13 % mpRanks s n * 32 + blk / 2 % 8 * 4 + blk / 2 ^ 11 % 4
def blkRow (s : State) (n blk : Nat) : Nat := blk / 2 ^ 13 / mpRanks s n

/-- DIMM, physical rank and 3DS chip ID of a logical rank number, from its least significant bit up (R443): the DIMM's bit only
with two DIMMs, the physical rank's only with two of them. -/
def rankParts (s : State) (n r : Nat) : Nat × Nat × Nat :=
  let d := 2 ^ s.fld F.MP_GEOM_DIMMS n
  let p := 2 ^ s.fld F.MP_GEOM_PRANKS n
  (r % d, r / d % p, r / d / p)

/-- A command goes to the DRAM: its DIMM, physical rank, chip ID, bank, row and column C[10:4] (R442, R443). Kinds: 0 REFsb,
1 REFab, 2 RFMsb, 3 DRFMsb, 4 activate, 5 read, 6 write BL16, 7 write BC8, 8 SRE, 9 SRX. -/
def mpEmitCol (n kind bank row col : Nat) (s : State) : State :=
  let r := rankParts s n (bank / 32)
  s.emit (.dram n kind r.1 r.2.1 r.2.2 (bank % 32) row col)

/-- A command without a column. -/
def mpEmit (n kind bank row : Nat) (s : State) : State := mpEmitCol n kind bank row 0 s

/-- A read or write command for a block: its bank, row and column (Table 15.4). -/
def mpCommand (n kind blk : Nat) (s : State) : State := mpEmitCol n kind (blkBank s n blk) (blkRow s n blk) (blk / 2 ^ 4 % 2 ^ 7) s

/-- A command to every logical rank. -/
def mpEmitAll (n kind : Nat) (s : State) : State := forN (mpRanks s n) (fun r s => mpEmit n kind (32 * r) 0 s) s

/-- RFM or a refresh takes RAAIMT off a bank's rolling count. -/
def mpRaaDown (n bank : Nat) (s : State) : State :=
  s.updMp n (fun m => { m with raa := m.raa.set bank (m.raa.get bank - Config.raaimt n), rows := m.rows.set bank 0 })

/-- A same-bank RFM takes it off the bank in all eight bank groups, as the standard's same-bank commands do (PRESUMED, log 36). -/
def mpRaaSb (n bank : Nat) (s : State) : State :=
  forN 8 (fun g s => mpRaaDown n (bank / 32 * 32 + g * 4 + bank % 4) s) s

/-- An initiator is throttled (R458): a fifth takes the place of the one that ends first. -/
def mpThrottle (n init src : Nat) (s : State) : State :=
  let m := s.mp.get n
  let was := m.thr.contains (init, src)
  let rest := m.thr.filter (· != (init, src))
  let s1 := s.updMp n (fun m => { m with thr := (if rest.length ≥ 4 then rest.drop 1 else rest) ++ [(init, src)] })
  if was then s1 else s1.bump F.MP_RH_CNT_THROTTLE n

/-- A tracked row has reached the threshold (R457). -/
def mpDisturb (n bank : Nat) (t : Track) (s : State) : State :=
  let drfm := s.bit F.MP_GEOM_DRFM n
  let s1 := mpRaaSb n bank (mpEmit n (if drfm then 3 else 2) bank t.row s)
  let s2 := s1.updMp n (fun m => { m with trk := m.trk.upd bank (fun l => l.filter (fun x => x.row != t.row)) })
  let s3 := (mpThrottle n t.init t.src s2).bump F.MP_RH_CNT_RFM n
  let s4 := if s3.bit F.MP_RH_LOG_VALID n then s3
    else ((((((s3.setBit F.MP_RH_LOG_VALID n).setFld F.MP_RH_LOG_SRCDEV n 0 t.src).setFld F.MP_RH_LOG_INIT n 0 t.init).setFld
      F.MP_RH_LOG_RANK n 0 (bank / 32)).setFld F.MP_RH_LOG_BG n 0 (bank % 32 / 4)).setFld F.MP_RH_LOG_BANK n 0 (bank % 4)).setFld
      F.MP_RH_LOG_ROW n 0 t.row
  irqEdge (0x130 + n) s4

/-- A bank's tracker after an activation of a row (R456). -/
def trackRow (l : List Track) (row init src : Nat) : List Track :=
  if l.any (fun t => t.row == row) then
    l.map (fun t => if t.row = row then { t with cnt := t.cnt + 1, init := init, src := src } else t)
  else if l.length < 8 then l ++ [{ row := row, cnt := 1, init := init, src := src }]
  else (l.map (fun t => { t with cnt := t.cnt - 1 })).filter (fun t => t.cnt != 0)

/-- The row of a block is opened for an initiator, unless it is open (R451, R455 to R457). -/
def mpActivate (n blk init src : Nat) (s : State) : State :=
  let b := blkBank s n blk
  let row := blkRow s n blk
  if (s.mp.get n).rows.get b = row + 1 then s
  else
    let s1 := (mpEmit n 4 b row s).updMp n (fun m => { m with rows := m.rows.set b (row + 1), raa := m.raa.set b (m.raa.get b + 1),
                                                              trk := m.trk.upd b (fun l => trackRow l row init src) })
    match ((s1.mp.get n).trk.get b).find? (fun t => t.row == row && max 1 (s1.fld F.MP_RH_TRK_THRESH n) ≤ t.cnt) with
    | some t => mpDisturb n b t s1
    | none => s1

/-! ### Counters and logs (R465, R473 to R476) -/

/-- The leaky bucket takes one event (R475). -/
def mpBucket (n : Nat) (s : State) : State :=
  let c := s.fld F.MP_LB_COUNT n + 1
  if max 1 (s.fld F.MP_ECC_LB_LIMIT n) ≤ c then (s.clrFld F.MP_LB_COUNT n).setEvt F.MP_LB_OVF n 0 (0x160 + n)
  else s.setFld F.MP_LB_COUNT n 0 c

/-- A CE block is counted and logged (R465, R474, R475). -/
def mpNoteCe (n blk dev : Nat) (s : State) : State :=
  let s1 := (s.bump F.MP_CE_CNT_COUNT n).setFlag F.MP_DEVMAP_DEV n 0 dev
  match (List.range 16).find? (fun e => s1.bit F.MP_CELOG_VALID n e && s1.fld F.MP_CELOG_ADDR n e == blk) with
  | some e => (s1.bump F.MP_CELOG_COUNT n e).setFld F.MP_CELOG_DEVICE n e dev
  | none =>
    match (List.range 16).find? (fun e => !s1.bit F.MP_CELOG_VALID n e) with
    | some e =>
      let s2 := (((s1.setBit F.MP_CELOG_VALID n e).setFld F.MP_CELOG_ADDR n e blk).setFld F.MP_CELOG_COUNT n e 1).setFld F.MP_CELOG_DEVICE n e dev
      if s2.bit F.MP_ECC_CE_IRQ n then irqEdge (0x140 + n) s2 else s2
    | none => mpBucket n s1

/-- A UE block is counted and logged (R465, R473, R476). -/
def mpNoteUe (n blk : Nat) (patrol : Bool) (s : State) : State :=
  let s1 := s.bump F.MP_UE_CNT_COUNT n
  let s2 := if s1.bit F.MP_UE_LOG_VALID n then s1
    else ((s1.setBit F.MP_UE_LOG_VALID n).setFld F.MP_UE_LOG_PATROL n 0 (ofBool patrol)).setFld F.MP_UE_LOG_ADDR n 0 blk
  irqEdge (0x150 + n) s2

/-! ### The remap table (R470) -/

/-- The remap entry of port `n` that serves a block, or that an INSTALL is filling. -/
def remapOf (s : State) (n blk : Nat) : Option Nat :=
  (List.range 8).find? (fun e => (s.bit F.MP_REMAP_VALID n e || s.bit F.MP_REMAP_BUSY n e) && s.fld F.MP_REMAP_ADDR n e == blk)

/-- Bytes `mask` of a write go into a remap entry, as the marker of R117 when poisoned. -/
def remapWrite (n e : Nat) (d : List Byte) (mask : Nat) (psn : Bool) (s : State) : State :=
  forN 64 (fun j s => if !bitOf mask j then s else if psn then s.poisonB (aRemap n e j) else s.wrB (aRemap n e j) (d.getD j 0)) s

/-- Reads the bytes `need` of a remap entry: its bytes, and whether one of them is uncorrectable; every failing byte is counted
(R470), and an uncorrectable one raises the memory-port uncorrectable source (R473). -/
def remapRead (n e need : Nat) (s : State) : List Byte × Bool × State :=
  let ues := (ueBytes s (aRemap n e 0) 64).filter (bitOf need)
  let ces := (ceBytes s (aRemap n e 0) 64).filter (bitOf need)
  (corrected s (aRemap n e 0) 64, !ues.isEmpty,
   forL ces (fun _ s => s.bump F.MP_CE_CNT_COUNT n) (forL ues (fun _ s => irqEdge (0x150 + n) (s.bump F.MP_UE_CNT_COUNT n)) s))

/-! ### The write queue (R446 to R448, R467) -/

/-- All 64 bytes. -/
def fullMask : Nat := 2 ^ 64 - 1

/-- Lays the bytes of a mask over a block. -/
def layBytes (d : List Byte) (mask : Nat) (top : List Byte) : List Byte :=
  (List.range 64).map (fun j => if bitOf mask j then top.getD j 0 else d.getD j 0)

/-- A block read from DRAM is counted by its class `c` and, for CE, its device `p` (R464, R465). -/
def mpCount (n blk c p : Nat) (patrol : Bool) (s : State) : State :=
  match c with
  | 1 => mpNoteCe n blk p s
  | 2 => mpNoteUe n blk patrol s
  | 3 => s.bump F.MP_PSN_CNT_COUNT n
  | _ => s

/-- The DRAM contents of a block take a queue entry (R448, R467); a partial mask reads and decodes the block first. -/
def mpWriteOut (n : Nat) (e : WEntry) (s : State) : State :=
  if e.mask = fullMask then dramStore n e.blk e.data e.psn s
  else
    let (d, c, p, s1) := dramDecode n e.blk (mpCommand n 5 e.blk s)
    dramStore n e.blk (layBytes d e.mask e.data) (e.psn || c ≥ 2) (mpCount n e.blk c p false s1)

/-- A queue entry is written out (R448): with its full partner as one BL16 burst, else alone as BC8. -/
def issueWrite (n : Nat) (e : WEntry) (s : State) : State :=
  let mate := (s.mp.get n).wq.find? (fun x => x.blk / 2 == e.blk / 2 && x.blk != e.blk && x.mask == fullMask && e.mask == fullMask)
  let s1 := mpActivate n e.blk e.who.1 e.who.2 s
  let s2 := mpWriteOut n e (match mate with | some x => mpWriteOut n x s1 | none => s1)
  let s3 := mpCommand n (if mate.isSome then 6 else 7) e.blk s2
  s3.updMp n (fun m => { m with wq := m.wq.filter (fun x => x.blk != e.blk && (mate.map (·.blk)) != some x.blk) })

/-- A write of bytes of a block is accepted: it updates the remap entry that serves the block, merges into the block's
queue entry, or takes a new one (R446, R467, R470, R471); there is room. -/
def mpMerge (n blk : Nat) (d : List Byte) (mask : Nat) (psn : Bool) (s : State) : State :=
  match remapOf s n blk with
  | some e => if s.bit F.MP_REMAP_VALID n e then remapWrite n e d mask psn s
      else (remapWrite n e d mask psn s).updMp n (fun p => { p with rq := p.rq.map (fun r =>
        if r.kind = 2 ∧ r.e = e then { r with snaps := r.snaps.map (fun g => { g with data := layBytes g.data mask d, psn := g.psn || psn }), pkt := { r.pkt with mask := r.pkt.mask ||| mask } } else r) })
  | none => s.updMp n (fun p =>
      if p.wq.any (fun e => e.blk == blk) then
        { p with wq := p.wq.map (fun e => if e.blk = blk then
            let clean := if psn || !e.psn then 0 else e.clean ||| mask
            { e with data := layBytes e.data mask d, mask := e.mask ||| mask, clean := clean, who := p.who,
                     psn := psn || (e.psn && clean != fullMask) } else e) }
      else { p with wq := p.wq ++ [{ blk := blk, data := layBytes [] mask d, mask := mask, psn := psn, who := p.who }] })

/-- The queue has room for a write of a block: a full queue writes its oldest entry out first (R446). -/
def mpRoom (n blk : Nat) (s : State) : State :=
  let q := (s.mp.get n).wq
  if (remapOf s n blk).isSome || q.any (fun e => e.blk == blk) || q.length < 64 then s
  else match q.head? with | some e => issueWrite n e s | none => s

/-- A write of bytes of a block enters the port's write queue, which holds 64 entries (R446). -/
def mpEnqueue (n blk : Nat) (d : List Byte) (mask : Nat) (psn : Bool) (s : State) : State := mpMerge n blk d mask psn (mpRoom n blk s)

/-- The bytes `need` of a block as a read accepted now takes them (R447, R470). -/
def mpSnap (n blk need : Nat) (s : State) : MSnap × State :=
  match remapOf s n blk with
  | some e =>
    if s.bit F.MP_REMAP_VALID n e then
      let (d, bad, s1) := remapRead n e need s
      ({ blk := blk, data := d, cls := 4, psn := bad }, s1)
    else
      match (s.mp.get n).rq.find? (fun r => r.kind == 2 && r.e == e) with
      | some r => ((r.snaps.head?).getD { blk := blk, data := [] }, s)
      | none => ({ blk := blk, data := [] }, s)
  | none =>
    match (s.mp.get n).wq.find? (fun e => e.blk == blk) with
    | some e =>
      if e.mask &&& need = need then ({ blk := blk, data := e.data, cls := 4, psn := e.psn && need != 0 }, s)
      else
        let (d, c, p, s1) := dramDecode n blk s
        ({ blk := blk, data := layBytes d e.mask e.data, cls := c, dev := p, psn := c ≥ 2 || (e.psn && e.mask &&& need != 0) }, s1)
    | none =>
      let (d, c, p, s1) := dramDecode n blk s
      ({ blk := blk, data := d, cls := c, dev := p, psn := c ≥ 2 }, s1)

/-! ### Counting what a read finds (R465, R469) -/

/-- A block read from DRAM is counted by its class (R465), and a CE block is queued for write-back (R469); with no free entry
the write-back is left out (log 36). -/
def mpNote (n : Nat) (patrol : Bool) (g : MSnap) (s : State) : State :=
  let s1 := mpCount n g.blk g.cls g.dev patrol s
  if g.cls = 1 then
    let (d, c, _, s2) := dramDecode n g.blk s1
    if s1.bit F.MP_ECC_CE_WB n && c == 1 && (s1.mp.get n).wq.length < 64 && !(s1.mp.get n).wq.any (fun e => e.blk == g.blk) &&
        (remapOf s1 n g.blk).isNone
    then mpEnqueue n g.blk d fullMask false s2 else s1
  else s1

/-! ### Reads and writes at port offsets -/

/-- The parts of `[off, off + len)` by block: block, first byte in the block, offset in the access, length. -/
def blkParts (off len : Nat) : List (Nat × Nat × Nat × Nat) :=
  (rowsOf off len).map (fun t => ((off + t.2.1) / 64, (off + t.2.1) % 64, t.2.1, t.2.2))

/-- The byte mask of `n` bytes from byte `o` of a block. -/
def maskOf (o n : Nat) : Nat := (2 ^ n - 1) * 2 ^ o

/-- The port serves a request of an initiator, to which what it activates is attributed (R456). -/
def mpServing (n init src : Nat) (s : State) : State := s.updMp n (fun m => { m with who := (init, src) })

/-- A block taken for an access that is served at once: read from DRAM with its row opened, unless the chip holds it. -/
def mpFetch (n blk need : Nat) (s : State) : MSnap × State :=
  let (g, s1) := mpSnap n blk need s
  let w := (s.mp.get n).who
  (g, if g.cls = 4 then s1 else mpCommand n 5 blk (mpActivate n blk w.1 w.2 s1))

/-- The blocks of an access as a read takes them. -/
def mpSnaps (n off len : Nat) (s : State) : List MSnap × State :=
  (blkParts off len).foldl (fun (acc : List MSnap × State) t =>
    let (g, s1) := mpSnap n t.1 (maskOf t.2.1 t.2.2.2) acc.2
    (acc.1 ++ [g], s1)) ([], s)

/-- The blocks of an access that is served at once. -/
def mpFetches (n off len : Nat) (s : State) : List MSnap × State :=
  (blkParts off len).foldl (fun (acc : List MSnap × State) t =>
    let (g, s1) := mpFetch n t.1 (maskOf t.2.1 t.2.2.2) acc.2
    (acc.1 ++ [g], s1)) ([], s)

/-- The data of an access from its snapshots, and the poison mask of its flits; poisoned flits carry free data. -/
def snapData (off len : Nat) (gs : List MSnap) (s : State) : List Byte × Nat × State :=
  ((blkParts off len).zip gs).foldl (fun (acc : List Byte × Nat × State) tg =>
    let t := tg.1
    if tg.2.psn then
      let (f, s1) := acc.2.2.freshBytes t.2.2.2
      (acc.1 ++ f, withBit acc.2.1 (t.1 - off / 64) true, s1)
    else (acc.1 ++ (tg.2.data.drop t.2.1).take t.2.2.2, acc.2.1, acc.2.2)) ([], 0, s)

/-- An immediate read at port `n`: data and poison mask; every block is counted. -/
def mpReadNow (n off len : Nat) (s : State) : List Byte × Nat × State :=
  let (gs, s1) := mpFetches n off len s
  snapData off len gs (forL gs (mpNote n false) s1)

/-- A write of `len` bytes at a port offset enters the queue (R446, R466): MWRITE only its mask, a poisoned flit as
poison. -/
def mpWriteNow (n : Nat) (p : Packet) (s : State) : State :=
  let off := p.addr % 2 ^ 41
  forL (blkParts off (p.len + 1)) (fun t s =>
    let mask := if p.opc = opMWRITE then p.mask % 2 ^ 64 else maskOf t.2.1 t.2.2.2
    let d := List.replicate t.2.1 0 ++ (p.data.drop t.2.2.1).take t.2.2.2
    if mask = 0 then s else mpEnqueue n t.1 d mask (bitOf p.pmask (t.1 - off / 64)) s) s

/-- How many queue entries a write needs that the queue does not hold yet (R446). -/
def mpNeeds (s : State) (n : Nat) (p : Packet) : Nat :=
  ((blkParts (p.addr % 2 ^ 41) (p.len + 1)).filter (fun t =>
    (remapOf s n t.1).isNone && !(s.mp.get n).wq.any (fun e => e.blk == t.1))).length

/-- An ATOMIC at the port (R449): the old bytes, whether they are poisoned. -/
def mpAtomicNow (n : Nat) (p : Packet) (s : State) : List Byte × Bool × State :=
  let off := p.addr % 2 ^ 41
  let (d, pm, s1) := mpReadNow n off 8 s
  if pm ≠ 0 then (d, true, s1)
  else
    let v := atomicStore p (ofBytesLE d)
    (d, false, mpEnqueue n (off / 64) (List.replicate (off % 64) 0 ++ bytesLE 8 v.toNat) (maskOf (off % 64) 8) false s1)

/-- Errors of a request that the port finds first (R435): 0 when it may be served. -/
def mpCheck (s : State) (n : Nat) (p : Packet) : Nat :=
  let cap := s.fld F.MP_GEOM_CAP_LOG2 n
  if cap = 0 ∨ 2 ^ cap ≤ p.addr % 2 ^ 41 + p.len then eUNMAPPED
  else if s.fld F.MP_STATUS_STATE n ≠ 2 then eOFFLINE
  else 0

end Sys2Proof.Machine
end

