-- ==== Sys2Proof/Machine/Protect.lean ====
section
/-!
DEFINITION. The protection pipes (chapter 16): regions, key decision, the counter tree and its cache, encryption and
tags, page re-encryption, alarms, and the serving of a request at a memory port.
-/
namespace Sys2Proof.Machine

/-! ### Regions (R478, R490, R491) -/

/-- Region `r` is valid. -/
def rgValid (s : State) (r : Nat) : Bool := s.bit F.MPR_CTL_VALID 0 r
/-- STATE of region `r`: 0 OFF, 1 ACTIVE, 2 ROTATING, 3 FROZEN, 4 ZEROISED, 5 LOST. -/
def rgState (s : State) (r : Nat) : Nat := s.fld F.MPR_CTL_STATE 0 r
/-- LOG2SIZE. -/
def rgSize (s : State) (r : Nat) : Nat := s.fld F.MPR_CTL_LOG2SIZE 0 r
/-- The first port offsets of the data range and of the metadata range. -/
def rgBase (s : State) (r : Nat) : Nat := s.fld F.MPR_BASE_BASE 0 r * 2 ^ 21
def rgMeta (s : State) (r : Nat) : Nat := s.fld F.MPR_META_META 0 r * 2 ^ 19

/-- An offset lies in the data range, or the metadata range, of valid region `r` on port `n`. -/
def rgInData (s : State) (n r off : Nat) : Bool :=
  rgValid s r && s.fld F.MPR_CTL_PORT 0 r == n && rgBase s r ≤ off && off < rgBase s r + 2 ^ rgSize s r
def rgInMeta (s : State) (n r off : Nat) : Bool :=
  rgValid s r && s.fld F.MPR_CTL_PORT 0 r == n && rgMeta s r ≤ off && off < rgMeta s r + 2 ^ (rgSize s r - 2)

/-- The region whose data range holds an offset of port `n`. -/
def rgAt (s : State) (n off : Nat) : Option Nat := (List.range 32).find? (fun r => rgInData s n r off)
/-- The region whose metadata range holds it. -/
def rgMetaAt (s : State) (n off : Nat) : Option Nat := (List.range 32).find? (fun r => rgInMeta s n r off)

/-- The top level T of the tree (R490). -/
def rgTop (s : State) (r : Nat) : Nat := (rgSize s r - 15 + 2) / 3
/-- The number of entries of level `i`. -/
def rgCount (s : State) (r i : Nat) : Nat := 2 ^ (rgSize s r - 12 - 3 * i)

/-- The level of a tag line in the cache. -/
def lvlTag : Nat := 99

/-- The port offset of a metadata entry (Table 16.4). -/
def rgEntOff (s : State) (r lvl idx : Nat) : Nat :=
  if lvl = lvlTag then rgMeta s r + 64 * idx
  else rgMeta s r + 2 ^ (rgSize s r - 3) + (List.range lvl).foldl (fun a m => a + 64 * rgCount s r m) 0 + 64 * idx

/-- Changes the hidden state of region `r`. -/
def State.updRg (s : State) (r : Nat) (f : MRegion → MRegion) : State := { s with mpr := s.mpr.upd r f }

/-! ### Keys and tags (R487, R488) -/

/-- The derived key of a slot key and a salt. -/
def deriveKey (key : List Byte) (salt : Nat) : List Byte :=
  aes256 key (bytesBE 16 (withBit salt 0 false)) ++ aes256 key (bytesBE 16 (withBit salt 0 true))

/-- The key of an epoch of region `r` (R501). -/
def rgKey (s : State) (r : Nat) (epoch : Bool) : List Byte :=
  if epoch == s.bit F.MPR_CTL_EPOCH 0 r then deriveKey (s.keys.get (s.fld F.MPR_CTL_SLOT_CUR 0 r)) (s.mpr.get r).saltCur
  else deriveKey (s.keys.get (s.fld F.MPR_CTL_SLOT_NEW 0 r)) (s.mpr.get r).saltNew

/-- The IV of Table 16.3: kind 0 a data block, 2 a leaf, 3 a node. -/
def ivOf (port ctr off minor kind : Nat) : List Byte :=
  bytesBE 16 (ctr * 2 ^ 64 + off / 64 * 2 ^ 29 + minor * 2 ^ 23 + port * 2 ^ 19 + kind * 2 ^ 16)

/-- The ciphertext of a data block and its 64-bit tag. -/
def sealBlock (key iv : List Byte) (d : List Byte) : List Byte × Nat :=
  let c := xorBytes d (gcmStream key iv 0 64)
  (c, gcmTag key iv [] c / 2 ^ 64)

/-- The tag bytes of a leaf or node under a parent counter (R488, Table 16.5), put into its entry. -/
def sealEntry (nk port off lvl ctr : Nat) (d : List Byte) : List Byte :=
  if lvl = 0 then d.take 57 ++ bytesLE 7 (gcmTag (bytesBE 32 nk) (ivOf port ctr off 0 2) (d.take 57) [] / 2 ^ 72)
  else d.take 56 ++ bytesLE 8 (gcmTag (bytesBE 32 nk) (ivOf port ctr off 0 3) (d.take 56) [] / 2 ^ 64)

/-! ### Alarms (R507 to R509) -/

/-- The regions that fall with a set of regions: those that name a slot that one of them names (R509). -/
def zeroSet (s : State) : Nat → List Nat → List Nat
  | 0, rs => rs
  | k + 1, rs =>
    let slots := (rs.flatMap (fun r => [s.fld F.MPR_CTL_SLOT_CUR 0 r, s.fld F.MPR_CTL_SLOT_NEW 0 r])).filter (· != 0)
    zeroSet s k ((List.range 32).filter (fun r => rs.contains r ||
      (rgValid s r && (slots.contains (s.fld F.MPR_CTL_SLOT_CUR 0 r) || slots.contains (s.fld F.MPR_CTL_SLOT_NEW 0 r)))))

/-- Empties key slot `k` of the memory-protection class. -/
def eraseSlot (k : Nat) (s : State) : State :=
  if k = 0 then s else { s with keys := s.keys.set k [] }.setFlag F.MPE_KEY_LOADED 0 0 (k - 1) false

/-- Drops the cache entries of region `r`. -/
def dropCache (r : Nat) (s : State) : State :=
  let n := s.fld F.MPR_CTL_PORT 0 r
  { s with mcache := s.mcache.set n ((s.mcache.get n).filter (fun e => e.r != r)) }

/-- A change of STATE of a region by an alarm, reported when ALARM_ACT is not LOG (R514). -/
def rgFall (r st : Nat) (s : State) : State :=
  let s1 := s.setFld F.MPR_CTL_STATE 0 r st
  if s1.fld F.MPR_CTL_ALARM_ACT 0 r = 0 then s1 else irqEdge 0x049 s1

/-- Zeroising (R509). -/
def zeroise (r : Nat) (s : State) : State :=
  forL (zeroSet s 32 [r]) (fun q s =>
    let s1 := eraseSlot (s.fld F.MPR_CTL_SLOT_NEW 0 q) (eraseSlot (s.fld F.MPR_CTL_SLOT_CUR 0 q) s)
    rgFall q 4 ((dropCache q s1).updRg q (fun _ => {}))) s

/-- Freezing (R508). -/
def freeze (r : Nat) (s : State) : State :=
  if rgState s r = 1 ∨ rgState s r = 2 then
    rgFall r 3 (s.updRg r (fun g => { g with rotating := rgState s r == 2 }))
  else s

/-- An alarm (R507, Table 16.8): its region if any, its cause, the initiator and device, the address; `act` is the ALARM_ACT that
the request was accepted under (R481), else the region's own applies. -/
def alarm (reg : Option Nat) (cause init src addr : Nat) (s : State) (act : Option Nat := none) : State :=
  let s1 := s.bump F.MPE_ALARM_CNT_COUNT
  let s2 := match reg with | some r => s1.bump F.MPR_STAT_ALARMS 0 r | none => s1
  let s3 := if s2.bit F.MPE_ALARM_LOG_VALID then s2
    else ((((((s2.setBit F.MPE_ALARM_LOG_VALID).setFld F.MPE_ALARM_LOG_NOREG 0 0 (ofBool reg.isNone)).setFld F.MPE_ALARM_LOG_CAUSE 0 0 cause).setFld
      F.MPE_ALARM_LOG_REGION 0 0 (reg.getD 0)).setFld F.MPE_ALARM_LOG_SRCDEV 0 0 src).setFld F.MPE_ALARM_LOG_INIT 0 0 init).setFld
      F.MPE_ALARM_ADDR_ADDR 0 0 addr
  match reg with
  | none => if s3.bit F.MPE_CTL_NOREG_IRQ then irqEdge 0x049 s3 else s3
  | some r =>
    match act.getD (s3.fld F.MPR_CTL_ALARM_ACT 0 r) with
    | 0 => s3
    | 1 => irqEdge 0x049 s3
    | 2 => freeze r (irqEdge 0x049 s3)
    | _ => zeroise r (irqEdge 0x049 s3)

/-! ### The metadata cache (R492, R493, R495 to R497) -/

/-- A cached entry. -/
def mcFind (s : State) (n r lvl idx : Nat) : Option MEnt :=
  (s.mcache.get n).find? (fun e => e.r == r && e.lvl == lvl && e.idx == idx)

/-- Replaces a cached entry's bytes and marks it dirty. -/
def mcWrite (n r lvl idx : Nat) (d : List Byte) (s : State) : State :=
  { s with mcache := s.mcache.set n ((s.mcache.get n).map (fun e =>
      if e.r = r ∧ e.lvl = lvl ∧ e.idx = idx then { e with data := d, dirty := true } else e)) }

/-- Counter `c` of a node. -/
def nodeCtr (d : List Byte) (c : Nat) : Nat := fieldLE d (7 * c) 7

/-- A node with counter `c` set. -/
def nodeSet (d : List Byte) (c v : Nat) : List Byte := d.take (7 * c) ++ bytesLE 7 v ++ d.drop (7 * c + 7)

/-- The parent counter of an entry of the tree: a root counter for the top level, else a counter of the cached parent. -/
def parentCtr (s : State) (n r lvl idx : Nat) : Nat :=
  if lvl = rgTop s r then (s.mpr.get r).roots.get idx
  else match mcFind s n r (lvl + 1) (idx / 8) with
    | some e => nodeCtr e.data (idx % 8)
    | none => 0

/-- A dirty entry is written back (R493, R497): a tag line as it is; a leaf or node with its parent counter advanced and its
new tag. A counter at its end stops it (R495). -/
def mcWriteBack (n : Nat) (e : MEnt) (s : State) : State :=
  let off := rgEntOff s e.r e.lvl e.idx
  let clean (d : List Byte) (s : State) : State :=
    { s with mcache := s.mcache.set n ((s.mcache.get n).map (fun x =>
        if x.r = e.r ∧ x.lvl = e.lvl ∧ x.idx = e.idx then { x with data := d, dirty := false } else x)) }
  if !e.dirty then s
  else if e.lvl = lvlTag then clean e.data (mpEnqueue n (off / 64) e.data fullMask false s)
  else
    let c := parentCtr s n e.r e.lvl e.idx
    if c + 1 ≥ 2 ^ 56 then
      let s1 := (freeze e.r s).updRg e.r (fun g => { g with ctrMax := true })
      alarm (some e.r) 4 0 (s.fld F.DEV_ID) (dramAddr n off) s1
    else
      let s1 := if e.lvl = rgTop s e.r then s.updRg e.r (fun g => { g with roots := g.roots.set e.idx (c + 1) })
        else match mcFind s n e.r (e.lvl + 1) (e.idx / 8) with
          | some q => mcWrite n e.r (e.lvl + 1) (e.idx / 8) (nodeSet q.data (e.idx % 8) (c + 1)) s
          | none => s
      let d := sealEntry (s.mpr.get e.r).nk n off e.lvl (c + 1) e.data
      clean d (mpEnqueue n (off / 64) d fullMask false s1)
where
  /-- The local address of a port offset. -/
  dramAddr (n off : Nat) : Nat := n * 2 ^ 41 + off

/-- Entry `a` lies under entry `e` in the tree. -/
def mcUnder (e a : MEnt) : Bool :=
  a.r == e.r && e.lvl != lvlTag && a.lvl < e.lvl && a.idx / 8 ^ (e.lvl - a.lvl) == e.idx

/-- An entry leaves the cache: first its cached children, lowest level first, then itself (R497). An entry that could not
be written back stays. -/
def mcEvict (n : Nat) (e : MEnt) (s : State) : State :=
  let kids := (List.range 12).flatMap (fun l => (s.mcache.get n).filter (fun a => a.lvl == l && mcUnder e a))
  forL (kids ++ [e]) (fun k s =>
    match mcFind s n k.r k.lvl k.idx with
    | none => s
    | some x =>
      let s1 := mcWriteBack n x s
      { s1 with mcache := s1.mcache.set n ((s1.mcache.get n).filter (fun y =>
          !(y.r == k.r && y.lvl == k.lvl && y.idx == k.idx && !y.dirty))) }) s

/-- An entry enters the cache of port `n` (R496: 1,024 entries). A full cache gives up an entry that the spec does not
choose (free value), never one that the new entry lies under. -/
def mcInsert (n : Nat) (e : MEnt) (s : State) : State :=
  let cand := (s.mcache.get n).filter (fun x => !mcUnder x e &&
    !(e.lvl == lvlTag && x.r == e.r && x.lvl != lvlTag && x.idx == e.idx / 8 / 8 ^ x.lvl))
  let s1 := if (s.mcache.get n).length < 1024 then s
    else
      let (v, s1) := s.fresh
      match cand[v.toNat % max 1 cand.length]? with
      | some x => mcEvict n x s1
      | none => s1
  { s1 with mcache := s1.mcache.set n (s1.mcache.get n ++ [e]) }

/-- Brings one leaf or node whose parent is present into the cache (R492, R496, R498): 0, or the alarm cause. -/
def mcNeedOne (n r lvl idx : Nat) (s : State) : Nat × State :=
  if (mcFind s n r lvl idx).isSome then (0, s)
  else
    let c := parentCtr s n r lvl idx
    if c = 0 then (0, mcInsert n { r := r, lvl := lvl, idx := idx, data := List.replicate 64 0 } s)
    else
      let off := rgEntOff s r lvl idx
      let (g, s1) := mpFetch n (off / 64) fullMask s
      let s2 := mpNote n false g s1
      if g.psn then (3, s2)
      else if sealEntry (s2.mpr.get r).nk n off lvl c g.data = g.data then
        (0, mcInsert n { r := r, lvl := lvl, idx := idx, data := g.data } s2)
      else (2, s2)

/-- Brings a leaf or node and everything above it into the cache, top first. -/
def mcNeed (n r lvl idx : Nat) (s : State) : Nat × State :=
  let t := rgTop s r
  (List.range (t + 1 - lvl)).foldl (fun (acc : Nat × State) k =>
    if acc.1 ≠ 0 then acc else mcNeedOne n r (t - k) (idx / 8 ^ (t - k - lvl)) acc.2) (0, s)

/-! ### Leaves and blocks -/

/-- The leaf of page `l`; zeros where it is not cached. -/
def leafOf (s : State) (n r l : Nat) : List Byte := ((mcFind s n r 0 l).map (·.data)).getD (List.replicate 64 0)
/-- MAJOR, minor counter `i` and EPOCH of a leaf (Table 16.5). -/
def leafMajor (d : List Byte) : Nat := fieldLE d 0 8
def leafMinor (d : List Byte) (i : Nat) : Nat := bitsOf (fieldLE d 8 48) (6 * i) 6
def leafEpoch (d : List Byte) : Bool := fieldLE d 56 1 % 2 == 1
/-- Every minor of a leaf is 0. -/
def leafEmpty (d : List Byte) : Bool := fieldLE d 8 48 == 0
/-- A leaf from its parts. -/
def mkLeaf (major : Nat) (minors : List Nat) (epoch : Bool) : List Byte :=
  bytesLE 8 major ++ bytesLE 48 ((List.range 64).foldl (fun a i => a + minors.getD i 0 % 64 * 2 ^ (6 * i)) 0) ++
    [BitVec.ofNat 8 (ofBool epoch)] ++ List.replicate 7 0
/-- The minors of a leaf. -/
def leafMinors (d : List Byte) : List Nat := (List.range 64).map (leafMinor d)

/-- The newest epoch of region `r` (R501). -/
def newEpoch (s : State) (r : Nat) : Bool :=
  let rot := rgState s r == 2 || (rgState s r == 3 && (s.mpr.get r).rotating)
  if rot then !s.bit F.MPR_CTL_EPOCH 0 r else s.bit F.MPR_CTL_EPOCH 0 r

/-- Brings the tag line of block `b` of region `r` into the cache (R492, R496): 0, or METAUE. The leaf is cached. -/
def tagNeed (n r b : Nat) (s : State) : Nat × State :=
  if (mcFind s n r lvlTag (b / 8)).isSome then (0, s)
  else
    let lf := leafOf s n r (b / 64)
    let e (d : List Byte) : MEnt := { r := r, lvl := lvlTag, idx := b / 8, data := d }
    if (List.range 8).all (fun i => leafMinor lf (b / 8 * 8 % 64 + i) == 0) then (0, mcInsert n (e (List.replicate 64 0)) s)
    else
      let (g, s1) := mpFetch n (rgEntOff s r lvlTag (b / 8) / 64) fullMask s
      let s2 := mpNote n false g s1
      if g.psn then (3, s2) else (0, mcInsert n (e g.data) s2)

/-- What a read of a protected block finds. -/
structure PRead where
  cause : Nat := 0
  data : List Byte := []
  psn : Bool := false
deriving DecidableEq, Repr, Inhabited

/-- Reads block `b` of region `r` with its leaf cached (R492, R498, Table 16.6). -/
def pipeReadBlk (n r b : Nat) (s : State) : PRead × State :=
  let lf := leafOf s n r (b / 64)
  let m := leafMinor lf (b % 64)
  if m = 0 then ({ data := List.replicate 64 0 }, s)
  else
    let (c, s1) := tagNeed n r b s
    if c ≠ 0 then ({ cause := c }, s1)
    else
      let off := rgBase s1 r + 64 * b
      let (g, s2) := mpFetch n (off / 64) fullMask s1
      let s3 := mpNote n false g s2
      if g.psn then ({ psn := true, data := g.data }, s3)
      else
        let key := rgKey s3 r (leafEpoch lf)
        let iv := ivOf n (leafMajor lf) off m 0
        let tl := ((mcFind s3 n r lvlTag (b / 8)).map (·.data)).getD []
        let pt := xorBytes g.data (gcmStream key iv 0 64)
        if (sealBlock key iv pt).2 = fieldLE tl (8 * (b % 8)) 8 then ({ data := pt }, s3) else ({ cause := 1 }, s3)

/-- Stores a block under a counter and key, with its tag in the cached tag line (R488, R499). -/
def pipePut (n r b major minor : Nat) (epoch : Bool) (d : List Byte) (psn : Bool) (s : State) : State :=
  let off := rgBase s r + 64 * b
  let (c, tag) := sealBlock (rgKey s r epoch) (ivOf n major off minor 0) d
  let s1 := (tagNeed n r b s).2
  let tl := ((mcFind s1 n r lvlTag (b / 8)).map (·.data)).getD (List.replicate 64 0)
  mcWrite n r lvlTag (b / 8) (tl.take (8 * (b % 8)) ++ bytesLE 8 tag ++ tl.drop (8 * (b % 8) + 8))
    (mpEnqueue n (off / 64) c fullMask psn s1)

/-- The written blocks of page `l`, read and verified (R494): the cause of the first that fails, else each block's index, data and
poison. -/
def pageRead (n r l : Nat) (s : State) : Nat × List (Nat × List Byte × Bool) × State :=
  let lf := leafOf s n r l
  ((List.range 64).filter (fun i => leafMinor lf i != 0)).foldl (fun (acc : Nat × List (Nat × List Byte × Bool) × State) i =>
    if acc.1 ≠ 0 then acc
    else
      let (p, t) := pipeReadBlk n r (64 * l + i) acc.2.2
      (p.cause, acc.2.1 ++ [(i, p.data, p.psn)], t)) (0, [], s)

/-- Page re-encryption of leaf `l` (R494); `new` is the block that a write puts in: its index in the page, bytes, poison.
Answers the alarm cause of a block that fails its check, with nothing written then. -/
def reencrypt (n r l : Nat) (new : Option (Nat × List Byte × Bool)) (s : State) : Nat × State :=
  let lf := leafOf s n r l
  let (c, ds, s1) := pageRead n r l s
  if c ≠ 0 then (c, s1)
  else
    let all := ds.filter (fun x => (new.map (·.1)) != some x.1) ++ (match new with | some x => [x] | none => [])
    let major := leafMajor lf + 1
    let ep := newEpoch s1 r
    let mins := (List.range 64).map (fun i => if all.any (fun x => x.1 == i) then 1 else 0)
    let s2 := forL all (fun x s => (tagNeed n r (64 * l + x.1) s).2) s1
    let s3 := mcWrite n r 0 l (mkLeaf major mins ep) s2
    (0, (forL all (fun x s => pipePut n r (64 * l + x.1) major 1 ep x.2.1 x.2.2 s) s3).bump F.MPR_STAT_REENC 0 r)

/-- Writes block `b` of region `r` whole, (R493, R499, R501): 0, or the cause of a re-encryption that
fails. -/
def pipeWriteBlk (n r b : Nat) (d : List Byte) (psn : Bool) (s : State) : Nat × State :=
  let (c0, s) := mcNeed n r 0 (b / 64) s
  let lf := leafOf s n r (b / 64)
  let m := leafMinor lf (b % 64)
  if c0 ≠ 0 then (c0, s)
  else if m = 63 then reencrypt n r (b / 64) (some (b % 64, d, psn)) s
  else
    let (c, s1) := tagNeed n r b s
    if c ≠ 0 then (c, s1)
    else
      let ep := if leafEmpty lf then newEpoch s1 r else leafEpoch lf
      let lf' := mkLeaf (leafMajor lf) ((leafMinors lf).set (b % 64) (m + 1)) ep
      (0, pipePut n r b (leafMajor lf) (m + 1) ep d psn (mcWrite n r 0 (b / 64) lf' s1))

/-! ### Serving a request -/

/-- External initiators (R505). -/
def isExternal (init : Nat) : Bool := init == 0x380 || (0x3C0 ≤ init && init < 0x400) || init == 0x4C3

/-- The right that an external initiator has in region `r` (R506): write or read. -/
def extRight (s : State) (r init : Nat) (wr : Bool) : Bool :=
  s.bit F.MPR_CTL_DBGVIEW 0 r &&
  (if init = 0x380 then s.bit (if wr then F.MPR_RIGHTS_BAR_W else F.MPR_RIGHTS_BAR_R) 0 r
   else if init = 0x4C3 then s.bit (if wr then F.MPR_RIGHTS_DBG_W else F.MPR_RIGHTS_DBG_R) 0 r
   else bitOf (s.fld (if wr then F.MPR_DMA_W_DMA_W else F.MPR_DMA_R_DMA_R) 0 r) (init - 0x3C0))

/-- What the port and pipe decide on a request (R483, R484). -/
inductive PDecide where
  /-- completes with a NoC error -/
  | err (code : Nat)
  /-- KEYCONFLICT with an alarm of the cause, in the region named -/
  | conflict (cause : Nat) (reg : Option Nat)
  /-- BLOCKED in the region -/
  | blocked (r : Nat)
  /-- plain DRAM -/
  | plain
  /-- served through the region -/
  | region (r : Nat)
deriving DecidableEq, Repr

/-- The decision (R484 in its order, Table 16.2); a poisoned operand of an ATOMIC follows the checks of its address (R420). -/
def pipeDecide (s : State) (n : Nat) (p : Packet) : PDecide :=
  let off := p.addr % 2 ^ 41
  let last := off + p.len
  let st := mpCheck s n p
  let fell (r : Option Nat) : Bool := match r with | some q => 3 ≤ rgState s q | none => false
  let a := keyBits p.addr
  let e := if a ≠ 0 then a else p.keyid
  if st ≠ 0 then .err st
  else if p.opc = opATOMIC ∧ p.pmask ≠ 0 then .err eACCESS
  else if fell (rgAt s n off) || fell (rgAt s n last) || fell (rgMetaAt s n off) || fell (rgMetaAt s n last) then .err eFROZEN
  else
    let reg := match rgAt s n off with
      | some r => some r
      | none => match rgAt s n last with
        | some r => some r
        | none => match rgMetaAt s n off with | some r => some r | none => rgMetaAt s n last
    if a ≠ 0 ∧ p.keyid ≠ 0 ∧ a ≠ p.keyid then .conflict 5 reg
    else if (rgMetaAt s n off).isSome || (rgMetaAt s n last).isSome then .conflict 6 reg
    else match reg with
      | none => if e = 0 then .plain else .conflict 6 none
      | some r =>
        if rgAt s n off ≠ rgAt s n last || e ≠ s.fld F.MPR_CTL_KEYID 0 r then .conflict 6 (some r)
        else
          let rd := p.opc == opREAD || p.opc == opATOMIC
          let wr := p.opc != opREAD
          if isExternal p.init && ((rd && !extRight s r p.init false) || (wr && !extRight s r p.init true)) then .blocked r
          else .region r

/-- A BLOCKED request is counted and recorded (R506). -/
def noteBlocked (r init src : Nat) (s : State) : State :=
  let s1 := s.bump F.MPE_BLOCK_CNT_COUNT
  if s1.bit F.MPE_BLOCK_LOG_VALID then s1
  else (((s1.setBit F.MPE_BLOCK_LOG_VALID).setFld F.MPE_BLOCK_LOG_REGION 0 0 r).setFld F.MPE_BLOCK_LOG_SRCDEV 0 0 src).setFld
    F.MPE_BLOCK_LOG_INIT 0 0 init

/-- What a served request answers. -/
structure Served where
  st : Nat := 0
  data : List Byte := []
  pm : Nat := 0
deriving DecidableEq, Repr, Inhabited

/-- The old contents of every block that a request names, its leaf brought in first; the first alarm cause, if any. Everything
that can fail is checked here, so that a write completes with INTEG before it has had any effect (R417, R499): a write that
must re-encrypt its page has the whole page verified. -/
def pipeOlds (n r : Nat) (p : Packet) (s : State) : Nat × List PRead × State :=
  let off := p.addr % 2 ^ 41
  (blkParts off (p.len + 1)).foldl (fun (acc : Nat × List PRead × State) t =>
    if acc.1 ≠ 0 then acc
    else
      let b := (t.1 * 64 - rgBase s r) / 64
      let (c, s1) := mcNeed n r 0 (b / 64) acc.2.2
      if c ≠ 0 then (c, acc.2.1, s1)
      else
        let whole := t.2.2.2 = 64 && p.opc == opWRITE
        if p.opc != opREAD && leafMinor (leafOf s1 n r (b / 64)) (b % 64) == 63 then
          let (c2, ds, s2) := pageRead n r (b / 64) s1
          let old := (ds.find? (fun x => x.1 == b % 64)).map (·.2)
          (c2, acc.2.1 ++ [{ data := (old.map (·.1)).getD [], psn := (old.map (·.2)).getD false }], s2)
        else if whole then
          let (c2, s2) := tagNeed n r b s1
          (c2, acc.2.1 ++ [{}], s2)
        else
          let (q, s2) := pipeReadBlk n r b s1
          (q.cause, acc.2.1 ++ [q], s2)) (0, [], s)

/-- A request to region `r` is served through the pipe (R498 to R501, Table 16.6), under the ALARM_ACT of its acceptance. -/
def pipeServe (n r : Nat) (p : Packet) (act : Option Nat) (s : State) : Served × State :=
  let off := p.addr % 2 ^ 41
  let (c, olds, s1) := pipeOlds n r p s
  let parts := blkParts off (p.len + 1)
  let fail (c : Nat) (s : State) : Served × State := ({ st := eINTEG }, alarm (some r) c p.init p.srcdev p.addr s act)
  if c ≠ 0 then fail c s1
  else if p.opc = opREAD then
    let (d, pm, s2) := snapData off (p.len + 1) ((parts.zip olds).map (fun x => { blk := x.1.1, data := x.2.data, psn := x.2.psn })) s1
    ({ data := d, pm := pm }, s2)
  else if p.opc = opATOMIC then
    match olds with
    | o :: _ =>
      if o.psn then
        let (d, s2) := s1.freshBytes 8
        ({ data := d, pm := 1 }, s2)
      else
        let old := (o.data.drop (off % 64)).take 8
        let v := atomicStore p (ofBytesLE old)
        let d := o.data.take (off % 64) ++ bytesLE 8 v.toNat ++ o.data.drop (off % 64 + 8)
        let (c2, s2) := pipeWriteBlk n r ((off - rgBase s r) / 64) d false s1
        if c2 ≠ 0 then fail c2 s2 else ({ data := old }, s2)
    | [] => ({}, s1)
  else
    let (c2, s2) := (parts.zip olds).foldl (fun (acc : Nat × State) x =>
      if acc.1 ≠ 0 then acc
      else
        let t := x.1
        let mask := if p.opc = opMWRITE then p.mask % 2 ^ 64 else maskOf t.2.1 t.2.2.2
        let nd := List.replicate t.2.1 0 ++ (p.data.drop t.2.2.1).take t.2.2.2
        let psn := bitOf p.pmask (t.1 - off / 64) || (x.2.psn && mask != fullMask)
        if mask = 0 then acc
        else pipeWriteBlk n r ((t.1 * 64 - rgBase s r) / 64) (layBytes x.2.data mask nd) psn acc.2) (0, s1)
    if c2 ≠ 0 then fail c2 s2 else ({}, s2)

/-- A request whose decision is an error: the code, with what it counts and records. -/
def pipeRefuse (p : Packet) (d : PDecide) (s : State) : Nat × State :=
  match d with
  | .err c => (c, s)
  | .conflict cause reg => (eKEYCONFLICT, alarm reg cause p.init p.srcdev p.addr s)
  | .blocked r => (eBLOCKED, noteBlocked r p.init p.srcdev s)
  | _ => (0, s)

/-- A request to port `n`'s DRAM served in one step: checks, decision, and the access through the region or on plain
DRAM. -/
def dramServe (n : Nat) (p : Packet) (s0 : State) : Served × State :=
  let s := mpServing n p.init p.srcdev s0
  match pipeDecide s n p with
  | .region r => pipeServe n r p none s
  | .plain =>
    if p.opc = opREAD then
      let (d, pm, s1) := mpReadNow n (p.addr % 2 ^ 41) (p.len + 1) s
      ({ data := d, pm := pm }, s1)
    else if p.opc = opATOMIC then
      let (d, bad, s1) := mpAtomicNow n p s
      ({ data := d, pm := ofBool bad }, s1)
    else ({}, mpWriteNow n p s)
  | d =>
    let (c, s1) := pipeRefuse p d s
    ({ st := c }, s1)

/-- Every dirty entry of port `n`'s cache is written back, children first, and the cache is empty (R497, R510). -/
def pipeFlush (n : Nat) (s : State) : State :=
  let order := (List.range 12).flatMap (fun l => (s.mcache.get n).filter (fun e => e.lvl == l)) ++
    (s.mcache.get n).filter (fun e => e.lvl == lvlTag)
  let s1 := forL order (fun e s => match mcFind s n e.r e.lvl e.idx with | some x => mcWriteBack n x s | none => s) s
  { s1 with mcache := s1.mcache.set n ((s1.mcache.get n).filter (·.dirty)) }

end Sys2Proof.Machine
end

