-- ==== Sys2Proof/Machine/Direct.lean ====
section
/-!
DEFINITION. Memory accesses of the configuration engine, Heddle and the intake units: each is served by its target at
once (log entry 30).
-/
namespace Sys2Proof.Machine

/-- The configuration engine and Heddle have a clock, and so has the NoC. -/
def cfgRuns (s : State) : Bool := s.dev = .run && domRuns s 3 && domRuns s 0

/-- A read, or write, of rows at place `a`, each row reported through `err`. -/
def rowsServe (p : Packet) (a : Nat) (err : Nat → Bool → State → State) (s : State) : Served × State :=
  let rows := rowsOf p.addr (p.len + 1)
  if p.opc = opREAD then
    rows.foldl (fun (acc : Served × State) t =>
      let (d, bad, s1) := readRow (a + t.2.1) t.2.2 (fun j ue s => err (t.2.1 + j) ue s) acc.2
      ({ acc.1 with data := acc.1.data ++ d, pm := if bad then withBit acc.1.pm t.1 true else acc.1.pm }, s1)) ({}, s)
  else ({}, forL rows (fun t s => storeRow p (a + t.2.1) t.1 t.2.1 t.2.2 s) s)

/-- An access to scratchpad bank `b` (R128 to R130). -/
def spadServe (b : Nat) (p : Packet) (s : State) : Served × State :=
  let off := p.addr % 0x20_0000
  if spadState s b ≠ 2 then ({ st := eUNMAPPED }, s)
  else if p.opc = opREAD then
    rowsServe p (aSpad b off) (fun j ue s => spadErr b p.init ((off + j) / 64) ((off + j) % 64) ue s) (spadQueueWb b off (p.len + 1) s)
  else
    let r := rowsServe p (aSpad b off) (fun _ _ s => s) s
    (r.1, spadWritten b off (p.len + 1) (fun _ => true) r.2)

/-- An access to a signal core's window (R368). -/
def scServe (n : Nat) (p : Packet) (s : State) : Served × State :=
  let off := p.addr % 0x4_0000
  if scWinStatus p ≠ 0 then ({ st := scWinStatus p }, s)
  else if p.opc = opREAD then
    (rowsOf p.addr (p.len + 1)).foldl (fun (acc : Served × State) t =>
      let (d, bad, s1) := scWinRead n (off + t.2.1) t.2.2 acc.2
      let (f, s2) := if bad then s1.freshBytes t.2.2 else (d, s1)
      ({ acc.1 with data := acc.1.data ++ f, pm := if bad then withBit acc.1.pm t.1 true else acc.1.pm }, s2)) ({}, s)
  else ({}, forN (p.len + 1) (fun j s => scPutByte n (off + j) (bitOf p.pmask ((p.addr + j) / 64 - p.addr / 64)) (p.data.getD j 0) s) s)

/-- The target channel of bay `b` answers nobody: no skein, no target interface, stage 1 of a hold, or a freeze (R27, Table
3.11, R333). -/
def targetOff (s : State) (b : Nat) : Bool :=
  s.fld F.BAY_STATUS_OWNER b == 0 || s.bit F.BAY_STATUS_OUT_HELD b || s.frozen.contains b ||
  !Config.targetIface (s.rdBytes (aFrame b 1864 0) 2048)

/-- An access to a bay window: its memory blocks (R122), its target channel (R27), or nothing. What user logic answers is a
free value. -/
def bayServe (b : Nat) (p : Packet) (s : State) : Served × State :=
  let off := p.addr % 0x10_0000
  if off < 0x1_8000 then
    let st := blkWinStatus s b p
    let k := off / 0x1000
    if st ≠ 0 then ({ st := st }, s)
    else if !bayClk s b (blkClk s b k (if p.opc = opREAD && 4 ≤ k then 0 else 1)) then ({ st := eTIMEOUT }, logTimeout p s)
    else if p.opc = opREAD then
      rowsServe p (aBlock b k (off % 0x1000)) (fun j ue s => blockErr b k 2 (off % 0x1000 + j) ue s) (blkQueueWb b k (off % 0x1000) (p.len + 1) s)
    else
      let r := rowsServe p (aBlock b k (off % 0x1000)) (fun _ _ s => s) s
      (r.1, blkWinWritten b k (off % 0x1000) (p.len + 1) r.2)
  else if off < 0x8_0000 || targetOff s b then ({ st := eUNMAPPED }, s)
  else if !bayClk s b 0 then ({ st := eTIMEOUT }, logTimeout p s)
  else if p.opc = opATOMIC then ({ st := eACCESS }, s)
  else
    let (d, s1) := (s.emit (.skein b 1 p.opc p.pmask p.data)).freshBytes (if p.opc = opREAD then p.len + 1 else 0)
    ({ data := d }, s1)

/-- A request of an engine is served by its target. No engine's access has a size that the CSR space takes (R36); one that is
malformed, or that two targets share, completes with ACCESS (R409). -/
def directServe (p : Packet) (s : State) : Served × State :=
  if !packetOk p then ({ st := eACCESS }, s)
  else match targetOf p.addr with
  | .dram n => dramServe n p s
  | .spad b => spadServe b p s
  | .sc n => scServe n p s
  | .bay b => bayServe b p s
  | .csr => ({ st := eACCESS }, s)
  | .unmapped => ({ st := eUNMAPPED }, s)

/-- An engine's packet, with the key ID of its address (R181). -/
def engPacket (s : State) (init opc addr n : Nat) (data : List Byte) : Packet :=
  { opc := opc, len := n - 1, addr := addr, dev := s.fld F.DEV_ID, srcdev := s.fld F.DEV_ID, init := init, data := data,
    cls := initClass init, prio := s.fld F.NOC_INITCFG_PRIO 0 init }

/-- The target of address `a` cannot take an access of engine `init` now, or an earlier request of the same initiator comes first:
its router is out of service (R405); a bank has requests in its queues (R126, R127); a bay does not run the clock that would serve
it and the initiator's timer is off (R121, R422); an ORDERED request of the initiator is outstanding (R412). -/
def targetWaits (s : State) (init a : Nat) : Bool :=
  let t := targetOf a
  let clockless (b : Nat) : Bool :=
    let off := a % 0x10_0000
    timerExp s init == 0 && (if off < 0x1_8000 then !(bayClk s b (blkClk s b (off / 0x1000) 0) && bayClk s b (blkClk s b (off / 0x1000) 1))
      else 0x8_0000 ≤ off && !targetOff s b && !bayClk s b 0)
  (t != .unmapped && s.noRouter.contains (targetRouter t)) ||
  (match t with
   | .spad b => !(s.spad.get b).q1.isEmpty || !(s.spad.get b).q2.isEmpty
   | .bay b => clockless b
   | _ => false) ||
  s.reqs.any (fun r => r.pkt.init == init && (r.pkt.cls == 0 || r.pkt.cls == 3) && r.phase < 2)

/-- An engine's access of `n` bytes has a unit that must wait. -/
def engWaits (s : State) (init addr n : Nat) : Bool :=
  (List.range ((n + 63) / 64)).any (fun k => targetWaits s init (addr + 64 * k)) || targetWaits s init (addr + n - 1)

/-- Engine `init` reads `n` bytes in units of 64: 0 and the data, or the unit's offset and its error (0xFF for poison). -/
def engRead (init addr n : Nat) (s : State) : Nat × Nat × List Byte × State :=
  (List.range ((n + 63) / 64)).foldl (fun (acc : Nat × Nat × List Byte × State) k =>
    if acc.1 ≠ 0 then acc
    else
      let (v, s1) := directServe (engPacket acc.2.2.2 init opREAD (addr + 64 * k) (min 64 (n - 64 * k)) []) acc.2.2.2
      if v.st ≠ 0 then (v.st, 64 * k, acc.2.2.1, s1)
      else if v.pm ≠ 0 then (0xFF, 64 * k, acc.2.2.1, s1)
      else (0, 0, acc.2.2.1 ++ v.data, s1)) (0, 0, [], s)

/-- Engine `init` writes bytes in units of 64 until one fails: the error, 0 when none did. -/
def engWrite (init addr : Nat) (data : List Byte) (s : State) : Nat × State :=
  (List.range ((data.length + 63) / 64)).foldl (fun (acc : Nat × State) k =>
    if acc.1 ≠ 0 then acc
    else
      let d := slice data (64 * k) 64
      let (v, s1) := directServe (engPacket acc.2 init opWRITE (addr + 64 * k) d.length d) acc.2
      (v.st, s1)) (0, s)

/-- The `n` bytes at a destination become undefined (R6): free bytes go to every unit that takes them. -/
def engScramble (init addr n : Nat) (s : State) : State :=
  forN ((n + 63) / 64) (fun k s =>
    let m := min 64 (n - 64 * k)
    let (d, s1) := s.freshBytes m
    (directServe (engPacket s1 init opWRITE (addr + 64 * k) m d) s1).2) s

end Sys2Proof.Machine
end

