-- ==== Sys2Proof/Machine/Fabric.lean ====
section
/-!
DEFINITION. Edges of user logic, the poison input, and the hold stages of a skein's bays (chapter 3).
-/
namespace Sys2Proof.Machine

/-- The bays of a skein: those whose BAY_STATUS.OWNER is its instance. -/
def skeinBays (s : State) (inst : Nat) : List Nat :=
  if inst = 0 then [] else (List.range 768).filter (fun b => s.fld F.BAY_STATUS_OWNER b == inst)

/-- What a boundary group that leaves a bay shows its neighbour: 0 when it is disabled, or when it leads to another skein
and stage 1 of a hold is applied (R75, Table 3.11). -/
def groupOut (s : State) (b j : Nat) (other : Bool) : Nat :=
  let en := match j / 8 with
    | 0 => s.fld F.BAY_BOUNDARY_WEST_EN b
    | 1 => s.fld F.BAY_BOUNDARY_SOUTH_EN b
    | 2 => s.fld F.BAY_BOUNDARY_EAST_EN b
    | _ => s.fld F.BAY_BOUNDARY_NORTH_EN b
  if !bitOf en (j % 8) || (other && s.bit F.BAY_STATUS_OUT_HELD b) then 0 else s.bregs.get (b * 32 + j)

/-- The neighbour of a bay on a side (0 west, 1 south, 2 east, 3 north). -/
def bayNext (b d : Nat) : Option Nat :=
  match d with
  | 0 => if b % 24 = 0 then none else some (b - 1)
  | 1 => if b < 24 then none else some (b - 24)
  | 2 => if b % 24 = 23 then none else some (b + 1)
  | _ => if 744 ≤ b then none else some (b + 24)

/-- Wire `n` of the boundary entry point on side `d` of bay `b` (R73): the boundary register of the neighbour, 0 while its group is
disabled or where no bay lies (R75). -/
def entryWire (s : State) (b d n : Nat) : Bool :=
  match bayNext b d with
  | some x => d < 4 && n < 512 && bitOf (groupOut s x (8 * ((d + 2) % 4) + n / 64) (s.fld F.BAY_STATUS_OWNER x != s.fld F.BAY_STATUS_OWNER b)) (n % 64)
  | none => false

/-- PICK_STB_k of bay `b` (R82): 0 while input `k` is stopped or unbound. -/
def pickStb (s : State) (b k : Nat) : Bool := bitOf (s.strobe.get b) (8 + k) && bayClk s b k

/-- RUN of bay `b` (Table 3.9): stage 3 of release has completed for clock input 0. -/
def bayRun (s : State) (b : Nat) : Bool := !s.bit F.BAY_STATUS_RST_HELD b && !bitOf (s.missed.get b) 16

/-- The value that a driver puts on a track of bay `b` (R70, Table 3.9). -/
def trackVal (s : State) (b : Nat) : TrackSrc → Bool
  | .off => false
  | .val v => v
  | .q c i => c < 1024 && i < 16 && bitOf (s.ffs.get (b * 1024 + c)) i
  | .blk k p n =>
    let o := s.blkOut.get ((b * 24 + k) * 2 + p % 2)
    k < 24 && (if n < 64 then bitOf o.dout n else if n = 64 then o.ce else if n = 65 then o.ue else n == 66 && o.busy)
  | .slc k n =>
    let v := s.slices.get (b * 32 + k)
    k < 32 && (if n < 24 then bitOf v.y n else if n < 80 then bitOf v.acc (n - 24) else if n < 96 then bitOf v.idx (n - 80)
      else if n = 96 then v.ovf else if n = 97 then v.preOv else if n = 98 then v.idxOvf else n == 99 && v.yov)
  | .entry d n => entryWire s b d n
  | .pickStb k => k < 8 && pickStb s b k
  | .poisonIn => s.bit F.BAY_STATUS_POISON b
  | .run => bayRun s b

/-- The values of a list of inputs as one number, the first in bit 0. -/
def linesOf (s : State) (b : Nat) (l : List TrackSrc) : Nat := ofBits (l.map (trackVal s b))

/-- A clear of POISON reaches every bay of the skein (R86). -/
def poisonClear (b : Nat) (s : State) : State :=
  let o := s.fld F.BAY_STATUS_OWNER b
  forL (if o = 0 then [b] else skeinBays s o) (fun x s => s.clrFld F.BAY_STATUS_POISON x) s

/-- R86. A write of 1 to BAY_STATUS.POISON. -/
def execBayPoisonClear (b : Nat) (s : State) : Res := .next (if b < 768 then poisonClear b s else s)

/-- A bay takes stage 3 of a hold: its running clock inputs at once, stopped and unbound ones on their first edge (R94). -/
def bayReset (b : Nat) (s : State) : State :=
  forN 8 (fun k s =>
    if bayClk s b k then { ffResetOn b k (slcResetOn b k s) with missed := s.missed.upd b (fun m => withBit m (8 + k) true) }
    else { s with missed := s.missed.upd b (fun m => withBit m (8 + k) false) }) s

/-- Stage `k` of a hold or release takes effect in one bay (Table 3.11). A stage given this way is no longer one that only
retention applied, which the return to on would lift (R96). -/
def bayStage (hold : Bool) (k b : Nat) (s : State) : State :=
  match k with
  | 1 => { s.setFld F.BAY_STATUS_OUT_HELD b 0 (ofBool hold) with retHold := s.retHold.upd b (fun m => withBit m 0 false) }
  | 2 => { s.setFld F.BAY_STATUS_WE_HELD b 0 (ofBool hold) with retHold := s.retHold.upd b (fun m => withBit m 1 false) }
  | _ => let s1 := { s.setFld F.BAY_STATUS_RST_HELD b 0 (ofBool hold) with keepForm := s.keepForm.filter (· != b) }
         if hold then bayReset b s1
         else if bayClk s b 0 then s1 else { s1 with missed := s1.missed.upd b (fun m => withBit m 16 true) }

/-- All three stages of a hold take effect in a bay; one that is held already stays as it is (Table 6.12, step 3). -/
def bayHoldAll (b : Nat) (s : State) : State :=
  let s1 := bayStage true 2 b (bayStage true 1 b s)
  if s.bit F.BAY_STATUS_RST_HELD b then s1 else bayStage true 3 b s1

/-- A hold or release of a skein begins (R195); one that is under way for it ends. -/
def holdStart (h : HoldOp) (s : State) : State := { s with holds := s.holds.filter (fun x => x.inst != h.inst) ++ [h] }

end Sys2Proof.Machine
end

