-- ==== Sys2Proof/Machine/BayPort.lean ====
section
/-!
DEFINITION. Bay ports (R20, R27, R84 to R87, R326): requests by handle, responses that wait for the bay's clock, the target
channel, and the poison input of a skein.
-/
namespace Sys2Proof.Machine

/-- The valid translation entry of bay `b` with a handle (R326). -/
def xlFind (s : State) (b handle : Nat) : Option Nat :=
  (List.range 64).find? (fun e => s.bit F.XLATE0_VALID b e && s.fld F.XLATE0_HANDLE b e == handle)

/-- A response waits at a bay port. -/
def bayAnswer (b id st pm : Nat) (d : List Byte) (s : State) : State :=
  { s with bayq := s.bayq.upd b (fun q => q ++ [{ id := id, st := st, pm := pm, data := d }]) }

/-- The request of a skein at bay `b`: `rlx` asks for class RELAXED, `pm` are the poison flags of its write beats. -/
def bayRequest (b id handle off opc n atop mask pm : Nat) (rlx : Bool) (d : List Byte) (s : State) : State :=
  match xlFind s b handle with
  | none => bayAnswer b id eUNMAPPED 0 [] s
  | some e =>
    if s.fld F.XLATE0_SIZE b e * 4096 < off + n || (opc != opREAD && s.bit F.XLATE0_RO b e) then bayAnswer b id eACCESS 0 [] s
    else s.request b (s.fld F.DEV_ID) (s.fld F.XLATE1_BASE b e * 4096 + off) opc (n - 1) d (.bay b id) 0 atop mask pm rlx

/-- A bay port can accept a request of `n` bytes (R20): the NoC has its clock, its router is in service and has room for the
request, and none of the bay's waits: there is no buffer before the NoC. -/
def bayAccepts (s : State) (b opc n off : Nat) (rlx : Bool) : Bool :=
  s.dev == .run && domRuns s 0 && !s.noRouter.contains (initRouter b) &&
  s.reqs.all (fun r => r.pkt.init != b || r.phase != 0) &&
  portRoom s { opc := opc, len := n - 1, addr := off, init := b, cls := if rlx then 1 else initClass b }

/-- R326. The skein of bay `b` issues a bay-port request of `n` bytes at byte offset `off` of the spool of a handle. The
port takes it on an edge of clock input 0, in a released and unfrozen bay, when it accepts requests. -/
def execBayPortRequest (b id handle off opc n atop mask pm : Nat) (rlx : Bool) (d : List Byte) (s : State) : Res :=
  .next (if b < 768 && 1 ≤ n && n ≤ 256 && s.fld F.BAY_STATUS_OWNER b != 0 && bayClk s b 0 && !s.frozen.contains b && !s.bit F.BAY_STATUS_OUT_HELD b &&
      bayAccepts s b opc n off rlx
    then bayRequest b id handle off opc n atop mask pm rlx d s else s)

/-- Poisoned beats are delivered in bay `b` (R86, R87): the input of its skein, the counter, the source. -/
def bayPoison (b pm : Nat) (s : State) : State :=
  if pm = 0 then s
  else
    let o := s.fld F.BAY_STATUS_OWNER b
    let beats := (List.range 5).foldl (fun a k => a + ofBool (bitOf pm k)) 0
    let s1 := forL (if o = 0 then [b] else skeinBays s o) (fun x s => s.setBit F.BAY_STATUS_POISON x) s
    bayRaise F.BAY_PSN_SUM_SUM 0x04A b (s1.bump F.BAY_POISON_CNT_COUNT b 0 beats)

/-- R84. The oldest response that waits at bay `b` is delivered to its skein. -/
def execBayPortResponseDeliver (b : Nat) (s : State) : Res :=
  .next (match s.bayq.get b with
    | [] => s
    | r :: q =>
      if b < 768 && bayClk s b 0 then
        bayPoison b r.pm ({ s with bayq := s.bayq.set b q }.emit (.skein b 0 r.st r.pm r.data))
      else s)

/-- A request that waits at the target channel of bay `b`, or at an unmapped offset of its window. -/
def targetReq (s : State) (b : Nat) : Option Packet :=
  (bayHeads s b).find? (fun p => 0x1_8000 ≤ p.addr % 0x10_0000)

/-- R27. The oldest request at the target channel of bay `b` is delivered to the skein, whose user logic answers with
`ans`. The data of a poisoned beat is undefined (R85): free bytes. -/
def execBayTargetRequest (b : Nat) (ans : List Byte) (s : State) : Res :=
  .next (match targetReq s b with
    | none => s
    | some p =>
      let s1 := s.dropArrived p
      if p.addr % 0x10_0000 < 0x8_0000 || targetOff s b then s1.respond p eUNMAPPED
      else if p.opc = opATOMIC then s1.respond p eACCESS
      else if !bayClk s b 0 then s
      else
        let (d, s1') := freePoison p p.pmask p.data s1
        let s2 := bayPoison b p.pmask (s1'.emit (.skein b 1 p.opc p.pmask d))
        s2.respond p 0 (if p.opc = opREAD then (ans ++ List.replicate (p.len + 1) 0).take (p.len + 1) else []))

end Sys2Proof.Machine
end

