-- ==== Sys2Proof/Machine/WarpLink.lean ====
section
/-!
DEFINITION. Warp links (chapter 19, R568 to R579): flits and their codes, packets as link units, and the states of a
port with what happens on entering them.
-/
namespace Sys2Proof.Machine

/-- Changes warp port `p`. -/
def State.updWp (s : State) (p : Nat) (f : WPort → WPort) : State := { s with warp := s.warp.upd p f }

/-! ### The flit code (R569) -/

/-- Multiplication by α in GF(2^8), reduction polynomial x^8 + x^4 + x^3 + x^2 + 1. -/
def g8x (a : Nat) : Nat := if 128 ≤ a then (2 * a % 256) ^^^ 0x1D else 2 * a

/-- `a` times α^n. -/
def g8pow : Nat → Nat → Nat
  | 0, a => a
  | n + 1, a => g8pow n (g8x a)

/-- `a` times `b`. -/
def g8mul (a b : Nat) : Nat := (List.range 8).foldl (fun r i => if bitOf b i then r ^^^ g8pow i a else r) 0

/-- Syndrome `j` of a code word of 64 symbols, the first being the coefficient of x^63. -/
def g8syn (c : List Nat) (j : Nat) : Nat := c.foldl (fun r x => g8pow j r ^^^ x) 0

/-- The three check symbols of 61 data symbols: the remainder by (x - 1)(x - α)(x - α^2) = x^3 + 7x^2 + 14x + 8. -/
def g8check (d : List Nat) : List Nat :=
  let r := d.foldl (fun (r : Nat × Nat × Nat) x =>
    let q := r.1 ^^^ x
    (r.2.1 ^^^ g8mul q 7, r.2.2 ^^^ g8mul q 14, g8mul q 8)) (0, 0, 0)
  [r.1, r.2.1, r.2.2]

/-- A received code word corrected: none when it fails; the flag says that a symbol was corrected. -/
def g8fix (c : List Nat) : Option (Bool × List Nat) :=
  let s0 := g8syn c 0
  let s1 := g8syn c 1
  let s2 := g8syn c 2
  if s0 = 0 ∧ s1 = 0 ∧ s2 = 0 then some (false, c)
  else match (List.range 64).find? (fun e => s0 != 0 && g8pow e s0 == s1 && g8pow (2 * e) s0 == s2) with
    | some e => some (true, c.set (63 - e) (c.getD (63 - e) 0 ^^^ s0))
    | none => none

/-- Code word `k` of a flit: the bytes i with i mod 4 = k. -/
def flitWord (f : List Byte) (k : Nat) : List Nat := (List.range 64).map (fun m => (f.getD (4 * m + k) 0).toNat)

/-- The 256 bytes of a flit from its header and its bytes 8 to 239 (Table 19.1). -/
def mkFlit (header : Nat) (body : List Byte) : List Byte :=
  let d := bytesLE 8 header ++ (body ++ List.replicate 232 0).take 232
  let e := d ++ bytesLE 4 (crc32c d)
  let cs := (List.range 4).map (fun k => g8check ((List.range 61).map (fun m => (e.getD (4 * m + k) 0).toNat)))
  e ++ (List.range 3).flatMap (fun j => (List.range 4).map (fun k => BitVec.ofNat 8 ((cs.getD k []).getD j 0)))

/-- A received flit after correction: how many code words were corrected, and its bytes 0 to 239, or none when it is
failed. -/
def readFlit (f : List Byte) : Nat × Option (List Byte) :=
  let ws := (List.range 4).map (fun k => g8fix (flitWord f k))
  let n := (ws.filter (fun w => match w with | some (true, _) => true | _ => false)).length
  if ws.any (·.isNone) then (n, none)
  else
    let d := (List.range 244).map (fun i => BitVec.ofNat 8 (((((ws.getD (i % 4) none).map (·.2)).getD []).getD (i / 4) 0)))
    (n, if crc32c (d.take 240) = fieldLE d 240 4 then some (d.take 240) else none)

/-! ### Packets as link units (R408, R570) -/

/-- The data flits of a packet: each 64 bytes, bytes in their address lanes; an atomic's operands from lane 0. -/
def dataFlits (p : Packet) : List (List Byte) :=
  if flitsOf p ≤ 1 then []
  else
    let atomic := p.opc = opATOMIC || p.opc = opATRESP
    let base := if atomic then 0 else p.addr % 64
    (List.range (flitsOf p - 1)).map (fun k => (List.range 64).map (fun j =>
      if 64 * k + j < base then 0 else p.data.getD (64 * k + j - base) 0))

/-- The units of a packet, in order. -/
def unitsOf (p : Packet) : List LinkUnit :=
  { cls := p.cls, head := true, data := bytesLE 16 (headerBits p) ++ bytesLE 8 p.mask ++ List.replicate 8 0 } ::
    (dataFlits p).map (fun d => { cls := p.cls, head := false, data := d })

/-- The packet of a header unit, without data. -/
def headerOf (d : List Byte) : Packet :=
  let h := fieldLE d 0 16
  { opc := bitsOf h 0 4, len := bitsOf h 4 8, addr := bitsOf h 12 52, dev := bitsOf h 64 9, srcdev := bitsOf h 73 9,
    init := bitsOf h 82 12, tag := bitsOf h 94 8, keyid := bitsOf h 102 6, pmask := bitsOf h 108 5, cls := bitsOf h 113 2,
    prio := bitsOf h 115 2, status := bitsOf h 117 8, atop := bitsOf h 125 2, tgen := bitOf h 127, mask := fieldLE d 16 8 }

/-- The packet of a header and its data units. -/
def packetFrom (h : List Byte) (ds : List (List Byte)) : Packet :=
  let p := headerOf h
  let atomic := p.opc = opATOMIC || p.opc = opATRESP
  let all := ds.flatten
  let n := if p.opc = opATOMIC then (if p.atop = 2 then 16 else 8) else p.len + 1
  { p with data := if ds.isEmpty then [] else (all.drop (if atomic then 0 else p.addr % 64)).take n }

/-! ### Port states (R577 to R579) -/

/-- A WARP_EVT bit sets, which raises the warp-port source (R592). -/
def warpEvt (f : Field) (p : Nat) (s : State) : State := s.setEvt f p 0 (0x178 + p)

/-- Ports in UP. -/
def upPorts (s : State) : List Nat := (List.range 12).filter (fun p => s.fld F.WARP_STATUS_STATE p == 3)

/-- The device's own link-state record (R581). -/
def ownRec (s : State) : LinkRec :=
  let st := s.fld F.WARP_SYS_STATUS_STATE
  { uid := s.fld F.DEV_UID, gen := s.disco.gen,
    req := if s.bit F.WARP_SYS_CFG_REQ_V then some (s.fld F.WARP_SYS_CFG_REQ_ID) else none,
    held := if s.disco.members.any (fun m => m.1 == s.fld F.DEV_UID) then some (s.fld F.DEV_ID) else none,
    isol := (st == 3 && !s.disco.rejoin) || s.disco.isolating,
    links := (upPorts s).map (fun p => (p, s.fld F.PEER_UID p, s.fld F.WARP_STATUS_PEER_PORT p)) }

/-- A DISC payload (Table 19.5), flit bytes 8 to 239, sent by port `p`. -/
def discBody (msg p : Nat) (r : LinkRec) : List Byte :=
  let flags := ofBool r.req.isSome + 2 * ofBool r.held.isSome + 4 * ofBool r.isol
  let ls := if msg = 2 then r.links else []
  (bytesLE 1 msg ++ bytesLE 1 p ++ bytesLE 2 flags ++ bytesLE 2 (r.req.getD 0) ++ bytesLE 2 (r.held.getD 0) ++
    bytesLE 8 r.uid ++ bytesLE 4 r.gen ++ bytesLE 1 ls.length ++ bytesLE 3 0 ++
    ls.flatMap (fun (l : Nat × Nat × Nat) => bytesLE 1 l.1 ++ bytesLE 8 l.2.1 ++ bytesLE 1 l.2.2) ++ List.replicate 232 0).take 232

/-- The record of a DISC payload. -/
def discRec (b : List Byte) : LinkRec :=
  let flags := fieldLE b 2 2
  { uid := fieldLE b 8 8, gen := fieldLE b 16 4,
    req := if bitOf flags 0 then some (fieldLE b 4 2 % 512) else none,
    held := if bitOf flags 1 then some (fieldLE b 6 2 % 512) else none,
    isol := bitOf flags 2,
    links := (List.range (min 12 (fieldLE b 20 1))).map (fun j => (fieldLE b (24 + 10 * j) 1, fieldLE b (25 + 10 * j) 8, fieldLE b (33 + 10 * j) 1)) }

/-- Queues a DISC payload on a port. -/
def queueDisc (p : Nat) (b : List Byte) (s : State) : State := s.updWp p (fun w => { w with disc := w.disc ++ [b] })

/-- Puts a record in the place of the one of the same UID. -/
def putRec (rs : List LinkRec) (r : LinkRec) : List LinkRec := rs.filter (fun x => x.uid != r.uid) ++ [r]

/-- The device generates a new record and floods it on every UP port (R581); its records have changed. -/
def newRecord (s : State) : State :=
  let s1 := { s with disco := { s.disco with gen := s.disco.gen + 1, changed := true } }
  let r := ownRec s1
  let s2 := { s1 with disco := { s1.disco with recs := putRec s1.disco.recs r } }
  forL (upPorts s2) (fun p s => queueDisc p (discBody 2 p r) s) s2

/-- The units of the packets of one class that have arrived whole; `n` bounds how many packets are looked at. -/
def wholeUnits : Nat → List LinkUnit → List LinkUnit
  | 0, _ => []
  | _, [] => []
  | n + 1, u :: us =>
    let k := flitsOf (headerOf u.data)
    if us.length + 1 < k then [] else (u :: us).take k ++ wholeUnits n ((u :: us).drop k)

/-- Units to send without the rest of packets whose header has gone: of each class, from its first header unit on. -/
def unsentUnits (us : List LinkUnit) : List LinkUnit :=
  (us.foldl (fun (a : List Nat × List LinkUnit) u =>
    if u.head || a.1.contains u.cls then (u.cls :: a.1, a.2 ++ [u]) else a) ([], [])).2

/-- A port forgets its link: no flit in hand, no partial packet, full credits for the next link up (R572, R579). Packets
cut off are counted in DROP_CNT (R571); those that have arrived whole still wait for their router. -/
def clearLink (p : Nat) (s : State) : State :=
  let w := s.warp.get p
  let whole := (List.range 4).flatMap (fun c => let us := w.rx.filter (fun u => u.cls == c); wholeUnits us.length us)
  let cut := (w.rx.filter (·.head)).length - (whole.filter (·.head)).length
  let s1 := s.bump F.WARP_DROP_DROP_CNT p 0 cut
  let credit := (List.range 4).foldl (fun (m : SMap Nat) c => m.set c 128) {}
  { s1 with warp := s1.warp.set p { credit := credit, units := unsentUnits w.units, rx := whole } }

/-- A port in HELLO or UP goes DOWN (R579); with the parent port the timebase enters HOLDOVER (R601). -/
def warpDown (p cause : Nat) (s : State) : State :=
  let st := s.fld F.WARP_STATUS_STATE p
  if st = 2 ∨ st = 3 then
    let s1 := (s.setFld F.WARP_STATUS_STATE p 0 4).setFld F.WARP_STATUS_CAUSE p 0 cause
    let s2 := warpEvt F.WARP_EVT_DOWN p ((clearLink p s1).bump F.WARP_REPLAY_DOWN_CNT p)
    let s3 := if s2.fld F.TB_TREE_LEVEL != 0 && s2.fld F.TB_TREE_PPORT == p then tbSet 3 s2 else s2
    if st = 3 then newRecord s3 else s3
  else s

/-- A port enters REJECTED (Table 19.4). -/
def warpReject (p cause : Nat) (s : State) : State :=
  warpEvt F.WARP_EVT_REJECT p (clearLink p ((s.setFld F.WARP_STATUS_STATE p 0 5).setFld F.WARP_STATUS_CAUSE p 0 cause))

/-- A port sends its HELLO once discovery has begun (R581). -/
def sendHello (p : Nat) (s : State) : State :=
  if s.fld F.WARP_SYS_STATUS_STATE = 0 || (s.warp.get p).helloSent then s
  else queueDisc p (discBody 1 p (ownRec s)) (s.updWp p (fun w => { w with helloSent := true }))

/-- A port enters HELLO: its lanes are ACTIVE at code 0xB with AM_LOCK (Table 19.4). -/
def warpHello (p : Nat) (s : State) : State := sendHello p (clearLink p (s.setFld F.WARP_STATUS_STATE p 0 2))

/-- A port enters UP (R581): the device's new record and the records it holds go to the neighbour. -/
def warpUp (p : Nat) (s : State) : State :=
  let s1 := warpEvt F.WARP_EVT_UP p (s.setFld F.WARP_STATUS_STATE p 0 3)
  newRecord (forL s1.disco.recs (fun r s => queueDisc p (discBody 2 p r) s) s1)

/-- The enabled port that runs a quad's lanes. -/
def portOfQuad (s : State) (q : Nat) : Option Nat :=
  (List.range 12).find? (fun p => s.bit F.WARP_CFG_EN p && s.fld F.WARP_CFG_QUAD p == q)

end Sys2Proof.Machine
end

