-- ==== Sys2Proof/Machine/Lanes.lean ====
section
/-!
DEFINITION. Serial lanes (chapter 17): owners, rates, bring-up and training, bursts and loss of input, markers and
groups, the attach port, loopbacks, lane streams and transmit sources.
-/
namespace Sys2Proof.Machine

/-- Changes the inner state of lane `l`. -/
def State.updLane (s : State) (l : Nat) (f : Lane → Lane) : State := { s with lanes := s.lanes.upd l f }

/-- STATE of a lane (Table 17.2). -/
def laneSt (s : State) (l : Nat) : Nat := s.fld F.LANE_STATUS_STATE l
def lnOFF : Nat := 0
def lnPLL : Nat := 1
def lnSIG : Nat := 2
def lnCDR : Nat := 3
def lnTRAIN : Nat := 4
def lnEQ : Nat := 5
def lnALIGN : Nat := 6
def lnACTIVE : Nat := 7
def lnGAP : Nat := 8
def lnREACQ : Nat := 9
def lnFAILED : Nat := 10

/-- Sets the STATE of a lane. -/
def setLaneSt (l st : Nat) (s : State) : State := s.setFld F.LANE_STATUS_STATE l 0 st

/-- OWNER of a quad: 0 NONE, 1 FABRIC, 2 PCIE, 3 WARP (R515). -/
def quadOwner (s : State) (q : Nat) : Nat := s.fld F.QUAD_CFG_OWNER q

/-- The attach ports of quad `q` are active (R91, Table 24.3). -/
def attachOn (s : State) (q : Nat) : Bool := quadOwner s q < 2 && !quadBad s q

/-- A LANE_EVT bit sets, which raises the lane's source. -/
def laneEvt (f : Field) (l : Nat) (s : State) : State := s.setEvt f l 0 (0x280 + l)

/-- A quad brings its lanes up with STEP training: BRINGUP, or always in a warp quad (R523, R566). -/
def stepQuad (s : State) (q : Nat) : Bool := quadOwner s q == 3 || s.bit F.QUAD_CFG_BRINGUP q

/-- A lane takes part in bring-up: enabled in a FABRIC quad, or run by an enabled warp port (R523, R566). -/
def laneOn (s : State) (l : Nat) : Bool :=
  match quadOwner s (l / 4) with
  | 1 => s.bit F.LANE_CTL_EN l
  | 3 => (portOfQuad s (l / 4)).isSome
  | _ => false

/-- The PLL of a quad has no lock to give: it has failed (R641), or VLANE is faulty (R665). -/
def quadDead (s : State) (q : Nat) : Bool := s.laneRail || (s.lanes.get (4 * q)).pllLost

/-- The lanes of a quad. -/
def quadLanes (q : Nat) : List Nat := [4 * q, 4 * q + 1, 4 * q + 2, 4 * q + 3]

/-- The attach bay of a lane (Table 3.10). -/
def laneBay (l : Nat) : Nat :=
  let q := l / 4
  let h := l % 4 / 2
  if q < 8 then 3 * q + h
  else if q < 16 then 31 * 24 + 3 * (q - 8) + h
  else if q < 32 then (2 * (q - 16) + h) * 24
  else (2 * (q - 32) + h) * 24 + 23

/-- Marker period in words (R537); a warp port uses 2^14 (R566). -/
def amPeriod (s : State) (l : Nat) : Nat :=
  2 ^ (if quadOwner s (l / 4) = 3 then 14 else min 16 (max 10 (s.fld F.LANE_BOND_AM_EXP l)))

/-- A lane sends and locks to markers. -/
def amOn (s : State) (l : Nat) : Bool := quadOwner s (l / 4) == 3 || s.bit F.LANE_BOND_AM_EN l

/-! ### Groups (R536) -/

/-- The lanes that name the group of lane `l`; none when it is unbonded. -/
def groupNames (s : State) (l : Nat) : List Nat :=
  let g := s.fld F.LANE_BOND_GROUP l
  if g = 0 then [] else (List.range 192).filter (fun m => s.fld F.LANE_BOND_GROUP m == g)

/-- The side of a quad. -/
def quadSide (q : Nat) : Nat := if q < 8 then 0 else if q < 16 then 1 else if q < 32 then 2 else 3

/-- QUAD_CFG settings that a group's quads must share. -/
def quadSettings (s : State) (q : Nat) : List Nat :=
  [F.QUAD_CFG_BRINGUP, F.QUAD_CFG_REF_FREQ, F.QUAD_CFG_REF_SPREAD, F.QUAD_CFG_RATE, F.QUAD_CFG_CMOD, F.QUAD_CFG_LDIV,
   F.QUAD_CFG_MULT].map (fun f => s.fld f q)

/-- The quad whose reference input a quad uses, through REF_SRC chains. -/
def refRoot (s : State) : Nat → Nat → Nat
  | 0, q => q
  | n + 1, q => if quadRef s q = q then q else refRoot s n (quadRef s q)

/-- The group of lane `l` is formed. -/
def groupFormed (s : State) (l : Nat) : Bool :=
  let ls := groupNames s l
  let qs := (ls.map (· / 4)).eraseDups
  let q0 := qs.foldl min 47
  2 ≤ ls.length && ls.length ≤ 16 && qs.length ≤ 4 && qs.all (fun q => q < q0 + qs.length && quadSide q == quadSide q0) &&
  qs.all (fun q => quadOwner s q == 1 && quadSettings s q == quadSettings s q0 && refRoot s 16 q == refRoot s 16 q0) &&
  ls.all (fun m => s.bit F.LANE_BOND_AM_EN m && !s.bit F.LANE_CTL_PCS m && s.fld F.LANE_BOND_AM_EXP m == s.fld F.LANE_BOND_AM_EXP l) &&
  (List.range ls.length).all (fun p => (ls.filter (fun m => s.fld F.LANE_BOND_POS m == p)).length == 1)

/-- The lanes that act together with lane `l`: its formed group, or itself. -/
def laneGroup (s : State) (l : Nat) : List Nat := if groupFormed s l then groupNames s l else [l]

/-! ### Bursts (R533) -/

/-- A burst opens. -/
def openBurst (l : Nat) (s : State) : State :=
  ((s.setBit F.LANE_STATUS_BURST l).bumpWrap F.LANE_STATUS_BURST_NUM l).updLane l (fun k => { k with sob := true, gap := false, segNum := 0 })

/-- The open burst of a lane closes: an end-of-burst marker, or EOB on its segment. -/
def closeBurst (l : Nat) (trunc : Bool) (s : State) : State :=
  if !s.bit F.LANE_STATUS_BURST l then s
  else
    let s1 := s.clrFld F.LANE_STATUS_BURST l
    let s2 := if s.bit F.LANE_CTL_MODE l then
        s1.updLane l (fun k => { k with segs := k.segs.map (fun g => if g.closed then g else { g with flags := withBit (withBit g.flags 1 true) 2 trunc }) })
      else s1.updLane l (fun k => { k with rxq := k.rxq ++ [(0, 0, 16 + (if trunc then 32 else 0))] })
    if trunc then laneEvt F.LANE_EVT_TRUNC l (s2.bump F.BURST_CNT_TRUNC_CNT l) else s2

/-- A lane enters ACTIVE: in the burst held open over a gap, or with a new one (R533, R535). -/
def enterActive (l : Nat) (s : State) : State :=
  let s1 := setLaneSt l lnACTIVE s
  if quadOwner s (l / 4) ≠ 1 then s1
  else if s.bit F.LANE_STATUS_BURST l then
    laneEvt F.LANE_EVT_GAP l ((s1.bump F.BURST_CNT_GAP_CNT l).updLane l (fun k => { k with gap := true }))
  else openBurst l s1

/-! ### Bring-up (R523 to R526) -/

/-- Training starts over in a lane. -/
def clearTrain (l : Nat) (s : State) : State :=
  s.updLane l (fun k => { k with trLast := 0, trSame := 0, trAckRx := 0, trAckTx := 0, trMask := 0, trained := false })

/-- A lane starts bring-up from PLL_WAIT at rate code `code`. -/
def laneRestart (code l : Nat) (s : State) : State :=
  (clearTrain l (setLaneSt l lnPLL (s.setFld F.LANE_STATUS_RATE_ACT l 0 code))).updLane l (fun k => { k with timer := false, amSeen := false, amMiss := 0 })

/-- A quad's PLL has a new setting: its bursts close and its enabled lanes, failed ones too, start from PLL_WAIT. -/
def quadRestart (q : Nat) (s : State) : State :=
  let s1 := s.updLane (4 * q) (fun k => { k with atRate := false })
  let code := if stepQuad s q then 0 else s.fld F.QUAD_CFG_RATE q
  forL (quadLanes q) (fun l s => if laneOn s l then laneRestart code l (closeBurst l false s) else s) s1

/-- A lane enters FAILED; a warp port in HELLO or UP goes DOWN with LANEFAIL (R577). -/
def laneFail (l : Nat) (s : State) : State :=
  let s1 := setLaneSt l lnFAILED s
  match (if quadOwner s (l / 4) = 3 then portOfQuad s (l / 4) else none) with
  | some p => warpDown p 3 s1
  | none => s1

/-- Lanes of a quad that are in bring-up or running. -/
def remaining (s : State) (q : Nat) : List Nat := (quadLanes q).filter (fun l => laneOn s l && laneSt s l != lnFAILED && laneSt s l != lnOFF)

/-- The quad's own mask (R525, R566). -/
def ownMask (s : State) (q : Nat) : Nat :=
  (List.range 12).foldl (fun m c =>
    if (if quadOwner s q = 3 then true else c ≤ s.fld F.QUAD_CFG_RATE q && c != 11) && !bitOf (s.lanes.get (4 * q)).cut c
    then m + 2 ^ c else m) 0

/-- A STEP quad leaves code 0 (R525): lanes that have not trained fail, the others move to the highest common code. -/
def quadSelect (q : Nat) (s : State) : State :=
  let rs := remaining s q
  let ok := rs.filter (fun l => (s.lanes.get l).trained)
  let s1 := forL (rs.filter (fun l => !(s.lanes.get l).trained)) (fun l s => laneFail l (laneEvt F.LANE_EVT_TRAINFAIL l s)) s
  let mask := ok.foldl (fun m l => m &&& (s.lanes.get l).trMask) (ownMask s q)
  if ok.isEmpty then s1
  else if mask = 0 then forL ok laneFail s1
  else forL ok (laneRestart (Nat.log2 mask)) (s1.updLane (4 * q) (fun k => { k with atRate := true }))

/-- The quad leaves code 0 once every enabled lane has completed training. -/
def quadTrained (q : Nat) (s : State) : State :=
  let rs := remaining s q
  if !rs.isEmpty && rs.all (fun l => laneSt s l == lnTRAIN && (s.lanes.get l).trained) then quadSelect q s else s

/-- A warp port whose four lanes are ACTIVE at code 0xB with AM_LOCK enters HELLO (Table 19.4). -/
def warpLanesUp (q : Nat) (s : State) : State :=
  match (if quadOwner s q = 3 then portOfQuad s q else none) with
  | some p =>
    if s.fld F.WARP_STATUS_STATE p = 1 && (quadLanes q).all (fun l => laneSt s l == lnACTIVE &&
        s.fld F.LANE_STATUS_RATE_ACT l == 11 && s.bit F.LANE_STATUS_AM_LOCK l) then warpHello p s else s
  | none => s

/-- A lane has re-acquired or aligned: alone it enters ACTIVE, in a group once every lane of it is ready (R538). -/
def laneAligned (l : Nat) (s : State) : State :=
  let g := laneGroup s l
  let s1 := if amOn s l then s.setBit F.LANE_STATUS_AM_LOCK l else s
  if g.length ≤ 1 then warpLanesUp (l / 4) (enterActive l s1)
  else
    let s2 := setLaneSt l lnALIGN s1
    if g.all (fun m => (laneSt s2 m == lnALIGN && s2.bit F.LANE_STATUS_AM_LOCK m) || laneSt s2 m == lnACTIVE) then
      forL (g.filter (fun m => laneSt s2 m == lnALIGN)) enterActive s2
    else s2

/-- R523. The step that lane `l` is in completes; `skewed` says, in ALIGN, that the group's skew exceeds 40 ns. -/
def execLaneBringupStepDone (l : Nat) (skewed : Bool) (s : State) : Res :=
  let q := l / 4
  .next (
    if !(l < 192 && laneOn s l) || quadDead s q then s
    else match laneSt s l with
    | 1 => if srcQref s q then forL (quadLanes q) (fun m s => if laneOn s m && laneSt s m == lnPLL then setLaneSt m lnSIG s else s) s else s
    | 2 => setLaneSt l lnCDR (s.clrFld F.LANE_STATUS_LOS l)
    | 3 => if stepQuad s q && !(s.lanes.get (4 * q)).atRate then clearTrain l (setLaneSt l lnTRAIN s) else setLaneSt l lnEQ s
    | 4 => quadTrained q s
    | 5 => setLaneSt l lnALIGN (s.clrFld F.LANE_STATUS_AM_LOCK l)
    | 6 => if skewed then laneEvt F.LANE_EVT_SKEW l s else laneAligned l s
    | 9 => if s.bit F.LANE_STATUS_LOS l then s else laneAligned l s
    | _ => s)
where
  /-- The quad's reference is judged good (R521, R630). -/
  srcQref (s : State) (q : Nat) : Bool := bitOf (s.fld F.QREF_GOOD_GOOD) (quadRef s q)

/-- A STEP quad falls back to code 0 and trains again. -/
def quadRetrain (q : Nat) (s : State) : State :=
  forL (remaining s q) (fun l s => laneRestart 0 l (closeBurst l true s)) (s.updLane (4 * q) (fun k => { k with atRate := false }))

/-- R523, R525, R535. The step of lane `l` exceeds its limit. -/
def execLaneStepTimeout (l : Nat) (s : State) : Res :=
  let q := l / 4
  let k0 := s.lanes.get (4 * q)
  .next (
    if !(l < 192 && laneOn s l) then s
    else match laneSt s l with
    | 3 | 5 | 6 =>
      if stepQuad s q && k0.atRate then
        quadRetrain q (s.updLane (4 * q) (fun k => { k with cut := withBit k.cut (s.fld F.LANE_STATUS_RATE_ACT l) true }))
      else setLaneSt l lnSIG s
    | 9 => if stepQuad s q then quadRetrain q s else setLaneSt l lnSIG (closeBurst l true s)
    | _ => s)

/-- R525. TRAIN_TO passes in quad `q`. -/
def execQuadTrainTimeout (q : Nat) (s : State) : Res :=
  .next (if q < 48 && stepQuad s q && (remaining s q).any (fun l => laneSt s l == lnTRAIN) then quadSelect q s else s)

/-- R521. The PLL of quad `q` has not locked after 50 µs. -/
def execQuadPllRetry (q : Nat) (s : State) : Res :=
  .next (if q < 48 && (remaining s q).any (fun l => laneSt s l == lnPLL) then laneEvt F.LANE_EVT_RATEERR (4 * q) s else s)

/-! ### Training words (R524) -/

/-- The CRC-8 of bits [55:0] of a training word. -/
def trainCrc (w : Nat) : Nat :=
  (List.range 56).foldl (fun r i =>
    let out := bitOf r 7 != bitOf w i
    let r' := r * 2 % 256
    if out then r' ^^^ 7 else r') 0

/-- The training word that lane `l` sends (Table 17.3). -/
def trainWord (s : State) (l : Nat) : Nat :=
  let ack := 8 ≤ (s.lanes.get l).trSame
  let pos := if groupFormed s l then s.fld F.LANE_BOND_POS l else l % 4
  let w := 0xB5C3 + 2 ^ 16 + pos * 2 ^ 20 + ofBool ack * 2 ^ 24 + ownMask s (l / 4) * 2 ^ 32
  w + trainCrc w * 2 ^ 56

/-- Training is complete in a lane: 8 words sent and 8 received with ACK = 1. -/
def trainCheck (l : Nat) (s : State) : State :=
  let k := s.lanes.get l
  if laneSt s l = lnTRAIN ∧ 8 ≤ k.trAckTx ∧ 8 ≤ k.trAckRx then quadTrained (l / 4) (s.updLane l (fun k => { k with trained := true })) else s

/-- R524. Lane `l` receives the training word `w` (64 bits, descrambled). -/
def execTrainingWord (l w : Nat) (s : State) : Res :=
  .next (
    if !(l < 192 && laneOn s l && laneSt s l == lnTRAIN) then s
    else
      let ok := bitsOf w 0 16 == 0xB5C3 && bitsOf w 16 4 == 1 && bitsOf w 56 8 == trainCrc w
      trainCheck l (s.updLane l (fun k =>
        if !ok then { k with trSame := if 8 ≤ k.trSame then k.trSame else 0, trAckRx := 0 }
        else { k with trLast := w, trMask := bitsOf w 32 12,
                      trSame := if 8 ≤ k.trSame then k.trSame else if w = k.trLast then k.trSame + 1 else 1,
                      trAckRx := if bitOf w 24 then k.trAckRx + 1 else 0 })))

/-! ### Loss and return of input (R526, R534, R535, R538) -/

/-- The loss timer of a lane expires: its burst closes with TRUNC and it re-acquires. -/
def losExpire (l : Nat) (s : State) : State :=
  (setLaneSt l lnREACQ (closeBurst l true s)).updLane l (fun k => { k with timer := false })

/-- A lane of a group or alone that was ACTIVE enters GAP. -/
def enterGap (l : Nat) (s : State) : State :=
  let s1 := (setLaneSt l lnGAP s).updLane l (fun k => { k with timer := true })
  if s.fld F.LANE_TO_LOS_TO l = 0 then losExpire l s1 else s1

/-- A lane loses its input (R526, R534): an ACTIVE lane and its group enter GAP, one in bring-up falls back. -/
def laneLos (l : Nat) (s : State) : State :=
  let q := l / 4
  if !(l < 192 && laneOn s l) then s
  else
    let s1 := s.setBit F.LANE_STATUS_LOS l
    match laneSt s l with
    | 7 => forL (laneGroup s l) (fun m s => if laneSt s m = lnACTIVE then enterGap m s else s) s1
    | 3 | 4 | 5 | 6 =>
      if stepQuad s q && !(s.lanes.get (4 * q)).atRate then clearTrain l (setLaneSt l lnTRAIN s1) else setLaneSt l lnSIG s1
    | _ => s1

/-- R534. Lane `l` detects loss of input. -/
def execLaneLossOfInput (l : Nat) (s : State) : Res := .next (laneLos l s)

/-- R535. The loss-of-input timer of lane `l` expires. -/
def execLosTimeout (l : Nat) (s : State) : Res :=
  .next (if l < 192 && laneSt s l == lnGAP && (s.lanes.get l).timer then
    forL (laneGroup s l) (fun m s => if laneSt s m = lnGAP ∨ laneSt s m = lnREACQ then losExpire m s else s) s else s)

/-- R535. The receiver of lane `l` detects signal. -/
def execLaneSignalDetect (l : Nat) (s : State) : Res :=
  .next (
    if !(l < 192 && laneOn s l) || quadDead s (l / 4) then s
    else
      let s1 := s.clrFld F.LANE_STATUS_LOS l
      match laneSt s l with
      | 8 => (setLaneSt l lnREACQ s1).updLane l (fun k => { k with timer := false })
      | 2 => setLaneSt l lnCDR s1
      | _ => s1)

/-! ### Enabling (R516, R518, R523, R530, R540) -/

/-- A lane is turned off: its burst closes with TRUNC = 0. -/
def laneOff (l : Nat) (s : State) : State :=
  (setLaneSt l lnOFF (closeBurst l false s)).updLane l (fun k => { k with timer := false, txq := [] })

/-- EN = 1 is allowed with the lane's PCS, MODE, BRINGUP and rate (R530, R540). -/
def laneEnOk (s : State) (l : Nat) : Bool :=
  !s.bit F.LANE_CTL_PCS l || (!s.bit F.LANE_CTL_MODE l && !s.bit F.QUAD_CFG_BRINGUP (l / 4) &&
    [4, 6, 8, 10].contains (s.fld F.QUAD_CFG_RATE (l / 4)))

/-- EN goes to 1: refused with RATEERR, or bring-up starts; a lane whose group is not formed sets BONDERR in every lane
that names it (R536). -/
def laneEnable (l : Nat) (s : State) : State :=
  if !laneEnOk s l then laneEvt F.LANE_EVT_RATEERR l s
  else
    let s1 := s.setBit F.LANE_CTL_EN l
    let s2 := if s1.fld F.LANE_BOND_GROUP l != 0 && !groupFormed s1 l then forL (groupNames s1 l) (laneEvt F.LANE_EVT_BONDERR) s1 else s1
    if quadOwner s (l / 4) ≠ 1 then s2
    else if stepQuad s (l / 4) then quadRestart (l / 4) s2
    else laneRestart (s.fld F.QUAD_CFG_RATE (l / 4)) l s2

/-- LANE_CTL.REACQ (R533): the burst closes with TRUNC = 0 and the lane re-acquires; it leaves FAILED. -/
def laneReacq (l : Nat) (s : State) : State :=
  if s.bit F.LANE_CTL_EN l && quadOwner s (l / 4) == 1 && 7 ≤ laneSt s l then setLaneSt l lnREACQ (closeBurst l false s) else s

/-- A write of LANE_CTL with the value `v` (R518, R523, R527, R533). -/
def laneCtlWrite (l v : Nat) (s : State) : State :=
  let hu := Blk.header .lane l
  let en := s.bit F.LANE_CTL_EN l
  let s1 := ((s.setFld F.LANE_CTL_PRBS l 0 (bitsOf v 18 3)).setFld F.LANE_CTL_PRBS_CHK l 0 (bitsOf v 17 1)).setFld
    F.LANE_CTL_SAFE_TX l 0 (bitsOf v 12 2)
  let s2 := (s1.stage hu F.LANE_CTL_TX_SRC l 0 (bitsOf v 8 2)).stage hu F.LANE_CTL_LPBK l 0 (bitsOf v 4 2)
  let s3 := if en then s2 else (s2.setFld F.LANE_CTL_PCS l 0 (bitsOf v 2 1)).setFld F.LANE_CTL_MODE l 0 (bitsOf v 1 1)
  let s4 := if !en && bitOf v 0 then laneEnable l s3
    else if en && !bitOf v 0 then (if quadOwner s (l / 4) = 1 then laneOff l (s3.clrFld F.LANE_CTL_EN l) else s3.clrFld F.LANE_CTL_EN l)
    else s3
  if bitOf v 63 then laneReacq l s4 else s4

/-- R523. A write of LANE_CTL with EN = 1; `v` is the rest of the value. -/
def execLaneEnable (l v : Nat) (s : State) : Res := .next (if l < 192 then laneCtlWrite l (withBit v 0 true) s else s)

/-- R523. A write of LANE_CTL with EN = 0. -/
def execLaneDisable (l v : Nat) (s : State) : Res := .next (if l < 192 then laneCtlWrite l (withBit v 0 false) s else s)

/-- R533. A write of LANE_CTL with REACQ = 1. -/
def execLaneReacq (l v : Nat) (s : State) : Res := .next (if l < 192 then laneCtlWrite l (withBit v 63 true) s else s)

/-- A write of QUAD_CFG.OWNER through lane `l` (R516). -/
def quadOwnerWrite (l o : Nat) (s : State) : State :=
  let q := l / 4
  if o = quadOwner s q then s
  else if (quadLanes q).all (fun m => !s.bit F.LANE_CTL_EN m && laneSt s m == lnOFF) && (o != 2 || q < 4) && (o == 0 || !quadBad s q) then s.setFld F.QUAD_CFG_OWNER q 0 o
  else laneEvt F.LANE_EVT_OWNERR l s

/-- R516. A write of OWNER. -/
def execQuadOwnerWrite (l o : Nat) (s : State) : Res := .next (if l < 192 then quadOwnerWrite l (o % 4) s else s)

/-! ### Staged changes (R520, R527) -/

/-- A rate setting is valid for a quad (R519, R520). -/
def rateValid (s : State) (q code cmod ldiv mult : Nat) : Bool :=
  if code < 11 then true
  else if code = 11 then quadOwner s q == 3
  else if code ≠ 15 then false
  else
    let v := customVco s q mult
    let sym : Freq := ⟨v.num * 2, v.den * 2 ^ ldiv⟩
    ldiv ≤ 5 && !s.bit F.QUAD_CFG_BRINGUP q && Freq.le ⟨16000000, 1⟩ v && Freq.le v ⟨33600000, 1⟩ &&
    (if cmod = 0 then Freq.le ⟨1250000, 1⟩ sym && Freq.le sym ⟨32000000, 1⟩
     else !Freq.le sym ⟨16000000, 1⟩ && Freq.le sym ⟨53125000, 1⟩)

/-- The rate fields of QUAD_CFG. -/
def rateFields : List Field := [F.QUAD_CFG_RATE, F.QUAD_CFG_CMOD, F.QUAD_CFG_LDIV, F.QUAD_CFG_MULT]

/-- Brings the staged values of lane unit `l` into force (R527). -/
def laneApply (l : Nat) (s : State) : State :=
  let q := l / 4
  let hu := Blk.header .lane l
  let bad := l % 4 = 0 && s.staged.any (fun g => g.hu == hu && rateFields.any (fun f => f.id == g.fld.id)) &&
    !rateValid s q (s.shadow F.QUAD_CFG_RATE q 0) (s.shadow F.QUAD_CFG_CMOD q 0) (s.shadow F.QUAD_CFG_LDIV q 0) (s.shadow F.QUAD_CFG_MULT q 0)
  let s0 := if bad then laneEvt F.LANE_EVT_RATEERR l { s with staged := s.staged.filter (fun g => !(g.hu == hu && rateFields.any (fun f => f.id == g.fld.id))) } else s
  let old := rateFields.map (fun f => s.fld f q)
  let src := s.fld F.LANE_CTL_TX_SRC l
  let lp := s.fld F.LANE_CTL_LPBK l
  let any := s0.stagedIn hu
  let s1 := s0.applyStaged hu
  let s2 := if s1.fld F.LANE_CTL_TX_SRC l ≠ src then s1.updLane l (fun k => { k with txRead := 0, txSend := 0, txBuf := [], prTx := 0 }) else s1
  if quadOwner s q ≠ 1 then s2
  else if l % 4 = 0 && old != rateFields.map (fun f => s1.fld f q) then quadRestart q (s2.updLane l (fun k => { k with cut := 0 }))
  else if !(any && s.bit F.LANE_CTL_EN l) then s2
  else match laneSt s l with
    | 0 | 10 => s2
    | 7 => if s1.fld F.LANE_CTL_LPBK l ≠ lp then setLaneSt l lnREACQ (closeBurst l false s2) else s2
    | 8 => if s1.fld F.LANE_CTL_LPBK l ≠ lp then setLaneSt l lnREACQ (closeBurst l false s2) else s2.updLane l (fun k => { k with timer := true })
    | 9 => if s1.fld F.LANE_CTL_LPBK l ≠ lp then closeBurst l false s2 else s2
    | _ => laneRestart (if stepQuad s q && !(s.lanes.get (4 * q)).atRate then 0 else s.fld F.LANE_STATUS_RATE_ACT l) l s2

/-! ### Lane streams (R540 to R543) -/

/-- Ring size of a lane's stream. -/
def strmSize (s : State) (l : Nat) : Nat :=
  let e := s.fld F.STRM_CFG_LOG2 l
  2 ^ (if 12 ≤ e ∧ e ≤ 40 then e else 12)

/-- A received word is discarded (R531, R542). -/
def rxDrop (l : Nat) (s : State) : State :=
  laneEvt F.LANE_EVT_DROP l ((s.bump F.RX_DROP_CNT_COUNT l).updLane l (fun k => { k with dropped := true }))

/-- The open segment of a stream closes when it is full or its burst has ended. -/
def segClose (l : Nat) (s : State) : State :=
  s.updLane l (fun k => { k with segs := k.segs.map (fun g => if !g.closed && (g.n == 126 || bitOf g.flags 1) then { g with closed := true } else g) })

/-- A word of a burst goes to the lane's ring. -/
def streamWord (l w : Nat) (gap : Bool) (s : State) : State :=
  let s0 := segClose l s
  let k := s0.lanes.get l
  let size := strmSize s l
  let off := (s0.fld F.STRM_WP_WP l * 4096 + 4096 * k.segs.length) % size
  let isNew := !k.segs.any (fun g => !g.closed)
  if isNew && ((!s.bit F.STRM_CFG_WRAP l && (off + 4096) % size == s.fld F.STRM_RP_RP l * 4096 % size) || size ≤ 4096 * k.segs.length) then rxDrop l s0
  else
    let new : Seg := { id := k.segId, off := off, num := k.segNum, burst := s.fld F.LANE_STATUS_BURST_NUM l, time := s.now,
                       pick := s.pick, flags := ofBool k.sob + 16 * ofBool k.dropped }
    let s1 := if isNew then s0.updLane l (fun k => { k with segId := k.segId + 1, segNum := k.segNum + 1, sob := false, dropped := false,
                                                            segs := k.segs ++ [new] }) else s0
    match (s1.lanes.get l).segs.find? (fun g => !g.closed) with
    | none => s1
    | some g =>
      let f1 := if gap then withBit g.flags 3 true else g.flags
      let f2 := if (s1.lanes.get l).dropped then withBit f1 4 true else f1
      let g2 : Seg := { g with n := g.n + 1, out := g.out + 1, flags := f2 }
      let s2 := s1.updLane l (fun k => { k with dropped := false, segs := k.segs.map (fun h => if h.id == g.id then g2 else h) })
      segClose l (s2.request (0x400 + l) (s.fld F.DEV_ID) (s.fld F.STRM_BASE_BASE l * 4096 + g.off + 64 + 32 * g.n) opWRITE 31
        (bytesLE 32 w) (.stream l (2 * g.id)) (relaxed := true))

/-- A stream write of lane `l` is answered: `k` is twice the segment's number, plus 1 for its header (R541, R543). -/
def streamArrived (l k st : Nat) (s : State) : State :=
  let upd (g : Seg) : Seg := if g.id ≠ k / 2 then g else if k % 2 = 1 then { g with hdr := 2 }
    else { g with out := g.out - 1, flags := if st ≠ 0 then withBit g.flags 5 true else g.flags }
  let s1 := s.updLane l (fun v => { v with segs := v.segs.map upd })
  if st ≠ 0 then laneEvt F.LANE_EVT_STRMERR l (s1.bump F.STRM_NOCERR_CNT_COUNT l) else s1

/-- The header of a segment (Table 17.7). -/
def segHeader (s : State) (l : Nat) (g : Seg) : List Byte :=
  bytesLE 4 0x53474553 ++ bytesLE 2 l ++ bytesLE 1 (s.fld F.LANE_STATUS_RATE_ACT l) ++ bytesLE 1 g.flags ++ bytesLE 4 g.burst ++
  bytesLE 4 g.num ++ bytesLE 2 (32 * g.n) ++ bytesLE 6 0 ++ bytesLE 8 g.time ++ bytesLE 8 g.pick ++ bytesLE 24 0

/-- R541. The open segment of lane `l` closes, being full or at the end of its burst. -/
def execStreamSegmentClose (l : Nat) (s : State) : Res := .next (segClose l s)

/-- R541. The header of the oldest closed segment of lane `l` is written once its data writes are answered. -/
def execStreamHeaderWrite (l : Nat) (s : State) : Res :=
  .next (match (s.lanes.get l).segs.head? with
    | some g =>
      if l < 192 && g.closed && g.out == 0 && g.hdr == 0 then
        (s.updLane l (fun k => { k with segs := k.segs.map (fun h => if h.id == g.id then { h with hdr := 1 } else h) })).request (0x400 + l)
          (s.fld F.DEV_ID) (s.fld F.STRM_BASE_BASE l * 4096 + g.off) opWRITE 63 (segHeader s l g) (.stream l (2 * g.id + 1)) (relaxed := true)
      else s
    | none => s)

/-- R541. STRM_WP of lane `l` advances once the header of its oldest segment is answered. -/
def execStreamWpAdvance (l : Nat) (s : State) : Res :=
  .next (match (s.lanes.get l).segs with
    | g :: rest => if g.hdr = 2 then (s.updLane l (fun k => { k with segs := rest })).setFld F.STRM_WP_WP l 0
        ((s.fld F.STRM_WP_WP l * 4096 + 4096) % strmSize s l / 4096) else s
    | [] => s)

/-! ### Receiving (R529 to R531, R538, R539) -/

/-- The taps and length of a PRBS code. -/
def prbsTaps : Nat → Nat × Nat
  | 1 => (9, 5) | 2 => (15, 14) | 3 => (23, 18) | 4 => (31, 28) | _ => (7, 6)

/-- The next PRBS bit after a history, whose bit 0 is the last bit. -/
def prbsNext (t : Nat × Nat) (h : Nat) : Nat := (h / 2 ^ (t.1 - 1) + h / 2 ^ (t.2 - 1)) % 2

/-- The receiver checks one bit (R529): unlocked it predicts from the received bits, locked from the sequence itself. -/
def prbsBit (l b : Nat) (s : State) : State :=
  let t := prbsTaps (s.fld F.LANE_CTL_PRBS l)
  let k := s.lanes.get l
  let e := prbsNext t k.prRx
  let wrong := e != b
  if s.bit F.LANE_STATUS_PRBS_LOCK l then
    let errs := if wrong then ((k.prErrs ++ [k.prPos]).filter (fun x => k.prPos < x + 1024)) else k.prErrs
    let s1 := s.updLane l (fun v => { v with prRx := (v.prRx * 2 + e) % 2 ^ 31, prPos := v.prPos + 1, prErrs := errs })
    let s2 := if wrong then s1.bump F.LANE_CNT_PRBS_ERR_CNT l else s1
    if 64 ≤ errs.length then (s2.clrFld F.LANE_STATUS_PRBS_LOCK l).updLane l (fun v => { v with prErrs := [], prRun := 0 }) else s2
  else
    let run := if wrong then 0 else k.prRun + 1
    let s1 := s.updLane l (fun v => { v with prRx := (v.prRx * 2 + b) % 2 ^ 31, prRun := run, prPos := v.prPos + 1 })
    if 64 ≤ run then s1.setBit F.LANE_STATUS_PRBS_LOCK l else s1

/-- The PRBS check of a word. -/
def prbsCheck (l w : Nat) (s : State) : State :=
  if s.bit F.LANE_CTL_PRBS_CHK l && !s.bit F.LANE_CTL_PCS l then forN 256 (fun i s => prbsBit l (w / 2 ^ i % 2) s) s else s

/-- A word is an alignment marker (R537). -/
def isMarkerWord (w : Nat) : Bool :=
  bitsOf w 0 64 == 0xA3C596F05C3A690F && bitsOf w 128 64 == 0xA3C596F05C3A690F && bitsOf w 192 64 == 2 ^ 64 - 1 - bitsOf w 64 64

/-- The receiver's marker tracking (R538): whether the word stands in a marker's place, and the state after. -/
def markerTrack (l w : Nat) (s : State) : Bool × State :=
  if !amOn s l then (false, s)
  else
    let k := s.lanes.get l
    let due := k.amSeen && k.amRx + 1 == amPeriod s l
    let lock := s.bit F.LANE_STATUS_AM_LOCK l
    if isMarkerWord w && (due || !lock || !k.amSeen) then
      let s1 := s.updLane l (fun v => { v with amSeen := true, amRx := 0, amMiss := 0 })
      (true, if due then s1.setBit F.LANE_STATUS_AM_LOCK l else s1)
    else if due then
      let s1 := s.updLane l (fun v => { v with amRx := 0, amMiss := v.amMiss + 1 })
      (lock, if 4 ≤ k.amMiss + 1 then (s1.clrFld F.LANE_STATUS_AM_LOCK l).updLane l (fun v => { v with amSeen := false, amMiss := 0 }) else s1)
    else (false, s.updLane l (fun v => { v with amRx := v.amRx + 1 }))

/-- A received word of lane `l` reaches its attach-port queue or its stream. -/
def laneReceive (l w hdr : Nat) (err : Bool) (s : State) : State :=
  let s0 := s.updLane l (fun k => { k with far := some w })
  let s1 := if laneSt s l = lnACTIVE then prbsCheck l w s0 else s0
  let (mark, s2) := markerTrack l w s1
  if mark || laneSt s l != lnACTIVE || quadOwner s (l / 4) != 1 then s2
  else
    let k := s2.lanes.get l
    let s3 := s2.updLane l (fun k => { k with gap := false })
    if s.bit F.LANE_CTL_MODE l then streamWord l w k.gap s3
    else if 16 ≤ k.rxq.length then rxDrop l s2
    else
      let e := (w, hdr, 1 + 2 * ofBool k.sob + 4 * ofBool k.gap + 8 * ofBool err)
      s3.updLane l (fun v => { v with sob := false, rxq := v.rxq ++ [e] })

/-- The attach bay has hold stage 1 applied while TX_SRC is FABRIC (R532). -/
def laneHeld (s : State) (l : Nat) : Bool := s.fld F.LANE_CTL_TX_SRC l == 0 && s.bit F.BAY_STATUS_OUT_HELD (laneBay l)

/-- TX_RDY of lane `l` (Table 17.4, R532): room in the transmit queue behind the word that the port holds, and no hold. -/
def txReady (s : State) (l : Nat) : Bool :=
  attachOn s (l / 4) && !laneHeld s l && (s.lanes.get l).txq.length + ofBool (s.laneAtt.get l).txv < 16

/-- The head of lane `l`'s receive queue leaves it and is presented to the skein (R531). -/
def attachPresent (l : Nat) (s : State) : State :=
  match (s.lanes.get l).rxq with
  | [] => { s with laneAtt := s.laneAtt.upd l (fun a => { a with rxw := 0, rxh := 0, rxf := 0 }) }
  | (w, hdr, fl) :: rest =>
    { (s.updLane l (fun k => { k with rxq := rest })).emit (.attachWord l (fl + hdr * 256) w) with
      laneAtt := s.laneAtt.upd l (fun a => { a with rxw := w, rxh := hdr, rxf := fl }) }

/-- An edge of the attach port of lane `l` (R89, R531, R532), whose inputs are TXD [255:0], TXH [263:256], TXV [264] and RX_RDY
[265] of `v`: a presented word that meets RX_RDY 0 is discarded and the next one is presented; the word that the port holds
enters the transmit queue, and the port takes the next one while TX_RDY is 1. An inactive port delivers and takes nothing (R91). -/
def attachEdge (l v : Nat) (s : State) : State :=
  if !attachOn s (l / 4) then { s with laneAtt := s.laneAtt.set l {} }
  else
    let a := s.laneAtt.get l
    let s1 := if bitOf a.rxf 0 && !bitOf v 265 then rxDrop l s else s
    let s2 := if a.txv then s1.updLane l (fun k => { k with txq := k.txq ++ [(a.tx % 2 ^ 256, a.tx / 2 ^ 256 % 256)] }) else s1
    let s3 := attachPresent l s2
    let take := bitOf v 264 && txReady s l
    { s3 with laneAtt := s3.laneAtt.upd l (fun a => { a with tx := if take then v % 2 ^ 264 else a.tx, txv := take }) }

/-- R531. Lane `j` of quad `q` receives a 256-bit word with its Ethernet headers, whether it carries an uncorrectable codeword, and the
numbers of FEC codewords corrected and uncorrectable. -/
def execLaneRxWord (q j w hdr ce ue : Nat) (err : Bool) (s : State) : Res :=
  .next (
    let l := 4 * q + j
    let near := s.fld F.LANE_CTL_LPBK l == 1 || s.fld F.LANE_CTL_LPBK l == 2
    if l < 192 && laneOn s l && !near then
      laneReceive l (w % 2 ^ 256) (hdr % 256) err ((s.bump F.FEC_CNT_FEC_CE_CNT l 0 ce).bump F.FEC_CNT_FEC_UE_CNT l 0 ue)
    else s)

/-! ### Transmitting (R529, R532, R537, R539, R544, R545) -/

/-- LANE_FILL four times. -/
def fillWord (s : State) (l : Nat) : Nat := s.fld F.LANE_FILL_FILL l * (1 + 2 ^ 64 + 2 ^ 128 + 2 ^ 192)

/-- The NoC domain has failed and not restarted, which forces outputs safe (Table 21.3). -/
def nocForced (s : State) : Bool := (s.domSw.get 0).failed && !domRuns s 0

/-- SPLL5 has failed and not come back, which forces outputs safe (Table 21.3). -/
def tbForced (s : State) : Bool := s.bit F.SPLL_STATUS_FAIL 0 5

/-- A clock input of a bay is bound to a line whose outputs are forced (R641). -/
def bayForced (s : State) (b : Nat) : Bool := (List.range 8).any (fun k => bayBound s b k && bitOf (s.fld F.LINE_FORCED_FORCED) (bayLine s b k))

/-- The clock of a lane's quad has failed: its reference, or its PLL (R545, R641). -/
def laneClockless (s : State) (l : Nat) : Bool := !bitOf (s.fld F.QREF_GOOD_GOOD) (quadRef s (l / 4)) || quadDead s (l / 4)

/-- The transmitter of a lane presents its safe state (R532, R545, R641, R665); lanes are off in a sleeping device (R677). -/
def laneSafe (s : State) (l : Nat) : Bool :=
  !s.bit F.LANE_CTL_EN l || quadOwner s (l / 4) == 0 || laneHeld s l || s.fld F.WARP_SYS_STATUS_STATE == 3 ||
  laneClockless s l || nocForced s || tbForced s ||
  (s.fld F.LANE_CTL_TX_SRC l == 0 && bayForced s (laneBay l)) || s.dev != .run || !s.vin

/-- The code of the safe state that a lane presents (R545): FILL acts as ELEC_IDLE without the quad's clock. -/
def safeCode (s : State) (l : Nat) : Nat :=
  let v := s.fld F.LANE_CTL_SAFE_TX l
  if v = 3 ∧ laneClockless s l then 0 else v

/-- The marker that lane `l` sends (R537); the lanes of a warp port are in their own order and in no group (R515, R566). -/
def markerWord (s : State) (l : Nat) : Nat :=
  let q0 := 0xA3C596F05C3A690F
  let q1 := (if quadOwner s (l / 4) = 3 then l % 4 else s.fld F.LANE_BOND_POS l + s.fld F.LANE_BOND_GROUP l * 256) +
    (s.lanes.get l).amCnt % 2 ^ 32 * 2 ^ 16
  q0 + q1 * 2 ^ 64 + q0 * 2 ^ 128 + (2 ^ 64 - 1 - q1) * 2 ^ 192

/-- 256 bits of the selected PRBS; the phase at which it starts is a free value. -/
def prbsWord (l : Nat) (s : State) : Nat × State :=
  let t := prbsTaps (s.fld F.LANE_CTL_PRBS l)
  let k := s.lanes.get l
  let (h0, s0) := if k.prTx % 2 ^ t.1 = 0 then (let r := s.fresh; (max 1 (r.1.toNat % 2 ^ t.1), r.2)) else (k.prTx, s)
  let (w, h) := (List.range 256).foldl (fun (a : Nat × Nat) i =>
    let b := prbsNext t a.2
    (a.1 + b * 2 ^ i, (a.2 * 2 + b) % 2 ^ 31)) (0, h0)
  (w, s0.updLane l (fun v => { v with prTx := h }))

/-- A fill word is sent for lack of data (R532). -/
def txUnder (l : Nat) (s : State) : State := laneEvt F.LANE_EVT_TXUNDER l (s.bump F.LANE_CNT_TX_UNDER_CNT l)

/-- Words of the transmit stream's buffer. -/
def txsWords (s : State) (l : Nat) : Nat := s.fld F.TXS_CTL_LEN l * 2

/-- The next word of the transmit stream (R544). -/
def txsNext (l : Nat) (s : State) : Nat × State :=
  let k := s.lanes.get l
  let n := txsWords s l
  if n = 0 || (k.txSend ≥ n && !s.bit F.TXS_CTL_LOOP l) then (fillWord s l, s)
  else
    let s1 := s.updLane l (fun v => { v with txSend := v.txSend + 1, txBuf := v.txBuf.filter (fun e => e.1 != k.txSend) })
    let s2 := if k.txSend + 1 = n && !s.bit F.TXS_CTL_LOOP l then s1.setBit F.TXS_CTL_DONE l else s1
    match k.txBuf.find? (fun e => e.1 == k.txSend) with
    | some (_, some w) => (w, s2)
    | some (_, none) => (fillWord s l, s2)
    | none => (fillWord s l, txUnder l s2)

/-- The word of a lane's source in this word time: kind and word (Out.laneWord), and the state after. -/
def txWord (l : Nat) (s : State) : Nat × Nat × State :=
  let k := s.lanes.get l
  let eth := s.bit F.LANE_CTL_PCS l
  if s.fld F.LANE_CTL_LPBK l = 3 then
    (match k.far with | some w => (0, w, s) | none => (1, fillWord s l, s))
  else if amOn s l && k.amTx + 1 == amPeriod s l then (3, markerWord s l, s.updLane l (fun v => { v with amTx := 0, amCnt := v.amCnt + 1 }))
  else
    let s1 := if amOn s l then s.updLane l (fun v => { v with amTx := v.amTx + 1 }) else s
    match s.fld F.LANE_CTL_TX_SRC l with
    | 0 =>
      if laneSt s l ≠ lnACTIVE then (1, fillWord s l, s1)
      else match k.txq with
        | e :: rest => (0, e.1 + e.2 * 2 ^ 256, s1.updLane l (fun v => { v with txq := rest }))
        | [] => (if eth then 4 else 1, if eth then 0 else fillWord s l, txUnder l s1)
    | 1 => let r := prbsWord l s1; (0, r.1, r.2)
    | 2 => let r := txsNext l s1; (0, r.1, r.2)
    | _ => (1, fillWord s l, s1)

/-- Lane `l` sends its training word, which counts once it carries ACK = 1 (R524). -/
def trainTx (l : Nat) (s : State) : State :=
  trainCheck l ((s.emit (.laneWord l 2 (trainWord s l))).updLane l (fun k => if 8 ≤ k.trSame then { k with trAckTx := k.trAckTx + 1 } else k))

/-- The transmitters of the lanes of quad `q` are silent under a warp port (Table 21.3, R676). -/
def quadSilent (s : State) (q : Nat) : Bool :=
  nocForced s || tbForced s || quadDead s q || !bitOf (s.fld F.QREF_GOOD_GOOD) (quadRef s q) || s.dev == .deepSleep || s.dev == .off || !s.vin

/-- A word time of a lane of a warp port (R566): its training word, a marker in its turn, or a part of the flit that the port sends
(`WARP_FLIT_SEND`). -/
def warpTx (l : Nat) (s : State) : State :=
  if quadSilent s (l / 4) || !laneOn s l || laneSt s l == lnOFF || laneSt s l == lnPLL || laneSt s l == lnFAILED then s
  else if laneSt s l = lnTRAIN then trainTx l s
  else if (s.lanes.get l).amTx + 1 = amPeriod s l then
    (s.emit (.laneWord l 3 (markerWord s l))).updLane l (fun v => { v with amTx := 0, amCnt := v.amCnt + 1 })
  else s.updLane l (fun v => { v with amTx := v.amTx + 1 })

/-- R532. A word time of the transmitter of lane `j` of quad `q`. -/
def execLaneTxWord (q j : Nat) (s : State) : Res :=
  .next (
    let l := 4 * q + j
    if 192 ≤ l || quadOwner s (l / 4) = 2 then s
    else if quadOwner s (l / 4) = 3 then warpTx l s
    else if laneSafe s l then s.emit (.laneWord l 5 (safeCode s l))
    else
      if laneSt s l = lnTRAIN then trainTx l s
      else
        let (kind, w, s1) := txWord l s
        let s2 := s1.emit (.laneWord l kind w)
        if s.fld F.LANE_CTL_LPBK l = 1 ∨ s.fld F.LANE_CTL_LPBK l = 2 then laneReceive l (w % 2 ^ 256) (w / 2 ^ 256) false s2 else s2)

/-- R544. Lane `l` reads ahead the next 64 bytes of its transmit stream. -/
def execTxsRead (l : Nat) (s : State) : Res :=
  .next (
    let k := s.lanes.get l
    let n := txsWords s l
    if !(l < 192 && quadOwner s (l / 4) == 1 && s.bit F.LANE_CTL_EN l && s.fld F.LANE_CTL_TX_SRC l == 2) || n = 0 ||
      32 ≤ k.txRead - k.txSend || (n ≤ k.txRead && !s.bit F.TXS_CTL_LOOP l) then s
    else
      (s.updLane l (fun v => { v with txRead := v.txRead + 2 })).request (0x400 + l) (s.fld F.DEV_ID)
        (s.fld F.TXS_BASE_BASE l * 64 + 32 * (k.txRead % n)) opREAD 63 [] (.txs l k.txRead) (relaxed := true))

/-- The read of words `i` and `i + 1` of a transmit stream is answered. -/
def txsArrived (l i st : Nat) (bad : Bool) (d : List Byte) (s : State) : State :=
  let err := st ≠ 0 || bad
  let w (j : Nat) : Option Nat := if err then none else some (ofBytesLE ((d.drop (32 * j)).take 32))
  let s1 := s.updLane l (fun k => { k with txBuf := k.txBuf ++ ([(i, w 0), (i + 1, w 1)].filter (fun e => k.txSend ≤ e.1)) })
  if err then s1.bump F.TXS_ERR_CNT_COUNT l else s1

end Sys2Proof.Machine
end

