-- ==== Sys2Proof/Machine/VireloMem.lean ====
section
/-!
DEFINITION. Virelo loads, stores, atomics, cache maintenance, SPILL and FILL (Tables 7.10 to 7.13, R203 to R206,
R211, R212, R225, R226, R249).
-/
namespace Sys2Proof.Machine

/-- The address rs1 + imm. -/
def vea (s : State) (c rs1 : Nat) (imm : BitVec 16) : Word := s.vget c rs1 + imm.signExtend 64

/-- R225. LD: 8 bytes. -/
def execLd (c rd rs1 : Nat) (imm : BitVec 16) (s : State) : Res := vop c 0 (fun s => vload c rd 8 false (vea s c rs1 imm) s) s
/-- R225. LW: 4 bytes, sign-extended. -/
def execLw (c rd rs1 : Nat) (imm : BitVec 16) (s : State) : Res := vop c 0 (fun s => vload c rd 4 true (vea s c rs1 imm) s) s
/-- R225. LWU: 4 bytes, zero-extended. -/
def execLwu (c rd rs1 : Nat) (imm : BitVec 16) (s : State) : Res := vop c 0 (fun s => vload c rd 4 false (vea s c rs1 imm) s) s
/-- R225. LH: 2 bytes, sign-extended. -/
def execLh (c rd rs1 : Nat) (imm : BitVec 16) (s : State) : Res := vop c 0 (fun s => vload c rd 2 true (vea s c rs1 imm) s) s
/-- R225. LHU: 2 bytes, zero-extended. -/
def execLhu (c rd rs1 : Nat) (imm : BitVec 16) (s : State) : Res := vop c 0 (fun s => vload c rd 2 false (vea s c rs1 imm) s) s
/-- R225. LB: 1 byte, sign-extended. -/
def execLb (c rd rs1 : Nat) (imm : BitVec 16) (s : State) : Res := vop c 0 (fun s => vload c rd 1 true (vea s c rs1 imm) s) s
/-- R225. LBU: 1 byte, zero-extended. -/
def execLbu (c rd rs1 : Nat) (imm : BitVec 16) (s : State) : Res := vop c 0 (fun s => vload c rd 1 false (vea s c rs1 imm) s) s

/-- R253. SD: 8 bytes. -/
def execSd (c rs2 rs1 : Nat) (imm : BitVec 16) (s : State) : Res :=
  vop c 0 (fun s => vstore c 8 (s.vget c rs2).toNat (vea s c rs1 imm) s) s
/-- R253. SW: 4 bytes. -/
def execSw (c rs2 rs1 : Nat) (imm : BitVec 16) (s : State) : Res :=
  vop c 0 (fun s => vstore c 4 (s.vget c rs2).toNat (vea s c rs1 imm) s) s
/-- R253. SH: 2 bytes. -/
def execSh (c rs2 rs1 : Nat) (imm : BitVec 16) (s : State) : Res :=
  vop c 0 (fun s => vstore c 2 (s.vget c rs2).toNat (vea s c rs1 imm) s) s
/-- R253. SB: 1 byte. -/
def execSb (c rs2 rs1 : Nat) (imm : BitVec 16) (s : State) : Res :=
  vop c 0 (fun s => vstore c 1 (s.vget c rs2).toNat (vea s c rs1 imm) s) s

/-- R226. SWAP. -/
def execSwap (c rd rs1 rs2 mbz : Nat) (s : State) : Res := vop c mbz (vatomic c rd rs1 rs2 0) s
/-- R226. FADD. -/
def execFadd (c rd rs1 rs2 mbz : Nat) (s : State) : Res := vop c mbz (vatomic c rd rs1 rs2 1) s
/-- R226. CAS. -/
def execCas (c rd rs1 rs2 mbz : Nat) (s : State) : Res := vop c mbz (vatomic c rd rs1 rs2 2) s

/-! ### Cache maintenance (Table 7.12) -/

/-- The lines of core `c`'s data cache that an operation acts on: those of an address, under any key ID, or all. -/
def dlinesOf (s : State) (c : Nat) (a : Option Word) : List DLine :=
  match a with
  | none => (s.vc.get c).dcache
  | some x =>
    match vresolve s x with
    | .noc dev l => (s.vc.get c).dcache.filter (fun m => m.a == sysAddr dev l / 64 * 64)
    | _ => []

/-- Writes back the dirty lines an operation names and, when `inv`, invalidates; it completes when the write-backs are
acknowledged. -/
def vcacheWb (c : Nat) (a : Option Word) (inv : Bool) (s : State) : State :=
  let ls := dlinesOf s c a
  let dirty := ls.filter (·.dirty)
  let s1 := if inv then s.updVc c (fun k => { k with dcache := k.dcache.filter (fun m => !(ls.contains m && !m.dirty)) }) else s
  if dirty.isEmpty then vretire c s1
  else
    let s2 := s1.updVc c (fun k => { k with wait := .maint dirty.length (a.getD 0).toNat inv 0 })
    forL dirty (fun l s => s.request (initCc c) (l.a / 2 ^ 52) (l.a % 2 ^ 52) opWRITE 63 l.data (.ccWb c) (keyid := l.key)) s2

/-- Invalidates lines of the data cache, discarding dirty data. -/
def vcacheInv (c : Nat) (a : Option Word) (s : State) : State :=
  let ls := dlinesOf s c a
  vretire c (s.updVc c (fun k => { k with dcache := k.dcache.filter (fun m => !ls.contains m) }))

/-- Invalidates lines of the instruction cache, under any key ID. -/
def vicacheInv (c : Nat) (a : Option Word) (s : State) : State :=
  match a with
  | none => vretire c (s.updVc c (fun k => { k with icache := [] }))
  | some x =>
    match vresolve s x with
    | .noc dev l => vretire c (s.updVc c (fun k => { k with icache := k.icache.filter (fun m => m.1 != sysAddr dev l / 64 * 64) }))
    | _ => vretire c s

/-- R205. DCWB of the line at rs1 + imm. -/
def execDcwb (c rs1 : Nat) (imm : BitVec 16) (s : State) : Res :=
  vop c 0 (vsup c (fun s => vcacheWb c (some (vea s c rs1 imm)) false s)) s
/-- R205. DCINV. -/
def execDcinv (c rs1 : Nat) (imm : BitVec 16) (s : State) : Res :=
  vop c 0 (vsup c (fun s => vcacheInv c (some (vea s c rs1 imm)) s)) s
/-- R205. DCWBI. -/
def execDcwbi (c rs1 : Nat) (imm : BitVec 16) (s : State) : Res :=
  vop c 0 (vsup c (fun s => vcacheWb c (some (vea s c rs1 imm)) true s)) s
/-- R262. ICINV. -/
def execIcinv (c rs1 : Nat) (imm : BitVec 16) (s : State) : Res :=
  vop c 0 (vsup c (fun s => vicacheInv c (some (vea s c rs1 imm)) s)) s
/-- R205. DCWB.ALL. -/
def execDcwbAll (c mbz : Nat) (s : State) : Res := vop c mbz (vsup c (vcacheWb c none false)) s
/-- R205. DCINV.ALL. -/
def execDcinvAll (c mbz : Nat) (s : State) : Res := vop c mbz (vsup c (vcacheInv c none)) s
/-- R205. DCWBI.ALL. -/
def execDcwbiAll (c mbz : Nat) (s : State) : Res := vop c mbz (vsup c (vcacheWb c none true)) s
/-- R262. ICINV.ALL. -/
def execIcinvAll (c mbz : Nat) (s : State) : Res := vop c mbz (vsup c (vicacheInv c none)) s

/-! ### SPILL and FILL (R212, R249) -/

/-- The window that SPILL stores: the oldest resident one. -/
def oldestWindow (s : State) (c : Nat) : Nat := (s.fld F.WSTATE_CWP c + 12 - s.fld F.WSTATE_WDEPTH c) % 12

/-- The window that FILL loads: the one below the oldest. -/
def belowWindow (s : State) (c : Nat) : Nat := (s.fld F.WSTATE_CWP c + 23 - s.fld F.WSTATE_WDEPTH c) % 12

/-- Physical register `k` of window `w`. -/
def winReg (w k : Nat) : Nat := 16 + w * 12 + k

/-- SPILL has stored its window: WDEPTH falls by 1. -/
def vspillDone (c a : Nat) (s : State) : State := vdone c a 96 false true (s.setFld F.WSTATE_WDEPTH c 0 (s.fld F.WSTATE_WDEPTH c - 1))

/-- FILL has its 12 words: they go to the window and WDEPTH rises by 1. -/
def vfillDone (c a : Nat) (ws : List (Nat × Nat)) (s : State) : State :=
  let w := belowWindow s c
  let s1 := forL ws (fun p s => s.updVc c (fun k => { k with regs := k.regs.set (winReg w p.1) (BitVec.ofNat 64 p.2) })) s
  vdone c a 96 true false (s1.setFld F.WSTATE_WDEPTH c 0 (s.fld F.WSTATE_WDEPTH c + 1))

/-- The address of access `k` of a SPILL or FILL. -/
def winAddr (a : Word) (k : Nat) : Word := a + BitVec.ofNat 64 (8 * k)

/-- The first of the 12 accesses that its address does not allow (R201, R218). -/
def winBad (s : State) (c : Nat) (store : Bool) (a : Word) : Option Word :=
  ((List.range 12).map (winAddr a)).find? (fun x =>
    match vresolve s x with
    | .bad => true
    | .lim off => store && !limWritable s c off
    | _ => false)

/-- The first cached line the 12 accesses need and do not find. -/
def winMiss (s : State) (c : Nat) (a : Word) : Option (Nat × Nat) :=
  ((List.range 12).map (winAddr a)).findSome? (fun x =>
    match vresolve s x with
    | .noc dev l => if vcacheable s c x && (dline s c (sysAddr dev l) (s.fld F.KEYATTR c)).isNone then some (dev, l / 64 * 64) else none
    | _ => none)

/-- The accesses that go to the NoC as requests of their own. -/
def winRemote (s : State) (c : Nat) (a : Word) : List (Nat × Nat × Nat) :=
  (List.range 12).filterMap (fun k =>
    match vresolve s (winAddr a k) with
    | .noc dev l => if vcacheable s c (winAddr a k) then none else some (k, dev, l)
    | _ => none)

/-- Access `k` of a SPILL to the private memories or a cached line. -/
def spillLocal (c : Nat) (a : Word) (k : Nat) (s : State) : State :=
  let v := ((s.vc.get c).regs.get (winReg (oldestWindow s c) k)).toNat
  let x := winAddr a k
  match vresolve s x with
  | .lim off => s.wrBytes (aPriv c off) (bytesLE 8 v)
  | .ldm off => s.wrBytes (aPriv c (0x1_0000 + off)) (bytesLE 8 v)
  | .noc dev l =>
    if vcacheable s c x then
      match dline s c (sysAddr dev l) (s.fld F.KEYATTR c) with
      | some ln => s.updVc c (fun q => { q with dcache := putLine q.dcache (ln.write l (bytesLE 8 v)) })
      | none => s
    else s
  | .bad => s

/-- The words that a FILL finds in the private memories or cached lines. -/
def fillLocal (s : State) (c : Nat) (a : Word) : List (Nat × Nat) :=
  (List.range 12).filterMap (fun k =>
    let x := winAddr a k
    match vresolve s x with
    | .lim off => some (k, ofBytesLE ((List.range 8).map (fun j => limByte s c (off + j))))
    | .ldm off => some (k, ofBytesLE (s.rdBytes (aPriv c (0x1_0000 + off)) 8))
    | .noc dev l =>
      if vcacheable s c x then (dline s c (sysAddr dev l) (s.fld F.KEYATTR c)).map (fun ln => (k, ofBytesLE (ln.bytes l 8))) else none
    | .bad => none)

/-- Whether any of the 12 accesses is in the LDM. -/
def winInLdm (s : State) (a : Word) : Bool :=
  (List.range 12).any (fun k => match vresolve s (winAddr a k) with | .ldm _ => true | _ => false)

/-- SPILL or FILL at an address that has been checked: a missing cached line is fetched first; then the local accesses
are made and the others requested. -/
def vwindow (c : Nat) (fill : Bool) (a : Word) (s : State) : State :=
  match winMiss s c a with
  | some (dev, l) => vrequest c dev l opREAD 63 [] (.ccRead c) 0 (s.updVc c (fun k => { k with wait := .fillWin fill a.toNat }))
  | none =>
    let rem := winRemote s c a
    if fill then
      let ws := fillLocal s c a
      if rem.isEmpty then vfillDone c a.toNat ws s
      else forL rem (fun r s => vrequest c r.2.1 r.2.2 opREAD 7 [] (.ccWin c r.1) 0 s)
        (s.updVc c (fun k => { k with wait := .fill rem.length 0 a.toNat ws }))
    else if winInLdm s a && vstoresOut s c then s.updVc c (fun k => { k with wait := .heldSpill a.toNat })
    else
      let s1 := forN 12 (fun k s => spillLocal c a k s) s
      if rem.isEmpty then vspillDone c a.toNat s1
      else forL rem (fun r s => vrequest c r.2.1 r.2.2 opWRITE 7
          (bytesLE 8 ((s.vc.get c).regs.get (winReg (oldestWindow s c) r.1)).toNat) (.ccWin c r.1) 0 s)
        (s1.updVc c (fun k => { k with wait := .spill rem.length 0 a.toNat }))

/-- SPILL or FILL (R212): ILLEGAL at the end of the depth, PRIV at task level, then the checks of R203 and R201. -/
def vspillFill (c : Nat) (fill : Bool) (rs1 : Nat) (s : State) : State :=
  let acc := if fill then 2 else 3
  let d := s.fld F.WSTATE_WDEPTH c
  if (fill && d == 10) || (!fill && d == 0) then villegal c s
  else vsup c (fun s =>
    let a := s.vget c rs1
    if a.toNat % 8 ≠ 0 then vtrapAt c cALIGN acc a 0 s
    else match winBad s c (!fill) a with
      | some x => vtrapAt c cADDRESS acc x 0 s
      | none => vwindow c fill a s) s

/-- R212. SPILL. -/
def execSpill (c rs1 mbz : Nat) (s : State) : Res := vop c mbz (vspillFill c false rs1) s
/-- R212. FILL. -/
def execFill (c rs1 mbz : Nat) (s : State) : Res := vop c mbz (vspillFill c true rs1) s

end Sys2Proof.Machine
end

