-- ==== Sys2Proof/Machine/VireloCtl.lean ====
section
/-!
DEFINITION. Virelo control transfer and windows, system registers, fences, WAIT and ERET, and what happens to a core
between its instructions (Tables 7.4, 7.13, 7.14, 8.1, 8.3, 25.4; R208 to R220, R227, R233, R234, R238 to R244, R254,
R255, R737 to R739).
-/
namespace Sys2Proof.Machine

/-! ### Control transfer and windows -/

/-- A displacement of `w` bits in words, as a byte offset (R222). -/
def dispBytes {w : Nat} (d : BitVec w) : Word := d.signExtend 64 <<< 2

/-- The address of the PC plus a displacement. -/
def vrel {w : Nat} (s : State) (c : Nat) (d : BitVec w) : Word := s.vpc c + dispBytes d

/-- The register number of W11, which CALL and CALLR write (R208). -/
def rW11 : Nat := 27

/-- R227. Bcc: a branch on the flags; the reserved condition is ILLEGAL. -/
def execBcc (c cond : Nat) (disp : BitVec 22) (s : State) : Res :=
  vop c 0 (fun s =>
    match condHolds cond (s.fld F.FLAGS_NZCV c) with
    | none => villegal c s
    | some true => vretireTo c (vrel s c disp) s
    | some false => vretire c s) s

/-- R222. BZ. -/
def execBz (c rs1 : Nat) (imm : BitVec 16) (mbz : Nat) (s : State) : Res :=
  vop c mbz (fun s => if s.vget c rs1 = 0 then vretireTo c (vrel s c imm) s else vretire c s) s

/-- R222. BNZ. -/
def execBnz (c rs1 : Nat) (imm : BitVec 16) (mbz : Nat) (s : State) : Res :=
  vop c mbz (fun s => if s.vget c rs1 = 0 then vretire c s else vretireTo c (vrel s c imm) s) s

/-- R208. CALL: W11 = PC + 4. -/
def execCall (c : Nat) (disp : BitVec 26) (s : State) : Res :=
  vop c 0 (fun s => vretireTo c (vrel s c disp) (s.vset c rW11 (s.vpc c + 4))) s

/-- R222. JMP. -/
def execJmp (c : Nat) (disp : BitVec 26) (s : State) : Res :=
  vop c 0 (fun s => vretireTo c (vrel s c disp) s) s

/-- R208. CALLR: the target is read before W11 is written. -/
def execCallr (c rs1 mbz : Nat) (s : State) : Res :=
  vop c mbz (fun s => vretireTo c (s.vget c rs1) (s.vset c rW11 (s.vpc c + 4))) s

/-- R202. JR. -/
def execJr (c rs1 mbz : Nat) (s : State) : Res :=
  vop c mbz (fun s => vretireTo c (s.vget c rs1) s) s

/-- R211. ENTER. -/
def execEnter (c mbz : Nat) (s : State) : Res :=
  vop c mbz (fun s =>
    if s.fld F.WSTATE_WDEPTH c < 10 then
      vretire c ((s.setFld F.WSTATE_CWP c 0 ((s.fld F.WSTATE_CWP c + 1) % 12)).setFld F.WSTATE_WDEPTH c 0 (s.fld F.WSTATE_WDEPTH c + 1))
    else vtrapAt c cWINOVF 0 0 0 s) s

/-- R211. LEAVE. -/
def execLeave (c mbz : Nat) (s : State) : Res :=
  vop c mbz (fun s =>
    if 0 < s.fld F.WSTATE_WDEPTH c then
      vretire c ((s.setFld F.WSTATE_CWP c 0 ((s.fld F.WSTATE_CWP c + 11) % 12)).setFld F.WSTATE_WDEPTH c 0 (s.fld F.WSTATE_WDEPTH c - 1))
    else vtrapAt c cWINUNF 0 0 0 s) s

/-! ### System registers -/

/-- What a system-register number names: a register of Tables 7.4 and 8.3 with its copy, or a comparator register of
Table 25.5 with the comparator. -/
def vsrFind (s : State) (c n : Nat) : Option (Reg × Nat) :=
  if 0x60 ≤ n ∧ n < 0x80 then
    let k := s.fld F.DCMP_SEL c
    if n = 0x60 then some (R.DCMP_SEL, 0)
    else if n = 0x61 then some (R.DCMP_LO, k)
    else if n = 0x62 then some (R.DCMP_HI, k)
    else if n = 0x63 then some (R.DCMP_CTL, k)
    else if n = 0x64 then some (R.DCMP_CNT, k)
    else if n = 0x68 then some (R.DCTL, 0)
    else if n = 0x69 then some (R.DSTATUS, 0)
    else none
  else findReg (regsOf .vsr) n

/-- System registers that task level may read (R215): PSTATE, FLAGS, CTXID, CYCLE, RETIRED, CORE_ID. -/
def vsrTaskRead (n : Nat) : Bool := n == 0 || n == 1 || n == 2 || n == 0x30 || n == 0x31 || n == 0x38

/-- A field of a system register as it reads: CORE_ID is the core's index and ARMED is what R734 gives. -/
def vsrField (s : State) (c : Nat) (f : Field) (k : Nat) : Nat :=
  if f.id = F.CORE_ID_CORE.id then c
  else if f.id = F.DSTATUS_ARMED.id then cmpArmedMask s c
  else s.fld f c k

/-- The value that MFSR reads. CYCLE is 0 at a core reset and moves on by the cycles that have passed since it was last read: a free
value, as the model has no instruction times (log entry 28). -/
def vsrRead (s : State) (c n : Nat) (r : Reg) (i : Nat) : Word × State :=
  if n = 0x30 then
    let (g, s1) := s.fresh
    let v := BitVec.ofNat 64 (s.fld F.CYCLE c) + g
    (v, s1.setFld F.CYCLE c 0 v.toNat)
  else (BitVec.ofNat 64 (r.pack i (vsrField s c)), s)

/-- A write of a system-register field (R219, R220, R246, R736): an out-of-range CWP or WDEPTH leaves its field, the
comparator registers and DCTL are kept while DCTL.OWN is 1, and only the port writes OWN. -/
def vsrWriteField (c n : Nat) (f : Field) (k bits : Nat) (s : State) : State :=
  if f.id = F.WSTATE_CWP.id && bits > 11 then s
  else if f.id = F.WSTATE_WDEPTH.id && bits > 10 then s
  else if f.id = F.DCTL_OWN.id then s
  else if s.bit F.DCTL_OWN c && 0x61 ≤ n && n ≤ 0x68 then s
  else writeField 0 c (n < 0x60 || hwWritable f) f k bits s

/-- R219. MFSR: an unknown number is ILLEGAL, and at task level a number outside the task set takes PRIV (R214). -/
def execMfsr (c rd : Nat) (sr : BitVec 12) (mbz : Nat) (s : State) : Res :=
  vop c mbz (fun s =>
    match vsrFind s c sr.toNat with
    | none => villegal c s
    | some (r, i) =>
      if s.bit F.PSTATE_TASK c && !vsrTaskRead sr.toNat then vtrapAt c cPRIV 0 0 0 s
      else
        let (v, s1) := vsrRead s c sr.toNat r i
        vretire c (s1.vset c rd v)) s

/-- R219. MTSR: at task level only FLAGS may be written (R215). -/
def execMtsr (c : Nat) (sr : BitVec 12) (rs1 mbz : Nat) (s : State) : Res :=
  vop c mbz (fun s =>
    match vsrFind s c sr.toNat with
    | none => villegal c s
    | some (r, i) =>
      if s.bit F.PSTATE_TASK c && sr.toNat != 1 then vtrapAt c cPRIV 0 0 0 s
      else vretire c (r.unpack i (s.vget c rs1).toNat (vsrWriteField c sr.toNat) s)) s

/-! ### Fences, WAIT, ERET, TRAP -/

/-- Whether something that ends the WAIT state is pending at core `c` (R233, R234, R254, R737). -/
def vwakes (s : State) (c : Nat) : Bool :=
  (irqPresented s (tgtCc c)).isSome || (s.vc.get c).sbus || (s.vc.get c).dbg != 0

/-- The core stops in the WAIT state; MODE is read (R233, R235). -/
def venterWait (c : Nat) (s : State) : State :=
  let m := s.fld F.PWR_MODE_MODE
  { s.setFld F.CC_STATUS_STATE c 0 2 with deepWait := m == 1 || m == 2 || m == 3 }

/-- An instruction that waited for earlier accesses goes on when none of them is out any more (R233, R255, R258). -/
def vdrained (c : Nat) (s : State) : State :=
  if vstoresOut s c then s
  else match (s.vc.get c).wait with
    | .drain k =>
      let s1 := vretire c s
      if k = 3 && !vwakes s1 c then venterWait c s1 else s1
    | .heldStore w v a =>
      match vresolve s (BitVec.ofNat 64 a) with
      | .ldm off => vldmStore c w v a off s
      | _ => s
    | .heldAtomic rd kind a cmp op =>
      match vresolve s (BitVec.ofNat 64 a) with
      | .ldm off => vldmAtomic c rd kind a off cmp op s
      | _ => s
    | .heldSpill a => vwindow c false (BitVec.ofNat 64 a) s
    | .lexitDrain v => s.updVc c (fun k => { k with wait := .lexit v })
    | _ => s

/-- Waits until every earlier access of the core has completed, then goes on as `vdrained` gives. -/
def vdrain (c k : Nat) (s : State) : State := vdrained c (s.updVc c (fun v => { v with wait := .drain k }))

/-- R258. FENCE.SL. -/
def execFenceSl (c mbz : Nat) (s : State) : Res := vop c mbz (vdrain c 0) s
/-- R255. FENCE. -/
def execFence (c mbz : Nat) (s : State) : Res := vop c mbz (vdrain c 1) s
/-- R261. SYNC.I. -/
def execSyncI (c mbz : Nat) (s : State) : Res := vop c mbz (vdrain c 2) s
/-- R233. WAIT. -/
def execWait (c mbz : Nat) (s : State) : Res := vop c mbz (vsup c (vdrain c 3)) s

/-- ERET leaves the monitor when MONEXIT is 1 (R739). -/
def vmonExit (c : Nat) (s : State) : State :=
  if s.bit F.DCTL_MONEXIT c then
    ((s.clrFld F.DCTL_MON c).clrFld F.DCTL_MONEXIT c).updVc c (fun k => { k with stepArmed := s.bit F.DCTL_STEP c })
  else s

/-- R244. ERET: PSTATE[2:0] from TPSTATE, TW to 0, the PC to TPC. -/
def execEret (c mbz : Nat) (s : State) : Res :=
  vop c mbz (vsup c (fun s =>
    let s1 := vretireTo c (BitVec.ofNat 64 (s.fld F.TPC c)) s
    let s2 := ((s1.setFld F.PSTATE_TRAPDZ c 0 (s.fld F.TPSTATE_TRAPDZ c)).setFld F.PSTATE_IE c 0 (s.fld F.TPSTATE_IE c)).setFld
      F.PSTATE_TASK c 0 (s.fld F.TPSTATE_TASK c)
    vmonExit c (s2.clrFld F.PSTATE_TW c))) s

/-- R240. TRAP: SWTRAP after the instruction completes, with the next instruction as return address. -/
def execTrap (c : Nat) (n : BitVec 16) (mbz : Nat) (s : State) : Res :=
  vop c mbz (fun s => vtrap c cSWTRAP 0 (s.vpc c) (s.vpc c + 4) 0 n.toNat (vretire c s)) s

/-! ### Between instructions -/

/-- The core waits for nothing, or in a loom instruction that a trap may interrupt (R277, R300). -/
def vpaused (w : VWait) : Bool :=
  match w with
  | .none | .lwait _ _ | .lnext _ | .lexit _ => true
  | _ => false

/-- Core `c` is running, between two instructions or waiting in a loom instruction, outside the trap window (R242). -/
def vbetween (s : State) (c : Nat) : Bool :=
  c < 8 && s.dev = .run && domRuns s 1 && s.fld F.CC_STATUS_STATE c == 1 && vpaused (s.vc.get c).wait && !s.bit F.PSTATE_TW c

/-- R242, R655. An interrupt is taken: the source presented is claimed, 0xFFFF when none is. -/
def execCcTakeInterrupt (c : Nat) (s : State) : Res :=
  .next (if vbetween s c && s.bit F.PSTATE_IE c && !(s.vc.get c).sbus && (s.vc.get c).dbg == 0 then
    let (n, s1) := irqClaim (tgtCc c) s
    vtrapEntry c cINTERRUPT 0 (s.vpc c) 0 n s1
  else s)

/-- R254. A pending SBUS is taken. -/
def execCcTakeSbus (c : Nat) (s : State) : Res :=
  .next (if vbetween s c && (s.vc.get c).sbus then
    vtrapEntry c cSBUS 0 (s.vpc c) (BitVec.ofNat 64 (s.fld F.SERR_ADDR_ADDR c)) (s.fld F.SERR_CODE c)
      (s.updVc c (fun k => { k with sbus := false }))
  else s)

/-- The debug event that is left after one is taken: a request that still stands. -/
def vdbgLeft (s : State) (c kind : Nat) : Nat := if kind != 1 && s.bit F.DBG_REQ_REQ c then 0x1000 else 0

/-- R738. A pending debug event is taken as a DEBUG trap. -/
def execCcTakeDebug (c : Nat) (s : State) : Res :=
  .next (if vbetween s c && !(s.vc.get c).sbus && (s.vc.get c).dbg != 0 then
    let k := s.vc.get c
    let kind := k.dbg / 0x1000
    let addr := if kind = 2 ∨ kind = 3 then k.dbgAddr else 0
    let s1 := s.updVc c (fun v => { v with dbg := vdbgLeft s c kind, dbgAddr := 0 })
    let s2 := s1.setBit F.DCTL_MON c
    let s3 := if kind = 1 then s2.clrFld F.DBG_REQ_REQ c else s2
    let s4 := if kind = 2 then s3.setBit F.DSTATUS_SKIP c else s3
    let s5 := if kind = 4 then s4.clrFld F.DCTL_STEP c else s4
    vtrapEntry c cDEBUG 0 (s.vpc c) (BitVec.ofNat 64 addr) k.dbg s5
  else s)

/-- R234. A core in WAIT wakes; CC0 stays in the WAIT of a failed boot (R267). -/
def execCcWake (c : Nat) (s : State) : Res :=
  .next (if c < 8 && s.dev = .run && !(s.vc.get c).romWait && s.fld F.CC_STATUS_STATE c == 2 && vwakes s c then s.setFld F.CC_STATUS_STATE c 0 1 else s)

/-! ### Start and reset -/

/-- CC_CTL.START (R238): a core in RESET_HELD starts at CC_ENTRY, at supervisor level; ignored while it is unusable (R701) or under test. -/
def vstart (c : Nat) (s : State) : State :=
  if s.fld F.CC_STATUS_STATE c = 0 && !ccDead s c && !underTest s 6 c then
    ((s.updVc c (fun k => { k with pc := BitVec.ofNat 64 (s.fld F.CC_ENTRY_ENTRY c * 4) })).clrFld F.PSTATE_TASK c).setFld F.CC_STATUS_STATE c 0 1
  else s

/-- The system registers that a core reset clears (R239, R246): all of Tables 7.4 and 8.3. -/
def vsrCleared : List Field := (regsOf .vsr).flatMap (·.fields)

/-- CC_CTL.RESET (R239): the core is held, its registers read 0 and TBASE the LIM base, both caches are invalid, a
pending debug event is cleared (R737), and responses to requests already issued are discarded. -/
def vreset (c : Nat) (s : State) : State :=
  let s1 := forL vsrCleared (fun f s => forN 8 (fun i s => s.clrFld f c i) s) s
  let s2 := s1.setFld F.TBASE_BASE c 0 (0x2008_00E0_0000_0000 / 2048)
  let s3 := (s2.clrFld F.DBG_REQ_REQ c).setFld F.CC_STATUS_STATE c 0 0
  { s3 with vc := s3.vc.set c {},
            reqs := s3.reqs.map (fun r => if r.pkt.init = initCc c then { r with why := .dropped } else r) }

/-- R238. CC_CTL.START. -/
def execCcStart (c : Nat) (s : State) : Res := .next (if c < 8 then vstart c s else s)

end Sys2Proof.Machine
end

