-- ==== Sys2Proof/Machine/Loom.lean ====
section
/-!
DEFINITION. Loom instructions (chapter 9): descriptors, command slots and tickets, issue, LWAIT and LSTAT, and how a command
ends. What a command does when it runs is in the modules that follow; `Machine/LoomRun.lean` starts them.
-/
namespace Sys2Proof.Machine

/-! ### Tickets and commands -/

/-- Slot, generation and core of a ticket (R271). -/
def tkSlot (t : Nat) : Nat := t % 16
def tkGen (t : Nat) : Nat := t / 16 % 4096
def tkCore (t : Nat) : Nat := t / 65536 % 8

/-- The key of a ticket's slot. -/
def tkKey (t : Nat) : Nat := 16 * tkCore t + tkSlot t

/-- The ticket names the present use of its slot. -/
def tkLive (s : State) (t : Nat) : Bool :=
  t < 2 ^ 19 && (s.slots.get (tkKey t)).used && (s.slots.get (tkKey t)).gen == tkGen t

/-- The command with a ticket. -/
def cmdOf (s : State) (t : Nat) : Option LCmd := s.cmds.find? (fun c => c.ticket == t)

/-- Changes the command with a ticket. -/
def updCmd (t : Nat) (f : LCmd → LCmd) (s : State) : State :=
  { s with cmds := s.cmds.map (fun c => if c.ticket = t then f c else c) }

/-- Fields of a descriptor (Tables 9.3 and 9.4). -/
def LCmd.opc (c : LCmd) : Nat := fieldLE c.desc 0 1
def LCmd.flag (c : LCmd) (n : Nat) : Bool := bitOf (fieldLE c.desc 1 1) n
def LCmd.atPick (c : LCmd) : Bool := c.flag 1
def LCmd.pin (c : LCmd) : Bool := c.flag 3
def LCmd.pick (c : LCmd) : Nat := fieldLE c.desc 8 8
def LCmd.f (c : LCmd) (o n : Nat) : Nat := fieldLE c.desc o n
def LCmd.core (c : LCmd) : Nat := tkCore c.ticket

/-- Codes of fn (Table 9.1). -/
def fLLOAD : Nat := 0x00
def fLREL : Nat := 0x01
def fLHOLD : Nat := 0x02
def fLFREE : Nat := 0x03
def fLPLACE : Nat := 0x05
def fLSNAP : Nat := 0x06
def fLREST : Nat := 0x07
def fLMIGR : Nat := 0x08
def fLSCRUB : Nat := 0x09
def fLREAD : Nat := 0x0A
def fLKEY : Nat := 0x0B

/-- RESULT codes (Table 9.6). -/
def rOK : Nat := 0
def rLATE : Nat := 2
def rNOFIT : Nat := 3
def rIMAGE : Nat := 4
def rNOSKEIN : Nat := 5
def rBADSTATE : Nat := 6
def rBADCLK : Nat := 7
def rKEYERR : Nat := 8
def rABORTED : Nat := 9
def rSTALE : Nat := 10
def rMEMERR : Nat := 11
def rSHORT : Nat := 12
def rMIGFAIL : Nat := 13
def rSPOOL : Nat := 14

/-- A command ends with a result; it is reported by LOOM_COMMAND_COMPLETE. -/
def cmdEnd (t res detail : Nat) (s : State) : State :=
  updCmd t (fun c => if c.phase = 3 then c else { c with phase := 3, res := res, detail := detail }) s

/-- The status word of a command (Table 9.5). -/
def LCmd.status (c : LCmd) : Nat :=
  c.res + c.detail * 2 ^ 8 + c.inst * 2 ^ 16 + c.org.1 % 32 * 2 ^ 32 + c.org.2 % 32 * 2 ^ 40

/-! ### Descriptors (R272, R275) -/

/-- The body bytes that a command uses, as (offset, size) (Table 9.4). -/
def descUses (fn : Nat) : List (Nat × Nat) :=
  if fn = fLLOAD then [(0x10, 8), (0x18, 3), (0x20, 8)]
  else if fn = fLPLACE then [(0x10, 8)]
  else if fn = fLSNAP then [(0x10, 0x11)]
  else if fn = fLREST then [(0x10, 0x10)]
  else if fn = fLMIGR then [(0x10, 0x18)]
  else if fn = fLREAD then [(0x10, 0x12), (0x24, 4)]
  else if fn = fLSCRUB then [(0x10, 1), (0x14, 4)]
  else if fn = fLKEY then [(0x10, 3), (0x14, 4)]
  else []

/-- A command names an instance (Table 9.3). -/
def descNames (fn : Nat) (d : List Byte) : Bool :=
  [fLREL, fLHOLD, fLFREE, fLSNAP, fLREST, fLMIGR, fLREAD].contains fn || (fn == fLSCRUB && fieldLE d 0x10 1 == 1)

/-- DESCFIELD: an unassigned byte or flag that is not 0, or a field outside its range. -/
def descBad (fn : Nat) (d : List Byte) : Bool :=
  let g (o n : Nat) : Nat := fieldLE d o n
  let fl (n : Nat) : Bool := bitOf (g 1 1) n
  let addr (o : Nat) : Bool := 2 ^ 52 ≤ g o 8
  g 7 1 != 0 ||
  ((List.range 48).any (fun j => d.getD (16 + j) 0 != 0 && !(descUses fn).any (fun u => u.1 ≤ 16 + j && 16 + j < u.1 + u.2))) ||
  fl 7 || (fl 4 && fn != fLLOAD) || (fl 5 && fn != fLLOAD && fn != fLPLACE) || (fl 6 && fn != fLSNAP) ||
  (fl 1 && fl 6) ||
  (descNames fn d != (g 2 2 != 0)) ||
  (fl 3 && (23 < g 4 1 || 31 < g 5 1)) || (fl 5 && 7 < g 6 1) ||
  (if fn = fLLOAD then addr 0x10 || 64 < g 0x1A 1 || (slice d 0x20 8).any (fun b => 27 < b.toNat && b != 0xFF)
   else if fn = fLPLACE then addr 0x10
   else if fn = fLSNAP ∨ fn = fLREST then addr 0x10
   else if fn = fLMIGR then addr 0x10 || g 0x20 8 ≤ g 8 8
   else if fn = fLREAD then addr 0x10 || 2047 < g 0x24 2 || g 0x26 2 = 0 || 2048 < g 0x24 2 + g 0x26 2
   else if fn = fLSCRUB then 3 < g 0x10 1
   else if fn = fLKEY then 2 < g 0x10 1 || 1 < g 0x11 1
   else false)

/-- What a command instruction finds at rs1: TINFO of the LOOM trap, or the descriptor and spool list (R269, R272); an address
with bits [63:62] set (TINFO 0 here) takes ADDRESS before (R31, R241). -/
def descRead (s : State) (c fn : Nat) (a : Word) : Sum Nat (List Byte × List Byte) :=
  match vresolve s a with
  | .bad => .inl 0
  | .ldm off =>
    if off % 64 ≠ 0 then .inl 1
    else
      let d := s.rdBytes (aPriv c (0x1_0000 + off)) 64
      let n := 16 * fieldLE d 0x1A 1
      let p := fieldLE d 0x18 2
      if fieldLE d 0 1 ≠ fn then .inl 2
      else if descBad fn d then .inl 3
      else if fn = fLLOAD ∧ n ≠ 0 then
        (if p % 16 ≠ 0 ∨ 0x1_0000 < p + n then .inl 1 else .inr (d, s.rdBytes (aPriv c (0x1_0000 + p)) n))
      else .inr (d, [])
  | _ => .inl 1

/-! ### Issue -/

/-- Sets Z of a core and leaves N, C and V (R270, R276). -/
def setZ (c : Nat) (z : Bool) (s : State) : State := s.setFlag F.FLAGS_NZCV c 0 2 z

/-- The pick counter has passed a boundary. -/
def pickPassed (s : State) (n : Nat) : Bool := n ≤ s.pick

/-- A command that is scheduled or armed and has not fired: what LABORT, LHOLD and LFREE may end (R274, R282). -/
def cmdUnfired (s : State) (c : LCmd) : Bool :=
  c.phase != 3 &&
  (if c.opc = fLREL then c.atPick && !pickPassed s c.pick
   else if c.opc = fLSNAP then (c.flag 6 && c.fired.isNone) || (match c.fired with | some n => !pickPassed s n | none => false) ||
     (c.atPick && !pickPassed s c.pick)
   else if c.opc = fLMIGR then !pickPassed s c.pick
   else if c.opc = fLLOAD then c.phase == 2 && c.atPick && !pickPassed s c.pick
   else if c.opc = fLHOLD ∨ c.opc = fLFREE then c.phase == 2 && c.atPick && !pickPassed s c.pick
   else false)

/-- Ends a command that has not fired with ABORTED: a release keeps the stages already applied (R196), and a migration
lets its destination go (Table 10.11). -/
def cmdAbort (t : Nat) (s : State) : State :=
  match cmdOf s t with
  | none => s
  | some c =>
    let s1 := cmdEnd t rABORTED 0 { s with holds := s.holds.filter (fun h => h.ticket != t + 1), hdq := s.hdq.filter (· != t) }
    match s1.migs.find? (fun m => m.ticket == t) with
    | none => s1
    | some m =>
      match s1.insts.get m.inst with
      | none => { s1 with migs := s1.migs.filter (fun x => x.ticket != t) }
      | some k =>
        let s2 := { s1 with migs := s1.migs.filter (fun x => x.ticket != t) }
        if c.phase = 0 then s2
        else forL ((List.range k.h).flatMap (fun y => (List.range k.w).map (fun x => (m.dst.2 + y) * 24 + m.dst.1 + x)))
          (fun b s => (s.setFld F.HD_MAP_OSTATE 0 b 0).setFld F.HD_MAP_OWNER 0 b 0) s2

/-- An occupied-bay test of a skein that a hold or free ends before its boundary N (R698). -/
def occAbort (inst : Nat) (s : State) : State :=
  match s.occ with
  | some o => if o.inst = inst && o.part = 1 then testEnd 2 o.bay 6 0 { s with occ := none } else s
  | none => s

/-- R274, R698. What a hold or free ends when it is accepted. -/
def cmdYield (inst : Nat) (s : State) : State :=
  occAbort inst (forL (s.cmds.filter (fun c => c.inst == inst && [fLREL, fLSNAP, fLMIGR].contains c.opc && cmdUnfired s c))
    (fun c s => cmdAbort c.ticket s) s)

/-- A command is accepted in the lowest free slot of its core (R270, R271): its ticket, or 0. -/
def cmdAccept (c : Nat) (d sp : List Byte) (s : State) : Nat × State :=
  match (List.range 16).find? (fun k => !(s.slots.get (16 * c + k)).used) with
  | none => (0, s)
  | some k =>
    let g := (s.slots.get (16 * c + k)).gen % 0xFFF + 1
    let t := k + 16 * g + 65536 * c
    let cmd : LCmd := { ticket := t, desc := d, spools := sp, inst := fieldLE d 2 2 }
    let s1 := if cmd.opc = fLHOLD ∨ cmd.opc = fLFREE then cmdYield cmd.inst s else s
    (t, { s1 with cmds := s1.cmds ++ [cmd], slots := s1.slots.set (16 * c + k) { gen := g, used := true } })

/-- A loom instruction with its must-be-zero bits and level checked (R268). -/
def loomOp (c mbz : Nat) (body : State → State) (s : State) : Res := vop c mbz (vsup c body) s

/-- A command instruction with code `fn` (R269 to R272); `k` is what the command of the ticket does at its acceptance. -/
def loomIssueThen (k : Nat → State → State) (c fn rd rs1 mbz : Nat) (s : State) : Res :=
  loomOp c mbz (fun s =>
    let a := s.vget c rs1
    match descRead s c fn a with
    | .inl ti => if ti = 0 then vtrapAt c cADDRESS 2 a 0 s else vtrapAt c cLOOM 0 a ti s
    | .inr (d, sp) =>
      let (t, s1) := cmdAccept c d sp s
      let s2 := vretire c (setZ c (t == 0) (s1.vset c rd (BitVec.ofNat 64 t)))
      if t = 0 then s2 else k t s2) s

/-- A command instruction whose command starts with LOOM_COMMAND_START. -/
def loomIssue (c fn rd rs1 mbz : Nat) (s : State) : Res := loomIssueThen (fun _ s => s) c fn rd rs1 mbz s

/-- R279. LLOAD. -/
def execLload (c rd rs1 mbz : Nat) (s : State) : Res := loomIssue c fLLOAD rd rs1 mbz s
/-- R283. LREL. -/
def execLrel (c rd rs1 mbz : Nat) (s : State) : Res := loomIssue c fLREL rd rs1 mbz s
/-- R283. LHOLD. -/
def execLhold (c rd rs1 mbz : Nat) (s : State) : Res := loomIssue c fLHOLD rd rs1 mbz s
/-- R284. LFREE. -/
def execLfree (c rd rs1 mbz : Nat) (s : State) : Res := loomIssue c fLFREE rd rs1 mbz s
/-- R285. LPLACE. -/
def execLplace (c rd rs1 mbz : Nat) (s : State) : Res := loomIssue c fLPLACE rd rs1 mbz s
/-- R288. LREST. -/
def execLrest (c rd rs1 mbz : Nat) (s : State) : Res := loomIssue c fLREST rd rs1 mbz s
/-- R290. LMIGR. -/
def execLmigr (c rd rs1 mbz : Nat) (s : State) : Res := loomIssue c fLMIGR rd rs1 mbz s
/-- R289. LREAD. -/
def execLread (c rd rs1 mbz : Nat) (s : State) : Res := loomIssue c fLREAD rd rs1 mbz s
/-- R339. LSCRUB with MODE 0 in its descriptor. -/
def execLscrubSetRate (c rd rs1 mbz : Nat) (s : State) : Res := loomIssue c fLSCRUB rd rs1 mbz s
/-- R340. LSCRUB with MODE 1. -/
def execLscrubOnePass (c rd rs1 mbz : Nat) (s : State) : Res := loomIssue c fLSCRUB rd rs1 mbz s
/-- R339. LSCRUB with MODE 2. -/
def execLscrubContOn (c rd rs1 mbz : Nat) (s : State) : Res := loomIssue c fLSCRUB rd rs1 mbz s
/-- R339. LSCRUB with MODE 3. -/
def execLscrubContOff (c rd rs1 mbz : Nat) (s : State) : Res := loomIssue c fLSCRUB rd rs1 mbz s
/-- R292. LKEY with OP 0 in its descriptor. -/
def execLkeyLoad (c rd rs1 mbz : Nat) (s : State) : Res := loomIssue c fLKEY rd rs1 mbz s
/-- R292. LKEY with OP 1. -/
def execLkeyErase (c rd rs1 mbz : Nat) (s : State) : Res := loomIssue c fLKEY rd rs1 mbz s
/-- R292. LKEY with OP 2. -/
def execLkeyWrap (c rd rs1 mbz : Nat) (s : State) : Res := loomIssue c fLKEY rd rs1 mbz s

/-! ### LWAIT, LSTAT and completion -/

/-- Frees the slot of a ticket. -/
def slotFree (t : Nat) (s : State) : State :=
  { s with slots := s.slots.upd (tkKey t) (fun k => { k with used := false, status := none }) }

/-- What LWAIT or LSTAT of core `c` reads from a ticket: STALE, or the status word of a completed command, whose slot is
freed; nothing while it runs (R276). -/
def tkCollect (c t : Nat) (s : State) : Option Nat × State :=
  if !tkLive s t || tkCore t != c then (some rSTALE, s)
  else match (s.slots.get (tkKey t)).status with
    | some w => (some w, slotFree t s)
    | none => (none, s)

/-- A status word goes to rd and Z, and the instruction retires. -/
def tkReturn (c rd w : Nat) (s : State) : State :=
  vretire c (setZ c (w % 256 == rOK) (s.vset c rd (BitVec.ofNat 64 w)))

/-- R276. LWAIT: it waits, and may be interrupted, until its ticket's command has completed. -/
def execLwait (c rd rs1 mbz : Nat) (s : State) : Res :=
  loomOp c mbz (fun s =>
    let t := (s.vget c rs1).toNat
    match tkCollect c t s with
    | (some w, s1) => tkReturn c rd w s1
    | (none, s1) => s1.updVc c (fun k => { k with wait := .lwait rd t })) s

/-- R276. LSTAT: PENDING while the command runs. -/
def execLstat (c rd rs1 mbz : Nat) (s : State) : Res :=
  loomOp c mbz (fun s =>
    match tkCollect c (s.vget c rs1).toNat s with
    | (some w, s1) => tkReturn c rd w s1
    | (none, s1) => tkReturn c rd 1 s1) s

/-- A core that waits in LWAIT goes on when its ticket has an answer. -/
def tkWake (c : Nat) (s : State) : State :=
  match (s.vc.get c).wait with
  | .lwait rd t =>
    match tkCollect c t s with
    | (some w, s1) => tkReturn c rd w s1
    | (none, _) => s
  | _ => s

/-- R278. A command that has ended is reported: its status is kept unless NOREC is 1, its sources rise, and a core that
waits for it goes on. -/
def cmdReport (t : Nat) (s : State) : State :=
  match cmdOf s t with
  | none => s
  | some c =>
    if c.phase ≠ 3 then s
    else
      let s1 := { s with cmds := s.cmds.filter (fun x => x.ticket != t) }
      let s2 := if c.drop || !tkLive s t then s1
        else if c.flag 0 then slotFree t s1
        else { s1 with slots := s1.slots.upd (tkKey t) (fun k => { k with status := some c.status }) }
      let s3 := if c.res ≠ rOK then irqEdge (2 + 4 * c.core) s2 else s2
      let s4 := if c.flag 2 && !c.drop then irqEdge (1 + 4 * c.core) s3 else s3
      tkWake c.core s4

/-- A hold or release begins; the command of one that it replaces ends with ABORTED (R196, R274). -/
def holdBegin (h : HoldOp) (s : State) : State :=
  holdStart h (forL (s.holds.filter (fun x => x.inst == h.inst && x.ticket != 0 && x.ticket != h.ticket))
    (fun x s => cmdEnd (x.ticket - 1) rABORTED 0 s) s)

/-- R295. A core reset frees every slot of the core; its accepted commands run to their end, and their results are
discarded. -/
def loomCoreReset (c : Nat) (s : State) : State :=
  let s1 := forN 16 (fun k s => { s with slots := s.slots.upd (16 * c + k) (fun l => { l with used := false, status := none }) }) s
  { s1 with cmds := s1.cmds.map (fun x => if x.core = c then { x with drop := true } else x) }

end Sys2Proof.Machine
end

