-- ==== Sys2Proof/Machine/Heddle.lean ====
section
/-!
DEFINITION. Heddle (chapter 10): the maps, placement filters and scores, eviction suggestions, instances, pools, spools,
translation entries and spool moves.
-/
namespace Sys2Proof.Machine

/-! ### The maps (R302, R303) -/

/-- OSTATE codes (Table 10.2). -/
def oFREE : Nat := 0
def oLOADING : Nat := 1
def oLOADED : Nat := 2
def oABORTED : Nat := 3
def oMIGDEST : Nat := 4
def oMIGSRC : Nat := 5
def oERASING : Nat := 6

/-- OSTATE, owner, health and CAP of a bay. -/
def ostate (s : State) (b : Nat) : Nat := s.fld F.HD_MAP_OSTATE 0 b
def mapOwner (s : State) (b : Nat) : Nat := s.fld F.HD_MAP_OWNER 0 b
def hstate (s : State) (b : Nat) : Nat := s.fld F.HD_MAP_HSTATE 0 b
def bayCap (s : State) (b : Nat) : Bool :=
  bitOf (s.fld F.PWR_CAP_MASK_MASK 0 (b / 64)) (b % 64) || s.limCap.contains b || s.fld F.PWR_BAY_STATE_STATE 0 b == 3

/-- Marks a bay in the occupancy map. -/
def markBay (o st b : Nat) (s : State) : State := (s.setFld F.HD_MAP_OWNER 0 b o).setFld F.HD_MAP_OSTATE 0 b st

/-- The bays of a region in order of row and column. -/
def regionBays (c r w h : Nat) : List Nat := (List.range h).flatMap (fun y => (List.range w).map (fun x => (r + y) * 24 + (c + x)))

/-- The bays of an instance. -/
def Skein.bays (k : Skein) : List Nat := regionBays k.c k.r k.w k.h

/-- An instance by its number. -/
def instOf (s : State) (i : Nat) : Option Skein := if i = 0 then none else s.insts.get i

/-- Changes an instance. -/
def updInst (i : Nat) (f : Skein → Skein) (s : State) : State := { s with insts := s.insts.upd i (fun k => k.map f) }

/-- OSTATE of every bay of an instance. -/
def instState (i st : Nat) (s : State) : State :=
  match instOf s i with
  | none => s
  | some k => updInst i (fun k => { k with ostate := st }) (forL k.bays (markBay i st) s)

/-- The next instance number (R304). -/
def nextInst (s : State) : Nat :=
  ((List.range 0xFFFF).map (fun j => (s.lastInst + j) % 0xFFFF + 1)).find? (fun i => (s.insts.get i).isNone) |>.getD 1

/-- A destination bay of a migration became TESTING or UNUSABLE before M: the migration fails (Table 10.11). -/
def migHealth (b : Nat) (s : State) : State :=
  { s with migs := s.migs.map (fun m =>
      match instOf s m.inst with
      | some k => if m.part < 6 && (regionBays m.dst.1 m.dst.2 k.w k.h).contains b then { m with fail := some (m.fail.getD (13, 3)) } else m
      | none => m) }

/-- HSTATE of a bay becomes `v`; an occupied bay that becomes UNUSABLE is condemned (R317), and a change raises the
health-change source (R705). -/
def setHealth (b v : Nat) (s : State) : State :=
  let s0 := if hstate s b = v then s else irqEdge 0x084 s
  let s1 := (if 2 ≤ v then migHealth b s0 else s0).setFld F.HD_MAP_HSTATE 0 b v
  if v = 3 && hstate s b != 3 && ostate s b == oLOADED then
    let s2 := s1.bump F.HD_STATUS_CCOUNT
    let s3 := if s2.bit F.HD_STATUS_CONDEMN then s2 else s2.setFld F.HD_STATUS_CINST 0 0 (mapOwner s b)
    s3.setEvt F.HD_STATUS_CONDEMN 0 0 0x048
  else s1

/-- A bay becomes UNUSABLE with a cause: 1 TEST, 2 VMAX, 3 RAIL, 4 ROUTER, 5 SOFTWARE (R705). -/
def retireBay (b cause : Nat) (s : State) : State := (setHealth b 3 s).setFld F.AGE_BAY_T_HCAUSE 0 b cause

/-! ### Distances (R308) -/

/-- The hop distance from a bay's router to a selvage router. -/
def hopDist (b : Nat) (x : Router) : Nat :=
  let k := b % 24 / 3
  let j := b / 24 / 4
  min (j + 1 + ringDist (posSRS k) (x - 64)) (8 - j + ringDist (posSRN k) (x - 64))

/-! ### Spool lists (R318) -/

/-- The entries of a spool list. -/
def spoolEntries (l : List Byte) : List (List Byte) := (List.range (l.length / 16)).map (fun k => slice l (16 * k) 16)

/-- The user bays of an entry, as relative positions. -/
def userBays (e : List Byte) (w h : Nat) : List (Nat × Nat) :=
  if fieldLE e 4 2 = 0xFFFF then (List.range h).flatMap (fun y => (List.range w).map (fun x => (x, y)))
  else if fieldLE e 4 1 < w ∧ fieldLE e 5 1 < h then [(fieldLE e 4 1, fieldLE e 5 1)] else []

/-- The router of pool `p`'s unit. -/
def poolRouter (s : State) (p : Nat) : Router :=
  let u := s.fld F.HD_POOL_CTL_UNIT 0 p
  targetRouter (if s.bit F.HD_POOL_CTL_DRAM 0 p then .dram (u % 16) else .spad (u % 64))

/-- The target router of an affinity entry: of its spool's unit or of its pool's unit. -/
def affinity (s : State) (e : List Byte) : Option Router :=
  if fieldLE e 0 1 = 2 then
    (match s.spools.get (fieldLE e 8 4 % 4096) with
     | some sp => some (poolRouter s sp.pool)
     | none => none)
  else if fieldLE e 0 1 = 1 && fieldLE e 7 1 < 32 then some (poolRouter s (fieldLE e 7 1))
  else none

/-- D of R307. -/
def distSum (s : State) (es : List (List Byte)) (c r w h : Nat) : Nat :=
  es.foldl (fun a e => match affinity s e with
    | some x => a + (userBays e w h).foldl (fun a u => a + hopDist ((r + u.2) * 24 + c + u.1) x) 0
    | none => a) 0

/-! ### Origins (R306 to R312) -/

/-- What an origin request asks: shape, anchors, spool entries, the origins that a pin and adjacency entries derive,
whether it is pinned, its priority. -/
structure OriginReq where
  w : Nat
  h : Nat
  anchors : List (List Byte) := []
  entries : List (List Byte) := []
  only : Option (Nat × Nat) := none
  pinned : Bool := false
  prio : Nat := 0
deriving DecidableEq, Repr, Inhabited

/-- The quad (0 to 47) or GPIO bank (0 to 19) that an anchor meets at an origin, if any (Table 3.10, R90, R172). -/
def anchorUnit (c r : Nat) (a : List Byte) : Option Nat :=
  let col := c + fieldLE a 2 1
  let row := r + fieldLE a 3 1
  let u := fieldLE a 4 1
  let hit (ok : Bool) (i base : Nat) : Option Nat := if ok && (u == 0xFF || u == i) then some (base + i) else none
  match fieldLE a 0 1, fieldLE a 1 1 with
  | 1, 0 => hit (row == 0 && col % 3 == 0 && decide (col < 24)) (col / 3) 0
  | 1, 1 => hit (row == 31 && col % 3 == 0 && decide (col < 24)) (col / 3) 8
  | 1, 2 => hit (col == 0 && row % 2 == 0 && decide (row < 32)) (row / 2) 16
  | 1, 3 => hit (col == 23 && row % 2 == 0 && decide (row < 32)) (row / 2) 32
  | 2, 1 => hit (row == 31 && col % 2 == 0 && decide (2 ≤ col ∧ col < 22)) ((col - 2) / 2) 0
  | 2, 0 => hit (row == 0 && col % 2 == 0 && decide (2 ≤ col ∧ col < 22)) ((col - 2) / 2) 10
  | _, _ => none

/-- The filters of Table 10.3 but OCCUPIED, as (DETAIL, test). -/
def originFilters (s : State) (q : OriginReq) : List (Nat × (Nat × Nat → Bool)) :=
  let bays (o : Nat × Nat) : List Nat := regionBays o.1 o.2 q.w q.h
  [(1, fun o => decide (o.1 + q.w ≤ 24 ∧ o.2 + q.h ≤ 32) && q.anchors.all (fun a => (anchorUnit o.1 o.2 a).isSome)),
   (2, fun o => q.anchors.all (fun a => fieldLE a 0 1 != 1 || (match anchorUnit o.1 o.2 a with | some u => attachOn s u | none => false))),
   (3, fun o => (bays o).all (fun b => decide (hstate s b < 2))),
   (4, fun o => (bays o).all (fun b => !bayCap s b && s.fld F.PWR_BAY_STATE_STATE 0 b != 3))]

/-- A bay of a region may be taken: it is free, or, for a pin, left by R189 with its whole region inside the new one. -/
def bayTakable (s : State) (q : OriginReq) (o : Nat × Nat) (b : Nat) : Bool :=
  ostate s b == oFREE ||
  (q.pinned && ostate s b == oABORTED && (match instOf s (mapOwner s b) with
    | some k => k.bays.all (fun x => (regionBays o.1 o.2 q.w q.h).contains x)
    | none => false))

/-- The candidates that pass the filters in their order, or the DETAIL of the filter that removed the last one (R315). -/
def originPass (fs : List (Nat × (Nat × Nat → Bool))) (cs : List (Nat × Nat)) : Nat × List (Nat × Nat) :=
  fs.foldl (fun acc f =>
    if acc.2.isEmpty then acc
    else let l := acc.2.filter f.2
         if l.isEmpty then (f.1, []) else (0, l)) (0, cs)

/-- Every origin in the order of R309, or the one that a request is restricted to (R310). -/
def originCands (q : OriginReq) : List (Nat × Nat) :=
  match q.only with
  | some o => [o]
  | none => (List.range 32).flatMap (fun r => (List.range 24).map (fun c => (c, r)))

/-- The score S of R307; bays in `free` count as FREE (R316). -/
def originScore (s : State) (q : OriginReq) (free : List Nat) (o : Nat × Nat) : Nat :=
  let bs := regionBays o.1 o.2 q.w q.h
  let open_ (col row : Nat) : Bool :=
    let b := row * 24 + col
    (ostate s b == oFREE || free.contains b) && decide (hstate s b < 2) && !bayCap s b
  let side (b : Nat) : Nat :=
    let col := b % 24
    let row := b / 24
    let out (c' r' : Nat) : Nat := if bs.contains (r' * 24 + c') then 0 else ofBool (open_ c' r')
    (if 0 < col then out (col - 1) row else 0) + (if col < 23 then out (col + 1) row else 0) +
    (if 0 < row then out col (row - 1) else 0) + (if row < 31 then out col (row + 1) else 0)
  let sum (f : Nat → Nat) : Nat := bs.foldl (fun a b => a + f b) 0
  let power (b : Nat) : Nat := match s.fld F.PWR_BAY_STATE_STATE 0 b with | 2 => 0 | 1 => 1 | 0 => 4 | _ => 0
  s.fld F.HD_WEIGHT_W_HEALTH * sum (fun b => ofBool (hstate s b == 1)) + s.fld F.HD_WEIGHT_W_WEAR * sum (fun b => s.fld F.HD_MAP_WEAR 0 b) +
  s.fld F.HD_WEIGHT_W_POWER * sum power + s.fld F.HD_WEIGHT_W_DIST * distSum s q.entries o.1 o.2 q.w q.h +
  s.fld F.HD_WEIGHT_W_EDGE * sum side

/-- The first candidate with the lowest value (R309). -/
def bestBy {α : Type} (f : α → Nat) (cs : List α) : Option α :=
  (cs.foldl (fun (b : Option (α × Nat)) o => match b with
    | none => some (o, f o)
    | some x => if f o < x.2 then some (o, f o) else b) none).map (·.1)

/-- The origin that Heddle chooses, or the DETAIL of NOFIT (R305 to R310, R315). -/
def originFind (s : State) (q : OriginReq) : Sum Nat (Nat × Nat) :=
  let (d, l) := originPass (originFilters s q ++ [(5, fun o => (regionBays o.1 o.2 q.w q.h).all (bayTakable s q o))]) (originCands q)
  match l with
  | [] => .inl d
  | o :: rest => if rest.isEmpty then .inr o else .inr ((bestBy (originScore s q []) l).getD o)

/-- The instances whose bays an origin needs, ascending, when it qualifies for an eviction (R316). -/
def evictSet (s : State) (q : OriginReq) (o : Nat × Nat) : Option (List Nat) :=
  let busy := (regionBays o.1 o.2 q.w q.h).filter (fun b => ostate s b != oFREE)
  let is := (busy.map (mapOwner s)).eraseDups
  let ok := is.all (fun i => match instOf s i with | some k => k.ostate == oLOADED && decide (k.prio < q.prio) | none => false)
  if ok && decide (is.length ≤ 4) then some (is.mergeSort (fun a b => a ≤ b)) else none

/-- R316. The eviction suggestion of a request that ended with OCCUPIED, for core `n`. -/
def evictSuggest (n : Nat) (q : OriginReq) (s : State) : State :=
  let (_, l) := originPass (originFilters s q) (originCands q)
  let cs := l.filterMap (fun o => (evictSet s q o).map (fun v => (o, v)))
  let few := cs.foldl (fun m x => min m x.2.length) 5
  let score (x : (Nat × Nat) × List Nat) : Nat :=
    originScore s q (x.2.flatMap (fun i => ((instOf s i).map (·.bays)).getD [])) x.1
  match bestBy score (cs.filter (fun x => x.2.length == few)) with
  | none => s.clrFld F.HD_NOFIT_ORG_VALID 0 n
  | some x =>
    let s1 := (((s.setBit F.HD_NOFIT_ORG_VALID 0 n).setFld F.HD_NOFIT_ORG_ORG_R 0 n x.1.2).setFld F.HD_NOFIT_ORG_ORG_C 0 n x.1.1).setFld
      F.HD_NOFIT_ORG_COUNT 0 n x.2.length
    forN 4 (fun v s => s.setFld F.HD_NOFIT_VICT_VICT 0 (n * 4 + v) (x.2.getD v 0)) s1

/-- The origins that adjacency entries derive, with their partners, or the DETAIL of NOFIT (R312). -/
def adjOrigins (s : State) (w h : Nat) (es : List (List Byte)) : Sum Nat (List ((Nat × Nat) × Nat)) :=
  let adj := es.filter (fun e => fieldLE e 0 1 == 3)
  if adj.any (fun e => fieldLE e 1 1 != 0 || 3 < fieldLE e 4 1 || !allZero e 6 10) then .inl 0x13
  else
    let one (e : List Byte) : Option ((Nat × Nat) × Nat) :=
      match instOf s (fieldLE e 2 2) with
      | some k =>
        let off : Int := asInt true 8 (fieldLE e 5 1)
        let (x, y) : Int × Int := match fieldLE e 4 1 with
          | 0 => ((k.c + k.w : Nat), (k.r : Int) + off)
          | 1 => ((k.c : Int) + off, (k.r + k.h : Nat))
          | 2 => ((k.c : Int) - (w : Nat), (k.r : Int) + off)
          | _ => ((k.c : Int) + off, (k.r : Int) - (h : Nat))
        if k.ostate = oLOADED ∧ 0 ≤ x ∧ 0 ≤ y then some ((x.toNat, y.toNat), fieldLE e 2 2) else none
      | none => none
    let l := adj.map one
    if l.any (·.isNone) then .inl 6 else .inr (l.filterMap id)

/-- An origin request of a command (R305, R310): the request, or the DETAIL of NOFIT; with the partners of its adjacency
entries. -/
def originRequest (s : State) (pin : Option (Nat × Nat)) (w h prio : Nat) (anchors es : List (List Byte)) :
    Sum Nat (OriginReq × List Nat) :=
  match adjOrigins s w h es with
  | .inl d => .inl d
  | .inr l =>
    let os := (pin.toList ++ l.map (·.1)).eraseDups
    if 1 < os.length then .inl 6
    else .inr ({ w := w, h := h, anchors := anchors, entries := es, only := os.head?, pinned := pin.isSome, prio := prio }, l.map (·.2))

/-- Heddle answers a request of core `n`: the origin or the DETAIL, with the suggestion of R316. -/
def originServe (n : Nat) (q : OriginReq) (s : State) : Sum Nat (Nat × Nat) × State :=
  match originFind s q with
  | .inl d => (.inl d, if d = 5 && 0 < q.prio then evictSuggest n q s else s)
  | .inr o => (.inr o, s)

/-! ### Pools (R320, R321) -/

/-- The first and last granule of pool `p`, and whether it is a DRAM pool. -/
def poolBase (s : State) (p : Nat) : Nat := s.fld F.HD_POOL_BASE_BASE 0 p
def poolLast (s : State) (p : Nat) : Nat := s.fld F.HD_POOL_LAST_LAST 0 p
def poolDram (s : State) (p : Nat) : Bool := s.bit F.HD_POOL_CTL_DRAM 0 p

/-- The granules of a unit. -/
def unitSpan (dram : Bool) (u : Nat) : Nat × Nat :=
  if dram then (u * 2 ^ 29, u * 2 ^ 29 + 2 ^ 29 - 1) else (0x8_0000_0000_0000 / 4096 + u * 512, 0x8_0000_0000_0000 / 4096 + u * 512 + 511)

/-- An enable of pool `p` is refused (R320). -/
def poolBad (s : State) (p : Nat) : Bool :=
  let u := s.fld F.HD_POOL_CTL_UNIT 0 p
  let sp := unitSpan (poolDram s p) u
  (poolDram s p && 16 ≤ u) || poolBase s p < sp.1 || sp.2 < poolLast s p || poolLast s p < poolBase s p ||
  (List.range 32).any (fun q => q != p && s.bit F.HD_POOL_CTL_EN 0 q && poolBase s q ≤ poolLast s p && poolBase s p ≤ poolLast s q)

/-- A write of HD_POOLp_CTL (R320). -/
def poolCtlWrite (p v : Nat) (s : State) : State :=
  let s1 := if s.fld F.HD_POOL_CTL_USED 0 p ≠ 0 then s
    else ((s.setFld F.HD_POOL_CTL_DRAM 0 p (bitsOf v 62 1)).setFld F.HD_POOL_CTL_UNIT 0 p (bitsOf v 48 6)).setFld F.HD_POOL_CTL_KEYID 0 p (bitsOf v 40 6)
  if !bitOf v 63 then s1.clrFld F.HD_POOL_CTL_EN 0 p
  else if poolBad s1 p then s1.setBit F.HD_STATUS_POOLERR
  else s1.setBit F.HD_POOL_CTL_EN 0 p

/-- R320. A write of EN = 1 to pool `p`, as the whole value of its control register. -/
def execPoolEnable (p v : Nat) (s : State) : Res := .next (if p < 32 then poolCtlWrite p (withBit v 63 true) s else s)

/-- The key ID part of a spool base, in granules. -/
def keyGran (s : State) (p : Nat) : Nat := if poolDram s p then s.fld F.HD_POOL_CTL_KEYID 0 p * 2 ^ 33 else 0

/-- A spool's first granule without its key ID. -/
def spoolGran (base : Nat) : Nat := if base < 2 ^ 39 then base % 2 ^ 33 else base

/-- The extents allocated in pool `p`, as (first granule, length): live spools and a reservation (R328). -/
def poolUsed (s : State) (p : Nat) : List (Nat × Nat) :=
  ((List.range 4096).filterMap (fun i => match s.spools.get i with
    | some k => if k.pool = p then some (spoolGran k.base, k.size) else none
    | none => none)) ++
  (match s.moving with
   | some (i, q) => if q = p then [(spoolGran (s.fld F.HD_MOVE_BASE_BASE), ((s.spools.get i).map (·.size)).getD 0)] else []
   | none => [])

/-- The free extent of lowest address that holds `n` granules (R322). -/
def poolFit (s : State) (p n : Nat) : Option Nat :=
  let used := poolUsed s p
  let ok (a : Nat) : Bool := poolBase s p ≤ a && a + n ≤ poolLast s p + 1 && used.all (fun x => a + n ≤ x.1 || x.1 + x.2 ≤ a)
  let cands := (poolBase s p :: used.map (fun x => x.1 + x.2)).filter ok
  cands.min?

/-- A pool's unit serves spools (R321). -/
def poolUp (s : State) (p : Nat) : Bool :=
  let u := s.fld F.HD_POOL_CTL_UNIT 0 p
  if poolDram s p then s.fld F.MP_STATUS_STATE u == 2 && decide (poolLast s p < u % 16 * 2 ^ 29 + 2 ^ s.fld F.MP_GEOM_CAP_LOG2 u / 4096)
  else spadState s u == 2 && !bankBad s u

/-- A pool is eligible for a NEW entry (R321). -/
def poolEligible (s : State) (p : Nat) (e : List Byte) : Bool :=
  s.bit F.HD_POOL_CTL_EN 0 p && bitOf (fieldLE e 1 1) (ofBool (poolDram s p)) && (fieldLE e 7 1 == 0xFF || fieldLE e 7 1 == p) &&
  poolUp s p && (if poolDram s p then s.fld F.HD_POOL_CTL_KEYID 0 p == fieldLE e 6 1 else fieldLE e 6 1 == 0) &&
  (poolFit s p (fieldLE e 8 4)).isSome

/-- T of R322. -/
def spoolScore (s : State) (e : List Byte) (c r w h p : Nat) : Nat :=
  s.fld F.HD_SWEIGHT_W_SDIST * (userBays e w h).foldl (fun a u => a + hopDist ((r + u.2) * 24 + c + u.1) (poolRouter s p)) 0 +
  s.fld F.HD_SWEIGHT_W_FILL * (256 * s.fld F.HD_POOL_CTL_USED 0 p / (poolLast s p - poolBase s p + 1))

/-! ### Spools (R319, R323 to R325) -/

/-- Puts a spool at an ID, or removes it, and keeps the count of live ones. -/
def putSpool (i : Nat) (k : Option Spool) (s : State) : State :=
  let n := s.fld F.HD_STATUS_SPOOLS
  let n' := n + ofBool k.isSome - ofBool (s.spools.get i).isSome
  { s.setFld F.HD_STATUS_SPOOLS 0 0 n' with spools := s.spools.set i k }

/-- USED of a pool grows or shrinks. -/
def poolTake (p n : Nat) (s : State) : State := s.setFld F.HD_POOL_CTL_USED 0 p (s.fld F.HD_POOL_CTL_USED 0 p + n)
def poolGive (p n : Nat) (s : State) : State := s.setFld F.HD_POOL_CTL_USED 0 p (s.fld F.HD_POOL_CTL_USED 0 p - n)

/-- An entry of the table of bay `b` is valid. -/
def xlValid (s : State) (b e : Nat) : Bool := s.bit F.XLATE0_VALID b e

/-- Writes a translation entry in the lowest free entry of bay `b` (R325). -/
def xlPut (ro : Bool) (id handle : Nat) (k : Spool) (b : Nat) (s : State) : State :=
  match (List.range 64).find? (fun e => !xlValid s b e) with
  | none => s
  | some e =>
    ((((((s.setBit F.XLATE0_VALID b e).setFld F.XLATE0_RO b e (ofBool ro)).setFld F.XLATE0_SPOOL_ID b e id).setFld F.XLATE0_HANDLE b e handle).setFld
      F.XLATE0_SIZE b e k.size).setFld F.XLATE1_BASE b e k.base)

/-- Clears every translation entry of bay `b`. -/
def xlClear (b : Nat) (s : State) : State :=
  forN 64 (fun e s => forL [F.XLATE0_VALID, F.XLATE0_RO, F.XLATE0_SPOOL_ID, F.XLATE0_HANDLE, F.XLATE0_SIZE, F.XLATE1_BASE] (fun f s => s.clrFld f b e) s) s

/-- The size of the reservation's spool. -/
def moveSize (s : State) (id : Nat) : Nat := ((s.spools.get id).map (·.size)).getD 0

/-- A move ends, or is cancelled: STATE is IDLE, and a COMMIT that waited for its pick is no longer pending. -/
def moveIdle (s : State) : State := { (s.clrFld F.HD_MOVE_CTL_STATE).clrFld F.HD_MOVE_CTL_COMMIT with moving := none }

/-- CANCEL returns a reservation to its pool, and STATE becomes IDLE, after a failed GO too (R328). -/
def moveCancel (s : State) : State :=
  match s.moving with
  | none => moveIdle s
  | some (id, p) => poolGive p (moveSize s id) (moveIdle s)

/-- An instance gives a spool up: its count falls, and at 0 its granules return (R323), with a reservation made for it. -/
def spoolDrop (i : Nat) (s : State) : State :=
  match s.spools.get i with
  | none => s
  | some k => if k.refs ≤ 1 then
      poolGive k.pool k.size (putSpool i none (if (s.moving.map (·.1)) = some i then moveCancel s else s))
    else { s with spools := s.spools.set i (some { k with refs := k.refs - 1 }) }

/-- Every spool and translation entry of an instance is released. -/
def instSpoolsDrop (i : Nat) (s : State) : State :=
  match instOf s i with
  | none => s
  | some k => updInst i (fun k => { k with spools := [] }) (forL k.bays xlClear (forL k.spools spoolDrop s))

/-- The first failure of a NEW or SHARE entry for a skein, in the order of R319; 0 when it can be placed. -/
def entryBad (s : State) (k : Skein) (e : List Byte) : Nat :=
  let kind := fieldLE e 0 1
  let fl := fieldLE e 1 1
  let all := fieldLE e 4 2 == 0xFFFF
  let users := (userBays e k.w k.h).map (fun u => (k.r + u.2) * 24 + k.c + u.1)
  let badEntry := (kind != 1 && kind != 2) || (!all && users.isEmpty) || fieldLE e 12 4 != 0 ||
    (if kind = 1 then 16 ≤ fl || fl % 4 = 0 || 63 < fieldLE e 6 1 || (31 < fieldLE e 7 1 && fieldLE e 7 1 != 0xFF) || fieldLE e 8 4 = 0
     else fl != 0 && fl != 4 || fieldLE e 6 2 != 0 || 4096 ≤ fieldLE e 8 4)
  if badEntry then 0x13
  else if kind = 2 ∧ (s.spools.get (fieldLE e 8 4)).isNone then 0x11
  else if users.any (fun b => (List.range 64).any (fun x => xlValid s b x && s.fld F.XLATE0_HANDLE b x == fieldLE e 2 2)) then 0x12
  else if kind = 1 ∧ s.fld F.HD_STATUS_SPOOLS ≥ 4095 then 0x14
  else if kind = 1 ∧ !(List.range 32).any (fun p => poolEligible s p e) then 0x10
  else 0

/-- Writes the translation entries of a list entry that names spool `id`. -/
def entryMap (i id : Nat) (e : List Byte) (s : State) : State :=
  match instOf s i, s.spools.get id with
  | some k, some sp =>
    let users := (userBays e k.w k.h).map (fun u => (k.r + u.2) * 24 + k.c + u.1)
    forL users (xlPut (bitOf (fieldLE e 1 1) 2) id (fieldLE e 2 2) sp) s
  | _, _ => s

/-- Reserves a spool for a NEW entry that can be placed: its ID (R322, R323). -/
def spoolMake (i : Nat) (e : List Byte) (s : State) : Nat × State :=
  match instOf s i, (List.range 4096).find? (fun x => x != 0 && (s.spools.get x).isNone) with
  | some k, some id =>
    match bestBy (spoolScore s e k.c k.r k.w k.h) ((List.range 32).filter (fun p => poolEligible s p e)) with
    | none => (0, s)
    | some p =>
      let n := fieldLE e 8 4
      let sp : Spool := { pool := p, owner := i, base := (poolFit s p n).getD 0 + keyGran s p, size := n }
      (id, updInst i (fun k => { k with spools := k.spools ++ [id] }) (poolTake p n (putSpool id (some sp) s)))
  | _, _ => (0, s)

/-- Heddle writes zero to a spool with its own initiator ID (R324): the error, 0 when none. -/
def spoolZero (id : Nat) (s : State) : Nat × State :=
  match s.spools.get id with
  | none => (0, s)
  | some k => (List.range (64 * k.size)).foldl (fun (acc : Nat × State) j =>
      if acc.1 ≠ 0 then acc else engWrite 0x4C1 (k.base * 4096 + 64 * j) (List.replicate 64 0) acc.2) (0, s)

/-- Heddle's writes of zero to a spool must wait for their targets. -/
def spoolWaits (s : State) (id : Nat) : Bool :=
  match s.spools.get id with
  | none => false
  | some k => (List.range k.size).any (fun j => targetWaits s 0x4C1 ((k.base + j) * 4096))

/-! ### Moving a spool (R328, R329) -/

/-- GO: Heddle reserves an extent in the destination pool. -/
def moveGo (s : State) : State :=
  let p := s.fld F.HD_MOVE_CTL_POOL
  let id := s.fld F.HD_MOVE_CTL_SPOOL_ID
  if ! [0, 3].contains (s.fld F.HD_MOVE_CTL_STATE) then s
  else match s.spools.get id with
    | some k =>
      if s.bit F.HD_POOL_CTL_EN 0 p && poolUp s p then
        match poolFit s p k.size with
        | some a => { poolTake p k.size ((s.setFld F.HD_MOVE_BASE_BASE 0 0 (a + keyGran s p)).setFld F.HD_MOVE_CTL_STATE 0 0 1) with moving := some (id, p) }
        | none => s.setFld F.HD_MOVE_CTL_STATE 0 0 3
      else s.setFld F.HD_MOVE_CTL_STATE 0 0 3
    | none => s.setFld F.HD_MOVE_CTL_STATE 0 0 3

/-- A commit takes effect: every translation entry of the spool names the new extent, and the old one returns (R329). -/
def moveCommit (s : State) : State :=
  match s.moving with
  | none => s
  | some (id, p) =>
    let base := s.fld F.HD_MOVE_BASE_BASE
    let s1 := moveIdle s
    match s.spools.get id with
    | none => s1
    | some k =>
      let s2 := poolGive k.pool k.size { s1 with spools := s1.spools.set id (some { k with pool := p, base := base }) }
      forN 768 (fun b s => forN 64 (fun e s =>
        if xlValid s b e && s.fld F.XLATE0_SPOOL_ID b e == id then s.setFld F.XLATE1_BASE b e base else s) s) s2

/-- A write of COMMIT: at once, or at HD_MOVE_PICK (R329), until when COMMIT reads 1 (Table 2.3). -/
def moveCommitWrite (s : State) : State :=
  if s.fld F.HD_MOVE_CTL_STATE ≠ 1 then s
  else if !s.bit F.HD_MOVE_CTL_ATPICK then moveCommit s
  else if pickPassed s (s.fld F.HD_MOVE_PICK_PICK) then s.setBit F.HD_STATUS_MOVELATE
  else (s.setFld F.HD_MOVE_CTL_STATE 0 0 2).setBit F.HD_MOVE_CTL_COMMIT

/-- Heddle has its clock. -/
def hdRuns (s : State) : Bool := s.dev = .run && domRuns s 3

/-- R328. SPOOL_ID and POOL are written to HD_MOVE_CTL together with GO. -/
def execSpoolMoveGo (id p : Nat) (s : State) : Res :=
  .next (if hdRuns s then moveGo ((s.setFld F.HD_MOVE_CTL_POOL 0 0 p).setFld F.HD_MOVE_CTL_SPOOL_ID 0 0 id) else s)

/-- R329. COMMIT is written with ATPICK. -/
def execSpoolMoveCommit (atPick : Bool) (s : State) : Res :=
  .next (if hdRuns s then moveCommitWrite (s.setFld F.HD_MOVE_CTL_ATPICK 0 0 (ofBool atPick)) else s)

/-- R328. CANCEL is written. -/
def execSpoolMoveCancel (s : State) : Res := .next (if hdRuns s then moveCancel s else s)

end Sys2Proof.Machine
end

