-- ==== Sys2Proof/Machine/GpioPins.lean ====
section
/-!
DEFINITION. The pins of the general-purpose I/O banks (chapter 26): the output gate and the fast-response cells, and the input
samplers with their events.
-/
namespace Sys2Proof.Machine

/-- The instance on port `p` of bank `n`, 0 where the port is inactive (R749). -/
def gpioOwner (s : State) (n p : Nat) : Nat :=
  let i := s.fld F.BAY_STATUS_OWNER (gpioBay n p)
  match instOf s i with
  | some k => if k.anchors.any (fun a => fieldLE a 0 1 == 2 && anchorUnit k.c k.r a == some n && bitOf (fieldLE a 5 1) p) then i else 0
  | none => 0

/-- The active OSEL of an I/O: 0 OFF, 1 FABRIC, 2 FRC, 3 SOFT. -/
def gpioOsel (s : State) (b i : Nat) : Nat := bitsOf (s.fld F.GPIO_OSEL_OSEL b) (2 * i) 2

/-- An I/O belongs to an LVDS pair: the pair takes the configuration of its even I/O (R746). -/
def gpioLvds (s : State) (b i : Nat) : Bool := s.bit F.GPIO_CFG_STD b (i / 2 * 2)

/-- The rail of a bank is on, good and not faulting (R665, R666). -/
def gpioRail (s : State) (b : Nat) : Bool :=
  s.vin && s.dev != .off && s.fld F.PWR_GPIO_V_VSEL 0 b != 0 && s.bit F.PWR_GPIO_V_READY 0 b

/-- An I/O set to LVDS in a bank at 1.2 V or 1.5 V drives nothing and reads 0 (R747). -/
def gpioLow (s : State) (b i : Nat) : Bool := gpioLvds s b i && s.fld F.PWR_GPIO_V_VSEL 0 b < 3

/-- What the input buffers of a bank show: 0 without a good rail (R666), for an unsupported LVDS bank (R747), and at the odd I/O
of a pair, whose level the even I/O carries (R761). -/
def gpioInputs (s : State) (b : Nat) : Nat :=
  if !gpioRail s b then 0
  else ofBits ((List.range 24).map (fun i =>
    bitOf (s.gpio.pads.get b) i && !gpioLow s b i && !(gpioLvds s b i && i % 2 == 1)))

/-! ### The output gate (R757) -/

/-- Row 2 of Table 26.4 for a port: a forced safe state. -/
def gpioForced (s : State) (b p : Nat) : Bool :=
  nocForced s || tbForced s || bayForced s (gpioBay b p) || s.fld F.WARP_SYS_STATUS_STATE == 3 ||
  s.bit F.GPIO_BSTAT_FENCED b || s.dev == .off

/-- What a pin's output stage does: nothing at all, off with the pull or keeper acting, or driven with a value for each half of
the port clock period. -/
inductive PinOut where
  | none
  | off
  | drive (r f : Bool)
deriving DecidableEq, Repr

/-- A driver with an enable. -/
def PinOut.when (en r f : Bool) : PinOut := if en then .drive r f else .off

/-- Input A, B, C or D of a fast-response cell (Table 26.3). -/
def frcInput (s : State) (b i sel : Nat) : Bool :=
  let p := i / 12
  let on := gpioOwner s b p != 0
  let a := s.gpioAtt.get (2 * b + p)
  if sel < 24 then bitOf (gpioInputs s b) sel
  else if sel < 28 then on && bitOf a (36 + sel - 24)
  else if sel = 28 then on && bitOf a (i % 12)
  else sel == 30

/-- The index n = 8D + 4C + 2B + A of a fast-response cell (R752). -/
def frcIndex (s : State) (b i : Nat) : Nat :=
  let x := s.fld F.GPIO_FRC_SEL b i
  ofBits ((List.range 4).map (fun k => frcInput s b i (bitsOf x (5 * k) 5)))

/-- Rows 7 to 9 of Table 26.4 give the fabric or the fast-response cell the pin: the port is active, its bay has no hold stage 1
applied, and the device does not sleep (R759). -/
def gpioFabric (s : State) (b i : Nat) : Bool :=
  gpioOwner s b (i / 12) != 0 && !s.bit F.BAY_STATUS_OUT_HELD (gpioBay b (i / 12)) && s.dev == .run

/-- The first applicable row of Table 26.4 for an I/O that is no complement pin. -/
def gpioGate (s : State) (b i : Nat) : PinOut :=
  let p := i / 12
  let a := s.gpioAtt.get (2 * b + p)
  let k := i % 12
  if !gpioRail s b then .none
  else if gpioForced s b p || gpioLow s b i then .off
  else if s.dbg.ir = 0 || s.dbg.ir = 3 then
    .when (bitOf (s.gpio.cells.get b) (24 + i)) (bitOf (s.gpio.cells.get b) i) (bitOf (s.gpio.cells.get b) i)
  else if s.dbg.ir = 4 then .off
  else match gpioOsel s b i with
    | 0 => .off
    | 3 => .when (bitOf (s.fld F.GPIO_SWOE_SWOE b) i) (bitOf (s.fld F.GPIO_SWOUT_SWOUT b) i) (bitOf (s.fld F.GPIO_SWOUT_SWOUT b) i)
    | 1 =>
      if !gpioFabric s b i then .off
      else .when (bitOf a (24 + k)) (bitOf a k) (bitOf a (if s.bit F.GPIO_CFG_DDR b i then 12 + k else k))
    | _ =>
      if !gpioFabric s b i then .off
      else
        let n := frcIndex s b i
        .when (bitOf (s.fld F.GPIO_FRC_ETAB b i) n) (bitOf (s.fld F.GPIO_FRC_DTAB b i) n) (bitOf (s.fld F.GPIO_FRC_DTAB b i) n)

/-- The output of pin `i` of a bank; the odd pin of an LVDS pair drives the complement of the even one (R746). -/
def gpioPin (s : State) (b i : Nat) : PinOut :=
  if gpioLvds s b i && i % 2 == 1 then
    match gpioGate s b (i - 1) with
    | .drive r f => .drive (!r) (!f)
    | o => o
  else gpioGate s b i

/-- OUT_ON of an I/O: row 8 or row 9 decides (R757). -/
def gpioOutOn (s : State) (b i : Nat) : Bool :=
  gpioRail s b && !gpioForced s b (i / 12) && !gpioLow s b i && s.dbg.ir != 0 && s.dbg.ir != 3 && s.dbg.ir != 4 &&
  (gpioOsel s b i == 1 || gpioOsel s b i == 2) && gpioFabric s b i

/-- The outputs of a bank as masks: pins driven, and their values in the first and the second half of the period. -/
def gpioOuts (s : State) (b : Nat) : Nat × Nat × Nat :=
  let l := (List.range 24).map (gpioPin s b)
  (ofBits (l.map (fun o => match o with | .drive _ _ => true | _ => false)),
   ofBits (l.map (fun o => match o with | .drive r _ => r | _ => false)),
   ofBits (l.map (fun o => match o with | .drive _ f => f | _ => false)))

/-- Shows the outputs of a bank where they differ from what its pins were last driven to. -/
def gpioShow (b : Nat) (s : State) : State :=
  let o := gpioOuts s b
  let v := o.1 + o.2.1 * 2 ^ 24 + o.2.2 * 2 ^ 48
  if v = s.gpio.shown.get b then s
  else { s with gpio := { s.gpio with shown := s.gpio.shown.set b v } }.emit (.pins b o.1 o.2.1 o.2.2)

/-- Shows the outputs of every bank that has changed. -/
def gpioShowAll (s : State) : State := forN 20 gpioShow s

/-! ### Inputs and events (R760, R761) -/

/-- The sampler and GPIO_EVT belong to the wake logic: they run with the platform domain in every state but OFF. -/
def gpioSampled (s : State) : Bool := s.vin && s.dev != .off && domRuns s 5

/-- The event that IRQ_MODE gives for a previous and a new sample. -/
def gpioEvent (mode : Nat) (was now : Bool) : Bool :=
  match mode with
  | 1 => !was && now
  | 2 => was && !now
  | 3 => was != now
  | 4 => now
  | 5 => !now
  | _ => false

/-- The samplers of a bank take its inputs, and IRQ_MODE sets bits of GPIO_EVT, which are the lines of their sources. -/
def gpioSample (b : Nat) (s : State) : State :=
  if !gpioSampled s then s
  else
    let new := gpioInputs s b
    let old := s.gpio.seen.get b
    let s1 := { s with gpio := { s.gpio with seen := s.gpio.seen.set b new } }
    forN 24 (fun i s =>
      if gpioEvent (s.fld F.GPIO_CFG_IRQ_MODE b i) (bitOf old i) (bitOf new i) && !(gpioLvds s b i && i % 2 == 1) then
        irqSample (0x600 + 24 * b + i) (s.setFlag F.GPIO_EVT_EVT b 0 i)
      else s) s1

end Sys2Proof.Machine
end

