-- ==== Sys2Proof/Machine/Boot.lean ====
section
/-!
DEFINITION. The release of CC0 into the boot ROM and what the ROM does (R238, R263 to R267, Tables 8.6 and 8.7), and
the control-core window onto LIM and LDM (R729).
-/
namespace Sys2Proof.Machine

/-- `n` bytes of a flash slot from offset `o`; an erased byte reads 0xFF. -/
def flashBytes (slot : List Byte) (o n : Nat) : List Byte :=
  let x := slice slot o n
  x ++ List.replicate (n - x.length) 0xFF

/-- A field of a boot record. -/
def recField (slot : List Byte) (o n : Nat) : Nat := ofBytesLE (flashBytes slot o n)

/-- LIM_LEN, LDM_LEN, SIG and TOTAL_LEN of a boot record (Table 8.6). -/
def recLim (slot : List Byte) : Nat := recField slot 0x08 4
def recLdm (slot : List Byte) : Nat := recField slot 0x0C 4
def recSig (slot : List Byte) : Nat := recField slot 0x06 2 % 2
def recTotal (slot : List Byte) : Nat := 64 + recLim slot + recLdm slot + 320 * recSig slot + 64

/-- The result code of a record's header (R266, R267), in the order of the codes: 1 BADMAGIC, 2 BADVER, 3 WRONGDEV,
4 BADLEN; 0 when the header passes. Log entry 12. -/
def recHeader (s : State) (slot : List Byte) : Nat :=
  let rev := s.fld F.REVISION
  if recField slot 0 4 ≠ 0x544F4F42 then 1
  else if recField slot 4 2 ≠ 1 then 2
  else if recField slot 0x18 4 ≠ 0x9648 ∨ rev < recField slot 0x14 2 ∨ recField slot 0x16 2 < rev then 3
  else if recField slot 0x06 2 / 2 ≠ 0 ∨ recLim slot % 64 ≠ 0 ∨ recLim slot < 64 ∨ 0xC000 < recLim slot ∨
    recLdm slot % 64 ≠ 0 ∨ 0xF000 < recLdm slot ∨ recField slot 0x10 4 % 4 ≠ 0 ∨ recLim slot ≤ recField slot 0x10 4 ∨
    recField slot 0x1C 4 ≠ recTotal slot ∨ (flashBytes slot 0x20 32).any (· != 0) then 4
  else 0

/-- The result code of the rest of a record whose header passes: 5 CRC, 6 SIG, 7 UNSIGNED; 0 when it passes (R266). -/
def recBody (s : State) (slot : List Byte) : Nat :=
  let n := recTotal slot
  let t := n - 64
  let sg := t - 320
  if recField slot t 4 ≠ 0x444E4558 ∨ recField slot (t + 8) 8 ≠ n ∨ (flashBytes slot (t + 4) 4).any (· != 0) ∨
    (flashBytes slot (t + 0x10) 0x2C).any (· != 0) ∨ recField slot (t + 0x3C) 4 ≠ crc32c (flashBytes slot 0 (n - 4)) then 5
  else if s.fld F.CFG_POLICY_DIG_PRESENT = 0 then 0
  else if recSig slot = 0 then 7
  else if signatureOk s (flashBytes slot 0 sg) (flashBytes slot sg 320) then 0 else 6

/-- The ROM copies a record's code and data into CC0's LIM and LDM (R266). -/
def recCopy (c : Nat) (slot : List Byte) (s : State) : State :=
  (s.wrBytes (aPriv c 0) (flashBytes slot 0x40 (recLim slot))).wrBytes (aPriv c 0x1_0000)
    (flashBytes slot (0x40 + recLim slot) (recLdm slot))

/-- The ROM zeroes what it copied (R267). -/
def recUncopy (c : Nat) (slot : List Byte) (s : State) : State :=
  (s.zeroRange (aPriv c 0) (recLim slot)).zeroRange (aPriv c 0x1_0000) (recLdm slot)

/-- The base of the LIM as a core address (R246). -/
def limBase : Nat := 0x2008_00E0_0000_0000

/-- A slot has passed: the ROM cleans up and enters the program, and the overlay ends (R267). What the ROM leaves in
NZCV, RETIRED and CC_PC is a free value. -/
def bootPass (c k : Nat) (slot : List Byte) (s : State) : State :=
  let (v, s1) := s.fresh
  let (w, s2) := s1.fresh
  let s3 := s2.zeroRange (aPriv c 0x1_F000) 0x1000
  let s4 := ((((s3.setFld F.FLAGS_NZCV c 0 (v.toNat % 16)).setFld F.RETIRED c 0 w.toNat).setFld F.CC_PC_PC c 0
    (limBase + 0xC000 + v.toNat / 16 % 4096 * 4)).clrFld F.WSTATE_CWP c).clrFld F.WSTATE_WDEPTH c
  let s5 := (((s4.setFld F.TBASE_BASE c 0 (limBase / 2048)).setBit F.CCFG_LIMRO c).clrFld F.PSTATE_IE c).setFld F.CC_STATUS_STATE c 0 1
  let s6 := (s5.setBit F.BOOT_STATUS_DONE).setFld F.BOOT_STATUS_SLOT 0 0 k
  { s6 with vc := s6.vc.set c { pc := BitVec.ofNat 64 (limBase + recField slot 0x10 4) }, romOverlay := false, startup := false }

/-- Both slots have failed: BOOT_STATUS.FAILED is set and CC0 waits with IE = 0 and PWR_MODE at IDLE inside the ROM, where it stays
until it is reset (R267). Its registers and the ROM's working data hold free values. -/
def bootFail (c : Nat) (s : State) : State :=
  let n := s.freeCtr
  let s1 := { s with freeCtr := n + 700 }
  let s2 := s1.wrBytes (aPriv c 0x1_F000) ((List.range 512).flatMap (fun j => bytesLE 8 (Config.freeValue (n + j)).toNat))
  let rs : SMap Word := (List.range 175).foldl (fun m j => m.set (j + 1) (Config.freeValue (n + 512 + j))) {}
  let s3 := venterWait c ((s2.setBit F.BOOT_STATUS_FAILED).setFld F.PWR_MODE_MODE 0 0 0)
  let s4 := ((s3.setFld F.FLAGS_NZCV c 0 (Config.freeValue (n + 688)).toNat).setFld F.RETIRED c 0 (Config.freeValue (n + 689)).toNat).setFld
    F.CC_PC_PC c 0 (limBase + 0xC000 + (Config.freeValue (n + 690)).toNat % 4096 * 4)
  { s4 with vc := s4.vc.set c { pc := BitVec.ofNat 64 (limBase + 0xC000 + ((Config.freeValue (n + 690)).toNat % 4096 + 1) % 4096 * 4), regs := rs, romWait := true },
            startup := false }

/-- The ROM checks one slot (R266): its result code, and the state with what it copied. -/
def bootSlot (c : Nat) (slot : List Byte) (s : State) : Nat × State :=
  let h := recHeader s slot
  if h ≠ 0 then (h, s)
  else
    let b := recBody s slot
    (b, recCopy c slot s)

/-- R238, R263 to R267. After the fill of R134, hardware releases CC0 into the boot ROM, which tries slot A and then
slot B of the flash, whose contents are the operands; each record is one read with command 0x13 (R264). A failed CC0 is replaced, and with a failed boot ROM, SRS3 or SRS4
no core is released (R703). -/
def execCc0Release (slotA slotB : List Byte) (s : State) : Res :=
  let c := bootCore s
  .next (if !s.startup || !s.vin || s.dev != .run || c == 8 || privBad s 4 || privBad s 5 || privBad s 6 then s
  else
    let (ca, s1) := bootSlot c slotA (s.emit (.xspiRead 0x13 0))
    if ca = 0 then bootPass c 0 slotA s1
    else
      let s2 := (if recHeader s slotA = 0 then recUncopy c slotA s1 else s1).setFld F.BOOT_STATUS_CODE_A 0 0 ca
      let (cb, s3) := bootSlot c slotB (s2.emit (.xspiRead 0x13 0x8_0000))
      if cb = 0 then bootPass c 1 slotB s3
      else bootFail c (s3.setFld F.BOOT_STATUS_CODE_B 0 0 cb))

/-! ### The window onto LIM and LDM (R729) -/

/-- An access of `n` bytes at control-core window offset `off`: the status and data of the response, and the state. -/
def ccWindow (c off n : Nat) (wr : Bool) (data : List Byte) (s : State) : Nat × List Byte × State :=
  if (n ≠ 4 ∧ n ≠ 8) ∨ off % n ≠ 0 then (eACCESS, [], s)
  else
    let a := aPriv c (off - 0x2_0000)
    if wr then (0, [], s.wrBytes a (data.take n)) else (0, s.rdBytes a n, s)

/-- R729. Initiator `init` accesses core `c`'s LIM (window offsets 0x2_0000 on) or LDM (0x3_0000 on). -/
def execCcWindowMemoryAccess (init c off n : Nat) (wr : Bool) (data : List Byte) (s : State) : Res :=
  .next (if c < 8 && 0x2_0000 ≤ off && off < 0x4_0000 then
    let (st, d, s1) := ccWindow c off n wr data s
    s1.emit (.reply init st d)
  else s)

end Sys2Proof.Machine
end

