-- ==== Sys2Proof/Machine/Intake.lean ====
section
/-!
DEFINITION. Program packages, the intake units, LNEXT and LEXIT (R296 to R301), and the reset of a control core (R239, R295,
R301).
-/
namespace Sys2Proof.Machine

/-- Changes the intake unit of core `c`. -/
def State.updIntake (s : State) (c : Nat) (f : Intake → Intake) : State := { s with intake := s.intake.upd c f }

/-- The number of entries of a submission or completion ring (Table 9.10). -/
def lpqSize (s : State) (c : Nat) : Nat := 2 ^ min 12 (s.fld F.LPQ_CFG_LOG2N c)
def lcqSize (s : State) (c : Nat) : Nat := 2 ^ min 12 (s.fld F.LCQ_CFG_LOG2N c)

/-- The program areas of core `c` as (start, bytes): they end at 64 KiB (Table 9.10). -/
def limArea (s : State) (c : Nat) : Nat × Nat :=
  let o := s.fld F.CC_PROG_LIM_OFF c * 4096
  (o, min (min 16 (s.fld F.CC_PROG_LIM_PAGES c) * 4096) (0x1_0000 - o))
def ldmArea (s : State) (c : Nat) : Nat × Nat :=
  let o := s.fld F.CC_PROG_LDM_OFF c * 4096
  (o, min (min 16 (s.fld F.CC_PROG_LDM_PAGES c) * 4096) (0x1_0000 - o))

/-- The result code of a package's header (R296, R266). -/
def pkgHeader (s : State) (c : Nat) (h : List Byte) : Nat :=
  let rev := s.fld F.REVISION
  if recField h 0 4 ≠ 0x4750_504C then 1
  else if recField h 4 2 ≠ 1 then 2
  else if recField h 0x18 4 ≠ 0x9648 ∨ rev < recField h 0x14 2 ∨ recField h 0x16 2 < rev then 3
  else if recField h 0x06 2 / 2 ≠ 0 ∨ recLim h % 64 ≠ 0 ∨ recLim h < 64 ∨ (limArea s c).2 < recLim h ∨
    recLdm h % 64 ≠ 0 ∨ (ldmArea s c).2 < recLdm h ∨ recField h 0x10 4 % 4 ≠ 0 ∨ recLim h ≤ recField h 0x10 4 ∨
    recField h 0x1C 4 ≠ recTotal h ∨ (flashBytes h 0x20 32).any (· != 0) then 4
  else 0

/-- The intake copies what it has read of a package's code and data into the program areas (R297). -/
def pkgCopy (c : Nat) (h body : List Byte) (s : State) : State :=
  (s.wrBytes (aPriv c (limArea s c).1) (body.take (recLim h))).wrBytes (aPriv c (0x1_0000 + (ldmArea s c).1))
    ((body.drop (recLim h)).take (recLdm h))

/-- An entry or package fails: its completion waits to be written (R297). -/
def intakeFail (c code : Nat) (s : State) : State :=
  ((s.setFld F.LP_STATUS_STATE c 0 0).setFld F.LP_STATUS_LAST_CODE c 0 code).updIntake c (fun k =>
    { k with waiting := k.waiting ++ [(k.tag, 0, code, k.irq)] })

/-- The intake unit of a core has its clock. -/
def intakeRuns (s : State) : Bool := s.dev = .run && domRuns s 1 && domRuns s 0

/-- R299. The intake takes the entry at LPQ_HEAD and begins to read its package. -/
def execIntakeTakeEntry (c : Nat) (s : State) : Res :=
  .next (
    let n := lpqSize s c
    let hd := s.fld F.LPQ_HEAD_HEAD c % n
    if !(c < 8 && intakeRuns s && s.bit F.LPQ_CFG_EN c && hd != s.fld F.LPQ_TAIL_TAIL c % n && s.fld F.LP_STATUS_STATE c == 0 &&
      (s.intake.get c).waiting.isEmpty) || engWaits s (initCc c) (s.fld F.LPQ_BASE_BASE c * 64 + 64 * hd) 64 then s
    else
      let (e, _, d, s1) := engRead (initCc c) (s.fld F.LPQ_BASE_BASE c * 64 + 64 * hd) 64 s
      let s2 := (s1.setFld F.LPQ_HEAD_HEAD c 0 ((hd + 1) % n)).setFld F.LP_STATUS_STATE c 0 1
      if e ≠ 0 then
        let (v, s3) := s2.fresh
        intakeFail c 8 (s3.updIntake c (fun k => { k with tag := v.toNat, irq := false }))
      else s2.updIntake c (fun k => { k with tag := fieldLE d 8 8, irq := bitOf (fieldLE d 0x10 4) 0, pkg := fieldLE d 0 8 }))

/-- LNEXT hands a verified program to the core: it is active from then on (R298). -/
def programGive (c rd : Nat) (s : State) : State :=
  vretire c ((s.vset c rd (BitVec.ofNat 64 (s.intake.get c).entry)).setFld F.LP_STATUS_STATE c 0 3)

/-- A core that waits in LNEXT goes on when a program is ready. -/
def programWake (c : Nat) (s : State) : State :=
  match (s.vc.get c).wait with
  | .lnext rd => programGive c rd s
  | _ => s

/-- R297. The intake reads the package, copies it into the program areas and checks it: it is ready, or it fails. -/
def execIntakePackageChecked (c : Nat) (s : State) : Res :=
  .next (
    let a := (s.intake.get c).pkg
    if !(c < 8 && intakeRuns s && s.fld F.LP_STATUS_STATE c == 1) then s
    else if a % 64 ≠ 0 ∨ 2 ^ 52 ≤ a then intakeFail c 8 s
    else if engWaits s (initCc c) a 64 then s
    else
      let (e, _, h, s1) := engRead (initCc c) a 64 s
      let hc := pkgHeader s1 c h
      if e ≠ 0 then intakeFail c 8 s1
      else if hc ≠ 0 then intakeFail c hc s1
      else if engWaits s1 (initCc c) (a + 64) (recTotal h - 64) then s
      else
        let (e2, _, body, s2) := engRead (initCc c) (a + 64) (recTotal h - 64) s1
        let s3 := pkgCopy c h body s2
        let bc := recBody s3 (h ++ body)
        if e2 ≠ 0 then intakeFail c 8 s3
        else if bc ≠ 0 then intakeFail c bc s3
        else
          let s4 := (s3.setFld F.LP_STATUS_STATE c 0 2).setFld F.LP_STATUS_LAST_CODE c 0 0
          programWake c (s4.updIntake c (fun k => { k with entry := limBase + (limArea s4 c).1 + recField h 0x10 4 })))

/-- R298. LNEXT: it waits, and may be interrupted, until a verified program is ready; ACTIVE while one is active. -/
def execLnext (c rd rs1 mbz : Nat) (s : State) : Res :=
  loomOp c (if rs1 = 0 then mbz else 1) (fun s =>
    if s.fld F.LP_STATUS_STATE c = 3 then vtrapAt c cLOOM 0 (s.vget c rs1) 4 s
    else if s.fld F.LP_STATUS_STATE c = 2 then programGive c rd s
    else s.updVc c (fun k => { k with wait := .lnext rd })) s

/-- R300. LEXIT waits for the core's accesses, then for its completion entry; with no active program it does nothing. -/
def execLexit (c rd rs1 mbz : Nat) (s : State) : Res :=
  loomOp c (if rd = 0 then mbz else 1) (fun s =>
    if s.fld F.LP_STATUS_STATE c ≠ 3 then vretire c s
    else vdrained c (s.updVc c (fun k => { k with wait := .lexitDrain ((s.vget c rs1).toNat % 2 ^ 32) }))) s

/-- Writes a completion entry at LCQ_TAIL and advances it (Table 9.9); the core's loom-program source rises when the entry
asked for it. -/
def completionPut (c : Nat) (e : Nat × Nat × Nat × Bool) (s : State) : State :=
  let n := lcqSize s c
  let t := s.fld F.LCQ_TAIL_TAIL c % n
  let d := bytesLE 8 e.1 ++ bytesLE 4 e.2.1 ++ bytesLE 1 e.2.2.1 ++ [0, 0, BitVec.ofNat 8 (ofBool (!(s.intake.get c).odd))]
  let s1 := (engWrite (initCc c) (s.fld F.LCQ_BASE_BASE c * 16 + 16 * t) d s).2
  let s2 := (s1.setFld F.LCQ_TAIL_TAIL c 0 ((t + 1) % n)).updIntake c (fun k => if t + 1 = n then { k with odd := !k.odd } else k)
  if e.2.2.2 then irqEdge (3 + 4 * c) s2 else s2

/-- R300. A completion entry is written once the ring has room: one of the intake's, else that of the LEXIT that waits. -/
def execCompletionEntryWrite (c : Nat) (s : State) : Res :=
  .next (
    let n := lcqSize s c
    let full := (s.fld F.LCQ_TAIL_TAIL c + 1) % n == s.fld F.LCQ_HEAD_HEAD c % n
    let k := s.intake.get c
    if !(c < 8 && intakeRuns s) || full || engWaits s (initCc c) (s.fld F.LCQ_BASE_BASE c * 16 + 16 * (s.fld F.LCQ_TAIL_TAIL c % n)) 16 then s
    else match k.waiting with
      | e :: rest => completionPut c e (s.updIntake c (fun k => { k with waiting := rest }))
      | [] =>
        match (s.vc.get c).wait with
        | .lexit v =>
          vretire c ((completionPut c (k.tag, v, 0, k.irq) s).setFld F.LP_STATUS_STATE c 0 0)
        | _ => s)

/-- CC_CTL.RESET with the core's slots and intake (R239, R295, R301): an active program ends with CODE 0x09; the ring and
area registers are kept, and the head and tail registers return to 0. Entries that have not been written yet are still written:
R301 drops none (log entry 48). -/
def coreReset (c : Nat) (s : State) : State :=
  let active := s.fld F.LP_STATUS_STATE c == 3
  let k := s.intake.get c
  let s1 := loomCoreReset c (vreset c s)
  let s2 := forL [F.LPQ_TAIL_TAIL, F.LPQ_HEAD_HEAD, F.LCQ_TAIL_TAIL, F.LCQ_HEAD_HEAD, F.LP_STATUS_STATE, F.LP_STATUS_LAST_CODE]
    (fun f s => s.clrFld f c) s1
  { s2 with intake := s2.intake.set c { waiting := k.waiting ++ if active then [(k.tag, 0, 9, k.irq)] else [] } }

/-- R239. CC_CTL.RESET. -/
def execCcReset (c : Nat) (s : State) : Res := .next (if c < 8 then coreReset c s else s)

end Sys2Proof.Machine
end

