-- ==== Sys2Proof/Machine/Frames.lean ====
section
/-!
DEFINITION. Frames and the essential-bits map (R160 to R169, R192), the unconfigured state (R97), and how a region is
taken, finished and erased (Table 6.12, R187, R188, R313).
-/
namespace Sys2Proof.Machine

/-! ### Frames -/

/-- The selvage's number among the owners of frames (R160). -/
def selvage : Nat := 768

/-- Reserved frames of a bay (Table 6.1). -/
def frameReserved (f : Nat) : Bool := (1852 ≤ f && f < 1856) || 1872 ≤ f
/-- Content frames. -/
def frameContent (f : Nat) : Bool := 1408 ≤ f && f < 1792

/-- A frame whose field of `w` bits at `lo` holds a code above `max` is loaded with `x` there (R163). -/
def codeLoad (v lo w max x : Nat) : Nat := if bitsOf v lo w ≤ max then v else v - bitsOf v lo w * 2 ^ lo + x * 2 ^ lo

/-- A frame of a bay as it is stored: bits without a field are 0 (R163, Tables 6.3 and 6.4, R169), and reserved field codes are
loaded as their chapters state: DSEL, WMODE, WIN, PREOP and RND 0b11 as 0b00, OP from 0xA as 0x0, SHIFT above 32 as 32 (R62, R107, R137). -/
def frameMasked (f : Nat) (d : List Byte) : List Byte :=
  let v := ofBytesLE d
  if f < 1024 then
    let n := (List.range 16).foldl (fun v i => codeLoad v (26 * i + 17) 2 2 0) v
    if n = v then d else bytesLE 256 n
  else if 1792 ≤ f ∧ f < 1816 then
    bytesLE 256 (codeLoad (codeLoad (codeLoad (v % 2 ^ 19) 12 2 2 0) 14 2 2 0) 16 2 2 0)
  else if 1816 ≤ f ∧ f < 1848 then
    let w := v % 2 ^ 31 + v / 2 ^ 64 % 2 ^ 768 * 2 ^ 64
    bytesLE 256 (codeLoad (codeLoad (codeLoad (codeLoad w 7 2 2 0) 14 4 9 0) 22 2 2 0) 24 6 32 32)
  else if 1848 ≤ f ∧ f < 1852 then bytesLE 256 (v % 2 ^ 32)
  else d

/-- The stored check bits and CRC of a frame are correct again (R161). -/
def fdiffClear (b f : Nat) (s : State) : State := { s with fdiff := forNMap 33 (fun w m => m.set (aFrameCheck b f w) 0) s.fdiff }
where
  /-- Applies `g` to 0, …, n - 1. -/
  forNMap (n : Nat) (g : Nat → SMap Nat → SMap Nat) (m : SMap Nat) : SMap Nat := (List.range n).foldl (fun m i => g i m) m

/-- A frame is stored with correct check bits and CRC (R161, R163, R164). -/
def frameStore (b f : Nat) (d : List Byte) (s : State) : State :=
  if b = selvage then fdiffClear b f (s.wrBytes (aFrame b f 0) d)
  else if frameContent f then s.wrBytes (aBlock b ((f - 1408) / 16) ((f - 1408) % 16 * 256)) d
  else if frameReserved f then s
  else fdiffClear b f (s.wrBytes (aFrame b f 0) (frameMasked f d))

/-- The engine writes a frame: a slice frame loads its coefficients into both banks (R154, R168). -/
def frameWrite (b f : Nat) (d : List Byte) (s : State) : State :=
  let s1 := frameStore b f d s
  if b = selvage then s1
  else
    if 1816 ≤ f ∧ f < 1848 then
      let v := ofBytesLE (frameMasked f d)
      { s1 with slices := s1.slices.upd (b * 32 + (f - 1816)) (fun k =>
          { k with coef := (List.range 32).foldl (fun m i => m.set i (bitsOf v (64 + 24 * i) 24)) k.coef }) }
    else s1

/-- The bytes of a frame as stored; a content frame's are those of its block (R164). -/
def frameBytes (s : State) (b f : Nat) : List Byte :=
  if b ≠ selvage ∧ frameContent f then s.rdBytes (aBlock b ((f - 1408) / 16) ((f - 1408) % 16 * 256)) 256
  else s.rdBytes (aFrame b f 0) 256

/-- The engine writes a map frame (R192). -/
def mapWrite (b f : Nat) (d : List Byte) (s : State) : State :=
  { s.wrBytes (aMap b f 0) (d.map (fun x => ~~~x)) with fdiff := s.fdiff.set (aFrameCheck b f 33) 0 }

/-- Zero to every frame and block of a bay, or of the selvage, and its map to ones (R188). -/
def framesZero (b : Nat) (s : State) : State :=
  let n := if b = selvage then 65536 else 2048
  let s1 := (s.zeroRange (aFrame b 0 0) (n * 256)).zeroRange (aMap b 0 0) (n * 256)
  let s2 := { s1 with fdiff := s1.fdiff.cut (aFrameCheck b 0 0) (n * 64) }
  if b = selvage then s2
  else { s2.zeroRange (aBlock b 0 0) (24 * 4096) with slices := s2.slices.cut (b * 32) 32 }

/-! ### The unconfigured state (R97) -/

/-- Fields of the bay window that keep their values when a bay returns to the state of R97. -/
def bayKeptFields : List Field :=
  [F.BAY_POISON_CNT_COUNT, F.BAY_MEM_CE_CNT_COUNT, F.BAY_MEM_UE_CNT_COUNT, F.BAY_MEM_LOG_VALID, F.BAY_MEM_LOG_UE, F.BAY_MEM_LOG_PATH,
   F.BAY_MEM_LOG_BLOCK, F.BAY_MEM_LOG_BYTE]
def bayKept (f : Field) : Bool := bayKeptFields.any (fun g => g.id == f.id)

/-- A bay's unit header returns to its reset values, and nothing is staged. -/
def headerClear (hu : Nat) (s : State) : State :=
  forL [F.STAGE_CTL_POLICY, F.STAGE_PICK_PICK, F.UNIT_STATUS_COLLIDE, F.UNIT_STATUS_ARMED, F.UNIT_STATUS_SPLIT, F.UNIT_STATUS_LATE]
    (fun f s => s.resetFld f hu 0) (s.discard hu)

/-- The registers of a bay's window return to their reset values (R97). -/
def bayRegsClear (b : Nat) (s : State) : State :=
  forL (regsOf .bay) (fun r s => forL r.fields (fun f s =>
    if bayKept f then s else forN (max 1 r.count * f.reps) (fun i s => s.resetFld f b i) s) s) (headerClear (hdrOf 2 b) s)

/-- The user state of a bay is that of zero frames: flip-flops, boundary registers, slices, block outputs. -/
def bayUserClear (b : Nat) (s : State) : State :=
  { s with strobe := s.strobe.set b 0, laneAtt := s.laneAtt.keep (fun l _ => laneBay l != b), ffs := s.ffs.cut (b * 1024) 1024, ffWait := s.ffWait.cut (b * 1024) 1024, bregs := s.bregs.cut (b * 32) 32,
           slices := s.slices.cut (b * 32) 32, missed := s.missed.set b 0, blkOut := s.blkOut.cut (b * 48) 48,
           blkWb := s.blkWb.cut (b * 24) 24, keepForm := s.keepForm.filter (· != b), bayq := s.bayq.set b [],
           gpioAtt := s.gpioAtt.keep (fun k _ => gpioBay (k / 2) (k % 2) != b) }

/-- A bay returns to the unconfigured state (R97). -/
def bayClean (b : Nat) (s : State) : State := bayRegsClear b (bayUserClear b (framesZero b s))

/-- A bay that loses its supply keeps nothing: every field that it holds returns to its reset value (R61). -/
def bayLost (b : Nat) (s : State) : State := forL bayKeptFields (fun f s => s.resetFld f b 0) (bayClean b s)

/-! ### Boundary groups (R75, R76, R313) -/

/-- The enable field of a side. -/
def sideEn (d : Nat) : Field :=
  match d with
  | 0 => F.BAY_BOUNDARY_WEST_EN
  | 1 => F.BAY_BOUNDARY_SOUTH_EN
  | 2 => F.BAY_BOUNDARY_EAST_EN
  | _ => F.BAY_BOUNDARY_NORTH_EN

/-- Sets the enables of the groups from a bay to a neighbour: those that are requested and whose two ends bind one line. -/
def sideSet (b d n : Nat) (s : State) : State :=
  let on (g : Nat) : Bool :=
    let k := groupClk s b (8 * d + g)
    groupUse s b (8 * d + g) && bayBound s b k && bayBound s n k && bayLine s b k == bayLine s n k
  s.setFld (sideEn d) b 0 ((List.range 8).foldl (fun a g => a + ofBool (on g) * 2 ^ g) 0)

/-- Enables the groups between the bays of instance `i`, and between them and its linked partners, both ways. -/
def boundarySet (i : Nat) (s : State) : State :=
  match instOf s i with
  | none => s
  | some k => forL k.bays (fun b s => forN 4 (fun d s =>
      match bayNext b d with
      | none => s
      | some n =>
        let o := s.fld F.BAY_STATUS_OWNER n
        if o = i then sideSet b d n s
        else if k.links.contains o then sideSet n ((d + 2) % 4) b (sideSet b d n s) else s) s) s

/-- The link of a pair ends: every group between them is disabled (R313). -/
def unlink (i : Nat) (s : State) : State :=
  match instOf s i with
  | none => s
  | some k =>
    let s1 := forL k.bays (fun b s => forN 4 (fun d s =>
      match bayNext b d with
      | some n => if k.links.contains (s.fld F.BAY_STATUS_OWNER n) then (s.clrFld (sideEn ((d + 2) % 4)) n).clrFld (sideEn d) b else s
      | none => s) s) s
    updInst i (fun k => { k with links := [] }) (forL k.links (fun p s => updInst p (fun q => { q with links := q.links.filter (· != i) }) s) s1)

/-! ### Regions -/

/-- The lines in the bindings of an instance that is loading (R634). -/
def bindLines (k : Skein) : List Nat := (List.range 8).filterMap (fun j => if bitOf k.clkUsed j then some (k.bind.getD j 0xFF) else none)

/-- Power management turns a bay on for a load (R672). -/
def bayTurnOn (b : Nat) (s : State) : State :=
  let s1 := s.setFld F.PWR_BAY_REQ_REQ 0 b 2
  if bayOn s b || s.fld F.PWR_BAY_STATE_STATE 0 b = 3 then s1
  else { s1.setFld F.PWR_BAY_STATE_STATE 0 b 3 with bayFrom := s.bayFrom.set b (s.fld F.PWR_BAY_STATE_STATE 0 b) }

/-- Step 3 of a load: holds, clocks unbound, LOADED and BAY_BOUNDARY cleared, the map all ones (R184, R192, R672). -/
def regionTake (i : Nat) (s : State) : State :=
  match instOf s i with
  | none => s
  | some k =>
    let s1 := forL k.bays (fun b s =>
      let s1 := bayHoldAll b (bayTurnOn b s)
      let s2 := forN 8 (fun j s => (s.clrFld F.BAY_CLK_BIND_BOUND b j).clrFld F.BAY_CLK_BIND_LINE b j) s1
      let s3 := forN 4 (fun d s => s.clrFld (sideEn d) b) (s2.clrFld F.BAY_STATUS_LOADED b)
      { s3.zeroRange (aMap b 0 0) (2048 * 256) with fdiff := s3.fdiff.keep (fun q _ => !(q / 64 / 0x1_0000 == b && q % 64 == 33)) }) s
    let s2 := if k.bolt then
        { s1.zeroRange (aMap selvage 0 0) (65536 * 256) with fdiff := s1.fdiff.keep (fun q _ => !(q / 64 / 0x1_0000 == selvage && q % 64 == 33)) }
      else s1
    { s2 with loadLines := bindLines k }

/-- The bays whose attach ports an instance's anchors use (Table 6.7). -/
def Skein.anchorBays (k : Skein) : List Nat :=
  k.anchors.flatMap (fun a =>
    let b := (k.r + fieldLE a 3 1) * 24 + k.c + fieldLE a 2 1
    let b2 := if fieldLE a 1 1 < 2 then b + 1 else b + 24
    (if bitOf (fieldLE a 5 1) 0 then [b] else []) ++ (if bitOf (fieldLE a 5 1) 1 then [b2] else []))

/-- The bindings and the identity of an instance are written into its bays (R79, R187). -/
def regionBind (i : Nat) (s : State) : State :=
  match instOf s i with
  | none => s
  | some k => forL k.bays (fun b s =>
      let s1 := forN 8 (fun j s =>
        if bitOf k.clkUsed j then (s.setBit F.BAY_CLK_BIND_BOUND b j).setFld F.BAY_CLK_BIND_LINE b j (k.bind.getD j 0) else s) s
      (((s1.setFld F.BAY_STATUS_OWNER b 0 i).setFld F.BAY_STATUS_DX b 0 (b % 24 - k.c)).setFld F.BAY_STATUS_DY b 0 (b / 24 - k.r)).setFld
        F.BAY_STATUS_ANCHORED b 0 (ofBool (k.anchorBays.contains b))) s

/-- A slice whose cascade input would cross clocks is loaded with ZSEL 0b11 (R148). -/
def zselLoad (b i : Nat) (s : State) : State :=
  if slcCfg s b i 18 2 = 1 ∧ slcZsel s b i = 3 then
    frameStore b (1816 + i) (bytesLE 256 (codeLoad (ofBytesLE (s.rdBytes (aFrame b (1816 + i) 0) 256)) 18 2 0 3)) s
  else s

/-- The clock inputs of a bay that run deliver edges under hold: they take stage 3 (R94). -/
def bayEdges (b : Nat) (s : State) : State := forN 8 (fun k s => if bayClk s b k then bayFirstEdge b k s else s) s

/-- A load sets the slice banks (R154) and BAY_SCRUB (R346) of a bay. -/
def bayFinish (b : Nat) (s : State) : State :=
  let s := bayEdges b (forN 32 (zselLoad b) s)
  let s1 := forL [F.BAY_COEF_ACT_ACT, F.BAY_COEF_ACT_PEND, F.BAY_COEF_SEL_SEL, F.BAY_SLICE_FLAG_OVF, F.BAY_SLICE_FLAG_YOV]
    (fun f s => s.clrFld f b) { s with staged := s.staged.filter (fun g => !g.isOf F.BAY_COEF_SEL_SEL b 0) }
  (s1.setFld F.BAY_SCRUB_CE_IRQ b 0 (s1.fld F.SCRUB_DEF_CE_IRQ)).setFld F.BAY_SCRUB_UE_ACT b 0 (s1.fld F.SCRUB_DEF_UE_ACT)

/-- Step 8: the region is finished (R187, R313). -/
def regionFinish (i : Nat) (s : State) : State :=
  match instOf s i with
  | none => s
  | some k =>
    let ps := k.partners.filter (fun p => match instOf s p with | some q => q.ostate == oLOADED | none => false)
    let s1 := forL k.bays bayFinish (regionBind i s)
    let s2 := forL ps (fun p s => updInst p (fun q => { q with links := q.links ++ [i] }) s) (updInst i (fun q => { q with links := ps }) s1)
    let s3 := instState i oLOADED (boundarySet i s2)
    { forL k.bays (fun b s => s.setBit F.BAY_STATUS_LOADED b) s3 with loadLines := [] }

/-- A region is erased and freed: its bays return to the state of R97, its spools, links and number are given up (R188,
R284, R323). -/
def regionErase (i : Nat) (s : State) : State :=
  match instOf s i with
  | none => s
  | some k =>
    let s1 := forL k.bays bayClean (instSpoolsDrop i (unlink i s))
    let s2 := if k.bolt then framesZero selvage s1 else s1
    { forL k.bays (markBay 0 oFREE) s2 with insts := s2.insts.set i none }

/-- What no initiator wrote becomes undefined in the bays of an aborted load (R189): of it, only the block configurations
can be seen, through the window path. -/
def bayUndef (b : Nat) (s : State) : State :=
  forN 24 (fun k s => let (d, s1) := s.freshBytes 4; frameWrite b (1792 + k) (d ++ List.replicate 252 0) s1) s

end Sys2Proof.Machine
end

