-- ==== Sys2Proof/Machine/Image.lean ====
section
/-!
DEFINITION. Loading an image (chapter 6, R279 to R281): the class A checks, sections and records, the envelope, the
trailer, the pass, faults and aborts, and the spools of a load.
-/
namespace Sys2Proof.Machine

/-- The initiator ID of the configuration engine. -/
def initCfg : Nat := 0x4C0

/-- Image fault codes (Table 6.11). -/
def iBADMAGIC : Nat := 1
def iBADVER : Nat := 2
def iWRONGDEV : Nat := 3
def iHDRCRC : Nat := 4
def iBADHDR : Nat := 5
def iPOLICY : Nat := 6
def iNOKEY : Nat := 7
def iNOTFREE : Nat := 8
def iBADSECT : Nat := 9
def iBADREC : Nat := 10
def iSRCERR : Nat := 11
def iCRC : Nat := 12
def iSIG : Nat := 13
def iGCMTAG : Nat := 14
def iABORT : Nat := 15

/-! ### The header (Tables 6.6 and 6.7) -/

/-- Header fields. -/
def ihKind (h : List Byte) : Nat := fieldLE h 6 1
def ihFlag (h : List Byte) (n : Nat) : Bool := bitOf (fieldLE h 7 1) n
def ihLen (h : List Byte) : Nat := fieldLE h 8 8
def ihBolt (h : List Byte) : Bool := ihKind h == 1
def ihW (h : List Byte) : Nat := fieldLE h 0x18 1
def ihH (h : List Byte) : Nat := fieldLE h 0x19 1
def ihClk (h : List Byte) : Nat := fieldLE h 0x1A 1
def ihPrio (h : List Byte) : Nat := fieldLE h 0x1B 1
def ihFmax (h : List Byte) (k : Nat) : Nat := fieldLE h (0x30 + 4 * k) 4
def ihAnchor (h : List Byte) (j : Nat) : List Byte := slice h (0x50 + 8 * j) 8
def ihAnchors (h : List Byte) : List (List Byte) := (List.range (fieldLE h 0x1C 1)).map (ihAnchor h)

/-- An anchor descriptor breaks R172. -/
def anchorBad (w h : Nat) (a : List Byte) : Bool :=
  let kind := fieldLE a 0 1
  let side := fieldLE a 1 1
  let dx := fieldLE a 2 1
  let dy := fieldLE a 3 1
  let u := fieldLE a 4 1
  let fixed := match side with | 0 => dy == 0 | 1 => dy + 1 == h | 2 => dx == 0 | _ => dx + 1 == w
  let lim := if kind = 2 then 9 else if side < 2 then 7 else 15
  (kind != 1 && kind != 2) || 3 < side || (kind == 2 && 1 < side) || !fixed ||
  !(if side < 2 then decide (dx + 1 < w ∧ dy < h) else decide (dx < w ∧ dy + 1 < h)) || (u != 0xFF && lim < u) ||
  4 ≤ fieldLE a 5 1 || fieldLE a 6 2 != 0

/-- The first class A fault of a header in consumption order, as (code, offset of its unit); code 0 when there is none. -/
def headerFault (s : State) (h : List Byte) : Nat × Nat :=
  let n := ihLen h
  let rev := s.fld F.REVISION
  let cnt := fieldLE h 0x1C 1
  let fm (k : Nat) : Bool := !bitOf (ihClk h) k && ihFmax h k != 0
  let tests : List (Nat × Nat × Bool) :=
    [(iBADMAGIC, 0, fieldLE h 0 4 != 0x4D49_4158),
     (iBADVER, 0, fieldLE h 4 2 != 1),
     (iBADHDR, 0, (ihKind h != 1 && ihKind h != 2) || 8 ≤ fieldLE h 7 1),
     (iPOLICY, 0, (s.bit F.CFG_POLICY_REQ_SIG && !ihFlag h 1) || (s.bit F.CFG_POLICY_REQ_ENC && !ihFlag h 0)),
     (iBADHDR, 0, n % 64 != 0 || n < 384 || 2 ^ 30 < n),
     (iWRONGDEV, 0, fieldLE h 0x10 4 != 0x9648 || rev < fieldLE h 0x14 2 || fieldLE h 0x16 2 < rev),
     (iBADHDR, 0, !(decide (1 ≤ ihW h ∧ ihW h ≤ 24 ∧ 1 ≤ ihH h ∧ ihH h ≤ 32)) || (ihBolt h && (ihW h != 24 || ihH h != 32 || cnt != 0)) ||
       7 < ihPrio h || 8 < cnt || fieldLE h 0x1D 1 = 0 || fieldLE h 0x1E 2 != 0 || (List.range 4).any fm),
     (iBADHDR, 0x40, (List.range 4).any (fun k => fm (4 + k))),
     (iBADHDR, 0x40, (List.range 6).any (fun j => if j < cnt then anchorBad (ihW h) (ihH h) (ihAnchor h j) else !allZero (ihAnchor h j) 0 8)),
     (iBADHDR, 0x80, (List.range 2).any (fun j => if 6 + j < cnt then anchorBad (ihW h) (ihH h) (ihAnchor h (6 + j)) else !allZero (ihAnchor h (6 + j)) 0 8)),
     (iBADHDR, 0x80, !allZero h 0x90 0x30),
     (iBADHDR, 0xC0, !allZero h 0xC0 0x3C),
     (iHDRCRC, 0xC0, fieldLE h 0xFC 4 != crc32c (h.take 0xFC))]
  ((tests.find? (fun t => t.2.2)).map (fun t => (t.1, t.2.1))).getD (0, 0)

/-- An image address that the engine reads from (R180). -/
def imageAddrOk (a : Nat) : Bool := a % 64 == 0 && isMemTarget a

/-- The first used logical clock whose binding is refused (R280). -/
def clockBad (s : State) (h bind : List Byte) : Option Nat :=
  (List.range 8).find? (fun k => bitOf (ihClk h) k &&
    (let l := (bind.getD k 0).toNat
     l == 0xFF || ihFmax h k < lineKhz s l))

/-! ### The load in progress -/

/-- Changes the load in progress. -/
def updLoad (f : LoadSt → LoadSt) (s : State) : State := { s with load := s.load.map f }

/-- The header of the image in hand. -/
def LoadSt.hdr (l : LoadSt) : List Byte := l.seen.take 256
/-- Bytes consumed. -/
def LoadSt.pos (l : LoadSt) : Nat := l.seen.length
/-- The offset of the trailer. -/
def LoadSt.tail (l : LoadSt) : Nat := ihLen l.hdr - 64

/-- The load ends: LOADING falls. -/
def loadOff (s : State) : State := { s.clrFld F.CFG_LOAD_LOADING with load := none, loadLines := [] }

/-- A fault record (R199). -/
def faultRecord (code off : Nat) (s : State) : State :=
  ((s.setFld F.CFG_FAULT_CODE 0 0 code).setFld F.CFG_FAULT_OFFSET 0 0 off).setEvt F.CFG_FAULT_VALID 0 0 0x045

/-- The engine consumes `n` bytes: the error of R181, or the state with them appended. -/
def loadTake (n : Nat) (s : State) : Option Nat × State :=
  match s.load with
  | none => (none, s)
  | some l =>
    let a := match cmdOf s l.ticket with | some c => c.f 0x10 8 | none => 0
    let (e, off, d, s1) := engRead initCfg (a + l.pos) n s
    let s2 := updLoad (fun l => { l with seen := l.seen ++ d }) s1
    let s3 := s2.setFld F.CFG_LOAD_CONSUMED 0 0 (l.pos + d.length)
    if e ≠ 0 then (some (l.pos + off), s3) else (none, s3)

/-- The next `n` bytes of the image must wait for their targets. -/
def loadWaits (s : State) (n : Nat) : Bool :=
  match s.load with
  | none => false
  | some l => match cmdOf s l.ticket with | some c => engWaits s initCfg (c.f 0x10 8 + l.pos) n | none => false

/-- A class A fault, or one before any region is taken: the command ends with IMAGE. -/
def loadFaultA (code off : Nat) (s : State) : State :=
  match s.load with
  | none => s
  | some l => cmdEnd l.ticket rIMAGE code (loadOff (faultRecord code off s))

/-- A class B fault: the region is written to zero before the fault is reported (R188). -/
def loadFault (code off : Nat) (s : State) : State :=
  updLoad (fun l => { l with part := 3, res := rIMAGE, detail := code, foff := off }) s

/-- The inner sequence of an envelope, or the top level, may hold a section of type `t` now (R173). -/
def seqOk (l : LoadSt) (t : Nat) : Bool := if t = 1 then l.last != 2 else t == 2 && ihFlag l.hdr 2 && l.last == 1

/-- A section header at offset `p` is taken up; false when it breaks R173. -/
def sectHeader (p : Nat) (h : List Byte) (s : State) : Bool × State :=
  match s.load with
  | none => (true, s)
  | some l =>
    let t := fieldLE h 0 2
    let n := fieldLE h 8 8
    let inner := l.envEnd != 0
    let lim := if inner then l.envEnd - 64 else l.tail
    let rsv := allZero h 2 6 && (if t = 3 then allZero h 0x11 15 && allZero h 0x2C 20 else allZero h 0x10 48)
    let fits := n % 64 == 0 && 64 ≤ n && p + n ≤ lim && rsv && (inner || decide (l.tops < fieldLE l.hdr 0x1D 1)) && l.sigAt == 0
    let tops := if inner then l.tops else l.tops + 1
    if !fits then (false, s)
    else if t = 1 ∨ t = 2 then
      (if seqOk l t && (inner || !ihFlag l.hdr 0) then
        (true, updLoad (fun l => { l with secEnd := if n = 64 then 0 else p + n, sec := t, last := t, ebm := l.ebm || t == 2, tops := tops }) s)
       else (false, s))
    else if t = 3 then
      (if ihFlag l.hdr 0 && l.tops == 0 && 128 ≤ n then (true, updLoad (fun l => { l with envEnd := p + n, tops := tops }) s) else (false, s))
    else if t = 4 then
      (if !inner && ihFlag l.hdr 1 && l.last != 0 && n == 320 && p + n == l.tail then (true, updLoad (fun l => { l with sigAt := p, tops := tops }) s)
       else (false, s))
    else (false, s)

/-- The key of an image key slot. -/
def imageKey (s : State) (k : Nat) : List Byte := s.keys.get (64 + k)

/-- The plaintext of `n` bytes at offset `p` of an image: inside an envelope they are decrypted (R176). -/
def loadPlain (s : State) (l : LoadSt) (p n : Nat) : List Byte :=
  let d := slice l.seen p n
  if l.envEnd = 0 then d
  else xorBytes d (gcmStream (imageKey s (fieldLE l.seen 0x110 1)) (slice l.seen 0x120 12) ((p - 320) / 16) n)

/-- R279 to R281, steps 1 and 2: the load of the command `t` begins. -/
def loadStart (c : LCmd) (s : State) : State :=
  if imageAddrOk (c.f 0x10 8) && engWaits s initCfg (c.f 0x10 8) 320 then s else
  let s0 := { s.setBit F.CFG_LOAD_LOADING with load := some { ticket := c.ticket } }.clrFld F.CFG_LOAD_CONSUMED
  if !imageAddrOk (c.f 0x10 8) then loadFaultA iBADHDR 0 s0
  else match loadTake 256 s0 with
    | (some off, s1) => loadFaultA iSRCERR off s1
    | (none, s1) =>
      let h := (s1.load.getD { ticket := 0 }).hdr
      let f := headerFault s1 h
      if f.1 ≠ 0 then loadFaultA f.1 f.2 s1
      else if ihBolt h && (List.range 768).any (fun b => ostate s1 b != oFREE || hstate s1 b == 3) then loadFaultA iNOTFREE 0 s1
      else match loadTake 64 s1 with
        | (some off, s2) => loadFaultA iSRCERR off s2
        | (none, s2) =>
          let sh := slice (s2.load.getD { ticket := 0 }).seen 256 64
          let (ok, s3) := sectHeader 256 sh s2
          if !ok then loadFaultA iBADSECT 256 s3
          else if ihFlag h 0 && (15 < fieldLE sh 0x10 1 || !bitOf (s3.fld F.CFG_IKEY_VALID) (fieldLE sh 0x10 1)) then loadFaultA iNOKEY 256 s3
          else match clockBad s3 h (slice c.desc 0x20 8) with
            | some k => cmdEnd c.ticket rBADCLK k (loadOff s3)
            | none => { s3 with hdq := s3.hdq ++ [c.ticket] }

/-- The regions left by R189 in these bays cease to exist (R279). -/
def regionsCease (bays : List Nat) (s : State) : State :=
  let old := ((bays.filter (fun b => ostate s b == oABORTED)).map (mapOwner s)).eraseDups
  { s with insts := old.foldl (fun m x => m.set x none) s.insts }

/-- A region is marked occupied for a load, and step 3 begins (R184, R304). -/
def loadMark (c : LCmd) (o : Nat × Nat) (partners : List Nat) (s : State) : State :=
  let h := (s.load.getD { ticket := 0 }).hdr
  let i := nextInst s
  let k : Skein := { c := o.1, r := o.2, w := ihW h, h := ihH h, bolt := ihBolt h,
                     prio := if c.flag 5 then c.f 6 1 else ihPrio h, anchors := ihAnchors h,
                     partners := partners, design := slice h 0x20 16, clkUsed := ihClk h,
                     bind := (slice c.desc 0x20 8).map (·.toNat) }
  let s0 := regionsCease k.bays s
  let s1 := { s0 with insts := s0.insts.set i (some k), lastInst := i }
  let s2 := updCmd c.ticket (fun c => { c with inst := i, org := o }) (updLoad (fun l => { l with part := 1 }) s1)
  regionTake i (forL k.bays (markBay i oLOADING) s2)

/-- Heddle's answer to a load. -/
def loadOrigin (c : LCmd) (s : State) : State :=
  let h := (s.load.getD { ticket := 0 }).hdr
  if ihBolt h then loadMark c (0, 0) [] s
  else
    let pin := if c.pin then some (c.f 4 1, c.f 5 1) else none
    match originRequest s pin (ihW h) (ihH h) (if c.flag 5 then c.f 6 1 else ihPrio h) (ihAnchors h) (spoolEntries c.spools) with
    | .inl d => cmdEnd c.ticket rNOFIT d (loadOff s)
    | .inr (q, ps) =>
      match originServe c.core q s with
      | (.inl d, s1) => cmdEnd c.ticket rNOFIT d (loadOff s1)
      | (.inr o, s1) => loadMark c o ps s1

/-! ### Records (R174, R175) -/

/-- A record header breaks R174 or R175, in a section that ends at `lim` after `room` more bytes. -/
def recordBad (l : LoadSt) (r : List Byte) (room : Nat) : Bool :=
  let t := fieldLE r 0 1
  let dx := fieldLE r 2 1
  let dy := fieldLE r 3 1
  let f := fieldLE r 4 4
  let n := fieldLE r 8 4
  let selv := ihBolt l.hdr && dx == 0xFF && dy == 0xFF
  let len := if t = 1 then n * 256 else if t = 2 then 256 else 0
  !((if l.sec = 1 then [1, 2, 3] else [1, 3, 4]).contains t) || fieldLE r 1 1 != 0 || !allZero r 12 52 || n = 0 ||
  !(selv || decide (dx < ihW l.hdr ∧ dy < ihH l.hdr)) || (if selv then 65536 else 2048) < f + n || room < len ||
  (l.sec = 2 && !selv && decide (f < 1792 ∧ 1408 < f + n))

/-- A record takes effect in its region. -/
def recordApply (k : Skein) (l : LoadSt) (r d : List Byte) (s : State) : State :=
  let t := fieldLE r 0 1
  let f := fieldLE r 4 4
  let n := fieldLE r 8 4
  let b := if ihBolt l.hdr && fieldLE r 2 2 == 0xFFFF then selvage else (k.r + fieldLE r 3 1) * 24 + k.c + fieldLE r 2 1
  if l.sec = 1 then
    updLoad (fun l => { l with written := l.written ++ [(b, f, n)] })
      (forN n (fun j s => frameWrite b (f + j) (match t with | 1 => slice d (256 * j) 256 | 2 => d | _ => List.replicate 256 0) s) s)
  else
    forN n (fun j s => mapWrite b (f + j) (match t with
      | 1 => slice d (256 * j) 256 | 4 => List.replicate 256 0xFF | _ => List.replicate 256 0) s) s

/-- The payload length of a record. -/
def recordLen (r : List Byte) : Nat := match fieldLE r 0 1 with | 1 => fieldLE r 8 4 * 256 | 2 => 256 | _ => 0

/-- A record is consumed. -/
def loadRecord (l : LoadSt) (k : Skein) (s : State) : State :=
  match loadTake 64 s with
  | (some off, s1) => loadFault iSRCERR off s1
  | (none, s1) =>
    let r := loadPlain s1 (s1.load.getD l) l.pos 64
    if recordBad l r (l.secEnd - l.pos - 64) then loadFault iBADREC l.pos s1
    else if recordLen r ≠ 0 && loadWaits s1 (recordLen r) then s
    else match loadTake (recordLen r) s1 with
      | (some off, s2) => loadFault iSRCERR off s2
      | (none, s2) =>
        let d := loadPlain s2 (s2.load.getD l) (l.pos + 64) (recordLen r)
        let s3 := recordApply k l r d s2
        if l.pos + 64 + recordLen r = l.secEnd then updLoad (fun l => { l with secEnd := 0 }) s3 else s3

/-- The tag unit of an envelope is consumed; the inner sequence must be whole (R173, R176). -/
def loadTag (l : LoadSt) (s : State) : State :=
  match loadTake 64 s with
  | (some off, s1) => loadFault iSRCERR off s1
  | (none, s1) =>
    if !allZero (slice (s1.load.getD l).seen l.pos 64) 16 48 || l.last = 0 || l.ebm != ihFlag l.hdr 2 then loadFault iBADSECT l.pos s1
    else updLoad (fun l => { l with envEnd := 0 }) s1

/-- A section header is consumed, and the payload of a SIGNATURE section with it. -/
def loadSection (l : LoadSt) (s : State) : State :=
  match loadTake 64 s with
  | (some off, s1) => loadFault iSRCERR off s1
  | (none, s1) =>
    let h := loadPlain s1 (s1.load.getD l) l.pos 64
    let (ok, s2) := sectHeader l.pos h s1
    if !ok then loadFault iBADSECT l.pos s2
    else if fieldLE h 0 2 ≠ 4 then s2
    else if loadWaits s2 256 then s
    else match loadTake 128 s2 with
      | (some off, s3) => loadFault iSRCERR off s3
      | (none, s3) =>
        if !allZero (slice (s3.load.getD l).seen l.pos 320) 0xA1 31 then loadFault iBADSECT (l.pos + 0x80) s3
        else match loadTake 128 s3 with
          | (some off, s4) => loadFault iSRCERR off s4
          | (none, s4) =>
            if allZero (slice (s4.load.getD l).seen l.pos 320) 0x120 32 then s4 else loadFault iBADSECT (l.pos + 0x100) s4

/-- The region of a load is on (R672). -/
def regionOn (s : State) (k : Skein) : Bool := k.bays.all (bayOn s)

/-- The instance of the load in progress. -/
def loadInst (s : State) : Option (LoadSt × LCmd × Skein) :=
  match s.load with
  | none => none
  | some l =>
    match cmdOf s l.ticket with
    | none => none
    | some c => (instOf s c.inst).map (fun k => (l, c, k))

/-- R174. The engine consumes the next record, section header, signature section or tag unit. -/
def execImageRecord (s : State) : Res :=
  .next (match loadInst s with
    | none => s
    | some (l, _, k) =>
      if !cfgRuns s || l.part ≠ 1 || !regionOn s k || loadWaits s 64 then s
      else if l.secEnd ≠ 0 then loadRecord l k s
      else if l.envEnd ≠ 0 ∧ l.pos = l.envEnd - 64 then loadTag l s
      else if l.pos < l.tail then loadSection l s
      else s)

/-- R179. The engine consumes the trailer; the sections must be those that the flags name (R173). -/
def execImageTrailer (s : State) : Res :=
  .next (match loadInst s with
    | none => s
    | some (l, _, _) =>
      if !cfgRuns s || loadWaits s 64 || l.part ≠ 1 || l.secEnd ≠ 0 || l.envEnd ≠ 0 || l.pos ≠ l.tail then s
      else if l.tops ≠ fieldLE l.hdr 0x1D 1 || l.last = 0 || l.ebm != ihFlag l.hdr 2 || (l.sigAt != 0) != ihFlag l.hdr 1 then loadFault iBADSECT l.pos s
      else match loadTake 64 s with
        | (some off, s1) => loadFault iSRCERR off s1
        | (none, s1) =>
          let t := slice (s1.load.getD l).seen l.tail 64
          if fieldLE t 0 4 ≠ 0x444E_4558 || fieldLE t 8 8 ≠ ihLen l.hdr || !allZero t 4 4 || !allZero t 0x10 0x2C then loadFault iBADSECT l.tail s1
          else updLoad (fun l => { l with part := 2 }) s1)

/-- The end-of-image checks, in the order of R183: code and offset, code 0 for a pass. -/
def imageCheck (s : State) (l : LoadSt) : Nat × Nat :=
  let n := ihLen l.hdr
  let env := ihFlag l.hdr 0
  let len := fieldLE l.seen 0x108 8
  let tagAt := 256 + len - 64
  if fieldLE l.seen (n - 4) 4 ≠ crc32c (l.seen.take (n - 4)) then (iCRC, l.tail)
  else if env && gcmTag (imageKey s (fieldLE l.seen 0x110 1)) (slice l.seen 0x120 12) (l.seen.take 320) (slice l.seen 320 (len - 128)) !=
    ofBytesBE (slice l.seen tagAt 16) then (iGCMTAG, tagAt)
  else if ihFlag l.hdr 1 && !signatureOk s (l.seen.take l.sigAt) (slice l.seen l.sigAt 320) then (iSIG, l.sigAt + 0xC0)
  else (0, 0)

/-- Step 6: zero to every frame that no record has written. -/
def loadFill (l : LoadSt) (k : Skein) (s : State) : State :=
  let hit (b f : Nat) : Bool := l.written.any (fun x => x.1 == b && x.2.1 ≤ f && f < x.2.1 + x.2.2)
  let one (b n : Nat) (s : State) : State := forN n (fun f s => if hit b f then s else frameWrite b f (List.replicate 256 0) s) s
  let s1 := forL k.bays (fun b s => one b 2048 s) s
  if k.bolt then one selvage 65536 s1 else s1

/-- The frame work of a load has ended: it completes, or its release begins (R281). -/
def loadFinish (c : LCmd) (s : State) : State :=
  let s1 := loadOff s
  if !c.flag 4 then cmdEnd c.ticket rOK 0 s1
  else if c.atPick && pickPassed s1 c.pick then cmdEnd c.ticket rLATE 0 s1
  else updCmd c.ticket (fun x => { x with phase := if c.atPick then 2 else 1 })
    (holdStart { inst := c.inst, hold := false, pick := if c.atPick then some c.pick else none, ticket := c.ticket + 1 } s1)

/-- The entries of a spool list that Heddle places, from number `n` on. -/
def spoolNext (c : LCmd) (n : Nat) : Option (Nat × List Byte) :=
  let es := spoolEntries c.spools
  ((List.range es.length).find? (fun k => n ≤ k && fieldLE (es.getD k []) 0 1 != 3)).map (fun k => (k, es.getD k []))

/-- The load goes on to its spools, or ends when there is none left. -/
def loadSpools (c : LCmd) (n : Nat) (s : State) : State :=
  if (spoolNext c n).isSome then updLoad (fun l => { l with part := 4, entry := n }) s else loadFinish c s

/-- R187. The image passes, or a check at its end fails. -/
def execImagePass (s : State) : Res :=
  .next (match loadInst s with
    | none => s
    | some (l, c, k) =>
      if !cfgRuns s || l.part ≠ 2 then s
      else
        let e := imageCheck s l
        let s1 := loadFill l k s
        if e.1 ≠ 0 then loadFault e.1 e.2 s1 else gpioShowAll (loadSpools c 0 (regionFinish c.inst s1)))

/-- R188. The zero write of a failed load ends: its region is free, and the fault is reported (R199). -/
def execLoadRegionZeroDone (s : State) : Res :=
  .next (match loadInst s with
    | none => s
    | some (l, c, _) =>
      if !cfgRuns s || (l.part ≠ 3 && l.part ≠ 6) then s
      else
        let s1 := loadOff (regionErase c.inst s)
        let s2 := if l.part = 3 then faultRecord l.detail l.foff s1 else s1
        cmdEnd c.ticket l.res l.detail (updCmd c.ticket (fun c => { c with inst := 0, org := (0, 0) }) s2))

/-- A load ends with ABORT: its region stays held and occupied, with undefined contents (R189). -/
def loadAbort (s : State) : State :=
  match loadInst s with
  | none => s
  | some (l, c, k) =>
    let s1 := instState c.inst oABORTED (forL k.bays (fun b s => (bayUndef b s).clrFld F.BAY_STATUS_LOADED b) s)
    cmdEnd c.ticket rIMAGE iABORT (loadOff (faultRecord iABORT l.pos s1))

/-! ### The spools of a load (R281, R319, R324) -/

/-- Spool placement fails: Heddle releases what this load was given, and the engine erases the region. -/
def loadSpoolFail (c : LCmd) (d : Nat) (s : State) : State :=
  updLoad (fun l => { l with part := 6, res := rSPOOL, detail := d }) (instSpoolsDrop c.inst s)

/-- R319. Heddle places the next NEW or SHARE entry and writes its translation entries, or starts its zero fill. -/
def execSpoolPlacement (s : State) : Res :=
  .next (match loadInst s with
    | none => s
    | some (l, c, k) =>
      if !cfgRuns s || l.part ≠ 4 then s
      else match spoolNext c l.entry with
        | none => loadFinish c s
        | some (n, e) =>
          let bad := entryBad s k e
          if bad ≠ 0 then loadSpoolFail c bad s
          else if fieldLE e 0 1 = 2 then
            let id := fieldLE e 8 4
            let s1 := { s with spools := s.spools.upd id (fun x => x.map (fun y => { y with refs := y.refs + 1 })) }
            loadSpools c (n + 1) (entryMap c.inst id e (updInst c.inst (fun k => { k with spools := k.spools ++ [id] }) s1))
          else
            let (id, s1) := spoolMake c.inst e s
            if bitOf (fieldLE e 1 1) 3 then updLoad (fun l => { l with part := 5, entry := n }) s1
            else loadSpools c (n + 1) (entryMap c.inst id e s1))

/-- R324. The zero fill of the entry in hand ends: its translation entries are written, or the spool is released. -/
def execSpoolZeroFillDone (s : State) : Res :=
  .next (match loadInst s with
    | none => s
    | some (l, c, k) =>
      if !cfgRuns s || l.part ≠ 5 then s
      else match spoolNext c l.entry, k.spools.getLast? with
        | some (n, e), some id =>
          if spoolWaits s id then s else
          let (err, s1) := spoolZero id s
          if err ≠ 0 then loadSpoolFail c 0x10 s1 else loadSpools c (n + 1) (entryMap c.inst id e s1)
        | _, _ => s)

end Sys2Proof.Machine
end

