-- ==== Sys2Proof/Machine/Scrub.lean ====
section
/-!
DEFINITION. The checks of stored frames and the scrubber (R336 to R350, Table 11.1). The code words of R161 and the SEC
code of the frame CRC are the model's own (log entry 31): the spec gives their kind and not their matrices.
-/
namespace Sys2Proof.Machine

/-! ### Codes -/

/-- The number of ones among the low 8 bits. -/
def ones8 (v : Nat) : Nat := (List.range 8).foldl (fun a k => a + v / 2 ^ k % 2) 0

/-- The columns of the data bits of a frame word. -/
def wordCols : List Nat := ((List.range 256).filter (fun v => ones8 v == 3) ++ (List.range 256).filter (fun v => ones8 v == 5)).take 64

/-- The columns of the bits of a frame CRC. -/
def crcCols : List Nat := ((List.range 128).filter (fun v => ones8 v == 2) ++ (List.range 128).filter (fun v => ones8 v == 3)).take 32

/-- What the check of a word says from the difference of its check bits: 0 no error, 1 a data bit, 2 a check bit, 3
uncorrectable; and BIT of SCRUB_LOG. -/
def wordSynd (d : Nat) : Nat × Nat :=
  if d = 0 then (0, 0)
  else match wordCols.findIdx? (· == d) with
    | some k => (1, k)
    | none => match (List.range 8).find? (fun j => 2 ^ j == d) with
      | some j => (2, 64 + j)
      | none => (3, 0x7F)

/-- The difference of a frame CRC after its own code has corrected it, and whether a single bit of the field was wrong. -/
def crcSynd (d : Nat) : Nat × Bool :=
  let sec := d / 2 ^ 32
  let lo := d % 2 ^ 32
  if sec = 0 then (lo, false)
  else match crcCols.findIdx? (· == sec) with
    | some k => (lo ^^^ 2 ^ k, true)
    | none => (lo, (List.range 7).any (fun j => 2 ^ j == sec))

/-! ### One frame (R342, R343, Table 11.1) -/

/-- An error that a frame read finds: class, word, BIT. -/
structure FrameErr where
  cls : Nat
  word : Nat
  bit : Nat
deriving DecidableEq, Repr, Inhabited

/-- The parity of map word `w` fails. -/
def mapParityBad (s : State) (b f w : Nat) : Bool := bitOf (s.fdiff.get (aFrameCheck b f 33)) w

/-- The 64 map bits of word `w`, all ones when their parity fails. -/
def mapWord (s : State) (b f w : Nat) : Nat :=
  if mapParityBad s b f w then 2 ^ 64 - 1 else 2 ^ 64 - 1 - ofBytesLE (s.rdBytes (aMap b f (8 * w)) 8)

/-- The data of a frame with the single-bit errors that its word codes locate corrected. -/
def frameFixed (s : State) (b f : Nat) : List Byte :=
  (List.range 32).flatMap (fun w =>
    let v := ofBytesLE (s.rdBytes (aFrame b f (8 * w)) 8)
    match wordSynd (s.fdiff.get (aFrameCheck b f w)) with
    | (1, k) => bytesLE 8 (v ^^^ 2 ^ k)
    | _ => bytesLE 8 v)

/-- The errors of a stored frame, by ascending word in each group. -/
def frameErrs (s : State) (b f : Nat) : List FrameErr :=
  let synd (w : Nat) : Nat × Nat := wordSynd (s.fdiff.get (aFrameCheck b f w))
  let ess (w : Nat) : Bool := mapWord s b f w != 0
  let words := (List.range 32).filterMap (fun w =>
    match synd w with
    | (0, _) => none
    | (1, k) => some { cls := ofBool (bitOf (mapWord s b f w) k), word := w, bit := k : FrameErr }
    | (2, k) => some { cls := 0, word := w, bit := k }
    | (_, k) => some { cls := if ess w then 3 else 2, word := w, bit := k })
  let crc := crcSynd (s.fdiff.get (aFrameCheck b f 32))
  let field := if crc.2 then [{ cls := 0, word := 0, bit := 0x7E : FrameErr }] else []
  let clean := (List.range 32).all (fun w => (synd w).1 != 3)
  let bad := clean && crc32c (frameFixed s b f) != crc32c (s.rdBytes (aFrame b f 0) 256) ^^^ crc.1
  let mism := if bad then [{ cls := if (List.range 32).any ess then 3 else 2, word := 0, bit := 0x7F : FrameErr }] else []
  words ++ field ++ mism ++ ((List.range 32).filter (mapParityBad s b f)).map (fun w => { cls := 4, word := w, bit := 0x7F })

/-- The order of classes in SCRUB_LOG. -/
def errRank : Nat → Nat
  | 3 => 5
  | 1 => 4
  | 2 => 3
  | 0 => 2
  | _ => 1

/-- The counter of a class. -/
def errCounter : Nat → Field
  | 0 => F.SCRUB_CNT0_CE_BEN
  | 1 => F.SCRUB_CNT0_CE_ESS
  | 2 => F.SCRUB_CNT1_UE_BEN
  | 3 => F.SCRUB_CNT1_UE_ESS
  | _ => F.SCRUB_CNT2_MAPERR

/-- The error of a frame that the log takes: the highest class, the lowest word of it. -/
def errFirst (es : List FrameErr) : Option FrameErr :=
  es.foldl (fun acc e =>
    match acc with
    | none => some e
    | some a => if errRank a.cls < errRank e.cls || (errRank a.cls == errRank e.cls && e.word < a.word) then some e else some a) none

/-- Errors of a frame read on path `p` go to the counters and the log (R345, Table 11.5). -/
def errReport (p b f : Nat) (es : List FrameErr) (s : State) : State :=
  let s1 := forL es (fun e s => s.bump (errCounter e.cls)) s
  match errFirst es with
  | none => s1
  | some e =>
    if s1.bit F.SCRUB_LOG_VALID && errRank e.cls ≤ errRank (s1.fld F.SCRUB_LOG_CLASS) then s1
    else forL [(F.SCRUB_LOG_VALID, 1), (F.SCRUB_LOG_CLASS, e.cls), (F.SCRUB_LOG_PATH, p), (F.SCRUB_LOG_SELVAGE, ofBool (b == selvage)),
        (F.SCRUB_LOG_FRAME, f), (F.SCRUB_LOG_BAY, if b = selvage then 0 else b), (F.SCRUB_LOG_WORD, e.word), (F.SCRUB_LOG_BIT, e.bit)]
      (fun (x : Field × Nat) s => s.setFld x.1 0 0 x.2) s1

/-- A stored frame is read for LREAD or a migration copy (R345): its data, whether a word is uncorrectable, and the errors
reported. -/
def frameRead (p b f : Nat) (s : State) : List Byte × Bool × State :=
  let es := frameErrs s b f
  (frameFixed s b f, es.any (fun e => e.cls == 2 || e.cls == 3), errReport p b f es s)

/-- A content frame is read through the window path of its block (R351): uncorrectable bytes as stored. -/
def contentRead (b f : Nat) (s : State) : List Byte × State :=
  let k := (f - 1408) / 16
  let o := (f - 1408) % 16 * 256
  (corrected s (aBlock b k o) 256, noteErrs (aBlock b k o) 256 (fun j ue s => blockErr b k 2 (o + j) ue s) s)

/-! ### Actions (R346 to R350) -/

/-- The bays of the skein that a bay belongs to. -/
def bayMates (s : State) (b : Nat) : List Nat := skeinBays s (s.fld F.BAY_STATUS_OWNER b)

/-- UE_ACT of the skein of bay `b` (R348). -/
def ueAction (b : Nat) (s : State) : State :=
  let i := s.fld F.BAY_STATUS_OWNER b
  let ms := bayMates s b
  let out := ms.all (fun x => s.bit F.BAY_STATUS_OUT_HELD x && s.bit F.BAY_STATUS_WE_HELD x)
  let all := out && ms.all (fun x => s.bit F.BAY_STATUS_RST_HELD x)
  match s.fld F.BAY_SCRUB_UE_ACT b with
  | 0 => s
  | 1 => if out then s else holdBegin { inst := i, hold := true, last := 2 } s
  | _ => if all then s else holdBegin { inst := i, hold := true } s

/-- What the scrubber does for the skein, or the selvage, when it finds essential errors (R347, R348, R350). -/
def errAct (b : Nat) (es : List FrameErr) (s : State) : State :=
  let ce := es.any (fun e => e.cls == 1)
  let ue := es.any (fun e => e.cls == 3)
  if b = selvage then
    let s1 := if ce then irqEdge 0x046 s else s
    if ue then irqEdge 0x047 (s1.setBit F.SCRUB_STATUS_SELV_UE) else s1
  else
    let ms := bayMates s b
    let s1 := if ce then forL ms (fun x s => s.setBit F.BAY_SCRUB_CE x) s else s
    let s2 := if ce && s1.bit F.BAY_SCRUB_CE_IRQ b then irqEdge 0x046 s1 else s1
    if ue then ueAction b (irqEdge 0x047 (forL ms (fun x s => s.setBit F.BAY_SCRUB_UE x) s2)) else s2

/-- The repair of a frame, by its highest class among 0 to 3, and of its map words (Table 11.1). -/
def frameRepair (b f : Nat) (es : List FrameErr) (s : State) : State :=
  let s1 := forL (es.filter (fun e => e.cls == 4)) (fun e s =>
    { s.zeroRange (aMap b f (8 * e.word)) 8 with
      fdiff := s.fdiff.upd (aFrameCheck b f 33) (fun m => withBit m e.word false) }) s
  let hi (c : Nat) : Bool := es.any (fun e => e.cls == c)
  if hi 3 then s1
  else if hi 2 then frameStore b f (s.rdBytes (aFrame b f 0) 256) s1
  else if hi 1 || hi 0 then frameStore b f (frameFixed s b f) s1
  else s1

/-- The scrubber reads one frame: it reports, repairs and acts. -/
def frameScrub (b f : Nat) (s : State) : State :=
  let es := frameErrs s b f
  errAct b es (frameRepair b f es (errReport 0 b f es s))

/-! ### Where the scrubber stands (R336, R338 to R340) -/

/-- The first frame at or after `f` that a bay stores, past content and reserved frames. -/
def storedFrame (f : Nat) : Nat := if 1408 ≤ f ∧ f < 1792 then 1792 else if 1852 ≤ f ∧ f < 1856 then 1856 else f

/-- The scrubber visits a bay (R336, R672). -/
def scrubVisits (s : State) (b : Nat) : Bool := s.bit F.BAY_STATUS_LOADED b && bayOn s b

/-- The next frame of a continuous pass from a position on. -/
def scrubSeek (s : State) (b f : Nat) : Nat × Nat :=
  if b = selvage then (b, f)
  else if scrubVisits s b && storedFrame f < 1872 then (b, storedFrame f)
  else match (List.range 768).find? (fun x => b < x && scrubVisits s x) with
    | some x => (x, 0)
    | none => (selvage, 0)

/-- SCRUB_STATUS shows the frame being scrubbed. -/
def scrubShow (b f : Nat) (s : State) : State :=
  ((s.setFld F.SCRUB_STATUS_SELV 0 0 (ofBool (b == selvage))).setFld F.SCRUB_STATUS_BAY 0 0 (if b = selvage then 0 else b)).setFld
    F.SCRUB_STATUS_FRAME 0 0 f

/-- One frame of the continuous pass. -/
def scrubCont (s : State) : State :=
  let (b, f) := scrubSeek s s.scrub.bay s.scrub.frame
  let s1 := frameScrub b f (scrubShow b f s)
  if b = selvage ∧ f = 65535 then
    let s2 := (s1.bumpWrap F.SCRUB_PASS_PASSES).setFld F.SCRUB_PASS_LAST_US 0 0 ((s1.now - s1.scrub.start) / 1000)
    { s2 with scrub := { s2.scrub with bay := 0, frame := 0, start := s2.now } }
  else { s1 with scrub := { s1.scrub with bay := b, frame := f + 1 } }

/-- The one-pass request of a ticket ends. -/
def passEnd (t : Nat) (s : State) : State :=
  let ps := s.scrub.passes.filter (· != t)
  cmdEnd t rOK 0 ({ s with scrub := { s.scrub with passes := ps, pbay := 0, pframe := 0 } }.setFld F.SCRUB_STATUS_ONEPASS 0 0 (ofBool (!ps.isEmpty)))

/-- One frame of the pass of a ticket (R340). -/
def scrubPass (t : Nat) (s : State) : State :=
  match (cmdOf s t).bind (fun c => instOf s c.inst) with
  | none => passEnd t s
  | some k =>
    match k.bays[s.scrub.pbay]? with
    | none => passEnd t s
    | some b =>
      let f := storedFrame s.scrub.pframe
      let s1 := if scrubVisits s b then frameScrub b f (scrubShow b f s) else s
      if storedFrame (f + 1) < 1872 && scrubVisits s b then { s1 with scrub := { s1.scrub with pframe := f + 1 } }
      else if s.scrub.pbay + 1 < k.bays.length then { s1 with scrub := { s1.scrub with pbay := s.scrub.pbay + 1, pframe := 0 } }
      else passEnd t s1

/-- R342. The scrubber reads one frame: of the first one-pass request, else of the continuous pass when it is on. -/
def execScrubFrame (s : State) : Res :=
  .next (if !hdRuns s || privBad s 0 then s
    else match s.scrub.passes with
      | t :: _ => scrubPass t s
      | [] => if s.bit F.SCRUB_CTL_CONT then scrubCont s else s)

/-- LSCRUB when it runs (R291, R339, R340). -/
def scrubRun (c : LCmd) (s : State) : State :=
  match c.f 0x10 1 with
  | 0 => cmdEnd c.ticket rOK 0 (s.setFld F.SCRUB_CTL_RATE 0 0 (min 12800 (max 100 (c.f 0x14 4))))
  | 1 =>
    match instOf s c.inst with
    | none => cmdEnd c.ticket rNOSKEIN 0 s
    | some k =>
      if k.ostate ≠ oLOADED ∧ k.ostate ≠ oMIGSRC then cmdEnd c.ticket rBADSTATE 0 s
      else updCmd c.ticket (fun x => { x with phase := 1 })
        ({ s with scrub := { s.scrub with passes := s.scrub.passes ++ [c.ticket] } }.setBit F.SCRUB_STATUS_ONEPASS)
  | 2 => cmdEnd c.ticket rOK 0 (s.setBit F.SCRUB_CTL_CONT)
  | _ => cmdEnd c.ticket rOK 0 (s.clrFld F.SCRUB_CTL_CONT)

/-- R346. A write of `v` to BAY_SCRUB of bay `b`: in an occupied bay the fields of every bay of the skein take it, and ones
clear CE and UE in all of them. -/
def bayScrubWrite (b v : Nat) (s : State) : State :=
  forL (bayMates s b) (fun x s =>
    let s1 := (s.setFld F.BAY_SCRUB_UE_ACT x 0 (bitsOf v 8 2)).setFld F.BAY_SCRUB_CE_IRQ x 0 (bitsOf v 4 1)
    let s2 := if bitOf v 1 then s1.clrFld F.BAY_SCRUB_UE x else s1
    if bitOf v 0 then s2.clrFld F.BAY_SCRUB_CE x else s2) s

/-- R346. A write of BAY_SCRUB. -/
def execBayScrubWrite (b v : Nat) (s : State) : Res := .next (if b < 768 then bayScrubWrite b v s else s)

end Sys2Proof.Machine
end

