-- ==== Sys2Proof/Machine/Capture.lean ====
section
/-!
DEFINITION. Capture, snapshots, restore and readback (R351 to R362). The bytes whose order the frame database would give have
the model's own layout (log entry 33).
-/
namespace Sys2Proof.Machine

/-! ### Snapshot format (Tables 11.2 to 11.4) -/

/-- Bytes of a bay record. -/
def recordLength : Nat := 109184

/-- SNAP_LEN of an instance (R358). -/
def Skein.snapLen (k : Skein) : Nat := 128 + k.w * k.h * recordLength

/-- Bytes padded with zero to `n`. -/
def padTo (n : Nat) (l : List Byte) : List Byte := l ++ List.replicate (n - l.length) 0

/-- An operation in flight in a slice. -/
def SliceOp.bytes (o : SliceOp) : List Byte :=
  bytesLE 8 (lowBits 64 o.m) ++ bytesLE 8 o.c ++ bytesLE 4 (o.op + 2 ^ 8 * ofBool o.preOv + 2 ^ 9 * ofBool o.first)

/-- An operation in flight, from its bytes. -/
def opOfBytes (b : List Byte) : SliceOp :=
  { m := asInt true 64 (fieldLE b 0 8), c := fieldLE b 8 8, op := fieldLE b 16 1, preOv := bitOf (fieldLE b 17 1) 0,
    first := bitOf (fieldLE b 17 1) 1 }

/-- Slice `i` of bay `b` (Table 11.4). -/
def sliceRecord (s : State) (b i : Nat) : List Byte :=
  let v := s.slices.get (b * 32 + i)
  let flags := ofBool v.ovf + 2 * ofBool v.yov + 4 * ofBool v.preOv + 8 * ofBool v.idxOvf +
    16 * ofBool (bitOf (s.fld F.BAY_COEF_ACT_PEND b) i) + 32 * ofBool (bitOf (s.fld F.BAY_COEF_ACT_ACT b) i)
  let regs := bytesLE 8 (v.pipe.length + 2 ^ 8 * (v.yNext.1 % 2 ^ 24) + 2 ^ 32 * ofBool v.yNext.2) ++ v.pipe.flatMap SliceOp.bytes
  padTo 32 (bytesLE 8 v.acc ++ bytesLE 2 v.idx ++ bytesLE 2 v.idxCnt ++ bytesLE 4 flags ++ bytesLE 4 v.y) ++
    (List.range 32).flatMap (fun j => bytesLE 3 (v.coef.get j)) ++ padTo 128 regs

/-- A slice, from its record. -/
def sliceOfRecord (r : List Byte) : Slice :=
  let flags := fieldLE r 0x0C 1
  let n := min 5 (fieldLE r 0x80 1)
  { acc := fieldLE r 0 8 % 2 ^ 56, idx := fieldLE r 8 2, idxCnt := fieldLE r 10 2, ovf := bitOf flags 0, yov := bitOf flags 1,
    preOv := bitOf flags 2, idxOvf := bitOf flags 3, y := fieldLE r 0x10 4 % 2 ^ 24,
    yNext := (fieldLE r 0x81 3, bitOf (fieldLE r 0x84 1) 0),
    pipe := (List.range n).map (fun j => opOfBytes (slice r (0x88 + 20 * j) 20)),
    coef := (List.range 32).foldl (fun m j => m.set j (fieldLE r (0x20 + 3 * j) 3)) {} }

/-- The GPIO attach ports of a bay. -/
def bayAttach (b : Nat) : List Nat := (List.range 40).filter (fun u => gpioBay (u / 2) (u % 2) == b)

/-- The control state of a bay. -/
def controlRecord (s : State) (b : Nat) : List Byte :=
  let pair (lo hi : Field) : List Byte := bytesLE 4 (s.fld lo b) ++ bytesLE 4 (s.fld hi b)
  padTo 64 (bytesLE 1 (s.fld F.BAY_CTL_CLK_EN b) ++ bytesLE 7 (s.shadow F.BAY_CTL_CLK_EN b 0) ++
    bytesLE 4 (s.fld F.BAY_COEF_SEL_SEL b) ++ bytesLE 4 (s.shadow F.BAY_COEF_SEL_SEL b 0) ++
    pair F.BAY_COEF_ACT_ACT F.BAY_COEF_ACT_PEND ++ pair F.BAY_SLICE_FLAG_OVF F.BAY_SLICE_FLAG_YOV ++
    bytesLE 1 (s.fld F.BAY_STATUS_POISON b))

/-- The lane attach ports of a bay. -/
def bayLanes (b : Nat) : List Nat := (List.range 192).filter (fun l => laneBay l == b)

/-- The attach-port registers of a bay, in the model's own order: GPIO ports, then of each lane port what it holds towards the lane,
then of each what it presents to the skein. -/
def attachBytes (s : State) (b : Nat) : List Byte :=
  (bayAttach b).flatMap (fun u => bytesLE 8 (s.gpioAtt.get u)) ++
    (bayLanes b).flatMap (fun l => let a := s.laneAtt.get l; bytesLE 33 a.tx ++ bytesLE 1 (ofBool a.txv)) ++
    (bayLanes b).flatMap (fun l => let a := s.laneAtt.get l; bytesLE 1 a.rxf ++ bytesLE 1 a.rxh ++ bytesLE 32 a.rxw)

/-- The record of bay `b` at (`dx`, `dy`) of its region (Table 11.3). -/
def bayRecord (s : State) (b dx dy : Nat) : List Byte :=
  padTo 64 (bytesLE 1 dx ++ bytesLE 1 dy) ++ controlRecord s b ++
    (List.range 1024).flatMap (fun c => bytesLE 2 (s.ffs.get (b * 1024 + c))) ++
    (List.range 32).flatMap (fun j => bytesLE 8 (s.bregs.get (b * 32 + j))) ++
    padTo 256 ((attachBytes s b).take 256) ++
    (List.range 32).flatMap (sliceRecord s b) ++ s.rdBytes (aBlock b 0 0) (24 * 4096)

/-! ### Capture edges (R353, R354) -/

/-- `n` bytes that are all ones or all zeros. -/
def maskBytes (on : Bool) (n : Nat) : List Byte := List.replicate n (if on then 255 else 0)

/-- The bits of a bay record that the capture edge of clock input `k` records (R354): in the control state the banks and flags of
its slices, and POISON with input 0; its flip-flops, boundary groups and slices; the attach ports, whose input the frame database
names (log entry 33); and of the memory blocks the bytes last written through a port that it clocks. -/
def recordMask (s : State) (b k : Nat) : List Byte :=
  let slc := (List.range 32).foldl (fun a i => a + ofBool (slcClk s b i == k) * 2 ^ i) 0
  maskBytes false 80 ++ bytesLE 4 slc ++ bytesLE 4 slc ++ bytesLE 4 slc ++ bytesLE 4 slc ++ maskBytes (k == 0) 1 ++ maskBytes false 31 ++
    (List.range 1024).flatMap (fun c =>
      let fr := clusterFrame s b c
      bytesLE 2 ((List.range 16).foldl (fun a i => a + ofBool (ctlClk fr (bitsOf fr (26 * i + 19) 1) == k) * 2 ^ i) 0)) ++
    (List.range 32).flatMap (fun j => maskBytes (groupClk s b j == k) 8) ++ maskBytes true 256 ++
    (List.range 32).flatMap (fun i => maskBytes (slcClk s b i == k) 256) ++
    (List.range (24 * 4096)).flatMap (fun j =>
      maskBytes (blkClk s b (j / 4096) (if s.blkByA.get (aBlock b 0 0 + j) then 0 else 1) == k) 1)

/-- Bits of a new record take the place of those recorded so far. -/
def recordMerge : List Byte → List Byte → List Byte → List Byte
  | o :: os, n :: ns, m :: ms => ((o &&& ~~~m) ||| (n &&& m)) :: recordMerge os ns ms
  | os, _, _ => os

/-- The place of a bay in a capture. -/
def Capt.place (x : Capt) (b : Nat) : Nat := x.bays.findIdx (· == b)

/-- A capture takes the capture edge of input `k` of bay `b`. -/
def captEdge (s : State) (b k : Nat) (x : Capt) : Capt :=
  if !x.wait.contains (b, k) then x
  else
    let old := x.recs.getD (x.place b) []
    { x with wait := x.wait.filter (· != (b, k)),
             recs := x.recs.set (x.place b) (recordMerge old (bayRecord s b ((old.getD 0 0).toNat) ((old.getD 1 0).toNat)) (recordMask s b k)) }

/-- The edge of input `k` of bay `b` is the capture edge of every capture that waits for it. -/
def captureEdge (b k : Nat) (s : State) : State :=
  if s.capts.all (fun x => !x.wait.contains (b, k)) then s else { s with capts := s.capts.map (captEdge s b k) }

/-- Inputs that have stopped before their capture edge are captured as they stand (R353). -/
def captureStopped (s : State) : State :=
  forL (s.capts.flatMap (fun x => x.wait)) (fun e s => if bayClk s e.1 e.2 then s else captureEdge e.1 e.2 s) s

/-- The bytes of a complete capture: header, records, trailer (R358, R179). -/
def Capt.bytes (x : Capt) : List Byte :=
  let len := 128 + x.bays.length * recordLength
  let all := x.head ++ x.recs.flatten ++ padTo 60 (bytesLE 8 0x50414E53 ++ bytesLE 8 len)
  all ++ bytesLE 4 (crc32c all)

/-! ### Taking a capture (R353 to R357) -/

/-- The header of a snapshot of instance `i`, whose region is that of `k` (Table 11.2). -/
def snapHead (s : State) (i : Nat) (k : Skein) (kind pick time : Nat) : List Byte :=
  let stopped := (List.range 8).foldl (fun a j => a + ofBool (!k.bays.any (fun b => bayClk s b j)) * 2 ^ j) 0
  padTo 64 (bytesLE 4 0x50414E53 ++ bytesLE 2 1 ++ bytesLE 1 k.w ++ bytesLE 1 k.h ++ bytesLE 8 k.snapLen ++
    padTo 16 k.design ++ bytesLE 8 pick ++ bytesLE 8 time ++ bytesLE 2 i ++ bytesLE 2 (s.fld F.DEV_ID) ++ bytesLE 1 stopped ++ bytesLE 1 kind)

/-- A capture of the instance of a command is triggered: what no running input clocks is recorded as it stands, and every running
input records its elements on its capture edge (R353, R354). It will be streamed to the command's destination. -/
def captureTake (c : LCmd) (k : Skein) (kind pick : Nat) (s : State) : State :=
  let x : Capt :=
    { ticket := c.ticket, inst := c.inst, bays := k.bays, dest := c.f 0x10 8, head := snapHead s c.inst k kind pick s.now,
      recs := (List.range (k.w * k.h)).map (fun n => bayRecord s (k.bays.getD n 0) (n % k.w) (n / k.w)),
      wait := k.bays.flatMap (fun b => ((List.range 8).filter (bayClk s b)).map (fun j => (b, j))) }
  forL k.bays (fun b s => (s.setBit F.BAY_SCRUB_CAPBUSY b).setBit F.BAY_BIST_CAPBUSY b) { s with capts := s.capts ++ [x] }

/-- The capture of a command becomes due (R356, R357). -/
def captureDue (c : LCmd) (kind pick : Nat) (s : State) : State :=
  match instOf s c.inst with
  | none => cmdEnd c.ticket rNOSKEIN 0 s
  | some k =>
    if k.bays.any (fun b => !s.bit F.BAY_STATUS_LOADED b || s.bit F.BAY_SCRUB_CAPBUSY b) then cmdEnd c.ticket rBADSTATE 0 s
    else updCmd c.ticket (fun x => { x with phase := 1 }) (captureTake c k kind pick s)

/-- The capture of an LSNAP that is due at boundary `n`. -/
def snapAt (n : Nat) (c : LCmd) (s : State) : State :=
  if c.opc != fLSNAP || c.phase != 2 then s
  else if c.atPick && c.pick == n then captureDue c 1 n s
  else if c.fired == some n then captureDue c 2 n s
  else s

/-- LSNAP when it starts (R286, R287, R357). -/
def snapRun (c : LCmd) (s : State) : State :=
  match instOf s c.inst with
  | none => cmdEnd c.ticket rNOSKEIN 0 s
  | some k =>
    let wait : State := updCmd c.ticket (fun x => { x with phase := 2 }) s
    if k.bays.any (fun b => !s.bit F.BAY_STATUS_LOADED b) then cmdEnd c.ticket rBADSTATE 0 s
    else if c.f 0x18 8 < k.snapLen then cmdEnd c.ticket rSHORT 0 s
    else if c.flag 6 then
      match c.fired with
      | some n => if pickPassed s n then cmdEnd c.ticket rLATE 0 s else wait
      | none => wait
    else if c.atPick then (if pickPassed s c.pick then cmdEnd c.ticket rLATE 0 s else wait)
    else captureDue c 0 s.pick s

/-! ### Restore (R359 to R362) -/

/-- An RWS field takes an active and a staged value. -/
def restoreStaged (f : Field) (b act stg : Nat) (s : State) : State :=
  let s1 := ({ s with staged := s.staged.filter (fun g => !g.isOf f b 0) }).setFld f b 0 act
  if stg % 2 ^ f.w = act % 2 ^ f.w then s1 else s1.stage (hdrOf 2 b) f b 0 stg

/-- The control state of a bay is restored (R362). -/
def controlRestore (b : Nat) (r : List Byte) (s : State) : State :=
  let s1 := restoreStaged F.BAY_COEF_SEL_SEL b (fieldLE r 8 4) (fieldLE r 12 4)
    (restoreStaged F.BAY_CTL_CLK_EN b (fieldLE r 0 1) (fieldLE r 1 1) s)
  forL [(F.BAY_COEF_ACT_ACT, fieldLE r 16 4), (F.BAY_COEF_ACT_PEND, fieldLE r 20 4), (F.BAY_SLICE_FLAG_OVF, fieldLE r 24 4),
      (F.BAY_SLICE_FLAG_YOV, fieldLE r 28 4), (F.BAY_STATUS_POISON, fieldLE r 32 1 % 2)]
    (fun (x : Field × Nat) s => s.setFld x.1 b 0 x.2) s1

/-- Bay `b` takes the state of a record, and stage 3 acts in keep form (R359, R361). -/
def restoreBay (b : Nat) (r : List Byte) (s : State) : State :=
  let s1 := { s with
    ffs := (List.range 1024).foldl (fun m c => m.set (b * 1024 + c) (fieldLE r (0x80 + 2 * c) 2)) s.ffs,
    ffWait := s.ffWait.cut (b * 1024) 1024,
    bregs := (List.range 32).foldl (fun m j => m.set (b * 32 + j) (fieldLE r (0x880 + 8 * j) 8)) s.bregs,
    gpioAtt := (bayAttach b).zipIdx.foldl (fun m (x : Nat × Nat) => m.set x.1 (fieldLE r (0x980 + 8 * x.2) 8)) s.gpioAtt,
    laneAtt := (bayLanes b).zipIdx.foldl (fun m (x : Nat × Nat) =>
      let t := 0x980 + 8 * (bayAttach b).length + 34 * x.2
      let u := t + 34 * (bayLanes b).length
      let fits := u + 34 ≤ 0xA80
      m.set x.1 { tx := fieldLE r t 33, txv := bitOf (fieldLE r (t + 33) 1) 0, rxf := if fits then fieldLE r u 1 % 64 else 0,
                  rxh := if fits then fieldLE r (u + 1) 1 else 0, rxw := if fits then fieldLE r (u + 2) 32 else 0 }) s.laneAtt,
    slices := (List.range 32).foldl (fun m i => m.set (b * 32 + i) (sliceOfRecord (slice r (0xA80 + 256 * i) 256))) s.slices,
    missed := s.missed.upd b (fun m => m % 2 ^ 8 + 0xFF00),
    keepForm := s.keepForm.filter (· != b) ++ [b] }
  controlRestore b (slice r 0x40 64) (s1.wrBytes (aBlock b 0 0) (slice r 0x2A80 (24 * 4096)))

/-- The records of a snapshot go into bays in order. -/
def restoreBays (bays : List Nat) (data : List Byte) (s : State) : State :=
  forL bays.zipIdx (fun (x : Nat × Nat) s => restoreBay x.1 (slice data (64 + recordLength * x.2) recordLength) s) s

/-- The user state of bays becomes undefined (R360): free records. -/
def restoreUndef (bays : List Nat) (s : State) : State :=
  forL bays (fun b s => let (r, s1) := s.freshBytes recordLength; restoreBay b r s1) s

/-- The CRC of a snapshot holds. -/
def snapCrcOk (data : List Byte) : Bool := fieldLE data (data.length - 4) 4 == crc32c (data.take (data.length - 4))

/-- LREST when it runs (R288, R359, R360): a failed read leaves the user state undefined, that of the header or trailer too. -/
def restRun (c : LCmd) (s : State) : State :=
  match instOf s c.inst with
  | none => cmdEnd c.ticket rNOSKEIN 0 s
  | some k =>
    if k.ostate ≠ oLOADED ∨ k.bays.any (fun b => !(s.bit F.BAY_STATUS_RST_HELD b && s.bit F.BAY_STATUS_WE_HELD b && s.bit F.BAY_STATUS_OUT_HELD b))
    then cmdEnd c.ticket rBADSTATE 0 s
    else
      let a := c.f 0x10 8
      if engWaits s initCfg a k.snapLen then s else
      let (e0, _, h, s1) := engRead initCfg a 64 s
      let n := fieldLE h 8 8
      if e0 ≠ 0 then cmdEnd c.ticket rMEMERR e0 (restoreUndef k.bays s1)
      else if c.f 0x18 8 < n then cmdEnd c.ticket rSHORT 0 s1
      else if fieldLE h 0 4 ≠ 0x50414E53 ∨ fieldLE h 4 2 ≠ 1 ∨ fieldLE h 6 1 ≠ k.w ∨ fieldLE h 7 1 ≠ k.h ∨
        slice h 0x10 16 ≠ padTo 16 k.design ∨ n ≠ k.snapLen then cmdEnd c.ticket rBADSTATE 0 s1
      else
        let (e1, _, t, s2) := engRead initCfg (a + n - 64) 64 s1
        if e1 ≠ 0 then cmdEnd c.ticket rMEMERR e1 (restoreUndef k.bays s2)
        else if fieldLE t 8 8 ≠ n then cmdEnd c.ticket rBADSTATE 0 s2
        else
          let (e2, _, d, s3) := engRead initCfg (a + 64) (n - 64) s2
          if e2 ≠ 0 then cmdEnd c.ticket rMEMERR e2 (restoreUndef k.bays s3)
          else if snapCrcOk (h ++ d) then cmdEnd c.ticket rOK 0 (restoreBays k.bays (h ++ d) s3)
          else cmdEnd c.ticket rIMAGE iCRC (restoreUndef k.bays s3)

/-! ### Readback (R289, R351, R352) -/

/-- LREAD when it runs. -/
def readRun (c : LCmd) (s : State) : State :=
  match instOf s c.inst with
  | none => cmdEnd c.ticket rNOSKEIN 0 s
  | some k =>
    let dx := c.f 0x20 1
    let dy := c.f 0x21 1
    let b := (k.r + dy) * 24 + k.c + dx
    let n := c.f 0x26 2
    if k.w ≤ dx ∨ k.h ≤ dy then cmdEnd c.ticket rBADSTATE 0 s
    else if !s.bit F.BAY_STATUS_LOADED b then cmdEnd c.ticket rBADSTATE 0 s
    else if c.f 0x18 8 < 256 * n then cmdEnd c.ticket rSHORT 0 s
    else if engWaits s initCfg (c.f 0x10 8) (256 * n) then s
    else
      let (err, ue, s1) := (List.range n).foldl (fun (acc : Nat × Bool × State) j =>
        if acc.1 ≠ 0 then acc
        else
          let f := c.f 0x24 2 + j
          let (d, bad, s1) := if frameContent f then (let (d, s1) := contentRead b f acc.2.2; (d, false, s1)) else frameRead 1 b f acc.2.2
          let (e, s2) := engWrite initCfg (c.f 0x10 8 + 256 * j) d s1
          (e, acc.2.1 || bad, s2)) (0, false, s)
      if err ≠ 0 then cmdEnd c.ticket rMEMERR err s1
      else if ue then cmdEnd c.ticket rMEMERR 0xFF s1 else cmdEnd c.ticket rOK 0 s1

end Sys2Proof.Machine
end

