-- ==== Sys2Proof/Machine/Migrate.lean ====
section
/-!
DEFINITION. Live migration (R290, R330 to R334, Tables 10.10 and 10.11).
-/
namespace Sys2Proof.Machine

def dANCHORED : Nat := 8
def dADJLINK : Nat := 9
def dMIGLATE : Nat := 10
def dFRAME : Nat := 11

/-- The bays of a shape at an origin. -/
def Skein.baysAt (k : Skein) (o : Nat × Nat) : List Nat := regionBays o.1 o.2 k.w k.h

/-- Source and destination bay, pair by pair. -/
def Migr.pairs (m : Migr) (k : Skein) : List (Nat × Nat) := (k.baysAt m.src).zip (k.baysAt m.dst)

/-- Changes the migration of a ticket. -/
def updMig (t : Nat) (f : Migr → Migr) (s : State) : State :=
  { s with migs := s.migs.map (fun m => if m.ticket = t then f m else m) }

/-- The migration of a ticket with its instance. -/
def migOf (s : State) (t : Nat) : Option (Migr × Skein) :=
  (s.migs.find? (fun m => m.ticket == t)).bind (fun m => (instOf s m.inst).map (fun k => (m, k)))

/-- It cannot complete; the first reason stands. -/
def migFail (t res detail : Nat) (s : State) : State := updMig t (fun m => { m with fail := some (m.fail.getD (res, detail)) }) s

/-- LMIGR when it starts: the conditions of R330. -/
def migRun (c : LCmd) (s : State) : State :=
  let done (r d : Nat) : State := cmdEnd c.ticket r d s
  match instOf s c.inst with
  | none => done rNOSKEIN 0
  | some k =>
    if k.ostate ≠ oLOADED ∨ k.bays.any (fun b => s.bit F.BAY_STATUS_RST_HELD b || s.bit F.BAY_STATUS_WE_HELD b || s.bit F.BAY_STATUS_OUT_HELD b)
    then done rBADSTATE 0
    else if !k.anchors.isEmpty then done rMIGFAIL dANCHORED
    else if !k.links.isEmpty then done rMIGFAIL dADJLINK
    else if pickPassed s c.pick then done rLATE 0
    else if c.f 0x18 8 < k.snapLen then done rSHORT 0
    else updCmd c.ticket (fun x => { x with phase := 1 }) { s with hdq := s.hdq ++ [c.ticket] }

/-- Heddle's answer to a migration (R331). -/
def migOrigin (c : LCmd) (s : State) : State :=
  match instOf s c.inst with
  | none => cmdEnd c.ticket rNOSKEIN 0 s
  | some k =>
    if pickPassed s c.pick then cmdEnd c.ticket rLATE 0 s
    else
      let q : OriginReq := { w := k.w, h := k.h, anchors := [], entries := [], only := if c.pin then some (c.f 4 1, c.f 5 1) else none,
                             pinned := c.pin, prio := k.prio }
      match originFind s q with
      | .inl d => cmdEnd c.ticket rMIGFAIL d s
      | .inr o =>
        let s1 := regionsCease (k.baysAt o) s
        let m : Migr := { ticket := c.ticket, inst := c.inst, src := (k.c, k.r), dst := o, n := c.pick, m := c.f 0x20 8 }
        let s2 := { s1 with migs := s1.migs ++ [m] }
        forL (k.baysAt o) (fun b s =>
          let s1 := bayHoldAll b (bayTurnOn b (markBay c.inst oMIGDEST b s))
          forN 8 (fun j s => (s.clrFld F.BAY_CLK_BIND_BOUND b j).clrFld F.BAY_CLK_BIND_LINE b j) s1) s2

/-- The running clock inputs of bays, which deliver their application edge for a freeze and then no further one (R332). -/
def freezeEdges (s : State) (bays : List Nat) : List (Nat × Nat) :=
  bays.flatMap (fun b => ((List.range 8).filter (bayClk s b)).map (fun j => (b, j)))

/-- Boundary N of a migration: the source is frozen and its capture is triggered (steps 2 and 3). -/
def migFreezeAt (n : Nat) (c : LCmd) (s : State) : State :=
  match s.migs.find? (fun m => m.ticket == c.ticket && m.part == 1 && m.n == n), instOf s c.inst with
  | some m, some k =>
    let s1 := captureTake c k 3 n s
    updMig m.ticket (fun m => { m with part := 2 }) (instState m.inst oMIGSRC
      { s1 with frozen := s1.frozen ++ k.bays, lastEdge := s1.lastEdge ++ freezeEdges s k.bays })
  | _, _ => s

/-- The captures of boundary `n`, those of migrations among them, in acceptance order (R356). -/
def capturesAt (n : Nat) (s : State) : State := forL s.cmds (fun c s => migFreezeAt n c (snapAt n c s)) s

/-- No bay-port request of these bays is outstanding. -/
def baysQuiet (s : State) (bays : List Nat) : Bool :=
  s.reqs.all (fun r => match r.why with | .bay b _ => !bays.contains b | _ => true)

/-- The first capture that is streamed has been written, or its write failed (R355). It waits for its capture edges, and for
targets that cannot take it now. -/
def captureDone (s0 : State) : State :=
  let s := captureStopped s0
  match s.capts with
  | [] => s
  | x :: rest =>
    if !x.wait.isEmpty || engWaits s initCfg x.dest x.bytes.length then s
    else
    let (e, s1) := engWrite initCfg x.dest x.bytes { s with capts := rest }
    let s2 := forL x.bays (fun b s => (s.clrFld F.BAY_SCRUB_CAPBUSY b).clrFld F.BAY_BIST_CAPBUSY b) s1
    let s3 := if e ≠ 0 then engScramble initCfg x.dest x.bytes.length s2 else s2
    if s3.migs.any (fun m => m.ticket == x.ticket) then
      (if e ≠ 0 then migFail x.ticket rMEMERR e s3 else updMig x.ticket (fun m => { m with part := 3 }) s3)
    else cmdEnd x.ticket (if e ≠ 0 then rMEMERR else rOK) e s3

/-- R355. The capture stores of the skein that streams out have been written. -/
def execCaptureStreamDone (s : State) : Res := .next (if cfgRuns s then captureDone s else s)

/-- The frames of a bay are copied (R345): whether a word was uncorrectable. -/
def frameCopy (a b : Nat) (s : State) : Bool × State :=
  (List.range 2048).foldl (fun (acc : Bool × State) f =>
    if frameReserved f then acc
    else if frameContent f then let (d, s1) := contentRead a f acc.2; (acc.1, frameWrite b f d s1)
    else let (d, bad, s1) := frameRead 2 a f acc.2; (acc.1 || bad, frameWrite b f d s1)) (false, s)

/-- Clock bindings, boundary groups and translation entries of a bay are written as in another (step 3). -/
def bindCopy (a b : Nat) (s : State) : State :=
  let cp (fs : List Field) (n : Nat) (s : State) : State := forL fs (fun f s => forN n (fun i s => s.setFld f b i (s.fld f a i)) s) s
  cp [F.XLATE0_VALID, F.XLATE0_RO, F.XLATE0_SPOOL_ID, F.XLATE0_HANDLE, F.XLATE0_SIZE, F.XLATE1_BASE] 64
    (cp [F.BAY_BOUNDARY_WEST_EN, F.BAY_BOUNDARY_SOUTH_EN, F.BAY_BOUNDARY_EAST_EN, F.BAY_BOUNDARY_NORTH_EN] 1
      (cp [F.BAY_CLK_BIND_BOUND, F.BAY_CLK_BIND_LINE] 8 s))

/-! ### Waiting (R273, R274) -/

/-- Commands that run on the frame path. -/
def onFramePath (c : LCmd) : Bool := [fLLOAD, fLFREE, fLREST, fLREAD].contains c.opc

/-- The commands accepted before that of a ticket. -/
def cmdsBefore (s : State) (t : Nat) : List LCmd := s.cmds.takeWhile (fun x => x.ticket != t)

/-- No earlier accepted command that names the same instance is still running (R274). -/
def instReady (s : State) (c : LCmd) : Bool :=
  c.inst == 0 || [fLLOAD, fLPLACE].contains c.opc || !s.occ.any (fun o => o.inst == c.inst && 1 < o.part && (c.opc == fLHOLD || c.opc == fLFREE)) &&
  (cmdsBefore s c.ticket).all (fun x => x.phase == 3 || x.inst != c.inst || [fLLOAD, fLPLACE].contains x.opc)

/-- A command holds the frame path: a load with its spools, a free that does not wait for its boundary (R18). -/
def frameBusy (s : State) (t : Nat) : Bool :=
  s.load.isSome || s.cmds.any (fun x => x.ticket != t && x.opc == fLFREE && x.phase == 1 && (x.part == 2 || !x.atPick))

/-- The frame copy of a migration can run: its capture has been written, no bay-port request of the source is outstanding, and the
destination is on. -/
def copyDue (s : State) (m : Migr) (k : Skein) : Bool :=
  m.part == 3 && m.fail.isNone && baysQuiet s (k.baysAt m.src) && (k.baysAt m.dst).all (bayOn s)

/-- An earlier accepted command waits for the frame path and for nothing else (log entry 34): one that has not started, a free whose
hold is in effect, a migration whose copy is due. -/
def frameEarlier (s : State) (t : Nat) : Bool :=
  (cmdsBefore s t).any (fun x =>
    (onFramePath x && x.phase == 0 && !(x.opc == fLFREE && x.atPick) && instReady s x) || (x.opc == fLFREE && x.phase == 1 && x.part == 1) ||
    (match migOf s x.ticket with | some (m, k) => copyDue s m k | none => false))

/-- The frame path takes the command of a ticket now. -/
def framePathFree (s : State) (t : Nat) : Bool := !frameBusy s t && !frameEarlier s t

/-- R290. The frame copy of a migration ends. It runs on the frame path in its turn (R273), after the capture and once no bay-port
request of the source is outstanding. -/
def execMigrationCopyDone (t : Nat) (s : State) : Res :=
  .next (match migOf s t with
    | none => s
    | some (m, k) =>
      if !cfgRuns s || !copyDue s m k || !framePathFree s t then s
      else
        let (bad, s1) := (m.pairs k).foldl (fun (acc : Bool × State) p =>
          let (e, s1) := frameCopy p.1 p.2 acc.2
          (acc.1 || e, bindCopy p.1 p.2 s1)) (false, s)
        if bad then migFail t rMIGFAIL dFRAME s1 else updMig t (fun m => { m with part := 4 }) s1)

/-- R331. The destination is restored from the buffer, and stages 1 and 2 are lifted (steps 4 and 5). -/
def execMigrationRestoreDone (t : Nat) (s : State) : Res :=
  .next (match migOf s t, cmdOf s t with
    | some (m, k), some c =>
      if !cfgRuns s || m.part ≠ 4 || m.fail.isSome || engWaits s initCfg (c.f 0x10 8) k.snapLen then s
      else
        let (e, _, d, s1) := engRead initCfg (c.f 0x10 8) k.snapLen s
        if e ≠ 0 then migFail t rMEMERR e s1
        else if !snapCrcOk d then migFail t rMEMERR 0xFF s1
        else
          let s2 := restoreBays (k.baysAt m.dst) d s1
          gpioShowAll (updMig t (fun m => { m with part := 5 }) (forL (k.baysAt m.dst) (fun b s => bayStage false 2 b (bayStage false 1 b s)) s2))
    | _, _ => s)

/-- What the bay window of a source bay gives its destination at the swap: active and staged values alike, for the source takes no
boundary while it is frozen (R333, R346). -/
def swapCarry (a b : Nat) (s : State) : State :=
  let hdr (f : Field) (s : State) : State := s.setFld f (hdrOf 2 b) 0 (s.fld f (hdrOf 2 a))
  let s1 := forL [F.BAY_SCRUB_UE_ACT, F.BAY_SCRUB_CE_IRQ, F.BAY_CTL_CLK_EN, F.BAY_COEF_SEL_SEL, F.BAY_COEF_ACT_ACT, F.BAY_COEF_ACT_PEND,
      F.BAY_SLICE_FLAG_OVF, F.BAY_SLICE_FLAG_YOV, F.BAY_STATUS_POISON] (fun f s => s.setFld f b 0 (s.fld f a))
    (hdr F.STAGE_PICK_PICK (hdr F.STAGE_CTL_POLICY s))
  let st : List Staged := (s1.staged.filter (fun g => g.hu == hdrOf 2 a)).map (fun g => { g with hu := hdrOf 2 b, u := b })
  { s1 with staged := s1.staged.filter (fun g => g.hu != hdrOf 2 b) ++ st, bayq := (s1.bayq.set b (s1.bayq.get a)).set a [] }

/-- Bays leave the frozen state. -/
def thaw (bays : List Nat) (s : State) : State :=
  { s with frozen := s.frozen.filter (fun b => !bays.contains b), lastEdge := s.lastEdge.filter (fun e => !bays.contains e.1),
           strobe := s.strobe.keep (fun b _ => !bays.contains b) }

/-- The swap at boundary M (step 6). -/
def migSwap (m : Migr) (k : Skein) (s : State) : State :=
  let s1 := forL (m.pairs k) (fun p s =>
    let s1 := swapCarry p.1 p.2 s
    let s2 := ((s1.setFld F.BAY_STATUS_DX p.2 0 (s1.fld F.BAY_STATUS_DX p.1)).setFld F.BAY_STATUS_DY p.2 0 (s1.fld F.BAY_STATUS_DY p.1)).setBit
      F.BAY_STATUS_LOADED p.2
    let s3 := bayStage false 3 p.2 (s2.setFld F.BAY_STATUS_OWNER p.2 0 m.inst)
    let s4 := ((s3.clrFld F.BAY_STATUS_OWNER p.1).clrFld F.BAY_STATUS_LOADED p.1).discard (hdrOf 2 p.1)
    let s5 := ((s4.setBit F.BAY_STATUS_RST_HELD p.1).setBit F.BAY_STATUS_WE_HELD p.1).setBit F.BAY_STATUS_OUT_HELD p.1
    markBay m.inst oLOADED p.2 (markBay m.inst oERASING p.1 s5)) s
  let s2 := updInst m.inst (fun k => { k with c := m.dst.1, r := m.dst.2, ostate := oLOADED }) (thaw (k.baysAt m.src) s1)
  updCmd m.ticket (fun c => { c with org := m.dst }) (updMig m.ticket (fun m => { m with part := 6, swapped := true }) s2)

/-- The skein resumes in place at boundary M (R334). -/
def migResume (m : Migr) (k : Skein) (s : State) : State :=
  let s1 := thaw (k.baysAt m.src) (instState m.inst oLOADED s)
  let s2 := forL (k.baysAt m.dst) (fun b s => bayHoldAll b (markBay m.inst oERASING b s)) s1
  updMig m.ticket (fun m => { m with part := 6, fail := some (m.fail.getD (rMIGFAIL, dMIGLATE)) }) s2

/-- Boundary M of the migrations that reach it. -/
def migBoundary (n : Nat) (s : State) : State :=
  forL (s.migs.filter (fun m => m.m == n && 1 < m.part && m.part < 6)) (fun m s =>
    match instOf s m.inst with
    | some k => if m.part = 5 && m.fail.isNone then migSwap m k s else migResume m k s
    | none => s) s

/-- R331. The zero write of the vacated bays ends (step 7, R334): the command completes. -/
def execMigrationEraseDone (t : Nat) (s : State) : Res :=
  .next (match migOf s t with
    | none => s
    | some (m, k) =>
      if !cfgRuns s || m.part ≠ 6 then s
      else
        let bays := k.baysAt (if m.swapped then m.src else m.dst)
        let s1 := forL bays (fun b s => markBay 0 oFREE b (bayClean b s)) { s with migs := s.migs.filter (fun x => x.ticket != t) }
        match m.fail with
        | some (r, d) => cmdEnd t r d s1
        | none => cmdEnd t rOK 0 s1)

end Sys2Proof.Machine
end

