-- ==== Sys2Proof/Machine/LoomRun.lean ====
section
/-!
DEFINITION. Loom commands when they run (R273, R274, R279 to R293): the paths, LABORT, release, hold, free, the placement
query, keys, and how commands end.
-/
namespace Sys2Proof.Machine

/-! ### Release, hold and free (R283, R284) -/

/-- Every bay of an instance is under all three hold stages, or under none. -/
def allHeld (s : State) (k : Skein) : Bool :=
  k.bays.all (fun b => s.bit F.BAY_STATUS_RST_HELD b && s.bit F.BAY_STATUS_WE_HELD b && s.bit F.BAY_STATUS_OUT_HELD b)
def allReleased (s : State) (k : Skein) : Bool :=
  k.bays.all (fun b => !s.bit F.BAY_STATUS_RST_HELD b && !s.bit F.BAY_STATUS_WE_HELD b && !s.bit F.BAY_STATUS_OUT_HELD b)

/-- LREL. -/
def relRun (c : LCmd) (s : State) : State :=
  match instOf s c.inst with
  | none => cmdEnd c.ticket rNOSKEIN 0 s
  | some k =>
    if k.ostate ≠ oLOADED then cmdEnd c.ticket rBADSTATE 0 s
    else if allReleased s k then cmdEnd c.ticket rOK 0 s
    else if c.atPick && pickPassed s c.pick then cmdEnd c.ticket rLATE 0 s
    else updCmd c.ticket (fun x => { x with phase := if c.atPick then 2 else 1 })
      (holdBegin { inst := c.inst, hold := false, pick := if c.atPick then some c.pick else none, ticket := c.ticket + 1 } s)

/-- LHOLD: at once, or at its boundary; one whose boundary is past is applied at once and reports LATE. -/
def holdRun (c : LCmd) (s : State) : State :=
  match instOf s c.inst with
  | none => cmdEnd c.ticket rNOSKEIN 0 s
  | some k =>
    if k.ostate ≠ oLOADED then cmdEnd c.ticket rBADSTATE 0 s
    else if c.atPick && !pickPassed s c.pick then updCmd c.ticket (fun x => { x with phase := 2 }) s
    else updCmd c.ticket (fun x => { x with phase := 1, late := c.atPick })
      (holdBegin { inst := c.inst, hold := true, ticket := c.ticket + 1 } s)

/-- The erase of LFREE begins: LOADED is cleared, and no hold or release of the region goes on. -/
def freeErase (c : LCmd) (k : Skein) (s : State) : State :=
  let s1 := forL (s.holds.filter (fun h => h.inst == c.inst && h.ticket != 0)) (fun h s => cmdEnd (h.ticket - 1) rABORTED 0 s)
    { s with holds := s.holds.filter (fun h => h.inst != c.inst) }
  let s2 := instState c.inst oERASING (forL k.bays (fun b s => s.clrFld F.BAY_STATUS_LOADED b) s1)
  updCmd c.ticket (fun x => { x with phase := 1, part := 2 }) s2

/-- The hold of LFREE is in effect: the frames follow when the frame path is free. -/
def freeHeld (c : LCmd) (k : Skein) (s : State) : State :=
  if c.atPick && !framePathFree s c.ticket then updCmd c.ticket (fun x => { x with phase := 1, part := 1 }) s else freeErase c k s

/-- The hold of LFREE begins, unless every bay is held. -/
def freeHold (c : LCmd) (k : Skein) (late : Bool) (s : State) : State :=
  let s1 := updCmd c.ticket (fun x => { x with phase := 1, late := late }) s
  if allHeld s k then freeHeld c k s1 else holdBegin { inst := c.inst, hold := true, ticket := c.ticket + 1 } s1

/-- LFREE. -/
def freeRun (c : LCmd) (s : State) : State :=
  match instOf s c.inst with
  | none => cmdEnd c.ticket rNOSKEIN 0 s
  | some k =>
    if k.ostate ≠ oLOADED ∧ k.ostate ≠ oABORTED then cmdEnd c.ticket rBADSTATE 0 s
    else if c.atPick && !pickPassed s c.pick then updCmd c.ticket (fun x => { x with phase := 2 }) s
    else freeHold c k c.atPick s

/-- A hold or release is complete: its command ends, or goes on to its erase (R195, R281, R284). -/
def holdDone (h : HoldOp) (s : State) : State :=
  let s1 := { s with holds := s.holds.filter (fun x => x.inst != h.inst) }
  if h.ticket = 0 then s1
  else match cmdOf s1 (h.ticket - 1) with
    | none => s1
    | some c =>
      match c.opc == fLFREE, instOf s1 c.inst with
      | true, some k => freeHeld c k s1
      | _, _ => cmdEnd c.ticket (if c.late then rLATE else rOK) 0 s1

/-- The stage that is issued takes effect in every bay of the instance, and the next is issued. -/
def holdStep (h : HoldOp) (s : State) : State :=
  let bays := match instOf s h.inst with | some k => k.bays | none => skeinBays s h.inst
  let s1 := forL bays (bayStage h.hold h.stage) s
  if h.stage < h.last then { s1 with holds := s1.holds.map (fun x => if x.inst = h.inst then { x with stage := h.stage + 1 } else x) }
  else holdDone h s1

/-- R195. An issued stage of the hold or release of instance `inst` takes effect. Stage 3 of a release at a boundary waits
for it. -/
def execHoldStageEffect (inst : Nat) (s : State) : Res :=
  .next (match s.holds.find? (fun h => h.inst == inst) with
    | none => s
    | some h => if !hdRuns s || (!h.hold && h.stage == 3 && h.pick.isSome) then s else gpioShowAll (holdStep h s))

/-- Releases at boundary `n` (R196): stage 3 takes effect; when stage 2 has not, the release ends with LATE and goes on to stage 2
without stage 3. -/
def releasesAt (n : Nat) (s : State) : State :=
  forL (s.holds.filter (fun h => !h.hold && h.pick == some n)) (fun h s =>
    if h.stage = 3 then holdStep h s
    else
      let s1 := { s with holds := s.holds.map (fun x => if x.inst = h.inst then { x with last := 2, pick := none, ticket := 0 } else x) }
      if h.ticket = 0 then s1 else cmdEnd (h.ticket - 1) rLATE 0 s1) s

/-- Holds and frees scheduled at boundary `n`: stage 1 takes effect on the application edge. -/
def holdsAt (n : Nat) (s : State) : State :=
  forL (s.cmds.filter (fun c => (c.opc == fLHOLD || c.opc == fLFREE) && c.phase == 2 && c.atPick && c.pick == n)) (fun c s =>
    match instOf s c.inst with
    | none => cmdEnd c.ticket rNOSKEIN 0 s
    | some k =>
      if c.opc = fLFREE ∧ allHeld s k then freeHold c k false s
      else
        let s1 := if c.opc = fLFREE then freeHold c k false s
          else holdBegin { inst := c.inst, hold := true, ticket := c.ticket + 1 } (updCmd c.ticket (fun x => { x with phase := 1 }) s)
        match s1.holds.find? (fun h => h.inst == c.inst) with
        | some h => holdStep h s1
        | none => s1) s

/-- R95. HOLD_RESET in bay `b`, which also ends a release that is under way: a load of its region aborts (R189), a frozen bay under test takes it at M (R698), and any
other skein is held with all three stages. -/
def holdReset (b : Nat) (s : State) : State :=
  let o := mapOwner s b
  if o = 0 then s
  else if ostate s b = oLOADING then loadAbort s
  else if s.occ.any (fun x => x.inst == o && 1 < x.part) then { s with occ := s.occ.map (fun x => { x with hold := true }) }
  else match instOf s o with
    | some k => if k.ostate = oLOADED ∨ k.ostate = oMIGSRC then
      (if allHeld s k && s.holds.all (fun h => h.inst != o) then s else holdBegin { inst := o, hold := true } s) else s
    | none => s

/-- R95. A write of HOLD_RESET. -/
def execBayHoldReset (b : Nat) (s : State) : Res := .next (if b < 768 then holdReset b s else s)

/-! ### Placement query (R285) -/

/-- LPLACE reads the image header and asks Heddle. -/
def placeRun (c : LCmd) (s : State) : State :=
  let a := c.f 0x10 8
  if !imageAddrOk a then cmdEnd c.ticket rIMAGE iBADHDR s
  else
    if engWaits s initCfg a 256 then s else
    let (e, _, h, s1) := engRead initCfg a 256 s
    if e ≠ 0 then cmdEnd c.ticket rIMAGE iSRCERR s1
    else
      let f := headerFault s1 h
      if f.1 ≠ 0 then cmdEnd c.ticket rIMAGE f.1 s1
      else if ihBolt h then
        (if (List.range 768).any (fun b => ostate s1 b != oFREE || hstate s1 b == 3) then cmdEnd c.ticket rIMAGE iNOTFREE s1
         else cmdEnd c.ticket rOK 0 s1)
      else updCmd c.ticket (fun x => { x with phase := 1, spools := h }) { s1 with hdq := s1.hdq ++ [c.ticket] }

/-- Heddle's answer to a placement query. -/
def placeOrigin (c : LCmd) (s : State) : State :=
  let h := c.spools
  let pin := if c.pin then some (c.f 4 1, c.f 5 1) else none
  match originRequest s pin (ihW h) (ihH h) (if c.flag 5 then c.f 6 1 else ihPrio h) (ihAnchors h) [] with
  | .inl d => cmdEnd c.ticket rNOFIT d s
  | .inr (q, _) =>
    match originServe c.core q s with
    | (.inl d, s1) => cmdEnd c.ticket rNOFIT d s1
    | (.inr o, s1) => cmdEnd c.ticket rOK 0 (updCmd c.ticket (fun x => { x with org := o }) s1)

/-- R305. Heddle serves the oldest origin request, one at a time with its map update (R17). Commands of the model never fall in
one cycle: who sends the LOOM_COMMAND_STARTs of several cores that ask in one cycle sends them by ascending core index, and
the queue keeps that order (log 7). -/
def execHeddleOriginRequest (s : State) : Res :=
  .next (match s.hdq with
    | [] => s
    | t :: q =>
      if !hdRuns s then s
      else
        let s1 := { s with hdq := q }
        match cmdOf s1 t with
        | none => s1
        | some c =>
          if c.phase = 3 then s1
          else if c.opc = fLLOAD then gpioShowAll (loadOrigin c s1)
          else if c.opc = fLMIGR then gpioShowAll (migOrigin c s1)
          else placeOrigin c s1)

/-! ### Keys (R292, R293) -/

/-- The key of slot `k` of class `cl`: where it is kept. -/
def keyCell (cl k : Nat) : Nat := if cl = 0 then 64 + k else k

/-- A key slot takes a key, or becomes empty. -/
def keySet (cl k : Nat) (v : List Byte) (s : State) : State :=
  let s1 := { s with keys := s.keys.set (keyCell cl k) v }
  if cl = 0 then s1.setFlag F.CFG_IKEY_VALID 0 0 k (!v.isEmpty) else s1.setFlag F.MPE_KEY_LOADED 0 0 (k - 1) (!v.isEmpty)

/-- A valid region descriptor names memory-protection slot `k`. -/
def keyNamed (s : State) (k : Nat) : Bool :=
  (List.range 64).any (fun r => s.bit F.MPR_CTL_VALID 0 r && (s.fld F.MPR_CTL_SLOT_CUR 0 r == k || s.fld F.MPR_CTL_SLOT_NEW 0 r == k))

/-- The `n` bytes of core `c`'s LDM from an offset on. The LDM ends at 64 KiB: what stands past it is unstated, and reads as free
bytes (log entry 48). -/
def keyBytes (c o n : Nat) (s : State) : List Byte × State :=
  let m := min n (0x1_0000 - o)
  let (f, s1) := s.freshBytes (n - m)
  (s.rdBytes (aPriv c (0x1_0000 + o)) m ++ f, s1)

/-- The plaintext key of a blob that unwraps in class `cl`. -/
def blobKey (cl : Nat) (b : List Byte) : Option (List Byte) :=
  if fieldLE b 0 4 = 0x4B594250 ∧ fieldLE b 4 1 = cl then keyUnwrap cl (slice b 8 40) else none

/-- LKEY. -/
def keyRun (c : LCmd) (s : State) : State :=
  let op := c.f 0x10 1
  let cl := c.f 0x11 1
  let k := c.f 0x12 1
  let at' := c.f 0x16 2
  if (cl = 0 ∧ 15 < k) ∨ (cl = 1 ∧ (k = 0 ∨ 63 < k)) then cmdEnd c.ticket rBADSTATE 0 s
  else if op ≠ 2 ∧ cl = 1 ∧ keyNamed s k then cmdEnd c.ticket rBADSTATE 0 s
  else match op with
    | 0 =>
      if cl = 1 && privBad s 1 then cmdEnd c.ticket rKEYERR 0 s
      else
        let (b, s1) := keyBytes c.core (c.f 0x14 2) 64 s
        match blobKey cl b with
        | some v => cmdEnd c.ticket rOK 0 (keySet cl k v s1)
        | none => cmdEnd c.ticket rKEYERR 0 s1
    | 1 => cmdEnd c.ticket rOK 0 (keySet cl k [] s)
    | _ =>
      let (b, s1) := keyBytes c.core (c.f 0x14 2) 32 s
      let blob := bytesLE 4 0x4B594250 ++ bytesLE 4 cl ++ padTo 40 (keyWrap cl b) ++ List.replicate 16 0
      cmdEnd c.ticket rOK 0 (s1.wrBytes (aPriv c.core (0x1_0000 + at')) (blob.take (0x1_0000 - at')))

/-! ### Starting and ending -/

/-- A command that names a skein with a bay that is not on (R672). -/
def notOn (s : State) (c : LCmd) : Bool :=
  match instOf s c.inst with
  | some k => ! [fLHOLD, fLFREE].contains c.opc && descNames c.opc c.desc && !k.bays.all (bayOn s)
  | none => false

/-- The command runs. -/
def cmdRun (c : LCmd) (s : State) : State :=
  if privBad s 0 || notOn s c then cmdEnd c.ticket rBADSTATE 0 s
  else if (c.opc == fLSNAP || c.opc == fLMIGR) && s.occ.any (fun o => o.inst == c.inst) then cmdEnd c.ticket rBADSTATE 0 s
  else if c.opc = fLLOAD then loadStart c (updCmd c.ticket (fun x => { x with phase := 1 }) s)
  else if c.opc = fLREL then relRun c s
  else if c.opc = fLHOLD then holdRun c s
  else if c.opc = fLFREE then freeRun c s
  else if c.opc = fLPLACE then placeRun c s
  else if c.opc = fLSNAP then snapRun c s
  else if c.opc = fLREST then restRun c s
  else if c.opc = fLMIGR then migRun c s
  else if c.opc = fLSCRUB then scrubRun c s
  else if c.opc = fLREAD then readRun c s
  else keyRun c s

/-- An earlier accepted one-pass scrub waits for nothing but its turn (R340). -/
def passEarlier (s : State) (c : LCmd) : Bool :=
  c.opc == fLSCRUB && c.f 0x10 1 == 1 &&
  (cmdsBefore s c.ticket).any (fun x => x.opc == fLSCRUB && x.f 0x10 1 == 1 && x.phase == 0 && instReady s x)

/-- A waiting command begins when its path and earlier commands allow it; a free whose hold is in effect begins its erase when the
frame path is free. -/
def cmdStart (t : Nat) (s : State) : State :=
  match cmdOf s t with
  | none => s
  | some c =>
    if !cfgRuns s then s
    else if c.phase = 0 then
      (if instReady s c && !passEarlier s c && (!onFramePath c || (c.opc == fLFREE && c.atPick) || framePathFree s t) then cmdRun c s else s)
    else if c.opc = fLFREE ∧ c.phase = 1 ∧ c.part = 1 ∧ framePathFree s t = true then
      (match instOf s c.inst with | some k => freeErase c k s | none => s)
    else s

/-- R273. A waiting command begins. -/
def execLoomCommandStart (t : Nat) (s : State) : Res := .next (cmdStart t s)

/-- R286. LSNAP: it starts at its acceptance, which is the trigger time of an immediate capture (R353), unless an earlier command of
its instance is still running (log entry 32). -/
def execLsnap (c rd rs1 mbz : Nat) (s : State) : Res := loomIssueThen cmdStart c fLSNAP rd rs1 mbz s

/-- R278. A command completes and is reported: one that has ended, or a free whose zero write has been done. -/
def execLoomCommandComplete (t : Nat) (s : State) : Res :=
  .next (match cmdOf s t with
    | none => s
    | some c =>
      if c.phase = 3 then cmdReport t s
      else if c.opc = fLFREE ∧ c.phase = 1 ∧ c.part = 2 ∧ cfgRuns s = true then
        cmdReport t (cmdEnd t (if c.late then rLATE else rOK) 0 (regionErase c.inst s))
      else s)

/-! ### LABORT (R282) -/

/-- A load whose image has passed is aborted while its release at once goes on: the release ends, and R189 applies. -/
def loadAbortLate (c : LCmd) (k : Skein) (s : State) : State :=
  let s1 := { s with holds := s.holds.filter (fun h => h.inst != c.inst) }
  let s2 := forL k.bays (fun b s => (bayUndef b (bayHoldAll b s)).clrFld F.BAY_STATUS_LOADED b) s1
  cmdEnd c.ticket rIMAGE iABORT (faultRecord iABORT (s2.fld F.CFG_LOAD_CONSUMED) (instState c.inst oABORTED s2))

/-- What LABORT does to a ticket, and what it writes to rd. -/
def ticketAbort (t : Nat) (s : State) : Nat × State :=
  match cmdOf s t with
  | none => (2, s)
  | some c =>
    if !tkLive s t || c.phase = 3 then (2, s)
    else if s.load.any (fun l => l.ticket == t) then
      (1, match s.load with
        | some l => if l.part = 0 then loadFaultA iABORT l.pos { s with hdq := s.hdq.filter (· != t) } else loadAbort s
        | none => s)
    else if c.phase = 0 ∨ cmdUnfired s c then (0, cmdAbort t s)
    else match c.opc == fLLOAD, instOf s c.inst with
      | true, some k => (1, loadAbortLate c k s)
      | _, _ => (2, s)

/-- R282. LABORT. -/
def execLabort (c rd rs1 mbz : Nat) (s : State) : Res :=
  loomOp c mbz (fun s =>
    let (r, s1) := ticketAbort (s.vget c rs1).toNat s
    vretire c (gpioShowAll (s1.vset c rd (BitVec.ofNat 64 r)))) s

end Sys2Proof.Machine
end

