-- ==== Sys2Proof/Machine/MemPort.lean ====
section
/-!
DEFINITION. The commands of the memory ports and of the protection engine's regions (chapters 15, 16): acceptance,
scheduling, refresh, row disturbance, patrol, training, self-refresh, the remap table, regions and rotation.
-/
namespace Sys2Proof.Machine

/-! ### Acceptance and responses (R444, R445) -/

/-- An ORDERED or DEBUG request, served in its initiator's order. -/
def isOrdered (p : Packet) : Bool := p.cls == 0 || p.cls == 3

/-- A request accepted before number `k` of the same initiator, ORDERED, that is not answered yet. -/
def mpEarlier (m : MPort) (k : Nat) (p : Packet) : Bool :=
  isOrdered p &&
  (m.rq.any (fun r => r.kind == 0 && r.seq < k && isOrdered r.pkt && r.pkt.init == p.init && r.pkt.srcdev == p.srcdev) ||
   m.pipe.any (fun q => q.seq < k && isOrdered q.pkt && q.pkt.init == p.init && q.pkt.srcdev == p.srcdev))

/-- Sends every ready response that no earlier request of its initiator holds back (R445). -/
def mpSendReady (n : Nat) (s : State) : State :=
  let m := s.mp.get n
  let go := m.ready.filter (fun r => !mpEarlier m r.seq r.pkt)
  forL go (fun r s => s.respond r.pkt r.st r.data r.pm)
    (s.updMp n (fun m => { m with ready := m.ready.filter (fun r => !go.contains r) }))

/-- A request with acceptance number `k` is answered. -/
def mpAnswer (n k : Nat) (p : Packet) (v : Served) (s : State) : State :=
  mpSendReady n (s.updMp n (fun m => { m with ready := m.ready ++ [{ seq := k, pkt := p, st := v.st, data := v.data, pm := v.pm }] }))

/-- A request on plain DRAM is accepted; `none` while a queue has no room (R446, R450): no write, not even one that would merge,
while no entry is free. -/
def mpAcceptPlain (n k : Nat) (p : Packet) (s : State) : Option State :=
  let m := s.mp.get n
  let off := p.addr % 2 ^ 41
  if p.opc = opREAD then
    if m.rq.length ≥ 64 then none
    else
      let (gs, s1) := mpSnaps n off (p.len + 1) s
      if gs.all (fun g => g.cls == 4) then
        let (d, pm, s2) := snapData off (p.len + 1) gs s1
        some (mpAnswer n k p { data := d, pm := pm } s2)
      else some (s1.updMp n (fun m => { m with rq := m.rq ++ [{ pkt := p, snaps := gs, seq := k }] }))
  else if 64 ≤ m.wq.length ∨ 64 < m.wq.length + mpNeeds s n p then none
  else if p.opc = opATOMIC then
    let (d, bad, s1) := mpAtomicNow n p s
    some (mpAnswer n k p { data := d, pm := ofBool bad } s1)
  else some (mpAnswer n k p {} (mpWriteNow n p s))

/-- The memory domain runs, so its units take steps. -/
def memRuns (s : State) : Bool := domRuns s 4

/-- R444, R435, R484. Port `n` takes the first request that waits at it: it refuses it, hands it to the pipe, or accepts
it on plain DRAM; a request that finds no room waits. While the memory domain is stopped only the refusals of R435 are
answered. -/
def execMpRequestAccept (n : Nat) (s : State) : Res :=
  .next (
    if n ≥ 16 then s
    else match s.takeArrived (.dram n) with
    | none => s
    | some (p, s0) =>
      if !memRuns s && mpCheck s n p == 0 then s
      else
      let k := (s0.mp.get n).seq
      let s1 := mpServing n p.init p.srcdev (s0.updMp n (fun m => { m with seq := m.seq + 1 }))
      match pipeDecide s1 n p with
      | .region r => s1.updMp n (fun m => { m with pipe := m.pipe ++ [{ seq := k, act := s.fld F.MPR_CTL_ALARM_ACT 0 r, pkt := p }] })
      | .plain => (mpAcceptPlain n k p s1).getD s
      | d =>
        let (c, s2) := pipeRefuse p d s1
        mpAnswer n k p { st := c } s2)

/-- The pipe of port `n` serves a request that it has accepted; one whose region has fallen since completes with FROZEN
(R508). -/
def pipeOne (n : Nat) (q : PipeReq) (s : State) : State :=
  let s0 := mpServing n q.pkt.init q.pkt.srcdev (s.updMp n (fun m => { m with pipe := m.pipe.drop 1 }))
  match rgAt s n (q.pkt.addr % 2 ^ 41) with
  | none => mpAnswer n q.seq q.pkt { st := eFROZEN } s0
  | some r =>
    if 3 ≤ rgState s r then mpAnswer n q.seq q.pkt { st := eFROZEN } s0
    else
      let (v, s1) := pipeServe n r q.pkt (some q.act) s0
      mpAnswer n q.seq q.pkt v s1

/-- R498. The pipe of port `n` serves its next request. -/
def execPipeServeRequest (n : Nat) (s : State) : Res :=
  .next (if n ≥ 16 || !memRuns s then s
    else match (s.mp.get n).pipe with
    | [] => s
    | q :: _ => pipeOne n q s)

/-! ### The scheduler (R450 to R453) -/

/-- Every tracker count of a bank is halved (R456). -/
def mpHalve (n bank : Nat) (s : State) : State :=
  s.updMp n (fun m => { m with trk := m.trk.upd bank (fun l => (l.map (fun t => { t with cnt := t.cnt / 2 })).filter (fun t => t.cnt != 0)) })

/-- REF_LIMIT as it acts: 1 to 4, other values 4. -/
def refLimit (s : State) (n : Nat) : Nat :=
  let v := s.fld F.MP_REF_REF_LIMIT n
  if 1 ≤ v ∧ v ≤ 4 then v else 4

/-- REFab of a rank (R453). -/
def mpRefAb (n rank : Nat) (s : State) : State :=
  let s1 := mpEmit n 1 (rank * 32) 0 s
  let s2 := s1.updMp n (fun m => { m with debt := (List.range 4).foldl (fun d b => d.set (rank * 4 + b) (d.get (rank * 4 + b) - 1)) m.debt })
  forN 32 (fun b s => mpHalve n (rank * 32 + b) (mpRaaDown n (rank * 32 + b) s)) s2

/-- REFsb of bank index `b` of a rank (R452); at each fourth, the trackers of its banks are halved (R456). -/
def mpRefSb (n rank b : Nat) (s : State) : State :=
  let s1 := mpEmit n 0 (rank * 32 + b) 0 s
  let s2 := s1.updMp n (fun m => { m with debt := m.debt.set (rank * 4 + b) (m.debt.get (rank * 4 + b) - 1),
                                          refs := m.refs.set (rank * 4 + b) ((m.refs.get (rank * 4 + b) + 1) % 4) })
  forN 8 (fun g s =>
    let s1 := mpRaaDown n (rank * 32 + g * 4 + b) s
    if (s1.mp.get n).refs.get (rank * 4 + b) = 0 then mpHalve n (rank * 32 + g * 4 + b) s1 else s1) s2

/-- The blocks of DRAM that a read still needs. -/
def readBlks (r : MRead) : List Nat := (r.snaps.filter (fun g => g.cls != 4)).map (·.blk)

/-- A read is eligible (R450, R458): the oldest of its initiator when ORDERED, and not held by a throttle. -/
def readEligible (m : MPort) (gap : Bool) (r : MRead) : Bool :=
  !r.issued && (r.kind != 0 || (!mpEarlier { m with pipe := [] } r.seq r.pkt && (gap || !m.thr.contains (r.pkt.init, r.pkt.srcdev))))

/-- A block's row is open. -/
def rowHit (s : State) (n blk : Nat) : Bool := (s.mp.get n).rows.get (blkBank s n blk) == blkRow s n blk + 1

/-- The priority that a read is chosen by: a request by its PRIO, a patrol read last. -/
def readRank (r : MRead) : Nat := if r.kind = 1 then 0 else r.pkt.prio + 1

/-- The first of the highest rank. -/
def bestRead : List MRead → Option MRead
  | [] => none
  | r :: rs => match bestRead rs with
    | none => some r
    | some q => if readRank r < readRank q then some q else some r

/-- A read command goes out: its rows are opened and it waits for its data. -/
def issueRead (n : Nat) (r : MRead) (s : State) : State :=
  let s1 := forL (readBlks r) (fun b s => mpCommand n 5 b (mpActivate n b r.pkt.init r.pkt.srcdev s)) s
  s1.updMp n (fun m => { m with rq := m.rq.map (fun q => if q = r then { q with issued := true } else q) })

/-- A remap entry whose release waits for its write (R472). -/
def releasing (s : State) (n : Nat) : Option Nat :=
  (List.range 8).find? (fun e => s.bit F.MP_REMAP_VALID n e && s.bit F.MP_REMAP_BUSY n e)

/-- The write of a released remap entry is issued (R472). -/
def issueRelease (n e : Nat) (s : State) : State :=
  let blk := s.fld F.MP_REMAP_ADDR n e
  let bad := !(ueBytes s (aRemap n e 0) 64).isEmpty
  let s1 := mpCommand n 7 blk (mpActivate n blk 0 (s.fld F.DEV_ID) s)
  ((dramStore n blk (corrected s (aRemap n e 0) 64) bad s1).clrFld F.MP_REMAP_VALID n e).clrFld F.MP_REMAP_BUSY n e

/-- The write that goes next: a release, then a queue entry that hits an open row, then the oldest. -/
def nextWrite (n : Nat) (s : State) : Option State :=
  match releasing s n with
  | some e => some (issueRelease n e s)
  | none =>
    match (s.mp.get n).wq.find? (fun e => rowHit s n e.blk) with
    | some e => some (issueWrite n e s)
    | none => (s.mp.get n).wq.head?.map (fun e => issueWrite n e s)

/-- The read that goes next among the eligible ones: a row hit before a miss. -/
def nextRead (n : Nat) (gap : Bool) (s : State) : Option State :=
  let m := s.mp.get n
  let el := m.rq.filter (readEligible m gap)
  match bestRead (el.filter (fun r => (readBlks r).all (rowHit s n) && r.kind != 1)) with
  | some r => some (issueRead n r s)
  | none => (bestRead el).map (fun r => issueRead n r s)

/-- A same-bank refresh that R452 allows. -/
def sbRefresh (s : State) (n : Nat) : Option (Nat × Nat) :=
  let m := s.mp.get n
  let busy (rank b : Nat) : Bool :=
    (m.wq.map (·.blk) ++ (m.rq.filter (fun r => !r.issued)).flatMap readBlks).any (fun k =>
      blkBank s n k / 32 == rank && blkBank s n k % 4 == b)
  ((List.range (mpRanks s n)).flatMap (fun r => (List.range 4).map (fun b => (r, b)))).find? (fun x =>
    1 ≤ m.debt.get (x.1 * 4 + x.2) && !busy x.1 x.2)

/-- R450. The scheduler of port `n` takes a command slot: `aged` says that the oldest eligible request has waited
AGE_LIMIT, `gap` that throttled initiators may send again (R458). -/
def execMpCommandSlot (n : Nat) (aged gap : Bool) (s : State) : Res :=
  .next (
    if n ≥ 16 || !memRuns s || (s.fld F.MP_STATUS_STATE n != 2 && s.fld F.MP_STATUS_STATE n != 5) then s
    else
      let m0 := s.mp.get n
      let drain := if s.fld F.MP_SCHED_WQ_HI n ≤ m0.wq.length then true else if m0.wq.length ≤ s.fld F.MP_SCHED_WQ_LO n then false else m0.drain
      let s0 := s.updMp n (fun m => { m with drain := drain })
      let m := s0.mp.get n
      let rank := (List.range (mpRanks s0 n)).find? (fun r => (List.range 4).any (fun b => refLimit s0 n ≤ m.debt.get (r * 4 + b)))
      let rfm := m.raa.keys.find? (fun b => Config.raammt n + 1 ≤ m.raa.get b)
      match rank, rfm with
      | some r, _ => mpRefAb n r s0
      | none, some b => mpRaaSb n b (mpEmit n 2 b 0 s0)
      | none, none =>
        let old := (m.rq.filter (readEligible m gap)).head?
        match old, aged with
        | some r, true => issueRead n r s0
        | _, _ =>
          let first := if drain then nextWrite n s0 else nextRead n gap s0
          match first with
          | some t => t
          | none =>
            match (if drain then nextRead n gap s0 else nextWrite n s0) with
            | some t => t
            | none => match sbRefresh s0 n with
              | some (r, b) => mpRefSb n r b s0
              | none => s0)

/-- R464. The data of the oldest issued read of port `n` returns: its blocks are counted and logged, and a request is
answered. -/
def execMpReadReturn (n : Nat) (s : State) : Res :=
  .next (
    if n ≥ 16 || !memRuns s then s
    else match (s.mp.get n).rq.find? (fun r => r.issued && r.kind != 2) with
    | none => s
    | some r =>
      let s1 := s.updMp n (fun m => { m with rq := m.rq.erase r })
      let s2 := forL r.snaps (mpNote n (r.kind == 1)) s1
      if r.kind = 1 then s2
      else
        let (d, pm, s3) := snapData (r.pkt.addr % 2 ^ 41) (r.pkt.len + 1) r.snaps s2
        mpAnswer n r.seq r.pkt { data := d, pm := pm } s3)

/-- R452. tREFI passes: every refresh debt of port `n` grows. -/
def execMpRefreshTick (n : Nat) (s : State) : Res :=
  .next (
    let st := s.fld F.MP_STATUS_STATE n
    if n < 16 && memRuns s && (st == 2 || st == 5) then
      s.updMp n (fun m => { m with debt := (List.range (4 * mpRanks s n)).foldl (fun d k => d.set k (d.get k + 1)) m.debt })
    else s)

/-- R454. Port `n` reads MR4, which reports the doubled rate or not, and the DIMM sensors. -/
def execMpMr4Poll (n : Nat) (hi : Bool) (t0 t1 : Nat) (s : State) : Res :=
  .next (if n < 16 && memRuns s && (s.fld F.MP_STATUS_STATE n == 2 || s.fld F.MP_STATUS_STATE n == 5) then
    ((s.setFld F.MP_TEMP_HIREF n 0 (ofBool hi)).setFld F.MP_TEMP_TEMP0 n 0 t0).setFld F.MP_TEMP_TEMP1 n 0 t1
  else s)

/-- R458. The throttle of an initiator at port `n` ends. -/
def execMpThrottleEnd (n init src : Nat) (s : State) : Res :=
  .next (if n < 16 then s.updMp n (fun m => { m with thr := m.thr.filter (· != (init, src)) }) else s)

/-- R468. The patrol interval passes: port `n` queues a read of the next burst. -/
def execMpPatrolRead (n : Nat) (s : State) : Res :=
  .next (
    if n ≥ 16 || !memRuns s || s.fld F.MP_ECC_PATROL_INT n = 0 || s.fld F.MP_STATUS_STATE n != 2 || (s.mp.get n).rq.length ≥ 64 then s
    else
      let pos := s.fld F.MP_PATROL_POS n
      let cap := 2 ^ s.fld F.MP_GEOM_CAP_LOG2 n / 128
      let (g0, s1) := mpSnap n (2 * pos) 0 s
      let (g1, s2) := mpSnap n (2 * pos + 1) 0 s1
      let (d0, c0, p0, s3) := dramDecode n (2 * pos) s2
      let (d1, c1, p1, s4) := dramDecode n (2 * pos + 1) s3
      let keep (g : MSnap) (d : List Byte) (c p : Nat) : MSnap :=
        if (remapOf s n g.blk).isSome then g else { blk := g.blk, data := d, cls := c, dev := p }
      let r : MRead := { kind := 1, snaps := [keep g0 d0 c0 p0, keep g1 d1 c1 p1] }
      (s4.updMp n (fun m => { m with rq := m.rq ++ [r] })).setFld F.MP_PATROL_POS n 0 ((pos + 1) % max 1 cap))

/-- R475. The leak period of port `n` passes. -/
def execMpLbLeak (n : Nat) (s : State) : Res :=
  .next (if n < 16 then s.setFld F.MP_LB_COUNT n 0 (s.fld F.MP_LB_COUNT n - 1) else s)

/-! ### Port states and training (R434 to R439, R459 to R462) -/

/-- Valid regions on port `n`. -/
def regionsOn (s : State) (n : Nat) : List Nat := (List.range 32).filter (fun r => rgValid s r && s.fld F.MPR_CTL_PORT 0 r == n)

/-- A change of STATE of port `n` raises the memory-port state source (R437); FAILED makes its regions LOST (R512). -/
def mpSetState (n st : Nat) (s : State) : State :=
  if s.fld F.MP_STATUS_STATE n = st then s
  else
    let s1 := irqEdge (0x120 + n) (s.setFld F.MP_STATUS_STATE n 0 st)
    if st = 4 then forL (regionsOn s n) (fun r s => rgFall r 5 s) s1 else s1

/-- The rate of the memory domain as a fraction of kHz. -/
def memRate (s : State) : Freq := (domFreq s 4 (s.fld F.DOM_STATUS_CUR_SRC 0 4)).div (ddiv (s.fld F.DOM_STATUS_CUR_DDIV 0 4))

/-- What a port holds of requests is dropped, its DRAM contents are undefined from now on, or zero (R438); an INSTALL that has
not ended takes what is there now. -/
def mpForget (n : Nat) (zero : Bool) (s : State) : State :=
  let lo := n * 2 ^ 35
  let s1 := s.zeroRange (aDram n 0) (2 ^ 41)
  let s2 := { s1 with dramErr := s1.dramErr.keep (fun k _ => k < lo || lo + 2 ^ 35 ≤ k),
                      dramDef := s1.dramDef.keep (fun k _ => k < lo || lo + 2 ^ 35 ≤ k),
                      mp := s1.mp.set n { seq := (s1.mp.get n).seq, zeroed := zero, rate := ((memRate s1).num, (memRate s1).den) } }
  forL ((s.mp.get n).rq.filter (fun r => r.kind == 2)) (fun r s =>
    let blk := ((r.snaps.head?).map (·.blk)).getD 0
    let (d, c, p, s1) := dramDecode n blk s
    s1.updMp n (fun m => { m with rq := m.rq ++ [{ r with snaps := [{ blk := blk, data := d, cls := c, dev := p, psn := c ≥ 2 }] }] })) s2

/-- A step of training fails (R437). -/
def mpFail (n step code : Nat) (s : State) : State :=
  mpSetState n 4 (((s.setFld F.MP_STATUS_FAILSTEP n 0 step).setFld F.MP_STATUS_FAILCODE n 0 code).clrFld F.MP_STATUS_STEP n)

/-- MP_CTL.TRAIN (R436). -/
def mpTrain (n : Nat) (s : State) : State :=
  let st := s.fld F.MP_STATUS_STATE n
  if st ≠ 0 ∧ st ≠ 4 then s
  else if s.fld F.DOM_STATUS_STATE 0 4 ≠ 0 then mpFail n 1 7 s
  else
    let s1 := (s.clrFld F.MP_STATUS_FAILCODE n).clrFld F.MP_STATUS_FAILSTEP n
    mpSetState n 1 ((s1.setFld F.MP_STATUS_STEP n 0 1).updMp n (fun m => { m with zfill := s.bit F.MP_CTL_ZFILL n }))

/-- R436. A write of TRAIN = 1 to port `n`, with ZFILL as given. -/
def execMpTrain (n : Nat) (zfill : Bool) (s : State) : Res :=
  .next (if n < 16 then mpTrain n (s.setFld F.MP_CTL_ZFILL n 0 (ofBool zfill)) else s)

/-- What step 1 reads from the SPD hubs is entered in MP_GEOM (R442): `geom` holds DIMMS, PRANKS, STACK, DENSITY and DRFM
at their places. -/
def mpGeom (n geom : Nat) (s : State) : State :=
  let l := bitsOf geom 12 1 + bitsOf geom 16 1 + bitsOf geom 20 2
  ((((((s.setFld F.MP_GEOM_DIMMS n 0 (bitsOf geom 12 1)).setFld F.MP_GEOM_PRANKS n 0 (bitsOf geom 16 1)).setFld
    F.MP_GEOM_STACK n 0 (bitsOf geom 20 2)).setFld F.MP_GEOM_DENSITY n 0 (bitsOf geom 24 2)).setFld F.MP_GEOM_DRFM n 0 (bitsOf geom 8 1)).setFld
    F.MP_GEOM_L n 0 l).setFld F.MP_GEOM_CAP_LOG2 n 0 (19 + l + 16 + bitsOf geom 24 2)

/-- The last training step passes and the port enters service (R437, R438, R468). -/
def mpEnter (n : Nat) (s : State) : State :=
  mpSetState n 2 ((mpForget n ((s.mp.get n).zfill) (s.clrFld F.MP_STATUS_STEP n)).clrFld F.MP_PATROL_POS n)

/-- R437. The training step in progress at port `n` ends: `code` 0 when it passed, else its code of Table 15.7; `geom` is
what step 1 found, which fills MP_GEOM before the checks of Table 15.3. -/
def execMpTrainingStepDone (n code geom : Nat) (s : State) : Res :=
  .next (
    let step := s.fld F.MP_STATUS_STEP n
    if n ≥ 16 || s.fld F.MP_STATUS_STATE n != 1 || !memRuns s then s
    else if code = 1 && step = 1 then
      mpSetState n 0 (((s.clrFld F.MP_GEOM_CAP_LOG2 n).setFld F.MP_STATUS_FAILCODE n 0 1).clrFld F.MP_STATUS_STEP n)
    else if code ≠ 0 then mpFail n step code (if step = 1 && 2 ≤ code && code ≤ 4 then mpGeom n geom s else s)
    else
      let s1 := if step = 1 then mpGeom n geom s else s
      if step = 9 || (step = 8 && !(s.mp.get n).zfill) then mpEnter n s1
      else s1.setFld F.MP_STATUS_STEP n 0 (step + 1))

/-- R459. A write of SR_ENTER. -/
def execMpSrEnter (n : Nat) (s : State) : Res :=
  .next (if n < 16 && s.fld F.MP_STATUS_STATE n == 2 then mpSetState n 5 (s.updMp n (fun m => { m with flushed := false })) else s)

/-- Every request that the pipe of port `n` has accepted is served (R482, R510). -/
def pipeServeAll (n : Nat) (s : State) : State :=
  forL (s.mp.get n).pipe (pipeOne n) s

/-- R510. The pipe of a port that drains has finished its requests and written back its dirty entries. -/
def execPipeFlushDone (n : Nat) (s : State) : Res :=
  .next (if n < 16 && memRuns s && s.fld F.MP_STATUS_STATE n == 5 then
    (pipeFlush n (mpServing n 0 (s.fld F.DEV_ID) (pipeServeAll n s))).updMp n (fun m => { m with flushed := true })
  else s)

/-- Every read that port `n` has accepted returns, but that of an INSTALL in progress, and its write queue is written out
(R459). -/
def mpDrain (n : Nat) (s : State) : State :=
  let s1 := forL ((s.mp.get n).rq.filter (fun r => r.kind != 2)) (fun r s =>
    let s1 := s.updMp n (fun m => { m with rq := m.rq.erase r })
    let s2 := forL r.snaps (mpNote n (r.kind == 1)) s1
    if r.kind ≠ 0 then s2
    else
      let (d, pm, s3) := snapData (r.pkt.addr % 2 ^ 41) (r.pkt.len + 1) r.snaps s2
      mpAnswer n r.seq r.pkt { data := d, pm := pm } s3) s
  forL ((s1.mp.get n).wq.map (·.blk)) (fun b s => match (s.mp.get n).wq.find? (fun e => e.blk == b) with
    | some e => issueWrite n e s
    | none => s) s1

/-- The port enters self-refresh (R459). -/
def mpSelfRefresh (n : Nat) (s : State) : State :=
  mpSetState n 3 ((mpEmitAll n 8 (mpDrain n s)).updMp n (fun m =>
    { m with rows := {}, wq := [], rq := m.rq.filter (fun r => r.kind == 2), drain := false, exiting := false }))

/-- R459. Draining ends: the port issues SRE and enters SELF_REFRESH. -/
def execMpDrainDone (n : Nat) (s : State) : Res :=
  .next (if n < 16 && memRuns s && s.fld F.MP_STATUS_STATE n == 5 && (s.mp.get n).flushed then mpSelfRefresh n s else s)

/-- The memory domain runs from SPLL4 at the rate in force when the port's training ended (R460). -/
def rateKept (s : State) (n : Nat) : Bool :=
  let r := (s.mp.get n).rate
  s.fld F.DOM_STATUS_STATE 0 4 == 0 && s.fld F.DOM_STATUS_CUR_SRC 0 4 == 0 && (memRate s).num * r.2 == r.1 * (memRate s).den

/-- R460. A write of SR_EXIT. -/
def execMpSrExit (n : Nat) (s : State) : Res :=
  .next (if n < 16 && s.fld F.MP_STATUS_STATE n == 3 && rateKept s n && !(s.mp.get n).exiting then
    (mpEmitAll n 9 s).updMp n (fun m => { m with exiting := true })
  else s)

/-- R460. Calibration and checks after SRX end and the port enters service. -/
def execMpSrExitDone (n : Nat) (s : State) : Res :=
  .next (if n < 16 && memRuns s && s.fld F.MP_STATUS_STATE n == 3 && (s.mp.get n).exiting then
    mpSetState n 2 (s.updMp n (fun m => { m with exiting := false, debt := {} }))
  else s)

/-! ### The remap table (R471, R472) -/

/-- R471. INSTALL of remap entry `e` of port `n`: the block is read as a read accepted now, and queued writes to it move
into the entry. -/
def execMpRemapInstall (n e : Nat) (s : State) : Res :=
  .next (
    let blk := s.fld F.MP_REMAP_ADDR n e
    let cap := s.fld F.MP_GEOM_CAP_LOG2 n
    if n ≥ 16 || e ≥ 8 || s.bit F.MP_REMAP_VALID n e || s.bit F.MP_REMAP_BUSY n e || cap = 0 || 2 ^ cap ≤ 64 * blk ||
      (remapOf s n blk).isSome then s
    else
      let (g, s1) := mpSnap n blk fullMask s
      let q := (s.mp.get n).wq.find? (fun x => x.blk == blk)
      let s2 := (s1.setBit F.MP_REMAP_BUSY n e).updMp n (fun m =>
        { m with wq := m.wq.filter (fun x => x.blk != blk),
                 rq := m.rq ++ [{ kind := 2, e := e, snaps := [g], seq := m.seq, pkt := { mask := (q.map (·.mask)).getD 0 } }] })
      match q with
      | some x => remapWrite n e x.data x.mask x.psn s2
      | none => s2)

/-- R471. The copy into remap entry `e` completes, while the port reads its DRAM. -/
def execMpRemapInstallDone (n e : Nat) (s : State) : Res :=
  .next (
    if n ≥ 16 || !memRuns s || !(s.fld F.MP_STATUS_STATE n == 2 || s.fld F.MP_STATUS_STATE n == 5) || !s.bit F.MP_REMAP_BUSY n e || s.bit F.MP_REMAP_VALID n e then s
    else match (s.mp.get n).rq.find? (fun r => r.kind == 2 && r.e == e) with
    | none => s
    | some r =>
      let g := (r.snaps.head?).getD { blk := 0, data := [] }
      let s1 := mpNote n false g (s.updMp n (fun m => { m with rq := m.rq.filter (fun q => q != r) }))
      let bad := g.psn && r.pkt.mask != fullMask
      let s2 := remapWrite n e g.data (fullMask ^^^ (r.pkt.mask % 2 ^ 64)) bad s1
      ((s2.setFld F.MP_REMAP_POISONED n e (ofBool bad)).setBit F.MP_REMAP_VALID n e).clrFld F.MP_REMAP_BUSY n e)

/-- R472. RELEASE of remap entry `e`. -/
def execMpRemapRelease (n e : Nat) (s : State) : Res :=
  .next (if n < 16 && e < 8 && s.bit F.MP_REMAP_VALID n e then s.setBit F.MP_REMAP_BUSY n e else s)

/-- A write of MP_CTL (R477): only the lowest command bit set acts. -/
def mpCtlWrite (n v : Nat) (s : State) : State :=
  let s1 := s.setFld F.MP_CTL_ZFILL n 0 (bitsOf v 4 1)
  let go (r : Res) : State := match r with | .next t => t | _ => s1
  if bitOf v 0 then mpTrain n s1
  else if bitOf v 1 then go (execMpSrEnter n s1)
  else if bitOf v 2 then go (execMpSrExit n s1)
  else s1

/-! ### Regions (R479 to R482, R502 to R504, R508) -/

/-- Two ranges overlap. -/
def overlap (a n b m : Nat) : Bool := a < b + m && b < a + n

/-- A key slot of the memory-protection class is loaded. -/
def slotLoaded (s : State) (k : Nat) : Bool := k != 0 && bitOf (s.fld F.MPE_KEY_LOADED) (k - 1)

/-- The code that refuses an enable of region `r`, 0 when it is accepted (R479, Table 16.1). -/
def mprRefusal (s : State) (r : Nat) : Nat :=
  let n := s.fld F.MPR_CTL_PORT 0 r
  let z := rgSize s r
  let b := rgBase s r
  let m := rgMeta s r
  let cap := s.fld F.MP_GEOM_CAP_LOG2 n
  let lim := if cap = 0 then 0 else 2 ^ cap
  if z < 21 ∨ 40 < z then 1
  else if b % 2 ^ z ≠ 0 ∨ m % 2 ^ (z - 2) ≠ 0 then 2
  else if lim < b + 2 ^ z ∨ lim < m + 2 ^ (z - 2) then 3
  else if overlap b (2 ^ z) m (2 ^ (z - 2)) || (regionsOn s n).any (fun q =>
      overlap b (2 ^ z) (rgBase s q) (2 ^ rgSize s q) || overlap b (2 ^ z) (rgMeta s q) (2 ^ (rgSize s q - 2)) ||
      overlap m (2 ^ (z - 2)) (rgBase s q) (2 ^ rgSize s q) || overlap m (2 ^ (z - 2)) (rgMeta s q) (2 ^ (rgSize s q - 2))) then 4
  else if s.fld F.MPR_CTL_KEYID 0 r = 0 ∨ slotLoaded s (s.fld F.MPR_CTL_SLOT_CUR 0 r) = false then 5
  else if s.fld F.MP_STATUS_STATE n ≠ 2 then 6
  else 0

/-- A refused descriptor write is recorded. -/
def descErr (r code : Nat) (s : State) : State :=
  ((s.setBit F.MPE_STATUS_DESCERR).setFld F.MPE_STATUS_DESCCODE 0 0 code).setFld F.MPE_STATUS_DESCREG 0 0 r

/-- VALID = 1 while VALID is 0 (R479, R480). -/
def mprEnable (r : Nat) (s : State) : State :=
  let c := mprRefusal s r
  if c ≠ 0 then descErr r c s
  else
    let (salt, s1) := s.freshBits 2
    let (nk, s2) := s1.freshBits 4
    let s3 := (((s2.setBit F.MPR_CTL_VALID 0 r).setFld F.MPR_CTL_STATE 0 r 1).clrFld F.MPR_CTL_EPOCH 0 r).clrFld F.MPR_ROT_WMARK 0 r
    s3.updRg r (fun _ => { saltCur := salt, nk := nk })

/-- VALID = 0 while VALID is 1 (R482). -/
def mprDisable (r : Nat) (s : State) : State :=
  let s1 := dropCache r (pipeServeAll (s.fld F.MPR_CTL_PORT 0 r) s)
  ((s1.updRg r (fun _ => {})).clrFld F.MPR_CTL_VALID 0 r).clrFld F.MPR_CTL_STATE 0 r

/-- The code that refuses ROT_START (R502), 0 when it is accepted. -/
def rotRefusal (s : State) (r : Nat) : Nat :=
  let k := s.fld F.MPR_CTL_SLOT_NEW 0 r
  if slotLoaded s k = false then 5
  else if s.fld F.MP_STATUS_STATE (s.fld F.MPR_CTL_PORT 0 r) ≠ 2 then 6
  else if rgState s r ≠ 1 then 7
  else if k = s.fld F.MPR_CTL_SLOT_CUR 0 r then 8
  else 0

/-- ROT_START (R502). -/
def rotStart (r : Nat) (s : State) : State :=
  let c := rotRefusal s r
  if c ≠ 0 then descErr r c s
  else
    let (salt, s1) := s.freshBits 2
    ((s1.clrFld F.MPR_ROT_WMARK 0 r).setFld F.MPR_CTL_STATE 0 r 2).updRg r (fun g => { g with saltNew := salt })

/-- UNFREEZE (R508). -/
def unfreeze (r : Nat) (s : State) : State :=
  if rgState s r = 3 ∧ (s.mpr.get r).ctrMax = false then
    s.setFld F.MPR_CTL_STATE 0 r (if (s.mpr.get r).rotating then 2 else 1)
  else s

/-- A write of MPR_CTL of region `r` (R479, R481, R482, R502, R514). -/
def mprWrite (r v : Nat) (s : State) : State :=
  let was := rgValid s r
  let s1 := (s.setFld F.MPR_CTL_ALARM_ACT 0 r (bitsOf v 8 2)).setFld F.MPR_CTL_DBGVIEW 0 r (bitsOf v 4 1)
  let s2 := if rgState s r = 2 then s1 else s1.setFld F.MPR_CTL_SLOT_NEW 0 r (bitsOf v 48 6)
  let s3 := if was then s2
    else (((s2.setFld F.MPR_CTL_SLOT_CUR 0 r (bitsOf v 40 6)).setFld F.MPR_CTL_KEYID 0 r (bitsOf v 32 6)).setFld
      F.MPR_CTL_LOG2SIZE 0 r (bitsOf v 24 6)).setFld F.MPR_CTL_PORT 0 r (bitsOf v 16 4)
  let s4 := if was && !bitOf v 63 then mprDisable r s3 else if !was && bitOf v 63 then mprEnable r s3 else s3
  if bitOf v 61 then unfreeze r s4 else if bitOf v 62 then rotStart r s4 else s4

/-- R479. A write of MPR_CTL of region `r` with VALID = 1; `v` is the whole value. -/
def execMprEnable (r v : Nat) (s : State) : Res := .next (if r < 32 then mprWrite r (withBit v 63 true) s else s)

/-- R482. A write of MPR_CTL of region `r` with VALID = 0. -/
def execMprDisable (r v : Nat) (s : State) : Res := .next (if r < 32 then mprWrite r (withBit v 63 false) s else s)

/-- R502. A write of ROT_START = 1. -/
def execRotStart (r v : Nat) (s : State) : Res := .next (if r < 32 then mprWrite r (withBit v 62 true) s else s)

/-- R508. A write of UNFREEZE = 1. -/
def execUnfreeze (r v : Nat) (s : State) : Res := .next (if r < 32 then mprWrite r (withBit v 61 true) s else s)

/-- How far the sweep may pass from leaf `l` because a counter above it is 0 (R503): the first leaf after that subtree;
the alarm cause of a node that fails. The nodes above the leaf are brought in top first. -/
def sweepSkip (n r l : Nat) (s : State) : Nat × Option Nat × State :=
  let t := rgTop s r
  (List.range (t + 1)).foldl (fun (acc : Nat × Option Nat × State) k =>
    let lvl := t - k
    let idx := l / 8 ^ lvl
    if acc.1 ≠ 0 ∨ acc.2.1.isSome then acc
    else if parentCtr acc.2.2 n r lvl idx = 0 ∧ (mcFind acc.2.2 n r lvl idx).isNone then (0, some ((idx + 1) * 8 ^ lvl), acc.2.2)
    else
      let (c, s1) := mcNeedOne n r lvl idx acc.2.2
      (c, none, s1)) (0, none, s)

/-- The sweep has reached the end (R504). -/
def rotDone (r : Nat) (s : State) : State :=
  let s1 := (s.setFld F.MPR_CTL_SLOT_CUR 0 r (s.fld F.MPR_CTL_SLOT_NEW 0 r)).clrFld F.MPR_CTL_SLOT_NEW 0 r
  let s2 := s1.setFld F.MPR_CTL_EPOCH 0 r (1 - s.fld F.MPR_CTL_EPOCH 0 r)
  let s3 := s2.updRg r (fun g => { g with saltCur := g.saltNew, saltNew := 0, rotating := false })
  irqEdge (0x100 + r) ((s3.setFld F.MPR_CTL_STATE 0 r 1).clrFld F.MPR_ROT_WMARK 0 r)

/-- R503. The sweep of rotating region `r` takes its next leaf, or the subtree that it may pass. -/
def execRotationSweepStep (r : Nat) (s : State) : Res :=
  .next (
    let n := s.fld F.MPR_CTL_PORT 0 r
    let l := s.fld F.MPR_ROT_WMARK 0 r
    let n0 := rgCount s r 0
    if r ≥ 32 || rgState s r != 2 || s.fld F.MP_STATUS_STATE n != 2 || !memRuns s then s
    else if n0 ≤ l then rotDone r s
    else
      let (c, skip, s1) := sweepSkip n r l (mpServing n 0 (s.fld F.DEV_ID) s)
      let next (m : Nat) (s : State) : State := if n0 ≤ m then rotDone r s else s.setFld F.MPR_ROT_WMARK 0 r m
      let fail (c : Nat) (s : State) : State := alarm (some r) c 0 (s.fld F.DEV_ID) (n * 2 ^ 41 + rgEntOff s r 0 l) s
      if c ≠ 0 then fail c s1
      else match skip with
      | some m => next m s1
      | none =>
        let lf := leafOf s1 n r l
        if leafEmpty lf || leafEpoch lf == newEpoch s1 r then next (l + 1) s1
        else
          let (c2, s2) := reencrypt n r l none s1
          if c2 ≠ 0 then fail c2 s2 else next (l + 1) s2)

end Sys2Proof.Machine
end

