-- ==== Sys2Proof/Machine/Pcie.lean ====
section
/-!
DEFINITION. The PCI Express endpoint (chapter 18): BAR requests, apertures, DMA queue pairs, MSI-X and the endpoint's
resets.
-/
namespace Sys2Proof.Machine

/-- Changes what the endpoint holds. -/
def State.updPcie (s : State) (f : PcieSt → PcieSt) : State := { s with pcie := f s.pcie }

/-- The data link is up (R564). -/
def linkUp (s : State) : Bool := s.bit F.PCIE_LINK_LINKUP

/-- BAR requests are served (Table 18.6): the function is in D0 and CC0 has been released since the last device reset. -/
def barServed (s : State) : Bool := s.fld F.PCIE_STATUS_DSTATE == 0 && !s.startup

/-! ### BARs (R549 to R555) -/

/-- The initiator of BAR accesses (R552). -/
def barInit : Nat := 0x380

/-- The CSR space in local addresses (R36). -/
def csrBase : Nat := 0x8_00F0_0000_0000

/-- Where a BAR offset leads (R549, R550): device, local address, key attribute; none for an aperture that is not
enabled, or that would show the CSR space. -/
def barTarget (s : State) (bar off : Nat) : Option (Nat × Nat × Nat) :=
  if bar = 0 then some (s.fld F.DEV_ID, csrBase + off % 2 ^ 26, 0)
  else
    let a := off / 2 ^ 30 % 64
    let at_ := s.fld F.APT_BASE_BASE 0 a * 2 ^ 30 + off % 2 ^ 30
    if !s.bit F.APT_CFG_EN 0 a || targetOf at_ == .csr then none
    else some (if s.bit F.APT_CFG_LOCAL 0 a then s.fld F.DEV_ID else s.fld F.APT_CFG_DEV 0 a, at_, s.fld F.APT_CFG_KEYID 0 a)

/-- Splits `n` bytes from `off` at 256-byte boundaries (R552): offsets and lengths. -/
def split256 : Nat → Nat → Nat → List (Nat × Nat)
  | 0, _, _ => []
  | fuel + 1, off, n =>
    if n = 0 then []
    else
      let k := min n (256 - off % 256)
      (off, k) :: split256 fuel (off + k) (n - k)

/-- The pieces of a request of `n` bytes. -/
def pieces (off n : Nat) : List (Nat × Nat) := split256 (n / 256 + 2) off n

/-- The completion status of a NoC outcome (Table 18.3). -/
def cplStatus (st : Nat) : Nat := if st = 0 then 0 else if st = eUNMAPPED ∨ st = eNOROUTE then 1 else 3

/-- The completions of one part: beats of 64 bytes of the address, poisoned ones with EP = 1 (Table 18.3). -/
def cplBeats (tag addr pm : Nat) (d : List Byte) (s : State) : State :=
  if pm = 0 then s.emit (.tlpCpl tag 0 d)
  else
    let first := 64 - addr % 64
    forN ((addr % 64 + d.length + 63) / 64) (fun k s =>
      let lo := if k = 0 then 0 else first + 64 * (k - 1)
      let hi := if k = 0 then first else first + 64 * k
      s.emit (.tlpCpl tag (if bitOf pm k then 2 else 0) ((d.take hi).drop lo))) s

/-- The parts of a BAR read that can be completed in address order; a failed part ends the request (R553). -/
def barParts (tag : Nat) (got : List (Nat × Nat × Nat × List Byte)) : List (Nat × Nat × Nat) → State → List (Nat × Nat × Nat) × State
  | [], s => ([], s)
  | (k, a, n) :: ps, s =>
    match got.find? (fun (g : Nat × Nat × Nat × List Byte) => g.1 == k) with
    | none => ((k, a, n) :: ps, s)
    | some (_, st, pm, d) => if st = 0 then barParts tag got ps (cplBeats tag a pm d s) else ([], s.emit (.tlpCpl tag (cplStatus st) []))

/-- Completes what can be completed of every BAR read. -/
def barDeliver (s : State) : State :=
  forL s.pcie.bar (fun t s =>
    let (ps, s1) := barParts t.tag t.got t.parts s
    s1.updPcie (fun c => { c with bar := if ps.isEmpty then c.bar.filter (fun x => x.tag != t.tag)
                                         else c.bar.map (fun x => if x.tag = t.tag then { x with parts := ps } else x) })) s

/-- A response, or a refusal at the endpoint, to part `k` of a BAR read. -/
def barGot (tag k st pm : Nat) (d : List Byte) (s : State) : State :=
  barDeliver (s.updPcie (fun c => { c with bar := c.bar.map (fun t => if t.tag = tag then { t with got := t.got ++ [(k, st, pm, d)] } else t) }))

/-- A failed BAR write (R555). -/
def barWerr (bar off code : Nat) (s : State) : State :=
  let s1 := if s.bit F.PCIE_WERR_VALID then s
    else (((s.setBit F.PCIE_WERR_VALID).setFld F.PCIE_WERR_BAR2 0 0 (ofBool (bar == 2))).setFld F.PCIE_WERR_CODE 0 0 code).setFld F.PCIE_WADDR_OFFSET 0 0 off
  irqEdge 0x044 (s1.bump F.PCIE_WERR_CNT_COUNT)

/-- R552. A host memory read of `n` bytes at a BAR offset, with its TLP tag. -/
def execBarRead (tag bar off n : Nat) (s : State) : Res :=
  .next (
    if !linkUp s || n = 0 || s.pcie.bar.any (fun t => t.tag == tag) then s
    else if !barServed s then s.emit (.tlpCpl tag 1 [])
    else
      let ps := (pieces off n).zipIdx
      let s1 := s.updPcie (fun c => { c with bar := c.bar ++ [{ tag := tag, parts := ps.map (fun (e : (Nat × Nat) × Nat) => (e.2, e.1.1, e.1.2)) }] })
      forL ps (fun e s =>
        match barTarget s bar e.1.1 with
        | some (dev, a, key) => s.request barInit dev a opREAD (e.1.2 - 1) [] (.barRead tag e.2 ps.length bar e.1.1) (keyid := key)
        | none => barGot tag e.2 eUNMAPPED 0 [] s) s1)

/-- The poison mask of a write of `n` bytes at `a` whose every flit is poisoned. -/
def flitMask (a n : Nat) : Nat := 2 ^ ((a % 64 + n + 63) / 64) - 1

/-- R552. A host posted write at a BAR offset; with EP it goes on as a poisoned NoC write, which the CSR space refuses (Table 18.3,
R420). -/
def execBarWrite (bar off : Nat) (ep : Bool) (data : List Byte) (s : State) : Res :=
  .next (
    if !linkUp s || data.isEmpty || !barServed s then s
    else forL (pieces off data.length) (fun e s =>
      match barTarget s bar e.1 with
      | some (dev, a, key) =>
        s.request barInit dev a opWRITE (e.2 - 1) (slice data (e.1 - off) e.2) (.barWrite bar e.1) (keyid := key)
          (pmask := if ep then flitMask a e.2 else 0)
      | none => barWerr bar e.1 eUNMAPPED s) s)

/-- R554. A host atomic at a BAR offset: kind as ATOP (0 Swap, 1 FetchAdd, 2 CAS), its size and operands. -/
def execBarAtomic (tag bar off kind size : Nat) (data : List Byte) (s : State) : Res :=
  .next (
    if !linkUp s || s.pcie.bar.any (fun t => t.tag == tag) then s
    else if !barServed s then s.emit (.tlpCpl tag 1 [])
    else if bar = 0 ∨ size ≠ 8 then s.emit (.tlpCpl tag 3 [])
    else
      let s1 := s.updPcie (fun c => { c with bar := c.bar ++ [{ tag := tag, parts := [(0, off, 8)] }] })
      match barTarget s bar off with
      | some (dev, a, key) => s1.request barInit dev a opATOMIC 7 data (.barRead tag 0 1 bar off) (keyid := key) (atop := kind)
      | none => barGot tag 0 eUNMAPPED 0 [] s1)

/-- A write of APT_CFG(a) (R551): an aperture onto the CSR space is refused. -/
def aptWrite (a v : Nat) (s : State) : State :=
  let s1 := ((s.setFld F.APT_CFG_LOCAL 0 a (bitsOf v 62 1)).setFld F.APT_CFG_DEV 0 a (bitsOf v 48 9)).setFld F.APT_CFG_KEYID 0 a (bitsOf v 40 6)
  if bitOf v 63 && targetOf (s.fld F.APT_BASE_BASE 0 a * 2 ^ 30) == .csr then s1.setBit F.PCIE_APTSTAT_APTERR
  else s1.setFld F.APT_CFG_EN 0 a (bitsOf v 63 1)

/-- R551. A write of EN = 1 to APT_CFG(a), with the rest of the register. -/
def execApertureEnable (a v : Nat) (s : State) : Res := .next (if a < 64 then aptWrite a (withBit v 63 true) s else s)

/-! ### DMA queue pairs (R556 to R560) -/

/-- Changes queue `q`. -/
def State.updDma (s : State) (q : Nat) (f : DmaQ → DmaQ) : State := s.updPcie (fun c => { c with dma := c.dma.upd q f })

/-- Entries of a ring (Table 18.7). -/
def ringLen (l : Nat) : Nat := 2 ^ (if 1 ≤ l ∧ l ≤ 12 then l else 12)

/-- A queue's INFLIGHT and STOPPED follow what it has in progress (R559). -/
def dmaSettle (q : Nat) (s : State) : State :=
  let ds := (s.pcie.dma.get q).descs
  let s1 := s.setFld F.Q_STATUS_INFLIGHT 0 q (ds.filter (·.started)).length
  s1.setFld F.Q_STATUS_STOPPED 0 q (ofBool (ds.isEmpty && !s.bit F.Q_CFG_EN 0 q))

/-- A failed fetch (1) or completion write (2) stops a queue (R559, R560). -/
def dmaError (q code : Nat) (s : State) : State :=
  let s1 := (s.setBit F.Q_STATUS_ERR 0 q).setFld F.Q_STATUS_ERRCODE 0 q code
  irqEdge (0x1C0 + q) (dmaSettle q (s1.clrFld F.Q_CFG_EN 0 q))

/-- The endpoint serves its queues: in D0, link up. -/
def dmaServed (s : State) : Bool := linkUp s && s.fld F.PCIE_STATUS_DSTATE == 0

/-- R556. Queue `q` fetches a descriptor: `ok` and the 64 bytes are the host's answer. -/
def execDmaDescriptorFetch (q : Nat) (ok : Bool) (bytes : List Byte) (s : State) : Res :=
  .next (
    let head := s.fld F.SQ_HEAD_HEAD 0 q
    let n := ringLen (s.fld F.Q_CFG_SQ_LOG2N 0 q)
    if 64 ≤ q || !dmaServed s || !s.bit F.Q_CFG_EN 0 q || head == s.fld F.SQ_TAIL_TAIL 0 q then s
    else
      let s1 := s.emit (.tlpRead q head (s.fld F.SQ_BASE_BASE 0 q * 4 + 64 * head) 64 false)
      if !ok then dmaError q 1 s1
      else dmaSettle q ((s1.updDma q (fun d => { d with descs := d.descs ++ [{ idx := head, bytes := (bytes ++ List.replicate 64 0).take 64 }] })).setFld
        F.SQ_HEAD_HEAD 0 q ((head + 1) % n)))

/-- A descriptor that the rules of R558 refuse. -/
def badDesc (b : List Byte) : Bool :=
  1 < fieldLE b 20 1 || fieldLE b 16 4 == 0 || 2 ^ 62 ≤ fieldLE b 8 8 ||
  !allZero b 23 9 || !allZero b 40 24

/-- Nothing of a descriptor is outstanding. -/
def DmaDesc.done (d : DmaDesc) : Bool := d.started && d.host == 0 && d.noc == 0

/-- NOSNOOP of a descriptor (Table 18.4). -/
def DmaDesc.noSnoop (d : DmaDesc) : Bool := bitOf (fieldLE d.bytes 21 1) 2

/-- Changes descriptor `i` of queue `q`. -/
def updDesc (q i : Nat) (f : DmaDesc → DmaDesc) (s : State) : State :=
  s.updDma q (fun k => { k with descs := k.descs.map (fun d => if d.idx = i then f d else d) })

/-- The device side of a descriptor: device, local address. -/
def descDev (s : State) (b : List Byte) : Nat × Nat :=
  let a := fieldLE b 8 8
  (if bitOf a 61 then s.fld F.DEV_ID else bitsOf a 52 9, a % 2 ^ 52)

/-- NoC writes of data that starts at an offset of a transfer (R557, R558). -/
def dmaWrite (q i off : Nat) (poison : Bool) (data : List Byte) (s : State) : State :=
  match (s.pcie.dma.get q).descs.find? (fun d => d.idx == i) with
  | none => s
  | some d =>
    let (dev, a) := descDev s d.bytes
    let ps := pieces (a + off) data.length
    forL ps (fun (e : Nat × Nat) s =>
      s.request (0x3C0 + q) dev (e.1 % 2 ^ 52) opWRITE (e.2 - 1) (slice data (e.1 - (a + off)) e.2) (.dma q i (e.1 - a) e.2)
        (keyid := fieldLE d.bytes 22 1 % 64) (pmask := if poison then flitMask e.1 e.2 else 0))
      (updDesc q i (fun d => { d with noc := d.noc + ps.length }) s)

/-- R557. The next descriptor of queue `q` starts. -/
def execDmaDescriptorStart (q : Nat) (s : State) : Res :=
  .next (
    let ds := (s.pcie.dma.get q).descs
    match ds.find? (fun d => !d.started) with
    | none => s
    | some d =>
      if 64 ≤ q || !dmaServed s || 8 ≤ (ds.filter (·.started)).length ||
        (bitOf (fieldLE d.bytes 21 1) 1 && ds.any (fun e => e.started && !e.done)) then s
      else
        let len := fieldLE d.bytes 16 4
        let s1 := updDesc q d.idx (fun d => { d with started := true }) s
        if badDesc d.bytes then dmaSettle q (updDesc q d.idx (fun d => { d with fails := [(0, 4, 0)] }) s1)
        else if fieldLE d.bytes 20 1 = 0 then
          dmaSettle q ((updDesc q d.idx (fun d => { d with host := len }) s1).emit (.tlpRead q d.idx (fieldLE d.bytes 0 8) len d.noSnoop))
        else
          let (dev, a) := descDev s d.bytes
          let ps := pieces a len
          dmaSettle q (forL ps (fun (e : Nat × Nat) s =>
            s.request (0x3C0 + q) dev (e.1 % 2 ^ 52) opREAD (e.2 - 1) [] (.dma q d.idx (e.1 - a) e.2) (keyid := fieldLE d.bytes 22 1 % 64))
            (updDesc q d.idx (fun d => { d with noc := ps.length }) s1)))

/-- A NoC response of a transfer (R558): `off` and `n` say which part. -/
def dmaGot (q i off n st pm : Nat) (data : List Byte) (s : State) : State :=
  match (s.pcie.dma.get q).descs.find? (fun d => d.idx == i) with
  | none => s
  | some d =>
    let s1 := updDesc q i (fun d => { d with noc := d.noc - 1, fails := if st ≠ 0 then d.fails ++ [(off, 1, st)] else d.fails }) s
    if fieldLE d.bytes 20 1 = 0 then s1
    else
      let h := fieldLE d.bytes 0 8
      let a := (descDev s d.bytes).2 + off
      if st ≠ 0 then s1.emit (.tlpWrite (h + off) false d.noSnoop (List.replicate n 0))
      else if pm = 0 then s1.emit (.tlpWrite (h + off) false d.noSnoop data)
      else
        let s2 := forN ((a % 64 + data.length + 63) / 64) (fun k s =>
          let lo := if k = 0 then 0 else 64 * k - a % 64
          let hi := 64 * (k + 1) - a % 64
          s.emit (.tlpWrite (h + off + lo) (bitOf pm k) d.noSnoop ((data.take hi).drop lo))) s1
        updDesc q i (fun d => { d with fails := d.fails ++ [(off, 2, 0)] }) s2

/-- A part of a host read ends with HOSTERR and writes nothing. -/
def hostErr (q i off n detail : Nat) (s : State) : State :=
  updDesc q i (fun d => { d with host := d.host - n, fails := d.fails ++ [(off, 3, detail)] }) s

/-- R558. A completion for `n` bytes at an offset of a host read arrives: status 0 Successful, 1 Unsupported Request,
2 Completer Abort; EP; its data. -/
def execHostCompletion (q i off n status : Nat) (ep : Bool) (data : List Byte) (s : State) : Res :=
  .next (
    match (s.pcie.dma.get q).descs.find? (fun d => d.idx == i) with
    | none => s
    | some d =>
      if d.host = 0 || n = 0 || d.host < n then s
      else if status ≠ 0 then hostErr q i off n status s
      else
        let s1 := updDesc q i (fun d => { d with host := d.host - n, fails := if ep then d.fails ++ [(off, 2, 0)] else d.fails }) s
        dmaWrite q i off ep ((data ++ List.replicate n 0).take n) s1)

/-- R558. The completion timeout of a part of a host read expires. -/
def execCompletionTimeout (q i off n : Nat) (s : State) : Res :=
  .next (
    match (s.pcie.dma.get q).descs.find? (fun d => d.idx == i) with
    | none => s
    | some d => if d.host = 0 || n = 0 || d.host < n then s else hostErr q i off n 3 s)

/-- The first failure in address order: STATUS and DETAIL (R558). -/
def DmaDesc.result (d : DmaDesc) : Nat × Nat :=
  match d.fails.foldl (fun (b : Option (Nat × Nat × Nat)) f => match b with
    | none => some f
    | some x => if f.1 < x.1 then some f else b) none with
  | some f => f.2
  | none => (0, 0)

/-- R560. The completion entry of the oldest descriptor is written; `ok` is whether the write succeeds. -/
def execDmaCompletionWrite (q : Nat) (ok : Bool) (s : State) : Res :=
  .next (
    let k := s.pcie.dma.get q
    let n := ringLen (s.fld F.Q_CFG_CQ_LOG2N 0 q)
    let tail := s.fld F.CQ_TAIL_TAIL 0 q
    match k.descs with
    | [] => s
    | d :: ds =>
      if !d.done || (tail + 1) % n == s.fld F.CQ_HEAD_HEAD 0 q || !dmaServed s then s
      else
        let r := d.result
        let e := slice d.bytes 32 8 ++ bytesLE 1 r.1 ++ bytesLE 1 r.2 ++ List.replicate 5 0 ++ bytesLE 1 (ofBool !k.odd)
        let s1 := s.emit (.tlpWrite (s.fld F.CQ_BASE_BASE 0 q * 16 + 16 * tail) false false e)
        let s2 := s1.updDma q (fun k => { k with descs := ds })
        if !ok then dmaError q 2 s2
        else
          let s3 := (s2.updDma q (fun k => { k with odd := if tail + 1 = n then !k.odd else k.odd })).setFld F.CQ_TAIL_TAIL 0 q ((tail + 1) % n)
          let s4 := dmaSettle q s3
          if bitOf (fieldLE d.bytes 21 1) 0 then irqEdge (0x1C0 + q) s4 else s4)

/-- R559. A host write of EN = 0 stops a queue. -/
def dmaStop (q : Nat) (s : State) : State := dmaSettle q (s.clrFld F.Q_CFG_EN 0 q)

/-- R559. A host write of EN = 0. -/
def execDmaQueueStop (q : Nat) (s : State) : Res := .next (if q < 64 then dmaStop q s else s)

/-! ### MSI-X (R561, R562) -/

/-- A word of the MSI-X table entry of a vector: 0 address low, 4 address high, 8 data, 12 control. -/
def msixWord (s : State) (v o : Nat) : Nat :=
  ofBytesLE (s.rdBytes (aMsix (16 * v + o)) 4) ^^^ (if o = 12 then 1 else 0)

/-- A vector's messages are held (R562). -/
def msixMasked (s : State) (v : Nat) : Bool :=
  !s.pcie.msixEn || s.pcie.funcMask || !s.pcie.bme || bitOf (msixWord s v 12) 0 || msixWord s v 0 % 4 != 0

/-- A message for a vector is sent, or sets its PBA bit. -/
def msixSend (v : Nat) (s : State) : State :=
  if msixMasked s v then s.updPcie (fun c => { c with pba := c.pba.set v true })
  else s.emit (.msix v (msixWord s v 0 + msixWord s v 4 * 2 ^ 32) (msixWord s v 8))

/-- Vectors whose conditions have cleared send their message, and their PBA bits clear. -/
def msixDrain (s : State) : State :=
  forL (s.pcie.pba.keys.filter (fun v => !msixMasked s v)) (fun v s => msixSend v (s.updPcie (fun c => { c with pba := c.pba.set v false }))) s

/-- A source can be claimed for its host vector (R651, R657): it is not ACTIVE, since a source that pends again while
ACTIVE is delivered again only after completion. -/
def irqHostReady (s : State) (n : Nat) : Bool :=
  irqAssigned n && irqTarget s n / 4096 == 3 && s.bit F.IRQ_SRC_ENABLE 0 n && s.bit F.IRQ_SRC_PENDING 0 n &&
    !s.bit F.IRQ_SRC_ACTIVE 0 n && s.fld F.IRQ_SRC_PRIO 0 n != 0

/-- The sources that one message claims: the source itself, or, once a coalescing window of the vector has closed,
every source of the vector that can be claimed (R659). -/
def msixSources (s : State) (n : Nat) : List Nat :=
  let t := irqTarget s n
  if (s.irqWin.get t).st = 2 then (irqPending s).filter (fun m => irqTarget s m == t && irqHostReady s m) else [n]

/-- R562, R657, R659. Source `n`, targeted at a host vector, is claimed, with the sources its closed window holds, and the
vector's one message is handed to the endpoint. -/
def execMsixMessage (n : Nat) (s : State) : Res :=
  let t := irqTarget s n
  .next (
    if irqHostReady s n && (s.irqWin.get t).st != 1 && irqOpen s then
      msixSend (t % 4096) (forL (msixSources s n) irqClaimSrc s)
    else s)

/-- R562. The host changes the masking conditions of configuration space. -/
def execMsixUnmask (en fmask bme : Bool) (s : State) : Res :=
  .next (if linkUp s then msixDrain (s.updPcie (fun c => { c with msixEn := en, funcMask := fmask, bme := bme })) else s)

/-! ### Link and resets (R548, R563) -/

/-- The endpoint's requests are let go: those not yet issued end, those issued are completed and their responses
discarded. -/
def pcieDrop (s : State) : State :=
  let mine (i : Nat) : Bool := i == barInit || (0x3C0 ≤ i && i < 0x400)
  { s with reqs := (s.reqs.filter (fun r => !(mine r.pkt.init && r.phase == 0))).map (fun r => if mine r.pkt.init then { r with why := .dropped } else r) }

/-- Configuration space, apertures, queues, the error record and MSI-X are reset (Table 18.6). -/
def pcieReset (s : State) : State :=
  let s1 := forL [R.PCIE_WERR, R.PCIE_WADDR, R.PCIE_WERR_CNT, R.PCIE_APTSTAT, R.APT_CFG, R.APT_BASE, R.SQ_BASE, R.CQ_BASE, R.Q_CFG,
    R.SQ_TAIL, R.SQ_HEAD, R.CQ_TAIL, R.CQ_HEAD, R.Q_STATUS] (resetReg (fun _ => false) 0) (pcieDrop s)
  ((s1.zeroRange (aMsix 0) 0x8000).setFld F.PCIE_STATUS_DSTATE 0 0 0).updPcie (fun _ => {})

/-- The link goes down and retrains. -/
def pcieLinkDown (s : State) : State :=
  (((s.clrFld F.PCIE_LINK_LINKUP).clrFld F.PCIE_STATUS_WIDTH).clrFld F.PCIE_STATUS_SPEED).clrFld F.PCIE_STATUS_FLIT

/-- R548. The endpoint has trained its link: width, speed code, flit mode. -/
def execPcieLinkUp (width speed : Nat) (flit : Bool) (s : State) : Res :=
  .next (
    if linkUp s || !([1, 2, 4, 8, 16].contains width) || speed = 0 || 6 < speed || !bitOf (s.fld F.QREF_GOOD_GOOD) 0 || (s.lanes.get 0).pllLost || s.laneRail ||
      s.dev == .deepSleep || s.dev == .off then s
    else (((s.setBit F.PCIE_LINK_LINKUP).setFld F.PCIE_STATUS_WIDTH 0 0 width).setFld F.PCIE_STATUS_SPEED 0 0 speed).setFld F.PCIE_STATUS_FLIT 0 0
      (ofBool (flit || speed == 6)))

/-- R563. PERST_N is asserted. -/
def execPerstN (s : State) : Res := .next (pcieLinkDown (pcieReset s))

/-- R563. A hot reset. -/
def execHotReset (s : State) : Res := .next (if linkUp s then pcieLinkDown (pcieReset s) else s)

/-- R563. A Function Level Reset: the link is kept. -/
def execFunctionLevelReset (s : State) : Res := .next (if linkUp s then pcieReset s else s)

/-- R563. The host puts the function in D3hot. -/
def execD3hot (s : State) : Res := .next (if linkUp s then s.setFld F.PCIE_STATUS_DSTATE 0 0 3 else s)

/-- R563. The host returns the function to D0. -/
def execD0Return (s : State) : Res := .next (if linkUp s then s.setFld F.PCIE_STATUS_DSTATE 0 0 0 else s)

end Sys2Proof.Machine
end

