-- ==== Sys2Proof/Machine/Reed.lean ====
section
/-!
DEFINITION. Reed (chapter 20): the pick schedule, symbols on a hop, operation slots, collectives, broadcasts, scheduled
operations, mode changes up to their commit, and the measurement of the timebase. What happens at a boundary is in
`Machine/Pick.lean`.
-/
namespace Sys2Proof.Machine

/-- Changes what Reed holds. -/
def State.updReed (s : State) (f : ReedSt → ReedSt) : State := { s with reed := f s.reed }

/-! ### The schedule (R594 to R596) -/

/-- PICK_NS as it acts (R596). -/
def pickNs (v : Nat) : Nat := max 256 (min v 1000000000)

/-- The system time of boundary `n` by the present schedule (R595). -/
def bTime0 (s : State) (n : Nat) : Nat := s.fld F.ORIGIN_T + (n - s.fld F.ORIGIN_N) * pickNs (s.fld F.PICK_NS)

/-- The boundary at which a staged PICK_NS applies by its POLICY, if any (R57, R620). -/
def pickChangeAt (s : State) : Option Nat :=
  if s.staged.any (fun g => g.isOf F.PICK_NS 0 0) then
    (match s.fld F.STAGE_CTL_POLICY 8 with
     | 0 => some (s.pick + 1)
     | 1 => if s.pick < s.fld F.STAGE_PICK_PICK 8 then some (s.fld F.STAGE_PICK_PICK 8) else none
     | _ => none)
  else none

/-- The system time of boundary `n` from the schedule as it will stand (R620). -/
def bTime (s : State) (n : Nat) : Nat :=
  match pickChangeAt s with
  | some k => if k < n then bTime0 s k + (n - k) * pickNs (s.shadow F.PICK_NS 0 0) else bTime0 s n
  | none => bTime0 s n

/-! ### Symbols (R607) -/

def rsFUNC (y : RSym) : Nat := y.flags % 8
def rsFRAG (y : RSym) : Bool := bitOf y.flags 3
def rsMORE (y : RSym) : Bool := bitOf y.flags 4
def rsREADY (y : RSym) : Bool := bitOf y.flags 5
def rsMISMATCH (y : RSym) : Bool := bitOf y.flags 6
def rsCOMMIT (y : RSym) : Bool := bitOf y.flags 7

/-- The 224 bytes of a symbol (Table 20.2), with its acknowledgement. -/
def symBytes (y : RSym) (ack : Nat) (ackv : Bool) : List Byte :=
  bytesLE 1 y.kind ++ bytesLE 1 y.op ++ bytesLE 1 y.flags ++ bytesLE 1 y.ts ++ bytesLE 2 ack ++ bytesLE 1 (ofBool ackv) ++
  bytesLE 1 0 ++ bytesLE 8 y.opid ++ bytesLE 8 y.pick ++ bytesLE 8 y.arg ++ bytesLE 8 y.count ++ bytesLE 2 y.len ++
  bytesLE 6 0 ++ (y.data ++ List.replicate 128 0).take 128 ++ bytesLE 8 y.ext.1 ++ bytesLE 8 y.ext.2.1 ++
  bytesLE 8 y.ext.2.2 ++ List.replicate 24 0

/-- The symbol of 224 bytes. -/
def symOf (b : List Byte) : RSym :=
  { kind := fieldLE b 0 1, op := fieldLE b 1 1, flags := fieldLE b 2 1, ts := fieldLE b 3 1, opid := fieldLE b 8 8,
    pick := fieldLE b 16 8, arg := fieldLE b 24 8, count := fieldLE b 32 8, len := fieldLE b 40 2, data := slice b 48 128,
    ext := (fieldLE b 176 8, fieldLE b 184 8, fieldLE b 192 8) }

/-- A symbol with its acknowledgement bytes replaced, as it is sent (R608). -/
def withAck (b : List Byte) (ack : Nat) : List Byte := b.take 4 ++ bytesLE 2 ack ++ bytesLE 1 1 ++ b.drop 7

/-- A symbol is queued on a port with the next RSEQ; up to 8 unacknowledged symbols are under way (R608). -/
def reedSend (p : Nat) (y : RSym) (s : State) : State :=
  let b := symBytes y 0 false
  s.updWp p (fun w =>
    { w with rseq := (w.rseq + 1) % 65536, reedUnacked := w.reedUnacked ++ [(w.rseq, b)],
             reedTx := if w.reedUnacked.length < 8 then w.reedTx ++ [(w.rseq, 2, b)] else w.reedTx })

/-- The peer has accepted every symbol up to RSEQ `a` in order (R608). -/
def reedAck (p a : Nat) (s : State) : State :=
  s.updWp p (fun w =>
    match (w.reedUnacked.take 8).findIdx? (fun e => e.1 == a) with
    | some k =>
      let left := w.reedUnacked.drop (k + 1)
      { w with reedUnacked := left,
               reedTx := w.reedTx.filter (fun e => left.any (fun x => x.1 == e.1)) ++
                 (((left.drop (7 - k)).take (k + 1)).map (fun (e : Nat × List Byte) => (e.1, 2, e.2))) }
    | none => w)

/-- R608. 256 ns pass without an acknowledgement on port `p`: every unacknowledged symbol is sent again. -/
def execReedResendTimeout (p : Nat) (s : State) : Res :=
  .next (s.updWp p (fun w => { w with reedTx := (w.reedUnacked.take 8).map (fun e => (e.1, 2, e.2)) }))

/-! ### The tree (R604) -/

/-- This device belongs to a tree: it is neither ISOLATED nor REJECTED, nor has it decided to isolate itself (R605). -/
def inTree (s : State) : Bool :=
  !s.disco.isolating && s.fld F.WARP_SYS_STATUS_STATE != 3 && s.fld F.WARP_SYS_STATUS_STATE != 4

/-- This device has a parent in its tree. -/
def hasParent (s : State) : Bool := inTree s && s.fld F.TB_TREE_LEVEL != 0

/-- This device is the root of its tree, or a single device. -/
def isRoot (s : State) : Bool := inTree s && s.fld F.TB_TREE_LEVEL == 0

/-- The ports that lead to children. -/
def childPorts (s : State) : List Nat := (List.range 12).filter (fun p => bitOf (s.fld F.TB_TREE_CHILDREN) p)

/-- The ports of the tree: the children's and the parent's. -/
def treePorts (s : State) : List Nat := (if hasParent s then [s.fld F.TB_TREE_PPORT] else []) ++ childPorts s

/-- Sends a symbol toward the root. -/
def upSend (y : RSym) (s : State) : State := if hasParent s then reedSend (s.fld F.TB_TREE_PPORT) { y with kind := 1 } s else s

/-- Sends a symbol to every child. -/
def downAll (y : RSym) (s : State) : State := forL (childPorts s) (fun p s => reedSend p { y with kind := 2 } s) s

/-- Sends a symbol to every tree neighbour but the one it came from (R626). -/
def treeFlood (from_ : Option Nat) (y : RSym) (s : State) : State :=
  forL ((treePorts s).filter (fun p => some p != from_)) (fun p s => reedSend p { y with kind := 2 } s) s

/-! ### Operation slots (R609) -/

/-- The parts of an OPID. -/
def opOrigin (o : Nat) : Nat := o % 512
def opSlot (o : Nat) : Nat := bitsOf o 9 3
def opColl (o : Nat) : Nat := bitsOf o 16 16
def opGen (o : Nat) : Nat := bitsOf o 48 16

/-- A slot takes an OPID for the operation it starts. -/
def newOpid (sl : Nat) (s : State) : Nat × State :=
  let o := s.fld F.DEV_ID + sl * 2 ^ 9 + s.fld F.REED_OP_CTL_COLL_ID 0 sl * 2 ^ 16 + s.reed.seq % 65536 * 2 ^ 32 +
    s.fld F.WARP_SYS_STATUS_GEN * 2 ^ 48
  (o, s.updReed (fun r => { r with seq := (r.seq + 1) % 65536, busy := r.busy.set sl (o + 1) }))

/-- The spec says what RESULT holds: a REDUCE that is OK, a MODE that is OK or FAULT (Table 20.7, R611, R624). -/
def resultStated (op st : Nat) : Bool := (op == 3 && st == 0) || (op == 6 && (st == 0 || st == 8))

/-- A slot completes: STATUS, RESULT and STATE DONE are written and its source is raised (R609). RESULT is a free value where
the spec does not say what it holds (log entry 20). -/
def slotDone (sl st res : Nat) (ovf : Bool) (s : State) : State :=
  let r := if resultStated (s.fld F.REED_OP_CTL_OP 0 sl) st then (res, s) else (s.fresh.1.toNat, s.fresh.2)
  let s1 := (((r.2.setFld F.REED_OP_CTL_STATE 0 sl 2).setFld F.REED_OP_CTL_STATUS 0 sl st).setFld F.REED_OP_RESULT_RESULT 0 sl r.1).setFld
    F.REED_OP_CTL_RESULT_OVF 0 sl (ofBool ovf)
  irqEdge (0x170 + sl) ((s1.clrFld F.REED_OP_CTL_GO 0 sl).updReed (fun r => { r with busy := r.busy.set sl 0 }))

/-- The slot of this device that waits for an operation. -/
def slotOf (s : State) (opid : Nat) : Option Nat := (List.range 8).find? (fun sl => s.reed.busy.get sl == opid + 1)

/-- Completes the slot that issued an operation, when it is this device's. -/
def opDone (opid st res : Nat) (s : State) : State :=
  match slotOf s opid with
  | some sl => slotDone sl st res false s
  | none => s

/-- A slot is BUSY. -/
def slotBusy (s : State) (sl : Nat) : Bool := s.fld F.REED_OP_CTL_STATE 0 sl == 1

/-! ### Collectives (R610 to R612) -/

/-- The combination of two 64-bit values (R611), and whether a SUM left the signed range. -/
def combine64 (f a b : Nat) : Nat × Bool :=
  let x := BitVec.ofNat 64 a
  let y := BitVec.ofNat 64 b
  match f with
  | 0 => ((x &&& y).toNat, false)
  | 1 => ((x ||| y).toNat, false)
  | 2 => (if x.slt y then x.toNat else y.toNat, false)
  | 3 => (if x.slt y then y.toNat else x.toNat, false)
  | 4 => (min x.toNat y.toNat, false)
  | 5 => (max x.toNat y.toNat, false)
  | _ => ((x + y).toNat, (x + y).toInt != x.toInt + y.toInt)

/-- Combines two contributions; FLAGS [5] carries the overflow of a SUM (log entry 20). -/
def combineSym (a b : RSym) : RSym :=
  let v := combine64 (rsFUNC a) a.arg b.arg
  let mis := a.op != b.op || rsFUNC a != rsFUNC b || rsMISMATCH a || rsMISMATCH b
  let ovf := a.op == 3 && (v.2 || rsREADY a || rsREADY b)
  { a with arg := v.1, count := (a.count + b.count) % 2 ^ 64, flags := rsFUNC a + 32 * ofBool ovf + 64 * ofBool mis }

/-- The contribution of a slot. -/
def slotSym (s : State) (sl : Nat) : RSym :=
  { op := s.fld F.REED_OP_CTL_OP 0 sl, flags := s.fld F.REED_OP_CTL_FUNC 0 sl, opid := s.reed.busy.get sl - 1,
    arg := s.fld F.REED_OP_ARG_ARG 0 sl, count := 1 }

/-- Completes the slots of a collective with a final symbol. -/
def collFinish (slots : List Nat) (y : RSym) (s : State) : State :=
  forL slots (fun sl s => slotDone sl (if rsMISMATCH y then 2 else 0) (if y.op = 3 then y.arg else 0) (y.op == 3 && rsREADY y) s) s

/-- A device sends its UP symbol once it has issued and every child's has arrived; the root sends DOWN (R610). -/
def collTry (coll : Nat) (s : State) : State :=
  match s.reed.colls.find? (fun c => c.coll == coll) with
  | none => s
  | some c =>
    match c.slots with
    | [] => s
    | sl :: more =>
      if c.sent || !(childPorts s).all (fun p => c.kids.any (fun k => k.1 == p)) then s
      else
        let y := (more.map (slotSym s) ++ c.kids.map (·.2)).foldl combineSym (slotSym s sl)
        if isRoot s then
          collFinish c.slots y (downAll { y with ts := if rsMISMATCH y then 2 else 0 }
            (s.updReed (fun r => { r with colls := r.colls.filter (fun c => c.coll != coll) })))
        else
          upSend y (s.updReed (fun r => { r with colls := r.colls.map (fun c => if c.coll = coll then { c with sent := true } else c) }))

/-- Changes the record of a collective, which begins empty. -/
def collUpd (coll : Nat) (f : RColl → RColl) (s : State) : State :=
  s.updReed (fun r =>
    if r.colls.any (fun c => c.coll == coll) then { r with colls := r.colls.map (fun c => if c.coll = coll then f c else c) }
    else { r with colls := r.colls ++ [f { coll := coll }] })

/-- An UP symbol of a collective arrives from child port `p`. -/
def collUp (p : Nat) (y : RSym) (s : State) : State :=
  collTry (opColl y.opid) (collUpd (opColl y.opid) (fun c => { c with kids := c.kids.filter (fun k => k.1 != p) ++ [(p, y)] }) s)

/-- The final DOWN of a collective: its slots complete; one that nothing waits for is counted (R612). -/
def collDown (y : RSym) (s : State) : State :=
  let s1 := downAll y s
  match s1.reed.colls.find? (fun c => c.coll == opColl y.opid && c.sent) with
  | some c => collFinish c.slots y (s1.updReed (fun r => { r with colls := r.colls.filter (fun x => x.coll != c.coll) }))
  | none => s1.bump F.REED_DISC_REED_DISC_CNT

/-- Room for an UP symbol of a collective (R610): issued here, held already, or fewer than 32 held that are not. -/
def collRoom (s : State) (coll : Nat) : Bool :=
  s.reed.colls.any (fun c => c.coll == coll) || (s.reed.colls.filter (fun c => c.slots.isEmpty)).length < 32

/-- A slot issues a collective. -/
def collGo (sl : Nat) (s : State) : State :=
  let coll := s.fld F.REED_OP_CTL_COLL_ID 0 sl
  collTry coll (collUpd coll (fun c => { c with slots := c.slots ++ [sl] }) (newOpid sl s).2)

/-- R612. REED_TO passes on a BUSY collective slot. -/
def execReedCollectiveTimeout (sl : Nat) (s : State) : Res :=
  .next (
    if sl < 8 && slotBusy s sl && s.fld F.REED_TO != 0 && s.reed.colls.any (fun c => c.slots.contains sl) then
      slotDone sl 3 0 false (s.updReed (fun r =>
        { r with colls := (r.colls.map (fun c => { c with slots := c.slots.filter (fun x => x != sl) })).filter
                   (fun c => !(c.slots.isEmpty && (c.sent || c.kids.isEmpty))) }))
    else s)

/-! ### Broadcast (R613) -/

/-- 2^LOG2N entries of the broadcast ring (Table 20.7). -/
def ringSize (s : State) : Nat :=
  let l := s.fld F.BC_CFG_LOG2N
  2 ^ (if 1 ≤ l ∧ l ≤ 16 then l else 4)

/-- A slot issues a broadcast: its source is read. -/
def bcGo (sl : Nat) (s : State) : State :=
  let len := s.fld F.REED_OP_LEN_LEN 0 sl
  let a := s.fld F.REED_OP_BUF_BUF 0 sl
  if len = 0 ∨ 256 < len ∨ 2 ^ 62 ≤ a then slotDone sl 9 0 false s
  else
    let s1 := (newOpid sl s).2
    s1.request 0x4C4 (if bitOf a 61 then s1.fld F.DEV_ID else bitsOf a 52 9) (a % 2 ^ 52) opREAD (len - 1) [] (.reedRd sl)

/-- A broadcast symbol at a device: its origin's slot completes with the last fragment; every other device queues the
data for its ring. -/
def bcTake (y : RSym) (s : State) : State :=
  if opOrigin y.opid = s.fld F.DEV_ID then (if rsMORE y then s else opDone y.opid 0 0 s)
  else if rsMORE y then s.updReed (fun r => { r with frags := r.frags ++ [y] })
  else
    let first := s.reed.frags.find? (fun f => f.opid == y.opid)
    let d := (match first with | some f => f.data | none => []) ++ y.data
    s.updReed (fun r => { r with frags := r.frags.filter (fun f => f.opid != y.opid),
                                 ringQ := r.ringQ ++ [{ opid := y.opid, len := y.len, time := s.now, data := d.take y.len }] })

/-- A broadcast symbol comes down. -/
def bcDown (y : RSym) (s : State) : State := bcTake y (downAll y s)

/-- The source of a broadcast has been read: its symbols leave, or the slot completes with BADARG. -/
def bcRead (sl st pm : Nat) (d : List Byte) (s : State) : State :=
  if !slotBusy s sl || s.reed.busy.get sl == 0 then s
  else if st ≠ 0 ∨ pm ≠ 0 then slotDone sl 9 0 false s
  else
    let len := s.fld F.REED_OP_LEN_LEN 0 sl
    let y : RSym := { op := 2, opid := s.reed.busy.get sl - 1, len := len }
    let ys := if len ≤ 128 then [{ y with data := d }] else [{ y with data := d.take 128, flags := 16 }, { y with data := d.drop 128, flags := 8 }]
    forL ys (fun y s => if isRoot s then bcDown y s else upSend y s) s

/-- R613. The next broadcast entry is written to the ring, or dropped when it would reach BC_RP. -/
def execBroadcastRingWrite (s : State) : Res :=
  .next (
    match s.reed.ringQ with
    | [] => s
    | e :: q =>
      if s.reed.ringOut.isSome then s
      else
        let n := ringSize s
        let s1 := s.updReed (fun r => { r with ringQ := q })
        if (s.fld F.BC_WP_WP + 1) % n = s.fld F.BC_RP_RP % n then s1.bump F.REED_STAT_BC_DROP_CNT
        else
          let a := s.fld F.BC_BASE_BASE * 512 + s.fld F.BC_WP_WP % n * 512
          let d := (bytesLE 8 e.opid ++ bytesLE 8 e.len ++ bytesLE 8 e.time ++ List.replicate 40 0 ++ e.data ++ List.replicate 448 0).take 512
          let dev := s1.fld F.DEV_ID
          ((s1.request 0x4C4 dev a opWRITE 255 (d.take 256) (.reed 0)).request 0x4C4 dev (a + 256) opWRITE 255 (d.drop 256) (.reed 1)).updReed
            (fun r => { r with ringOut := some (2, false) }))

/-- A write of a ring entry is answered: BC_WP advances when the entry's writes are acknowledged, and an error drops it. -/
def ringArrived (st : Nat) (s : State) : State :=
  match s.reed.ringOut with
  | some (n, bad) =>
    let bad' := bad || st != 0
    if n > 1 then s.updReed (fun r => { r with ringOut := some (n - 1, bad') })
    else
      let s1 := s.updReed (fun r => { r with ringOut := none })
      if bad' then s1.bump F.REED_STAT_BC_DROP_CNT else s1.setFld F.BC_WP_WP 0 0 ((s1.fld F.BC_WP_WP + 1) % ringSize s1)
  | none => s

/-! ### Scheduled operations (R614, R615) -/

/-- An operation that is known here already (R626). -/
def opKnown (s : State) (opid : Nat) : Bool := s.reed.gone.contains opid || s.reed.kept.any (fun k => k.sym.opid == opid)

/-- Remembers the OPID of an operation that is past. -/
def opGone (opid : Nat) (s : State) : State :=
  s.updReed (fun r => { r with gone := ((r.gone.filter (fun o => o != opid)) ++ [opid]).drop ((r.gone.length + 1) - 16) })

/-- A SNAPSHOT with tag `tag` for boundary `n` has been received: every LSNAP that is armed with that tag and has not fired
takes the boundary; one that has started ends with LATE when the boundary is past (R286, R287). -/
def snapFire (tag n : Nat) (s : State) : State :=
  { s with cmds := s.cmds.map (fun c =>
      if fieldLE c.desc 0 1 == 6 && bitOf (fieldLE c.desc 1 1) 6 && c.phase != 3 && c.fired.isNone && fieldLE c.desc 0x20 1 == tag then
        (if n ≤ s.pick && c.phase == 2 then { c with phase := 3, res := 2 } else { c with fired := some n })
      else c) }

/-- An accepted scheduled operation at a device. -/
def schedTake (y : RSym) (s : State) : State :=
  let s1 := opDone y.opid 0 0 s
  let s2 := if y.op = 4 then snapFire y.ts y.pick ((s1.setFld F.REED_SNAPLOG_TAG 0 0 y.ts).setFld F.REED_SNAPLOG_PICK_PICK 0 0 y.pick) else s1
  s2.updReed (fun r => { r with kept := r.kept ++ [{ sym := y, late := y.pick ≤ s2.pick }] })

/-- The root answers an operation that it does not accept: only the issuing slot acts on it. -/
def rootRefuse (y : RSym) (st : Nat) (s : State) : State :=
  let z := { y with count := st }
  opDone y.opid st 0 (downAll z s)

/-- A scheduled operation reaches the root's logic at time `t`. `count` of the DOWN symbol carries a refusal's status,
since TAG shares STATUS's place (log entry 20). -/
def rootSched (y : RSym) (t : Nat) (s : State) : State :=
  if s.pick < y.pick ∧ t + s.fld F.TB_TREE_DEPTH * 80 + 100 ≤ bTime s y.pick then schedTake y (downAll { y with count := 0 } s)
  else rootRefuse y 4 s

/-- A slot issues a SNAPSHOT or RESET. -/
def schedGo (sl : Nat) (s : State) : State :=
  let (o, s1) := newOpid sl s
  let y : RSym := { op := s.fld F.REED_OP_CTL_OP 0 sl, ts := s.fld F.REED_OP_CTL_TAG 0 sl, opid := o, pick := s.fld F.REED_OP_PICK_PICK 0 sl }
  if isRoot s1 then rootSched y (s1.now + 10) s1 else upSend y s1

/-! ### Mode changes (R617 to R624) -/

/-- Why a unit is not ready, by MODE_FENCE_LOG.CAUSE (R618): 0 ready, 1 power, 3 clock. Every reset of a unit ends in the
command that makes it, so that no unit is met in reset (log entry 20). -/
def unitCause (s : State) (hu : Nat) : Nat :=
  let i := hu % 0x1000
  match hu / 0x1000 with
  | 1 => if s.laneRail then 1 else if laneClockless s i then 3 else 0
  | 2 =>
    if !bayOn s i || s.fld F.PWR_BAY_REQ_REQ 0 i != 2 then 1
    else if s.frozen.contains i || (List.range 8).any (fun k => bayBound s i k && bitOf (s.fld F.BAY_CTL_CLK_EN i) k && !lineRuns s (bayLine s i k)) then 3
    else 0
  | _ =>
    if hu = 11 && s.staged.any (fun g => g.hu == 11 && !s.bit F.PWR_GPIO_V_READY 0 g.u) then 1
    else if hu = 8 then (if tbRuns s then 0 else 3) else if hu = 5 then (if domRuns s 3 then 0 else 3) else (if domRuns s 0 then 0 else 3)

/-- The units that are ARMED. -/
def armedUnits (s : State) : List Nat := (s.staged.map (·.hu)).eraseDups.filter (fun hu => s.bit F.UNIT_STATUS_ARMED hu)

/-- A LOCAL mode change is in progress. -/
def localMode (s : State) : Bool := s.reed.modes.any (fun m => !m.sys)

/-- The device is ready for a mode change, its children apart (R618). -/
def modeReady (s : State) (m : RMode) : Bool :=
  m.joined && !s.bit F.TB_EVT_PICKMM && !(m.sys && localMode s) && (!m.swack || s.bit F.MODE_CTL_READY) &&
  (armedUnits s).all (fun hu => unitCause s hu == 0)

/-- Changes the record of a mode change. -/
def modeUpd (opid : Nat) (f : RMode → RMode) (s : State) : State :=
  s.updReed (fun r => { r with modes := r.modes.map (fun m => if m.opid = opid then f m else m) })

/-- A device sends MODE_READY once it and its children are ready; at once when it or a child is not (R618). -/
def modeReport (m : RMode) (s : State) : State :=
  if !m.sys || isRoot s || m.sent || m.dec.isSome then s
  else
    let no := !m.joined || s.bit F.TB_EVT_PICKMM || m.kids.any (fun k => !k.2)
    let yes := modeReady s m && (childPorts s).all (fun p => m.kids.contains (p, true))
    let go (r : Bool) : State := upSend { op := 7, opid := m.opid, pick := m.n, flags := 32 * ofBool r } (modeUpd m.opid (fun m => { m with sent := true }) s)
    if no then go false else if yes then go true else s

/-- Every mode change in progress is looked at again. -/
def modeProgress (s : State) : State := forL s.reed.modes modeReport s

/-- MODE_ARM acts on a device (R618): its staged units with POLICY HOLD are armed. The registers of a LOCAL change in progress
are left to it (R617, log entry 20). -/
def modeArm (m : RMode) (s : State) : State :=
  let s1 := s.updReed (fun r => { r with modes := r.modes ++ [m] })
  let s2 := if m.joined then
      forL (s1.staged.map (·.hu)).eraseDups (fun hu s => if s.fld F.STAGE_CTL_POLICY hu = 2 then s.setBit F.UNIT_STATUS_ARMED hu else s) s1
    else s1
  modeProgress (if m.joined then ((s2.setFld F.MODE_STATUS_OPID 0 0 m.opid).setFld F.MODE_STATE_STATE 0 0 1).clrFld F.MODE_CTL_READY
    else s2)

/-- The mode change that a MODE_ARM symbol starts at this device. -/
def modeOf (s : State) (y : RSym) : RMode :=
  { opid := y.opid, n := y.pick, d := y.arg, swack := bitOf y.flags 0, joined := !localMode s, gen := s.fld F.WARP_SYS_STATUS_GEN }

/-- The lead that the root, or the device of a LOCAL change, asks for (R620). -/
def modeLead (s : State) (t d n depth : Nat) : Bool :=
  s.pick < d && t + 2 * depth * 80 + 150 ≤ bTime s d && bTime s d + depth * 80 + 100 ≤ bTime s n

/-- MODE_ARM reaches the root's logic at time `t` (R617, R620). -/
def rootMode (y : RSym) (t : Nat) (s : State) : State :=
  if s.reed.modes.any (·.sys) then rootRefuse y 5 s
  else if modeLead s t y.arg y.pick (s.fld F.TB_TREE_DEPTH) then modeArm (modeOf s y) (downAll { y with count := 0 } s)
  else rootRefuse y 4 s

/-- A slot issues a MODE. -/
def modeGo (sl : Nat) (s : State) : State :=
  let n := s.fld F.REED_OP_PICK_PICK 0 sl
  let d := s.fld F.REED_OP_ARG_ARG 0 sl
  let sw := s.bit F.REED_OP_CTL_SWACK 0 sl
  if n ≤ d then slotDone sl 9 0 false s
  else
    let (o, s1) := newOpid sl s
    if s.bit F.REED_OP_CTL_SCOPE 0 sl then
      if !s.reed.modes.isEmpty then slotDone sl 5 0 false s1
      else if !modeLead s1 (s1.now + 10) d n 0 then slotDone sl 4 0 false s1
      else modeArm { opid := o, sys := false, n := n, d := d, swack := sw, slot := sl, gen := s.fld F.WARP_SYS_STATUS_GEN } s1
    else
      let y : RSym := { op := 6, opid := o, pick := n, arg := d, flags := ofBool sw }
      if isRoot s1 then rootMode y (s1.now + 10) s1 else upSend y s1

/-- A decision acts on this device (R620, R621): on ABORT every armed unit clears ARMED and keeps its shadows. -/
def modeDecided (opid : Nat) (commit : Bool) (s : State) : State :=
  match s.reed.modes.find? (fun m => m.opid == opid && m.dec.isNone && !m.past) with
  | none => s
  | some m =>
    let s1 := modeUpd opid (fun m => { m with dec := some commit }) s
    if !m.joined then s1
    else
      let s2 := s1.clrFld F.MODE_CTL_READY
      if commit then s2 else (forL (armedUnits s2) (fun hu s => s.clrFld F.UNIT_STATUS_ARMED hu) s2).setFld F.MODE_STATE_STATE 0 0 3

/-- The symbol of a decision. -/
def decideSym (m : RMode) (commit : Bool) : RSym := { kind := 2, op := 8, opid := m.opid, pick := m.n, flags := 128 * ofBool commit }

/-- Boundary `b` is reached: the root decides a SYSTEM change, a device its LOCAL one, whose D it is (R620). -/
def modeDecide (b : Nat) (s : State) : State :=
  forL (s.reed.modes.filter (fun m => m.d == b && m.dec.isNone && (isRoot s || !m.sys))) (fun m s =>
    let commit := modeReady s m && (!m.sys || ((childPorts s).all (fun p => m.kids.contains (p, true)) && m.gen == s.fld F.WARP_SYS_STATUS_GEN))
    modeDecided m.opid commit (if m.sys then downAll (decideSym m commit) s else s)) s

/-- A mode change ends at this device with the system's total of fenced units. -/
def modeFinish (m : RMode) (total : Nat) (aborted : Bool) (s : State) : State :=
  let s1 := opGone m.opid (s.updReed (fun r => { r with modes := r.modes.filter (fun x => x.opid != m.opid) }))
  let s2 := if m.joined then s1.setFld F.MODE_STATE_STATE 0 0 (if aborted then 3 else if total = 0 then 2 else 4) else s1
  opDone m.opid (if aborted then 7 else if total = 0 then 0 else 8) (if aborted then 0 else total) s2

/-- After N a device sends its outcome up once its children's have come; the root sends the total down (R624). A device that
has left the tree ends with its own count (log entry 20). -/
def modeOutcome (m : RMode) (s : State) : State :=
  let total := m.outs.foldl (fun a o => a + o.2) m.fenced
  let all := !m.sys || (childPorts s).all (fun p => m.outs.any (fun o => o.1 == p))
  if !m.past || m.osent || !all then s
  else if !m.sys || !inTree s then modeFinish m total (m.dec == some false) s
  else if isRoot s then
    let ab := m.dec == some false
    modeFinish m total ab (downAll { op := 9, opid := m.opid, pick := m.n, count := total, ts := if ab then 7 else if total = 0 then 0 else 8 } s)
  else upSend { op := 9, opid := m.opid, pick := m.n, count := total } (modeUpd m.opid (fun m => { m with osent := true }) s)

/-- Every mode change past its N is looked at again. -/
def modeOutcomes (s : State) : State := forL s.reed.modes modeOutcome s

/-! ### GO (R609) -/

/-- A write of GO to slot `sl`. -/
def reedGo (sl : Nat) (s : State) : State :=
  let st := s.fld F.WARP_SYS_STATUS_STATE
  if slotBusy s sl then s
  else
    let s1 := (s.setFld F.REED_OP_CTL_STATE 0 sl 1).setBit F.REED_OP_CTL_GO 0 sl
    if st = 3 ∨ st = 4 then slotDone sl 6 0 false s1
    else match s.fld F.REED_OP_CTL_OP 0 sl with
      | 1 => collGo sl s1
      | 2 => bcGo sl s1
      | 3 => if s.fld F.REED_OP_CTL_FUNC 0 sl = 7 then slotDone sl 9 0 false s1 else collGo sl s1
      | 4 => schedGo sl s1
      | 5 => schedGo sl s1
      | 6 => modeGo sl s1
      | _ => slotDone sl 9 0 false s1

/-- A GO command of an operation: the slot's OP names it. -/
def reedGoAs (op sl : Nat) (s : State) : State := if sl < 8 && s.fld F.REED_OP_CTL_OP 0 sl == op then reedGo sl s else s

/-- R610. GO in a slot with OP BARRIER. -/
def execReedBarrier (sl : Nat) (s : State) : Res := .next (reedGoAs 1 sl s)

/-- R613. GO in a slot with OP BROADCAST. -/
def execReedBroadcast (sl : Nat) (s : State) : Res := .next (reedGoAs 2 sl s)

/-- R611. GO in a slot with OP REDUCE. -/
def execReedReduce (sl : Nat) (s : State) : Res := .next (reedGoAs 3 sl s)

/-- R614. GO in a slot with OP SNAPSHOT. -/
def execReedSnapshot (sl : Nat) (s : State) : Res := .next (reedGoAs 4 sl s)

/-- R614. GO in a slot with OP RESET. -/
def execReedReset (sl : Nat) (s : State) : Res := .next (reedGoAs 5 sl s)

/-- R617. GO in a slot with OP MODE. -/
def execReedMode (sl : Nat) (s : State) : Res := .next (reedGoAs 6 sl s)

/-- R618. A write of MODE_CTL.READY. -/
def execModeSoftwareReady (s : State) : Res := .next (modeProgress (s.setBit F.MODE_CTL_READY))

/-! ### The timebase (R597 to R602) -/

/-- The schedule of this device: PICK_NS, ORIGIN_T, ORIGIN_N. -/
def schedule (s : State) : Nat × Nat × Nat := (s.fld F.PICK_NS, s.fld F.ORIGIN_T, s.fld F.ORIGIN_N)

/-- Takes a schedule as this device's own. -/
def takeSchedule (p : Nat × Nat × Nat) (s : State) : State :=
  ((s.setFld F.PICK_NS 0 0 p.1).setFld F.ORIGIN_T 0 0 p.2.1).setFld F.ORIGIN_N 0 0 p.2.2

/-- PICK_CNT by a schedule at a system time (R595). -/
def pickAt (p : Nat × Nat × Nat) (t : Nat) : Nat := p.2.2 + (t - p.2.1) / pickNs p.1

/-- A difference of two 64-bit timestamps, signed. -/
def tsDiff (a b : Nat) : Int := (BitVec.ofNat 64 a - BitVec.ofNat 64 b).toInt

/-- A measurement arrives in a CAL_RESP received at `t4` (R598, R599, R602). Timestamps are in 1/256 ns. -/
def tbMeasure (y : RSym) (t4 : Nat) (s : State) : State :=
  let d := tsDiff y.arg y.pick - tsDiff t4 y.count
  let off := d / 2
  let ps := d * 1000 / 512
  let s1 := s.setFld F.TB_OFFSET_OFFSET 0 0 ((BitVec.ofInt 32 ps).toNat)
  let st := s.fld F.TB_STATUS_STATE
  if st = 1 then
    let now := (BitVec.ofInt 64 (s.now + off / 256)).toNat
    let s2 := ((takeSchedule y.ext s1).setFld F.SYSTIME 0 0 now).setFld F.PICK_CNT 0 0 (pickAt y.ext now)
    tbSet 4 (s2.updReed (fun r => { r with measured := true, good := 0, par := some y.ext }))
  else if st = 2 ∨ st = 4 then
    let good := if ps.natAbs ≤ 100 then s.reed.good + 1 else 0
    let s2 := s1.updReed (fun r => { r with good := min good 16, par := some y.ext })
    let s3 := if y.ext = schedule s2 then s2 else s2.setEvt F.TB_EVT_PICKMM 0 0 0x041
    if 16 ≤ good then tbSet 2 s3 else if good = 0 then tbSet 4 s3 else s3
  else s1

/-- R598. A child sends CAL_REQ to its parent at `t1`. -/
def execTbCalibration (t1 : Nat) (s : State) : Res :=
  .next (if !hasParent s || s.fld F.WARP_STATUS_STATE (s.fld F.TB_TREE_PPORT) != 3 then s
    else reedSend (s.fld F.TB_TREE_PPORT) { kind := 4, pick := t1 } s)

/-- R602. RESYNC takes the parent's schedule at the next boundary; it ends the mismatch (log entry 20). -/
def tbResync (s : State) : State :=
  if s.fld F.TB_STATUS_STATE = 0 ∨ s.reed.par = none then s else (s.clrFld F.TB_EVT_PICKMM).updReed (fun r => { r with resync := true })

/-- R602. A write of RESYNC. -/
def execTbResync (s : State) : Res := .next (tbResync s)

/-! ### Receiving a symbol (R608) -/

/-- A symbol that goes up acts on this device; `p` is the child port. -/
def symUp (p : Nat) (y : RSym) (s : State) : State :=
  match y.op with
  | 1 | 3 => if opGen y.opid = s.fld F.WARP_SYS_STATUS_GEN then collUp p y s else s.bump F.REED_DISC_REED_DISC_CNT
  | 2 => if isRoot s then bcDown y s else upSend y s
  | 4 | 5 => if isRoot s then rootSched y s.now s else upSend y s
  | 6 => if isRoot s then rootMode y s.now s else upSend y s
  | 7 => modeProgress (modeUpd y.opid (fun m => { m with kids := m.kids.filter (fun k => k.1 != p) ++ [(p, rsREADY y)] }) s)
  | 9 => modeOutcomes (modeUpd y.opid (fun m => { m with outs := m.outs.filter (fun k => k.1 != p) ++ [(p, y.count)] }) s)
  | _ => s

/-- A symbol that comes down, or round the tree (R626), acts on this device. -/
def symDown (p : Nat) (y : RSym) (s : State) : State :=
  match y.op with
  | 1 | 3 => collDown y s
  | 2 => bcDown y s
  | 4 | 5 =>
    if y.count ≠ 0 then opDone y.opid y.count 0 (downAll y s)
    else if opKnown s y.opid then s
    else schedTake y (treeFlood (some p) y s)
  | 6 =>
    if y.count ≠ 0 then opDone y.opid y.count 0 (downAll y s)
    else if s.reed.modes.any (fun m => m.opid == y.opid) then s
    else modeArm (modeOf s y) (downAll y s)
  | 8 =>
    if s.reed.modes.any (fun m => m.opid == y.opid && m.dec.isNone) then modeDecided y.opid (rsCOMMIT y) (treeFlood (some p) y s) else s
  | 9 =>
    let s1 := downAll y s
    (match s1.reed.modes.find? (fun m => m.opid == y.opid) with
     | some m => modeFinish m y.count (y.ts == 7) s1
     | none => s1)
  | _ => s

/-- The scheduled operations and mode decisions that are kept until their boundary passes (R626). -/
def keptCount (s : State) : Nat := s.reed.kept.length + (s.reed.modes.filter (fun m => m.sys && m.dec.isSome && !m.past)).length

/-- The receiver has room for an operation symbol (R608, R610, R626); a collective of a later tree waits at its sender. -/
def symRoom (s : State) (y : RSym) : Bool :=
  if y.kind = 1 ∧ (y.op = 1 ∨ y.op = 3) then
    let ahead := (opGen y.opid + 65536 - s.fld F.WARP_SYS_STATUS_GEN) % 65536
    collRoom s (opColl y.opid) && (ahead == 0 || 32768 ≤ ahead)
  else if (y.kind = 2 ∧ (y.op = 4 ∨ y.op = 5) ∧ y.count = 0) ∨ (y.kind = 1 ∧ (y.op = 4 ∨ y.op = 5) ∧ isRoot s) then
    keptCount s < 16 || opKnown s y.opid
  else if y.kind = 2 ∧ y.op = 8 then keptCount s < 16 || !s.reed.modes.any (fun m => m.opid == y.opid && m.dec.isNone)
  else true

/-- The oldest symbol that waits at port `p` is accepted on its hop and acted on; `t` and `t'` are the time of its receipt
and, for a CAL_REQ, that of the answer, in 1/256 ns. -/
def reedReceive (p t t' : Nat) (s : State) : State :=
  let w := s.warp.get p
  match w.reedIn with
  | [] => s
  | (r, b) :: q =>
    let s1 := s.updWp p (fun w => { w with reedIn := q })
    let s2 := if bitOf (fieldLE b 6 1) 0 then reedAck p (fieldLE b 4 2) s1 else s1
    let y := symOf b
    if y.kind = 3 then s2
    else if r ≠ w.rexpect ∨ !symRoom s2 y then s2.updWp p (fun w => { w with ackOwed := true })
    else
      let s3 := s2.updWp p (fun w => { w with rexpect := (r + 1) % 65536, ackOwed := true })
      match y.kind with
      | 1 => symUp p y s3
      | 2 => symDown p y s3
      | 4 => reedSend p { kind := 5, pick := y.pick, arg := t, count := t', ext := schedule s3 } s3
      | 5 => if hasParent s3 && s3.fld F.TB_TREE_PPORT == p then tbMeasure y t s3 else s3
      | _ => s3

/-- R608. A Reed symbol that waits at port `p` is received at time `t`, and a CAL_REQ answered at `t2`. -/
def execReedSymbolReceive (p t t2 : Nat) (s : State) : Res := .next (if p < 12 then reedReceive p t t2 s else s)

/-- A tree change (R625, R626): outstanding collectives end with TREECHG, the root aborts what it has not decided, and
every kept operation and decision goes to each tree neighbour. -/
def reedTreeChange (s : State) : State :=
  let slots := s.reed.colls.flatMap (·.slots)
  let s1 := forL slots (fun sl s => slotDone sl 1 0 false s) (s.updReed (fun r => { r with colls := [] }))
  let s2 := if isRoot s1 then
      forL (s1.reed.modes.filter (fun m => m.sys && m.dec.isNone)) (fun m s => modeDecided m.opid false s) s1
    else s1
  let s3 := s2.updReed (fun r => { r with modes := r.modes.map (fun m => { m with outs := [], osent := false }) })
  let s4 := forL s3.reed.kept (fun k s => treeFlood none k.sym s) s3
  let s5 := forL (s4.reed.modes.filter (fun m => m.sys && !m.past)) (fun m s =>
    match m.dec with | some c => treeFlood none (decideSym m c) s | none => s) s4
  modeOutcomes s5

end Sys2Proof.Machine
end

