-- ==== Sys2Proof/Machine/ClockFail.lean ====
section
/-!
DEFINITION. Failing clock sources and what they force (chapter 21, R638 to R643), and the restart of a stopped domain
(R640).
-/
namespace Sys2Proof.Machine

/-- A memory port that lost its clock enters FAILED with its DRAM undefined and its regions LOST (R462, R512). -/
def mpClockBack (n : Nat) (s : State) : State :=
  if (s.mp.get n).clkLost then mpSetState n 4 ((mpForget n false s).clrFld F.MP_STATUS_STEP n) else s

/-- What follows when a domain gets its clock back: the NoC domain lets the held interrupt events in (R648), and ports
that lost the memory clock fail (R462). -/
def domResumed (d : Nat) (s : State) : State :=
  let s1 := settleOwed s
  if d = 0 && s.dev = .run then irqReleaseHeld s1 else if d = 4 then forN 16 mpClockBack s1 else s1

/-- R640. A stopped domain restarts, at divider 32, on its alternate source after a failure, or on its normal source
when that is good again. -/
def execDomainFailoverRestart (d : Nat) (s : State) : Res :=
  .next (
    let st := s.fld F.DOM_STATUS_STATE 0 d
    let w := s.domSw.get d
    let alt := if s.bit F.DOM_CTL_ALT 0 d then 2 else 1
    if d ≥ 6 || st < 3 then s
    else if domSrcGood s d (s.fld F.DOM_CTL_SRC 0 d) then
      gpioShowAll (domResumed d (domSettle d ((((s.setFld F.DOM_STATUS_STATE 0 d 1).setFld F.DOM_STATUS_CUR_SRC 0 d (s.fld F.DOM_CTL_SRC 0 d)).setFld
        F.DOM_STATUS_CUR_DDIV 0 d 0).updSw d { phase := 3 })))
    else if w.failed && d != 4 && s.bit F.DOM_CTL_ALT_EN 0 d && domSrcGood s d alt then
      gpioShowAll (domResumed d (domSettle d ((((s.setFld F.DOM_STATUS_STATE 0 d 2).setFld F.DOM_STATUS_CUR_SRC 0 d alt).setFld
        F.DOM_STATUS_CUR_DDIV 0 d 0).updSw d { phase := 3 })))
    else s)

/-- The memory clock stops: ports that use it record CLKLOSS (R462). -/
def memClockLost (s : State) : State :=
  forN 16 (fun n s =>
    if [1, 2, 5].contains (s.fld F.MP_STATUS_STATE n) then
      ((s.setFld F.MP_STATUS_FAILSTEP n 0 (s.fld F.MP_STATUS_STEP n)).setFld F.MP_STATUS_FAILCODE n 0 7).updMp n (fun m => { m with clkLost := true })
    else s) s

/-- The current source of a domain fails: the domain stops and waits (R640). -/
def domFail (d : Nat) (s : State) : State :=
  let s1 := ((s.setFld F.DOM_STATUS_STATE 0 d 3).setFld F.DOM_STATUS_CUR_SRC 0 d 3).updSw d { failed := true }
  if d = 4 then memClockLost s1 else s1

/-- The source with code `code` of domain `d` fails (R640, R643): in phase 1 of a switch the multiplexer moves at once from
a failed old source to the new one, and a failed new source is waited for. -/
def domSrcFail (d code : Nat) (s : State) : State :=
  let w := s.domSw.get d
  let cur := s.fld F.DOM_STATUS_CUR_SRC 0 d
  let src := s.fld F.DOM_CTL_SRC 0 d
  if 3 ≤ s.fld F.DOM_STATUS_STATE 0 d then s
  else if w.phase = 1 && cur == code then
    (if domSrcGood s d src then ((s.setFld F.DOM_STATUS_CUR_SRC 0 d src).setFld F.DOM_STATUS_CUR_DDIV 0 d 0).updSw d { w with phase := 3 }
     else domFail d s)
  else if w.phase = 1 && src == code then (s.setFld F.DOM_STATUS_STATE 0 d 0).updSw d { phase := 0, waits := true }
  else if cur = code then domFail d s
  else s

/-- The domains fail whose source is the one numbered `n` as CLK_GOOD. -/
def domsFail (n : Nat) (s : State) : State :=
  forN 6 (fun d s => forN 3 (fun code s => if domSrc d code = some n then domSrcFail d code s else s) s) s

/-- A source loses its good bit and its failure is recorded (R639). -/
def srcFailed (n : Nat) (s : State) : State :=
  (s.setFlag F.CLK_GOOD_GOOD 0 0 n false).setFlag F.CLK_FAILEVT_FAIL 0 0 n

/-- A global line stops by failure: its outputs are forced (R641). -/
def lineFail (l : Nat) (s : State) : State := s.setFlag F.LINE_FORCED_FORCED 0 0 l

/-- The sources of lines 24 to 27 that meet `p` fail. -/
def glinesFail (p : Nat → Bool) (s : State) : State :=
  forN 4 (fun j s => if p j && srcGood s (32 + j) then lineFail (24 + j) ((srcFailed (32 + j) s).clrFld F.GLINE_FREQ_FREQ_KHZ 0 j) else s) s

/-- FPLL `m` fails. -/
def fpllFail (m : Nat) (s : State) : State :=
  if srcGood s (8 + m) then
    lineFail m (((srcFailed (8 + m) s).clrFld F.FPLL_STATUS_LOCK 0 m).clrFld F.FPLL_STATUS_FREQ_KHZ 0 m |>.setBit F.FPLL_STATUS_FAIL 0 m)
  else s

/-- The enabled FPLLs whose reference meets `p` fail. -/
def fpllsFail (p : Nat → Bool) (s : State) : State :=
  forN 24 (fun m s => if s.bit F.FPLL_CFG_EN 0 m && p m then fpllFail m s else s) s

/-- SPLL `k` fails; a failed SPLL5 takes the PLLs and lines that run from the timebase with it. -/
def spllFail (k : Nat) (s : State) : State :=
  if !srcGood s (2 + k) then s
  else domsFail (2 + k) (((srcFailed (2 + k) s).clrFld F.SPLL_STATUS_LOCK 0 k).clrFld F.SPLL_STATUS_FREQ_KHZ 0 k |>.setBit F.SPLL_STATUS_FAIL 0 k)

/-- The timebase clock fails (Table 21.3). -/
def tbFail (s : State) : State :=
  if !srcGood s 7 then s
  else
    let s1 := forN 5 (fun k s => if s.bit F.SPLL_CFG_EN 0 k && s.fld F.SPLL_CFG_REF 0 k == 1 then spllFail k s else s) (spllFail 5 s)
    glinesFail (fun j => s.fld F.GLINE_CFG_SRC 0 j == 2) (fpllsFail (fun m => s.fld F.FPLL_CFG_REF 0 m == 1) s1)

/-- The crystal fails (Table 21.3): a timebase that runs from it, or holds over on it, fails too. -/
def xtalFail (s : State) : State :=
  let s1 := domsFail 0 (srcFailed 0 s)
  let s2 := forN 5 (fun k s => if s.bit F.SPLL_CFG_EN 0 k && s.fld F.SPLL_CFG_REF 0 k == 0 then spllFail k s else s) s1
  let s3 := glinesFail (fun j => s.fld F.GLINE_CFG_SRC 0 j % 2 == 1) (fpllsFail (fun m => s.fld F.FPLL_CFG_REF 0 m == 0) s2)
  if s.fld F.SPLL_CFG_REF 0 5 = 0 ∨ s.fld F.TB_STATUS_STATE = 3 then tbFail s3 else s3

/-- A quad loses its PLL (Table 21.3): its lanes lose their input, and on quad 0 the PCI Express link goes down. -/
def quadLost (q : Nat) (s : State) : State :=
  let s1 := forL (quadLanes q) laneLos ({ s with lanes := s.lanes.upd (4 * q) (fun k => { k with pllLost := true }) })
  if q = 0 && quadOwner s 0 == 2 then pcieLinkDown s1 else s1

/-- A lane's recovered clock fails: what uses it as a reference fails (Table 21.3). -/
def laneClockFail (l : Nat) (s : State) : State :=
  glinesFail (fun j => s.fld F.GLINE_CFG_SRC 0 j == 0 && s.fld F.GLINE_CFG_LANE 0 j == l)
    (fpllsFail (fun m => 2 ≤ s.fld F.FPLL_CFG_REF 0 m && s.fld F.FPLL_CFG_LANE 0 m == l) s)

/-! ### Undefined registers (R639) -/

/-- A number of free bits for a register of `w` bits. -/
def State.freeField (s : State) (f : Field) (u i : Nat) : State := let r := s.freshBits (f.w / 64 + 1); r.2.setFld f u i r.1

/-- The units of a block or family. -/
def Blk.units (b : Blk) : Nat :=
  match b with
  | .lane => 192 | .bay => 768 | .sc | .ssr => 96 | .mp => 16 | .warp => 12 | .cc | .vsr => 8 | _ => 1

/-- Every stored register field of unit `u` of a block holds a free value. -/
def unitScramble (b : Blk) (u : Nat) (s : State) : State :=
  forL (regsOf b) (fun r s => forL r.fields (fun f s =>
    if f.form == .fuse || f.form == .noStore then s else forN (max 1 r.count * f.reps) (fun i s => s.freeField f u i) s) s) s

/-- The register blocks that a source of Table 1.4 clocks, by domain index; 6 is the timebase. -/
def domBlocks (d : Nat) : List Blk :=
  match d with
  | 0 => [.noc, .irq, .spb] | 1 => [.cc, .vsr] | 2 => [.sc, .ssr] | 3 => [.cfg, .hd] | 4 => [.mp, .mpe] | 5 => [.pwr, .clk] | _ => [.reed]

/-- A list of free cells, one for each number below `n`. -/
def State.freeMap (s : State) (n : Nat) : SMap Word × State :=
  ((List.range n).foldl (fun m j => m.set j (Config.freeValue (s.freeCtr + j))) {}, { s with freeCtr := s.freeCtr + n })

/-- The registers of control core `c` beside its system registers hold free values. -/
def ccScramble (c : Nat) (s : State) : State :=
  let r := s.freeMap 176
  let q := r.2.fresh
  { q.2 with vc := q.2.vc.upd c (fun k => { k with pc := q.1, regs := r.1 }) }

/-- The registers of signal core `n` beside its system registers hold free values. -/
def scScramble (n : Nat) (s : State) : State :=
  let v := s.freeMap 32
  let a := v.2.freeMap 8
  let p := a.2.freeMap 8
  let q := p.2.fresh
  let w (m : SMap Word) (k : Nat) : SMap SWord := (List.range k).foldl (fun x j => x.set j ((m.get j).setWidth _)) {}
  let acc : SMap Acc := (List.range 4).foldl (fun x j => x.set j ((a.1.get j).setWidth _)) {}
  let ix : SMap Nat := (List.range 4).foldl (fun x j => x.set j ((a.1.get (4 + j)).toNat % 65536)) {}
  { q.2 with sc := q.2.sc.upd n (fun k => { k with pc := q.1.toNat % 4096, v := w v.1 32, acc := acc, ix := ix, ixc := ix, ap := p.1,
                                                     st := w p.1 8, cs := w p.1 8 }) }

/-- The registers of a domain hold free values. -/
def domScramble (d : Nat) (s : State) : State :=
  let s1 := forL (domBlocks d) (fun b s => forN b.units (unitScramble b) s) s
  if d = 1 then forN 8 ccScramble s1 else if d = 2 then forN 96 scScramble s1 else s1

/-- A slice's registers hold free values; its coefficient banks, a memory, stay. -/
def sliceScramble (b k : Nat) (s : State) : State :=
  let r := s.freeMap 4
  let x (j : Nat) : Nat := (r.1.get j).toNat
  { r.2 with slices := r.2.slices.upd (b * 32 + k) (fun v => { v with
      acc := x 0 % 2 ^ 56, idx := x 1 % 65536, idxCnt := x 1 / 65536 % 65536, ovf := bitOf (x 1) 32, preOv := bitOf (x 1) 33,
      idxOvf := bitOf (x 1) 34, yov := bitOf (x 1) 35, y := x 2 % 2 ^ 24, yNext := (x 3 % 2 ^ 24, bitOf (x 3) 24),
      pipe := v.pipe.zipIdx.map (fun o => { o.1 with m := (x 2 / 2 ^ (o.2 + 24) : Nat), c := x 3 / 2 ^ (o.2 + 8), first := bitOf (x 1) (40 + o.2) }) }) }

/-- The output registers of a memory block port hold free values. -/
def blockScramble (b k p : Nat) (s : State) : State :=
  let r := s.freeMap 2
  let o : PortOut := { dout := (r.1.get 0).toNat, ce := (r.1.get 1).getLsbD 0, ue := (r.1.get 1).getLsbD 1, busy := (r.1.get 1).getLsbD 2 }
  { r.2 with blkOut := r.2.blkOut.set ((b * 24 + k) * 2 + p) o }

/-- The registers of a bay that clock input `k` clocks hold free values: flip-flops, boundary groups, slices, block outputs. -/
def bayScramble (b k : Nat) (s : State) : State :=
  let s1 := forN 1024 (fun c s =>
    let fr := clusterFrame s b c
    let mask := (List.range 16).foldl (fun a i => a + ofBool (ctlClk fr (bitsOf fr (26 * i + 19) 1) == k) * 2 ^ i) 0
    if fr = 0 || mask = 0 then s
    else
      let r := s.fresh
      { r.2 with ffs := r.2.ffs.set (b * 1024 + c) (((s.ffs.get (b * 1024 + c)) &&& (65535 - mask)) ||| (r.1.toNat &&& mask)) }) s
  let s2 := forN 32 (fun j s => if groupClk s b j = k && groupUse s b j then { s.fresh.2 with bregs := s.bregs.set (b * 32 + j) s.fresh.1.toNat } else s) s1
  forN 24 (fun j s => forN 2 (fun p s => if blkClk s b j p = k then blockScramble b j p s else s) s)
    (forN 32 (fun j s => if slcClk s b j = k then sliceScramble b j s else s) s2)

/-- Registers clocked by line `l` hold free values. -/
def lineScramble (l : Nat) (s : State) : State :=
  forN 768 (fun b s => forN 8 (fun k s => if bayBound s b k && bayLine s b k == l then bayScramble b k s else s) s) s

/-- Registers clocked by source `n`, numbered as in CLOCK_SOURCE_FAIL, hold free values after a shortened or extra pulse (R639). -/
def srcScramble (n : Nat) (s : State) : State :=
  if n < 7 then forN 6 (fun d t => if domRuns s d && domSrc d (s.fld F.DOM_STATUS_CUR_SRC 0 d) == some n then domScramble d t else t) s
  else if n = 7 then domScramble 6 s
  else if n < 36 then lineScramble (n - 8) s
  else if n < 84 then forN 192 (fun l t => if refRoot s 16 (l / 4) = n - 36 then unitScramble .lane l t else t) s
  else if n < 132 then forN 4 (fun j t => unitScramble .lane (4 * (n - 84) + j) t) s
  else s

/-- R638, R639, R641. The monitor finds a source failed: numbered as CLK_GOOD, 36 + q for QREFq, 84 + q for the PLL of quad
q, 132 + l for lane l's recovered clock. The crystal is measured against FOSC, without which it is not monitored. `pulse` says that the source delivered a shortened or extra pulse just before. -/
def execClockSourceFail (n : Nat) (pulse : Bool) (s : State) : Res :=
  .next (
    if srcStopped s (min n 35) || (n == 0 && !(srcGood s 0 && srcGood s 1)) ||
      (36 ≤ n && n < 84 && !bitOf (s.fld F.QREF_GOOD_GOOD) (n - 36)) then s
    else
      let s0 := if pulse && (36 ≤ n || srcGood s n) then srcScramble n s else s
      let s1 :=
        if n = 0 then xtalFail s0
        else if n = 1 then domsFail 1 (srcFailed 1 s0)
        else if n < 7 then spllFail (n - 2) s0
        else if n = 7 then tbFail s0
        else if n < 32 then fpllFail (n - 8) s0
        else if n < 36 then glinesFail (fun j => j == n - 32) s0
        else if n < 84 then
          forN 48 (fun q s => if refRoot s0 16 q = n - 36 then quadLost q s else s)
            ((s0.setFlag F.QREF_GOOD_GOOD 0 0 (n - 36) false).setFlag F.QREF_FAILEVT_FAIL 0 0 (n - 36))
        else if n < 132 then quadLost (n - 84) s0
        else if n < 324 && laneSt s0 (n - 132) != lnACTIVE then laneClockFail (n - 132) s0
        else s0
      gpioShowAll (irqSample 0x040 s1))

/-- What a clock that is there again lets happen: values that waited for it apply, units may be ready for a mode change, pins may
come back. -/
def clockReturned (s : State) : State := gpioShowAll (modeProgress (settleOwed s))

/-- R630. A source (numbered as CLK_GOOD, 36 + q for QREFq, or 84 + q for the PLL of quad q) is judged stable or locked.
Selections that waited for it start (R637). A timebase whose clock returns after a failure is in HOLDOVER unless the device
is the root (R642). -/
def execSourceJudgedGood (n : Nat) (s : State) : Res :=
  .next (
    if 36 ≤ n then
      (if n < 84 then clockReturned (s.setFlag F.QREF_GOOD_GOOD 0 0 (n - 36))
       else if n < 132 then clockReturned { s with lanes := s.lanes.upd (4 * (n - 84)) (fun k => { k with pllLost := false }) }
       else s)
    else if !srcReady s n || srcStopped s n then s
    else
      let s0 := if n = 7 && s.bit F.SPLL_STATUS_FAIL 0 5 && s.fld F.TB_STATUS_STATE != 0 then tbSet 3 s else s
      let s1 := s0.setFlag F.CLK_GOOD_GOOD 0 0 n
      let s2 := if 2 ≤ n && n < 8 then
          ((s1.setBit F.SPLL_STATUS_LOCK 0 (n - 2)).clrFld F.SPLL_STATUS_FAIL 0 (n - 2)).setFld F.SPLL_STATUS_FREQ_KHZ 0 (n - 2) (spllFreq s1 (n - 2)).ceil
        else if 8 ≤ n && n < 32 then
          ((s1.setBit F.FPLL_STATUS_LOCK 0 (n - 8)).clrFld F.FPLL_STATUS_FAIL 0 (n - 8)).setFld F.FPLL_STATUS_FREQ_KHZ 0 (n - 8) (fpllFreq s1 (n - 8)).ceil
        else if n = 0 && !s1.bit F.SPLL_CFG_EN 0 5 then spll5Set false s1
        else s1
      clockReturned (forN 6 (fun d s =>
        if (s.domSw.get d).waits && domSrcGood s d (s.fld F.DOM_CTL_SRC 0 d) && s.fld F.DOM_STATUS_STATE 0 d < 3
        then domStart d s else s) (glineRefresh s2)))

/-- R641. LINE_FORCE_CLR lifts the forced safe state of the lines named by a mask that run again. -/
def execLineForceClr (mask : Nat) (s : State) : Res :=
  .next (gpioShowAll (forN 28 (fun l s => if bitOf mask l && lineRuns s l then s.setFlag F.LINE_FORCED_FORCED 0 0 l false else s) s))

end Sys2Proof.Machine
end

