-- ==== Sys2Proof/Machine/Warp.lean ====
section
/-!
DEFINITION. Warp links (chapter 19): enabling a port, sending and receiving flits, link failure, and discovery with its
settlements, routes, tree and isolation.
-/
namespace Sys2Proof.Machine

/-! ### Ports (R565, R577 to R579) -/

/-- A write of WARP_CFG (R565): EN = 1 is taken or refused with QUADERR; EN = 0 takes the link down. -/
def warpCfgWrite (p v : Nat) (s : State) : State :=
  let q := bitsOf v 8 6
  let en := bitOf v 0
  let st := s.fld F.WARP_STATUS_STATE p
  if s.bit F.WARP_CFG_EN p then
    if en then s
    else
      let old := s.fld F.WARP_CFG_QUAD p
      let s1 := s.clrFld F.WARP_CFG_EN p
      let s2 := if st = 2 ∨ st = 3 then warpDown p 4 s1 else if st = 4 then s1 else clearLink p (s1.setFld F.WARP_STATUS_STATE p 0 0)
      forL (quadLanes old) laneOff s2
  else
    let s1 := s.setFld F.WARP_CFG_QUAD p 0 q
    if !en then s1
    else if 4 ≤ q && q ≤ 47 && quadOwner s q == 3 && (portOfQuad s q).isNone then
      let s2 := s1.setBit F.WARP_CFG_EN p
      if st = 0 then quadRestart q (s2.setFld F.WARP_STATUS_STATE p 0 1) else s2
    else warpEvt F.WARP_EVT_QUADERR p s1

/-- R565. A write of EN = 1 to port `p`, with the rest of WARP_CFG. -/
def execWarpPortEnable (p v : Nat) (s : State) : Res := .next (if p < 12 then warpCfgWrite p (withBit v 0 true) s else s)

/-- R578. 2 µs pass in HELLO or UP without a good flit. -/
def execKeepaliveTimeout (p : Nat) (s : State) : Res := .next (if p < 12 then warpDown p 1 s else s)

/-- R579. LINK_HOLD passes: a DOWN port trains again, or is OFF when EN is 0. -/
def execLinkHoldExpiry (p : Nat) (s : State) : Res :=
  .next (
    if s.fld F.WARP_STATUS_STATE p ≠ 4 then s
    else if s.bit F.WARP_CFG_EN p then quadRestart (s.fld F.WARP_CFG_QUAD p) (s.setFld F.WARP_STATUS_STATE p 0 1)
    else s.setFld F.WARP_STATUS_STATE p 0 0)

/-! ### Sending (R568, R570, R572 to R575) -/

/-- Fills up to `n` slots of a DATA flit: the descriptor and slots so far, and the port with what is left to send. A unit
costs one credit; the oldest unit of a class with credit goes next. -/
def fillSlots : Nat → Nat → List (Nat × List Byte) → WPort → List (Nat × List Byte) × WPort
  | 0, _, acc, w => (acc, w)
  | n + 1, k, acc, w =>
    match w.half with
    | some u => fillSlots n (k + 1) (acc ++ [(3 + 4 * u.cls, u.data.drop 32)]) { w with half := none }
    | none =>
      match w.units.findIdx? (fun u => w.credit.get u.cls != 0) with
      | none => (acc, w)
      | some i =>
        let u := w.units.getD i default
        let w1 := { w with units := w.units.eraseIdx i, credit := w.credit.upd u.cls (· - 1) }
        if u.head then fillSlots n (k + 1) (acc ++ [(1 + 4 * u.cls, u.data.take 32)]) w1
        else fillSlots n (k + 1) (acc ++ [(2 + 4 * u.cls, u.data.take 32)]) { w1 with half := some u }

/-- The payload of a DATA flit, bytes 8 to 239. -/
def slotsBody (sl : List (Nat × List Byte)) : List Byte :=
  bytesLE 8 ((sl.zipIdx).foldl (fun a e => a + e.1.1 * 2 ^ (4 * e.2)) 0) ++ sl.flatMap (fun e => (e.2 ++ List.replicate 32 0).take 32)

/-- Sends one flit: the header gets ACK, RTRY and CRET (R573). -/
def sendFlit (p kind seq rseq : Nat) (body : List Byte) (s : State) : State :=
  let w := s.warp.get p
  let cret := (List.range 4).foldl (fun a c => a + min 15 (w.freed.get c) * 2 ^ (4 * c)) 0
  let h := kind + seq * 2 ^ 4 + (w.expect + 4095) % 4096 * 2 ^ 16 + ofBool w.ackv * 2 ^ 28 + ofBool w.rtry * 2 ^ 29 + cret * 2 ^ 32 + rseq * 2 ^ 48
  let s1 := s.updWp p (fun w =>
    { w with rtry := false, rtrySent := w.rtrySent || w.rtry,
             freed := (List.range 4).foldl (fun (m : SMap Nat) c => m.upd c (fun x => x - min 15 x)) w.freed })
  (s1.bumpWrap F.TX_FLITS p).emit (.flit p kind seq (mkFlit h body))

/-- Sends a sequenced flit and keeps it until it is acknowledged (R574). -/
def sendSeq (p kind : Nat) (body : List Byte) (s : State) : State :=
  let w := s.warp.get p
  sendFlit p kind w.seq 0 body (s.updWp p (fun w =>
    { w with seq := (w.seq + 1) % 4096, unacked := w.unacked ++ [{ seq := w.seq, kind := kind, body := body }] }))

/-- The transmitters of a warp port are in their safe state (Table 21.3, R665), or the port is stopped (R677). -/
def warpSilent (s : State) (p : Nat) : Bool :=
  quadSilent s (s.fld F.WARP_CFG_QUAD p)

/-- R568. Port `p` sends its next flit: a Reed symbol first, then a replay, discovery, packets, or IDLE. -/
def execWarpFlitSend (p : Nat) (s : State) : Res :=
  .next (
    let st := s.fld F.WARP_STATUS_STATE p
    let w := s.warp.get p
    let ack := (w.rexpect + 65535) % 65536
    let empty : RSym := { kind := 3 }
    if 12 ≤ p || (st != 2 && st != 3) || warpSilent s p then s
    else match w.reedTx with
      | (r, n, b) :: q =>
        sendFlit p 3 0 r (List.replicate 8 0 ++ withAck b ack)
          (s.updWp p (fun w => { w with reedTx := if n ≤ 1 then q else (r, n - 1, b) :: q, ackOwed := false }))
      | [] =>
        if w.ackOwed then
          let r := (w.rseq + 65535) % 65536
          let b := symBytes empty ack true
          sendFlit p 3 0 r (List.replicate 8 0 ++ b) (s.updWp p (fun w => { w with reedTx := [(r, 1, b)], ackOwed := false }))
        else if w.replay ≠ 0 then
          (match w.unacked[w.unacked.length - w.replay]? with
           | some f => sendFlit p f.kind f.seq 0 f.body (s.updWp p (fun w => { w with replay := w.replay - 1 }))
           | none => s.updWp p (fun w => { w with replay := 0 }))
        else if 64 ≤ w.unacked.length then sendFlit p 0 0 0 [] s
        else match w.disc with
          | d :: q => sendSeq p 2 d (s.updWp p (fun w => { w with disc := q }))
          | [] =>
            let (sl, w1) := fillSlots 7 0 [] w
            if st ≠ 3 || sl.isEmpty then sendFlit p 0 0 0 [] s
            else sendSeq p 1 (slotsBody sl) { s with warp := s.warp.set p w1 })

/-! ### Receiving (R569 to R575) -/

/-- A packet has arrived over the port whole: it enters the network at the port's router (R567), or is refused there
(R28). -/
def warpEnter (p : Nat) (k : Packet) (s : State) : State :=
  s.enter (quadRouter (s.fld F.WARP_CFG_QUAD p)) (quadPort (s.fld F.WARP_CFG_QUAD p)) k

/-- Received units without the first `n` of a class. -/
def dropUnits (c : Nat) : Nat → List LinkUnit → List LinkUnit
  | _, [] => []
  | 0, us => us
  | n + 1, u :: us => if u.cls = c then dropUnits c n us else u :: dropUnits c (n + 1) us

/-- A packet of class `c` leaves the units received once all of them are there (R571) and its router has room for it (R402). -/
def warpAssemble (p c : Nat) (s : State) : State :=
  let w := s.warp.get p
  let q := s.fld F.WARP_CFG_QUAD p
  match w.rx.filter (fun u => u.cls == c) with
  | [] => s
  | h :: ds =>
    let n := flitsOf (headerOf h.data)
    let k := packetFrom h.data ((ds.take (n - 1)).map (·.data))
    if ds.length + 1 < n || !inputRoom s (quadRouter q) (1024 + quadPort q) k then s
    else warpEnter p k (s.updWp p (fun w => { w with rx := dropUnits c n w.rx, freed := w.freed.upd c (· + n) }))

/-- Packets that wait at the warp ports of router `r` enter it where it has room. -/
def warpDrain (r : Nat) (s : State) : State :=
  forN 12 (fun p s => if (s.warp.get p).rx.isEmpty || quadRouter (s.fld F.WARP_CFG_QUAD p) != r then s
    else forN 4 (fun c s => warpAssemble p c s) s) s

/-- One slot of a DATA flit. -/
def warpSlot (p desc : Nat) (d : List Byte) (s : State) : State :=
  let c := desc / 4 % 4
  match desc % 4 with
  | 1 => warpAssemble p c (s.updWp p (fun w => { w with rx := w.rx ++ [{ cls := c, head := true, data := d }] }))
  | 2 => s.updWp p (fun w => { w with rxHalf := w.rxHalf.set c d })
  | 3 => warpAssemble p c (s.updWp p (fun w =>
      { w with rx := w.rx ++ [{ cls := c, head := false, data := w.rxHalf.get c ++ d }], rxHalf := w.rxHalf.set c [] }))
  | _ => s

/-- The peer's HELLO (R581): its identity is recorded, and the port goes UP, or is REJECTED when the UID is this
device's own. -/
def recvHello (p : Nat) (b : List Byte) (s : State) : State :=
  let r := discRec b
  let s1 := (((s.setFld F.PEER_UID p 0 r.uid).setFld F.WARP_STATUS_PEER_PORT p 0 (fieldLE b 1 1)).setFld F.WARP_STATUS_PEER_DEVV p 0
    (ofBool r.held.isSome)).setFld F.WARP_STATUS_PEER_DEV p 0 (r.held.getD 0)
  if s.fld F.WARP_STATUS_STATE p ≠ 2 then s
  else if r.uid = s.fld F.DEV_UID then warpReject p 5 s1
  else warpUp p s1

/-- A link-state record (R581): a newer one is stored and flooded. One of this device's own UID that is newer than its own
makes it generate a newer one still (log entry 21). -/
def recvRecord (p : Nat) (b : List Byte) (s : State) : State :=
  let r := discRec b
  if r.uid = s.fld F.DEV_UID then
    (if s.disco.gen < r.gen then newRecord { s with disco := { s.disco with gen := r.gen } } else s)
  else
    let held := s.disco.recs.find? (fun x => x.uid == r.uid)
    if (match held with | some x => decide (x.gen < r.gen) | none => true) then
      let s1 := { s with disco := { s.disco with recs := putRec s.disco.recs r, changed := true } }
      forL ((upPorts s1).filter (fun q => q != p)) (fun q s => queueDisc q (b.set 1 (BitVec.ofNat 8 q)) s) s1
    else s

/-- A DATA or DISC flit is accepted (R573). -/
def acceptFlit (p kind : Nat) (d : List Byte) (s : State) : State :=
  let s1 := s.updWp p (fun w => { w with expect := (w.expect + 1) % 4096, ackv := true, rtry := false, rtrySent := false })
  if kind = 1 then
    if s.fld F.WARP_STATUS_STATE p ≠ 3 then s1
    else
      let desc := fieldLE d 8 8
      forN 7 (fun k s => warpSlot p (bitsOf desc (4 * k) 4) (slice d (16 + 32 * k) 32) s) s1
  else
    let b := slice d 8 232
    match fieldLE b 0 1 with
    | 1 => recvHello p b s1
    | 2 => if s1.fld F.WARP_STATUS_STATE p = 3 then recvRecord p b s1 else s1
    | _ => s1

/-- RTRY is wanted, unless it has been sent since the last flit in order (R573). -/
def wantRetry (p : Nat) (s : State) : State := s.updWp p (fun w => { w with rtry := !w.rtrySent })

/-- The ACK of a header (R574). -/
def takeAck (p a : Nat) (s : State) : State :=
  s.updWp p (fun w =>
    match w.unacked.findIdx? (fun f => f.seq == a) with
    | some k =>
      let left := w.unacked.drop (k + 1)
      { w with unacked := left, replay := min w.replay left.length, replays := 0 }
    | none => w)

/-- The RTRY of a header starts a replay; the sixteenth without an advance takes the link down (R574). With nothing
unacknowledged there is nothing to replay (log 42). -/
def takeRetry (p a : Nat) (s : State) : State :=
  let w := s.warp.get p
  if w.unacked.isEmpty ∨ (w.replay ≠ 0 ∧ w.replayAck = some a) then s
  else
    let s1 := (s.updWp p (fun w => { w with replay := w.unacked.length, replayAck := some a, replays := w.replays + 1 })).bump F.WARP_REPLAY_REPLAY_CNT p
    if 16 ≤ w.replays + 1 then warpDown p 2 s1 else s1

/-- A REED flit (R575): the first good copy is passed on; symbols missing before it were lost on this hop. -/
def takeReed (p rseq : Nat) (b : List Byte) (s : State) : State :=
  let w := s.warp.get p
  if w.rpassed = some rseq then s.updWp p (fun w => { w with rpassed := none })
  else
    let ahead := match w.rlast with | some l => (rseq + 65536 - l) % 65536 | none => (rseq + 1) % 65536
    let new := 0 < ahead && ahead < 32768
    let s1 := s.updWp p (fun w =>
      { w with rpassed := some rseq, rlast := if new then some rseq else w.rlast, reedIn := w.reedIn ++ [(rseq, b)] })
    if new then s1.bump F.WARP_DROP_REED_LATE_CNT p 0 (ahead - 1) else s1

/-- R569. Port `p` receives 256 bytes. -/
def execWarpFlitReceive (p : Nat) (bytes : List Byte) (s : State) : Res :=
  .next (
    let st := s.fld F.WARP_STATUS_STATE p
    if 12 ≤ p || (st != 2 && st != 3) then s
    else
      let (n, got) := readFlit bytes
      let s1 := s.bump F.WARP_ERRCNT_FEC_CORR_CNT p 0 n
      match got with
      | none => (wantRetry p (s1.bump F.WARP_ERRCNT_CRC_ERR_CNT p)).updWp p (fun w => { w with rpassed := none })
      | some d =>
        let h := fieldLE d 0 8
        let kind := h % 16
        let seq := bitsOf h 4 12
        let ack := bitsOf h 16 12
        let s2 := s1.bumpWrap F.RX_FLITS p
        if 3 < kind then s2.bump F.WARP_DROP_DROP_CNT p
        else
          let s3 := if bitOf h 28 then takeAck p ack s2 else s2
          let s4 := s3.updWp p (fun w =>
            { w with credit := (List.range 4).foldl (fun (m : SMap Nat) c => m.upd c (fun x => min 128 (x + bitsOf h (32 + 4 * c) 4))) w.credit,
                     rpassed := if kind = 3 then w.rpassed else none })
          let s5 := if bitOf h 29 then takeRetry p ack s4 else s4
          let e := (s5.warp.get p).expect
          if kind = 3 then takeReed p (bitsOf h 48 16) (slice d 16 224) s5
          else if kind = 0 then s5
          else if seq = e then acceptFlit p kind d s5
          else if (seq + 4096 - e) % 4096 < 2048 then wantRetry p s5
          else s5)

/-! ### Discovery (R581 to R589) -/

/-- A write of START (R581). -/
def discStart (s : State) : State :=
  let st := s.fld F.WARP_SYS_STATUS_STATE
  if st = 0 ∨ st = 2 then
    let s1 := newRecord (s.setFld F.WARP_SYS_STATUS_STATE 0 0 1)
    forL ((List.range 12).filter (fun p => s1.fld F.WARP_STATUS_STATE p == 2 || s1.fld F.WARP_STATUS_STATE p == 3)) sendHello s1
  else s

/-- R581. START begins discovery. -/
def execDiscoveryStart (s : State) : Res := .next (discStart s)

/-- The nodes reached from `front` in at most `fuel` steps, with their distances. -/
def bfs {α : Type} [DecidableEq α] (next : α → List α) : Nat → Nat → List α → List (α × Nat) → List (α × Nat)
  | 0, _, _, seen => seen
  | fuel + 1, d, front, seen =>
    let new := ((front.flatMap next).filter (fun x => !seen.any (fun e => e.1 = x))).eraseDups
    if new.isEmpty then seen else bfs next fuel (d + 1) new (seen ++ new.map (fun x => (x, d + 1)))

/-- What a device knows when it settles: the records of devices that are not isolated, its own among them. -/
def settleRecs (s : State) : List LinkRec := (putRec s.disco.recs (ownRec s)).filter (fun r => !r.isol)

/-- The links of a device that count (R582): port, peer UID, peer port. -/
def countedLinks (rs : List LinkRec) (u : Nat) : List (Nat × Nat × Nat) :=
  match rs.find? (fun r => r.uid == u) with
  | none => []
  | some r => r.links.filter (fun (l : Nat × Nat × Nat) => rs.any (fun o => o.uid == l.2.1 && o.links.any (fun (k : Nat × Nat × Nat) => k == (l.2.2, u, l.1))))

/-- The part P (R582): UIDs reached over links that count. -/
def settlePart (rs : List LinkRec) (u : Nat) : List Nat :=
  (bfs (fun x => (countedLinks rs x).map (fun l => l.2.1)) rs.length 0 [u] [(u, 0)]).map (·.1)

/-- A device continues as a member (R588): `m` is the membership at the last settlement, `rm` its root. -/
def continues (m : List Nat) (rm : Nat) (part : List Nat) : Bool :=
  m.isEmpty ||
  (if part.contains rm then m.length == 1 || m.any (fun u => u != rm && part.contains u)
   else m.all (fun u => u == rm || part.contains u))

/-- Insertion into a rising list. -/
def insertNat (x : Nat) : List Nat → List Nat
  | [] => [x]
  | y :: l => if x ≤ y then x :: y :: l else y :: insertNat x l

/-- A list in rising order. -/
def sortNat (l : List Nat) : List Nat := l.foldr insertNat []

/-- The lowest device ID not in use. -/
def lowestFree (ids : List (Nat × Nat)) : Option Nat := (List.range 512).find? (fun i => !ids.any (fun e => e.2 == i))

/-- Device IDs by R583: (UID, ID) of every device that has one. -/
def assignIds (rs : List LinkRec) (part : List Nat) : List (Nat × Nat) :=
  let us := sortNat part
  let rec' (u : Nat) : LinkRec := (rs.find? (fun r => r.uid == u)).getD { uid := u }
  let keep := us.foldl (fun (a : List (Nat × Nat)) u => match (rec' u).held with
    | some i => if a.any (fun e => e.2 == i) then a else a ++ [(u, i)]
    | none => a) []
  let asked := us.foldl (fun (a : List (Nat × Nat)) u => match (rec' u).held, (rec' u).req with
    | none, some i => if a.any (fun e => e.2 == i) then a else a ++ [(u, i)]
    | _, _ => a) keep
  us.foldl (fun (a : List (Nat × Nat)) u =>
    if (rec' u).held.isNone && !a.any (fun e => e.1 == u) then (match lowestFree a with | some i => a ++ [(u, i)] | none => a) else a) asked

/-- The graph of the members by device ID: the links of a device as (port, peer, peer port). -/
def idLinks (rs : List LinkRec) (ids : List (Nat × Nat)) (i : Nat) : List (Nat × Nat × Nat) :=
  match ids.find? (fun e => e.2 == i) with
  | none => []
  | some e => (countedLinks rs e.1).filterMap (fun (l : Nat × Nat × Nat) => (ids.find? (fun x => x.1 == l.2.1)).map (fun (x : Nat × Nat) => (l.1, x.2, l.2.2)))

/-- Levels by hop distance from the root (R585). -/
def levelsOf (g : Nat → List (Nat × Nat × Nat)) (root n : Nat) : List (Nat × Nat) :=
  bfs (fun x => (g x).map (fun (l : Nat × Nat × Nat) => l.2.1)) n 0 [root] [(root, 0)]

/-- The level of a device. -/
def levelIn (lv : List (Nat × Nat)) (i : Nat) : Nat := match lv.find? (fun e => e.1 == i) with | some e => e.2 | none => 0

/-- A link used from `a` to `b` is up (R585). -/
def treeUp (lv : List (Nat × Nat)) (a b : Nat) : Bool := levelIn lv b < levelIn lv a || (levelIn lv b == levelIn lv a && decide (b < a))

/-- Distances from neighbour `v` of `me` to every device by routes that take no up link after a down link. -/
def routeDist (g : Nat → List (Nat × Nat × Nat)) (lv : List (Nat × Nat)) (me v : Nat) : List ((Nat × Bool) × Nat) :=
  let next (x : Nat × Bool) : List (Nat × Bool) := (g x.1).filterMap (fun (l : Nat × Nat × Nat) =>
    if treeUp lv x.1 l.2.1 then (if x.2 then none else some (l.2.1, false)) else some (l.2.1, true))
  let st := (v, !treeUp lv me v)
  bfs next 31 0 [st] [(st, 0)]

/-- The route of a device to `d`: hops, first hop and ports (R585). -/
def routeTo (dist : List (Nat × List ((Nat × Bool) × Nat))) (links : List (Nat × Nat × Nat)) (d : Nat) : Option (Nat × Nat × Nat) :=
  let best := dist.foldl (fun (b : Option (Nat × Nat)) (e : Nat × List ((Nat × Bool) × Nat)) =>
    let h := e.2.foldl (fun (m : Option Nat) x => if x.1.1 = d then some (match m with | some k => min k x.2 | none => x.2) else m) none
    match h, b with
    | none, _ => b
    | some h, none => some (h + 1, e.1)
    | some h, some (k, v) => if h + 1 < k ∨ (h + 1 = k ∧ e.1 < v) then some (h + 1, e.1) else b) none
  match best with
  | some (h, v) => if h ≤ 31 then some (h, v, links.foldl (fun a (l : Nat × Nat × Nat) => if l.2.1 = v then a ||| 2 ^ l.1 else a) 0) else none
  | none => none

/-- Writes WARP_RT(d). -/
def setRoute (d : Nat) (loc : Bool) (r : Option (Nat × Nat × Nat)) (s : State) : State :=
  let (h, v, ps) := r.getD (0, 0, 0)
  ((((s.setFld F.WARP_RT_VALID 0 d (ofBool r.isSome)).setFld F.WARP_RT_LOCAL 0 d (ofBool loc)).setFld F.WARP_RT_HOPS 0 d h).setFld
    F.WARP_RT_NEXT 0 d v).setFld F.WARP_RT_PORTS 0 d ps

/-- WARP_RT(d) as it stands: valid, next, ports. -/
def routeNow (s : State) (d : Nat) : Bool × Nat × Nat := (s.bit F.WARP_RT_VALID 0 d, s.fld F.WARP_RT_NEXT 0 d, s.fld F.WARP_RT_PORTS 0 d)

/-- The parent of a device: the neighbour one level up with the lowest ID, and the lowest port that leads to it (R597,
R604). -/
def parentOf (g : Nat → List (Nat × Nat × Nat)) (lv : List (Nat × Nat)) (i : Nat) : Option (Nat × Nat × Nat) :=
  (g i).foldl (fun (b : Option (Nat × Nat × Nat)) (l : Nat × Nat × Nat) =>
    if levelIn lv l.2.1 + 1 ≠ levelIn lv i then b
    else match b with
      | none => some l
      | some x => if l.2.1 < x.2.1 ∨ (l.2.1 = x.2.1 ∧ l.1 < x.1) then some l else b) none

/-- The device leaves the tree and its timebase holds over (R605). -/
def leaveTree (s : State) : State :=
  tbSet 3 (((((s.setFld F.TB_TREE_LEVEL 0 0 0).setFld F.TB_TREE_DEPTH 0 0 0).setFld F.TB_TREE_CHILDREN 0 0 0).setFld F.TB_TREE_PPORT 0 0 0).setFld
    F.TB_PARENT_PARENT 0 0 0)

/-- Warp routes to other devices end (R590, R591). -/
def dropRoutes (s : State) : State := forN 512 (fun d s => if s.bit F.WARP_RT_LOCAL 0 d then s else setRoute d false none s) s

/-- A device stops being a member (R588), which changes its membership and routes (TOPO, R593): isolated with cause PARTITION from its decision on, its holds at a boundary. -/
def isolate (s : State) : State :=
  let s1 := leaveTree (dropRoutes ((s.setFld F.WARP_SYS_STATUS_CAUSE 0 0 1).setEvt F.WARP_SYS_EVT_TOPO 0 0 0x042))
  newRecord { s1 with disco := { s1.disco with isolating := true, rejoin := false } }

/-- A device is rejected from the system (R583, R584): 2 IDCONFLICT, when its ports toward the members `us` are rejected too, or
3 OVERFLOW. -/
def sysReject (cause : Nat) (us : List Nat) (s : State) : State :=
  let s1 := (s.setFld F.WARP_SYS_STATUS_STATE 0 0 4).setFld F.WARP_SYS_STATUS_CAUSE 0 0 cause
  let ps := (upPorts s1).filter (fun p => cause == 2 && us.contains (s1.fld F.PEER_UID p))
  let s2 := forL ps (warpReject · 6) s1
  leaveTree (dropRoutes (((if ps.isEmpty then s2 else newRecord s2).setEvt F.WARP_SYS_EVT_IDCONF 0 0 0x042).setEvt F.WARP_SYS_EVT_TOPO 0 0 0x042))

/-- The timebase follows the tree (R597, R599, R601, R606, R632): `moved` when the parent or its port has changed. -/
def tbFollow (root moved : Bool) (s : State) : State :=
  let st := s.fld F.TB_STATUS_STATE
  if root then tbSet 0 (spll5Set false s)
  else
    let s1 := spll5Set true s
    if !s.reed.measured then tbSet 1 s1
    else if moved || st == 0 then tbSet 4 ((if st = 2 ∨ st = 4 then tbSet 3 s1 else s1).updReed (fun r => { r with good := 0 }))
    else if st = 3 then tbSet 4 (s1.updReed (fun r => { r with good := 0 }))
    else s1

/-- A member's settlement: IDs, routes, tree and timebase (R583 to R586, R597, R604 to R606). -/
def settleMember (rs : List LinkRec) (ids : List (Nat × Nat)) (me : Nat) (s : State) : State :=
  let root := ids.foldl (fun m e => min m e.2) 511
  let g := idLinks rs ids
  let lv := levelsOf g root ids.length
  let links := g me
  let dist := ((links.map (fun l => l.2.1)).eraseDups).map (fun v => (v, routeDist g lv me v))
  let old := s
  let s1 := (s.setFld F.DEV_ID 0 0 me)
  let s2 := forN 512 (fun d s =>
    if d = me then setRoute d true (some (0, me, 0)) s
    else setRoute d false (if ids.any (fun e => e.2 == d) then routeTo dist links d else none) s) s1
  let changed := (List.range 512).filter (fun d => routeNow old d != routeNow s2 d)
  let drain := changed.filter (fun d => old.bit F.WARP_RT_VALID 0 d && s2.bit F.WARP_RT_VALID 0 d && d != me)
  let par := parentOf g lv me
  let kids := (List.range 512).foldl (fun a i =>
    match (if ids.any (fun e => e.2 == i) then parentOf g lv i else none) with
    | some l => if l.2.1 = me then a ||| 2 ^ l.2.2 else a
    | none => a) 0
  let (pport, pdev) := match par with | some l => (l.1, l.2.1) | none => (0, 0)
  let moved := s.fld F.TB_TREE_LEVEL == 0 || s.fld F.TB_PARENT_PARENT != pdev || s.fld F.TB_TREE_PPORT != pport
  let s3 := ((((s2.setFld F.TB_TREE_LEVEL 0 0 (levelIn lv me)).setFld F.TB_TREE_DEPTH 0 0 (lv.foldl (fun m e => max m e.2) 0)).setFld
    F.TB_TREE_PPORT 0 0 pport).setFld F.TB_TREE_CHILDREN 0 0 kids).setFld F.TB_PARENT_PARENT 0 0 pdev
  let topo := !changed.isEmpty || !(ids.all (fun e => s.disco.members.contains e)) || !(s.disco.members.all (fun e => ids.contains e))
  let s4 := ((((s3.setFld F.WARP_SYS_STATUS_STATE 0 0 2).setFld F.WARP_SYS_STATUS_CAUSE 0 0 0).setFld F.WARP_SYS_STATUS_MEMBERS 0 0 ids.length).setFld
    F.WARP_SYS_STATUS_ROOT 0 0 root).bumpWrap F.WARP_SYS_STATUS_GEN
  let rootUid := match ids.find? (fun e => e.2 == root) with | some e => e.1 | none => 0
  let s5 := { s4 with disco := { s4.disco with members := ids, root := rootUid, drain := (s4.disco.drain ++ drain).eraseDups, rejoin := false } }
  let s6 := if topo then s5.setEvt F.WARP_SYS_EVT_TOPO 0 0 0x042 else s5
  reedTreeChange (tbFollow par.isNone moved s6)

/-- R582. SETTLE_US pass without a change of the records: the device settles. -/
def execSettle (s : State) : Res :=
  .next (
    let st := s.fld F.WARP_SYS_STATUS_STATE
    let uid := s.fld F.DEV_UID
    if st = 0 || st = 4 || !s.disco.changed then s
    else
      let s0 := { s with disco := { s.disco with changed := false } }
      if (st == 3 && !s.disco.rejoin) || s.disco.isolating then s0
      else
        let rs := settleRecs s0
        let part := settlePart rs uid
        gpioShowAll (if !continues (s.disco.members.map (·.1)) s.disco.root part then reedTreeChange (isolate (s0.bumpWrap F.WARP_SYS_STATUS_GEN))
        else
          let ids := assignIds rs part
          match ids.find? (fun e => e.1 == uid) with
          | some e => settleMember rs ids e.2 s0
          | none => reedTreeChange (sysReject (if (ownRec s0).held.isSome then 2 else 3) (ids.map (·.1)) (s0.bumpWrap F.WARP_SYS_STATUS_GEN))))

/-- R586. DRAIN_US pass: packets for destinations whose route changed may leave. -/
def execRouteDrainEnd (s : State) : Res := .next { s with disco := { s.disco with drain := [] } }

/-- A write of REJOIN (R591). -/
def discRejoin (s : State) : State :=
  if s.fld F.WARP_SYS_STATUS_STATE = 3 then newRecord { s with disco := { s.disco with rejoin := true } } else s

/-- R591. REJOIN clears the ISOLATED flag and floods a new record. -/
def execRejoin (s : State) : Res := .next (discRejoin s)

end Sys2Proof.Machine
end

