-- ==== Sys2Proof/Machine/Reset.lean ====
section
/-!
DEFINITION. Device resets (chapter 23, R683 to R687; R61, R134, R190, R704): what each of them sets and what it keeps.
-/
namespace Sys2Proof.Machine

/-- The device resets of Table 23.7: power-on (with the loss of the always-on record, or not), RESET_N and the watchdog's
full reset, warm reset, Reed system reset. -/
inductive ResetKind where
  | por (lost : Bool)
  | resetN
  | warm
  | reed
deriving DecidableEq, Repr

/-- Every register. -/
def allRegs : List Reg :=
  [Blk.hdr, .fam, .global, .clk, .pwr, .irq, .cfg, .hd, .mpe, .noc, .reed, .bist, .dbg, .dcmp, .gpio, .pcie, .spb, .lane, .bay, .sc, .mp,
   .warp, .cc, .vsr, .ssr].flatMap regsOf

/-- The block of a field, and the field, by the field's number. -/
def fieldOf (id : Nat) : Option (Blk × Field) :=
  allRegs.findSome? (fun r => (r.fields.find? (fun f => f.id == id)).map (fun f => (r.blk, f)))

/-- Fields of a unit, kept by a warm reset although they are not marked (c): states of clock sources that keep running, the
descriptors of Table 16.9, what R461 preserves, the timebase state (R685), and READY of the bank rails (R666). -/
def warmKept : List Field :=
  [F.SPLL_STATUS_LOCK, F.SPLL_STATUS_FAIL, F.SPLL_STATUS_FREQ_KHZ, F.FPLL_STATUS_LOCK, F.FPLL_STATUS_FAIL, F.FPLL_STATUS_FREQ_KHZ,
   F.CLK_GOOD_GOOD, F.QREF_GOOD_GOOD, F.GLINE_FREQ_FREQ_KHZ, F.TB_STATUS_STATE, F.PWR_GPIO_V_READY, F.MP_STATUS_STATE,
   F.MP_GEOM_CAP_LOG2, F.MP_GEOM_L, F.MP_GEOM_DENSITY, F.MP_GEOM_STACK, F.MP_GEOM_PRANKS, F.MP_GEOM_DIMMS, F.MP_GEOM_DRFM,
   F.MP_REMAP_VALID, F.MP_REMAP_POISONED, F.MP_REMAP_ADDR, F.MPE_KEY_LOADED,
   F.MPR_CTL_VALID, F.MPR_CTL_STATE, F.MPR_CTL_EPOCH, F.MPR_CTL_SLOT_NEW, F.MPR_CTL_SLOT_CUR, F.MPR_CTL_KEYID, F.MPR_CTL_LOG2SIZE,
   F.MPR_CTL_PORT, F.MPR_CTL_ALARM_ACT, F.MPR_CTL_DBGVIEW, F.MPR_BASE_BASE, F.MPR_META_META, F.MPR_RIGHTS_DBG_W, F.MPR_RIGHTS_DBG_R,
   F.MPR_RIGHTS_BAR_W, F.MPR_RIGHTS_BAR_R, F.MPR_DMA_R_DMA_R, F.MPR_DMA_W_DMA_W, F.MPR_ROT_ROT_GAP, F.MPR_ROT_WMARK]

/-- A lane of a quad that a Reed system reset leaves alone: one of the PCI Express endpoint or of a warp port. -/
def laneKept (s : State) (q : Nat) : Bool := 2 ≤ quadOwner s q

/-- A unit header, by its number, that a warm reset or a Reed system reset leaves alone. -/
def headerKept (s : State) (reed : Bool) (hu : Nat) : Bool :=
  hu == 10 || hu == 12 || (reed && (hu == 1 || hu == 6 || hu == 8 || hu == 13 || hu / 0x1000 == 4 || hu / 0x1000 == 5 ||
    (hu / 0x1000 == 1 && laneKept s (hu % 0x1000 / 4))))

/-- The record of a rail fault, which every device reset keeps (Table 23.8). Log entry 40. -/
def railLog (f : Field) : Bool :=
  f.id == F.PWR_RAIL_LOG_VALID.id || f.id == F.PWR_RAIL_LOG_RAIL.id || f.id == F.PWR_RAIL_LOG_INDEX.id

/-- Whether a reset keeps field `f` of unit `u` of block `b` (R684, Tables 2.2 and 23.8). -/
def fieldKept (k : ResetKind) (s : State) (b : Blk) (f : Field) (u : Nat) : Bool :=
  match k with
  | .por lost => !lost && (f.form == .undef || railLog f || f.id == F.RST_CAUSE_COUNT.id)
  | .resetN => f.form == .undef || f.form == .por || railLog f
  | .warm =>
    f.form == .undef || f.form == .por || f.form == .cold || railLog f || b == .pcie || b == .dbg || b == .dcmp ||
    (b == .hdr && headerKept s false u) || warmKept.any (fun g => g.id == f.id)
  | .reed =>
    f.form == .undef || f.form == .por || f.form == .cold || railLog f || f.id == F.DEV_ID.id || f.id == F.PWR_GPIO_V_READY.id ||
    [Blk.pcie, .dbg, .dcmp, .clk, .spb, .mp, .mpe, .warp, .reed].contains b || (b == .hdr && headerKept s true u) ||
    (b == .lane && laneKept s (if [F.QUAD_CFG_OWNER, F.QUAD_CFG_BRINGUP, F.QUAD_CFG_REF_SRC, F.QUAD_CFG_REF_FREQ, F.QUAD_CFG_REF_SPREAD,
      F.QUAD_CFG_RATE, F.QUAD_CFG_CMOD, F.QUAD_CFG_LDIV, F.QUAD_CFG_MULT].any (fun g => g.id == f.id) then u else u / 4))

/-- Whether a reset keeps the register cell with a key. -/
def cellKept (k : ResetKind) (s : State) (key : Nat) : Bool :=
  let a := unpairN key
  match fieldOf a.1 with
  | some (b, f) => fieldKept k s b f (unpairN a.2).1
  | none => false

/-- Whether a reset keeps the byte at place `a` of the memories (Table 23.8): DRAM, the MSI-X table, the remap entries, and
under a Reed system reset the scratchpad and the memories of the cores. -/
def byteKept (k : ResetKind) (a : Nat) : Bool :=
  match k with
  | .por _ | .resetN => false
  | .warm => a < 2 ^ 45 || (2 ^ 55 ≤ a && a < 2 ^ 55 + 0x10000) || 2 ^ 56 ≤ a
  | .reed => a < aBlock 0 0 0 || (2 ^ 52 ≤ a && a < 2 ^ 53) || 2 ^ 55 ≤ a

/-- A request after a reset: those of the endpoint and the debug port stay, and under a Reed system reset those of
Reed; another that has entered the network is answered into nothing, and one that has not is gone (R685, R686). -/
def reqKept (reed : Bool) (r : Req) : Option Req :=
  match r.why with
  | .barRead .. | .barWrite .. | .dma .. | .debug => some r
  | .reed _ | .reedRd _ => if reed then some r else if r.phase = 0 then none else some { r with why := .dropped }
  | _ => if r.phase = 0 then none else some { r with why := .dropped }

/-- The stored state of the units after a reset of kind `k`, before the start-up health step (R684). -/
def resetTo (k : ResetKind) (s : State) : State :=
  let cold := match k with | .por _ | .resetN => true | _ => false
  let reed := k == .reed
  { regs := s.regs.keep (fun key _ => cellKept k s key)
    staged := s.staged.filter (fun g => !cold && headerKept s reed g.hu)
    mem := s.mem.keep (fun a _ => byteKept k a)
    ecc := s.ecc.keep (fun a _ => byteKept k a)
    cmpLatch := if cold then {} else s.cmpLatch
    reqs := if cold then [] else s.reqs.filterMap (reqKept reed)
    hops := if cold then [] else s.hops
    nocRr := if cold then {} else s.nocRr
    noRouter := s.noRouter
    tgen := if cold then {} else s.tgen
    domSw := if reed then s.domSw else {}
    spad := if reed then s.spad else {}
    lanes := if k matches .por _ then {} else
      ⟨(s.lanes.cells.map (fun c => if reed && laneKept s (c.1 / 4) then c else (c.1, { pllLost := c.2.pllLost }))).filter (fun c => c.2 != {})⟩
    warp := if reed then s.warp else {}
    disco := if reed then s.disco else {}
    pcie := if cold then {} else s.pcie
    reed := if reed then s.reed else if cold then {} else { measured := s.reed.measured, par := s.reed.par }
    mp := if cold then {} else if reed then s.mp else
      ⟨(s.mp.cells.map (fun c => (c.1, { seq := c.2.seq, zeroed := c.2.zeroed, rate := c.2.rate }))).filter (fun c => c.2 != {})⟩
    dramErr := if cold then {} else s.dramErr
    dramDef := if cold then {} else s.dramDef
    mpr := if cold then {} else s.mpr
    mcache := if reed then s.mcache else {}
    keys := if cold then {} else s.keys.keep (fun j _ => j < 64)
    bist := if k = .por true then {} else { frac := s.bist.frac }
    dbg := if cold then {} else s.dbg
    gpio := { pads := s.gpio.pads, seen := if cold then {} else s.gpio.seen, cells := if cold then {} else s.gpio.cells, shown := s.gpio.shown }
    laneAtt := if reed then s.laneAtt.keep (fun l _ => laneKept s (l / 4)) else {}
    owed := s.owed.filter (fun g => !cold && headerKept s reed g.hu)
    scrub := if cold then {} else { start := s.now }
    vin := s.vin
    hot := s.hot
    laneRail := if k matches .por _ then false else s.laneRail
    freeCtr := s.freeCtr
    out := s.out
    pending := s.pending }

/-- The bays that the always-on record holds as UNUSABLE (R704). -/
def badBays (s : State) : List Nat :=
  (List.range 768).filter (fun b => s.fld F.HD_MAP_HSTATE 0 b == 3 || (s.fld F.HD_MAP_HSTATE 0 b == 2 && underTest s 2 b && s.bist.was == 3))

/-- A start-up raises the privileged-failure source for failures in the results that are held (R703). -/
def privRaise (s : State) : State :=
  if s.bit F.PRIV_RESULT_VALID && s.fld F.PRIV_RESULT_FAIL != 0 then irqEdge 0x083 s else s

/-- The start-up health step writes HSTATE from the record (R704); then level sources are sampled again (R662). -/
def startUp (bad : List Nat) (s : State) : State :=
  privRaise (forN 2048 irqSample (forL bad (fun b s => s.setFld F.HD_MAP_HSTATE 0 b 3) (glineRefresh s)))

/-- A device reset with the RST_CAUSE that it records (R683, R684); COUNT counts every one but a power-on
reset, which clears it; a wake from OFF (cause 9) keeps it with the always-on record. -/
def deviceReset (k : ResetKind) (cause : Nat) (s : State) : State :=
  let s1 := (resetTo k s).setFld F.RST_CAUSE_CAUSE 0 0 cause
  let s2 := match k with | .por _ => (if cause = 9 then s1 else s1.clrFld F.RST_CAUSE_COUNT) | _ => s1.bump F.RST_CAUSE_COUNT
  gpioShowAll (startUp (if k = .por true then [] else badBays s) s2)

/-- What precedes a warm reset at memory port `n` (R685): training is abandoned, a port in service serves, flushes and enters
self-refresh. -/
def mpPark (n : Nat) (s : State) : State :=
  match s.fld F.MP_STATUS_STATE n with
  | 1 => mpSetState n 0 (mpForget n false s)
  | 2 | 5 => mpSelfRefresh n (pipeFlush n (pipeServeAll n s))
  | _ => s

/-- The queues of the endpoint stop (Table 18.6). -/
def dmaStopAll (s : State) : State := forN 64 (fun q s => if s.bit F.Q_CFG_EN 0 q then dmaStop q s else s) s

/-- A warm reset with what precedes it (R685): pipes flush, ports park, the warp links go down, queues stop. -/
def warmReset (cause : Nat) (s : State) : State :=
  deviceReset .warm cause (dmaStopAll (forN 12 (warpDown · 0) (forN 16 mpPark s)))

/-- A Reed system reset (R686). -/
def reedReset (s : State) : State := deviceReset .reed 5 (dmaStopAll s)

/-- The privileged test's results are recorded (R702); a failed unit raises the privileged-failure source (R703). -/
def privTest (fail : Nat) (atStart : Bool) (s : State) : State :=
  let s1 := ((s.setBit F.PRIV_RESULT_VALID).setFld F.PRIV_RESULT_RAN_AT_START 0 0 (ofBool atStart)).setFld F.PRIV_RESULT_FAIL 0 0 fail
  if atStart && fail % 128 != 0 then irqEdge 0x083 s1 else s1

end Sys2Proof.Machine
end

