-- ==== Sys2Proof/Machine/Power.lean ====
section
/-!
DEFINITION. Power and reset (chapter 23): the supply and its rails, bay power states, the device states with their entry
and wake, the device resets and the watchdog.
-/
namespace Sys2Proof.Machine

/-- The privileged test that a start-up runs first when no valid result is held (R704). -/
def startTest (fail : Nat) (s : State) : State := if s.bit F.PRIV_RESULT_VALID then s else privTest fail true s

/-! ### The supply (R663 to R669) -/

/-- The device is off: nothing runs but the wake logic on VAON (R676). -/
def goOff (s : State) : State :=
  forN 6 (fun d s => (s.setFld F.DOM_STATUS_STATE 0 d 4).setFld F.DOM_STATUS_CUR_SRC 0 d 3) { s with dev := .off }

/-- R663. VIN rises: start-up from its first step, with the always-on record lost; `fail` is the result of the privileged test
that it runs (R704). -/
def execVinRise (fail : Nat) (s : State) : Res :=
  .next (if s.vin then s
    else (startTest fail (deviceReset (.por true) 1 { s with vin := true, hot := false })).setEvt F.AGE_EVT_TAULOST 0 0 0x082)

/-- R663. Loss of supply: power-on reset, and nothing runs until VIN rises. -/
def execVinLoss (s : State) : Res := .next (if s.vin then { goOff (deviceReset (.por true) 1 s) with vin := false } else s)

/-- A power-on reset with its cause, in a device that has its supply. -/
def powerOn (cause fail : Nat) (s : State) : State := startTest fail (deviceReset (.por false) cause s)

/-- VLANE is faulty: every lane behaves as on loss of its quad PLL (R665). -/
def laneRailFault (s : State) : State :=
  let s1 := forN 192 laneLos { s with laneRail := true }
  if quadOwner s 0 = 2 then pcieLinkDown s1 else s1

/-- R665. A rail fault: rail 0 VAON, 1 VSELV, 2 VBAY, 3 VLANE, 4 VDDQ, 5 VGB, with the bay or bank. -/
def execRailFault (rail idx fail : Nat) (s : State) : Res :=
  .next (
    if !s.vin || s.dev == .off || 5 < rail || (rail == 2 && 768 ≤ idx) || (rail == 5 && 20 ≤ idx) then s
    else
      let i := if rail = 2 ∨ rail = 5 then idx else 0
      let s1 := (((s.setFld F.PWR_RAIL_LOG_RAIL 0 0 rail).setFld F.PWR_RAIL_LOG_INDEX 0 0 i).setBit F.PWR_RAIL_LOG_VALID).setEvt F.PWR_EVT_RAIL 0 0 0x062
      gpioShowAll (match rail with
      | 2 => holdReset idx (retireBay idx 3 s1)
      | 3 => laneRailFault s1
      | 5 => gpioSample idx (s1.clrFld F.PWR_GPIO_V_READY 0 idx)
      | _ => powerOn 6 fail s1))

/-- The supply of GPIO bank `b` is good (R666): its pads are sampled again, its outputs come back, and its unit may be ready for a
mode change (R618). -/
def bankReady (b : Nat) (s : State) : State := modeProgress (gpioShowAll (gpioSample b (s.setBit F.PWR_GPIO_V_READY 0 b)))

/-- R665. A faulted rail recovers: the lanes or the bank that it forced safe leave that state. -/
def execRailRecovery (rail idx : Nat) (s : State) : Res :=
  .next (
    if !s.vin then s
    else if rail = 3 then modeProgress { s with laneRail := false }
    else if rail = 5 ∧ idx < 20 ∧ s.fld F.PWR_GPIO_V_VSEL 0 idx ≠ 0 then bankReady idx s
    else s)

/-- A write of PWR_GPIO_V(b) (R666): a changed voltage turns the outputs off until the rail is good again. -/
def gpioVWrite (b v : Nat) (s : State) : State :=
  let n := v % 8
  if 4 < n || n == s.fld F.PWR_GPIO_V_VSEL 0 b then s else (s.setFld F.PWR_GPIO_V_VSEL 0 b n).clrFld F.PWR_GPIO_V_READY 0 b

/-- R666. A write of PWR_GPIO_V(b). -/
def execPwrGpioVWrite (b v : Nat) (s : State) : Res :=
  .next (if 20 ≤ b || 4 < v % 8 || v % 8 == s.fld F.PWR_GPIO_V_VSEL 0 b then s else gpioShowAll (gpioSample b (gpioVWrite b v s)))

/-- R666. The ramp of a bank's rail ends. -/
def execGpioRailReady (b : Nat) (s : State) : Res :=
  .next (if b < 20 && s.vin && s.dev != .off && s.fld F.PWR_GPIO_V_VSEL 0 b != 0 then bankReady b s else s)

/-- R667. The input power, in mW, exceeds the limit. -/
def execPowerLimitExceeded (mw : Nat) (s : State) : Res :=
  .next (if s.fld F.PWR_LIMIT_MW_LIMIT_MW < mw && s.vin && s.dev != .off then
    { (s.setFld F.PWR_MEAS_PIN_MW 0 0 mw).setEvt F.PWR_EVT_LIMIT 0 0 0x061 with
      limCap := (List.range 768).filter (fun b => ostate s b == oFREE) }
  else s)

/-- R667. The input power has been below the limit for 100 µs. -/
def execPowerLimitClear (mw : Nat) (s : State) : Res :=
  .next (if mw ≤ s.fld F.PWR_LIMIT_MW_LIMIT_MW then { s.setFld F.PWR_MEAS_PIN_MW 0 0 mw with limCap := [] } else s)

/-- R667. The input current, in units of 10 mA, is above 70 A. -/
def execOvercurrent (ca fail : Nat) (s : State) : Res := .next (if 7000 < ca && s.vin && s.dev != .off then powerOn 7 fail s else s)

/-- The grade's maximum junction temperature in °C (R774): 105 for grade I, 100 for grade E. -/
def tjMax (s : State) : Nat := if s.fld F.GRADE_TEMP = 2 then 105 else 100

/-- R667, R774. The junction, in 1/16 °C, is more than 10 °C above the maximum: power-on reset, and OFF. -/
def execThermalReset (tj : Nat) (s : State) : Res :=
  .next (if 16 * (tjMax s + 10) ≤ tj && s.vin && s.dev != .off then { goOff (deviceReset (.por false) 8 s) with hot := true } else s)

/-- R774. The hottest junction reading, in 1/16 °C, comes within 5 °C of the maximum. -/
def execThermalWarning (tj : Nat) (s : State) : Res :=
  .next (if s.vin && s.dev != .off then
    let s1 := s.setFld F.PWR_TEMP_TJ 0 0 tj
    if 16 * (tjMax s - 5) ≤ tj then s1.setEvt F.PWR_EVT_THERM 0 0 0x065 else s1
  else s)

/-- R668. The voltage loop of bay `b` moves VBAY by at most one step, to `mv`. It is suspended while the bay is tested. -/
def execAvsStep (b mv : Nat) (s : State) : Res :=
  .next (
    let v := s.fld F.PWR_BAY_V_MV 0 b
    if 768 ≤ b || !bayOn s b || s.dev != .run || underTest s 2 b || mv < 720 || 850 < mv || v + 3 < mv || mv + 3 < v then s
    else (s.setFld F.PWR_BAY_V_MV 0 b mv).setFld F.PWR_BAY_V_MAXED 0 b (ofBool (mv == 850)))

/-- R669. A bay held at 0.85 V misses its delay for 1 ms and is reported to the health map. -/
def execVmaxReport (b : Nat) (s : State) : Res :=
  .next (if b < 768 && bayOn s b && s.dev = .run && s.bit F.PWR_BAY_V_MAXED 0 b then retireBay b 2 s else s)

/-! ### Bay power states (R670, R671) -/

/-- The bays that a power request of bay `b` moves: those of its skein when it is LOADED. -/
def powerGroup (s : State) (b : Nat) : List Nat :=
  if ostate s b = oLOADED then (List.range 768).filter (fun x => mapOwner s x == mapOwner s b) else [b]

/-- A bay that is on enters retention: the hold stages that are not applied yet take effect and are noted (R96). -/
def bayRetain (b : Nat) (s : State) : State :=
  let o := ofBool (!s.bit F.BAY_STATUS_OUT_HELD b)
  let w := ofBool (!s.bit F.BAY_STATUS_WE_HELD b)
  { (s.setBit F.BAY_STATUS_OUT_HELD b).setBit F.BAY_STATUS_WE_HELD b with retHold := s.retHold.set b (o + 2 * w) }

/-- A bay that returns from retention lifts what retention applied: stage 2, then stage 1 (R96). -/
def bayUnretain (b : Nat) (s : State) : State :=
  let m := s.retHold.get b
  let s1 := if bitOf m 1 then s.clrFld F.BAY_STATUS_WE_HELD b else s
  { (if bitOf m 0 then s1.clrFld F.BAY_STATUS_OUT_HELD b else s1) with retHold := s.retHold.set b 0 }

/-- A bay starts to move to the power state `v`. -/
def bayMove (v b : Nat) (s : State) : State :=
  let st := s.fld F.PWR_BAY_STATE_STATE 0 b
  let s1 := s.setFld F.PWR_BAY_REQ_REQ 0 b v
  if st = v then s1
  else
    let s2 := if st = 2 && v == 1 then bayRetain b s1 else s1
    { s2.setFld F.PWR_BAY_STATE_STATE 0 b 3 with bayFrom := s2.bayFrom.set b st }

/-- A write of bay `b`'s field of PWR_BAY_REQ (R671): 0b11 is ignored. -/
def bayReqWrite (b v : Nat) (s : State) : State :=
  let g := powerGroup s b
  if v = 3 then s
  else if (v = 0 && ostate s b != oFREE) || [oLOADING, oMIGDEST, oMIGSRC, oERASING].contains (ostate s b) ||
    g.any (fun x => s.fld F.PWR_BAY_STATE_STATE 0 x == 3) then s.setEvt F.PWR_EVT_REQERR 0 0 0x063
  else forL g (bayMove v) s

/-- R671. A write of a bay's requested power state. -/
def execPwrBayReqWrite (b v : Nat) (s : State) : Res :=
  .next (if b < 768 && v % 4 != 3 then gpioShowAll (bayReqWrite b (v % 4) s) else s)

/-- A bay reaches its new power state (R670, Table 23.2). -/
def bayArrive (b : Nat) (s : State) : State :=
  let v := s.fld F.PWR_BAY_REQ_REQ 0 b
  let f := s.bayFrom.get b
  let s1 := (if v = 0 then { bayLost b s with retHold := s.retHold.set b 0 }
             else if v = 2 && f == 1 then bayUnretain b s else s).setFld F.PWR_BAY_STATE_STATE 0 b v
  { (s1.setFld F.PWR_BAY_V_MV 0 b (if v = 0 then 0 else if v = 1 then 600 else 800)).clrFld F.PWR_BAY_V_MAXED 0 b with bayFrom := s1.bayFrom.set b 0 }

/-- R670. The power transition of bay `b` ends, together with those of the other bays of its skein. -/
def execBayPwrTransitionDone (b : Nat) (s : State) : Res :=
  .next (if b < 768 && s.dev = .run && s.fld F.PWR_BAY_STATE_STATE 0 b == 3 then
    gpioShowAll (modeProgress (forL ((powerGroup s b).filter (fun x => s.fld F.PWR_BAY_STATE_STATE 0 x == 3)) bayArrive s)) else s)

/-! ### Device states (R675 to R682) -/

/-- The failing conditions of Table 23.3. -/
def pwrBlock (s : State) : Nat :=
  ofBool ((List.range 96).any (fun n => s.fld F.SC_STATUS_STATE n == 1)) +
  2 * ofBool (s.cmds.any (fun c => c.phase != 3)) +
  4 * ofBool (!(armedUnits s).isEmpty) +
  8 * ofBool ((List.range 16).any (fun n => [1, 5].contains (s.fld F.MP_STATUS_STATE n))) +
  16 * ofBool (s.pcie.dma.cells.any (fun c => !c.2.descs.isEmpty)) +
  32 * ofBool ((List.range 768).any (fun b => s.fld F.PWR_BAY_STATE_STATE 0 b == 3) || (List.range 64).any (fun b => spadState s b == 3)) +
  64 * ofBool (s.fld F.HD_MOVE_CTL_STATE == 2) +
  128 * ofBool ((List.range 8).any (fun c => (irqPresented s (tgtCc c)).isSome))

/-- The core conditions of R235: every core that is not held or halted waits, and one does; MODE named a deeper state when the last
of them entered WAIT. -/
def coresWait (s : State) : Bool :=
  s.deepWait &&
  (List.range 8).all (fun c => s.fld F.CC_STATUS_STATE c != 1) && (List.range 8).any (fun c => s.fld F.CC_STATUS_STATE c == 2)

/-- A domain's clock is stopped by power management (R676). -/
def domStop (d : Nat) (s : State) : State :=
  { (s.setFld F.DOM_STATUS_STATE 0 d 4).setFld F.DOM_STATUS_CUR_SRC 0 d 3 with domSw := s.domSw.set d {} }

/-- The steps of R677, up to step `n`; step 6 is what DEEP SLEEP adds after step 5. The TAP loses its supply and comes back reset
(R714, log entry 18). -/
def sleepSteps (deep : Bool) (n : Nat) (s : State) : State :=
  let s2 := if 2 ≤ n then forN 192 (fun l s => if quadOwner s (l / 4) = 1 && s.bit F.LANE_CTL_EN l then laneOff l s else s) s else s
  let s3 := if 3 ≤ n then
      let a := if deep then forN 16 mpPark s2 else s2
      let b := forN 768 (fun b s => if bayOn s b then
        (bayRetain b (s.setFld F.PWR_BAY_STATE_STATE 0 b 1)).setFld F.PWR_BAY_V_MV 0 b 600 else s) a
      forN 64 (fun b s => if spadState s b = 2 then s.setFld F.SPB_PWR_STATE_STATE 0 b 1 else s) b
    else s2
  let s4 := if 4 ≤ n then forN 4 domStop s3 else s3
  let s5 := if 5 ≤ n then forN 24 (fun m => pllStop (8 + m)) (forN 4 (fun k => pllStop (2 + k)) s4) else s4
  if deep && 6 ≤ n then
    pllStop 6 (pllStop 7 (domStop 4 (pcieLinkDown (forN 12 (warpDown · 0) (forN 192 (fun l s => if quadOwner s (l / 4) = 3 then laneOff l s else s) s5)))
      |>.setFlag F.CLK_GOOD_GOOD 0 0 1 false)) |> fun t => { t with dbg := { t.dbg with ir := 2 } }
  else s5

/-- PWR_STATUS.LAST keeps the deepest state reached. -/
def noteDeepest (m : Nat) (s : State) : State := s.setFld F.PWR_STATUS_LAST 0 0 (max m (s.fld F.PWR_STATUS_LAST))

/-- A domain restarts on wake (R644): on FOSC where it names its SPLL, else on its own source. -/
def domWake (d : Nat) (s : State) : State :=
  if s.fld F.DOM_STATUS_STATE 0 d ≠ 4 then s
  else
    let src := s.fld F.DOM_CTL_SRC 0 d
    if src = 0 then
      let now := (domFreq s d 0).div (ddiv (s.fld F.DOM_STATUS_CUR_DDIV 0 d))
      ((s.setFld F.DOM_STATUS_STATE 0 d 2).setFld F.DOM_STATUS_CUR_SRC 0 d 1).setFld F.DOM_STATUS_CUR_DDIV 0 d (smallestDiv (domFreq s d 1) now)
    else (s.setFld F.DOM_STATUS_STATE 0 d 0).setFld F.DOM_STATUS_CUR_SRC 0 d src

/-- A wake returns the device to RUN in the order of Table 23.6; `src` is the wake event of WAKE_SRC. -/
def wakeUp (src : Nat) (s : State) : State :=
  let deep := s.dev == .deepSleep
  let s1 := (s.setFld F.PWR_STATUS_WAKE_SRC 0 0 src).clrFld F.WDT_STATUS_MS
  let s2 := if deep then tbSet 3 (((spll5Set false (s1.setFlag F.CLK_GOOD_GOOD 0 0 1)).setFlag F.CLK_GOOD_GOOD 0 0 7).setBit F.SPLL_STATUS_LOCK 0 5) else s1
  let s3 := forN 4 domWake { s2 with dev := .run }
  let s4 := forN 64 (fun b s => if spadState s b = 1 && s.fld F.SPB_PWR_REQ_PWR 0 b == 2 then s.setFld F.SPB_PWR_STATE_STATE 0 b 2 else s) s3
  let s5 := forL (s4.irqWin.cells.map (·.1)) (fun t s => if (s.irqWin.get t).st = 1 then irqSettle t { s with irqWin := s.irqWin.set t { st := 2 } } else s) s4
  let s6 := irqReleaseHeld s5
  let s7 := forN 8 (fun c s => if s.fld F.CC_STATUS_STATE c = 2 then s.setFld F.CC_STATUS_STATE c 0 1 else s) s6
  let s8 := forN 768 (fun b s => if s.fld F.PWR_BAY_STATE_STATE 0 b = 1 && s.fld F.PWR_BAY_REQ_REQ 0 b == 2 then
    bayUnretain b ((s.setFld F.PWR_BAY_STATE_STATE 0 b 2).setFld F.PWR_BAY_V_MV 0 b 800) else s) (irqEdge 0x064 s7)
  let s9 := forN 192 (fun l s => if quadOwner s (l / 4) = 1 && s.bit F.LANE_CTL_EN l && laneSt s l == lnOFF then setLaneSt l lnREACQ s else s) s8
  if deep then forN 12 (fun p s => if s.bit F.WARP_CFG_EN p then quadRestart (s.fld F.WARP_CFG_QUAD p) (s.setFld F.WARP_STATUS_STATE p 0 1) else s) s9 else s9

/-- R677, R678. The device enters the state that PWR_MODE names, SLEEP or DEEP SLEEP. With `stop` 1 to 6 a wake event `src`
has arrived during that step, and the entry is abandoned at its end. -/
def execDeviceSleepEntry (stop src : Nat) (s : State) : Res :=
  let m := s.fld F.PWR_MODE_MODE
  .next (if s.dev != .run || !s.vin || !(m == 1 || m == 2) || !coresWait s || pwrBlock s != 0 then s
    else
      let deep := m == 2
      gpioShowAll (if 1 ≤ stop ∧ stop ≤ 6 then
        (wakeUp src { sleepSteps deep stop s with dev := if deep && stop == 6 then .deepSleep else .sleep }).setBit F.PWR_STATUS_ABANDONED
      else { noteDeepest m (sleepSteps deep 6 s) with dev := if deep then .deepSleep else .sleep }))

/-- R679. With MODE OFF the device shuts down: the entry of DEEP SLEEP, the self-test of the privileged units with its result
`fail`, and every rail off but VAON. -/
def execDeviceOffEntry (fail : Nat) (s : State) : Res :=
  .next (if s.dev != .run || !s.vin || s.fld F.PWR_MODE_MODE != 3 || !coresWait s || pwrBlock s != 0 then s
    else gpioShowAll (goOff (deviceReset (.por false) 9 (privTest fail false (sleepSteps true 6 s)))))

/-- A wake event of Table 23.5 is there, by its WAKE_SRC code. -/
def wakeAt (s : State) (src : Nat) : Bool :=
  let deep := s.dev == .deepSleep
  match src with
  | 1 => !deep && s.irqHeld.any (fun n => s.bit F.IRQ_SRC_ENABLE 0 n && s.fld F.IRQ_SRC_KIND 0 n != 0)
  | 2 => !deep && s.reqs.any (fun r => r.phase == 0 && match r.why with | .barRead .. | .barWrite .. => true | _ => false)
  | 3 => !deep && !s.hops.isEmpty
  | 4 => !deep && (!s.reed.kept.isEmpty || !s.reed.modes.isEmpty)
  | 5 => s.fld F.PWR_WAKE_TIME_TIME != 0 && decide (s.fld F.PWR_WAKE_TIME_TIME ≤ s.now)
  | 6 => (List.range 20).any (fun b => bitOf (s.fld F.PWR_WAKE_GPIO_BANKS) b && s.fld F.GPIO_EVT_EVT b != 0)
  | _ => false

/-- R681, R682. A wake event, by its WAKE_SRC code, returns the device to RUN. -/
def execWakeEvent (src : Nat) (s : State) : Res :=
  .next (if (s.dev == .sleep || s.dev == .deepSleep) && wakeAt s src then gpioShowAll (wakeUp src s) else s)

/-- R679, R681. The WAKE pin is high for 10 µs; after a thermal reset the device starts only once it has cooled. `fail` is the
result of a privileged test at start-up. -/
def execWakePin (cool : Bool) (fail : Nat) (s : State) : Res :=
  .next (
    if !s.vin then s
    else match s.dev with
      | .run => s
      | .off => if s.hot && !cool then s else powerOn 9 fail { s with hot := false }
      | _ => gpioShowAll (wakeUp 7 s))

/-! ### Resets and the watchdog (R683 to R689) -/

/-- R683. RESET_N is released after at least 1 µs. -/
def execResetN (fail : Nat) (s : State) : Res :=
  .next (if s.vin && s.dev != .off then startTest fail (deviceReset .resetN 2 s) else s)

/-- A warm reset, with the privileged test before it when WARM_TEST is 1 (R702). -/
def warmWith (cause fail : Nat) (s : State) : State :=
  startTest fail (warmReset cause (if s.bit F.BIST_CTL_WARM_TEST then privTest fail false s else s))

/-- R685. A write of RST_CTL. -/
def execWarmReset (v fail : Nat) (s : State) : Res :=
  .next (if s.dev = .run && s.vin && bitOf v 8 && v % 256 == 0xA5 then warmWith 3 fail s else s)

/-- A kick returns the watchdog to its first stage and restarts its count (R689). -/
def wdtKick (s : State) : State := (s.clrFld F.WDT_STATUS_STAGE).clrFld F.WDT_STATUS_MS

/-- R689. A write of 1 to WDT_KICK. -/
def execWdtKick (s : State) : Res := .next (wdtKick s)

/-- A write of WDT_CFG (R689): ignored after LOCK; a change of EN or PERIOD_MS restarts the watchdog. -/
def wdtCfgWrite (v : Nat) (s : State) : State :=
  if s.bit F.WDT_CFG_LOCK then s
  else
    let s1 := (((s.setFld F.WDT_CFG_EN 0 0 (bitsOf v 63 1)).setFld F.WDT_CFG_LOCK 0 0 (bitsOf v 62 1)).setFld F.WDT_CFG_ACTION 0 0 (bitsOf v 48 2)).setFld
      F.WDT_CFG_PERIOD_MS 0 0 (bitsOf v 0 16)
    if s1.fld F.WDT_CFG_EN = s.fld F.WDT_CFG_EN ∧ s1.fld F.WDT_CFG_PERIOD_MS = s.fld F.WDT_CFG_PERIOD_MS then s1 else wdtKick s1

/-- R689. The watchdog's count reaches PERIOD_MS. -/
def execWatchdogExpiry (fail : Nat) (s : State) : Res :=
  .next (
    if !(s.bit F.WDT_CFG_EN && s.dev = .run && s.vin) then s
    else if !s.bit F.WDT_STATUS_STAGE then irqEdge 0x060 ((s.setBit F.WDT_STATUS_STAGE).clrFld F.WDT_STATUS_MS)
    else match s.fld F.WDT_CFG_ACTION with
      | 0 => irqEdge 0x060 (wdtKick s)
      | 1 => warmWith 4 fail s
      | _ => startTest fail (deviceReset .resetN 4 s))

end Sys2Proof.Machine
end

