-- ==== Sys2Proof/Machine/Bist.lean ====
section
/-!
DEFINITION. Self-test, health and ageing (chapter 24).
-/
namespace Sys2Proof.Machine

/-! ### Units that leave service and return (R694, R701, R705, R706) -/

/-- The register bit of a unit by FAMILY (1 quad, 3 signal core, 6 control core, 7 bank, 8 router): field, copy, bit. -/
def unusableBit (fam idx : Nat) : Field × Nat × Nat :=
  match fam with
  | 1 => (F.UNUSABLE_QUAD_QUAD, 0, idx)
  | 3 => (F.UNUSABLE_SC_SC, idx / 64, idx % 64)
  | 6 => (F.UNUSABLE_CC_CC, 0, idx)
  | 7 => (F.UNUSABLE_BANK_BANK, 0, idx)
  | _ => (F.UNUSABLE_RTR_RTR, idx / 64, idx % 64)

/-- Sets or clears the UNUSABLE bit of a unit; a change raises the health-change source (R705). -/
def setUnusable (fam idx : Nat) (bad : Bool) (s : State) : State :=
  let (f, i, k) := unusableBit fam idx
  if bitOf (s.fld f 0 i) k = bad then s else irqEdge 0x084 (s.setFlag f 0 i k bad)

/-- The cause of a unit's last retirement, where the unit has an ageing monitor (Table 24.5). -/
def setCause (fam idx cause : Nat) (s : State) : State :=
  match fam with
  | 1 => s.setFld F.AGE_QUAD_T_HCAUSE 0 idx cause
  | 3 => s.setFld F.AGE_SC_T_HCAUSE 0 idx cause
  | 6 => s.setFld F.AGE_CC_T_HCAUSE 0 idx cause
  | _ => s

/-- A unit other than a bay becomes unusable (Table 24.3): a core is held in reset, and the bays of a bay router go with it. -/
def retireUnit (fam idx cause : Nat) (s : State) : State :=
  let s1 := setCause fam idx cause (setUnusable fam idx true s)
  match fam with
  | 3 => scResetCore idx s1
  | 6 => coreReset idx s1
  | 8 => if idx < 64 then forL ((List.range 768).filter (fun b => bayRouter b == idx)) (retireBay · 4) s1 else s1
  | _ => s1

/-- HSTATE of a bay that is in service: DEGRADED while its WARN is 1, else GOOD (R705). -/
def goodHealth (s : State) (b : Nat) : Nat := s.fld F.AGE_BAY_T_WARN 0 b

/-- R706. A software write of HSTATE: UNUSABLE retires the bay, other values are ignored. -/
def execHstateWrite (b v : Nat) (s : State) : Res := .next (if b < 768 && v % 4 == 3 then retireBay b 5 s else s)

/-- The number of units of a FAMILY that has UNUSABLE bits. -/
def famCount (fam : Nat) : Nat :=
  match fam with | 1 => 48 | 3 => 96 | 6 => 8 | 7 => 64 | 8 => 96 | _ => 0

/-- R706. A write of 1 to the UNUSABLE bit of a unit; `fam` 1 names a quad. -/
def execUnusableWrite (fam idx : Nat) (s : State) : Res := .next (if idx < famCount fam then retireUnit fam idx 5 s else s)

/-- A write of CONSENT in one bay writes it in every bay of the skein (R696). -/
def consentWrite (b v : Nat) (s : State) : State :=
  forL (if s.fld F.BAY_STATUS_OWNER b = 0 then [b] else bayMates s b) (fun x s => s.setFld F.BAY_BIST_CONSENT x 0 v) s

/-- R696. A write of BAY_BIST.CONSENT. -/
def execBayBistConsentWrite (b v : Nat) (s : State) : Res := .next (if b < 768 then consentWrite b (v % 2) s else s)

/-! ### Tests (R690 to R700) -/

/-- The CSR domain serves the self-test engine. -/
def bistRuns (s : State) : Bool := s.dev = .run && domRuns s 0

/-- A write of BIST_REQ (R693): GO asks for a test of the named unit, is held while a test runs, or is ignored with
REQERR. -/
def bistReqWrite (v : Nat) (s : State) : State :=
  let s1 := ((if bitOf v 62 then s.clrFld F.BIST_REQ_REQERR else s).setFld F.BIST_REQ_FAMILY 0 0 (bitsOf v 56 4)).setFld F.BIST_REQ_INDEX 0 0 (bitsOf v 0 16)
  let r : TestReq := { fam := bitsOf v 56 4, idx := bitsOf v 0 16, n := s.fld F.BIST_PICK_PICK, m := s.fld F.BIST_PICK2_PICK }
  if !bitOf v 63 then s1
  else if s.bist.held.isSome then s1.setBit F.BIST_REQ_REQERR
  else if s.bist.asked.isSome || s.bist.run.isSome then
    { (s1.setBit F.BIST_REQ_GO).setBit F.BIST_STATUS_HELD with bist := { s.bist with held := some r } }
  else { s1.setBit F.BIST_REQ_GO with bist := { s.bist with asked := some r } }

/-- R693. A write of BIST_REQ with GO. -/
def execBistRequest (v : Nat) (s : State) : Res := .next (if bistRuns s then bistReqWrite (withBit v 63 true) s else s)

/-- The test clock of R692. -/
def testClock (s : State) : Freq :=
  if s.bit F.SPLL_STATUS_LOCK 0 0 then (spllFreq s 0).div (max 4 (s.fld F.BIST_CTL_CLKDIV)) else ⟨400000, 1⟩

/-- The RESULT with which a test of an occupied bay is refused, 0 when it is accepted (R696). -/
def occRefusal (s : State) (r : TestReq) : Nat :=
  let i := mapOwner s r.idx
  let f := testClock s
  match instOf s i with
  | none => 2
  | some k =>
    if !k.links.isEmpty || s.migs.any (fun m => m.inst == i) || !k.bays.all (bayOn s) ||
      k.bays.any (fun b => s.bit F.BAY_SCRUB_CAPBUSY b) then 2
    else if !s.bit F.BAY_BIST_CONSENT r.idx then 3
    else if pickPassed s r.n then 5
    else if (r.m - r.n) * pickNs (s.fld F.PICK_NS) * f.num < 275000 * 500000 * f.den + 10000 * f.num then 4
    else 0

/-- Whether the conditions of Table 24.1 hold for a request: 0, or the RESULT that refuses it. -/
def testRefusal (s : State) (r : TestReq) : Nat :=
  match r.fam with
  | 1 => if 192 ≤ r.idx then 8 else if laneSt s r.idx = lnOFF ∧ quadOwner s (r.idx / 4) < 2 then 0 else 2
  | 2 =>
    if 768 ≤ r.idx then 8
    else if ostate s r.idx = oFREE then (if bayOn s r.idx then 0 else 2)
    else if ostate s r.idx = oLOADED then occRefusal s r
    else 2
  | 3 =>
    if 96 ≤ r.idx then 8
    else match s.fld F.SC_STATUS_STATE r.idx with
      | 0 => 0
      | 3 => 2
      | _ => if bitOf (s.fld F.BIST_SC_OK_SC_OK 0 (r.idx / 64)) (r.idx % 64) then 0 else 3
  | 6 => if r.idx = 0 ∨ 8 ≤ r.idx then 8 else if s.fld F.CC_STATUS_STATE r.idx = 0 then 0 else 2
  | 7 =>
    if 64 ≤ r.idx then 8
    else if spadState s r.idx = 2 ∧ !(List.range 32).any (fun p =>
      s.bit F.HD_POOL_CTL_EN 0 p && !poolDram s p && s.fld F.HD_POOL_CTL_UNIT 0 p == r.idx) then 0 else 2
  | 8 => if 96 ≤ r.idx ∨ r.idx = 67 ∨ r.idx = 68 then 8 else 0
  | _ => 8

/-- The voltage of a bay test (R692): 0 keeps the one in force. -/
def testMv (s : State) (now : Nat) : Nat :=
  let v := s.fld F.BIST_CTL_TEST_MV
  if v = 0 then now else min 850 (max 720 v)

/-- A test starts in its unit. -/
def testBegin (r : TestReq) (auto : Bool) (s : State) : State :=
  let mv := s.fld F.PWR_BAY_V_MV 0 r.idx
  let s1 := { s.setBit F.BIST_STATUS_BUSY with bist := { s.bist with run := some r, auto := auto, mv := mv, was := if r.fam = 3 then s.fld F.SC_STATUS_STATE r.idx else hstate s r.idx } }
  match r.fam with
  | 2 =>
    if ostate s r.idx = oLOADED then { s1 with occ := some { bay := r.idx, inst := mapOwner s r.idx, n := r.n, m := r.m } }
    else setHealth r.idx 2 (s1.setFld F.PWR_BAY_V_MV 0 r.idx (testMv s mv))
  | 7 => spadRefuse r.idx ((s1.setFld F.SPB_PWR_STATE_STATE 0 r.idx 3).updBank r.idx (fun k => { k with moving := 6, wb := none }))
  | _ => s1

/-- The engine takes a request: the test starts, or ends at once with the RESULT that refuses it. -/
def testTake (r : TestReq) (s : State) : State :=
  match testRefusal s r with
  | 0 => testBegin r false s
  | c => testReport r.fam r.idx c 0 s

/-- R693. The test asked for, or the one held, starts once the engine is free. -/
def execBistTestStart (s : State) : Res :=
  .next (
    if !bistRuns s || s.bist.run.isSome then s
    else match s.bist.asked, s.bist.held with
      | some r, h => testTake r { s.setFld F.BIST_REQ_GO 0 0 (ofBool h.isSome) with bist := { s.bist with asked := none } }
      | none, some r => testTake r { (s.clrFld F.BIST_REQ_GO).clrFld F.BIST_STATUS_HELD with bist := { s.bist with held := none } }
      | none, none => s)

/-- At boundary `n` the skein of an accepted occupied-bay test freezes (Table 24.2, step 2). -/
def occFreeze (n : Nat) (s : State) : State :=
  match s.occ with
  | some o =>
    if o.part = 1 && o.n == n then
      match instOf s o.inst with
      | some k =>
        let s1 := ((setHealth o.bay 2 s).setBit F.BAY_SCRUB_CAPBUSY o.bay).setBit F.BAY_BIST_CAPBUSY o.bay
        { s1.setFld F.PWR_BAY_V_MV 0 o.bay (testMv s s.bist.mv) with frozen := s1.frozen ++ k.bays, lastEdge := s1.lastEdge ++ freezeEdges s k.bays, occ := some { o with part := 2 } }
      | none => testEnd 2 o.bay 6 0 { s with occ := none }
    else s
  | none => s

/-- At the first boundary from M on after the test, the skein of an occupied-bay test restarts (Table 24.2, step 5); after a
failure with FAIL_ACT its outputs are held (R697), and a HOLD_RESET that waited takes effect (R698). -/
def occThaw (n : Nat) (s : State) : State :=
  match s.occ with
  | some o =>
    if o.part = 3 && o.m ≤ n then
      let bays := ((instOf s o.inst).map Skein.bays).getD []
      let s1 := thaw bays { s with occ := none }
      let s2 := if o.failed && s.bit F.BIST_CTL_FAIL_ACT then forL bays (fun b s => bayStage true 2 b (bayStage true 1 b s)) s1 else s1
      let s3 := if o.hold then holdBegin { inst := o.inst, hold := true } s2 else s2
      testEnd 2 o.bay (if o.m < n then 7 else ofBool o.failed) o.kind s3
    else s
  | none => s

/-- The test of an occupied bay ends (Table 24.2, step 4). -/
def occTested (o : OccTest) (pass : Bool) (kind : Nat) (s : State) : State :=
  let s1 := if pass then setHealth o.bay (goodHealth s o.bay) s else retireBay o.bay 1 s
  let s2 := ((s1.clrFld F.BAY_SCRUB_CAPBUSY o.bay).clrFld F.BAY_BIST_CAPBUSY o.bay).setFld F.PWR_BAY_V_MV 0 o.bay s.bist.mv
  { s2 with occ := some { o with part := 3, failed := !pass, kind := if pass then 0 else kind } }

/-- What the end of a test does to its unit (R691, R694): memories that were tested hold zero, and the unit returns to
service or leaves it. -/
def testApply (r : TestReq) (pass : Bool) (s : State) : State :=
  match r.fam with
  | 1 => if pass then setUnusable 1 (r.idx / 4) false s else retireUnit 1 (r.idx / 4) 1 s
  | 2 =>
    let s1 := (forN 24 (fun k s => s.zeroRange (aBlock r.idx k 0) 4096) s).setFld F.PWR_BAY_V_MV 0 r.idx s.bist.mv
    if pass then setHealth r.idx (goodHealth s r.idx) s1 else retireBay r.idx 1 s1
  | 3 =>
    let s1 := if s.bist.was = 0 then s.zeroRange (aSc r.idx 0) 0x4_0000 else s
    if pass then setUnusable 3 r.idx false s1 else retireUnit 3 r.idx 1 s1
  | 6 =>
    let s1 := s.zeroRange (aPriv r.idx 0) 0x2_0000
    if pass then setUnusable 6 r.idx false s1 else retireUnit 6 r.idx 1 s1
  | 7 =>
    let s1 := ((spadZero r.idx s).setFld F.SPB_PWR_STATE_STATE 0 r.idx 2).updBank r.idx (fun k => { k with moving := 0 })
    spadTakeUp r.idx (if pass then setUnusable 7 r.idx false s1 else retireUnit 7 r.idx 1 s1)
  | _ => if pass then setUnusable 8 r.idx false s else retireUnit 8 r.idx 1 s

/-- R693. The test that runs ends: whether it passed, the signature of its logic test, and the part that failed (1 logic,
2 memory). -/
def execBistTestEnd (pass : Bool) (misr kind : Nat) (s : State) : Res :=
  .next (
    if !bistRuns s then s
    else match s.bist.run with
    | none => s
    | some r =>
      let s1 := if r.fam = 7 then s else s.setFld F.BIST_MISR_MISR 0 0 misr
      let kd := if pass then 0 else if kind = 2 then 2 else 1
      match s.occ with
      | some o => if o.part = 2 then occTested o pass kd s1 else s
      | none => testEnd r.fam r.idx (ofBool (!pass)) kd (testApply r pass s1))

/-- The next bay that the sweep of R695 tests, from `b` on. -/
def autoNext (s : State) (b : Nat) : Option Nat :=
  ((List.range 768).map (fun j => (b + j) % 768)).find? (fun x => ostate s x == oFREE && bayOn s x && hstate s x != 3)

/-- R695. AUTO_GAP_MS has passed: the engine tests the next free bay. -/
def execBistAutoTick (s : State) : Res :=
  .next (
    if !bistRuns s || !s.bit F.BIST_CTL_AUTO || s.bist.run.isSome || s.bist.asked.isSome || s.bist.held.isSome then s
    else match autoNext s s.bist.next with
      | some b => testBegin { fam := 2, idx := b } true { s with bist := { s.bist with next := (b + 1) % 768 } }
      | none => s)

/-! ### Ageing (R707 to R711) -/

/-- The registers of a monitor by FAMILY (1 quad, 2 bay, 3 signal core, 6 control core): EOL_HOURS, TEMP, DRIFT, WARN, TAU. -/
def ageFields (fam : Nat) : Field × Field × Field × Field × Field :=
  match fam with
  | 1 => (F.AGE_QUAD_EOL_HOURS, F.AGE_QUAD_TEMP, F.AGE_QUAD_DRIFT, F.AGE_QUAD_T_WARN, F.AGE_QUAD_T_TAU)
  | 2 => (F.AGE_BAY_EOL_HOURS, F.AGE_BAY_TEMP, F.AGE_BAY_DRIFT, F.AGE_BAY_T_WARN, F.AGE_BAY_T_TAU)
  | 3 => (F.AGE_SC_EOL_HOURS, F.AGE_SC_TEMP, F.AGE_SC_DRIFT, F.AGE_SC_T_WARN, F.AGE_SC_T_TAU)
  | _ => (F.AGE_CC_EOL_HOURS, F.AGE_CC_TEMP, F.AGE_CC_DRIFT, F.AGE_CC_T_WARN, F.AGE_CC_T_TAU)

/-- The exponent of R708 in units of 2^-64, for a mean junction temperature in 1/4 °C and a mean voltage in mV (`none`: no
voltage factor); `none` where no temperature is that low. With t = 5 x temp + 5,463 the temperature is t / 20 K. -/
def ageExponent (temp : Int) (mv : Option Nat) : Option Int :=
  let t := 5 * temp + 5463
  let v : Int := match mv with | some m => (m : Int) - 800 | none => 0
  if t ≤ 0 then none else some ((11604600 * (t - 7263) + v * 7263 * t) * 2 ^ 64 / (726300 * t))

/-- exp(x) for 0 ≤ x < 32, in units of 2^-64: twenty terms of the series at x / 64, raised to the 64th power. -/
def expPos (x : Nat) : Nat :=
  let y := x / 64
  let e := ((List.range 20).foldl (fun (a : Nat × Nat) k => (a.1 + a.2, a.2 * y / 2 ^ 64 / (k + 1))) (0, 2 ^ 64)).1
  (List.range 6).foldl (fun e _ => e * e / 2 ^ 64) e

/-- The ageing acceleration AF of R708 in units of 2^-32, rounded down; below 2^-33 it counts as 0. The spec gives no precision
(log entry 41). -/
def ageFactor (temp : Int) (mv : Option Nat) : Nat :=
  match ageExponent temp mv with
  | none => 0
  | some x =>
    if 0 ≤ x then expPos x.toNat / 2 ^ 32
    else if x ≤ -(23 * 2 ^ 64) then 0
    else 2 ^ 96 / expPos (-x).toNat

/-- WEAR (R709) for a drift of `d` and a limit of `l`, in 0.01 %. -/
def wearOf (d : Int) (l : Nat) : Nat := if d ≤ 0 then 0 else min 255 (256 * d.toNat ^ 4 / l ^ 4)

/-- EOL_HOURS (R709): `tau` and `af` in units of 2^-32. -/
def eolHours (tau af : Nat) (d : Int) (l : Nat) : Nat :=
  if tau < 100 * 2 ^ 32 ∨ d ≤ 0 then 0xFFFF_FFFF
  else if l ≤ d.toNat then 0
  else if af = 0 then 0xFFFF_FFFE
  else min 0xFFFF_FFFE (tau * (l ^ 4 - d.toNat ^ 4) / (d.toNat ^ 4 * af))

/-- WARN of a monitor takes its value (R710): the event sets the first time, and a bay in service is DEGRADED or GOOD. -/
def warnSet (fam idx : Nat) (w : Bool) (s : State) : State :=
  let (_, _, _, fw, _) := ageFields fam
  let key := fam * 4096 + idx
  let s1 := s.setFld fw 0 idx (ofBool w)
  let s2 := if w && !s.bist.warned.contains key then
      (match fam with
       | 1 => s1.setEvt F.AGE_EVT_WARN_QUAD 0 0 0x082
       | 2 => s1.setEvt F.AGE_EVT_WARN_BAY 0 0 0x082
       | _ => s1.setEvt F.AGE_EVT_WARN_CORE 0 0 0x082)
    else s1
  let s3 := if w && !s.bist.warned.contains key then { s2 with bist := { s2.bist with warned := s2.bist.warned ++ [key] } } else s2
  if fam = 2 && hstate s idx < 2 then setHealth idx (ofBool w) s3 else s3

/-- R707 to R711. A period ends at the monitor of unit `idx` of family `fam` (1 quad, 2 bay, 3 signal core, 6 control core),
with its drift in 0.01 % and its mean junction temperature in 1/4 °C, both as signed 16-bit numbers. -/
def execAgeingMeasurement (fam idx drift temp : Nat) (s : State) : Res :=
  let n := match fam with | 1 => 48 | 2 => 768 | 3 => 96 | 6 => 8 | _ => 0
  .next (
    if n ≤ idx || !bistRuns s then s
    else
      let (fe, ft, fd, _, fu) := ageFields fam
      let d := (BitVec.ofNat 16 drift).toInt
      let l := max 1 (s.fld F.AGE_CFG_DLIM)
      let af := ageFactor (BitVec.ofNat 16 temp).toInt (if fam = 2 then some (s.fld F.PWR_BAY_V_MV 0 idx) else none)
      let key := fam * 4096 + idx
      let tau := s.fld fu 0 idx * 2 ^ 32 + s.bist.frac.get key + af * max 1 (s.fld F.AGE_CFG_PERIOD_MS) / 3600000
      let eol := eolHours tau af d l
      let s1 := ((s.setFld ft 0 idx temp).setFld fd 0 idx drift).setFld fu 0 idx (tau / 2 ^ 32)
      let s2 := { s1.setFld fe 0 idx eol with bist := { s1.bist with frac := s1.bist.frac.set key (tau % 2 ^ 32) } }
      let s3 := if fam = 2 then s2.setFld F.HD_MAP_WEAR 0 idx (wearOf d l) else s2
      warnSet fam idx (eol != 0xFFFF_FFFF && decide (eol < s.fld F.AGE_CFG_EOL_WARN)) s3)

end Sys2Proof.Machine
end

