-- ==== Sys2Proof/Machine/Gpio.lean ====
section
/-!
DEFINITION. The general-purpose I/O banks (chapter 26): configuration writes, input
sampling and events, and the edges of the attach ports.
-/
namespace Sys2Proof.Machine

/-! ### Inputs (R760) -/

/-- R760. The levels at the pins of bank `b` become `lv` and are sampled; fast-response cells answer them. -/
def execGpioInputChange (b lv : Nat) (s : State) : Res :=
  .next (
    if 20 ≤ b then s
    else
      let s1 := { s with gpio := { s.gpio with pads := s.gpio.pads.set b (lv % 2 ^ 24) } }
      gpioShow b (gpioSample b s1))

/-! ### Register writes -/

/-- A write of GPIO_CFG(b, i) (R747): STD, DDR and TERM change only while OSEL is OFF, in an LVDS pair at both I/O; otherwise
CFGERR sets. The other fields are plain. -/
def gpioCfgWrite (b i v : Nat) (s : State) : State :=
  let lv := i % 2 = 0 ∧ (bitOf v 0 ∨ s.bit F.GPIO_CFG_STD b i)
  let ok := gpioOsel s b i = 0 ∧ (lv → gpioOsel s b (i + 1) = 0)
  let s1 := if ok then
      ((s.setFld F.GPIO_CFG_STD b i (bitsOf v 0 1)).setFld F.GPIO_CFG_DDR b i (bitsOf v 12 1)).setFld F.GPIO_CFG_TERM b i (bitsOf v 8 1)
    else s.setBit F.GPIO_BSTAT_CFGERR b
  let s2 := ((s1.setFld F.GPIO_CFG_IRQ_MODE b i (bitsOf v 20 3)).setFld F.GPIO_CFG_SYNC b i (bitsOf v 16 1)).setFld
    F.GPIO_CFG_PULL b i (bitsOf v 4 2)
  gpioSample b s2

/-- R747. A write of GPIO_CFG(b, i). -/
def execGpioCfgWrite (b i v : Nat) (s : State) : Res := .next (if b < 20 ∧ i < 24 then gpioShow b (gpioCfgWrite b i v s) else s)

/-- A write of GPIO_TSET(b, i) (R756) changes the inactive set; a write that would change the active one leaves it and sets
TSERR. -/
def gpioTsetWrite (b i v : Nat) (s : State) : State :=
  let act := bitOf (s.fld F.GPIO_TSEL_TSEL b) i
  let (fa, va, fi, vi) := if act then (F.GPIO_TSET_SET1, bitsOf v 16 15, F.GPIO_TSET_SET0, bitsOf v 0 15)
    else (F.GPIO_TSET_SET0, bitsOf v 0 15, F.GPIO_TSET_SET1, bitsOf v 16 15)
  let s1 := s.setFld fi b i vi
  if va = s.fld fa b i then s1 else s1.setBit F.GPIO_BSTAT_TSERR b

/-- R756. A write of GPIO_TSET(b, i). -/
def execGpioTsetWrite (b i v : Nat) (s : State) : Res := .next (if b < 20 ∧ i < 24 then gpioTsetWrite b i v s else s)

/-- R758. A write of 1 to FENCED of bank `b` clears the bit and lifts the force. -/
def execGpioFencedClear (b : Nat) (s : State) : Res :=
  .next (if b < 20 then gpioShow b (s.clrFld F.GPIO_BSTAT_FENCED b) else s)

/-! ### Edges of the attach ports (R749, R750) -/

/-- An edge of the clock of port `p` of bank `n`: OUT_R [11:0], OUT_F [23:12], OE [35:24] and FCTL [39:36] take `v`, and the inputs
are sampled, with DDR the falling edge before it as bits [51:40] of `v`. An inactive port delivers 0 and ignores its inputs. -/
def gpioPortEdge (n p v : Nat) (s : State) : State :=
  let u := 2 * n + p
  if gpioOwner s n p = 0 then { s with gpio := { s.gpio with ins := s.gpio.ins.set u 0 } }
  else
    let r := bitsOf (gpioInputs s n) (12 * p) 12
    let f := ofBits ((List.range 12).map (fun k =>
      if s.bit F.GPIO_CFG_DDR n (12 * p + k) then bitOf v (40 + k) && gpioRail s n && !gpioLow s n (12 * p + k) else bitOf r k))
    { s with gpioAtt := s.gpioAtt.set u (v % 2 ^ 40)
             gpio := { s.gpio with ins := s.gpio.ins.set u (r + f * 2 ^ 12 + (s.gpio.ins.get u) % 2 ^ 24 * 2 ^ 24) } }

/-- IN_R and IN_F of I/O `i` of a bank as its attach port delivers them: one edge later with SYNC = 1 (R750). -/
def gpioIn (s : State) (b i : Nat) : Bool × Bool :=
  if gpioOwner s b (i / 12) = 0 then (false, false)
  else
    let o := if s.bit F.GPIO_CFG_SYNC b i then 24 else 0
    let x := s.gpio.ins.get (2 * b + i / 12)
    (bitOf x (o + i % 12), bitOf x (o + 12 + i % 12))

/-- Cluster `u` of bay `e.b` takes an edge: its carry comes up its column (R68). -/
def clusterUnit (s0 : State) (e : EdgeUnit) (s : State) : State :=
  let col := (List.range (e.u / 64)).map (fun r => linesOf s0 e.b (e.below.getD r []))
  let c := columnCarry s0 e.b (e.u % 64) false col s
  clusterEdge s0 e.b e.u e.k (linesOf s0 e.b e.lines) c.1 c.2

/-- Boundary group `j` of bay `b` takes the values `v` (R73); 0 while resets are asserted (R76). -/
def groupEdge (s0 : State) (b j k v : Nat) (s : State) : State :=
  if groupClk s0 b j != k || (s0.bit F.BAY_STATUS_RST_HELD b && s0.keepForm.contains b) then s
  else { s with bregs := s.bregs.set (b * 32 + j) (if s0.bit F.BAY_STATUS_RST_HELD b then 0 else v % 2 ^ 64) }

/-- The units that a command lists, by kind, in one numbering: clusters from 0, boundary groups from 1024, GPIO attach ports from
2048, lane attach ports from 4096; clusters whose asynchronous SR inputs act without an edge (R65) have `k` = 8. -/
def edgeUnits (cells groups gpios lanes srs : List EdgeUnit) : List EdgeUnit :=
  cells.filter (fun e => e.u < 1024 && e.k < 8) ++
  (groups.filter (fun e => e.u < 32 && e.k < 8)).map (fun e => { e with u := 1024 + e.u }) ++
  (gpios.filter (fun e => e.u < 40 && e.k < 8)).map (fun e => { e with u := 2048 + e.u }) ++
  (lanes.filter (fun e => e.u < 192 && e.k < 8)).map (fun e => { e with u := 4096 + e.u }) ++
  (srs.filter (fun e => e.u < 1024)).map (fun e => { e with k := 8 })

/-- A unit takes an edge, from the state `s0` before it. -/
def unitEdge (s0 : State) (e : EdgeUnit) (s : State) : State :=
  let v := linesOf s0 e.b e.lines
  if 768 ≤ e.b then s
  else if e.k = 8 then (if e.u < 1024 then clusterUnit s0 e s else s)
  else if 8 < e.k || !bayClk s0 e.b e.k then s
  else if e.u < 1024 then clusterUnit s0 e s
  else if e.u < 1056 then groupEdge s0 e.b (e.u - 1024) e.k v s
  else if 2048 ≤ e.u && e.u < 2088 && gpioBay ((e.u - 2048) / 2) ((e.u - 2048) % 2) == e.b then
    gpioShow ((e.u - 2048) / 2) (gpioPortEdge ((e.u - 2048) / 2) ((e.u - 2048) % 2) v s)
  else if 4096 ≤ e.u && e.u < 4288 && laneBay (e.u - 4096) == e.b then attachEdge (e.u - 4096) v s
  else s

/-- An edge of clock input `k` of bay `b` moves PICK_STB_k: it rises with the application edge and lasts one cycle (R82). -/
def strobeEdge (b k : Nat) (s : State) : State :=
  let m := s.strobe.get b
  if bitOf m k || bitOf m (8 + k) then { s with strobe := s.strobe.set b (withBit (withBit m (8 + k) (bitOf m k)) k false) } else s

/-- What follows an edge of clock input `k` of bay `b`: PICK_STB_k moves, captures that wait for the edge record their elements, and a
bay that is freezing has delivered its last edge on the input. -/
def edgeClose (b k : Nat) (s : State) : State :=
  let s1 := captureEdge b k (strobeEdge b k s)
  { s1 with lastEdge := s1.lastEdge.filter (· != (b, k)) }

/-- The clock inputs that deliver the edge to a list of units. -/
def edgeInputs (s : State) (us : List EdgeUnit) : List (Nat × Nat) :=
  ((us.filter (fun e => e.b < 768 && e.k < 8 && bayClk s e.b e.k)).map (fun e => (e.b, e.k))).eraseDups

/-- R64. One clock edge at the units that it reaches: each takes its next value from the state before the edge, so that a value
which crosses a bay boundary is captured one edge after its boundary register has it (R74). -/
def execFlipFlopEdge (cells groups gpios lanes srs : List EdgeUnit) (s : State) : Res :=
  let us := edgeUnits cells groups gpios lanes srs
  let ins := edgeInputs s us
  let s0 := forL ins (fun e s => bayFirstEdge e.1 e.2 s) s
  .next (forL ins (fun e s => edgeClose e.1 e.2 s) (forL us (unitEdge s0) s0))

end Sys2Proof.Machine
end

