-- ==== Sys2Proof/Machine/Pick.lean ====
section
/-!
DEFINITION. A pick boundary (R24, R56 to R61, R594 to R596): the counters advance, staged values apply, mode changes commit or
fence, and everything that is scheduled for the boundary happens in the order of R616.
-/
namespace Sys2Proof.Machine

/-! ### Staged values (R57 to R61) -/

/-- LATE of a unit sets when AT_PICK's boundary has been reached with values still staged (R59). -/
def stageLate (hu : Nat) (s : State) : State :=
  if s.fld F.STAGE_CTL_POLICY hu = 1 && s.stagedIn hu && s.fld F.STAGE_PICK_PICK hu ≤ s.pick then s.setBit F.UNIT_STATUS_LATE hu else s

/-- A unit's staged values apply, each part on the edge of its own clock (R35), and PENDING clears. -/
def unitTake (hu : Nat) (s : State) : State :=
  let parts := (s.staged.filter (fun g => g.hu == hu)).flatMap ownParts
  forL parts ownApply { s with staged := s.staged.filter (fun g => g.hu != hu) }

/-- The Reed block applies its staged values at boundary `n`: a staged PICK_NS makes it the new origin (R596). -/
def reedApply (n : Nat) (s : State) : State :=
  let new := s.staged.any (fun g => g.hu == 8 && g.fld.id == F.PICK_NS.id)
  let s1 := unitTake 8 s
  if new then (s1.setFld F.ORIGIN_T 0 0 s1.now).setFld F.ORIGIN_N 0 0 n else s1

/-- A bank of the GPIO block applies its staged values; the block's PENDING clears with the last (R758). -/
def bankApply (b : Nat) (s : State) : State :=
  let mine := s.staged.filter (fun g => g.hu == 11 && g.u == b)
  let s1 := forL mine ownApply s
  gpioShow b { s1 with staged := s1.staged.filter (fun g => !(g.hu == 11 && g.u == b)) }

/-- Every bank that is not fenced applies its staged values. -/
def gpioApply (s : State) : State := forN 20 (fun b s => if s.bit F.GPIO_BSTAT_FENCED b then s else bankApply b s) s

/-- A unit applies all of its shadows on its application edge of boundary `n` (R35, R57). -/
def unitApply (n hu : Nat) (s : State) : State :=
  if hu = 8 then reedApply n s
  else if hu = 11 then gpioApply s
  else if hu / 0x1000 = 1 then laneApply (hu % 0x1000) s
  else unitTake hu s

/-- A unit takes no boundary: everything in DEEP SLEEP, and a bay that is frozen, off or in retention, or that waits to take over a
migrating skein (R61, R332, R333, R697). -/
def unitAsleep (s : State) (hu : Nat) : Bool :=
  s.dev == .deepSleep || (hu / 0x1000 == 2 && (s.frozen.contains (hu % 0x1000) || !bayOn s (hu % 0x1000) || ostate s (hu % 0x1000) == oMIGDEST))

/-- The units with something staged. -/
def stagedUnits (s : State) : List Nat := (s.staged.map (·.hu)).eraseDups

/-- Boundary `n` at the units whose POLICY names it (R57); the others may be late (R59). -/
def policyApply (n : Nat) (s : State) : State :=
  let due (hu : Nat) : Bool :=
    !unitAsleep s hu &&
    (s.fld F.STAGE_CTL_POLICY hu == 0 || (s.fld F.STAGE_CTL_POLICY hu == 1 && s.fld F.STAGE_PICK_PICK hu == n))
  let s1 := forL ((stagedUnits s).filter due) (unitApply n) s
  forL (stagedUnits s1) stageLate s1

/-- The slices of every bay that has a swap to take see the boundary; those whose clock does not run take it later (R151 to
R153), in a bay in retention too. `s0` is the state before staged values applied, since the last edge of a clock that stops is still
delivered (R81). -/
def sliceBoundary (s0 s : State) : State :=
  let due := (List.range 768).filter (fun b => !s.frozen.contains b && ostate s b != oMIGDEST &&
    (s.fld F.BAY_COEF_ACT_PEND b != 0 || s.fld F.BAY_COEF_SEL_SEL b != s.fld F.BAY_COEF_ACT_ACT b))
  forL due (fun b s => forN 8 (fun k s =>
    if bayClk s0 b k || bayClk s b k then
      slcBoundaryOn b k { s with missed := s.missed.upd b (fun m => withBit m k false) }
    else { s with missed := s.missed.upd b (fun m => withBit m k true) }) s) s

/-- Every running clock input of a skein's bays has an application edge for the boundary, with which PICK_STB rises (R82). -/
def strobeArm (s : State) : State :=
  forL ((List.range 768).filter (fun b => s.fld F.BAY_STATUS_OWNER b != 0)) (fun b s =>
    let run := ofBits ((List.range 8).map (bayClk s b))
    if run = 0 then s else { s with strobe := s.strobe.upd b (fun m => m / 256 * 256 + run) }) s

/-! ### Mode changes at N (R621 to R624) -/

/-- A fenced unit is counted, and the first is recorded (R622, Table 20.8). -/
def fenceLog (family index cause : Nat) (s : State) : State :=
  let s1 := s.bump F.MODE_STATE_FENCE_CNT
  if s1.bit F.MODE_FENCE_LOG_VALID then s1
  else ((((s1.setBit F.MODE_FENCE_LOG_VALID).setFld F.MODE_FENCE_LOG_CAUSE 0 0 cause).setFld F.MODE_FENCE_LOG_FAMILY 0 0 family).setFld
    F.MODE_FENCE_LOG_INDEX 0 0 index)

/-- A fenced lane: EN clears and the transmitter takes its safe state. -/
def fenceLane (m : Nat) (s : State) : State := if s.bit F.LANE_CTL_EN m then laneOff m (s.clrFld F.LANE_CTL_EN m) else s

/-- A unit other than the GPIO block is fenced (R622, Table 20.4). -/
def fenceUnit (cause hu : Nat) (s : State) : State :=
  let i := hu % 0x1000
  let s1 := s.clrFld F.UNIT_STATUS_ARMED hu
  let s2 := match hu / 0x1000 with
    | 1 =>
      let quad := s.staged.any (fun g => g.hu == hu && rateFields.any (fun f => f.id == g.fld.id))
      forL (if quad then quadLanes (i / 4) else [i]) fenceLane s1
    | 2 => forL (if s.fld F.BAY_STATUS_OWNER i = 0 then [i] else bayMates s i) (fun x s => bayStage true 2 x (bayStage true 1 x s)) s1
    | _ => s1
  if hu / 0x1000 = 0 then fenceLog 0 hu cause s2 else fenceLog (hu / 0x1000) i cause s2

/-- Bank `b` is fenced (R758): its outputs go off and it keeps its staged values. -/
def fenceBank (cause b : Nat) (s : State) : State := fenceLog 0 (0x0B00 + b) cause (gpioShow b (s.setBit F.GPIO_BSTAT_FENCED b))

/-- Why an armed unit is fenced at its commit, 0 when it applies: not ready, or a parity error in its shadows. -/
def commitCause (s : State) (parity : List Nat) (hu : Nat) : Nat :=
  if unitCause s hu ≠ 0 then unitCause s hu else if parity.contains hu then 4 else 0

/-- Why a bank is fenced at its commit. -/
def bankCause (s : State) (parity : List Nat) (b : Nat) : Nat :=
  if !gpioRail s b then 1 else if !domRuns s 0 then 3 else if parity.contains (0x0B00 + b) then 4 else 0

/-- An armed unit at its commit in boundary `n`, with the number of fenced units so far; `undecided` when no decision came. -/
def commitUnit (n : Nat) (parity : List Nat) (undecided : Bool) (hu : Nat) (x : Nat × State) : Nat × State :=
  if hu = 11 then
    let banks := (List.range 20).filter (fun b => !x.2.bit F.GPIO_BSTAT_FENCED b && x.2.staged.any (fun g => g.hu == 11 && g.u == b))
    banks.foldl (fun (y : Nat × State) b =>
      let c := if undecided then 5 else bankCause y.2 parity b
      if c = 0 then (y.1, bankApply b y.2) else (y.1 + 1, fenceBank c b y.2)) (x.1, x.2.clrFld F.UNIT_STATUS_ARMED hu)
  else
    let c := if undecided then 5 else commitCause x.2 parity hu
    if c = 0 then (x.1, unitApply n hu (x.2.clrFld F.UNIT_STATUS_ARMED hu)) else (x.1 + 1, fenceUnit c hu x.2)

/-- Boundary N of a mode change: commit, or fencing where no decision has come (R621 to R623); after an ABORT nothing is armed. -/
def modeCommit (n : Nat) (parity : List Nat) (m : RMode) (s : State) : State :=
  let units := if m.joined && m.dec != some false then armedUnits s else []
  let r := units.foldl (fun x hu => commitUnit n parity m.dec.isNone hu x) (0, s)
  modeUpd m.opid (fun m => { m with past := true, fenced := r.1 }) r.2

/-- A RESET at N wins over a mode change that would commit there (R616): it ends as on ABORT. -/
def modeCut (m : RMode) (s : State) : State :=
  let s1 := if m.joined then forL (armedUnits s) (fun hu s => s.clrFld F.UNIT_STATUS_ARMED hu) s else s
  (modeUpd m.opid (fun m => { m with dec := some false, past := true }) s1).setFld F.MODE_STATE_STATE 0 0 3

/-- The mode changes whose N is boundary `n`. -/
def modesAt (n : Nat) (s : State) : List RMode := s.reed.modes.filter (fun m => m.n == n && !m.past)

/-! ### The boundary -/

/-- System time runs: the timebase has its clock, or VAON keeps time in DEEP SLEEP (R594, R603, R678). -/
def timeRuns (s : State) : Bool := s.vin && s.dev != .off && (tbRuns s || s.dev == .deepSleep)

/-- The counters reach boundary `n` (R594, R595); a RESYNC takes the parent's schedule there (R602). -/
def countTo (n : Nat) (s : State) : State :=
  let s1 := (s.setFld F.SYSTIME 0 0 (bTime0 s n)).setFld F.PICK_CNT 0 0 n
  match s1.reed.resync, s1.reed.par with
  | true, some p => ((takeSchedule p s1).setFld F.PICK_CNT 0 0 (pickAt p s1.now)).updReed (fun r => { r with resync := false })
  | _, _ => s1

/-- A device that has decided to isolate itself does so at the boundary (R590): stages 1 and 2 on every skein. -/
def isolateAt (n : Nat) (s : State) : State :=
  if !s.disco.isolating then s
  else
    let bays := (List.range 768).filter (fun b => s.fld F.BAY_STATUS_OWNER b != 0)
    let s1 := forL bays (fun b s => bayStage true 2 b (bayStage true 1 b s)) { s with disco := { s.disco with isolating := false } }
    ((s1.setFld F.ISOL_PICK_PICK 0 0 n).setFld F.WARP_SYS_STATUS_STATE 0 0 3).setEvt F.WARP_SYS_EVT_ISOL 0 0 0x042

/-- Skeins whose gap between two picks ends at boundary `n` receive their application edge for it, in their old bays or in new ones
(R332, R334, R697): they take the boundary as any other skein. -/
def thawAt (n : Nat) (s : State) : State := if s.dev != .run then s else occThaw n (migBoundary n s)

/-- What the configuration plane and the self-test engine have scheduled for boundary `n`, after the commit at it (R616); captures
and freezes see the stages that take effect there (R354). -/
def planeAt (n : Nat) (s : State) : State :=
  if s.dev != .run then s
  else
    let s1 := holdsAt n (releasesAt n s)
    let s2 := occFreeze n (capturesAt n s1)
    if s2.fld F.HD_MOVE_CTL_STATE = 2 && s2.fld F.HD_MOVE_PICK_PICK == n then moveCommit s2 else s2

/-- The RESET operations that act at boundary `n`: those due, and those that came late (R614, R615). -/
def resetsAt (n : Nat) (s : State) : List RSched := s.reed.kept.filter (fun k => k.sym.op == 5 && (k.late || k.sym.pick == n))

/-- Scheduled operations that are over at boundary `n` are forgotten, but for their OPIDs (R626). -/
def keptPast (n : Nat) (s : State) : State :=
  let gone := s.reed.kept.filter (fun k => k.late || k.sym.pick ≤ n)
  forL gone (fun k s => opGone k.sym.opid s) (s.updReed (fun r => { r with kept := r.kept.filter (fun k => !(k.late || k.sym.pick ≤ n)) }))

/-- Boundary `n`. -/
def boundary (n : Nat) (parity : List Nat) (s : State) : State :=
  let rs := resetsAt n s
  let s0 := modeDecide n (countTo n (modeProgress (settleOwed s)))
  let s1 := if rs.isEmpty then thawAt n s0 else s0
  let s2 := policyApply n s1
  if rs.isEmpty then
    let s3 := modeOutcomes (forL (modesAt n s2) (modeCommit n parity) s2)
    strobeArm (isolateAt n (planeAt n (keptPast n (sliceBoundary s1 s3))))
  else
    let s3 := modeOutcomes (forL (modesAt n s2) modeCut s2)
    let s4 := isolateAt n (keptPast n s3)
    reedReset (if rs.any (·.late) then s4.setBit F.REED_STAT_RESET_LATE else s4)

/-- R595. System time reaches the next boundary; `parity` names the armed units whose shadows have a parity error (R622), bank b of
the GPIO block as 0x0B00 + b. -/
def execPickBoundary (parity : List Nat) (s : State) : Res := .next (if timeRuns s then gpioShowAll (boundary (s.pick + 1) parity s) else s)

end Sys2Proof.Machine
end

