-- ==== Sys2Proof/Machine/Debug.lean ====
section
/-!
DEFINITION. The debug port (chapter 25): the TAP, unlock, the debug NoC initiator, debug requests, the register access port,
resume and mailboxes. The access of DPACC to the debug block's registers is in `Machine/DebugPort.lean`.
-/
namespace Sys2Proof.Machine

/-! ### The test access port (R714 to R718) -/

/-- What IDCODE captures (R716). -/
def idcode : Nat := 0x1A964F2B

/-- The level of the port (R722). -/
def dbgLevel (s : State) : Nat := s.fld F.DBG_STATUS_LEVEL

/-- The TAP is powered (R714). -/
def tapOn (s : State) : Bool := s.vin && s.dev != .off && s.dev != .deepSleep

/-- The least level of a TAP instruction, none for a code that Table 25.1 does not list. -/
def irLevel : Nat → Option Nat
  | 0 => some 2
  | 1 => some 0
  | 2 => some 0
  | 3 => some 2
  | 4 => some 2
  | 0x10 => some 0
  | _ => none

/-- The instruction that a code selects at a level (R715). -/
def irEffect (level code : Nat) : Nat :=
  match irLevel code with
  | some l => if l ≤ level then code else 0xFF
  | none => 0xFF

/-- Puts an instruction into force; the GPIO outputs follow (R718). -/
def tapSet (ir : Nat) (s : State) : State := gpioShowAll { s with dbg := { s.dbg with ir := ir } }

/-- R714. A TAP reset loads IDCODE. -/
def execTapReset (s : State) : Res := .next (if tapOn s then tapSet 2 s else s)

/-- The requester number of the debug port, which holds its own copies of the banked registers (R721). -/
def portInit : Nat := 0x10000

/-- What a scan of the port shifts out, as bytes. -/
def tapOut (n v : Nat) (s : State) : State := s.emit (.reply portInit 0 (bytesLE n v))

/-- R715. An IR scan, which shifts out what Capture-IR loads and ends in Update-IR with an instruction code. -/
def execTapUpdateIr (code : Nat) (s : State) : Res :=
  .next (if tapOn s then tapSet (irEffect (dbgLevel s) (code % 256)) (tapOut 1 1 s) else s)

/-- The output cells of bank `b` in a boundary-scan value (R717): data in bits [23:0], enables in [47:24]. -/
def scanCells (v b : Nat) : Nat :=
  ofBits ((List.range 24).map (fun k => bitOf v (3 * (24 * b + k) + 1)) ++ (List.range 24).map (fun k => bitOf v (3 * (24 * b + k) + 2)))

/-- What the boundary-scan register captures from the I/O: inputs, output data and enables (R717); the three control inputs
are captured from their pins. -/
def scanCapture (s : State) (controls : Nat) : Nat :=
  ofBits ((List.range 480).flatMap (fun i =>
    let d := (s.gpio.cells.get (i / 24))
    [bitOf (gpioInputs s (i / 24)) (i % 24), bitOf d (i % 24), bitOf d (24 + i % 24)])) + controls % 8 * 2 ^ 1440

/-- A DR scan with IDCODE in force shifts out the device identification (R716); with BYPASS, CLAMP or HIGHZ nothing that the port
holds. -/
def drOther (s : State) : State := if s.dbg.ir = 2 then tapOut 4 idcode s else s

/-- R717, R718. A DR scan with a value of 1,443 bits. With the boundary-scan register in force it shifts out what that captures
(RESET_N is high; the levels of PERST_N and WAKE, which no command gives, are free: log entry 18) and ends in its Update-DR. -/
def execBoundaryScanUpdate (v : Nat) (s : State) : Res :=
  .next (if !tapOn s then s
    else if s.dbg.ir == 0 || s.dbg.ir == 1 then
      let x := s.freshBits 1
      let s1 := tapOut 181 (scanCapture s (1 + 2 * (x.1 % 4))) x.2
      gpioShowAll { s1 with gpio := { s1.gpio with cells := (List.range 20).foldl (fun m b => m.set b (scanCells v b)) s1.gpio.cells } }
    else drOther s)

/-! ### Unlock (R722 to R726) -/

/-- The level changes, which raises the debug-level source. -/
def dbgLevelSet (l : Nat) (s : State) : State := if l = dbgLevel s then s else irqEdge 0x0A8 (s.setFld F.DBG_STATUS_LEVEL 0 0 l)

/-- CHAL_REQ (R724, R726): a nonce from the random bit generator. -/
def chalReq (s : State) : State :=
  if s.fld F.DBG_STATUS_FAILCNT = 16 then s
  else
    let (x, s1) := s.freshBits 4
    (forN 4 (fun k s => s.setFld F.DBG_CHAL_NONCE 0 k (bitsOf x (64 * k) 64)) s1).setBit F.DBG_STATUS_CHAL_VALID

/-- R724. A write of CHAL_REQ. -/
def execChalReq (s : State) : Res := .next (chalReq s)

/-- The message that a response signs (R725): DEV_UID, the nonce, REQ_LEVEL. -/
def unlockMessage (s : State) : List Byte :=
  bytesLE 8 (s.fld F.DEV_UID) ++ (List.range 4).flatMap (fun k => bytesLE 8 (s.fld F.DBG_CHAL_NONCE 0 k)) ++
  bytesLE 1 (s.fld F.DBG_UNLOCK_REQ_LEVEL)

/-- The 256 bytes of DBG_RESP. -/
def unlockResponse (s : State) : List Byte := (List.range 32).flatMap (fun k => bytesLE 8 (s.fld F.DBG_RESP_RESP 0 k))

/-- VERIFY (R725): the check begins; a second VERIFY before it has ended is ignored. -/
def verifyStart (s : State) : State :=
  if s.dbg.verify.isSome then s
  else
    let ok := s.bit F.DBG_STATUS_CHAL_VALID && signatureOk s (unlockMessage s) (List.replicate 64 0 ++ unlockResponse s)
    { s with dbg := { s.dbg with verify := some (s.fld F.DBG_UNLOCK_REQ_LEVEL, ok) } }

/-- R725. A write of VERIFY. -/
def execVerify (s : State) : Res := .next (verifyStart s)

/-- RELOCK (R726). -/
def relock (s : State) : State := dbgLevelSet 0 s

/-- R725. A verification ends; with `relocked`, a RELOCK falls in the same cycle and wins (R726). -/
def execVerifyDone (relocked : Bool) (s : State) : Res :=
  .next (match s.dbg.verify with
    | none => s
    | some (l, ok) =>
      let s1 := { s.clrFld F.DBG_STATUS_CHAL_VALID with dbg := { s.dbg with verify := none } }
      if ok then (if relocked then relock s1 else dbgLevelSet (if l = 0 ∨ l = 3 then 1 else l) s1)
      else
        let s2 := irqEdge 0x0A9 (s1.setFld F.DBG_STATUS_FAILCNT 0 0 (min 16 (s1.fld F.DBG_STATUS_FAILCNT + 1)))
        if relocked then relock s2 else s2)

/-- R726. A write of RELOCK. -/
def execRelock (s : State) : Res := .next (relock s)

/-! ### The debug NoC initiator (R727, R728) -/

/-- GO of DBG_NOC_CTL: one request, ignored while BUSY; a request that breaks the rules ends with ACCESS. The bytes of the
64-byte block that holds the request travel at their own places of DBG_NOC_DATA. -/
def nocGo (s : State) : State :=
  let a := s.fld F.DBG_NOC_ADDR_ADDR
  let n := s.fld F.DBG_NOC_CTL_LEN
  let wr := s.bit F.DBG_NOC_CTL_OP
  if s.bit F.DBG_NOC_STAT_BUSY then s
  else if 64 < a % 64 + n + 1 ∨ a / 2 ^ 62 ≠ 0 then
    (((s.setBit F.DBG_NOC_STAT_DONE).clrFld F.DBG_NOC_STAT_POISON).setFld F.DBG_NOC_STAT_CODE 0 0 eACCESS).clrFld F.DBG_NOC_CTL_GO
  else
    let dev := if bitOf a 61 then s.fld F.DEV_ID else bitsOf a 52 9
    let d := if wr then (List.range (n + 1)).map (fun j =>
        let k := a % 64 + j
        BitVec.ofNat 8 (bitsOf (s.fld F.DBG_NOC_DATA_DATA 0 (k / 8)) (8 * (k % 8)) 8)) else []
    let s1 := (s.setBit F.DBG_NOC_STAT_BUSY).setBit F.DBG_NOC_CTL_GO
    s1.request 0x4C3 dev (a % 2 ^ 52) (if wr then opWRITE else opREAD) n d .debug (keyid := s.fld F.DBG_NOC_CTL_KEYID)

/-- R727. A write of GO at level FULL. -/
def execDbgNocGo (s : State) : Res := .next (if dbgLevel s = 2 then nocGo s else s)

/-- Byte `k` of DBG_NOC_DATA. -/
def nocPut (k : Nat) (v : Byte) (s : State) : State :=
  let w := s.fld F.DBG_NOC_DATA_DATA 0 (k / 8)
  s.setFld F.DBG_NOC_DATA_DATA 0 (k / 8) (w - bitsOf w (8 * (k % 8)) 8 * 2 ^ (8 * (k % 8)) + v.toNat * 2 ^ (8 * (k % 8)))

/-- The response to the debug NoC initiator (R728); its data is discarded when the level forbids it (R726). -/
def nocGot (p : Packet) (st pm : Nat) (d : List Byte) (s : State) : State :=
  let s1 := ((((s.clrFld F.DBG_NOC_STAT_BUSY).setBit F.DBG_NOC_STAT_DONE).clrFld F.DBG_NOC_CTL_GO).setFld F.DBG_NOC_STAT_CODE 0 0 st).setFld
    F.DBG_NOC_STAT_POISON 0 0 (ofBool (st == 0 && pm != 0))
  let s2 := if p.opc = opREAD ∧ st = 0 ∧ dbgLevel s = 2 then forL d.zipIdx (fun x s => nocPut (p.addr % 64 + x.2) x.1 s) s1 else s1
  if st = 0 && s2.bit F.DBG_NOC_CTL_AUTOINC then s2.setFld F.DBG_NOC_ADDR_ADDR 0 0 (s2.fld F.DBG_NOC_ADDR_ADDR + p.len + 1) else s2

/-! ### Run control of the cores (R737, R740 to R742); core `x` is 0-7 for a control core, 8-103 for a signal core -/

/-- A write of DBG_REQ makes a debug event pending (R737). -/
def dbgReq (x : Nat) (s : State) : State :=
  if x < 8 then (s.setBit F.DBG_REQ_REQ x).updVc x (fun k => if k.dbg = 0 then { k with dbg := 0x1000 } else k)
  else if x < 104 then (s.setBit F.DBG_REQ_REQ x).updSc (x - 8) (fun k => if k.dbg = 0 then { k with dbg := 0x1000 } else k)
  else s

/-- R737. A write of 1 to DBG_REQ for core `x`. -/
def execDbgReq (x : Nat) (s : State) : Res := .next (dbgReq x s)

/-- The state of a core: 0 RESET_HELD, 1 RUN, 2 WAIT, 3 FAULT_HALT. -/
def coreState (s : State) (x : Nat) : Nat := if x < 8 then s.fld F.CC_STATUS_STATE x else s.fld F.SC_STATUS_STATE (x - 8)

/-- The register access port acts on a core in RESET_HELD or FAULT_HALT (R741). -/
def coreHalted (s : State) (x : Nat) : Bool := x < 104 && (coreState s x == 0 || coreState s x == 3)

/-- A read of register `n` of a control core; none for a number that names nothing. -/
def raccReadCc (c n : Nat) (s : State) : Option (Nat × State) :=
  let i := n % 4096
  match n / 4096 with
  | 0 => if i < 16 then some (((s.vc.get c).regs.get i).toNat, s) else none
  | 1 => if i < 144 then some (((s.vc.get c).regs.get (16 + i)).toNat, s) else none
  | 2 => if i < 16 then some (((s.vc.get c).regs.get (160 + i)).toNat, s) else none
  | 3 => (vsrFind s c i).map (fun r => let x := vsrRead s c i r.1 r.2; (x.1.toNat, x.2))
  | 4 => some ((s.vc.get c).pc.toNat, s)
  | _ => none

/-- A write of register `n` of a control core; G0 discards it. -/
def raccWriteCc (c n v : Nat) (s : State) : Option State :=
  let i := n % 4096
  let put (k : Nat) : State := s.updVc c (fun x => { x with regs := x.regs.set k (BitVec.ofNat 64 v) })
  match n / 4096 with
  | 0 => if i = 0 then some s else if i < 16 then some (put i) else none
  | 1 => if i < 144 then some (put (16 + i)) else none
  | 2 => if i < 16 then some (put (160 + i)) else none
  | 3 => (vsrFind s c i).map (fun r => r.1.unpack r.2 v (fun f k bits s =>
      if (f.id = F.WSTATE_CWP.id && bits > 11) || (f.id = F.WSTATE_WDEPTH.id && bits > 10) then s
      else writeField 0 c (i < 0x60 || hwWritable f) f k bits s) s)
  | 4 => some (s.updVc c (fun x => { x with pc := BitVec.ofNat 64 v }))
  | _ => none

/-- A read of register `n` of a signal core. -/
def raccReadSc (m n : Nat) (s : State) : Option Nat :=
  let i := n % 4096
  let k := s.sc.get m
  match n / 4096 with
  | 0 => if i < 32 then some (k.v.get i).toNat else none
  | 1 => if i < 4 then some (k.acc.get i).toNat else none
  | 2 => if i < 4 then some (k.ix.get i) else if i < 8 then some (k.ixc.get (i - 4)) else none
  | 3 => if i < 8 then some (k.ap.get i).toNat else if i < 16 then some (k.st.get (i - 8)).toNat
         else if i < 24 then some (k.cs.get (i - 16)).toNat else none
  | 4 => if i < 32 then (ssrFind i).map (fun r => ssrRead s m r.1 r.2) else none
  | 5 => some k.pc
  | _ => none

/-- A write of register `n` of a signal core. -/
def raccWriteSc (m n v : Nat) (s : State) : Option State :=
  let i := n % 4096
  let put (f : SCore → SCore) : Option State := some (s.updSc m f)
  match n / 4096 with
  | 0 => if i < 32 then put (fun k => { k with v := k.v.set i (BitVec.ofNat 24 v) }) else none
  | 1 => if i < 4 then put (fun k => { k with acc := k.acc.set i (BitVec.ofNat 56 v) }) else none
  | 2 => if i < 4 then put (fun k => { k with ix := k.ix.set i (v % 2 ^ 16) })
         else if i < 8 then put (fun k => { k with ixc := k.ixc.set (i - 4) (v % 2 ^ 16) }) else none
  | 3 => if i < 8 then put (fun k => { k with ap := k.ap.set i (BitVec.ofNat 64 v) })
         else if i < 16 then put (fun k => { k with st := k.st.set (i - 8) (BitVec.ofNat 24 v) })
         else if i < 24 then put (fun k => { k with cs := k.cs.set (i - 16) (BitVec.ofNat 24 v) }) else none
  | 4 => if i < 32 then (ssrFind i).map (fun r => ssrWrite m r.1 r.2 (v % 2 ^ 24) s) else none
  | 5 => put (fun k => { k with pc := v % 4096 })
  | _ => none

/-- READ of the register access port of core `x` (R741). -/
def raccRead (x : Nat) (s : State) : State :=
  let n := s.fld F.DBG_RACC_NUM_RNUM x
  if !coreHalted s x then s.setFld F.DBG_RACC_CTL_RSTAT x 0 1
  else match (if x < 8 then raccReadCc x n s else (raccReadSc (x - 8) n s).map (fun v => (v, s))) with
    | some (v, s1) => (s1.setFld F.DBG_RACC_DATA_DATA x 0 v).clrFld F.DBG_RACC_CTL_RSTAT x
    | none => s.setFld F.DBG_RACC_CTL_RSTAT x 0 2

/-- WRITE of the register access port of core `x` (R741). -/
def raccWrite (x : Nat) (s : State) : State :=
  let n := s.fld F.DBG_RACC_NUM_RNUM x
  let v := s.fld F.DBG_RACC_DATA_DATA x
  if !coreHalted s x then s.setFld F.DBG_RACC_CTL_RSTAT x 0 1
  else match (if x < 8 then raccWriteCc x n v s else raccWriteSc (x - 8) n v s) with
    | some s1 => s1.clrFld F.DBG_RACC_CTL_RSTAT x
    | none => s.setFld F.DBG_RACC_CTL_RSTAT x 0 2

/-- R741. The register access port of core `x` reads register `num`. -/
def execDbgRaccRead (x num : Nat) (s : State) : Res := .next (if x < 104 then raccRead x (s.setFld F.DBG_RACC_NUM_RNUM x 0 num) else s)

/-- R741. The register access port of core `x` writes `v` to register `num`. -/
def execDbgRaccWrite (x num v : Nat) (s : State) : Res :=
  .next (if x < 104 then raccWrite x ((s.setFld F.DBG_RACC_NUM_RNUM x 0 num).setFld F.DBG_RACC_DATA_DATA x 0 v) else s)

/-- GO of DBG_RESUME (R742): a core in FAULT_HALT runs from DBG_RESUME_PC. -/
def dbgResume (x : Nat) (s : State) : State :=
  let pc := s.fld F.DBG_RESUME_PC_PC x
  if !(x < 104 && coreState s x == 3) then s
  else if x < 8 then
    ((s.updVc x (fun k => { k with pc := BitVec.ofNat 64 pc, wait := .none, fetchErr := 0, fetched := none })).clrFld F.PSTATE_TW x).setFld
      F.CC_STATUS_STATE x 0 1
  else
    ((s.updSc (x - 8) (fun k => { k with pc := pc % 4096, wait := .none, ahead := [] })).clrFld F.S_SSTATUS_INTRAP (x - 8)).setFld
      F.SC_STATUS_STATE (x - 8) 0 1

/-- R742. A write of GO with the PC `pc` for core `x`. -/
def execDbgResume (x pc : Nat) (s : State) : Res := .next (if x < 104 then dbgResume x (s.setFld F.DBG_RESUME_PC_PC x 0 pc) else s)

/-- A write of MBOX_IN of control core `c` through DPACC (R740). -/
def mboxIn (c v : Nat) (s : State) : State := (s.setFld F.MBOX_IN_IN 0 c v).setEvt F.MBOX_FLAG_IN_FULL 0 c (0x0A0 + c)

/-- R740. A write of MBOX_IN through DPACC. -/
def execMboxInWrite (c v : Nat) (s : State) : Res := .next (if c < 8 then mboxIn c v s else s)

/-- A write of MBOX_OUT of control core `c` by a NoC initiator (R740). -/
def mboxOut (c v : Nat) (s : State) : State := (s.setFld F.MBOX_OUT_OUT 0 c v).setBit F.MBOX_FLAG_OUT_FULL 0 c

/-- R740. A write of MBOX_OUT by a NoC initiator. -/
def execMboxOutWrite (c v : Nat) (s : State) : Res := .next (if c < 8 then mboxOut c v s else s)

end Sys2Proof.Machine
end

