-- ==== Sys2Proof/Machine/CsrBus.lean ====
section
/-!
DEFINITION. The register path (chapter 2, R404): where an offset of the CSR space leads, what a register reads as, and what a
write of it does, with everything that a write starts beside a change of fields.
-/
namespace Sys2Proof.Machine

/-- The state that a meaning answers. -/
def resState (r : Res) (s : State) : State := match r with | .next t => t | _ => s

/-- A read by the debug NoC initiator or the port leaves RC fields as they are (R43, R721). -/
def readsQuietly (init : Nat) : Bool := init == 0x4C3 || init == portInit

/-! ### Places (R36 to R38, R46 to R53) -/

/-- A register of a unit: the header that stages its fields, the unit as its window numbers it, the unit of its fields, the
register, its copy. -/
structure CsrReg where
  hu : Nat
  win : Nat
  u : Nat
  r : Reg
  i : Nat
deriving DecidableEq, Repr

/-- What an access reaches. -/
inductive CsrPlace where
  /-- nothing: an error code -/
  | err (code : Nat)
  /-- an offset that holds no register (R39) -/
  | hole
  /-- a register of one unit -/
  | reg (x : CsrReg)
  /-- the same register of every powered unit of a family, by a broadcast write (R52) -/
  | many (xs : List CsrReg)
  /-- a private memory of a control core, by window offset (R729) -/
  | priv (cs : List Nat) (off : Nat)
  /-- the MSI-X table (R561) or its Pending Bit Array -/
  | msix (off : Nat)
  | pba (off : Nat)
deriving DecidableEq, Repr

/-- The single block with a number (Table 2.1). -/
def singleBlk : Nat → Option Blk
  | 0 => some .global | 1 => some .clk | 2 => some .pwr | 3 => some .irq | 4 => some .cfg | 5 => some .hd | 6 => some .mpe
  | 7 => some .noc | 8 => some .reed | 9 => some .bist | 10 => some .dbg | 11 => some .gpio | 12 => some .pcie | 13 => some .spb
  | _ => none

/-- The window block and the number of units of a family code (Table 2.11). -/
def famBlk : Nat → Option (Blk × Nat)
  | 1 => some (.lane, 192) | 2 => some (.bay, 768) | 3 => some (.sc, 96) | 4 => some (.mp, 16) | 5 => some (.warp, 12)
  | 6 => some (.cc, 8)
  | _ => none

/-- The register at an offset of a list, else a hole. -/
def placeIn (rs : List Reg) (hu win u off : Nat) : CsrPlace :=
  match findReg rs off with
  | some (r, i) => .reg { hu := hu, win := win, u := u, r := r, i := i }
  | none => .hole

/-- A register by itself. -/
def placeReg (hu u : Nat) (r : Reg) (i : Nat) : CsrPlace := .reg { hu := hu, win := u, u := u, r := r, i := i }

/-- The debug block (Tables 25.5, 25.6): from 0x0400 on, the core named by the requester's DBG_CSEL. -/
def placeDbg (s : State) (init off : Nat) : CsrPlace :=
  let x := s.fld F.DBG_CSEL_CORE init
  if 0x1000 ≤ off ∧ off < 0x1200 then
    if 104 ≤ x then .hole
    else
      let k := (off - 0x1000) / 32
      match (off - 0x1000) % 32 / 8 with
      | 0 => placeReg 10 x R.DCMP_LO k
      | 1 => placeReg 10 x R.DCMP_HI k
      | 2 => placeReg 10 x R.DCMP_CTL k
      | _ => placeReg 10 x R.DCMP_CNT k
  else if off = 0x1200 then (if 104 ≤ x then .hole else placeReg 10 x R.DCTL 0)
  else if off = 0x1208 then (if 104 ≤ x then .hole else placeReg 10 x R.DSTATUS 0)
  else if off = 0x400 then placeReg 10 init R.DBG_CSEL 0
  else if 0x408 ≤ off ∧ off < 0x800 then (if 104 ≤ x then .hole else placeIn regsOfDbg 10 x x off)
  else placeIn regsOfDbg 10 0 0 off

/-- An 8-byte place of a single block. -/
def placeSingle (s : State) (init k : Nat) (b : Blk) (off : Nat) : CsrPlace :=
  if off < 0x20 then placeIn regsOfHdr k k k off
  else match b with
    | .dbg => placeDbg s init off
    | .gpio => if 0x1000 ≤ off ∧ off < 0x1000 + 20 * 0x400 then placeIn regsOfGpio 11 ((off - 0x1000) / 0x400) ((off - 0x1000) / 0x400) ((off - 0x1000) % 0x400) else .hole
    | .pcie => if 0x1_0000 ≤ off ∧ off < 0x1_8000 then .msix (off - 0x1_0000) else if 0x1_8000 ≤ off ∧ off < 0x1_8100 then .pba (off - 0x1_8000) else placeIn regsOfPcie 12 0 0 off
    | .global => if off = 0x118 then placeReg 0 init R.INIT_CTL 0 else placeIn regsOfGlobal 0 0 0 off
    | .hd =>
      if off = 0x118 then placeReg 5 init R.HD_INST_SEL 0
      else if off = 0x128 then placeReg 5 init R.HD_SPOOL_SEL 0
      else placeIn regsOfHd 5 0 0 off
    | _ => placeIn (regsOf b) k 0 0 off

/-- A place of the window of unit `u` of family `fam`. QUAD_CFG is held in the unit of the quad's lane 0 (R517). -/
def placeWindow (fam u : Nat) (b : Blk) (off : Nat) : CsrPlace :=
  let hu := hdrOf fam u
  if off < 0x20 then placeIn regsOfHdr hu hu hu off
  else if fam = 6 ∧ 0x2_0000 ≤ off ∧ off < 0x4_0000 then .priv [u] off
  else if fam = 1 ∧ off = 0x108 then .reg { hu := hdrOf 1 (u / 4 * 4), win := u, u := u / 4, r := R.QUAD_CFG, i := 0 }
  else placeIn (regsOf b) hu u u off

/-- A unit is powered: only bays can be off or in retention (R53). A bay whose power state is changing (0b11) counts as not
powered. DESIGN CHOICE, log entry 18: neither R53 nor R670 says how it answers. -/
def unitOn (s : State) (fam u : Nat) : Bool := fam != 2 || bayOn s u

/-- A broadcast reaches every powered unit of the family (R52). -/
def placeMany (s : State) (fam count : Nat) (b : Blk) (off : Nat) : CsrPlace :=
  let us := (List.range count).filter (unitOn s fam)
  if fam = 6 ∧ 0x2_0000 ≤ off ∧ off < 0x4_0000 then .priv us off
  else
    match us.filterMap (fun u => match placeWindow fam u b off with | .reg x => some x | _ => none) with
    | [] => .hole
    | xs => .many xs

/-- Where an access of an initiator to an 8-byte aligned offset leads, or its error (R36, R37, R48 to R53). -/
def csrPlace (s : State) (init off : Nat) (wr : Bool) : CsrPlace :=
  let k := off / 0x10_0000
  let o := off % 0x10_0000
  if 0x400_0000 ≤ off then .err eUNMAPPED
  else match singleBlk k, famBlk (k - 15) with
    | some b, _ => placeSingle s init k b o
    | none, some (b, count) =>
      let fam := k - 15
      if k < 16 then .err eUNMAPPED
      else if o < 0x1_0000 then
        (if o = 0 then .reg { hu := 0, win := 0, u := init, r := R.SEL, i := fam }
         else if o = 8 then .reg { hu := 0, win := 0, u := 0, r := R.FAMILY_INFO, i := fam }
         else .hole)
      else if s.bit F.SEL_BCAST init fam then (if wr then placeMany s fam count b (o - 0x1_0000) else .err eACCESS)
      else
        let u := s.fld F.SEL_INDEX init fam
        if count ≤ u || !unitOn s fam u then .err eUNMAPPED else placeWindow fam u b (o - 0x1_0000)
    | none, none => .err eUNMAPPED

/-! ### Reading (R40, R42, R56) -/

/-- Whether a register is the one named. -/
def Reg.is (r q : Reg) : Bool := r.blk == q.blk && r.off == q.off

/-- A field is the one named. -/
def Field.is (f g : Field) : Bool := f.id == g.id

/-- 64 flags as a number. -/
def pack64 (f : Nat → Bool) : Nat := ofBits ((List.range 64).map f)

/-- The instance that the requester selects, and its spool. -/
def selInst (s : State) (init : Nat) : Option Skein := instOf s (s.fld F.HD_INST_SEL_INSTANCE init)
def selSpool (s : State) (init : Nat) : Option Spool := s.spools.get (s.fld F.HD_SPOOL_SEL_SPOOL_ID init)

/-- Fields of HD_INST (Table 10.9). -/
def viewInst (f : Field) (k : Skein) : Nat :=
  if f.is F.HD_INST_VALID then 1
  else if f.is F.HD_INST_PRIORITY then k.prio
  else if f.is F.HD_INST_STATE then k.ostate
  else if f.is F.HD_INST_ANCHORED then ofBool (!k.anchors.isEmpty)
  else if f.is F.HD_INST_ADJ then ofBool (!k.links.isEmpty)
  else if f.is F.HD_INST_ORG_R then k.r
  else if f.is F.HD_INST_ORG_C then k.c
  else if f.is F.HD_INST_HEIGHT then k.h
  else if f.is F.HD_INST_WIDTH then k.w
  else k.spools.length % 256

/-- Fields of HD_SPOOL0 to HD_SPOOL2 (Table 10.9). -/
def viewSpool (s : State) (f : Field) (k : Spool) : Nat :=
  if f.is F.HD_SPOOL0_VALID then 1
  else if f.is F.HD_SPOOL0_DRAM then ofBool (poolDram s k.pool)
  else if f.is F.HD_SPOOL0_POOL then k.pool
  else if f.is F.HD_SPOOL0_OWNER then k.owner
  else if f.is F.HD_SPOOL0_REFS then k.refs
  else if f.is F.HD_SPOOL1_BASE then k.base
  else k.size

/-- What a field reads as where it is not stored as a field: identities, and views of other state. -/
def viewField (s : State) (init hu u : Nat) (f : Field) (k : Nat) : Option Nat :=
  if f.is F.UNIT_STATUS_PENDING then some (ofBool (s.stagedIn hu))
  else if f.is F.UNIT_ID_FAMILY then some (hu / 0x1000)
  else if f.is F.UNIT_ID_INDEX then some (hu % 0x1000)
  else if f.is F.UNIT_ID_HDR_VER then some 1
  else if f.is F.FAMILY_INFO_FAMILY then some k
  else if f.is F.FAMILY_INFO_COUNT then some ((famBlk k).elim 0 (·.2))
  else if f.is F.INIT_ID then some (init % 4096)
  else if f.is F.PWR_STATUS_BLOCK then some (pwrBlock s)
  else if f.is F.IRQ_SRC_LEVEL then some (ofBool (irqLevelLine s k).isSome)
  else if f.is F.IRQ_SRC_LINE then some (ofBool (irqLine s k))
  else if f.is F.IRQ_PEND_PEND then some (pack64 (fun j => s.bit F.IRQ_SRC_PENDING 0 (64 * k + j)))
  else if f.is F.IRQ_ACT_ACT then some (pack64 (fun j => s.bit F.IRQ_SRC_ACTIVE 0 (64 * k + j)))
  else if f.is F.IRQ_CC_PRES_VALID then some (ofBool (irqPresented s (tgtCc k)).isSome)
  else if f.is F.IRQ_CC_PRES_SOURCE then some ((irqPresented s (tgtCc k)).getD 0)
  else if f.is F.IRQ_SC_PRES_VALID then some (ofBool (irqPresented s (tgtSc k)).isSome)
  else if f.is F.IRQ_SC_PRES_SOURCE then some ((irqPresented s (tgtSc k)).getD 0)
  else if f.is F.HD_MAP_PSTATE then some (s.fld F.PWR_BAY_STATE_STATE 0 k)
  else if f.is F.HD_MAP_CAP then some (ofBool (bayCap s k))
  else if f.is F.GPIO_IN_IN then some (s.gpio.seen.get u)
  else if f.is F.GPIO_BSTAT_OWNER0 then some (gpioOwner s u 0)
  else if f.is F.GPIO_BSTAT_OWNER1 then some (gpioOwner s u 1)
  else if f.is F.GPIO_BSTAT_FORCED then some (ofBool (gpioForced s u 0 || gpioForced s u 1))
  else if f.is F.CC_STATUS_CTXID then some (s.fld F.CTXID u)
  else if f.is F.CC_STATUS_TW then some (s.fld F.PSTATE_TW u)
  else if f.is F.CC_STATUS_TASK then some (s.fld F.PSTATE_TASK u)
  else if f.is F.SC_STATUS_LACT then some (s.fld F.S_SSTATUS_LACT u)
  else if f.is F.SC_STATUS_INTRAP then some (s.fld F.S_SSTATUS_INTRAP u)
  else if f.is F.DSTATUS_ARMED then some (cmpArmedMask s u)
  else none

/-- The registers of the debug block that only the port reaches (R721). -/
def portOnly (r : Reg) : Bool :=
  [R.DBG_UNLOCK, R.DBG_CHAL, R.DBG_RESP, R.DBG_NOC_ADDR, R.DBG_NOC_CTL, R.DBG_NOC_STAT, R.DBG_NOC_DATA, R.DBG_RACC_NUM,
   R.DBG_RACC_DATA, R.DBG_RACC_CTL, R.DBG_RESUME, R.DBG_RESUME_PC].any (fun q => r.is q)

/-- An initiator ID that Table 14.5 lists. -/
def initListed (i : Nat) : Bool :=
  i < 0x308 || (0x310 ≤ i && i < 0x370) || i == 0x380 || (0x3C0 ≤ i && i < 0x4C2) || i == 0x4C3 || i == 0x4C4 || i == 0x4C8

/-- A register that reads as 0 and ignores writes: port registers for others, and entries of IDs that no initiator has. -/
def csrBlind (init : Nat) (x : CsrReg) : Bool :=
  (init != portInit && portOnly x.r) || (x.r.is R.NOC_INITCFG && !initListed x.i)

/-- What copy `k` of a field of a register reads as for an initiator. -/
def csrField (s : State) (init : Nat) (x : CsrReg) (f : Field) (k : Nat) : Nat :=
  match viewField s init x.hu x.u f k with
  | some v => v
  | none => match f.acc with
    | .wo => 0
    | .rws => if s.bit F.INIT_CTL_SHADOW_VIEW init then s.shadow f x.u k else s.fld f x.u k
    | _ => s.fld f x.u k

/-- The 64-bit value of a register for an initiator. HD_INST and HD_SPOOL show what the initiator selects; BAY_BIST shows
CAPBUSY as BAY_SCRUB does. -/
def csrValue (s : State) (init : Nat) (x : CsrReg) : Nat :=
  if csrBlind init x then 0
  else if x.r.is R.HD_INST then (match selInst s init with | some k => x.r.pack 0 (fun f _ => viewInst f k) | none => 0)
  else if x.r.is R.HD_SPOOL0 || x.r.is R.HD_SPOOL1 || x.r.is R.HD_SPOOL2 then
    (match selSpool s init with | some k => x.r.pack 0 (fun f _ => viewSpool s f k) | none => 0)
  else x.r.pack x.i (csrField s init x)

/-! ### Writing -/

/-- Bits `[lo + w - 1 : lo]` meet the halves of a register that an access reaches (R38). -/
def halfMeets (lo w : Nat) (low high : Bool) : Bool := (low && lo < 32) || (high && 32 < lo + w)

/-- A field of `w` bits at `lo` with the reached bits of a written value `v` laid over its present value. -/
def halfMerge (cur v lo w : Nat) (low high : Bool) : Nat :=
  if low && high then bitsOf v lo w
  else
    let n := if lo < 32 then min w (32 - lo) else 0
    if low then bitsOf v lo n + cur / 2 ^ n * 2 ^ n else cur % 2 ^ n + bitsOf v (lo + n) (w - n) * 2 ^ n

/-- What a written value would hold for a field that the access does not reach: its present value, or 0 where a 1 acts. -/
def restValue (s : State) (x : CsrReg) (f : Field) (k : Nat) : Nat :=
  match f.acc with
  | .rw | .hw => s.fld f x.u k
  | .rws => s.shadow f x.u k
  | _ => 0

/-- A write as a whole 64-bit value: the halves that it does not reach as they stand. -/
def wholeValue (s : State) (x : CsrReg) (v : Nat) (low high : Bool) : Nat :=
  if low && high then v
  else x.r.fields.foldl (fun a f => (List.range f.reps).foldl (fun a j =>
    let lo := f.lo + j * f.step
    a + halfMerge (restValue s x f (x.i * f.reps + j)) v lo f.w low high * 2 ^ lo) a) 0

/-- The plain effect of a write on every field that it reaches, by access code (Table 2.3), but for fields that `skip` names. -/
def plainWrite (x : CsrReg) (v : Nat) (low high : Bool) (skip : Field → Bool) (s : State) : State :=
  forL x.r.fields (fun f s => forN f.reps (fun j s =>
    let lo := f.lo + j * f.step
    if skip f || !halfMeets lo f.w low high then s
    else writeField x.hu x.u (hwWritable f) f (x.i * f.reps + j) (bitsOf v lo f.w) s) s) s

/-- A write of a unit header (R47, R57 to R60): a block without RWS fields and an armed unit ignore it, but for UNIT_STATUS. -/
def hdrWrite (x : CsrReg) (v : Nat) (low high : Bool) (s : State) : State :=
  let hu := x.hu
  let staging := hu == 5 || hu == 7 || hu == 8 || hu == 11 || hu / 0x1000 == 1 || hu / 0x1000 == 2
  if x.r.is R.UNIT_STATUS then plainWrite x v low high (fun _ => false) s
  else if !staging || s.bit F.UNIT_STATUS_ARMED hu then s
  else if x.r.is R.STAGE_CTL then
    (if low then
      let s1 := if bitsOf v 0 2 = 3 then s else s.setFld F.STAGE_CTL_POLICY hu 0 (bitsOf v 0 2)
      stageLate hu (if bitOf v 8 then s1.discard hu else s1)
     else s)
  else if x.r.is R.STAGE_PICK then stageLate hu (plainWrite x (wholeValue s x v low high) low high (fun _ => false) s)
  else s

/-- Writes of the clock block that do more than change fields. -/
def clkWrite (x : CsrReg) (w : Nat) (s : State) : Option State :=
  if x.r.is R.SPLL_CFG then some (spllWrite x.i w s)
  else if x.r.is R.FPLL_CFG then some (fpllWrite x.i w s)
  else if x.r.is R.GLINE_CFG then some (glineWrite x.i w s)
  else if x.r.is R.DOM_CTL then some (domWrite x.i w s)
  else if x.r.is R.LINE_FORCE_CLR then some (resState (execLineForceClr w s) s)
  else none

/-- Writes of the power and reset block. The result of a privileged test before a warm reset is a free value. A field of
PWR_BAY_REQ that keeps its value asks for nothing. -/
def pwrWrite (x : CsrReg) (w : Nat) (s : State) : Option State :=
  if x.r.is R.RST_CTL then
    some (if bitOf w 8 && w % 256 == 0xA5 then (let (t, s1) := s.fresh; warmWith 3 (t.toNat % 2 ^ 16) s1) else s)
  else if x.r.is R.WDT_CFG then some (wdtCfgWrite w s)
  else if x.r.is R.WDT_KICK then some (if bitOf w 0 then wdtKick s else s)
  else if x.r.is R.PWR_GPIO_V then some (gpioShow x.i (gpioSample x.i (gpioVWrite x.i w s)))
  else if x.r.is R.PWR_BAY_REQ then
    some (forN 32 (fun j s => let b := 32 * x.i + j
      if bitsOf w (2 * j) 2 = s.fld F.PWR_BAY_REQ_REQ 0 b then s else bayReqWrite b (bitsOf w (2 * j) 2) s) s)
  else none

/-- Writes of the interrupt controller. SOURCE of an EOI register lies in its low half (R38). A write of 0 there completes source
0, as R656 has it, though Table 2.3 lets a write of 0 to a WO field do nothing. DESIGN CHOICE, log entry 38. -/
def irqWrite (x : CsrReg) (w : Nat) (low : Bool) (s : State) : Option State :=
  if x.r.is R.IRQ_SRC then some (irqSrcWrite x.i w s)
  else if x.r.is R.IRQ_HOST_EOI then some (if low then irqHostEoi (w % 2048) s else s)
  else if x.r.is R.IRQ_CC_EOI then some (if low then irqEoi (tgtCc x.i) (w % 2048) s else s)
  else if x.r.is R.IRQ_SC_EOI then some (if low then irqEoi (tgtSc x.i) (w % 2048) s else s)
  else none

/-- Writes of Heddle's block. -/
def hdWrite (x : CsrReg) (w : Nat) (low high : Bool) (s : State) : Option State :=
  if x.r.is R.HD_MOVE_CTL then
    some (
      let s1 := plainWrite x w low high (fun f => f.acc == .w1s) s
      let s2 := if bitOf w 63 then moveGo s1 else s1
      let s3 := if bitOf w 62 then moveCommitWrite s2 else s2
      if bitOf w 61 then moveCancel s3 else s3)
  else if x.r.is R.HD_POOL_CTL then some (poolCtlWrite x.i w s)
  else if x.r.is R.HD_POOL_BASE || x.r.is R.HD_POOL_LAST then some (if s.fld F.HD_POOL_CTL_USED 0 x.i ≠ 0 then s else plainWrite x w low high (fun _ => false) s)
  else if x.r.is R.HD_MAP then some (if high && bitsOf w 32 2 == 3 && hstate s x.i != 3 then retireBay x.i 5 s else s)
  else none

/-- Writes of the memory-protection engine and the Reed block. -/
def ctlWrite (x : CsrReg) (w : Nat) (low high : Bool) (s : State) : Option State :=
  if x.r.is R.MPR_CTL then some (mprWrite x.i w s)
  else if x.r.is R.MPR_BASE || x.r.is R.MPR_META then some (if rgValid s x.i then s else plainWrite x w low high (fun _ => false) s)
  else if x.r.is R.WARP_SYS_CTL then
    some (let s1 := if bitOf w 0 then discStart s else s; if bitOf w 1 then discRejoin s1 else s1)
  else if x.r.is R.TB_CTL then some (if bitOf w 63 then tbResync s else s)
  else if x.r.is R.REED_OP_CTL then
    some (if slotBusy s x.i then s
      else
        let s1 := plainWrite x w low high (fun f => f.is F.REED_OP_CTL_GO) s
        if bitOf w 63 then reedGo x.i s1 else s1)
  else if x.r.is R.REED_OP_PICK || x.r.is R.REED_OP_ARG || x.r.is R.REED_OP_BUF || x.r.is R.REED_OP_LEN then
    some (if slotBusy s x.i then s else plainWrite x w low high (fun _ => false) s)
  else if x.r.is R.MODE_CTL then some (if bitOf w 63 then modeProgress (s.setBit F.MODE_CTL_READY) else s)
  else none

/-- Writes of the self-test block (R693, R706). -/
def bistWrite (x : CsrReg) (w : Nat) (s : State) : Option State :=
  let retire (fam base n : Nat) : Option State :=
    some (forN n (fun j s => if bitOf w j && base + j < famCount fam then retireUnit fam (base + j) 5 s else s) s)
  if x.r.is R.BIST_REQ then some (bistReqWrite w s)
  else if x.r.is R.UNUSABLE_BANK then retire 7 0 64
  else if x.r.is R.UNUSABLE_SC then retire 3 (64 * x.i) 64
  else if x.r.is R.UNUSABLE_QUAD then retire 1 0 64
  else if x.r.is R.UNUSABLE_CC then retire 6 0 64
  else if x.r.is R.UNUSABLE_RTR then retire 8 (64 * x.i) 64
  else none

/-- Writes of the debug block; `port` says that they come through DPACC (R721, R724 to R727, R736, R737, R740 to R742). -/
def dbgWrite (port : Bool) (x : CsrReg) (w : Nat) (low high : Bool) (s : State) : Option State :=
  if x.r.is R.DBG_UNLOCK then
    some (
      let s1 := plainWrite x w low high (fun _ => false) s
      let s2 := if bitOf w 63 then chalReq s1 else s1
      let s3 := if bitOf w 62 then verifyStart s2 else s2
      if bitOf w 61 then relock s3 else s3)
  else if x.r.is R.DBG_NOC_CTL then
    some (let s1 := plainWrite x w low high (fun f => f.is F.DBG_NOC_CTL_GO) s; if bitOf w 63 then nocGo s1 else s1)
  else if x.r.is R.DBG_REQ then some (if bitOf w 63 then dbgReq x.u s else s)
  else if x.r.is R.DBG_RACC_CTL then
    some (let s1 := if bitOf w 63 then raccRead x.u s else s; if bitOf w 62 then raccWrite x.u s1 else s1)
  else if x.r.is R.DBG_RESUME then some (if bitOf w 63 then dbgResume x.u s else s)
  else if x.r.is R.MBOX_IN then some (if port then mboxIn x.i w s else plainWrite x w low high (fun _ => false) s)
  else if x.r.is R.MBOX_OUT then some (if port then plainWrite x w low high (fun _ => false) s else mboxOut x.i w s)
  else if x.r.is R.DCTL then some (plainWrite x w low high (fun f => f.is F.DCTL_OWN && !port) s)
  else none

/-- Writes of the GPIO block (R747, R756, R758, R760). -/
def gpioWrite (x : CsrReg) (w : Nat) (low high : Bool) (s : State) : Option State :=
  if x.r.is R.GPIO_CFG then some (if low then gpioShow x.u (gpioCfgWrite x.u x.i w s) else s)
  else if x.r.is R.GPIO_TSET then some (if low then gpioTsetWrite x.u x.i w s else s)
  else if x.r.is R.GPIO_EVT then some (gpioSample x.u (plainWrite x w low high (fun _ => false) s))
  else if x.r.is R.GPIO_BSTAT then some (gpioShow x.u (plainWrite x w low high (fun _ => false) s))
  else none

/-- Writes of the PCI Express and scratchpad blocks (R130, R131, R551, R559). -/
def ioWrite (x : CsrReg) (w : Nat) (low high : Bool) (s : State) : Option State :=
  let held := s.bit F.Q_STATUS_STOPPED 0 x.i && !s.bit F.Q_CFG_EN 0 x.i
  if x.r.is R.APT_CFG then some (aptWrite x.i w s)
  else if x.r.is R.Q_CFG then
    some (let s1 := plainWrite x w low high (fun _ => false) s
      if s.bit F.Q_CFG_EN 0 x.i == s1.bit F.Q_CFG_EN 0 x.i then s1 else dmaSettle x.i s1)
  else if x.r.is R.SQ_HEAD then some (if held then s.setFld F.SQ_HEAD_HEAD 0 x.i (if low then w else s.fld F.SQ_HEAD_HEAD 0 x.i) else s)
  else if x.r.is R.CQ_TAIL then some (if held then s.setFld F.CQ_TAIL_TAIL 0 x.i (if low then w else s.fld F.CQ_TAIL_TAIL 0 x.i) else s)
  else if x.r.is R.SPB_PWR_REQ then
    some (forN 32 (fun j s => if halfMeets (2 * j) 2 low high then spadReqWrite (32 * x.i + j) (bitsOf w (2 * j) 2) s else s) s)
  else if x.r.is R.SPB_ZERO then some (forN 64 (fun b s => if bitOf w b && halfMeets b 1 low high then spadZeroStart b s else s) s)
  else none

/-- Writes of the windows of lanes, bays, cores and ports. -/
def winWrite (x : CsrReg) (w : Nat) (low high : Bool) (s : State) : Option State :=
  let n := x.win
  if x.r.is R.LANE_CTL then some (if low then laneCtlWrite n w s else if bitOf w 63 then laneReacq n s else s)
  else if x.r.is R.QUAD_CFG then
    some (let s1 := plainWrite x w low high (fun f => f.is F.QUAD_CFG_OWNER) s
      if high then quadOwnerWrite n (bitsOf w 62 2) s1 else s1)
  else if x.r.is R.BAY_CTL then
    some (let s1 := plainWrite x w low high (fun _ => false) s; if low && bitOf w 8 then holdReset n s1 else s1)
  else if x.r.is R.BAY_STATUS then
    some (if x.r.fields.any (fun f => f.is F.BAY_STATUS_POISON && halfMeets f.lo 1 low high && bitOf w f.lo) then poisonClear n s else s)
  else if x.r.is R.BAY_SCRUB then some (if low then bayScrubWrite n w s else s)
  else if x.r.is R.BAY_BIST then some (if halfMeets F.BAY_BIST_CONSENT.lo 1 low high then consentWrite n (bitsOf w F.BAY_BIST_CONSENT.lo 1) s else s)
  else if x.r.is R.SC_CTL then some (if !low then s else if bitOf w 0 then scResetCore n s else if bitOf w 1 then scStartCore n s else s)
  else if x.r.is R.CC_CTL then some (if !low then s else if bitOf w 0 then coreReset n s else if bitOf w 1 then vstart n s else s)
  else if x.r.is R.MP_CTL then some (if low then mpCtlWrite n w s else s)
  else if x.r.is R.MP_REMAP then
    some (
      let s1 := plainWrite x w low high (fun f => f.is F.MP_REMAP_ADDR && (s.bit F.MP_REMAP_VALID n x.i || s.bit F.MP_REMAP_BUSY n x.i)) s
      let s2 := if low && bitOf w 0 then resState (execMpRemapInstall n x.i s1) s1 else s1
      if low && bitOf w 1 then resState (execMpRemapRelease n x.i s2) s2 else s2)
  else if x.r.is R.WARP_CFG then some (warpCfgWrite n w s)
  else none

/-- What a write of a register does that is more than a change of its fields, if anything; `w` is the whole value. -/
def hookWrite (init : Nat) (x : CsrReg) (w : Nat) (low high : Bool) (s : State) : Option State :=
  match x.r.blk with
  | .clk => clkWrite x w s
  | .pwr => pwrWrite x w s
  | .irq => irqWrite x w low s
  | .hd => hdWrite x w low high s
  | .mpe | .reed => ctlWrite x w low high s
  | .bist => bistWrite x w s
  | .dbg | .dcmp => dbgWrite (init == portInit) x w low high s
  | .gpio => gpioWrite x w low high s
  | .pcie | .spb => ioWrite x w low high s
  | .lane | .bay | .sc | .mp | .warp | .cc => winWrite x w low high s
  | _ => none

/-- A write of an RWS field of an armed unit is refused (R619). -/
def armedWrite (x : CsrReg) (low high : Bool) (s : State) : Bool :=
  s.bit F.UNIT_STATUS_ARMED x.hu &&
  x.r.fields.any (fun f => f.acc == .rws && (List.range f.reps).any (fun j => halfMeets (f.lo + j * f.step) f.w low high))

/-- A write of the reached halves of value `v` to a register by an initiator: status and state. -/
def regWrite (init : Nat) (x : CsrReg) (v : Nat) (low high : Bool) (s : State) : Nat × State :=
  if csrBlind init x then (0, s)
  else if x.r.blk == .hdr then (0, hdrWrite x v low high s)
  else if armedWrite x low high s then (eACCESS, s)
  else
    let w := wholeValue s x v low high
    let s1 := match hookWrite init x w low high s with
      | some t => t
      | none => plainWrite x w low high (fun _ => false) s
    (0, stageLate x.hu s1)

/-- A read clears the field: an RC field (R42), and PWR_STATUS.LAST, which holds the deepest state since its last read (Table
23.11). -/
def clearsOnRead (f : Field) : Bool := f.acc == .rc || f.is F.PWR_STATUS_LAST

/-- A read of a register: its value, and the fields cleared that a read clears, unless the reader leaves them (R42, R43). -/
def regRead (init : Nat) (x : CsrReg) (low high : Bool) (s : State) : Nat × State :=
  let v := csrValue s init x
  if readsQuietly init then (v, s)
  else (v, forL x.r.fields (fun f s => if clearsOnRead f && halfMeets f.lo f.w low high then s.clrFld f x.u x.i else s) s)

/-! ### The MSI-X table (R561) -/

/-- A 32-bit word of the MSI-X table is written. -/
def msixPut (off v : Nat) (s : State) : State := s.wrBytes (aMsix off) (bytesLE 4 (v ^^^ (if off % 16 = 12 then 1 else 0)))

/-! ### Accesses (R36 to R38, R45) -/

/-- A failing access is recorded (Table 2.9). -/
def csrErr (init off : Nat) (s : State) : State :=
  let s1 := s.bump F.ERR_STAT_ERR_COUNT
  if s1.bit F.ERR_STAT_ERR_VALID then s1
  else ((s1.setBit F.ERR_STAT_ERR_VALID).setFld F.ERR_REC_ERR_OFFSET 0 0 off).setFld F.ERR_REC_ERR_INIT 0 0 init

/-- What a place answers to a write of `n` bytes of value `v` at offset `off`. -/
def placeWrite (init off n v : Nat) (p : CsrPlace) (s : State) : Nat × State :=
  let low := n == 8 || off % 8 == 0
  let high := n == 8 || off % 8 == 4
  let v8 := if off % 8 = 4 then v % 2 ^ 32 * 2 ^ 32 else v
  match p with
  | .err c => (c, s)
  | .hole => (0, s)
  | .reg x => regWrite init x v8 low high s
  | .many xs => xs.foldl (fun (a : Nat × State) x => let r := regWrite init x v8 low high a.2; (if r.1 ≠ 0 then r.1 else a.1, r.2)) (0, s)
  | .priv cs o => (0, forL cs (fun c s => (ccWindow c (o + off % 8) n true (bytesLE n v) s).2.2) s)
  | .msix o =>
    let s1 := if low then msixPut o (v8 % 2 ^ 32) s else s
    (0, msixDrain (if high then msixPut (o + 4) (v8 / 2 ^ 32) s1 else s1))
  | .pba _ => (0, s)

/-- What a place answers to a read of `n` bytes at offset `off`: status, the 64-bit value, state. -/
def placeRead (init off n : Nat) (p : CsrPlace) (s : State) : Nat × Nat × State :=
  let low := n == 8 || off % 8 == 0
  let high := n == 8 || off % 8 == 4
  match p with
  | .err c => (c, 0, s)
  | .hole | .many _ => (0, 0, s)
  | .reg x => let r := regRead init x low high s; (0, r.1, r.2)
  | .priv cs o =>
    let r := ccWindow (cs.headD 0) (o + off % 8) n false [] s
    (r.1, ofBytesLE r.2.1 * (if off % 8 = 4 then 2 ^ 32 else 1), r.2.2)
  | .msix o => (0, msixWord s (o / 16) (o % 16) + msixWord s (o / 16) (o % 16 + 4) * 2 ^ 32, s)
  | .pba o => (0, pack64 (fun j => s.pcie.pba.get (8 * o + j)), s)

/-- An access has a size and alignment that the space serves (R38). -/
def csrSized (off n : Nat) : Bool := (n == 8 && off % 8 == 0) || (n == 4 && off % 4 == 0)

/-- A write access to the CSR space: its status, and the state. A poisoned write is refused. -/
def csrWrite (init off n v : Nat) (poison : Bool) (s : State) : Nat × State :=
  match csrPlace s init (off / 8 * 8) true with
  | .err c => (c, csrErr init off s)
  | p =>
    if !csrSized off n || poison then (eACCESS, csrErr init off s)
    else
      let r := placeWrite init off n v p s
      (r.1, if r.1 = 0 then r.2 else csrErr init off r.2)

/-- A read access to the CSR space: its status, the bytes, and the state. -/
def csrRead (init off n : Nat) (s : State) : Nat × List Byte × State :=
  match csrPlace s init (off / 8 * 8) false with
  | .err c => (c, [], csrErr init off s)
  | p =>
    if !csrSized off n then (eACCESS, [], csrErr init off s)
    else
      let r := placeRead init off n p s
      (r.1, if r.1 = 0 then slice (bytesLE 8 r.2.1) (off % 8) n else [], if r.1 = 0 then r.2.2 else csrErr init off r.2.2)

/-- The CSR target runs (R45). -/
def csrRuns (s : State) : Bool := s.vin && s.dev == .run && domRuns s 0

/-! ### A write and a hardware update in one cycle (R55) -/

/-- A field that hardware advances and software may write: the pointers of rings, and PWR_BAY_REQ. -/
def advanced (f : Field) : Bool :=
  [F.TRACE_WP_WP, F.BC_WP_WP, F.STRM_WP_WP, F.LPQ_HEAD_HEAD, F.PWR_BAY_REQ_REQ].any (fun g => g.id == f.id)

/-- A counter that wraps; every other saturates (R44). -/
def wrapping (f : Field) : Bool := [F.PCOUNT_COUNT, F.PBYTES_COUNT].any (fun g => g.id == f.id)

/-- Hardware updates a register in the cycle in which its reached halves are written (Table 2.12): `upd` holds, at a field's place,
the bits that hardware sets, a counter's increment, or a value other than 0 where it advances a pointer. A set of a W1C bit
wins, an increment is added to the written value, and against a pointer the written value wins and COLLIDE sets. A set of a W1S bit
wins as well, and what it starts has started; fields of other kinds are not written by both. -/
def collide (x : CsrReg) (upd : Nat) (low high : Bool) (s : State) : State :=
  forL x.r.fields (fun f s => forN f.reps (fun j s =>
    let lo := f.lo + j * f.step
    let k := x.i * f.reps + j
    let h := bitsOf upd lo f.w
    if h = 0 || !halfMeets lo f.w low high then s
    else if f.acc == .w1c then s.setFld f x.u k (s.fld f x.u k ||| h)
    else if advanced f then s.setBit F.UNIT_STATUS_COLLIDE x.hu
    else if hwWritable f && f.acc == .hw then
      s.setFld f x.u k (if wrapping f then s.fld f x.u k + h else min (2 ^ f.w - 1) (s.fld f x.u k + h))
    else s) s) s

/-- The same at every register that an access reaches. -/
def collideAt (off n upd : Nat) (p : CsrPlace) (s : State) : State :=
  let low := n == 8 || off % 8 == 0
  let high := n == 8 || off % 8 == 4
  match p with
  | .reg x => collide x upd low high s
  | .many xs => forL xs (fun x s => collide x upd low high s) s
  | _ => s

/-! ### Commands -/

/-- R42, R55. Initiator `init` writes `n` bytes of value `d.v` at CSR offset `off`, and in the same cycle hardware updates the
register by `d.upd`, or does not where it is 0; the response leaves as a reply. -/
def execCsrWrite (init off n : Nat) (d : CsrData) (s : State) : Res :=
  .next (
    if !csrRuns s then s
    else
      let r := csrWrite init off n d.v false s
      let s1 := if r.1 = 0 then collideAt off n d.upd (csrPlace s init (off / 8 * 8) true) r.2 else r.2
      s1.emit (.reply init r.1 []))

/-- The units with RWS fields that an access of `n` bytes at `off` reaches at a place. -/
def placeUnits (off n : Nat) (p : CsrPlace) : List Nat :=
  let low := n == 8 || off % 8 == 0
  let high := n == 8 || off % 8 == 4
  let staged (x : CsrReg) : Bool :=
    x.r.fields.any (fun f => f.acc == .rws && (List.range f.reps).any (fun j => halfMeets (f.lo + j * f.step) f.w low high))
  match p with
  | .reg x => if staged x then [x.hu] else []
  | .many xs => (xs.filter staged).map (·.hu)
  | _ => []

/-- A write that lands in the application-edge cycle of the boundary just passed stays staged, and SPLIT sets where the unit
applied staged values at it (R58). -/
def splitAt (hu : Nat) (s : State) : State :=
  if s.stagedIn hu && (s.fld F.STAGE_CTL_POLICY hu == 0 || (s.fld F.STAGE_CTL_POLICY hu == 1 && s.fld F.STAGE_PICK_PICK hu == s.pick))
  then s.setBit F.UNIT_STATUS_SPLIT hu else s

/-- R56, R58. Initiator `init` writes an RWS register; `edge` says that the write lands in the application-edge cycle of the
present pick's boundary. An armed unit takes none of it (R619); the others take it all the same (R52). -/
def execStageWrite (init off n v : Nat) (edge : Bool) (s : State) : Res :=
  .next (
    let us := placeUnits off n (csrPlace s init (off / 8 * 8) true)
    if !csrRuns s || us.isEmpty then s
    else
      let r := csrWrite init off n v false s
      let s1 := if edge && csrSized off n then forL (us.filter (fun hu => !s.bit F.UNIT_STATUS_ARMED hu)) splitAt r.2 else r.2
      s1.emit (.reply init r.1 []))

/-- R60. A write of DISCARD to the header of unit `hu`; an armed unit ignores it (R619). -/
def execStageDiscard (hu : Nat) (s : State) : Res := .next (if s.bit F.UNIT_STATUS_ARMED hu then s else s.discard hu)

end Sys2Proof.Machine
end

