-- ==== Sys2Proof/Machine/DebugPort.lean ====
section
/-!
DEFINITION. The access of the debug port to the registers of the debug block (R719 to R722).
-/
namespace Sys2Proof.Machine

/-- The least level at which the port reaches an offset of the debug block (R722, Table 25.6). -/
def dpLevel (off : Nat) : Nat :=
  if off = 0x100 ∨ off = 0x108 ∨ (0x110 ≤ off ∧ off ≤ 0x128) ∨ (0x200 ≤ off ∧ off < 0x300) then 0
  else if (0x400 ≤ off ∧ off ≤ 0x430) ∨ (0x800 ≤ off ∧ off < 0x1000) ∨ (0x1000 ≤ off ∧ off ≤ 0x1208) then 1
  else 2

/-- Every field of a register is WO. -/
def allWo (r : Reg) : Bool := r.fields.all (fun f => f.acc == .wo)

/-- An access of the port: STATUS, the data read, and the state (R720). -/
def dpAccess (op reg data : Nat) (s : State) : Nat × Nat × State :=
  let off := 8 * reg
  match placeSingle s portInit 10 .dbg off with
  | .reg x =>
    if op = 1 && allWo x.r then (2, 0, s)
    else if dbgLevel s < dpLevel off then (3, 0, s)
    else if op = 1 then let r := regRead portInit x true true s; (0, r.1, r.2)
    else (0, 0, (regWrite portInit x data true true s).2)
  | _ => (2, 0, s)

/-- An access that waits completes once the NoC domain runs (R720). -/
def dpPoll (s : State) : State :=
  match s.dbg.wait with
  | some (op, reg, data) =>
    if csrRuns s then
      let r := dpAccess op reg data s
      { r.2.2 with dbg := { r.2.2.dbg with wait := none, status := r.1, reg := reg, data := r.2.1 } }
    else s
  | none => s

/-- What Capture-DR of DPACC loads (Table 25.2): the outcome of the last access started. -/
def dpCapture (s : State) : Nat :=
  if s.dbg.wait.isSome then 1 + s.dbg.reg * 4 else s.dbg.status + s.dbg.reg * 4 + s.dbg.data * 2 ^ 12

/-- R719. One scan of DPACC: Capture-DR shows the outcome of the last access, and Update-DR starts the access that OP names,
unless the last one has not completed. With another instruction in force the scan is that of its own data register. -/
def execDpaccAccess (op reg data : Nat) (s : State) : Res :=
  .next (
    if !tapOn s then s
    else if s.dbg.ir != 0x10 then drOther s
    else
      let s1 := dpPoll s
      let s2 := s1.emit (.reply portInit 0 (bytesLE 10 (dpCapture s1)))
      if (op != 1 && op != 2) || s1.dbg.wait.isSome then s2
      else dpPoll { s2 with dbg := { s2.dbg with wait := some (op, reg % 1024, data % 2 ^ 64), reg := reg % 1024, status := 1, data := 0 } })

end Sys2Proof.Machine
end

