-- ==== Sys2Proof/Machine/VireloNoc.lean ====
section
/-!
DEFINITION. Responses to the requests of the control cores (Table 14.7, R225, R249, R253 to R255, Table 7.12).
-/
namespace Sys2Proof.Machine

/-- A line enters core `c`'s instruction cache (Table 7.1: 64 sets of 8 lines); a full set gives up a line that the spec
does not choose. -/
def vifill (c a key : Nat) (s : State) : State :=
  let set := (s.vc.get c).icache.filter (fun m => m.1 / 64 % 64 == a / 64 % 64)
  if set.length < 8 then s.updVc c (fun k => { k with icache := k.icache ++ [(a, key)] })
  else
    let (r, s1) := s.fresh
    match set[r.toNat % 8]? with
    | some old => s1.updVc c (fun k => { k with icache := k.icache.erase old ++ [(a, key)] })
    | none => s1

/-- An error response to a posted store or an evicted line (R254). -/
def vstoreErr (c code addr : Nat) (s : State) : State :=
  let s1 := s.bump F.SERR_COUNT c
  if s.bit F.SERR_VALID c then s1
  else (((s1.setFld F.SERR_ADDR_ADDR c 0 addr).setFld F.SERR_CODE c 0 code).setBit F.SERR_VALID c).updVc c (fun k => { k with sbus := true })

/-- A precise error of an access at `a`: BUS with the code, or POISON when `st` is 0x100 (R225). -/
def vaccErr (c access a st : Nat) (s : State) : State :=
  if st = 0x100 then vtrapAt c cPOISON access (BitVec.ofNat 64 a) 0 s else vtrapAt c cBUS access (BitVec.ofNat 64 a) st s

/-- The response to the read that core `c` waits for: `st` its status, 0x100 when a beat is poisoned. A store whose line cannot be
filled is lost and reported through SERR (R253); for a poisoned line, which is not allocated (Table 14.7), the spec gives no CODE: a
free value (log entry 29). -/
def vread (c : Nat) (p : Packet) (st : Nat) (d : List Byte) (s : State) : State :=
  let ln : DLine := { a := sysAddr p.dev p.addr, key := p.keyid, dirty := false, data := d }
  match (s.vc.get c).wait with
  | .fetch a line =>
    let s1 := s.updVc c (fun k => { k with wait := .none })
    if st ≠ 0 then s1.updVc c (fun k => { k with fetchErr := st })
    else if line then vifill c (sysAddr p.dev p.addr) p.keyid s1 else s1.updVc c (fun k => { k with fetched := some a })
  | .load rd w sgn a => if st ≠ 0 then vaccErr c 2 a st s else vloaded c rd w sgn a (ofBytesLE d) s
  | .atomic rd kind a => if st ≠ 0 then vaccErr c 2 a st s else vatomicDone c rd kind a (s.vget c rd) (BitVec.ofNat 64 (ofBytesLE d)) s
  | .fillLoad rd w sgn a =>
    if st ≠ 0 then vaccErr c 2 a st s else vloaded c rd w sgn a (ofBytesLE (ln.bytes a w)) (vfill c ln s)
  | .fillStore w v a =>
    if st ≠ 0 then
      let (g, s1) := s.fresh
      vdone c a w false true (vstoreErr c (if st = 0x100 then g.toNat % 256 else st) a (if st = 0x100 then s1 else s))
    else vdone c a w false true (vfill c (ln.write a (bytesLE w v)) s)
  | .fillWin fill a =>
    if st ≠ 0 then vaccErr c (if fill then 2 else 3) a st s else vwindow c fill (BitVec.ofNat 64 a) (vfill c ln s)
  | _ => s

/-- The acknowledgement of a write-back of a cache instruction: the line becomes clean or invalid, or stays dirty after
an error, which is a precise BUS trap once every write-back has been answered. -/
def vwbDone (c : Nat) (p : Packet) (st : Nat) (s : State) : State :=
  match (s.vc.get c).wait with
  | .maint n a inv err =>
    let mine (l : DLine) : Bool := l.a == sysAddr p.dev p.addr && l.key == p.keyid
    let s1 := if st ≠ 0 then s
      else s.updVc c (fun k => { k with dcache := if inv then k.dcache.filter (fun l => !mine l)
                                                  else k.dcache.map (fun l => if mine l then { l with dirty := false } else l) })
    let e := if err ≠ 0 then err else st
    let at_ := if err ≠ 0 then a else if st ≠ 0 then sysAddr p.dev p.addr else a
    if n ≤ 1 then (if e ≠ 0 then vtrapAt c cBUS 2 (BitVec.ofNat 64 at_) e s1 else vretire c s1)
    else s1.updVc c (fun k => { k with wait := .maint (n - 1) at_ inv e })
  | _ => s

/-- The error that 12 accesses keep, as status + 1024 x (access + 1): BUS ranks before POISON (R241), then the lower access. -/
def winErr (err k st : Nat) : Nat :=
  let e := st + 1024 * (k + 1)
  let rank (x : Nat) : Nat := ofBool (x % 1024 == 0x100) * 1024 + x / 1024
  if st = 0 then err else if err = 0 ∨ rank e < rank err then e else err

/-- The access of a kept error. -/
def winErrAddr (err ea : Nat) : Nat := (winAddr (BitVec.ofNat 64 ea) (err / 1024 - 1)).toNat

/-- The response to access `k` of a SPILL or FILL (R249). -/
def vwinDone (c k st : Nat) (d : List Byte) (s : State) : State :=
  match (s.vc.get c).wait with
  | .spill n err ea =>
    let e := winErr err k st
    if n ≤ 1 then (if e ≠ 0 then vaccErr c 3 (winErrAddr e ea) (e % 1024) s else vspillDone c ea s)
    else s.updVc c (fun v => { v with wait := .spill (n - 1) e ea })
  | .fill n err ea ws =>
    let e := winErr err k st
    let ws' := ws ++ [(k, ofBytesLE d)]
    if n ≤ 1 then (if e ≠ 0 then vaccErr c 2 (winErrAddr e ea) (e % 1024) s else vfillDone c ea ws' s)
    else s.updVc c (fun v => { v with wait := .fill (n - 1) e ea ws' })
  | _ => s

end Sys2Proof.Machine
end

