-- ==== Sys2Proof/Machine/NocServe.lean ====
section
/-!
DEFINITION. The commands of the on-chip network (R402 to R429): requests enter it, routers forward packets, responses are
delivered to their initiators, timers expire, routes change, and the trace writer.
-/
namespace Sys2Proof.Machine

/-- The network has a clock. -/
def nocRuns (s : State) : Bool := s.vin && s.dev == .run && domRuns s 0

/-! ### Routes around routers that are out of service (R405, R700) -/

/-- A router is to be gone around: it is under test, or it has failed. -/
def rtrOut (s : State) (r : Router) : Bool := underTest s 8 r || rtrBad s r

/-- The routers that routes are to go around. -/
def wantedOut (s : State) : List Router := (List.range 96).filter (rtrOut s)

/-- A route changes between two sets of routers to go around. -/
def routeMoves (o n : List Router) (src dst : Router) : Bool := routePath o src dst != routePath n src dst

/-- A packet has left its first router and has not left its last one. -/
def Hop.moving (h : Hop) : Bool := !h.arrived && h.at_ != h.src

/-- The set of routers to go around, with `r` entered or taken out. -/
def toggleOut (s : State) (r : Router) : List Router :=
  if s.noRouter.contains r then s.noRouter.filter (fun x => x != r) else sortNat (r :: s.noRouter)

/-- R405. Routes through router `r` change, once every packet on an old route has been delivered. -/
def execRouteChange (r : Nat) (s : State) : Res :=
  .next (if r < 96 && s.noRouter.contains r != rtrOut s r &&
      !s.hops.any (fun h => h.moving && (h.at_ == r || routeMoves s.noRouter (toggleOut s r) h.src h.dst))
    then { s with noRouter := toggleOut s r } else s)

/-! ### Issuing a request (R412 to R415, R422, R424) -/

/-- A new request must wait for an earlier one of its initiator that is out (R412). -/
def waitsFor (p : Packet) (target : Nat) (e : Req) : Bool :=
  e.phase == 1 && (e.pkt.cls == 0 || e.pkt.cls == 3) && e.target != target &&
  !(p.opc == opREAD && (e.pkt.opc == opWRITE || e.pkt.opc == opMWRITE))

/-- Whether a waiting request may enter the network: the ordering rule, a free place at its first router, a BAR read after
the answers to earlier BAR writes (R552), and no change of its route that is still to come (R405). -/
def mayIssue (s : State) (before : List Req) (q : Req) (tag : Nat) : Bool :=
  let r := initRouter q.pkt.init
  let mine := s.reqs.filter (fun e => e.pkt.init == q.pkt.init)
  let ordered := q.pkt.cls == 0 || q.pkt.cls == 3
  tag < 256 && mine.all (fun e => e.phase == 0 || e.pkt.tag != tag) &&
  (!ordered || (mine.all (fun e => !waitsFor q.pkt q.target e) &&
    before.all (fun e => e.pkt.init != q.pkt.init || e.phase != 0 || (e.pkt.cls != 0 && e.pkt.cls != 3)))) &&
  (match q.why with
   | .barRead .. => before.all (fun e => match e.why with | .barWrite .. => 2 ≤ e.phase | _ => true)
   | _ => true) &&
  !s.noRouter.contains r && portRoom s q.pkt &&
  (match packetRouter s q.pkt with
   | some d => !routeMoves s.noRouter (wantedOut s) r d
   | none => true)

/-- Request number `k` of the list enters the network with a tag. -/
def issueReq (k tag : Nat) (q : Req) (s : State) : State :=
  let g := s.tgen.get (q.pkt.init * 256 + tag)
  let p : Packet := { q.pkt with tag := tag, tgen := g == 1 }
  let s1 := { s with reqs := s.reqs.set k { q with pkt := p, phase := 1, toExp := timerExp s p.init },
                     tgen := s.tgen.set (p.init * 256 + tag) (1 - g) }
  s1.enter (initRouter p.init) (initPort p.init) p

/-- R412. Initiator `init` issues its `k`-th waiting request with a tag that is free. -/
def execNocRequestIssue (init k tag : Nat) (s : State) : Res :=
  .next (
    match (s.reqs.zipIdx.filter (fun e => e.1.pkt.init == init && e.1.phase == 0))[k]? with
    | none => s
    | some (q, i) => if nocRuns s && mayIssue s (s.reqs.take i) q tag then issueReq i tag q s else s)

/-! ### Forwarding (R402, R411, R416) -/

/-- The output that a packet wants at its router: the next router, or 1024 + the port of a unit. -/
def hopOut (s : State) (h : Hop) : Nat :=
  if h.at_ = h.dst then 1024 + packetPort s h.pkt else nextHop s.noRouter h.src h.dst h.at_

/-- An input or output of a router as its port number. -/
def portNum (r x : Nat) : Nat := if 1024 ≤ x then x - 1024 else linkPort r x

/-- The packet heads of a router: the first packet of each input and class. -/
def hopHeads (s : State) (r : Router) : List Hop :=
  (s.hops.filter (fun h => !h.arrived && h.at_ == r)).foldl
    (fun (a : List Hop) h => if a.any (fun x => x.inp == h.inp && x.pkt.cls == h.pkt.cls) then a else a ++ [h]) []

/-- A packet can leave through its output: the next router is in service and has room in its class, a port that leads to
another device is UP and does not wait for its old route to drain (R586). -/
def canLeave (s : State) (h : Hop) (out : Nat) : Bool :=
  !s.noRouter.contains h.at_ &&
  !(h.at_ == h.src && routeMoves s.noRouter (wantedOut s) h.src h.dst) &&
  (if out < 1024 then
     (if s.noRouter.contains out then rtrBad s out && h.pkt.opc < 8
      else inputRoom s out h.at_ h.pkt)
   else packetDev h.pkt == s.fld F.DEV_ID ||
     (!s.disco.drain.contains (packetDev h.pkt) &&
      (match exitPort s (packetDev h.pkt) with | some w => s.fld F.WARP_STATUS_STATE w == 3 | none => true)))

/-- The rank of a head in the order of R416; `aged` lists 4 x input port + class of requests that have waited 512 cycles. -/
def headRank (r : Router) (aged : List Nat) (h : Hop) : Nat :=
  if h.pkt.cls = 2 then 5 else if h.pkt.cls = 3 then 4
  else if aged.contains (4 * portNum r h.inp + h.pkt.cls) then 3 else h.pkt.prio

/-- How far a head lies behind the last grant of its output, in round-robin order over the inputs, and within an input over
the two classes. -/
def headTurn (s : State) (r out : Nat) (h : Hop) : Nat :=
  let key := 64 * (16 * r + portNum r out)
  let i := portNum r h.inp
  let last := s.nocRr.get key
  (i + 32 - last) % 32 * 2 + (if s.nocRr.get (key + 1 + i) = h.pkt.cls + 1 then 1 else 0)

/-- The head that an output grants. -/
def grantHead (s : State) (r out : Nat) (aged : List Nat) : Option Hop :=
  ((hopHeads s r).filter (fun h => hopOut s h == out && canLeave s h out)).foldl (fun (b : Option Hop) h =>
    match b with
    | none => some h
    | some x =>
      if headRank r aged x < headRank r aged h ∨ (headRank r aged x = headRank r aged h ∧ headTurn s r out h < headTurn s r out x)
      then some h else b) none

/-- The CSR space serves an access (R36 to R45, R404, R420). -/
def csrServe (p : Packet) (s : State) : State :=
  let off := p.addr % 0x4000_0000
  if p.opc = opREAD then
    let r := csrRead p.init off (p.len + 1) s
    r.2.2.respond p r.1 r.2.1
  else
    let r := csrWrite p.init off (if p.opc = opWRITE then p.len + 1 else 0) (ofBytesLE p.data) (p.pmask != 0) s
    r.2.respond p r.1

/-- A packet leaves its last router: to its target, which refuses a request against Table 14.3, to its initiator, or to the
warp port that leads to its device. -/
def hopDeliver (h : Hop) (s : State) : State :=
  let p := h.pkt
  let s1 := { s with hops := s.hops.erase h }
  if packetDev p = s.fld F.DEV_ID then
    if p.opc < 8 && !packetOk p then s1.respond p eACCESS
    else if p.opc < 8 && targetOf p.addr == .csr then csrServe p s1
    else { s1 with hops := s1.hops ++ [{ h with arrived := true }] }
  else match exitPort s (packetDev p), packetRouter s p with
    | some w, some d =>
      if d = h.at_ then s1.updWp w (fun k => { k with units := k.units ++ unitsOf p })
      else { s1 with hops := s1.hops ++ [{ h with src := h.at_, dst := d }] }
    | _, _ => if p.opc < 8 then s1.refuse h.at_ p eNOROUTE else s1

/-- A packet moves to the next router, or is refused before one that has failed (Table 24.5). -/
def hopMove (h : Hop) (nxt : Router) (s : State) : State :=
  let s1 := { s with hops := s.hops.erase h }
  if s.noRouter.contains nxt then s1.refuse h.at_ h.pkt eUNMAPPED
  else probeAll nxt (linkPort nxt h.at_) 0 h.pkt { s1 with hops := s1.hops ++ [{ h with at_ := nxt, inp := h.at_ }] }

/-- R402. Output `out` of router `r` (the number of a neighbour, or 1024 + the port of a unit) forwards a packet head. -/
def execNocRouterForward (r out : Nat) (aged : List Nat) (s : State) : Res :=
  .next (
    if !nocRuns s then s
    else match grantHead s r out aged with
      | none => s
      | some h =>
        let key := 64 * (16 * r + portNum r out)
        let i := portNum r h.inp
        let s1 := probeAll r (portNum r out) 1 h.pkt
          { s with nocRr := (s.nocRr.set key (i + 1)).set (key + 1 + i) (h.pkt.cls + 1) }
        warpDrain r (if out < 1024 then hopMove h out s1 else hopDeliver h s1))

/-! ### Responses (R417, R418, R421 to R424) -/

/-- The length of the trace ring. -/
def traceSize (s : State) : Nat :=
  let z := s.fld F.TRACE_CFG_SIZE
  2 ^ (if 12 ≤ z ∧ z ≤ 21 then z else 12)

/-- The write of two trace records has been answered (R413, R428): TRACE_WP advances, unless software has moved it; records whose
write failed are counted (Table 14.7). -/
def traceDone (p : Packet) (st : Nat) (s : State) : State :=
  let n := traceSize s
  let s1 := if s.fld F.TRACE_WP_WP % n = p.addr % n then s.setFld F.TRACE_WP_WP 0 0 ((p.addr + 64) % n) else s
  if st ≠ 0 then s1.bump F.TRACE_DROP_COUNT 0 0 2 else s1

/-- The response to request `p` is delivered to what issued it (Table 14.7): status, poison mask, data. -/
def deliver (why : Purpose) (p : Packet) (st pm : Nat) (d : List Byte) (s : State) : State :=
  let stp := if st = 0 ∧ pm ≠ 0 then 0x100 else st
  match why with
  | .ccRead c => vread c p stp d s
  | .ccStore c a => vdrained c (if st ≠ 0 then vstoreErr c st a s else s)
  | .ccWb c => vwbDone c p st s
  | .ccWin c k => vwinDone c k stp d s
  | .scRead n k => scArrived n k st (pm != 0) d s
  | .scStore n a => scDrained n (if st ≠ 0 then scStoreErr n st a s else s)
  | .bay b id => bayAnswer b id st pm d s
  | .barRead tlp k _ _ _ => barGot tlp k st pm d s
  | .barWrite bar off => if st ≠ 0 then barWerr bar off st s else s
  | .debug => nocGot p st pm d s
  | .stream l k => streamArrived l k st s
  | .txs l off => txsArrived l off st (pm != 0) d s
  | .dma q i off n => dmaGot q i off n st pm d s
  | .trace => traceDone p st s
  | .reed _ => ringArrived st s
  | .reedRd sl => bcRead sl st pm d s
  | .dropped =>
    if 0x300 ≤ p.init ∧ p.init < 0x308 then vdrained (p.init - 0x300) s
    else if 0x310 ≤ p.init ∧ p.init < 0x370 then scDrained (p.init - 0x310) s
    else s

/-- A response belongs to a request that is out, or whose tag is held. -/
def answers (p : Packet) (q : Req) : Bool := 1 ≤ q.phase && q.pkt.init == p.init && q.pkt.tag == p.tag && q.pkt.tgen == p.tgen

/-- R421. The oldest response that stands at initiator `init` is delivered; one that matches no outstanding request is
discarded and counted (R424). -/
def execNocResponseArrival (init : Nat) (s : State) : Res :=
  .next (
    match s.hops.find? (fun h => h.arrived && 8 ≤ h.pkt.opc && h.pkt.init == init) with
    | none => s
    | some h =>
      let s1 := { s with hops := s.hops.erase h }
      match s.reqs.find? (answers h.pkt) with
      | none => s1.bump F.NOC_LATE_COUNT
      | some q =>
        let s2 := { s1 with reqs := s1.reqs.erase q }
        if q.phase ≠ 1 then s2.bump F.NOC_LATE_COUNT
        else
          let (d, s3) := freePoison q.pkt h.pkt.pmask h.pkt.data s2
          deliver q.why q.pkt h.pkt.status h.pkt.pmask d s3)

/-- The request of an initiator with a tag, in a phase. -/
def reqOf (s : State) (init tag ph : Nat) : Option Req := s.reqs.find? (fun q => q.phase == ph && q.pkt.init == init && q.pkt.tag == tag)

/-- A response to a request stands at its initiator. -/
def answered (s : State) (q : Req) : Bool := s.hops.any (fun h => h.arrived && 8 ≤ h.pkt.opc && answers h.pkt q)

/-- R422. The limit of a request passes without a response, and the initiator synthesises TIMEOUT; the tag stays held. A response
that has arrived wins (R423). -/
def execNocTimeout (init tag : Nat) (s : State) : Res :=
  .next (
    match reqOf s init tag 1 with
    | none => s
    | some q =>
      if q.toExp = 0 || !nocRuns s || answered s q then s
      else deliver q.why q.pkt eTIMEOUT 0 [] (logTimeout q.pkt { s with reqs := s.reqs.map (fun e => if e = q then { q with phase := 2 } else e) }))

/-- R424. The hold of a tag after a TIMEOUT ends. -/
def execTagHoldExpiry (init tag : Nat) (s : State) : Res :=
  .next (match reqOf s init tag 2 with
    | none => s
    | some q => if nocRuns s then { s with reqs := s.reqs.erase q } else s)

/-! ### The trace writer (R428, R429) -/

/-- A write of the trace writer has not been answered. -/
def traceOut (s : State) : Bool := s.reqs.any (fun r => r.phase < 2 && match r.why with | .trace => true | _ => false)

/-- R428. The trace writer takes two records from its queue and writes them, unless a stopped ring is full. It has one write out at
a time, so that TRACE_WP follows its answer (log entry 51). -/
def execTraceWrite (s : State) : Res :=
  .next (
    match s.traceQ with
    | a :: b :: q =>
      let n := traceSize s
      let wp := s.fld F.TRACE_WP_WP % n
      let nx := (wp + 64) % n
      let s1 := { s with traceQ := q }
      if !nocRuns s || traceOut s then s
      else if s.bit F.TRACE_CFG_STOP && nx == s.fld F.TRACE_RP_RP % n then s1.bump F.TRACE_DROP_COUNT 0 0 2
      else
        let base := s.fld F.TRACE_BASE_BASE * 64 / n * n
        let addr := base + wp
        let p : Packet := { opc := opWRITE, len := 63, addr := addr, dev := s.fld F.DEV_ID, srcdev := s.fld F.DEV_ID, init := 0x4C8,
                            cls := 1, data := a ++ b }
        { s1 with reqs := s1.reqs ++ [{ pkt := p, why := .trace, target := targetKey p }] }
    | _ => s)

end Sys2Proof.Machine
end

