-- ==== Sys2Proof/Machine/VireloAlu.lean ====
section
/-!
DEFINITION. Virelo arithmetic, logic, constants, multiply, divide and shifts (Tables 7.7 to 7.9, R224, R228 to R232):
one meaning for each instruction.
-/
namespace Sys2Proof.Machine

/-- A register form: rd = f(rs1, rs2) with flags (Table 7.5, format R). -/
def valu3 (c rd rs1 rs2 mbz : Nat) (f : Word → Word → Flagged) (s : State) : Res :=
  vop c mbz (fun s => vwriteF c rd (f (s.vget c rs1) (s.vget c rs2)) s) s

/-- A form with an immediate operand already extended. -/
def valuI (c rd rs1 mbz : Nat) (imm : Word) (f : Word → Word → Flagged) (s : State) : Res :=
  vop c mbz (fun s => vwriteF c rd (f (s.vget c rs1) imm) s) s

/-- The C flag of core `c`. -/
def vcarry (s : State) (c : Nat) : Bool := bitOf (s.fld F.FLAGS_NZCV c) 1

/-- A division form (R229): a zero divisor sets DZ, and with TRAPDZ = 1 the DZ trap follows the completed
instruction. -/
def vdivide (c rd rs1 rs2 mbz : Nat) (f : Word → Word → Flagged) (s : State) : Res :=
  vop c mbz (fun s =>
    let pc := s.vpc c
    let b := s.vget c rs2
    let s1 := vwriteF c rd (f (s.vget c rs1) b) (if b = 0 then s.setBit F.FLAGS_DZ c else s)
    if b = 0 && s.bit F.PSTATE_TRAPDZ c then vtrap c cDZ 0 pc (pc + 4) 0 0 s1 else s1) s

/-- R224. ADD: rd = rs1 + rs2. -/
def execAdd (c rd rs1 rs2 mbz : Nat) (s : State) : Res :=
  valu3 c rd rs1 rs2 mbz (fun a b => addF a b false) s

/-- R224. SUB: rd = rs1 - rs2. -/
def execSub (c rd rs1 rs2 mbz : Nat) (s : State) : Res :=
  valu3 c rd rs1 rs2 mbz (fun a b => subF a b false) s

/-- R224. ADC: rd = rs1 + rs2 + C. -/
def execAdc (c rd rs1 rs2 mbz : Nat) (s : State) : Res :=
  valu3 c rd rs1 rs2 mbz (fun a b => addF a b (vcarry s c)) s

/-- R224. SBC: rd = rs1 - rs2 - (1 - C). -/
def execSbc (c rd rs1 rs2 mbz : Nat) (s : State) : Res :=
  valu3 c rd rs1 rs2 mbz (fun a b => subF a b (!vcarry s c)) s

/-- R228. NEG: rd = 0 - rs1. -/
def execNeg (c rd rs1 mbz : Nat) (s : State) : Res :=
  vop c mbz (fun s => vwriteF c rd (subF 0 (s.vget c rs1) false) s) s

/-- R224. CMP: flags of rs1 - rs2, the result discarded. -/
def execCmp (c rs1 rs2 mbz : Nat) (s : State) : Res :=
  vop c mbz (fun s => vwriteF c 0 (subF (s.vget c rs1) (s.vget c rs2) false) s) s

/-- R224. AND. -/
def execAnd (c rd rs1 rs2 mbz : Nat) (s : State) : Res :=
  valu3 c rd rs1 rs2 mbz (fun a b => logicF (a &&& b)) s

/-- R224. OR. -/
def execOr (c rd rs1 rs2 mbz : Nat) (s : State) : Res :=
  valu3 c rd rs1 rs2 mbz (fun a b => logicF (a ||| b)) s

/-- R224. XOR. -/
def execXor (c rd rs1 rs2 mbz : Nat) (s : State) : Res :=
  valu3 c rd rs1 rs2 mbz (fun a b => logicF (a ^^^ b)) s

/-- R224. ANDN: rs1 AND NOT rs2. -/
def execAndn (c rd rs1 rs2 mbz : Nat) (s : State) : Res :=
  valu3 c rd rs1 rs2 mbz (fun a b => logicF (a &&& ~~~b)) s

/-- R224. MIN: the smaller, signed. -/
def execMin (c rd rs1 rs2 mbz : Nat) (s : State) : Res :=
  valu3 c rd rs1 rs2 mbz (fun a b => logicF (if a.toInt ≤ b.toInt then a else b)) s

/-- R224. MAX: the larger, signed. -/
def execMax (c rd rs1 rs2 mbz : Nat) (s : State) : Res :=
  valu3 c rd rs1 rs2 mbz (fun a b => logicF (if a.toInt ≤ b.toInt then b else a)) s

/-- R224. MINU: the smaller, unsigned. -/
def execMinu (c rd rs1 rs2 mbz : Nat) (s : State) : Res :=
  valu3 c rd rs1 rs2 mbz (fun a b => logicF (if a.toNat ≤ b.toNat then a else b)) s

/-- R224. MAXU: the larger, unsigned. -/
def execMaxu (c rd rs1 rs2 mbz : Nat) (s : State) : Res :=
  valu3 c rd rs1 rs2 mbz (fun a b => logicF (if a.toNat ≤ b.toNat then b else a)) s

/-- R224. CLZ: leading zero bits of rs1. -/
def execClz (c rd rs1 mbz : Nat) (s : State) : Res :=
  vop c mbz (fun s => vwriteF c rd (logicF (BitVec.ofNat 64 (clz (s.vget c rs1)))) s) s

/-- R224. POPC: bits set in rs1. -/
def execPopc (c rd rs1 mbz : Nat) (s : State) : Res :=
  vop c mbz (fun s => vwriteF c rd (logicF (BitVec.ofNat 64 (popc (s.vget c rs1)))) s) s

/-- R222. ADDI: rd = rs1 + imm, sign-extended. -/
def execAddi (c rd rs1 : Nat) (imm : BitVec 16) (s : State) : Res :=
  valuI c rd rs1 0 (imm.signExtend 64) (fun a b => addF a b false) s

/-- R222. CMPI: flags of rs1 - imm. -/
def execCmpi (c rs1 : Nat) (imm : BitVec 16) (mbz : Nat) (s : State) : Res :=
  valuI c 0 rs1 mbz (imm.signExtend 64) (fun a b => subF a b false) s

/-- R222. ANDI: imm zero-extended. -/
def execAndi (c rd rs1 : Nat) (imm : BitVec 16) (s : State) : Res :=
  valuI c rd rs1 0 (imm.zeroExtend 64) (fun a b => logicF (a &&& b)) s

/-- R222. ORI: imm zero-extended. -/
def execOri (c rd rs1 : Nat) (imm : BitVec 16) (s : State) : Res :=
  valuI c rd rs1 0 (imm.zeroExtend 64) (fun a b => logicF (a ||| b)) s

/-- R222. XORI: imm zero-extended. -/
def execXori (c rd rs1 : Nat) (imm : BitVec 16) (s : State) : Res :=
  valuI c rd rs1 0 (imm.zeroExtend 64) (fun a b => logicF (a ^^^ b)) s

/-- R221. SETW: rd = imm << 16q. -/
def execSetw (c rd q : Nat) (imm : BitVec 16) (mbz : Nat) (s : State) : Res :=
  vop c mbz (fun s => vretire c (s.vset c rd (imm.zeroExtend 64 <<< (16 * (q % 4))))) s

/-- R221. INSW: bits [16q + 15:16q] of rd = imm, other bits kept. -/
def execInsw (c rd q : Nat) (imm : BitVec 16) (mbz : Nat) (s : State) : Res :=
  vop c mbz (fun s =>
    let m : Word := (0xFFFF : Word) <<< (16 * (q % 4))
    vretire c (s.vset c rd ((s.vget c rd &&& ~~~m) ||| (imm.zeroExtend 64 <<< (16 * (q % 4)))))) s

/-- R224. MUL: low 64 bits. -/
def execMul (c rd rs1 rs2 mbz : Nat) (s : State) : Res :=
  valu3 c rd rs1 rs2 mbz (mulF) s

/-- R224. MULH: high 64 bits, signed. -/
def execMulh (c rd rs1 rs2 mbz : Nat) (s : State) : Res :=
  valu3 c rd rs1 rs2 mbz (mulhF) s

/-- R224. MULHU: high 64 bits, unsigned. -/
def execMulhu (c rd rs1 rs2 mbz : Nat) (s : State) : Res :=
  valu3 c rd rs1 rs2 mbz (mulhuF) s

/-- R229, R230. DIV, truncated toward zero. -/
def execDiv (c rd rs1 rs2 mbz : Nat) (s : State) : Res :=
  vdivide c rd rs1 rs2 mbz divF s

/-- R229, R230. DIVU. -/
def execDivu (c rd rs1 rs2 mbz : Nat) (s : State) : Res :=
  vdivide c rd rs1 rs2 mbz divuF s

/-- R229, R230. REM. -/
def execRem (c rd rs1 rs2 mbz : Nat) (s : State) : Res :=
  vdivide c rd rs1 rs2 mbz remF s

/-- R229, R230. REMU. -/
def execRemu (c rd rs1 rs2 mbz : Nat) (s : State) : Res :=
  vdivide c rd rs1 rs2 mbz remuF s

/-- R231, R232. SLL by rs2, the amount never masked. -/
def execSll (c rd rs1 rs2 mbz : Nat) (s : State) : Res :=
  valu3 c rd rs1 rs2 mbz (fun a b => sllF a b.toNat) s

/-- R231, R232. SRL by rs2, the amount never masked. -/
def execSrl (c rd rs1 rs2 mbz : Nat) (s : State) : Res :=
  valu3 c rd rs1 rs2 mbz (fun a b => srlF a b.toNat) s

/-- R231, R232. SRA by rs2, the amount never masked. -/
def execSra (c rd rs1 rs2 mbz : Nat) (s : State) : Res :=
  valu3 c rd rs1 rs2 mbz (fun a b => sraF a b.toNat) s

/-- R231, R232. ROR by rs2, the amount never masked. -/
def execRor (c rd rs1 rs2 mbz : Nat) (s : State) : Res :=
  valu3 c rd rs1 rs2 mbz (fun a b => rorF a b.toNat) s

/-- R231, R232. SLLI by an amount 0 to 127. -/
def execSlli (c rd rs1 amt mbz : Nat) (s : State) : Res :=
  vop c mbz (fun s => vwriteF c rd (sllF (s.vget c rs1) (amt % 128)) s) s

/-- R231, R232. SRLI by an amount 0 to 127. -/
def execSrli (c rd rs1 amt mbz : Nat) (s : State) : Res :=
  vop c mbz (fun s => vwriteF c rd (srlF (s.vget c rs1) (amt % 128)) s) s

/-- R231, R232. SRAI by an amount 0 to 127. -/
def execSrai (c rd rs1 amt mbz : Nat) (s : State) : Res :=
  vop c mbz (fun s => vwriteF c rd (sraF (s.vget c rs1) (amt % 128)) s) s

/-- R231, R232. RORI by an amount 0 to 127. -/
def execRori (c rd rs1 amt mbz : Nat) (s : State) : Res :=
  vop c mbz (fun s => vwriteF c rd (rorF (s.vget c rs1) (amt % 128)) s) s

end Sys2Proof.Machine
end

