-- ==== Sys2Proof/Machine/Dispatch.lean ====
section
/-!
DEFINITION. The effect of each command: one arm per constructor of `Instr`, each a direct call of its meaning.
-/
namespace Sys2Proof.Machine

/-- The effect of a command on everything but the queue. -/
def exec (i : Instr) (s : State) : Host.Outcome State Fault Refusal :=
  match i with
  | .csrWrite init off n d => Sys2Proof.Machine.execCsrWrite init off n d s
  | .stageWrite init off n v edge => Sys2Proof.Machine.execStageWrite init off n v edge s
  | .stageDiscard hu => Sys2Proof.Machine.execStageDiscard hu s
  | .pickBoundary parity => Sys2Proof.Machine.execPickBoundary parity s
  | .bayHoldReset b => Sys2Proof.Machine.execBayHoldReset b s
  | .bayPoisonClear b => Sys2Proof.Machine.execBayPoisonClear b s
  | .bayPortRequest b id handle off opc n atop mask pm rlx d => Sys2Proof.Machine.execBayPortRequest b id handle off opc n atop mask pm rlx d s
  | .bayPortResponseDeliver b => Sys2Proof.Machine.execBayPortResponseDeliver b s
  | .bayTargetRequest b ans => Sys2Proof.Machine.execBayTargetRequest b ans s
  | .holdStageEffect inst => Sys2Proof.Machine.execHoldStageEffect inst s
  | .memBlockAccess b k ea xa eb xb bLater => Sys2Proof.Machine.execMemBlockAccess b k ea xa eb xb bLater s
  | .blockCorrWriteback b k => Sys2Proof.Machine.execBlockCorrWriteback b k s
  | .blockWindowAccess b => Sys2Proof.Machine.execBlockWindowAccess b s
  | .spadRequestAccept b => Sys2Proof.Machine.execSpadRequestAccept b s
  | .spadGrant b => Sys2Proof.Machine.execSpadGrant b s
  | .spadCorrWriteback b => Sys2Proof.Machine.execSpadCorrWriteback b s
  | .spbPwrReqWrite b v => Sys2Proof.Machine.execSpbPwrReqWrite b v s
  | .spadPwrTransitionDone b => Sys2Proof.Machine.execSpadPwrTransitionDone b s
  | .spbZero b => Sys2Proof.Machine.execSpbZero b s
  | .spadZeroFillDone b => Sys2Proof.Machine.execSpadZeroFillDone b s
  | .sliceOperation b k xs => Sys2Proof.Machine.execSliceOperation b k xs s
  | .sliceCoefWrite b k addr data => Sys2Proof.Machine.execSliceCoefWrite b k addr data s
  | .sliceSwapReq b k => Sys2Proof.Machine.execSliceSwapReq b k s
  | .lload c rd rs1 mbz => Sys2Proof.Machine.execLload c rd rs1 mbz s
  | .imageRecord => Sys2Proof.Machine.execImageRecord s
  | .imageTrailer => Sys2Proof.Machine.execImageTrailer s
  | .imagePass => Sys2Proof.Machine.execImagePass s
  | .loadRegionZeroDone => Sys2Proof.Machine.execLoadRegionZeroDone s
  | .lrel c rd rs1 mbz => Sys2Proof.Machine.execLrel c rd rs1 mbz s
  | .lhold c rd rs1 mbz => Sys2Proof.Machine.execLhold c rd rs1 mbz s
  | .lfree c rd rs1 mbz => Sys2Proof.Machine.execLfree c rd rs1 mbz s
  | .lplace c rd rs1 mbz => Sys2Proof.Machine.execLplace c rd rs1 mbz s
  | .lsnap c rd rs1 mbz => Sys2Proof.Machine.execLsnap c rd rs1 mbz s
  | .lrest c rd rs1 mbz => Sys2Proof.Machine.execLrest c rd rs1 mbz s
  | .lmigr c rd rs1 mbz => Sys2Proof.Machine.execLmigr c rd rs1 mbz s
  | .lscrubSetRate c rd rs1 mbz => Sys2Proof.Machine.execLscrubSetRate c rd rs1 mbz s
  | .lscrubOnePass c rd rs1 mbz => Sys2Proof.Machine.execLscrubOnePass c rd rs1 mbz s
  | .lscrubContOn c rd rs1 mbz => Sys2Proof.Machine.execLscrubContOn c rd rs1 mbz s
  | .lscrubContOff c rd rs1 mbz => Sys2Proof.Machine.execLscrubContOff c rd rs1 mbz s
  | .lread c rd rs1 mbz => Sys2Proof.Machine.execLread c rd rs1 mbz s
  | .lkeyLoad c rd rs1 mbz => Sys2Proof.Machine.execLkeyLoad c rd rs1 mbz s
  | .lkeyErase c rd rs1 mbz => Sys2Proof.Machine.execLkeyErase c rd rs1 mbz s
  | .lkeyWrap c rd rs1 mbz => Sys2Proof.Machine.execLkeyWrap c rd rs1 mbz s
  | .labort c rd rs1 mbz => Sys2Proof.Machine.execLabort c rd rs1 mbz s
  | .lwait c rd rs1 mbz => Sys2Proof.Machine.execLwait c rd rs1 mbz s
  | .lstat c rd rs1 mbz => Sys2Proof.Machine.execLstat c rd rs1 mbz s
  | .lnext c rd rs1 mbz => Sys2Proof.Machine.execLnext c rd rs1 mbz s
  | .lexit c rd rs1 mbz => Sys2Proof.Machine.execLexit c rd rs1 mbz s
  | .loomCommandStart t => Sys2Proof.Machine.execLoomCommandStart t s
  | .loomCommandComplete t => Sys2Proof.Machine.execLoomCommandComplete t s
  | .intakeTakeEntry c => Sys2Proof.Machine.execIntakeTakeEntry c s
  | .intakePackageChecked c => Sys2Proof.Machine.execIntakePackageChecked c s
  | .completionEntryWrite c => Sys2Proof.Machine.execCompletionEntryWrite c s
  | .heddleOriginRequest => Sys2Proof.Machine.execHeddleOriginRequest s
  | .spoolPlacement => Sys2Proof.Machine.execSpoolPlacement s
  | .spoolZeroFillDone => Sys2Proof.Machine.execSpoolZeroFillDone s
  | .poolEnable p v => Sys2Proof.Machine.execPoolEnable p v s
  | .spoolMoveGo id p => Sys2Proof.Machine.execSpoolMoveGo id p s
  | .spoolMoveCommit atPick => Sys2Proof.Machine.execSpoolMoveCommit atPick s
  | .spoolMoveCancel => Sys2Proof.Machine.execSpoolMoveCancel s
  | .migrationCopyDone t => Sys2Proof.Machine.execMigrationCopyDone t s
  | .migrationRestoreDone t => Sys2Proof.Machine.execMigrationRestoreDone t s
  | .migrationEraseDone t => Sys2Proof.Machine.execMigrationEraseDone t s
  | .scrubFrame => Sys2Proof.Machine.execScrubFrame s
  | .bayScrubWrite b v => Sys2Proof.Machine.execBayScrubWrite b v s
  | .captureStreamDone => Sys2Proof.Machine.execCaptureStreamDone s
  | .add c rd rs1 rs2 mbz => Sys2Proof.Machine.execAdd c rd rs1 rs2 mbz s
  | .sub c rd rs1 rs2 mbz => Sys2Proof.Machine.execSub c rd rs1 rs2 mbz s
  | .adc c rd rs1 rs2 mbz => Sys2Proof.Machine.execAdc c rd rs1 rs2 mbz s
  | .sbc c rd rs1 rs2 mbz => Sys2Proof.Machine.execSbc c rd rs1 rs2 mbz s
  | .neg c rd rs1 mbz => Sys2Proof.Machine.execNeg c rd rs1 mbz s
  | .cmp c rs1 rs2 mbz => Sys2Proof.Machine.execCmp c rs1 rs2 mbz s
  | .and c rd rs1 rs2 mbz => Sys2Proof.Machine.execAnd c rd rs1 rs2 mbz s
  | .or c rd rs1 rs2 mbz => Sys2Proof.Machine.execOr c rd rs1 rs2 mbz s
  | .xor c rd rs1 rs2 mbz => Sys2Proof.Machine.execXor c rd rs1 rs2 mbz s
  | .andn c rd rs1 rs2 mbz => Sys2Proof.Machine.execAndn c rd rs1 rs2 mbz s
  | .min c rd rs1 rs2 mbz => Sys2Proof.Machine.execMin c rd rs1 rs2 mbz s
  | .max c rd rs1 rs2 mbz => Sys2Proof.Machine.execMax c rd rs1 rs2 mbz s
  | .minu c rd rs1 rs2 mbz => Sys2Proof.Machine.execMinu c rd rs1 rs2 mbz s
  | .maxu c rd rs1 rs2 mbz => Sys2Proof.Machine.execMaxu c rd rs1 rs2 mbz s
  | .clz c rd rs1 mbz => Sys2Proof.Machine.execClz c rd rs1 mbz s
  | .popc c rd rs1 mbz => Sys2Proof.Machine.execPopc c rd rs1 mbz s
  | .addi c rd rs1 imm => Sys2Proof.Machine.execAddi c rd rs1 imm s
  | .cmpi c rs1 imm mbz => Sys2Proof.Machine.execCmpi c rs1 imm mbz s
  | .andi c rd rs1 imm => Sys2Proof.Machine.execAndi c rd rs1 imm s
  | .ori c rd rs1 imm => Sys2Proof.Machine.execOri c rd rs1 imm s
  | .xori c rd rs1 imm => Sys2Proof.Machine.execXori c rd rs1 imm s
  | .setw c rd q imm mbz => Sys2Proof.Machine.execSetw c rd q imm mbz s
  | .insw c rd q imm mbz => Sys2Proof.Machine.execInsw c rd q imm mbz s
  | .mul c rd rs1 rs2 mbz => Sys2Proof.Machine.execMul c rd rs1 rs2 mbz s
  | .mulh c rd rs1 rs2 mbz => Sys2Proof.Machine.execMulh c rd rs1 rs2 mbz s
  | .mulhu c rd rs1 rs2 mbz => Sys2Proof.Machine.execMulhu c rd rs1 rs2 mbz s
  | .div c rd rs1 rs2 mbz => Sys2Proof.Machine.execDiv c rd rs1 rs2 mbz s
  | .divu c rd rs1 rs2 mbz => Sys2Proof.Machine.execDivu c rd rs1 rs2 mbz s
  | .rem c rd rs1 rs2 mbz => Sys2Proof.Machine.execRem c rd rs1 rs2 mbz s
  | .remu c rd rs1 rs2 mbz => Sys2Proof.Machine.execRemu c rd rs1 rs2 mbz s
  | .sll c rd rs1 rs2 mbz => Sys2Proof.Machine.execSll c rd rs1 rs2 mbz s
  | .srl c rd rs1 rs2 mbz => Sys2Proof.Machine.execSrl c rd rs1 rs2 mbz s
  | .sra c rd rs1 rs2 mbz => Sys2Proof.Machine.execSra c rd rs1 rs2 mbz s
  | .ror c rd rs1 rs2 mbz => Sys2Proof.Machine.execRor c rd rs1 rs2 mbz s
  | .slli c rd rs1 amt mbz => Sys2Proof.Machine.execSlli c rd rs1 amt mbz s
  | .srli c rd rs1 amt mbz => Sys2Proof.Machine.execSrli c rd rs1 amt mbz s
  | .srai c rd rs1 amt mbz => Sys2Proof.Machine.execSrai c rd rs1 amt mbz s
  | .rori c rd rs1 amt mbz => Sys2Proof.Machine.execRori c rd rs1 amt mbz s
  | .ld c rd rs1 imm => Sys2Proof.Machine.execLd c rd rs1 imm s
  | .lw c rd rs1 imm => Sys2Proof.Machine.execLw c rd rs1 imm s
  | .lwu c rd rs1 imm => Sys2Proof.Machine.execLwu c rd rs1 imm s
  | .lh c rd rs1 imm => Sys2Proof.Machine.execLh c rd rs1 imm s
  | .lhu c rd rs1 imm => Sys2Proof.Machine.execLhu c rd rs1 imm s
  | .lb c rd rs1 imm => Sys2Proof.Machine.execLb c rd rs1 imm s
  | .lbu c rd rs1 imm => Sys2Proof.Machine.execLbu c rd rs1 imm s
  | .sd c rs2 rs1 imm => Sys2Proof.Machine.execSd c rs2 rs1 imm s
  | .sw c rs2 rs1 imm => Sys2Proof.Machine.execSw c rs2 rs1 imm s
  | .sh c rs2 rs1 imm => Sys2Proof.Machine.execSh c rs2 rs1 imm s
  | .sb c rs2 rs1 imm => Sys2Proof.Machine.execSb c rs2 rs1 imm s
  | .swap c rd rs1 rs2 mbz => Sys2Proof.Machine.execSwap c rd rs1 rs2 mbz s
  | .fadd c rd rs1 rs2 mbz => Sys2Proof.Machine.execFadd c rd rs1 rs2 mbz s
  | .cas c rd rs1 rs2 mbz => Sys2Proof.Machine.execCas c rd rs1 rs2 mbz s
  | .dcwb c rs1 imm => Sys2Proof.Machine.execDcwb c rs1 imm s
  | .dcinv c rs1 imm => Sys2Proof.Machine.execDcinv c rs1 imm s
  | .dcwbi c rs1 imm => Sys2Proof.Machine.execDcwbi c rs1 imm s
  | .icinv c rs1 imm => Sys2Proof.Machine.execIcinv c rs1 imm s
  | .dcwbAll c mbz => Sys2Proof.Machine.execDcwbAll c mbz s
  | .dcinvAll c mbz => Sys2Proof.Machine.execDcinvAll c mbz s
  | .dcwbiAll c mbz => Sys2Proof.Machine.execDcwbiAll c mbz s
  | .icinvAll c mbz => Sys2Proof.Machine.execIcinvAll c mbz s
  | .spill c rs1 mbz => Sys2Proof.Machine.execSpill c rs1 mbz s
  | .fill c rs1 mbz => Sys2Proof.Machine.execFill c rs1 mbz s
  | .bcc c cond disp => Sys2Proof.Machine.execBcc c cond disp s
  | .bz c rs1 imm mbz => Sys2Proof.Machine.execBz c rs1 imm mbz s
  | .bnz c rs1 imm mbz => Sys2Proof.Machine.execBnz c rs1 imm mbz s
  | .call c disp => Sys2Proof.Machine.execCall c disp s
  | .jmp c disp => Sys2Proof.Machine.execJmp c disp s
  | .callr c rs1 mbz => Sys2Proof.Machine.execCallr c rs1 mbz s
  | .jr c rs1 mbz => Sys2Proof.Machine.execJr c rs1 mbz s
  | .enter c mbz => Sys2Proof.Machine.execEnter c mbz s
  | .leave c mbz => Sys2Proof.Machine.execLeave c mbz s
  | .mfsr c rd sr mbz => Sys2Proof.Machine.execMfsr c rd sr mbz s
  | .mtsr c sr rs1 mbz => Sys2Proof.Machine.execMtsr c sr rs1 mbz s
  | .fenceSl c mbz => Sys2Proof.Machine.execFenceSl c mbz s
  | .fence c mbz => Sys2Proof.Machine.execFence c mbz s
  | .syncI c mbz => Sys2Proof.Machine.execSyncI c mbz s
  | .wait c mbz => Sys2Proof.Machine.execWait c mbz s
  | .eret c mbz => Sys2Proof.Machine.execEret c mbz s
  | .trap c n mbz => Sys2Proof.Machine.execTrap c n mbz s
  | .ccTakeInterrupt c => Sys2Proof.Machine.execCcTakeInterrupt c s
  | .ccTakeSbus c => Sys2Proof.Machine.execCcTakeSbus c s
  | .ccTakeDebug c => Sys2Proof.Machine.execCcTakeDebug c s
  | .ccWake c => Sys2Proof.Machine.execCcWake c s
  | .ccStart c => Sys2Proof.Machine.execCcStart c s
  | .ccReset c => Sys2Proof.Machine.execCcReset c s
  | .cc0Release slotA slotB => Sys2Proof.Machine.execCc0Release slotA slotB s
  | .ccWindowMemoryAccess init c off n wr data => Sys2Proof.Machine.execCcWindowMemoryAccess init c off n wr data s
  | .scMacNop n x1 x2 => Sys2Proof.Machine.execScMacNop n x1 x2 s
  | .scMul n d a b sat uns mbz x1 x2 => Sys2Proof.Machine.execScMul n d a b sat uns mbz x1 x2 s
  | .scMac n d a b sat uns mbz x1 x2 => Sys2Proof.Machine.execScMac n d a b sat uns mbz x1 x2 s
  | .scMsu n d a b sat uns mbz x1 x2 => Sys2Proof.Machine.execScMsu n d a b sat uns mbz x1 x2 s
  | .scDmul n d a b sat uns mbz x1 x2 => Sys2Proof.Machine.execScDmul n d a b sat uns mbz x1 x2 s
  | .scDmac n d a b sat uns mbz x1 x2 => Sys2Proof.Machine.execScDmac n d a b sat uns mbz x1 x2 s
  | .scDmsu n d a b sat uns mbz x1 x2 => Sys2Proof.Machine.execScDmsu n d a b sat uns mbz x1 x2 s
  | .scPmul n d a b sat uns mbz x1 x2 => Sys2Proof.Machine.execScPmul n d a b sat uns mbz x1 x2 s
  | .scPmac n d a b sat uns mbz x1 x2 => Sys2Proof.Machine.execScPmac n d a b sat uns mbz x1 x2 s
  | .scAccadd n d src sat uns mbz x1 x2 => Sys2Proof.Machine.execScAccadd n d src sat uns mbz x1 x2 s
  | .scAccsub n d src sat uns mbz x1 x2 => Sys2Proof.Machine.execScAccsub n d src sat uns mbz x1 x2 s
  | .scAccld n d a k uns mbz x1 x2 => Sys2Proof.Machine.execScAccld n d a k uns mbz x1 x2 s
  | .scAccsra n d k mbz x1 x2 => Sys2Proof.Machine.execScAccsra n d k mbz x1 x2 s
  | .scAccclr n d mbz x1 x2 => Sys2Proof.Machine.execScAccclr n d mbz x1 x2 s
  | .scExt n src rd shift rnd sat24 uns mbz x1 x2 => Sys2Proof.Machine.execScExt n src rd shift rnd sat24 uns mbz x1 x2 s
  | .scSmin n d a f dual u abs mbz x1 x2 => Sys2Proof.Machine.execScSmin n d a f dual u abs mbz x1 x2 s
  | .scSmax n d a f dual u abs mbz x1 x2 => Sys2Proof.Machine.execScSmax n d a f dual u abs mbz x1 x2 s
  | .scAdd n a b rd sat mbz x1 x2 => Sys2Proof.Machine.execScAdd n a b rd sat mbz x1 x2 s
  | .scSub n a b rd sat mbz x1 x2 => Sys2Proof.Machine.execScSub n a b rd sat mbz x1 x2 s
  | .scNeg n a rd sat mbz x1 x2 => Sys2Proof.Machine.execScNeg n a rd sat mbz x1 x2 s
  | .scAbs n a rd sat mbz x1 x2 => Sys2Proof.Machine.execScAbs n a rd sat mbz x1 x2 s
  | .scMin n a b rd sat mbz x1 x2 => Sys2Proof.Machine.execScMin n a b rd sat mbz x1 x2 s
  | .scMax n a b rd sat mbz x1 x2 => Sys2Proof.Machine.execScMax n a b rd sat mbz x1 x2 s
  | .scAnd n a b rd sat mbz x1 x2 => Sys2Proof.Machine.execScAnd n a b rd sat mbz x1 x2 s
  | .scOr n a b rd sat mbz x1 x2 => Sys2Proof.Machine.execScOr n a b rd sat mbz x1 x2 s
  | .scXor n a b rd sat mbz x1 x2 => Sys2Proof.Machine.execScXor n a b rd sat mbz x1 x2 s
  | .scShl n a b rd sat mbz x1 x2 => Sys2Proof.Machine.execScShl n a b rd sat mbz x1 x2 s
  | .scShr n a b rd sat mbz x1 x2 => Sys2Proof.Machine.execScShr n a b rd sat mbz x1 x2 s
  | .scSra n a b rd sat mbz x1 x2 => Sys2Proof.Machine.execScSra n a b rd sat mbz x1 x2 s
  | .scShli n a k rd sat mbz x1 x2 => Sys2Proof.Machine.execScShli n a k rd sat mbz x1 x2 s
  | .scShri n a k rd sat mbz x1 x2 => Sys2Proof.Machine.execScShri n a k rd sat mbz x1 x2 s
  | .scSrai n a k rd sat mbz x1 x2 => Sys2Proof.Machine.execScSrai n a k rd sat mbz x1 x2 s
  | .scFmul n a b rd sat mbz x1 x2 => Sys2Proof.Machine.execScFmul n a b rd sat mbz x1 x2 s
  | .scMnop n two mac x => Sys2Proof.Machine.execScMnop n two mac x s
  | .scLd n two v ix m pair mbz mac x => Sys2Proof.Machine.execScLd n two v ix m pair mbz mac x s
  | .scSt n two v ix m pair mbz mac x => Sys2Proof.Machine.execScSt n two v ix m pair mbz mac x s
  | .scMov n two d a mbz mac x => Sys2Proof.Machine.execScMov n two d a mbz mac x s
  | .scMvi n two d imm mac x => Sys2Proof.Machine.execScMvi n two d imm mac x s
  | .scAadd n two a ix mbz mac x => Sys2Proof.Machine.execScAadd n two a ix mbz mac x s
  | .scMvta n two a ix p mbz mac x => Sys2Proof.Machine.execScMvta n two a ix p mbz mac x s
  | .scMvfa n two d ix p mbz mac x => Sys2Proof.Machine.execScMvfa n two d ix p mbz mac x s
  | .scMvts n two a ix cs mbz mac x => Sys2Proof.Machine.execScMvts n two a ix cs mbz mac x s
  | .scMvfs n two d ix cs mbz mac x => Sys2Proof.Machine.execScMvfs n two d ix cs mbz mac x s
  | .scMvtacc n two a acc p mbz mac x => Sys2Proof.Machine.execScMvtacc n two a acc p mbz mac x s
  | .scMvfacc n two d acc p mbz mac x => Sys2Proof.Machine.execScMvfacc n two d acc p mbz mac x s
  | .scMvtix n two a acc c mbz mac x => Sys2Proof.Machine.execScMvtix n two a acc c mbz mac x s
  | .scMvfix n two d acc c mbz mac x => Sys2Proof.Machine.execScMvfix n two d acc c mbz mac x s
  | .scMfsr n two d sr mbz mac x => Sys2Proof.Machine.execScMfsr n two d sr mbz mac x s
  | .scMtsr n two a sr mbz mac x => Sys2Proof.Machine.execScMtsr n two a sr mbz mac x s
  | .scLmvi n d imm mbz mac => Sys2Proof.Machine.execScLmvi n d imm mbz mac s
  | .scLseta n ix q imm mbz mac => Sys2Proof.Machine.execScLseta n ix q imm mbz mac s
  | .scLinsa n ix q imm mbz mac => Sys2Proof.Machine.execScLinsa n ix q imm mbz mac s
  | .scLst n ix cs imm mbz mac => Sys2Proof.Machine.execScLst n ix cs imm mbz mac s
  | .scBz n a disp mac x1 => Sys2Proof.Machine.execScBz n a disp mac x1 s
  | .scBnz n a disp mac x1 => Sys2Proof.Machine.execScBnz n a disp mac x1 s
  | .scBltz n a disp mac x1 => Sys2Proof.Machine.execScBltz n a disp mac x1 s
  | .scBgez n a disp mac x1 => Sys2Proof.Machine.execScBgez n a disp mac x1 s
  | .scJmp n t mbz mac x1 => Sys2Proof.Machine.execScJmp n t mbz mac x1 s
  | .scCall n t mbz mac x1 => Sys2Proof.Machine.execScCall n t mbz mac x1 s
  | .scRet n mbz mac x1 => Sys2Proof.Machine.execScRet n mbz mac x1 s
  | .scRep n imm c rot len mbz mac x1 => Sys2Proof.Machine.execScRep n imm c rot len mbz mac x1 s
  | .scRot n mbz mac x1 => Sys2Proof.Machine.execScRot n mbz mac x1 s
  | .scSyncC n mbz mac x1 => Sys2Proof.Machine.execScSyncC n mbz mac x1 s
  | .scFenceSl n mbz mac x1 => Sys2Proof.Machine.execScFenceSl n mbz mac x1 s
  | .scFence n mbz mac x1 => Sys2Proof.Machine.execScFence n mbz mac x1 s
  | .scRte n mbz mac x1 => Sys2Proof.Machine.execScRte n mbz mac x1 s
  | .scTrap n ix mbz mac x1 => Sys2Proof.Machine.execScTrap n ix mbz mac x1 s
  | .scWaiti n mbz mac x1 => Sys2Proof.Machine.execScWaiti n mbz mac x1 s
  | .scRaise n ix mbz mac x1 => Sys2Proof.Machine.execScRaise n ix mbz mac x1 s
  | .scTakeInterrupt n => Sys2Proof.Machine.execScTakeInterrupt n s
  | .scTakeSbus n => Sys2Proof.Machine.execScTakeSbus n s
  | .scTakeDebug n => Sys2Proof.Machine.execScTakeDebug n s
  | .scWake n => Sys2Proof.Machine.execScWake n s
  | .scStart n => Sys2Proof.Machine.execScStart n s
  | .scReset n => Sys2Proof.Machine.execScReset n s
  | .scWindowAccess n stolen => Sys2Proof.Machine.execScWindowAccess n stolen s
  | .scMemWriteback n => Sys2Proof.Machine.execScMemWriteback n s
  | .nocRequestIssue init k tag => Sys2Proof.Machine.execNocRequestIssue init k tag s
  | .nocRouterForward r out aged => Sys2Proof.Machine.execNocRouterForward r out aged s
  | .nocResponseArrival init => Sys2Proof.Machine.execNocResponseArrival init s
  | .nocTimeout init tag => Sys2Proof.Machine.execNocTimeout init tag s
  | .routeChange r => Sys2Proof.Machine.execRouteChange r s
  | .traceWrite => Sys2Proof.Machine.execTraceWrite s
  | .mpRequestAccept n => Sys2Proof.Machine.execMpRequestAccept n s
  | .mpCommandSlot n aged gap => Sys2Proof.Machine.execMpCommandSlot n aged gap s
  | .mpReadReturn n => Sys2Proof.Machine.execMpReadReturn n s
  | .mpRefreshTick n => Sys2Proof.Machine.execMpRefreshTick n s
  | .mpMr4Poll n hi t0 t1 => Sys2Proof.Machine.execMpMr4Poll n hi t0 t1 s
  | .mpThrottleEnd n init src => Sys2Proof.Machine.execMpThrottleEnd n init src s
  | .mpPatrolRead n => Sys2Proof.Machine.execMpPatrolRead n s
  | .mpLbLeak n => Sys2Proof.Machine.execMpLbLeak n s
  | .mpTrain n zfill => Sys2Proof.Machine.execMpTrain n zfill s
  | .mpTrainingStepDone n code geom => Sys2Proof.Machine.execMpTrainingStepDone n code geom s
  | .mpSrEnter n => Sys2Proof.Machine.execMpSrEnter n s
  | .mpDrainDone n => Sys2Proof.Machine.execMpDrainDone n s
  | .mpSrExit n => Sys2Proof.Machine.execMpSrExit n s
  | .mpSrExitDone n => Sys2Proof.Machine.execMpSrExitDone n s
  | .mpRemapInstall n e => Sys2Proof.Machine.execMpRemapInstall n e s
  | .mpRemapInstallDone n e => Sys2Proof.Machine.execMpRemapInstallDone n e s
  | .mpRemapRelease n e => Sys2Proof.Machine.execMpRemapRelease n e s
  | .mprEnable r v => Sys2Proof.Machine.execMprEnable r v s
  | .mprDisable r v => Sys2Proof.Machine.execMprDisable r v s
  | .rotStart r v => Sys2Proof.Machine.execRotStart r v s
  | .rotationSweepStep r => Sys2Proof.Machine.execRotationSweepStep r s
  | .unfreeze r v => Sys2Proof.Machine.execUnfreeze r v s
  | .pipeServeRequest n => Sys2Proof.Machine.execPipeServeRequest n s
  | .pipeFlushDone n => Sys2Proof.Machine.execPipeFlushDone n s
  | .laneEnable l v => Sys2Proof.Machine.execLaneEnable l v s
  | .laneDisable l v => Sys2Proof.Machine.execLaneDisable l v s
  | .laneReacq l v => Sys2Proof.Machine.execLaneReacq l v s
  | .quadOwnerWrite l v => Sys2Proof.Machine.execQuadOwnerWrite l v s
  | .laneBringupStepDone l skewed => Sys2Proof.Machine.execLaneBringupStepDone l skewed s
  | .laneStepTimeout l => Sys2Proof.Machine.execLaneStepTimeout l s
  | .trainingWord l w => Sys2Proof.Machine.execTrainingWord l w s
  | .quadTrainTimeout q => Sys2Proof.Machine.execQuadTrainTimeout q s
  | .quadPllRetry q => Sys2Proof.Machine.execQuadPllRetry q s
  | .laneLossOfInput l => Sys2Proof.Machine.execLaneLossOfInput l s
  | .losTimeout l => Sys2Proof.Machine.execLosTimeout l s
  | .laneSignalDetect l => Sys2Proof.Machine.execLaneSignalDetect l s
  | .laneRxWord q j w hdr ce ue err => Sys2Proof.Machine.execLaneRxWord q j w hdr ce ue err s
  | .laneTxWord q j => Sys2Proof.Machine.execLaneTxWord q j s
  | .streamSegmentClose l => Sys2Proof.Machine.execStreamSegmentClose l s
  | .streamHeaderWrite l => Sys2Proof.Machine.execStreamHeaderWrite l s
  | .streamWpAdvance l => Sys2Proof.Machine.execStreamWpAdvance l s
  | .txsRead l => Sys2Proof.Machine.execTxsRead l s
  | .pcieLinkUp width speed flit => Sys2Proof.Machine.execPcieLinkUp width speed flit s
  | .barRead tag bar off n => Sys2Proof.Machine.execBarRead tag bar off n s
  | .barWrite bar off ep data => Sys2Proof.Machine.execBarWrite bar off ep data s
  | .barAtomic tag bar off kind size data => Sys2Proof.Machine.execBarAtomic tag bar off kind size data s
  | .apertureEnable a v => Sys2Proof.Machine.execApertureEnable a v s
  | .dmaDescriptorFetch q ok bytes => Sys2Proof.Machine.execDmaDescriptorFetch q ok bytes s
  | .dmaDescriptorStart q => Sys2Proof.Machine.execDmaDescriptorStart q s
  | .dmaCompletionWrite q ok => Sys2Proof.Machine.execDmaCompletionWrite q ok s
  | .dmaQueueStop q => Sys2Proof.Machine.execDmaQueueStop q s
  | .msixMessage n => Sys2Proof.Machine.execMsixMessage n s
  | .msixUnmask en fmask bme => Sys2Proof.Machine.execMsixUnmask en fmask bme s
  | .perstN => Sys2Proof.Machine.execPerstN s
  | .hotReset => Sys2Proof.Machine.execHotReset s
  | .functionLevelReset => Sys2Proof.Machine.execFunctionLevelReset s
  | .d3hot => Sys2Proof.Machine.execD3hot s
  | .warpPortEnable p v => Sys2Proof.Machine.execWarpPortEnable p v s
  | .warpFlitSend p => Sys2Proof.Machine.execWarpFlitSend p s
  | .warpFlitReceive p bytes => Sys2Proof.Machine.execWarpFlitReceive p bytes s
  | .keepaliveTimeout p => Sys2Proof.Machine.execKeepaliveTimeout p s
  | .linkHoldExpiry p => Sys2Proof.Machine.execLinkHoldExpiry p s
  | .discoveryStart => Sys2Proof.Machine.execDiscoveryStart s
  | .settle => Sys2Proof.Machine.execSettle s
  | .routeDrainEnd => Sys2Proof.Machine.execRouteDrainEnd s
  | .rejoin => Sys2Proof.Machine.execRejoin s
  | .reedSymbolReceive p t t2 => Sys2Proof.Machine.execReedSymbolReceive p t t2 s
  | .reedResendTimeout p => Sys2Proof.Machine.execReedResendTimeout p s
  | .tbCalibration t1 => Sys2Proof.Machine.execTbCalibration t1 s
  | .tbResync => Sys2Proof.Machine.execTbResync s
  | .reedBarrier sl => Sys2Proof.Machine.execReedBarrier sl s
  | .reedBroadcast sl => Sys2Proof.Machine.execReedBroadcast sl s
  | .reedReduce sl => Sys2Proof.Machine.execReedReduce sl s
  | .reedSnapshot sl => Sys2Proof.Machine.execReedSnapshot sl s
  | .reedReset sl => Sys2Proof.Machine.execReedReset sl s
  | .reedMode sl => Sys2Proof.Machine.execReedMode sl s
  | .reedCollectiveTimeout sl => Sys2Proof.Machine.execReedCollectiveTimeout sl s
  | .broadcastRingWrite => Sys2Proof.Machine.execBroadcastRingWrite s
  | .modeSoftwareReady => Sys2Proof.Machine.execModeSoftwareReady s
  | .pllEnable fab n v => Sys2Proof.Machine.execPllEnable fab n v s
  | .pllDisable fab n v => Sys2Proof.Machine.execPllDisable fab n v s
  | .sourceJudgedGood n => Sys2Proof.Machine.execSourceJudgedGood n s
  | .domainSwitch d v => Sys2Proof.Machine.execDomainSwitch d v s
  | .domainSwitchStep d => Sys2Proof.Machine.execDomainSwitchStep d s
  | .clockSourceFail n pulse => Sys2Proof.Machine.execClockSourceFail n pulse s
  | .domainFailoverRestart d => Sys2Proof.Machine.execDomainFailoverRestart d s
  | .glineCfgWrite l v => Sys2Proof.Machine.execGlineCfgWrite l v s
  | .lineForceClr mask => Sys2Proof.Machine.execLineForceClr mask s
  | .irqEvent n => Sys2Proof.Machine.execIrqEvent n s
  | .irqSrcWrite n v => Sys2Proof.Machine.execIrqSrcWrite n v s
  | .irqSwset n => Sys2Proof.Machine.execIrqSwset n s
  | .irqPendingClear n => Sys2Proof.Machine.execIrqPendingClear n s
  | .irqEoi kind idx n => Sys2Proof.Machine.execIrqEoi kind idx n s
  | .irqHostEoi n => Sys2Proof.Machine.execIrqHostEoi n s
  | .irqCoalTimeout kind idx => Sys2Proof.Machine.execIrqCoalTimeout kind idx s
  | .vinRise fail => Sys2Proof.Machine.execVinRise fail s
  | .vinLoss => Sys2Proof.Machine.execVinLoss s
  | .railFault rail idx fail => Sys2Proof.Machine.execRailFault rail idx fail s
  | .pwrGpioVWrite b v => Sys2Proof.Machine.execPwrGpioVWrite b v s
  | .gpioRailReady b => Sys2Proof.Machine.execGpioRailReady b s
  | .powerLimitExceeded mw => Sys2Proof.Machine.execPowerLimitExceeded mw s
  | .powerLimitClear mw => Sys2Proof.Machine.execPowerLimitClear mw s
  | .overcurrent ca fail => Sys2Proof.Machine.execOvercurrent ca fail s
  | .thermalReset tj => Sys2Proof.Machine.execThermalReset tj s
  | .avsStep b mv => Sys2Proof.Machine.execAvsStep b mv s
  | .vmaxReport b => Sys2Proof.Machine.execVmaxReport b s
  | .pwrBayReqWrite b v => Sys2Proof.Machine.execPwrBayReqWrite b v s
  | .bayPwrTransitionDone b => Sys2Proof.Machine.execBayPwrTransitionDone b s
  | .deviceSleepEntry stop src => Sys2Proof.Machine.execDeviceSleepEntry stop src s
  | .deviceOffEntry fail => Sys2Proof.Machine.execDeviceOffEntry fail s
  | .wakeEvent src => Sys2Proof.Machine.execWakeEvent src s
  | .wakePin cool fail => Sys2Proof.Machine.execWakePin cool fail s
  | .resetN fail => Sys2Proof.Machine.execResetN fail s
  | .warmReset v fail => Sys2Proof.Machine.execWarmReset v fail s
  | .watchdogExpiry fail => Sys2Proof.Machine.execWatchdogExpiry fail s
  | .wdtKick => Sys2Proof.Machine.execWdtKick s
  | .bistRequest v => Sys2Proof.Machine.execBistRequest v s
  | .bistTestStart => Sys2Proof.Machine.execBistTestStart s
  | .bistTestEnd pass misr kind => Sys2Proof.Machine.execBistTestEnd pass misr kind s
  | .bistAutoTick => Sys2Proof.Machine.execBistAutoTick s
  | .ageingMeasurement fam idx drift temp => Sys2Proof.Machine.execAgeingMeasurement fam idx drift temp s
  | .hstateWrite b v => Sys2Proof.Machine.execHstateWrite b v s
  | .unusableWrite fam idx => Sys2Proof.Machine.execUnusableWrite fam idx s
  | .bayBistConsentWrite b v => Sys2Proof.Machine.execBayBistConsentWrite b v s
  | .tapReset => Sys2Proof.Machine.execTapReset s
  | .tapUpdateIr code => Sys2Proof.Machine.execTapUpdateIr code s
  | .boundaryScanUpdate v => Sys2Proof.Machine.execBoundaryScanUpdate v s
  | .dpaccAccess op reg data => Sys2Proof.Machine.execDpaccAccess op reg data s
  | .chalReq => Sys2Proof.Machine.execChalReq s
  | .verify => Sys2Proof.Machine.execVerify s
  | .verifyDone relocked => Sys2Proof.Machine.execVerifyDone relocked s
  | .relock => Sys2Proof.Machine.execRelock s
  | .dbgNocGo => Sys2Proof.Machine.execDbgNocGo s
  | .dbgReq x => Sys2Proof.Machine.execDbgReq x s
  | .dbgRaccRead x num => Sys2Proof.Machine.execDbgRaccRead x num s
  | .dbgRaccWrite x num v => Sys2Proof.Machine.execDbgRaccWrite x num v s
  | .dbgResume x pc => Sys2Proof.Machine.execDbgResume x pc s
  | .mboxInWrite c v => Sys2Proof.Machine.execMboxInWrite c v s
  | .mboxOutWrite c v => Sys2Proof.Machine.execMboxOutWrite c v s
  | .gpioInputChange b lv => Sys2Proof.Machine.execGpioInputChange b lv s
  | .gpioCfgWrite b ix v => Sys2Proof.Machine.execGpioCfgWrite b ix v s
  | .gpioTsetWrite b ix v => Sys2Proof.Machine.execGpioTsetWrite b ix v s
  | .gpioFencedClear b => Sys2Proof.Machine.execGpioFencedClear b s
  | .flipFlopEdge cells groups gpios lanes srs => Sys2Proof.Machine.execFlipFlopEdge cells groups gpios lanes srs s
  | .railRecovery rail idx => Sys2Proof.Machine.execRailRecovery rail idx s
  | .thermalWarning tj => Sys2Proof.Machine.execThermalWarning tj s
  | .tagHoldExpiry init tag => Sys2Proof.Machine.execTagHoldExpiry init tag s
  | .hostCompletion q ix off n status ep data => Sys2Proof.Machine.execHostCompletion q ix off n status ep data s
  | .completionTimeout q ix off n => Sys2Proof.Machine.execCompletionTimeout q ix off n s
  | .d0Return => Sys2Proof.Machine.execD0Return s

end Sys2Proof.Machine
end

