-- ==== Sys2Proof/Machine/Tick.lean ====
section
/-!
DEFINITION. What the block does when no command waits (log entry 8): a waiting access of the debug port completes, a device that
has become ready for a mode change says so (R618), and the timebase counts one nanosecond, or one crystal cycle in DEEP SLEEP, up to the next pick boundary, which is a command of its own.
-/
namespace Sys2Proof.Machine

/-- System time advances by 1 ns, and by a crystal cycle of 20 ns in DEEP SLEEP (R594, R680). -/
def tickNs (s : State) : Nat := if s.dev == .deepSleep then 20 else 1

/-- System time may advance without passing the next boundary (R595). -/
def tickFree (s : State) : Bool := timeRuns s && s.now + tickNs s < bTime0 s (s.pick + 1)

/-- One edge of the timebase clock with no command (R594, R720). -/
def tick (s : State) : State :=
  let s1 := modeProgress (dpPoll s)
  if tickFree s1 then s1.setFld F.SYSTIME 0 0 (s1.now + tickNs s1) else s1

end Sys2Proof.Machine
end

