-- ==== Sys2Proof/WellFormed.lean ====
section
/-!
DEFINITION. Which commands are well formed: every operand that numbers a unit or a register names one that exists, and every
field of an instruction fits its bits. A command that is not well formed stands for no row of the spec; `exec` leaves the
state as it is where it names a unit that does not exist.
-/
namespace Sys2Proof

/-- A control core (R8). -/
def okCc (c : Nat) : Bool := c < 8
/-- A signal core. -/
def okSc (n : Nat) : Bool := n < 96
/-- A memory port. -/
def okMp (n : Nat) : Bool := n < 16
/-- A bay. -/
def okBay (b : Nat) : Bool := b < 768
/-- A memory block of a bay (Table 4.1). -/
def okBlock (k : Nat) : Bool := k < 24
/-- An arithmetic slice of a bay (chapter 5). -/
def okSlice (k : Nat) : Bool := k < 32
/-- A scratchpad bank. -/
def okBank (b : Nat) : Bool := b < 64
/-- A GPIO bank. -/
def okGpioBank (b : Nat) : Bool := b < 20
/-- A lane. -/
def okLane (l : Nat) : Bool := l < 192
/-- A warp port. -/
def okPort (p : Nat) : Bool := p < 12
/-- A DMA queue pair. -/
def okDma (q : Nat) : Bool := q < 64
/-- A Reed operation slot (R609). -/
def okReedSlot (sl : Nat) : Bool := sl < 8
/-- A protected region. -/
def okRegion (r : Nat) : Bool := r < 32
/-- A router (R425). -/
def okRouter (r : Nat) : Bool := r < 96
/-- An initiator ID (Table 14.5). -/
def okInit (i : Nat) : Bool := i < 0x500
/-- An interrupt source (R646). -/
def okSource (n : Nat) : Bool := n < 2048
/-- A register number of a Virelo instruction. -/
def okReg (r : Nat) : Bool := r < 32
/-- A field of `w` bits. -/
def fits (w v : Nat) : Bool := v < 2 ^ w

/-- A command is well formed. -/
def Instr.wf : Instr → Bool
  | .csrWrite init off n d => okInit init && fits 26 off && fits 4 n && fits 64 d.v && fits 64 d.upd
  | .stageWrite init off n v _ => okInit init && fits 26 off && fits 4 n && fits 64 v
  | .stageDiscard _ => true
  | .pickBoundary _ => true
  | .bayHoldReset b => okBay b
  | .bayPoisonClear b => okBay b
  | .bayPortRequest b _ handle _ opc _ atop mask pm _ d => okBay b && fits 16 handle && fits 4 opc && fits 2 atop && fits 64 mask && fits 5 pm && decide (d.length ≤ 256)
  | .bayPortResponseDeliver b => okBay b
  | .bayTargetRequest b _ => okBay b
  | .holdStageEffect _ => true
  | .memBlockAccess b blk _ _ _ _ _ => okBay b && okBlock blk
  | .blockCorrWriteback b blk => okBay b && okBlock blk
  | .blockWindowAccess b => okBay b
  | .spadRequestAccept b => okBank b
  | .spadGrant b => okBank b
  | .spadCorrWriteback b => okBank b
  | .spbPwrReqWrite b v => okBank b && fits 64 v
  | .spadPwrTransitionDone b => okBank b
  | .spbZero b => okBank b
  | .spadZeroFillDone b => okBank b
  | .sliceOperation b _ _ => okBay b
  | .sliceCoefWrite b k _ _ => okBay b && okSlice k
  | .sliceSwapReq b k => okBay b && okSlice k
  | .lload c rd rs1 _ => okCc c && okReg rd && okReg rs1
  | .imageRecord => true
  | .imageTrailer => true
  | .imagePass => true
  | .loadRegionZeroDone => true
  | .lrel c rd rs1 _ => okCc c && okReg rd && okReg rs1
  | .lhold c rd rs1 _ => okCc c && okReg rd && okReg rs1
  | .lfree c rd rs1 _ => okCc c && okReg rd && okReg rs1
  | .lplace c rd rs1 _ => okCc c && okReg rd && okReg rs1
  | .lsnap c rd rs1 _ => okCc c && okReg rd && okReg rs1
  | .lrest c rd rs1 _ => okCc c && okReg rd && okReg rs1
  | .lmigr c rd rs1 _ => okCc c && okReg rd && okReg rs1
  | .lscrubSetRate c rd rs1 _ => okCc c && okReg rd && okReg rs1
  | .lscrubOnePass c rd rs1 _ => okCc c && okReg rd && okReg rs1
  | .lscrubContOn c rd rs1 _ => okCc c && okReg rd && okReg rs1
  | .lscrubContOff c rd rs1 _ => okCc c && okReg rd && okReg rs1
  | .lread c rd rs1 _ => okCc c && okReg rd && okReg rs1
  | .lkeyLoad c rd rs1 _ => okCc c && okReg rd && okReg rs1
  | .lkeyErase c rd rs1 _ => okCc c && okReg rd && okReg rs1
  | .lkeyWrap c rd rs1 _ => okCc c && okReg rd && okReg rs1
  | .labort c rd rs1 _ => okCc c && okReg rd && okReg rs1
  | .lwait c rd rs1 _ => okCc c && okReg rd && okReg rs1
  | .lstat c rd rs1 _ => okCc c && okReg rd && okReg rs1
  | .lnext c rd rs1 _ => okCc c && okReg rd && okReg rs1
  | .lexit c rd rs1 _ => okCc c && okReg rd && okReg rs1
  | .loomCommandStart _ => true
  | .loomCommandComplete _ => true
  | .intakeTakeEntry c => okCc c
  | .intakePackageChecked c => okCc c
  | .completionEntryWrite c => okCc c
  | .heddleOriginRequest => true
  | .spoolPlacement => true
  | .spoolZeroFillDone => true
  | .poolEnable _ v => fits 64 v
  | .spoolMoveGo _ _ => true
  | .spoolMoveCommit _ => true
  | .spoolMoveCancel => true
  | .migrationCopyDone _ => true
  | .migrationRestoreDone _ => true
  | .migrationEraseDone _ => true
  | .scrubFrame => true
  | .bayScrubWrite b v => okBay b && fits 64 v
  | .captureStreamDone => true
  | .add c rd rs1 rs2 _ => okCc c && okReg rd && okReg rs1 && okReg rs2
  | .sub c rd rs1 rs2 _ => okCc c && okReg rd && okReg rs1 && okReg rs2
  | .adc c rd rs1 rs2 _ => okCc c && okReg rd && okReg rs1 && okReg rs2
  | .sbc c rd rs1 rs2 _ => okCc c && okReg rd && okReg rs1 && okReg rs2
  | .neg c rd rs1 _ => okCc c && okReg rd && okReg rs1
  | .cmp c rs1 rs2 _ => okCc c && okReg rs1 && okReg rs2
  | .and c rd rs1 rs2 _ => okCc c && okReg rd && okReg rs1 && okReg rs2
  | .or c rd rs1 rs2 _ => okCc c && okReg rd && okReg rs1 && okReg rs2
  | .xor c rd rs1 rs2 _ => okCc c && okReg rd && okReg rs1 && okReg rs2
  | .andn c rd rs1 rs2 _ => okCc c && okReg rd && okReg rs1 && okReg rs2
  | .min c rd rs1 rs2 _ => okCc c && okReg rd && okReg rs1 && okReg rs2
  | .max c rd rs1 rs2 _ => okCc c && okReg rd && okReg rs1 && okReg rs2
  | .minu c rd rs1 rs2 _ => okCc c && okReg rd && okReg rs1 && okReg rs2
  | .maxu c rd rs1 rs2 _ => okCc c && okReg rd && okReg rs1 && okReg rs2
  | .clz c rd rs1 _ => okCc c && okReg rd && okReg rs1
  | .popc c rd rs1 _ => okCc c && okReg rd && okReg rs1
  | .addi c rd rs1 _ => okCc c && okReg rd && okReg rs1
  | .cmpi c rs1 _ _ => okCc c && okReg rs1
  | .andi c rd rs1 _ => okCc c && okReg rd && okReg rs1
  | .ori c rd rs1 _ => okCc c && okReg rd && okReg rs1
  | .xori c rd rs1 _ => okCc c && okReg rd && okReg rs1
  | .setw c rd q _ _ => okCc c && okReg rd && fits 2 q
  | .insw c rd q _ _ => okCc c && okReg rd && fits 2 q
  | .mul c rd rs1 rs2 _ => okCc c && okReg rd && okReg rs1 && okReg rs2
  | .mulh c rd rs1 rs2 _ => okCc c && okReg rd && okReg rs1 && okReg rs2
  | .mulhu c rd rs1 rs2 _ => okCc c && okReg rd && okReg rs1 && okReg rs2
  | .div c rd rs1 rs2 _ => okCc c && okReg rd && okReg rs1 && okReg rs2
  | .divu c rd rs1 rs2 _ => okCc c && okReg rd && okReg rs1 && okReg rs2
  | .rem c rd rs1 rs2 _ => okCc c && okReg rd && okReg rs1 && okReg rs2
  | .remu c rd rs1 rs2 _ => okCc c && okReg rd && okReg rs1 && okReg rs2
  | .sll c rd rs1 rs2 _ => okCc c && okReg rd && okReg rs1 && okReg rs2
  | .srl c rd rs1 rs2 _ => okCc c && okReg rd && okReg rs1 && okReg rs2
  | .sra c rd rs1 rs2 _ => okCc c && okReg rd && okReg rs1 && okReg rs2
  | .ror c rd rs1 rs2 _ => okCc c && okReg rd && okReg rs1 && okReg rs2
  | .slli c rd rs1 amt _ => okCc c && okReg rd && okReg rs1 && fits 7 amt
  | .srli c rd rs1 amt _ => okCc c && okReg rd && okReg rs1 && fits 7 amt
  | .srai c rd rs1 amt _ => okCc c && okReg rd && okReg rs1 && fits 7 amt
  | .rori c rd rs1 amt _ => okCc c && okReg rd && okReg rs1 && fits 7 amt
  | .ld c rd rs1 _ => okCc c && okReg rd && okReg rs1
  | .lw c rd rs1 _ => okCc c && okReg rd && okReg rs1
  | .lwu c rd rs1 _ => okCc c && okReg rd && okReg rs1
  | .lh c rd rs1 _ => okCc c && okReg rd && okReg rs1
  | .lhu c rd rs1 _ => okCc c && okReg rd && okReg rs1
  | .lb c rd rs1 _ => okCc c && okReg rd && okReg rs1
  | .lbu c rd rs1 _ => okCc c && okReg rd && okReg rs1
  | .sd c rs2 rs1 _ => okCc c && okReg rs2 && okReg rs1
  | .sw c rs2 rs1 _ => okCc c && okReg rs2 && okReg rs1
  | .sh c rs2 rs1 _ => okCc c && okReg rs2 && okReg rs1
  | .sb c rs2 rs1 _ => okCc c && okReg rs2 && okReg rs1
  | .swap c rd rs1 rs2 _ => okCc c && okReg rd && okReg rs1 && okReg rs2
  | .fadd c rd rs1 rs2 _ => okCc c && okReg rd && okReg rs1 && okReg rs2
  | .cas c rd rs1 rs2 _ => okCc c && okReg rd && okReg rs1 && okReg rs2
  | .dcwb c rs1 _ => okCc c && okReg rs1
  | .dcinv c rs1 _ => okCc c && okReg rs1
  | .dcwbi c rs1 _ => okCc c && okReg rs1
  | .icinv c rs1 _ => okCc c && okReg rs1
  | .dcwbAll c _ => okCc c
  | .dcinvAll c _ => okCc c
  | .dcwbiAll c _ => okCc c
  | .icinvAll c _ => okCc c
  | .spill c rs1 _ => okCc c && okReg rs1
  | .fill c rs1 _ => okCc c && okReg rs1
  | .bcc c cond _ => okCc c && fits 4 cond
  | .bz c rs1 _ _ => okCc c && okReg rs1
  | .bnz c rs1 _ _ => okCc c && okReg rs1
  | .call c _ => okCc c
  | .jmp c _ => okCc c
  | .callr c rs1 _ => okCc c && okReg rs1
  | .jr c rs1 _ => okCc c && okReg rs1
  | .enter c _ => okCc c
  | .leave c _ => okCc c
  | .mfsr c rd _ _ => okCc c && okReg rd
  | .mtsr c _ rs1 _ => okCc c && okReg rs1
  | .fenceSl c _ => okCc c
  | .fence c _ => okCc c
  | .syncI c _ => okCc c
  | .wait c _ => okCc c
  | .eret c _ => okCc c
  | .trap c _ _ => okCc c
  | .ccTakeInterrupt c => okCc c
  | .ccTakeSbus c => okCc c
  | .ccTakeDebug c => okCc c
  | .ccWake c => okCc c
  | .ccStart c => okCc c
  | .ccReset c => okCc c
  | .cc0Release _ _ => true
  | .ccWindowMemoryAccess init c _ _ _ _ => okInit init && okCc c
  | .scMacNop n _ _ => okSc n
  | .scMul n d a b _ _ _ _ _ => okSc n && fits 2 d && fits 5 a && fits 5 b
  | .scMac n d a b _ _ _ _ _ => okSc n && fits 2 d && fits 5 a && fits 5 b
  | .scMsu n d a b _ _ _ _ _ => okSc n && fits 2 d && fits 5 a && fits 5 b
  | .scDmul n d a b _ _ _ _ _ => okSc n && fits 2 d && fits 5 a && fits 5 b
  | .scDmac n d a b _ _ _ _ _ => okSc n && fits 2 d && fits 5 a && fits 5 b
  | .scDmsu n d a b _ _ _ _ _ => okSc n && fits 2 d && fits 5 a && fits 5 b
  | .scPmul n d a b _ _ _ _ _ => okSc n && fits 2 d && fits 5 a && fits 5 b
  | .scPmac n d a b _ _ _ _ _ => okSc n && fits 2 d && fits 5 a && fits 5 b
  | .scAccadd n d src _ _ _ _ _ => okSc n && fits 2 d && fits 2 src
  | .scAccsub n d src _ _ _ _ _ => okSc n && fits 2 d && fits 2 src
  | .scAccld n d a k _ _ _ _ => okSc n && fits 2 d && fits 5 a && fits 5 k
  | .scAccsra n d k _ _ _ => okSc n && fits 2 d && fits 6 k
  | .scAccclr n d _ _ _ => okSc n && fits 2 d
  | .scExt n src rd shift rnd _ _ _ _ _ => okSc n && fits 5 src && fits 5 rd && fits 6 shift && fits 2 rnd
  | .scSmin n d a _ _ _ _ _ _ _ => okSc n && fits 2 d && fits 5 a
  | .scSmax n d a _ _ _ _ _ _ _ => okSc n && fits 2 d && fits 5 a
  | .scAdd n a b rd _ _ _ _ => okSc n && fits 5 a && fits 5 b && fits 5 rd
  | .scSub n a b rd _ _ _ _ => okSc n && fits 5 a && fits 5 b && fits 5 rd
  | .scNeg n a rd _ _ _ _ => okSc n && fits 5 a && fits 5 rd
  | .scAbs n a rd _ _ _ _ => okSc n && fits 5 a && fits 5 rd
  | .scMin n a b rd _ _ _ _ => okSc n && fits 5 a && fits 5 b && fits 5 rd
  | .scMax n a b rd _ _ _ _ => okSc n && fits 5 a && fits 5 b && fits 5 rd
  | .scAnd n a b rd _ _ _ _ => okSc n && fits 5 a && fits 5 b && fits 5 rd
  | .scOr n a b rd _ _ _ _ => okSc n && fits 5 a && fits 5 b && fits 5 rd
  | .scXor n a b rd _ _ _ _ => okSc n && fits 5 a && fits 5 b && fits 5 rd
  | .scShl n a b rd _ _ _ _ => okSc n && fits 5 a && fits 5 b && fits 5 rd
  | .scShr n a b rd _ _ _ _ => okSc n && fits 5 a && fits 5 b && fits 5 rd
  | .scSra n a b rd _ _ _ _ => okSc n && fits 5 a && fits 5 b && fits 5 rd
  | .scShli n a k rd _ _ _ _ => okSc n && fits 5 a && fits 5 k && fits 5 rd
  | .scShri n a k rd _ _ _ _ => okSc n && fits 5 a && fits 5 k && fits 5 rd
  | .scSrai n a k rd _ _ _ _ => okSc n && fits 5 a && fits 5 k && fits 5 rd
  | .scFmul n a b rd _ _ _ _ => okSc n && fits 5 a && fits 5 b && fits 5 rd
  | .scMnop n _ _ _ => okSc n
  | .scLd n _ v i m _ _ _ _ => okSc n && fits 5 v && fits 3 i && fits 2 m
  | .scSt n _ v i m _ _ _ _ => okSc n && fits 5 v && fits 3 i && fits 2 m
  | .scMov n _ d a _ _ _ => okSc n && fits 5 d && fits 5 a
  | .scMvi n _ d _ _ _ => okSc n && fits 5 d
  | .scAadd n _ a i _ _ _ => okSc n && fits 5 a && fits 3 i
  | .scMvta n _ a i p _ _ _ => okSc n && fits 5 a && fits 3 i && fits 2 p
  | .scMvfa n _ d i p _ _ _ => okSc n && fits 5 d && fits 3 i && fits 2 p
  | .scMvts n _ a i _ _ _ _ => okSc n && fits 5 a && fits 3 i
  | .scMvfs n _ d i _ _ _ _ => okSc n && fits 5 d && fits 3 i
  | .scMvtacc n _ a acc p _ _ _ => okSc n && fits 5 a && fits 2 acc && fits 2 p
  | .scMvfacc n _ d acc p _ _ _ => okSc n && fits 5 d && fits 2 acc && fits 2 p
  | .scMvtix n _ a acc _ _ _ _ => okSc n && fits 5 a && fits 2 acc
  | .scMvfix n _ d acc _ _ _ _ => okSc n && fits 5 d && fits 2 acc
  | .scMfsr n _ d sr _ _ _ => okSc n && fits 5 d && fits 5 sr
  | .scMtsr n _ a sr _ _ _ => okSc n && fits 5 a && fits 5 sr
  | .scLmvi n d _ _ _ => okSc n && fits 5 d
  | .scLseta n i _ _ _ _ => okSc n && fits 3 i
  | .scLinsa n i _ _ _ _ => okSc n && fits 3 i
  | .scLst n i _ _ _ _ => okSc n && fits 3 i
  | .scBz n a _ _ _ => okSc n && fits 5 a
  | .scBnz n a _ _ _ => okSc n && fits 5 a
  | .scBltz n a _ _ _ => okSc n && fits 5 a
  | .scBgez n a _ _ _ => okSc n && fits 5 a
  | .scJmp n _ _ _ _ => okSc n
  | .scCall n _ _ _ _ => okSc n
  | .scRet n _ _ _ => okSc n
  | .scRep n _ c _ len _ _ _ => okSc n && fits 9 c && fits 5 len
  | .scRot n _ _ _ => okSc n
  | .scSyncC n _ _ _ => okSc n
  | .scFenceSl n _ _ _ => okSc n
  | .scFence n _ _ _ => okSc n
  | .scRte n _ _ _ => okSc n
  | .scTrap n _ _ _ _ => okSc n
  | .scWaiti n _ _ _ => okSc n
  | .scRaise n i _ _ _ => okSc n && fits 2 i
  | .scTakeInterrupt n => okSc n
  | .scTakeSbus n => okSc n
  | .scTakeDebug n => okSc n
  | .scWake n => okSc n
  | .scStart n => okSc n
  | .scReset n => okSc n
  | .scWindowAccess n _ => okSc n
  | .scMemWriteback n => okSc n
  | .nocRequestIssue init _ tag => okInit init && fits 8 tag
  | .nocRouterForward r _ _ => okRouter r
  | .nocResponseArrival init => okInit init
  | .nocTimeout init tag => okInit init && fits 8 tag
  | .routeChange r => okRouter r
  | .traceWrite => true
  | .mpRequestAccept n => okMp n
  | .mpCommandSlot n _ _ => okMp n
  | .mpReadReturn n => okMp n
  | .mpRefreshTick n => okMp n
  | .mpMr4Poll n _ _ _ => okMp n
  | .mpThrottleEnd n init _ => okMp n && okInit init
  | .mpPatrolRead n => okMp n
  | .mpLbLeak n => okMp n
  | .mpTrain n _ => okMp n
  | .mpTrainingStepDone n _ _ => okMp n
  | .mpSrEnter n => okMp n
  | .mpDrainDone n => okMp n
  | .mpSrExit n => okMp n
  | .mpSrExitDone n => okMp n
  | .mpRemapInstall n _ => okMp n
  | .mpRemapInstallDone n _ => okMp n
  | .mpRemapRelease n _ => okMp n
  | .mprEnable r v => okRegion r && fits 64 v
  | .mprDisable r v => okRegion r && fits 64 v
  | .rotStart r v => okRegion r && fits 64 v
  | .rotationSweepStep r => okRegion r
  | .unfreeze r v => okRegion r && fits 64 v
  | .pipeServeRequest n => okMp n
  | .pipeFlushDone n => okMp n
  | .laneEnable l v => okLane l && fits 64 v
  | .laneDisable l v => okLane l && fits 64 v
  | .laneReacq l v => okLane l && fits 64 v
  | .quadOwnerWrite l v => okLane l && fits 64 v
  | .laneBringupStepDone l _ => okLane l
  | .laneStepTimeout l => okLane l
  | .trainingWord l _ => okLane l
  | .quadTrainTimeout _ => true
  | .quadPllRetry _ => true
  | .laneLossOfInput l => okLane l
  | .losTimeout l => okLane l
  | .laneSignalDetect l => okLane l
  | .laneRxWord q j _ _ _ _ _ => decide (q < 48 ∧ j < 4)
  | .laneTxWord q j => decide (q < 48 ∧ j < 4)
  | .streamSegmentClose l => okLane l
  | .streamHeaderWrite l => okLane l
  | .streamWpAdvance l => okLane l
  | .txsRead l => okLane l
  | .pcieLinkUp _ _ _ => true
  | .barRead tag bar _ _ => fits 14 tag && fits 3 bar
  | .barWrite bar _ _ data => fits 3 bar && decide (data.length ≤ 4096)
  | .barAtomic tag bar _ _ _ data => fits 14 tag && fits 3 bar && decide (data.length ≤ 16)
  | .apertureEnable _ v => fits 64 v
  | .dmaDescriptorFetch q _ _ => okDma q
  | .dmaDescriptorStart q => okDma q
  | .dmaCompletionWrite q _ => okDma q
  | .dmaQueueStop q => okDma q
  | .msixMessage _ => true
  | .msixUnmask _ _ _ => true
  | .perstN => true
  | .hotReset => true
  | .functionLevelReset => true
  | .d3hot => true
  | .warpPortEnable p v => okPort p && fits 64 v
  | .warpFlitSend p => okPort p
  | .warpFlitReceive p bytes => okPort p && bytes.length == 256
  | .keepaliveTimeout p => okPort p
  | .linkHoldExpiry p => okPort p
  | .discoveryStart => true
  | .settle => true
  | .routeDrainEnd => true
  | .rejoin => true
  | .reedSymbolReceive p _ _ => okPort p
  | .reedResendTimeout p => okPort p
  | .tbCalibration _ => true
  | .tbResync => true
  | .reedBarrier sl => okReedSlot sl
  | .reedBroadcast sl => okReedSlot sl
  | .reedReduce sl => okReedSlot sl
  | .reedSnapshot sl => okReedSlot sl
  | .reedReset sl => okReedSlot sl
  | .reedMode sl => okReedSlot sl
  | .reedCollectiveTimeout sl => okReedSlot sl
  | .broadcastRingWrite => true
  | .modeSoftwareReady => true
  | .pllEnable _ _ v => fits 64 v
  | .pllDisable _ _ v => fits 64 v
  | .sourceJudgedGood _ => true
  | .domainSwitch _ v => fits 64 v
  | .domainSwitchStep _ => true
  | .clockSourceFail _ _ => true
  | .domainFailoverRestart _ => true
  | .glineCfgWrite _ v => fits 64 v
  | .lineForceClr _ => true
  | .irqEvent n => okSource n
  | .irqSrcWrite n v => okSource n && fits 64 v
  | .irqSwset n => okSource n
  | .irqPendingClear n => okSource n
  | .irqEoi kind idx n => fits 12 kind && fits 12 idx && okSource n
  | .irqHostEoi n => okSource n
  | .irqCoalTimeout kind idx => fits 12 kind && fits 12 idx
  | .vinRise _ => true
  | .vinLoss => true
  | .railFault _ _ _ => true
  | .pwrGpioVWrite b v => okGpioBank b && fits 64 v
  | .gpioRailReady b => okGpioBank b
  | .powerLimitExceeded _ => true
  | .powerLimitClear _ => true
  | .overcurrent _ _ => true
  | .thermalReset _ => true
  | .avsStep b _ => okBay b
  | .vmaxReport b => okBay b
  | .pwrBayReqWrite b v => okBay b && fits 64 v
  | .bayPwrTransitionDone b => okBay b
  | .deviceSleepEntry _ _ => true
  | .deviceOffEntry _ => true
  | .wakeEvent _ => true
  | .wakePin _ _ => true
  | .resetN _ => true
  | .warmReset v _ => fits 64 v
  | .watchdogExpiry _ => true
  | .wdtKick => true
  | .bistRequest v => fits 64 v
  | .bistTestStart => true
  | .bistTestEnd _ _ _ => true
  | .bistAutoTick => true
  | .ageingMeasurement _ _ _ _ => true
  | .hstateWrite b v => okBay b && fits 64 v
  | .unusableWrite _ _ => true
  | .bayBistConsentWrite b v => okBay b && fits 64 v
  | .tapReset => true
  | .tapUpdateIr code => fits 8 code
  | .boundaryScanUpdate _ => true
  | .dpaccAccess _ reg _ => fits 10 reg
  | .chalReq => true
  | .verify => true
  | .verifyDone _ => true
  | .relock => true
  | .dbgNocGo => true
  | .dbgReq _ => true
  | .dbgRaccRead _ _ => true
  | .dbgRaccWrite _ _ v => fits 64 v
  | .dbgResume _ _ => true
  | .mboxInWrite c v => okCc c && fits 64 v
  | .mboxOutWrite c v => okCc c && fits 64 v
  | .gpioInputChange b _ => okGpioBank b
  | .gpioCfgWrite b _ v => okGpioBank b && fits 64 v
  | .gpioTsetWrite b _ v => okGpioBank b && fits 64 v
  | .gpioFencedClear b => okGpioBank b
  | .flipFlopEdge cells groups gpios lanes srs =>
    cells.all (fun e => okBay e.b && decide (e.u < 1024 ∧ e.k < 8)) && groups.all (fun e => okBay e.b && decide (e.u < 32 ∧ e.k < 8)) &&
    gpios.all (fun e => okBay e.b && decide (e.u < 40 ∧ e.k < 8)) && lanes.all (fun e => okBay e.b && decide (e.u < 192 ∧ e.k < 8)) &&
    srs.all (fun e => okBay e.b && decide (e.u < 1024))
  | .railRecovery _ _ => true
  | .thermalWarning _ => true
  | .tagHoldExpiry init tag => okInit init && fits 8 tag
  | .hostCompletion q _ _ _ _ _ _ => okDma q
  | .completionTimeout q _ _ _ => okDma q
  | .d0Return => true

end Sys2Proof
end

