-- ==== Sys2Proof/Safety.lean ====
section
/-!
DEFINITION. What counts as a safe state and a safe run of the block, in the terms that claims use.
-/
namespace Sys2Proof
open Machine

/-- The register cells and the memories are in canonical form: keys rising, no cell that holds what an unlisted one reads
as. -/
def Canonical (s : State) : Prop :=
  s.regs.wf = true ∧ s.mem.wf = true ∧ s.ecc.wf = true

/-- Every command that waits is well formed. -/
def QueueWf (s : State) : Prop := ∀ c ∈ s.pending, c.wf = true

/-- A step completes: it answers a next state. -/
def Completes (s : State) : Prop := ∃ t, step s = .next t

/-- A run of `n` steps completes. -/
def RunCompletes : Nat → State → Prop
  | 0, _ => True
  | n + 1, s => ∃ t, step s = .next t ∧ RunCompletes n t

end Sys2Proof
end

