-- ==== Sys2Proof/Certificates/Slice0/Obligations.lean ====
section
/-!
DEFINITION. The statements for the provers, from the numbered rules of the spec. The first section names what the
statements share: what a command leaves alone, and what an instruction of a core does around its own effect.
-/
namespace Sys2Proof.Claims
open Sys2Proof Machine

/-- Every register field but those listed, each with its unit, reads in `t` as in `s`. -/
def FldSame (s t : State) (ws : List (Field × Nat)) : Prop :=
  ∀ (g : Field) (v i : Nat), (∀ w ∈ ws, g.id = w.1.id → v ≠ w.2) → t.fld g v i = s.fld g v i

/-- `t` differs from `s` in the register fields listed alone: memory, queues and everything else are the same. -/
def OnlyRegs (s t : State) (ws : List (Field × Nat)) : Prop := t = { s with regs := t.regs } ∧ FldSame s t ws

/-- Every byte of memory reads in `t` as in `s`, stored check bits included. -/
def MemSame (s t : State) : Prop := ∀ a, t.rdB a = s.rdB a ∧ t.ecc.get a = s.ecc.get a

/-- Every byte outside the `n` bytes from `a` reads in `t` as in `s`. -/
def MemSameBut (s t : State) (a n : Nat) : Prop := ∀ x, (x < a ∨ a + n ≤ x) → t.rdB x = s.rdB x ∧ t.ecc.get x = s.ecc.get x

/-- N, Z, C and V as the field FLAGS.NZCV holds them. -/
def nzcvOf (r : Word) (c v : Bool) : Nat := ofBool r.msb * 8 + ofBool (r == 0) * 4 + ofBool c * 2 + ofBool v

/-! ### Control cores -/

/-- The state in which the instruction of core `c` acts: a fetch outside the ROM has ended the overlay (R263), and the
instruction comparators have counted (R732). -/
def issued (c : Nat) (s : State) : State := (vbreak c (vleaveRom c s)).2

/-- Core `c` issues the instruction at its PC: it runs and waits for nothing, the fetch finds the instruction, and no
comparator stops it (R201, R240 to R242, R733). -/
def Issues (s : State) (c : Nat) : Prop :=
  vready s c = true ∧ vfetch (vleaveRom c s) c = .ok ∧ (vbreak c (vleaveRom c s)).1 = false

/-- Registers 0 to 31 of core `c` read as before, but `rd`, which reads `v`; G0 stays 0. -/
def RegSet (s t : State) (c rd : Nat) (v : Word) : Prop :=
  ∀ n < 32, t.vget c n = if n = rd ∧ n ≠ 0 then v else s.vget c n

/-- The instruction of core `c` retires to `npc`, and changes nothing but the core's own registers, the fields that
every retirement writes (CC_PC, RETIRED, SKIP) and the fields `ws`. -/
def Retires (s t : State) (c : Nat) (npc : Word) (ws : List (Field × Nat)) : Prop :=
  t.vpc c = npc ∧ t.fld F.RETIRED c = (s.fld F.RETIRED c + 1) % 2 ^ F.RETIRED.w ∧
  t.fld F.CC_PC_PC c = (s.vpc c).toNat % 2 ^ F.CC_PC_PC.w ∧
  FldSame s t ([(F.RETIRED, c), (F.CC_PC_PC, c), (F.DSTATUS_SKIP, c)] ++ ws) ∧
  (∀ k, k ≠ c → t.vc.get k = s.vc.get k) ∧ (t.vc.get c).wait = .none ∧ (t.vc.get c).dcache = (s.vc.get c).dcache ∧
  (t.vc.get c).icache = (s.vc.get c).icache

/-- An instruction that writes `rd` and NZCV and stores nothing: the result, the flags, the next PC, and its frame. -/
def AluDone (s t : State) (c rd : Nat) (r : Word) (cf vf : Bool) : Prop :=
  RegSet s t c rd r ∧ t.fld F.FLAGS_NZCV c = nzcvOf r cf vf ∧ Retires s t c (s.vpc c + 4) [(F.FLAGS_NZCV, c)] ∧
  t = { s with regs := t.regs, vc := t.vc }

/-- The state after the data comparators have observed an access of `n` bytes at `a` (R732). -/
def watched (c a n : Nat) (ld st : Bool) (s : State) : State :=
  vdataCmp c (s.bit F.PSTATE_TW c) (s.bit F.DCTL_MON c) a n ld st s

/-- An access of `n` bytes at `a` by core `c` is aligned, resolves and is allowed at the core's level (R31, R203, R218). -/
def Reaches (s : State) (c : Nat) (a : Word) (n : Nat) (ps : List Nat) : Prop :=
  a.toNat % n = 0 ∧ vresolve s a ≠ .bad ∧ vallowed s c a.toNat n ps = true

/-- Core `c` takes the trap of a synchronous condition outside the trap window (R240, R243): return address, cause, address
and information are saved, PSTATE[2:0] is saved and TASK and IE cleared, the trap window opens, and the PC is the vector;
nothing else changes. -/
def TrapTaken (s t : State) (c cause access : Nat) (tpc taddr : Word) (info : Nat) : Prop :=
  t.vpc c = BitVec.ofNat 64 (s.fld F.TBASE_BASE c * 2048 + 64 * cause) ∧
  t.fld F.TPC c = tpc.toNat ∧ t.fld F.TCAUSE_CAUSE c = cause ∧ t.fld F.TCAUSE_ACCESS c = access ∧
  t.fld F.TADDR c = taddr.toNat ∧ t.fld F.TINFO c = info ∧
  t.fld F.TPSTATE_TRAPDZ c = s.fld F.PSTATE_TRAPDZ c % 2 ∧ t.fld F.TPSTATE_IE c = s.fld F.PSTATE_IE c % 2 ∧
  t.fld F.TPSTATE_TASK c = s.fld F.PSTATE_TASK c % 2 ∧
  t.fld F.PSTATE_TASK c = 0 ∧ t.fld F.PSTATE_IE c = 0 ∧ t.fld F.PSTATE_TW c = 1 ∧
  FldSame s t ([F.TPC, F.TCAUSE_CAUSE, F.TCAUSE_ACCESS, F.TADDR, F.TINFO, F.TPSTATE_TRAPDZ, F.TPSTATE_IE, F.TPSTATE_TASK,
    F.PSTATE_TASK, F.PSTATE_IE, F.PSTATE_TW].map (fun f => (f, c))) ∧
  (∀ k, k ≠ c → t.vc.get k = s.vc.get k) ∧ (t.vc.get c).regs = (s.vc.get c).regs ∧
  t = { s with regs := t.regs, vc := t.vc }

/-! ### Signal cores -/

/-- The state in which the bundle of signal core `n` acts: fetched, and the instruction comparators have counted. -/
def scIssued (n : Nat) (s : State) : State := (scBreak n (scFetch n s).2).2

/-- Signal core `n` issues the bundle at its index: it runs and waits for nothing, the fetch is good, and no comparator
stops it (R388, R733). -/
def ScIssues (s : State) (n : Nat) : Prop :=
  scReady s n = true ∧ (scFetch n s).1 = false ∧ (scBreak n (scFetch n s).2).1 = false

/-- What follows the slots' effects in a bundle with `m2` in M2 and no memory access: the loop state moves on, a transfer of
control starts fetch anew, and the bundle retires to its sequence's next bundle (R382, R383, R387). -/
def scSeq (u : State) (n : Nat) (m2 : MoveOp) (w : State) : State :=
  let v := scControl u n m2 (scLoop u n m2 w)
  scRetire n (scNext u n m2) (if scJumps u n m2 then scRefetch n v else v)

/-- `w` differs from `u` in signal core `n`'s own registers and the fields `ws` alone. -/
def OnlySc (u w : State) (n : Nat) (ws : List (Field × Nat)) : Prop :=
  w = { u with regs := w.regs, sc := w.sc } ∧ FldSame u w ws ∧ ∀ k, k ≠ n → w.sc.get k = u.sc.get k

/-- A V register as a number, signed or not. -/
def sVal (u : State) (n v : Nat) (uns : Bool) : Int := if uns then ((u.svget n v).toNat : Int) else (u.svget n v).toInt

/-- An accumulator as a number, signed or not. -/
def aVal (u : State) (n d : Nat) (uns : Bool) : Int := if uns then ((u.saget n d).toNat : Int) else (u.saget n d).toInt

/-- An exact result leaves the range of `w` bits. -/
def leaves (w : Nat) (uns : Bool) (x : Int) : Bool :=
  if uns then decide (x < 0 ∨ 2 ^ w ≤ x) else decide (x < -(2 ^ (w - 1) : Int) ∨ (2 ^ (w - 1) : Int) ≤ x)

/-- An exact result brought to `w` bits: itself in range, else the nearer bound with SAT, the low bits without. -/
def brought (w : Nat) (sat uns : Bool) (x : Int) : BitVec w :=
  if leaves w uns x && sat then
    BitVec.ofInt w (if uns then (if x < 0 then 0 else 2 ^ w - 1) else (if x < 0 then -(2 ^ (w - 1) : Int) else 2 ^ (w - 1) - 1))
  else BitVec.ofInt w x

/-- Accumulator `d` takes an exact result, and its OVA bit is set when that leaves the range; the other accumulators, the V
and address registers and every other field keep their values. -/
def AccTakes (u w : State) (n d : Nat) (sat uns : Bool) (x : Int) : Prop :=
  (∀ k < 4, w.saget n k = if k = d then brought 56 sat uns x else u.saget n k) ∧
  (∀ k < 4, bitOf (w.fld F.S_SFLAGS_OVA n) k = (bitOf (u.fld F.S_SFLAGS_OVA n) k || (k == d && leaves 56 uns x))) ∧
  w.sc.get n = { u.sc.get n with acc := (w.sc.get n).acc } ∧ OnlySc u w n [(F.S_SFLAGS_OVA, n)]

/-- V register `rd` takes a value and flag `f`, if any, is set when `b`; every other register keeps its value. -/
def VTakes (u w : State) (n rd : Nat) (x : SWord) (fs : List (Field × Nat)) : Prop :=
  (∀ k < 32, w.svget n k = if k = rd then x else u.svget n k) ∧
  w.sc.get n = { u.sc.get n with v := (w.sc.get n).v } ∧ OnlySc u w n fs

/-! ### Interrupt sources -/

/-- The fields that raising a source may change beside those a statement names (R651, R654). -/
def irqFs : List (Field × Nat) := [(F.IRQ_SRC_PENDING, 0), (F.IRQ_SRC_MERGED, 0)]

/-- `t` differs from `s` in the register fields listed, and in what the interrupt controller records of raised sources. -/
def OnlyIrq (s t : State) (ws : List (Field × Nat)) : Prop :=
  t = { s with regs := t.regs, irqWin := t.irqWin, irqHeld := t.irqHeld } ∧ FldSame s t (irqFs ++ ws)

/-- An edge source has been raised (R648): PENDING, or held on its request line while the NoC domain does not run. -/
def Raised (s t : State) (n : Nat) : Prop :=
  (irqOpen s = true → t.fld F.IRQ_SRC_PENDING 0 n = 1) ∧ (irqOpen s = false → n ∈ t.irqHeld)

/-- A counter has counted `n` more events and stops at all ones (R44). -/
def Counts (s t : State) (f : Field) (u i n : Nat) : Prop := t.fld f u i = min (s.fld f u i + n) (2 ^ f.w - 1)

end Sys2Proof.Claims

open Sys2Proof Sys2Proof.Machine Sys2Proof.Claims

/-- Additions, subtractions, comparisons and logic of the control cores (R208, R221, R222, R224, R228). -/
def Obligations.AddLogicForms : Prop :=
  (∀ (s : State) (c rd rs1 rs2 : Nat) (imm : BitVec 16), Issues s c → rd < 32 →
    let u := issued c s
    let a := u.vget c rs1
    let b := u.vget c rs2
    let i : Word := imm.signExtend 64
    let cy := bitOf (u.fld F.FLAGS_NZCV c) 1
    (∃ t, exec (.add c rd rs1 rs2 0) s = .next t ∧
      AluDone u t c rd (a + b) (decide (2 ^ 64 ≤ a.toNat + b.toNat)) (decide ((a + b).toInt ≠ a.toInt + b.toInt))) ∧
    (∃ t, exec (.sub c rd rs1 rs2 0) s = .next t ∧
      AluDone u t c rd (a - b) (decide (b.toNat ≤ a.toNat)) (decide ((a - b).toInt ≠ a.toInt - b.toInt))) ∧
    (∃ t, exec (.adc c rd rs1 rs2 0) s = .next t ∧
      AluDone u t c rd (a + b + BitVec.ofNat 64 (ofBool cy)) (decide (2 ^ 64 ≤ a.toNat + b.toNat + ofBool cy))
        (decide ((a + b + BitVec.ofNat 64 (ofBool cy)).toInt ≠ a.toInt + b.toInt + (ofBool cy : Int)))) ∧
    (∃ t, exec (.sbc c rd rs1 rs2 0) s = .next t ∧
      AluDone u t c rd (a - b - BitVec.ofNat 64 (ofBool (!cy))) (decide (b.toNat + ofBool (!cy) ≤ a.toNat))
        (decide ((a - b - BitVec.ofNat 64 (ofBool (!cy))).toInt ≠ a.toInt - b.toInt - (ofBool (!cy) : Int)))) ∧
    (∃ t, exec (.neg c rd rs1 0) s = .next t ∧
      AluDone u t c rd (-a) (decide (a = 0)) (decide ((-a).toInt ≠ -a.toInt))) ∧
    (∃ t, exec (.cmp c rs1 rs2 0) s = .next t ∧
      RegSet u t c 0 0 ∧ t.fld F.FLAGS_NZCV c =
        nzcvOf (a - b) (decide (b.toNat ≤ a.toNat)) (decide ((a - b).toInt ≠ a.toInt - b.toInt)) ∧
      Retires u t c (u.vpc c + 4) [(F.FLAGS_NZCV, c)] ∧ t = { u with regs := t.regs, vc := t.vc }) ∧
    (∃ t, exec (.addi c rd rs1 imm) s = .next t ∧
      AluDone u t c rd (a + i) (decide (2 ^ 64 ≤ a.toNat + i.toNat)) (decide ((a + i).toInt ≠ a.toInt + i.toInt))) ∧
    (∃ t, exec (.cmpi c rs1 imm 0) s = .next t ∧
      RegSet u t c 0 0 ∧ t.fld F.FLAGS_NZCV c =
        nzcvOf (a - i) (decide (i.toNat ≤ a.toNat)) (decide ((a - i).toInt ≠ a.toInt - i.toInt)) ∧
      Retires u t c (u.vpc c + 4) [(F.FLAGS_NZCV, c)] ∧ t = { u with regs := t.regs, vc := t.vc })) ∧
  (∀ (s : State) (c rd rs1 rs2 q : Nat) (imm : BitVec 16), Issues s c → rd < 32 → q < 4 →
    let u := issued c s
    let a := u.vget c rs1
    let b := u.vget c rs2
    let z : Word := imm.zeroExtend 64
    (∃ t, exec (.and c rd rs1 rs2 0) s = .next t ∧ AluDone u t c rd (a &&& b) false false) ∧
    (∃ t, exec (.or c rd rs1 rs2 0) s = .next t ∧ AluDone u t c rd (a ||| b) false false) ∧
    (∃ t, exec (.xor c rd rs1 rs2 0) s = .next t ∧ AluDone u t c rd (a ^^^ b) false false) ∧
    (∃ t, exec (.andn c rd rs1 rs2 0) s = .next t ∧ AluDone u t c rd (a &&& ~~~b) false false) ∧
    (∃ t r, exec (.min c rd rs1 rs2 0) s = .next t ∧ AluDone u t c rd r false false ∧ r.toInt = min a.toInt b.toInt) ∧
    (∃ t r, exec (.max c rd rs1 rs2 0) s = .next t ∧ AluDone u t c rd r false false ∧ r.toInt = max a.toInt b.toInt) ∧
    (∃ t r, exec (.minu c rd rs1 rs2 0) s = .next t ∧ AluDone u t c rd r false false ∧ r.toNat = min a.toNat b.toNat) ∧
    (∃ t r, exec (.maxu c rd rs1 rs2 0) s = .next t ∧ AluDone u t c rd r false false ∧ r.toNat = max a.toNat b.toNat) ∧
    (∃ t r, exec (.clz c rd rs1 0) s = .next t ∧ AluDone u t c rd r false false ∧
      (a = 0 → r = 64) ∧ (a ≠ 0 → r.toNat < 64 ∧ a.getLsbD (63 - r.toNat) = true ∧ ∀ k, 63 - r.toNat < k → a.getLsbD k = false)) ∧
    (∃ t r, exec (.popc c rd rs1 0) s = .next t ∧ AluDone u t c rd r false false ∧
      r.toNat = ((List.range 64).filter (fun k => a.getLsbD k)).length) ∧
    (∃ t, exec (.andi c rd rs1 imm) s = .next t ∧ AluDone u t c rd (a &&& z) false false) ∧
    (∃ t, exec (.ori c rd rs1 imm) s = .next t ∧ AluDone u t c rd (a ||| z) false false) ∧
    (∃ t, exec (.xori c rd rs1 imm) s = .next t ∧ AluDone u t c rd (a ^^^ z) false false) ∧
    (∃ t, exec (.setw c rd q imm 0) s = .next t ∧ RegSet u t c rd (z <<< (16 * q)) ∧
      Retires u t c (u.vpc c + 4) [] ∧ t = { u with regs := t.regs, vc := t.vc }) ∧
    (∃ t r, exec (.insw c rd q imm 0) s = .next t ∧ RegSet u t c rd r ∧
      (∀ k < 64, r.getLsbD k = if 16 * q ≤ k ∧ k < 16 * q + 16 then imm.getLsbD (k - 16 * q) else (u.vget c rd).getLsbD k) ∧
      Retires u t c (u.vpc c + 4) [] ∧ t = { u with regs := t.regs, vc := t.vc }))

/-- MUL, MULH, MULHU, DIV, DIVU, REM, REMU: result, flags and the zero divisor (R224, R229, R230). -/
def Obligations.MultiplyDivideForms : Prop :=
  ∀ (s : State) (c rd rs1 rs2 : Nat), Issues s c → rd < 32 →
    let u := issued c s
    let a := u.vget c rs1
    let b := u.vget c rs2
    let ov := decide (a = BitVec.intMin 64 ∧ b = BitVec.allOnes 64)
    (∃ t, exec (.mul c rd rs1 rs2 0) s = .next t ∧
      AluDone u t c rd (a * b) false (decide ((a * b).toInt ≠ a.toInt * b.toInt))) ∧
    (∃ t, exec (.mulh c rd rs1 rs2 0) s = .next t ∧ AluDone u t c rd (BitVec.ofInt 64 (a.toInt * b.toInt / 2 ^ 64)) false false) ∧
    (∃ t, exec (.mulhu c rd rs1 rs2 0) s = .next t ∧ AluDone u t c rd (BitVec.ofNat 64 (a.toNat * b.toNat / 2 ^ 64)) false false) ∧
    (b ≠ 0 →
      (∃ t, exec (.div c rd rs1 rs2 0) s = .next t ∧ AluDone u t c rd (BitVec.ofInt 64 (a.toInt.tdiv b.toInt)) false ov) ∧
      (∃ t, exec (.divu c rd rs1 rs2 0) s = .next t ∧ AluDone u t c rd (BitVec.ofNat 64 (a.toNat / b.toNat)) false false) ∧
      (∃ t, exec (.rem c rd rs1 rs2 0) s = .next t ∧ AluDone u t c rd (BitVec.ofInt 64 (a.toInt.tmod b.toInt)) false ov) ∧
      (∃ t, exec (.remu c rd rs1 rs2 0) s = .next t ∧ AluDone u t c rd (BitVec.ofNat 64 (a.toNat % b.toNat)) false false)) ∧
    (b = 0 → u.bit F.PSTATE_TRAPDZ c = false →
      ∀ i r, (i, r) ∈ [(Instr.div c rd rs1 rs2 0, BitVec.allOnes 64), (.divu c rd rs1 rs2 0, BitVec.allOnes 64),
          (.rem c rd rs1 rs2 0, a), (.remu c rd rs1 rs2 0, a)] →
        ∃ t, exec i s = .next t ∧ RegSet u t c rd r ∧ t.fld F.FLAGS_NZCV c = nzcvOf r false false ∧
          t.fld F.FLAGS_DZ c = 1 ∧ Retires u t c (u.vpc c + 4) [(F.FLAGS_NZCV, c), (F.FLAGS_DZ, c)] ∧
          t = { u with regs := t.regs, vc := t.vc })

/-- SLL, SRL, SRA, ROR and their immediate forms at every amount (R231, R232). -/
def Obligations.ShiftForms : Prop :=
  ∀ (s : State) (c rd rs1 rs2 amt : Nat), Issues s c → rd < 32 → amt < 128 →
    let u := issued c s
    let a := u.vget c rs1
    ∀ (i : Instr) (k kind : Nat),
      (i, k, kind) ∈ [(Instr.sll c rd rs1 rs2 0, (u.vget c rs2).toNat, 0), (.slli c rd rs1 amt 0, amt, 0),
        (.srl c rd rs1 rs2 0, (u.vget c rs2).toNat, 1), (.srli c rd rs1 amt 0, amt, 1),
        (.sra c rd rs1 rs2 0, (u.vget c rs2).toNat, 2), (.srai c rd rs1 amt 0, amt, 2),
        (.ror c rd rs1 rs2 0, (u.vget c rs2).toNat, 3), (.rori c rd rs1 amt 0, amt, 3)] →
      ∃ t r cf, exec i s = .next t ∧ AluDone u t c rd r cf false ∧
        (kind = 0 → r = BitVec.ofNat 64 (a.toNat * 2 ^ k) ∧ (cf = true ↔ 1 ≤ k ∧ k ≤ 64 ∧ a.getLsbD (64 - k) = true)) ∧
        (kind = 1 → r = BitVec.ofNat 64 (a.toNat / 2 ^ k) ∧ (cf = true ↔ 1 ≤ k ∧ k ≤ 64 ∧ a.getLsbD (k - 1) = true)) ∧
        (kind = 2 → r = BitVec.ofInt 64 (a.toInt / 2 ^ k) ∧
          (cf = true ↔ 1 ≤ k ∧ (if k ≤ 64 then a.getLsbD (k - 1) else a.msb) = true)) ∧
        (kind = 3 → r = a.rotateRight (k % 64) ∧ (cf = true ↔ k % 64 ≠ 0 ∧ r.msb = true))

/-- Loads and stores of the control cores, in every form (R201, R203, R204, R208, R225, R253, R256). -/
def Obligations.LoadStoreForms : Prop :=
  (∀ (s : State) (c rd rs1 : Nat) (imm : BitVec 16), Issues s c → rd < 32 →
    let u := issued c s
    let a := u.vget c rs1 + imm.signExtend 64
    ∀ (i : Instr) (w : Nat) (sgn : Bool),
      (i, w, sgn) ∈ [(Instr.ld c rd rs1 imm, 8, false), (.lw c rd rs1 imm, 4, true), (.lwu c rd rs1 imm, 4, false),
        (.lh c rd rs1 imm, 2, true), (.lhu c rd rs1 imm, 2, false), (.lb c rd rs1 imm, 1, true), (.lbu c rd rs1 imm, 1, false)] →
      (Reaches u c a w [0] →
        (∀ v, ((∃ off, vresolve u a = .lim off ∧ v = ofBytesLE ((List.range w).map (fun j => limByte u c (off + j)))) ∨
            (∃ off, vresolve u a = .ldm off ∧ v = ofBytesLE ((List.range w).map (fun j => u.rdB (aPriv c (0x1_0000 + off) + j)))) ∨
            (∃ dev l ln, vresolve u a = .noc dev l ∧ vcacheable u c a = true ∧
              dline u c (sysAddr dev l) (u.fld F.KEYATTR c) = some ln ∧ v = ofBytesLE ((ln.data.drop (l % 64)).take w))) →
          ∃ t, exec i s = .next t ∧
            RegSet u t c rd (if sgn && bitOf v (8 * w - 1) then BitVec.ofNat 64 (2 ^ 64 - 2 ^ (8 * w) + v % 2 ^ (8 * w))
              else BitVec.ofNat 64 (v % 2 ^ (8 * w))) ∧
            Retires (watched c a.toNat w true false (u.vset c rd (extend w sgn v))) t c (u.vpc c + 4) [] ∧ MemSame u t) ∧
        (∀ dev l, vresolve u a = .noc dev l →
          (vcacheable u c a = false → ∃ t p, exec i s = .next t ∧ t.reqs = u.reqs ++ [p] ∧ p.pkt.opc = opREAD ∧
            p.pkt.addr = l ∧ p.pkt.dev = dev ∧ p.pkt.len = w - 1 ∧ p.pkt.keyid = u.fld F.KEYATTR c ∧
            (t.vc.get c).wait = .load rd w sgn a.toNat ∧ t.vpc c = u.vpc c ∧ t = { u with vc := t.vc, reqs := t.reqs }) ∧
          (vcacheable u c a = true → dline u c (sysAddr dev l) (u.fld F.KEYATTR c) = none →
            ∃ t p, exec i s = .next t ∧ t.reqs = u.reqs ++ [p] ∧ p.pkt.opc = opREAD ∧ p.pkt.addr = l / 64 * 64 ∧
              p.pkt.dev = dev ∧ p.pkt.len = 63 ∧ (t.vc.get c).wait = .fillLoad rd w sgn a.toNat ∧ t.vpc c = u.vpc c ∧
              t = { u with vc := t.vc, reqs := t.reqs }))) ∧
      (u.bit F.PSTATE_TW c = false →
        (a.toNat % w ≠ 0 → ∃ t, exec i s = .next t ∧ TrapTaken u t c cALIGN 2 (u.vpc c) a 0) ∧
        (a.toNat % w = 0 → (vresolve u a = .bad ∨ vallowed u c a.toNat w [0] = false) →
          ∃ t, exec i s = .next t ∧ TrapTaken u t c cADDRESS 2 (u.vpc c) a 0))) ∧
  (∀ (s : State) (c rs2 rs1 : Nat) (imm : BitVec 16), Issues s c →
    let u := issued c s
    let a := u.vget c rs1 + imm.signExtend 64
    let v := (u.vget c rs2).toNat
    ∀ (i : Instr) (w : Nat),
      (i, w) ∈ [(Instr.sd c rs2 rs1 imm, 8), (.sw c rs2 rs1 imm, 4), (.sh c rs2 rs1 imm, 2), (.sb c rs2 rs1 imm, 1)] →
      (Reaches u c a w [1] →
        (∀ m, ((∃ off, vresolve u a = .lim off ∧ limWritable u c off = true ∧ m = aPriv c off) ∨
            (∃ off, vresolve u a = .ldm off ∧ vstoresOut u c = false ∧ m = aPriv c (0x1_0000 + off))) →
          ∃ t, exec i s = .next t ∧ (∀ j < w, t.rdB (m + j) = BitVec.ofNat 8 (v / 256 ^ j)) ∧ MemSameBut u t m w ∧
            RegSet u t c 0 0 ∧ Retires (watched c a.toNat w false true (u.wrBytes m (bytesLE w v))) t c (u.vpc c + 4) []) ∧
        (∀ dev l, vresolve u a = .noc dev l →
          (vcacheable u c a = false → ∃ t p, exec i s = .next t ∧ t.reqs = u.reqs ++ [p] ∧ p.pkt.opc = opWRITE ∧
            p.pkt.addr = l ∧ p.pkt.dev = dev ∧ p.pkt.len = w - 1 ∧ p.pkt.data = bytesLE w v ∧ p.why = .ccStore c a.toNat ∧
            t.vpc c = u.vpc c + 4 ∧ RegSet u t c 0 0 ∧ MemSame u t) ∧
          (∀ ln, vcacheable u c a = true → dline u c (sysAddr dev l) (u.fld F.KEYATTR c) = some ln →
            ∃ t, exec i s = .next t ∧ (t.vc.get c).dcache = putLine (u.vc.get c).dcache (ln.write l (bytesLE w v)) ∧
              t.vpc c = u.vpc c + 4 ∧ RegSet u t c 0 0 ∧ MemSame u t ∧ t.reqs = u.reqs)) ∧
        (∀ off, vresolve u a = .lim off → limWritable u c off = false → u.bit F.PSTATE_TW c = false →
          ∃ t, exec i s = .next t ∧ TrapTaken u t c cADDRESS 3 (u.vpc c) a 0)) ∧
      (u.bit F.PSTATE_TW c = false →
        (a.toNat % w ≠ 0 → ∃ t, exec i s = .next t ∧ TrapTaken u t c cALIGN 3 (u.vpc c) a 0) ∧
        (a.toNat % w = 0 → (vresolve u a = .bad ∨ vallowed u c a.toNat w [1] = false) →
          ∃ t, exec i s = .next t ∧ TrapTaken u t c cADDRESS 3 (u.vpc c) a 0)))

/-- SWAP, FADD, CAS: the old value in rd, the new value in memory, Z of CAS, and the request (R226, R203, R256). -/
def Obligations.AtomicForms : Prop :=
  ∀ (s : State) (c rd rs1 rs2 : Nat), Issues s c → rd < 32 →
    let u := issued c s
    let a := u.vget c rs1
    let op := u.vget c rs2
    let cmp := u.vget c rd
    ∀ (i : Instr) (kind : Nat),
      (i, kind) ∈ [(Instr.swap c rd rs1 rs2 0, 0), (.fadd c rd rs1 rs2 0, 1), (.cas c rd rs1 rs2 0, 2)] →
      Reaches u c a 8 [0, 1] →
      (∀ off, vresolve u a = .ldm off → vstoresOut u c = false →
        let m := aPriv c (0x1_0000 + off)
        let old : Word := BitVec.ofNat 64 (ofBytesLE ((List.range 8).map (fun j => u.rdB (m + j))))
        let new : Word := if kind = 0 then op else if kind = 1 then old + op else if old = cmp then op else old
        ∃ t, exec i s = .next t ∧ RegSet u t c rd old ∧ (∀ j < 8, t.rdB (m + j) = BitVec.ofNat 8 (new.toNat / 256 ^ j)) ∧
          MemSameBut u t m 8 ∧ t.vpc c = u.vpc c + 4 ∧
          (kind = 2 → bitOf (t.fld F.FLAGS_NZCV c) 2 = (old == cmp)) ∧
          (kind < 2 → t.fld F.FLAGS_NZCV c = u.fld F.FLAGS_NZCV c)) ∧
      (∀ dev l, vresolve u a = .noc dev l → isMemTarget l = true → vcacheable u c a = false →
        ∃ t p, exec i s = .next t ∧ t.reqs = u.reqs ++ [p] ∧ p.pkt.opc = opATOMIC ∧ p.pkt.atop = kind ∧ p.pkt.addr = l ∧
          p.pkt.dev = dev ∧ p.pkt.len = 7 ∧
          p.pkt.data = (if kind = 2 then bytesLE 8 cmp.toNat ++ bytesLE 8 op.toNat else bytesLE 8 op.toNat) ∧
          (t.vc.get c).wait = .atomic rd kind a.toNat ∧ t.vpc c = u.vpc c) ∧
      (∀ dev l, vresolve u a = .noc dev l → (isMemTarget l = false ∨ vcacheable u c a = true) → u.bit F.PSTATE_TW c = false →
        ∃ t, exec i s = .next t ∧ TrapTaken u t c cADDRESS 2 (u.vpc c) a 0)

/-- Cache maintenance, and register spill and fill (R203, R205, R206, R212, R214, R262). -/
def Obligations.CacheSpillForms : Prop :=
  (∀ (s : State) (c rs1 : Nat) (imm : BitVec 16), Issues s c →
    let u := issued c s
    let a := u.vget c rs1 + imm.signExtend 64
    let lines := fun (all : Bool) => dlinesOf u c (if all then none else some a)
    (u.bit F.PSTATE_TASK c = false →
      (∀ i all, (i, all) ∈ [(Instr.dcinv c rs1 imm, false), (.dcinvAll c 0, true)] →
        ∃ t, exec i s = .next t ∧ (t.vc.get c).dcache = (u.vc.get c).dcache.filter (fun m => !(lines all).contains m) ∧
          t.vpc c = u.vpc c + 4 ∧ RegSet u t c 0 0 ∧ t = { u with regs := t.regs, vc := t.vc }) ∧
      (∃ t, exec (.icinvAll c 0) s = .next t ∧ (t.vc.get c).icache = [] ∧ t.vpc c = u.vpc c + 4 ∧ RegSet u t c 0 0 ∧
        t = { u with regs := t.regs, vc := t.vc }) ∧
      (∃ t, exec (.icinv c rs1 imm) s = .next t ∧ t.vpc c = u.vpc c + 4 ∧ RegSet u t c 0 0 ∧
        (∀ dev l, vresolve u a = .noc dev l → ∀ m, m ∈ (t.vc.get c).icache ↔
          m ∈ (u.vc.get c).icache ∧ m.1 ≠ sysAddr dev l / 64 * 64) ∧ t = { u with regs := t.regs, vc := t.vc }) ∧
      (∀ i all inv, (i, all, inv) ∈ [(Instr.dcwb c rs1 imm, false, false), (.dcwbAll c 0, true, false),
          (.dcwbi c rs1 imm, false, true), (.dcwbiAll c 0, true, true)] →
        ∃ t, exec i s = .next t ∧ RegSet u t c 0 0 ∧ MemSame u t ∧
          t.reqs.length = u.reqs.length + ((lines all).filter (·.dirty)).length ∧
          t.reqs.drop u.reqs.length = ((lines all).filter (·.dirty)).map (fun m =>
            { pkt := { opc := opWRITE, len := 63, addr := m.a % 2 ^ 52, dev := m.a / 2 ^ 52, srcdev := u.fld F.DEV_ID, init := initCc c,
                       keyid := m.key, cls := 0, prio := u.fld F.NOC_INITCFG_PRIO 0 (initCc c), data := m.data },
              why := .ccWb c,
              target := targetKey { addr := m.a % 2 ^ 52, dev := m.a / 2 ^ 52 } }) ∧
          (((lines all).filter (·.dirty)) = [] → t.vpc c = u.vpc c + 4 ∧ (t.vc.get c).wait = .none) ∧
          (((lines all).filter (·.dirty)) ≠ [] → t.vpc c = u.vpc c ∧
            (t.vc.get c).wait = .maint ((lines all).filter (·.dirty)).length (if all then 0 else a.toNat) inv 0) ∧
          (inv = false → (t.vc.get c).dcache = (u.vc.get c).dcache))) ∧
    (u.bit F.PSTATE_TASK c = true → u.bit F.PSTATE_TW c = false →
      ∀ i ∈ [Instr.dcwb c rs1 imm, .dcinv c rs1 imm, .dcwbi c rs1 imm, .icinv c rs1 imm, .dcwbAll c 0, .dcinvAll c 0,
          .dcwbiAll c 0, .icinvAll c 0],
        ∃ t, exec i s = .next t ∧ TrapTaken u t c cPRIV 0 (u.vpc c) 0 0)) ∧
  (∀ (s : State) (c rs1 off : Nat), Issues s c →
    let u := issued c s
    let a := u.vget c rs1
    let m := aPriv c (0x1_0000 + off)
    let d := u.fld F.WSTATE_WDEPTH c
    (u.bit F.PSTATE_TASK c = false → a.toNat % 8 = 0 → vresolve u a = .ldm off → off + 96 ≤ 0x1_0000 → u.fld F.WSTATE_CWP c < 12 →
      (0 < d → d ≤ 10 → vstoresOut u c = false → ∃ t, exec (.spill c rs1 0) s = .next t ∧
        (∀ k < 12, ∀ j < 8, t.rdB (m + 8 * k + j) =
          BitVec.ofNat 8 (((u.vc.get c).regs.get (winReg (oldestWindow u c) k)).toNat / 256 ^ j)) ∧
        MemSameBut u t m 96 ∧ t.fld F.WSTATE_WDEPTH c = d - 1 ∧ t.vpc c = u.vpc c + 4 ∧ RegSet u t c 0 0) ∧
      (d < 10 → ∃ t, exec (.fill c rs1 0) s = .next t ∧
        (∀ k < 12, (t.vc.get c).regs.get (winReg (belowWindow u c) k) =
          BitVec.ofNat 64 (ofBytesLE ((List.range 8).map (fun j => u.rdB (m + 8 * k + j))))) ∧
        (∀ p, (∀ k < 12, p ≠ winReg (belowWindow u c) k) → (t.vc.get c).regs.get p = (u.vc.get c).regs.get p) ∧
        MemSame u t ∧ t.fld F.WSTATE_WDEPTH c = d + 1 ∧ t.vpc c = u.vpc c + 4)) ∧
    (u.bit F.PSTATE_TW c = false →
      (d = 0 → ∃ t, exec (.spill c rs1 0) s = .next t ∧ TrapTaken u t c cILLEGAL 0 (u.vpc c) 0 0) ∧
      (d = 10 → ∃ t, exec (.fill c rs1 0) s = .next t ∧ TrapTaken u t c cILLEGAL 0 (u.vpc c) 0 0) ∧
      (d ≠ 0 → d ≠ 10 → u.bit F.PSTATE_TASK c = true → ∀ i ∈ [Instr.spill c rs1 0, .fill c rs1 0],
        ∃ t, exec i s = .next t ∧ TrapTaken u t c cPRIV 0 (u.vpc c) 0 0) ∧
      (d ≠ 0 → d ≠ 10 → u.bit F.PSTATE_TASK c = false → a.toNat % 8 ≠ 0 →
        (∃ t, exec (.spill c rs1 0) s = .next t ∧ TrapTaken u t c cALIGN 3 (u.vpc c) a 0) ∧
        ∃ t, exec (.fill c rs1 0) s = .next t ∧ TrapTaken u t c cALIGN 2 (u.vpc c) a 0)))

/-- Bcc, BZ, BNZ, CALL, JMP, CALLR, JR: the next PC, W11 of a call, and the reserved condition (R227, R222, R208,
R202). -/
def Obligations.BranchCallForms : Prop :=
  ∀ (s : State) (c rs1 cond : Nat) (d22 : BitVec 22) (d26 : BitVec 26) (imm : BitVec 16), Issues s c → cond < 16 →
    let u := issued c s
    let pc := u.vpc c
    let f := u.fld F.FLAGS_NZCV c
    let N := bitOf f 3
    let Z := bitOf f 2
    let C := bitOf f 1
    let V := bitOf f 0
    let far22 := pc + BitVec.ofInt 64 (4 * d22.toInt)
    let far26 := pc + BitVec.ofInt 64 (4 * d26.toInt)
    let far16 := pc + BitVec.ofInt 64 (4 * imm.toInt)
    let goes := fun (i : Instr) (npc : Word) =>
      ∃ t, exec i s = .next t ∧ RegSet u t c 0 0 ∧ Retires u t c npc [] ∧ t = { u with regs := t.regs, vc := t.vc }
    let calls := fun (i : Instr) (npc : Word) =>
      ∃ t, exec i s = .next t ∧ RegSet u t c 27 (pc + 4) ∧ Retires u t c npc [] ∧ t = { u with regs := t.regs, vc := t.vc }
    (∀ b, (cond, b) ∈ [(0, true), (2, Z), (3, !Z), (4, !C), (5, C), (6, !C || Z), (7, C && !Z), (8, N != V), (9, N == V),
        (10, Z || N != V), (11, !Z && N == V), (12, N), (13, !N), (14, V), (15, !V)] →
      goes (.bcc c cond d22) (if b then far22 else pc + 4)) ∧
    (u.bit F.PSTATE_TW c = false → ∃ t, exec (.bcc c 1 d22) s = .next t ∧ TrapTaken u t c cILLEGAL 0 pc 0 0) ∧
    goes (.bz c rs1 imm 0) (if u.vget c rs1 = 0 then far16 else pc + 4) ∧
    goes (.bnz c rs1 imm 0) (if u.vget c rs1 = 0 then pc + 4 else far16) ∧
    calls (.call c d26) far26 ∧ goes (.jmp c d26) far26 ∧
    calls (.callr c rs1 0) (u.vget c rs1) ∧ goes (.jr c rs1 0) (u.vget c rs1)

/-- ENTER and LEAVE: CWP and WDEPTH, the shared registers, WINOVF and WINUNF (R211). -/
def Obligations.WindowForms : Prop :=
  ∀ (s : State) (c : Nat), Issues s c →
    let u := issued c s
    let w := u.fld F.WSTATE_CWP c
    let d := u.fld F.WSTATE_WDEPTH c
    (d < 10 → w < 12 → ∃ t, exec (.enter c 0) s = .next t ∧ t.fld F.WSTATE_CWP c = (w + 1) % 12 ∧ t.fld F.WSTATE_WDEPTH c = d + 1 ∧
      (u.bit F.PSTATE_TW c = false → ∀ k < 4, t.vget c (16 + k) = u.vget c (28 + k)) ∧
      (t.vc.get c).regs = (u.vc.get c).regs ∧
      Retires u t c (u.vpc c + 4) [(F.WSTATE_CWP, c), (F.WSTATE_WDEPTH, c)] ∧ t = { u with regs := t.regs, vc := t.vc }) ∧
    (0 < d → d < 16 → w < 12 → ∃ t, exec (.leave c 0) s = .next t ∧ t.fld F.WSTATE_CWP c = (w + 11) % 12 ∧ t.fld F.WSTATE_WDEPTH c = d - 1 ∧
      (t.vc.get c).regs = (u.vc.get c).regs ∧
      Retires u t c (u.vpc c + 4) [(F.WSTATE_CWP, c), (F.WSTATE_WDEPTH, c)] ∧ t = { u with regs := t.regs, vc := t.vc }) ∧
    (u.bit F.PSTATE_TW c = false → (10 ≤ d → ∃ t, exec (.enter c 0) s = .next t ∧ TrapTaken u t c cWINOVF 0 (u.vpc c) 0 0) ∧
      (d = 0 → ∃ t, exec (.leave c 0) s = .next t ∧ TrapTaken u t c cWINUNF 0 (u.vpc c) 0 0))

/-- MFSR and MTSR: every system register, the task set, PRIV and ILLEGAL (R214, R215, R219, R220, R246). -/
def Obligations.SystemRegisterForms : Prop :=
  ∀ (s : State) (c rd rs1 : Nat) (sr : BitVec 12), Issues s c → rd < 32 →
    let u := issued c s
    let n := sr.toNat
    let task := u.bit F.PSTATE_TASK c
    let v := (u.vget c rs1).toNat
    (∀ r i, vsrFind u c n = some (r, i) →
      ((task = false ∨ n ∈ [0, 1, 2, 0x30, 0x31, 0x38]) →
        (n ≠ 0x30 → ∃ t, exec (.mfsr c rd sr 0) s = .next t ∧ RegSet u t c rd (BitVec.ofNat 64 (r.pack i (vsrField u c))) ∧
          Retires u t c (u.vpc c + 4) [] ∧ t = { u with regs := t.regs, vc := t.vc }) ∧
        (n = 0x30 → ∃ t, let v := BitVec.ofNat 64 (u.fld F.CYCLE c) + Config.freeValue u.freeCtr
          exec (.mfsr c rd sr 0) s = .next t ∧ RegSet u t c rd v ∧ t.fld F.CYCLE c = v.toNat ∧
          t.freeCtr = u.freeCtr + 1 ∧ Retires u t c (u.vpc c + 4) [(F.CYCLE, c)] ∧
          t = { u with regs := t.regs, vc := t.vc, freeCtr := t.freeCtr })) ∧
      ((task = false ∨ n = 1) → (n < 0x60 ∨ u.bit F.DCTL_OWN c = false) →
        ∃ t, exec (.mtsr c sr rs1 0) s = .next t ∧ t.vpc c = u.vpc c + 4 ∧ (t.vc.get c).regs = (u.vc.get c).regs ∧
          (∀ f ∈ r.fields, (f.acc = .rw ∨ (f.acc = .hw ∧ n < 0x60)) →
              f.id ≠ F.WSTATE_CWP.id → f.id ≠ F.WSTATE_WDEPTH.id → f.id ≠ F.DCTL_OWN.id →
            t.fld f c i = v / 2 ^ f.lo % 2 ^ f.w) ∧
          (n = 3 → (v % 16 ≤ 11 → t.fld F.WSTATE_CWP c = v % 16) ∧ (11 < v % 16 → t.fld F.WSTATE_CWP c = u.fld F.WSTATE_CWP c) ∧
            (v / 256 % 16 ≤ 10 → t.fld F.WSTATE_WDEPTH c = v / 256 % 16) ∧
            (10 < v / 256 % 16 → t.fld F.WSTATE_WDEPTH c = u.fld F.WSTATE_WDEPTH c)) ∧
          (∀ f ∈ r.fields, f.acc = .ro → f.id ≠ F.RETIRED.id → f.id ≠ F.DSTATUS_SKIP.id → t.fld f c i = u.fld f c i) ∧
          FldSame u t ([(F.RETIRED, c), (F.CC_PC_PC, c), (F.DSTATUS_SKIP, c)] ++ r.fields.map (fun f => (f, c))) ∧
          t = { u with regs := t.regs, vc := t.vc }) ∧
      (u.bit F.PSTATE_TW c = false → task = true →
        (n ∉ [0, 1, 2, 0x30, 0x31, 0x38] → ∃ t, exec (.mfsr c rd sr 0) s = .next t ∧ TrapTaken u t c cPRIV 0 (u.vpc c) 0 0) ∧
        (n ≠ 1 → ∃ t, exec (.mtsr c sr rs1 0) s = .next t ∧ TrapTaken u t c cPRIV 0 (u.vpc c) 0 0))) ∧
    (vsrFind u c n = none → u.bit F.PSTATE_TW c = false → ∀ i ∈ [Instr.mfsr c rd sr 0, .mtsr c sr rs1 0],
      ∃ t, exec i s = .next t ∧ TrapTaken u t c cILLEGAL 0 (u.vpc c) 0 0)

/-- Fences, WAIT, traps and the return from them (R214, R221, R229, R233, R240, R243, R244, R255, R258, R261). -/
def Obligations.WaitTrapForms : Prop :=
  (∀ (s : State) (c : Nat), Issues s c →
    let u := issued c s
    (vstoresOut u c = false →
      (∀ i ∈ [Instr.fenceSl c 0, .fence c 0, .syncI c 0], ∃ t, exec i s = .next t ∧ RegSet u t c 0 0 ∧
        Retires u t c (u.vpc c + 4) [] ∧ t = { u with regs := t.regs, vc := t.vc }) ∧
      (u.bit F.PSTATE_TASK c = false → ∃ t, exec (.wait c 0) s = .next t ∧ RegSet u t c 0 0 ∧
        Retires u t c (u.vpc c + 4) [(F.CC_STATUS_STATE, c)] ∧
        t = { u with regs := t.regs, vc := t.vc, deepWait := t.deepWait } ∧
        t.fld F.CC_STATUS_STATE c = (if vwakes t c then u.fld F.CC_STATUS_STATE c else 2) ∧
        (vwakes t c = false → (t.deepWait = true ↔ u.fld F.PWR_MODE_MODE ∈ [1, 2, 3])))) ∧
    (vstoresOut u c = true →
      (∀ i k, (i, k) ∈ [(Instr.fenceSl c 0, 0), (.fence c 0, 1), (.syncI c 0, 2)] →
        exec i s = .next (u.updVc c (fun v => { v with wait := .drain k }))) ∧
      (u.bit F.PSTATE_TASK c = false → exec (.wait c 0) s = .next (u.updVc c (fun v => { v with wait := .drain 3 }))))) ∧
  (∀ (s : State) (c rd rs1 rs2 mbz : Nat) (n : BitVec 16), Issues s c → rd < 32 →
    let u := issued c s
    (u.bit F.PSTATE_TASK c = false → ∃ t, exec (.eret c 0) s = .next t ∧ t.vpc c = BitVec.ofNat 64 (u.fld F.TPC c) ∧
      t.fld F.PSTATE_TRAPDZ c = u.fld F.TPSTATE_TRAPDZ c % 2 ∧ t.fld F.PSTATE_IE c = u.fld F.TPSTATE_IE c % 2 ∧
      t.fld F.PSTATE_TASK c = u.fld F.TPSTATE_TASK c % 2 ∧ t.fld F.PSTATE_TW c = 0 ∧
      (u.bit F.DCTL_MONEXIT c = true → t.fld F.DCTL_MON c = 0 ∧ t.fld F.DCTL_MONEXIT c = 0) ∧
      FldSame u t ([F.RETIRED, F.CC_PC_PC, F.DSTATUS_SKIP, F.PSTATE_TRAPDZ, F.PSTATE_IE, F.PSTATE_TASK, F.PSTATE_TW, F.DCTL_MON,
        F.DCTL_MONEXIT].map (fun f => (f, c))) ∧
      (t.vc.get c).regs = (u.vc.get c).regs ∧ t = { u with regs := t.regs, vc := t.vc }) ∧
    (u.bit F.PSTATE_TW c = false →
      (∃ t, exec (.trap c n 0) s = .next t ∧ TrapTaken (vretire c u) t c cSWTRAP 0 (u.vpc c + 4) 0 n.toNat) ∧
      (u.vget c rs2 = 0 → u.bit F.PSTATE_TRAPDZ c = true → ∀ i r,
        (i, r) ∈ [(Instr.div c rd rs1 rs2 0, BitVec.allOnes 64), (.divu c rd rs1 rs2 0, BitVec.allOnes 64),
          (.rem c rd rs1 rs2 0, u.vget c rs1), (.remu c rd rs1 rs2 0, u.vget c rs1)] →
        ∃ w t, exec i s = .next t ∧ RegSet u w c rd r ∧ w.fld F.FLAGS_DZ c = 1 ∧ w.fld F.FLAGS_NZCV c = nzcvOf r false false ∧
          TrapTaken w t c cDZ 0 (u.vpc c + 4) 0 0) ∧
      (mbz ≠ 0 → ∀ i ∈ [Instr.add c rd rs1 rs2 mbz, .sub c rd rs1 rs2 mbz, .clz c rd rs1 mbz, .mul c rd rs1 rs2 mbz,
          .sll c rd rs1 rs2 mbz, .slli c rd rs1 1 mbz, .swap c rd rs1 rs2 mbz, .dcwbAll c mbz, .spill c rs1 mbz, .jr c rs1 mbz,
          .enter c mbz, .fence c mbz, .wait c mbz, .eret c mbz, .trap c n mbz, .lload c rd rs1 mbz, .lexit c rd rs1 mbz],
        ∃ t, exec i s = .next t ∧ TrapTaken u t c cILLEGAL 0 (u.vpc c) 0 0) ∧
      (u.bit F.PSTATE_TASK c = true → ∀ i ∈ [Instr.wait c 0, .eret c 0],
        ∃ t, exec i s = .next t ∧ TrapTaken u t c cPRIV 0 (u.vpc c) 0 0)) ∧
    (u.bit F.PSTATE_TW c = true → mbz ≠ 0 → ∃ t, exec (.add c rd rs1 rs2 mbz) s = .next t ∧ t.fld F.CC_STATUS_STATE c = 3 ∧
      t.fld F.CC_FAULT_VALID c = 1 ∧ t.fld F.CC_FAULT_CAUSE c = cILLEGAL ∧ t.fld F.CC_FAULT_PC_PC c = (u.vpc c).toNat ∧
      (t.vc.get c).regs = (u.vc.get c).regs))

/-- A control core takes an interrupt, SBUS or debug event, wakes, starts, is reset, and is reached by window (R242,
R254, R655, R651, R737, R738, R234, R238, R239, R729). -/
def Obligations.ControlCoreEvents : Prop :=
  ∀ (s : State) (c n : Nat),
    (vbetween s c = true → s.bit F.PSTATE_IE c = true → (s.vc.get c).sbus = false → (s.vc.get c).dbg = 0 →
      irqPresented s (tgtCc c) = some n →
      ∃ t, exec (.ccTakeInterrupt c) s = .next t ∧ TrapTaken (irqClaimSrc n s) t c cINTERRUPT 0 (s.vpc c) 0 n ∧
        t.fld F.IRQ_SRC_PENDING 0 n = 0 ∧ t.fld F.IRQ_SRC_ACTIVE 0 n = 1) ∧
    (vbetween s c = true → (s.vc.get c).sbus = true →
      ∃ t, exec (.ccTakeSbus c) s = .next t ∧ (t.vc.get c).sbus = false ∧
        TrapTaken (s.updVc c (fun k => { k with sbus := false })) t c cSBUS 0 (s.vpc c)
          (BitVec.ofNat 64 (s.fld F.SERR_ADDR_ADDR c)) (s.fld F.SERR_CODE c % 2 ^ 16)) ∧
    (vbetween s c = true → (s.vc.get c).sbus = false → (s.vc.get c).dbg ≠ 0 →
      ∃ t, exec (.ccTakeDebug c) s = .next t ∧ t.fld F.DCTL_MON c = 1 ∧ t.fld F.TPC c = (s.vpc c).toNat ∧
        t.fld F.TCAUSE_CAUSE c = cDEBUG ∧ t.fld F.TINFO c = (s.vc.get c).dbg % 2 ^ 16 ∧ t.fld F.PSTATE_TW c = 1 ∧
        t.vpc c = BitVec.ofNat 64 (s.fld F.TBASE_BASE c * 2048 + 64 * cDEBUG) ∧ MemSame s t) ∧
    (c < 8 → s.dev = .run → (s.vc.get c).romWait = false → s.fld F.CC_STATUS_STATE c = 2 → vwakes s c = true →
      ∃ t, exec (.ccWake c) s = .next t ∧ t.fld F.CC_STATUS_STATE c = 1 ∧ OnlyRegs s t [(F.CC_STATUS_STATE, c)]) ∧
    (c < 8 → s.fld F.CC_STATUS_STATE c = 0 → ccDead s c = false → underTest s 6 c = false →
      ∃ t, exec (.ccStart c) s = .next t ∧ t.fld F.CC_STATUS_STATE c = 1 ∧
        t.vpc c = BitVec.ofNat 64 (s.fld F.CC_ENTRY_ENTRY c * 4) ∧ t.fld F.PSTATE_TASK c = 0 ∧
        (t.vc.get c).regs = (s.vc.get c).regs ∧ FldSame s t [(F.CC_STATUS_STATE, c), (F.PSTATE_TASK, c)] ∧ t = { s with regs := t.regs, vc := t.vc }) ∧
    (c < 8 → ∃ t, exec (.ccReset c) s = .next t ∧ t.fld F.CC_STATUS_STATE c = 0 ∧ t.vc.get c = {} ∧
      t.fld F.TBASE_BASE c = 0x2008_00E0_0000_0000 / 2048 ∧ t.fld F.PSTATE_TW c = 0 ∧ t.fld F.WSTATE_WDEPTH c = 0 ∧
      (∀ r ∈ t.reqs, r.pkt.init = initCc c → r.why = .dropped) ∧ MemSame s t ∧ (∀ k, k ≠ c → t.vc.get k = s.vc.get k)) ∧
    (c < 8 → ∀ init off k, (k = 4 ∨ k = 8) → 0x2_0000 ≤ off → off < 0x4_0000 → off % k = 0 →
      (∃ t, exec (.ccWindowMemoryAccess init c off k false []) s = .next t ∧ MemSame s t ∧
        t = s.emit (.reply init 0 ((List.range k).map (fun j => s.rdB (aPriv c (off - 0x2_0000) + j))))) ∧
      (∀ data : List Byte, data.length = k → ∃ t, exec (.ccWindowMemoryAccess init c off k true data) s = .next t ∧
        (∀ j < k, t.rdB (aPriv c (off - 0x2_0000) + j) = data.getD j 0) ∧ MemSameBut s t (aPriv c (off - 0x2_0000)) k ∧
        t.out = s.out ++ [.reply init 0 []] ∧ t.regs = s.regs))

/-- The boot core is released into the ROM, which enters the first slot that passes (R238, R263, R266, R267). -/
def Obligations.BootRelease : Prop :=
  ∀ (s : State) (a b : List Byte),
    let c := bootCore s
    s.startup = true → s.vin = true → s.dev = .run → c ≠ 8 → privBad s 4 = false → privBad s 5 = false → privBad s 6 = false →
    (recHeader s a = 0 → recBody s a = 0 →
      ∃ t, exec (.cc0Release a b) s = .next t ∧ t.vpc c = BitVec.ofNat 64 (0x2008_00E0_0000_0000 + recField a 0x10 4) ∧
        t.fld F.CC_STATUS_STATE c = 1 ∧ t.fld F.CCFG_LIMRO c = 1 ∧ t.fld F.BOOT_STATUS_DONE = 1 ∧ t.fld F.BOOT_STATUS_SLOT = 0 ∧
        t.romOverlay = false ∧ t.startup = false ∧ t.out = s.out ++ [.xspiRead 0x13 0] ∧
        (∀ j < recLim a, t.rdB (aPriv c j) = (flashBytes a 0x40 (recLim a)).getD j 0)) ∧
    (recHeader s a ≠ 0 → recHeader (s.setFld F.BOOT_STATUS_CODE_A 0 0 (recHeader s a)) b ≠ 0 →
      ∃ t, exec (.cc0Release a b) s = .next t ∧ t.fld F.BOOT_STATUS_FAILED = 1 ∧ t.fld F.BOOT_STATUS_CODE_A = recHeader s a ∧
        t.fld F.CC_STATUS_STATE c = 2 ∧ t.fld F.PWR_MODE_MODE = 0 ∧ (t.vc.get c).romWait = true ∧ t.startup = false ∧
        t.romOverlay = s.romOverlay ∧ t.out = s.out ++ [.xspiRead 0x13 0, .xspiRead 0x13 0x8_0000])

/-- Multiplies and ALU operations of the signal cores (R146, R376, R377, R378, R379, R380). -/
def Obligations.SignalArithmeticForms : Prop :=
  (∀ (s : State) (n d a b k : Nat) (sat uns : Bool), ScIssues s n → d < 4 → a < 32 → b < 32 → k < 64 →
    let u := scIssued n s
    let m := sVal u n a uns * sVal u n b uns
    let m' := sVal u n (a + 1) uns * sVal u n (b + 1) uns
    let c := aVal u n d uns
    let x := aVal u n (b % 4) uns
    (∀ i r, (i, r) ∈ [(Instr.scMul n d a b sat uns 0 0 0, m), (.scMac n d a b sat uns 0 0 0, c + m),
        (.scMsu n d a b sat uns 0 0 0, c - m), (.scDmul n d a b sat uns 0 0 0, m + m'),
        (.scDmac n d a b sat uns 0 0 0, c + m + m'), (.scDmsu n d a b sat uns 0 0 0, c - m - m'),
        (.scAccadd n d (b % 4) sat uns 0 0 0, c + x), (.scAccsub n d (b % 4) sat uns 0 0 0, c - x)] →
      ∃ w, exec i s = .next (scSeq u n .nop w) ∧ AccTakes u w n d sat uns r) ∧
    (∀ i r r', (i, r, r') ∈ [(Instr.scPmul n d a b sat uns 0 0 0, m, m'),
        (.scPmac n d a b sat uns 0 0 0, c + m, aVal u n (d ^^^ 1) uns + m')] →
      ∃ w v, exec i s = .next (scSeq u n .nop w) ∧ AccTakes u v n d sat uns r ∧ AccTakes v w n (d ^^^ 1) sat uns r') ∧
    (∃ w, exec (.scAccld n d a (k % 32) uns 0 0 0) s = .next (scSeq u n .nop w) ∧
      (∀ j < 4, w.saget n j = if j = d then BitVec.ofInt 56 (sVal u n a uns * 2 ^ (k % 32)) else u.saget n j) ∧
      w.sc.get n = { u.sc.get n with acc := (w.sc.get n).acc } ∧ OnlySc u w n []) ∧
    (∃ w, exec (.scAccsra n d k 0 0 0) s = .next (scSeq u n .nop w) ∧
      (∀ j < 4, w.saget n j = if j = d then (u.saget n d).sshiftRight k else u.saget n j) ∧
      w.sc.get n = { u.sc.get n with acc := (w.sc.get n).acc } ∧ OnlySc u w n []) ∧
    (∃ w, exec (.scAccclr n d 0 0 0) s = .next (scSeq u n .nop w) ∧
      (∀ j < 4, w.saget n j = if j = d then 0 else u.saget n j) ∧
      w.sc.get n = { u.sc.get n with acc := (w.sc.get n).acc } ∧ OnlySc u w n [])) ∧
  (∀ (s : State) (n a b rd k sh rnd src : Nat) (sat uns : Bool), ScIssues s n → a < 32 → b < 32 → rd < 32 → k < 32 → sh < 64 → rnd < 3 →
    src < 4 →
    let u := scIssued n s
    let A := u.svget n a
    let B := u.svget n b
    let x := A.toInt
    let y := B.toInt
    let v := aVal u n src uns
    let e := min 32 sh
    let q := v / 2 ^ e
    let r := v - q * 2 ^ e
    let rounded : Int := if e = 0 then v else if rnd = 1 then (if 2 ^ e ≤ 2 * r then q + 1 else q)
      else if rnd = 2 then (if 2 ^ e < 2 * r ∨ (2 ^ e = 2 * r ∧ q % 2 = 1) then q + 1 else q) else q
    let m := x * y / 2 ^ 23
    let mr := x * y - m * 2 ^ 23
    let fm : Int := if 2 ^ 23 < 2 * mr ∨ (2 ^ 23 = 2 * mr ∧ m % 2 = 1) then m + 1 else m
    (∀ i st z, (i, st, z) ∈ [(Instr.scAdd n a b rd sat 0 0 0, sat, x + y), (.scSub n a b rd sat 0 0 0, sat, x - y),
        (.scNeg n a rd sat 0 0 0, sat, -x), (.scAbs n a rd sat 0 0 0, sat, (x.natAbs : Int)),
        (.scShl n a b rd sat 0 0 0, sat, if 24 ≤ B.toNat then x * 2 ^ 48 else x * 2 ^ B.toNat),
        (.scShli n a k rd sat 0 0 0, sat, if 24 ≤ k then x * 2 ^ 48 else x * 2 ^ k), (.scFmul n a b rd false 0 0 0, true, fm)] →
      ∃ w, exec i s = .next (scSeq u n .nop w) ∧ VTakes u w n rd (brought 24 st false z) [(F.S_SFLAGS_OV24, n)] ∧
        w.fld F.S_SFLAGS_OV24 n = if leaves 24 false z then 1 else u.fld F.S_SFLAGS_OV24 n) ∧
    (∀ i z, (i, z) ∈ [(Instr.scMin n a b rd false 0 0 0, if x ≤ y then A else B), (.scMax n a b rd false 0 0 0, if x ≤ y then B else A),
        (.scAnd n a b rd false 0 0 0, A &&& B), (.scOr n a b rd false 0 0 0, A ||| B), (.scXor n a b rd false 0 0 0, A ^^^ B),
        (.scShr n a b rd false 0 0 0, A >>> B.toNat), (.scShri n a k rd false 0 0 0, A >>> k),
        (.scSra n a b rd false 0 0 0, A.sshiftRight B.toNat), (.scSrai n a k rd false 0 0 0, A.sshiftRight k)] →
      ∃ w, exec i s = .next (scSeq u n .nop w) ∧ VTakes u w n rd z [] ) ∧
    (∃ w, exec (.scExt n src rd sh rnd sat uns 0 0 0) s = .next (scSeq u n .nop w) ∧
      VTakes u w n rd (brought 24 sat uns rounded) [(F.S_SFLAGS_OVX, n)] ∧
      w.fld F.S_SFLAGS_OVX n = if leaves 24 uns rounded then 1 else u.fld F.S_SFLAGS_OVX n) ∧
    exec (.scMacNop n 0 0) s = .next (scSeq u n .nop u))

/-- Moves, shifts, conversions and searches of the signal cores (R372, R374, R375, R376, R377, R381). -/
def Obligations.SignalDataForms : Prop :=
  (∀ (s : State) (n a d i q p : Nat) (two cs : Bool) (imm10 : BitVec 10) (imm : BitVec 24), ScIssues s n →
    a < 32 → d < 32 → i < 8 → q < 4 → p < 3 → (p = 2 → imm.toNat < 65536) →
    let u := scIssued n s
    let k := u.sc.get n
    let wd := if p = 2 then 16 else 24
    let wa := if p = 2 then 8 else 24
    let ap := (k.ap.get i).toNat
    let acc := (u.saget n q).toNat
    let ins := fun (old w v : Nat) => old - old / 2 ^ (24 * p) % 2 ^ w * 2 ^ (24 * p) + v % 2 ^ w * 2 ^ (24 * p)
    (exec (.scMnop n two 0 0) s = .next (scSeq u n .nop u)) ∧
    (∀ c x, (c, x) ∈ [(Instr.scMov n two d a 0 0 0, u.svget n a), (.scMvi n two d imm10 0 0, imm10.signExtend 24),
        (.scMvfa n two d i p 0 0 0, BitVec.ofNat 24 (ap / 2 ^ (24 * p) % 2 ^ wd)),
        (.scMvfs n two d i cs 0 0 0, if cs then k.cs.get i else k.st.get i),
        (.scMvfacc n two d q p 0 0 0, if p = 2 then (BitVec.ofNat 8 (acc / 2 ^ 48)).signExtend 24 else BitVec.ofNat 24 (acc / 2 ^ (24 * p))),
        (.scMvfix n two d q cs 0 0 0, BitVec.ofNat 24 (if cs then k.ixc.get q else k.ix.get q)), (.scLmvi n d imm 0 0, imm)] →
      ∃ w, exec c s = .next (scSeq u n .nop w) ∧ VTakes u w n d x []) ∧
    (∀ c x, (c, x) ∈ [(Instr.scAadd n two a i 0 0 0, apAdd (k.ap.get i) (k.cs.get i) (u.svget n a).toInt),
        (.scMvta n two a i p 0 0 0, BitVec.ofNat 64 (ins ap wd (u.svget n a).toNat)),
        (.scLseta n i p imm 0 0, BitVec.ofNat 64 (ins 0 wd imm.toNat)), (.scLinsa n i p imm 0 0, BitVec.ofNat 64 (ins ap wd imm.toNat))] →
      ∃ w, exec c s = .next (scSeq u n .nop w) ∧ (w.sc.get n) = { k with ap := k.ap.set i x } ∧ OnlySc u w n []) ∧
    (∀ c x, (c, x) ∈ [(Instr.scMvts n two a i cs 0 0 0, u.svget n a), (.scLst n i cs imm 0 0, imm)] →
      ∃ w, exec c s = .next (scSeq u n .nop w) ∧
        (w.sc.get n) = (if cs then { k with cs := k.cs.set i x } else { k with st := k.st.set i x }) ∧ OnlySc u w n []) ∧
    (∃ w, exec (.scMvtacc n two a q p 0 0 0) s = .next (scSeq u n .nop w) ∧
      (w.sc.get n) = { k with acc := k.acc.set q (BitVec.ofNat 56 (ins acc wa (u.svget n a).toNat)) } ∧ OnlySc u w n []) ∧
    (∃ w, exec (.scMvtix n two a q cs 0 0 0) s = .next (scSeq u n .nop w) ∧
      (w.sc.get n) = (if cs then { k with ixc := k.ixc.set q ((u.svget n a).toNat % 2 ^ 16) }
        else { k with ix := k.ix.set q ((u.svget n a).toNat % 2 ^ 16) }) ∧ OnlySc u w n [])) ∧
  (∀ (s : State) (n d a : Nat) (big f dual uz abs : Bool), ScIssues s n → d < 4 → a < 32 →
    let u := scIssued n s
    let i := if big then Instr.scSmax n d a f dual uz abs 0 0 0 else .scSmin n d a f dual uz abs 0 0 0
    let el := fun j => if abs then ((sVal u n j uz).natAbs : Int) else sVal u n j uz
    let wins := fun (x : Int) (c : Acc) => if big then decide (c.toInt < x) else decide (x < c.toInt)
    let stp := fun (x : Int) (c : Acc) (ix ixc : Nat) (o : Bool) =>
      (if wins x c then BitVec.ofInt 56 x else c, if wins x c then ixc else ix, if ixc < 0xFFFF then ixc + 1 else ixc, o || ixc == 0xFFFF)
    let k := u.sc.get n
    let r1 := if f then (BitVec.ofInt 56 (el a), 0, 1, false)
      else stp (el a) (u.saget n d) (k.ix.get d) (k.ixc.get d) (bitOf (u.fld F.S_SFLAGS_IXOVF n) d)
    let r := if dual then stp (el (a + 1)) r1.1 r1.2.1 r1.2.2.1 r1.2.2.2 else r1
    ∃ w, exec i s = .next (scSeq u n .nop w) ∧
      (∀ j < 4, w.saget n j = if j = d then r.1 else u.saget n j) ∧
      (∀ j < 4, (w.sc.get n).ix.get j = if j = d then r.2.1 else k.ix.get j) ∧
      (∀ j < 4, (w.sc.get n).ixc.get j = if j = d then r.2.2.1 else k.ixc.get j) ∧
      (∀ j < 4, bitOf (w.fld F.S_SFLAGS_IXOVF n) j = if j = d then r.2.2.2 else bitOf (u.fld F.S_SFLAGS_IXOVF n) j) ∧
      w.sc.get n = { k with acc := (w.sc.get n).acc, ix := (w.sc.get n).ix, ixc := (w.sc.get n).ixc } ∧
      OnlySc u w n [(F.S_SFLAGS_IXOVF, n)])

/-- Signal-core LD and ST: the own operand banks, the network, ALIGN and ADDRESS (R364, R365, R366, R374, R388). -/
def Obligations.SignalMemoryForms : Prop :=
  ∀ (s : State) (n v i m off : Nat) (two pair : Bool), ScIssues s n → v < 32 → i < 8 → m < 4 →
    let u := scIssued n s
    let k := u.sc.get n
    let a := k.ap.get i
    let sz := if pair then 8 else 4
    let word := fun j => (u.svget n (v + j)).toNat
    (a.toNat % sz = 0 → scResolve u n a = .own off → off + sz ≤ 0x2_0000 → scOut u n = false →
      (∃ t, exec (.scSt n two v i m pair 0 0 0) s = .next t ∧
        (∀ j < sz, j % 4 ≠ 3 → t.rdB (aSc n (off + j)) = BitVec.ofNat 8 (word (j / 4) / 256 ^ (j % 4))) ∧
        (∀ x, (∀ j < sz, j % 4 ≠ 3 → x ≠ aSc n (off + j)) → t.rdB x = u.rdB x) ∧
        (t.sc.get n).v = k.v ∧ (t.sc.get n).acc = k.acc ∧
        (∀ j < 8, (t.sc.get n).ap.get j = if j = i ∧ m ≠ 0 then apMode k i m else k.ap.get j)) ∧
      ((∀ j < sz, u.ecc.get (aSc n (off + j)) = 0) →
        ∃ t, exec (.scLd n two v i m pair 0 0 0) s = .next t ∧
          (t.sc.get n).v.get (scPhys u n v) = BitVec.ofNat 24 (ofBytesLE ((List.range 3).map (fun j => u.rdB (aSc n (off + j))))) ∧
          (pair = true → (t.sc.get n).v.get (scPhys u n (v + 1)) =
            BitVec.ofNat 24 (ofBytesLE ((List.range 3).map (fun j => u.rdB (aSc n (off + 4 + j)))))) ∧
          (∀ p, p ≠ scPhys u n v → (pair = true → p ≠ scPhys u n (v + 1)) → (t.sc.get n).v.get p = k.v.get p) ∧
          (∀ j < 8, (t.sc.get n).ap.get j = if j = i ∧ m ≠ 0 then apMode k i m else k.ap.get j) ∧ MemSame u t)) ∧
    (a.toNat % sz = 0 → ∀ dev l, scResolve u n a = .noc dev l →
      (∃ t p, exec (.scLd n two v i m pair 0 0 0) s = .next t ∧ t.reqs = u.reqs ++ [p] ∧ p.pkt.opc = opREAD ∧ p.pkt.addr = l ∧
        p.pkt.dev = dev ∧ p.pkt.len = sz - 1 ∧ (t.sc.get n).pc = k.pc ∧ (t.sc.get n).v = k.v ∧ (t.sc.get n).ap = k.ap ∧ MemSame u t) ∧
      (∃ t p, exec (.scSt n two v i m pair 0 0 0) s = .next t ∧ t.reqs = u.reqs ++ [p] ∧ p.pkt.opc = opWRITE ∧ p.pkt.addr = l ∧
        p.pkt.dev = dev ∧ p.pkt.len = sz - 1 ∧ (t.sc.get n).v = k.v ∧ MemSame u t ∧
        (∀ j < sz, p.pkt.data.getD j 0 = if j % 4 = 3 then (if (u.svget n (v + j / 4)).msb then 255 else 0)
          else BitVec.ofNat 8 (word (j / 4) / 256 ^ (j % 4))))) ∧
    (u.bit F.S_SSTATUS_INTRAP n = false → ∀ c acc, (c, acc) ∈ [(Instr.scLd n two v i m pair 0 0 0, 2), (.scSt n two v i m pair 0 0 0, 3)] →
      let slot := if two then 2 else 1
      (a.toNat % sz ≠ 0 → exec c s = .next (scEntry n { cause := scALIGN, slot := slot, access := acc, addr := a.toNat } k.pc u)) ∧
      (a.toNat % sz = 0 → scResolve u n a = .bad →
        exec c s = .next (scEntry n { cause := scADDRESS, slot := slot, access := acc, addr := a.toNat } k.pc u)))

/-- Branches, loops and control moves of the signal cores, and the end of a loop body (R370, R382, R383, R385, R387,
R388, R391, R392, R398). -/
def Obligations.SignalControlForms : Prop :=
  (∀ (s : State) (n a i len c : Nat) (imm rot : Bool) (t12 : BitVec 12) (d10 : BitVec 10) (i8 : BitVec 8), ScIssues s n →
    a < 32 → i < 4 → 1 ≤ len → len ≤ 16 → (imm = true → c < 512) → (imm = false → c < 32) →
    let u := scIssued n s
    let k := u.sc.get n
    let A := u.svget n a
    let lact := u.bit F.S_SSTATUS_LACT n
    let seq := (k.pc + 1) % 4096
    (∀ x (b : Bool), (x, b) ∈ [(Instr.scBz n a d10 0 0, A == 0), (.scBnz n a d10 0 0, A != 0), (.scBltz n a d10 0 0, A.msb),
        (.scBgez n a d10 0 0, !A.msb)] →
      ∃ t, exec x s = .next t ∧
        (b = true → ((t.sc.get n).pc : Int) = ((k.pc : Int) + d10.toInt) % 4096 ∧ t.fld F.S_SSTATUS_LACT n = 0) ∧
        (b = false → lact = false → (t.sc.get n).pc = seq ∧ t.fld F.S_SSTATUS_LACT n = u.fld F.S_SSTATUS_LACT n) ∧
        (t.sc.get n).v = k.v ∧ (t.sc.get n).acc = k.acc ∧ (t.sc.get n).ap = k.ap ∧ MemSame u t) ∧
    (∀ x npc lr, (x, npc, lr) ∈ [(Instr.scJmp n t12 0 0 0, t12.toNat, u.fld F.S_LR_LR n),
        (.scCall n t12 0 0 0, t12.toNat, (k.pc + 1) % 2 ^ F.S_LR_LR.w), (.scRet n 0 0 0, u.fld F.S_LR_LR n % 4096, u.fld F.S_LR_LR n)] →
      ∃ v t, exec x s = .next t ∧ (t.sc.get n).pc = npc ∧ t.fld F.S_SSTATUS_LACT n = 0 ∧ t.fld F.S_LR_LR n = lr ∧
        (t.sc.get n).v = k.v ∧ t = scFill n v ∧ (v.sc.get n).ahead = [] ∧ OnlySc u v n [(F.SC_PC_PC, n), (F.S_SSTATUS_LACT, n), (F.S_LR_LR, n), (F.DSTATUS_SKIP, 8 + n)]) ∧
    (lact = false →
      let cnt := if imm then c + 1 else (u.svget n c).toNat
      (∃ t, exec (.scRep n imm c rot len 0 0 0) s = .next t ∧ t.fld F.S_LCOUNT_LCOUNT n = cnt % 2 ^ F.S_LCOUNT_LCOUNT.w ∧
        t.fld F.S_LSTART_LSTART n = (k.pc + 1) % 2 ^ F.S_LSTART_LSTART.w ∧ t.fld F.S_LEND_LEND n = (k.pc + len) % 2 ^ F.S_LEND_LEND.w ∧
        (cnt = 0 → (t.sc.get n).pc = (k.pc + len + 1) % 4096 ∧ t.fld F.S_SSTATUS_LACT n = u.fld F.S_SSTATUS_LACT n) ∧
        (cnt ≠ 0 → (t.sc.get n).pc = seq ∧ t.fld F.S_SSTATUS_LACT n = 1 ∧ (t.sc.get n).loopRot = rot)) ∧
      (∃ t, exec (.scRot n 0 0 0) s = .next t ∧ (t.sc.get n).pc = seq ∧
        t.fld F.S_RCFG_RRB n = (if scRot u n = 0 then u.fld F.S_RCFG_RRB n
          else (u.fld F.S_RCFG_RRB n + scRot u n - 1) % scRot u n % 2 ^ F.S_RCFG_RRB.w) ∧ (t.sc.get n).v = k.v) ∧
      (∃ v t, exec (.scSyncC n 0 0 0) s = .next t ∧ (t.sc.get n).pc = seq ∧ (t.sc.get n).tag = none ∧
        (t.sc.get n).held = [] ∧ (t.sc.get n).v = k.v ∧ t = scFill n v ∧ (v.sc.get n).ahead = []) ∧
      (∀ x ∈ [Instr.scFenceSl n 0 0 0, .scFence n 0 0 0], ∃ t, exec x s = .next t ∧ (t.sc.get n).pc = seq ∧
        (t.sc.get n).wait = (if scOut u n then .drain false else .none) ∧ (t.sc.get n).v = k.v ∧ MemSame u t) ∧
      (∃ t, exec (.scRte n 0 0 0) s = .next t ∧ (t.sc.get n).pc = u.fld F.S_STPC_STPC n % 4096 ∧
        t.fld F.S_SSTATUS_IE n = u.fld F.S_SSTATUS_PIE n % 2 ∧ t.fld F.S_SSTATUS_LACT n = u.fld F.S_SSTATUS_PLACT n % 2 ∧
        t.fld F.S_SSTATUS_INTRAP n = 0) ∧
      (u.bit F.S_SSTATUS_INTRAP n = false →
        exec (.scTrap n i8 0 0 0) s = .next (scEntry n { cause := scSWTRAP, slot := 2, info := i8.toNat } seq u)) ∧
      (∃ t, exec (.scWaiti n 0 0 0) s = .next t ∧ (t.sc.get n).pc = seq ∧
        (scOut u n = false → t.fld F.SC_STATUS_STATE n = if scWakes t n then u.fld F.SC_STATUS_STATE n else 2)) ∧
      (∃ v t, exec (.scRaise n i 0 0 0) s = .next t ∧ (t.sc.get n).pc = seq ∧ n < 96 ∧ t = scFill n v ∧
        (irqOpen u = true → t.fld F.IRQ_SRC_PENDING 0 (0x460 + 4 * n + i) = 1) ∧
        (irqOpen u = false → v.irqHeld = u.irqHeld ++ [0x460 + 4 * n + i])))) ∧
  (∀ (s : State) (n : Nat), ScIssues s n →
    let u := scIssued n s
    let k := u.sc.get n
    let cnt := (u.fld F.S_LCOUNT_LCOUNT n + 2 ^ 24 - 1) % 2 ^ 24
    u.bit F.S_SSTATUS_LACT n = true → k.pc = u.fld F.S_LEND_LEND n →
    ∃ t, exec (.scMacNop n 0 0) s = .next t ∧ t.fld F.S_LCOUNT_LCOUNT n = cnt ∧
      (t.sc.get n).pc = (if cnt = 0 then (k.pc + 1) % 4096 else u.fld F.S_LSTART_LSTART n % 4096) ∧
      t.fld F.S_SSTATUS_LACT n = (if cnt = 0 then 0 else 1) ∧
      t.fld F.S_RCFG_RRB n = (if k.loopRot = true ∧ scRot u n ≠ 0 then (u.fld F.S_RCFG_RRB n + scRot u n - 1) % scRot u n % 2 ^ F.S_RCFG_RRB.w
        else u.fld F.S_RCFG_RRB n))

/-- System registers of the signal cores, and accesses to their windows (R365, R368, R370, R373, R396). -/
def Obligations.SignalRegisterForms : Prop :=
  (∀ (s : State) (n a d sr : Nat) (two : Bool), ScIssues s n → a < 32 → d < 32 → sr < 32 →
    let u := scIssued n s
    let v := (u.svget n a).toNat
    u.bit F.S_SSTATUS_LACT n = false → ∀ r part, ssrFind sr = some (r, part) →
    (∃ w, exec (.scMfsr n two d sr 0 0 0) s = .next (scSeq u n .nop w) ∧
      VTakes u w n d (BitVec.ofNat 24 (r.pack 0 (fun f k => if f.id = F.S_CORE_ID_CORE_ID.id then n else u.fld f n k) /
        2 ^ (24 * part) % 2 ^ 24)) []) ∧
    (part = 0 → ∃ w, exec (.scMtsr n two a sr 0 0 0) s = .next (scSeq u n .nop w) ∧
      (∀ f ∈ r.fields, (f.acc = .rw ∨ ssrHw f = true) → f.id ≠ F.S_RCFG_RRB.id → w.fld f n = v / 2 ^ f.lo % 2 ^ f.w) ∧
      (∀ f ∈ r.fields, f.acc = .ro → w.fld f n = u.fld f n) ∧
      (sr = 2 → w.fld F.S_RCFG_RRB n < max 1 (scRot w n)) ∧
      w.sc = u.sc ∧ OnlySc u w n (r.fields.map (fun f => (f, n))))) ∧
  (∀ (s : State) (n : Nat) (st : Bool) (h : Hop), n < 96 → domRuns s 2 = true → s.hops.find? (fun x => x.atTarget (.sc n)) = some h →
    let p := h.pkt
    let off := p.addr % 0x4_0000
    (scWinStatus p ≠ 0 → exec (.scWindowAccess n st) s = .next ((s.dropArrived p).respond p (scWinStatus p))) ∧
    (scWinStatus p = 0 → (s.sc.get n).win = {} → p.len + 1 ≤ 8 - off % 8 →
      (p.opc = opWRITE → p.pmask = 0 →
        ∃ t, exec (.scWindowAccess n st) s = .next t ∧
          (∀ j ≤ p.len, ¬(off + j < 0x2_0000 ∧ (off + j) % 4 = 3) → t.rdB (aSc n (off + j)) = p.data.getD j 0 ∧ t.ecc.get (aSc n (off + j)) = 0) ∧
          MemSameBut s t (aSc n off) (p.len + 1) ∧ (t.sc.get n).win = {}) ∧
      (p.opc = opREAD → 0x2_0000 ≤ off → (∀ j ≤ p.len, s.ecc.get (aSc n (off + j)) = 0) →
        ∃ (t w : State), exec (.scWindowAccess n st) s = .next t ∧ MemSame s t ∧
          t = (w.dropArrived p).respond p 0 (s.rdBytes (aSc n off) (p.len + 1)) 0 ∧ w.hops = s.hops ∧ w.mem = s.mem ∧
          w.fld F.SC_STEAL_COUNT n = (if st && s.fld F.SC_STATUS_STATE n == 1 && !scCached s n
            then min (s.fld F.SC_STEAL_COUNT n + 1) (2 ^ F.SC_STEAL_COUNT.w - 1) else s.fld F.SC_STEAL_COUNT n))))

/-- A signal core takes an interrupt, SBUS or debug event, wakes, starts, is reset, and writes a corrected byte back
(R386, R388, R389, R392, R393, R655, R738, R369). -/
def Obligations.SignalCoreEvents : Prop :=
  ∀ (s : State) (n q : Nat),
    let k := s.sc.get n
    let entered := fun (u t : State) (cause addr info : Nat) =>
      t.fld F.S_STPC_STPC n = k.pc % 2 ^ F.S_STPC_STPC.w ∧ t.fld F.S_SCAUSE_CAUSE n = cause ∧
      t.fld F.S_STADDR_STADDR n = addr % 2 ^ F.S_STADDR_STADDR.w ∧ t.fld F.S_STINFO_STINFO n = info % 2 ^ F.S_STINFO_STINFO.w ∧
      t.fld F.S_SSTATUS_PIE n = s.fld F.S_SSTATUS_IE n % 2 ∧ t.fld F.S_SSTATUS_PLACT n = s.fld F.S_SSTATUS_LACT n % 2 ∧
      t.fld F.S_SSTATUS_IE n = 0 ∧ t.fld F.S_SSTATUS_LACT n = 0 ∧ t.fld F.S_SSTATUS_INTRAP n = 1 ∧
      (t.sc.get n).pc = (s.fld F.S_SVEC_TVEC n * 64 + 2 * cause) % 4096 ∧ (t.sc.get n).v = k.v ∧ (t.sc.get n).acc = k.acc ∧
      (∀ j, j ≠ n → t.sc.get j = s.sc.get j) ∧ MemSame u t
    (scBetween s n = true → s.bit F.S_SSTATUS_IE n = true → k.sbus = false → k.dbg = 0 → irqPresented s (tgtSc n) = some q →
      ∃ v t, exec (.scTakeInterrupt n) s = .next t ∧ entered s t scINTERRUPT 0 q ∧ t = scFill n v ∧
        v.fld F.IRQ_SRC_PENDING 0 q = 0 ∧ t.fld F.IRQ_SRC_ACTIVE 0 q = 1) ∧
    (scBetween s n = true → k.sbus = true → ∃ t, exec (.scTakeSbus n) s = .next t ∧ (t.sc.get n).sbus = false ∧
      entered s t scSBUS (s.fld F.S_SERR_ADDR_ADDR n) (s.fld F.S_SERR_CODE n)) ∧
    (scBetween s n = true → k.sbus = false → k.dbg ≠ 0 → ∃ t, exec (.scTakeDebug n) s = .next t ∧ t.fld F.DCTL_MON (8 + n) = 1 ∧
      entered s t scDEBUG (if k.dbg / 0x1000 = 2 ∨ k.dbg / 0x1000 = 3 then k.dbgAddr else 0) k.dbg) ∧
    (n < 96 → s.dev = .run → s.fld F.SC_STATUS_STATE n = 2 → scWakes s n = true →
      ∃ t, exec (.scWake n) s = .next t ∧ t.fld F.SC_STATUS_STATE n = 1 ∧ OnlyRegs s t [(F.SC_STATUS_STATE, n)]) ∧
    (n < 96 → s.fld F.SC_STATUS_STATE n = 0 → scBad s n = false → underTest s 3 n = false →
      ∃ v t, exec (.scStart n) s = .next t ∧ t.fld F.SC_STATUS_STATE n = 1 ∧ (t.sc.get n).pc = s.fld F.SC_ENTRY_ENTRY n ∧
        t.fld F.S_SSTATUS_IE n = 0 ∧ (t.sc.get n).v = k.v ∧ t = scFill n v ∧ OnlySc s v n [(F.SC_STATUS_STATE, n), (F.S_SSTATUS_IE, n)]) ∧
    (n < 96 → ∃ t, exec (.scReset n) s = .next t ∧ t.fld F.SC_STATUS_STATE n = 0 ∧ t.fld F.S_SSTATUS_INTRAP n = 0 ∧
      t.fld F.S_SSTATUS_LACT n = 0 ∧ (∀ j, (t.sc.get n).v.get j = 0 ∧ (t.sc.get n).acc.get j = 0 ∧ (t.sc.get n).ap.get j = 0) ∧
      (t.sc.get n).wb = k.wb ∧ (∀ r ∈ t.reqs, r.pkt.init = initSc n → r.why = .dropped) ∧ MemSame s t) ∧
    (∀ o rest, k.wb = o :: rest → domRuns s 2 = true →
      (∀ c, s.checkAt (aSc n o) = .corr c →
        ∃ t, exec (.scMemWriteback n) s = .next t ∧ (t.sc.get n).wb = rest ∧ t.rdB (aSc n o) = s.rdC (aSc n o) ∧
          t.ecc.get (aSc n o) = 0 ∧ MemSameBut s t (aSc n o) 1 ∧ Counts s t F.SC_MEM_CE_CNT_COUNT n 0 1) ∧
      (s.checkAt (aSc n o) = .bad → ∃ t, exec (.scMemWriteback n) s = .next t ∧ (t.sc.get n).wb = rest ∧ MemSame s t ∧
        Counts s t F.SC_MEM_UE_CNT_COUNT n 0 1) ∧
      (s.checkAt (aSc n o) = .good → exec (.scMemWriteback n) s = .next (s.updSc n (fun v => { v with wb := rest }))))

/-! ### The register path and staging -/

/-- A CSR write acts on each field by its access code, answers, and changes nothing else; where hardware updates the register
in the same cycle, both take effect as Table 2.12 has it (R36, R37, R38, R42, R55, R56, R619). -/
def Obligations.CsrWriteForms : Prop :=
  ∀ (s : State) (init off v : Nat), csrRuns s = true → v < 2 ^ 64 →
    let refused := fun (o n code : Nat) => ∃ t, exec (.csrWrite init o n { v := v }) s = .next t ∧ t.out = s.out ++ [.reply init code []] ∧
      t.fld F.ERR_STAT_ERR_COUNT = min (s.fld F.ERR_STAT_ERR_COUNT + 1) (2 ^ F.ERR_STAT_ERR_COUNT.w - 1) ∧
      t.bit F.ERR_STAT_ERR_VALID = true ∧
      (s.bit F.ERR_STAT_ERR_VALID = false → t.fld F.ERR_REC_ERR_OFFSET = o % 2 ^ F.ERR_REC_ERR_OFFSET.w ∧
        t.fld F.ERR_REC_ERR_INIT = init % 2 ^ F.ERR_REC_ERR_INIT.w) ∧
      t = { s with regs := t.regs, out := t.out } ∧
      FldSame s t [(F.ERR_STAT_ERR_COUNT, 0), (F.ERR_STAT_ERR_VALID, 0), (F.ERR_REC_ERR_OFFSET, 0), (F.ERR_REC_ERR_INIT, 0)]
    (∀ x, off % 8 = 0 → csrPlace s init off true = .reg x → csrBlind init x = false → x.r.blk ≠ .hdr →
      (armedWrite x true true s = true → refused off 8 eACCESS) ∧
      (armedWrite x true true s = false → hookWrite init x v true true s = none →
        ∃ t, exec (.csrWrite init off 8 { v := v }) s = .next t ∧
          (∀ f ∈ x.r.fields, ∀ j < f.reps,
            let k := x.i * f.reps + j
            let b := bitsOf v (f.lo + j * f.step) f.w
            (f.acc = .rw → t.fld f x.u k = b) ∧
            (f.acc = .w1c → t.fld f x.u k = clearBits f.w (s.fld f x.u k) b) ∧
            (f.acc = .w1s → t.fld f x.u k = (s.fld f x.u k ||| b) % 2 ^ f.w) ∧
            (f.acc = .rws → t.fld f x.u k = s.fld f x.u k ∧ t.shadow f x.u k = b ∧ t.stagedIn x.hu = true) ∧
            (f.acc = .hw → t.fld f x.u k = if hwWritable f then b else s.fld f x.u k) ∧
            (f.acc = .ro ∨ f.acc = .wo ∨ f.acc = .rc → t.fld f x.u k = s.fld f x.u k)) ∧
          FldSame s t ((F.UNIT_STATUS_LATE, x.hu) :: x.r.fields.map (fun f => (f, x.u))) ∧
          t = { s with regs := t.regs, staged := t.staged, out := s.out ++ [.reply init 0 []] } ∧
          ∀ upd, ∃ w, exec (.csrWrite init off 8 { v := v, upd := upd }) s = .next w ∧ w.out = t.out ∧
            ∀ f ∈ x.r.fields, ∀ j < f.reps,
              let k := x.i * f.reps + j
              let h := bitsOf upd (f.lo + j * f.step) f.w
              if h = 0 then w.fld f x.u k = t.fld f x.u k
              else if f.acc = .w1c then w.fld f x.u k = (t.fld f x.u k ||| h) % 2 ^ f.w
              else if advanced f = true then w.fld f x.u k = t.fld f x.u k ∧ w.bit F.UNIT_STATUS_COLLIDE x.hu = true
              else if hwWritable f = true ∧ f.acc = .hw then
                w.fld f x.u k = (if wrapping f then (t.fld f x.u k + h) % 2 ^ f.w else min (2 ^ f.w - 1) (t.fld f x.u k + h))
              else w.fld f x.u k = t.fld f x.u k)) ∧
    (∀ n c, csrPlace s init (off / 8 * 8) true = .err c → refused off n c) ∧
    (∀ n x, csrPlace s init (off / 8 * 8) true = .reg x → csrSized off n = false → refused off n eACCESS) ∧
    (off % 8 = 0 → csrPlace s init off true = .hole →
      exec (.csrWrite init off 8 { v := v }) s = .next { s with out := s.out ++ [.reply init 0 []] })

/-- A staging write changes only the shadow and sets PENDING; reads follow SHADOW_VIEW; DISCARD empties the shadow
(R56, R58, R60, R619). -/
def Obligations.StageForms : Prop :=
  ∀ (s : State) (init off v : Nat) (edge : Bool) (x : CsrReg), csrRuns s = true → v < 2 ^ 64 → off % 8 = 0 →
    csrPlace s init off true = .reg x → csrBlind init x = false → x.r.blk ≠ .hdr → (∃ f ∈ x.r.fields, f.acc = .rws ∧ 0 < f.reps) →
    s.bit F.UNIT_STATUS_ARMED x.hu = false →
    (hookWrite init x v true true s = none →
      ∃ t, exec (.stageWrite init off 8 v edge) s = .next t ∧ t.stagedIn x.hu = true ∧
        t.out = s.out ++ [.reply init 0 []] ∧
        (∀ f ∈ x.r.fields, f.acc = .rws → ∀ j < f.reps,
          let k := x.i * f.reps + j
          let b := bitsOf v (f.lo + j * f.step) f.w
          t.fld f x.u k = s.fld f x.u k ∧ t.shadow f x.u k = b ∧
          (viewField t init x.hu x.u f k = none →
            csrField t init x f k = if s.bit F.INIT_CTL_SHADOW_VIEW init then b else s.fld f x.u k)) ∧
        (edge = true → s.fld F.STAGE_CTL_POLICY x.hu = 0 → t.fld F.UNIT_STATUS_SPLIT x.hu = 1) ∧
        (∀ g, (g ∈ t.staged ∧ g.hu ≠ x.hu ↔ g ∈ s.staged ∧ g.hu ≠ x.hu) ∨ g.u = x.u) ∧
        FldSame s t ([(F.UNIT_STATUS_LATE, x.hu), (F.UNIT_STATUS_SPLIT, x.hu)] ++ x.r.fields.map (fun f => (f, x.u))) ∧
        MemSame s t) ∧
    (hookWrite init x (wholeValue s x v true false) true false s = none →
      ∃ t, exec (.stageWrite init off 4 v edge) s = .next t ∧
        (∀ f ∈ x.r.fields, f.acc = .rws → ∀ j < f.reps, 32 ≤ f.lo + j * f.step →
          t.fld f x.u (x.i * f.reps + j) = s.fld f x.u (x.i * f.reps + j) ∧
          t.shadow f x.u (x.i * f.reps + j) = s.shadow f x.u (x.i * f.reps + j))) ∧
    (∃ t, exec (.stageDiscard x.hu) s = .next t ∧ t.stagedIn x.hu = false ∧
      t = { s with staged := t.staged, owed := t.owed } ∧
      (∀ g, g ∈ t.staged ↔ g ∈ s.staged ∧ g.hu ≠ x.hu) ∧ ∀ g, g ∈ t.owed ↔ g ∈ s.owed ∧ g.hu ≠ x.hu) ∧
    (∀ hu, s.bit F.UNIT_STATUS_ARMED hu = true → exec (.stageDiscard hu) s = .next s)

/-! ### Bays: holds, poison, the bay port -/

/-- Bay hold stages, poison records and clears, and the attach port of a bay (R20, R27, R84, R86, R87, R94, R95, R155,
R195, R196, R326, R415). -/
def Obligations.BayControlForms : Prop :=
  ((∀ (s : State) (b : Nat), b < 768 → mapOwner s b = 0 → exec (.bayHoldReset b) s = .next s) ∧
  (∀ (s : State) (b : Nat) (k : Skein), b < 768 → mapOwner s b ≠ 0 → ostate s b ≠ oLOADING → s.occ = none →
    instOf s (mapOwner s b) = some k → k.ostate = oLOADED → (allHeld s k = false ∨ ∃ h ∈ s.holds, h.inst = mapOwner s b) →
    ∃ t, exec (.bayHoldReset b) s = .next t ∧
      t.holds = s.holds.filter (fun x => x.inst != mapOwner s b) ++ [{ inst := mapOwner s b, hold := true }] ∧
      (∀ h ∈ s.holds, h.inst = mapOwner s b → h.ticket ≠ 0 → ∀ c ∈ t.cmds, c.ticket = h.ticket - 1 → c.phase = 3) ∧
      t = { s with holds := t.holds, cmds := t.cmds }) ∧
  (∀ (s : State) (h : HoldOp) (k : Skein), hdRuns s = true → s.holds.find? (fun x => x.inst == h.inst) = some h →
    instOf s h.inst = some k →
    (∀ n f, (n, f) ∈ [(1, F.BAY_STATUS_OUT_HELD), (2, F.BAY_STATUS_WE_HELD)] → h.stage = n → n < h.last →
      ∃ v t, exec (.holdStageEffect h.inst) s = .next t ∧ (∀ b ∈ k.bays, t.fld f b = ofBool h.hold) ∧
        t.holds = s.holds.map (fun x => if x.inst = h.inst then { x with stage := n + 1 } else x) ∧
        FldSame s t (k.bays.map (fun b => (f, b))) ∧ t = gpioShowAll v ∧
        v = { s with regs := v.regs, holds := v.holds, retHold := v.retHold }) ∧
    (h.stage = 3 → h.last = 3 → h.ticket = 0 → (h.hold = false → h.pick = none) →
      ∃ t, exec (.holdStageEffect h.inst) s = .next t ∧ (∀ b ∈ k.bays, t.fld F.BAY_STATUS_RST_HELD b = ofBool h.hold) ∧
        t.holds = s.holds.filter (fun x => x.inst != h.inst) ∧ MemSame s t ∧
        (h.hold = false → t.ffs = s.ffs ∧ FldSame s t (k.bays.map (fun b => (F.BAY_STATUS_RST_HELD, b)))) ∧
        (h.hold = true → ∀ b ∈ k.bays, ∀ c < 1024, ∀ i < 16,
          let lc := bitsOf (clusterFrame s b c) (26 * i) 26
          bayClk s b (ctlClk (clusterFrame s b c) (bitsOf lc 19 1)) = true →
            bitOf (t.ffs.get (b * 1024 + c)) i = bitOf lc 23) ∧
        (h.hold = true → ∀ b ∈ k.bays, ∀ n < 8, bitOf (t.missed.get b) (8 + n) = bayClk s b n)))) ∧
  ((∀ (s : State) (b : Nat), b < 768 →
    let bays := if s.fld F.BAY_STATUS_OWNER b = 0 then [b] else skeinBays s (s.fld F.BAY_STATUS_OWNER b)
    ∃ t, exec (.bayPoisonClear b) s = .next t ∧ (∀ x ∈ bays, t.fld F.BAY_STATUS_POISON x = 0) ∧
      OnlyRegs s t (bays.map (fun x => (F.BAY_STATUS_POISON, x)))) ∧
  (∀ (s : State) (b : Nat) (r : BayBeat) (q : List BayBeat), b < 768 → bayClk s b 0 = true → s.bayq.get b = r :: q →
    let bays := if s.fld F.BAY_STATUS_OWNER b = 0 then [b] else skeinBays s (s.fld F.BAY_STATUS_OWNER b)
    (r.pm = 0 → exec (.bayPortResponseDeliver b) s =
      .next { s with bayq := s.bayq.set b q, out := s.out ++ [.skein b 0 r.st 0 r.data] }) ∧
    (r.pm ≠ 0 → ∃ t, exec (.bayPortResponseDeliver b) s = .next t ∧ t.bayq.get b = q ∧
      t.out = s.out ++ [.skein b 0 r.st r.pm r.data] ∧ (∀ x ∈ bays, t.fld F.BAY_STATUS_POISON x = 1) ∧
      Counts s t F.BAY_POISON_CNT_COUNT b 0 (((List.range 5).filter (bitOf r.pm)).length) ∧
      bitOf (t.fld F.BAY_PSN_SUM_SUM 0 (b / 64)) (b % 64) = true ∧
      t = { s with regs := t.regs, bayq := t.bayq, out := t.out, irqWin := t.irqWin, irqHeld := t.irqHeld } ∧
      FldSame s t (irqFs ++ [(F.BAY_POISON_CNT_COUNT, b), (F.BAY_PSN_SUM_SUM, 0)] ++ bays.map (fun x => (F.BAY_STATUS_POISON, x)))))) ∧
  ((∀ (s : State) (b id hd off opc n atop mask : Nat) (rlx : Bool) (d : List Byte), b < 768 → 1 ≤ n → n ≤ 256 →
    let c := Instr.bayPortRequest b id hd off opc n atop mask 0 rlx d
    let put := fun st => (.next { s with bayq := s.bayq.set b (s.bayq.get b ++ [{ id := id, st := st }]) } : Res)
    let hit := fun e => s.fld F.XLATE0_VALID b e = 1 ∧ s.fld F.XLATE0_HANDLE b e = hd
    let takes := bayAccepts s b opc n off rlx && !s.frozen.contains b
    ((bayClk s b 0 = false ∨ s.fld F.BAY_STATUS_OUT_HELD b = 1 ∨ s.fld F.BAY_STATUS_OWNER b = 0 ∨ takes = false) → exec c s = .next s) ∧
    (bayClk s b 0 = true → s.fld F.BAY_STATUS_OUT_HELD b ≠ 1 → s.fld F.BAY_STATUS_OWNER b ≠ 0 → takes = true →
      ((∀ e < 64, ¬hit e) → exec c s = put eUNMAPPED) ∧
      (∀ e < 64, hit e → (∀ j < e, ¬hit j) →
        let size := s.fld F.XLATE0_SIZE b e * 4096
        ((size < off + n ∨ (opc ≠ opREAD ∧ s.fld F.XLATE0_RO b e = 1)) → exec c s = put eACCESS) ∧
        (off + n ≤ size → (opc ≠ opREAD → s.fld F.XLATE0_RO b e ≠ 1) →
          ∃ r : Req, exec c s = .next { s with reqs := s.reqs ++ [r] } ∧ r.pkt.addr = s.fld F.XLATE1_BASE b e * 4096 + off ∧
            r.pkt.opc = opc ∧ r.pkt.len = n - 1 ∧ r.pkt.init = b ∧ r.pkt.data = d ∧ r.pkt.mask = mask ∧ r.pkt.atop = atop ∧
            r.pkt.cls = (if rlx then 1 else initClass b) ∧ r.pkt.dev = s.fld F.DEV_ID ∧ r.why = .bay b id ∧ r.phase = 0)))) ∧
  (∀ (s : State) (b : Nat) (ans : List Byte) (p : Packet), targetReq s b = some p →
    let off := p.addr % 0x10_0000
    ((off < 0x8_0000 ∨ targetOff s b = true) → exec (.bayTargetRequest b ans) s = .next ((s.dropArrived p).respond p eUNMAPPED)) ∧
    (0x8_0000 ≤ off → targetOff s b = false →
      (p.opc = opATOMIC → exec (.bayTargetRequest b ans) s = .next ((s.dropArrived p).respond p eACCESS)) ∧
      (p.opc ≠ opATOMIC → bayClk s b 0 = false → exec (.bayTargetRequest b ans) s = .next s) ∧
      (p.opc = opREAD → bayClk s b 0 = true → p.pmask = 0 → p.len + 1 ≤ ans.length →
        exec (.bayTargetRequest b ans) s = .next (({ (s.dropArrived p) with out := s.out ++ [Out.skein b 1 p.opc 0 p.data] }).respond p 0
          (ans.take (p.len + 1)))) ∧
      (p.opc ≠ opREAD → p.opc ≠ opATOMIC → bayClk s b 0 = true →
        let f := freePoison p p.pmask p.data (s.dropArrived p)
        exec (.bayTargetRequest b ans) s = .next ((bayPoison b p.pmask (f.2.emit (.skein b 1 p.opc p.pmask f.1))).respond p 0 []) ∧
        (p.pmask = 0 → f.1 = p.data) ∧ f.1.length = p.data.length))))

/-! ### Memory blocks, the scratchpad, slices, flip-flops -/

/-- Memory blocks: edges of their ports, write-back, and requests in their window (R106, R107, R108, R110, R112, R113,
R114, R116, R119, R121, R122, R123). -/
def Obligations.MemoryBlockForms : Prop :=
  (∀ (s : State) (b k p : Nat) (x : PortIn), b < 768 → k < 24 → p < 2 →
    let c := fun (q : Nat) (y : PortIn) => if q = 0 then Instr.memBlockAccess b k true y false {} false else .memBlockAccess b k false {} true y false
    let w := blkWidth s b k p
    let a := aBlock b k (blkByte w x.addr)
    let key := (b * 24 + k) * 2 + p
    let range := x.addr / 4096 % 4
    let held := range = 3 ∨ s.fld F.BAY_STATUS_WE_HELD b = 1
    (bayClk s b (blkClk s b k p) = false → exec (c p x) s = .next s) ∧
    (bayClk s b (blkClk s b k p) = true →
      (blkOp s b k p x = .read → ueBytes s a w = [] →
        ∃ t, exec (c p x) s = .next t ∧ MemSame s t ∧
          (let res := (ofBytesLE (corrected s a w), !(ceBytes s a w).isEmpty, false)
           (blkOreg s b k p = false → (t.blkOut.get key).dout = res.1 ∧ (t.blkOut.get key).ce = res.2.1 ∧ (t.blkOut.get key).ue = false) ∧
           (blkOreg s b k p = true → (t.blkOut.get key).pipe = some res ∧
             (∀ r, (s.blkOut.get key).pipe = some r → (t.blkOut.get key).dout = r.1))) ∧
          (t.blkOut.get key).busy = (if blkOreg s b k p then (s.blkOut.get key).pipeBusy else false) ∧
          (ceBytes s a w ≠ [] → Counts s t F.BAY_MEM_CE_CNT_COUNT b 0 (ceBytes s a w).length) ∧
          (ceBytes s a w = [] → t = { s with blkOut := t.blkOut, out := t.out })) ∧
      (blkOp s b k p x = .write →
        ∃ t, exec (c p x) s = .next t ∧
          (held → MemSame s t) ∧
          (¬held → ∀ i < w, bitOf x.we i = true →
            let d : Byte := BitVec.ofNat 8 (x.din / 256 ^ i)
            (range = 0 → t.rdB (a + i) = d ∧ t.ecc.get (a + i) = 0) ∧
            (range = 1 → s.checkAt (a + i) ≠ .bad → t.rdB (a + i) = s.rdC (a + i) ||| d ∧ t.ecc.get (a + i) = 0) ∧
            (range = 2 → s.checkAt (a + i) ≠ .bad → t.rdB (a + i) = s.rdC (a + i) &&& ~~~d ∧ t.ecc.get (a + i) = 0) ∧
            (range ≠ 0 → s.checkAt (a + i) = .bad → t.ecc.get (a + i) = 31)) ∧
          (∀ m, (∀ i < w, bitOf x.we i = true → m ≠ a + i) → t.rdB m = s.rdB m ∧ t.ecc.get m = s.ecc.get m) ∧
          (k < 4 → blkOreg s b k p = false → blkWmode s b k p = 0 → ueBytes s a w = [] →
            (t.blkOut.get key).dout = ofBytesLE (corrected s a w)) ∧
          (k < 4 → blkOreg s b k p = false → blkWmode s b k p = 2 → (t.blkOut.get key).dout = (s.blkOut.get key).dout))) ∧
    (∀ xa xb later, bayClk s b (blkClk s b k 0) = true → bayClk s b (blkClk s b k 1) = true → blkCollide s b k xa xb = true →
      blkOreg s b k 0 = false → blkOreg s b k 1 = false →
      let bLate := later || blkClk s b k 0 == blkClk s b k 1
      ∃ t, exec (.memBlockAccess b k true xa true xb later) s = .next t ∧
        (t.blkOut.get ((b * 24 + k) * 2)).busy = !bLate ∧ (t.blkOut.get ((b * 24 + k) * 2 + 1)).busy = bLate)) ∧
  ((∀ (s : State) (b k : Nat),
    let w := s.blkWb.get (b * 24 + k)
    let a := aBlock b k (w - 1)
    ((w = 0 ∨ bayClk s b (blkClk s b k 1) = false) → exec (.blockCorrWriteback b k) s = .next s) ∧
    (w ≠ 0 → bayClk s b (blkClk s b k 1) = true →
      ∃ t, exec (.blockCorrWriteback b k) s = .next t ∧ t.blkWb.get (b * 24 + k) = 0 ∧
        (∀ c, s.checkAt a = .corr c → t.rdB a = s.rdC a ∧ t.ecc.get a = 0 ∧ MemSameBut s t a 1 ∧
          Counts s t F.BAY_MEM_CE_CNT_COUNT b 0 1) ∧
        (s.checkAt a = .good → t = { s with blkWb := t.blkWb }) ∧
        (s.checkAt a = .bad → MemSame s t ∧ Counts s t F.BAY_MEM_UE_CNT_COUNT b 0 1))) ∧
  (∀ (s : State) (b : Nat) (p : Packet), blkWinReq s b = some p →
    let off := p.addr % 0x10_0000
    let k := off / 0x1000
    let a := aBlock b k (off % 0x1000)
    let port := if k < 4 then 1 else if p.opc = opREAD then 0 else 1
    (blkWinStatus s b p ≠ 0 → (s.blkWin.get b).done = 0 → exec (.blockWindowAccess b) s = .next ((s.dropArrived p).respond p (blkWinStatus s b p))) ∧
    (blkWinStatus s b p = 0 → bayClk s b (blkClk s b k port) = false → exec (.blockWindowAccess b) s = .next s) ∧
    (blkWinStatus s b p = 0 → bayClk s b (blkClk s b k port) = true → s.blkWin.get b = {} → p.len + 1 ≤ 8 - off % 8 →
      (p.opc = opREAD → (∀ j ≤ p.len, s.ecc.get (a + j) = 0) →
        exec (.blockWindowAccess b) s =
          .next (({ s with blkWin := s.blkWin.set b {} }.dropArrived p).respond p 0 (s.rdBytes a (p.len + 1)))) ∧
      (p.opc = opWRITE → p.pmask = 0 →
        ∃ t, exec (.blockWindowAccess b) s = .next t ∧ (t.blkWin.get b) = {} ∧
          (∀ j ≤ p.len, t.rdB (a + j) = p.data.getD j 0 ∧ t.ecc.get (a + j) = 0) ∧ MemSameBut s t a (p.len + 1) ∧
          (∀ q ∈ t.hops, q ∈ s.hops ∨ (q.pkt.opc = opWRRESP ∧ q.pkt.status = 0 ∧ q.pkt.tag = p.tag))))))

/-- Scratchpad accesses, and the power states of its banks (R125, R126, R127, R128, R129, R130, R131, R701). -/
def Obligations.ScratchpadForms : Prop :=
  (∀ (s : State) (b : Nat), b < 64 →
    let k := s.spad.get b
    (spadClk s = false → ∀ c ∈ [Instr.spadRequestAccept b, .spadGrant b, .spadCorrWriteback b, .spadPwrTransitionDone b,
      .spadZeroFillDone b], exec c s = .next s) ∧
    (∀ h, spadClk s = true → s.hops.find? (fun h => h.atTarget (.spad b)) = some h →
      let p := h.pkt
      let s1 := { s with hops := s.hops.erase h }
      (spadState s b ≠ 2 → exec (.spadRequestAccept b) s = .next (s1.respond p eUNMAPPED)) ∧
      (spadState s b = 2 → k.q1.length < 16 → k.q2.length < 16 →
        (p.opc = opATOMIC → p.pmask ≠ 0 → exec (.spadRequestAccept b) s = .next (s1.respond p eACCESS)) ∧
        ((p.opc ≠ opATOMIC ∨ p.pmask = 0) →
          ∃ t, exec (.spadRequestAccept b) s = .next t ∧ t = { s1 with spad := t.spad } ∧
            (procClass p.init = true → (t.spad.get b).q1 = k.q1 ++ [{ pkt := p }] ∧ (t.spad.get b).q2 = k.q2) ∧
            (procClass p.init = false → (t.spad.get b).q2 = k.q2 ++ [{ pkt := p }] ∧ (t.spad.get b).q1 = k.q1) ∧
            ∀ j, j ≠ b → t.spad.get j = s.spad.get j))) ∧
    (∀ r rest, (k.q1 = r :: rest ∧ rest = [] ∧ procClass r.pkt.init = true ∨ k.q1 = [] ∧ k.q2 = r :: rest ∧ rest = [] ∧ procClass r.pkt.init = false) →
      spadClk s = true → spadState s b = 2 → r.done = 0 → r.data = [] → r.pmask = 0 →
      let p := r.pkt
      let a := aSpad b (p.addr % 0x20_0000)
      p.addr % 64 + p.len < 64 → p.pmask = 0 →
      (p.opc = opREAD → (∀ j ≤ p.len, s.ecc.get (a + j) = 0) →
        ∃ (u : State), exec (.spadGrant b) s = .next (u.respond p 0 (s.rdBytes a (p.len + 1))) ∧ u = { s with spad := u.spad } ∧
          (u.spad.get b).q1 = [] ∧ (k.q1 = [] → (u.spad.get b).q2 = [])) ∧
      (p.opc = opWRITE →
        ∃ (u : State), exec (.spadGrant b) s = .next (u.respond p 0) ∧ (∀ j ≤ p.len, u.rdB (a + j) = p.data.getD j 0 ∧ u.ecc.get (a + j) = 0) ∧
          MemSameBut s u a (p.len + 1) ∧ u.regs = s.regs) ∧
      (p.opc = opATOMIC → p.len = 7 → (∀ j ≤ 7, s.ecc.get (a + j) = 0) →
        let old : Word := BitVec.ofNat 64 (ofBytesLE (s.rdBytes a 8))
        let x : Word := BitVec.ofNat 64 (ofBytesLE (p.data.take 8))
        let y : Word := BitVec.ofNat 64 (ofBytesLE ((p.data.drop 8).take 8))
        ∃ (u : State), exec (.spadGrant b) s = .next (u.respond p 0 (s.rdBytes a 8)) ∧ MemSameBut s u a 8 ∧ u.regs = s.regs ∧
          BitVec.ofNat 64 (ofBytesLE (u.rdBytes a 8)) =
            (if p.atop = 0 then x else if p.atop = 1 then old + x else if old = x then y else old))) ∧
    (∀ w, k.wb = some w →
      let a := aSpad b w
      ((k.q1 ≠ [] ∨ k.q2 ≠ [] ∨ spadState s b ≠ 2) → exec (.spadCorrWriteback b) s = .next s) ∧
      (k.q1 = [] → k.q2 = [] → spadState s b = 2 → spadClk s = true →
        ∃ t, exec (.spadCorrWriteback b) s = .next t ∧ (t.spad.get b).wb = none ∧
          (∀ c, s.checkAt a = .corr c → t.rdB a = s.rdC a ∧ t.ecc.get a = 0 ∧ MemSameBut s t a 1 ∧ Counts s t F.SPB_CE_CNT_COUNT 0 b 1) ∧
          (s.checkAt a = .good → t = { s with spad := t.spad }) ∧
          (s.checkAt a = .bad → MemSame s t ∧ Counts s t F.SPB_UE_CNT_COUNT 0 b 1)))) ∧
  (∀ (s : State) (b v : Nat), b < 64 →
    let k := s.spad.get b
    let mine := [(F.SPB_PWR_STATE_STATE, 0), (F.SPB_PWR_REQ_PWR, 0), (F.SPB_ZERO_ZERO, 0)]
    ((v % 4 = 3 ∨ bankBad s b = true) → exec (.spbPwrReqWrite b v) s = .next s) ∧
    (v % 4 ≠ 3 → bankBad s b = false → ∃ t, exec (.spbPwrReqWrite b v) s = .next t ∧ t.fld F.SPB_PWR_REQ_PWR 0 b = v % 4 ∧ MemSame s t ∧
      ((spadState s b = 3 ∨ spadState s b = v % 4) → OnlyRegs s t [(F.SPB_PWR_REQ_PWR, 0)]) ∧
      (spadState s b < 3 → spadState s b ≠ v % 4 → spadState t b = 3 ∧ (∀ r ∈ (t.spad.get b).q1 ++ (t.spad.get b).q2, r.done ≠ 0) ∧
        (k.q1 = [] → k.q2 = [] → t = { s with regs := t.regs, spad := t.spad } ∧ FldSame s t mine))) ∧
    (k.moving ∈ [0, 5, 6] → exec (.spadPwrTransitionDone b) s = .next s) ∧
    (spadClk s = true → spadState s b = 3 → k.moving ∉ [0, 5, 6] → spadPartial k = false →
      let st := if k.moving = 1 then 0 else if k.moving = 3 then 2 else 1
      ∃ t, exec (.spadPwrTransitionDone b) s = .next t ∧
        (s.fld F.SPB_PWR_REQ_PWR 0 b = st → spadState t b = st ∧ (t.spad.get b).moving = 0) ∧
        ((k.moving = 1 ∨ k.stale = true) → ∀ o < 0x20_0000, t.rdB (aSpad b o) = 0 ∧ t.ecc.get (aSpad b o) = 0) ∧
        (k.moving ≠ 1 → k.stale = false → MemSame s t) ∧ MemSameBut s t (aSpad b 0) 0x20_0000) ∧
    (spadState s b ≠ 2 → exec (.spbZero b) s = .next s) ∧
    (spadState s b = 2 → ∃ t, exec (.spbZero b) s = .next t ∧ t.fld F.SPB_ZERO_ZERO 0 b = 1 ∧ spadState t b = 3 ∧
      (t.spad.get b).moving = 5 ∧ MemSame s t) ∧
    (spadClk s = true → k.moving = 5 → spadPartial k = false →
      ∃ t, exec (.spadZeroFillDone b) s = .next t ∧ t.fld F.SPB_ZERO_ZERO 0 b = 0 ∧
        (s.fld F.SPB_PWR_REQ_PWR 0 b = 2 → spadState t b = 2) ∧
        (∀ o < 0x20_0000, t.rdB (aSpad b o) = 0 ∧ t.ecc.get (aSpad b o) = 0) ∧ MemSameBut s t (aSpad b 0) 0x20_0000))

/-- An edge of a slice computes T exactly, brings it to 56 bits and Y to 24; coefficient writes and swap requests
(R139, R140, R141, R142, R143, R146, R149, R150, R152, R157). -/
def Obligations.SliceForms : Prop :=
  ∀ (s : State) (b k : Nat), b < 768 →
    (∀ xs, k < 8 → bayClk s b k = false → exec (.sliceOperation b k xs) s = .next s) ∧
    (∀ xs, k < 8 → bayClk s b k = true → edgeOwed s b k = false → s.fld F.BAY_STATUS_RST_HELD b ≠ 1 → s.fld F.BAY_STATUS_WE_HELD b ≠ 1 →
      ∃ t, exec (.sliceOperation b k xs) s = .next t ∧ MemSame s t ∧ t.ffs = s.ffs ∧ FldSame s t [(F.BAY_SLICE_FLAG_OVF, b), (F.BAY_SLICE_FLAG_YOV, b)] ∧
        (∀ j, (∀ i < 32, slcClk s b i = k → (xs.getD i {}).ce = true → j ≠ b * 32 + i) → t.slices.get j = s.slices.get j) ∧
        (∀ i < 32, slcClk s b i = k → (xs.getD i {}).ce = true →
          let x := xs.getD i {}
          let g := slcCfg s b i
          let v := s.slices.get (b * 32 + i)
          let v' := t.slices.get (b * 32 + i)
          let uns := !(g 12 1 == 1)
          let xsg := g 9 1 == 1
          let raw : Int := if slcPre s b i = 1 then asInt xsg 24 x.a + asInt xsg 24 x.d
            else if slcPre s b i = 2 then asInt xsg 24 x.a - asInt xsg 24 x.d else asInt xsg 24 x.a
          let X := max (rangeLo xsg 24) (min (rangeHi xsg 24) raw)
          let K := asInt (g 10 1 == 1) 24 (if g 11 1 = 1 then v.coef.get (ofBool (bitOf (s.fld F.BAY_COEF_ACT_ACT b) i) * 16 + x.caddr % 16) else x.b)
          let M := X * K
          let C := asInt (g 12 1 == 1) 56 (x.c % 2 ^ 56)
          let Z : Int := if x.first then 0 else match slcZsel s b i with
            | 0 => asInt (g 12 1 == 1) 56 v.acc
            | 1 => asInt (g 12 1 == 1) 56 (if i = 0 then 0 else (s.slices.get (b * 32 + i - 1)).acc)
            | 2 => C
            | _ => 0
          let op := if g 13 1 = 1 then x.opIn % 16 else g 14 4
          g 3 1 = 0 → g 4 1 = 0 → g 5 1 = 0 → g 6 1 = 0 → v.pipe = [] →
          ∀ o T, (o, T) ∈ [(1, M), (2, Z + M), (3, Z - M), (4, Z + C), (5, Z - C)] → op = o →
            v'.acc = (brought 56 (g 20 1 == 1) uns T).toNat ∧ v'.ovf = leaves 56 uns T ∧ v'.preOv = decide (raw ≠ X) ∧ v'.coef = v.coef ∧
            (leaves 56 uns T = true → bitOf (t.fld F.BAY_SLICE_FLAG_OVF b) i = true) ∧
            (∀ r : Int, (orZero 3 (g 22 2) = 0 ∧ r = asInt (!uns) 56 v'.acc / 2 ^ slcShift s b i ∨
                orZero 3 (g 22 2) = 1 ∧ slcShift s b i ≠ 0 ∧ r = (asInt (!uns) 56 v'.acc + 2 ^ (slcShift s b i - 1)) / 2 ^ slcShift s b i) →
              v'.y = (brought 24 (g 21 1 == 1) uns r).toNat ∧ v'.yov = leaves 24 uns r ∧
              (leaves 24 uns r = true → bitOf (t.fld F.BAY_SLICE_FLAG_YOV b) i = true)))) ∧
    (∀ i < 32, bayClk s b (slcClk s b i) = true →
      let s1 := bayFirstEdge b (slcClk s b i) s
      (edgeOwed s b (slcClk s b i) = false → s1 = s) ∧
      ((s.fld F.BAY_STATUS_WE_HELD b = 1 ∨ slcSwapFabric s b i = false) → exec (.sliceSwapReq b i) s = .next s1) ∧
      (s.fld F.BAY_STATUS_WE_HELD b = 1 → ∀ addr data, exec (.sliceCoefWrite b i addr data) s = .next s1) ∧
      (s.fld F.BAY_STATUS_WE_HELD b ≠ 1 →
        (∀ addr data, ∃ t, exec (.sliceCoefWrite b i addr data) s = .next t ∧ t = { s1 with slices := t.slices } ∧
          (let at_ := ofBool (!bitOf (s1.fld F.BAY_COEF_ACT_ACT b) i) * 16 + addr % 16
           ∀ j, (t.slices.get (b * 32 + i)).coef.get j = if j = at_ then data % 2 ^ 24 else (s1.slices.get (b * 32 + i)).coef.get j) ∧
          (t.slices.get (b * 32 + i)).acc = (s1.slices.get (b * 32 + i)).acc ∧ ∀ j, j ≠ b * 32 + i → t.slices.get j = s1.slices.get j) ∧
        (slcSwapFabric s b i = true → ∃ t, exec (.sliceSwapReq b i) s = .next t ∧ OnlyRegs s1 t [(F.BAY_COEF_ACT_PEND, b)] ∧
          ∀ j < 32, bitOf (t.fld F.BAY_COEF_ACT_PEND b) j = (bitOf (s1.fld F.BAY_COEF_ACT_PEND b) j || j == i)))) ∧
    (∀ i < 32, bayClk s b (slcClk s b i) = false →
      (∀ addr data, exec (.sliceCoefWrite b i addr data) s = .next s) ∧ exec (.sliceSwapReq b i) s = .next s)

/-- One clock edge at a unit of the fabric: a cluster gives every flip-flop of its clock its value by R64, with the carry of its
column, a boundary register takes its track or 0, and the clock input delivers its strobe (R62, R64, R65, R68, R73, R74, R76, R82,
R94). -/
def Obligations.FlipFlopForms : Prop :=
  ∀ (s : State) (b k : Nat) (l : List TrackSrc) (below : List (List TrackSrc)), b < 768 →
    let unit := fun (u n : Nat) => ({ b := b, u := u, k := n, lines := l, below := below } : EdgeUnit)
    let edge := fun (u n : Nat) => if n = 8 then Instr.flipFlopEdge [] [] [] [] [unit u k] else Instr.flipFlopEdge [unit u n] [] [] [] []
    let group := fun (j : Nat) => Instr.flipFlopEdge [] [unit j k] [] [] []
    let lines := linesOf s b l
    let held := s.fld F.BAY_STATUS_RST_HELD b = 1
    let kept := held ∧ s.keepForm.contains b = true
    let carry := fun (u : Nat) =>
      columnCarry s b (u % 64) false ((List.range (u / 64)).map (fun r => linesOf s b (below.getD r []))) s
    (∀ u < 1024, ∀ v : State, (columnCarry s b u false [] v).1 = false ∧
      ∀ x, let fr := clusterFrame s b u
        let q := s.ffs.get (b * 1024 + u)
        let f := clusterSettle fr q x false 17
        (clusterEval fr f q x false).1 = f → columnCarry s b u false [x] v = ((clusterEval fr f q x false).2.2, v)) ∧
    (∀ u < 1024,
      let fr := clusterFrame s b u
      let q := s.ffs.get (b * 1024 + u)
      let ci := (carry u).1
      let f := clusterSettle fr q lines ci 17
      let e := clusterEval fr f q lines ci
      let lc := fun (i : Nat) => bitsOf fr (26 * i) 26
      let n := fun (i : Nat) => bitsOf (lc i) 19 1
      let only := fun (t : State) => t = { s with ffs := t.ffs, ffWait := t.ffWait, freeCtr := (carry u).2.freeCtr } ∧
        ∀ j, j ≠ b * 1024 + u → t.ffs.get j = s.ffs.get j
      (kept → exec (edge u 8) s = .next (carry u).2) ∧
      (¬kept → e.1 = f → ∃ t, exec (edge u 8) s = .next t ∧ only t ∧
        ∀ i < 16, bitOf (t.ffs.get (b * 1024 + u)) i =
          if ¬held ∧ bitOf (lc i) 21 = true ∧ ctlAsync fr (n i) = true ∧ ctlSr fr f q lines (n i) = true then bitOf (lc i) 22 else bitOf q i) ∧
      (k < 8 → bayClk s b k = true → edgeOwed s b k = false →
        (kept → exec (edge u k) s = .next (edgeClose b k (carry u).2)) ∧
        (¬kept → e.1 = f → ∃ t, exec (edge u k) s = .next (edgeClose b k t) ∧ only t ∧
          ∀ i < 16, bitOf (t.ffs.get (b * 1024 + u)) i =
            if ctlClk fr (n i) ≠ k then bitOf q i
            else if held then bitOf (lc i) 23
            else if bitOf (lc i) 21 && ctlSr fr f q lines (n i) then bitOf (lc i) 22
            else if bitOf (s.ffWait.get (b * 1024 + u)) i || (bitOf (lc i) 20 && !ctlCe fr f q lines (n i)) then bitOf q i
            else if bitsOf (lc i) 17 2 = 1 then bitOf e.2.1 i
            else if bitsOf (lc i) 17 2 = 2 then xbar fr f q lines (4 * i + 3)
            else bitOf f i))) ∧
    (k < 8 →
      (∀ u, bayClk s b k = false → exec (edge u k) s = .next s ∧ exec (group u) s = .next s) ∧
      (bayClk s b k = true → edgeOwed s b k = false → ∀ j < 32,
        ((kept ∨ groupClk s b j ≠ k) → exec (group j) s = .next (edgeClose b k s)) ∧
        (¬kept → groupClk s b j = k → exec (group j) s =
          .next (edgeClose b k { s with bregs := s.bregs.set (b * 32 + j) (if held then 0 else lines % 2 ^ 64) }))) ∧
      (∀ (cells groups gpios lanes srs : List EdgeUnit) (e : EdgeUnit) (j : Nat), e ∈ groups → e.b = b → e.k = k → e.u = j → j < 32 →
        groupClk s b j = k → bayClk s b k = true → ¬held → groups.Pairwise (fun x y => (x.b, x.u) ≠ (y.b, y.u)) →
        (∀ x ∈ edgeUnits cells groups gpios lanes srs, x.b < 768 → x.k < 8 → edgeOwed s x.b x.k = false) →
        ∃ t, exec (.flipFlopEdge cells groups gpios lanes srs) s = .next t ∧ t.bregs.get (b * 32 + j) = linesOf s b e.lines % 2 ^ 64) ∧
      ∀ v : State, let t := edgeClose b k v
        t.ffs = v.ffs ∧ t.ffWait = v.ffWait ∧ t.bregs = v.bregs ∧ t.regs = v.regs ∧ t.mem = v.mem ∧ t.ecc = v.ecc ∧ t.out = v.out ∧
        bitOf (t.strobe.get b) (8 + k) = bitOf (v.strobe.get b) k ∧ bitOf (t.strobe.get b) k = false ∧ (b, k) ∉ t.lastEdge ∧
        (∀ x ∈ t.capts, (b, k) ∉ x.wait))

/-! ### Loom instructions and commands -/

/-- Loom commands issued, awaited, polled and aborted (R268, R269, R270, R271, R272, R274, R276, R282, R298, R300). -/
def Obligations.LoomIssueWaitForms : Prop :=
  (∀ (s : State) (c rd rs1 : Nat), Issues s c → rd < 32 →
    let u := issued c s
    let a := u.vget c rs1
    ∀ i fn, (i, fn) ∈ [(Instr.lload c rd rs1 0, fLLOAD), (.lrel c rd rs1 0, fLREL), (.lhold c rd rs1 0, fLHOLD),
        (.lfree c rd rs1 0, fLFREE), (.lplace c rd rs1 0, fLPLACE), (.lsnap c rd rs1 0, fLSNAP), (.lrest c rd rs1 0, fLREST),
        (.lmigr c rd rs1 0, fLMIGR), (.lscrubSetRate c rd rs1 0, fLSCRUB), (.lscrubOnePass c rd rs1 0, fLSCRUB),
        (.lscrubContOn c rd rs1 0, fLSCRUB), (.lscrubContOff c rd rs1 0, fLSCRUB), (.lread c rd rs1 0, fLREAD),
        (.lkeyLoad c rd rs1 0, fLKEY), (.lkeyErase c rd rs1 0, fLKEY), (.lkeyWrap c rd rs1 0, fLKEY)] →
      (u.bit F.PSTATE_TW c = false → u.bit F.PSTATE_TASK c = true → ∃ t, exec i s = .next t ∧ TrapTaken u t c cPRIV 0 (u.vpc c) 0 0) ∧
      (u.bit F.PSTATE_TASK c = false →
        (∀ ti, descRead u c fn a = .inl ti → u.bit F.PSTATE_TW c = false →
          ∃ t, exec i s = .next t ∧ (if ti = 0 then TrapTaken u t c cADDRESS 2 (u.vpc c) a 0 else TrapTaken u t c cLOOM 0 (u.vpc c) a ti)) ∧
        (∀ d sp, descRead u c fn a = .inr (d, sp) →
          let zSays := fun (t : State) (z : Bool) => ∀ j < 4, bitOf (t.fld F.FLAGS_NZCV c) j = if j = 2 then z else bitOf (u.fld F.FLAGS_NZCV c) j
          ((∀ k < 16, (u.slots.get (16 * c + k)).used = true) →
            ∃ t, exec i s = .next t ∧ RegSet u t c rd 0 ∧ zSays t true ∧ Retires u t c (u.vpc c + 4) [(F.FLAGS_NZCV, c)] ∧
              t = { u with regs := t.regs, vc := t.vc }) ∧
          (∀ k < 16, (u.slots.get (16 * c + k)).used = false → (∀ j < k, (u.slots.get (16 * c + j)).used = true) →
            ((fn = fLHOLD ∨ fn = fLFREE) → u.occ = none ∧ ∀ x ∈ u.cmds, x.inst = fieldLE d 2 2 → cmdUnfired u x = false) →
            let g := (u.slots.get (16 * c + k)).gen % 4095 + 1
            let tk := k + 16 * g + 65536 * c
            ∃ t, exec i s = .next (if fn = fLSNAP then cmdStart tk t else t) ∧ RegSet u t c rd (BitVec.ofNat 64 tk) ∧ zSays t false ∧
              Retires u t c (u.vpc c + 4) [(F.FLAGS_NZCV, c)] ∧
              t.cmds = u.cmds ++ [{ ticket := tk, desc := d, spools := sp, inst := fieldLE d 2 2 }] ∧
              (∀ n, t.slots.get n = if n = 16 * c + k then { gen := g, used := true } else u.slots.get n) ∧
              t = { u with regs := t.regs, vc := t.vc, cmds := t.cmds, slots := t.slots })))) ∧
  (∀ (s : State) (c rd rs1 : Nat), Issues s c → rd < 32 →
    let u := issued c s
    let tk := (u.vget c rs1).toNat
    u.bit F.PSTATE_TASK c = false →
      let zSays := fun (t : State) (z : Bool) => ∀ j < 4, bitOf (t.fld F.FLAGS_NZCV c) j = if j = 2 then z else bitOf (u.fld F.FLAGS_NZCV c) j
      let gives := fun (i : Instr) (w : Nat) => ∃ t, exec i s = .next t ∧ RegSet u t c rd (BitVec.ofNat 64 w) ∧ zSays t (w % 256 == 0) ∧
        Retires u t c (u.vpc c + 4) [(F.FLAGS_NZCV, c)] ∧ t = { u with regs := t.regs, vc := t.vc }
      let waits := fun (i : Instr) (w : VWait) => ∃ t, exec i s = .next t ∧ (t.vc.get c).wait = w ∧ (t.vc.get c).regs = (u.vc.get c).regs ∧
        t.vpc c = u.vpc c ∧ (∀ k, k ≠ c → t.vc.get k = u.vc.get k) ∧ t = { u with vc := t.vc }
      let shown := fun (t : State) => gpioShowAll u = u → t.gpio = u.gpio ∧ t.out = u.out
      ((tkLive u tk = false ∨ tkCore tk ≠ c) → gives (.lwait c rd rs1 0) 10 ∧ gives (.lstat c rd rs1 0) 10) ∧
      (tkLive u tk = true → tkCore tk = c →
        (∀ w, (u.slots.get (tkKey tk)).status = some w → ∀ i ∈ [Instr.lwait c rd rs1 0, .lstat c rd rs1 0],
          ∃ t, exec i s = .next t ∧ RegSet u t c rd (BitVec.ofNat 64 w) ∧ zSays t (w % 256 == 0) ∧
            (t.slots.get (tkKey tk)).used = false ∧ (∀ n, n ≠ tkKey tk → t.slots.get n = u.slots.get n) ∧
            Retires u t c (u.vpc c + 4) [(F.FLAGS_NZCV, c)] ∧ t = { u with regs := t.regs, vc := t.vc, slots := t.slots }) ∧
        ((u.slots.get (tkKey tk)).status = none → waits (.lwait c rd rs1 0) (.lwait rd tk) ∧ gives (.lstat c rd rs1 0) 1)) ∧
      (cmdOf u tk = none → ∃ t, exec (.labort c rd rs1 0) s = .next t ∧ RegSet u t c rd 2 ∧ Retires u t c (u.vpc c + 4) [] ∧
        shown t ∧ t = { u with regs := t.regs, vc := t.vc, gpio := t.gpio, out := t.out }) ∧
      (∀ x, cmdOf u tk = some x → x.phase = 0 → tkLive u tk = true → u.load = none → (∀ m ∈ u.migs, m.ticket ≠ tk) →
        ∃ t, exec (.labort c rd rs1 0) s = .next t ∧ RegSet u t c rd 0 ∧ Retires u t c (u.vpc c + 4) [] ∧
          (∀ y ∈ t.cmds, y.ticket = tk → y.phase = 3) ∧ (∃ y ∈ t.cmds, y.ticket = tk ∧ y.res = rABORTED) ∧
          (∀ y, y.ticket ≠ tk → (y ∈ t.cmds ↔ y ∈ u.cmds)) ∧ tk ∉ t.hdq ∧ shown t ∧
          t = { u with regs := t.regs, vc := t.vc, cmds := t.cmds, holds := t.holds, hdq := t.hdq, gpio := t.gpio, out := t.out }) ∧
      (u.fld F.LP_STATUS_STATE c = 2 →
        ∃ t, exec (.lnext c rd 0 0) s = .next t ∧ RegSet u t c rd (BitVec.ofNat 64 (u.intake.get c).entry) ∧ t.fld F.LP_STATUS_STATE c = 3 ∧
          Retires u t c (u.vpc c + 4) [(F.LP_STATUS_STATE, c)] ∧ t = { u with regs := t.regs, vc := t.vc }) ∧
      (u.fld F.LP_STATUS_STATE c = 3 → u.bit F.PSTATE_TW c = false →
        ∃ t, exec (.lnext c rd 0 0) s = .next t ∧ TrapTaken u t c cLOOM 0 (u.vpc c) 0 4) ∧
      (u.fld F.LP_STATUS_STATE c ≠ 2 → u.fld F.LP_STATUS_STATE c ≠ 3 → waits (.lnext c rd 0 0) (.lnext rd)) ∧
      (u.fld F.LP_STATUS_STATE c ≠ 3 → ∃ t, exec (.lexit c 0 rs1 0) s = .next t ∧ RegSet u t c 0 0 ∧ Retires u t c (u.vpc c + 4) [] ∧
        t = { u with regs := t.regs, vc := t.vc }) ∧
      (u.fld F.LP_STATUS_STATE c = 3 →
        waits (.lexit c 0 rs1 0) (if vstoresOut u c then .lexitDrain (tk % 2 ^ 32) else .lexit (tk % 2 ^ 32))))

/-- Loom commands start when their path allows it, take effect, end with their result and are reported (R273, R274,
R278, R283, R284, R292, R293, R188). -/
def Obligations.LoomCommandForms : Prop :=
  ∀ (s : State) (c : LCmd), cmdOf s c.ticket = some c →
    let x := Instr.loomCommandStart c.ticket
    let ends := fun (t : State) (r d : Nat) => (∃ y ∈ t.cmds, y.ticket = c.ticket) ∧
      ∀ y ∈ t.cmds, y.ticket = c.ticket → y.phase = 3 ∧ y.res = r ∧ y.detail = d
    let runs := cfgRuns s = true ∧ c.phase = 0 ∧ instReady s c = true ∧ privBad s 0 = false ∧ notOn s c = false
    (cfgRuns s = false ∨ (c.phase = 0 ∧ (instReady s c = false ∨ passEarlier s c = true)) → exec x s = .next s) ∧
    (runs → (∀ y ∈ s.cmds, y.ticket = c.ticket → y = c) →
      ((c.opc = fLREL ∨ c.opc = fLHOLD ∨ (c.opc = fLFREE ∧ framePathFree s c.ticket = true)) → instOf s c.inst = none →
        ∃ t, exec x s = .next t ∧ ends t rNOSKEIN 0 ∧ t = { s with cmds := t.cmds }) ∧
      (∀ k, instOf s c.inst = some k → k.ostate = oLOADED → s.holds = [] →
        (c.opc = fLREL → allReleased s k = false → (c.atPick = true → pickPassed s c.pick = true →
            ∃ t, exec x s = .next t ∧ ends t rLATE 0 ∧ t = { s with cmds := t.cmds }) ∧
          (c.atPick = false → ∃ t, exec x s = .next t ∧
            t.holds = [{ inst := c.inst, hold := false, pick := none, ticket := c.ticket + 1 }] ∧
            t = { s with cmds := t.cmds, holds := t.holds })) ∧
        (c.opc = fLHOLD → c.atPick = false → ∃ t, exec x s = .next t ∧
          t.holds = [{ inst := c.inst, hold := true, ticket := c.ticket + 1 }] ∧ t = { s with cmds := t.cmds, holds := t.holds }) ∧
        (c.opc = fLFREE → c.atPick = false → framePathFree s c.ticket = true → allHeld s k = true →
          ∃ t, exec x s = .next t ∧ (∀ b ∈ k.bays, t.fld F.BAY_STATUS_LOADED b = 0 ∧ ostate t b = oERASING) ∧
            (∀ y ∈ t.cmds, y.ticket = c.ticket → y.phase = 1 ∧ y.part = 2) ∧ MemSame s t)) ∧
      (c.opc = fLKEY → s.occ = none →
        let cl := c.f 0x11 1
        let k := c.f 0x12 1
        let src := c.f 0x14 2
        let dst := c.f 0x16 2
        let ldm := fun o => aPriv c.core (0x1_0000 + o)
        let blob := keyBytes c.core src 64 s
        let raw := keyBytes c.core src 32 s
        ((cl = 0 ∧ k ≤ 15) ∨ (cl = 1 ∧ 1 ≤ k ∧ k ≤ 63 ∧ keyNamed s k = false ∧ privBad s 1 = false)) →
        let flag := fun t => if cl = 0 then bitOf (State.fld t F.CFG_IKEY_VALID) k else bitOf (State.fld t F.MPE_KEY_LOADED) (k - 1)
        (∀ n, src + n ≤ 0x1_0000 → keyBytes c.core src n s = (s.rdBytes (ldm src) n, s)) ∧
        (c.f 0x10 1 = 0 → ∀ v, blobKey cl blob.1 = some v → v ≠ [] →
          ∃ t, exec x s = .next t ∧ t.keys.get (keyCell cl k) = v ∧ flag t = true ∧ ends t rOK 0 ∧ MemSame s t) ∧
        (c.f 0x10 1 = 0 → blobKey cl blob.1 = none →
          ∃ t, exec x s = .next t ∧ ends t rKEYERR 0 ∧ t = { s with cmds := t.cmds, freeCtr := blob.2.freeCtr }) ∧
        (c.f 0x10 1 = 1 → ∃ t, exec x s = .next t ∧ t.keys.get (keyCell cl k) = [] ∧ flag t = false ∧ ends t rOK 0 ∧ MemSame s t) ∧
        (c.f 0x10 1 = 2 → ∃ t, exec x s = .next t ∧ ends t rOK 0 ∧ t.keys = s.keys ∧ t.regs = s.regs ∧
          (let out := bytesLE 4 0x4B594250 ++ bytesLE 4 cl ++ padTo 40 (keyWrap cl raw.1) ++ List.replicate 16 0
           ∀ j < 64, dst + j < 0x1_0000 → t.rdB (ldm dst + j) = out.getD j 0) ∧ MemSameBut s t (ldm dst) (min 64 (0x1_0000 - dst))))) ∧
    (c.phase = 3 → ∃ t, exec (.loomCommandComplete c.ticket) s = .next t ∧ (∀ y ∈ t.cmds, y.ticket ≠ c.ticket) ∧
      (tkLive s c.ticket = true → c.drop = false → c.flag 0 = false → (∀ rd n, (s.vc.get c.core).wait ≠ .lwait rd n) →
        (t.slots.get (tkKey c.ticket)).status = some c.status ∧ (t.slots.get (tkKey c.ticket)).used = true) ∧
      (c.res ≠ rOK → c.core < 8 → (∀ rd n, (s.vc.get c.core).wait ≠ .lwait rd n) → Raised s t (2 + 4 * c.core)) ∧ MemSame s t) ∧
    (c.opc = fLFREE → c.phase = 1 → c.part = 2 → cfgRuns s = true → ∀ k, instOf s c.inst = some k →
      ∃ t, exec (.loomCommandComplete c.ticket) s = .next t ∧ instOf t c.inst = none ∧
        (∀ b ∈ k.bays, ostate t b = oFREE ∧ mapOwner t b = 0) ∧
        (∀ b ∈ k.bays, ∀ o < 2048 * 256, t.rdB (aFrame b 0 o) = 0) ∧ (∀ y ∈ t.cmds, y.ticket ≠ c.ticket))

/-- The engine consumes a record, the trailer, passes or fails an image, and zeroes a failed region (R174, R179, R183,
R187, R188, R199, R281). -/
def Obligations.ImageForms : Prop :=
  ∀ (s : State),
    ((loadInst s = none ∨ cfgRuns s = false) → ∀ x ∈ [Instr.imageRecord, .imageTrailer, .imagePass, .loadRegionZeroDone], exec x s = .next s) ∧
    (∀ l c k, loadInst s = some (l, c, k) → cfgRuns s = true →
      (loadWaits s 64 = true → exec .imageRecord s = .next s ∧ exec .imageTrailer s = .next s) ∧
      (∀ (s1 s2 : State), l.part = 1 → regionOn s k = true → l.secEnd ≠ 0 → l.sec = 1 → loadWaits s 64 = false → loadTake 64 s = (none, s1) →
        let r := loadPlain s1 (s1.load.getD l) l.pos 64
        let b := (k.r + fieldLE r 3 1) * 24 + k.c + fieldLE r 2 1
        let f := fieldLE r 4 4
        recordBad l r (l.secEnd - l.pos - 64) = false → fieldLE r 0 1 = 1 → fieldLE r 8 4 = 1 → fieldLE r 2 2 ≠ 0xFFFF → f < 1408 →
        loadWaits s1 (recordLen r) = false → loadTake (recordLen r) s1 = (none, s2) →
        let d := loadPlain s2 (s2.load.getD l) (l.pos + 64) (recordLen r)
        ∃ t, exec .imageRecord s = .next t ∧ (∀ j < d.length, t.rdB (aFrame b f j) = (frameMasked f d).getD j 0) ∧
          (1024 ≤ f → frameMasked f d = d) ∧
          MemSameBut s2 t (aFrame b f 0) d.length ∧ t.regs = s2.regs) ∧
      (∀ (s1 : State), l.part = 1 → l.secEnd = 0 → l.envEnd = 0 → l.pos = l.tail → l.tops = fieldLE l.hdr 0x1D 1 → l.last ≠ 0 →
        l.ebm = ihFlag l.hdr 2 → (l.sigAt != 0) = ihFlag l.hdr 1 → loadWaits s 64 = false → loadTake 64 s = (none, s1) →
        let t := slice (s1.load.getD l).seen l.tail 64
        fieldLE t 0 4 = 0x444E_4558 → fieldLE t 8 8 = ihLen l.hdr → allZero t 4 4 = true → allZero t 0x10 0x2C = true →
        exec .imageTrailer s = .next { s1 with load := s1.load.map (fun l => { l with part := 2 }) }) ∧
      (l.part = 2 → (imageCheck s l).1 = 0 → spoolNext c 0 = none → c.flag 4 = false → c.phase ≠ 3 →
        ∃ t, exec .imagePass s = .next t ∧ t.load = none ∧ t.fld F.CFG_LOAD_LOADING = 0 ∧
          (instOf t c.inst).map (·.ostate) = some oLOADED ∧
          (cmdOf t c.ticket).map (fun y => (y.phase, y.res, y.detail)) = some (3, rOK, 0) ∧
          (∀ b ∈ k.bays, t.fld F.BAY_STATUS_LOADED b = 1 ∧ t.fld F.BAY_STATUS_OWNER b = c.inst % 2 ^ F.BAY_STATUS_OWNER.w ∧ ostate t b = oLOADED) ∧
          (∀ b ∈ k.bays, ∀ f < 1408, (∀ x ∈ l.written, ¬(x.1 = b ∧ x.2.1 ≤ f ∧ f < x.2.1 + x.2.2)) → ∀ j < 256, t.rdB (aFrame b f j) = 0)) ∧
      (l.part = 2 → (imageCheck s l).1 ≠ 0 →
        ∃ t, exec .imagePass s = .next t ∧
          t.load = some { l with part := 3, res := rIMAGE, detail := (imageCheck s l).1, foff := (imageCheck s l).2 }) ∧
      ((l.part = 3 ∨ l.part = 6) → c.phase ≠ 3 →
        ∃ t, exec .loadRegionZeroDone s = .next t ∧ t.load = none ∧ t.fld F.CFG_LOAD_LOADING = 0 ∧ instOf t c.inst = none ∧
          (cmdOf t c.ticket).map (fun y => (y.phase, y.res, y.detail)) = some (3, l.res, l.detail) ∧
          (∀ b ∈ k.bays, ostate t b = oFREE ∧ mapOwner t b = 0 ∧ ∀ o < 2048 * 256, t.rdB (aFrame b 0 o) = 0) ∧
          (l.part = 3 → t.fld F.CFG_FAULT_VALID = 1 ∧ t.fld F.CFG_FAULT_CODE = l.detail % 2 ^ F.CFG_FAULT_CODE.w ∧
            t.fld F.CFG_FAULT_OFFSET = l.foff % 2 ^ F.CFG_FAULT_OFFSET.w)))

/-! ### Heddle: origins, pools, spools -/

/-- Heddle answers a placement query with a free region of lowest score; pools are enabled or refused (R305, R306,
R307, R309, R315, R285, R320). -/
def Obligations.HeddleOriginForms : Prop :=
  (∀ (s : State), (s.hdq = [] ∨ hdRuns s = false) → exec .heddleOriginRequest s = .next s) ∧
  (∀ (s : State) (tk : Nat) (q : List Nat) (c : LCmd), s.hdq = tk :: q → hdRuns s = true → cmdOf s tk = some c → c.phase ≠ 3 →
    c.opc = fLPLACE → c.pin = false → ihAnchors c.spools = [] →
    let w := ihW c.spools
    let h := ihH c.spools
    let r : OriginReq := { w := w, h := h, prio := if c.flag 5 then c.f 6 1 else ihPrio c.spools }
    let fits := fun (o : Nat × Nat) => o.1 < 24 ∧ o.2 < 32 ∧ o.1 + w ≤ 24 ∧ o.2 + h ≤ 32 ∧
      ∀ b ∈ regionBays o.1 o.2 w h, ostate s b = oFREE ∧ hstate s b < 2 ∧ bayCap s b = false ∧ s.fld F.PWR_BAY_STATE_STATE 0 b ≠ 3
    ((∃ o, fits o) → ∃ t o, exec .heddleOriginRequest s = .next t ∧ fits o ∧ (∀ o', fits o' → originScore s r [] o ≤ originScore s r [] o') ∧
      (cmdOf t tk).map (fun y => (y.phase, y.res, y.org)) = some (3, rOK, o) ∧ t.hdq = q ∧ t = { s with cmds := t.cmds, hdq := q }) ∧
    ((∀ o, ¬fits o) → ∃ t, exec .heddleOriginRequest s = .next t ∧
      (cmdOf t tk).map (fun y => (y.phase, y.res)) = some (3, rNOFIT) ∧ t.hdq = q ∧
      t = { s with cmds := t.cmds, hdq := q, regs := t.regs } ∧
      FldSame s t [(F.HD_NOFIT_ORG_VALID, 0), (F.HD_NOFIT_ORG_ORG_R, 0), (F.HD_NOFIT_ORG_ORG_C, 0), (F.HD_NOFIT_ORG_COUNT, 0), (F.HD_NOFIT_VICT_VICT, 0)])) ∧
  (∀ (s : State) (p v : Nat), p < 32 →
    let used := s.fld F.HD_POOL_CTL_USED 0 p
    let x := withBit v 63 true
    ∃ t, exec (.poolEnable p v) s = .next t ∧
      (used = 0 → t.fld F.HD_POOL_CTL_DRAM 0 p = bitsOf x 62 1 ∧ t.fld F.HD_POOL_CTL_UNIT 0 p = bitsOf x 48 6 ∧ t.fld F.HD_POOL_CTL_KEYID 0 p = bitsOf x 40 6) ∧
      (used ≠ 0 → OnlyRegs s t [(F.HD_POOL_CTL_EN, 0), (F.HD_STATUS_POOLERR, 0)]) ∧
      (poolBad t p = true → t.fld F.HD_STATUS_POOLERR = 1 ∧ t.fld F.HD_POOL_CTL_EN 0 p = s.fld F.HD_POOL_CTL_EN 0 p) ∧
      (poolBad t p = false → t.fld F.HD_POOL_CTL_EN 0 p = 1 ∧ t.fld F.HD_STATUS_POOLERR = s.fld F.HD_STATUS_POOLERR) ∧
      (∀ q, q ≠ p → ∀ f ∈ [F.HD_POOL_CTL_EN, F.HD_POOL_CTL_DRAM, F.HD_POOL_CTL_UNIT, F.HD_POOL_CTL_KEYID], t.fld f 0 q = s.fld f 0 q) ∧
      OnlyRegs s t [(F.HD_POOL_CTL_EN, 0), (F.HD_STATUS_POOLERR, 0), (F.HD_POOL_CTL_DRAM, 0), (F.HD_POOL_CTL_UNIT, 0), (F.HD_POOL_CTL_KEYID, 0)])

/-- Spools are placed, filled, mapped and moved (R319, R321, R322, R323, R324, R325, R328, R329). -/
def Obligations.SpoolForms : Prop :=
  ∀ (s : State),
    (∀ l c k n e, loadInst s = some (l, c, k) → cfgRuns s = true → spoolNext c l.entry = some (n, e) →
      (l.part = 4 →
        (entryBad s k e ≠ 0 → ∃ t, exec .spoolPlacement s = .next t ∧
          t.load = some { l with part := 6, res := rSPOOL, detail := entryBad s k e } ∧ (instOf t c.inst).map (·.spools) = some [] ∧
          ∀ b ∈ k.bays, ∀ x < 64, t.fld F.XLATE0_VALID b x = 0) ∧
        (entryBad s k e = 0 → fieldLE e 0 1 = 2 → ∃ t sp, exec .spoolPlacement s = .next t ∧ s.spools.get (fieldLE e 8 4) = some sp ∧
          t.spools.get (fieldLE e 8 4) = some { sp with refs := sp.refs + 1 }) ∧
        (entryBad s k e = 0 → fieldLE e 0 1 = 1 → ∀ id, 0 < id → id < 4096 → s.spools.get id = none →
            (∀ j < id, j ≠ 0 → s.spools.get j ≠ none) →
          ∃ t p a, exec .spoolPlacement s = .next t ∧ p < 32 ∧ poolEligible s p e = true ∧
            (∀ q < 32, poolEligible s q e = true → spoolScore s e k.c k.r k.w k.h p ≤ spoolScore s e k.c k.r k.w k.h q) ∧
            poolBase s p ≤ a ∧ a + fieldLE e 8 4 ≤ poolLast s p + 1 ∧
            (∀ x ∈ poolUsed s p, a + fieldLE e 8 4 ≤ x.1 ∨ x.1 + x.2 ≤ a) ∧
            t.spools.get id = some { pool := p, owner := c.inst, base := a + keyGran s p, size := fieldLE e 8 4 } ∧
            t.fld F.HD_POOL_CTL_USED 0 p = (s.fld F.HD_POOL_CTL_USED 0 p + fieldLE e 8 4) % 2 ^ F.HD_POOL_CTL_USED.w)) ∧
      (∀ id sp, l.part = 5 → k.spools.getLast? = some id → s.spools.get id = some sp →
        (spoolWaits s id = true → exec .spoolZeroFillDone s = .next s) ∧
        (spoolWaits s id = false → (spoolZero id s).1 ≠ 0 → ∃ t, exec .spoolZeroFillDone s = .next t ∧
          (t.load.map (fun x => (x.part, x.res, x.detail))) = some (6, rSPOOL, 0x10) ∧ (instOf t c.inst).map (·.spools) = some []) ∧
        (spoolWaits s id = false → (spoolZero id s).1 = 0 →
          let users := (userBays e k.w k.h).map (fun u => (k.r + u.2) * 24 + k.c + u.1)
          users.Nodup → ∃ t, exec .spoolZeroFillDone s = .next t ∧
            ∀ b ∈ users, ∀ x < 64, xlValid s b x = false → (∀ y < x, xlValid s b y = true) →
              t.fld F.XLATE0_VALID b x = 1 ∧ t.fld F.XLATE0_HANDLE b x = fieldLE e 2 2 % 2 ^ F.XLATE0_HANDLE.w ∧
              t.fld F.XLATE0_SPOOL_ID b x = id % 2 ^ F.XLATE0_SPOOL_ID.w ∧ t.fld F.XLATE1_BASE b x = sp.base % 2 ^ F.XLATE1_BASE.w ∧
              t.fld F.XLATE0_SIZE b x = sp.size % 2 ^ F.XLATE0_SIZE.w))) ∧
    ((loadInst s = none ∨ cfgRuns s = false) → exec .spoolPlacement s = .next s ∧ exec .spoolZeroFillDone s = .next s) ∧
    (hdRuns s = false → ∀ x ∈ [Instr.spoolMoveGo 0 0, .spoolMoveCommit true, .spoolMoveCommit false, .spoolMoveCancel], exec x s = .next s) ∧
    (hdRuns s = true →
      (∀ id p k, id < 4096 → p < 32 → s.spools.get id = some k → (s.fld F.HD_MOVE_CTL_STATE = 0 ∨ s.fld F.HD_MOVE_CTL_STATE = 3) →
        ∃ t, exec (.spoolMoveGo id p) s = .next t ∧ t.spools = s.spools ∧
          (∀ a, s.bit F.HD_POOL_CTL_EN 0 p = true → poolUp s p = true → poolFit s p k.size = some a →
            t.fld F.HD_MOVE_CTL_STATE = 1 ∧ t.fld F.HD_MOVE_BASE_BASE = (a + keyGran s p) % 2 ^ F.HD_MOVE_BASE_BASE.w ∧ t.moving = some (id, p) ∧
            t.fld F.HD_POOL_CTL_USED 0 p = (s.fld F.HD_POOL_CTL_USED 0 p + k.size) % 2 ^ F.HD_POOL_CTL_USED.w) ∧
          ((s.bit F.HD_POOL_CTL_EN 0 p = false ∨ poolUp s p = false ∨ poolFit s p k.size = none) →
            t.fld F.HD_MOVE_CTL_STATE = 3 ∧ t.moving = s.moving)) ∧
      (∀ id p k, s.fld F.HD_MOVE_CTL_STATE = 1 → s.moving = some (id, p) → s.spools.get id = some k →
        (∃ t, exec (.spoolMoveCommit false) s = .next t ∧ t.fld F.HD_MOVE_CTL_STATE = 0 ∧ t.fld F.HD_MOVE_CTL_COMMIT = 0 ∧ t.moving = none ∧
          t.spools.get id = some { k with pool := p, base := s.fld F.HD_MOVE_BASE_BASE } ∧
          (∀ b < 768, ∀ e < 64, s.fld F.XLATE0_VALID b e = 1 → s.fld F.XLATE0_SPOOL_ID b e = id →
            t.fld F.XLATE1_BASE b e = s.fld F.HD_MOVE_BASE_BASE % 2 ^ F.XLATE1_BASE.w) ∧ MemSame s t) ∧
        (pickPassed s (s.fld F.HD_MOVE_PICK_PICK) = true →
          ∃ t, exec (.spoolMoveCommit true) s = .next t ∧ t.fld F.HD_STATUS_MOVELATE = 1 ∧ t.moving = s.moving ∧ t.spools = s.spools) ∧
        (pickPassed s (s.fld F.HD_MOVE_PICK_PICK) = false →
          ∃ t, exec (.spoolMoveCommit true) s = .next t ∧ t.fld F.HD_MOVE_CTL_STATE = 2 ∧ t.fld F.HD_MOVE_CTL_COMMIT = 1 ∧ t.moving = s.moving ∧ t.spools = s.spools) ∧
        (∃ t, exec .spoolMoveCancel s = .next t ∧ t.fld F.HD_MOVE_CTL_STATE = 0 ∧ t.moving = none ∧ t.spools = s.spools ∧
          t.fld F.HD_POOL_CTL_USED 0 p = (s.fld F.HD_POOL_CTL_USED 0 p - k.size) % 2 ^ F.HD_POOL_CTL_USED.w)) ∧
      (s.moving = none → ∃ t, exec .spoolMoveCancel s = .next t ∧ t.fld F.HD_MOVE_CTL_STATE = 0 ∧
        OnlyRegs s t [(F.HD_MOVE_CTL_STATE, 0), (F.HD_MOVE_CTL_COMMIT, 0)]))

/-! ### Migration, scrubbing, captures -/

/-- A migration copies frames, restores the destination and erases what it leaves; captures stream out (R290, R331,
R332, R334, R345, R355, R362). -/
def Obligations.MigrationForms : Prop :=
  (∀ (s : State) (tk : Nat), (migOf s tk = none ∨ cfgRuns s = false) →
    ∀ x ∈ [Instr.migrationCopyDone tk, .migrationRestoreDone tk, .migrationEraseDone tk], exec x s = .next s) ∧
  (∀ (s : State) (tk : Nat) (m : Migr) (k : Skein) (a b : Nat), migOf s tk = some (m, k) → cfgRuns s = true →
    k.baysAt m.src = [a] → k.baysAt m.dst = [b] → a < 768 → b < 768 → a ≠ b → (∀ x ∈ s.migs, x.ticket = tk → x = m) →
    ((copyDue s m k = false ∨ framePathFree s tk = false) → exec (.migrationCopyDone tk) s = .next s) ∧
    (copyDue s m k = true → framePathFree s tk = true → m.fail = none →
      ((∀ f < 2048, frameReserved f = false → frameContent f = false → frameErrs s a f = []) →
        ∃ t, exec (.migrationCopyDone tk) s = .next t ∧
          (∀ x ∈ t.migs, x.ticket = tk → x.part = 4 ∧ x.fail = none) ∧
          (∀ f < 2048, frameReserved f = false → frameContent f = false → ∀ j < 256,
            t.rdB (aFrame b f j) = (frameMasked f (s.rdBytes (aFrame a f 0) 256)).getD j 0) ∧
          (∀ e < 64, t.fld F.XLATE0_HANDLE b e = s.fld F.XLATE0_HANDLE a e % 2 ^ F.XLATE0_HANDLE.w ∧
            t.fld F.XLATE0_VALID b e = s.fld F.XLATE0_VALID a e % 2) ∧
          (∀ n < 8, t.fld F.BAY_CLK_BIND_LINE b n = s.fld F.BAY_CLK_BIND_LINE a n % 2 ^ F.BAY_CLK_BIND_LINE.w)) ∧
      ((∃ f < 2048, frameReserved f = false ∧ frameContent f = false ∧ ∃ e ∈ frameErrs s a f, e.cls = 2 ∨ e.cls = 3) →
        ∃ t, exec (.migrationCopyDone tk) s = .next t ∧ ∀ x ∈ t.migs, x.ticket = tk → x.fail = some (rMIGFAIL, dFRAME))) ∧
    (∀ c s1 d off, m.part = 4 → m.fail = none → cmdOf s tk = some c → engWaits s initCfg (c.f 0x10 8) k.snapLen = false → engRead initCfg (c.f 0x10 8) k.snapLen s = (0, off, d, s1) →
      (snapCrcOk d = true → ∃ t, exec (.migrationRestoreDone tk) s = .next t ∧ (∀ x ∈ t.migs, x.ticket = tk → x.part = 5) ∧
        t.fld F.BAY_STATUS_OUT_HELD b = 0 ∧ t.fld F.BAY_STATUS_WE_HELD b = 0 ∧ t.fld F.BAY_STATUS_RST_HELD b = s.fld F.BAY_STATUS_RST_HELD b ∧
        ∀ n < 1024, t.ffs.get (b * 1024 + n) = fieldLE (slice d 64 recordLength) (0x80 + 2 * n) 2) ∧
      (snapCrcOk d = false → ∃ t, exec (.migrationRestoreDone tk) s = .next t ∧
        (∀ x ∈ t.migs, x.ticket = tk → x.fail = some (rMEMERR, 0xFF)) ∧ t = { s1 with migs := t.migs })) ∧
    (m.part = 6 → (∀ c, cmdOf s tk = some c → c.phase ≠ 3) →
      ∃ t, exec (.migrationEraseDone tk) s = .next t ∧ (∀ x ∈ t.migs, x.ticket ≠ tk) ∧
        (let v := if m.swapped then a else b
         ostate t v = oFREE ∧ mapOwner t v = 0 ∧ ∀ o < 2048 * 256, t.rdB (aFrame v 0 o) = 0) ∧
        (∀ c, cmdOf s tk = some c → (cmdOf t tk).map (fun y => (y.phase, y.res, y.detail)) =
          some (3, match m.fail with | some f => f | none => (rOK, 0))))) ∧
  (∀ (s : State), (cfgRuns s = false ∨ s.capts = [] → exec .captureStreamDone s = .next s) ∧
    (∀ x rest, cfgRuns s = true → (captureStopped s).capts = x :: rest →
      (x.wait ≠ [] ∨ engWaits (captureStopped s) initCfg x.dest x.bytes.length = true) →
      exec .captureStreamDone s = .next (captureStopped s)) ∧
    (∀ x rest s1, cfgRuns s = true → (captureStopped s).capts = x :: rest → x.wait = [] →
      engWaits (captureStopped s) initCfg x.dest x.bytes.length = false →
      engWrite initCfg x.dest x.bytes { captureStopped s with capts := rest } = (0, s1) →
      (∀ m ∈ s1.migs, m.ticket ≠ x.ticket) → ∃ t, exec .captureStreamDone s = .next t ∧ t.capts = s1.capts ∧
        (∀ b ∈ x.bays, t.fld F.BAY_SCRUB_CAPBUSY b = 0 ∧ t.fld F.BAY_BIST_CAPBUSY b = 0) ∧
        (∀ c, cmdOf s1 x.ticket = some c → c.phase ≠ 3 → (cmdOf t x.ticket).map (fun y => (y.phase, y.res)) = some (3, rOK)) ∧ MemSame s1 t))

/-- The scrubber reads a frame, repairs what it can, counts and acts; BAY_SCRUB acts on the whole skein (R336, R338,
R342, R345, R346, R347, R348). -/
def Obligations.ScrubForms : Prop :=
  ∀ (s : State),
    ((hdRuns s = false ∨ (s.scrub.passes = [] ∧ s.fld F.SCRUB_CTL_CONT ≠ 1)) → exec .scrubFrame s = .next s) ∧
    (∀ b f, hdRuns s = true → privBad s 0 = false → s.scrub.passes = [] → s.fld F.SCRUB_CTL_CONT = 1 →
      scrubSeek s s.scrub.bay s.scrub.frame = (b, f) → b < 768 → f < 1408 →
      let es := frameErrs s b f
      let count := fun (n : Nat) => (es.filter (fun e => e.cls == n)).length
      ∃ t, exec .scrubFrame s = .next t ∧ t.fld F.SCRUB_STATUS_BAY = b % 2 ^ F.SCRUB_STATUS_BAY.w ∧
        t.fld F.SCRUB_STATUS_FRAME = f % 2 ^ F.SCRUB_STATUS_FRAME.w ∧ t.scrub = { s.scrub with bay := b, frame := f + 1 } ∧
        (es = [] → t = { s with regs := t.regs, scrub := t.scrub } ∧
          FldSame s t [(F.SCRUB_STATUS_SELV, 0), (F.SCRUB_STATUS_BAY, 0), (F.SCRUB_STATUS_FRAME, 0)]) ∧
        (es ≠ [] → (∀ e ∈ es, e.cls ≤ 1) → (∀ j < 256, t.rdB (aFrame b f j) = (frameMasked f (frameFixed s b f)).getD j 0) ∧
          (∀ w < 33, t.fdiff.get (aFrameCheck b f w) = 0) ∧ MemSameBut s t (aFrame b f 0) 256) ∧
        ((∃ e ∈ es, e.cls = 3) → (∀ e ∈ es, e.cls ≠ 4) → MemSame s t ∧ t.fdiff = s.fdiff ∧ Raised s t 0x047) ∧
        (∀ n c, (n, c) ∈ [(0, F.SCRUB_CNT0_CE_BEN), (1, F.SCRUB_CNT0_CE_ESS), (2, F.SCRUB_CNT1_UE_BEN), (3, F.SCRUB_CNT1_UE_ESS),
          (4, F.SCRUB_CNT2_MAPERR)] → count n ≠ 0 → Counts s t c 0 0 (count n))) ∧
    (∀ b v, b < 768 → ∃ t, exec (.bayScrubWrite b v) s = .next t ∧
      (∀ x ∈ bayMates s b, t.fld F.BAY_SCRUB_UE_ACT x = bitsOf v 8 2 ∧ t.fld F.BAY_SCRUB_CE_IRQ x = bitsOf v 4 1 ∧
        t.fld F.BAY_SCRUB_UE x = (if bitOf v 1 then 0 else s.fld F.BAY_SCRUB_UE x) ∧
        t.fld F.BAY_SCRUB_CE x = (if bitOf v 0 then 0 else s.fld F.BAY_SCRUB_CE x)) ∧
      OnlyRegs s t ((bayMates s b).flatMap (fun x => [(F.BAY_SCRUB_UE_ACT, x), (F.BAY_SCRUB_CE_IRQ, x), (F.BAY_SCRUB_UE, x), (F.BAY_SCRUB_CE, x)])))

/-! ### Program intake -/

namespace Sys2Proof.Claims
open Sys2Proof Machine
/-- The intake of core `c` fails its entry with a result code: the completion waits to be written (R297). -/
def IntakeFails (s t : State) (c code : Nat) : Prop :=
  t.fld F.LP_STATUS_STATE c = 0 ∧ t.fld F.LP_STATUS_LAST_CODE c = code ∧
  (t.intake.get c).waiting = (s.intake.get c).waiting ++ [((t.intake.get c).tag, 0, code, (t.intake.get c).irq)]
end Sys2Proof.Claims

/-- The intake takes an entry, checks its package and writes completions (R296, R297, R298, R299, R300). -/
def Obligations.IntakeForms : Prop :=
  (∀ (s : State) (c : Nat),
    let n := lpqSize s c
    let hd := s.fld F.LPQ_HEAD_HEAD c % n
    let go := c < 8 ∧ intakeRuns s = true ∧ s.bit F.LPQ_CFG_EN c = true ∧ hd ≠ s.fld F.LPQ_TAIL_TAIL c % n ∧ s.fld F.LP_STATUS_STATE c = 0 ∧
      (s.intake.get c).waiting = [] ∧ engWaits s (initCc c) (s.fld F.LPQ_BASE_BASE c * 64 + 64 * hd) 64 = false
    let r := engRead (initCc c) (s.fld F.LPQ_BASE_BASE c * 64 + 64 * hd) 64 s
    (¬go → exec (.intakeTakeEntry c) s = .next s) ∧
    (go → ∃ t, exec (.intakeTakeEntry c) s = .next t ∧ t.fld F.LPQ_HEAD_HEAD c = (hd + 1) % n ∧ MemSame r.2.2.2 t ∧
      (r.1 = 0 → t.fld F.LP_STATUS_STATE c = 1 ∧ (t.intake.get c).pkg = fieldLE r.2.2.1 0 8 ∧ (t.intake.get c).tag = fieldLE r.2.2.1 8 8 ∧
        (t.intake.get c).irq = bitOf (fieldLE r.2.2.1 0x10 4) 0) ∧
      (r.1 ≠ 0 → IntakeFails s t c 8 ∧ (t.intake.get c).tag = (Config.freeValue r.2.2.2.freeCtr).toNat ∧ (t.intake.get c).irq = false))) ∧
  (∀ (s : State) (c : Nat),
    let a := (s.intake.get c).pkg
    let go := c < 8 ∧ intakeRuns s = true ∧ s.fld F.LP_STATUS_STATE c = 1
    let h := engRead (initCc c) a 64 s
    let hd := h.2.2.1
    let hc := pkgHeader h.2.2.2 c hd
    let b := engRead (initCc c) (a + 64) (recTotal hd - 64) h.2.2.2
    let body := b.2.2.1
    let bc := recBody (pkgCopy c hd body b.2.2.2) (hd ++ body)
    let fails := fun (code : Nat) => ∃ t, exec (.intakePackageChecked c) s = .next t ∧ IntakeFails s t c code
    (¬go → exec (.intakePackageChecked c) s = .next s) ∧
    (go → a % 64 ≠ 0 ∨ 2 ^ 52 ≤ a → fails 8) ∧
    let wait1 := engWaits s (initCc c) a 64
    let wait2 := engWaits h.2.2.2 (initCc c) (a + 64) (recTotal hd - 64)
    (go → a % 64 = 0 → a < 2 ^ 52 → (wait1 = true ∨ (h.1 = 0 ∧ hc = 0 ∧ wait2 = true)) → exec (.intakePackageChecked c) s = .next s) ∧
    (go → a % 64 = 0 → a < 2 ^ 52 → wait1 = false →
      (h.1 ≠ 0 → fails 8) ∧ (h.1 = 0 → hc ≠ 0 → fails hc) ∧ (h.1 = 0 → hc = 0 → wait2 = false → b.1 ≠ 0 → fails 8) ∧
      (h.1 = 0 → hc = 0 → wait2 = false → b.1 = 0 → bc ≠ 0 → fails bc) ∧
      (h.1 = 0 → hc = 0 → wait2 = false → b.1 = 0 → bc = 0 → ∃ t, exec (.intakePackageChecked c) s = .next t ∧ t.fld F.LP_STATUS_LAST_CODE c = 0 ∧
        (t.intake.get c).entry = limBase + (limArea s c).1 + recField hd 0x10 4 ∧
        (∀ j < recLim hd, j < body.length → t.rdB (aPriv c ((limArea s c).1 + j)) = body.getD j 0) ∧
        ((∀ rd, (s.vc.get c).wait ≠ .lnext rd) → t.fld F.LP_STATUS_STATE c = 2) ∧
        (∀ rd < 32, (s.vc.get c).wait = .lnext rd → t.fld F.LP_STATUS_STATE c = 3 ∧ t.vpc c = s.vpc c + 4 ∧ (t.vc.get c).wait = .none ∧
          (rd ≠ 0 → t.vget c rd = BitVec.ofNat 64 (t.intake.get c).entry))))) ∧
  (∀ (s : State) (c : Nat),
    let n := lcqSize s c
    let tl := s.fld F.LCQ_TAIL_TAIL c % n
    let go := c < 8 ∧ intakeRuns s = true ∧ (s.fld F.LCQ_TAIL_TAIL c + 1) % n ≠ s.fld F.LCQ_HEAD_HEAD c % n ∧
      engWaits s (initCc c) (s.fld F.LCQ_BASE_BASE c * 16 + 16 * tl) 16 = false
    let k := s.intake.get c
    let i := Instr.completionEntryWrite c
    let bytes := fun (tag st code : Nat) => bytesLE 8 tag ++ bytesLE 4 st ++ bytesLE 1 code ++ [0, 0, if k.odd then 0 else 1]
    let put := fun (u t : State) (tag st code : Nat) (irq : Bool) => t.fld F.LCQ_TAIL_TAIL c = (tl + 1) % n ∧
      (t.intake.get c).odd = (if tl + 1 = n then !k.odd else k.odd) ∧ (irq = true → Raised s t (3 + 4 * c)) ∧
      MemSame (engWrite (initCc c) (s.fld F.LCQ_BASE_BASE c * 16 + 16 * tl) (bytes tag st code) u).2 t
    (¬go → exec i s = .next s) ∧
    (go → ∀ tag st code irq rest, k.waiting = (tag, st, code, irq) :: rest → ∃ t, exec i s = .next t ∧
      put (s.updIntake c (fun k => { k with waiting := rest })) t tag st code irq ∧ (t.intake.get c).waiting = rest) ∧
    (go → k.waiting = [] → (∀ v, (s.vc.get c).wait ≠ .lexit v) → exec i s = .next s) ∧
    (go → k.waiting = [] → ∀ v, (s.vc.get c).wait = .lexit v → ∃ t, exec i s = .next t ∧ put s t k.tag v 0 k.irq ∧
      t.fld F.LP_STATUS_STATE c = 0 ∧ t.vpc c = s.vpc c + 4 ∧ (t.vc.get c).wait = .none))

/-! ### The on-chip network -/

namespace Sys2Proof.Claims
open Sys2Proof Machine
/-- The fields that the network's probes change (R426, R428). -/
def probeFs : List (Field × Nat) := [(F.PCOUNT_COUNT, 0), (F.PBYTES_COUNT, 0), (F.TRACE_DROP_COUNT, 0)]
/-- `t` differs from `s` in packets, in requests that wait for them, and in what the probes count and trace. -/
def OnlyNoc (s t : State) : Prop :=
  t = { s with regs := t.regs, reqs := t.reqs, hops := t.hops, tgen := t.tgen, nocRr := t.nocRr, traceQ := t.traceQ, noRouter := t.noRouter } ∧
  FldSame s t probeFs
end Sys2Proof.Claims

/-- Requests enter the network with a free tag, outputs grant the head of highest rank, routes change (R402, R405,
R412, R415, R416, R424, R28). -/
def Obligations.NocTransportForms : Prop :=
  (∀ (s : State) (init k tag : Nat),
    let l := s.reqs.zipIdx.filter (fun e => e.1.pkt.init == init && e.1.phase == 0)
    (l[k]? = none ∨ nocRuns s = false ∨ (∃ e ∈ s.reqs, e.pkt.init = init ∧ e.phase ≠ 0 ∧ e.pkt.tag = tag) →
      exec (.nocRequestIssue init k tag) s = .next s) ∧
    (∀ q i, l[k]? = some (q, i) →
      (mayIssue s (s.reqs.take i) q tag = false → exec (.nocRequestIssue init k tag) s = .next s) ∧
      (nocRuns s = true → mayIssue s (s.reqs.take i) q tag = true →
        let g := s.tgen.get (init * 256 + tag)
        let p : Packet := { q.pkt with tag := tag, tgen := g == 1 }
        let r := initRouter init
        let lost := p.opc < 8 ∧ p.dev = s.fld F.DEV_ID ∧ targetOf p.addr = .unmapped
        ∃ t, exec (.nocRequestIssue init k tag) s = .next t ∧ OnlyNoc s t ∧ t.nocRr = s.nocRr ∧ t.noRouter = s.noRouter ∧
          t.reqs = s.reqs.set i { q with pkt := p, phase := 1, toExp := timerExp s init } ∧
          t.tgen.get (init * 256 + tag) = 1 - g ∧ (∀ j, j ≠ init * 256 + tag → t.tgen.get j = s.tgen.get j) ∧
          (∀ d, ¬lost → packetRouter s p = some d →
            t.hops = s.hops ++ [{ pkt := p, at_ := r, src := r, dst := d, inp := 1024 + initPort init }]) ∧
          (lost → p.srcdev = s.fld F.DEV_ID →
            t.hops = s.hops ++ [{ pkt := responseTo p eUNMAPPED [] 0, at_ := r, src := r, dst := r, inp := 1024 + 16 }])))) ∧
  (∀ (s : State) (r out : Nat) (aged : List Nat),
    ((grantHead s r out aged = none ∨ nocRuns s = false) → exec (.nocRouterForward r out aged) s = .next s) ∧
    (∀ h, grantHead s r out aged = some h → nocRuns s = true →
      (h ∈ s.hops ∧ h.at_ = r ∧ h.arrived = false ∧ hopOut s h = out ∧ canLeave s h out = true) ∧
      (∀ x ∈ hopHeads s r, hopOut s x = out → canLeave s x out = true → headRank r aged x ≤ headRank r aged h) ∧
      (out < 1024 → s.noRouter.contains out = false → ∃ v, exec (.nocRouterForward r out aged) s = .next (warpDrain r v) ∧ OnlyNoc s v ∧
        v.reqs = s.reqs ∧ v.hops = s.hops.erase h ++ [{ h with at_ := out, inp := h.at_ }]) ∧
      (1024 ≤ out → packetDev h.pkt = s.fld F.DEV_ID → (h.pkt.opc < 8 → packetOk h.pkt = true ∧ targetOf h.pkt.addr ≠ .csr) →
        ∃ v, exec (.nocRouterForward r out aged) s = .next (warpDrain r v) ∧ OnlyNoc s v ∧ v.reqs = s.reqs ∧
          v.hops = s.hops.erase h ++ [{ h with arrived := true }]))) ∧
  (∀ (s : State) (r : Nat), (∀ p < 12, (s.warp.get p).rx = []) → warpDrain r s = s) ∧
  (∀ (s : State) (r : Nat), r < 96 →
    (s.noRouter.contains r = rtrOut s r → exec (.routeChange r) s = .next s) ∧
    (s.noRouter.contains r = !rtrOut s r →
      (∀ h ∈ s.hops, h.moving = true → h.at_ ≠ r ∧ routeMoves s.noRouter (toggleOut s r) h.src h.dst = false) →
      ∃ t, exec (.routeChange r) s = .next t ∧ t = { s with noRouter := t.noRouter } ∧
        ∀ x, x ∈ t.noRouter ↔ (if x = r then r ∉ s.noRouter else x ∈ s.noRouter)))

/-- Responses, timeouts and tag holds of the network; the trace writer (R421, R422, R424, R428). -/
def Obligations.NocAnswerForms : Prop :=
  (∀ (s : State) (init : Nat) (h : Hop), s.hops.find? (fun h => h.arrived && 8 ≤ h.pkt.opc && h.pkt.init == init) = some h →
    let late := fun (q : List Req) => ∃ t, exec (.nocResponseArrival init) s = .next t ∧ Counts s t F.NOC_LATE_COUNT 0 0 1 ∧
      t = { s with regs := t.regs, hops := s.hops.erase h, reqs := q } ∧ FldSame s t [(F.NOC_LATE_COUNT, 0)]
    (s.reqs.find? (answers h.pkt) = none → late s.reqs) ∧
    (∀ q, s.reqs.find? (answers h.pkt) = some q →
      (q.phase ≠ 1 → late (s.reqs.erase q)) ∧
      (∀ b id, q.phase = 1 → h.pkt.pmask = 0 → q.why = .bay b id → exec (.nocResponseArrival init) s =
        .next { s with hops := s.hops.erase h, reqs := s.reqs.erase q,
                       bayq := s.bayq.set b (s.bayq.get b ++ [{ id := id, st := h.pkt.status, pm := 0, data := h.pkt.data }]) }) ∧
      (q.phase = 1 → h.pkt.pmask = 0 → q.why = .dropped →
        let u := { s with hops := s.hops.erase h, reqs := s.reqs.erase q }
        exec (.nocResponseArrival init) s = .next (if 0x300 ≤ q.pkt.init ∧ q.pkt.init < 0x308 then vdrained (q.pkt.init - 0x300) u
          else if 0x310 ≤ q.pkt.init ∧ q.pkt.init < 0x370 then scDrained (q.pkt.init - 0x310) u else u)) ∧
      (q.phase = 1 → h.pkt.pmask = 0 → q.why = .trace →
        let n := traceSize s
        ∃ t, exec (.nocResponseArrival init) s = .next t ∧
          t.fld F.TRACE_WP_WP = (if s.fld F.TRACE_WP_WP % n = q.pkt.addr % n then (q.pkt.addr + 64) % n % 2 ^ F.TRACE_WP_WP.w
            else s.fld F.TRACE_WP_WP) ∧
          (h.pkt.status = 0 → FldSame s t [(F.TRACE_WP_WP, 0)]) ∧ (h.pkt.status ≠ 0 → Counts s t F.TRACE_DROP_COUNT 0 0 2) ∧
          t = { s with regs := t.regs, hops := s.hops.erase h, reqs := s.reqs.erase q }))) ∧
  (∀ (s : State) (init : Nat), (∀ h ∈ s.hops, h.arrived = true → 8 ≤ h.pkt.opc → h.pkt.init ≠ init) →
    exec (.nocResponseArrival init) s = .next s) ∧
  (∀ (s : State) (init tag : Nat),
    (reqOf s init tag 1 = none → exec (.nocTimeout init tag) s = .next s) ∧
    (∀ q, reqOf s init tag 1 = some q →
      ((q.toExp = 0 ∨ nocRuns s = false ∨ answered s q = true) → exec (.nocTimeout init tag) s = .next s) ∧
      (∀ b id, q.toExp ≠ 0 → nocRuns s = true → answered s q = false → q.why = .bay b id → ∃ t, exec (.nocTimeout init tag) s = .next t ∧
        t.reqs = s.reqs.map (fun e => if e = q then { q with phase := 2 } else e) ∧
        t.bayq.get b = s.bayq.get b ++ [{ id := id, st := eTIMEOUT, pm := 0, data := [] }] ∧ Counts s t F.NOC_TOLOG_COUNT 0 0 1 ∧
        Raised s t 0x043 ∧ (s.bit F.NOC_TOLOG_VALID = false → t.fld F.NOC_TOLOG_VALID = 1 ∧
          t.fld F.NOC_TOLOG_INIT = init % 2 ^ F.NOC_TOLOG_INIT.w ∧ t.fld F.NOC_TOLOG_TAG = tag % 2 ^ F.NOC_TOLOG_TAG.w ∧
          t.fld F.NOC_TOADDR_ADDR = q.pkt.addr % 2 ^ F.NOC_TOADDR_ADDR.w) ∧
        (s.bit F.NOC_TOLOG_VALID = true → t.fld F.NOC_TOLOG_INIT = s.fld F.NOC_TOLOG_INIT) ∧ MemSame s t)) ∧
    ((reqOf s init tag 2 = none ∨ nocRuns s = false) → exec (.tagHoldExpiry init tag) s = .next s) ∧
    (∀ q, reqOf s init tag 2 = some q → nocRuns s = true → exec (.tagHoldExpiry init tag) s = .next { s with reqs := s.reqs.erase q })) ∧
  (∀ (s : State),
    ((s.traceQ.length < 2 ∨ nocRuns s = false ∨ traceOut s = true) → exec .traceWrite s = .next s) ∧
    (∀ a b q, s.traceQ = a :: b :: q → nocRuns s = true → traceOut s = false →
      let n := traceSize s
      let wp := s.fld F.TRACE_WP_WP % n
      let full := s.bit F.TRACE_CFG_STOP && (wp + 64) % n == s.fld F.TRACE_RP_RP % n
      (full = true → ∃ t, exec .traceWrite s = .next t ∧ t.traceQ = q ∧ Counts s t F.TRACE_DROP_COUNT 0 0 2 ∧ t.reqs = s.reqs ∧
        FldSame s t [(F.TRACE_DROP_COUNT, 0)]) ∧
      (full = false → ∃ r, exec .traceWrite s = .next { s with traceQ := q, reqs := s.reqs ++ [r] } ∧ r.why = .trace ∧
        r.pkt.opc = opWRITE ∧ r.pkt.addr = s.fld F.TRACE_BASE_BASE * 64 / n * n + wp ∧ r.pkt.len = 63 ∧ r.pkt.data = a ++ b)))

/-! ### Memory ports -/

/-- A memory port accepts requests, schedules commands, returns reads, and keeps its refresh, throttle, patrol and
error state (R444, R445, R446, R447, R449, R450, R451, R452, R454, R465, R468, R475). -/
def Obligations.MemPortServiceForms : Prop :=
  (∀ (s : State) (n k : Nat) (p : Packet) (v : Served), (s.mp.get n).ready = [] →
    (mpEarlier (s.mp.get n) k p = false → ∃ (u : State), mpAnswer n k p v s = u.respond p v.st v.data v.pm ∧ u = { s with mp := u.mp } ∧
      ∀ j, u.mp.get j = s.mp.get j) ∧
    (mpEarlier (s.mp.get n) k p = true → ∃ (u : State), mpAnswer n k p v s = u ∧ u = { s with mp := u.mp } ∧
      (u.mp.get n).ready = [{ seq := k, pkt := p, st := v.st, data := v.data, pm := v.pm }])) ∧
  (∀ (s : State) (n : Nat), ((16 ≤ n ∨ s.takeArrived (.dram n) = none) → exec (.mpRequestAccept n) s = .next s) ∧
    (∀ p s0, n < 16 → s.takeArrived (.dram n) = some (p, s0) →
      let m := s.mp.get n
      let s1 := mpServing n p.init p.srcdev (s0.updMp n (fun m => { m with seq := m.seq + 1 }))
      let off := p.addr % 2 ^ 41
      let o := off % 64
      let blk := off / 64
      let held := m.wq.find? (fun e => e.blk == blk)
      (memRuns s = false → mpCheck s n p = 0 → exec (.mpRequestAccept n) s = .next s) ∧
      (mpCheck s n p ≠ 0 → exec (.mpRequestAccept n) s = .next (mpAnswer n m.seq p { st := mpCheck s n p } s1)) ∧
      (memRuns s = true →
        (∀ r, pipeDecide s n p = .region r →
          exec (.mpRequestAccept n) s = .next (s1.updMp n (fun q => { q with pipe := q.pipe ++
            [{ seq := m.seq, act := s.fld F.MPR_CTL_ALARM_ACT 0 r, pkt := p }] }))) ∧
        (∀ c, pipeDecide s n p = .err c → exec (.mpRequestAccept n) s = .next (mpAnswer n m.seq p { st := c } s1)) ∧
        (∀ cause reg, pipeDecide s n p = .conflict cause reg →
          exec (.mpRequestAccept n) s = .next (mpAnswer n m.seq p { st := eKEYCONFLICT } (alarm reg cause p.init p.srcdev p.addr s1))) ∧
        (∀ r, pipeDecide s n p = .blocked r → ∃ (u : State), exec (.mpRequestAccept n) s = .next (mpAnswer n m.seq p { st := eBLOCKED } u) ∧
          u = { s1 with regs := u.regs } ∧ Counts s u F.MPE_BLOCK_CNT_COUNT 0 0 1) ∧
        (pipeDecide s n p = .plain → p.opc = opREAD → (64 ≤ m.rq.length → exec (.mpRequestAccept n) s = .next s) ∧
          (m.rq.length < 64 → o + p.len < 64 → remapOf s n blk = none →
            (∀ e, held = some e → e.psn = false → e.mask &&& maskOf o (p.len + 1) = maskOf o (p.len + 1) →
              exec (.mpRequestAccept n) s = .next (mpAnswer n m.seq p { data := (e.data.drop o).take (p.len + 1) } s1)) ∧
            (held = none → ∃ t r, exec (.mpRequestAccept n) s = .next t ∧ t = { s1 with mp := t.mp, freeCtr := t.freeCtr } ∧
              (t.mp.get n).rq = m.rq ++ [r] ∧ r.pkt = p ∧ r.seq = m.seq ∧ r.kind = 0 ∧ r.issued = false ∧ r.snaps.map (·.blk) = [blk] ∧
              (s.dramDef.get (blkKey n blk) = true → s.dramErr.get (blkKey n blk) = 0 →
                r.snaps = [{ blk := blk, data := s.rdBytes (aDram n (64 * blk)) 64, cls := 0, dev := 0, psn := false }])))) ∧
        (pipeDecide s n p = .plain → p.opc ≠ opREAD → (64 ≤ m.wq.length ∨ 64 < m.wq.length + mpNeeds s n p) →
          exec (.mpRequestAccept n) s = .next s) ∧
        (pipeDecide s n p = .plain → m.wq.length < 64 → m.wq.length + mpNeeds s n p ≤ 64 → remapOf s n blk = none → o + p.len < 64 →
          (p.opc = opWRITE ∨ (p.opc = opMWRITE ∧ o = 0 ∧ p.len = 63 ∧ p.mask % 2 ^ 64 ≠ 0)) →
            let inMask := fun j => if p.opc = opMWRITE then bitOf p.mask j else decide (o ≤ j ∧ j ≤ o + p.len)
            let old := held.getD { blk := blk, data := [], mask := 0 }
            ∃ (u : State) (e : WEntry), exec (.mpRequestAccept n) s = .next (mpAnswer n m.seq p {} u) ∧ u = { s1 with mp := u.mp } ∧
              (u.mp.get n).wq.find? (fun x => x.blk == blk) = some e ∧
              (∀ j < 64, bitOf e.mask j = (bitOf old.mask j || inMask j) ∧
                e.data.getD j 0 = (if inMask j then p.data.getD (j - o) 0 else old.data.getD j 0)) ∧
              (bitOf p.pmask 0 = true → e.psn = true) ∧ (bitOf p.pmask 0 = false → old.psn = false → e.psn = false) ∧
              (u.mp.get n).wq.filter (fun x => x.blk != blk) = m.wq.filter (fun x => x.blk != blk)) ∧
        (∀ e, pipeDecide s n p = .plain → p.opc = opATOMIC → m.wq.length < 64 → remapOf s n blk = none → o ≤ 56 →
          held = some e → e.mask = fullMask → e.psn = false →
            let old := (e.data.drop o).take 8
            ∃ (u : State) (x : WEntry), exec (.mpRequestAccept n) s = .next (mpAnswer n m.seq p { data := old } u) ∧ u = { s1 with mp := u.mp } ∧
              (u.mp.get n).wq.find? (fun x => x.blk == blk) = some x ∧ x.mask = fullMask ∧ x.psn = false ∧
              ∀ j < 64, x.data.getD j 0 =
                (if o ≤ j ∧ j < o + 8 then (bytesLE 8 (atomicStore p (ofBytesLE old)).toNat).getD (j - o) 0 else e.data.getD j 0))))) ∧
  (∀ (s : State) (n : Nat) (aged gap : Bool),
    ((16 ≤ n ∨ memRuns s = false ∨ (s.fld F.MP_STATUS_STATE n ≠ 2 ∧ s.fld F.MP_STATUS_STATE n ≠ 5)) →
      exec (.mpCommandSlot n aged gap) s = .next s) ∧
    (n < 16 → memRuns s = true → (s.fld F.MP_STATUS_STATE n = 2 ∨ s.fld F.MP_STATUS_STATE n = 5) →
      let m := s.mp.get n
      let drain := if s.fld F.MP_SCHED_WQ_HI n ≤ m.wq.length then true else if m.wq.length ≤ s.fld F.MP_SCHED_WQ_LO n then false else m.drain
      let rank := (List.range (mpRanks s n)).find? (fun r => (List.range 4).any (fun b => refLimit s n ≤ m.debt.get (r * 4 + b)))
      let rfm := m.raa.keys.find? (fun b => Config.raammt n + 1 ≤ m.raa.get b)
      let el := m.rq.filter (readEligible m gap)
      let cmd := fun (kind bank row col : Nat) => let q := rankParts s n (bank / 32)
        Out.dram n kind q.1 q.2.1 q.2.2 (bank % 32) row col
      let hit := fun (q : MRead) => (readBlks q).all (rowHit s n) && q.kind != 1
      let issues := fun (t : State) (r : MRead) => exec (.mpCommandSlot n aged gap) s = .next t ∧ MemSame s t ∧
        (t.mp.get n).rq = m.rq.map (fun q => if q = r then { q with issued := true } else q) ∧ (t.mp.get n).wq = m.wq ∧
        ∀ b ∈ readBlks r, cmd 5 (blkBank s n b) (blkRow s n b) (b / 16 % 128) ∈ t.out
      (∀ r, rank = some r → ∃ t, exec (.mpCommandSlot n aged gap) s = .next t ∧ t = { s with mp := t.mp, out := s.out ++ [cmd 1 (r * 32) 0 0] } ∧
        (∀ k, (t.mp.get n).debt.get k = if k / 4 = r then m.debt.get k - 1 else m.debt.get k) ∧ ∀ j, j ≠ n → t.mp.get j = s.mp.get j) ∧
      (rank = none → ∀ b, rfm = some b → ∃ t, exec (.mpCommandSlot n aged gap) s = .next t ∧
        t = { s with mp := t.mp, out := s.out ++ [cmd 2 b 0 0] } ∧
        ∀ k, (t.mp.get n).raa.get k = if k / 32 = b / 32 ∧ k % 4 = b % 4 then m.raa.get k - Config.raaimt n else m.raa.get k) ∧
      (rank = none → rfm = none →
        (∀ r, aged = true → el.head? = some r → ∃ t, issues t r) ∧
        (aged = false → drain = false → el ≠ [] → ∃ t r, r ∈ el ∧ issues t r ∧
          (∀ q ∈ el, hit q = true → hit r = true ∧ readRank q ≤ readRank r) ∧
          ((∀ q ∈ el, hit q = false) → ∀ q ∈ el, readRank q ≤ readRank r)) ∧
        ((aged = false ∧ drain = true) ∨ el = [] →
          (∀ e, releasing s n = some e → (∀ j < 64, s.ecc.get (aRemap n e j) = 0) → ∃ t, exec (.mpCommandSlot n aged gap) s = .next t ∧
            t.fld F.MP_REMAP_VALID n e = 0 ∧ t.fld F.MP_REMAP_BUSY n e = 0 ∧ (t.mp.get n).wq = m.wq ∧
            ∀ j < 64, t.rdB (aDram n (64 * s.fld F.MP_REMAP_ADDR n e + j)) = s.rdB (aRemap n e j)) ∧
          (∀ e, releasing s n = none → m.wq = [e] → e.data.length = 64 →
            (e.mask = fullMask ∨ (s.dramDef.get (blkKey n e.blk) = true ∧ s.dramErr.get (blkKey n e.blk) = 0)) →
            ∃ t, exec (.mpCommandSlot n aged gap) s = .next t ∧ (t.mp.get n).wq = [] ∧
              (∀ j < 64, t.rdB (aDram n (64 * e.blk + j)) = if bitOf e.mask j then e.data.getD j 0 else s.rdB (aDram n (64 * e.blk + j))) ∧
              t.dramDef.get (blkKey n e.blk) = true ∧ t.dramErr.get (blkKey n e.blk) = (if e.psn then markerPattern else 0) ∧
              MemSameBut s t (aDram n (64 * e.blk)) 64)) ∧
        (el = [] → releasing s n = none → m.wq = [] →
          (∀ r b, sbRefresh s n = some (r, b) → ∃ t, exec (.mpCommandSlot n aged gap) s = .next t ∧
            t = { s with mp := t.mp, out := s.out ++ [cmd 0 (r * 32 + b) 0 0] } ∧
            ∀ k, (t.mp.get n).debt.get k = if k = r * 4 + b then m.debt.get k - 1 else m.debt.get k) ∧
          (sbRefresh s n = none → exec (.mpCommandSlot n aged gap) s = .next (s.updMp n (fun q => { q with drain := drain }))))))) ∧
  (∀ (s : State) (n : Nat),
    let found := (s.mp.get n).rq.find? (fun r => r.issued && r.kind != 2)
    ((16 ≤ n ∨ memRuns s = false ∨ found = none) → exec (.mpReadReturn n) s = .next s) ∧
    (∀ r g, n < 16 → memRuns s = true → found = some r → r.snaps = [g] → r.pkt.addr % 64 + r.pkt.len < 64 →
      let s1 := s.updMp n (fun m => { m with rq := m.rq.erase r })
      let done := fun (u : State) (pm : Nat) => if r.kind = 1 then exec (.mpReadReturn n) s = .next u
        else ∃ d, exec (.mpReadReturn n) s = .next (mpAnswer n r.seq r.pkt { data := d, pm := pm } u) ∧
          (pm = 0 → d = (g.data.drop (r.pkt.addr % 64)).take (r.pkt.len + 1))
      ((g.cls = 0 ∨ g.cls = 4) → g.psn = false → done s1 0) ∧
      (g.cls = 1 → g.psn = false → g.dev < 20 → g.blk < 2 ^ F.MP_CELOG_ADDR.w → ∃ (u : State), done u 0 ∧ Counts s u F.MP_CE_CNT_COUNT n 0 1 ∧
        bitOf (u.fld F.MP_DEVMAP_DEV n) g.dev = true ∧ (u.mp.get n).rq = (s1.mp.get n).rq ∧
        let lists := fun (t : State) (e : Nat) => t.bit F.MP_CELOG_VALID n e = true ∧ t.fld F.MP_CELOG_ADDR n e = g.blk
        ((∃ e < 16, lists s e ∨ s.bit F.MP_CELOG_VALID n e = false) → ∃ e < 16, lists u e) ∧
        ((∀ e < 16, ¬lists s e ∧ s.bit F.MP_CELOG_VALID n e = true) →
          if max 1 (s.fld F.MP_ECC_LB_LIMIT n) ≤ s.fld F.MP_LB_COUNT n + 1 then u.fld F.MP_LB_COUNT n = 0 ∧ u.fld F.MP_LB_OVF n = 1
          else u.fld F.MP_LB_COUNT n = (s.fld F.MP_LB_COUNT n + 1) % 2 ^ F.MP_LB_COUNT.w)) ∧
      (g.cls = 2 → g.psn = true → ∃ (u : State), done u 1 ∧ Counts s u F.MP_UE_CNT_COUNT n 0 1 ∧ Raised s u (0x150 + n) ∧
        (s.bit F.MP_UE_LOG_VALID n = false → u.fld F.MP_UE_LOG_VALID n = 1 ∧ u.fld F.MP_UE_LOG_ADDR n = g.blk % 2 ^ F.MP_UE_LOG_ADDR.w ∧
          u.fld F.MP_UE_LOG_PATROL n = ofBool (r.kind == 1))) ∧
      (g.cls = 3 → g.psn = true → ∃ (u : State), done u 1 ∧ Counts s u F.MP_PSN_CNT_COUNT n 0 1 ∧ FldSame s u [(F.MP_PSN_CNT_COUNT, n)]))) ∧
  (∀ (s : State) (n : Nat),
    let serving := n < 16 ∧ memRuns s = true ∧ (s.fld F.MP_STATUS_STATE n = 2 ∨ s.fld F.MP_STATUS_STATE n = 5)
    (¬serving → exec (.mpRefreshTick n) s = .next s ∧ ∀ hi t0 t1, exec (.mpMr4Poll n hi t0 t1) s = .next s) ∧
    (serving → (∃ t, exec (.mpRefreshTick n) s = .next t ∧ t = { s with mp := t.mp } ∧
        ∀ k, (t.mp.get n).debt.get k = (s.mp.get n).debt.get k + (if k < 4 * mpRanks s n then 1 else 0)) ∧
      ∀ hi t0 t1, ∃ t, exec (.mpMr4Poll n hi t0 t1) s = .next t ∧ t.fld F.MP_TEMP_HIREF n = ofBool hi ∧
        t.fld F.MP_TEMP_TEMP0 n = t0 % 2 ^ F.MP_TEMP_TEMP0.w ∧ t.fld F.MP_TEMP_TEMP1 n = t1 % 2 ^ F.MP_TEMP_TEMP1.w ∧
        OnlyRegs s t [(F.MP_TEMP_HIREF, n), (F.MP_TEMP_TEMP0, n), (F.MP_TEMP_TEMP1, n)]) ∧
    (∀ init src, if n < 16 then exec (.mpThrottleEnd n init src) s = .next (s.updMp n (fun m => { m with thr := m.thr.filter (· != (init, src)) }))
      else exec (.mpThrottleEnd n init src) s = .next s) ∧
    (16 ≤ n → exec (.mpLbLeak n) s = .next s) ∧
    (n < 16 → ∃ t, exec (.mpLbLeak n) s = .next t ∧ t.fld F.MP_LB_COUNT n = (s.fld F.MP_LB_COUNT n - 1) % 2 ^ F.MP_LB_COUNT.w ∧
      OnlyRegs s t [(F.MP_LB_COUNT, n)]) ∧
    ((16 ≤ n ∨ memRuns s = false ∨ s.fld F.MP_ECC_PATROL_INT n = 0 ∨ s.fld F.MP_STATUS_STATE n ≠ 2 ∨ 64 ≤ (s.mp.get n).rq.length) →
      exec (.mpPatrolRead n) s = .next s) ∧
    (n < 16 → memRuns s = true → s.fld F.MP_ECC_PATROL_INT n ≠ 0 → s.fld F.MP_STATUS_STATE n = 2 → (s.mp.get n).rq.length < 64 →
      let pos := s.fld F.MP_PATROL_POS n
      remapOf s n (2 * pos) = none → remapOf s n (2 * pos + 1) = none →
      ∃ t r, exec (.mpPatrolRead n) s = .next t ∧ (t.mp.get n).rq = (s.mp.get n).rq ++ [r] ∧ r.kind = 1 ∧ r.issued = false ∧
        r.snaps.map (·.blk) = [2 * pos, 2 * pos + 1] ∧
        t.fld F.MP_PATROL_POS n = (pos + 1) % max 1 (2 ^ s.fld F.MP_GEOM_CAP_LOG2 n / 128) % 2 ^ F.MP_PATROL_POS.w ∧
        t = { s with regs := t.regs, mp := t.mp, freeCtr := t.freeCtr } ∧ FldSame s t [(F.MP_PATROL_POS, n)]))

/-- Training, self-refresh and the remap table of a memory port (R436, R437, R438, R442, R459, R460, R470, R471, R472,
R512). -/
def Obligations.MemPortStateForms : Prop :=
  (∀ (s : State) (n : Nat), n < 16 →
    let st := s.fld F.MP_STATUS_STATE n
    let enters := fun (t : State) (x : Nat) => t.fld F.MP_STATUS_STATE n = x ∧ (st ≠ x → Raised s t (0x120 + n)) ∧ MemSame s t
    let geo := fun (t : State) (geom : Nat) => let l := bitsOf geom 12 1 + bitsOf geom 16 1 + bitsOf geom 20 2
      t.fld F.MP_GEOM_L n = l % 2 ^ F.MP_GEOM_L.w ∧ t.fld F.MP_GEOM_CAP_LOG2 n = (35 + l + bitsOf geom 24 2) % 2 ^ F.MP_GEOM_CAP_LOG2.w
    let ranks := fun (kind : Nat) => (List.range (mpRanks s n)).map (fun r => let q := rankParts s n r
      Out.dram n kind q.1 q.2.1 q.2.2 0 0 0)
    let lost := fun (t : State) => st ≠ 4 → ∀ r < 32, rgValid s r = true → s.fld F.MPR_CTL_PORT 0 r = n → t.fld F.MPR_CTL_STATE 0 r = 5
    (∀ z, ∃ t, exec (.mpTrain n z) s = .next t ∧ t.fld F.MP_CTL_ZFILL n = ofBool z ∧
      (st ≠ 0 → st ≠ 4 → OnlyRegs s t [(F.MP_CTL_ZFILL, n)]) ∧
      ((st = 0 ∨ st = 4) → s.fld F.DOM_STATUS_STATE 0 4 ≠ 0 → enters t 4 ∧ lost t ∧ t.fld F.MP_STATUS_FAILSTEP n = 1 ∧
        t.fld F.MP_STATUS_FAILCODE n = 7) ∧
      ((st = 0 ∨ st = 4) → s.fld F.DOM_STATUS_STATE 0 4 = 0 → enters t 1 ∧ t.fld F.MP_STATUS_STEP n = 1 ∧ t.fld F.MP_STATUS_FAILSTEP n = 0 ∧
        t.fld F.MP_STATUS_FAILCODE n = 0 ∧ (t.mp.get n).zfill = z)) ∧
    (∀ code geom,
      let step := s.fld F.MP_STATUS_STEP n
      ((st ≠ 1 ∨ memRuns s = false) → exec (.mpTrainingStepDone n code geom) s = .next s) ∧
      (st = 1 → memRuns s = true → ∃ t, exec (.mpTrainingStepDone n code geom) s = .next t ∧
        (code = 1 → step = 1 → enters t 0 ∧ t.fld F.MP_GEOM_CAP_LOG2 n = 0 ∧ t.fld F.MP_STATUS_FAILCODE n = 1 ∧ t.fld F.MP_STATUS_STEP n = 0) ∧
        (code ≠ 0 → (code ≠ 1 ∨ step ≠ 1) → enters t 4 ∧ lost t ∧ t.fld F.MP_STATUS_FAILSTEP n = step % 2 ^ F.MP_STATUS_FAILSTEP.w ∧
          t.fld F.MP_STATUS_FAILCODE n = code % 2 ^ F.MP_STATUS_FAILCODE.w ∧ t.fld F.MP_STATUS_STEP n = 0 ∧
          (step = 1 → 2 ≤ code → code ≤ 4 → geo t geom)) ∧
        (code = 0 → step ≠ 9 → (step = 8 → (s.mp.get n).zfill = true) →
          t.fld F.MP_STATUS_STATE n = 1 ∧ t.fld F.MP_STATUS_STEP n = (step + 1) % 2 ^ F.MP_STATUS_STEP.w ∧
          (step = 1 → geo t geom) ∧
          OnlyRegs s t ([F.MP_STATUS_STEP, F.MP_GEOM_DIMMS, F.MP_GEOM_PRANKS, F.MP_GEOM_STACK, F.MP_GEOM_DENSITY, F.MP_GEOM_DRFM, F.MP_GEOM_L,
            F.MP_GEOM_CAP_LOG2].map (fun f => (f, n)))) ∧
        (code = 0 → (step = 9 ∨ (step = 8 ∧ (s.mp.get n).zfill = false)) →
          t.fld F.MP_STATUS_STATE n = 2 ∧ Raised s t (0x120 + n) ∧ t.fld F.MP_STATUS_STEP n = 0 ∧ t.fld F.MP_PATROL_POS n = 0 ∧
          (t.mp.get n).wq = [] ∧ (∀ r ∈ (t.mp.get n).rq, r.kind = 2) ∧
          ((∀ r ∈ (s.mp.get n).rq, r.kind ≠ 2) → (t.mp.get n).rq = []) ∧ (t.mp.get n).zeroed = (s.mp.get n).zfill ∧
          (∀ blk < 2 ^ 35, t.dramDef.get (blkKey n blk) = false ∧ t.dramErr.get (blkKey n blk) = 0) ∧
          (∀ o < 2 ^ 41, t.rdB (aDram n o) = 0) ∧ MemSameBut s t (aDram n 0) (2 ^ 41)))) ∧
    (st ≠ 2 → exec (.mpSrEnter n) s = .next s) ∧
    (st = 2 → ∃ t, exec (.mpSrEnter n) s = .next t ∧ enters t 5 ∧ (t.mp.get n).flushed = false ∧ (t.mp.get n).wq = (s.mp.get n).wq) ∧
    ((memRuns s = false ∨ st ≠ 5 ∨ (s.mp.get n).flushed = false) → exec (.mpDrainDone n) s = .next s) ∧
    (memRuns s = true → st = 5 → (s.mp.get n).flushed = true → ∃ t, exec (.mpDrainDone n) s = .next t ∧
      t.fld F.MP_STATUS_STATE n = 3 ∧ Raised s t (0x120 + n) ∧ (t.mp.get n).wq = [] ∧ (∀ r ∈ (t.mp.get n).rq, r.kind = 2) ∧
      (∀ x ∈ ranks 8, x ∈ t.out) ∧
      ((s.mp.get n).rq = [] → (s.mp.get n).wq = [] → t.out = s.out ++ ranks 8 ∧ MemSame s t) ∧
      (∀ e, (s.mp.get n).rq = [] → (s.mp.get n).wq = [e] → e.mask = fullMask → e.data.length = 64 →
        ∀ j < 64, t.rdB (aDram n (64 * e.blk + j)) = e.data.getD j 0)) ∧
    ((st ≠ 3 ∨ rateKept s n = false ∨ (s.mp.get n).exiting = true) → exec (.mpSrExit n) s = .next s) ∧
    (st = 3 → rateKept s n = true → (s.mp.get n).exiting = false →
      exec (.mpSrExit n) s = .next (({ s with out := s.out ++ ranks 9 }).updMp n (fun m => { m with exiting := true }))) ∧
    ((memRuns s = false ∨ st ≠ 3 ∨ (s.mp.get n).exiting = false) → exec (.mpSrExitDone n) s = .next s) ∧
    (memRuns s = true → st = 3 → (s.mp.get n).exiting = true → ∃ t, exec (.mpSrExitDone n) s = .next t ∧ enters t 2 ∧
      (t.mp.get n).exiting = false ∧ ∀ k, (t.mp.get n).debt.get k = 0)) ∧
  (∀ (s : State) (n e : Nat), n < 16 → e < 8 →
    let blk := s.fld F.MP_REMAP_ADDR n e
    let v := s.bit F.MP_REMAP_VALID n e
    let y := s.bit F.MP_REMAP_BUSY n e
    let mayInstall := v = false ∧ y = false ∧ s.fld F.MP_GEOM_CAP_LOG2 n ≠ 0 ∧ 64 * blk < 2 ^ s.fld F.MP_GEOM_CAP_LOG2 n ∧ remapOf s n blk = none
    (¬mayInstall → exec (.mpRemapInstall n e) s = .next s) ∧
    (mayInstall → ∃ t, exec (.mpRemapInstall n e) s = .next t ∧ t.fld F.MP_REMAP_BUSY n e = 1 ∧ FldSame s t [(F.MP_REMAP_BUSY, n)] ∧
      (t.mp.get n).wq = (s.mp.get n).wq.filter (fun x => x.blk != blk) ∧
      (∃ r, (t.mp.get n).rq = (s.mp.get n).rq ++ [r] ∧ r.kind = 2 ∧ r.e = e ∧ r.snaps.map (·.blk) = [blk]) ∧
      MemSameBut s t (aRemap n e 0) 64 ∧
      ((∀ x ∈ (s.mp.get n).wq, x.blk ≠ blk) → MemSame s t) ∧
      (∀ x, (s.mp.get n).wq.find? (fun x => x.blk == blk) = some x → x.psn = false → ∀ j < 64, bitOf x.mask j = true →
        t.rdB (aRemap n e j) = x.data.getD j 0 ∧ t.ecc.get (aRemap n e j) = 0)) ∧
    let reads := (s.mp.get n).rq.find? (fun r => r.kind == 2 && r.e == e)
    let serves := memRuns s = true ∧ (s.fld F.MP_STATUS_STATE n = 2 ∨ s.fld F.MP_STATUS_STATE n = 5)
    ((¬serves ∨ y = false ∨ v = true ∨ reads = none) → exec (.mpRemapInstallDone n e) s = .next s) ∧
    (∀ r g, serves → y = true → v = false → reads = some r → r.snaps = [g] → r.pkt.mask = 0 →
      ∃ t, exec (.mpRemapInstallDone n e) s = .next t ∧ t.fld F.MP_REMAP_VALID n e = 1 ∧ t.fld F.MP_REMAP_BUSY n e = 0 ∧
        t.fld F.MP_REMAP_POISONED n e = ofBool g.psn ∧ MemSameBut s t (aRemap n e 0) 64 ∧
        (∀ j < 64, if g.psn then t.ecc.get (aRemap n e j) = 31 else t.rdB (aRemap n e j) = g.data.getD j 0 ∧ t.ecc.get (aRemap n e j) = 0) ∧
        r ∉ (t.mp.get n).rq ∧ (g.cls = 2 → Counts s t F.MP_UE_CNT_COUNT n 0 1)) ∧
    (v = false → exec (.mpRemapRelease n e) s = .next s) ∧
    (v = true → ∃ t, exec (.mpRemapRelease n e) s = .next t ∧ t.fld F.MP_REMAP_BUSY n e = 1 ∧ OnlyRegs s t [(F.MP_REMAP_BUSY, n)]))

/-! ### Memory protection -/

namespace Sys2Proof.Claims
open Sys2Proof Machine
/-- Leaf `l` of region `r` and every node above it are in the metadata cache of port `n`. -/
def PathCached (s : State) (n r l : Nat) : Prop := ∀ k ≤ rgTop s r, (mcFind s n r k (l / 8 ^ k)).isSome = true
/-- What a write of MPR_CTL changes in the register besides VALID, UNFREEZE and ROT_START (R479, R481, R502). -/
def MprFields (s u : State) (r v : Nat) : Prop :=
  OnlyRegs s u ([F.MPR_CTL_ALARM_ACT, F.MPR_CTL_DBGVIEW, F.MPR_CTL_SLOT_NEW, F.MPR_CTL_SLOT_CUR, F.MPR_CTL_KEYID, F.MPR_CTL_LOG2SIZE,
    F.MPR_CTL_PORT].map (fun f => (f, 0))) ∧
  (∀ q, q ≠ r → ∀ f ∈ [F.MPR_CTL_ALARM_ACT, F.MPR_CTL_DBGVIEW, F.MPR_CTL_SLOT_NEW, F.MPR_CTL_SLOT_CUR, F.MPR_CTL_KEYID, F.MPR_CTL_LOG2SIZE,
    F.MPR_CTL_PORT], u.fld f 0 q = s.fld f 0 q) ∧
  u.fld F.MPR_CTL_ALARM_ACT 0 r = bitsOf v 8 2 ∧ u.fld F.MPR_CTL_DBGVIEW 0 r = bitsOf v 4 1 ∧
  u.fld F.MPR_CTL_SLOT_NEW 0 r = (if rgState s r = 2 then s.fld F.MPR_CTL_SLOT_NEW 0 r else bitsOf v 48 6) ∧
  (∀ e ∈ [(F.MPR_CTL_SLOT_CUR, bitsOf v 40 6), (F.MPR_CTL_KEYID, bitsOf v 32 6), (F.MPR_CTL_LOG2SIZE, bitsOf v 24 6), (F.MPR_CTL_PORT, bitsOf v 16 4)],
    u.fld e.1 0 r = if rgValid s r then s.fld e.1 0 r else e.2)
/-- A refused descriptor write of region `r` is recorded with its code, and nothing else changes. -/
def DescRefused (u t : State) (r c : Nat) : Prop :=
  OnlyRegs u t [(F.MPE_STATUS_DESCERR, 0), (F.MPE_STATUS_DESCCODE, 0), (F.MPE_STATUS_DESCREG, 0)] ∧ t.fld F.MPE_STATUS_DESCERR = 1 ∧
  t.fld F.MPE_STATUS_DESCCODE = c ∧ t.fld F.MPE_STATUS_DESCREG = r
end Sys2Proof.Claims

/-- Writes of MPR_CTL enable, disable, rotate and unfreeze a region; the sweep of a rotation moves on (R479, R480,
R481, R482, R502, R503, R504, R508). -/
def Obligations.ProtectRegionForms : Prop :=
  (∀ (s : State) (r : Nat), mprRefusal s r = 0 ↔
    let n := s.fld F.MPR_CTL_PORT 0 r
    let z := rgSize s r
    let b := rgBase s r
    let m := rgMeta s r
    (21 ≤ z ∧ z ≤ 40) ∧ (b % 2 ^ z = 0 ∧ m % 2 ^ (z - 2) = 0) ∧
    (s.fld F.MP_GEOM_CAP_LOG2 n ≠ 0 ∧ b + 2 ^ z ≤ 2 ^ s.fld F.MP_GEOM_CAP_LOG2 n ∧ m + 2 ^ (z - 2) ≤ 2 ^ s.fld F.MP_GEOM_CAP_LOG2 n) ∧
    (overlap b (2 ^ z) m (2 ^ (z - 2)) = false ∧ ∀ q < 32, rgValid s q = true → s.fld F.MPR_CTL_PORT 0 q = n →
      ∀ x ∈ [(b, 2 ^ z), (m, 2 ^ (z - 2))], ∀ y ∈ [(rgBase s q, 2 ^ rgSize s q), (rgMeta s q, 2 ^ (rgSize s q - 2))],
        overlap x.1 x.2 y.1 y.2 = false) ∧
    (s.fld F.MPR_CTL_KEYID 0 r ≠ 0 ∧ slotLoaded s (s.fld F.MPR_CTL_SLOT_CUR 0 r) = true) ∧ s.fld F.MP_STATUS_STATE n = 2) ∧
  (∀ (s : State) (r v : Nat), r < 32 →
    (bitOf v 61 = false → bitOf v 62 = false →
      (rgValid s r = true → ∃ t, exec (.mprEnable r v) s = .next t ∧ MprFields s t r v) ∧
      (rgValid s r = false → ∃ u t, exec (.mprEnable r v) s = .next t ∧ MprFields s u r v ∧
        (mprRefusal u r ≠ 0 → DescRefused u t r (mprRefusal u r)) ∧
        (mprRefusal u r = 0 → t = { u with regs := t.regs, mpr := t.mpr, freeCtr := t.freeCtr } ∧
          t.fld F.MPR_CTL_VALID 0 r = 1 ∧ t.fld F.MPR_CTL_STATE 0 r = 1 ∧ t.fld F.MPR_CTL_EPOCH 0 r = 0 ∧ t.fld F.MPR_ROT_WMARK 0 r = 0 ∧
          FldSame u t [(F.MPR_CTL_VALID, 0), (F.MPR_CTL_STATE, 0), (F.MPR_CTL_EPOCH, 0), (F.MPR_ROT_WMARK, 0)] ∧
          (t.mpr.get r).roots = {} ∧ (t.mpr.get r).saltNew = 0 ∧ (t.mpr.get r).ctrMax = false ∧ ∀ q, q ≠ r → t.mpr.get q = s.mpr.get q)) ∧
      (rgValid s r = false → ∃ t, exec (.mprDisable r v) s = .next t ∧ MprFields s t r v) ∧
      (rgValid s r = true → (s.mp.get (s.fld F.MPR_CTL_PORT 0 r)).pipe = [] →
        let n := s.fld F.MPR_CTL_PORT 0 r
        ∃ u t, exec (.mprDisable r v) s = .next t ∧ MprFields s u r v ∧ t = { u with regs := t.regs, mpr := t.mpr, mcache := t.mcache } ∧
          FldSame u t [(F.MPR_CTL_VALID, 0), (F.MPR_CTL_STATE, 0)] ∧ t.fld F.MPR_CTL_VALID 0 r = 0 ∧ t.fld F.MPR_CTL_STATE 0 r = 0 ∧
          t.mpr.get r = {} ∧ (∀ q, q ≠ r → t.mpr.get q = s.mpr.get q) ∧ t.mcache.get n = (s.mcache.get n).filter (fun e => e.r != r))) ∧
    (rgValid s r = bitOf v 63 → bitOf v 61 = false → ∃ u t, exec (.rotStart r v) s = .next t ∧ MprFields s u r v ∧
      (rotRefusal u r ≠ 0 → DescRefused u t r (rotRefusal u r)) ∧
      (rotRefusal u r = 0 → slotLoaded u (u.fld F.MPR_CTL_SLOT_NEW 0 r) = true ∧
        s.fld F.MP_STATUS_STATE (u.fld F.MPR_CTL_PORT 0 r) = 2 ∧ rgState s r = 1 ∧ u.fld F.MPR_CTL_SLOT_NEW 0 r ≠ u.fld F.MPR_CTL_SLOT_CUR 0 r ∧
        t.fld F.MPR_CTL_STATE 0 r = 2 ∧ t.fld F.MPR_ROT_WMARK 0 r = 0 ∧ FldSame u t [(F.MPR_CTL_STATE, 0), (F.MPR_ROT_WMARK, 0)] ∧
        t = { u with regs := t.regs, mpr := t.mpr, freeCtr := t.freeCtr } ∧
        t.mpr.get r = { s.mpr.get r with saltNew := (t.mpr.get r).saltNew } ∧ ∀ q, q ≠ r → t.mpr.get q = s.mpr.get q)) ∧
    (rgValid s r = bitOf v 63 → ∃ u t, exec (.unfreeze r v) s = .next t ∧ MprFields s u r v ∧
      ((rgState s r ≠ 3 ∨ (s.mpr.get r).ctrMax = true) → t = u) ∧
      (rgState s r = 3 → (s.mpr.get r).ctrMax = false → OnlyRegs u t [(F.MPR_CTL_STATE, 0)] ∧
        ∀ q, t.fld F.MPR_CTL_STATE 0 q = if q = r then (if (s.mpr.get r).rotating then 2 else 1) else s.fld F.MPR_CTL_STATE 0 q))) ∧
  (∀ (s : State) (r : Nat),
    let n := s.fld F.MPR_CTL_PORT 0 r
    let l := s.fld F.MPR_ROT_WMARK 0 r
    let n0 := rgCount s r 0
    let goes := r < 32 ∧ rgState s r = 2 ∧ s.fld F.MP_STATUS_STATE n = 2 ∧ memRuns s = true
    let w := mpServing n 0 (s.fld F.DEV_ID) s
    let done := fun (u t : State) => t.fld F.MPR_CTL_SLOT_CUR 0 r = u.fld F.MPR_CTL_SLOT_NEW 0 r % 2 ^ F.MPR_CTL_SLOT_CUR.w ∧
      t.fld F.MPR_CTL_SLOT_NEW 0 r = 0 ∧ t.fld F.MPR_CTL_EPOCH 0 r = 1 - u.fld F.MPR_CTL_EPOCH 0 r ∧ t.fld F.MPR_CTL_STATE 0 r = 1 ∧
      t.fld F.MPR_ROT_WMARK 0 r = 0 ∧ (t.mpr.get r).saltCur = (u.mpr.get r).saltNew ∧ (t.mpr.get r).saltNew = 0 ∧
      (t.mpr.get r).roots = (u.mpr.get r).roots ∧ Raised u t (0x100 + r) ∧ MemSame u t
    let moved := fun (m : Nat) (u : State) => ∃ t, exec (.rotationSweepStep r) s = .next t ∧ (n0 ≤ m → done u t) ∧
      (m < n0 → OnlyRegs u t [(F.MPR_ROT_WMARK, 0)] ∧ t.fld F.MPR_ROT_WMARK 0 r = m % 2 ^ F.MPR_ROT_WMARK.w)
    (¬goes → exec (.rotationSweepStep r) s = .next s) ∧
    (goes → n0 ≤ l → ∃ t, exec (.rotationSweepStep r) s = .next t ∧ done s t) ∧
    (goes → l < n0 → mcFind s n r (rgTop s r) (l / 8 ^ rgTop s r) = none → (s.mpr.get r).roots.get (l / 8 ^ rgTop s r) = 0 →
      moved ((l / 8 ^ rgTop s r + 1) * 8 ^ rgTop s r) w) ∧
    (goes → l < n0 → PathCached s n r l →
      let lf := leafOf s n r l
      ((leafEmpty lf = true ∨ leafEpoch lf = newEpoch s r) → moved (l + 1) w) ∧
      (leafEmpty lf = false → leafEpoch lf ≠ newEpoch s r →
        ((reencrypt n r l none w).1 = 0 → moved (l + 1) (reencrypt n r l none w).2) ∧
        ((reencrypt n r l none w).1 ≠ 0 → exec (.rotationSweepStep r) s = .next (alarm (some r) (reencrypt n r l none w).1 0 (s.fld F.DEV_ID)
          (n * 2 ^ 41 + rgEntOff s r 0 l) (reencrypt n r l none w).2)))))

/-- The protection pipe serves requests in order and writes its cache back (R487, R488, R492, R493, R498, R499, R508,
R510). -/
def Obligations.ProtectPipeForms : Prop :=
  (∀ (s : State) (n : Nat), ((16 ≤ n ∨ memRuns s = false ∨ (s.mp.get n).pipe = []) → exec (.pipeServeRequest n) s = .next s) ∧
    (∀ a q, n < 16 → memRuns s = true → (s.mp.get n).pipe = a :: q →
      let p := a.pkt
      let k := a.seq
      let s0 := mpServing n p.init p.srcdev (s.updMp n (fun m => { m with pipe := q }))
      let off := p.addr % 2 ^ 41
      let o := off % 64
      ((rgAt s n off = none ∨ ∃ r, rgAt s n off = some r ∧ 3 ≤ rgState s r) →
        exec (.pipeServeRequest n) s = .next (mpAnswer n k p { st := eFROZEN } s0)) ∧
      (∀ r, rgAt s n off = some r → rgState s r < 3 → o + p.len < 64 →
        let b := (off / 64 * 64 - rgBase s r) / 64
        let lf := leafOf s n r (b / 64)
        let m := leafMinor lf (b % 64)
        let iv := fun (x : Nat) => ivOf n (leafMajor lf) (rgBase s r + 64 * b) x 0
        PathCached s n r (b / 64) →
          (p.opc = opREAD → m = 0 → exec (.pipeServeRequest n) s = .next (mpAnswer n k p { data := List.replicate (p.len + 1) 0 } s0)) ∧
          (∀ tl, mcFind s n r lvlTag (b / 8) = some tl →
            (∀ e, p.opc = opREAD → m ≠ 0 → remapOf s n ((rgBase s r + 64 * b) / 64) = none →
              (s.mp.get n).wq.find? (fun x => x.blk == (rgBase s r + 64 * b) / 64) = some e → e.mask = fullMask → e.psn = false →
              let key := rgKey s r (leafEpoch lf)
              let pt := xorBytes e.data (gcmStream key (iv m) 0 64)
              let good := (sealBlock key (iv m) pt).2 = fieldLE tl.data (8 * (b % 8)) 8
              (good → exec (.pipeServeRequest n) s = .next (mpAnswer n k p { data := (pt.drop o).take (p.len + 1) } s0)) ∧
              (¬good → exec (.pipeServeRequest n) s = .next (mpAnswer n k p { st := eINTEG }
                (alarm (some r) 1 p.init p.srcdev p.addr s0 (some a.act))))) ∧
            (p.opc = opWRITE → p.len = 63 → p.data.length = 64 → bitOf p.pmask 0 = false → m ≠ 63 → remapOf s n ((rgBase s r + 64 * b) / 64) = none →
              (∀ x ∈ (s.mp.get n).wq, x.clean ≤ fullMask) →
              let ep := if leafEmpty lf then newEpoch s r else leafEpoch lf
              let c := sealBlock (rgKey s r ep) (iv (m + 1)) p.data
              ∃ (u : State) (w : WEntry) (x y : MEnt), exec (.pipeServeRequest n) s = .next (mpAnswer n k p {} u) ∧
                (u.mp.get n).wq.find? (fun x => x.blk == (rgBase s r + 64 * b) / 64) = some w ∧ (∀ j < 64, bitOf w.mask j = true) ∧ w.psn = false ∧
                (∀ j < 64, w.data.getD j 0 = c.1.getD j 0) ∧
                mcFind u n r 0 (b / 64) = some x ∧ x.dirty = true ∧ x.data = mkLeaf (leafMajor lf) ((leafMinors lf).set (b % 64) (m + 1)) ep ∧
                mcFind u n r lvlTag (b / 8) = some y ∧ y.dirty = true ∧
                y.data = tl.data.take (8 * (b % 8)) ++ bytesLE 8 c.2 ++ tl.data.drop (8 * (b % 8) + 8) ∧
                (((s.mp.get n).wq.length < 64 ∨ (s.mp.get n).wq.any (fun x => x.blk == (rgBase s r + 64 * b) / 64) = true) →
                  u = { s0 with mp := u.mp, mcache := u.mcache }) ∧
                (64 ≤ (s.mp.get n).wq.length → (s.mp.get n).wq.any (fun x => x.blk == (rgBase s r + 64 * b) / 64) = false →
                  ∀ e, (s.mp.get n).wq.head? = some e → (u.mp.get n).wq.any (fun x => x.blk == e.blk) = false)))))) ∧
  (∀ (s : State) (n : Nat), (¬(n < 16 ∧ memRuns s = true ∧ s.fld F.MP_STATUS_STATE n = 5) → exec (.pipeFlushDone n) s = .next s) ∧
    (n < 16 → memRuns s = true → s.fld F.MP_STATUS_STATE n = 5 → (s.mp.get n).pipe = [] →
      (s.mcache.get n = [] → ∃ t, exec (.pipeFlushDone n) s = .next t ∧ t = { s with mp := t.mp, mcache := t.mcache } ∧
        t.mp.get n = { s.mp.get n with flushed := true, who := (0, s.fld F.DEV_ID) } ∧ ∀ j, t.mcache.get j = s.mcache.get j) ∧
      (∀ e, s.mcache.get n = [e] → e.lvl = lvlTag → e.dirty = true → remapOf s n (rgEntOff s e.r lvlTag e.idx / 64) = none →
        ∃ t w, exec (.pipeFlushDone n) s = .next t ∧ (t.mp.get n).flushed = true ∧ t.mcache.get n = [] ∧
          (t.mp.get n).wq.find? (fun x => x.blk == rgEntOff s e.r lvlTag e.idx / 64) = some w ∧ (∀ j < 64, bitOf w.mask j = true) ∧
          (∀ j < 64, w.data.getD j 0 = e.data.getD j 0) ∧
          (((s.mp.get n).wq.length < 64 ∨ (s.mp.get n).wq.any (fun x => x.blk == rgEntOff s e.r lvlTag e.idx / 64) = true) → MemSame s t))))

/-! ### Serial lanes -/

namespace Sys2Proof.Claims
open Sys2Proof Machine
/-- `t` differs from `s` in what lanes hold, in the register fields listed, and in what raised sources record. -/
def OnlyLane (s t : State) (ws : List (Field × Nat)) : Prop :=
  t = { s with regs := t.regs, lanes := t.lanes, irqWin := t.irqWin, irqHeld := t.irqHeld } ∧ FldSame s t (irqFs ++ ws)
/-- The open burst of lane `l`, if any, has closed (R533, R535); with `trunc` that is reported and counted. -/
def BurstClosed (s t : State) (l : Nat) (trunc : Bool) : Prop :=
  t.bit F.LANE_STATUS_BURST l = false ∧
  (s.bit F.LANE_STATUS_BURST l = true → trunc = true → t.fld F.LANE_EVT_TRUNC l = 1 ∧ Counts s t F.BURST_CNT_TRUNC_CNT l 0 1) ∧
  (s.bit F.LANE_STATUS_BURST l = true → s.bit F.LANE_CTL_MODE l = false →
    (t.lanes.get l).rxq = (s.lanes.get l).rxq ++ [(0, 0, 16 + (if trunc then 32 else 0))])
/-- Lane `l` starts bring-up from PLL_WAIT at rate code `code`. -/
def LaneStarts (t : State) (l code : Nat) : Prop :=
  laneSt t l = 1 ∧ t.fld F.LANE_STATUS_RATE_ACT l = code % 2 ^ F.LANE_STATUS_RATE_ACT.w ∧ (t.lanes.get l).trained = false ∧
  (t.lanes.get l).trSame = 0
end Sys2Proof.Claims

/-- Enabling, bring-up, training, loss and return of input of a lane (R516, R518, R523, R524, R525, R526, R530, R533,
R534, R535, R536, R538). -/
def Obligations.LaneControlForms : Prop :=
  (∀ (s : State) (l o : Nat),
    let q := l / 4
    let may := (∀ m ∈ quadLanes q, s.bit F.LANE_CTL_EN m = false ∧ laneSt s m = 0) ∧ (o % 4 = 2 → q < 4) ∧ (o % 4 = 0 ∨ quadBad s q = false)
    ((192 ≤ l ∨ o % 4 = quadOwner s q) → exec (.quadOwnerWrite l o) s = .next s) ∧
    (l < 192 → o % 4 ≠ quadOwner s q → ∃ t, exec (.quadOwnerWrite l o) s = .next t ∧
      (may → OnlyRegs s t [(F.QUAD_CFG_OWNER, q)] ∧ quadOwner t q = o % 4) ∧
      (¬may → OnlyIrq s t [(F.LANE_EVT_OWNERR, l)] ∧ t.fld F.LANE_EVT_OWNERR l = 1))) ∧
  (∀ (s : State) (l v : Nat), l < 192 → bitOf v 63 = false →
    let q := l / 4
    let en := s.bit F.LANE_CTL_EN l
    let sets := fun (t : State) => t.fld F.LANE_CTL_SAFE_TX l = bitsOf v 12 2 ∧ t.fld F.LANE_CTL_PRBS l = bitsOf v 18 3 ∧
      t.fld F.LANE_CTL_PRBS_CHK l = bitsOf v 17 1 ∧ t.shadow F.LANE_CTL_TX_SRC l 0 = bitsOf v 8 2 ∧ t.shadow F.LANE_CTL_LPBK l 0 = bitsOf v 4 2 ∧
      t.fld F.LANE_CTL_PCS l = (if en then s.fld F.LANE_CTL_PCS l else bitsOf v 2 1) ∧
      t.fld F.LANE_CTL_MODE l = (if en then s.fld F.LANE_CTL_MODE l else bitsOf v 1 1)
    let fits := bitsOf v 2 1 = 0 ∨ (bitsOf v 1 1 = 0 ∧ s.bit F.QUAD_CFG_BRINGUP q = false ∧ s.fld F.QUAD_CFG_RATE q ∈ [4, 6, 8, 10])
    (∃ t, exec (.laneEnable l v) s = .next t ∧ sets t ∧
      (en = true → laneSt t l = laneSt s l ∧ t.bit F.LANE_CTL_EN l = true) ∧
      (en = false → ¬fits → t.fld F.LANE_EVT_RATEERR l = 1 ∧ laneSt t l = laneSt s l ∧ t.bit F.LANE_CTL_EN l = false) ∧
      (en = false → fits → t.fld F.LANE_CTL_EN l = 1 ∧
        (quadOwner s q ≠ 1 → laneSt t l = laneSt s l) ∧
        (quadOwner s q = 1 → stepQuad s q = false → LaneStarts t l (s.fld F.QUAD_CFG_RATE q)) ∧
        (quadOwner s q = 1 → stepQuad s q = true → ∀ m ∈ quadLanes q, (m = l ∨ laneOn s m = true) → LaneStarts t m 0) ∧
        (s.fld F.LANE_BOND_GROUP l ≠ 0 → (groupNames s l).length < 2 → t.fld F.LANE_EVT_BONDERR l = 1))) ∧
    (∃ t, exec (.laneDisable l v) s = .next t ∧ sets t ∧ t.bit F.LANE_CTL_EN l = false ∧
      (en = true → quadOwner s q = 1 → laneSt t l = 0 ∧ BurstClosed s t l false ∧ (t.lanes.get l).txq = []) ∧
      ((en = false ∨ quadOwner s q ≠ 1) → laneSt t l = laneSt s l ∧ t.lanes = s.lanes)) ∧
    (bitOf v 0 = en → ∃ t, exec (.laneReacq l v) s = .next t ∧ sets t ∧ t.bit F.LANE_CTL_EN l = en ∧
      (en = true → quadOwner s q = 1 → 7 ≤ laneSt s l → laneSt t l = 9 ∧ BurstClosed s t l false) ∧
      ((en = false ∨ quadOwner s q ≠ 1 ∨ laneSt s l < 7) → laneSt t l = laneSt s l ∧ t.lanes = s.lanes))) ∧
  (∀ (s : State) (l : Nat) (skewed : Bool),
    let q := l / 4
    let atRate := (s.lanes.get (4 * q)).atRate
    let good := bitOf (s.fld F.QREF_GOOD_GOOD) (quadRef s q)
    let step := fun (t : State) => exec (.laneBringupStepDone l skewed) s = .next t
    let active := fun (t : State) (m : Nat) => laneSt t m = 7 ∧ t.fld F.LANE_STATUS_BURST m = 1 ∧
      (s.bit F.LANE_STATUS_BURST m = false → t.fld F.LANE_STATUS_BURST_NUM m = (s.fld F.LANE_STATUS_BURST_NUM m + 1) % 2 ^ F.LANE_STATUS_BURST_NUM.w ∧
        (t.lanes.get m).sob = true) ∧
      (s.bit F.LANE_STATUS_BURST m = true → t.fld F.LANE_EVT_GAP m = 1 ∧ Counts s t F.BURST_CNT_GAP_CNT m 0 1 ∧ (t.lanes.get m).gap = true)
    let aligned := (∀ t, step t → groupFormed s l = false → quadOwner s q = 1 → active t l ∧ (amOn s l = true → t.fld F.LANE_STATUS_AM_LOCK l = 1)) ∧
      (groupFormed s l = false → quadOwner s q = 3 → (∀ p, portOfQuad s q = some p → s.fld F.WARP_STATUS_STATE p ≠ 1) →
        ∃ t, step t ∧ laneSt t l = 7 ∧ t.fld F.LANE_STATUS_AM_LOCK l = 1) ∧
      (groupFormed s l = true → ∃ t, step t ∧ t.fld F.LANE_STATUS_AM_LOCK l = 1 ∧
        ((∀ m ∈ groupNames s l, m = l ∨ laneSt s m = 7 ∨ (laneSt s m = 6 ∧ s.bit F.LANE_STATUS_AM_LOCK m = true)) →
          ∀ m ∈ groupNames s l, laneSt s m ≠ 7 → active t m) ∧
        ((∃ m ∈ groupNames s l, m ≠ l ∧ laneSt s m ≠ 7 ∧ ¬(laneSt s m = 6 ∧ s.bit F.LANE_STATUS_AM_LOCK m = true)) → laneSt t l = 6))
    ((192 ≤ l ∨ laneOn s l = false ∨ quadDead s q = true ∨ laneSt s l ∉ [1, 2, 3, 4, 5, 6, 9]) → step s) ∧
    (l < 192 → laneOn s l = true → quadDead s q = false →
      (∃ t, step t) ∧
      (laneSt s l = 1 → good = false → step s) ∧
      (laneSt s l = 1 → good = true → ∃ t, step t ∧ (∀ m ∈ quadLanes q, laneSt t m = if laneOn s m = true ∧ laneSt s m = 1 then 2 else laneSt s m) ∧
        OnlyRegs s t ((quadLanes q).map (fun m => (F.LANE_STATUS_STATE, m)))) ∧
      (laneSt s l = 2 → ∃ t, step t ∧ laneSt t l = 3 ∧ t.fld F.LANE_STATUS_LOS l = 0 ∧
        OnlyRegs s t [(F.LANE_STATUS_STATE, l), (F.LANE_STATUS_LOS, l)]) ∧
      (laneSt s l = 3 → ∃ t, step t ∧ laneSt t l = (if stepQuad s q = true ∧ atRate = false then 4 else 5) ∧ OnlyLane s t [(F.LANE_STATUS_STATE, l)]) ∧
      (laneSt s l = 4 → remaining s q ≠ [] → (∃ m ∈ remaining s q, laneSt s m ≠ 4 ∨ (s.lanes.get m).trained = false) → step s) ∧
      (laneSt s l = 4 → remaining s q = [l] → (s.lanes.get l).trained = true → quadOwner s q = 1 →
        let mask := ownMask s q &&& (s.lanes.get l).trMask
        ∃ t, step t ∧ (mask = 0 → laneSt t l = 10) ∧ (mask ≠ 0 → LaneStarts t l (Nat.log2 mask) ∧ (t.lanes.get (4 * q)).atRate = true)) ∧
      (laneSt s l = 5 → ∃ t, step t ∧ laneSt t l = 6 ∧ t.fld F.LANE_STATUS_AM_LOCK l = 0 ∧
        OnlyRegs s t [(F.LANE_STATUS_STATE, l), (F.LANE_STATUS_AM_LOCK, l)]) ∧
      (laneSt s l = 6 → skewed = true → ∃ t, step t ∧ t.fld F.LANE_EVT_SKEW l = 1 ∧ OnlyIrq s t [(F.LANE_EVT_SKEW, l)]) ∧
      (laneSt s l = 6 → skewed = false → aligned) ∧
      (laneSt s l = 9 → s.bit F.LANE_STATUS_LOS l = true → step s) ∧
      (laneSt s l = 9 → s.bit F.LANE_STATUS_LOS l = false → aligned))) ∧
  (∀ (s : State) (l : Nat),
    let q := l / 4
    let atRate := (s.lanes.get (4 * q)).atRate
    ((192 ≤ l ∨ laneOn s l = false ∨ laneSt s l ∉ [3, 5, 6, 9]) → exec (.laneStepTimeout l) s = .next s) ∧
    (l < 192 → laneOn s l = true → ∃ t, exec (.laneStepTimeout l) s = .next t ∧
      (laneSt s l ∈ [3, 5, 6] → ¬(stepQuad s q = true ∧ atRate = true) → laneSt t l = 2 ∧ OnlyRegs s t [(F.LANE_STATUS_STATE, l)]) ∧
      (laneSt s l ∈ [3, 5, 6] → stepQuad s q = true → atRate = true → (∀ m ∈ remaining s q, LaneStarts t m 0 ∧ BurstClosed s t m true) ∧
        (t.lanes.get (4 * q)).atRate = false ∧ bitOf (t.lanes.get (4 * q)).cut (s.fld F.LANE_STATUS_RATE_ACT l) = true) ∧
      (laneSt s l = 9 → stepQuad s q = false → laneSt t l = 2 ∧ BurstClosed s t l true) ∧
      (laneSt s l = 9 → stepQuad s q = true → (∀ m ∈ remaining s q, LaneStarts t m 0 ∧ BurstClosed s t m true) ∧ (t.lanes.get (4 * q)).atRate = false)) ∧
    (let k := s.lanes.get l
     let lost := fun (t : State) => t.fld F.LANE_STATUS_LOS l = 1
     ((192 ≤ l ∨ laneOn s l = false) → exec (.laneLossOfInput l) s = .next s) ∧
     (l < 192 → laneOn s l = true → ∃ t, exec (.laneLossOfInput l) s = .next t ∧ lost t ∧
       (laneSt s l = 7 → groupFormed s l = false →
         (s.fld F.LANE_TO_LOS_TO l ≠ 0 → laneSt t l = 8 ∧ (t.lanes.get l).timer = true ∧ t.fld F.LANE_STATUS_BURST l = s.fld F.LANE_STATUS_BURST l) ∧
         (s.fld F.LANE_TO_LOS_TO l = 0 → laneSt t l = 9 ∧ BurstClosed s t l true)) ∧
       (laneSt s l = 7 → ∀ m ∈ laneGroup s l, laneSt s m = 7 → laneSt t m = if s.fld F.LANE_TO_LOS_TO m = 0 then 9 else 8) ∧
       (laneSt s l ∈ [3, 4, 5, 6] → laneSt t l = (if stepQuad s q = true ∧ atRate = false then 4 else 2)) ∧
       (laneSt s l ∉ [3, 4, 5, 6, 7] → OnlyRegs s t [(F.LANE_STATUS_LOS, l)])) ∧
     ((192 ≤ l ∨ laneSt s l ≠ 8 ∨ k.timer = false) → exec (.losTimeout l) s = .next s) ∧
     (l < 192 → laneSt s l = 8 → k.timer = true → ∃ t, exec (.losTimeout l) s = .next t ∧
       ∀ m ∈ laneGroup s l, (laneSt s m = 8 ∨ laneSt s m = 9) → laneSt t m = 9 ∧ BurstClosed s t m true) ∧
     ((192 ≤ l ∨ laneOn s l = false ∨ quadDead s q = true) → exec (.laneSignalDetect l) s = .next s) ∧
     (l < 192 → laneOn s l = true → quadDead s q = false → ∃ t, exec (.laneSignalDetect l) s = .next t ∧ t.fld F.LANE_STATUS_LOS l = 0 ∧
       laneSt t l = (if laneSt s l = 8 then 9 else if laneSt s l = 2 then 3 else laneSt s l) ∧
       OnlyLane s t [(F.LANE_STATUS_STATE, l), (F.LANE_STATUS_LOS, l)]))) ∧
  (∀ (s : State) (l w : Nat),
    let k := s.lanes.get l
    let ok := bitsOf w 0 16 = 0xB5C3 ∧ bitsOf w 16 4 = 1 ∧ bitsOf w 56 8 = trainCrc w
    let same := if 8 ≤ k.trSame then k.trSame else if w = k.trLast then k.trSame + 1 else 1
    let acks := if bitOf w 24 then k.trAckRx + 1 else 0
    ((192 ≤ l ∨ laneOn s l = false ∨ laneSt s l ≠ 4) → exec (.trainingWord l w) s = .next s) ∧
    (l < 192 → laneOn s l = true → laneSt s l = 4 →
      (¬ok → exec (.trainingWord l w) s = .next (s.updLane l (fun k => { k with trSame := if 8 ≤ k.trSame then k.trSame else 0, trAckRx := 0 }))) ∧
      (ok → (k.trAckTx < 8 ∨ acks < 8) → exec (.trainingWord l w) s =
        .next (s.updLane l (fun k => { k with trLast := w, trMask := bitsOf w 32 12, trSame := same, trAckRx := acks }))) ∧
      (ok → 8 ≤ k.trAckTx → 8 ≤ acks → (∃ m ∈ remaining s (l / 4), m ≠ l ∧ (laneSt s m ≠ 4 ∨ (s.lanes.get m).trained = false)) →
        exec (.trainingWord l w) s = .next (s.updLane l (fun k => { k with trLast := w, trMask := bitsOf w 32 12, trSame := same, trAckRx := acks,
                                                                                   trained := true }))))) ∧
  (∀ (s : State) (q : Nat),
    let rs := remaining s q
    let runs := q < 48 ∧ stepQuad s q = true ∧ ∃ l ∈ rs, laneSt s l = 4
    let mask := (rs.filter (fun l => (s.lanes.get l).trained)).foldl (fun m l => m &&& (s.lanes.get l).trMask) (ownMask s q)
    (¬runs → exec (.quadTrainTimeout q) s = .next s) ∧
    (runs → quadOwner s q = 1 → ∃ t, exec (.quadTrainTimeout q) s = .next t ∧
      (∀ l ∈ rs, (s.lanes.get l).trained = false → laneSt t l = 10 ∧ t.fld F.LANE_EVT_TRAINFAIL l = 1) ∧
      (∀ l ∈ rs, (s.lanes.get l).trained = true → (mask = 0 → laneSt t l = 10) ∧ (mask ≠ 0 → LaneStarts t l (Nat.log2 mask)))) ∧
    (¬(q < 48 ∧ ∃ l ∈ rs, laneSt s l = 1) → exec (.quadPllRetry q) s = .next s) ∧
    (q < 48 → (∃ l ∈ rs, laneSt s l = 1) → ∃ t, exec (.quadPllRetry q) s = .next t ∧ t.fld F.LANE_EVT_RATEERR (4 * q) = 1 ∧
      OnlyIrq s t [(F.LANE_EVT_RATEERR, 4 * q)]))

/-- Words that a lane receives and transmits, its stream segments and its transmit source (R529, R531, R532, R537,
R538, R539, R540, R541, R542, R544). -/
def Obligations.LaneDataForms : Prop :=
  (∀ (s : State) (n m w hdr ce ue : Nat) (err : Bool),
    let l := 4 * n + m
    let k := s.lanes.get l
    let near := s.fld F.LANE_CTL_LPBK l = 1 ∨ s.fld F.LANE_CTL_LPBK l = 2
    let size := strmSize s l
    let off := s.fld F.STRM_WP_WP l * 4096 % size
    ((192 ≤ l ∨ laneOn s l = false ∨ near) → exec (.laneRxWord n m w hdr ce ue err) s = .next s) ∧
    (l < 192 → laneOn s l = true → ¬near → ∃ t, exec (.laneRxWord n m w hdr ce ue err) s = .next t ∧ (t.lanes.get l).far = some (w % 2 ^ 256) ∧
      Counts s t F.FEC_CNT_FEC_CE_CNT l 0 ce ∧ Counts s t F.FEC_CNT_FEC_UE_CNT l 0 ue ∧
      ((laneSt s l ≠ 7 ∨ quadOwner s (l / 4) ≠ 1) → (t.lanes.get l).rxq = k.rxq ∧ t.reqs = s.reqs) ∧
      (laneSt s l = 7 → quadOwner s (l / 4) = 1 → amOn s l = true → isMarkerWord (w % 2 ^ 256) = true → k.amSeen = true → k.amRx + 1 = amPeriod s l →
        (t.lanes.get l).rxq = k.rxq ∧ t.reqs = s.reqs ∧ t.fld F.LANE_STATUS_AM_LOCK l = 1 ∧ (t.lanes.get l).amRx = 0) ∧
      (amOn s l = true → isMarkerWord (w % 2 ^ 256) = false → k.amSeen = true → k.amRx + 1 = amPeriod s l → k.amMiss = 3 →
        t.fld F.LANE_STATUS_AM_LOCK l = 0) ∧
      (laneSt s l = 7 → quadOwner s (l / 4) = 1 → amOn s l = false →
        (s.bit F.LANE_CTL_MODE l = false → k.rxq.length < 16 → t.reqs = s.reqs ∧
          (t.lanes.get l).rxq = k.rxq ++ [(w % 2 ^ 256, hdr % 256, 1 + 2 * ofBool k.sob + 4 * ofBool k.gap + 8 * ofBool err)] ∧
          (t.lanes.get l).sob = false ∧ (t.lanes.get l).gap = false) ∧
        (s.bit F.LANE_CTL_MODE l = false → 16 ≤ k.rxq.length → (t.lanes.get l).rxq = k.rxq ∧ t.fld F.LANE_EVT_DROP l = 1 ∧
          Counts s t F.RX_DROP_CNT_COUNT l 0 1) ∧
        (s.bit F.LANE_CTL_MODE l = true → k.segs = [] → (s.bit F.STRM_CFG_WRAP l = true ∨ (off + 4096) % size ≠ s.fld F.STRM_RP_RP l * 4096 % size) →
          ∃ r g, t.reqs = s.reqs ++ [r] ∧ r.pkt.opc = opWRITE ∧ r.pkt.addr = s.fld F.STRM_BASE_BASE l * 4096 + off + 64 ∧ r.pkt.len = 31 ∧
            r.pkt.data = bytesLE 32 (w % 2 ^ 256) ∧ r.pkt.init = 0x400 + l ∧ (t.lanes.get l).segs = [g] ∧ g.off = off ∧ g.n = 1 ∧ g.out = 1 ∧
            g.time = s.now ∧ g.pick = s.pick ∧ g.burst = s.fld F.LANE_STATUS_BURST_NUM l ∧ g.closed = false) ∧
        (s.bit F.LANE_CTL_MODE l = true → k.segs = [] → s.bit F.STRM_CFG_WRAP l = false → (off + 4096) % size = s.fld F.STRM_RP_RP l * 4096 % size →
          t.reqs = s.reqs ∧ (t.lanes.get l).segs = [] ∧ t.fld F.LANE_EVT_DROP l = 1 ∧ Counts s t F.RX_DROP_CNT_COUNT l 0 1))) ∧
    (∀ (i : Nat) (src : List TrackSrc), l < 192 → i < 8 → bayClk s (laneBay l) i = true → edgeOwed s (laneBay l) i = false →
      let x := linesOf s (laneBay l) src
      let a := s.laneAtt.get l
      ∃ v, exec (.flipFlopEdge [] [] [] [{ b := laneBay l, u := l, k := i, lines := src }] []) s = .next (edgeClose (laneBay l) i v) ∧
        (attachOn s (l / 4) = false → v = { s with laneAtt := s.laneAtt.set l {} }) ∧
        (attachOn s (l / 4) = true →
          (bitOf a.rxf 0 = true → bitOf x 265 = false → v.fld F.LANE_EVT_DROP l = 1 ∧ Counts s v F.RX_DROP_CNT_COUNT l 0 1) ∧
          ((bitOf a.rxf 0 = false ∨ bitOf x 265 = true) → v.regs = s.regs) ∧
          (v.lanes.get l).txq = k.txq ++ (if a.txv then [(a.tx % 2 ^ 256, a.tx / 2 ^ 256 % 256)] else []) ∧
          ((v.laneAtt.get l).txv = true ↔ bitOf x 264 = true ∧ txReady s l = true) ∧
          ((v.laneAtt.get l).txv = true → (v.laneAtt.get l).tx = x % 2 ^ 264) ∧
          (k.rxq = [] → v.out = s.out ∧ (v.laneAtt.get l).rxf = 0) ∧
          (∀ y h f rest, k.rxq = (y, h, f) :: rest → (v.lanes.get l).rxq = rest ∧ v.out = s.out ++ [.attachWord l (f + h * 256) y] ∧
            (v.laneAtt.get l).rxw = y ∧ (v.laneAtt.get l).rxh = h ∧ (v.laneAtt.get l).rxf = f)))) ∧
  (∀ (s : State) (n m : Nat),
    let l := 4 * n + m
    let k := s.lanes.get l
    let lp := s.fld F.LANE_CTL_LPBK l
    let q := k.txq
    let due := amOn s l = true ∧ k.amTx + 1 = amPeriod s l
    let sends := fun (t : State) (kind w : Nat) => exec (.laneTxWord n m) s = .next t ∧ t.out = s.out ++ [.laneWord l kind w]
    ((192 ≤ l ∨ quadOwner s (l / 4) = 2) → exec (.laneTxWord n m) s = .next s) ∧
    (l < 192 → quadOwner s (l / 4) = 3 →
      let silent := quadSilent s (l / 4) = true ∨ laneOn s l = false ∨ laneSt s l ∈ [0, 1, 10]
      (silent → exec (.laneTxWord n m) s = .next s) ∧
      (¬silent → laneSt s l = 4 → (k.trAckTx + (if 8 ≤ k.trSame then 1 else 0) < 8 ∨ k.trAckRx < 8) → ∃ t, sends t 2 (trainWord s l) ∧
        (t.lanes.get l).trAckTx = k.trAckTx + (if 8 ≤ k.trSame then 1 else 0)) ∧
      (¬silent → laneSt s l ≠ 4 → k.amTx + 1 = 2 ^ 14 → ∃ t, sends t 3 (markerWord s l) ∧ (t.lanes.get l).amTx = 0 ∧
        (t.lanes.get l).amCnt = k.amCnt + 1) ∧
      (¬silent → laneSt s l ≠ 4 → k.amTx + 1 ≠ 2 ^ 14 → exec (.laneTxWord n m) s = .next (s.updLane l (fun v => { v with amTx := v.amTx + 1 })))) ∧
    (l < 192 → quadOwner s (l / 4) < 2 → laneSafe s l = true →
      exec (.laneTxWord n m) s = .next (s.emit (.laneWord l 5 (if s.fld F.LANE_CTL_SAFE_TX l = 3 ∧ laneClockless s l = true then 0
        else s.fld F.LANE_CTL_SAFE_TX l)))) ∧
    (l < 192 → quadOwner s (l / 4) < 2 → laneSafe s l = false →
      (laneSt s l = 4 → (k.trAckTx + (if 8 ≤ k.trSame then 1 else 0) < 8 ∨ k.trAckRx < 8) → ∃ t, sends t 2 (trainWord s l) ∧
        (t.lanes.get l).trAckTx = k.trAckTx + (if 8 ≤ k.trSame then 1 else 0)) ∧
      (laneSt s l ≠ 4 → lp = 3 → (∀ w, k.far = some w → ∃ t, sends t 0 w ∧ (t.lanes.get l).txq = q) ∧
        (k.far = none → ∃ t, sends t 1 (fillWord s l) ∧ (t.lanes.get l).txq = q)) ∧
      (laneSt s l ≠ 4 → lp = 0 → due → ∃ t, sends t 3 (markerWord s l) ∧ (t.lanes.get l).txq = q ∧ (t.lanes.get l).amTx = 0 ∧
        (t.lanes.get l).amCnt = k.amCnt + 1) ∧
      (laneSt s l ≠ 4 → lp = 0 → ¬due →
        (s.fld F.LANE_CTL_TX_SRC l = 0 → laneSt s l ≠ 7 → ∃ t, sends t 1 (fillWord s l) ∧ (t.lanes.get l).txq = q) ∧
        (s.fld F.LANE_CTL_TX_SRC l = 0 → laneSt s l = 7 → ∀ e rest, q = e :: rest → ∃ t, sends t 0 (e.1 + e.2 * 2 ^ 256) ∧ (t.lanes.get l).txq = rest ∧
          t.regs = s.regs) ∧
        (s.fld F.LANE_CTL_TX_SRC l = 0 → laneSt s l = 7 → q = [] → ∃ t,
          (if s.bit F.LANE_CTL_PCS l then sends t 4 0 else sends t 1 (fillWord s l)) ∧ t.fld F.LANE_EVT_TXUNDER l = 1 ∧
          Counts s t F.LANE_CNT_TX_UNDER_CNT l 0 1) ∧
        (s.fld F.LANE_CTL_TX_SRC l = 1 → ∃ t w, sends t 0 w ∧ w < 2 ^ 256 ∧ (t.lanes.get l).txq = q ∧
          ∀ i, (prbsTaps (s.fld F.LANE_CTL_PRBS l)).1 ≤ i → i < 256 →
            bitOf w i = (bitOf w (i - (prbsTaps (s.fld F.LANE_CTL_PRBS l)).1) != bitOf w (i - (prbsTaps (s.fld F.LANE_CTL_PRBS l)).2))) ∧
        (∀ w, s.fld F.LANE_CTL_TX_SRC l = 2 → k.txSend < txsWords s l → k.txBuf.find? (fun e => e.1 == k.txSend) = some (k.txSend, some w) →
          ∃ t, sends t 0 w ∧ (t.lanes.get l).txSend = k.txSend + 1 ∧
            (k.txSend + 1 = txsWords s l → s.bit F.TXS_CTL_LOOP l = false → t.fld F.TXS_CTL_DONE l = 1)) ∧
        (s.fld F.LANE_CTL_TX_SRC l = 3 → ∃ t, sends t 1 (fillWord s l) ∧ (t.lanes.get l).txq = q)) ∧
      (laneSt s l ≠ 4 → (lp = 1 ∨ lp = 2) → amOn s l = false → s.fld F.LANE_CTL_TX_SRC l = 3 →
        ∃ t, sends t 1 (fillWord s l) ∧ (t.lanes.get l).far = some (fillWord s l % 2 ^ 256)))) ∧
  (∀ (s : State) (l : Nat),
    let k := s.lanes.get l
    exec (.streamSegmentClose l) s = .next (s.updLane l (fun k => { k with segs := k.segs.map (fun g =>
      if g.closed = false ∧ (g.n = 126 ∨ bitOf g.flags 1 = true) then { g with closed := true } else g) })) ∧
    ((192 ≤ l ∨ k.segs = [] ∨ ∃ g rest, k.segs = g :: rest ∧ (g.closed = false ∨ g.out ≠ 0 ∨ g.hdr ≠ 0)) →
      exec (.streamHeaderWrite l) s = .next s) ∧
    (∀ g, l < 192 → k.segs = [g] → g.closed = true → g.out = 0 → g.hdr = 0 → ∃ t r, exec (.streamHeaderWrite l) s = .next t ∧
      t = { s with lanes := t.lanes, reqs := s.reqs ++ [r] } ∧ r.pkt.opc = opWRITE ∧ r.pkt.addr = s.fld F.STRM_BASE_BASE l * 4096 + g.off ∧
      r.pkt.len = 63 ∧ r.pkt.data = segHeader s l g ∧ (t.lanes.get l).segs = [{ g with hdr := 1 }]) ∧
    ((k.segs = [] ∨ ∃ g rest, k.segs = g :: rest ∧ g.hdr ≠ 2) → exec (.streamWpAdvance l) s = .next s) ∧
    (∀ g rest, k.segs = g :: rest → g.hdr = 2 → ∃ t, exec (.streamWpAdvance l) s = .next t ∧ (t.lanes.get l).segs = rest ∧
      t.fld F.STRM_WP_WP l = (s.fld F.STRM_WP_WP l * 4096 + 4096) % strmSize s l / 4096 % 2 ^ F.STRM_WP_WP.w ∧
      t = { s with regs := t.regs, lanes := t.lanes } ∧ FldSame s t [(F.STRM_WP_WP, l)]) ∧
    (let n := txsWords s l
     let reads := l < 192 ∧ quadOwner s (l / 4) = 1 ∧ s.bit F.LANE_CTL_EN l = true ∧ s.fld F.LANE_CTL_TX_SRC l = 2 ∧ n ≠ 0 ∧
       k.txRead - k.txSend < 32 ∧ (k.txRead < n ∨ s.bit F.TXS_CTL_LOOP l = true)
     (¬reads → exec (.txsRead l) s = .next s) ∧
     (reads → ∃ t r, exec (.txsRead l) s = .next t ∧ t = { s with lanes := t.lanes, reqs := s.reqs ++ [r] } ∧ r.pkt.opc = opREAD ∧
       r.pkt.len = 63 ∧ r.pkt.addr = s.fld F.TXS_BASE_BASE l * 64 + 32 * (k.txRead % n) ∧ r.why = .txs l k.txRead ∧
       (t.lanes.get l).txRead = k.txRead + 2)))

/-! ### PCI Express -/

/-- BAR requests, apertures, DMA queues, MSI-X and the endpoint's link and resets (R548, R550, R551, R552, R553, R555,
R556, R557, R558, R559, R560, R562). -/
def Obligations.PcieForms : Prop :=
  (∀ (s : State) (width speed : Nat) (flit : Bool),
    let trains := linkUp s = false ∧ width ∈ [1, 2, 4, 8, 16] ∧ speed ≠ 0 ∧ speed ≤ 6 ∧ bitOf (s.fld F.QREF_GOOD_GOOD) 0 = true ∧
      (s.lanes.get 0).pllLost = false ∧ s.laneRail = false ∧ s.dev ≠ .deepSleep ∧ s.dev ≠ .off
    (¬trains → exec (.pcieLinkUp width speed flit) s = .next s) ∧
    (trains → ∃ t, exec (.pcieLinkUp width speed flit) s = .next t ∧ t.fld F.PCIE_LINK_LINKUP = 1 ∧ t.fld F.PCIE_STATUS_WIDTH = width ∧
      t.fld F.PCIE_STATUS_SPEED = speed ∧ t.fld F.PCIE_STATUS_FLIT = ofBool (flit || speed == 6) ∧
      OnlyRegs s t [(F.PCIE_LINK_LINKUP, 0), (F.PCIE_STATUS_WIDTH, 0), (F.PCIE_STATUS_SPEED, 0), (F.PCIE_STATUS_FLIT, 0)])) ∧
  (∀ (s : State) (tag bar off n : Nat) (ep : Bool) (data : List Byte) (kind size : Nat),
    let busy := ∃ x ∈ s.pcie.bar, x.tag = tag
    let asks := fun (t : State) (opc dev a key len : Nat) => ∃ r, t.reqs = s.reqs ++ [r] ∧ r.pkt.opc = opc ∧ r.pkt.init = 0x380 ∧ r.pkt.dev = dev ∧
      r.pkt.addr = a ∧ r.pkt.keyid = key ∧ r.pkt.len = len ∧ r.phase = 0 ∧ t.regs = s.regs ∧ t.out = s.out ∧
      (opc = opREAD ∨ r.pkt.data = data) ∧ (opc = opWRITE → r.pkt.pmask = if ep then flitMask a data.length else 0) ∧ (opc = opATOMIC → r.pkt.atop = kind)
    let reads := fun (t : State) (m : Nat) => t.pcie = { s.pcie with bar := s.pcie.bar ++ [{ tag := tag, parts := [(0, off, m)] }] }
    let werr := fun (t : State) (code : Nat) => Counts s t F.PCIE_WERR_CNT_COUNT 0 0 1 ∧ Raised s t 0x044 ∧ t.reqs = s.reqs ∧ t.out = s.out ∧
      (s.bit F.PCIE_WERR_VALID = false → t.fld F.PCIE_WERR_VALID = 1 ∧ t.fld F.PCIE_WERR_BAR2 = ofBool (bar == 2) ∧ t.fld F.PCIE_WERR_CODE = code ∧
        t.fld F.PCIE_WADDR_OFFSET = off % 2 ^ F.PCIE_WADDR_OFFSET.w) ∧
      (s.bit F.PCIE_WERR_VALID = true → t.fld F.PCIE_WERR_CODE = s.fld F.PCIE_WERR_CODE)
    ((linkUp s = false ∨ n = 0 ∨ busy) → exec (.barRead tag bar off n) s = .next s) ∧
    (linkUp s = true → n ≠ 0 → ¬busy → barServed s = false → exec (.barRead tag bar off n) s = .next (s.emit (.tlpCpl tag 1 []))) ∧
    (linkUp s = true → n ≠ 0 → ¬busy → barServed s = true → off % 256 + n ≤ 256 →
      (∀ dev a key, barTarget s bar off = some (dev, a, key) → ∃ t, exec (.barRead tag bar off n) s = .next t ∧ asks t opREAD dev a key (n - 1) ∧ reads t n) ∧
      (barTarget s bar off = none → s.pcie.bar = [] → ∃ t, exec (.barRead tag bar off n) s = .next t ∧ t.out = s.out ++ [.tlpCpl tag 1 []] ∧
        t.reqs = s.reqs ∧ t.pcie.bar = [])) ∧
    ((linkUp s = false ∨ data = [] ∨ barServed s = false) → exec (.barWrite bar off ep data) s = .next s) ∧
    (linkUp s = true → data ≠ [] → barServed s = true →
      (off % 256 + data.length ≤ 256 →
        (∀ dev a key, barTarget s bar off = some (dev, a, key) → ∃ t, exec (.barWrite bar off ep data) s = .next t ∧
          asks t opWRITE dev a key (data.length - 1) ∧ t.pcie = s.pcie) ∧
        (barTarget s bar off = none → ∃ t, exec (.barWrite bar off ep data) s = .next t ∧ werr t eUNMAPPED))) ∧
    ((linkUp s = false ∨ busy) → exec (.barAtomic tag bar off kind size data) s = .next s) ∧
    (linkUp s = true → ¬busy →
      (barServed s = false → exec (.barAtomic tag bar off kind size data) s = .next (s.emit (.tlpCpl tag 1 []))) ∧
      (barServed s = true → (bar = 0 ∨ size ≠ 8) → exec (.barAtomic tag bar off kind size data) s = .next (s.emit (.tlpCpl tag 3 []))) ∧
      (barServed s = true → bar ≠ 0 → size = 8 → ∀ dev a key, barTarget s bar off = some (dev, a, key) →
        ∃ t, exec (.barAtomic tag bar off kind size data) s = .next t ∧ asks t opATOMIC dev a key 7 ∧ reads t 8)) ∧
    barTarget s 0 off = some (s.fld F.DEV_ID, csrBase + off % 2 ^ 26, 0)) ∧
  (∀ (s : State) (a v : Nat),
    (64 ≤ a → exec (.apertureEnable a v) s = .next s) ∧
    (a < 64 → ∃ t, exec (.apertureEnable a v) s = .next t ∧
      t.fld F.APT_CFG_LOCAL 0 a = bitsOf v 62 1 ∧ t.fld F.APT_CFG_DEV 0 a = bitsOf v 48 9 ∧ t.fld F.APT_CFG_KEYID 0 a = bitsOf v 40 6 ∧
      (targetOf (s.fld F.APT_BASE_BASE 0 a * 2 ^ 30) = .csr → t.fld F.PCIE_APTSTAT_APTERR = 1 ∧ t.fld F.APT_CFG_EN 0 a = s.fld F.APT_CFG_EN 0 a) ∧
      (targetOf (s.fld F.APT_BASE_BASE 0 a * 2 ^ 30) ≠ .csr → t.fld F.APT_CFG_EN 0 a = 1 ∧ t.fld F.PCIE_APTSTAT_APTERR = s.fld F.PCIE_APTSTAT_APTERR) ∧
      OnlyRegs s t [(F.APT_CFG_EN, 0), (F.APT_CFG_LOCAL, 0), (F.APT_CFG_DEV, 0), (F.APT_CFG_KEYID, 0), (F.PCIE_APTSTAT_APTERR, 0)])) ∧
  (∀ (s : State) (q : Nat) (ok : Bool) (bytes : List Byte),
    let head := s.fld F.SQ_HEAD_HEAD 0 q
    let tail := s.fld F.CQ_TAIL_TAIL 0 q
    let k := s.pcie.dma.get q
    let stops := fun (t : State) (code : Nat) => t.fld F.Q_STATUS_ERR 0 q = 1 ∧ t.fld F.Q_STATUS_ERRCODE 0 q = code ∧ t.fld F.Q_CFG_EN 0 q = 0 ∧
      Raised s t (0x1C0 + q)
    let fetches := q < 64 ∧ dmaServed s = true ∧ s.bit F.Q_CFG_EN 0 q = true ∧ head ≠ s.fld F.SQ_TAIL_TAIL 0 q
    (¬fetches → exec (.dmaDescriptorFetch q ok bytes) s = .next s) ∧
    (fetches → ∃ t, exec (.dmaDescriptorFetch q ok bytes) s = .next t ∧
      t.out = s.out ++ [.tlpRead q head (s.fld F.SQ_BASE_BASE 0 q * 4 + 64 * head) 64 false] ∧
      (ok = false → stops t 1 ∧ (t.pcie.dma.get q).descs = k.descs) ∧
      (ok = true → bytes.length = 64 → (t.pcie.dma.get q).descs = k.descs ++ [{ idx := head, bytes := bytes }] ∧
        t.fld F.SQ_HEAD_HEAD 0 q = (head + 1) % ringLen (s.fld F.Q_CFG_SQ_LOG2N 0 q) % 2 ^ F.SQ_HEAD_HEAD.w)) ∧
    (∀ d ds, k.descs = d :: ds →
      let writes := d.started = true ∧ d.host = 0 ∧ d.noc = 0 ∧ (tail + 1) % ringLen (s.fld F.Q_CFG_CQ_LOG2N 0 q) ≠ s.fld F.CQ_HEAD_HEAD 0 q ∧
        dmaServed s = true
      (¬writes → exec (.dmaCompletionWrite q ok) s = .next s) ∧
      (writes → q < 64 → ∃ t, exec (.dmaCompletionWrite q ok) s = .next t ∧ (t.pcie.dma.get q).descs = ds ∧
        t.out = s.out ++ [.tlpWrite (s.fld F.CQ_BASE_BASE 0 q * 16 + 16 * tail) false false
          (slice d.bytes 32 8 ++ bytesLE 1 d.result.1 ++ bytesLE 1 d.result.2 ++ List.replicate 5 0 ++ bytesLE 1 (ofBool !k.odd))] ∧
        (ok = false → stops t 2) ∧
        (ok = true → t.fld F.CQ_TAIL_TAIL 0 q = (tail + 1) % ringLen (s.fld F.Q_CFG_CQ_LOG2N 0 q) % 2 ^ F.CQ_TAIL_TAIL.w ∧
          (bitOf (fieldLE d.bytes 21 1) 0 = true → Raised s t (0x1C0 + q))))) ∧
    (k.descs = [] → exec (.dmaCompletionWrite q ok) s = .next s) ∧
    (64 ≤ q → exec (.dmaQueueStop q) s = .next s) ∧
    (q < 64 → ∃ t, exec (.dmaQueueStop q) s = .next t ∧ t.fld F.Q_CFG_EN 0 q = 0 ∧ t.fld F.Q_STATUS_STOPPED 0 q = ofBool k.descs.isEmpty ∧
      OnlyRegs s t [(F.Q_CFG_EN, 0), (F.Q_STATUS_STOPPED, 0), (F.Q_STATUS_INFLIGHT, 0)])) ∧
  (∀ (s : State) (q : Nat) (d : DmaDesc), (s.pcie.dma.get q).descs = [d] →
    let len := fieldLE d.bytes 16 4
    let dev := (descDev s d.bytes).1
    let a := (descDev s d.bytes).2
    let starts := d.started = false ∧ q < 64 ∧ dmaServed s = true
    (¬starts → exec (.dmaDescriptorStart q) s = .next s) ∧
    (starts → ∃ t, exec (.dmaDescriptorStart q) s = .next t ∧
      (badDesc d.bytes = true → (t.pcie.dma.get q).descs = [{ d with started := true, fails := [(0, 4, 0)] }] ∧ t.out = s.out ∧ t.reqs = s.reqs) ∧
      (badDesc d.bytes = false → fieldLE d.bytes 20 1 = 0 → (t.pcie.dma.get q).descs = [{ d with started := true, host := len }] ∧
        t.out = s.out ++ [.tlpRead q d.idx (fieldLE d.bytes 0 8) len (bitOf (fieldLE d.bytes 21 1) 2)] ∧ t.reqs = s.reqs) ∧
      (badDesc d.bytes = false → fieldLE d.bytes 20 1 ≠ 0 → a % 256 + len ≤ 256 → a + len ≤ 2 ^ 52 →
        (t.pcie.dma.get q).descs = [{ d with started := true, noc := 1 }] ∧ t.out = s.out ∧
        ∃ r, t.reqs = s.reqs ++ [r] ∧ r.pkt.opc = opREAD ∧ r.pkt.init = 0x3C0 + q ∧ r.pkt.dev = dev ∧ r.pkt.addr = a ∧ r.pkt.len = len - 1)) ∧
    (∀ off n status ep data,
      let part := d.host ≠ 0 ∧ n ≠ 0 ∧ n ≤ d.host
      let err := fun (e : Nat) => s.updDma q (fun k => { k with descs := [{ d with host := d.host - n, fails := d.fails ++ [(off, 3, e)] }] })
      (¬part → exec (.hostCompletion q d.idx off n status ep data) s = .next s ∧ exec (.completionTimeout q d.idx off n) s = .next s) ∧
      (part → exec (.completionTimeout q d.idx off n) s = .next (err 3) ∧
        (status ≠ 0 → exec (.hostCompletion q d.idx off n status ep data) s = .next (err status)) ∧
        (status = 0 → data.length = n → (a + off) % 256 + n ≤ 256 → a + off + n ≤ 2 ^ 52 →
          ∃ t, exec (.hostCompletion q d.idx off n status ep data) s = .next t ∧
            (t.pcie.dma.get q).descs = [{ d with host := d.host - n, noc := d.noc + 1, fails := if ep then d.fails ++ [(off, 2, 0)] else d.fails }] ∧
            ∃ r, t.reqs = s.reqs ++ [r] ∧ r.pkt.opc = opWRITE ∧ r.pkt.init = 0x3C0 + q ∧ r.pkt.dev = dev ∧ r.pkt.addr = a + off ∧
              r.pkt.len = n - 1 ∧ r.pkt.data = data ∧ r.pkt.pmask = if ep then flitMask (a + off) n else 0)))) ∧
  (∀ (s : State) (n : Nat),
    let v := irqTarget s n % 4096
    let claims := irqHostReady s n = true ∧ (s.irqWin.get (irqTarget s n)).st ≠ 1 ∧ irqOpen s = true
    (¬claims → exec (.msixMessage n) s = .next s) ∧
    (claims → (s.irqWin.get (irqTarget s n)).st ≠ 2 → ∃ t, exec (.msixMessage n) s = .next t ∧ t.fld F.IRQ_SRC_ACTIVE 0 n = 1 ∧
      t.fld F.IRQ_SRC_PENDING 0 n = 0 ∧
      (msixMasked s v = true → t.pcie.pba.get v = true ∧ t.out = s.out) ∧
      (msixMasked s v = false → t.out = s.out ++ [.msix v (msixWord s v 0 + msixWord s v 4 * 2 ^ 32) (msixWord s v 8)] ∧ t.pcie = s.pcie))) ∧
  (∀ (s : State) (en fmask bme : Bool),
    let u := s.updPcie (fun c => { c with msixEn := en, funcMask := fmask, bme := bme })
    (linkUp s = false → exec (.msixUnmask en fmask bme) s = .next s) ∧
    (linkUp s = true → (∀ v ∈ s.pcie.pba.keys, msixMasked u v = true) → exec (.msixUnmask en fmask bme) s = .next u) ∧
    (∀ v, linkUp s = true → s.pcie.pba.keys = [v] → msixMasked u v = false → ∃ t, exec (.msixUnmask en fmask bme) s = .next t ∧
      t.out = s.out ++ [.msix v (msixWord s v 0 + msixWord s v 4 * 2 ^ 32) (msixWord s v 8)] ∧ t.pcie.pba.get v = false)) ∧
  (∀ (s : State),
    let fresh := fun (t : State) => t.pcie = {} ∧ (∀ a < 64, t.fld F.APT_CFG_EN 0 a = if a = 0 then 1 else 0) ∧
      (∀ q < 64, t.fld F.Q_CFG_EN 0 q = 0 ∧ t.fld F.SQ_HEAD_HEAD 0 q = 0 ∧ t.fld F.CQ_TAIL_TAIL 0 q = 0 ∧ t.fld F.Q_STATUS_STOPPED 0 q = 1) ∧
      t.fld F.PCIE_STATUS_DSTATE = 0 ∧ t.fld F.PCIE_WERR_VALID = 0 ∧ (∀ o < 0x8000, t.rdB (aMsix o) = 0) ∧ MemSameBut s t (aMsix 0) 0x8000 ∧
      (∀ r ∈ t.reqs, (r.pkt.init = 0x380 ∨ (0x3C0 ≤ r.pkt.init ∧ r.pkt.init < 0x400)) → r.phase ≠ 0 ∧ r.why = .dropped) ∧
      (∀ r, ¬(r.pkt.init = 0x380 ∨ (0x3C0 ≤ r.pkt.init ∧ r.pkt.init < 0x400)) → (r ∈ t.reqs ↔ r ∈ s.reqs))
    let down := fun (t : State) => t.fld F.PCIE_LINK_LINKUP = 0 ∧ t.fld F.PCIE_STATUS_WIDTH = 0 ∧ t.fld F.PCIE_STATUS_SPEED = 0
    (∃ t, exec .perstN s = .next t ∧ fresh t ∧ down t) ∧
    (linkUp s = false → ∀ i ∈ [Instr.hotReset, .functionLevelReset, .d3hot, .d0Return], exec i s = .next s) ∧
    (linkUp s = true → (∃ t, exec .hotReset s = .next t ∧ fresh t ∧ down t) ∧
      (∃ t, exec .functionLevelReset s = .next t ∧ fresh t ∧ linkUp t = true ∧ t.fld F.PCIE_STATUS_WIDTH = s.fld F.PCIE_STATUS_WIDTH) ∧
      (∃ t, exec .d3hot s = .next t ∧ t.fld F.PCIE_STATUS_DSTATE = 3 ∧ OnlyRegs s t [(F.PCIE_STATUS_DSTATE, 0)]) ∧
      (∃ t, exec .d0Return s = .next t ∧ t.fld F.PCIE_STATUS_DSTATE = 0 ∧ OnlyRegs s t [(F.PCIE_STATUS_DSTATE, 0)])))

/-! ### Warp links and discovery -/

/-- A warp port is enabled, sends and receives flits, and goes down (R565, R568, R569, R572, R573, R574, R575, R577,
R578, R579). -/
def Obligations.WarpLinkForms : Prop :=
  (∀ (s : State) (p v : Nat),
    let q := bitsOf v 8 6
    let takes := 4 ≤ q ∧ q ≤ 47 ∧ quadOwner s q = 3 ∧ portOfQuad s q = none
    ((12 ≤ p ∨ s.bit F.WARP_CFG_EN p = true) → exec (.warpPortEnable p v) s = .next s) ∧
    (p < 12 → s.bit F.WARP_CFG_EN p = false → ∃ t, exec (.warpPortEnable p v) s = .next t ∧ t.fld F.WARP_CFG_QUAD p = q ∧
      (takes → t.fld F.WARP_CFG_EN p = 1 ∧
        (s.fld F.WARP_STATUS_STATE p = 0 → t.fld F.WARP_STATUS_STATE p = 1 ∧ ∀ m ∈ quadLanes q, LaneStarts t m 0) ∧
        (s.fld F.WARP_STATUS_STATE p ≠ 0 → OnlyRegs s t [(F.WARP_CFG_EN, p), (F.WARP_CFG_QUAD, p)])) ∧
      (¬takes → t.fld F.WARP_EVT_QUADERR p = 1 ∧ OnlyIrq s t [(F.WARP_CFG_QUAD, p), (F.WARP_EVT_QUADERR, p)]))) ∧
  (∀ (s : State) (p : Nat),
    let st := s.fld F.WARP_STATUS_STATE p
    let w := s.warp.get p
    let sends := fun (t : State) (kind seq : Nat) (body : List Byte) => exec (.warpFlitSend p) s = .next t ∧
      (∃ h, t.out = s.out ++ [.flit p kind seq (mkFlit h body)]) ∧ t.fld F.TX_FLITS p = (s.fld F.TX_FLITS p + 1) % 2 ^ F.TX_FLITS.w ∧
      FldSame s t [(F.TX_FLITS, p)] ∧ (∀ j, j ≠ p → t.warp.get j = s.warp.get j) ∧ t = { s with regs := t.regs, warp := t.warp, out := t.out } ∧
      (∀ c < 4, (t.warp.get p).freed.get c = w.freed.get c - min 15 (w.freed.get c))
    let seqs := fun (t : State) (kind : Nat) (body : List Byte) => sends t kind w.seq body ∧ (t.warp.get p).seq = (w.seq + 1) % 4096 ∧
      (t.warp.get p).unacked = w.unacked ++ [{ seq := w.seq, kind := kind, body := body }]
    ((12 ≤ p ∨ (st ≠ 2 ∧ st ≠ 3) ∨ warpSilent s p = true) → exec (.warpFlitSend p) s = .next s) ∧
    (p < 12 → (st = 2 ∨ st = 3) → warpSilent s p = false →
      (∀ r n b q, w.reedTx = (r, n, b) :: q → ∃ t, sends t 3 0 (List.replicate 8 0 ++ withAck b ((w.rexpect + 65535) % 65536)) ∧
        (t.warp.get p).reedTx = (if n ≤ 1 then q else (r, n - 1, b) :: q) ∧ (t.warp.get p).unacked = w.unacked) ∧
      (w.reedTx = [] →
        (w.ackOwed = true → ∃ t, sends t 3 0 (List.replicate 8 0 ++ symBytes { kind := 3 } ((w.rexpect + 65535) % 65536) true) ∧
          (t.warp.get p).ackOwed = false ∧ (t.warp.get p).reedTx.length = 1) ∧
        (w.ackOwed = false →
          (∀ f, w.replay ≠ 0 → w.unacked[w.unacked.length - w.replay]? = some f →
            ∃ t, sends t f.kind f.seq f.body ∧ (t.warp.get p).replay = w.replay - 1 ∧ (t.warp.get p).unacked = w.unacked) ∧
          (w.replay = 0 → 64 ≤ w.unacked.length → ∃ t, sends t 0 0 [] ∧ (t.warp.get p).unacked = w.unacked) ∧
          (w.replay = 0 → w.unacked.length < 64 →
            (∀ d q, w.disc = d :: q → ∃ t, seqs t 2 d ∧ (t.warp.get p).disc = q) ∧
            (w.disc = [] →
              (∀ u, st = 3 → w.half = none → w.units = [u] → u.head = true → w.credit.get u.cls ≠ 0 →
                ∃ t, seqs t 1 (slotsBody [(1 + 4 * u.cls, u.data.take 32)]) ∧ (t.warp.get p).units = [] ∧
                  (t.warp.get p).credit.get u.cls = w.credit.get u.cls - 1) ∧
              ((st = 2 ∨ (w.half = none ∧ ∀ u ∈ w.units, w.credit.get u.cls = 0)) → ∃ t, sends t 0 0 [] ∧ (t.warp.get p).units = w.units ∧
                (t.warp.get p).unacked = w.unacked)))))) ) ∧
  (∀ (s : State) (p : Nat) (bytes : List Byte),
    let st := s.fld F.WARP_STATUS_STATE p
    let w := s.warp.get p
    let n := (readFlit bytes).1
    let rcv := fun (t : State) => exec (.warpFlitReceive p bytes) s = .next t ∧ Counts s t F.WARP_ERRCNT_FEC_CORR_CNT p 0 n
    ((12 ≤ p ∨ (st ≠ 2 ∧ st ≠ 3)) → exec (.warpFlitReceive p bytes) s = .next s) ∧
    (p < 12 → (st = 2 ∨ st = 3) →
      ((readFlit bytes).2 = none → ∃ t, rcv t ∧ Counts s t F.WARP_ERRCNT_CRC_ERR_CNT p 0 1 ∧ (t.warp.get p).rtry = !w.rtrySent ∧
        (t.warp.get p).expect = w.expect ∧ (t.warp.get p).unacked = w.unacked) ∧
      (∀ d, (readFlit bytes).2 = some d →
        let h := fieldLE d 0 8
        let kind := h % 16
        let seq := bitsOf h 4 12
        let ack := bitsOf h 16 12
        let credited := fun (t : State) => ∀ c < 4, (t.warp.get p).credit.get c = min 128 (w.credit.get c + bitsOf h (32 + 4 * c) 4)
        ∃ t, rcv t ∧ t.fld F.RX_FLITS p = (s.fld F.RX_FLITS p + 1) % 2 ^ F.RX_FLITS.w ∧
          (3 < kind → Counts s t F.WARP_DROP_DROP_CNT p 0 1 ∧ t.warp = s.warp) ∧
          (kind = 0 → bitOf h 29 = false → credited t ∧ (t.warp.get p).expect = w.expect ∧
            (∀ k, bitOf h 28 = true → w.unacked.findIdx? (fun f => f.seq == ack) = some k → (t.warp.get p).unacked = w.unacked.drop (k + 1) ∧
              (t.warp.get p).replays = 0) ∧
            ((bitOf h 28 = false ∨ ∀ f ∈ w.unacked, f.seq ≠ ack) → (t.warp.get p).unacked = w.unacked)) ∧
          (kind = 0 → bitOf h 28 = false → bitOf h 29 = true →
            (w.replay ≠ 0 → w.replayAck = some ack → (t.warp.get p).replay = w.replay) ∧
            (w.unacked = [] → (t.warp.get p).replay = w.replay ∧ (t.warp.get p).replays = w.replays) ∧
            (w.unacked ≠ [] → ¬(w.replay ≠ 0 ∧ w.replayAck = some ack) → w.replays < 15 → (t.warp.get p).replay = w.unacked.length ∧
              (t.warp.get p).replays = w.replays + 1 ∧ Counts s t F.WARP_REPLAY_REPLAY_CNT p 0 1) ∧
            (w.unacked ≠ [] → ¬(w.replay ≠ 0 ∧ w.replayAck = some ack) → 15 ≤ w.replays → t.fld F.WARP_STATUS_STATE p = 4 ∧ t.fld F.WARP_STATUS_CAUSE p = 2)) ∧
          (kind = 3 → bitOf h 28 = false → bitOf h 29 = false →
            (w.rpassed = some (bitsOf h 48 16) → (t.warp.get p).reedIn = w.reedIn) ∧
            (w.rpassed ≠ some (bitsOf h 48 16) → (t.warp.get p).reedIn = w.reedIn ++ [(bitsOf h 48 16, slice d 16 224)])) ∧
          ((kind = 1 ∨ kind = 2) → bitOf h 28 = false → bitOf h 29 = false → seq ≠ w.expect →
            credited t ∧ (t.warp.get p).expect = w.expect ∧
            (t.warp.get p).rtry = (if (seq + 4096 - w.expect) % 4096 < 2048 then !w.rtrySent else w.rtry)) ∧
          (kind = 1 → bitOf h 28 = false → bitOf h 29 = false → seq = w.expect → (st = 2 ∨ fieldLE d 8 8 = 0) →
            credited t ∧ (t.warp.get p).expect = (w.expect + 1) % 4096 ∧ (t.warp.get p).ackv = true ∧ (t.warp.get p).rtry = false)))) ∧
  (∀ (s : State) (p : Nat),
    let st := s.fld F.WARP_STATUS_STATE p
    let q := s.fld F.WARP_CFG_QUAD p
    ((12 ≤ p ∨ (st ≠ 2 ∧ st ≠ 3)) → exec (.keepaliveTimeout p) s = .next s) ∧
    (p < 12 → (st = 2 ∨ st = 3) → ∃ t, exec (.keepaliveTimeout p) s = .next t ∧ t.fld F.WARP_STATUS_STATE p = 4 ∧ t.fld F.WARP_STATUS_CAUSE p = 1 ∧
      t.fld F.WARP_EVT_DOWN p = 1 ∧ Counts s t F.WARP_REPLAY_DOWN_CNT p 0 1 ∧ (∀ c < 4, (t.warp.get p).credit.get c = 128) ∧
      (t.warp.get p).unacked = [] ∧ (∀ c < 4, (t.warp.get p).rx.filter (·.cls == c) =
        let us := (s.warp.get p).rx.filter (·.cls == c); wholeUnits us.length us) ∧ t.disco.gen = s.disco.gen + (if st = 3 then 1 else 0)) ∧
    (st ≠ 4 → exec (.linkHoldExpiry p) s = .next s) ∧
    (st = 4 → s.bit F.WARP_CFG_EN p = false → ∃ t, exec (.linkHoldExpiry p) s = .next t ∧ t.fld F.WARP_STATUS_STATE p = 0 ∧
      OnlyRegs s t [(F.WARP_STATUS_STATE, p)]) ∧
    (st = 4 → s.bit F.WARP_CFG_EN p = true → p < 12 → quadOwner s q = 3 → ∃ t, exec (.linkHoldExpiry p) s = .next t ∧
      t.fld F.WARP_STATUS_STATE p = 1 ∧ ∀ m ∈ quadLanes q, LaneStarts t m 0))

/-- Discovery starts, records peers and link states, settles, and readmits a device (R581, R582, R583, R584, R586,
R588, R591). -/
def Obligations.DiscoveryForms : Prop :=
  (∀ (s : State),
    let st := s.fld F.WARP_SYS_STATUS_STATE
    (st ≠ 0 → st ≠ 2 → exec .discoveryStart s = .next s) ∧
    ((st = 0 ∨ st = 2) → ∃ t, exec .discoveryStart s = .next t ∧ t.fld F.WARP_SYS_STATUS_STATE = 1 ∧ t.disco.gen = s.disco.gen + 1 ∧
      t.disco.changed = true ∧ OnlyRegs { s with warp := t.warp, disco := t.disco } t [(F.WARP_SYS_STATUS_STATE, 0)] ∧
      ∀ p < 12, (s.fld F.WARP_STATUS_STATE p = 2 ∨ s.fld F.WARP_STATUS_STATE p = 3) → (t.warp.get p).helloSent = true) ∧
    exec .routeDrainEnd s = .next { s with disco := { s.disco with drain := [] } } ∧
    (st ≠ 3 → exec .rejoin s = .next s) ∧
    (st = 3 → ∃ t, exec .rejoin s = .next t ∧ t.disco.rejoin = true ∧ t.disco.gen = s.disco.gen + 1 ∧ t.regs = s.regs ∧
      ∃ r ∈ t.disco.recs, r.uid = s.fld F.DEV_UID ∧ r.gen = s.disco.gen + 1 ∧ r.isol = s.disco.isolating)) ∧
  (∀ (s : State) (p : Nat) (bytes d : List Byte), p < 12 → (readFlit bytes).2 = some d →
    let st := s.fld F.WARP_STATUS_STATE p
    let h := fieldLE d 0 8
    let b := slice d 8 232
    let r := discRec b
    h % 16 = 2 → bitOf h 28 = false → bitOf h 29 = false → bitsOf h 4 12 = (s.warp.get p).expect →
      (st = 2 → fieldLE b 0 1 = 1 → ∃ t, exec (.warpFlitReceive p bytes) s = .next t ∧ t.fld F.PEER_UID p = r.uid % 2 ^ F.PEER_UID.w ∧
        t.fld F.WARP_STATUS_PEER_PORT p = fieldLE b 1 1 % 2 ^ F.WARP_STATUS_PEER_PORT.w ∧ t.fld F.WARP_STATUS_PEER_DEVV p = ofBool r.held.isSome ∧
        (r.uid = s.fld F.DEV_UID → t.fld F.WARP_STATUS_STATE p = 5 ∧ t.fld F.WARP_STATUS_CAUSE p = 5 ∧ t.fld F.WARP_EVT_REJECT p = 1) ∧
        (r.uid ≠ s.fld F.DEV_UID → t.fld F.WARP_STATUS_STATE p = 3 ∧ t.fld F.WARP_EVT_UP p = 1 ∧ t.disco.gen = s.disco.gen + 1)) ∧
      (st = 3 → fieldLE b 0 1 = 2 → r.uid ≠ s.fld F.DEV_UID →
        let held := s.disco.recs.find? (fun x => x.uid == r.uid)
        ((held = none ∨ ∃ x, held = some x ∧ x.gen < r.gen) → ∃ t, exec (.warpFlitReceive p bytes) s = .next t ∧ r ∈ t.disco.recs ∧
          (∀ x ∈ t.disco.recs, x.uid = r.uid → x = r) ∧ t.disco.changed = true ∧
          ∀ k < 12, k ≠ p → s.fld F.WARP_STATUS_STATE k = 3 → (t.warp.get k).disc = (s.warp.get k).disc ++ [b.set 1 (BitVec.ofNat 8 k)]) ∧
        ((∃ x, held = some x ∧ r.gen ≤ x.gen) → ∃ t, exec (.warpFlitReceive p bytes) s = .next t ∧ t.disco = s.disco))) ∧
  (∀ (s : State),
    let st := s.fld F.WARP_SYS_STATUS_STATE
    let uid := s.fld F.DEV_UID
    let s0 : State := { s with disco := { s.disco with changed := false } }
    let rs := settleRecs s0
    let part := settlePart rs uid
    let ids := assignIds rs part
    let root := ids.foldl (fun m e => min m e.2) 511
    ((st = 0 ∨ st = 4 ∨ s.disco.changed = false) → exec .settle s = .next s) ∧
    (st ≠ 0 → st ≠ 4 → s.disco.changed = true →
      (((st = 3 ∧ s.disco.rejoin = false) ∨ s.disco.isolating = true) → exec .settle s = .next s0) ∧
      (¬((st = 3 ∧ s.disco.rejoin = false) ∨ s.disco.isolating = true) → s.reed.colls = [] → s.reed.modes = [] → s.reed.kept = [] →
        ∃ t, exec .settle s = .next t ∧ t.fld F.WARP_SYS_STATUS_GEN = (s.fld F.WARP_SYS_STATUS_GEN + 1) % 2 ^ F.WARP_SYS_STATUS_GEN.w ∧
        (continues (s.disco.members.map (·.1)) s.disco.root part = false → t.fld F.WARP_SYS_STATUS_CAUSE = 1 ∧ t.disco.isolating = true ∧ t.fld F.WARP_SYS_EVT_TOPO = 1 ∧
          t.disco.gen = s.disco.gen + 1 ∧ t.fld F.TB_TREE_LEVEL = 0 ∧
          ∀ d < 512, s.bit F.WARP_RT_LOCAL 0 d = false → t.fld F.WARP_RT_VALID 0 d = 0) ∧
        (continues (s.disco.members.map (·.1)) s.disco.root part = true →
          (∀ e, ids.find? (fun e => e.1 == uid) = some e → e.2 < 512 → t.fld F.WARP_SYS_STATUS_STATE = 2 ∧ t.fld F.WARP_SYS_STATUS_CAUSE = 0 ∧
            t.fld F.DEV_ID = e.2 ∧ t.disco.members = ids ∧ t.disco.rejoin = false ∧
            t.fld F.WARP_SYS_STATUS_MEMBERS = ids.length % 2 ^ F.WARP_SYS_STATUS_MEMBERS.w ∧
            t.fld F.WARP_SYS_STATUS_ROOT = root % 2 ^ F.WARP_SYS_STATUS_ROOT.w ∧
            t.fld F.WARP_RT_LOCAL 0 e.2 = 1 ∧ t.fld F.WARP_RT_VALID 0 e.2 = 1 ∧
            ∀ d < 512, d ≠ e.2 → t.fld F.WARP_RT_LOCAL 0 d = 0 ∧ ((∀ x ∈ ids, x.2 ≠ d) → t.fld F.WARP_RT_VALID 0 d = 0)) ∧
          ((∀ e ∈ ids, e.1 ≠ uid) → t.fld F.WARP_SYS_STATUS_STATE = 4 ∧
            t.fld F.WARP_SYS_STATUS_CAUSE = (if (ownRec s0).held.isSome then 2 else 3) ∧ t.fld F.TB_TREE_LEVEL = 0 ∧
            t.fld F.WARP_SYS_EVT_TOPO = 1)))))

/-! ### Reed -/

namespace Sys2Proof.Claims
open Sys2Proof Machine
/-- Operation slot `sl` is done with a status, a result where the spec states one, and its source is raised (R609). -/
def SlotEnds (s t : State) (sl st res : Nat) (ovf : Bool) : Prop :=
  t.fld F.REED_OP_CTL_STATE 0 sl = 2 ∧ t.fld F.REED_OP_CTL_STATUS 0 sl = st ∧
  (resultStated (s.fld F.REED_OP_CTL_OP 0 sl) st = true → t.fld F.REED_OP_RESULT_RESULT 0 sl = res % 2 ^ 64) ∧
  t.fld F.REED_OP_CTL_RESULT_OVF 0 sl = ofBool ovf ∧ t.fld F.REED_OP_CTL_GO 0 sl = 0 ∧ t.reed.busy.get sl = 0 ∧ Raised s t (0x170 + sl)
/-- The OPID that slot `sl` would take now (R609). -/
def nextOpid (s : State) (sl : Nat) : Nat :=
  s.fld F.DEV_ID + sl * 2 ^ 9 + s.fld F.REED_OP_CTL_COLL_ID 0 sl * 2 ^ 16 + s.reed.seq % 65536 * 2 ^ 32 + s.fld F.WARP_SYS_STATUS_GEN * 2 ^ 48
/-- A symbol has been queued on port `p` with the next RSEQ. -/
def SymQueued (s t : State) (p : Nat) (y : RSym) : Prop :=
  (t.warp.get p).reedUnacked = (s.warp.get p).reedUnacked ++ [((s.warp.get p).rseq, symBytes y 0 false)] ∧
  (t.warp.get p).rseq = ((s.warp.get p).rseq + 1) % 65536
end Sys2Proof.Claims

/-- GO in an operation slot: barriers, reductions, broadcasts, scheduled operations and mode changes (R608, R609,
R610, R611, R612, R613, R614, R615, R617, R618, R620). -/
def Obligations.ReedSlotForms : Prop :=
  (∀ (s : State) (sl : Nat), ∀ x ∈ [(Instr.reedBarrier sl, 1), (.reedBroadcast sl, 2), (.reedReduce sl, 3), (.reedSnapshot sl, 4), (.reedReset sl, 5),
      (.reedMode sl, 6)],
    let st := s.fld F.WARP_SYS_STATUS_STATE
    let o := nextOpid s sl
    let n := s.fld F.REED_OP_PICK_PICK 0 sl
    let arg := s.fld F.REED_OP_ARG_ARG 0 sl
    let func := s.fld F.REED_OP_CTL_FUNC 0 sl
    let ends := fun (e res : Nat) => ∃ t, exec x.1 s = .next t ∧ SlotEnds s t sl e res false ∧ MemSame s t
    let alone := isRoot s = true ∧ childPorts s = []
    ((8 ≤ sl ∨ s.fld F.REED_OP_CTL_OP 0 sl ≠ x.2 ∨ s.fld F.REED_OP_CTL_STATE 0 sl = 1) → exec x.1 s = .next s) ∧
    (sl < 8 → s.fld F.REED_OP_CTL_OP 0 sl = x.2 → s.fld F.REED_OP_CTL_STATE 0 sl ≠ 1 →
      ((st = 3 ∨ st = 4) → ends 6 0) ∧
      (st ≠ 3 → st ≠ 4 →
        ((x.2 = 1 ∨ (x.2 = 3 ∧ func ≠ 7)) → func < 8 → s.reed.colls = [] →
          (alone → ends 0 (if x.2 = 3 then arg else 0)) ∧
          (hasParent s = true → childPorts s = [] → ∃ t, exec x.1 s = .next t ∧ t.fld F.REED_OP_CTL_STATE 0 sl = 1 ∧
            SymQueued s t (s.fld F.TB_TREE_PPORT) { kind := 1, op := x.2, flags := func, opid := o, arg := arg, count := 1 } ∧
            t.reed.colls = [{ coll := s.fld F.REED_OP_CTL_COLL_ID 0 sl, slots := [sl], sent := true }])) ∧
        (x.2 = 3 → func = 7 → ends 9 0) ∧
        (x.2 = 2 →
          let len := s.fld F.REED_OP_LEN_LEN 0 sl
          let a := s.fld F.REED_OP_BUF_BUF 0 sl
          ((len = 0 ∨ 256 < len ∨ 2 ^ 62 ≤ a) → ends 9 0) ∧
          (len ≠ 0 → len ≤ 256 → a < 2 ^ 62 → ∃ t r, exec x.1 s = .next t ∧ t.fld F.REED_OP_CTL_STATE 0 sl = 1 ∧ t.reqs = s.reqs ++ [r] ∧
            r.pkt.opc = opREAD ∧ r.pkt.init = 0x4C4 ∧ r.pkt.len = len - 1 ∧ r.pkt.addr = a % 2 ^ 52 ∧
            r.pkt.dev = (if bitOf a 61 then s.fld F.DEV_ID else bitsOf a 52 9) ∧ r.why = .reedRd sl)) ∧
        ((x.2 = 4 ∨ x.2 = 5) → alone → (∀ k < 8, s.reed.busy.get k ≠ o + 1) →
          let lead := s.pick < n ∧ s.now + 10 + s.fld F.TB_TREE_DEPTH * 80 + 100 ≤ bTime s n
          (¬lead → ∃ t, exec x.1 s = .next t ∧ SlotEnds s t sl 4 0 false ∧ t.reed.kept = s.reed.kept) ∧
          (lead → ∃ t, exec x.1 s = .next t ∧ SlotEnds s t sl 0 0 false ∧
            t.reed.kept = s.reed.kept ++ [{ sym := { op := x.2, ts := s.fld F.REED_OP_CTL_TAG 0 sl, opid := o, pick := n } }] ∧
            (x.2 = 4 → t.fld F.REED_SNAPLOG_TAG = s.fld F.REED_OP_CTL_TAG 0 sl % 2 ^ F.REED_SNAPLOG_TAG.w ∧
              t.fld F.REED_SNAPLOG_PICK_PICK = n % 2 ^ F.REED_SNAPLOG_PICK_PICK.w))) ∧
        (x.2 = 6 →
          let loc := s.bit F.REED_OP_CTL_SCOPE 0 sl
          let starts := fun (m : RMode) => ∃ t, exec x.1 s = .next t ∧ t.reed.modes = s.reed.modes ++ [m] ∧ t.fld F.REED_OP_CTL_STATE 0 sl = 1 ∧
            (m.joined = true → t.fld F.MODE_STATE_STATE = 1 ∧ t.fld F.MODE_STATUS_OPID = o % 2 ^ F.MODE_STATUS_OPID.w ∧ t.fld F.MODE_CTL_READY = 0 ∧
              ∀ g ∈ s.staged, s.fld F.STAGE_CTL_POLICY g.hu = 2 → t.fld F.UNIT_STATUS_ARMED g.hu = 1)
          (n ≤ arg → ends 9 0) ∧
          (arg < n → loc = true → s.reed.modes ≠ [] → ends 5 0) ∧
          (arg < n → loc = true → s.reed.modes = [] →
            (modeLead s (s.now + 10) arg n 0 = false → ends 4 0) ∧
            (modeLead s (s.now + 10) arg n 0 = true → starts
              { opid := o, sys := false, n := n, d := arg, swack := s.bit F.REED_OP_CTL_SWACK 0 sl, slot := sl, gen := s.fld F.WARP_SYS_STATUS_GEN })) ∧
          (arg < n → loc = false → alone → (∀ k < 8, s.reed.busy.get k ≠ o + 1) →
            ((∃ m ∈ s.reed.modes, m.sys = true) → ends 5 0) ∧
            ((∀ m ∈ s.reed.modes, m.sys = false) →
              (modeLead s (s.now + 10) arg n (s.fld F.TB_TREE_DEPTH) = false → ends 4 0) ∧
              (modeLead s (s.now + 10) arg n (s.fld F.TB_TREE_DEPTH) = true → starts
                { opid := o, n := n, d := arg, swack := s.bit F.REED_OP_CTL_SWACK 0 sl, joined := !localMode s, gen := s.fld F.WARP_SYS_STATUS_GEN }))))))) ∧
  (∀ (s : State),
    (s.reed.modes = [] → ∃ t, exec .modeSoftwareReady s = .next t ∧ t.fld F.MODE_CTL_READY = 1 ∧ OnlyRegs s t [(F.MODE_CTL_READY, 0)]) ∧
    (∀ m, s.reed.modes = [m] → m.sys = true → m.sent = false → m.dec = none → m.joined = true → m.kids = [] → hasParent s = true → childPorts s = [] →
      s.bit F.TB_EVT_PICKMM = false → armedUnits s = [] → ∃ t, exec .modeSoftwareReady s = .next t ∧ t.fld F.MODE_CTL_READY = 1 ∧
        t.reed.modes = [{ m with sent := true }] ∧ SymQueued s t (s.fld F.TB_TREE_PPORT) { kind := 1, op := 7, opid := m.opid, pick := m.n, flags := 32 }) ∧
    ((s.reed.ringQ = [] ∨ s.reed.ringOut ≠ none) → exec .broadcastRingWrite s = .next s) ∧
    (∀ e q, s.reed.ringQ = e :: q → s.reed.ringOut = none →
      let z := ringSize s
      ((s.fld F.BC_WP_WP + 1) % z = s.fld F.BC_RP_RP % z → ∃ t, exec .broadcastRingWrite s = .next t ∧ t.reed = { s.reed with ringQ := q } ∧
        Counts s t F.REED_STAT_BC_DROP_CNT 0 0 1 ∧ t.reqs = s.reqs) ∧
      ((s.fld F.BC_WP_WP + 1) % z ≠ s.fld F.BC_RP_RP % z → ∃ t r1 r2, exec .broadcastRingWrite s = .next t ∧
        t = { s with reed := { s.reed with ringQ := q, ringOut := some (2, false) }, reqs := s.reqs ++ [r1, r2] } ∧
        (let a := s.fld F.BC_BASE_BASE * 512 + s.fld F.BC_WP_WP % z * 512
         r1.pkt.addr = a ∧ r2.pkt.addr = a + 256) ∧ (∀ r ∈ [r1, r2], r.pkt.opc = opWRITE ∧ r.pkt.len = 255 ∧ r.pkt.init = 0x4C4) ∧
        r1.pkt.data ++ r2.pkt.data = (bytesLE 8 e.opid ++ bytesLE 8 e.len ++ bytesLE 8 e.time ++ List.replicate 40 0 ++ e.data ++ List.replicate 448 0).take 512)) ∧
    (∀ sl, let runs := sl < 8 ∧ s.fld F.REED_OP_CTL_STATE 0 sl = 1 ∧ s.fld F.REED_TO ≠ 0 ∧ ∃ c ∈ s.reed.colls, sl ∈ c.slots
      (¬runs → exec (.reedCollectiveTimeout sl) s = .next s) ∧
      (runs → ∃ t, exec (.reedCollectiveTimeout sl) s = .next t ∧ SlotEnds s t sl 3 0 false ∧ ∀ c ∈ t.reed.colls, sl ∉ c.slots)))

/-- Symbols on a hop, their acknowledgement, and the measurement of the timebase (R598, R599, R602, R608, R610, R611,
R612). -/
def Obligations.ReedHopForms : Prop :=
  (∀ (s : State) (p : Nat),
    exec (.reedResendTimeout p) s = .next (s.updWp p (fun w => { w with reedTx := (w.reedUnacked.take 8).map (fun e => (e.1, 2, e.2)) })) ∧
    (∀ t1, ((hasParent s = false ∨ s.fld F.WARP_STATUS_STATE (s.fld F.TB_TREE_PPORT) ≠ 3) → exec (.tbCalibration t1) s = .next s) ∧
      (hasParent s = true → s.fld F.WARP_STATUS_STATE (s.fld F.TB_TREE_PPORT) = 3 → ∃ t, exec (.tbCalibration t1) s = .next t ∧
        t = { s with warp := t.warp } ∧ SymQueued s t (s.fld F.TB_TREE_PPORT) { kind := 4, pick := t1 } ∧
        ((s.warp.get (s.fld F.TB_TREE_PPORT)).reedUnacked.length < 8 → (t.warp.get (s.fld F.TB_TREE_PPORT)).reedTx =
          (s.warp.get (s.fld F.TB_TREE_PPORT)).reedTx ++ [((s.warp.get (s.fld F.TB_TREE_PPORT)).rseq, 2, symBytes { kind := 4, pick := t1 } 0 false)]))) ∧
    ((s.fld F.TB_STATUS_STATE = 0 ∨ s.reed.par = none) → exec .tbResync s = .next s) ∧
    (s.fld F.TB_STATUS_STATE ≠ 0 → s.reed.par ≠ none → exec .tbResync s = .next ((s.clrFld F.TB_EVT_PICKMM).updReed (fun r => { r with resync := true })))) ∧
  (∀ (s : State) (p tr ta : Nat), ((12 ≤ p ∨ (s.warp.get p).reedIn = []) → exec (.reedSymbolReceive p tr ta) s = .next s)) ∧
  (∀ (s : State) (p tr ta r : Nat) (b : List Byte) (q : List (Nat × List Byte)), p < 12 → (s.warp.get p).reedIn = (r, b) :: q → bitOf (fieldLE b 6 1) 0 = false →
    let w := s.warp.get p
    let y := symOf b
    let rcv := fun (t : State) => exec (.reedSymbolReceive p tr ta) s = .next t ∧ (t.warp.get p).reedIn = q
    let ok := fun (t : State) => rcv t ∧ (t.warp.get p).rexpect = (r + 1) % 65536 ∧ (t.warp.get p).ackOwed = true
    (y.kind = 3 → ∃ t, rcv t ∧ (t.warp.get p).rexpect = w.rexpect ∧ t = { s with warp := t.warp }) ∧
    (y.kind ≠ 3 → r ≠ w.rexpect → ∃ t, rcv t ∧ (t.warp.get p).rexpect = w.rexpect ∧ (t.warp.get p).ackOwed = true ∧ t = { s with warp := t.warp }) ∧
    (r = w.rexpect →
      (y.kind = 4 → ∃ t, ok t ∧ SymQueued s t p { kind := 5, pick := y.pick, arg := tr, count := ta, ext := schedule s } ∧ t = { s with warp := t.warp }) ∧
      (y.kind = 5 → (hasParent s = false ∨ s.fld F.TB_TREE_PPORT ≠ p) → ∃ t, ok t ∧ t = { s with warp := t.warp }) ∧
      (y.kind = 5 → hasParent s = true → s.fld F.TB_TREE_PPORT = p →
        let off := (tsDiff y.arg y.pick - tsDiff tr y.count) / 2
        let ps := (tsDiff y.arg y.pick - tsDiff tr y.count) * 1000 / 512
        let st := s.fld F.TB_STATUS_STATE
        ∃ t, ok t ∧ t.fld F.TB_OFFSET_OFFSET = (BitVec.ofInt 32 ps).toNat ∧
          (st = 1 → t.fld F.TB_STATUS_STATE = 4 ∧ t.fld F.PICK_NS = y.ext.1 % 2 ^ F.PICK_NS.w ∧ t.fld F.ORIGIN_T = y.ext.2.1 % 2 ^ 64 ∧
            t.fld F.ORIGIN_N = y.ext.2.2 % 2 ^ 64 ∧ t.now = (BitVec.ofInt 64 (s.now + off / 256)).toNat) ∧
          (st ≠ 1 → t.now = s.now ∧ schedule t = schedule s) ∧
          ((st = 2 ∨ st = 4) → t.reed.par = some y.ext ∧ (y.ext ≠ schedule s → t.fld F.TB_EVT_PICKMM = 1) ∧
            (ps.natAbs ≤ 100 → 15 ≤ s.reed.good → t.fld F.TB_STATUS_STATE = 2) ∧ (100 < ps.natAbs → t.fld F.TB_STATUS_STATE = 4))) ∧
      (y.kind = 1 → (y.op = 1 ∨ y.op = 3) → symRoom s y = true → opGen y.opid ≠ s.fld F.WARP_SYS_STATUS_GEN →
        ∃ t, ok t ∧ Counts s t F.REED_DISC_REED_DISC_CNT 0 0 1 ∧ t.reed = s.reed) ∧
      (y.kind = 2 → (y.op = 1 ∨ y.op = 3) → s.reed.colls = [] → ∃ t, ok t ∧ Counts s t F.REED_DISC_REED_DISC_CNT 0 0 1 ∧ t.reed = s.reed) ∧
      (∀ sl, y.kind = 1 → y.op = 3 → y.flags < 7 → isRoot s = true → childPorts s = [p] → opGen y.opid = s.fld F.WARP_SYS_STATUS_GEN →
        sl < 8 → s.fld F.REED_OP_CTL_OP 0 sl = 3 → s.fld F.REED_OP_CTL_FUNC 0 sl = y.flags →
        s.reed.colls = [{ coll := opColl y.opid, slots := [sl] }] →
        let v := combine64 y.flags (s.fld F.REED_OP_ARG_ARG 0 sl) y.arg
        ∃ t z, ok t ∧ SlotEnds s t sl 0 v.1 v.2 ∧ t.reed.colls = [] ∧ SymQueued s t p z ∧ z.kind = 2 ∧ z.op = 3 ∧ z.arg = v.1 ∧ z.ts = 0))) ∧
  (∀ (f a b : Nat), a < 2 ^ 64 → b < 2 ^ 64 →
    let sum := (BitVec.ofNat 64 a).toInt + (BitVec.ofNat 64 b).toInt
    (combine64 0 a b).1 = a &&& b ∧ (combine64 1 a b).1 = a ||| b ∧ (combine64 4 a b).1 = min a b ∧ (combine64 5 a b).1 = max a b ∧
    (BitVec.ofNat 64 (combine64 2 a b).1).toInt = min (BitVec.ofNat 64 a).toInt (BitVec.ofNat 64 b).toInt ∧
    (BitVec.ofNat 64 (combine64 3 a b).1).toInt = max (BitVec.ofNat 64 a).toInt (BitVec.ofNat 64 b).toInt ∧
    (combine64 6 a b).1 = (a + b) % 2 ^ 64 ∧ ((combine64 6 a b).2 = true ↔ (sum < -(2 ^ 63) ∨ 2 ^ 63 ≤ sum)) ∧
    (f < 6 → (combine64 f a b).2 = false))

/-! ### Clocks and interrupts -/

namespace Sys2Proof.Claims
open Sys2Proof Machine
/-- Only a clock error bit is set. -/
def ClkErr (s t : State) (f : Field) : Prop := OnlyRegs s t [(f, 0)] ∧ t.fld f = 1
/-- CLK_GOOD of source `n` is 0 and its failure is recorded (R639). -/
def SourceLost (t : State) (n : Nat) : Prop := bitOf (t.fld F.CLK_GOOD_GOOD) n = false ∧ bitOf (t.fld F.CLK_FAILEVT_FAIL) n = true
end Sys2Proof.Claims

/-- PLLs, global lines, domain switches, failing sources and restarts (R630, R631, R632, R634, R636, R637, R639, R640,
R641). -/
def Obligations.ClockForms : Prop :=
  (∀ (s : State) (n v : Nat),
    let en := s.bit F.SPLL_CFG_EN 0 n
    let ref : Freq := if bitsOf v 56 2 = 0 then ⟨50000, 1⟩ else ⟨1000000, 1⟩
    let valid := bitsOf v 56 2 < 2 ∧ pllValid ref (bitsOf v 16 3) (bitsOf v 24 8) (bitsOf v 40 7) = true
    let cfg := fun (t : State) => t.fld F.SPLL_CFG_REF 0 n = bitsOf v 56 2 ∧ t.fld F.SPLL_CFG_POSTDIV 0 n = bitsOf v 40 7 ∧
      t.fld F.SPLL_CFG_FBDIV 0 n = bitsOf v 24 8 ∧ t.fld F.SPLL_CFG_PREDIV 0 n = bitsOf v 16 3
    (5 ≤ n → exec (.pllEnable false n v) s = .next s ∧ exec (.pllDisable false n v) s = .next s) ∧
    (n = 4 → memBusy s = true → (∃ t, exec (.pllEnable false n v) s = .next t ∧ ClkErr s t F.CLK_ERR_MEMBUSY) ∧
      ∃ t, exec (.pllDisable false n v) s = .next t ∧ ClkErr s t F.CLK_ERR_MEMBUSY) ∧
    (n < 5 → ¬(n = 4 ∧ memBusy s = true) →
      (en = true → exec (.pllEnable false n v) s = .next s) ∧
      (en = false → ∃ t, exec (.pllEnable false n v) s = .next t ∧ cfg t ∧ (valid → t.fld F.SPLL_CFG_EN 0 n = 1) ∧
        (¬valid → t.fld F.CLK_ERR_PLLCFG = 1 ∧ t.bit F.SPLL_CFG_EN 0 n = false)) ∧
      (en = false → ∃ t, exec (.pllDisable false n v) s = .next t ∧ cfg t ∧ t.bit F.SPLL_CFG_EN 0 n = false) ∧
      (en = true → spllSwitching s n = true → ∃ t, exec (.pllDisable false n v) s = .next t ∧ ClkErr s t F.CLK_ERR_SWERR) ∧
      (en = true → spllSwitching s n = false → ∃ t, exec (.pllDisable false n v) s = .next t ∧ t.fld F.SPLL_CFG_EN 0 n = 0 ∧
        t.fld F.SPLL_STATUS_LOCK 0 n = 0 ∧ t.fld F.SPLL_STATUS_FREQ_KHZ 0 n = 0 ∧ bitOf (t.fld F.CLK_GOOD_GOOD) (2 + n) = false ∧
        (s.fld F.DOM_STATUS_CUR_SRC 0 n = 0 → s.fld F.DOM_STATUS_STATE 0 n < 3 → t.fld F.DOM_STATUS_STATE 0 n = 4 ∧
          t.fld F.DOM_STATUS_CUR_SRC 0 n = 3)))) ∧
  (∀ (s : State) (m v : Nat),
    let en := s.bit F.FPLL_CFG_EN 0 m
    let ref : Freq := if bitsOf v 56 2 = 0 then ⟨50000, 1⟩ else if bitsOf v 56 2 = 1 then ⟨1000000, 1⟩ else laneWordFreq s (bitsOf v 48 8)
    let valid := bitsOf v 56 2 < 3 ∧ pllValid ref (bitsOf v 16 3) (bitsOf v 24 8) (bitsOf v 40 7) = true
    (24 ≤ m → exec (.pllEnable true m v) s = .next s ∧ exec (.pllDisable true m v) s = .next s) ∧
    (m < 24 → lineBusy s m = true → ∀ i ∈ [Instr.pllEnable true m v, .pllDisable true m v], ∃ t, exec i s = .next t ∧ ClkErr s t F.CLK_ERR_LINEBUSY) ∧
    (m < 24 → lineBusy s m = false →
      (en = true → exec (.pllEnable true m v) s = .next s) ∧
      (en = false → ∃ t, exec (.pllEnable true m v) s = .next t ∧ t.fld F.FPLL_CFG_REF 0 m = bitsOf v 56 2 ∧ t.fld F.FPLL_CFG_LANE 0 m = bitsOf v 48 8 ∧
        t.fld F.FPLL_CFG_POSTDIV 0 m = bitsOf v 40 7 ∧ t.fld F.FPLL_CFG_FBDIV 0 m = bitsOf v 24 8 ∧ t.fld F.FPLL_CFG_PREDIV 0 m = bitsOf v 16 3 ∧
        t.fld F.FPLL_CFG_ODIV 0 m = bitsOf v 8 4 ∧ (valid → t.fld F.FPLL_CFG_EN 0 m = 1) ∧
        (¬valid → t.fld F.CLK_ERR_PLLCFG = 1 ∧ t.bit F.FPLL_CFG_EN 0 m = false)) ∧
      (en = true → ∃ t, exec (.pllDisable true m v) s = .next t ∧ t.fld F.FPLL_CFG_EN 0 m = 0 ∧ t.fld F.FPLL_STATUS_LOCK 0 m = 0 ∧
        t.fld F.FPLL_STATUS_FREQ_KHZ 0 m = 0 ∧ bitOf (t.fld F.CLK_GOOD_GOOD) (8 + m) = false ∧
        OnlyRegs s t [(F.FPLL_CFG_EN, 0), (F.FPLL_STATUS_LOCK, 0), (F.FPLL_STATUS_FREQ_KHZ, 0), (F.CLK_GOOD_GOOD, 0)]))) ∧
  (∀ (s : State) (n : Nat),
    (36 ≤ n → n < 84 → ∃ t, exec (.sourceJudgedGood n) s = .next (clockReturned t) ∧ bitOf (t.fld F.QREF_GOOD_GOOD) (n - 36) = true ∧ OnlyRegs s t [(F.QREF_GOOD_GOOD, 0)]) ∧
    (84 ≤ n → n < 132 → ∃ t, exec (.sourceJudgedGood n) s = .next (clockReturned t) ∧ (t.lanes.get (4 * (n - 84))).pllLost = false ∧ t = { s with lanes := t.lanes }) ∧
    (132 ≤ n → exec (.sourceJudgedGood n) s = .next s) ∧
    (n < 36 → (srcReady s n = false ∨ srcStopped s n = true) → exec (.sourceJudgedGood n) s = .next s) ∧
    (n < 36 → srcReady s n = true → srcStopped s n = false → ∃ t, exec (.sourceJudgedGood n) s = .next (clockReturned t) ∧
      bitOf (t.fld F.CLK_GOOD_GOOD) n = true ∧
      (2 ≤ n → n < 8 → t.fld F.SPLL_STATUS_LOCK 0 (n - 2) = 1 ∧ t.fld F.SPLL_STATUS_FAIL 0 (n - 2) = 0 ∧
        t.fld F.SPLL_STATUS_FREQ_KHZ 0 (n - 2) = (spllFreq s (n - 2)).ceil % 2 ^ 32) ∧
      (8 ≤ n → n < 32 → t.fld F.FPLL_STATUS_LOCK 0 (n - 8) = 1 ∧ t.fld F.FPLL_STATUS_FAIL 0 (n - 8) = 0 ∧
        t.fld F.FPLL_STATUS_FREQ_KHZ 0 (n - 8) = (fpllFreq s (n - 8)).ceil % 2 ^ 32) ∧
      (∀ d < 6, (s.domSw.get d).waits = true → domSrc d (s.fld F.DOM_CTL_SRC 0 d) = some n → s.fld F.DOM_STATUS_STATE 0 d < 3 →
        t.fld F.DOM_STATUS_STATE 0 d = 1 ∧ (t.domSw.get d).phase = 1) ∧
      (n = 7 → s.bit F.SPLL_STATUS_FAIL 0 5 = true → s.fld F.TB_STATUS_STATE ≠ 0 → t.fld F.TB_STATUS_STATE = 3)) ∧
    (s.owed = [] → s.reed.modes = [] → clockReturned s = gpioShowAll s)) ∧
  (∀ (s : State) (d v : Nat),
    let st := s.fld F.DOM_STATUS_STATE 0 d
    let src := if bitsOf v 48 2 = 3 ∨ (4 ≤ d ∧ bitsOf v 48 2 = 2) then s.fld F.DOM_CTL_SRC 0 d else bitsOf v 48 2
    let moves := src ≠ s.fld F.DOM_STATUS_CUR_SRC 0 d ∨ bitsOf v 0 5 ≠ s.fld F.DOM_STATUS_CUR_DDIV 0 d
    (6 ≤ d → exec (.domainSwitch d v) s = .next s) ∧
    (d < 6 → st = 1 → ∃ t, exec (.domainSwitch d v) s = .next t ∧ ClkErr s t F.CLK_ERR_SWERR) ∧
    (d = 4 → st ≠ 1 → memBusy s = true → ∃ t, exec (.domainSwitch d v) s = .next t ∧ ClkErr s t F.CLK_ERR_MEMBUSY) ∧
    (d < 6 → st ≠ 1 → ¬(d = 4 ∧ memBusy s = true) → ∃ t, exec (.domainSwitch d v) s = .next t ∧ t.fld F.DOM_CTL_SRC 0 d = src ∧
      t.fld F.DOM_CTL_DDIV 0 d = bitsOf v 0 5 ∧ t.fld F.DOM_CTL_ALT_EN 0 d = bitsOf v 63 1 ∧
      t.fld F.DOM_STATUS_CUR_SRC 0 d = s.fld F.DOM_STATUS_CUR_SRC 0 d ∧ t.fld F.DOM_STATUS_CUR_DDIV 0 d = s.fld F.DOM_STATUS_CUR_DDIV 0 d ∧
      (st < 3 → moves → domSrcGood s d src = true → t.fld F.DOM_STATUS_STATE 0 d = 1 ∧ (t.domSw.get d).phase = 1) ∧
      (st < 3 → moves → domSrcGood s d src = false → t.fld F.DOM_STATUS_STATE 0 d = st ∧ (t.domSw.get d).waits = true) ∧
      ((3 ≤ st ∨ ¬moves) → t.fld F.DOM_STATUS_STATE 0 d = st ∧ t.domSw.get d = { s.domSw.get d with waits := false } ∧
        ∀ e, e ≠ d → t.domSw.get e = s.domSw.get e))) ∧
  (∀ (s : State) (d : Nat),
    let w := s.domSw.get d
    let cur := ddiv (s.fld F.DOM_STATUS_CUR_DDIV 0 d)
    let tgt := ddiv (s.fld F.DOM_CTL_DDIV 0 d)
    let src := s.fld F.DOM_CTL_SRC 0 d
    let old := domFreq s d (s.fld F.DOM_STATUS_CUR_SRC 0 d)
    let new := domFreq s d src
    let slow := cur < 32 ∧ Freq.le (old.div cur) (new.div tgt) = false
    ((6 ≤ d ∨ (w.phase ≠ 1 ∧ w.phase ≠ 3)) → exec (.domainSwitchStep d) s = .next s) ∧
    (d < 6 → w.phase = 1 → s.fld F.DOM_STATUS_CUR_DDIV 0 d < 32 → s.fld F.DOM_CTL_DDIV 0 d < 32 → src < 4 →
      (slow → ∃ t, exec (.domainSwitchStep d) s = .next t ∧ ddiv (t.fld F.DOM_STATUS_CUR_DDIV 0 d) = cur + 1 ∧ OnlyRegs s t [(F.DOM_STATUS_CUR_DDIV, 0)]) ∧
      (¬slow → ∃ t, exec (.domainSwitchStep d) s = .next t ∧ t.fld F.DOM_STATUS_CUR_SRC 0 d = src ∧
        ddiv (t.fld F.DOM_STATUS_CUR_DDIV 0 d) = smallestDiv new (old.div cur) ∧
        (t.domSw.get d).phase = if smallestDiv new (old.div cur) = tgt then 0 else 3)) ∧
    (d < 6 → w.phase = 3 → s.fld F.DOM_STATUS_CUR_DDIV 0 d < 32 → s.fld F.DOM_CTL_DDIV 0 d < 32 → ∃ t, exec (.domainSwitchStep d) s = .next t ∧
      ddiv (t.fld F.DOM_STATUS_CUR_DDIV 0 d) = (if cur < tgt then cur + 1 else if tgt < cur then cur - 1 else cur) ∧
      (cur = tgt → (t.domSw.get d).phase = 0 ∧ (s.fld F.DOM_STATUS_STATE 0 d = 1 → t.fld F.DOM_STATUS_STATE 0 d = 0)) ∧
      t.fld F.DOM_STATUS_CUR_SRC 0 d = s.fld F.DOM_STATUS_CUR_SRC 0 d)) ∧
  (∀ (s : State) (n : Nat) (pulse : Bool),
    let idle := srcStopped s (min n 35) = true ∨ (n = 0 ∧ (srcGood s 0 = false ∨ srcGood s 1 = false)) ∨
      (36 ≤ n ∧ n < 84 ∧ bitOf (s.fld F.QREF_GOOD_GOOD) (n - 36) = false)
    (idle → exec (.clockSourceFail n pulse) s = .next s) ∧
    (¬idle → ∃ t, exec (.clockSourceFail n true) s = .next t ∧ MemSame s t) ∧
    (¬idle → ∃ t, exec (.clockSourceFail n false) s = .next t ∧ MemSame s t ∧
      (n ≤ 1 → SourceLost t n) ∧
      (2 ≤ n → n < 8 → srcGood s n = true → SourceLost t n ∧ t.fld F.SPLL_STATUS_LOCK 0 (n - 2) = 0 ∧ t.fld F.SPLL_STATUS_FAIL 0 (n - 2) = 1) ∧
      (2 ≤ n → n < 7 → srcGood s n = true → s.fld F.DOM_STATUS_CUR_SRC 0 (n - 2) = 0 → s.fld F.DOM_STATUS_STATE 0 (n - 2) < 3 →
        (s.domSw.get (n - 2)).phase ≠ 1 → t.fld F.DOM_STATUS_STATE 0 (n - 2) = 3 ∧ t.fld F.DOM_STATUS_CUR_SRC 0 (n - 2) = 3) ∧
      (n = 1 → ∀ d < 5, s.fld F.DOM_STATUS_CUR_SRC 0 d = 1 → s.fld F.DOM_STATUS_STATE 0 d < 3 → (s.domSw.get d).phase ≠ 1 →
        t.fld F.DOM_STATUS_STATE 0 d = 3) ∧
      (8 ≤ n → n < 36 → srcGood s n = true → SourceLost t n ∧ bitOf (t.fld F.LINE_FORCED_FORCED) (n - 8) = true ∧
        (irqOpen s = true → s.bit F.IRQ_SRC_ACTIVE 0 0x040 = false → t.fld F.IRQ_SRC_PENDING 0 0x040 = 1)) ∧
      (36 ≤ n → n < 84 → bitOf (t.fld F.QREF_GOOD_GOOD) (n - 36) = false ∧ bitOf (t.fld F.QREF_FAILEVT_FAIL) (n - 36) = true) ∧
      (84 ≤ n → n < 132 → (t.lanes.get (4 * (n - 84))).pllLost = true))) ∧
  (∀ (s : State) (d : Nat),
    let st := s.fld F.DOM_STATUS_STATE 0 d
    let src := s.fld F.DOM_CTL_SRC 0 d
    let alt := if s.bit F.DOM_CTL_ALT 0 d then 2 else 1
    let fallback := (s.domSw.get d).failed = true ∧ d ≠ 4 ∧ s.bit F.DOM_CTL_ALT_EN 0 d = true ∧ domSrcGood s d alt = true
    let restarts := fun (c : Nat) (x : Nat) => ∃ t, exec (.domainFailoverRestart d) s = .next t ∧ t.fld F.DOM_STATUS_CUR_SRC 0 d = c ∧
      t.fld F.DOM_STATUS_CUR_DDIV 0 d = 0 ∧ t.fld F.DOM_STATUS_STATE 0 d = x ∧ (t.domSw.get d).phase = (if s.fld F.DOM_CTL_DDIV 0 d = 0 then 0 else 3)
    ((6 ≤ d ∨ st < 3) → exec (.domainFailoverRestart d) s = .next s) ∧
    (d < 6 → 3 ≤ st → src < 4 → s.owed = [] →
      (domSrcGood s d src = true → restarts src (if s.fld F.DOM_CTL_DDIV 0 d = 0 then 0 else 1)) ∧
      (domSrcGood s d src = false → fallback → restarts alt 2) ∧
      (domSrcGood s d src = false → ¬fallback → exec (.domainFailoverRestart d) s = .next s))) ∧
  (∀ (s : State) (l v mask : Nat),
    (¬(24 ≤ l ∧ l < 28) → exec (.glineCfgWrite l v) s = .next s) ∧
    (24 ≤ l → l < 28 → lineBusy s l = true → ∃ t, exec (.glineCfgWrite l v) s = .next t ∧ ClkErr s t F.CLK_ERR_LINEBUSY) ∧
    (24 ≤ l → l < 28 → lineBusy s l = false → ∃ t, exec (.glineCfgWrite l v) s = .next t ∧ t.fld F.GLINE_CFG_EN 0 (l - 24) = bitsOf v 63 1 ∧
      t.fld F.GLINE_CFG_SRC 0 (l - 24) = bitsOf v 56 2 ∧ t.fld F.GLINE_CFG_LANE 0 (l - 24) = bitsOf v 48 8 ∧ t.fld F.GLINE_CFG_K 0 (l - 24) = bitsOf v 0 3 ∧
      srcGood t (8 + l) = glineGood t (l - 24) ∧
      t.fld F.GLINE_FREQ_FREQ_KHZ 0 (l - 24) = (if glineGood t (l - 24) then (glineFreq t (l - 24)).ceil else 0) % 2 ^ 32 ∧
      OnlyRegs s t [(F.GLINE_CFG_EN, 0), (F.GLINE_CFG_SRC, 0), (F.GLINE_CFG_LANE, 0), (F.GLINE_CFG_K, 0), (F.CLK_GOOD_GOOD, 0), (F.GLINE_FREQ_FREQ_KHZ, 0)]) ∧
    (∃ t, exec (.lineForceClr mask) s = .next (gpioShowAll t) ∧ OnlyRegs s t [(F.LINE_FORCED_FORCED, 0)] ∧
      ∀ l < 28, bitOf (t.fld F.LINE_FORCED_FORCED) l = (bitOf (s.fld F.LINE_FORCED_FORCED) l && !(bitOf mask l && lineRuns s l))))

/-- Events, source registers, software set and clear, completion and coalescing (R648, R651, R652, R654, R656, R657,
R659). -/
def Obligations.InterruptForms : Prop :=
  (∀ (s : State) (n : Nat),
    let p := s.bit F.IRQ_SRC_PENDING 0 n
    let a := s.bit F.IRQ_SRC_ACTIVE 0 n
    let line := irqLevelLine s n
    let sets := fun (i : Instr) => ∃ t, exec i s = .next t ∧ t = { s with regs := t.regs, irqWin := t.irqWin } ∧ t.fld F.IRQ_SRC_PENDING 0 n = 1 ∧
      (p = true → t.fld F.IRQ_SRC_MERGED 0 n = 1) ∧ (p = false → t.fld F.IRQ_SRC_MERGED 0 n = s.fld F.IRQ_SRC_MERGED 0 n) ∧
      FldSame s t [(F.IRQ_SRC_PENDING, 0), (F.IRQ_SRC_MERGED, 0)] ∧ ∀ m, m ≠ n → t.fld F.IRQ_SRC_PENDING 0 m = s.fld F.IRQ_SRC_PENDING 0 m
    (irqAssigned n = false → irqOpen s = true → ∀ i ∈ [Instr.irqEvent n, .irqSwset n], exec i s = .next s) ∧
    (irqAssigned n = true →
      sets (.irqSwset n) ∧
      (line = none → irqOpen s = true → sets (.irqEvent n)) ∧
      (line = none → irqOpen s = false → exec (.irqEvent n) s = .next { s with irqHeld := s.irqHeld ++ [n] }) ∧
      (line = some true → a = false → p = false → irqOpen s = true → sets (.irqEvent n)) ∧
      (line = some true → a = false → p = false → irqOpen s = false →
        exec (.irqEvent n) s = .next { s with irqHeld := if n ∈ s.irqHeld then s.irqHeld else s.irqHeld ++ [n] }) ∧
      ((line = some false ∨ (line = some true ∧ (a = true ∨ p = true))) → exec (.irqEvent n) s = .next s) ∧
      (∃ t, exec (.irqPendingClear n) s = .next t ∧ FldSame s t irqFs ∧
        (irqLine s n = false → t.fld F.IRQ_SRC_PENDING 0 n = 0) ∧
        (irqLine s n = true → a = false → irqOpen s = true → t.fld F.IRQ_SRC_PENDING 0 n = 1)))) ∧
  (∀ (s : State) (n v : Nat),
    (irqAssigned n = false → exec (.irqSrcWrite n v) s = .next s) ∧
    (irqAssigned n = true → bitOf v 62 = false → bitOf v 61 = false →
      let kind := bitsOf v 40 2
      let idx := bitsOf v 16 11
      let bad := irqKindCount kind ≤ idx ∨ (bitOf v 63 = true ∧ privBad s 3 = true)
      let keeps := bad ∨ ((s.bit F.IRQ_SRC_ENABLE 0 n = true ∨ s.bit F.IRQ_SRC_ACTIVE 0 n = true) ∧
        (kind ≠ s.fld F.IRQ_SRC_KIND 0 n ∨ idx ≠ s.fld F.IRQ_SRC_INDEX 0 n))
      ∃ t, exec (.irqSrcWrite n v) s = .next t ∧ t.fld F.IRQ_SRC_PRIO 0 n = bitsOf v 48 4 ∧
        t.fld F.IRQ_SRC_ENABLE 0 n = (if bad then s.fld F.IRQ_SRC_ENABLE 0 n else bitsOf v 63 1) ∧
        (keeps → t.fld F.IRQ_STATUS_TGTERR = 1 ∧ t.fld F.IRQ_SRC_KIND 0 n = s.fld F.IRQ_SRC_KIND 0 n ∧ t.fld F.IRQ_SRC_INDEX 0 n = s.fld F.IRQ_SRC_INDEX 0 n) ∧
        (¬keeps → t.fld F.IRQ_STATUS_TGTERR = s.fld F.IRQ_STATUS_TGTERR ∧ t.fld F.IRQ_SRC_KIND 0 n = kind ∧ t.fld F.IRQ_SRC_INDEX 0 n = idx) ∧
        t.fld F.IRQ_SRC_MERGED 0 n = (if bitOf v 57 then 0 else s.fld F.IRQ_SRC_MERGED 0 n) ∧
        OnlyRegs { s with irqWin := t.irqWin } t ([F.IRQ_SRC_PRIO, F.IRQ_SRC_ENABLE, F.IRQ_SRC_KIND, F.IRQ_SRC_INDEX, F.IRQ_SRC_MERGED, F.IRQ_STATUS_TGTERR].map (fun f => (f, 0))))) ∧
  (∀ (s : State) (kind idx n : Nat),
    let done := fun (i : Instr) (mine : Prop) =>
      (¬mine → ∃ t, exec i s = .next t ∧ t.fld F.IRQ_STATUS_EOIERR = 1 ∧ OnlyRegs s t [(F.IRQ_STATUS_EOIERR, 0)]) ∧
      (mine → ∃ t, exec i s = .next t ∧ t.fld F.IRQ_SRC_ACTIVE 0 n = 0 ∧ FldSame s t (irqFs ++ [(F.IRQ_SRC_ACTIVE, 0)]) ∧
        (irqLine s n = false → t.fld F.IRQ_SRC_PENDING 0 n = s.fld F.IRQ_SRC_PENDING 0 n) ∧
        (irqLine s n = true → irqAssigned n = true → irqOpen s = true → t.fld F.IRQ_SRC_PENDING 0 n = 1))
    done (.irqEoi kind idx n) (s.bit F.IRQ_SRC_ACTIVE 0 n = true ∧ irqTarget s n = kind * 4096 + idx) ∧
    done (.irqHostEoi n) (s.bit F.IRQ_SRC_ACTIVE 0 n = true ∧ s.fld F.IRQ_SRC_KIND 0 n = 3) ∧
    (let w := s.irqWin.get (kind * 4096 + idx)
     ((w.st ≠ 1 ∨ w.timed = false) → exec (.irqCoalTimeout kind idx) s = .next s) ∧
     (w.st = 1 → w.timed = true → ∃ t, exec (.irqCoalTimeout kind idx) s = .next t ∧ t = { s with irqWin := t.irqWin } ∧
       (t.irqWin.get (kind * 4096 + idx)).st = (if ∃ m ∈ irqPending s, irqTarget s m = kind * 4096 + idx then 2 else 0))))

/-! ### Power and reset -/

namespace Sys2Proof.Claims
open Sys2Proof Machine
/-- Fields that the start-up after a reset writes, or that the supply holds. -/
def startFs : List Field :=
  [F.CLK_GOOD_GOOD, F.GLINE_FREQ_FREQ_KHZ, F.HD_MAP_HSTATE, F.IRQ_SRC_PENDING, F.IRQ_SRC_MERGED, F.RST_CAUSE_CAUSE, F.RST_CAUSE_COUNT,
   F.PRIV_RESULT_VALID, F.PRIV_RESULT_RAN_AT_START, F.PRIV_RESULT_FAIL, F.AGE_EVT_TAULOST, F.DOM_STATUS_STATE, F.DOM_STATUS_CUR_SRC]
/-- A device reset has been applied with its cause: the register fields that meet `p` read their reset values, but those
that start-up writes; every command and test in progress is gone, and the queue of commands waits (R684). -/
def ResetDone (s t : State) (cause : Nat) (p : Blk → Field → Bool) : Prop :=
  t.fld F.RST_CAUSE_CAUSE = cause ∧ t.cmds = [] ∧ t.load = none ∧ t.holds = [] ∧ t.migs = [] ∧ t.capts = [] ∧ t.occ = none ∧
  t.bist.run = none ∧ t.pending = s.pending ∧
  (∀ r ∈ allRegs, ∀ f ∈ r.fields, ∀ u i, p r.blk f = true → (∀ g ∈ startFs, f.id ≠ g.id) → t.fld f u i = f.resetAt u i)
/-- A power-on reset or RESET_N: every memory is cleared and nothing is in the network (R684, Table 23.8). -/
def Cleared (s t : State) (cause : Nat) (p : Blk → Field → Bool) : Prop :=
  ResetDone s t cause p ∧ t.reqs = [] ∧ t.hops = [] ∧ ∀ a, t.rdB a = State.reset.rdB a ∧ t.ecc.get a = State.reset.ecc.get a
/-- A power-on reset that keeps the always-on record and the log of rail faults. -/
def PoweredOn (s t : State) (cause : Nat) : Prop := Cleared s t cause (fun _ f => !(f.form == .undef || railLog f))
/-- What a warm reset sets: not what it preserves, and not the endpoint, the debug port or the unit headers (R685). -/
def warmSets (b : Blk) (f : Field) : Bool :=
  f.form == .every && !railLog f && !([Blk.pcie, .dbg, .dcmp, .hdr].contains b) && !warmKept.any (fun g => g.id == f.id)
/-- Every clock domain is stopped with no source. -/
def DomsOff (t : State) (k : Nat) : Prop := ∀ d < k, t.fld F.DOM_STATUS_STATE 0 d = 4 ∧ t.fld F.DOM_STATUS_CUR_SRC 0 d = 3
/-- The device has returned to RUN from a sleep state (R681, R644): the wake source is noted, stopped domains run again,
on FOSC where they name their SPLL, and waiting cores go on. -/
def Woken (s t : State) (src : Nat) : Prop :=
  t.dev = .run ∧ t.fld F.PWR_STATUS_WAKE_SRC = src % 256 ∧
  (∀ d < 4, s.fld F.DOM_STATUS_STATE 0 d = 4 → t.fld F.DOM_STATUS_STATE 0 d = (if s.fld F.DOM_CTL_SRC 0 d = 0 then 2 else 0) ∧
    t.fld F.DOM_STATUS_CUR_SRC 0 d = (if s.fld F.DOM_CTL_SRC 0 d = 0 then 1 else s.fld F.DOM_CTL_SRC 0 d % 4)) ∧
  ∀ c < 8, s.fld F.CC_STATUS_STATE c = 2 → t.fld F.CC_STATUS_STATE c = 1
end Sys2Proof.Claims

/-- Supply, rail faults, bank voltages, limits, temperature and the voltage loop (R663, R665, R666, R667, R668, R669,
R684, R704, R774). -/
def Obligations.SupplyForms : Prop :=
  (∀ (s : State) (fail : Nat),
    (s.vin = true → exec (.vinRise fail) s = .next s) ∧
    (s.vin = false → ∃ t, exec (.vinRise fail) s = .next t ∧ Cleared s t 1 (fun _ _ => true) ∧ t.vin = true ∧ t.dev = .run ∧ t.hot = false ∧
      t.fld F.AGE_EVT_TAULOST = 1 ∧ t.fld F.RST_CAUSE_COUNT = 0 ∧ t.fld F.PRIV_RESULT_VALID = 1 ∧ t.fld F.PRIV_RESULT_FAIL = fail % 128) ∧
    (s.vin = false → exec .vinLoss s = .next s) ∧
    (s.vin = true → ∃ t, exec .vinLoss s = .next t ∧ Cleared s t 1 (fun _ _ => true) ∧ t.vin = false ∧ t.dev = .off ∧ DomsOff t 6)) ∧
  (∀ (s : State) (rail idx fail : Nat),
    let live := s.vin = true ∧ s.dev ≠ .off
    let named := rail ≤ 5 ∧ (rail = 2 → idx < 768) ∧ (rail = 5 → idx < 20)
    (¬(live ∧ named) → exec (.railFault rail idx fail) s = .next s) ∧
    (live → named → ∃ t, exec (.railFault rail idx fail) s = .next t ∧ t.fld F.PWR_RAIL_LOG_VALID = 1 ∧ t.fld F.PWR_RAIL_LOG_RAIL = rail ∧
      t.fld F.PWR_RAIL_LOG_INDEX = (if rail = 2 ∨ rail = 5 then idx else 0) ∧
      (rail = 2 ∨ rail = 3 ∨ rail = 5 → t.fld F.PWR_EVT_RAIL = 1) ∧
      (rail = 2 → t.fld F.HD_MAP_HSTATE 0 idx = 3 ∧ t.fld F.AGE_BAY_T_HCAUSE 0 idx = 3) ∧
      (rail = 3 → t.laneRail = true ∧ (quadOwner s 0 = 2 → t.fld F.PCIE_LINK_LINKUP = 0)) ∧
      (rail = 5 → t.fld F.PWR_GPIO_V_READY 0 idx = 0) ∧
      (rail = 0 ∨ rail = 1 ∨ rail = 4 → PoweredOn s t 6 ∧ t.dev = .run ∧ t.fld F.RST_CAUSE_COUNT = 0)) ∧
    (s.vin = true → rail = 3 → exec (.railRecovery rail idx) s = .next (modeProgress { s with laneRail := false })) ∧
    (s.vin = true → rail = 5 → idx < 20 → s.fld F.PWR_GPIO_V_VSEL 0 idx ≠ 0 → ∃ t, exec (.railRecovery rail idx) s =
      .next (modeProgress (gpioShowAll (gpioSample idx t))) ∧ t.fld F.PWR_GPIO_V_READY 0 idx = 1 ∧ OnlyRegs s t [(F.PWR_GPIO_V_READY, 0)]) ∧
    ((s.vin = false ∨ (rail ≠ 3 ∧ ¬(rail = 5 ∧ idx < 20 ∧ s.fld F.PWR_GPIO_V_VSEL 0 idx ≠ 0))) → exec (.railRecovery rail idx) s = .next s)) ∧
  (∀ (s : State) (b v : Nat),
    let cur := s.fld F.PWR_GPIO_V_VSEL 0 b
    ((20 ≤ b ∨ 4 < v % 8 ∨ v % 8 = cur) → exec (.pwrGpioVWrite b v) s = .next s) ∧
    (b < 20 → v % 8 ≤ 4 → v % 8 ≠ cur → ∃ t, exec (.pwrGpioVWrite b v) s = .next (gpioShowAll (gpioSample b t)) ∧ t.fld F.PWR_GPIO_V_VSEL 0 b = v % 8 ∧
      t.fld F.PWR_GPIO_V_READY 0 b = 0 ∧ OnlyRegs s t [(F.PWR_GPIO_V_VSEL, 0), (F.PWR_GPIO_V_READY, 0)]) ∧
    ((20 ≤ b ∨ s.vin = false ∨ s.dev = .off ∨ cur = 0) → exec (.gpioRailReady b) s = .next s) ∧
    (b < 20 → s.vin = true → s.dev ≠ .off → cur ≠ 0 → ∃ t, exec (.gpioRailReady b) s =
      .next (modeProgress (gpioShowAll (gpioSample b t))) ∧ t.fld F.PWR_GPIO_V_READY 0 b = 1 ∧
      OnlyRegs s t [(F.PWR_GPIO_V_READY, 0)])) ∧
  (∀ (s : State) (x fail : Nat),
    let live := s.vin = true ∧ s.dev ≠ .off
    let lim := s.fld F.PWR_LIMIT_MW_LIMIT_MW
    (live → lim < x → ∃ t, exec (.powerLimitExceeded x) s = .next t ∧ t.fld F.PWR_MEAS_PIN_MW = x % 2 ^ 32 ∧ t.fld F.PWR_EVT_LIMIT = 1 ∧
      ∀ b < 768, (b ∈ t.limCap ↔ s.fld F.HD_MAP_OSTATE 0 b = oFREE)) ∧
    (¬(live ∧ lim < x) → exec (.powerLimitExceeded x) s = .next s) ∧
    (x ≤ lim → ∃ t, exec (.powerLimitClear x) s = .next t ∧ t.limCap = [] ∧ t.fld F.PWR_MEAS_PIN_MW = x % 2 ^ 32 ∧
      t = { s with regs := t.regs, limCap := [] } ∧ FldSame s t [(F.PWR_MEAS_PIN_MW, 0)]) ∧
    (lim < x → exec (.powerLimitClear x) s = .next s) ∧
    (live → 7000 < x → ∃ t, exec (.overcurrent x fail) s = .next t ∧ PoweredOn s t 7 ∧ t.dev = .run) ∧
    (¬(live ∧ 7000 < x) → exec (.overcurrent x fail) s = .next s) ∧
    (let top := if s.fld F.GRADE_TEMP = 2 then 105 else 100
     (live → 16 * (top + 10) ≤ x → ∃ t, exec (.thermalReset x) s = .next t ∧ PoweredOn s t 8 ∧ t.dev = .off ∧ t.hot = true ∧ DomsOff t 6) ∧
     (¬(live ∧ 16 * (top + 10) ≤ x) → exec (.thermalReset x) s = .next s) ∧
     (live → ∃ t, exec (.thermalWarning x) s = .next t ∧ t.fld F.PWR_TEMP_TJ = x % 2 ^ 16 ∧ (16 * (top - 5) ≤ x → t.fld F.PWR_EVT_THERM = 1) ∧
       OnlyIrq s t [(F.PWR_TEMP_TJ, 0), (F.PWR_EVT_THERM, 0)]) ∧
     (¬live → exec (.thermalWarning x) s = .next s))) ∧
  (∀ (s : State) (b mv : Nat),
    let v := s.fld F.PWR_BAY_V_MV 0 b
    let loop := b < 768 ∧ s.fld F.PWR_BAY_STATE_STATE 0 b = 2 ∧ s.dev = .run
    let step := 720 ≤ mv ∧ mv ≤ 850 ∧ mv ≤ v + 3 ∧ v ≤ mv + 3
    (loop → underTest s 2 b = false → step → ∃ t, exec (.avsStep b mv) s = .next t ∧ t.fld F.PWR_BAY_V_MV 0 b = mv ∧
      t.fld F.PWR_BAY_V_MAXED 0 b = (if mv = 850 then 1 else 0) ∧ OnlyRegs s t [(F.PWR_BAY_V_MV, 0), (F.PWR_BAY_V_MAXED, 0)]) ∧
    (¬(loop ∧ underTest s 2 b = false ∧ step) → exec (.avsStep b mv) s = .next s) ∧
    (loop → s.bit F.PWR_BAY_V_MAXED 0 b = true → ∃ t, exec (.vmaxReport b) s = .next t ∧ t.fld F.HD_MAP_HSTATE 0 b = 3 ∧
      t.fld F.AGE_BAY_T_HCAUSE 0 b = 2) ∧
    (¬(loop ∧ s.bit F.PWR_BAY_V_MAXED 0 b = true) → exec (.vmaxReport b) s = .next s))

/-- Bay power, sleep, OFF and wake, resets and the watchdog (R644, R670, R671, R676, R677, R678, R679, R681, R683,
R684, R685, R689). -/
def Obligations.PowerStateForms : Prop :=
  (∀ (s : State) (b v : Nat),
    let os := s.fld F.HD_MAP_OSTATE 0 b
    let st := fun (u : State) x => u.fld F.PWR_BAY_STATE_STATE 0 x
    let g := if os = oLOADED then (List.range 768).filter (fun x => s.fld F.HD_MAP_OWNER 0 x == s.fld F.HD_MAP_OWNER 0 b) else [b]
    let refused := (v % 4 = 0 ∧ os ≠ oFREE) ∨ os ∈ [oLOADING, oMIGDEST, oMIGSRC, oERASING] ∨ ∃ x ∈ g, st s x = 3
    ((768 ≤ b ∨ v % 4 = 3) → exec (.pwrBayReqWrite b v) s = .next s) ∧
    (b < 768 → v % 4 ≠ 3 → refused → ∃ t, exec (.pwrBayReqWrite b v) s = .next (gpioShowAll t) ∧ t.fld F.PWR_EVT_REQERR = 1 ∧ OnlyIrq s t [(F.PWR_EVT_REQERR, 0)]) ∧
    (b < 768 → v % 4 ≠ 3 → ¬refused → ∃ t, exec (.pwrBayReqWrite b v) s = .next (gpioShowAll t) ∧
      (∀ x ∈ g, t.fld F.PWR_BAY_REQ_REQ 0 x = v % 4 ∧ st t x = (if st s x = v % 4 then v % 4 else 3) ∧
        (st s x = 2 → v % 4 = 1 → t.fld F.BAY_STATUS_OUT_HELD x = 1 ∧ t.fld F.BAY_STATUS_WE_HELD x = 1)) ∧
      (∀ x, x ∉ g → t.fld F.PWR_BAY_REQ_REQ 0 x = s.fld F.PWR_BAY_REQ_REQ 0 x ∧ st t x = st s x) ∧
      t = { s with regs := t.regs, retHold := t.retHold, bayFrom := t.bayFrom }) ∧
    (¬(b < 768 ∧ s.dev = .run ∧ st s b = 3) → exec (.bayPwrTransitionDone b) s = .next s) ∧
    (b < 768 → s.dev = .run → st s b = 3 → ∃ t, exec (.bayPwrTransitionDone b) s = .next t ∧ ∀ x ∈ g, st s x = 3 →
      let r := s.fld F.PWR_BAY_REQ_REQ 0 x
      st t x = r % 4 ∧ t.fld F.PWR_BAY_V_MV 0 x = (if r = 0 then 0 else if r = 1 then 600 else 800) ∧
      (r = 0 → ∀ c < 1024, t.ffs.get (x * 1024 + c) = 0))) ∧
  (∀ (s : State) (stop src fail : Nat),
    let m := s.fld F.PWR_MODE_MODE
    let ready := s.dev = .run ∧ s.vin = true ∧ coresWait s = true ∧ pwrBlock s = 0
    (¬(ready ∧ (m = 1 ∨ m = 2)) → exec (.deviceSleepEntry stop src) s = .next s) ∧
    (ready → m = 1 ∨ m = 2 → (stop = 0 ∨ 6 < stop) → ∃ t, exec (.deviceSleepEntry stop src) s = .next t ∧
      t.dev = (if m = 2 then .deepSleep else .sleep) ∧ t.fld F.PWR_STATUS_LAST = max m (s.fld F.PWR_STATUS_LAST) % 8 ∧ DomsOff t (if m = 2 then 5 else 4) ∧
      (∀ n, (2 ≤ n ∧ n < 6) ∨ (8 ≤ n ∧ n < 32) → bitOf (t.fld F.CLK_GOOD_GOOD) n = false) ∧
      (∀ b < 768, s.fld F.PWR_BAY_STATE_STATE 0 b = 2 → t.fld F.PWR_BAY_STATE_STATE 0 b = 1 ∧ t.fld F.BAY_STATUS_OUT_HELD b = 1 ∧
        t.fld F.BAY_STATUS_WE_HELD b = 1)) ∧
    (ready → m = 1 ∨ m = 2 → 1 ≤ stop → stop ≤ 6 → ∃ t, exec (.deviceSleepEntry stop src) s = .next t ∧ t.dev = .run ∧
      t.fld F.PWR_STATUS_ABANDONED = 1 ∧ t.fld F.PWR_STATUS_WAKE_SRC = src % 256) ∧
    (¬(ready ∧ m = 3) → exec (.deviceOffEntry fail) s = .next s) ∧
    (ready → m = 3 → ∃ t, exec (.deviceOffEntry fail) s = .next t ∧ PoweredOn s t 9 ∧ t.dev = .off ∧ DomsOff t 6 ∧
      t.fld F.PRIV_RESULT_VALID = 1 ∧ t.fld F.PRIV_RESULT_FAIL = fail % 128 ∧ t.fld F.RST_CAUSE_COUNT = s.fld F.RST_CAUSE_COUNT) ∧
    (let wakes := (s.dev = .sleep ∨ s.dev = .deepSleep) ∧ wakeAt s src = true
     (wakes → ∃ t, exec (.wakeEvent src) s = .next t ∧ Woken s t src) ∧ (¬wakes → exec (.wakeEvent src) s = .next s))) ∧
  (∀ (s : State) (cool : Bool) (fail : Nat),
    ((s.vin = false ∨ s.dev = .run ∨ (s.dev = .off ∧ s.hot = true ∧ cool = false)) → exec (.wakePin cool fail) s = .next s) ∧
    (s.vin = true → s.dev = .off → s.hot = false ∨ cool = true → ∃ t, exec (.wakePin cool fail) s = .next t ∧ PoweredOn s t 9 ∧
      t.dev = .run ∧ t.hot = false ∧ t.fld F.RST_CAUSE_COUNT = s.fld F.RST_CAUSE_COUNT) ∧
    (s.vin = true → s.dev = .sleep ∨ s.dev = .deepSleep → ∃ t, exec (.wakePin cool fail) s = .next t ∧ Woken s t 7)) ∧
  (∀ (s : State) (v fail : Nat),
    let live := s.vin = true ∧ s.dev ≠ .off
    let full := fun (i : Instr) (cause : Nat) => ∃ t, exec i s = .next t ∧
      Cleared s t cause (fun _ f => !(f.form == .undef || f.form == .por || railLog f)) ∧ t.dev = .run ∧ Counts s t F.RST_CAUSE_COUNT 0 0 1
    let warm := fun (i : Instr) (cause : Nat) => ∃ t, exec i s = .next t ∧ ResetDone s t cause warmSets ∧ t.dev = .run ∧
      Counts s t F.RST_CAUSE_COUNT 0 0 1 ∧ ∀ b < 768, s.fld F.HD_MAP_HSTATE 0 b = 3 → t.fld F.HD_MAP_HSTATE 0 b = 3
    let keyed := s.dev = .run ∧ s.vin = true ∧ bitOf v 8 = true ∧ v % 256 = 0xA5
    let counts := s.bit F.WDT_CFG_EN = true ∧ s.dev = .run ∧ s.vin = true
    let first := s.bit F.WDT_STATUS_STAGE = false
    let act := s.fld F.WDT_CFG_ACTION
    (live → full (.resetN fail) 2) ∧ (¬live → exec (.resetN fail) s = .next s) ∧
    (keyed → warm (.warmReset v fail) 3) ∧ (¬keyed → exec (.warmReset v fail) s = .next s) ∧
    (∃ t, exec .wdtKick s = .next t ∧ t.fld F.WDT_STATUS_STAGE = 0 ∧ t.fld F.WDT_STATUS_MS = 0 ∧
      OnlyRegs s t [(F.WDT_STATUS_STAGE, 0), (F.WDT_STATUS_MS, 0)]) ∧
    (¬counts → exec (.watchdogExpiry fail) s = .next s) ∧
    (counts → (first ∨ act = 0) → ∃ t, exec (.watchdogExpiry fail) s = .next t ∧ t.fld F.WDT_STATUS_STAGE = (if first then 1 else 0) ∧
      t.fld F.WDT_STATUS_MS = 0 ∧ Raised s t 0x060 ∧ OnlyIrq s t [(F.WDT_STATUS_STAGE, 0), (F.WDT_STATUS_MS, 0)]) ∧
    (counts → ¬first → act = 1 → warm (.watchdogExpiry fail) 4) ∧
    (counts → ¬first → 2 ≤ act → full (.watchdogExpiry fail) 4))

/-! ### Self-test, health and ageing -/

namespace Sys2Proof.Claims
open Sys2Proof Machine
/-- A test's end is reported (R693). -/
def Reported (s t : State) (r : TestReq) (code : Nat) : Prop :=
  t.fld F.BIST_STATUS_FAMILY = r.fam % 16 ∧ t.fld F.BIST_STATUS_INDEX = r.idx % 2 ^ 16 ∧ t.fld F.BIST_STATUS_RESULT = code % 256 ∧ Raised s t 0x080
/-- A unit other than a bay is unusable, or is not (Table 24.5). -/
def OutOfService (t : State) (fam u : Nat) (bad : Bool) : Prop :=
  bitOf (t.fld (unusableBit fam u).1 0 (unusableBit fam u).2.1) (unusableBit fam u).2.2 = bad
/-- What leaving service for `cause` does to a unit of families 1, 3, 6, 7 and 8 (Table 24.3). -/
def UnitRetired (t : State) (fam u cause : Nat) : Prop :=
  OutOfService t fam u true ∧ (fam = 1 → t.fld F.AGE_QUAD_T_HCAUSE 0 u = cause) ∧
  (fam = 3 → t.fld F.AGE_SC_T_HCAUSE 0 u = cause ∧ t.fld F.SC_STATUS_STATE u = 0) ∧
  (fam = 6 → t.fld F.AGE_CC_T_HCAUSE 0 u = cause ∧ t.fld F.CC_STATUS_STATE u = 0) ∧
  (fam = 8 → u < 64 → ∀ b < 768, bayRouter b = u → t.fld F.HD_MAP_HSTATE 0 b = 3 ∧ t.fld F.AGE_BAY_T_HCAUSE 0 b = 4)
/-- A bay that the sweep of R695 tests. -/
def Sweepable (s : State) (b : Nat) : Prop :=
  s.fld F.HD_MAP_OSTATE 0 b = oFREE ∧ s.fld F.PWR_BAY_STATE_STATE 0 b = 2 ∧ s.fld F.HD_MAP_HSTATE 0 b ≠ 3
end Sys2Proof.Claims

/-- Requesting, starting and ending tests, and the sweep of free bays (R691, R692, R693, R694, R695, R696, R697). -/
def Obligations.SelfTestForms : Prop :=
  (∀ (s : State) (v : Nat),
    let r : TestReq := { fam := bitsOf v 56 4, idx := bitsOf v 0 16, n := s.fld F.BIST_PICK_PICK, m := s.fld F.BIST_PICK2_PICK }
    let busy := s.bist.asked.isSome = true ∨ s.bist.run.isSome = true
    (bistRuns s = false → exec (.bistRequest v) s = .next s) ∧
    (bistRuns s = true → ∃ t, exec (.bistRequest v) s = .next t ∧ t = { s with regs := t.regs, bist := t.bist } ∧
      t.fld F.BIST_REQ_FAMILY = r.fam ∧ t.fld F.BIST_REQ_INDEX = r.idx ∧
      (s.bist.held.isSome = true → t.fld F.BIST_REQ_REQERR = 1 ∧ t.bist = s.bist) ∧
      (s.bist.held.isSome = false → t.fld F.BIST_REQ_GO = 1 ∧
        t.fld F.BIST_REQ_REQERR = (if bitOf v 62 then 0 else s.fld F.BIST_REQ_REQERR) ∧
        (busy → t.fld F.BIST_STATUS_HELD = 1 ∧ t.bist = { s.bist with held := some r }) ∧
        (¬busy → t.bist = { s.bist with asked := some r })) ∧
      FldSame s t ([F.BIST_REQ_FAMILY, F.BIST_REQ_INDEX, F.BIST_REQ_REQERR, F.BIST_REQ_GO, F.BIST_STATUS_HELD].map (fun f => (f, 0))))) ∧
  (∀ (s : State),
    ((bistRuns s = false ∨ s.bist.run.isSome = true ∨ (s.bist.asked = none ∧ s.bist.held = none)) → exec .bistTestStart s = .next s) ∧
    ∀ (r : TestReq), bistRuns s = true → s.bist.run = none → (s.bist.asked = some r ∨ (s.bist.asked = none ∧ s.bist.held = some r)) →
      ∃ t, exec .bistTestStart s = .next t ∧ t.bist.asked = none ∧ t.bist.held = (if s.bist.asked.isSome then s.bist.held else none) ∧
        t.fld F.BIST_REQ_GO = (if s.bist.asked.isSome && s.bist.held.isSome then 1 else 0) ∧
        (testRefusal s r ≠ 0 → Reported s t r (testRefusal s r) ∧ t.bist.run = none ∧
          FldSame s t (irqFs ++ [F.BIST_REQ_GO, F.BIST_STATUS_HELD, F.BIST_STATUS_FAMILY, F.BIST_STATUS_INDEX, F.BIST_STATUS_RESULT].map (fun f => (f, 0)))) ∧
        (testRefusal s r = 0 → t.bist.run = some r ∧ t.fld F.BIST_STATUS_BUSY = 1 ∧
          (r.fam = 2 → s.fld F.HD_MAP_OSTATE 0 r.idx = oFREE → t.fld F.HD_MAP_HSTATE 0 r.idx = 2 ∧
            t.fld F.PWR_BAY_V_MV 0 r.idx = (if s.fld F.BIST_CTL_TEST_MV = 0 then s.fld F.PWR_BAY_V_MV 0 r.idx else
              min 850 (max 720 (s.fld F.BIST_CTL_TEST_MV))) % 1024) ∧
          (r.fam = 2 → s.fld F.HD_MAP_OSTATE 0 r.idx = oLOADED →
            t.occ = some { bay := r.idx, inst := s.fld F.HD_MAP_OWNER 0 r.idx, n := r.n, m := r.m }) ∧
          (r.fam = 7 → t.fld F.SPB_PWR_STATE_STATE 0 r.idx = 3))) ∧
  (∀ (s : State) (pass : Bool) (misr kind : Nat) (r : TestReq),
    let i := Instr.bistTestEnd pass misr kind
    let u := if r.fam = 1 then r.idx / 4 else r.idx
    ((bistRuns s = false ∨ s.bist.run = none ∨ ∃ o, s.occ = some o ∧ o.part ≠ 2) → exec i s = .next s) ∧
    (bistRuns s = true → s.bist.run = some r → s.occ = none → ∃ t, exec i s = .next t ∧ t.bist.run = none ∧ t.fld F.BIST_STATUS_BUSY = 0 ∧
      Reported s t r (if pass then 0 else 1) ∧ (r.fam ≠ 7 → t.fld F.BIST_MISR_MISR = misr % 2 ^ 64) ∧
      (pass = false → s.bit F.BIST_LOG_VALID = false → t.fld F.BIST_LOG_VALID = 1 ∧ t.fld F.BIST_LOG_FAMILY = r.fam % 16 ∧
        t.fld F.BIST_LOG_INDEX = r.idx % 2 ^ 16 ∧ t.fld F.BIST_LOG_KIND = (if kind = 2 then 2 else 1)) ∧
      (r.fam = 2 → t.fld F.HD_MAP_HSTATE 0 r.idx = (if pass then s.fld F.AGE_BAY_T_WARN 0 r.idx % 4 else 3) ∧
        (pass = false → t.fld F.AGE_BAY_T_HCAUSE 0 r.idx = 1) ∧ t.fld F.PWR_BAY_V_MV 0 r.idx = s.bist.mv % 1024 ∧
        ∀ k < 24, ∀ j < 4096, t.rdB (aBlock r.idx k 0 + j) = State.reset.rdB (aBlock r.idx k 0 + j)) ∧
      (r.fam ∈ [1, 3, 6, 7, 8] → u < famCount r.fam → (pass = true → OutOfService t r.fam u false) ∧
        (pass = false → UnitRetired t r.fam u 1))) ∧
    (∀ o, bistRuns s = true → s.bist.run = some r → r.fam = 2 → s.occ = some o → o.part = 2 → ∃ t, exec i s = .next t ∧
      t.fld F.BIST_MISR_MISR = misr % 2 ^ 64 ∧ t.fld F.BAY_SCRUB_CAPBUSY o.bay = 0 ∧ t.fld F.BAY_BIST_CAPBUSY o.bay = 0 ∧
      t.fld F.PWR_BAY_V_MV 0 o.bay = s.bist.mv % 1024 ∧ t.fld F.HD_MAP_HSTATE 0 o.bay = (if pass then s.fld F.AGE_BAY_T_WARN 0 o.bay % 4 else 3) ∧
      (pass = false → t.fld F.AGE_BAY_T_HCAUSE 0 o.bay = 1) ∧
      t.occ = some { o with part := 3, failed := !pass, kind := if pass then 0 else if kind = 2 then 2 else 1 })) ∧
  (∀ (s : State),
    let idle := bistRuns s = true ∧ s.bit F.BIST_CTL_AUTO = true ∧ s.bist.run = none ∧ s.bist.asked = none ∧ s.bist.held = none
    ((¬idle ∨ ∀ b < 768, ¬Sweepable s b) → exec .bistAutoTick s = .next s) ∧
    (∀ j < 768, idle → Sweepable s ((s.bist.next + j) % 768) → (∀ k < j, ¬Sweepable s ((s.bist.next + k) % 768)) →
      let b := (s.bist.next + j) % 768
      ∃ t, exec .bistAutoTick s = .next t ∧ t.fld F.BIST_STATUS_BUSY = 1 ∧ t.fld F.HD_MAP_HSTATE 0 b = 2 ∧
        t.bist.run = some { fam := 2, idx := b } ∧ t.bist.next = (b + 1) % 768)) ∧
  (∀ (s : State) (b v : Nat),
    let o := s.fld F.BAY_STATUS_OWNER b
    (768 ≤ b → exec (.bayBistConsentWrite b v) s = .next s) ∧
    (b < 768 → ∃ t, exec (.bayBistConsentWrite b v) s = .next t ∧
      let g := if o = 0 then [b] else skeinBays s o
      (∀ x ∈ g, t.fld F.BAY_BIST_CONSENT x = v % 2) ∧ OnlyRegs s t (g.map (fun x => (F.BAY_BIST_CONSENT, x)))))

/-- Software retirement and the ageing monitors (R305, R706, R707, R708, R709, R710, R711). -/
def Obligations.HealthForms : Prop :=
  (∀ (s : State) (b v : Nat),
    (¬(b < 768 ∧ v % 4 = 3) → exec (.hstateWrite b v) s = .next s) ∧
    (b < 768 → v % 4 = 3 → ∃ t, exec (.hstateWrite b v) s = .next t ∧ t.fld F.HD_MAP_HSTATE 0 b = 3 ∧ t.fld F.AGE_BAY_T_HCAUSE 0 b = 5 ∧
      MemSame s t ∧ ∀ x, x ≠ b → t.fld F.HD_MAP_HSTATE 0 x = s.fld F.HD_MAP_HSTATE 0 x)) ∧
  (∀ (s : State) (fam u : Nat),
    (famCount fam ≤ u → exec (.unusableWrite fam u) s = .next s) ∧
    (u < famCount fam → ∃ t, exec (.unusableWrite fam u) s = .next t ∧ UnitRetired t fam u 5 ∧ MemSame s t)) ∧
  (∀ (s : State) (fam idx drift temp : Nat) (fe ft fd fw fu ev : Field) (count : Nat),
    (fam, count, fe, ft, fd, fw, fu, ev) ∈
      [(1, 48, F.AGE_QUAD_EOL_HOURS, F.AGE_QUAD_TEMP, F.AGE_QUAD_DRIFT, F.AGE_QUAD_T_WARN, F.AGE_QUAD_T_TAU, F.AGE_EVT_WARN_QUAD),
       (2, 768, F.AGE_BAY_EOL_HOURS, F.AGE_BAY_TEMP, F.AGE_BAY_DRIFT, F.AGE_BAY_T_WARN, F.AGE_BAY_T_TAU, F.AGE_EVT_WARN_BAY),
       (3, 96, F.AGE_SC_EOL_HOURS, F.AGE_SC_TEMP, F.AGE_SC_DRIFT, F.AGE_SC_T_WARN, F.AGE_SC_T_TAU, F.AGE_EVT_WARN_CORE),
       (6, 8, F.AGE_CC_EOL_HOURS, F.AGE_CC_TEMP, F.AGE_CC_DRIFT, F.AGE_CC_T_WARN, F.AGE_CC_T_TAU, F.AGE_EVT_WARN_CORE)] →
    ((count ≤ idx ∨ bistRuns s = false) → exec (.ageingMeasurement fam idx drift temp) s = .next s) ∧
    (idx < count → bistRuns s = true → ∃ t, exec (.ageingMeasurement fam idx drift temp) s = .next t ∧
      let d := (BitVec.ofNat 16 drift).toInt
      let l := max 1 (s.fld F.AGE_CFG_DLIM)
      let af := ageFactor (BitVec.ofNat 16 temp).toInt (if fam = 2 then some (s.fld F.PWR_BAY_V_MV 0 idx) else none)
      let tau := s.fld fu 0 idx * 2 ^ 32 + s.bist.frac.get (fam * 4096 + idx) + af * max 1 (s.fld F.AGE_CFG_PERIOD_MS) / 3600000
      let e := t.fld fe 0 idx
      let warns := e ≠ 0xFFFF_FFFF ∧ e < s.fld F.AGE_CFG_EOL_WARN
      t.fld ft 0 idx = temp % 2 ^ 16 ∧ t.fld fd 0 idx = drift % 2 ^ 16 ∧ t.fld fu 0 idx = tau / 2 ^ 32 % 2 ^ 32 ∧
      t.bist.frac.get (fam * 4096 + idx) = tau % 2 ^ 32 ∧
      (tau < 100 * 2 ^ 32 ∨ d ≤ 0 → e = 0xFFFF_FFFF) ∧
      (100 * 2 ^ 32 ≤ tau → 0 < d → l ≤ d.toNat → e = 0) ∧
      (100 * 2 ^ 32 ≤ tau → 0 < d → d.toNat < l → 0 < af → e = min 0xFFFF_FFFE (tau * (l ^ 4 - d.toNat ^ 4) / (d.toNat ^ 4 * af))) ∧
      t.fld fw 0 idx = (if warns then 1 else 0) ∧
      (warns → fam * 4096 + idx ∉ s.bist.warned → t.fld ev = 1 ∧ fam * 4096 + idx ∈ t.bist.warned) ∧
      (fam = 2 → t.fld F.HD_MAP_WEAR 0 idx = (if d ≤ 0 then 0 else min 255 (256 * d.toNat ^ 4 / l ^ 4)) ∧
        (s.fld F.HD_MAP_HSTATE 0 idx < 2 → t.fld F.HD_MAP_HSTATE 0 idx = (if warns then 1 else 0)) ∧
        (2 ≤ s.fld F.HD_MAP_HSTATE 0 idx → t.fld F.HD_MAP_HSTATE 0 idx = s.fld F.HD_MAP_HSTATE 0 idx)) ∧
      MemSame s t))

/-! ### Debug port and general-purpose I/O -/

namespace Sys2Proof.Claims
open Sys2Proof Machine
/-- What a change of the GPIO outputs shows is the only thing that leaves the block. -/
def OnlyShows (s t : State) : Prop := ∃ os, t.out = s.out ++ os
/-- The level is `l`, and a change of it has raised the debug-level source (R722). -/
def LevelIs (s t : State) (l : Nat) : Prop := t.fld F.DBG_STATUS_LEVEL = l ∧ (l ≠ s.fld F.DBG_STATUS_LEVEL → Raised s t 0x0A8)
end Sys2Proof.Claims

/-- The TAP, boundary scan, DPACC and unlock (R714, R715, R717, R718, R719, R720, R722, R724, R725, R726). -/
def Obligations.DebugPortForms : Prop :=
  (∀ (s : State) (code v : Nat),
    let on := s.vin = true ∧ s.dev ≠ .off ∧ s.dev ≠ .deepSleep
    let c := code % 256
    let replies := fun (n x : Nat) => s.out ++ [Out.reply portInit 0 (bytesLE n x)]
    let scan := s.dbg.ir = 0 ∨ s.dbg.ir = 1
    (¬on → exec .tapReset s = .next s ∧ exec (.tapUpdateIr code) s = .next s ∧ exec (.boundaryScanUpdate v) s = .next s) ∧
    (on → exec .tapReset s = .next (gpioShowAll { s with dbg := { s.dbg with ir := 2 } }) ∧
      exec (.tapUpdateIr code) s = .next (gpioShowAll { s with out := replies 1 1, dbg := { s.dbg with
        ir := if c ∈ [1, 2, 0x10] ∨ (c ∈ [0, 3, 4] ∧ 2 ≤ s.fld F.DBG_STATUS_LEVEL) then c else 0xFF } })) ∧
    (on → s.dbg.ir = 2 → exec (.boundaryScanUpdate v) s = .next { s with out := replies 4 0x1A964F2B }) ∧
    (on → ¬scan → s.dbg.ir ≠ 2 → exec (.boundaryScanUpdate v) s = .next s) ∧
    (on → scan → ∃ t, exec (.boundaryScanUpdate v) s = .next (gpioShowAll t) ∧
      t = { s with gpio := { s.gpio with cells := t.gpio.cells }, freeCtr := s.freeCtr + 1, out := t.out } ∧
      (∃ y x, t.out = replies 181 y ∧ bitsOf y 1440 3 = 1 + 2 * (x % 4) ∧ x = (Config.freeValue s.freeCtr).toNat ∧ ∀ b < 20, ∀ i < 24,
        bitOf y (3 * (24 * b + i)) = bitOf (gpioInputs s b) i ∧ bitOf y (3 * (24 * b + i) + 1) = bitOf (s.gpio.cells.get b) i ∧
        bitOf y (3 * (24 * b + i) + 2) = bitOf (s.gpio.cells.get b) (24 + i)) ∧
      ∀ b < 20, ∀ i < 24, bitOf (t.gpio.cells.get b) i = bitOf v (3 * (24 * b + i) + 1) ∧
        bitOf (t.gpio.cells.get b) (24 + i) = bitOf v (3 * (24 * b + i) + 2))) ∧
  (∀ (s : State) (op reg data : Nat),
    let live := tapOn s = true ∧ s.dbg.ir = 0x10
    let i := Instr.dpaccAccess op reg data
    let rg := reg % 1024
    let shown := s.out ++ [Out.reply portInit 0 (bytesLE 10 (s.dbg.status + s.dbg.reg * 4 + s.dbg.data * 2 ^ 12))]
    let busy := s.out ++ [Out.reply portInit 0 (bytesLE 10 (1 + s.dbg.reg * 4))]
    let u := { s with out := shown, dbg := { s.dbg with wait := some (op, rg, data % 2 ^ 64), reg := rg, status := 1, data := 0 } }
    let ends := fun (t : State) (st x : Nat) => t.dbg.wait = none ∧ t.dbg.status = st ∧ t.dbg.reg = rg ∧ t.dbg.data = x
    (tapOn s = false ∨ s.dbg.ir ∉ [2, 0x10] → exec i s = .next s) ∧
    (tapOn s = true → s.dbg.ir = 2 → exec i s = .next { s with out := s.out ++ [Out.reply portInit 0 (bytesLE 4 0x1A964F2B)] }) ∧
    (live → s.dbg.wait ≠ none → csrRuns s = false → exec i s = .next { s with out := busy }) ∧
    (live → s.dbg.wait = none → op ≠ 1 → op ≠ 2 → exec i s = .next { s with out := shown }) ∧
    (live → s.dbg.wait = none → op = 1 ∨ op = 2 →
      (csrRuns s = false → exec i s = .next u) ∧
      (csrRuns s = true →
        ((∀ x, placeSingle u portInit 10 .dbg (8 * rg) ≠ .reg x) → ∃ t, exec i s = .next t ∧ ends t 2 0 ∧ t = { s with out := shown, dbg := t.dbg }) ∧
        ∀ x, placeSingle u portInit 10 .dbg (8 * rg) = .reg x →
          (op = 1 → allWo x.r = true → ∃ t, exec i s = .next t ∧ ends t 2 0 ∧ t = { s with out := shown, dbg := t.dbg }) ∧
          (¬(op = 1 ∧ allWo x.r = true) → s.fld F.DBG_STATUS_LEVEL < dpLevel (8 * rg) →
            ∃ t, exec i s = .next t ∧ ends t 3 0 ∧ t = { s with out := shown, dbg := t.dbg }) ∧
          (¬(op = 1 ∧ allWo x.r = true) → dpLevel (8 * rg) ≤ s.fld F.DBG_STATUS_LEVEL →
            (op = 1 → ∃ t, exec i s = .next t ∧ ends t 0 (regRead portInit x true true u).1 ∧
              t = { (regRead portInit x true true u).2 with dbg := t.dbg }) ∧
            (op = 2 → ∃ t, exec i s = .next t ∧ ends t 0 0 ∧
              t = { (regWrite portInit x (data % 2 ^ 64) true true u).2 with dbg := t.dbg }))))) ∧
  (∀ (s : State) (rl : Bool) (l : Nat) (ok : Bool),
    let fails := s.fld F.DBG_STATUS_FAILCNT
    (fails = 16 → exec .chalReq s = .next s) ∧
    (fails ≠ 16 → ∃ t, exec .chalReq s = .next t ∧ t.fld F.DBG_STATUS_CHAL_VALID = 1 ∧
      (∀ k < 4, t.fld F.DBG_CHAL_NONCE 0 k = (Config.freeValue (s.freeCtr + k)).toNat) ∧
      t = { s with regs := t.regs, freeCtr := s.freeCtr + 4 } ∧ FldSame s t [(F.DBG_STATUS_CHAL_VALID, 0), (F.DBG_CHAL_NONCE, 0)]) ∧
    (s.dbg.verify ≠ none → exec .verify s = .next s) ∧
    (s.dbg.verify = none → ∃ g, exec .verify s = .next { s with dbg := { s.dbg with verify := some (s.fld F.DBG_UNLOCK_REQ_LEVEL, g) } } ∧
      (s.bit F.DBG_STATUS_CHAL_VALID = false → g = false) ∧
      (s.bit F.DBG_STATUS_CHAL_VALID = true → g = signatureOk s (unlockMessage s) (List.replicate 64 0 ++ unlockResponse s))) ∧
    (s.dbg.verify = none → exec (.verifyDone rl) s = .next s) ∧
    (s.dbg.verify = some (l, ok) → l < 4 → ∃ t, exec (.verifyDone rl) s = .next t ∧ t.dbg = { s.dbg with verify := none } ∧
      t.fld F.DBG_STATUS_CHAL_VALID = 0 ∧ (rl = true → LevelIs s t 0) ∧
      (rl = false → ok = true → LevelIs s t (if l = 0 ∨ l = 3 then 1 else l)) ∧
      (rl = false → ok = false → LevelIs s t (s.fld F.DBG_STATUS_LEVEL)) ∧
      (ok = true → t.fld F.DBG_STATUS_FAILCNT = fails) ∧ (ok = false → t.fld F.DBG_STATUS_FAILCNT = min 16 (fails + 1) ∧ Raised s t 0x0A9) ∧
      FldSame s t (irqFs ++ [F.DBG_STATUS_CHAL_VALID, F.DBG_STATUS_FAILCNT, F.DBG_STATUS_LEVEL].map (fun f => (f, 0)))) ∧
    (∃ t, exec .relock s = .next t ∧ LevelIs s t 0 ∧ OnlyIrq s t [(F.DBG_STATUS_LEVEL, 0)]))

/-- The debug initiator, debug requests, register access, resume and mailboxes (R727, R728, R737, R740, R741, R742).
-/
def Obligations.DebugCoreForms : Prop :=
  (∀ (s : State),
    let a := s.fld F.DBG_NOC_ADDR_ADDR
    let n := s.fld F.DBG_NOC_CTL_LEN
    let wr := s.bit F.DBG_NOC_CTL_OP
    let idle := s.fld F.DBG_STATUS_LEVEL = 2 ∧ s.bit F.DBG_NOC_STAT_BUSY = false
    let fits := a % 64 + n + 1 ≤ 64 ∧ a < 2 ^ 62
    (¬idle → exec .dbgNocGo s = .next s) ∧
    (idle → ¬fits → ∃ t, exec .dbgNocGo s = .next t ∧ t.fld F.DBG_NOC_STAT_DONE = 1 ∧ t.fld F.DBG_NOC_STAT_CODE = eACCESS ∧
      t.fld F.DBG_NOC_STAT_POISON = 0 ∧ t.fld F.DBG_NOC_CTL_GO = 0 ∧
      OnlyRegs s t ([F.DBG_NOC_STAT_DONE, F.DBG_NOC_STAT_CODE, F.DBG_NOC_STAT_POISON, F.DBG_NOC_CTL_GO].map (fun f => (f, 0)))) ∧
    (idle → fits → ∃ t r, exec .dbgNocGo s = .next t ∧ t = { s with regs := t.regs, reqs := s.reqs ++ [r] } ∧ t.fld F.DBG_NOC_STAT_BUSY = 1 ∧
      t.fld F.DBG_NOC_CTL_GO = 1 ∧ FldSame s t [(F.DBG_NOC_STAT_BUSY, 0), (F.DBG_NOC_CTL_GO, 0)] ∧ r.why = .debug ∧ r.pkt.init = 0x4C3 ∧
      r.pkt.addr = a % 2 ^ 52 ∧ r.pkt.dev = (if bitOf a 61 then s.fld F.DEV_ID else a / 2 ^ 52 % 2 ^ 9) ∧ r.pkt.len = n ∧
      r.pkt.keyid = s.fld F.DBG_NOC_CTL_KEYID ∧ (wr = false → r.pkt.opc = opREAD ∧ r.pkt.data = []) ∧
      (wr = true → r.pkt.opc = opWRITE ∧ r.pkt.data = (List.range (n + 1)).map (fun j =>
        BitVec.ofNat 8 (bitsOf (s.fld F.DBG_NOC_DATA_DATA 0 ((a % 64 + j) / 8)) (8 * ((a % 64 + j) % 8)) 8))))) ∧
  (∀ (s : State) (x : Nat),
    (104 ≤ x → exec (.dbgReq x) s = .next s) ∧
    (x < 104 → ∃ t, exec (.dbgReq x) s = .next t ∧ t.fld F.DBG_REQ_REQ x = 1 ∧ FldSame s t [(F.DBG_REQ_REQ, x)] ∧
      t = { s with regs := t.regs, vc := t.vc, sc := t.sc } ∧
      (x < 8 → t.sc = s.sc ∧ t.vc.get x = { s.vc.get x with dbg := if (s.vc.get x).dbg = 0 then 0x1000 else (s.vc.get x).dbg }) ∧
      (8 ≤ x → t.vc = s.vc ∧ t.sc.get (x - 8) = { s.sc.get (x - 8) with dbg := if (s.sc.get (x - 8)).dbg = 0 then 0x1000 else (s.sc.get (x - 8)).dbg }))) ∧
  (∀ (s : State) (x num v : Nat),
    let st := if x < 8 then s.fld F.CC_STATUS_STATE x else s.fld F.SC_STATUS_STATE (x - 8)
    let halted := st = 0 ∨ st = 3
    let q := num / 4096
    let i := num % 4096
    let stat := fun (j : Instr) (c : Nat) => ∃ t, exec j s = .next t ∧ t.fld F.DBG_RACC_CTL_RSTAT x = c ∧ t.fld F.DBG_RACC_NUM_RNUM x = num ∧
      OnlyRegs s t ([F.DBG_RACC_CTL_RSTAT, F.DBG_RACC_NUM_RNUM, F.DBG_RACC_DATA_DATA].map (fun f => (f, x)))
    let reads := fun (r : Nat) => ∃ t, exec (.dbgRaccRead x num) s = .next t ∧ t.fld F.DBG_RACC_DATA_DATA x = r % 2 ^ 64 ∧ t.fld F.DBG_RACC_CTL_RSTAT x = 0 ∧
      t.fld F.DBG_RACC_NUM_RNUM x = num ∧ OnlyRegs s t ([F.DBG_RACC_CTL_RSTAT, F.DBG_RACC_NUM_RNUM, F.DBG_RACC_DATA_DATA].map (fun f => (f, x)))
    let writes := fun (p : State → Prop) => ∃ t, exec (.dbgRaccWrite x num v) s = .next t ∧ t.fld F.DBG_RACC_CTL_RSTAT x = 0 ∧ p t ∧
      t = { s with regs := t.regs, vc := t.vc, sc := t.sc }
    (104 ≤ x → exec (.dbgRaccRead x num) s = .next s ∧ exec (.dbgRaccWrite x num v) s = .next s) ∧
    (x < 104 → num < 2 ^ 16 → ¬halted → stat (.dbgRaccRead x num) 1 ∧ stat (.dbgRaccWrite x num v) 1) ∧
    (x < 8 → num < 2 ^ 16 → halted →
      (q = 0 → i < 16 → reads ((s.vc.get x).regs.get i).toNat ∧
        (i ≠ 0 → writes (fun t => (t.vc.get x).regs.get i = BitVec.ofNat 64 v)) ∧ (i = 0 → writes (fun t => t.vc = s.vc))) ∧
      (q = 1 → i < 144 → reads ((s.vc.get x).regs.get (16 + i)).toNat ∧ writes (fun t => (t.vc.get x).regs.get (16 + i) = BitVec.ofNat 64 v)) ∧
      (q = 2 → i < 16 → reads ((s.vc.get x).regs.get (160 + i)).toNat ∧ writes (fun t => (t.vc.get x).regs.get (160 + i) = BitVec.ofNat 64 v)) ∧
      (q = 4 → reads (s.vc.get x).pc.toNat ∧ writes (fun t => (t.vc.get x).pc = BitVec.ofNat 64 v)) ∧
      ((q = 0 ∧ 16 ≤ i) ∨ (q = 1 ∧ 144 ≤ i) ∨ (q = 2 ∧ 16 ≤ i) ∨ 5 ≤ q → stat (.dbgRaccRead x num) 2 ∧ stat (.dbgRaccWrite x num v) 2)) ∧
    (8 ≤ x → x < 104 → num < 2 ^ 16 → halted →
      let k := s.sc.get (x - 8)
      (q = 0 → i < 32 → reads (k.v.get i).toNat ∧ writes (fun t => (t.sc.get (x - 8)).v.get i = BitVec.ofNat 24 v)) ∧
      (q = 1 → i < 4 → reads (k.acc.get i).toNat ∧ writes (fun t => (t.sc.get (x - 8)).acc.get i = BitVec.ofNat 56 v)) ∧
      (q = 3 → i < 8 → reads (k.ap.get i).toNat ∧ writes (fun t => (t.sc.get (x - 8)).ap.get i = BitVec.ofNat 64 v)) ∧
      (q = 5 → reads k.pc ∧ writes (fun t => (t.sc.get (x - 8)).pc = v % 2 ^ 64 % 4096)) ∧
      ((q = 0 ∧ 32 ≤ i) ∨ (q = 1 ∧ 4 ≤ i) ∨ (q = 2 ∧ 8 ≤ i) ∨ (q = 3 ∧ 24 ≤ i) ∨ (q = 4 ∧ 32 ≤ i) ∨ 6 ≤ q →
        stat (.dbgRaccRead x num) 2 ∧ stat (.dbgRaccWrite x num v) 2)) ∧
    (104 ≤ x → exec (.dbgResume x v) s = .next s) ∧
    (x < 104 → st ≠ 3 → ∃ t, exec (.dbgResume x v) s = .next t ∧ t.fld F.DBG_RESUME_PC_PC x = v % 2 ^ 64 ∧ OnlyRegs s t [(F.DBG_RESUME_PC_PC, x)]) ∧
    (x < 8 → st = 3 → ∃ t, exec (.dbgResume x v) s = .next t ∧ t.fld F.DBG_RESUME_PC_PC x = v % 2 ^ 64 ∧ t.fld F.CC_STATUS_STATE x = 1 ∧
      t.fld F.PSTATE_TW x = 0 ∧ t.vpc x = BitVec.ofNat 64 v ∧ (t.vc.get x).wait = .none ∧ (t.vc.get x).regs = (s.vc.get x).regs ∧
      t = { s with regs := t.regs, vc := t.vc } ∧ FldSame s t ([F.DBG_RESUME_PC_PC, F.CC_STATUS_STATE, F.PSTATE_TW].map (fun f => (f, x)))) ∧
    (8 ≤ x → x < 104 → st = 3 → ∃ t, exec (.dbgResume x v) s = .next t ∧ t.fld F.DBG_RESUME_PC_PC x = v % 2 ^ 64 ∧
      t.fld F.SC_STATUS_STATE (x - 8) = 1 ∧ t.fld F.S_SSTATUS_INTRAP (x - 8) = 0 ∧ (t.sc.get (x - 8)).pc = v % 2 ^ 64 % 4096 ∧
      (t.sc.get (x - 8)).wait = .none ∧ t = { s with regs := t.regs, sc := t.sc })) ∧
  (∀ (s : State) (c v : Nat),
    (8 ≤ c → exec (.mboxInWrite c v) s = .next s ∧ exec (.mboxOutWrite c v) s = .next s) ∧
    (c < 8 → (∃ t, exec (.mboxInWrite c v) s = .next t ∧ t.fld F.MBOX_IN_IN 0 c = v % 2 ^ 64 ∧ t.fld F.MBOX_FLAG_IN_FULL 0 c = 1 ∧
        (irqOpen s = true → s.bit F.IRQ_SRC_ACTIVE 0 (0xA0 + c) = false → t.fld F.IRQ_SRC_PENDING 0 (0xA0 + c) = 1) ∧
        OnlyIrq s t [(F.MBOX_IN_IN, 0), (F.MBOX_FLAG_IN_FULL, 0)]) ∧
      (∃ t, exec (.mboxOutWrite c v) s = .next t ∧ t.fld F.MBOX_OUT_OUT 0 c = v % 2 ^ 64 ∧ t.fld F.MBOX_FLAG_OUT_FULL 0 c = 1 ∧
        OnlyRegs s t [(F.MBOX_OUT_OUT, 0), (F.MBOX_FLAG_OUT_FULL, 0)])))

/-- GPIO configuration, sampling and events, timing sets and the fence (R746, R747, R756, R757, R758, R760, R761). -/
def Obligations.GpioForms : Prop :=
  (∀ (s : State) (b lv : Nat),
    (20 ≤ b → exec (.gpioInputChange b lv) s = .next s) ∧
    (b < 20 → ∃ t, exec (.gpioInputChange b lv) s = .next t ∧ OnlyShows s t ∧
      t = { s with regs := t.regs, gpio := t.gpio, irqWin := t.irqWin, irqHeld := t.irqHeld, out := t.out } ∧ t.gpio.cells = s.gpio.cells ∧
      t.gpio.pads.get b = lv % 2 ^ 24 ∧ FldSame s t (irqFs ++ [(F.GPIO_EVT_EVT, b)]) ∧
      (gpioSampled s = false → t.gpio.seen = s.gpio.seen ∧ FldSame s t []) ∧
      (gpioSampled s = true → t.gpio.seen.get b = gpioInputs t b ∧ ∀ i < 24,
        let was := bitOf (s.gpio.seen.get b) i
        let now := bitOf (gpioInputs t b) i
        let m := s.fld F.GPIO_CFG_IRQ_MODE b i
        let ev := ((m = 1 ∧ ¬was ∧ now) ∨ (m = 2 ∧ was ∧ ¬now) ∨ (m = 3 ∧ was ≠ now) ∨ (m = 4 ∧ now) ∨ (m = 5 ∧ ¬now)) ∧
          ¬(s.bit F.GPIO_CFG_STD b (i / 2 * 2) = true ∧ i % 2 = 1)
        (bitOf (t.fld F.GPIO_EVT_EVT b) i = true ↔ (bitOf (s.fld F.GPIO_EVT_EVT b) i = true ∨ ev)) ∧
        (ev → irqOpen s = true → s.bit F.IRQ_SRC_ACTIVE 0 (0x600 + 24 * b + i) = false → t.fld F.IRQ_SRC_PENDING 0 (0x600 + 24 * b + i) = 1)))) ∧
  (∀ (s : State) (b i v : Nat),
    let osel := fun k => bitsOf (s.fld F.GPIO_OSEL_OSEL b) (2 * k) 2
    let free := osel i = 0 ∧ (i % 2 = 0 → bitOf v 0 = true ∨ s.bit F.GPIO_CFG_STD b i = true → osel (i + 1) = 0)
    let fs := [F.GPIO_CFG_STD, F.GPIO_CFG_DDR, F.GPIO_CFG_TERM]
    (¬(b < 20 ∧ i < 24) → exec (.gpioCfgWrite b i v) s = .next s ∧ exec (.gpioTsetWrite b i v) s = .next s) ∧
    (b < 20 → i < 24 → ∃ t, exec (.gpioCfgWrite b i v) s = .next t ∧ OnlyShows s t ∧
      t = { s with regs := t.regs, gpio := t.gpio, irqWin := t.irqWin, irqHeld := t.irqHeld, out := t.out } ∧
      t.fld F.GPIO_CFG_IRQ_MODE b i = bitsOf v 20 3 ∧ t.fld F.GPIO_CFG_SYNC b i = bitsOf v 16 1 ∧ t.fld F.GPIO_CFG_PULL b i = bitsOf v 4 2 ∧
      (free → t.fld F.GPIO_CFG_STD b i = bitsOf v 0 1 ∧ t.fld F.GPIO_CFG_DDR b i = bitsOf v 12 1 ∧ t.fld F.GPIO_CFG_TERM b i = bitsOf v 8 1 ∧
        t.fld F.GPIO_BSTAT_CFGERR b = s.fld F.GPIO_BSTAT_CFGERR b) ∧
      (¬free → t.fld F.GPIO_BSTAT_CFGERR b = 1 ∧ ∀ f ∈ fs, t.fld f b i = s.fld f b i) ∧
      FldSame s t (irqFs ++ (fs ++ [F.GPIO_CFG_IRQ_MODE, F.GPIO_CFG_SYNC, F.GPIO_CFG_PULL, F.GPIO_BSTAT_CFGERR, F.GPIO_EVT_EVT]).map (fun f => (f, b)))) ∧
    (b < 20 → i < 24 →
      let act := bitOf (s.fld F.GPIO_TSEL_TSEL b) i
      let fa := if act then F.GPIO_TSET_SET1 else F.GPIO_TSET_SET0
      let fi := if act then F.GPIO_TSET_SET0 else F.GPIO_TSET_SET1
      let va := if act then bitsOf v 16 15 else bitsOf v 0 15
      let vi := if act then bitsOf v 0 15 else bitsOf v 16 15
      ∃ t, exec (.gpioTsetWrite b i v) s = .next t ∧ t.fld fi b i = vi ∧ t.fld fa b i = s.fld fa b i ∧
        t.fld F.GPIO_BSTAT_TSERR b = (if va = s.fld fa b i then s.fld F.GPIO_BSTAT_TSERR b else 1) ∧
        OnlyRegs s t [(fi, b), (F.GPIO_BSTAT_TSERR, b)]) ∧
    (20 ≤ b → exec (.gpioFencedClear b) s = .next s) ∧
    (b < 20 → ∃ t, exec (.gpioFencedClear b) s = .next (gpioShow b t) ∧ t.fld F.GPIO_BSTAT_FENCED b = 0 ∧ OnlyRegs s t [(F.GPIO_BSTAT_FENCED, b)])) ∧
  (∀ (s : State),
    let o := fun b => gpioOuts s b
    let code := fun b => (o b).1 + (o b).2.1 * 2 ^ 24 + (o b).2.2 * 2 ^ 48
    let moved := (List.range 20).filter (fun b => code b != s.gpio.shown.get b)
    ∃ m, (∀ b < 20, m.get b = code b) ∧ (∀ b, 20 ≤ b → m.get b = s.gpio.shown.get b) ∧
      gpioShowAll s = { s with gpio := { s.gpio with shown := m }, out := s.out ++ moved.map (fun b => Out.pins b (o b).1 (o b).2.1 (o b).2.2) })

/-! ### Pick boundaries -/

namespace Sys2Proof.Claims
open Sys2Proof Machine
/-- Nothing but staged values and slices waits for a boundary: no mode change, no scheduled operation of Reed, no resync, no
isolation, no command, hold, migration, test or move of the configuration plane. -/
def Quiet (s : State) : Prop :=
  s.owed = [] ∧ s.reed.modes = [] ∧ s.reed.kept = [] ∧ s.reed.resync = false ∧ s.disco.isolating = false ∧ s.cmds = [] ∧ s.holds = [] ∧ s.migs = [] ∧
  s.occ = none ∧ s.fld F.HD_MOVE_CTL_STATE ≠ 2
/-- No bay has a bank swap to take at a boundary. -/
def NoSwap (s : State) : Prop :=
  ∀ b < 768, s.frozen.contains b = true ∨ s.fld F.HD_MAP_OSTATE 0 b = oMIGDEST ∨
    (s.fld F.BAY_COEF_ACT_PEND b = 0 ∧ s.fld F.BAY_COEF_SEL_SEL b = s.fld F.BAY_COEF_ACT_ACT b)
/-- The counters read boundary `n` and its time (R594, R595). -/
def AtBoundary (s t : State) (n : Nat) : Prop :=
  t.fld F.PICK_CNT = n ∧ t.fld F.SYSTIME = (s.fld F.ORIGIN_T + (n - s.fld F.ORIGIN_N) * pickNs (s.fld F.PICK_NS)) % 2 ^ 64
/-- PICK_STB_k is up at every running clock input of the bays that skeins hold, and as before elsewhere (R82). -/
def StrobesUp (s t : State) : Prop :=
  ∀ b < 768, let run := ofBits ((List.range 8).map (bayClk s b))
    t.strobe.get b = if s.fld F.BAY_STATUS_OWNER b = 0 ∨ run = 0 then s.strobe.get b else s.strobe.get b / 256 * 256 + run
/-- `exec` answers `v`, with the pins shown as they are then; `v` differs from `s` by `u`'s fields, registers and strobes. -/
def PassesTo (s u v : State) (n : Nat) : Prop :=
  AtBoundary s v n ∧ StrobesUp s v ∧ v = { u with regs := v.regs, strobe := v.strobe }
end Sys2Proof.Claims

/-- A pick boundary: the counters, staged values by POLICY, bank swaps, a scheduled reset (R35, R57, R59, R151, R152,
R594, R595, R603, R614, R686). -/
def Obligations.BoundaryForms : Prop :=
  ∀ (s : State) (parity : List Nat),
    let n := s.fld F.PICK_CNT + 1
    let i := Instr.pickBoundary parity
    let counts : List (Field × Nat) := [(F.PICK_CNT, 0), (F.SYSTIME, 0)]
    (timeRuns s = false → exec i s = .next s) ∧
    (timeRuns s = true → n < 2 ^ 64 → Quiet s → NoSwap s → s.staged = [] → ∃ v, exec i s = .next (gpioShowAll v) ∧ PassesTo s s v n ∧
      FldSame s v counts) ∧
    (timeRuns s = true → n < 2 ^ 64 → Quiet s → NoSwap s → s.dev ≠ .deepSleep → ∀ hu, (∀ g ∈ s.staged, g.hu = hu ∧
        g.fld ∈ [F.HD_WEIGHT_W_EDGE, F.HD_WEIGHT_W_DIST, F.HD_WEIGHT_W_POWER, F.HD_WEIGHT_W_WEAR, F.HD_WEIGHT_W_HEALTH, F.HD_SWEIGHT_W_FILL,
          F.HD_SWEIGHT_W_SDIST, F.PROBE_CTL_EN]) →
      (∀ g ∈ s.staged, ∀ g' ∈ s.staged, g.fld = g'.fld → g.u = g'.u → g.i = g'.i → g = g') → s.staged ≠ [] → hu ≠ 8 → hu ≠ 11 →
      hu / 0x1000 ≠ 1 → hu / 0x1000 ≠ 2 →
      let pol := s.fld F.STAGE_CTL_POLICY hu
      let at_ := s.fld F.STAGE_PICK_PICK hu
      let clocked := (hu = 5 → domRuns s 3 = true) ∧ (hu = 7 → domRuns s 0 = true)
      (pol = 0 ∨ (pol = 1 ∧ at_ = n) →
        (clocked → ∃ v, exec i s = .next (gpioShowAll v) ∧ PassesTo s { s with staged := [] } v n ∧
          (∀ g ∈ s.staged, v.fld g.fld g.u g.i = g.v % 2 ^ g.fld.w) ∧ FldSame s v (counts ++ s.staged.map (fun g => (g.fld, g.u)))) ∧
        (¬clocked → ∃ v o, exec i s = .next (gpioShowAll v) ∧ PassesTo s { s with staged := [], owed := o } v n ∧ FldSame s v counts ∧
          ∀ g, g ∈ o ↔ g ∈ s.staged)) ∧
      (pol = 1 → at_ < n → ∃ v, exec i s = .next (gpioShowAll v) ∧ PassesTo s s v n ∧ v.fld F.UNIT_STATUS_LATE hu = 1 ∧
        FldSame s v (counts ++ [(F.UNIT_STATUS_LATE, hu)])) ∧
      ((2 ≤ pol ∨ (pol = 1 ∧ n < at_)) → ∃ v, exec i s = .next (gpioShowAll v) ∧ PassesTo s s v n ∧ FldSame s v counts)) ∧
    (timeRuns s = true → n < 2 ^ 64 → Quiet s → s.staged = [] → ∃ v m, exec i s = .next (gpioShowAll v) ∧ PassesTo s { s with missed := m } v n ∧
      (∀ g v' j, g.id ≠ F.PICK_CNT.id → g.id ≠ F.SYSTIME.id → g.id ≠ F.BAY_COEF_ACT_ACT.id → g.id ≠ F.BAY_COEF_ACT_PEND.id →
        v.fld g v' j = s.fld g v' j) ∧
      ∀ b < 768, let takes := s.frozen.contains b = false ∧ s.fld F.HD_MAP_OSTATE 0 b ≠ oMIGDEST
        (∀ j, bitOf (m.get b) j = if takes ∧ j < 8 ∧ (s.fld F.BAY_COEF_ACT_PEND b ≠ 0 ∨ s.fld F.BAY_COEF_SEL_SEL b ≠ s.fld F.BAY_COEF_ACT_ACT b)
          then !bayClk s b j else bitOf (s.missed.get b) j) ∧
        ∀ k < 32,
          let act := bitOf (s.fld F.BAY_COEF_ACT_ACT b) k
          let pend := bitOf (s.fld F.BAY_COEF_ACT_PEND b) k
          let act' := bitOf (v.fld F.BAY_COEF_ACT_ACT b) k
          let pend' := bitOf (v.fld F.BAY_COEF_ACT_PEND b) k
          (¬takes ∨ bayClk s b (slcClk s b k) = false → act' = act ∧ pend' = pend) ∧
          (takes → bayClk s b (slcClk s b k) = true → slcSwapFabric s b k = true → act' = (act != pend) ∧ pend' = false) ∧
          (takes → bayClk s b (slcClk s b k) = true → slcSwapFabric s b k = false → pend' = pend ∧
            act' = bitOf (s.fld F.BAY_COEF_SEL_SEL b) k)) ∧
    (timeRuns s = true → (∃ k ∈ s.reed.kept, k.sym.op = 5 ∧ (k.late = true ∨ k.sym.pick = n)) → ∃ t, exec i s = .next t ∧ t.dev = .run ∧
      ResetDone s t 5 (fun b f => f.form == .every && !railLog f && f.id != F.DEV_ID.id && f.id != F.PWR_GPIO_V_READY.id &&
        !([Blk.pcie, .dbg, .dcmp, .clk, .spb, .mp, .mpe, .warp, .reed, .hdr, .lane].contains b)))

/-! ### The step, reset and the invariant -/

/-- A step runs the command at the front of the queue; an empty queue is one tick of the timebase (R36, R270, R594).
-/
def Obligations.StepRunsFront : Prop :=
  ∀ (s : State) (c : Instr) (q : List Instr),
    step { s with pending := c :: q } = exec c { s with pending := q } ∧
    (s.pending = [] → s.dbg.wait = none → s.reed.modes = [] →
      (tickFree s = false → step s = .next s) ∧
      (tickFree s = true → ∃ t, step s = .next t ∧ t.fld F.SYSTIME = (s.fld F.SYSTIME + (if s.dev = .deepSleep then 20 else 1)) % 2 ^ 64 ∧
        OnlyRegs s t [(F.SYSTIME, 0)]))

/-- The state after reset (R41, R594, R632, R635, R670, R684). -/
def Obligations.ResetState : Prop :=
  (∀ f u i, State.reset.fld f u i = f.resetAt u i) ∧ (∀ a, State.reset.rdB a = 0 ∧ State.reset.ecc.get a = 0) ∧
  State.reset.pending = [] ∧ State.reset.cmds = [] ∧ State.reset.reqs = [] ∧ State.reset.hops = [] ∧ State.reset.dev = .run ∧
  State.reset.vin = true ∧ Canonical State.reset ∧
  State.reset.fld F.SYSTIME = 0 ∧ State.reset.fld F.PICK_CNT = 0 ∧ State.reset.fld F.PICK_NS = 1000 ∧ State.reset.fld F.RST_CAUSE_CAUSE = 1 ∧
  (∀ b < 768, State.reset.fld F.PWR_BAY_STATE_STATE 0 b = 2) ∧ (∀ d < 6, d ≠ 4 → State.reset.fld F.DOM_STATUS_CUR_SRC 0 d = 1) ∧
  State.reset.fld F.DOM_STATUS_STATE 0 4 = 4 ∧ State.reset.fld F.DOM_STATUS_CUR_SRC 0 4 = 3

/-- Every step keeps the canonical form of registers and memories, and takes exactly one command (R1, R6, R36, R103,
R128, R434). -/
def Obligations.StepKeepsCanonical : Prop :=
  ∀ (s t : State), Canonical s → step s = .next t → Canonical t ∧ t.pending = s.pending.tail

/-- The commands that instruction words of the cores spell: the formats of Table 7.5, the opcodes of Tables 7.6 to 7.14 and
9.1, and the multiply and 24-bit rows of Table 12.6; an opcode or fn of a control core that no table lists spells an ILLEGAL word
(R221, R222, R223, R268, R376). -/
def Obligations.InstructionWords : Prop :=
  (∀ (c op rd a b z fn : Nat), op < 64 → rd < 32 → a < 32 → b < 32 → z < 32 → fn < 64 →
    let is := fun (m k : Nat) (i : Instr) => op = m → fn = k → vireloWord c (op * 2 ^ 26 + rd * 2 ^ 21 + a * 2 ^ 16 + b * 2 ^ 11 + z * 2 ^ 6 + fn) = i
    let bad := fun (m : Nat) (ks : List Nat) => op = m → fn ∉ ks →
      vireloWord c (op * 2 ^ 26 + rd * 2 ^ 21 + a * 2 ^ 16 + b * 2 ^ 11 + z * 2 ^ 6 + fn) = .add c 0 0 0 1
    is 0 0 (.add c rd a b z) ∧ is 0 1 (.sub c rd a b z) ∧ is 0 2 (.adc c rd a b z) ∧ is 0 3 (.sbc c rd a b z) ∧
    is 0 8 (.and c rd a b z) ∧ is 0 9 (.or c rd a b z) ∧ is 0 10 (.xor c rd a b z) ∧ is 0 11 (.andn c rd a b z) ∧
    is 0 12 (.min c rd a b z) ∧ is 0 13 (.max c rd a b z) ∧ is 0 14 (.minu c rd a b z) ∧ is 0 15 (.maxu c rd a b z) ∧
    bad 0 [0, 1, 2, 3, 4, 5, 8, 9, 10, 11, 12, 13, 14, 15, 16, 17] ∧
    is 1 0 (.mul c rd a b z) ∧ is 1 1 (.mulh c rd a b z) ∧ is 1 2 (.mulhu c rd a b z) ∧ is 1 4 (.div c rd a b z) ∧
    is 1 5 (.divu c rd a b z) ∧ is 1 6 (.rem c rd a b z) ∧ is 1 7 (.remu c rd a b z) ∧ bad 1 [0, 1, 2, 4, 5, 6, 7] ∧
    is 2 0 (.sll c rd a b z) ∧ is 2 1 (.srl c rd a b z) ∧ is 2 2 (.sra c rd a b z) ∧ is 2 3 (.ror c rd a b z) ∧ bad 2 [0, 1, 2, 3] ∧
    is 0x1C 0 (.swap c rd a b z) ∧ is 0x1C 1 (.fadd c rd a b z) ∧ is 0x1C 2 (.cas c rd a b z) ∧ bad 0x1C [0, 1, 2] ∧
    (b = 0 → is 0x3E 0 (.lload c rd a z) ∧ is 0x3E 1 (.lrel c rd a z) ∧ is 0x3E 2 (.lhold c rd a z) ∧ is 0x3E 3 (.lfree c rd a z) ∧
      is 0x3E 4 (.labort c rd a z) ∧ is 0x3E 5 (.lplace c rd a z) ∧ is 0x3E 6 (.lsnap c rd a z) ∧ is 0x3E 7 (.lrest c rd a z) ∧
      is 0x3E 8 (.lmigr c rd a z) ∧ is 0x3E 0x10 (.lwait c rd a z) ∧ is 0x3E 0x11 (.lstat c rd a z) ∧ is 0x3E 0x12 (.lnext c rd a z)) ∧
    bad 0x3E [0, 1, 2, 3, 4, 5, 6, 7, 8, 9, 10, 11, 16, 17, 18, 19] ∧
    (op ∈ [9, 10, 11, 14, 15, 0x17, 0x1F, 0x23, 0x2A, 0x2B, 0x2C, 0x2D, 0x2E, 0x2F, 0x34, 0x35, 0x36, 0x37, 0x38, 0x39, 0x3A, 0x3B, 0x3C, 0x3D, 0x3F] →
      bad op [])) ∧
  (∀ (c op rd a : Nat) (im : BitVec 16), op < 64 → rd < 32 → a < 32 →
    let is := fun (m : Nat) (i : Instr) => op = m → vireloWord c (op * 2 ^ 26 + rd * 2 ^ 21 + a * 2 ^ 16 + im.toNat) = i
    is 4 (.addi c rd a im) ∧ is 5 (.cmpi c a im rd) ∧ is 6 (.andi c rd a im) ∧ is 7 (.ori c rd a im) ∧ is 8 (.xori c rd a im) ∧
    is 0x10 (.ld c rd a im) ∧ is 0x11 (.lw c rd a im) ∧ is 0x12 (.lwu c rd a im) ∧ is 0x13 (.lh c rd a im) ∧ is 0x14 (.lhu c rd a im) ∧
    is 0x15 (.lb c rd a im) ∧ is 0x16 (.lbu c rd a im) ∧ is 0x18 (.sd c rd a im) ∧ is 0x19 (.sw c rd a im) ∧ is 0x1A (.sh c rd a im) ∧
    is 0x1B (.sb c rd a im) ∧ is 0x21 (.bz c a im rd) ∧ is 0x22 (.bnz c a im rd) ∧ is 0x33 (.trap c im (rd + a))) ∧
  (∀ (c : Nat) (d : BitVec 26), vireloWord c (0x24 * 2 ^ 26 + d.toNat) = .call c d ∧ vireloWord c (0x25 * 2 ^ 26 + d.toNat) = .jmp c d) ∧
  (∀ (n op d a b k : Nat) (x1 x2 : BitVec 20), d < 4 → a < 32 → b < 32 →
    let lo := x1.toNat * 2 ^ 20 + x2.toNat
    bundleWord n lo = .scMacNop n x1 x2 ∧
    (let w := op * 2 ^ 58 + d * 2 ^ 56 + a * 2 ^ 51 + b * 2 ^ 46 + k * 2 ^ 44 + lo
     k < 4 → (op = 1 → bundleWord n w = .scMul n d a b (bitOf k 1) (bitOf k 0) 0 x1 x2) ∧
       (op = 2 → bundleWord n w = .scMac n d a b (bitOf k 1) (bitOf k 0) 0 x1 x2) ∧
       (op = 3 → bundleWord n w = .scMsu n d a b (bitOf k 1) (bitOf k 0) 0 x1 x2)) ∧
    (let w := op * 2 ^ 58 + a * 2 ^ 51 + b * 2 ^ 46 + k * 2 ^ 40 + lo
     k < 32 → (op = 0x11 → bundleWord n w = .scAdd n a b k false 0 x1 x2) ∧ (op = 0x12 → bundleWord n w = .scSub n a b k false 0 x1 x2) ∧
       (op = 0x17 → bundleWord n w = .scAnd n a b k false 0 x1 x2)))
end

