-- ==== Sys2Proof/Laws/SMap.lean ====
section
/-!
SUPPORT. The laws of the sparse map: what a read answers after a write, and that every operation keeps the
canonical form.
-/
namespace Sys2Proof.Machine

@[simp] theorem SMap.get_empty {α : Type} [Inhabited α] (k : Nat) : (SMap.mk ([] : List (Nat × α))).get k = default := rfl

theorem SMap.getL_insL {α : Type} [Inhabited α] (k j : Nat) (v : α) (m : List (Nat × α)) :
    SMap.getL (SMap.insL k v m) j = if j = k then v else SMap.getL m j := by
  induction m with
  | nil => simp [SMap.insL, SMap.getL]
  | cons c m ih =>
    unfold SMap.insL
    split
    · rename_i h; subst h; simp [SMap.getL]; split <;> simp_all
    · split
      · simp [SMap.getL]
      · simp only [SMap.getL, ih]
        split
        · rename_i h1 _ h2; subst h2; simp [Ne.symm h1]
        · rfl

theorem SMap.getL_delL {α : Type} [Inhabited α] (k j : Nat) (m : List (Nat × α)) :
    SMap.getL (SMap.delL k m) j = if j = k then default else SMap.getL m j := by
  induction m with
  | nil => simp [SMap.delL, SMap.getL]
  | cons c m ih =>
    unfold SMap.delL
    split
    · rename_i h; subst h; simp only [SMap.getL, ih]; split <;> simp_all
    · simp only [SMap.getL, ih]
      split
      · rename_i h1 h2; subst h2; simp [Ne.symm h1]
      · rfl

/-- A read after a write: the value written at its key, the old value elsewhere. -/
theorem SMap.get_set {α : Type} [Inhabited α] [DecidableEq α] (m : SMap α) (k j : Nat) (v : α) :
    (m.set k v).get j = if j = k then v else m.get j := by
  unfold SMap.set SMap.get
  split
  · rename_i h; subst h; simp [SMap.getL_delL]
  · simp [SMap.getL_insL]

@[simp] theorem SMap.get_set_same {α : Type} [Inhabited α] [DecidableEq α] (m : SMap α) (k : Nat) (v : α) :
    (m.set k v).get k = v := by simp [SMap.get_set]

theorem SMap.get_set_ne {α : Type} [Inhabited α] [DecidableEq α] (m : SMap α) (k j : Nat) (v : α) (h : j ≠ k) :
    (m.set k v).get j = m.get j := by simp [SMap.get_set, h]

theorem SMap.wfL_mono {α : Type} [Inhabited α] [DecidableEq α] {a b : Nat} {m : List (Nat × α)} (hab : a ≤ b)
    (h : SMap.wfL b m = true) : SMap.wfL a m = true := by
  cases m with
  | nil => rfl
  | cons c m => simp only [SMap.wfL, Bool.and_eq_true, decide_eq_true_eq] at h ⊢; exact ⟨⟨by omega, h.1.2⟩, h.2⟩

theorem SMap.wfL_delL {α : Type} [Inhabited α] [DecidableEq α] (k : Nat) (a : Nat) (m : List (Nat × α))
    (h : SMap.wfL a m = true) : SMap.wfL a (SMap.delL k m) = true := by
  induction m generalizing a with
  | nil => rfl
  | cons c m ih =>
    simp only [SMap.wfL, Bool.and_eq_true, decide_eq_true_eq] at h
    unfold SMap.delL
    split
    · exact ih a (SMap.wfL_mono (by omega) h.2)
    · simp only [SMap.wfL, Bool.and_eq_true, decide_eq_true_eq]; exact ⟨h.1, ih _ h.2⟩

theorem SMap.wfL_insL {α : Type} [Inhabited α] [DecidableEq α] (k : Nat) (v : α) (hv : v ≠ default) (a : Nat)
    (m : List (Nat × α)) (ha : a ≤ k) (h : SMap.wfL a m = true) : SMap.wfL a (SMap.insL k v m) = true := by
  induction m generalizing a with
  | nil => simp [SMap.insL, SMap.wfL, ha, hv]
  | cons c m ih =>
    simp only [SMap.wfL, Bool.and_eq_true, decide_eq_true_eq] at h
    unfold SMap.insL
    split
    · rename_i hk; subst hk
      simp only [SMap.wfL, Bool.and_eq_true, decide_eq_true_eq]; exact ⟨⟨ha, by simp [hv]⟩, h.2⟩
    · split
      · simp only [SMap.wfL, Bool.and_eq_true, decide_eq_true_eq]
        exact ⟨⟨ha, by simp [hv]⟩, ⟨by omega, h.1.2⟩, h.2⟩
      · simp only [SMap.wfL, Bool.and_eq_true, decide_eq_true_eq]
        exact ⟨h.1, ih _ (by omega) h.2⟩

/-- Every write keeps the canonical form. -/
theorem SMap.wf_set {α : Type} [Inhabited α] [DecidableEq α] (m : SMap α) (k : Nat) (v : α) (h : m.wf = true) :
    (m.set k v).wf = true := by
  unfold SMap.wf SMap.set at *
  split
  · exact SMap.wfL_delL _ _ _ h
  · rename_i hv; exact SMap.wfL_insL _ _ hv _ _ (Nat.zero_le _) h

theorem SMap.wfL_filter {α : Type} [Inhabited α] [DecidableEq α] (p : Nat × α → Bool) (a : Nat) (m : List (Nat × α))
    (h : SMap.wfL a m = true) : SMap.wfL a (m.filter p) = true := by
  induction m generalizing a with
  | nil => rfl
  | cons c m ih =>
    simp only [SMap.wfL, Bool.and_eq_true, decide_eq_true_eq] at h
    rw [List.filter_cons]
    split
    · simp only [SMap.wfL, Bool.and_eq_true, decide_eq_true_eq]; exact ⟨h.1, ih _ h.2⟩
    · exact ih a (SMap.wfL_mono (by omega) h.2)

/-- Dropping cells keeps the canonical form. -/
theorem SMap.wf_keep {α : Type} [Inhabited α] [DecidableEq α] (m : SMap α) (p : Nat → α → Bool) (h : m.wf = true) :
    (m.keep p).wf = true := SMap.wfL_filter _ _ _ h

end Sys2Proof.Machine
end

