-- ==== Sys2Proof/Laws/Keeps.lean ====
section
/-!
SUPPORT. What every operation keeps: the canonical form of the register cells and of the memories, and the queue.
-/
namespace Sys2Proof.Machine

/-- `t` follows from `s` by operations that leave the queue alone and keep the canonical form. -/
def Keeps (s t : State) : Prop :=
  t.pending = s.pending ∧ (s.regs.wf = true → t.regs.wf = true) ∧ (s.mem.wf = true → t.mem.wf = true) ∧
    (s.ecc.wf = true → t.ecc.wf = true)

/-- The next state of an outcome keeps them. -/
def ResKeeps (s : State) (r : Res) : Prop := ∀ t, r = .next t → Keeps s t

/-- The state that an operation gives, where it gives one, keeps them. -/
def OptKeeps (s : State) (r : Option State) : Prop := ∀ t, r = some t → Keeps s t

@[simp] theorem Keeps.refl (s : State) : Keeps s s := ⟨rfl, id, id, id⟩

theorem Keeps.trans {s t u : State} (h : Keeps s t) (k : Keeps t u) : Keeps s u :=
  ⟨k.1.trans h.1, k.2.1 ∘ h.2.1, k.2.2.1 ∘ h.2.2.1, k.2.2.2 ∘ h.2.2.2⟩

@[simp] theorem resKeeps_next {s t : State} : ResKeeps s (.next t) ↔ Keeps s t :=
  ⟨fun h => h t rfl, fun h u e => by cases e; exact h⟩

@[simp] theorem optKeeps_some {s t : State} : OptKeeps s (some t) ↔ Keeps s t :=
  ⟨fun h => h t rfl, fun h u e => by cases e; exact h⟩

@[simp] theorem optKeeps_none {s : State} : OptKeeps s none := fun _ e => by cases e

@[simp] theorem keeps_ite {s a b : State} {c : Prop} [Decidable c] :
    Keeps s (if c then a else b) ↔ (if c then Keeps s a else Keeps s b) := by split <;> rfl

@[simp] theorem resKeeps_ite {s : State} {a b : Res} {c : Prop} [Decidable c] :
    ResKeeps s (if c then a else b) ↔ (if c then ResKeeps s a else ResKeeps s b) := by split <;> rfl

@[simp] theorem optKeeps_ite {s : State} {a b : Option State} {c : Prop} [Decidable c] :
    OptKeeps s (if c then a else b) ↔ (if c then OptKeeps s a else OptKeeps s b) := by split <;> rfl

/-- A record update that touches none of the four fields keeps them. -/
@[simp] theorem keeps_mk {s : State} (t : State) {x1} {x4} {x5} {x6} {x7} {x8} {x9} {x10} {x11} {x12} {x13} {x14} {x15} {x16} {x17} {x18} {x19} {x20} {x21} {x22} {x23} {x24} {x25} {x26} {x27} {x28} {x29} {x30} {x31} {x32} {x33} {x34} {x35} {x36} {x37} {x38} {x39} {x40} {x41} {x42} {x43} {x44} {x45} {x46} {x47} {x48} {x49} {x50} {x51} {x52} {x53} {x54} {x55} {x56} {x57} {x58} {x59} {x60} {x61} {x62} {x63} {x64} {x65} {x66} {x67} {x68} {x69} {x70} {x71} {x72} {x73} {x74} {x75} :
    Keeps s (State.mk t.regs x1 t.mem t.ecc x4 x5 x6 x7 x8 x9 x10 x11 x12 x13 x14 x15 x16 x17 x18 x19 x20 x21 x22 x23 x24 x25 x26 x27 x28 x29 x30 x31 x32 x33 x34 x35 x36 x37 x38 x39 x40 x41 x42 x43 x44 x45 x46 x47 x48 x49 x50 x51 x52 x53 x54 x55 x56 x57 x58 x59 x60 x61 x62 x63 x64 x65 x66 x67 x68 x69 x70 x71 x72 x73 x74 x75 t.pending) ↔ Keeps s t := Iff.rfl

/-- A fold keeps what each of its steps keeps. -/
theorem keeps_foldl {α β : Type} (g : β → State) (f : β → α → β) (hf : ∀ b x, Keeps (g b) (g (f b x))) (l : List α) (b : β)
    {s : State} (h : Keeps s (g b)) : Keeps s (g (l.foldl f b)) := by
  induction l generalizing b with
  | nil => exact h
  | cons a l ih => exact ih (f b a) (h.trans (hf b a))

@[simp] theorem keeps_forL {α : Type} {s t : State} (l : List α) (f : α → State → State) (hf : ∀ x u, Keeps u (f x u))
    (h : Keeps s t) : Keeps s (forL l f t) := keeps_foldl id (fun s a => f a s) (fun b x => hf x b) l t h

@[simp] theorem keeps_forN {s t : State} (n : Nat) (f : Nat → State → State) (hf : ∀ x u, Keeps u (f x u))
    (h : Keeps s t) : Keeps s (forN n f t) := keeps_forL (List.range n) f hf h

@[simp] theorem keeps_foldl2 {α β : Type} (f : β × State → α → β × State) (hf : ∀ b x, Keeps b.2 (f b x).2) (l : List α)
    (b : β × State) {s : State} (h : Keeps s b.2) : Keeps s (l.foldl f b).2 := keeps_foldl Prod.snd f hf l b h

@[simp] theorem keeps_foldl22 {α β γ : Type} (f : β × γ × State → α → β × γ × State) (hf : ∀ b x, Keeps b.2.2 (f b x).2.2)
    (l : List α) (b : β × γ × State) {s : State} (h : Keeps s b.2.2) : Keeps s (l.foldl f b).2.2 :=
  keeps_foldl (fun b : β × γ × State => b.2.2) f hf l b h

@[simp] theorem keeps_ite2 {β : Type} {s : State} {a b : β × State} {c : Prop} [Decidable c] :
    Keeps s (if c then a else b).2 ↔ (if c then Keeps s a.2 else Keeps s b.2) := by split <;> rfl

@[simp] theorem keeps_ite22 {β γ : Type} {s : State} {a b : β × γ × State} {c : Prop} [Decidable c] :
    Keeps s (if c then a else b).2.2 ↔ (if c then Keeps s a.2.2 else Keeps s b.2.2) := by split <;> rfl

/-- The state in the pair that an operation gives, where it gives one, keeps them. -/
def PairKeeps {α : Type} (s : State) (r : Option (α × State)) : Prop := ∀ a t, r = some (a, t) → Keeps s t

@[simp] theorem pairKeeps_some {α : Type} {s : State} {p : α × State} : PairKeeps s (some p) ↔ Keeps s p.2 :=
  ⟨fun h => h p.1 p.2 rfl, fun h a u e => by cases e; exact h⟩

@[simp] theorem pairKeeps_none {α : Type} {s : State} : PairKeeps s (none : Option (α × State)) := fun _ _ e => by cases e

@[simp] theorem pairKeeps_ite {α : Type} {s : State} {a b : Option (α × State)} {c : Prop} [Decidable c] :
    PairKeeps s (if c then a else b) ↔ (if c then PairKeeps s a else PairKeeps s b) := by split <;> rfl

@[simp] theorem pairKeeps_map {α β : Type} {s : State} {o : Option β} {f : β → α × State} :
    PairKeeps s (o.map f) ↔ ∀ b, o = some b → Keeps s (f b).2 := by
  cases o <;> simp

@[simp] theorem optKeeps_map {β : Type} {s : State} {o : Option β} {f : β → State} :
    OptKeeps s (o.map f) ↔ ∀ b, o = some b → Keeps s (f b) := by
  cases o <;> simp

theorem PairKeeps.out {α : Type} {s t : State} {o : Option (α × State)} {a : α} (q : o = some (a, t)) (k : PairKeeps s o) :
    Keeps s t := k a t q

theorem OptKeeps.out {s t : State} {o : Option State} (q : o = some t) (k : OptKeeps s o) : Keeps s t := k t q

theorem ResKeeps.out {s t : State} {r : Res} (q : r = .next t) (k : ResKeeps s r) : Keeps s t := k t q

@[simp] theorem OptKeeps.getD {s t : State} {o : Option State} (k : OptKeeps s o) (h : Keeps s t) : Keeps s (o.getD t) := by
  cases o with
  | none => exact h
  | some u => exact k u rfl

theorem keeps_snd {α : Type} {s t : State} {e : α × State} {a : α} (q : e = (a, t)) (h : Keeps s e.2) : Keeps s t := by
  subst q; exact h

theorem keeps_snd2 {α β : Type} {s t : State} {e : α × β × State} {a : α} {b : β} (q : e = (a, b, t)) (h : Keeps s e.2.2) :
    Keeps s t := by
  subst q; exact h

theorem OptKeeps.ite {s : State} {a b : Option State} {c : Prop} [Decidable c] (ha : OptKeeps s a) (hb : OptKeeps s b) :
    OptKeeps s (if c then a else b) := by split <;> assumption

theorem Keeps.ite {s a b : State} {c : Prop} [Decidable c] (ha : Keeps s a) (hb : Keeps s b) :
    Keeps s (if c then a else b) := by split <;> assumption

theorem keeps_snd3 {α β γ : Type} {s t : State} {e : α × β × γ × State} {a : α} {b : β} {c : γ} (q : e = (a, b, c, t))
    (h : Keeps s e.2.2.2) : Keeps s t := by
  subst q; exact h

end Sys2Proof.Machine
end

