-- ==== Sys2Proof/Laws/KeepsCore.lean ====
section
/-!
SUPPORT. Registers, storage and cores: for each operation that answers a state, that it leaves the queue alone and keeps the canonical form of the register cells and of the memories (`Keeps`).
-/
namespace Sys2Proof.Machine

@[simp] theorem keeps_setFld (f : Field) (u i v : Nat) {s t : State} (h : Keeps s t) : Keeps s (t.setFld f u i v) :=
  ⟨h.1, fun w => SMap.wf_set _ _ _ (h.2.1 w), h.2.2.1, h.2.2.2⟩

@[simp] theorem keeps_State_setBit (x1) (x2) (x3) {s t : State} (h : Keeps s t) : Keeps s (@State.setBit t x1 x2 x3) := by
  unfold State.setBit
  simp (maxDischargeDepth := 60) [h]

@[simp] theorem keeps_State_clrFld (x1) (x2) (x3) {s t : State} (h : Keeps s t) : Keeps s (@State.clrFld t x1 x2 x3) := by
  unfold State.clrFld
  simp (maxDischargeDepth := 60) [h]

@[simp] theorem keeps_State_bump (x1) (x2) (x3) (x4) {s t : State} (h : Keeps s t) : Keeps s (@State.bump t x1 x2 x3 x4) := by
  unfold State.bump
  simp (maxDischargeDepth := 60) [h]

@[simp] theorem keeps_State_bumpWrap (x1) (x2) (x3) (x4) {s t : State} (h : Keeps s t) : Keeps s (@State.bumpWrap t x1 x2 x3 x4) := by
  unfold State.bumpWrap
  simp (maxDischargeDepth := 60) [h]

@[simp] theorem keeps_State_setFlag (x1) (x2) (x3) (x4) (x5) {s t : State} (h : Keeps s t) : Keeps s (@State.setFlag t x1 x2 x3 x4 x5) := by
  unfold State.setFlag
  simp (maxDischargeDepth := 60) [h]

@[simp] theorem keeps_State_emit (x1) {s t : State} (h : Keeps s t) : Keeps s (@State.emit t x1) := by
  unfold State.emit
  simp (maxDischargeDepth := 60) [h]

@[simp] theorem keeps_State_fresh {s t : State} (h : Keeps s t) : Keeps s (@State.fresh t).2 := by
  unfold State.fresh
  simp (maxDischargeDepth := 60) [h]

@[simp] theorem keeps_State_freshBits (x1) {s t : State} (h : Keeps s t) : Keeps s (@State.freshBits t x1).2 := by
  unfold State.freshBits
  simp (maxDischargeDepth := 60) [h]

@[simp] theorem keeps_State_freshBytes (x1) {s t : State} (h : Keeps s t) : Keeps s (@State.freshBytes t x1).2 := by
  unfold State.freshBytes
  simp (maxDischargeDepth := 60) [h]

@[simp] theorem keeps_wrB (a : Nat) (v : Byte) {s t : State} (h : Keeps s t) : Keeps s (t.wrB a v) :=
  ⟨h.1, h.2.1, fun w => SMap.wf_set _ _ _ (h.2.2.1 w), fun w => SMap.wf_set _ _ _ (h.2.2.2 w)⟩

@[simp] theorem keeps_poisonB (a : Nat) {s t : State} (h : Keeps s t) : Keeps s (t.poisonB a) :=
  ⟨h.1, h.2.1, h.2.2.1, fun w => SMap.wf_set _ _ _ (h.2.2.2 w)⟩

@[simp] theorem keeps_wrBytes (a : Nat) (l : List Byte) {s t : State} (h : Keeps s t) : Keeps s (t.wrBytes a l) := by
  induction l generalizing a t with
  | nil => exact h
  | cons b l ih => exact ih _ (keeps_wrB a b h)

@[simp] theorem keeps_zeroRange (a n : Nat) {s t : State} (h : Keeps s t) : Keeps s (t.zeroRange a n) :=
  ⟨h.1, h.2.1, fun w => SMap.wf_keep _ _ (h.2.2.1 w), fun w => SMap.wf_keep _ _ (h.2.2.2 w)⟩

@[simp] theorem keeps_upset (a dm cm : Nat) {s t : State} (h : Keeps s t) : Keeps s (t.upset a dm cm) :=
  ⟨h.1, h.2.1, fun w => SMap.wf_set _ _ _ (h.2.2.1 w), fun w => SMap.wf_set _ _ _ (h.2.2.2 w)⟩

@[simp] theorem keeps_State_stage (x1) (x2) (x3) (x4) (x5) {s t : State} (h : Keeps s t) : Keeps s (@State.stage t x1 x2 x3 x4 x5) := by
  unfold State.stage
  simp (maxDischargeDepth := 60) [h]

@[simp] theorem keeps_State_discard (x1) {s t : State} (h : Keeps s t) : Keeps s (@State.discard t x1) := by
  unfold State.discard
  simp (maxDischargeDepth := 60) [h]

@[simp] theorem keeps_State_applyStaged (x1) {s t : State} (h : Keeps s t) : Keeps s (@State.applyStaged t x1) := by
  unfold State.applyStaged
  simp (maxDischargeDepth := 60) [h]

@[simp] theorem keeps_irqNote (x0) (x1) (x2) {s t : State} (h : Keeps s t) : Keeps s (@irqNote x0 x1 x2 t) := by
  unfold irqNote
  simp (maxDischargeDepth := 60) [h]

@[simp] theorem keeps_irqSet (x0) {s t : State} (h : Keeps s t) : Keeps s (@irqSet x0 t) := by
  unfold irqSet
  simp (maxDischargeDepth := 60) [h]

@[simp] theorem keeps_irqEdge (x0) {s t : State} (h : Keeps s t) : Keeps s (@irqEdge x0 t) := by
  unfold irqEdge
  simp (maxDischargeDepth := 60) [h]

@[simp] theorem keeps_irqSample (x0) {s t : State} (h : Keeps s t) : Keeps s (@irqSample x0 t) := by
  unfold irqSample
  simp (maxDischargeDepth := 60) [h]

@[simp] theorem keeps_State_setEvt (x1) (x2) (x3) (x4) {s t : State} (h : Keeps s t) : Keeps s (@State.setEvt t x1 x2 x3 x4) := by
  unfold State.setEvt
  simp (maxDischargeDepth := 60) [h]

@[simp] theorem keeps_irqSettle (x0) {s t : State} (h : Keeps s t) : Keeps s (@irqSettle x0 t) := by
  unfold irqSettle
  simp (maxDischargeDepth := 60) [h]

@[simp] theorem keeps_irqClaimSrc (x0) {s t : State} (h : Keeps s t) : Keeps s (@irqClaimSrc x0 t) := by
  unfold irqClaimSrc
  simp (maxDischargeDepth := 60) [h]

@[simp] theorem keeps_irqClaim (x0) {s t : State} (h : Keeps s t) : Keeps s (@irqClaim x0 t).2 := by
  unfold irqClaim
  (repeat' split) <;> simp (maxDischargeDepth := 60) [h]

@[simp] theorem keeps_irqComplete (x0) {s t : State} (h : Keeps s t) : Keeps s (@irqComplete x0 t) := by
  unfold irqComplete
  simp (maxDischargeDepth := 60) [h]

@[simp] theorem keeps_irqEoi (x0) (x1) {s t : State} (h : Keeps s t) : Keeps s (@irqEoi x0 x1 t) := by
  unfold irqEoi
  simp (maxDischargeDepth := 60) [h]

@[simp] theorem keeps_irqHostEoi (x0) {s t : State} (h : Keeps s t) : Keeps s (@irqHostEoi x0 t) := by
  unfold irqHostEoi
  simp (maxDischargeDepth := 60) [h]

@[simp] theorem keeps_irqSwSet (x0) {s t : State} (h : Keeps s t) : Keeps s (@irqSwSet x0 t) := by
  unfold irqSwSet
  simp (maxDischargeDepth := 60) [h]

@[simp] theorem keeps_irqSwClear (x0) {s t : State} (h : Keeps s t) : Keeps s (@irqSwClear x0 t) := by
  unfold irqSwClear
  simp (maxDischargeDepth := 60) [h]

@[simp] theorem keeps_irqBypass (x0) {s t : State} (h : Keeps s t) : Keeps s (@irqBypass x0 t) := by
  unfold irqBypass
  simp (maxDischargeDepth := 60) [h]

@[simp] theorem keeps_irqSrcWrite (x0) (x1) {s t : State} (h : Keeps s t) : Keeps s (@irqSrcWrite x0 x1 t) := by
  unfold irqSrcWrite
  simp (maxDischargeDepth := 60) [h]

@[simp] theorem keeps_irqReleaseHeld {s t : State} (h : Keeps s t) : Keeps s (@irqReleaseHeld t) := by
  unfold irqReleaseHeld
  simp (maxDischargeDepth := 60) [h]

@[simp] theorem keeps_execIrqEvent (x0) {s t : State} (h : Keeps s t) : ResKeeps s (@execIrqEvent x0 t) := by
  unfold execIrqEvent
  simp (maxDischargeDepth := 60) [h]

@[simp] theorem keeps_execIrqSrcWrite (x0) (x1) {s t : State} (h : Keeps s t) : ResKeeps s (@execIrqSrcWrite x0 x1 t) := by
  unfold execIrqSrcWrite
  simp (maxDischargeDepth := 60) [h]

@[simp] theorem keeps_execIrqSwset (x0) {s t : State} (h : Keeps s t) : ResKeeps s (@execIrqSwset x0 t) := by
  unfold execIrqSwset
  simp (maxDischargeDepth := 60) [h]

@[simp] theorem keeps_execIrqPendingClear (x0) {s t : State} (h : Keeps s t) : ResKeeps s (@execIrqPendingClear x0 t) := by
  unfold execIrqPendingClear
  simp (maxDischargeDepth := 60) [h]

@[simp] theorem keeps_execIrqEoi (x0) (x1) (x2) {s t : State} (h : Keeps s t) : ResKeeps s (@execIrqEoi x0 x1 x2 t) := by
  unfold execIrqEoi
  simp (maxDischargeDepth := 60) [h]

@[simp] theorem keeps_execIrqHostEoi (x0) {s t : State} (h : Keeps s t) : ResKeeps s (@execIrqHostEoi x0 t) := by
  unfold execIrqHostEoi
  simp (maxDischargeDepth := 60) [h]

@[simp] theorem keeps_execIrqCoalTimeout (x0) (x1) {s t : State} (h : Keeps s t) : ResKeeps s (@execIrqCoalTimeout x0 x1 t) := by
  unfold execIrqCoalTimeout
  simp (maxDischargeDepth := 60) [h]

@[simp] theorem keeps_testReport (x0) (x1) (x2) (x3) {s t : State} (h : Keeps s t) : Keeps s (@testReport x0 x1 x2 x3 t) := by
  unfold testReport
  simp (maxDischargeDepth := 60) [h]

@[simp] theorem keeps_testEnd (x0) (x1) (x2) (x3) {s t : State} (h : Keeps s t) : Keeps s (@testEnd x0 x1 x2 x3 t) := by
  unfold testEnd
  simp (maxDischargeDepth := 60) [h]

@[simp] theorem keeps_cmpCount (x0) (x1) {s t : State} (h : Keeps s t) : Keeps s (@cmpCount x0 x1 t).2 := by
  unfold cmpCount
  simp (maxDischargeDepth := 60) [h]

@[simp] theorem keeps_unpack (r : Reg) (i v : Nat) (g : Field → Nat → Nat → State → State) (hg : ∀ f j v u, Keeps u (g f j v u)) {s t : State} (h : Keeps s t) : Keeps s (r.unpack i v g t) := by
  unfold Reg.unpack; simp (maxDischargeDepth := 60) [h, hg]

@[simp] theorem keeps_writeField (x0) (x1) (x2) (x3) (x4) (x5) {s t : State} (h : Keeps s t) : Keeps s (@writeField x0 x1 x2 x3 x4 x5 t) := by
  unfold writeField
  (repeat' split) <;> simp (maxDischargeDepth := 60) [h]

@[simp] theorem keeps_resetFld (f : Field) (u i : Nat) {s t : State} (h : Keeps s t) : Keeps s (t.resetFld f u i) :=
  ⟨h.1, fun w => SMap.wf_set _ _ _ (h.2.1 w), h.2.2.1, h.2.2.2⟩

@[simp] theorem keeps_resetReg (x0) (x1) (x2) {s t : State} (h : Keeps s t) : Keeps s (@resetReg x0 x1 x2 t) := by
  unfold resetReg
  simp (maxDischargeDepth := 60) [h]

@[simp] theorem keeps_glineRefresh {s t : State} (h : Keeps s t) : Keeps s (@glineRefresh t) := by
  unfold glineRefresh
  simp (maxDischargeDepth := 60) [h]

@[simp] theorem keeps_ownApply (x0) {s t : State} (h : Keeps s t) : Keeps s (@ownApply x0 t) := by
  unfold ownApply
  simp (maxDischargeDepth := 60) [h]

@[simp] theorem keeps_settleOwed {s t : State} (h : Keeps s t) : Keeps s (@settleOwed t) := by
  unfold settleOwed
  simp (maxDischargeDepth := 60) [h]

@[simp] theorem keeps_pllStop (x0) {s t : State} (h : Keeps s t) : Keeps s (@pllStop x0 t) := by
  unfold pllStop
  simp (maxDischargeDepth := 60) [h]

@[simp] theorem keeps_spllWrite (x0) (x1) {s t : State} (h : Keeps s t) : Keeps s (@spllWrite x0 x1 t) := by
  unfold spllWrite
  simp (maxDischargeDepth := 60) [h]

@[simp] theorem keeps_fpllWrite (x0) (x1) {s t : State} (h : Keeps s t) : Keeps s (@fpllWrite x0 x1 t) := by
  unfold fpllWrite
  simp (maxDischargeDepth := 60) [h]

@[simp] theorem keeps_execPllEnable (x0) (x1) (x2) {s t : State} (h : Keeps s t) : ResKeeps s (@execPllEnable x0 x1 x2 t) := by
  unfold execPllEnable
  simp (maxDischargeDepth := 60) [h]

@[simp] theorem keeps_execPllDisable (x0) (x1) (x2) {s t : State} (h : Keeps s t) : ResKeeps s (@execPllDisable x0 x1 x2 t) := by
  unfold execPllDisable
  simp (maxDischargeDepth := 60) [h]

@[simp] theorem keeps_State_updSw (x1) (x2) {s t : State} (h : Keeps s t) : Keeps s (@State.updSw t x1 x2) := by
  unfold State.updSw
  simp (maxDischargeDepth := 60) [h]

@[simp] theorem keeps_domStart (x0) {s t : State} (h : Keeps s t) : Keeps s (@domStart x0 t) := by
  unfold domStart
  simp (maxDischargeDepth := 60) [h]

@[simp] theorem keeps_domWrite (x0) (x1) {s t : State} (h : Keeps s t) : Keeps s (@domWrite x0 x1 t) := by
  unfold domWrite
  simp (maxDischargeDepth := 60) [h]

@[simp] theorem keeps_execDomainSwitch (x0) (x1) {s t : State} (h : Keeps s t) : ResKeeps s (@execDomainSwitch x0 x1 t) := by
  unfold execDomainSwitch
  simp (maxDischargeDepth := 60) [h]

@[simp] theorem keeps_domSettle (x0) {s t : State} (h : Keeps s t) : Keeps s (@domSettle x0 t) := by
  unfold domSettle
  simp (maxDischargeDepth := 60) [h]

@[simp] theorem keeps_execDomainSwitchStep (x0) {s t : State} (h : Keeps s t) : ResKeeps s (@execDomainSwitchStep x0 t) := by
  unfold execDomainSwitchStep
  simp (maxDischargeDepth := 60) [h]

@[simp] theorem keeps_spll5Set (x0) {s t : State} (h : Keeps s t) : Keeps s (@spll5Set x0 t) := by
  unfold spll5Set
  simp (maxDischargeDepth := 60) [h]

@[simp] theorem keeps_tbSet (x0) {s t : State} (h : Keeps s t) : Keeps s (@tbSet x0 t) := by
  unfold tbSet
  (repeat' split) <;> simp (maxDischargeDepth := 60) [h]

@[simp] theorem keeps_glineWrite (x0) (x1) {s t : State} (h : Keeps s t) : Keeps s (@glineWrite x0 x1 t) := by
  unfold glineWrite
  simp (maxDischargeDepth := 60) [h]

@[simp] theorem keeps_execGlineCfgWrite (x0) (x1) {s t : State} (h : Keeps s t) : ResKeeps s (@execGlineCfgWrite x0 x1 t) := by
  unfold execGlineCfgWrite
  simp (maxDischargeDepth := 60) [h]

@[simp] theorem keeps_State_request (x1) (x2) (x3) (x4) (x5) (x6) (x7) (x8) (x9) (x10) (x11) (x12) {s t : State} (h : Keeps s t) : Keeps s (@State.request t x1 x2 x3 x4 x5 x6 x7 x8 x9 x10 x11 x12) := by
  unfold State.request
  simp (maxDischargeDepth := 60) [h]

@[simp] theorem keeps_State_takeArrived (x1) {s t : State} (h : Keeps s t) : PairKeeps s (@State.takeArrived t x1) := by
  unfold State.takeArrived
  (repeat' split) <;> simp (maxDischargeDepth := 60) [h]

@[simp] theorem keeps_probeAll (x0) (x1) (x2) (x3) {s t : State} (h : Keeps s t) : Keeps s (@probeAll x0 x1 x2 x3 t) := by
  unfold probeAll
  simp (maxDischargeDepth := 60) [h]

@[simp] theorem keeps_State_refuse (x1) (x2) (x3) {s t : State} (h : Keeps s t) : Keeps s (@State.refuse t x1 x2 x3) := by
  unfold State.refuse
  try dsimp only
  (repeat' (first | split | (refine keeps_forL _ _ (fun x u => ?_) ?_) | (refine keeps_forN _ _ (fun x u => ?_) ?_) | (refine keeps_foldl2 _ (fun x u => ?_) _ _ ?_) | (refine keeps_foldl22 _ (fun x u => ?_) _ _ ?_))) <;> simp (maxDischargeDepth := 60) [h, -List.reduceReplicate]

@[simp] theorem keeps_State_enter (x1) (x2) (x3) {s t : State} (h : Keeps s t) : Keeps s (@State.enter t x1 x2 x3) := by
  unfold State.enter
  (repeat' split) <;> simp (maxDischargeDepth := 60) [h]

@[simp] theorem keeps_State_respond (x1) (x2) (x3) (x4) {s t : State} (h : Keeps s t) : Keeps s (@State.respond t x1 x2 x3 x4) := by
  unfold State.respond
  simp (maxDischargeDepth := 60) [h]

@[simp] theorem keeps_freePoison (x0) (x1) (x2) {s t : State} (h : Keeps s t) : Keeps s (@freePoison x0 x1 x2 t).2 := by
  unfold freePoison
  simp (maxDischargeDepth := 60) [h]

@[simp] theorem keeps_logTimeout (x0) {s t : State} (h : Keeps s t) : Keeps s (@logTimeout x0 t) := by
  unfold logTimeout
  simp (maxDischargeDepth := 60) [h]

@[simp] theorem keeps_bayRaise (x0) (x1) (x2) {s t : State} (h : Keeps s t) : Keeps s (@bayRaise x0 x1 x2 t) := by
  unfold bayRaise
  simp (maxDischargeDepth := 60) [h]

@[simp] theorem keeps_blockErr (x0) (x1) (x2) (x3) (x4) {s t : State} (h : Keeps s t) : Keeps s (@blockErr x0 x1 x2 x3 x4 t) := by
  unfold blockErr
  simp (maxDischargeDepth := 60) [h]

@[simp] theorem keeps_spadErr (x0) (x1) (x2) (x3) (x4) {s t : State} (h : Keeps s t) : Keeps s (@spadErr x0 x1 x2 x3 x4 t) := by
  unfold spadErr
  simp (maxDischargeDepth := 60) [h]

@[simp] theorem keeps_noteErrs (a n : Nat) (err : Nat → Bool → State → State) (hg : ∀ j b u, Keeps u (err j b u)) {s t : State} (h : Keeps s t) : Keeps s (noteErrs a n err t) := by
  unfold noteErrs; simp [h, hg]

@[simp] theorem keeps_storeRow (x0) (x1) (x2) (x3) (x4) {s t : State} (h : Keeps s t) : Keeps s (@storeRow x0 x1 x2 x3 x4 t) := by
  unfold storeRow
  simp (maxDischargeDepth := 60) [h]

@[simp] theorem keeps_readRow (a n : Nat) (err : Nat → Bool → State → State) (hg : ∀ j b u, Keeps u (err j b u)) {s t : State} (h : Keeps s t) : Keeps s (readRow a n err t).2.2 := by
  unfold readRow; simp [h, hg]

@[simp] theorem keeps_blkStore (x0) (x1) (x2) (x3) (x4) {s t : State} (h : Keeps s t) : Keeps s (@blkStore x0 x1 x2 x3 x4 t) := by
  unfold blkStore
  simp (maxDischargeDepth := 60) [h]

@[simp] theorem keeps_blkQueueWb (x0) (x1) (x2) (x3) {s t : State} (h : Keeps s t) : Keeps s (@blkQueueWb x0 x1 x2 x3 t) := by
  unfold blkQueueWb
  (repeat' split) <;> simp (maxDischargeDepth := 60) [h]

@[simp] theorem keeps_blkWinWritten (x0) (x1) (x2) (x3) {s t : State} (h : Keeps s t) : Keeps s (@blkWinWritten x0 x1 x2 x3 t) := by
  unfold blkWinWritten
  simp (maxDischargeDepth := 60) [h]

@[simp] theorem keeps_blkRead (x0) (x1) (x2) (x3) (x4) {s t : State} (h : Keeps s t) : Keeps s (@blkRead x0 x1 x2 x3 x4 t).2.2 := by
  unfold blkRead
  simp (maxDischargeDepth := 60) [h]

@[simp] theorem keeps_blkPresent (x0) (x1) (x2) (x3) (x4) {s t : State} (h : Keeps s t) : Keeps s (@blkPresent x0 x1 x2 x3 x4 t) := by
  unfold blkPresent
  simp (maxDischargeDepth := 60) [h]

@[simp] theorem keeps_blkOld (x0) (x1) (x2) (x3) (x4) {s t : State} (h : Keeps s t) : Keeps s (@blkOld x0 x1 x2 x3 x4 t).2.2 := by
  unfold blkOld
  simp (maxDischargeDepth := 60) [h]

@[simp] theorem keeps_blkWrite (x0) (x1) (x2) (x3) {s t : State} (h : Keeps s t) : Keeps s (@blkWrite x0 x1 x2 x3 t).2 := by
  unfold blkWrite
  simp (maxDischargeDepth := 60) [h]

@[simp] theorem keeps_blkResult (x0) (x1) (x2) (x3) (x4) (x5) (x6) {s t : State} (h : Keeps s t) : Keeps s (@blkResult x0 x1 x2 x3 x4 x5 x6 t).2.2 := by
  unfold blkResult
  simp (maxDischargeDepth := 60) [h]

@[simp] theorem keeps_blkReport (x0) (x1) (x2) {s t : State} (h : Keeps s t) : Keeps s (@blkReport x0 x1 x2 t) := by
  unfold blkReport
  simp (maxDischargeDepth := 60) [h]

@[simp] theorem keeps_blkEdge (x0) (x1) (x2) (x3) {s t : State} (h : Keeps s t) : Keeps s (@blkEdge x0 x1 x2 x3 t) := by
  unfold blkEdge
  simp (maxDischargeDepth := 60) [h]

@[simp] theorem keeps_execMemBlockAccess (x0) (x1) (x2) (x3) (x4) (x5) (x6) {s t : State} (h : Keeps s t) : ResKeeps s (@execMemBlockAccess x0 x1 x2 x3 x4 x5 x6 t) := by
  unfold execMemBlockAccess
  simp (maxDischargeDepth := 60) [h]

@[simp] theorem keeps_execBlockCorrWriteback (x0) (x1) {s t : State} (h : Keeps s t) : ResKeeps s (@execBlockCorrWriteback x0 x1 t) := by
  unfold execBlockCorrWriteback
  try dsimp only
  (repeat' (first | split | (refine keeps_forL _ _ (fun x u => ?_) ?_) | (refine keeps_forN _ _ (fun x u => ?_) ?_) | (refine keeps_foldl2 _ (fun x u => ?_) _ _ ?_) | (refine keeps_foldl22 _ (fun x u => ?_) _ _ ?_))) <;> simp (maxDischargeDepth := 60) [h, -List.reduceReplicate]

@[simp] theorem keeps_State_dropArrived (x1) {s t : State} (h : Keeps s t) : Keeps s (@State.dropArrived t x1) := by
  unfold State.dropArrived
  simp (maxDischargeDepth := 60) [h]

@[simp] theorem keeps_execBlockWindowAccess (x0) {s t : State} (h : Keeps s t) : ResKeeps s (@execBlockWindowAccess x0 t) := by
  unfold execBlockWindowAccess
  (repeat' split) <;> simp (maxDischargeDepth := 60) [h]

@[simp] theorem keeps_State_updBank (x1) (x2) {s t : State} (h : Keeps s t) : Keeps s (@State.updBank t x1 x2) := by
  unfold State.updBank
  simp (maxDischargeDepth := 60) [h]

@[simp] theorem keeps_execSpadRequestAccept (x0) {s t : State} (h : Keeps s t) : ResKeeps s (@execSpadRequestAccept x0 t) := by
  unfold execSpadRequestAccept
  try dsimp only
  (repeat' (first | split | (refine keeps_forL _ _ (fun x u => ?_) ?_) | (refine keeps_forN _ _ (fun x u => ?_) ?_) | (refine keeps_foldl2 _ (fun x u => ?_) _ _ ?_) | (refine keeps_foldl22 _ (fun x u => ?_) _ _ ?_))) <;> simp (maxDischargeDepth := 60) [h, -List.reduceReplicate]

@[simp] theorem keeps_spadWritten (x0) (x1) (x2) (x3) {s t : State} (h : Keeps s t) : Keeps s (@spadWritten x0 x1 x2 x3 t) := by
  unfold spadWritten
  simp (maxDischargeDepth := 60) [h]

@[simp] theorem keeps_spadQueueWb (x0) (x1) (x2) {s t : State} (h : Keeps s t) : Keeps s (@spadQueueWb x0 x1 x2 t) := by
  unfold spadQueueWb
  (repeat' split) <;> simp (maxDischargeDepth := 60) [h]

@[simp] theorem keeps_spadRow (b : Nat) (r : SpadReq) {s t : State} (h : Keeps s t) : Keeps s (spadRow b r t).2 := by
  unfold spadRow
  extract_lets p off
  clear_value p off
  split
  · exact h
  rename_i k o n _
  extract_lets a err
  have he : ∀ j ue u, Keeps u (err j ue u) := fun j ue u => by simp [err]
  clear_value a err
  split
  · have k1 : Keeps s (readRow a n err (spadQueueWb b (off + o) n t)).2.2 := keeps_readRow a n err he (by simp [h])
    generalize readRow a n err (spadQueueWb b (off + o) n t) = q at k1 ⊢
    obtain ⟨d, bad, s2⟩ := q
    have k2 : Keeps s s2 := k1
    dsimp only
    split
    · simp [k2]
    · exact k2
  · simp [h]

@[simp] theorem keeps_spadRefuse (x0) {s t : State} (h : Keeps s t) : Keeps s (@spadRefuse x0 t) := by
  unfold spadRefuse
  simp (maxDischargeDepth := 60) [h]

@[simp] theorem keeps_execSpadGrant (x0) {s t : State} (h : Keeps s t) : ResKeeps s (@execSpadGrant x0 t) := by
  unfold execSpadGrant
  try dsimp only
  (repeat' (first | split | (refine keeps_forL _ _ (fun x u => ?_) ?_) | (refine keeps_forN _ _ (fun x u => ?_) ?_) | (refine keeps_foldl2 _ (fun x u => ?_) _ _ ?_) | (refine keeps_foldl22 _ (fun x u => ?_) _ _ ?_))) <;> simp (maxDischargeDepth := 60) [h, -List.reduceReplicate]

@[simp] theorem keeps_execSpadCorrWriteback (x0) {s t : State} (h : Keeps s t) : ResKeeps s (@execSpadCorrWriteback x0 t) := by
  unfold execSpadCorrWriteback
  try dsimp only
  (repeat' (first | split | (refine keeps_forL _ _ (fun x u => ?_) ?_) | (refine keeps_forN _ _ (fun x u => ?_) ?_) | (refine keeps_foldl2 _ (fun x u => ?_) _ _ ?_) | (refine keeps_foldl22 _ (fun x u => ?_) _ _ ?_))) <;> simp (maxDischargeDepth := 60) [h, -List.reduceReplicate]

@[simp] theorem keeps_spadTakeUp (x0) {s t : State} (h : Keeps s t) : Keeps s (@spadTakeUp x0 t) := by
  unfold spadTakeUp
  simp (maxDischargeDepth := 60) [h]

@[simp] theorem keeps_spadReqWrite (x0) (x1) {s t : State} (h : Keeps s t) : Keeps s (@spadReqWrite x0 x1 t) := by
  unfold spadReqWrite
  simp (maxDischargeDepth := 60) [h]

@[simp] theorem keeps_execSpbPwrReqWrite (x0) (x1) {s t : State} (h : Keeps s t) : ResKeeps s (@execSpbPwrReqWrite x0 x1 t) := by
  unfold execSpbPwrReqWrite
  simp (maxDischargeDepth := 60) [h]

@[simp] theorem keeps_spadZero (x0) {s t : State} (h : Keeps s t) : Keeps s (@spadZero x0 t) := by
  unfold spadZero
  simp (maxDischargeDepth := 60) [h]

@[simp] theorem keeps_execSpadPwrTransitionDone (x0) {s t : State} (h : Keeps s t) : ResKeeps s (@execSpadPwrTransitionDone x0 t) := by
  unfold execSpadPwrTransitionDone
  simp (maxDischargeDepth := 60) [h]

@[simp] theorem keeps_spadZeroStart (x0) {s t : State} (h : Keeps s t) : Keeps s (@spadZeroStart x0 t) := by
  unfold spadZeroStart
  simp (maxDischargeDepth := 60) [h]

@[simp] theorem keeps_execSpbZero (x0) {s t : State} (h : Keeps s t) : ResKeeps s (@execSpbZero x0 t) := by
  unfold execSpbZero
  simp (maxDischargeDepth := 60) [h]

@[simp] theorem keeps_execSpadZeroFillDone (x0) {s t : State} (h : Keeps s t) : ResKeeps s (@execSpadZeroFillDone x0 t) := by
  unfold execSpadZeroFillDone
  simp (maxDischargeDepth := 60) [h]

@[simp] theorem keeps_clusterF (x0) (x1) (x2) (x3) {s t : State} (h : Keeps s t) : Keeps s (@clusterF x0 x1 x2 x3 t).2 := by
  unfold clusterF
  simp (maxDischargeDepth := 60) [h]

@[simp] theorem keeps_columnCarry (s0 : State) (b c : Nat) (cin : Bool) (l : List Nat) {s t : State} (h : Keeps s t) :
    Keeps s (columnCarry s0 b c cin l t).2 := by
  induction l generalizing c cin t with
  | nil => exact h
  | cons lines rest ih => exact ih _ _ (by simp [h])

@[simp] theorem keeps_clusterEdge (x0) (x1) (x2) (x3) (x4) (x5) {s t : State} (h : Keeps s t) : Keeps s (@clusterEdge x0 x1 x2 x3 x4 x5 t) := by
  unfold clusterEdge
  simp (maxDischargeDepth := 60) [h]

@[simp] theorem keeps_ffResetOn (x0) (x1) {s t : State} (h : Keeps s t) : Keeps s (@ffResetOn x0 x1 t) := by
  unfold ffResetOn
  simp (maxDischargeDepth := 60) [h]

@[simp] theorem keeps_slcEdge (x0) (x1) (x2) (x3) {s t : State} (h : Keeps s t) : Keeps s (@slcEdge x0 x1 x2 x3 t) := by
  unfold slcEdge
  try dsimp only
  (repeat' (first | split | (refine keeps_forL _ _ (fun x u => ?_) ?_) | (refine keeps_forN _ _ (fun x u => ?_) ?_) | (refine keeps_foldl2 _ (fun x u => ?_) _ _ ?_) | (refine keeps_foldl22 _ (fun x u => ?_) _ _ ?_))) <;> simp (maxDischargeDepth := 60) [h, -List.reduceReplicate]

@[simp] theorem keeps_slcShow (x0) (x1) {s t : State} (h : Keeps s t) : Keeps s (@slcShow x0 x1 t) := by
  unfold slcShow
  simp (maxDischargeDepth := 60) [h]

@[simp] theorem keeps_slcBoundary (x0) (x1) {s t : State} (h : Keeps s t) : Keeps s (@slcBoundary x0 x1 t) := by
  unfold slcBoundary
  simp (maxDischargeDepth := 60) [h]

@[simp] theorem keeps_slcReset (x0) (x1) {s t : State} (h : Keeps s t) : Keeps s (@slcReset x0 x1 t) := by
  unfold slcReset
  simp (maxDischargeDepth := 60) [h]

@[simp] theorem keeps_slcResetOn (x0) (x1) {s t : State} (h : Keeps s t) : Keeps s (@slcResetOn x0 x1 t) := by
  unfold slcResetOn
  simp (maxDischargeDepth := 60) [h]

@[simp] theorem keeps_slcBoundaryOn (x0) (x1) {s t : State} (h : Keeps s t) : Keeps s (@slcBoundaryOn x0 x1 t) := by
  unfold slcBoundaryOn
  simp (maxDischargeDepth := 60) [h]

@[simp] theorem keeps_bayFirstEdge (x0) (x1) {s t : State} (h : Keeps s t) : Keeps s (@bayFirstEdge x0 x1 t) := by
  unfold bayFirstEdge
  simp (maxDischargeDepth := 60) [h]

@[simp] theorem keeps_execSliceOperation (x0) (x1) (x2) {s t : State} (h : Keeps s t) : ResKeeps s (@execSliceOperation x0 x1 x2 t) := by
  unfold execSliceOperation
  simp (maxDischargeDepth := 60) [h]

@[simp] theorem keeps_execSliceCoefWrite (x0) (x1) (x2) (x3) {s t : State} (h : Keeps s t) : ResKeeps s (@execSliceCoefWrite x0 x1 x2 x3 t) := by
  unfold execSliceCoefWrite
  simp (maxDischargeDepth := 60) [h]

@[simp] theorem keeps_execSliceSwapReq (x0) (x1) {s t : State} (h : Keeps s t) : ResKeeps s (@execSliceSwapReq x0 x1 t) := by
  unfold execSliceSwapReq
  simp (maxDischargeDepth := 60) [h]

@[simp] theorem keeps_slcLoadCoefs (x0) (x1) {s t : State} (h : Keeps s t) : Keeps s (@slcLoadCoefs x0 x1 t) := by
  unfold slcLoadCoefs
  simp (maxDischargeDepth := 60) [h]

@[simp] theorem keeps_State_updSc (x1) (x2) {s t : State} (h : Keeps s t) : Keeps s (@State.updSc t x1 x2) := by
  unfold State.updSc
  simp (maxDischargeDepth := 60) [h]

@[simp] theorem keeps_svset (x0) (x1) (x2) (x3) {s t : State} (h : Keeps s t) : Keeps s (@svset x0 x1 x2 x3 t) := by
  unfold svset
  simp (maxDischargeDepth := 60) [h]

@[simp] theorem keeps_saset (x0) (x1) (x2) {s t : State} (h : Keeps s t) : Keeps s (@saset x0 x1 x2 t) := by
  unfold saset
  simp (maxDischargeDepth := 60) [h]

@[simp] theorem keeps_setOva (x0) (x1) (x2) {s t : State} (h : Keeps s t) : Keeps s (@setOva x0 x1 x2 t) := by
  unfold setOva
  simp (maxDischargeDepth := 60) [h]

@[simp] theorem keeps_accPut (x0) (x1) (x2) (x3) (x4) {s t : State} (h : Keeps s t) : Keeps s (@accPut x0 x1 x2 x3 x4 t) := by
  unfold accPut
  simp (maxDischargeDepth := 60) [h]

@[simp] theorem keeps_macMul (x0) (x1) (x2) (x3) (x4) (x5) (x6) (x7) {s t : State} (h : Keeps s t) : Keeps s (@macMul x0 x1 x2 x3 x4 x5 x6 x7 t) := by
  unfold macMul
  (repeat' split) <;> simp (maxDischargeDepth := 60) [h]

@[simp] theorem keeps_macSearch (x0) (x1) (x2) (x3) (x4) (x5) (x6) (x7) (x8) {s t : State} (h : Keeps s t) : Keeps s (@macSearch x0 x1 x2 x3 x4 x5 x6 x7 x8 t) := by
  unfold macSearch
  simp (maxDischargeDepth := 60) [h]

@[simp] theorem keeps_macAlu (x0) (x1) (x2) (x3) (x4) (x5) (x6) {s t : State} (h : Keeps s t) : Keeps s (@macAlu x0 x1 x2 x3 x4 x5 x6 t) := by
  unfold macAlu
  simp (maxDischargeDepth := 60) [h]

@[simp] theorem keeps_macExt (x0) (x1) (x2) (x3) (x4) (x5) (x6) (x7) {s t : State} (h : Keeps s t) : Keeps s (@macExt x0 x1 x2 x3 x4 x5 x6 x7 t) := by
  unfold macExt
  simp (maxDischargeDepth := 60) [h]

@[simp] theorem keeps_macExec (x0) (x1) (x2) {s t : State} (h : Keeps s t) : Keeps s (@macExec x0 x1 x2 t) := by
  unfold macExec
  (repeat' split) <;> simp (maxDischargeDepth := 60) [h]

@[simp] theorem keeps_ssrWrite (x0) (x1) (x2) (x3) {s t : State} (h : Keeps s t) : Keeps s (@ssrWrite x0 x1 x2 x3 t) := by
  unfold ssrWrite
  simp (maxDischargeDepth := 60) [h]

@[simp] theorem keeps_scMemErr (x0) (x1) (x2) (x3) {s t : State} (h : Keeps s t) : Keeps s (@scMemErr x0 x1 x2 x3 t) := by
  unfold scMemErr
  simp (maxDischargeDepth := 60) [h]

@[simp] theorem keeps_scBytes (x0) (x1) (x2) (x3) {s t : State} (h : Keeps s t) : Keeps s (@scBytes x0 x1 x2 x3 t).2.2 := by
  unfold scBytes
  simp (maxDischargeDepth := 60) [h]

@[simp] theorem keeps_scLoadWord (x0) (x1) {s t : State} (h : Keeps s t) : Keeps s (@scLoadWord x0 x1 t).2.2 := by
  unfold scLoadWord
  simp (maxDischargeDepth := 60) [h]

@[simp] theorem keeps_scPutByte (x0) (x1) (x2) (x3) {s t : State} (h : Keeps s t) : Keeps s (@scPutByte x0 x1 x2 x3 t) := by
  unfold scPutByte
  simp (maxDischargeDepth := 60) [h]

@[simp] theorem keeps_scPutBytes (x0) (x1) (x2) {s t : State} (h : Keeps s t) : Keeps s (@scPutBytes x0 x1 x2 t) := by
  unfold scPutBytes
  simp (maxDischargeDepth := 60) [h]

@[simp] theorem keeps_scStoreWords (x0) (x1) (x2) {s t : State} (h : Keeps s t) : Keeps s (@scStoreWords x0 x1 x2 t) := by
  unfold scStoreWords
  simp (maxDischargeDepth := 60) [h]

@[simp] theorem keeps_scReadCode (x0) (x1) {s t : State} (h : Keeps s t) : Keeps s (@scReadCode x0 x1 t) := by
  unfold scReadCode
  simp (maxDischargeDepth := 60) [h]

@[simp] theorem keeps_scFetchOne (x0) (x1) {s t : State} (h : Keeps s t) : Keeps s (@scFetchOne x0 x1 t) := by
  unfold scFetchOne
  simp (maxDischargeDepth := 60) [h]

@[simp] theorem keeps_scRefetch (x0) {s t : State} (h : Keeps s t) : Keeps s (@scRefetch x0 t) := by
  unfold scRefetch
  simp (maxDischargeDepth := 60) [h]

@[simp] theorem keeps_scFill (x0) {s t : State} (h : Keeps s t) : Keeps s (@scFill x0 t) := by
  unfold scFill
  simp (maxDischargeDepth := 60) [h]

@[simp] theorem keeps_scFetch (x0) {s t : State} (h : Keeps s t) : Keeps s (@scFetch x0 t).2 := by
  unfold scFetch
  simp (maxDischargeDepth := 60) [h]

@[simp] theorem keeps_scFaultHalt (x0) (x1) {s t : State} (h : Keeps s t) : Keeps s (@scFaultHalt x0 x1 t) := by
  unfold scFaultHalt
  simp (maxDischargeDepth := 60) [h]

@[simp] theorem keeps_scEntry (x0) (x1) (x2) {s t : State} (h : Keeps s t) : Keeps s (@scEntry x0 x1 x2 t) := by
  unfold scEntry
  simp (maxDischargeDepth := 60) [h]

@[simp] theorem keeps_scTrap (x0) (x1) (x2) {s t : State} (h : Keeps s t) : Keeps s (@scTrap x0 x1 x2 t) := by
  unfold scTrap
  simp (maxDischargeDepth := 60) [h]

@[simp] theorem keeps_scRotate (x0) {s t : State} (h : Keeps s t) : Keeps s (@scRotate x0 t) := by
  unfold scRotate
  simp (maxDischargeDepth := 60) [h]

@[simp] theorem keeps_scTag (x0) (x1) {s t : State} (h : Keeps s t) : Keeps s (@scTag x0 x1 t) := by
  unfold scTag
  simp (maxDischargeDepth := 60) [h]

@[simp] theorem keeps_scLoop (x0) (x1) (x2) {s t : State} (h : Keeps s t) : Keeps s (@scLoop x0 x1 x2 t) := by
  unfold scLoop
  (repeat' split) <;> simp (maxDischargeDepth := 60) [h]

@[simp] theorem keeps_scMonExit (x0) {s t : State} (h : Keeps s t) : Keeps s (@scMonExit x0 t) := by
  unfold scMonExit
  simp (maxDischargeDepth := 60) [h]

@[simp] theorem keeps_scControl (x0) (x1) (x2) {s t : State} (h : Keeps s t) : Keeps s (@scControl x0 x1 x2 t) := by
  unfold scControl
  (repeat' split) <;> simp (maxDischargeDepth := 60) [h]

@[simp] theorem keeps_scRequest (x0) (x1) (x2) (x3) (x4) (x5) (x6) (x7) {s t : State} (h : Keeps s t) : Keeps s (@scRequest x0 x1 x2 x3 x4 x5 x6 x7 t) := by
  unfold scRequest
  simp (maxDischargeDepth := 60) [h]

@[simp] theorem keeps_scStore (x0) (x1) (x2) {s t : State} (h : Keeps s t) : Keeps s (@scStore x0 x1 x2 t) := by
  unfold scStore
  (repeat' split) <;> simp (maxDischargeDepth := 60) [h]

@[simp] theorem keeps_sapset (x0) (x1) (x2) {s t : State} (h : Keeps s t) : Keeps s (@sapset x0 x1 x2 t) := by
  unfold sapset
  simp (maxDischargeDepth := 60) [h]

@[simp] theorem keeps_moveExec (x0) (x1) (x2) (x3) {s t : State} (h : Keeps s t) : Keeps s (@moveExec x0 x1 x2 x3 t) := by
  unfold moveExec
  (repeat' split) <;> simp (maxDischargeDepth := 60) [h]

@[simp] theorem keeps_scDataCmp (x0) (x1) (x2) {s t : State} (h : Keeps s t) : Keeps s (@scDataCmp x0 x1 x2 t) := by
  unfold scDataCmp
  try dsimp only
  (repeat' (first | split | (refine keeps_forL _ _ (fun x u => ?_) ?_) | (refine keeps_forN _ _ (fun x u => ?_) ?_) | (refine keeps_foldl2 _ (fun x u => ?_) _ _ ?_) | (refine keeps_foldl22 _ (fun x u => ?_) _ _ ?_))) <;> (try simp only [Prod.ext_iff] at *) <;> (try casesm* _ ∧ _) <;> subst_vars <;> simp (maxDischargeDepth := 60) [h, -List.reduceReplicate]

@[simp] theorem keeps_scRetire (x0) (x1) {s t : State} (h : Keeps s t) : Keeps s (@scRetire x0 x1 t) := by
  unfold scRetire
  simp (maxDischargeDepth := 60) [h]

@[simp] theorem keeps_scDrainDone (x0) (x1) {s t : State} (h : Keeps s t) : Keeps s (@scDrainDone x0 x1 t) := by
  unfold scDrainDone
  simp (maxDischargeDepth := 60) [h]

@[simp] theorem keeps_scOwnLoad (x0) (x1) (x2) (x3) {s t : State} (h : Keeps s t) : Keeps s (@scOwnLoad x0 x1 x2 x3 t).2.2 := by
  unfold scOwnLoad
  try dsimp only
  (repeat' (first | split | (refine keeps_forL _ _ (fun x u => ?_) ?_) | (refine keeps_forN _ _ (fun x u => ?_) ?_) | (refine keeps_foldl2 _ (fun x u => ?_) _ _ ?_) | (refine keeps_foldl22 _ (fun x u => ?_) _ _ ?_))) <;> simp (maxDischargeDepth := 60) [h, -List.reduceReplicate]

@[simp] theorem keeps_scLoaded (x0) (x1) (x2) (x3) (x4) {s t : State} (h : Keeps s t) : Keeps s (@scLoaded x0 x1 x2 x3 x4 t).2.2 := by
  unfold scLoaded
  (repeat' split) <;> simp (maxDischargeDepth := 60) [h]

@[simp] theorem keeps_scLoads (x0) (x1) (x2) (x3) {s t : State} (h : Keeps s t) : Keeps s (@scLoads x0 x1 x2 x3 t).2.2 := by
  unfold scLoads
  simp (maxDischargeDepth := 60) [h]

@[simp] theorem keeps_scFinish (n : Nat) (b : SBundle) (s0 : State) {s : State} (h : Keeps s s0) : Keeps s (scFinish n b s0) := by
  unfold scFinish
  extract_lets x1 x2 pc at_
  have hb : Keeps s (scLoads s0 n x1 x2 s0).2.2 := by simp [h]
  clear_value x1 x2 pc at_
  generalize scLoads s0 n x1 x2 s0 = l at hb ⊢
  obtain ⟨⟨w1, p1⟩, ⟨w2, p2⟩, sb⟩ := l
  have h2 : Keeps s sb := hb
  refine .ite (by simp [h2]) (.ite (by simp [h2]) (.ite (by simp [h2]) (.ite (by simp [h2]) ?_)))
  split
  · simp [h2]
  · rename_i m2 _
    extract_lets s1 s2 s3 s4 held s5 s5a s6
    have k3 : Keeps s s3 := by simp (maxDischargeDepth := 60) [s3, s2, s1, h2]
    clear_value s3
    have k4 : Keeps s s4 := by
      simp only [s4]; cases x1 <;> (try split) <;> simp [k3]
    clear_value s4
    have k5 : Keeps s s5 := by
      simp only [s5]; cases x2 <;> (try split) <;> simp [k4]
    clear_value s5
    have ka : Keeps s s5a := by simp (maxDischargeDepth := 60) [s5a, k5]
    clear_value s5a
    have k6 : Keeps s s6 := by
      simp only [s6]; split <;> simp (maxDischargeDepth := 60) [ka]
    clear_value s6
    (repeat' split) <;> simp (maxDischargeDepth := 60) [k6]

@[simp] theorem keeps_scFirst (x0) (x1) {s t : State} (h : Keeps s t) : Keeps s (@scFirst x0 x1 t) := by
  unfold scFirst
  (repeat' split) <;> simp (maxDischargeDepth := 60) [h]

@[simp] theorem keeps_scStart (x0) (x1) {s t : State} (h : Keeps s t) : Keeps s (@scStart x0 x1 t) := by
  unfold scStart
  simp (maxDischargeDepth := 60) [h]

@[simp] theorem keeps_scArrived (x0) (x1) (x2) (x3) (x4) {s t : State} (h : Keeps s t) : Keeps s (@scArrived x0 x1 x2 x3 x4 t) := by
  unfold scArrived
  (repeat' split) <;> simp (maxDischargeDepth := 60) [h]

@[simp] theorem keeps_scDrained (x0) {s t : State} (h : Keeps s t) : Keeps s (@scDrained x0 t) := by
  unfold scDrained
  (repeat' split) <;> simp (maxDischargeDepth := 60) [h]

@[simp] theorem keeps_scStoreErr (x0) (x1) (x2) {s t : State} (h : Keeps s t) : Keeps s (@scStoreErr x0 x1 x2 t) := by
  unfold scStoreErr
  simp (maxDischargeDepth := 60) [h]

@[simp] theorem keeps_scBreak (x0) {s t : State} (h : Keeps s t) : Keeps s (@scBreak x0 t).2 := by
  unfold scBreak
  try dsimp only
  (repeat' (first | split | (refine keeps_forL _ _ (fun x u => ?_) ?_) | (refine keeps_forN _ _ (fun x u => ?_) ?_) | (refine keeps_foldl2 _ (fun x u => ?_) _ _ ?_) | (refine keeps_foldl22 _ (fun x u => ?_) _ _ ?_))) <;> (try simp only [Prod.ext_iff] at *) <;> (try casesm* _ ∧ _) <;> subst_vars <;> simp (maxDischargeDepth := 60) [h, -List.reduceReplicate]

@[simp] theorem keeps_scIssue (x0) (x1) {s t : State} (h : Keeps s t) : Keeps s (@scIssue x0 x1 t) := by
  unfold scIssue
  try dsimp only
  (repeat' (first | split | (refine keeps_forL _ _ (fun x u => ?_) ?_) | (refine keeps_forN _ _ (fun x u => ?_) ?_) | (refine keeps_foldl2 _ (fun x u => ?_) _ _ ?_) | (refine keeps_foldl22 _ (fun x u => ?_) _ _ ?_))) <;> (try simp only [Prod.ext_iff] at *) <;> (try casesm* _ ∧ _) <;> subst_vars <;> simp (maxDischargeDepth := 60) [h, -List.reduceReplicate]

@[simp] theorem keeps_scMacCmd (x0) (x1) (x2) (x3) {s t : State} (h : Keeps s t) : ResKeeps s (@scMacCmd x0 x1 x2 x3 t) := by
  unfold scMacCmd
  simp (maxDischargeDepth := 60) [h]

@[simp] theorem keeps_scMoveCmd (x0) (x1) (x2) (x3) (x4) {s t : State} (h : Keeps s t) : ResKeeps s (@scMoveCmd x0 x1 x2 x3 x4 t) := by
  unfold scMoveCmd
  simp (maxDischargeDepth := 60) [h]

@[simp] theorem keeps_scLongCmd (x0) (x1) (x2) {s t : State} (h : Keeps s t) : ResKeeps s (@scLongCmd x0 x1 x2 t) := by
  unfold scLongCmd
  simp (maxDischargeDepth := 60) [h]

@[simp] theorem keeps_scCtlCmd (x0) (x1) (x2) (x3) {s t : State} (h : Keeps s t) : ResKeeps s (@scCtlCmd x0 x1 x2 x3 t) := by
  unfold scCtlCmd
  simp (maxDischargeDepth := 60) [h]

@[simp] theorem keeps_execScMacNop (x0) (x1) (x2) {s t : State} (h : Keeps s t) : ResKeeps s (@execScMacNop x0 x1 x2 t) := by
  unfold execScMacNop
  simp (maxDischargeDepth := 60) [h]

@[simp] theorem keeps_execScMul (x0) (x1) (x2) (x3) (x4) (x5) (x6) (x7) (x8) {s t : State} (h : Keeps s t) : ResKeeps s (@execScMul x0 x1 x2 x3 x4 x5 x6 x7 x8 t) := by
  unfold execScMul
  simp (maxDischargeDepth := 60) [h]

@[simp] theorem keeps_execScMac (x0) (x1) (x2) (x3) (x4) (x5) (x6) (x7) (x8) {s t : State} (h : Keeps s t) : ResKeeps s (@execScMac x0 x1 x2 x3 x4 x5 x6 x7 x8 t) := by
  unfold execScMac
  simp (maxDischargeDepth := 60) [h]

@[simp] theorem keeps_execScMsu (x0) (x1) (x2) (x3) (x4) (x5) (x6) (x7) (x8) {s t : State} (h : Keeps s t) : ResKeeps s (@execScMsu x0 x1 x2 x3 x4 x5 x6 x7 x8 t) := by
  unfold execScMsu
  simp (maxDischargeDepth := 60) [h]

@[simp] theorem keeps_execScDmul (x0) (x1) (x2) (x3) (x4) (x5) (x6) (x7) (x8) {s t : State} (h : Keeps s t) : ResKeeps s (@execScDmul x0 x1 x2 x3 x4 x5 x6 x7 x8 t) := by
  unfold execScDmul
  simp (maxDischargeDepth := 60) [h]

@[simp] theorem keeps_execScDmac (x0) (x1) (x2) (x3) (x4) (x5) (x6) (x7) (x8) {s t : State} (h : Keeps s t) : ResKeeps s (@execScDmac x0 x1 x2 x3 x4 x5 x6 x7 x8 t) := by
  unfold execScDmac
  simp (maxDischargeDepth := 60) [h]

@[simp] theorem keeps_execScDmsu (x0) (x1) (x2) (x3) (x4) (x5) (x6) (x7) (x8) {s t : State} (h : Keeps s t) : ResKeeps s (@execScDmsu x0 x1 x2 x3 x4 x5 x6 x7 x8 t) := by
  unfold execScDmsu
  simp (maxDischargeDepth := 60) [h]

@[simp] theorem keeps_execScPmul (x0) (x1) (x2) (x3) (x4) (x5) (x6) (x7) (x8) {s t : State} (h : Keeps s t) : ResKeeps s (@execScPmul x0 x1 x2 x3 x4 x5 x6 x7 x8 t) := by
  unfold execScPmul
  simp (maxDischargeDepth := 60) [h]

@[simp] theorem keeps_execScPmac (x0) (x1) (x2) (x3) (x4) (x5) (x6) (x7) (x8) {s t : State} (h : Keeps s t) : ResKeeps s (@execScPmac x0 x1 x2 x3 x4 x5 x6 x7 x8 t) := by
  unfold execScPmac
  simp (maxDischargeDepth := 60) [h]

@[simp] theorem keeps_execScAccadd (x0) (x1) (x2) (x3) (x4) (x5) (x6) (x7) {s t : State} (h : Keeps s t) : ResKeeps s (@execScAccadd x0 x1 x2 x3 x4 x5 x6 x7 t) := by
  unfold execScAccadd
  simp (maxDischargeDepth := 60) [h]

@[simp] theorem keeps_execScAccsub (x0) (x1) (x2) (x3) (x4) (x5) (x6) (x7) {s t : State} (h : Keeps s t) : ResKeeps s (@execScAccsub x0 x1 x2 x3 x4 x5 x6 x7 t) := by
  unfold execScAccsub
  simp (maxDischargeDepth := 60) [h]

@[simp] theorem keeps_execScAccld (x0) (x1) (x2) (x3) (x4) (x5) (x6) (x7) {s t : State} (h : Keeps s t) : ResKeeps s (@execScAccld x0 x1 x2 x3 x4 x5 x6 x7 t) := by
  unfold execScAccld
  simp (maxDischargeDepth := 60) [h]

@[simp] theorem keeps_execScAccsra (x0) (x1) (x2) (x3) (x4) (x5) {s t : State} (h : Keeps s t) : ResKeeps s (@execScAccsra x0 x1 x2 x3 x4 x5 t) := by
  unfold execScAccsra
  simp (maxDischargeDepth := 60) [h]

@[simp] theorem keeps_execScAccclr (x0) (x1) (x2) (x3) (x4) {s t : State} (h : Keeps s t) : ResKeeps s (@execScAccclr x0 x1 x2 x3 x4 t) := by
  unfold execScAccclr
  simp (maxDischargeDepth := 60) [h]

@[simp] theorem keeps_execScExt (x0) (x1) (x2) (x3) (x4) (x5) (x6) (x7) (x8) (x9) {s t : State} (h : Keeps s t) : ResKeeps s (@execScExt x0 x1 x2 x3 x4 x5 x6 x7 x8 x9 t) := by
  unfold execScExt
  simp (maxDischargeDepth := 60) [h]

@[simp] theorem keeps_execScSmin (x0) (x1) (x2) (x3) (x4) (x5) (x6) (x7) (x8) (x9) {s t : State} (h : Keeps s t) : ResKeeps s (@execScSmin x0 x1 x2 x3 x4 x5 x6 x7 x8 x9 t) := by
  unfold execScSmin
  simp (maxDischargeDepth := 60) [h]

@[simp] theorem keeps_execScSmax (x0) (x1) (x2) (x3) (x4) (x5) (x6) (x7) (x8) (x9) {s t : State} (h : Keeps s t) : ResKeeps s (@execScSmax x0 x1 x2 x3 x4 x5 x6 x7 x8 x9 t) := by
  unfold execScSmax
  simp (maxDischargeDepth := 60) [h]

@[simp] theorem keeps_execScAdd (x0) (x1) (x2) (x3) (x4) (x5) (x6) (x7) {s t : State} (h : Keeps s t) : ResKeeps s (@execScAdd x0 x1 x2 x3 x4 x5 x6 x7 t) := by
  unfold execScAdd
  simp (maxDischargeDepth := 60) [h]

@[simp] theorem keeps_execScSub (x0) (x1) (x2) (x3) (x4) (x5) (x6) (x7) {s t : State} (h : Keeps s t) : ResKeeps s (@execScSub x0 x1 x2 x3 x4 x5 x6 x7 t) := by
  unfold execScSub
  simp (maxDischargeDepth := 60) [h]

@[simp] theorem keeps_execScNeg (x0) (x1) (x2) (x3) (x4) (x5) (x6) {s t : State} (h : Keeps s t) : ResKeeps s (@execScNeg x0 x1 x2 x3 x4 x5 x6 t) := by
  unfold execScNeg
  simp (maxDischargeDepth := 60) [h]

@[simp] theorem keeps_execScAbs (x0) (x1) (x2) (x3) (x4) (x5) (x6) {s t : State} (h : Keeps s t) : ResKeeps s (@execScAbs x0 x1 x2 x3 x4 x5 x6 t) := by
  unfold execScAbs
  simp (maxDischargeDepth := 60) [h]

@[simp] theorem keeps_execScMin (x0) (x1) (x2) (x3) (x4) (x5) (x6) (x7) {s t : State} (h : Keeps s t) : ResKeeps s (@execScMin x0 x1 x2 x3 x4 x5 x6 x7 t) := by
  unfold execScMin
  simp (maxDischargeDepth := 60) [h]

@[simp] theorem keeps_execScMax (x0) (x1) (x2) (x3) (x4) (x5) (x6) (x7) {s t : State} (h : Keeps s t) : ResKeeps s (@execScMax x0 x1 x2 x3 x4 x5 x6 x7 t) := by
  unfold execScMax
  simp (maxDischargeDepth := 60) [h]

@[simp] theorem keeps_execScAnd (x0) (x1) (x2) (x3) (x4) (x5) (x6) (x7) {s t : State} (h : Keeps s t) : ResKeeps s (@execScAnd x0 x1 x2 x3 x4 x5 x6 x7 t) := by
  unfold execScAnd
  simp (maxDischargeDepth := 60) [h]

@[simp] theorem keeps_execScOr (x0) (x1) (x2) (x3) (x4) (x5) (x6) (x7) {s t : State} (h : Keeps s t) : ResKeeps s (@execScOr x0 x1 x2 x3 x4 x5 x6 x7 t) := by
  unfold execScOr
  simp (maxDischargeDepth := 60) [h]

@[simp] theorem keeps_execScXor (x0) (x1) (x2) (x3) (x4) (x5) (x6) (x7) {s t : State} (h : Keeps s t) : ResKeeps s (@execScXor x0 x1 x2 x3 x4 x5 x6 x7 t) := by
  unfold execScXor
  simp (maxDischargeDepth := 60) [h]

@[simp] theorem keeps_execScShl (x0) (x1) (x2) (x3) (x4) (x5) (x6) (x7) {s t : State} (h : Keeps s t) : ResKeeps s (@execScShl x0 x1 x2 x3 x4 x5 x6 x7 t) := by
  unfold execScShl
  simp (maxDischargeDepth := 60) [h]

@[simp] theorem keeps_execScShr (x0) (x1) (x2) (x3) (x4) (x5) (x6) (x7) {s t : State} (h : Keeps s t) : ResKeeps s (@execScShr x0 x1 x2 x3 x4 x5 x6 x7 t) := by
  unfold execScShr
  simp (maxDischargeDepth := 60) [h]

@[simp] theorem keeps_execScSra (x0) (x1) (x2) (x3) (x4) (x5) (x6) (x7) {s t : State} (h : Keeps s t) : ResKeeps s (@execScSra x0 x1 x2 x3 x4 x5 x6 x7 t) := by
  unfold execScSra
  simp (maxDischargeDepth := 60) [h]

@[simp] theorem keeps_execScFmul (x0) (x1) (x2) (x3) (x4) (x5) (x6) (x7) {s t : State} (h : Keeps s t) : ResKeeps s (@execScFmul x0 x1 x2 x3 x4 x5 x6 x7 t) := by
  unfold execScFmul
  simp (maxDischargeDepth := 60) [h]

@[simp] theorem keeps_execScShli (x0) (x1) (x2) (x3) (x4) (x5) (x6) (x7) {s t : State} (h : Keeps s t) : ResKeeps s (@execScShli x0 x1 x2 x3 x4 x5 x6 x7 t) := by
  unfold execScShli
  simp (maxDischargeDepth := 60) [h]

@[simp] theorem keeps_execScShri (x0) (x1) (x2) (x3) (x4) (x5) (x6) (x7) {s t : State} (h : Keeps s t) : ResKeeps s (@execScShri x0 x1 x2 x3 x4 x5 x6 x7 t) := by
  unfold execScShri
  simp (maxDischargeDepth := 60) [h]

@[simp] theorem keeps_execScSrai (x0) (x1) (x2) (x3) (x4) (x5) (x6) (x7) {s t : State} (h : Keeps s t) : ResKeeps s (@execScSrai x0 x1 x2 x3 x4 x5 x6 x7 t) := by
  unfold execScSrai
  simp (maxDischargeDepth := 60) [h]

@[simp] theorem keeps_execScMnop (x0) (x1) (x2) (x3) {s t : State} (h : Keeps s t) : ResKeeps s (@execScMnop x0 x1 x2 x3 t) := by
  unfold execScMnop
  simp (maxDischargeDepth := 60) [h]

@[simp] theorem keeps_execScLd (x0) (x1) (x2) (x3) (x4) (x5) (x6) (x7) (x8) {s t : State} (h : Keeps s t) : ResKeeps s (@execScLd x0 x1 x2 x3 x4 x5 x6 x7 x8 t) := by
  unfold execScLd
  simp (maxDischargeDepth := 60) [h]

@[simp] theorem keeps_execScSt (x0) (x1) (x2) (x3) (x4) (x5) (x6) (x7) (x8) {s t : State} (h : Keeps s t) : ResKeeps s (@execScSt x0 x1 x2 x3 x4 x5 x6 x7 x8 t) := by
  unfold execScSt
  simp (maxDischargeDepth := 60) [h]

@[simp] theorem keeps_execScMov (x0) (x1) (x2) (x3) (x4) (x5) (x6) {s t : State} (h : Keeps s t) : ResKeeps s (@execScMov x0 x1 x2 x3 x4 x5 x6 t) := by
  unfold execScMov
  simp (maxDischargeDepth := 60) [h]

@[simp] theorem keeps_execScMvi (x0) (x1) (x2) (x3) (x4) (x5) {s t : State} (h : Keeps s t) : ResKeeps s (@execScMvi x0 x1 x2 x3 x4 x5 t) := by
  unfold execScMvi
  simp (maxDischargeDepth := 60) [h]

@[simp] theorem keeps_execScAadd (x0) (x1) (x2) (x3) (x4) (x5) (x6) {s t : State} (h : Keeps s t) : ResKeeps s (@execScAadd x0 x1 x2 x3 x4 x5 x6 t) := by
  unfold execScAadd
  simp (maxDischargeDepth := 60) [h]

@[simp] theorem keeps_execScMvta (x0) (x1) (x2) (x3) (x4) (x5) (x6) (x7) {s t : State} (h : Keeps s t) : ResKeeps s (@execScMvta x0 x1 x2 x3 x4 x5 x6 x7 t) := by
  unfold execScMvta
  simp (maxDischargeDepth := 60) [h]

@[simp] theorem keeps_execScMvfa (x0) (x1) (x2) (x3) (x4) (x5) (x6) (x7) {s t : State} (h : Keeps s t) : ResKeeps s (@execScMvfa x0 x1 x2 x3 x4 x5 x6 x7 t) := by
  unfold execScMvfa
  simp (maxDischargeDepth := 60) [h]

end Sys2Proof.Machine
end

