-- ==== Sys2Proof/Laws/KeepsUnits.lean ====
section
/-!
SUPPORT. Signal cores, links, memory ports, bays and loads: for each operation that answers a state, that it leaves the queue alone and keeps the canonical form of the register cells and of the memories (`Keeps`).
-/
namespace Sys2Proof.Machine

@[simp] theorem keeps_execScMvts (x0) (x1) (x2) (x3) (x4) (x5) (x6) (x7) {s t : State} (h : Keeps s t) : ResKeeps s (@execScMvts x0 x1 x2 x3 x4 x5 x6 x7 t) := by
  unfold execScMvts
  simp (maxDischargeDepth := 60) [h]

@[simp] theorem keeps_execScMvfs (x0) (x1) (x2) (x3) (x4) (x5) (x6) (x7) {s t : State} (h : Keeps s t) : ResKeeps s (@execScMvfs x0 x1 x2 x3 x4 x5 x6 x7 t) := by
  unfold execScMvfs
  simp (maxDischargeDepth := 60) [h]

@[simp] theorem keeps_execScMvtacc (x0) (x1) (x2) (x3) (x4) (x5) (x6) (x7) {s t : State} (h : Keeps s t) : ResKeeps s (@execScMvtacc x0 x1 x2 x3 x4 x5 x6 x7 t) := by
  unfold execScMvtacc
  simp (maxDischargeDepth := 60) [h]

@[simp] theorem keeps_execScMvfacc (x0) (x1) (x2) (x3) (x4) (x5) (x6) (x7) {s t : State} (h : Keeps s t) : ResKeeps s (@execScMvfacc x0 x1 x2 x3 x4 x5 x6 x7 t) := by
  unfold execScMvfacc
  simp (maxDischargeDepth := 60) [h]

@[simp] theorem keeps_execScMvtix (x0) (x1) (x2) (x3) (x4) (x5) (x6) (x7) {s t : State} (h : Keeps s t) : ResKeeps s (@execScMvtix x0 x1 x2 x3 x4 x5 x6 x7 t) := by
  unfold execScMvtix
  simp (maxDischargeDepth := 60) [h]

@[simp] theorem keeps_execScMvfix (x0) (x1) (x2) (x3) (x4) (x5) (x6) (x7) {s t : State} (h : Keeps s t) : ResKeeps s (@execScMvfix x0 x1 x2 x3 x4 x5 x6 x7 t) := by
  unfold execScMvfix
  simp (maxDischargeDepth := 60) [h]

@[simp] theorem keeps_execScMfsr (x0) (x1) (x2) (x3) (x4) (x5) (x6) {s t : State} (h : Keeps s t) : ResKeeps s (@execScMfsr x0 x1 x2 x3 x4 x5 x6 t) := by
  unfold execScMfsr
  simp (maxDischargeDepth := 60) [h]

@[simp] theorem keeps_execScMtsr (x0) (x1) (x2) (x3) (x4) (x5) (x6) {s t : State} (h : Keeps s t) : ResKeeps s (@execScMtsr x0 x1 x2 x3 x4 x5 x6 t) := by
  unfold execScMtsr
  simp (maxDischargeDepth := 60) [h]

@[simp] theorem keeps_execScLmvi (x0) (x1) (x2) (x3) (x4) {s t : State} (h : Keeps s t) : ResKeeps s (@execScLmvi x0 x1 x2 x3 x4 t) := by
  unfold execScLmvi
  simp (maxDischargeDepth := 60) [h]

@[simp] theorem keeps_execScLseta (x0) (x1) (x2) (x3) (x4) (x5) {s t : State} (h : Keeps s t) : ResKeeps s (@execScLseta x0 x1 x2 x3 x4 x5 t) := by
  unfold execScLseta
  simp (maxDischargeDepth := 60) [h]

@[simp] theorem keeps_execScLinsa (x0) (x1) (x2) (x3) (x4) (x5) {s t : State} (h : Keeps s t) : ResKeeps s (@execScLinsa x0 x1 x2 x3 x4 x5 t) := by
  unfold execScLinsa
  simp (maxDischargeDepth := 60) [h]

@[simp] theorem keeps_execScLst (x0) (x1) (x2) (x3) (x4) (x5) {s t : State} (h : Keeps s t) : ResKeeps s (@execScLst x0 x1 x2 x3 x4 x5 t) := by
  unfold execScLst
  simp (maxDischargeDepth := 60) [h]

@[simp] theorem keeps_execScBz (x0) (x1) (x2) (x3) (x4) {s t : State} (h : Keeps s t) : ResKeeps s (@execScBz x0 x1 x2 x3 x4 t) := by
  unfold execScBz
  simp (maxDischargeDepth := 60) [h]

@[simp] theorem keeps_execScBnz (x0) (x1) (x2) (x3) (x4) {s t : State} (h : Keeps s t) : ResKeeps s (@execScBnz x0 x1 x2 x3 x4 t) := by
  unfold execScBnz
  simp (maxDischargeDepth := 60) [h]

@[simp] theorem keeps_execScBltz (x0) (x1) (x2) (x3) (x4) {s t : State} (h : Keeps s t) : ResKeeps s (@execScBltz x0 x1 x2 x3 x4 t) := by
  unfold execScBltz
  simp (maxDischargeDepth := 60) [h]

@[simp] theorem keeps_execScBgez (x0) (x1) (x2) (x3) (x4) {s t : State} (h : Keeps s t) : ResKeeps s (@execScBgez x0 x1 x2 x3 x4 t) := by
  unfold execScBgez
  simp (maxDischargeDepth := 60) [h]

@[simp] theorem keeps_execScJmp (x0) (x1) (x2) (x3) (x4) {s t : State} (h : Keeps s t) : ResKeeps s (@execScJmp x0 x1 x2 x3 x4 t) := by
  unfold execScJmp
  simp (maxDischargeDepth := 60) [h]

@[simp] theorem keeps_execScCall (x0) (x1) (x2) (x3) (x4) {s t : State} (h : Keeps s t) : ResKeeps s (@execScCall x0 x1 x2 x3 x4 t) := by
  unfold execScCall
  simp (maxDischargeDepth := 60) [h]

@[simp] theorem keeps_execScRet (x0) (x1) (x2) (x3) {s t : State} (h : Keeps s t) : ResKeeps s (@execScRet x0 x1 x2 x3 t) := by
  unfold execScRet
  simp (maxDischargeDepth := 60) [h]

@[simp] theorem keeps_execScRep (x0) (x1) (x2) (x3) (x4) (x5) (x6) (x7) {s t : State} (h : Keeps s t) : ResKeeps s (@execScRep x0 x1 x2 x3 x4 x5 x6 x7 t) := by
  unfold execScRep
  simp (maxDischargeDepth := 60) [h]

@[simp] theorem keeps_execScRot (x0) (x1) (x2) (x3) {s t : State} (h : Keeps s t) : ResKeeps s (@execScRot x0 x1 x2 x3 t) := by
  unfold execScRot
  simp (maxDischargeDepth := 60) [h]

@[simp] theorem keeps_execScSyncC (x0) (x1) (x2) (x3) {s t : State} (h : Keeps s t) : ResKeeps s (@execScSyncC x0 x1 x2 x3 t) := by
  unfold execScSyncC
  simp (maxDischargeDepth := 60) [h]

@[simp] theorem keeps_execScFenceSl (x0) (x1) (x2) (x3) {s t : State} (h : Keeps s t) : ResKeeps s (@execScFenceSl x0 x1 x2 x3 t) := by
  unfold execScFenceSl
  simp (maxDischargeDepth := 60) [h]

@[simp] theorem keeps_execScFence (x0) (x1) (x2) (x3) {s t : State} (h : Keeps s t) : ResKeeps s (@execScFence x0 x1 x2 x3 t) := by
  unfold execScFence
  simp (maxDischargeDepth := 60) [h]

@[simp] theorem keeps_execScRte (x0) (x1) (x2) (x3) {s t : State} (h : Keeps s t) : ResKeeps s (@execScRte x0 x1 x2 x3 t) := by
  unfold execScRte
  simp (maxDischargeDepth := 60) [h]

@[simp] theorem keeps_execScTrap (x0) (x1) (x2) (x3) (x4) {s t : State} (h : Keeps s t) : ResKeeps s (@execScTrap x0 x1 x2 x3 x4 t) := by
  unfold execScTrap
  simp (maxDischargeDepth := 60) [h]

@[simp] theorem keeps_execScWaiti (x0) (x1) (x2) (x3) {s t : State} (h : Keeps s t) : ResKeeps s (@execScWaiti x0 x1 x2 x3 t) := by
  unfold execScWaiti
  simp (maxDischargeDepth := 60) [h]

@[simp] theorem keeps_execScRaise (x0) (x1) (x2) (x3) (x4) {s t : State} (h : Keeps s t) : ResKeeps s (@execScRaise x0 x1 x2 x3 x4 t) := by
  unfold execScRaise
  simp (maxDischargeDepth := 60) [h]

@[simp] theorem keeps_execScTakeInterrupt (x0) {s t : State} (h : Keeps s t) : ResKeeps s (@execScTakeInterrupt x0 t) := by
  unfold execScTakeInterrupt
  simp (maxDischargeDepth := 60) [h]

@[simp] theorem keeps_execScTakeSbus (x0) {s t : State} (h : Keeps s t) : ResKeeps s (@execScTakeSbus x0 t) := by
  unfold execScTakeSbus
  simp (maxDischargeDepth := 60) [h]

@[simp] theorem keeps_execScTakeDebug (x0) {s t : State} (h : Keeps s t) : ResKeeps s (@execScTakeDebug x0 t) := by
  unfold execScTakeDebug
  simp (maxDischargeDepth := 60) [h]

@[simp] theorem keeps_execScWake (x0) {s t : State} (h : Keeps s t) : ResKeeps s (@execScWake x0 t) := by
  unfold execScWake
  simp (maxDischargeDepth := 60) [h]

@[simp] theorem keeps_scStartCore (x0) {s t : State} (h : Keeps s t) : Keeps s (@scStartCore x0 t) := by
  unfold scStartCore
  simp (maxDischargeDepth := 60) [h]

@[simp] theorem keeps_scResetCore (x0) {s t : State} (h : Keeps s t) : Keeps s (@scResetCore x0 t) := by
  unfold scResetCore
  simp (maxDischargeDepth := 60) [h]

@[simp] theorem keeps_execScStart (x0) {s t : State} (h : Keeps s t) : ResKeeps s (@execScStart x0 t) := by
  unfold execScStart
  simp (maxDischargeDepth := 60) [h]

@[simp] theorem keeps_execScReset (x0) {s t : State} (h : Keeps s t) : ResKeeps s (@execScReset x0 t) := by
  unfold execScReset
  simp (maxDischargeDepth := 60) [h]

@[simp] theorem keeps_scWinRead (x0) (x1) (x2) {s t : State} (h : Keeps s t) : Keeps s (@scWinRead x0 x1 x2 t).2.2 := by
  unfold scWinRead
  try dsimp only
  (repeat' (first | split | (refine keeps_forL _ _ (fun x u => ?_) ?_) | (refine keeps_forN _ _ (fun x u => ?_) ?_) | (refine keeps_foldl2 _ (fun x u => ?_) _ _ ?_) | (refine keeps_foldl22 _ (fun x u => ?_) _ _ ?_))) <;> simp (maxDischargeDepth := 60) [h, -List.reduceReplicate]

@[simp] theorem keeps_execScWindowAccess (n : Nat) (st : Bool) {s t : State} (h : Keeps s t) : ResKeeps s (execScWindowAccess n st t) := by
  unfold execScWindowAccess
  refine resKeeps_next.2 ?_
  split
  · exact h
  split
  · exact h
  extract_lets p off
  clear_value off
  split
  · simp [h]
  rename_i g o c flit fin taken s0 sw _
  have h0 : Keeps s s0 := by simp only [s0]; split <;> simp [h]
  clear_value s0
  split
  · split
    rename_i d bad s1 h1
    have k1 : Keeps s s1 := keeps_snd2 h1 (by simp [h0])
    split
    rename_i f s2 h2
    have k2 : Keeps s s2 := keeps_snd h2 (by split <;> simp [k1])
    extract_lets g1
    split <;> simp (maxDischargeDepth := 60) [k2]
  · have k1 : Keeps s sw := by
      refine keeps_forN _ _ (fun x u => ?_) h0
      split <;> simp
    clear_value sw
    split <;> simp (maxDischargeDepth := 60) [k1]

@[simp] theorem keeps_execScMemWriteback (x0) {s t : State} (h : Keeps s t) : ResKeeps s (@execScMemWriteback x0 t) := by
  unfold execScMemWriteback
  (repeat' split) <;> simp (maxDischargeDepth := 60) [h]

@[simp] theorem keeps_State_updVc (x1) (x2) {s t : State} (h : Keeps s t) : Keeps s (@State.updVc t x1 x2) := by
  unfold State.updVc
  simp (maxDischargeDepth := 60) [h]

@[simp] theorem keeps_State_vset (x1) (x2) (x3) {s t : State} (h : Keeps s t) : Keeps s (@State.vset t x1 x2 x3) := by
  unfold State.vset
  simp (maxDischargeDepth := 60) [h]

@[simp] theorem keeps_vfaultHalt (x0) (x1) (x2) (x3) (x4) {s t : State} (h : Keeps s t) : Keeps s (@vfaultHalt x0 x1 x2 x3 x4 t) := by
  unfold vfaultHalt
  simp (maxDischargeDepth := 60) [h]

@[simp] theorem keeps_vtrapEntry (x0) (x1) (x2) (x3) (x4) (x5) {s t : State} (h : Keeps s t) : Keeps s (@vtrapEntry x0 x1 x2 x3 x4 x5 t) := by
  unfold vtrapEntry
  simp (maxDischargeDepth := 60) [h]

@[simp] theorem keeps_vtrap (x0) (x1) (x2) (x3) (x4) (x5) (x6) {s t : State} (h : Keeps s t) : Keeps s (@vtrap x0 x1 x2 x3 x4 x5 x6 t) := by
  unfold vtrap
  simp (maxDischargeDepth := 60) [h]

@[simp] theorem keeps_vtrapAt (x0) (x1) (x2) (x3) (x4) {s t : State} (h : Keeps s t) : Keeps s (@vtrapAt x0 x1 x2 x3 x4 t) := by
  unfold vtrapAt
  simp (maxDischargeDepth := 60) [h]

@[simp] theorem keeps_villegal (x0) {s t : State} (h : Keeps s t) : Keeps s (@villegal x0 t) := by
  unfold villegal
  simp (maxDischargeDepth := 60) [h]

@[simp] theorem keeps_vretireTo (x0) (x1) {s t : State} (h : Keeps s t) : Keeps s (@vretireTo x0 x1 t) := by
  unfold vretireTo
  simp (maxDischargeDepth := 60) [h]

@[simp] theorem keeps_vretire (x0) {s t : State} (h : Keeps s t) : Keeps s (@vretire x0 t) := by
  unfold vretire
  simp (maxDischargeDepth := 60) [h]

@[simp] theorem keeps_vwriteF (x0) (x1) (x2) {s t : State} (h : Keeps s t) : Keeps s (@vwriteF x0 x1 x2 t) := by
  unfold vwriteF
  simp (maxDischargeDepth := 60) [h]

@[simp] theorem keeps_vrequest (x0) (x1) (x2) (x3) (x4) (x5) (x6) (x7) {s t : State} (h : Keeps s t) : Keeps s (@vrequest x0 x1 x2 x3 x4 x5 x6 x7 t) := by
  unfold vrequest
  simp (maxDischargeDepth := 60) [h]

@[simp] theorem keeps_vfetchTrap (x0) (x1) (x2) (x3) {s t : State} (h : Keeps s t) : Keeps s (@vfetchTrap x0 x1 x2 x3 t) := by
  unfold vfetchTrap
  simp (maxDischargeDepth := 60) [h]

@[simp] theorem keeps_vbreak (x0) {s t : State} (h : Keeps s t) : Keeps s (@vbreak x0 t).2 := by
  unfold vbreak
  try dsimp only
  (repeat' (first | split | (refine keeps_forL _ _ (fun x u => ?_) ?_) | (refine keeps_forN _ _ (fun x u => ?_) ?_) | (refine keeps_foldl2 _ (fun x u => ?_) _ _ ?_) | (refine keeps_foldl22 _ (fun x u => ?_) _ _ ?_))) <;> (try simp only [Prod.ext_iff] at *) <;> (try casesm* _ ∧ _) <;> subst_vars <;> simp (maxDischargeDepth := 60) [h, -List.reduceReplicate]

@[simp] theorem keeps_vleaveRom (x0) {s t : State} (h : Keeps s t) : Keeps s (@vleaveRom x0 t) := by
  unfold vleaveRom
  (repeat' split) <;> simp (maxDischargeDepth := 60) [h]

@[simp] theorem keeps_vissue (c : Nat) (body : State → State) (hg : ∀ u, Keeps u (body u)) {s t : State} (h : Keeps s t) :
    Keeps s (vissue c body t) := by
  unfold vissue
  split
  · exact h
  extract_lets s0
  have h0 : Keeps s s0 := by simp only [s0]; (repeat' split) <;> simp [h]
  clear_value s0
  split
  · simp [h0]
  · simp [h0]
  · split
    · exact keeps_snd ‹_› (by simp [h0])
    · exact (keeps_snd ‹_› (by simp [h0])).trans (hg _)

@[simp] theorem keeps_vop (c mbz : Nat) (body : State → State) (hg : ∀ u, Keeps u (body u)) {s t : State} (h : Keeps s t) : ResKeeps s (vop c mbz body t) := by
  unfold vop; (repeat' split) <;> simp (maxDischargeDepth := 60) [h, hg]

@[simp] theorem keeps_vsup (c : Nat) (body : State → State) (hg : ∀ u, Keeps u (body u)) {s t : State} (h : Keeps s t) : Keeps s (vsup c body t) := by
  unfold vsup; split
  · simp [h]
  · exact h.trans (hg t)

@[simp] theorem keeps_vdataCmp (x0) (x1) (x2) (x3) (x4) (x5) (x6) {s t : State} (h : Keeps s t) : Keeps s (@vdataCmp x0 x1 x2 x3 x4 x5 x6 t) := by
  unfold vdataCmp
  try dsimp only
  (repeat' (first | split | (refine keeps_forL _ _ (fun x u => ?_) ?_) | (refine keeps_forN _ _ (fun x u => ?_) ?_) | (refine keeps_foldl2 _ (fun x u => ?_) _ _ ?_) | (refine keeps_foldl22 _ (fun x u => ?_) _ _ ?_))) <;> (try simp only [Prod.ext_iff] at *) <;> (try casesm* _ ∧ _) <;> subst_vars <;> simp (maxDischargeDepth := 60) [h, -List.reduceReplicate]

@[simp] theorem keeps_vdone (x0) (x1) (x2) (x3) (x4) {s t : State} (h : Keeps s t) : Keeps s (@vdone x0 x1 x2 x3 x4 t) := by
  unfold vdone
  simp (maxDischargeDepth := 60) [h]

@[simp] theorem keeps_vfill (x0) (x1) {s t : State} (h : Keeps s t) : Keeps s (@vfill x0 x1 t) := by
  unfold vfill
  try dsimp only
  (repeat' (first | split | (refine keeps_forL _ _ (fun x u => ?_) ?_) | (refine keeps_forN _ _ (fun x u => ?_) ?_) | (refine keeps_foldl2 _ (fun x u => ?_) _ _ ?_) | (refine keeps_foldl22 _ (fun x u => ?_) _ _ ?_))) <;> simp (maxDischargeDepth := 60) [h, -List.reduceReplicate]

@[simp] theorem keeps_vcheck (c : Nat) (a : Word) (n access : Nat) (ps : List Nat) (k : State → State) (hg : ∀ u, Keeps u (k u)) {s t : State} (h : Keeps s t) : Keeps s (vcheck c a n access ps k t) := by
  unfold vcheck; (repeat' split) <;> first | exact h.trans (hg t) | simp [h]

@[simp] theorem keeps_vloaded (x0) (x1) (x2) (x3) (x4) (x5) {s t : State} (h : Keeps s t) : Keeps s (@vloaded x0 x1 x2 x3 x4 x5 t) := by
  unfold vloaded
  simp (maxDischargeDepth := 60) [h]

@[simp] theorem keeps_vcheck' (c : Nat) (a : Word) (n access : Nat) (ps : List Nat) (k : State → State) {s t : State} (h : Keeps s t) (hk : Keeps s (k t)) :
    Keeps s (vcheck c a n access ps k t) := by
  unfold vcheck; (repeat' split) <;> simp [h, hk]

@[simp] theorem keeps_vload (c rd w : Nat) (sgn : Bool) (a : Word) {s t : State} (h : Keeps s t) : Keeps s (vload c rd w sgn a t) := by
  unfold vload
  refine keeps_vcheck' _ _ _ _ _ _ h ?_
  (repeat' split) <;> simp [h]

@[simp] theorem keeps_vldmStore (x0) (x1) (x2) (x3) (x4) {s t : State} (h : Keeps s t) : Keeps s (@vldmStore x0 x1 x2 x3 x4 t) := by
  unfold vldmStore
  simp (maxDischargeDepth := 60) [h]

@[simp] theorem keeps_vstore (c w v : Nat) (a : Word) {s t : State} (h : Keeps s t) : Keeps s (vstore c w v a t) := by
  unfold vstore
  refine keeps_vcheck' _ _ _ _ _ _ h ?_
  (repeat' split) <;> simp [h]

@[simp] theorem keeps_vatomicDone (x0) (x1) (x2) (x3) (x4) (x5) {s t : State} (h : Keeps s t) : Keeps s (@vatomicDone x0 x1 x2 x3 x4 x5 t) := by
  unfold vatomicDone
  simp (maxDischargeDepth := 60) [h]

@[simp] theorem keeps_vldmAtomic (x0) (x1) (x2) (x3) (x4) (x5) (x6) {s t : State} (h : Keeps s t) : Keeps s (@vldmAtomic x0 x1 x2 x3 x4 x5 x6 t) := by
  unfold vldmAtomic
  simp (maxDischargeDepth := 60) [h]

@[simp] theorem keeps_vatomic (c rd rs1 rs2 kind : Nat) {s t : State} (h : Keeps s t) : Keeps s (vatomic c rd rs1 rs2 kind t) := by
  unfold vatomic
  refine keeps_vcheck' _ _ _ _ _ _ h ?_
  (repeat' split) <;> simp [h]

@[simp] theorem keeps_State_updMp (x1) (x2) {s t : State} (h : Keeps s t) : Keeps s (@State.updMp t x1 x2) := by
  unfold State.updMp
  simp (maxDischargeDepth := 60) [h]

@[simp] theorem keeps_dramRaw (x0) (x1) {s t : State} (h : Keeps s t) : Keeps s (@dramRaw x0 x1 t).2.2 := by
  unfold dramRaw
  simp (maxDischargeDepth := 60) [h]

@[simp] theorem keeps_dramDecode (x0) (x1) {s t : State} (h : Keeps s t) : Keeps s (@dramDecode x0 x1 t).2.2.2 := by
  unfold dramDecode
  simp (maxDischargeDepth := 60) [h]

@[simp] theorem keeps_dramStore (x0) (x1) (x2) (x3) {s t : State} (h : Keeps s t) : Keeps s (@dramStore x0 x1 x2 x3 t) := by
  unfold dramStore
  simp (maxDischargeDepth := 60) [h]

@[simp] theorem keeps_dramUpset (x0) (x1) (x2) {s t : State} (h : Keeps s t) : Keeps s (@dramUpset x0 x1 x2 t) := by
  unfold dramUpset
  simp (maxDischargeDepth := 60) [h]

@[simp] theorem keeps_mpEmitCol (x0) (x1) (x2) (x3) (x4) {s t : State} (h : Keeps s t) : Keeps s (@mpEmitCol x0 x1 x2 x3 x4 t) := by
  unfold mpEmitCol
  simp (maxDischargeDepth := 60) [h]

@[simp] theorem keeps_mpEmit (x0) (x1) (x2) (x3) {s t : State} (h : Keeps s t) : Keeps s (@mpEmit x0 x1 x2 x3 t) := by
  unfold mpEmit
  simp (maxDischargeDepth := 60) [h]

@[simp] theorem keeps_mpCommand (x0) (x1) (x2) {s t : State} (h : Keeps s t) : Keeps s (@mpCommand x0 x1 x2 t) := by
  unfold mpCommand
  simp (maxDischargeDepth := 60) [h]

@[simp] theorem keeps_mpEmitAll (x0) (x1) {s t : State} (h : Keeps s t) : Keeps s (@mpEmitAll x0 x1 t) := by
  unfold mpEmitAll
  simp (maxDischargeDepth := 60) [h]

@[simp] theorem keeps_mpRaaDown (x0) (x1) {s t : State} (h : Keeps s t) : Keeps s (@mpRaaDown x0 x1 t) := by
  unfold mpRaaDown
  simp (maxDischargeDepth := 60) [h]

@[simp] theorem keeps_mpRaaSb (x0) (x1) {s t : State} (h : Keeps s t) : Keeps s (@mpRaaSb x0 x1 t) := by
  unfold mpRaaSb
  simp (maxDischargeDepth := 60) [h]

@[simp] theorem keeps_mpThrottle (x0) (x1) (x2) {s t : State} (h : Keeps s t) : Keeps s (@mpThrottle x0 x1 x2 t) := by
  unfold mpThrottle
  simp (maxDischargeDepth := 60) [h]

@[simp] theorem keeps_mpDisturb (x0) (x1) (x2) {s t : State} (h : Keeps s t) : Keeps s (@mpDisturb x0 x1 x2 t) := by
  unfold mpDisturb
  simp (maxDischargeDepth := 60) [h]

@[simp] theorem keeps_mpActivate (x0) (x1) (x2) (x3) {s t : State} (h : Keeps s t) : Keeps s (@mpActivate x0 x1 x2 x3 t) := by
  unfold mpActivate
  try dsimp only
  (repeat' (first | split | (refine keeps_forL _ _ (fun x u => ?_) ?_) | (refine keeps_forN _ _ (fun x u => ?_) ?_) | (refine keeps_foldl2 _ (fun x u => ?_) _ _ ?_) | (refine keeps_foldl22 _ (fun x u => ?_) _ _ ?_))) <;> simp (maxDischargeDepth := 60) [h, -List.reduceReplicate]

@[simp] theorem keeps_mpBucket (x0) {s t : State} (h : Keeps s t) : Keeps s (@mpBucket x0 t) := by
  unfold mpBucket
  simp (maxDischargeDepth := 60) [h]

@[simp] theorem keeps_mpNoteCe (x0) (x1) (x2) {s t : State} (h : Keeps s t) : Keeps s (@mpNoteCe x0 x1 x2 t) := by
  unfold mpNoteCe
  try dsimp only
  (repeat' (first | split | (refine keeps_forL _ _ (fun x u => ?_) ?_) | (refine keeps_forN _ _ (fun x u => ?_) ?_) | (refine keeps_foldl2 _ (fun x u => ?_) _ _ ?_) | (refine keeps_foldl22 _ (fun x u => ?_) _ _ ?_))) <;> simp (maxDischargeDepth := 60) [h, -List.reduceReplicate]

@[simp] theorem keeps_mpNoteUe (x0) (x1) (x2) {s t : State} (h : Keeps s t) : Keeps s (@mpNoteUe x0 x1 x2 t) := by
  unfold mpNoteUe
  simp (maxDischargeDepth := 60) [h]

@[simp] theorem keeps_remapWrite (x0) (x1) (x2) (x3) (x4) {s t : State} (h : Keeps s t) : Keeps s (@remapWrite x0 x1 x2 x3 x4 t) := by
  unfold remapWrite
  simp (maxDischargeDepth := 60) [h]

@[simp] theorem keeps_remapRead (x0) (x1) (x2) {s t : State} (h : Keeps s t) : Keeps s (@remapRead x0 x1 x2 t).2.2 := by
  unfold remapRead
  simp (maxDischargeDepth := 60) [h]

@[simp] theorem keeps_mpCount (x0) (x1) (x2) (x3) (x4) {s t : State} (h : Keeps s t) : Keeps s (@mpCount x0 x1 x2 x3 x4 t) := by
  unfold mpCount
  (repeat' split) <;> simp (maxDischargeDepth := 60) [h]

@[simp] theorem keeps_mpWriteOut (x0) (x1) {s t : State} (h : Keeps s t) : Keeps s (@mpWriteOut x0 x1 t) := by
  unfold mpWriteOut
  simp (maxDischargeDepth := 60) [h]

@[simp] theorem keeps_issueWrite (x0) (x1) {s t : State} (h : Keeps s t) : Keeps s (@issueWrite x0 x1 t) := by
  unfold issueWrite
  try dsimp only
  (repeat' (first | split | (refine keeps_forL _ _ (fun x u => ?_) ?_) | (refine keeps_forN _ _ (fun x u => ?_) ?_) | (refine keeps_foldl2 _ (fun x u => ?_) _ _ ?_) | (refine keeps_foldl22 _ (fun x u => ?_) _ _ ?_))) <;> simp (maxDischargeDepth := 60) [h, -List.reduceReplicate]

@[simp] theorem keeps_mpMerge (x0) (x1) (x2) (x3) (x4) {s t : State} (h : Keeps s t) : Keeps s (@mpMerge x0 x1 x2 x3 x4 t) := by
  unfold mpMerge
  (repeat' split) <;> simp (maxDischargeDepth := 60) [h]

@[simp] theorem keeps_mpRoom (x0) (x1) {s t : State} (h : Keeps s t) : Keeps s (@mpRoom x0 x1 t) := by
  unfold mpRoom
  dsimp only
  (repeat' split) <;> simp (maxDischargeDepth := 60) [h]

@[simp] theorem keeps_mpEnqueue (x0) (x1) (x2) (x3) (x4) {s t : State} (h : Keeps s t) : Keeps s (@mpEnqueue x0 x1 x2 x3 x4 t) := by
  unfold mpEnqueue
  simp (maxDischargeDepth := 60) [h]

@[simp] theorem keeps_mpSnap (x0) (x1) (x2) {s t : State} (h : Keeps s t) : Keeps s (@mpSnap x0 x1 x2 t).2 := by
  unfold mpSnap
  try dsimp only
  (repeat' (first | split | (refine keeps_forL _ _ (fun x u => ?_) ?_) | (refine keeps_forN _ _ (fun x u => ?_) ?_) | (refine keeps_foldl2 _ (fun x u => ?_) _ _ ?_) | (refine keeps_foldl22 _ (fun x u => ?_) _ _ ?_))) <;> simp (maxDischargeDepth := 60) [h, -List.reduceReplicate]

@[simp] theorem keeps_mpNote (x0) (x1) (x2) {s t : State} (h : Keeps s t) : Keeps s (@mpNote x0 x1 x2 t) := by
  unfold mpNote
  simp (maxDischargeDepth := 60) [h]

@[simp] theorem keeps_mpServing (x0) (x1) (x2) {s t : State} (h : Keeps s t) : Keeps s (@mpServing x0 x1 x2 t) := by
  unfold mpServing
  simp (maxDischargeDepth := 60) [h]

@[simp] theorem keeps_mpFetch (x0) (x1) (x2) {s t : State} (h : Keeps s t) : Keeps s (@mpFetch x0 x1 x2 t).2 := by
  unfold mpFetch
  simp (maxDischargeDepth := 60) [h]

@[simp] theorem keeps_mpSnaps (x0) (x1) (x2) {s t : State} (h : Keeps s t) : Keeps s (@mpSnaps x0 x1 x2 t).2 := by
  unfold mpSnaps
  simp (maxDischargeDepth := 60) [h]

@[simp] theorem keeps_mpFetches (x0) (x1) (x2) {s t : State} (h : Keeps s t) : Keeps s (@mpFetches x0 x1 x2 t).2 := by
  unfold mpFetches
  simp (maxDischargeDepth := 60) [h]

@[simp] theorem keeps_snapData (x0) (x1) (x2) {s t : State} (h : Keeps s t) : Keeps s (@snapData x0 x1 x2 t).2.2 := by
  unfold snapData
  simp (maxDischargeDepth := 60) [h]

@[simp] theorem keeps_mpReadNow (x0) (x1) (x2) {s t : State} (h : Keeps s t) : Keeps s (@mpReadNow x0 x1 x2 t).2.2 := by
  unfold mpReadNow
  simp (maxDischargeDepth := 60) [h]

@[simp] theorem keeps_mpWriteNow (x0) (x1) {s t : State} (h : Keeps s t) : Keeps s (@mpWriteNow x0 x1 t) := by
  unfold mpWriteNow
  simp (maxDischargeDepth := 60) [h]

@[simp] theorem keeps_mpAtomicNow (x0) (x1) {s t : State} (h : Keeps s t) : Keeps s (@mpAtomicNow x0 x1 t).2.2 := by
  unfold mpAtomicNow
  simp (maxDischargeDepth := 60) [h]

@[simp] theorem keeps_State_updRg (x1) (x2) {s t : State} (h : Keeps s t) : Keeps s (@State.updRg t x1 x2) := by
  unfold State.updRg
  simp (maxDischargeDepth := 60) [h]

@[simp] theorem keeps_eraseSlot (x0) {s t : State} (h : Keeps s t) : Keeps s (@eraseSlot x0 t) := by
  unfold eraseSlot
  simp (maxDischargeDepth := 60) [h]

@[simp] theorem keeps_dropCache (x0) {s t : State} (h : Keeps s t) : Keeps s (@dropCache x0 t) := by
  unfold dropCache
  simp (maxDischargeDepth := 60) [h]

@[simp] theorem keeps_rgFall (x0) (x1) {s t : State} (h : Keeps s t) : Keeps s (@rgFall x0 x1 t) := by
  unfold rgFall
  simp (maxDischargeDepth := 60) [h]

@[simp] theorem keeps_zeroise (x0) {s t : State} (h : Keeps s t) : Keeps s (@zeroise x0 t) := by
  unfold zeroise
  simp (maxDischargeDepth := 60) [h]

@[simp] theorem keeps_freeze (x0) {s t : State} (h : Keeps s t) : Keeps s (@freeze x0 t) := by
  unfold freeze
  simp (maxDischargeDepth := 60) [h]

@[simp] theorem keeps_alarm (x0) (x1) (x2) (x3) (x4) (x6) {s t : State} (h : Keeps s t) : Keeps s (@alarm x0 x1 x2 x3 x4 t x6) := by
  unfold alarm
  try dsimp only
  (repeat' (first | split | (refine keeps_forL _ _ (fun x u => ?_) ?_) | (refine keeps_forN _ _ (fun x u => ?_) ?_) | (refine keeps_foldl2 _ (fun x u => ?_) _ _ ?_) | (refine keeps_foldl22 _ (fun x u => ?_) _ _ ?_))) <;> simp (maxDischargeDepth := 60) [h, -List.reduceReplicate]

@[simp] theorem keeps_mcWrite (x0) (x1) (x2) (x3) (x4) {s t : State} (h : Keeps s t) : Keeps s (@mcWrite x0 x1 x2 x3 x4 t) := by
  unfold mcWrite
  simp (maxDischargeDepth := 60) [h]

@[simp] theorem keeps_mcWriteBack (x0) (x1) {s t : State} (h : Keeps s t) : Keeps s (@mcWriteBack x0 x1 t) := by
  unfold mcWriteBack
  (repeat' split) <;> simp (maxDischargeDepth := 60) [h]

@[simp] theorem keeps_mcEvict (x0) (x1) {s t : State} (h : Keeps s t) : Keeps s (@mcEvict x0 x1 t) := by
  unfold mcEvict
  try dsimp only
  (repeat' (first | split | (refine keeps_forL _ _ (fun x u => ?_) ?_) | (refine keeps_forN _ _ (fun x u => ?_) ?_) | (refine keeps_foldl2 _ (fun x u => ?_) _ _ ?_) | (refine keeps_foldl22 _ (fun x u => ?_) _ _ ?_))) <;> simp (maxDischargeDepth := 60) [h, -List.reduceReplicate]

@[simp] theorem keeps_mcInsert (x0) (x1) {s t : State} (h : Keeps s t) : Keeps s (@mcInsert x0 x1 t) := by
  unfold mcInsert
  try dsimp only
  (repeat' (first | split | (refine keeps_forL _ _ (fun x u => ?_) ?_) | (refine keeps_forN _ _ (fun x u => ?_) ?_) | (refine keeps_foldl2 _ (fun x u => ?_) _ _ ?_) | (refine keeps_foldl22 _ (fun x u => ?_) _ _ ?_))) <;> simp (maxDischargeDepth := 60) [h, -List.reduceReplicate]

@[simp] theorem keeps_mcNeedOne (x0) (x1) (x2) (x3) {s t : State} (h : Keeps s t) : Keeps s (@mcNeedOne x0 x1 x2 x3 t).2 := by
  unfold mcNeedOne
  simp (maxDischargeDepth := 60) [h]

@[simp] theorem keeps_mcNeed (x0) (x1) (x2) (x3) {s t : State} (h : Keeps s t) : Keeps s (@mcNeed x0 x1 x2 x3 t).2 := by
  unfold mcNeed
  simp (maxDischargeDepth := 60) [h]

@[simp] theorem keeps_tagNeed (x0) (x1) (x2) {s t : State} (h : Keeps s t) : Keeps s (@tagNeed x0 x1 x2 t).2 := by
  unfold tagNeed
  simp (maxDischargeDepth := 60) [h]

@[simp] theorem keeps_pipeReadBlk (x0) (x1) (x2) {s t : State} (h : Keeps s t) : Keeps s (@pipeReadBlk x0 x1 x2 t).2 := by
  unfold pipeReadBlk
  simp (maxDischargeDepth := 60) [h]

@[simp] theorem keeps_pipePut (x0) (x1) (x2) (x3) (x4) (x5) (x6) (x7) {s t : State} (h : Keeps s t) : Keeps s (@pipePut x0 x1 x2 x3 x4 x5 x6 x7 t) := by
  unfold pipePut
  simp (maxDischargeDepth := 60) [h]

@[simp] theorem keeps_pageRead (x0) (x1) (x2) {s t : State} (h : Keeps s t) : Keeps s (@pageRead x0 x1 x2 t).2.2 := by
  unfold pageRead
  simp (maxDischargeDepth := 60) [h]

@[simp] theorem keeps_reencrypt (x0) (x1) (x2) (x3) {s t : State} (h : Keeps s t) : Keeps s (@reencrypt x0 x1 x2 x3 t).2 := by
  unfold reencrypt
  simp (maxDischargeDepth := 60) [h]

@[simp] theorem keeps_pipeWriteBlk (x0) (x1) (x2) (x3) (x4) {s t : State} (h : Keeps s t) : Keeps s (@pipeWriteBlk x0 x1 x2 x3 x4 t).2 := by
  unfold pipeWriteBlk
  simp (maxDischargeDepth := 60) [h]

@[simp] theorem keeps_noteBlocked (x0) (x1) (x2) {s t : State} (h : Keeps s t) : Keeps s (@noteBlocked x0 x1 x2 t) := by
  unfold noteBlocked
  simp (maxDischargeDepth := 60) [h]

@[simp] theorem keeps_pipeOlds (n r : Nat) (p : Packet) {s t : State} (h : Keeps s t) : Keeps s (pipeOlds n r p t).2.2 := by
  unfold pipeOlds
  extract_lets off
  clear_value off
  refine keeps_foldl22 _ (fun x u => ?_) _ _ h
  split
  · simp
  extract_lets b
  split
  rename_i c s1 h1
  have k1 : Keeps x.2.2 s1 := keeps_snd h1 (by simp)
  split
  · exact k1
  split
  · split
    rename_i c2 ds s2 h2
    exact keeps_snd2 h2 (by simp [k1])
  split
  · split
    exact keeps_snd ‹_› (by simp [k1])
  · split
    exact keeps_snd ‹_› (by simp [k1])

@[simp] theorem keeps_pipeServe (n r : Nat) (p : Packet) (act : Option Nat) {s t : State} (h : Keeps s t) :
    Keeps s (pipeServe n r p act t).2 := by
  unfold pipeServe
  extract_lets off
  clear_value off
  split
  rename_i parts fail _ c olds s1 h1
  have k1 : Keeps s s1 := keeps_snd2 h1 (by simp [h])
  have kf : ∀ c u, Keeps u (fail c u).2 := by intro c u; simp [fail]
  clear_value fail parts
  split
  · exact k1.trans (kf _ _)
  split
  · split
    exact keeps_snd2 ‹_› (by simp [k1])
  split
  · split
    · split
      · split
        exact keeps_snd ‹_› (by simp [k1])
      · extract_lets old v d
        clear_value d old
        split
        rename_i c2 s2 h2
        have k2 : Keeps s s2 := keeps_snd h2 (by simp [k1])
        split
        · exact k2.trans (kf _ _)
        · exact k2
    · exact k1
  · split
    rename_i c2 s2 h2
    have k2 : Keeps s s2 := by
      refine keeps_snd h2 (keeps_foldl2 _ (fun x u => ?_) _ _ k1)
      split
      · exact Keeps.refl _
      extract_lets t mask nd psn
      split
      · exact Keeps.refl _
      · simp
    split
    · exact k2.trans (kf _ _)
    · exact k2

@[simp] theorem keeps_pipeRefuse (x0) (x1) {s t : State} (h : Keeps s t) : Keeps s (@pipeRefuse x0 x1 t).2 := by
  unfold pipeRefuse
  (repeat' split) <;> simp (maxDischargeDepth := 60) [h]

@[simp] theorem keeps_dramServe (x0) (x1) {s t : State} (h : Keeps s t) : Keeps s (@dramServe x0 x1 t).2 := by
  unfold dramServe
  try dsimp only
  (repeat' (first | split | (refine keeps_forL _ _ (fun x u => ?_) ?_) | (refine keeps_forN _ _ (fun x u => ?_) ?_) | (refine keeps_foldl2 _ (fun x u => ?_) _ _ ?_) | (refine keeps_foldl22 _ (fun x u => ?_) _ _ ?_))) <;> (try simp only [Prod.ext_iff] at *) <;> (try casesm* _ ∧ _) <;> subst_vars <;> simp (maxDischargeDepth := 60) [h, -List.reduceReplicate]

@[simp] theorem keeps_pipeFlush (x0) {s t : State} (h : Keeps s t) : Keeps s (@pipeFlush x0 t) := by
  unfold pipeFlush
  try dsimp only
  (repeat' (first | split | (refine keeps_forL _ _ (fun x u => ?_) ?_) | (refine keeps_forN _ _ (fun x u => ?_) ?_) | (refine keeps_foldl2 _ (fun x u => ?_) _ _ ?_) | (refine keeps_foldl22 _ (fun x u => ?_) _ _ ?_))) <;> simp (maxDischargeDepth := 60) [h, -List.reduceReplicate]

@[simp] theorem keeps_rowsServe (p : Packet) (a : Nat) (err : Nat → Bool → State → State) (hg : ∀ j b u, Keeps u (err j b u)) {s t : State} (h : Keeps s t) : Keeps s (rowsServe p a err t).2 := by
  unfold rowsServe; (repeat' split) <;> simp (maxDischargeDepth := 60) [h, hg]

@[simp] theorem keeps_spadServe (x0) (x1) {s t : State} (h : Keeps s t) : Keeps s (@spadServe x0 x1 t).2 := by
  unfold spadServe
  simp (maxDischargeDepth := 60) [h]

@[simp] theorem keeps_scServe (n : Nat) (p : Packet) {s t : State} (h : Keeps s t) : Keeps s (scServe n p t).2 := by
  unfold scServe
  extract_lets off
  clear_value off
  split
  · exact h
  split
  · refine keeps_foldl2 _ (fun x u => ?_) _ _ h
    split
    rename_i d bad s1 h1
    have k1 : Keeps x.2 s1 := keeps_snd2 h1 (by simp)
    split
    rename_i f s2 h2
    exact keeps_snd h2 (by split <;> simp [k1])
  · simp [h]

@[simp] theorem keeps_bayServe (x0) (x1) {s t : State} (h : Keeps s t) : Keeps s (@bayServe x0 x1 t).2 := by
  unfold bayServe
  simp (maxDischargeDepth := 60) [h]

@[simp] theorem keeps_directServe (x0) {s t : State} (h : Keeps s t) : Keeps s (@directServe x0 t).2 := by
  unfold directServe
  (repeat' split) <;> simp (maxDischargeDepth := 60) [h]

@[simp] theorem keeps_engRead (init addr n : Nat) {s t : State} (h : Keeps s t) : Keeps s (engRead init addr n t).2.2.2 := by
  unfold engRead
  refine keeps_foldl (fun b : Nat × Nat × List Byte × State => b.2.2.2) _ (fun b x => ?_) _ _ h
  split
  · exact Keeps.refl _
  · split
    rename_i v s1 h1
    have k1 : Keeps b.2.2.2 s1 := keeps_snd h1 (keeps_directServe _ (Keeps.refl _))
    split
    · exact k1
    · split
      · exact k1
      · exact k1

@[simp] theorem keeps_engWrite (x0) (x1) (x2) {s t : State} (h : Keeps s t) : Keeps s (@engWrite x0 x1 x2 t).2 := by
  unfold engWrite
  simp (maxDischargeDepth := 60) [h]

@[simp] theorem keeps_engScramble (x0) (x1) (x2) {s t : State} (h : Keeps s t) : Keeps s (@engScramble x0 x1 x2 t) := by
  unfold engScramble
  simp (maxDischargeDepth := 60) [h]

@[simp] theorem keeps_poisonClear (x0) {s t : State} (h : Keeps s t) : Keeps s (@poisonClear x0 t) := by
  unfold poisonClear
  simp (maxDischargeDepth := 60) [h]

@[simp] theorem keeps_execBayPoisonClear (x0) {s t : State} (h : Keeps s t) : ResKeeps s (@execBayPoisonClear x0 t) := by
  unfold execBayPoisonClear
  simp (maxDischargeDepth := 60) [h]

@[simp] theorem keeps_bayReset (x0) {s t : State} (h : Keeps s t) : Keeps s (@bayReset x0 t) := by
  unfold bayReset
  simp (maxDischargeDepth := 60) [h]

@[simp] theorem keeps_bayStage (x0) (x1) (x2) {s t : State} (h : Keeps s t) : Keeps s (@bayStage x0 x1 x2 t) := by
  unfold bayStage
  (repeat' split) <;> simp (maxDischargeDepth := 60) [h]

@[simp] theorem keeps_bayHoldAll (x0) {s t : State} (h : Keeps s t) : Keeps s (@bayHoldAll x0 t) := by
  unfold bayHoldAll
  simp (maxDischargeDepth := 60) [h]

@[simp] theorem keeps_holdStart (x0) {s t : State} (h : Keeps s t) : Keeps s (@holdStart x0 t) := by
  unfold holdStart
  simp (maxDischargeDepth := 60) [h]

@[simp] theorem keeps_bayAnswer (x0) (x1) (x2) (x3) (x4) {s t : State} (h : Keeps s t) : Keeps s (@bayAnswer x0 x1 x2 x3 x4 t) := by
  unfold bayAnswer
  simp (maxDischargeDepth := 60) [h]

@[simp] theorem keeps_bayRequest (x0) (x1) (x2) (x3) (x4) (x5) (x6) (x7) (x8) (x9) (x10) {s t : State} (h : Keeps s t) : Keeps s (@bayRequest x0 x1 x2 x3 x4 x5 x6 x7 x8 x9 x10 t) := by
  unfold bayRequest
  (repeat' split) <;> simp (maxDischargeDepth := 60) [h]

@[simp] theorem keeps_execBayPortRequest (x0) (x1) (x2) (x3) (x4) (x5) (x6) (x7) (x8) (x9) (x10) {s t : State} (h : Keeps s t) : ResKeeps s (@execBayPortRequest x0 x1 x2 x3 x4 x5 x6 x7 x8 x9 x10 t) := by
  unfold execBayPortRequest
  simp (maxDischargeDepth := 60) [h]

@[simp] theorem keeps_bayPoison (x0) (x1) {s t : State} (h : Keeps s t) : Keeps s (@bayPoison x0 x1 t) := by
  unfold bayPoison
  simp (maxDischargeDepth := 60) [h]

@[simp] theorem keeps_execBayPortResponseDeliver (x0) {s t : State} (h : Keeps s t) : ResKeeps s (@execBayPortResponseDeliver x0 t) := by
  unfold execBayPortResponseDeliver
  (repeat' split) <;> simp (maxDischargeDepth := 60) [h]

@[simp] theorem keeps_execBayTargetRequest (x0) (x1) {s t : State} (h : Keeps s t) : ResKeeps s (@execBayTargetRequest x0 x1 t) := by
  unfold execBayTargetRequest
  (repeat' split) <;> simp (maxDischargeDepth := 60) [h]

@[simp] theorem keeps_State_updWp (x1) (x2) {s t : State} (h : Keeps s t) : Keeps s (@State.updWp t x1 x2) := by
  unfold State.updWp
  simp (maxDischargeDepth := 60) [h]

@[simp] theorem keeps_warpEvt (x0) (x1) {s t : State} (h : Keeps s t) : Keeps s (@warpEvt x0 x1 t) := by
  unfold warpEvt
  simp (maxDischargeDepth := 60) [h]

@[simp] theorem keeps_queueDisc (x0) (x1) {s t : State} (h : Keeps s t) : Keeps s (@queueDisc x0 x1 t) := by
  unfold queueDisc
  simp (maxDischargeDepth := 60) [h]

@[simp] theorem keeps_newRecord {s t : State} (h : Keeps s t) : Keeps s (@newRecord t) := by
  unfold newRecord
  simp (maxDischargeDepth := 60) [h]

@[simp] theorem keeps_clearLink (x0) {s t : State} (h : Keeps s t) : Keeps s (@clearLink x0 t) := by
  unfold clearLink
  simp (maxDischargeDepth := 60) [h]

@[simp] theorem keeps_warpDown (x0) (x1) {s t : State} (h : Keeps s t) : Keeps s (@warpDown x0 x1 t) := by
  unfold warpDown
  simp (maxDischargeDepth := 60) [h]

@[simp] theorem keeps_warpReject (x0) (x1) {s t : State} (h : Keeps s t) : Keeps s (@warpReject x0 x1 t) := by
  unfold warpReject
  simp (maxDischargeDepth := 60) [h]

@[simp] theorem keeps_sendHello (x0) {s t : State} (h : Keeps s t) : Keeps s (@sendHello x0 t) := by
  unfold sendHello
  simp (maxDischargeDepth := 60) [h]

@[simp] theorem keeps_warpHello (x0) {s t : State} (h : Keeps s t) : Keeps s (@warpHello x0 t) := by
  unfold warpHello
  simp (maxDischargeDepth := 60) [h]

@[simp] theorem keeps_warpUp (x0) {s t : State} (h : Keeps s t) : Keeps s (@warpUp x0 t) := by
  unfold warpUp
  simp (maxDischargeDepth := 60) [h]

@[simp] theorem keeps_State_updLane (x1) (x2) {s t : State} (h : Keeps s t) : Keeps s (@State.updLane t x1 x2) := by
  unfold State.updLane
  simp (maxDischargeDepth := 60) [h]

@[simp] theorem keeps_setLaneSt (x0) (x1) {s t : State} (h : Keeps s t) : Keeps s (@setLaneSt x0 x1 t) := by
  unfold setLaneSt
  simp (maxDischargeDepth := 60) [h]

@[simp] theorem keeps_laneEvt (x0) (x1) {s t : State} (h : Keeps s t) : Keeps s (@laneEvt x0 x1 t) := by
  unfold laneEvt
  simp (maxDischargeDepth := 60) [h]

@[simp] theorem keeps_openBurst (x0) {s t : State} (h : Keeps s t) : Keeps s (@openBurst x0 t) := by
  unfold openBurst
  simp (maxDischargeDepth := 60) [h]

@[simp] theorem keeps_closeBurst (x0) (x1) {s t : State} (h : Keeps s t) : Keeps s (@closeBurst x0 x1 t) := by
  unfold closeBurst
  simp (maxDischargeDepth := 60) [h]

@[simp] theorem keeps_enterActive (x0) {s t : State} (h : Keeps s t) : Keeps s (@enterActive x0 t) := by
  unfold enterActive
  simp (maxDischargeDepth := 60) [h]

@[simp] theorem keeps_clearTrain (x0) {s t : State} (h : Keeps s t) : Keeps s (@clearTrain x0 t) := by
  unfold clearTrain
  simp (maxDischargeDepth := 60) [h]

@[simp] theorem keeps_laneRestart (x0) (x1) {s t : State} (h : Keeps s t) : Keeps s (@laneRestart x0 x1 t) := by
  unfold laneRestart
  simp (maxDischargeDepth := 60) [h]

@[simp] theorem keeps_quadRestart (x0) {s t : State} (h : Keeps s t) : Keeps s (@quadRestart x0 t) := by
  unfold quadRestart
  simp (maxDischargeDepth := 60) [h]

@[simp] theorem keeps_laneFail (x0) {s t : State} (h : Keeps s t) : Keeps s (@laneFail x0 t) := by
  unfold laneFail
  (repeat' split) <;> simp (maxDischargeDepth := 60) [h]

@[simp] theorem keeps_quadSelect (x0) {s t : State} (h : Keeps s t) : Keeps s (@quadSelect x0 t) := by
  unfold quadSelect
  simp (maxDischargeDepth := 60) [h]

@[simp] theorem keeps_quadTrained (x0) {s t : State} (h : Keeps s t) : Keeps s (@quadTrained x0 t) := by
  unfold quadTrained
  simp (maxDischargeDepth := 60) [h]

@[simp] theorem keeps_warpLanesUp (x0) {s t : State} (h : Keeps s t) : Keeps s (@warpLanesUp x0 t) := by
  unfold warpLanesUp
  (repeat' split) <;> simp (maxDischargeDepth := 60) [h]

@[simp] theorem keeps_laneAligned (x0) {s t : State} (h : Keeps s t) : Keeps s (@laneAligned x0 t) := by
  unfold laneAligned
  simp (maxDischargeDepth := 60) [h]

@[simp] theorem keeps_execLaneBringupStepDone (x0) (x1) {s t : State} (h : Keeps s t) : ResKeeps s (@execLaneBringupStepDone x0 x1 t) := by
  unfold execLaneBringupStepDone
  (repeat' split) <;> simp (maxDischargeDepth := 60) [h]

@[simp] theorem keeps_quadRetrain (x0) {s t : State} (h : Keeps s t) : Keeps s (@quadRetrain x0 t) := by
  unfold quadRetrain
  simp (maxDischargeDepth := 60) [h]

@[simp] theorem keeps_execLaneStepTimeout (x0) {s t : State} (h : Keeps s t) : ResKeeps s (@execLaneStepTimeout x0 t) := by
  unfold execLaneStepTimeout
  (repeat' split) <;> simp (maxDischargeDepth := 60) [h]

@[simp] theorem keeps_execQuadTrainTimeout (x0) {s t : State} (h : Keeps s t) : ResKeeps s (@execQuadTrainTimeout x0 t) := by
  unfold execQuadTrainTimeout
  simp (maxDischargeDepth := 60) [h]

@[simp] theorem keeps_execQuadPllRetry (x0) {s t : State} (h : Keeps s t) : ResKeeps s (@execQuadPllRetry x0 t) := by
  unfold execQuadPllRetry
  simp (maxDischargeDepth := 60) [h]

@[simp] theorem keeps_trainCheck (x0) {s t : State} (h : Keeps s t) : Keeps s (@trainCheck x0 t) := by
  unfold trainCheck
  simp (maxDischargeDepth := 60) [h]

@[simp] theorem keeps_execTrainingWord (x0) (x1) {s t : State} (h : Keeps s t) : ResKeeps s (@execTrainingWord x0 x1 t) := by
  unfold execTrainingWord
  simp (maxDischargeDepth := 60) [h]

@[simp] theorem keeps_losExpire (x0) {s t : State} (h : Keeps s t) : Keeps s (@losExpire x0 t) := by
  unfold losExpire
  simp (maxDischargeDepth := 60) [h]

@[simp] theorem keeps_enterGap (x0) {s t : State} (h : Keeps s t) : Keeps s (@enterGap x0 t) := by
  unfold enterGap
  simp (maxDischargeDepth := 60) [h]

@[simp] theorem keeps_laneLos (x0) {s t : State} (h : Keeps s t) : Keeps s (@laneLos x0 t) := by
  unfold laneLos
  (repeat' split) <;> simp (maxDischargeDepth := 60) [h]

@[simp] theorem keeps_execLaneLossOfInput (x0) {s t : State} (h : Keeps s t) : ResKeeps s (@execLaneLossOfInput x0 t) := by
  unfold execLaneLossOfInput
  simp (maxDischargeDepth := 60) [h]

@[simp] theorem keeps_execLosTimeout (x0) {s t : State} (h : Keeps s t) : ResKeeps s (@execLosTimeout x0 t) := by
  unfold execLosTimeout
  simp (maxDischargeDepth := 60) [h]

@[simp] theorem keeps_execLaneSignalDetect (x0) {s t : State} (h : Keeps s t) : ResKeeps s (@execLaneSignalDetect x0 t) := by
  unfold execLaneSignalDetect
  (repeat' split) <;> simp (maxDischargeDepth := 60) [h]

@[simp] theorem keeps_laneOff (x0) {s t : State} (h : Keeps s t) : Keeps s (@laneOff x0 t) := by
  unfold laneOff
  simp (maxDischargeDepth := 60) [h]

@[simp] theorem keeps_laneEnable (x0) {s t : State} (h : Keeps s t) : Keeps s (@laneEnable x0 t) := by
  unfold laneEnable
  simp (maxDischargeDepth := 60) [h]

@[simp] theorem keeps_laneReacq (x0) {s t : State} (h : Keeps s t) : Keeps s (@laneReacq x0 t) := by
  unfold laneReacq
  simp (maxDischargeDepth := 60) [h]

@[simp] theorem keeps_laneCtlWrite (x0) (x1) {s t : State} (h : Keeps s t) : Keeps s (@laneCtlWrite x0 x1 t) := by
  unfold laneCtlWrite
  simp (maxDischargeDepth := 60) [h]

@[simp] theorem keeps_execLaneEnable (x0) (x1) {s t : State} (h : Keeps s t) : ResKeeps s (@execLaneEnable x0 x1 t) := by
  unfold execLaneEnable
  simp (maxDischargeDepth := 60) [h]

@[simp] theorem keeps_execLaneDisable (x0) (x1) {s t : State} (h : Keeps s t) : ResKeeps s (@execLaneDisable x0 x1 t) := by
  unfold execLaneDisable
  simp (maxDischargeDepth := 60) [h]

@[simp] theorem keeps_execLaneReacq (x0) (x1) {s t : State} (h : Keeps s t) : ResKeeps s (@execLaneReacq x0 x1 t) := by
  unfold execLaneReacq
  simp (maxDischargeDepth := 60) [h]

@[simp] theorem keeps_quadOwnerWrite (x0) (x1) {s t : State} (h : Keeps s t) : Keeps s (@quadOwnerWrite x0 x1 t) := by
  unfold quadOwnerWrite
  simp (maxDischargeDepth := 60) [h]

@[simp] theorem keeps_execQuadOwnerWrite (x0) (x1) {s t : State} (h : Keeps s t) : ResKeeps s (@execQuadOwnerWrite x0 x1 t) := by
  unfold execQuadOwnerWrite
  simp (maxDischargeDepth := 60) [h]

@[simp] theorem keeps_laneApply (x0) {s t : State} (h : Keeps s t) : Keeps s (@laneApply x0 t) := by
  unfold laneApply
  (repeat' split) <;> simp (maxDischargeDepth := 60) [h]

@[simp] theorem keeps_rxDrop (x0) {s t : State} (h : Keeps s t) : Keeps s (@rxDrop x0 t) := by
  unfold rxDrop
  simp (maxDischargeDepth := 60) [h]

@[simp] theorem keeps_segClose (x0) {s t : State} (h : Keeps s t) : Keeps s (@segClose x0 t) := by
  unfold segClose
  simp (maxDischargeDepth := 60) [h]

@[simp] theorem keeps_streamWord (x0) (x1) (x2) {s t : State} (h : Keeps s t) : Keeps s (@streamWord x0 x1 x2 t) := by
  unfold streamWord
  try dsimp only
  (repeat' (first | split | (refine keeps_forL _ _ (fun x u => ?_) ?_) | (refine keeps_forN _ _ (fun x u => ?_) ?_) | (refine keeps_foldl2 _ (fun x u => ?_) _ _ ?_) | (refine keeps_foldl22 _ (fun x u => ?_) _ _ ?_))) <;> simp (maxDischargeDepth := 60) [h, -List.reduceReplicate]

@[simp] theorem keeps_streamArrived (x0) (x1) (x2) {s t : State} (h : Keeps s t) : Keeps s (@streamArrived x0 x1 x2 t) := by
  unfold streamArrived
  simp (maxDischargeDepth := 60) [h]

@[simp] theorem keeps_execStreamSegmentClose (x0) {s t : State} (h : Keeps s t) : ResKeeps s (@execStreamSegmentClose x0 t) := by
  unfold execStreamSegmentClose
  simp (maxDischargeDepth := 60) [h]

@[simp] theorem keeps_execStreamHeaderWrite (x0) {s t : State} (h : Keeps s t) : ResKeeps s (@execStreamHeaderWrite x0 t) := by
  unfold execStreamHeaderWrite
  (repeat' split) <;> simp (maxDischargeDepth := 60) [h]

@[simp] theorem keeps_execStreamWpAdvance (x0) {s t : State} (h : Keeps s t) : ResKeeps s (@execStreamWpAdvance x0 t) := by
  unfold execStreamWpAdvance
  (repeat' split) <;> simp (maxDischargeDepth := 60) [h]

@[simp] theorem keeps_prbsBit (x0) (x1) {s t : State} (h : Keeps s t) : Keeps s (@prbsBit x0 x1 t) := by
  unfold prbsBit
  simp (maxDischargeDepth := 60) [h]

@[simp] theorem keeps_prbsCheck (x0) (x1) {s t : State} (h : Keeps s t) : Keeps s (@prbsCheck x0 x1 t) := by
  unfold prbsCheck
  simp (maxDischargeDepth := 60) [h]

@[simp] theorem keeps_markerTrack (x0) (x1) {s t : State} (h : Keeps s t) : Keeps s (@markerTrack x0 x1 t).2 := by
  unfold markerTrack
  simp (maxDischargeDepth := 60) [h]

@[simp] theorem keeps_laneReceive (x0) (x1) (x2) (x3) {s t : State} (h : Keeps s t) : Keeps s (@laneReceive x0 x1 x2 x3 t) := by
  unfold laneReceive
  simp (maxDischargeDepth := 60) [h]

@[simp] theorem keeps_attachPresent (x0) {s t : State} (h : Keeps s t) : Keeps s (@attachPresent x0 t) := by
  unfold attachPresent
  (repeat' split) <;> simp (maxDischargeDepth := 60) [h]

@[simp] theorem keeps_attachEdge (x0) (x1) {s t : State} (h : Keeps s t) : Keeps s (@attachEdge x0 x1 t) := by
  unfold attachEdge
  simp (maxDischargeDepth := 60) [h]

@[simp] theorem keeps_execLaneRxWord (x0) (x1) (x2) (x3) (x4) (x5) (x6) {s t : State} (h : Keeps s t) : ResKeeps s (@execLaneRxWord x0 x1 x2 x3 x4 x5 x6 t) := by
  unfold execLaneRxWord
  simp (maxDischargeDepth := 60) [h]

@[simp] theorem keeps_prbsWord (x0) {s t : State} (h : Keeps s t) : Keeps s (@prbsWord x0 t).2 := by
  unfold prbsWord
  simp (maxDischargeDepth := 60) [h]

@[simp] theorem keeps_txUnder (x0) {s t : State} (h : Keeps s t) : Keeps s (@txUnder x0 t) := by
  unfold txUnder
  simp (maxDischargeDepth := 60) [h]

@[simp] theorem keeps_txsNext (x0) {s t : State} (h : Keeps s t) : Keeps s (@txsNext x0 t).2 := by
  unfold txsNext
  try dsimp only
  (repeat' (first | split | (refine keeps_forL _ _ (fun x u => ?_) ?_) | (refine keeps_forN _ _ (fun x u => ?_) ?_) | (refine keeps_foldl2 _ (fun x u => ?_) _ _ ?_) | (refine keeps_foldl22 _ (fun x u => ?_) _ _ ?_))) <;> simp (maxDischargeDepth := 60) [h, -List.reduceReplicate]

@[simp] theorem keeps_txWord (x0) {s t : State} (h : Keeps s t) : Keeps s (@txWord x0 t).2.2 := by
  unfold txWord
  try dsimp only
  (repeat' (first | split | (refine keeps_forL _ _ (fun x u => ?_) ?_) | (refine keeps_forN _ _ (fun x u => ?_) ?_) | (refine keeps_foldl2 _ (fun x u => ?_) _ _ ?_) | (refine keeps_foldl22 _ (fun x u => ?_) _ _ ?_))) <;> simp (maxDischargeDepth := 60) [h, -List.reduceReplicate]

@[simp] theorem keeps_trainTx (x0) {s t : State} (h : Keeps s t) : Keeps s (@trainTx x0 t) := by
  unfold trainTx
  simp (maxDischargeDepth := 60) [h]

@[simp] theorem keeps_warpTx (x0) {s t : State} (h : Keeps s t) : Keeps s (@warpTx x0 t) := by
  unfold warpTx
  (repeat' split) <;> simp (maxDischargeDepth := 60) [h]

@[simp] theorem keeps_execLaneTxWord (x0) (x1) {s t : State} (h : Keeps s t) : ResKeeps s (@execLaneTxWord x0 x1 t) := by
  unfold execLaneTxWord
  dsimp only
  (repeat' split) <;> simp (maxDischargeDepth := 60) [h]

@[simp] theorem keeps_execTxsRead (x0) {s t : State} (h : Keeps s t) : ResKeeps s (@execTxsRead x0 t) := by
  unfold execTxsRead
  simp (maxDischargeDepth := 60) [h]

@[simp] theorem keeps_txsArrived (x0) (x1) (x2) (x3) (x4) {s t : State} (h : Keeps s t) : Keeps s (@txsArrived x0 x1 x2 x3 x4 t) := by
  unfold txsArrived
  simp (maxDischargeDepth := 60) [h]

@[simp] theorem keeps_execLd (x0) (x1) (x2) (x3) {s t : State} (h : Keeps s t) : ResKeeps s (@execLd x0 x1 x2 x3 t) := by
  unfold execLd
  simp (maxDischargeDepth := 60) [h]

@[simp] theorem keeps_execLw (x0) (x1) (x2) (x3) {s t : State} (h : Keeps s t) : ResKeeps s (@execLw x0 x1 x2 x3 t) := by
  unfold execLw
  simp (maxDischargeDepth := 60) [h]

@[simp] theorem keeps_execLwu (x0) (x1) (x2) (x3) {s t : State} (h : Keeps s t) : ResKeeps s (@execLwu x0 x1 x2 x3 t) := by
  unfold execLwu
  simp (maxDischargeDepth := 60) [h]

@[simp] theorem keeps_execLh (x0) (x1) (x2) (x3) {s t : State} (h : Keeps s t) : ResKeeps s (@execLh x0 x1 x2 x3 t) := by
  unfold execLh
  simp (maxDischargeDepth := 60) [h]

@[simp] theorem keeps_execLhu (x0) (x1) (x2) (x3) {s t : State} (h : Keeps s t) : ResKeeps s (@execLhu x0 x1 x2 x3 t) := by
  unfold execLhu
  simp (maxDischargeDepth := 60) [h]

@[simp] theorem keeps_execLb (x0) (x1) (x2) (x3) {s t : State} (h : Keeps s t) : ResKeeps s (@execLb x0 x1 x2 x3 t) := by
  unfold execLb
  simp (maxDischargeDepth := 60) [h]

@[simp] theorem keeps_execLbu (x0) (x1) (x2) (x3) {s t : State} (h : Keeps s t) : ResKeeps s (@execLbu x0 x1 x2 x3 t) := by
  unfold execLbu
  simp (maxDischargeDepth := 60) [h]

@[simp] theorem keeps_execSd (x0) (x1) (x2) (x3) {s t : State} (h : Keeps s t) : ResKeeps s (@execSd x0 x1 x2 x3 t) := by
  unfold execSd
  simp (maxDischargeDepth := 60) [h]

@[simp] theorem keeps_execSw (x0) (x1) (x2) (x3) {s t : State} (h : Keeps s t) : ResKeeps s (@execSw x0 x1 x2 x3 t) := by
  unfold execSw
  simp (maxDischargeDepth := 60) [h]

@[simp] theorem keeps_execSh (x0) (x1) (x2) (x3) {s t : State} (h : Keeps s t) : ResKeeps s (@execSh x0 x1 x2 x3 t) := by
  unfold execSh
  simp (maxDischargeDepth := 60) [h]

@[simp] theorem keeps_execSb (x0) (x1) (x2) (x3) {s t : State} (h : Keeps s t) : ResKeeps s (@execSb x0 x1 x2 x3 t) := by
  unfold execSb
  simp (maxDischargeDepth := 60) [h]

@[simp] theorem keeps_execSwap (x0) (x1) (x2) (x3) (x4) {s t : State} (h : Keeps s t) : ResKeeps s (@execSwap x0 x1 x2 x3 x4 t) := by
  unfold execSwap
  simp (maxDischargeDepth := 60) [h]

@[simp] theorem keeps_execFadd (x0) (x1) (x2) (x3) (x4) {s t : State} (h : Keeps s t) : ResKeeps s (@execFadd x0 x1 x2 x3 x4 t) := by
  unfold execFadd
  simp (maxDischargeDepth := 60) [h]

@[simp] theorem keeps_execCas (x0) (x1) (x2) (x3) (x4) {s t : State} (h : Keeps s t) : ResKeeps s (@execCas x0 x1 x2 x3 x4 t) := by
  unfold execCas
  simp (maxDischargeDepth := 60) [h]

@[simp] theorem keeps_vcacheWb (x0) (x1) (x2) {s t : State} (h : Keeps s t) : Keeps s (@vcacheWb x0 x1 x2 t) := by
  unfold vcacheWb
  simp (maxDischargeDepth := 60) [h]

@[simp] theorem keeps_vcacheInv (x0) (x1) {s t : State} (h : Keeps s t) : Keeps s (@vcacheInv x0 x1 t) := by
  unfold vcacheInv
  simp (maxDischargeDepth := 60) [h]

@[simp] theorem keeps_vicacheInv (x0) (x1) {s t : State} (h : Keeps s t) : Keeps s (@vicacheInv x0 x1 t) := by
  unfold vicacheInv
  (repeat' split) <;> simp (maxDischargeDepth := 60) [h]

@[simp] theorem keeps_execDcwb (x0) (x1) (x2) {s t : State} (h : Keeps s t) : ResKeeps s (@execDcwb x0 x1 x2 t) := by
  unfold execDcwb
  simp (maxDischargeDepth := 60) [h]

@[simp] theorem keeps_execDcinv (x0) (x1) (x2) {s t : State} (h : Keeps s t) : ResKeeps s (@execDcinv x0 x1 x2 t) := by
  unfold execDcinv
  simp (maxDischargeDepth := 60) [h]

@[simp] theorem keeps_execDcwbi (x0) (x1) (x2) {s t : State} (h : Keeps s t) : ResKeeps s (@execDcwbi x0 x1 x2 t) := by
  unfold execDcwbi
  simp (maxDischargeDepth := 60) [h]

@[simp] theorem keeps_execIcinv (x0) (x1) (x2) {s t : State} (h : Keeps s t) : ResKeeps s (@execIcinv x0 x1 x2 t) := by
  unfold execIcinv
  simp (maxDischargeDepth := 60) [h]

@[simp] theorem keeps_execDcwbAll (x0) (x1) {s t : State} (h : Keeps s t) : ResKeeps s (@execDcwbAll x0 x1 t) := by
  unfold execDcwbAll
  simp (maxDischargeDepth := 60) [h]

@[simp] theorem keeps_execDcinvAll (x0) (x1) {s t : State} (h : Keeps s t) : ResKeeps s (@execDcinvAll x0 x1 t) := by
  unfold execDcinvAll
  simp (maxDischargeDepth := 60) [h]

@[simp] theorem keeps_execDcwbiAll (x0) (x1) {s t : State} (h : Keeps s t) : ResKeeps s (@execDcwbiAll x0 x1 t) := by
  unfold execDcwbiAll
  simp (maxDischargeDepth := 60) [h]

@[simp] theorem keeps_execIcinvAll (x0) (x1) {s t : State} (h : Keeps s t) : ResKeeps s (@execIcinvAll x0 x1 t) := by
  unfold execIcinvAll
  simp (maxDischargeDepth := 60) [h]

@[simp] theorem keeps_vspillDone (x0) (x1) {s t : State} (h : Keeps s t) : Keeps s (@vspillDone x0 x1 t) := by
  unfold vspillDone
  simp (maxDischargeDepth := 60) [h]

@[simp] theorem keeps_vfillDone (x0) (x1) (x2) {s t : State} (h : Keeps s t) : Keeps s (@vfillDone x0 x1 x2 t) := by
  unfold vfillDone
  simp (maxDischargeDepth := 60) [h]

@[simp] theorem keeps_spillLocal (x0) (x1) (x2) {s t : State} (h : Keeps s t) : Keeps s (@spillLocal x0 x1 x2 t) := by
  unfold spillLocal
  try dsimp only
  (repeat' (first | split | (refine keeps_forL _ _ (fun x u => ?_) ?_) | (refine keeps_forN _ _ (fun x u => ?_) ?_) | (refine keeps_foldl2 _ (fun x u => ?_) _ _ ?_) | (refine keeps_foldl22 _ (fun x u => ?_) _ _ ?_))) <;> simp (maxDischargeDepth := 60) [h, -List.reduceReplicate]

@[simp] theorem keeps_vwindow (x0) (x1) (x2) {s t : State} (h : Keeps s t) : Keeps s (@vwindow x0 x1 x2 t) := by
  unfold vwindow
  (repeat' split) <;> simp (maxDischargeDepth := 60) [h]

@[simp] theorem keeps_vspillFill (c : Nat) (fill : Bool) (rs1 : Nat) {s t : State} (h : Keeps s t) : Keeps s (vspillFill c fill rs1 t) := by
  unfold vspillFill
  extract_lets acc d
  split
  · simp [h]
  · refine keeps_vsup _ _ (fun u => ?_) h
    dsimp only
    (repeat' split) <;> simp [-keeps_snd]

@[simp] theorem keeps_execSpill (x0) (x1) (x2) {s t : State} (h : Keeps s t) : ResKeeps s (@execSpill x0 x1 x2 t) := by
  unfold execSpill
  simp (maxDischargeDepth := 60) [h]

@[simp] theorem keeps_execFill (x0) (x1) (x2) {s t : State} (h : Keeps s t) : ResKeeps s (@execFill x0 x1 x2 t) := by
  unfold execFill
  simp (maxDischargeDepth := 60) [h]

@[simp] theorem keeps_execBcc (c cond : Nat) (disp : BitVec 22) {s t : State} (h : Keeps s t) : ResKeeps s (execBcc c cond disp t) := by
  unfold execBcc
  refine keeps_vop _ _ _ (fun u => ?_) h
  split <;> simp

@[simp] theorem keeps_execBz (x0) (x1) (x2) (x3) {s t : State} (h : Keeps s t) : ResKeeps s (@execBz x0 x1 x2 x3 t) := by
  unfold execBz
  simp (maxDischargeDepth := 60) [h]

@[simp] theorem keeps_execBnz (x0) (x1) (x2) (x3) {s t : State} (h : Keeps s t) : ResKeeps s (@execBnz x0 x1 x2 x3 t) := by
  unfold execBnz
  simp (maxDischargeDepth := 60) [h]

@[simp] theorem keeps_execCall (x0) (x1) {s t : State} (h : Keeps s t) : ResKeeps s (@execCall x0 x1 t) := by
  unfold execCall
  simp (maxDischargeDepth := 60) [h]

@[simp] theorem keeps_execJmp (x0) (x1) {s t : State} (h : Keeps s t) : ResKeeps s (@execJmp x0 x1 t) := by
  unfold execJmp
  simp (maxDischargeDepth := 60) [h]

@[simp] theorem keeps_execCallr (x0) (x1) (x2) {s t : State} (h : Keeps s t) : ResKeeps s (@execCallr x0 x1 x2 t) := by
  unfold execCallr
  simp (maxDischargeDepth := 60) [h]

@[simp] theorem keeps_execJr (x0) (x1) (x2) {s t : State} (h : Keeps s t) : ResKeeps s (@execJr x0 x1 x2 t) := by
  unfold execJr
  simp (maxDischargeDepth := 60) [h]

@[simp] theorem keeps_execEnter (x0) (x1) {s t : State} (h : Keeps s t) : ResKeeps s (@execEnter x0 x1 t) := by
  unfold execEnter
  simp (maxDischargeDepth := 60) [h]

@[simp] theorem keeps_execLeave (x0) (x1) {s t : State} (h : Keeps s t) : ResKeeps s (@execLeave x0 x1 t) := by
  unfold execLeave
  simp (maxDischargeDepth := 60) [h]

@[simp] theorem keeps_vsrRead (x1) (x2) (x3) (x4) {s t : State} (h : Keeps s t) : Keeps s (@vsrRead t x1 x2 x3 x4).2 := by
  unfold vsrRead
  simp (maxDischargeDepth := 60) [h]

@[simp] theorem keeps_vsrWriteField (x0) (x1) (x2) (x3) (x4) {s t : State} (h : Keeps s t) : Keeps s (@vsrWriteField x0 x1 x2 x3 x4 t) := by
  unfold vsrWriteField
  simp (maxDischargeDepth := 60) [h]

@[simp] theorem keeps_execMfsr (c rd : Nat) (sr : BitVec 12) (mbz : Nat) {s t : State} (h : Keeps s t) : ResKeeps s (execMfsr c rd sr mbz t) := by
  unfold execMfsr
  refine keeps_vop _ _ _ (fun u => ?_) h
  split
  · simp
  · split
    · simp
    · simp (maxDischargeDepth := 60)

@[simp] theorem keeps_execMtsr (c : Nat) (sr : BitVec 12) (rs1 mbz : Nat) {s t : State} (h : Keeps s t) : ResKeeps s (execMtsr c sr rs1 mbz t) := by
  unfold execMtsr
  refine keeps_vop _ _ _ (fun u => ?_) h
  split
  · simp
  · split <;> simp (maxDischargeDepth := 60)

@[simp] theorem keeps_venterWait (x0) {s t : State} (h : Keeps s t) : Keeps s (@venterWait x0 t) := by
  unfold venterWait
  simp (maxDischargeDepth := 60) [h]

@[simp] theorem keeps_vdrained (x0) {s t : State} (h : Keeps s t) : Keeps s (@vdrained x0 t) := by
  unfold vdrained
  (repeat' split) <;> simp (maxDischargeDepth := 60) [h]

@[simp] theorem keeps_vdrain (x0) (x1) {s t : State} (h : Keeps s t) : Keeps s (@vdrain x0 x1 t) := by
  unfold vdrain
  simp (maxDischargeDepth := 60) [h]

@[simp] theorem keeps_execFenceSl (x0) (x1) {s t : State} (h : Keeps s t) : ResKeeps s (@execFenceSl x0 x1 t) := by
  unfold execFenceSl
  simp (maxDischargeDepth := 60) [h]

@[simp] theorem keeps_execFence (x0) (x1) {s t : State} (h : Keeps s t) : ResKeeps s (@execFence x0 x1 t) := by
  unfold execFence
  simp (maxDischargeDepth := 60) [h]

@[simp] theorem keeps_execSyncI (x0) (x1) {s t : State} (h : Keeps s t) : ResKeeps s (@execSyncI x0 x1 t) := by
  unfold execSyncI
  simp (maxDischargeDepth := 60) [h]

@[simp] theorem keeps_execWait (x0) (x1) {s t : State} (h : Keeps s t) : ResKeeps s (@execWait x0 x1 t) := by
  unfold execWait
  simp (maxDischargeDepth := 60) [h]

@[simp] theorem keeps_vmonExit (x0) {s t : State} (h : Keeps s t) : Keeps s (@vmonExit x0 t) := by
  unfold vmonExit
  simp (maxDischargeDepth := 60) [h]

@[simp] theorem keeps_execEret (x0) (x1) {s t : State} (h : Keeps s t) : ResKeeps s (@execEret x0 x1 t) := by
  unfold execEret
  simp (maxDischargeDepth := 60) [h]

@[simp] theorem keeps_execTrap (x0) (x1) (x2) {s t : State} (h : Keeps s t) : ResKeeps s (@execTrap x0 x1 x2 t) := by
  unfold execTrap
  simp (maxDischargeDepth := 60) [h]

@[simp] theorem keeps_execCcTakeInterrupt (x0) {s t : State} (h : Keeps s t) : ResKeeps s (@execCcTakeInterrupt x0 t) := by
  unfold execCcTakeInterrupt
  simp (maxDischargeDepth := 60) [h]

@[simp] theorem keeps_execCcTakeSbus (x0) {s t : State} (h : Keeps s t) : ResKeeps s (@execCcTakeSbus x0 t) := by
  unfold execCcTakeSbus
  simp (maxDischargeDepth := 60) [h]

@[simp] theorem keeps_execCcTakeDebug (x0) {s t : State} (h : Keeps s t) : ResKeeps s (@execCcTakeDebug x0 t) := by
  unfold execCcTakeDebug
  simp (maxDischargeDepth := 60) [h]

@[simp] theorem keeps_execCcWake (x0) {s t : State} (h : Keeps s t) : ResKeeps s (@execCcWake x0 t) := by
  unfold execCcWake
  simp (maxDischargeDepth := 60) [h]

@[simp] theorem keeps_vstart (x0) {s t : State} (h : Keeps s t) : Keeps s (@vstart x0 t) := by
  unfold vstart
  simp (maxDischargeDepth := 60) [h]

@[simp] theorem keeps_vreset (x0) {s t : State} (h : Keeps s t) : Keeps s (@vreset x0 t) := by
  unfold vreset
  simp (maxDischargeDepth := 60) [h]

@[simp] theorem keeps_execCcStart (x0) {s t : State} (h : Keeps s t) : ResKeeps s (@execCcStart x0 t) := by
  unfold execCcStart
  simp (maxDischargeDepth := 60) [h]

@[simp] theorem keeps_updCmd (x0) (x1) {s t : State} (h : Keeps s t) : Keeps s (@updCmd x0 x1 t) := by
  unfold updCmd
  simp (maxDischargeDepth := 60) [h]

@[simp] theorem keeps_cmdEnd (x0) (x1) (x2) {s t : State} (h : Keeps s t) : Keeps s (@cmdEnd x0 x1 x2 t) := by
  unfold cmdEnd
  simp (maxDischargeDepth := 60) [h]

@[simp] theorem keeps_setZ (x0) (x1) {s t : State} (h : Keeps s t) : Keeps s (@setZ x0 x1 t) := by
  unfold setZ
  simp (maxDischargeDepth := 60) [h]

@[simp] theorem keeps_cmdAbort (x0) {s t : State} (h : Keeps s t) : Keeps s (@cmdAbort x0 t) := by
  unfold cmdAbort
  try dsimp only
  (repeat' (first | split | (refine keeps_forL _ _ (fun x u => ?_) ?_) | (refine keeps_forN _ _ (fun x u => ?_) ?_) | (refine keeps_foldl2 _ (fun x u => ?_) _ _ ?_) | (refine keeps_foldl22 _ (fun x u => ?_) _ _ ?_))) <;> simp (maxDischargeDepth := 60) [h, -List.reduceReplicate]

@[simp] theorem keeps_occAbort (x0) {s t : State} (h : Keeps s t) : Keeps s (@occAbort x0 t) := by
  unfold occAbort
  (repeat' split) <;> simp (maxDischargeDepth := 60) [h]

@[simp] theorem keeps_cmdYield (x0) {s t : State} (h : Keeps s t) : Keeps s (@cmdYield x0 t) := by
  unfold cmdYield
  simp (maxDischargeDepth := 60) [h]

@[simp] theorem keeps_cmdAccept (x0) (x1) (x2) {s t : State} (h : Keeps s t) : Keeps s (@cmdAccept x0 x1 x2 t).2 := by
  unfold cmdAccept
  (repeat' split) <;> simp (maxDischargeDepth := 60) [h]

@[simp] theorem keeps_loomOp (c mbz : Nat) (body : State → State) (hg : ∀ u, Keeps u (body u)) {s t : State} (h : Keeps s t) : ResKeeps s (loomOp c mbz body t) := by
  unfold loomOp; simp (maxDischargeDepth := 60) [h, hg]

theorem keeps_loomIssueThen (k : Nat → State → State) (c fn rd rs1 mbz : Nat) (hk : ∀ n u, Keeps u (k n u)) {s t : State}
    (h : Keeps s t) : ResKeeps s (loomIssueThen k c fn rd rs1 mbz t) := by
  unfold loomIssueThen
  refine keeps_loomOp _ _ _ (fun u => ?_) h
  extract_lets a
  split
  · split <;> simp
  · split
    rename_i d sp _ i s1 h1
    have k1 : Keeps u s1 := keeps_snd h1 (by simp)
    extract_lets s2
    have k2 : Keeps u s2 := by simp (maxDischargeDepth := 60) [s2, k1]
    clear_value s2
    split
    · exact k2
    · exact k2.trans (hk _ _)

@[simp] theorem keeps_loomIssue (c fn rd rs1 mbz : Nat) {s t : State} (h : Keeps s t) : ResKeeps s (loomIssue c fn rd rs1 mbz t) :=
  keeps_loomIssueThen _ _ _ _ _ _ (fun _ _ => Keeps.refl _) h

@[simp] theorem keeps_execLload (x0) (x1) (x2) (x3) {s t : State} (h : Keeps s t) : ResKeeps s (@execLload x0 x1 x2 x3 t) := by
  unfold execLload
  simp (maxDischargeDepth := 60) [h]

@[simp] theorem keeps_execLrel (x0) (x1) (x2) (x3) {s t : State} (h : Keeps s t) : ResKeeps s (@execLrel x0 x1 x2 x3 t) := by
  unfold execLrel
  simp (maxDischargeDepth := 60) [h]

@[simp] theorem keeps_execLhold (x0) (x1) (x2) (x3) {s t : State} (h : Keeps s t) : ResKeeps s (@execLhold x0 x1 x2 x3 t) := by
  unfold execLhold
  simp (maxDischargeDepth := 60) [h]

@[simp] theorem keeps_execLfree (x0) (x1) (x2) (x3) {s t : State} (h : Keeps s t) : ResKeeps s (@execLfree x0 x1 x2 x3 t) := by
  unfold execLfree
  simp (maxDischargeDepth := 60) [h]

@[simp] theorem keeps_execLplace (x0) (x1) (x2) (x3) {s t : State} (h : Keeps s t) : ResKeeps s (@execLplace x0 x1 x2 x3 t) := by
  unfold execLplace
  simp (maxDischargeDepth := 60) [h]

@[simp] theorem keeps_execLrest (x0) (x1) (x2) (x3) {s t : State} (h : Keeps s t) : ResKeeps s (@execLrest x0 x1 x2 x3 t) := by
  unfold execLrest
  simp (maxDischargeDepth := 60) [h]

@[simp] theorem keeps_execLmigr (x0) (x1) (x2) (x3) {s t : State} (h : Keeps s t) : ResKeeps s (@execLmigr x0 x1 x2 x3 t) := by
  unfold execLmigr
  simp (maxDischargeDepth := 60) [h]

@[simp] theorem keeps_execLread (x0) (x1) (x2) (x3) {s t : State} (h : Keeps s t) : ResKeeps s (@execLread x0 x1 x2 x3 t) := by
  unfold execLread
  simp (maxDischargeDepth := 60) [h]

@[simp] theorem keeps_execLscrubSetRate (x0) (x1) (x2) (x3) {s t : State} (h : Keeps s t) : ResKeeps s (@execLscrubSetRate x0 x1 x2 x3 t) := by
  unfold execLscrubSetRate
  simp (maxDischargeDepth := 60) [h]

@[simp] theorem keeps_execLscrubOnePass (x0) (x1) (x2) (x3) {s t : State} (h : Keeps s t) : ResKeeps s (@execLscrubOnePass x0 x1 x2 x3 t) := by
  unfold execLscrubOnePass
  simp (maxDischargeDepth := 60) [h]

@[simp] theorem keeps_execLscrubContOn (x0) (x1) (x2) (x3) {s t : State} (h : Keeps s t) : ResKeeps s (@execLscrubContOn x0 x1 x2 x3 t) := by
  unfold execLscrubContOn
  simp (maxDischargeDepth := 60) [h]

@[simp] theorem keeps_execLscrubContOff (x0) (x1) (x2) (x3) {s t : State} (h : Keeps s t) : ResKeeps s (@execLscrubContOff x0 x1 x2 x3 t) := by
  unfold execLscrubContOff
  simp (maxDischargeDepth := 60) [h]

@[simp] theorem keeps_execLkeyLoad (x0) (x1) (x2) (x3) {s t : State} (h : Keeps s t) : ResKeeps s (@execLkeyLoad x0 x1 x2 x3 t) := by
  unfold execLkeyLoad
  simp (maxDischargeDepth := 60) [h]

@[simp] theorem keeps_execLkeyErase (x0) (x1) (x2) (x3) {s t : State} (h : Keeps s t) : ResKeeps s (@execLkeyErase x0 x1 x2 x3 t) := by
  unfold execLkeyErase
  simp (maxDischargeDepth := 60) [h]

@[simp] theorem keeps_execLkeyWrap (x0) (x1) (x2) (x3) {s t : State} (h : Keeps s t) : ResKeeps s (@execLkeyWrap x0 x1 x2 x3 t) := by
  unfold execLkeyWrap
  simp (maxDischargeDepth := 60) [h]

@[simp] theorem keeps_slotFree (x0) {s t : State} (h : Keeps s t) : Keeps s (@slotFree x0 t) := by
  unfold slotFree
  simp (maxDischargeDepth := 60) [h]

@[simp] theorem keeps_tkCollect (x0) (x1) {s t : State} (h : Keeps s t) : Keeps s (@tkCollect x0 x1 t).2 := by
  unfold tkCollect
  (repeat' split) <;> simp (maxDischargeDepth := 60) [h]

@[simp] theorem keeps_tkReturn (x0) (x1) (x2) {s t : State} (h : Keeps s t) : Keeps s (@tkReturn x0 x1 x2 t) := by
  unfold tkReturn
  simp (maxDischargeDepth := 60) [h]

@[simp] theorem keeps_execLwait (c rd rs1 mbz : Nat) {s t : State} (h : Keeps s t) : ResKeeps s (execLwait c rd rs1 mbz t) := by
  unfold execLwait
  refine keeps_loomOp _ _ _ (fun u => ?_) h
  extract_lets a
  split
  all_goals
    rename_i h1
    have k1 := keeps_snd h1 (s := u) (by simp)
    simp [k1]

@[simp] theorem keeps_execLstat (c rd rs1 mbz : Nat) {s t : State} (h : Keeps s t) : ResKeeps s (execLstat c rd rs1 mbz t) := by
  unfold execLstat
  refine keeps_loomOp _ _ _ (fun u => ?_) h
  split
  all_goals
    rename_i h1
    have k1 := keeps_snd h1 (s := u) (by simp)
    simp [k1]

@[simp] theorem keeps_tkWake (x0) {s t : State} (h : Keeps s t) : Keeps s (@tkWake x0 t) := by
  unfold tkWake
  try dsimp only
  (repeat' (first | split | (refine keeps_forL _ _ (fun x u => ?_) ?_) | (refine keeps_forN _ _ (fun x u => ?_) ?_) | (refine keeps_foldl2 _ (fun x u => ?_) _ _ ?_) | (refine keeps_foldl22 _ (fun x u => ?_) _ _ ?_))) <;> (try simp only [Prod.ext_iff] at *) <;> (try casesm* _ ∧ _) <;> subst_vars <;> simp (maxDischargeDepth := 60) [h, -List.reduceReplicate]

@[simp] theorem keeps_cmdReport (x0) {s t : State} (h : Keeps s t) : Keeps s (@cmdReport x0 t) := by
  unfold cmdReport
  (repeat' split) <;> simp (maxDischargeDepth := 60) [h]

@[simp] theorem keeps_holdBegin (x0) {s t : State} (h : Keeps s t) : Keeps s (@holdBegin x0 t) := by
  unfold holdBegin
  simp (maxDischargeDepth := 60) [h]

@[simp] theorem keeps_loomCoreReset (x0) {s t : State} (h : Keeps s t) : Keeps s (@loomCoreReset x0 t) := by
  unfold loomCoreReset
  simp (maxDischargeDepth := 60) [h]

@[simp] theorem keeps_markBay (x0) (x1) (x2) {s t : State} (h : Keeps s t) : Keeps s (@markBay x0 x1 x2 t) := by
  unfold markBay
  simp (maxDischargeDepth := 60) [h]

@[simp] theorem keeps_updInst (x0) (x1) {s t : State} (h : Keeps s t) : Keeps s (@updInst x0 x1 t) := by
  unfold updInst
  simp (maxDischargeDepth := 60) [h]

@[simp] theorem keeps_instState (x0) (x1) {s t : State} (h : Keeps s t) : Keeps s (@instState x0 x1 t) := by
  unfold instState
  (repeat' split) <;> simp (maxDischargeDepth := 60) [h]

@[simp] theorem keeps_migHealth (x0) {s t : State} (h : Keeps s t) : Keeps s (@migHealth x0 t) := by
  unfold migHealth
  simp (maxDischargeDepth := 60) [h]

@[simp] theorem keeps_setHealth (x0) (x1) {s t : State} (h : Keeps s t) : Keeps s (@setHealth x0 x1 t) := by
  unfold setHealth
  simp (maxDischargeDepth := 60) [h]

@[simp] theorem keeps_retireBay (x0) (x1) {s t : State} (h : Keeps s t) : Keeps s (@retireBay x0 x1 t) := by
  unfold retireBay
  simp (maxDischargeDepth := 60) [h]

@[simp] theorem keeps_evictSuggest (x0) (x1) {s t : State} (h : Keeps s t) : Keeps s (@evictSuggest x0 x1 t) := by
  unfold evictSuggest
  try dsimp only
  (repeat' (first | split | (refine keeps_forL _ _ (fun x u => ?_) ?_) | (refine keeps_forN _ _ (fun x u => ?_) ?_) | (refine keeps_foldl2 _ (fun x u => ?_) _ _ ?_) | (refine keeps_foldl22 _ (fun x u => ?_) _ _ ?_))) <;> simp (maxDischargeDepth := 60) [h, -List.reduceReplicate]

@[simp] theorem keeps_originServe (x0) (x1) {s t : State} (h : Keeps s t) : Keeps s (@originServe x0 x1 t).2 := by
  unfold originServe
  (repeat' split) <;> simp (maxDischargeDepth := 60) [h]

@[simp] theorem keeps_poolCtlWrite (x0) (x1) {s t : State} (h : Keeps s t) : Keeps s (@poolCtlWrite x0 x1 t) := by
  unfold poolCtlWrite
  simp (maxDischargeDepth := 60) [h]

@[simp] theorem keeps_execPoolEnable (x0) (x1) {s t : State} (h : Keeps s t) : ResKeeps s (@execPoolEnable x0 x1 t) := by
  unfold execPoolEnable
  simp (maxDischargeDepth := 60) [h]

@[simp] theorem keeps_putSpool (x0) (x1) {s t : State} (h : Keeps s t) : Keeps s (@putSpool x0 x1 t) := by
  unfold putSpool
  simp (maxDischargeDepth := 60) [h]

@[simp] theorem keeps_poolTake (x0) (x1) {s t : State} (h : Keeps s t) : Keeps s (@poolTake x0 x1 t) := by
  unfold poolTake
  simp (maxDischargeDepth := 60) [h]

@[simp] theorem keeps_poolGive (x0) (x1) {s t : State} (h : Keeps s t) : Keeps s (@poolGive x0 x1 t) := by
  unfold poolGive
  simp (maxDischargeDepth := 60) [h]

@[simp] theorem keeps_xlPut (x0) (x1) (x2) (x3) (x4) {s t : State} (h : Keeps s t) : Keeps s (@xlPut x0 x1 x2 x3 x4 t) := by
  unfold xlPut
  (repeat' split) <;> simp (maxDischargeDepth := 60) [h]

@[simp] theorem keeps_xlClear (x0) {s t : State} (h : Keeps s t) : Keeps s (@xlClear x0 t) := by
  unfold xlClear
  simp (maxDischargeDepth := 60) [h]

@[simp] theorem keeps_moveIdle {s t : State} (h : Keeps s t) : Keeps s (@moveIdle t) := by
  unfold moveIdle
  simp (maxDischargeDepth := 60) [h]

@[simp] theorem keeps_moveCancel {s t : State} (h : Keeps s t) : Keeps s (@moveCancel t) := by
  unfold moveCancel
  (repeat' split) <;> simp (maxDischargeDepth := 60) [h]

@[simp] theorem keeps_spoolDrop (x0) {s t : State} (h : Keeps s t) : Keeps s (@spoolDrop x0 t) := by
  unfold spoolDrop
  (repeat' split) <;> simp (maxDischargeDepth := 60) [h]

@[simp] theorem keeps_instSpoolsDrop (x0) {s t : State} (h : Keeps s t) : Keeps s (@instSpoolsDrop x0 t) := by
  unfold instSpoolsDrop
  (repeat' split) <;> simp (maxDischargeDepth := 60) [h]

@[simp] theorem keeps_entryMap (x0) (x1) (x2) {s t : State} (h : Keeps s t) : Keeps s (@entryMap x0 x1 x2 t) := by
  unfold entryMap
  (repeat' split) <;> simp (maxDischargeDepth := 60) [h]

@[simp] theorem keeps_spoolMake (x0) (x1) {s t : State} (h : Keeps s t) : Keeps s (@spoolMake x0 x1 t).2 := by
  unfold spoolMake
  (repeat' split) <;> simp (maxDischargeDepth := 60) [h]

@[simp] theorem keeps_spoolZero (x0) {s t : State} (h : Keeps s t) : Keeps s (@spoolZero x0 t).2 := by
  unfold spoolZero
  (repeat' split) <;> simp (maxDischargeDepth := 60) [h]

@[simp] theorem keeps_moveGo {s t : State} (h : Keeps s t) : Keeps s (@moveGo t) := by
  unfold moveGo
  try dsimp only
  (repeat' (first | split | (refine keeps_forL _ _ (fun x u => ?_) ?_) | (refine keeps_forN _ _ (fun x u => ?_) ?_) | (refine keeps_foldl2 _ (fun x u => ?_) _ _ ?_) | (refine keeps_foldl22 _ (fun x u => ?_) _ _ ?_))) <;> simp (maxDischargeDepth := 60) [h, -List.reduceReplicate]

@[simp] theorem keeps_moveCommit {s t : State} (h : Keeps s t) : Keeps s (@moveCommit t) := by
  unfold moveCommit
  (repeat' split) <;> simp (maxDischargeDepth := 60) [h]

@[simp] theorem keeps_moveCommitWrite {s t : State} (h : Keeps s t) : Keeps s (@moveCommitWrite t) := by
  unfold moveCommitWrite
  simp (maxDischargeDepth := 60) [h]

@[simp] theorem keeps_execSpoolMoveGo (x0) (x1) {s t : State} (h : Keeps s t) : ResKeeps s (@execSpoolMoveGo x0 x1 t) := by
  unfold execSpoolMoveGo
  simp (maxDischargeDepth := 60) [h]

@[simp] theorem keeps_execSpoolMoveCommit (x0) {s t : State} (h : Keeps s t) : ResKeeps s (@execSpoolMoveCommit x0 t) := by
  unfold execSpoolMoveCommit
  simp (maxDischargeDepth := 60) [h]

@[simp] theorem keeps_execSpoolMoveCancel {s t : State} (h : Keeps s t) : ResKeeps s (@execSpoolMoveCancel t) := by
  unfold execSpoolMoveCancel
  simp (maxDischargeDepth := 60) [h]

@[simp] theorem keeps_fdiffClear (x0) (x1) {s t : State} (h : Keeps s t) : Keeps s (@fdiffClear x0 x1 t) := by
  unfold fdiffClear
  simp (maxDischargeDepth := 60) [h]

@[simp] theorem keeps_frameStore (x0) (x1) (x2) {s t : State} (h : Keeps s t) : Keeps s (@frameStore x0 x1 x2 t) := by
  unfold frameStore
  simp (maxDischargeDepth := 60) [h]

@[simp] theorem keeps_frameWrite (x0) (x1) (x2) {s t : State} (h : Keeps s t) : Keeps s (@frameWrite x0 x1 x2 t) := by
  unfold frameWrite
  simp (maxDischargeDepth := 60) [h]

@[simp] theorem keeps_mapWrite (x0) (x1) (x2) {s t : State} (h : Keeps s t) : Keeps s (@mapWrite x0 x1 x2 t) := by
  unfold mapWrite
  simp (maxDischargeDepth := 60) [h]

@[simp] theorem keeps_framesZero (x0) {s t : State} (h : Keeps s t) : Keeps s (@framesZero x0 t) := by
  unfold framesZero
  simp (maxDischargeDepth := 60) [h]

@[simp] theorem keeps_headerClear (x0) {s t : State} (h : Keeps s t) : Keeps s (@headerClear x0 t) := by
  unfold headerClear
  simp (maxDischargeDepth := 60) [h]

@[simp] theorem keeps_bayRegsClear (x0) {s t : State} (h : Keeps s t) : Keeps s (@bayRegsClear x0 t) := by
  unfold bayRegsClear
  simp (maxDischargeDepth := 60) [h]

@[simp] theorem keeps_bayUserClear (x0) {s t : State} (h : Keeps s t) : Keeps s (@bayUserClear x0 t) := by
  unfold bayUserClear
  simp (maxDischargeDepth := 60) [h]

@[simp] theorem keeps_bayClean (x0) {s t : State} (h : Keeps s t) : Keeps s (@bayClean x0 t) := by
  unfold bayClean
  simp (maxDischargeDepth := 60) [h]

@[simp] theorem keeps_bayLost (x0) {s t : State} (h : Keeps s t) : Keeps s (@bayLost x0 t) := by
  unfold bayLost
  simp (maxDischargeDepth := 60) [h]

@[simp] theorem keeps_sideSet (x0) (x1) (x2) {s t : State} (h : Keeps s t) : Keeps s (@sideSet x0 x1 x2 t) := by
  unfold sideSet
  simp (maxDischargeDepth := 60) [h]

@[simp] theorem keeps_boundarySet (x0) {s t : State} (h : Keeps s t) : Keeps s (@boundarySet x0 t) := by
  unfold boundarySet
  try dsimp only
  (repeat' (first | split | (refine keeps_forL _ _ (fun x u => ?_) ?_) | (refine keeps_forN _ _ (fun x u => ?_) ?_) | (refine keeps_foldl2 _ (fun x u => ?_) _ _ ?_) | (refine keeps_foldl22 _ (fun x u => ?_) _ _ ?_))) <;> simp (maxDischargeDepth := 60) [h, -List.reduceReplicate]

@[simp] theorem keeps_unlink (x0) {s t : State} (h : Keeps s t) : Keeps s (@unlink x0 t) := by
  unfold unlink
  try dsimp only
  (repeat' (first | split | (refine keeps_forL _ _ (fun x u => ?_) ?_) | (refine keeps_forN _ _ (fun x u => ?_) ?_) | (refine keeps_foldl2 _ (fun x u => ?_) _ _ ?_) | (refine keeps_foldl22 _ (fun x u => ?_) _ _ ?_))) <;> simp (maxDischargeDepth := 60) [h, -List.reduceReplicate]

@[simp] theorem keeps_bayTurnOn (x0) {s t : State} (h : Keeps s t) : Keeps s (@bayTurnOn x0 t) := by
  unfold bayTurnOn
  simp (maxDischargeDepth := 60) [h]

@[simp] theorem keeps_regionTake (x0) {s t : State} (h : Keeps s t) : Keeps s (@regionTake x0 t) := by
  unfold regionTake
  (repeat' split) <;> simp (maxDischargeDepth := 60) [h]

@[simp] theorem keeps_regionBind (x0) {s t : State} (h : Keeps s t) : Keeps s (@regionBind x0 t) := by
  unfold regionBind
  (repeat' split) <;> simp (maxDischargeDepth := 60) [h]

@[simp] theorem keeps_zselLoad (x0) (x1) {s t : State} (h : Keeps s t) : Keeps s (@zselLoad x0 x1 t) := by
  unfold zselLoad
  simp (maxDischargeDepth := 60) [h]

@[simp] theorem keeps_bayEdges (x0) {s t : State} (h : Keeps s t) : Keeps s (@bayEdges x0 t) := by
  unfold bayEdges
  simp (maxDischargeDepth := 60) [h]

@[simp] theorem keeps_bayFinish (x0) {s t : State} (h : Keeps s t) : Keeps s (@bayFinish x0 t) := by
  unfold bayFinish
  simp (maxDischargeDepth := 60) [h]

@[simp] theorem keeps_regionFinish (x0) {s t : State} (h : Keeps s t) : Keeps s (@regionFinish x0 t) := by
  unfold regionFinish
  (repeat' split) <;> simp (maxDischargeDepth := 60) [h]

@[simp] theorem keeps_regionErase (x0) {s t : State} (h : Keeps s t) : Keeps s (@regionErase x0 t) := by
  unfold regionErase
  (repeat' split) <;> simp (maxDischargeDepth := 60) [h]

@[simp] theorem keeps_bayUndef (x0) {s t : State} (h : Keeps s t) : Keeps s (@bayUndef x0 t) := by
  unfold bayUndef
  try dsimp only
  (repeat' (first | split | (refine keeps_forL _ _ (fun x u => ?_) ?_) | (refine keeps_forN _ _ (fun x u => ?_) ?_) | (refine keeps_foldl2 _ (fun x u => ?_) _ _ ?_) | (refine keeps_foldl22 _ (fun x u => ?_) _ _ ?_))) <;> simp (maxDischargeDepth := 60) [h, -List.reduceReplicate]

@[simp] theorem keeps_errReport (x0) (x1) (x2) (x3) {s t : State} (h : Keeps s t) : Keeps s (@errReport x0 x1 x2 x3 t) := by
  unfold errReport
  (repeat' split) <;> simp (maxDischargeDepth := 60) [h]

@[simp] theorem keeps_frameRead (x0) (x1) (x2) {s t : State} (h : Keeps s t) : Keeps s (@frameRead x0 x1 x2 t).2.2 := by
  unfold frameRead
  simp (maxDischargeDepth := 60) [h]

@[simp] theorem keeps_contentRead (x0) (x1) {s t : State} (h : Keeps s t) : Keeps s (@contentRead x0 x1 t).2 := by
  unfold contentRead
  simp (maxDischargeDepth := 60) [h]

@[simp] theorem keeps_ueAction (x0) {s t : State} (h : Keeps s t) : Keeps s (@ueAction x0 t) := by
  unfold ueAction
  (repeat' split) <;> simp (maxDischargeDepth := 60) [h]

@[simp] theorem keeps_errAct (x0) (x1) {s t : State} (h : Keeps s t) : Keeps s (@errAct x0 x1 t) := by
  unfold errAct
  simp (maxDischargeDepth := 60) [h]

@[simp] theorem keeps_frameRepair (x0) (x1) (x2) {s t : State} (h : Keeps s t) : Keeps s (@frameRepair x0 x1 x2 t) := by
  unfold frameRepair
  simp (maxDischargeDepth := 60) [h]

@[simp] theorem keeps_frameScrub (x0) (x1) {s t : State} (h : Keeps s t) : Keeps s (@frameScrub x0 x1 t) := by
  unfold frameScrub
  simp (maxDischargeDepth := 60) [h]

@[simp] theorem keeps_scrubShow (x0) (x1) {s t : State} (h : Keeps s t) : Keeps s (@scrubShow x0 x1 t) := by
  unfold scrubShow
  simp (maxDischargeDepth := 60) [h]

@[simp] theorem keeps_scrubCont {s t : State} (h : Keeps s t) : Keeps s (@scrubCont t) := by
  unfold scrubCont
  simp (maxDischargeDepth := 60) [h]

@[simp] theorem keeps_passEnd (x0) {s t : State} (h : Keeps s t) : Keeps s (@passEnd x0 t) := by
  unfold passEnd
  simp (maxDischargeDepth := 60) [h]

@[simp] theorem keeps_scrubPass (x0) {s t : State} (h : Keeps s t) : Keeps s (@scrubPass x0 t) := by
  unfold scrubPass
  (repeat' split) <;> simp (maxDischargeDepth := 60) [h]

@[simp] theorem keeps_execScrubFrame {s t : State} (h : Keeps s t) : ResKeeps s (@execScrubFrame t) := by
  unfold execScrubFrame
  (repeat' split) <;> simp (maxDischargeDepth := 60) [h]

@[simp] theorem keeps_scrubRun (x0) {s t : State} (h : Keeps s t) : Keeps s (@scrubRun x0 t) := by
  unfold scrubRun
  (repeat' split) <;> simp (maxDischargeDepth := 60) [h]

@[simp] theorem keeps_bayScrubWrite (x0) (x1) {s t : State} (h : Keeps s t) : Keeps s (@bayScrubWrite x0 x1 t) := by
  unfold bayScrubWrite
  simp (maxDischargeDepth := 60) [h]

@[simp] theorem keeps_execBayScrubWrite (x0) (x1) {s t : State} (h : Keeps s t) : ResKeeps s (@execBayScrubWrite x0 x1 t) := by
  unfold execBayScrubWrite
  simp (maxDischargeDepth := 60) [h]

@[simp] theorem keeps_gpioShow (x0) {s t : State} (h : Keeps s t) : Keeps s (@gpioShow x0 t) := by
  unfold gpioShow
  simp (maxDischargeDepth := 60) [h]

@[simp] theorem keeps_gpioShowAll {s t : State} (h : Keeps s t) : Keeps s (@gpioShowAll t) := by
  unfold gpioShowAll
  simp (maxDischargeDepth := 60) [h]

@[simp] theorem keeps_gpioSample (x0) {s t : State} (h : Keeps s t) : Keeps s (@gpioSample x0 t) := by
  unfold gpioSample
  simp (maxDischargeDepth := 60) [h]

@[simp] theorem keeps_updLoad (x0) {s t : State} (h : Keeps s t) : Keeps s (@updLoad x0 t) := by
  unfold updLoad
  simp (maxDischargeDepth := 60) [h]

@[simp] theorem keeps_loadOff {s t : State} (h : Keeps s t) : Keeps s (@loadOff t) := by
  unfold loadOff
  simp (maxDischargeDepth := 60) [h]

@[simp] theorem keeps_faultRecord (x0) (x1) {s t : State} (h : Keeps s t) : Keeps s (@faultRecord x0 x1 t) := by
  unfold faultRecord
  simp (maxDischargeDepth := 60) [h]

@[simp] theorem keeps_loadTake (n : Nat) {s t : State} (h : Keeps s t) : Keeps s (loadTake n t).2 := by
  unfold loadTake
  split
  · exact h
  · extract_lets a
    split
    rename_i s1 h1
    have k1 := keeps_snd3 h1 (keeps_engRead _ _ _ h)
    extract_lets s2 s3
    have k3 : Keeps s s3 := keeps_setFld _ _ _ _ (keeps_updLoad _ k1)
    clear_value s3
    split <;> exact k3

@[simp] theorem keeps_loadFaultA (x0) (x1) {s t : State} (h : Keeps s t) : Keeps s (@loadFaultA x0 x1 t) := by
  unfold loadFaultA
  (repeat' split) <;> simp (maxDischargeDepth := 60) [h]

@[simp] theorem keeps_loadFault (x0) (x1) {s t : State} (h : Keeps s t) : Keeps s (@loadFault x0 x1 t) := by
  unfold loadFault
  simp (maxDischargeDepth := 60) [h]

@[simp] theorem keeps_sectHeader (x0) (x1) {s t : State} (h : Keeps s t) : Keeps s (@sectHeader x0 x1 t).2 := by
  unfold sectHeader
  (repeat' split) <;> simp (maxDischargeDepth := 60) [h]

@[simp] theorem keeps_loadStart (c : LCmd) {s t : State} (h : Keeps s t) : Keeps s (loadStart c t) := by
  unfold loadStart
  split
  · exact h
  extract_lets s00 s0
  have k0 : Keeps s s0 := by simp [s0, s00, h]
  clear_value s0
  split
  · exact keeps_loadFaultA _ _ k0
  split
  · exact keeps_loadFaultA _ _ (keeps_snd ‹_› (keeps_loadTake _ k0))
  · rename_i s1 h1
    have k1 : Keeps s s1 := keeps_snd h1 (keeps_loadTake _ k0)
    extract_lets h f
    split
    · exact keeps_loadFaultA _ _ k1
    split
    · exact keeps_loadFaultA _ _ k1
    split
    · exact keeps_loadFaultA _ _ (keeps_snd ‹_› (keeps_loadTake _ k1))
    · rename_i s2 h2
      have k2 : Keeps s s2 := keeps_snd h2 (keeps_loadTake _ k1)
      extract_lets sh
      split
      rename_i ok s3 h3
      have k3 : Keeps s s3 := keeps_snd h3 (keeps_sectHeader _ _ k2)
      split
      · exact keeps_loadFaultA _ _ k3
      split
      · exact keeps_loadFaultA _ _ k3
      split
      · exact keeps_cmdEnd _ _ _ (keeps_loadOff k3)
      · exact k3

@[simp] theorem keeps_regionsCease (x0) {s t : State} (h : Keeps s t) : Keeps s (@regionsCease x0 t) := by
  unfold regionsCease
  simp (maxDischargeDepth := 60) [h]

@[simp] theorem keeps_loadMark (x0) (x1) (x2) {s t : State} (h : Keeps s t) : Keeps s (@loadMark x0 x1 x2 t) := by
  unfold loadMark
  simp (maxDischargeDepth := 60) [h]

@[simp] theorem keeps_loadOrigin (c : LCmd) {s t : State} (h : Keeps s t) : Keeps s (loadOrigin c t) := by
  unfold loadOrigin
  extract_lets hd pin
  split
  · simp [h]
  split
  · simp [h]
  · split
    · have := keeps_snd (s := s) ‹originServe _ _ _ = _› (by simp [h])
      simp [this]
    · have := keeps_snd (s := s) ‹originServe _ _ _ = _› (by simp [h])
      simp [this]

@[simp] theorem keeps_recordApply (k : Skein) (l : LoadSt) (r d : List Byte) {s t : State} (h : Keeps s t) : Keeps s (recordApply k l r d t) := by
  unfold recordApply
  extract_lets ty f n b
  split
  · exact keeps_updLoad _ (keeps_forN _ _ (fun x u => keeps_frameWrite _ _ _ (Keeps.refl u)) h)
  · exact keeps_forN _ _ (fun x u => keeps_mapWrite _ _ _ (Keeps.refl u)) h

@[simp] theorem keeps_loadRecord (l : LoadSt) (k : Skein) {s t : State} (h : Keeps s t) : Keeps s (loadRecord l k t) := by
  unfold loadRecord
  split
  · exact keeps_loadFault _ _ (keeps_snd ‹_› (keeps_loadTake _ h))
  · rename_i s1 h1
    have k1 : Keeps s s1 := keeps_snd h1 (keeps_loadTake _ h)
    extract_lets r
    split
    · exact keeps_loadFault _ _ k1
    split
    · exact h
    split
    · exact keeps_loadFault _ _ (keeps_snd ‹_› (keeps_loadTake _ k1))
    · rename_i s2 h2
      have k2 : Keeps s s2 := keeps_snd h2 (keeps_loadTake _ k1)
      extract_lets d s3
      have k3 : Keeps s s3 := keeps_recordApply _ _ _ _ k2
      split
      · exact keeps_updLoad _ k3
      · exact k3

@[simp] theorem keeps_loadTag (l : LoadSt) {s t : State} (h : Keeps s t) : Keeps s (loadTag l t) := by
  unfold loadTag
  split
  · exact keeps_loadFault _ _ (keeps_snd ‹_› (keeps_loadTake _ h))
  · have k1 := keeps_snd ‹loadTake _ _ = _› (keeps_loadTake 64 h)
    split
    · exact keeps_loadFault _ _ k1
    · exact keeps_updLoad _ k1

@[simp] theorem keeps_loadSection (l : LoadSt) {s t : State} (h : Keeps s t) : Keeps s (loadSection l t) := by
  unfold loadSection
  split
  · exact keeps_loadFault _ _ (keeps_snd ‹_› (keeps_loadTake _ h))
  · rename_i s1 h1
    have k1 : Keeps s s1 := keeps_snd h1 (keeps_loadTake _ h)
    extract_lets hh
    split
    rename_i ok s2 h2
    have k2 : Keeps s s2 := keeps_snd h2 (keeps_sectHeader _ _ k1)
    split
    · exact keeps_loadFault _ _ k2
    split
    · exact k2
    split
    · exact h
    split
    · exact keeps_loadFault _ _ (keeps_snd ‹_› (keeps_loadTake _ k2))
    · have k3 := keeps_snd ‹loadTake 128 s2 = _› (keeps_loadTake _ k2)
      split
      · exact keeps_loadFault _ _ k3
      split
      · exact keeps_loadFault _ _ (keeps_snd ‹_› (keeps_loadTake _ k3))
      · have k4 := keeps_snd ‹loadTake 128 _ = (none, _)› (keeps_loadTake _ k3)
        split
        · exact k4
        · exact keeps_loadFault _ _ k4

@[simp] theorem keeps_execImageRecord {s t : State} (h : Keeps s t) : ResKeeps s (execImageRecord t) := by
  unfold execImageRecord
  refine resKeeps_next.2 ?_
  (repeat' split) <;> simp [h]

@[simp] theorem keeps_execImageTrailer {s t : State} (h : Keeps s t) : ResKeeps s (execImageTrailer t) := by
  unfold execImageTrailer
  refine resKeeps_next.2 ?_
  split
  · exact h
  split
  · exact h
  split
  · exact keeps_loadFault _ _ h
  split
  · exact keeps_loadFault _ _ (keeps_snd ‹_› (keeps_loadTake _ h))
  · have k1 := keeps_snd ‹loadTake 64 _ = _› (keeps_loadTake _ h)
    extract_lets p
    split
    · exact keeps_loadFault _ _ k1
    · exact keeps_updLoad _ k1

@[simp] theorem keeps_loadFill (l : LoadSt) (k : Skein) {s t : State} (h : Keeps s t) : Keeps s (loadFill l k t) := by
  unfold loadFill
  extract_lets hit one s1
  have ho : ∀ b n u, Keeps u (one b n u) := by
    intro b n u
    refine keeps_forN _ _ (fun x v => ?_) (Keeps.refl u)
    split
    · exact Keeps.refl v
    · exact keeps_frameWrite _ _ _ (Keeps.refl v)
  clear_value one
  have k1 : Keeps s s1 := keeps_forL _ _ (fun x u => ho _ _ _) h
  clear_value s1
  split
  · exact k1.trans (ho _ _ _)
  · exact k1

@[simp] theorem keeps_loadFinish (x0) {s t : State} (h : Keeps s t) : Keeps s (@loadFinish x0 t) := by
  unfold loadFinish
  simp (maxDischargeDepth := 60) [h]

@[simp] theorem keeps_loadSpools (x0) (x1) {s t : State} (h : Keeps s t) : Keeps s (@loadSpools x0 x1 t) := by
  unfold loadSpools
  simp (maxDischargeDepth := 60) [h]

@[simp] theorem keeps_execImagePass {s t : State} (h : Keeps s t) : ResKeeps s (@execImagePass t) := by
  unfold execImagePass
  (repeat' split) <;> simp (maxDischargeDepth := 60) [h]

@[simp] theorem keeps_execLoadRegionZeroDone {s t : State} (h : Keeps s t) : ResKeeps s (@execLoadRegionZeroDone t) := by
  unfold execLoadRegionZeroDone
  (repeat' split) <;> simp (maxDischargeDepth := 60) [h]

@[simp] theorem keeps_loadAbort {s t : State} (h : Keeps s t) : Keeps s (@loadAbort t) := by
  unfold loadAbort
  (repeat' split) <;> simp (maxDischargeDepth := 60) [h]

@[simp] theorem keeps_loadSpoolFail (x0) (x1) {s t : State} (h : Keeps s t) : Keeps s (@loadSpoolFail x0 x1 t) := by
  unfold loadSpoolFail
  simp (maxDischargeDepth := 60) [h]

@[simp] theorem keeps_execSpoolPlacement {s t : State} (h : Keeps s t) : ResKeeps s (@execSpoolPlacement t) := by
  unfold execSpoolPlacement
  try dsimp only
  (repeat' (first | split | (refine keeps_forL _ _ (fun x u => ?_) ?_) | (refine keeps_forN _ _ (fun x u => ?_) ?_) | (refine keeps_foldl2 _ (fun x u => ?_) _ _ ?_) | (refine keeps_foldl22 _ (fun x u => ?_) _ _ ?_))) <;> simp (maxDischargeDepth := 60) [h, -List.reduceReplicate]

end Sys2Proof.Machine
end

