-- ==== Sys2Proof/Laws/KeepsPlatform.lean ====
section
/-!
SUPPORT. Loom, engines, clocks, Reed, power and debug: for each operation that answers a state, that it leaves the queue alone and keeps the canonical form of the register cells and of the memories (`Keeps`).
-/
namespace Sys2Proof.Machine

@[simp] theorem keeps_execSpoolZeroFillDone {s t : State} (h : Keeps s t) : ResKeeps s (@execSpoolZeroFillDone t) := by
  unfold execSpoolZeroFillDone
  try dsimp only
  (repeat' (first | split | (refine keeps_forL _ _ (fun x u => ?_) ?_) | (refine keeps_forN _ _ (fun x u => ?_) ?_) | (refine keeps_foldl2 _ (fun x u => ?_) _ _ ?_) | (refine keeps_foldl22 _ (fun x u => ?_) _ _ ?_))) <;> simp (maxDischargeDepth := 60) [h, -List.reduceReplicate]

@[simp] theorem keeps_captureEdge (x0) (x1) {s t : State} (h : Keeps s t) : Keeps s (@captureEdge x0 x1 t) := by
  unfold captureEdge
  simp (maxDischargeDepth := 60) [h]

@[simp] theorem keeps_captureStopped {s t : State} (h : Keeps s t) : Keeps s (@captureStopped t) := by
  unfold captureStopped
  simp (maxDischargeDepth := 60) [h]

@[simp] theorem keeps_captureTake (x0) (x1) (x2) (x3) {s t : State} (h : Keeps s t) : Keeps s (@captureTake x0 x1 x2 x3 t) := by
  unfold captureTake
  simp (maxDischargeDepth := 60) [h]

@[simp] theorem keeps_captureDue (x0) (x1) (x2) {s t : State} (h : Keeps s t) : Keeps s (@captureDue x0 x1 x2 t) := by
  unfold captureDue
  (repeat' split) <;> simp (maxDischargeDepth := 60) [h]

@[simp] theorem keeps_snapAt (x0) (x1) {s t : State} (h : Keeps s t) : Keeps s (@snapAt x0 x1 t) := by
  unfold snapAt
  simp (maxDischargeDepth := 60) [h]

@[simp] theorem keeps_snapRun (x0) {s t : State} (h : Keeps s t) : Keeps s (@snapRun x0 t) := by
  unfold snapRun
  (repeat' split) <;> simp (maxDischargeDepth := 60) [h]

@[simp] theorem keeps_restoreStaged (x0) (x1) (x2) (x3) {s t : State} (h : Keeps s t) : Keeps s (@restoreStaged x0 x1 x2 x3 t) := by
  unfold restoreStaged
  simp (maxDischargeDepth := 60) [h]

@[simp] theorem keeps_controlRestore (x0) (x1) {s t : State} (h : Keeps s t) : Keeps s (@controlRestore x0 x1 t) := by
  unfold controlRestore
  simp (maxDischargeDepth := 60) [h]

@[simp] theorem keeps_restoreBay (x0) (x1) {s t : State} (h : Keeps s t) : Keeps s (@restoreBay x0 x1 t) := by
  unfold restoreBay
  simp (maxDischargeDepth := 60) [h]

@[simp] theorem keeps_restoreBays (x0) (x1) {s t : State} (h : Keeps s t) : Keeps s (@restoreBays x0 x1 t) := by
  unfold restoreBays
  simp (maxDischargeDepth := 60) [h]

@[simp] theorem keeps_restoreUndef (x0) {s t : State} (h : Keeps s t) : Keeps s (@restoreUndef x0 t) := by
  unfold restoreUndef
  simp (maxDischargeDepth := 60) [h]

@[simp] theorem keeps_restRun (c : LCmd) {s t : State} (h : Keeps s t) : Keeps s (restRun c t) := by
  unfold restRun
  split
  · exact keeps_cmdEnd _ _ _ h
  split
  · exact keeps_cmdEnd _ _ _ h
  extract_lets a
  split
  · exact h
  split
  rename_i e0 _ hd s1 h1
  have k1 : Keeps s s1 := keeps_snd3 h1 (keeps_engRead _ _ _ h)
  extract_lets n
  split
  · exact keeps_cmdEnd _ _ _ (keeps_restoreUndef _ k1)
  split
  · exact keeps_cmdEnd _ _ _ k1
  split
  · exact keeps_cmdEnd _ _ _ k1
  split
  rename_i e1 _ tr s2 h2
  have k2 : Keeps s s2 := keeps_snd3 h2 (keeps_engRead _ _ _ k1)
  split
  · exact keeps_cmdEnd _ _ _ (keeps_restoreUndef _ k2)
  split
  · exact keeps_cmdEnd _ _ _ k2
  split
  rename_i e2 _ d s3 h3
  have k3 : Keeps s s3 := keeps_snd3 h3 (keeps_engRead _ _ _ k2)
  split
  · exact keeps_cmdEnd _ _ _ (keeps_restoreUndef _ k3)
  split
  · exact keeps_cmdEnd _ _ _ (keeps_restoreBays _ _ k3)
  · exact keeps_cmdEnd _ _ _ (keeps_restoreUndef _ k3)

@[simp] theorem keeps_readRun (x0) {s t : State} (h : Keeps s t) : Keeps s (@readRun x0 t) := by
  unfold readRun
  (repeat' split) <;> simp (maxDischargeDepth := 60) [h]

@[simp] theorem keeps_updMig (x0) (x1) {s t : State} (h : Keeps s t) : Keeps s (@updMig x0 x1 t) := by
  unfold updMig
  simp (maxDischargeDepth := 60) [h]

@[simp] theorem keeps_migFail (x0) (x1) (x2) {s t : State} (h : Keeps s t) : Keeps s (@migFail x0 x1 x2 t) := by
  unfold migFail
  simp (maxDischargeDepth := 60) [h]

@[simp] theorem keeps_migRun (x0) {s t : State} (h : Keeps s t) : Keeps s (@migRun x0 t) := by
  unfold migRun
  (repeat' split) <;> simp (maxDischargeDepth := 60) [h]

@[simp] theorem keeps_migOrigin (x0) {s t : State} (h : Keeps s t) : Keeps s (@migOrigin x0 t) := by
  unfold migOrigin
  try dsimp only
  (repeat' (first | split | (refine keeps_forL _ _ (fun x u => ?_) ?_) | (refine keeps_forN _ _ (fun x u => ?_) ?_) | (refine keeps_foldl2 _ (fun x u => ?_) _ _ ?_) | (refine keeps_foldl22 _ (fun x u => ?_) _ _ ?_))) <;> simp (maxDischargeDepth := 60) [h, -List.reduceReplicate]

@[simp] theorem keeps_migFreezeAt (x0) (x1) {s t : State} (h : Keeps s t) : Keeps s (@migFreezeAt x0 x1 t) := by
  unfold migFreezeAt
  (repeat' split) <;> simp (maxDischargeDepth := 60) [h]

@[simp] theorem keeps_capturesAt (x0) {s t : State} (h : Keeps s t) : Keeps s (@capturesAt x0 t) := by
  unfold capturesAt
  simp (maxDischargeDepth := 60) [h]

@[simp] theorem keeps_captureDone {s t : State} (h : Keeps s t) : Keeps s (@captureDone t) := by
  unfold captureDone
  try dsimp only
  (repeat' (first | split | (refine keeps_forL _ _ (fun x u => ?_) ?_) | (refine keeps_forN _ _ (fun x u => ?_) ?_) | (refine keeps_foldl2 _ (fun x u => ?_) _ _ ?_) | (refine keeps_foldl22 _ (fun x u => ?_) _ _ ?_))) <;> simp (maxDischargeDepth := 60) [h, -List.reduceReplicate]

@[simp] theorem keeps_execCaptureStreamDone {s t : State} (h : Keeps s t) : ResKeeps s (@execCaptureStreamDone t) := by
  unfold execCaptureStreamDone
  simp (maxDischargeDepth := 60) [h]

@[simp] theorem keeps_frameCopy (x0) (x1) {s t : State} (h : Keeps s t) : Keeps s (@frameCopy x0 x1 t).2 := by
  unfold frameCopy
  simp (maxDischargeDepth := 60) [h]

@[simp] theorem keeps_bindCopy (x0) (x1) {s t : State} (h : Keeps s t) : Keeps s (@bindCopy x0 x1 t) := by
  unfold bindCopy
  simp (maxDischargeDepth := 60) [h]

@[simp] theorem keeps_execMigrationCopyDone (x0) {s t : State} (h : Keeps s t) : ResKeeps s (@execMigrationCopyDone x0 t) := by
  unfold execMigrationCopyDone
  try dsimp only
  (repeat' (first | split | (refine keeps_forL _ _ (fun x u => ?_) ?_) | (refine keeps_forN _ _ (fun x u => ?_) ?_) | (refine keeps_foldl2 _ (fun x u => ?_) _ _ ?_) | (refine keeps_foldl22 _ (fun x u => ?_) _ _ ?_))) <;> simp (maxDischargeDepth := 60) [h, -List.reduceReplicate]

@[simp] theorem keeps_execMigrationRestoreDone (x : Nat) {s t : State} (h : Keeps s t) : ResKeeps s (execMigrationRestoreDone x t) := by
  unfold execMigrationRestoreDone
  refine resKeeps_next.2 ?_
  split
  · split
    · exact h
    split
    rename_i e _ d s1 h1
    have k1 : Keeps s s1 := keeps_snd3 h1 (keeps_engRead _ _ _ h)
    split
    · exact keeps_migFail _ _ _ k1
    split
    · exact keeps_migFail _ _ _ k1
    · extract_lets s2
      have k2 : Keeps s s2 := keeps_restoreBays _ _ k1
      clear_value s2
      refine keeps_gpioShowAll (keeps_updMig _ _ (keeps_forL _ _ (fun b u => ?_) k2))
      exact keeps_bayStage _ _ _ (keeps_bayStage _ _ _ (Keeps.refl _))
  · exact h

@[simp] theorem keeps_swapCarry (x0) (x1) {s t : State} (h : Keeps s t) : Keeps s (@swapCarry x0 x1 t) := by
  unfold swapCarry
  simp (maxDischargeDepth := 60) [h]

@[simp] theorem keeps_thaw (x0) {s t : State} (h : Keeps s t) : Keeps s (@thaw x0 t) := by
  unfold thaw
  simp (maxDischargeDepth := 60) [h]

@[simp] theorem keeps_migSwap (x0) (x1) {s t : State} (h : Keeps s t) : Keeps s (@migSwap x0 x1 t) := by
  unfold migSwap
  simp (maxDischargeDepth := 60) [h]

@[simp] theorem keeps_migResume (x0) (x1) {s t : State} (h : Keeps s t) : Keeps s (@migResume x0 x1 t) := by
  unfold migResume
  simp (maxDischargeDepth := 60) [h]

@[simp] theorem keeps_migBoundary (n : Nat) {s t : State} (h : Keeps s t) : Keeps s (migBoundary n t) := by
  unfold migBoundary
  refine keeps_forL _ _ (fun x u => ?_) h
  (repeat' split) <;> simp

@[simp] theorem keeps_execMigrationEraseDone (x0) {s t : State} (h : Keeps s t) : ResKeeps s (@execMigrationEraseDone x0 t) := by
  unfold execMigrationEraseDone
  (repeat' split) <;> simp (maxDischargeDepth := 60) [h]

@[simp] theorem keeps_recCopy (x0) (x1) {s t : State} (h : Keeps s t) : Keeps s (@recCopy x0 x1 t) := by
  unfold recCopy
  simp (maxDischargeDepth := 60) [h]

@[simp] theorem keeps_recUncopy (x0) (x1) {s t : State} (h : Keeps s t) : Keeps s (@recUncopy x0 x1 t) := by
  unfold recUncopy
  simp (maxDischargeDepth := 60) [h]

@[simp] theorem keeps_bootPass (x0) (x1) (x2) {s t : State} (h : Keeps s t) : Keeps s (@bootPass x0 x1 x2 t) := by
  unfold bootPass
  simp (maxDischargeDepth := 60) [h]

@[simp] theorem keeps_bootFail (x0) {s t : State} (h : Keeps s t) : Keeps s (@bootFail x0 t) := by
  unfold bootFail
  simp (maxDischargeDepth := 60) [h]

@[simp] theorem keeps_bootSlot (x0) (x1) {s t : State} (h : Keeps s t) : Keeps s (@bootSlot x0 x1 t).2 := by
  unfold bootSlot
  simp (maxDischargeDepth := 60) [h]

@[simp] theorem keeps_execCc0Release (x0) (x1) {s t : State} (h : Keeps s t) : ResKeeps s (@execCc0Release x0 x1 t) := by
  unfold execCc0Release
  simp (maxDischargeDepth := 60) [h]

@[simp] theorem keeps_ccWindow (x0) (x1) (x2) (x3) (x4) {s t : State} (h : Keeps s t) : Keeps s (@ccWindow x0 x1 x2 x3 x4 t).2.2 := by
  unfold ccWindow
  simp (maxDischargeDepth := 60) [h]

@[simp] theorem keeps_execCcWindowMemoryAccess (x0) (x1) (x2) (x3) (x4) (x5) {s t : State} (h : Keeps s t) : ResKeeps s (@execCcWindowMemoryAccess x0 x1 x2 x3 x4 x5 t) := by
  unfold execCcWindowMemoryAccess
  simp (maxDischargeDepth := 60) [h]

@[simp] theorem keeps_State_updIntake (x1) (x2) {s t : State} (h : Keeps s t) : Keeps s (@State.updIntake t x1 x2) := by
  unfold State.updIntake
  simp (maxDischargeDepth := 60) [h]

@[simp] theorem keeps_pkgCopy (x0) (x1) (x2) {s t : State} (h : Keeps s t) : Keeps s (@pkgCopy x0 x1 x2 t) := by
  unfold pkgCopy
  simp (maxDischargeDepth := 60) [h]

@[simp] theorem keeps_intakeFail (x0) (x1) {s t : State} (h : Keeps s t) : Keeps s (@intakeFail x0 x1 t) := by
  unfold intakeFail
  simp (maxDischargeDepth := 60) [h]

@[simp] theorem keeps_execIntakeTakeEntry (c : Nat) {s t : State} (h : Keeps s t) : ResKeeps s (execIntakeTakeEntry c t) := by
  unfold execIntakeTakeEntry
  refine resKeeps_next.2 ?_
  extract_lets n hd
  split
  · exact h
  split
  rename_i e _ d s1 h1
  have k1 : Keeps s s1 := keeps_snd3 h1 (keeps_engRead _ _ _ h)
  extract_lets s2
  have k2 : Keeps s s2 := keeps_setFld _ _ _ _ (keeps_setFld _ _ _ _ k1)
  split
  · split
    rename_i v s3 h3
    have k3 : Keeps s s3 := keeps_snd h3 (keeps_State_fresh k2)
    exact keeps_intakeFail _ _ (keeps_State_updIntake _ _ k3)
  · exact keeps_State_updIntake _ _ k2

@[simp] theorem keeps_programGive (x0) (x1) {s t : State} (h : Keeps s t) : Keeps s (@programGive x0 x1 t) := by
  unfold programGive
  simp (maxDischargeDepth := 60) [h]

@[simp] theorem keeps_programWake (x0) {s t : State} (h : Keeps s t) : Keeps s (@programWake x0 t) := by
  unfold programWake
  (repeat' split) <;> simp (maxDischargeDepth := 60) [h]

@[simp] theorem keeps_execIntakePackageChecked (c : Nat) {s t : State} (h : Keeps s t) : ResKeeps s (execIntakePackageChecked c t) := by
  unfold execIntakePackageChecked
  refine resKeeps_next.2 ?_
  extract_lets a
  split
  · exact h
  split
  · exact keeps_intakeFail _ _ h
  split
  · exact h
  split
  rename_i e _ hd s1 h1
  have k1 : Keeps s s1 := keeps_snd3 h1 (keeps_engRead _ _ _ h)
  extract_lets hc
  split
  · exact keeps_intakeFail _ _ k1
  split
  · exact keeps_intakeFail _ _ k1
  split
  · exact h
  split
  rename_i e2 _ body s2 h2
  have k2 : Keeps s s2 := keeps_snd3 h2 (keeps_engRead _ _ _ k1)
  extract_lets s3 bc s4
  have k3 : Keeps s s3 := keeps_pkgCopy _ _ _ k2
  split
  · exact keeps_intakeFail _ _ k3
  split
  · exact keeps_intakeFail _ _ k3
  · have k4 : Keeps s s4 := keeps_setFld _ _ _ _ (keeps_setFld _ _ _ _ k3)
    exact keeps_programWake _ (keeps_State_updIntake _ _ k4)

@[simp] theorem keeps_execLnext (x0) (x1) (x2) (x3) {s t : State} (h : Keeps s t) : ResKeeps s (@execLnext x0 x1 x2 x3 t) := by
  unfold execLnext
  simp (maxDischargeDepth := 60) [h]

@[simp] theorem keeps_execLexit (x0) (x1) (x2) (x3) {s t : State} (h : Keeps s t) : ResKeeps s (@execLexit x0 x1 x2 x3 t) := by
  unfold execLexit
  simp (maxDischargeDepth := 60) [h]

@[simp] theorem keeps_completionPut (x0) (x1) {s t : State} (h : Keeps s t) : Keeps s (@completionPut x0 x1 t) := by
  unfold completionPut
  simp (maxDischargeDepth := 60) [h]

@[simp] theorem keeps_execCompletionEntryWrite (x0) {s t : State} (h : Keeps s t) : ResKeeps s (@execCompletionEntryWrite x0 t) := by
  unfold execCompletionEntryWrite
  try dsimp only
  (repeat' (first | split | (refine keeps_forL _ _ (fun x u => ?_) ?_) | (refine keeps_forN _ _ (fun x u => ?_) ?_) | (refine keeps_foldl2 _ (fun x u => ?_) _ _ ?_) | (refine keeps_foldl22 _ (fun x u => ?_) _ _ ?_))) <;> simp (maxDischargeDepth := 60) [h, -List.reduceReplicate]

@[simp] theorem keeps_coreReset (x0) {s t : State} (h : Keeps s t) : Keeps s (@coreReset x0 t) := by
  unfold coreReset
  simp (maxDischargeDepth := 60) [h]

@[simp] theorem keeps_execCcReset (x0) {s t : State} (h : Keeps s t) : ResKeeps s (@execCcReset x0 t) := by
  unfold execCcReset
  simp (maxDischargeDepth := 60) [h]

@[simp] theorem keeps_relRun (x0) {s t : State} (h : Keeps s t) : Keeps s (@relRun x0 t) := by
  unfold relRun
  (repeat' split) <;> simp (maxDischargeDepth := 60) [h]

@[simp] theorem keeps_holdRun (x0) {s t : State} (h : Keeps s t) : Keeps s (@holdRun x0 t) := by
  unfold holdRun
  (repeat' split) <;> simp (maxDischargeDepth := 60) [h]

@[simp] theorem keeps_freeErase (x0) (x1) {s t : State} (h : Keeps s t) : Keeps s (@freeErase x0 x1 t) := by
  unfold freeErase
  simp (maxDischargeDepth := 60) [h]

@[simp] theorem keeps_freeHeld (x0) (x1) {s t : State} (h : Keeps s t) : Keeps s (@freeHeld x0 x1 t) := by
  unfold freeHeld
  simp (maxDischargeDepth := 60) [h]

@[simp] theorem keeps_freeHold (x0) (x1) (x2) {s t : State} (h : Keeps s t) : Keeps s (@freeHold x0 x1 x2 t) := by
  unfold freeHold
  simp (maxDischargeDepth := 60) [h]

@[simp] theorem keeps_freeRun (x0) {s t : State} (h : Keeps s t) : Keeps s (@freeRun x0 t) := by
  unfold freeRun
  (repeat' split) <;> simp (maxDischargeDepth := 60) [h]

@[simp] theorem keeps_holdDone (x0) {s t : State} (h : Keeps s t) : Keeps s (@holdDone x0 t) := by
  unfold holdDone
  try dsimp only
  (repeat' (first | split | (refine keeps_forL _ _ (fun x u => ?_) ?_) | (refine keeps_forN _ _ (fun x u => ?_) ?_) | (refine keeps_foldl2 _ (fun x u => ?_) _ _ ?_) | (refine keeps_foldl22 _ (fun x u => ?_) _ _ ?_))) <;> simp (maxDischargeDepth := 60) [h, -List.reduceReplicate]

@[simp] theorem keeps_holdStep (x0) {s t : State} (h : Keeps s t) : Keeps s (@holdStep x0 t) := by
  unfold holdStep
  simp (maxDischargeDepth := 60) [h]

@[simp] theorem keeps_execHoldStageEffect (x0) {s t : State} (h : Keeps s t) : ResKeeps s (@execHoldStageEffect x0 t) := by
  unfold execHoldStageEffect
  (repeat' split) <;> simp (maxDischargeDepth := 60) [h]

@[simp] theorem keeps_releasesAt (x0) {s t : State} (h : Keeps s t) : Keeps s (@releasesAt x0 t) := by
  unfold releasesAt
  simp (maxDischargeDepth := 60) [h]

@[simp] theorem keeps_holdsAt (x0) {s t : State} (h : Keeps s t) : Keeps s (@holdsAt x0 t) := by
  unfold holdsAt
  try dsimp only
  (repeat' (first | split | (refine keeps_forL _ _ (fun x u => ?_) ?_) | (refine keeps_forN _ _ (fun x u => ?_) ?_) | (refine keeps_foldl2 _ (fun x u => ?_) _ _ ?_) | (refine keeps_foldl22 _ (fun x u => ?_) _ _ ?_))) <;> simp (maxDischargeDepth := 60) [h, -List.reduceReplicate]

@[simp] theorem keeps_holdReset (x0) {s t : State} (h : Keeps s t) : Keeps s (@holdReset x0 t) := by
  unfold holdReset
  try dsimp only
  (repeat' (first | split | (refine keeps_forL _ _ (fun x u => ?_) ?_) | (refine keeps_forN _ _ (fun x u => ?_) ?_) | (refine keeps_foldl2 _ (fun x u => ?_) _ _ ?_) | (refine keeps_foldl22 _ (fun x u => ?_) _ _ ?_))) <;> simp (maxDischargeDepth := 60) [h, -List.reduceReplicate]

@[simp] theorem keeps_execBayHoldReset (x0) {s t : State} (h : Keeps s t) : ResKeeps s (@execBayHoldReset x0 t) := by
  unfold execBayHoldReset
  simp (maxDischargeDepth := 60) [h]

@[simp] theorem keeps_placeRun (c : LCmd) {s t : State} (h : Keeps s t) : Keeps s (placeRun c t) := by
  unfold placeRun
  extract_lets a
  split
  · exact keeps_cmdEnd _ _ _ h
  split
  · exact h
  split
  rename_i e _ hd s1 h1
  have k1 : Keeps s s1 := keeps_snd3 h1 (keeps_engRead _ _ _ h)
  split
  · exact keeps_cmdEnd _ _ _ k1
  extract_lets f
  split
  · exact keeps_cmdEnd _ _ _ k1
  split
  · split
    · exact keeps_cmdEnd _ _ _ k1
    · exact keeps_cmdEnd _ _ _ k1
  · exact keeps_updCmd _ _ k1

@[simp] theorem keeps_placeOrigin (x0) {s t : State} (h : Keeps s t) : Keeps s (@placeOrigin x0 t) := by
  unfold placeOrigin
  try dsimp only
  (repeat' (first | split | (refine keeps_forL _ _ (fun x u => ?_) ?_) | (refine keeps_forN _ _ (fun x u => ?_) ?_) | (refine keeps_foldl2 _ (fun x u => ?_) _ _ ?_) | (refine keeps_foldl22 _ (fun x u => ?_) _ _ ?_))) <;> (try simp only [Prod.ext_iff] at *) <;> (try casesm* _ ∧ _) <;> subst_vars <;> simp (maxDischargeDepth := 60) [h, -List.reduceReplicate]

@[simp] theorem keeps_execHeddleOriginRequest {s t : State} (h : Keeps s t) : ResKeeps s (@execHeddleOriginRequest t) := by
  unfold execHeddleOriginRequest
  try dsimp only
  (repeat' (first | split | (refine keeps_forL _ _ (fun x u => ?_) ?_) | (refine keeps_forN _ _ (fun x u => ?_) ?_) | (refine keeps_foldl2 _ (fun x u => ?_) _ _ ?_) | (refine keeps_foldl22 _ (fun x u => ?_) _ _ ?_))) <;> simp (maxDischargeDepth := 60) [h, -List.reduceReplicate]

@[simp] theorem keeps_keySet (x0) (x1) (x2) {s t : State} (h : Keeps s t) : Keeps s (@keySet x0 x1 x2 t) := by
  unfold keySet
  simp (maxDischargeDepth := 60) [h]

@[simp] theorem keeps_keyBytes (x0) (x1) (x2) {s t : State} (h : Keeps s t) : Keeps s (@keyBytes x0 x1 x2 t).2 := by
  unfold keyBytes
  simp (maxDischargeDepth := 60) [h]

@[simp] theorem keeps_keyRun (x0) {s t : State} (h : Keeps s t) : Keeps s (@keyRun x0 t) := by
  unfold keyRun
  try dsimp only
  (repeat' (first | split | (refine keeps_forL _ _ (fun x u => ?_) ?_) | (refine keeps_forN _ _ (fun x u => ?_) ?_) | (refine keeps_foldl2 _ (fun x u => ?_) _ _ ?_) | (refine keeps_foldl22 _ (fun x u => ?_) _ _ ?_))) <;> simp (maxDischargeDepth := 60) [h, -List.reduceReplicate]

@[simp] theorem keeps_cmdRun (c : LCmd) {s t : State} (h : Keeps s t) : Keeps s (cmdRun c t) := by
  unfold cmdRun
  exact .ite (keeps_cmdEnd _ _ _ h) (.ite (keeps_cmdEnd _ _ _ h) (.ite (keeps_loadStart _ (keeps_updCmd _ _ h))
    (.ite (keeps_relRun _ h) (.ite (keeps_holdRun _ h) (.ite (keeps_freeRun _ h) (.ite (keeps_placeRun _ h)
    (.ite (keeps_snapRun _ h) (.ite (keeps_restRun _ h) (.ite (keeps_migRun _ h) (.ite (keeps_scrubRun _ h)
    (.ite (keeps_readRun _ h) (keeps_keyRun _ h))))))))))))

@[simp] theorem keeps_cmdStart (x0) {s t : State} (h : Keeps s t) : Keeps s (@cmdStart x0 t) := by
  unfold cmdStart
  (repeat' split) <;> simp (maxDischargeDepth := 60) [h]

@[simp] theorem keeps_execLoomCommandStart (x : Nat) {s t : State} (h : Keeps s t) : ResKeeps s (execLoomCommandStart x t) := by
  unfold execLoomCommandStart
  refine resKeeps_next.2 ?_
  (repeat' split) <;> simp [h]

@[simp] theorem keeps_execLsnap (c rd rs1 mbz : Nat) {s t : State} (h : Keeps s t) : ResKeeps s (execLsnap c rd rs1 mbz t) :=
  keeps_loomIssueThen _ _ _ _ _ _ (fun _ _ => keeps_cmdStart _ (Keeps.refl _)) h

@[simp] theorem keeps_execLoomCommandComplete (x0) {s t : State} (h : Keeps s t) : ResKeeps s (@execLoomCommandComplete x0 t) := by
  unfold execLoomCommandComplete
  (repeat' split) <;> simp (maxDischargeDepth := 60) [h]

@[simp] theorem keeps_loadAbortLate (x0) (x1) {s t : State} (h : Keeps s t) : Keeps s (@loadAbortLate x0 x1 t) := by
  unfold loadAbortLate
  simp (maxDischargeDepth := 60) [h]

@[simp] theorem keeps_ticketAbort (x0) {s t : State} (h : Keeps s t) : Keeps s (@ticketAbort x0 t).2 := by
  unfold ticketAbort
  (repeat' split) <;> simp (maxDischargeDepth := 60) [h]

@[simp] theorem keeps_execLabort (x0) (x1) (x2) (x3) {s t : State} (h : Keeps s t) : ResKeeps s (@execLabort x0 x1 x2 x3 t) := by
  unfold execLabort
  simp (maxDischargeDepth := 60) [h]

@[simp] theorem keeps_mpSendReady (x0) {s t : State} (h : Keeps s t) : Keeps s (@mpSendReady x0 t) := by
  unfold mpSendReady
  simp (maxDischargeDepth := 60) [h]

@[simp] theorem keeps_mpAnswer (x0) (x1) (x2) (x3) {s t : State} (h : Keeps s t) : Keeps s (@mpAnswer x0 x1 x2 x3 t) := by
  unfold mpAnswer
  simp (maxDischargeDepth := 60) [h]

@[simp] theorem keeps_mpAcceptPlain (x0) (x1) (x2) {s t : State} (h : Keeps s t) : OptKeeps s (@mpAcceptPlain x0 x1 x2 t) := by
  unfold mpAcceptPlain
  simp (maxDischargeDepth := 60) [h]

@[simp] theorem keeps_execMpRequestAccept (n : Nat) {s t : State} (h : Keeps s t) : ResKeeps s (execMpRequestAccept n t) := by
  unfold execMpRequestAccept
  refine resKeeps_next.2 ?_
  split
  · exact h
  split
  · exact h
  rename_i p s0 h0
  have k0 : Keeps s s0 := PairKeeps.out h0 (by simp [h])
  split
  · exact h
  extract_lets k s1
  have k1 : Keeps s s1 := by simp [s1, k0]
  clear_value s1
  split
  · simp [k1]
  · refine OptKeeps.getD ?_ h
    simp [k1]
  · split
    rename_i c s2 h2
    have k2 : Keeps s s2 := keeps_snd h2 (by simp [k1])
    simp [k2]

@[simp] theorem keeps_pipeOne (x0) (x1) {s t : State} (h : Keeps s t) : Keeps s (@pipeOne x0 x1 t) := by
  unfold pipeOne
  (repeat' split) <;> simp (maxDischargeDepth := 60) [h]

@[simp] theorem keeps_execPipeServeRequest (x0) {s t : State} (h : Keeps s t) : ResKeeps s (@execPipeServeRequest x0 t) := by
  unfold execPipeServeRequest
  (repeat' split) <;> simp (maxDischargeDepth := 60) [h]

@[simp] theorem keeps_mpHalve (x0) (x1) {s t : State} (h : Keeps s t) : Keeps s (@mpHalve x0 x1 t) := by
  unfold mpHalve
  simp (maxDischargeDepth := 60) [h]

@[simp] theorem keeps_mpRefAb (x0) (x1) {s t : State} (h : Keeps s t) : Keeps s (@mpRefAb x0 x1 t) := by
  unfold mpRefAb
  simp (maxDischargeDepth := 60) [h]

@[simp] theorem keeps_mpRefSb (x0) (x1) (x2) {s t : State} (h : Keeps s t) : Keeps s (@mpRefSb x0 x1 x2 t) := by
  unfold mpRefSb
  simp (maxDischargeDepth := 60) [h]

@[simp] theorem keeps_issueRead (x0) (x1) {s t : State} (h : Keeps s t) : Keeps s (@issueRead x0 x1 t) := by
  unfold issueRead
  simp (maxDischargeDepth := 60) [h]

@[simp] theorem keeps_issueRelease (x0) (x1) {s t : State} (h : Keeps s t) : Keeps s (@issueRelease x0 x1 t) := by
  unfold issueRelease
  simp (maxDischargeDepth := 60) [h]

@[simp] theorem keeps_nextWrite (x0) {s t : State} (h : Keeps s t) : OptKeeps s (@nextWrite x0 t) := by
  unfold nextWrite
  (repeat' split) <;> simp (maxDischargeDepth := 60) [h]

@[simp] theorem keeps_nextRead (x0) (x1) {s t : State} (h : Keeps s t) : OptKeeps s (@nextRead x0 x1 t) := by
  unfold nextRead
  try dsimp only
  (repeat' (first | split | (refine keeps_forL _ _ (fun x u => ?_) ?_) | (refine keeps_forN _ _ (fun x u => ?_) ?_) | (refine keeps_foldl2 _ (fun x u => ?_) _ _ ?_) | (refine keeps_foldl22 _ (fun x u => ?_) _ _ ?_))) <;> simp (maxDischargeDepth := 60) [h, -List.reduceReplicate]

@[simp] theorem keeps_execMpCommandSlot (n : Nat) (aged gap : Bool) {s t : State} (h : Keeps s t) : ResKeeps s (execMpCommandSlot n aged gap t) := by
  unfold execMpCommandSlot
  refine resKeeps_next.2 ?_
  split
  · exact h
  extract_lets m0 drain s0 m rank rfm old first
  have k0 : Keeps s s0 := by simp [s0, h]
  clear_value rank rfm old
  have kw := keeps_nextWrite n k0
  have kr := keeps_nextRead n gap k0
  have kf : OptKeeps s first := by simp only [first]; split; exacts [kw, kr]
  clear_value first m s0 drain m0
  cases rank with
  | some r => exact keeps_mpRefAb _ _ k0
  | none =>
    cases rfm with
    | some b => exact keeps_mpRaaSb _ _ (keeps_mpEmit _ _ _ _ k0)
    | none =>
      dsimp only
      generalize nextWrite n s0 = w at kw ⊢
      generalize nextRead n gap s0 = d at kr ⊢
      generalize sbRefresh s0 n = z
      have ks : Keeps s (match z with | some (r, b) => mpRefSb n r b s0 | none => s0) := by
        split
        · exact keeps_mpRefSb _ _ _ k0
        · exact k0
      rcases old with _ | r <;> cases aged <;> rcases first with _ | t <;> cases drain <;> rcases w with _ | w <;> rcases d with _ | d <;>
        first | exact ks | exact kw _ rfl | exact kr _ rfl | exact kf _ rfl | exact keeps_issueRead _ _ k0

@[simp] theorem keeps_execMpReadReturn (x0) {s t : State} (h : Keeps s t) : ResKeeps s (@execMpReadReturn x0 t) := by
  unfold execMpReadReturn
  (repeat' split) <;> simp (maxDischargeDepth := 60) [h]

@[simp] theorem keeps_execMpRefreshTick (x0) {s t : State} (h : Keeps s t) : ResKeeps s (@execMpRefreshTick x0 t) := by
  unfold execMpRefreshTick
  simp (maxDischargeDepth := 60) [h]

@[simp] theorem keeps_execMpMr4Poll (x0) (x1) (x2) (x3) {s t : State} (h : Keeps s t) : ResKeeps s (@execMpMr4Poll x0 x1 x2 x3 t) := by
  unfold execMpMr4Poll
  simp (maxDischargeDepth := 60) [h]

@[simp] theorem keeps_execMpThrottleEnd (x0) (x1) (x2) {s t : State} (h : Keeps s t) : ResKeeps s (@execMpThrottleEnd x0 x1 x2 t) := by
  unfold execMpThrottleEnd
  simp (maxDischargeDepth := 60) [h]

@[simp] theorem keeps_execMpPatrolRead (x0) {s t : State} (h : Keeps s t) : ResKeeps s (@execMpPatrolRead x0 t) := by
  unfold execMpPatrolRead
  simp (maxDischargeDepth := 60) [h]

@[simp] theorem keeps_execMpLbLeak (x0) {s t : State} (h : Keeps s t) : ResKeeps s (@execMpLbLeak x0 t) := by
  unfold execMpLbLeak
  simp (maxDischargeDepth := 60) [h]

@[simp] theorem keeps_mpSetState (x0) (x1) {s t : State} (h : Keeps s t) : Keeps s (@mpSetState x0 x1 t) := by
  unfold mpSetState
  simp (maxDischargeDepth := 60) [h]

@[simp] theorem keeps_mpForget (x0) (x1) {s t : State} (h : Keeps s t) : Keeps s (@mpForget x0 x1 t) := by
  unfold mpForget
  simp (maxDischargeDepth := 60) [h]

@[simp] theorem keeps_mpFail (x0) (x1) (x2) {s t : State} (h : Keeps s t) : Keeps s (@mpFail x0 x1 x2 t) := by
  unfold mpFail
  simp (maxDischargeDepth := 60) [h]

@[simp] theorem keeps_mpTrain (x0) {s t : State} (h : Keeps s t) : Keeps s (@mpTrain x0 t) := by
  unfold mpTrain
  simp (maxDischargeDepth := 60) [h]

@[simp] theorem keeps_execMpTrain (x0) (x1) {s t : State} (h : Keeps s t) : ResKeeps s (@execMpTrain x0 x1 t) := by
  unfold execMpTrain
  simp (maxDischargeDepth := 60) [h]

@[simp] theorem keeps_mpGeom (x0) (x1) {s t : State} (h : Keeps s t) : Keeps s (@mpGeom x0 x1 t) := by
  unfold mpGeom
  simp (maxDischargeDepth := 60) [h]

@[simp] theorem keeps_mpEnter (x0) {s t : State} (h : Keeps s t) : Keeps s (@mpEnter x0 t) := by
  unfold mpEnter
  simp (maxDischargeDepth := 60) [h]

@[simp] theorem keeps_execMpTrainingStepDone (x0) (x1) (x2) {s t : State} (h : Keeps s t) : ResKeeps s (@execMpTrainingStepDone x0 x1 x2 t) := by
  unfold execMpTrainingStepDone
  simp (maxDischargeDepth := 60) [h]

@[simp] theorem keeps_execMpSrEnter (x0) {s t : State} (h : Keeps s t) : ResKeeps s (@execMpSrEnter x0 t) := by
  unfold execMpSrEnter
  simp (maxDischargeDepth := 60) [h]

@[simp] theorem keeps_pipeServeAll (x0) {s t : State} (h : Keeps s t) : Keeps s (@pipeServeAll x0 t) := by
  unfold pipeServeAll
  simp (maxDischargeDepth := 60) [h]

@[simp] theorem keeps_execPipeFlushDone (x0) {s t : State} (h : Keeps s t) : ResKeeps s (@execPipeFlushDone x0 t) := by
  unfold execPipeFlushDone
  simp (maxDischargeDepth := 60) [h]

@[simp] theorem keeps_mpDrain (n : Nat) {s t : State} (h : Keeps s t) : Keeps s (mpDrain n t) := by
  unfold mpDrain
  extract_lets s1
  have k1 : Keeps s s1 := by
    refine keeps_forL _ _ (fun r u => ?_) h
    extract_lets u1 u2
    have k2 : Keeps u u2 := keeps_forL _ _ (fun x v => by simp) (by simp [u1])
    clear_value u2
    split
    · exact k2
    · split
      exact keeps_mpAnswer _ _ _ _ (keeps_snd2 ‹_› (by simp [k2]))
  clear_value s1
  refine keeps_forL _ _ (fun b u => ?_) k1
  split
  · simp
  · exact Keeps.refl _

@[simp] theorem keeps_mpSelfRefresh (x0) {s t : State} (h : Keeps s t) : Keeps s (@mpSelfRefresh x0 t) := by
  unfold mpSelfRefresh
  simp (maxDischargeDepth := 60) [h]

@[simp] theorem keeps_execMpDrainDone (x0) {s t : State} (h : Keeps s t) : ResKeeps s (@execMpDrainDone x0 t) := by
  unfold execMpDrainDone
  simp (maxDischargeDepth := 60) [h]

@[simp] theorem keeps_execMpSrExit (x0) {s t : State} (h : Keeps s t) : ResKeeps s (@execMpSrExit x0 t) := by
  unfold execMpSrExit
  simp (maxDischargeDepth := 60) [h]

@[simp] theorem keeps_execMpSrExitDone (x0) {s t : State} (h : Keeps s t) : ResKeeps s (@execMpSrExitDone x0 t) := by
  unfold execMpSrExitDone
  simp (maxDischargeDepth := 60) [h]

@[simp] theorem keeps_execMpRemapInstall (x0) (x1) {s t : State} (h : Keeps s t) : ResKeeps s (@execMpRemapInstall x0 x1 t) := by
  unfold execMpRemapInstall
  try dsimp only
  (repeat' (first | split | (refine keeps_forL _ _ (fun x u => ?_) ?_) | (refine keeps_forN _ _ (fun x u => ?_) ?_) | (refine keeps_foldl2 _ (fun x u => ?_) _ _ ?_) | (refine keeps_foldl22 _ (fun x u => ?_) _ _ ?_))) <;> simp (maxDischargeDepth := 60) [h, -List.reduceReplicate]

@[simp] theorem keeps_execMpRemapInstallDone (x0) (x1) {s t : State} (h : Keeps s t) : ResKeeps s (@execMpRemapInstallDone x0 x1 t) := by
  unfold execMpRemapInstallDone
  (repeat' split) <;> simp (maxDischargeDepth := 60) [h]

@[simp] theorem keeps_execMpRemapRelease (x0) (x1) {s t : State} (h : Keeps s t) : ResKeeps s (@execMpRemapRelease x0 x1 t) := by
  unfold execMpRemapRelease
  simp (maxDischargeDepth := 60) [h]

@[simp] theorem keeps_mpCtlWrite (n v : Nat) {s t : State} (h : Keeps s t) : Keeps s (mpCtlWrite n v t) := by
  unfold mpCtlWrite
  extract_lets s1 go
  have k1 : Keeps s s1 := by simp [s1, h]
  clear_value s1
  have kg : ∀ r, ResKeeps s r → Keeps s (go r) := by
    intro r hr
    simp only [go]
    split
    · exact hr _ rfl
    · exact k1
  clear_value go
  (repeat' split) <;> simp [k1, kg]

@[simp] theorem keeps_descErr (x0) (x1) {s t : State} (h : Keeps s t) : Keeps s (@descErr x0 x1 t) := by
  unfold descErr
  simp (maxDischargeDepth := 60) [h]

@[simp] theorem keeps_mprEnable (x0) {s t : State} (h : Keeps s t) : Keeps s (@mprEnable x0 t) := by
  unfold mprEnable
  simp (maxDischargeDepth := 60) [h]

@[simp] theorem keeps_mprDisable (x0) {s t : State} (h : Keeps s t) : Keeps s (@mprDisable x0 t) := by
  unfold mprDisable
  simp (maxDischargeDepth := 60) [h]

@[simp] theorem keeps_rotStart (x0) {s t : State} (h : Keeps s t) : Keeps s (@rotStart x0 t) := by
  unfold rotStart
  simp (maxDischargeDepth := 60) [h]

@[simp] theorem keeps_unfreeze (x0) {s t : State} (h : Keeps s t) : Keeps s (@unfreeze x0 t) := by
  unfold unfreeze
  simp (maxDischargeDepth := 60) [h]

@[simp] theorem keeps_mprWrite (x0) (x1) {s t : State} (h : Keeps s t) : Keeps s (@mprWrite x0 x1 t) := by
  unfold mprWrite
  simp (maxDischargeDepth := 60) [h]

@[simp] theorem keeps_execMprEnable (x0) (x1) {s t : State} (h : Keeps s t) : ResKeeps s (@execMprEnable x0 x1 t) := by
  unfold execMprEnable
  simp (maxDischargeDepth := 60) [h]

@[simp] theorem keeps_execMprDisable (x0) (x1) {s t : State} (h : Keeps s t) : ResKeeps s (@execMprDisable x0 x1 t) := by
  unfold execMprDisable
  simp (maxDischargeDepth := 60) [h]

@[simp] theorem keeps_execRotStart (x0) (x1) {s t : State} (h : Keeps s t) : ResKeeps s (@execRotStart x0 x1 t) := by
  unfold execRotStart
  simp (maxDischargeDepth := 60) [h]

@[simp] theorem keeps_execUnfreeze (x0) (x1) {s t : State} (h : Keeps s t) : ResKeeps s (@execUnfreeze x0 x1 t) := by
  unfold execUnfreeze
  simp (maxDischargeDepth := 60) [h]

@[simp] theorem keeps_sweepSkip (x0) (x1) (x2) {s t : State} (h : Keeps s t) : Keeps s (@sweepSkip x0 x1 x2 t).2.2 := by
  unfold sweepSkip
  simp (maxDischargeDepth := 60) [h]

@[simp] theorem keeps_rotDone (x0) {s t : State} (h : Keeps s t) : Keeps s (@rotDone x0 t) := by
  unfold rotDone
  simp (maxDischargeDepth := 60) [h]

@[simp] theorem keeps_execRotationSweepStep (x0) {s t : State} (h : Keeps s t) : ResKeeps s (@execRotationSweepStep x0 t) := by
  unfold execRotationSweepStep
  try dsimp only
  (repeat' (first | split | (refine keeps_forL _ _ (fun x u => ?_) ?_) | (refine keeps_forN _ _ (fun x u => ?_) ?_) | (refine keeps_foldl2 _ (fun x u => ?_) _ _ ?_) | (refine keeps_foldl22 _ (fun x u => ?_) _ _ ?_))) <;> simp (maxDischargeDepth := 60) [h, -List.reduceReplicate]

@[simp] theorem keeps_State_updPcie (x1) {s t : State} (h : Keeps s t) : Keeps s (@State.updPcie t x1) := by
  unfold State.updPcie
  simp (maxDischargeDepth := 60) [h]

@[simp] theorem keeps_cplBeats (x0) (x1) (x2) (x3) {s t : State} (h : Keeps s t) : Keeps s (@cplBeats x0 x1 x2 x3 t) := by
  unfold cplBeats
  simp (maxDischargeDepth := 60) [h]

@[simp] theorem keeps_barParts (tag : Nat) (got : List (Nat × Nat × Nat × List Byte)) (l : List (Nat × Nat × Nat)) {s t : State} (h : Keeps s t) :
    Keeps s (barParts tag got l t).2 := by
  induction l generalizing t with
  | nil => exact h
  | cons p l ih =>
    obtain ⟨k, a, n⟩ := p
    unfold barParts; (repeat' split) <;> simp [h, ih]

@[simp] theorem keeps_barDeliver {s t : State} (h : Keeps s t) : Keeps s (@barDeliver t) := by
  unfold barDeliver
  simp (maxDischargeDepth := 60) [h]

@[simp] theorem keeps_barGot (x0) (x1) (x2) (x3) (x4) {s t : State} (h : Keeps s t) : Keeps s (@barGot x0 x1 x2 x3 x4 t) := by
  unfold barGot
  simp (maxDischargeDepth := 60) [h]

@[simp] theorem keeps_barWerr (x0) (x1) (x2) {s t : State} (h : Keeps s t) : Keeps s (@barWerr x0 x1 x2 t) := by
  unfold barWerr
  simp (maxDischargeDepth := 60) [h]

@[simp] theorem keeps_execBarRead (tag bar off n : Nat) {s t : State} (h : Keeps s t) : ResKeeps s (execBarRead tag bar off n t) := by
  unfold execBarRead
  refine resKeeps_next.2 ?_
  split
  · exact h
  split
  · simp [h]
  extract_lets ps s1
  have k1 : Keeps s s1 := by simp [s1, h]
  clear_value s1
  refine keeps_forL _ _ (fun x u => ?_) k1
  split <;> simp

@[simp] theorem keeps_execBarWrite (bar off : Nat) (ep : Bool) (data : List Byte) {s t : State} (h : Keeps s t) :
    ResKeeps s (execBarWrite bar off ep data t) := by
  unfold execBarWrite
  refine resKeeps_next.2 ?_
  split
  · exact h
  refine keeps_forL _ _ (fun x u => ?_) h
  split <;> simp

@[simp] theorem keeps_execBarAtomic (x0) (x1) (x2) (x3) (x4) (x5) {s t : State} (h : Keeps s t) : ResKeeps s (@execBarAtomic x0 x1 x2 x3 x4 x5 t) := by
  unfold execBarAtomic
  (repeat' split) <;> simp (maxDischargeDepth := 60) [h]

@[simp] theorem keeps_aptWrite (x0) (x1) {s t : State} (h : Keeps s t) : Keeps s (@aptWrite x0 x1 t) := by
  unfold aptWrite
  simp (maxDischargeDepth := 60) [h]

@[simp] theorem keeps_execApertureEnable (x0) (x1) {s t : State} (h : Keeps s t) : ResKeeps s (@execApertureEnable x0 x1 t) := by
  unfold execApertureEnable
  simp (maxDischargeDepth := 60) [h]

@[simp] theorem keeps_State_updDma (x1) (x2) {s t : State} (h : Keeps s t) : Keeps s (@State.updDma t x1 x2) := by
  unfold State.updDma
  simp (maxDischargeDepth := 60) [h]

@[simp] theorem keeps_dmaSettle (x0) {s t : State} (h : Keeps s t) : Keeps s (@dmaSettle x0 t) := by
  unfold dmaSettle
  simp (maxDischargeDepth := 60) [h]

@[simp] theorem keeps_dmaError (x0) (x1) {s t : State} (h : Keeps s t) : Keeps s (@dmaError x0 x1 t) := by
  unfold dmaError
  simp (maxDischargeDepth := 60) [h]

@[simp] theorem keeps_execDmaDescriptorFetch (x0) (x1) (x2) {s t : State} (h : Keeps s t) : ResKeeps s (@execDmaDescriptorFetch x0 x1 x2 t) := by
  unfold execDmaDescriptorFetch
  simp (maxDischargeDepth := 60) [h]

@[simp] theorem keeps_updDesc (x0) (x1) (x2) {s t : State} (h : Keeps s t) : Keeps s (@updDesc x0 x1 x2 t) := by
  unfold updDesc
  simp (maxDischargeDepth := 60) [h]

@[simp] theorem keeps_dmaWrite (x0) (x1) (x2) (x3) (x4) {s t : State} (h : Keeps s t) : Keeps s (@dmaWrite x0 x1 x2 x3 x4 t) := by
  unfold dmaWrite
  (repeat' split) <;> simp (maxDischargeDepth := 60) [h]

@[simp] theorem keeps_execDmaDescriptorStart (x0) {s t : State} (h : Keeps s t) : ResKeeps s (@execDmaDescriptorStart x0 t) := by
  unfold execDmaDescriptorStart
  try dsimp only
  (repeat' (first | split | (refine keeps_forL _ _ (fun x u => ?_) ?_) | (refine keeps_forN _ _ (fun x u => ?_) ?_) | (refine keeps_foldl2 _ (fun x u => ?_) _ _ ?_) | (refine keeps_foldl22 _ (fun x u => ?_) _ _ ?_))) <;> simp (maxDischargeDepth := 60) [h, -List.reduceReplicate]

@[simp] theorem keeps_dmaGot (x0) (x1) (x2) (x3) (x4) (x5) (x6) {s t : State} (h : Keeps s t) : Keeps s (@dmaGot x0 x1 x2 x3 x4 x5 x6 t) := by
  unfold dmaGot
  (repeat' split) <;> simp (maxDischargeDepth := 60) [h]

@[simp] theorem keeps_hostErr (x0) (x1) (x2) (x3) (x4) {s t : State} (h : Keeps s t) : Keeps s (@hostErr x0 x1 x2 x3 x4 t) := by
  unfold hostErr
  simp (maxDischargeDepth := 60) [h]

@[simp] theorem keeps_execHostCompletion (x0) (x1) (x2) (x3) (x4) (x5) (x6) {s t : State} (h : Keeps s t) : ResKeeps s (@execHostCompletion x0 x1 x2 x3 x4 x5 x6 t) := by
  unfold execHostCompletion
  (repeat' split) <;> simp (maxDischargeDepth := 60) [h]

@[simp] theorem keeps_execCompletionTimeout (x0) (x1) (x2) (x3) {s t : State} (h : Keeps s t) : ResKeeps s (@execCompletionTimeout x0 x1 x2 x3 t) := by
  unfold execCompletionTimeout
  (repeat' split) <;> simp (maxDischargeDepth := 60) [h]

@[simp] theorem keeps_execDmaCompletionWrite (x0) (x1) {s t : State} (h : Keeps s t) : ResKeeps s (@execDmaCompletionWrite x0 x1 t) := by
  unfold execDmaCompletionWrite
  try dsimp only
  (repeat' (first | split | (refine keeps_forL _ _ (fun x u => ?_) ?_) | (refine keeps_forN _ _ (fun x u => ?_) ?_) | (refine keeps_foldl2 _ (fun x u => ?_) _ _ ?_) | (refine keeps_foldl22 _ (fun x u => ?_) _ _ ?_))) <;> simp (maxDischargeDepth := 60) [h, -List.reduceReplicate]

@[simp] theorem keeps_dmaStop (x0) {s t : State} (h : Keeps s t) : Keeps s (@dmaStop x0 t) := by
  unfold dmaStop
  simp (maxDischargeDepth := 60) [h]

@[simp] theorem keeps_execDmaQueueStop (x0) {s t : State} (h : Keeps s t) : ResKeeps s (@execDmaQueueStop x0 t) := by
  unfold execDmaQueueStop
  simp (maxDischargeDepth := 60) [h]

@[simp] theorem keeps_msixSend (x0) {s t : State} (h : Keeps s t) : Keeps s (@msixSend x0 t) := by
  unfold msixSend
  simp (maxDischargeDepth := 60) [h]

@[simp] theorem keeps_msixDrain {s t : State} (h : Keeps s t) : Keeps s (@msixDrain t) := by
  unfold msixDrain
  simp (maxDischargeDepth := 60) [h]

@[simp] theorem keeps_execMsixMessage (x0) {s t : State} (h : Keeps s t) : ResKeeps s (@execMsixMessage x0 t) := by
  unfold execMsixMessage
  simp (maxDischargeDepth := 60) [h]

@[simp] theorem keeps_execMsixUnmask (x0) (x1) (x2) {s t : State} (h : Keeps s t) : ResKeeps s (@execMsixUnmask x0 x1 x2 t) := by
  unfold execMsixUnmask
  simp (maxDischargeDepth := 60) [h]

@[simp] theorem keeps_pcieDrop {s t : State} (h : Keeps s t) : Keeps s (@pcieDrop t) := by
  unfold pcieDrop
  simp (maxDischargeDepth := 60) [h]

@[simp] theorem keeps_pcieReset {s t : State} (h : Keeps s t) : Keeps s (@pcieReset t) := by
  unfold pcieReset
  simp (maxDischargeDepth := 60) [h]

@[simp] theorem keeps_pcieLinkDown {s t : State} (h : Keeps s t) : Keeps s (@pcieLinkDown t) := by
  unfold pcieLinkDown
  simp (maxDischargeDepth := 60) [h]

@[simp] theorem keeps_execPcieLinkUp (x0) (x1) (x2) {s t : State} (h : Keeps s t) : ResKeeps s (@execPcieLinkUp x0 x1 x2 t) := by
  unfold execPcieLinkUp
  simp (maxDischargeDepth := 60) [h]

@[simp] theorem keeps_execPerstN {s t : State} (h : Keeps s t) : ResKeeps s (@execPerstN t) := by
  unfold execPerstN
  simp (maxDischargeDepth := 60) [h]

@[simp] theorem keeps_execHotReset {s t : State} (h : Keeps s t) : ResKeeps s (@execHotReset t) := by
  unfold execHotReset
  simp (maxDischargeDepth := 60) [h]

@[simp] theorem keeps_execFunctionLevelReset {s t : State} (h : Keeps s t) : ResKeeps s (@execFunctionLevelReset t) := by
  unfold execFunctionLevelReset
  simp (maxDischargeDepth := 60) [h]

@[simp] theorem keeps_execD3hot {s t : State} (h : Keeps s t) : ResKeeps s (@execD3hot t) := by
  unfold execD3hot
  simp (maxDischargeDepth := 60) [h]

@[simp] theorem keeps_execD0Return {s t : State} (h : Keeps s t) : ResKeeps s (@execD0Return t) := by
  unfold execD0Return
  simp (maxDischargeDepth := 60) [h]

@[simp] theorem keeps_State_updReed (x1) {s t : State} (h : Keeps s t) : Keeps s (@State.updReed t x1) := by
  unfold State.updReed
  simp (maxDischargeDepth := 60) [h]

@[simp] theorem keeps_reedSend (x0) (x1) {s t : State} (h : Keeps s t) : Keeps s (@reedSend x0 x1 t) := by
  unfold reedSend
  simp (maxDischargeDepth := 60) [h]

@[simp] theorem keeps_reedAck (x0) (x1) {s t : State} (h : Keeps s t) : Keeps s (@reedAck x0 x1 t) := by
  unfold reedAck
  simp (maxDischargeDepth := 60) [h]

@[simp] theorem keeps_execReedResendTimeout (x0) {s t : State} (h : Keeps s t) : ResKeeps s (@execReedResendTimeout x0 t) := by
  unfold execReedResendTimeout
  simp (maxDischargeDepth := 60) [h]

@[simp] theorem keeps_upSend (x0) {s t : State} (h : Keeps s t) : Keeps s (@upSend x0 t) := by
  unfold upSend
  simp (maxDischargeDepth := 60) [h]

@[simp] theorem keeps_downAll (x0) {s t : State} (h : Keeps s t) : Keeps s (@downAll x0 t) := by
  unfold downAll
  simp (maxDischargeDepth := 60) [h]

@[simp] theorem keeps_treeFlood (x0) (x1) {s t : State} (h : Keeps s t) : Keeps s (@treeFlood x0 x1 t) := by
  unfold treeFlood
  simp (maxDischargeDepth := 60) [h]

@[simp] theorem keeps_newOpid (x0) {s t : State} (h : Keeps s t) : Keeps s (@newOpid x0 t).2 := by
  unfold newOpid
  simp (maxDischargeDepth := 60) [h]

@[simp] theorem keeps_slotDone (x0) (x1) (x2) (x3) {s t : State} (h : Keeps s t) : Keeps s (@slotDone x0 x1 x2 x3 t) := by
  unfold slotDone
  simp (maxDischargeDepth := 60) [h]

@[simp] theorem keeps_opDone (x0) (x1) (x2) {s t : State} (h : Keeps s t) : Keeps s (@opDone x0 x1 x2 t) := by
  unfold opDone
  (repeat' split) <;> simp (maxDischargeDepth := 60) [h]

@[simp] theorem keeps_collFinish (x0) (x1) {s t : State} (h : Keeps s t) : Keeps s (@collFinish x0 x1 t) := by
  unfold collFinish
  simp (maxDischargeDepth := 60) [h]

@[simp] theorem keeps_collTry (x0) {s t : State} (h : Keeps s t) : Keeps s (@collTry x0 t) := by
  unfold collTry
  (repeat' split) <;> simp (maxDischargeDepth := 60) [h]

@[simp] theorem keeps_collUpd (x0) (x1) {s t : State} (h : Keeps s t) : Keeps s (@collUpd x0 x1 t) := by
  unfold collUpd
  simp (maxDischargeDepth := 60) [h]

@[simp] theorem keeps_collUp (x0) (x1) {s t : State} (h : Keeps s t) : Keeps s (@collUp x0 x1 t) := by
  unfold collUp
  simp (maxDischargeDepth := 60) [h]

@[simp] theorem keeps_collDown (x0) {s t : State} (h : Keeps s t) : Keeps s (@collDown x0 t) := by
  unfold collDown
  try dsimp only
  (repeat' (first | split | (refine keeps_forL _ _ (fun x u => ?_) ?_) | (refine keeps_forN _ _ (fun x u => ?_) ?_) | (refine keeps_foldl2 _ (fun x u => ?_) _ _ ?_) | (refine keeps_foldl22 _ (fun x u => ?_) _ _ ?_))) <;> simp (maxDischargeDepth := 60) [h, -List.reduceReplicate]

@[simp] theorem keeps_collGo (x0) {s t : State} (h : Keeps s t) : Keeps s (@collGo x0 t) := by
  unfold collGo
  simp (maxDischargeDepth := 60) [h]

@[simp] theorem keeps_execReedCollectiveTimeout (x0) {s t : State} (h : Keeps s t) : ResKeeps s (@execReedCollectiveTimeout x0 t) := by
  unfold execReedCollectiveTimeout
  simp (maxDischargeDepth := 60) [h]

@[simp] theorem keeps_bcGo (x0) {s t : State} (h : Keeps s t) : Keeps s (@bcGo x0 t) := by
  unfold bcGo
  simp (maxDischargeDepth := 60) [h]

@[simp] theorem keeps_bcTake (x0) {s t : State} (h : Keeps s t) : Keeps s (@bcTake x0 t) := by
  unfold bcTake
  simp (maxDischargeDepth := 60) [h]

@[simp] theorem keeps_bcDown (x0) {s t : State} (h : Keeps s t) : Keeps s (@bcDown x0 t) := by
  unfold bcDown
  simp (maxDischargeDepth := 60) [h]

@[simp] theorem keeps_bcRead (x0) (x1) (x2) (x3) {s t : State} (h : Keeps s t) : Keeps s (@bcRead x0 x1 x2 x3 t) := by
  unfold bcRead
  simp (maxDischargeDepth := 60) [h]

@[simp] theorem keeps_execBroadcastRingWrite {s t : State} (h : Keeps s t) : ResKeeps s (@execBroadcastRingWrite t) := by
  unfold execBroadcastRingWrite
  try dsimp only
  (repeat' (first | split | (refine keeps_forL _ _ (fun x u => ?_) ?_) | (refine keeps_forN _ _ (fun x u => ?_) ?_) | (refine keeps_foldl2 _ (fun x u => ?_) _ _ ?_) | (refine keeps_foldl22 _ (fun x u => ?_) _ _ ?_))) <;> simp (maxDischargeDepth := 60) [h, -List.reduceReplicate]

@[simp] theorem keeps_ringArrived (x0) {s t : State} (h : Keeps s t) : Keeps s (@ringArrived x0 t) := by
  unfold ringArrived
  (repeat' split) <;> simp (maxDischargeDepth := 60) [h]

@[simp] theorem keeps_opGone (x0) {s t : State} (h : Keeps s t) : Keeps s (@opGone x0 t) := by
  unfold opGone
  simp (maxDischargeDepth := 60) [h]

@[simp] theorem keeps_snapFire (x0) (x1) {s t : State} (h : Keeps s t) : Keeps s (@snapFire x0 x1 t) := by
  unfold snapFire
  simp (maxDischargeDepth := 60) [h]

@[simp] theorem keeps_schedTake (x0) {s t : State} (h : Keeps s t) : Keeps s (@schedTake x0 t) := by
  unfold schedTake
  simp (maxDischargeDepth := 60) [h]

@[simp] theorem keeps_rootRefuse (x0) (x1) {s t : State} (h : Keeps s t) : Keeps s (@rootRefuse x0 x1 t) := by
  unfold rootRefuse
  simp (maxDischargeDepth := 60) [h]

@[simp] theorem keeps_rootSched (x0) (x1) {s t : State} (h : Keeps s t) : Keeps s (@rootSched x0 x1 t) := by
  unfold rootSched
  simp (maxDischargeDepth := 60) [h]

@[simp] theorem keeps_schedGo (x0) {s t : State} (h : Keeps s t) : Keeps s (@schedGo x0 t) := by
  unfold schedGo
  simp (maxDischargeDepth := 60) [h]

@[simp] theorem keeps_modeUpd (x0) (x1) {s t : State} (h : Keeps s t) : Keeps s (@modeUpd x0 x1 t) := by
  unfold modeUpd
  simp (maxDischargeDepth := 60) [h]

@[simp] theorem keeps_modeReport (x0) {s t : State} (h : Keeps s t) : Keeps s (@modeReport x0 t) := by
  unfold modeReport
  simp (maxDischargeDepth := 60) [h]

@[simp] theorem keeps_modeProgress {s t : State} (h : Keeps s t) : Keeps s (@modeProgress t) := by
  unfold modeProgress
  simp (maxDischargeDepth := 60) [h]

@[simp] theorem keeps_modeArm (x0) {s t : State} (h : Keeps s t) : Keeps s (@modeArm x0 t) := by
  unfold modeArm
  simp (maxDischargeDepth := 60) [h]

@[simp] theorem keeps_rootMode (x0) (x1) {s t : State} (h : Keeps s t) : Keeps s (@rootMode x0 x1 t) := by
  unfold rootMode
  simp (maxDischargeDepth := 60) [h]

@[simp] theorem keeps_modeGo (x0) {s t : State} (h : Keeps s t) : Keeps s (@modeGo x0 t) := by
  unfold modeGo
  simp (maxDischargeDepth := 60) [h]

@[simp] theorem keeps_modeDecided (x0) (x1) {s t : State} (h : Keeps s t) : Keeps s (@modeDecided x0 x1 t) := by
  unfold modeDecided
  (repeat' split) <;> simp (maxDischargeDepth := 60) [h]

@[simp] theorem keeps_modeDecide (x0) {s t : State} (h : Keeps s t) : Keeps s (@modeDecide x0 t) := by
  unfold modeDecide
  simp (maxDischargeDepth := 60) [h]

@[simp] theorem keeps_modeFinish (x0) (x1) (x2) {s t : State} (h : Keeps s t) : Keeps s (@modeFinish x0 x1 x2 t) := by
  unfold modeFinish
  simp (maxDischargeDepth := 60) [h]

@[simp] theorem keeps_modeOutcome (x0) {s t : State} (h : Keeps s t) : Keeps s (@modeOutcome x0 t) := by
  unfold modeOutcome
  simp (maxDischargeDepth := 60) [h]

@[simp] theorem keeps_modeOutcomes {s t : State} (h : Keeps s t) : Keeps s (@modeOutcomes t) := by
  unfold modeOutcomes
  simp (maxDischargeDepth := 60) [h]

@[simp] theorem keeps_reedGo (x0) {s t : State} (h : Keeps s t) : Keeps s (@reedGo x0 t) := by
  unfold reedGo
  (repeat' split) <;> simp (maxDischargeDepth := 60) [h]

@[simp] theorem keeps_reedGoAs (x0) (x1) {s t : State} (h : Keeps s t) : Keeps s (@reedGoAs x0 x1 t) := by
  unfold reedGoAs
  simp (maxDischargeDepth := 60) [h]

@[simp] theorem keeps_execReedBarrier (x0) {s t : State} (h : Keeps s t) : ResKeeps s (@execReedBarrier x0 t) := by
  unfold execReedBarrier
  simp (maxDischargeDepth := 60) [h]

@[simp] theorem keeps_execReedBroadcast (x0) {s t : State} (h : Keeps s t) : ResKeeps s (@execReedBroadcast x0 t) := by
  unfold execReedBroadcast
  simp (maxDischargeDepth := 60) [h]

@[simp] theorem keeps_execReedReduce (x0) {s t : State} (h : Keeps s t) : ResKeeps s (@execReedReduce x0 t) := by
  unfold execReedReduce
  simp (maxDischargeDepth := 60) [h]

@[simp] theorem keeps_execReedSnapshot (x0) {s t : State} (h : Keeps s t) : ResKeeps s (@execReedSnapshot x0 t) := by
  unfold execReedSnapshot
  simp (maxDischargeDepth := 60) [h]

@[simp] theorem keeps_execReedReset (x0) {s t : State} (h : Keeps s t) : ResKeeps s (@execReedReset x0 t) := by
  unfold execReedReset
  simp (maxDischargeDepth := 60) [h]

@[simp] theorem keeps_execReedMode (x0) {s t : State} (h : Keeps s t) : ResKeeps s (@execReedMode x0 t) := by
  unfold execReedMode
  simp (maxDischargeDepth := 60) [h]

@[simp] theorem keeps_execModeSoftwareReady {s t : State} (h : Keeps s t) : ResKeeps s (@execModeSoftwareReady t) := by
  unfold execModeSoftwareReady
  simp (maxDischargeDepth := 60) [h]

@[simp] theorem keeps_takeSchedule (x0) {s t : State} (h : Keeps s t) : Keeps s (@takeSchedule x0 t) := by
  unfold takeSchedule
  simp (maxDischargeDepth := 60) [h]

@[simp] theorem keeps_tbMeasure (x0) (x1) {s t : State} (h : Keeps s t) : Keeps s (@tbMeasure x0 x1 t) := by
  unfold tbMeasure
  simp (maxDischargeDepth := 60) [h]

@[simp] theorem keeps_execTbCalibration (x0) {s t : State} (h : Keeps s t) : ResKeeps s (@execTbCalibration x0 t) := by
  unfold execTbCalibration
  simp (maxDischargeDepth := 60) [h]

@[simp] theorem keeps_tbResync {s t : State} (h : Keeps s t) : Keeps s (@tbResync t) := by
  unfold tbResync
  simp (maxDischargeDepth := 60) [h]

@[simp] theorem keeps_execTbResync {s t : State} (h : Keeps s t) : ResKeeps s (@execTbResync t) := by
  unfold execTbResync
  simp (maxDischargeDepth := 60) [h]

@[simp] theorem keeps_symUp (x0) (x1) {s t : State} (h : Keeps s t) : Keeps s (@symUp x0 x1 t) := by
  unfold symUp
  (repeat' split) <;> simp (maxDischargeDepth := 60) [h]

@[simp] theorem keeps_symDown (x0) (x1) {s t : State} (h : Keeps s t) : Keeps s (@symDown x0 x1 t) := by
  unfold symDown
  try dsimp only
  (repeat' (first | split | (refine keeps_forL _ _ (fun x u => ?_) ?_) | (refine keeps_forN _ _ (fun x u => ?_) ?_) | (refine keeps_foldl2 _ (fun x u => ?_) _ _ ?_) | (refine keeps_foldl22 _ (fun x u => ?_) _ _ ?_))) <;> simp (maxDischargeDepth := 60) [h, -List.reduceReplicate]

@[simp] theorem keeps_reedReceive (x0) (x1) (x2) {s t : State} (h : Keeps s t) : Keeps s (@reedReceive x0 x1 x2 t) := by
  unfold reedReceive
  try dsimp only
  (repeat' (first | split | (refine keeps_forL _ _ (fun x u => ?_) ?_) | (refine keeps_forN _ _ (fun x u => ?_) ?_) | (refine keeps_foldl2 _ (fun x u => ?_) _ _ ?_) | (refine keeps_foldl22 _ (fun x u => ?_) _ _ ?_))) <;> simp (maxDischargeDepth := 60) [h, -List.reduceReplicate]

@[simp] theorem keeps_execReedSymbolReceive (x0) (x1) (x2) {s t : State} (h : Keeps s t) : ResKeeps s (@execReedSymbolReceive x0 x1 x2 t) := by
  unfold execReedSymbolReceive
  simp (maxDischargeDepth := 60) [h]

@[simp] theorem keeps_reedTreeChange {s t : State} (h : Keeps s t) : Keeps s (@reedTreeChange t) := by
  unfold reedTreeChange
  try dsimp only
  (repeat' (first | split | (refine keeps_forL _ _ (fun x u => ?_) ?_) | (refine keeps_forN _ _ (fun x u => ?_) ?_) | (refine keeps_foldl2 _ (fun x u => ?_) _ _ ?_) | (refine keeps_foldl22 _ (fun x u => ?_) _ _ ?_))) <;> simp (maxDischargeDepth := 60) [h, -List.reduceReplicate]

@[simp] theorem keeps_mpClockBack (x0) {s t : State} (h : Keeps s t) : Keeps s (@mpClockBack x0 t) := by
  unfold mpClockBack
  simp (maxDischargeDepth := 60) [h]

@[simp] theorem keeps_domResumed (x0) {s t : State} (h : Keeps s t) : Keeps s (@domResumed x0 t) := by
  unfold domResumed
  simp (maxDischargeDepth := 60) [h]

@[simp] theorem keeps_execDomainFailoverRestart (x0) {s t : State} (h : Keeps s t) : ResKeeps s (@execDomainFailoverRestart x0 t) := by
  unfold execDomainFailoverRestart
  simp (maxDischargeDepth := 60) [h]

@[simp] theorem keeps_memClockLost {s t : State} (h : Keeps s t) : Keeps s (@memClockLost t) := by
  unfold memClockLost
  simp (maxDischargeDepth := 60) [h]

@[simp] theorem keeps_domFail (x0) {s t : State} (h : Keeps s t) : Keeps s (@domFail x0 t) := by
  unfold domFail
  simp (maxDischargeDepth := 60) [h]

@[simp] theorem keeps_domSrcFail (x0) (x1) {s t : State} (h : Keeps s t) : Keeps s (@domSrcFail x0 x1 t) := by
  unfold domSrcFail
  simp (maxDischargeDepth := 60) [h]

@[simp] theorem keeps_domsFail (x0) {s t : State} (h : Keeps s t) : Keeps s (@domsFail x0 t) := by
  unfold domsFail
  simp (maxDischargeDepth := 60) [h]

@[simp] theorem keeps_srcFailed (x0) {s t : State} (h : Keeps s t) : Keeps s (@srcFailed x0 t) := by
  unfold srcFailed
  simp (maxDischargeDepth := 60) [h]

@[simp] theorem keeps_lineFail (x0) {s t : State} (h : Keeps s t) : Keeps s (@lineFail x0 t) := by
  unfold lineFail
  simp (maxDischargeDepth := 60) [h]

@[simp] theorem keeps_glinesFail (x0) {s t : State} (h : Keeps s t) : Keeps s (@glinesFail x0 t) := by
  unfold glinesFail
  simp (maxDischargeDepth := 60) [h]

@[simp] theorem keeps_fpllFail (x0) {s t : State} (h : Keeps s t) : Keeps s (@fpllFail x0 t) := by
  unfold fpllFail
  simp (maxDischargeDepth := 60) [h]

@[simp] theorem keeps_fpllsFail (x0) {s t : State} (h : Keeps s t) : Keeps s (@fpllsFail x0 t) := by
  unfold fpllsFail
  simp (maxDischargeDepth := 60) [h]

@[simp] theorem keeps_spllFail (x0) {s t : State} (h : Keeps s t) : Keeps s (@spllFail x0 t) := by
  unfold spllFail
  simp (maxDischargeDepth := 60) [h]

@[simp] theorem keeps_tbFail {s t : State} (h : Keeps s t) : Keeps s (@tbFail t) := by
  unfold tbFail
  simp (maxDischargeDepth := 60) [h]

@[simp] theorem keeps_xtalFail {s t : State} (h : Keeps s t) : Keeps s (@xtalFail t) := by
  unfold xtalFail
  simp (maxDischargeDepth := 60) [h]

@[simp] theorem keeps_quadLost (x0) {s t : State} (h : Keeps s t) : Keeps s (@quadLost x0 t) := by
  unfold quadLost
  simp (maxDischargeDepth := 60) [h]

@[simp] theorem keeps_laneClockFail (x0) {s t : State} (h : Keeps s t) : Keeps s (@laneClockFail x0 t) := by
  unfold laneClockFail
  simp (maxDischargeDepth := 60) [h]

@[simp] theorem keeps_State_freeField (x1) (x2) (x3) {s t : State} (h : Keeps s t) : Keeps s (@State.freeField t x1 x2 x3) := by
  unfold State.freeField
  simp (maxDischargeDepth := 60) [h]

@[simp] theorem keeps_unitScramble (x0) (x1) {s t : State} (h : Keeps s t) : Keeps s (@unitScramble x0 x1 t) := by
  unfold unitScramble
  simp (maxDischargeDepth := 60) [h]

@[simp] theorem keeps_State_freeMap (x1) {s t : State} (h : Keeps s t) : Keeps s (@State.freeMap t x1).2 := by
  unfold State.freeMap
  simp (maxDischargeDepth := 60) [h]

@[simp] theorem keeps_ccScramble (x0) {s t : State} (h : Keeps s t) : Keeps s (@ccScramble x0 t) := by
  unfold ccScramble
  simp (maxDischargeDepth := 60) [h]

@[simp] theorem keeps_scScramble (x0) {s t : State} (h : Keeps s t) : Keeps s (@scScramble x0 t) := by
  unfold scScramble
  simp (maxDischargeDepth := 60) [h]

@[simp] theorem keeps_domScramble (x0) {s t : State} (h : Keeps s t) : Keeps s (@domScramble x0 t) := by
  unfold domScramble
  simp (maxDischargeDepth := 60) [h]

@[simp] theorem keeps_sliceScramble (b k : Nat) {s t : State} (h : Keeps s t) : Keeps s (sliceScramble b k t) := by
  unfold sliceScramble
  extract_lets r x
  exact (keeps_mk r.2).2 (by simp [r, h])

@[simp] theorem keeps_blockScramble (x0) (x1) (x2) {s t : State} (h : Keeps s t) : Keeps s (@blockScramble x0 x1 x2 t) := by
  unfold blockScramble
  simp (maxDischargeDepth := 60) [h]

@[simp] theorem keeps_bayScramble (x0) (x1) {s t : State} (h : Keeps s t) : Keeps s (@bayScramble x0 x1 t) := by
  unfold bayScramble
  simp (maxDischargeDepth := 60) [h]

@[simp] theorem keeps_lineScramble (x0) {s t : State} (h : Keeps s t) : Keeps s (@lineScramble x0 t) := by
  unfold lineScramble
  simp (maxDischargeDepth := 60) [h]

@[simp] theorem keeps_srcScramble (x0) {s t : State} (h : Keeps s t) : Keeps s (@srcScramble x0 t) := by
  unfold srcScramble
  simp (maxDischargeDepth := 60) [h]

@[simp] theorem keeps_execClockSourceFail (n : Nat) (pulse : Bool) {s t : State} (h : Keeps s t) : ResKeeps s (execClockSourceFail n pulse t) := by
  unfold execClockSourceFail
  refine resKeeps_next.2 ?_
  split
  · exact h
  extract_lets s0 s1
  have k0 : Keeps s s0 := by
    simp only [s0]; split <;> simp [h]
  clear_value s0
  have kl : Keeps s (forN 48 (fun q s => if refRoot s0 16 q = n - 36 then quadLost q s else s)
      ((s0.setFlag F.QREF_GOOD_GOOD 0 0 (n - 36) false).setFlag F.QREF_FAILEVT_FAIL 0 0 (n - 36))) :=
    keeps_forN _ _ (fun q u => by split <;> simp) (by simp [k0])
  have k1 : Keeps s s1 :=
    .ite (by simp [k0]) (.ite (by simp [k0]) (.ite (by simp [k0]) (.ite (by simp [k0]) (.ite (by simp [k0]) (.ite (by simp [k0])
      (.ite kl (.ite (by simp [k0]) (.ite (by simp [k0]) k0))))))))
  clear_value s1
  simp [k1]

@[simp] theorem keeps_clockReturned {s t : State} (h : Keeps s t) : Keeps s (@clockReturned t) := by
  unfold clockReturned
  simp (maxDischargeDepth := 60) [h]

@[simp] theorem keeps_execSourceJudgedGood (x0) {s t : State} (h : Keeps s t) : ResKeeps s (@execSourceJudgedGood x0 t) := by
  unfold execSourceJudgedGood
  simp (maxDischargeDepth := 60) [h]

@[simp] theorem keeps_execLineForceClr (x0) {s t : State} (h : Keeps s t) : ResKeeps s (@execLineForceClr x0 t) := by
  unfold execLineForceClr
  simp (maxDischargeDepth := 60) [h]

@[simp] theorem keeps_warpCfgWrite (x0) (x1) {s t : State} (h : Keeps s t) : Keeps s (@warpCfgWrite x0 x1 t) := by
  unfold warpCfgWrite
  simp (maxDischargeDepth := 60) [h]

@[simp] theorem keeps_execWarpPortEnable (x0) (x1) {s t : State} (h : Keeps s t) : ResKeeps s (@execWarpPortEnable x0 x1 t) := by
  unfold execWarpPortEnable
  simp (maxDischargeDepth := 60) [h]

@[simp] theorem keeps_execKeepaliveTimeout (x0) {s t : State} (h : Keeps s t) : ResKeeps s (@execKeepaliveTimeout x0 t) := by
  unfold execKeepaliveTimeout
  simp (maxDischargeDepth := 60) [h]

@[simp] theorem keeps_execLinkHoldExpiry (x0) {s t : State} (h : Keeps s t) : ResKeeps s (@execLinkHoldExpiry x0 t) := by
  unfold execLinkHoldExpiry
  simp (maxDischargeDepth := 60) [h]

@[simp] theorem keeps_sendFlit (x0) (x1) (x2) (x3) (x4) {s t : State} (h : Keeps s t) : Keeps s (@sendFlit x0 x1 x2 x3 x4 t) := by
  unfold sendFlit
  simp (maxDischargeDepth := 60) [h]

@[simp] theorem keeps_sendSeq (x0) (x1) (x2) {s t : State} (h : Keeps s t) : Keeps s (@sendSeq x0 x1 x2 t) := by
  unfold sendSeq
  simp (maxDischargeDepth := 60) [h]

@[simp] theorem keeps_execWarpFlitSend (x0) {s t : State} (h : Keeps s t) : ResKeeps s (@execWarpFlitSend x0 t) := by
  unfold execWarpFlitSend
  try dsimp only
  (repeat' (first | split | (refine keeps_forL _ _ (fun x u => ?_) ?_) | (refine keeps_forN _ _ (fun x u => ?_) ?_) | (refine keeps_foldl2 _ (fun x u => ?_) _ _ ?_) | (refine keeps_foldl22 _ (fun x u => ?_) _ _ ?_))) <;> simp (maxDischargeDepth := 60) [h, -List.reduceReplicate]

@[simp] theorem keeps_warpEnter (x0) (x1) {s t : State} (h : Keeps s t) : Keeps s (@warpEnter x0 x1 t) := by
  unfold warpEnter
  simp (maxDischargeDepth := 60) [h]

@[simp] theorem keeps_warpAssemble (x0) (x1) {s t : State} (h : Keeps s t) : Keeps s (@warpAssemble x0 x1 t) := by
  unfold warpAssemble
  try dsimp only
  (repeat' (first | split | (refine keeps_forL _ _ (fun x u => ?_) ?_) | (refine keeps_forN _ _ (fun x u => ?_) ?_) | (refine keeps_foldl2 _ (fun x u => ?_) _ _ ?_) | (refine keeps_foldl22 _ (fun x u => ?_) _ _ ?_))) <;> simp (maxDischargeDepth := 60) [h, -List.reduceReplicate]

@[simp] theorem keeps_warpDrain (x0) {s t : State} (h : Keeps s t) : Keeps s (@warpDrain x0 t) := by
  unfold warpDrain
  simp (maxDischargeDepth := 60) [h]

@[simp] theorem keeps_warpSlot (x0) (x1) (x2) {s t : State} (h : Keeps s t) : Keeps s (@warpSlot x0 x1 x2 t) := by
  unfold warpSlot
  (repeat' split) <;> simp (maxDischargeDepth := 60) [h]

@[simp] theorem keeps_recvHello (x0) (x1) {s t : State} (h : Keeps s t) : Keeps s (@recvHello x0 x1 t) := by
  unfold recvHello
  simp (maxDischargeDepth := 60) [h]

@[simp] theorem keeps_recvRecord (x0) (x1) {s t : State} (h : Keeps s t) : Keeps s (@recvRecord x0 x1 t) := by
  unfold recvRecord
  simp (maxDischargeDepth := 60) [h]

@[simp] theorem keeps_acceptFlit (x0) (x1) (x2) {s t : State} (h : Keeps s t) : Keeps s (@acceptFlit x0 x1 x2 t) := by
  unfold acceptFlit
  try dsimp only
  (repeat' (first | split | (refine keeps_forL _ _ (fun x u => ?_) ?_) | (refine keeps_forN _ _ (fun x u => ?_) ?_) | (refine keeps_foldl2 _ (fun x u => ?_) _ _ ?_) | (refine keeps_foldl22 _ (fun x u => ?_) _ _ ?_))) <;> simp (maxDischargeDepth := 60) [h, -List.reduceReplicate]

@[simp] theorem keeps_wantRetry (x0) {s t : State} (h : Keeps s t) : Keeps s (@wantRetry x0 t) := by
  unfold wantRetry
  simp (maxDischargeDepth := 60) [h]

@[simp] theorem keeps_takeAck (x0) (x1) {s t : State} (h : Keeps s t) : Keeps s (@takeAck x0 x1 t) := by
  unfold takeAck
  simp (maxDischargeDepth := 60) [h]

@[simp] theorem keeps_takeRetry (x0) (x1) {s t : State} (h : Keeps s t) : Keeps s (@takeRetry x0 x1 t) := by
  unfold takeRetry
  simp (maxDischargeDepth := 60) [h]

@[simp] theorem keeps_takeReed (x0) (x1) (x2) {s t : State} (h : Keeps s t) : Keeps s (@takeReed x0 x1 x2 t) := by
  unfold takeReed
  simp (maxDischargeDepth := 60) [h]

@[simp] theorem keeps_execWarpFlitReceive (x0) (x1) {s t : State} (h : Keeps s t) : ResKeeps s (@execWarpFlitReceive x0 x1 t) := by
  unfold execWarpFlitReceive
  (repeat' split) <;> simp (maxDischargeDepth := 60) [h]

@[simp] theorem keeps_discStart {s t : State} (h : Keeps s t) : Keeps s (@discStart t) := by
  unfold discStart
  simp (maxDischargeDepth := 60) [h]

@[simp] theorem keeps_execDiscoveryStart {s t : State} (h : Keeps s t) : ResKeeps s (@execDiscoveryStart t) := by
  unfold execDiscoveryStart
  simp (maxDischargeDepth := 60) [h]

@[simp] theorem keeps_setRoute (x0) (x1) (x2) {s t : State} (h : Keeps s t) : Keeps s (@setRoute x0 x1 x2 t) := by
  unfold setRoute
  simp (maxDischargeDepth := 60) [h]

@[simp] theorem keeps_leaveTree {s t : State} (h : Keeps s t) : Keeps s (@leaveTree t) := by
  unfold leaveTree
  simp (maxDischargeDepth := 60) [h]

@[simp] theorem keeps_dropRoutes {s t : State} (h : Keeps s t) : Keeps s (@dropRoutes t) := by
  unfold dropRoutes
  simp (maxDischargeDepth := 60) [h]

@[simp] theorem keeps_isolate {s t : State} (h : Keeps s t) : Keeps s (@isolate t) := by
  unfold isolate
  simp (maxDischargeDepth := 60) [h]

@[simp] theorem keeps_sysReject (x0) (x1) {s t : State} (h : Keeps s t) : Keeps s (@sysReject x0 x1 t) := by
  unfold sysReject
  simp (maxDischargeDepth := 60) [h]

@[simp] theorem keeps_tbFollow (x0) (x1) {s t : State} (h : Keeps s t) : Keeps s (@tbFollow x0 x1 t) := by
  unfold tbFollow
  simp (maxDischargeDepth := 60) [h]

@[simp] theorem keeps_settleMember (x0) (x1) (x2) {s t : State} (h : Keeps s t) : Keeps s (@settleMember x0 x1 x2 t) := by
  unfold settleMember
  simp (maxDischargeDepth := 60) [h]

@[simp] theorem keeps_execSettle {s t : State} (h : Keeps s t) : ResKeeps s (@execSettle t) := by
  unfold execSettle
  try dsimp only
  (repeat' (first | split | (refine keeps_forL _ _ (fun x u => ?_) ?_) | (refine keeps_forN _ _ (fun x u => ?_) ?_) | (refine keeps_foldl2 _ (fun x u => ?_) _ _ ?_) | (refine keeps_foldl22 _ (fun x u => ?_) _ _ ?_))) <;> simp (maxDischargeDepth := 60) [h, -List.reduceReplicate]

@[simp] theorem keeps_execRouteDrainEnd {s t : State} (h : Keeps s t) : ResKeeps s (@execRouteDrainEnd t) := by
  unfold execRouteDrainEnd
  simp (maxDischargeDepth := 60) [h]

@[simp] theorem keeps_discRejoin {s t : State} (h : Keeps s t) : Keeps s (@discRejoin t) := by
  unfold discRejoin
  simp (maxDischargeDepth := 60) [h]

@[simp] theorem keeps_execRejoin {s t : State} (h : Keeps s t) : ResKeeps s (@execRejoin t) := by
  unfold execRejoin
  simp (maxDischargeDepth := 60) [h]

@[simp] theorem keeps_resetTo (k : ResetKind) {s t : State} (h : Keeps s t) : Keeps s (resetTo k t) :=
  ⟨h.1, fun w => SMap.wf_keep _ _ (h.2.1 w), fun w => SMap.wf_keep _ _ (h.2.2.1 w), fun w => SMap.wf_keep _ _ (h.2.2.2 w)⟩

@[simp] theorem keeps_privRaise {s t : State} (h : Keeps s t) : Keeps s (@privRaise t) := by
  unfold privRaise
  simp (maxDischargeDepth := 60) [h]

@[simp] theorem keeps_startUp (x0) {s t : State} (h : Keeps s t) : Keeps s (@startUp x0 t) := by
  unfold startUp
  simp (maxDischargeDepth := 60) [h]

@[simp] theorem keeps_deviceReset (x0) (x1) {s t : State} (h : Keeps s t) : Keeps s (@deviceReset x0 x1 t) := by
  unfold deviceReset
  (repeat' split) <;> simp (maxDischargeDepth := 60) [h]

@[simp] theorem keeps_mpPark (x0) {s t : State} (h : Keeps s t) : Keeps s (@mpPark x0 t) := by
  unfold mpPark
  (repeat' split) <;> simp (maxDischargeDepth := 60) [h]

@[simp] theorem keeps_dmaStopAll {s t : State} (h : Keeps s t) : Keeps s (@dmaStopAll t) := by
  unfold dmaStopAll
  simp (maxDischargeDepth := 60) [h]

@[simp] theorem keeps_warmReset (x0) {s t : State} (h : Keeps s t) : Keeps s (@warmReset x0 t) := by
  unfold warmReset
  simp (maxDischargeDepth := 60) [h]

@[simp] theorem keeps_reedReset {s t : State} (h : Keeps s t) : Keeps s (@reedReset t) := by
  unfold reedReset
  simp (maxDischargeDepth := 60) [h]

@[simp] theorem keeps_privTest (x0) (x1) {s t : State} (h : Keeps s t) : Keeps s (@privTest x0 x1 t) := by
  unfold privTest
  simp (maxDischargeDepth := 60) [h]

@[simp] theorem keeps_startTest (x0) {s t : State} (h : Keeps s t) : Keeps s (@startTest x0 t) := by
  unfold startTest
  simp (maxDischargeDepth := 60) [h]

@[simp] theorem keeps_goOff {s t : State} (h : Keeps s t) : Keeps s (@goOff t) := by
  unfold goOff
  simp (maxDischargeDepth := 60) [h]

@[simp] theorem keeps_execVinRise (x0) {s t : State} (h : Keeps s t) : ResKeeps s (@execVinRise x0 t) := by
  unfold execVinRise
  simp (maxDischargeDepth := 60) [h]

@[simp] theorem keeps_execVinLoss {s t : State} (h : Keeps s t) : ResKeeps s (@execVinLoss t) := by
  unfold execVinLoss
  simp (maxDischargeDepth := 60) [h]

@[simp] theorem keeps_powerOn (x0) (x1) {s t : State} (h : Keeps s t) : Keeps s (@powerOn x0 x1 t) := by
  unfold powerOn
  simp (maxDischargeDepth := 60) [h]

@[simp] theorem keeps_laneRailFault {s t : State} (h : Keeps s t) : Keeps s (@laneRailFault t) := by
  unfold laneRailFault
  simp (maxDischargeDepth := 60) [h]

@[simp] theorem keeps_execRailFault (x0) (x1) (x2) {s t : State} (h : Keeps s t) : ResKeeps s (@execRailFault x0 x1 x2 t) := by
  unfold execRailFault
  (repeat' split) <;> simp (maxDischargeDepth := 60) [h]

@[simp] theorem keeps_bankReady (x0) {s t : State} (h : Keeps s t) : Keeps s (@bankReady x0 t) := by
  unfold bankReady
  simp (maxDischargeDepth := 60) [h]

@[simp] theorem keeps_execRailRecovery (x0) (x1) {s t : State} (h : Keeps s t) : ResKeeps s (@execRailRecovery x0 x1 t) := by
  unfold execRailRecovery
  simp (maxDischargeDepth := 60) [h]

@[simp] theorem keeps_gpioVWrite (x0) (x1) {s t : State} (h : Keeps s t) : Keeps s (@gpioVWrite x0 x1 t) := by
  unfold gpioVWrite
  simp (maxDischargeDepth := 60) [h]

@[simp] theorem keeps_execPwrGpioVWrite (x0) (x1) {s t : State} (h : Keeps s t) : ResKeeps s (@execPwrGpioVWrite x0 x1 t) := by
  unfold execPwrGpioVWrite
  simp (maxDischargeDepth := 60) [h]

@[simp] theorem keeps_execGpioRailReady (x0) {s t : State} (h : Keeps s t) : ResKeeps s (@execGpioRailReady x0 t) := by
  unfold execGpioRailReady
  simp (maxDischargeDepth := 60) [h]

@[simp] theorem keeps_execPowerLimitExceeded (x0) {s t : State} (h : Keeps s t) : ResKeeps s (@execPowerLimitExceeded x0 t) := by
  unfold execPowerLimitExceeded
  simp (maxDischargeDepth := 60) [h]

@[simp] theorem keeps_execPowerLimitClear (x0) {s t : State} (h : Keeps s t) : ResKeeps s (@execPowerLimitClear x0 t) := by
  unfold execPowerLimitClear
  simp (maxDischargeDepth := 60) [h]

@[simp] theorem keeps_execOvercurrent (x0) (x1) {s t : State} (h : Keeps s t) : ResKeeps s (@execOvercurrent x0 x1 t) := by
  unfold execOvercurrent
  simp (maxDischargeDepth := 60) [h]

@[simp] theorem keeps_execThermalReset (x0) {s t : State} (h : Keeps s t) : ResKeeps s (@execThermalReset x0 t) := by
  unfold execThermalReset
  simp (maxDischargeDepth := 60) [h]

@[simp] theorem keeps_execThermalWarning (x0) {s t : State} (h : Keeps s t) : ResKeeps s (@execThermalWarning x0 t) := by
  unfold execThermalWarning
  simp (maxDischargeDepth := 60) [h]

@[simp] theorem keeps_execAvsStep (x0) (x1) {s t : State} (h : Keeps s t) : ResKeeps s (@execAvsStep x0 x1 t) := by
  unfold execAvsStep
  simp (maxDischargeDepth := 60) [h]

@[simp] theorem keeps_execVmaxReport (x0) {s t : State} (h : Keeps s t) : ResKeeps s (@execVmaxReport x0 t) := by
  unfold execVmaxReport
  simp (maxDischargeDepth := 60) [h]

@[simp] theorem keeps_bayRetain (x0) {s t : State} (h : Keeps s t) : Keeps s (@bayRetain x0 t) := by
  unfold bayRetain
  simp (maxDischargeDepth := 60) [h]

@[simp] theorem keeps_bayUnretain (x0) {s t : State} (h : Keeps s t) : Keeps s (@bayUnretain x0 t) := by
  unfold bayUnretain
  simp (maxDischargeDepth := 60) [h]

@[simp] theorem keeps_bayMove (x0) (x1) {s t : State} (h : Keeps s t) : Keeps s (@bayMove x0 x1 t) := by
  unfold bayMove
  simp (maxDischargeDepth := 60) [h]

@[simp] theorem keeps_bayReqWrite (x0) (x1) {s t : State} (h : Keeps s t) : Keeps s (@bayReqWrite x0 x1 t) := by
  unfold bayReqWrite
  simp (maxDischargeDepth := 60) [h]

@[simp] theorem keeps_execPwrBayReqWrite (x0) (x1) {s t : State} (h : Keeps s t) : ResKeeps s (@execPwrBayReqWrite x0 x1 t) := by
  unfold execPwrBayReqWrite
  simp (maxDischargeDepth := 60) [h]

@[simp] theorem keeps_bayArrive (x0) {s t : State} (h : Keeps s t) : Keeps s (@bayArrive x0 t) := by
  unfold bayArrive
  simp (maxDischargeDepth := 60) [h]

@[simp] theorem keeps_execBayPwrTransitionDone (x0) {s t : State} (h : Keeps s t) : ResKeeps s (@execBayPwrTransitionDone x0 t) := by
  unfold execBayPwrTransitionDone
  simp (maxDischargeDepth := 60) [h]

@[simp] theorem keeps_domStop (x0) {s t : State} (h : Keeps s t) : Keeps s (@domStop x0 t) := by
  unfold domStop
  simp (maxDischargeDepth := 60) [h]

@[simp] theorem keeps_sleepSteps (x0) (x1) {s t : State} (h : Keeps s t) : Keeps s (@sleepSteps x0 x1 t) := by
  unfold sleepSteps
  simp (maxDischargeDepth := 60) [h]

@[simp] theorem keeps_noteDeepest (x0) {s t : State} (h : Keeps s t) : Keeps s (@noteDeepest x0 t) := by
  unfold noteDeepest
  simp (maxDischargeDepth := 60) [h]

@[simp] theorem keeps_domWake (x0) {s t : State} (h : Keeps s t) : Keeps s (@domWake x0 t) := by
  unfold domWake
  simp (maxDischargeDepth := 60) [h]

@[simp] theorem keeps_wakeUp (x0) {s t : State} (h : Keeps s t) : Keeps s (@wakeUp x0 t) := by
  unfold wakeUp
  simp (maxDischargeDepth := 60) [h]

@[simp] theorem keeps_execDeviceSleepEntry (x0) (x1) {s t : State} (h : Keeps s t) : ResKeeps s (@execDeviceSleepEntry x0 x1 t) := by
  unfold execDeviceSleepEntry
  simp (maxDischargeDepth := 60) [h]

@[simp] theorem keeps_execDeviceOffEntry (x0) {s t : State} (h : Keeps s t) : ResKeeps s (@execDeviceOffEntry x0 t) := by
  unfold execDeviceOffEntry
  simp (maxDischargeDepth := 60) [h]

@[simp] theorem keeps_execWakeEvent (x0) {s t : State} (h : Keeps s t) : ResKeeps s (@execWakeEvent x0 t) := by
  unfold execWakeEvent
  simp (maxDischargeDepth := 60) [h]

@[simp] theorem keeps_execWakePin (x0) (x1) {s t : State} (h : Keeps s t) : ResKeeps s (@execWakePin x0 x1 t) := by
  unfold execWakePin
  (repeat' split) <;> simp (maxDischargeDepth := 60) [h]

@[simp] theorem keeps_execResetN (x0) {s t : State} (h : Keeps s t) : ResKeeps s (@execResetN x0 t) := by
  unfold execResetN
  simp (maxDischargeDepth := 60) [h]

@[simp] theorem keeps_warmWith (x0) (x1) {s t : State} (h : Keeps s t) : Keeps s (@warmWith x0 x1 t) := by
  unfold warmWith
  simp (maxDischargeDepth := 60) [h]

@[simp] theorem keeps_execWarmReset (x0) (x1) {s t : State} (h : Keeps s t) : ResKeeps s (@execWarmReset x0 x1 t) := by
  unfold execWarmReset
  simp (maxDischargeDepth := 60) [h]

@[simp] theorem keeps_wdtKick {s t : State} (h : Keeps s t) : Keeps s (@wdtKick t) := by
  unfold wdtKick
  simp (maxDischargeDepth := 60) [h]

@[simp] theorem keeps_execWdtKick {s t : State} (h : Keeps s t) : ResKeeps s (@execWdtKick t) := by
  unfold execWdtKick
  simp (maxDischargeDepth := 60) [h]

@[simp] theorem keeps_wdtCfgWrite (x0) {s t : State} (h : Keeps s t) : Keeps s (@wdtCfgWrite x0 t) := by
  unfold wdtCfgWrite
  simp (maxDischargeDepth := 60) [h]

@[simp] theorem keeps_execWatchdogExpiry (x0) {s t : State} (h : Keeps s t) : ResKeeps s (@execWatchdogExpiry x0 t) := by
  unfold execWatchdogExpiry
  (repeat' split) <;> simp (maxDischargeDepth := 60) [h]

@[simp] theorem keeps_setUnusable (x0) (x1) (x2) {s t : State} (h : Keeps s t) : Keeps s (@setUnusable x0 x1 x2 t) := by
  unfold setUnusable
  simp (maxDischargeDepth := 60) [h]

@[simp] theorem keeps_setCause (x0) (x1) (x2) {s t : State} (h : Keeps s t) : Keeps s (@setCause x0 x1 x2 t) := by
  unfold setCause
  (repeat' split) <;> simp (maxDischargeDepth := 60) [h]

@[simp] theorem keeps_retireUnit (x0) (x1) (x2) {s t : State} (h : Keeps s t) : Keeps s (@retireUnit x0 x1 x2 t) := by
  unfold retireUnit
  (repeat' split) <;> simp (maxDischargeDepth := 60) [h]

@[simp] theorem keeps_execHstateWrite (x0) (x1) {s t : State} (h : Keeps s t) : ResKeeps s (@execHstateWrite x0 x1 t) := by
  unfold execHstateWrite
  simp (maxDischargeDepth := 60) [h]

@[simp] theorem keeps_execUnusableWrite (x0) (x1) {s t : State} (h : Keeps s t) : ResKeeps s (@execUnusableWrite x0 x1 t) := by
  unfold execUnusableWrite
  simp (maxDischargeDepth := 60) [h]

@[simp] theorem keeps_consentWrite (x0) (x1) {s t : State} (h : Keeps s t) : Keeps s (@consentWrite x0 x1 t) := by
  unfold consentWrite
  simp (maxDischargeDepth := 60) [h]

@[simp] theorem keeps_execBayBistConsentWrite (x0) (x1) {s t : State} (h : Keeps s t) : ResKeeps s (@execBayBistConsentWrite x0 x1 t) := by
  unfold execBayBistConsentWrite
  simp (maxDischargeDepth := 60) [h]

@[simp] theorem keeps_bistReqWrite (x0) {s t : State} (h : Keeps s t) : Keeps s (@bistReqWrite x0 t) := by
  unfold bistReqWrite
  simp (maxDischargeDepth := 60) [h]

@[simp] theorem keeps_execBistRequest (x0) {s t : State} (h : Keeps s t) : ResKeeps s (@execBistRequest x0 t) := by
  unfold execBistRequest
  simp (maxDischargeDepth := 60) [h]

@[simp] theorem keeps_testBegin (x0) (x1) {s t : State} (h : Keeps s t) : Keeps s (@testBegin x0 x1 t) := by
  unfold testBegin
  (repeat' split) <;> simp (maxDischargeDepth := 60) [h]

@[simp] theorem keeps_testTake (x0) {s t : State} (h : Keeps s t) : Keeps s (@testTake x0 t) := by
  unfold testTake
  (repeat' split) <;> simp (maxDischargeDepth := 60) [h]

@[simp] theorem keeps_execBistTestStart {s t : State} (h : Keeps s t) : ResKeeps s (@execBistTestStart t) := by
  unfold execBistTestStart
  (repeat' split) <;> simp (maxDischargeDepth := 60) [h]

@[simp] theorem keeps_occFreeze (x0) {s t : State} (h : Keeps s t) : Keeps s (@occFreeze x0 t) := by
  unfold occFreeze
  (repeat' split) <;> simp (maxDischargeDepth := 60) [h]

@[simp] theorem keeps_occThaw (x0) {s t : State} (h : Keeps s t) : Keeps s (@occThaw x0 t) := by
  unfold occThaw
  (repeat' split) <;> simp (maxDischargeDepth := 60) [h]

@[simp] theorem keeps_occTested (x0) (x1) (x2) {s t : State} (h : Keeps s t) : Keeps s (@occTested x0 x1 x2 t) := by
  unfold occTested
  simp (maxDischargeDepth := 60) [h]

@[simp] theorem keeps_testApply (x0) (x1) {s t : State} (h : Keeps s t) : Keeps s (@testApply x0 x1 t) := by
  unfold testApply
  (repeat' split) <;> simp (maxDischargeDepth := 60) [h]

@[simp] theorem keeps_execBistTestEnd (x0) (x1) (x2) {s t : State} (h : Keeps s t) : ResKeeps s (@execBistTestEnd x0 x1 x2 t) := by
  unfold execBistTestEnd
  (repeat' split) <;> simp (maxDischargeDepth := 60) [h]

@[simp] theorem keeps_execBistAutoTick {s t : State} (h : Keeps s t) : ResKeeps s (@execBistAutoTick t) := by
  unfold execBistAutoTick
  (repeat' split) <;> simp (maxDischargeDepth := 60) [h]

@[simp] theorem keeps_warnSet (x0) (x1) (x2) {s t : State} (h : Keeps s t) : Keeps s (@warnSet x0 x1 x2 t) := by
  unfold warnSet
  (repeat' split) <;> simp (maxDischargeDepth := 60) [h]

@[simp] theorem keeps_execAgeingMeasurement (x0) (x1) (x2) (x3) {s t : State} (h : Keeps s t) : ResKeeps s (@execAgeingMeasurement x0 x1 x2 x3 t) := by
  unfold execAgeingMeasurement
  simp (maxDischargeDepth := 60) [h]

@[simp] theorem keeps_execGpioInputChange (x0) (x1) {s t : State} (h : Keeps s t) : ResKeeps s (@execGpioInputChange x0 x1 t) := by
  unfold execGpioInputChange
  simp (maxDischargeDepth := 60) [h]

@[simp] theorem keeps_gpioCfgWrite (x0) (x1) (x2) {s t : State} (h : Keeps s t) : Keeps s (@gpioCfgWrite x0 x1 x2 t) := by
  unfold gpioCfgWrite
  simp (maxDischargeDepth := 60) [h]

@[simp] theorem keeps_execGpioCfgWrite (x0) (x1) (x2) {s t : State} (h : Keeps s t) : ResKeeps s (@execGpioCfgWrite x0 x1 x2 t) := by
  unfold execGpioCfgWrite
  simp (maxDischargeDepth := 60) [h]

@[simp] theorem keeps_gpioTsetWrite (x0) (x1) (x2) {s t : State} (h : Keeps s t) : Keeps s (@gpioTsetWrite x0 x1 x2 t) := by
  unfold gpioTsetWrite
  simp (maxDischargeDepth := 60) [h]

@[simp] theorem keeps_execGpioTsetWrite (x0) (x1) (x2) {s t : State} (h : Keeps s t) : ResKeeps s (@execGpioTsetWrite x0 x1 x2 t) := by
  unfold execGpioTsetWrite
  simp (maxDischargeDepth := 60) [h]

@[simp] theorem keeps_execGpioFencedClear (x0) {s t : State} (h : Keeps s t) : ResKeeps s (@execGpioFencedClear x0 t) := by
  unfold execGpioFencedClear
  simp (maxDischargeDepth := 60) [h]

@[simp] theorem keeps_gpioPortEdge (x0) (x1) (x2) {s t : State} (h : Keeps s t) : Keeps s (@gpioPortEdge x0 x1 x2 t) := by
  unfold gpioPortEdge
  simp (maxDischargeDepth := 60) [h]

@[simp] theorem keeps_clusterUnit (x0) (x1) {s t : State} (h : Keeps s t) : Keeps s (@clusterUnit x0 x1 t) := by
  unfold clusterUnit
  simp (maxDischargeDepth := 60) [h]

@[simp] theorem keeps_groupEdge (x0) (x1) (x2) (x3) (x4) {s t : State} (h : Keeps s t) : Keeps s (@groupEdge x0 x1 x2 x3 x4 t) := by
  unfold groupEdge
  simp (maxDischargeDepth := 60) [h]

@[simp] theorem keeps_unitEdge (x0) (x1) {s t : State} (h : Keeps s t) : Keeps s (@unitEdge x0 x1 t) := by
  unfold unitEdge
  simp (maxDischargeDepth := 60) [h]

@[simp] theorem keeps_strobeEdge (x0) (x1) {s t : State} (h : Keeps s t) : Keeps s (@strobeEdge x0 x1 t) := by
  unfold strobeEdge
  simp (maxDischargeDepth := 60) [h]

@[simp] theorem keeps_edgeClose (x0) (x1) {s t : State} (h : Keeps s t) : Keeps s (@edgeClose x0 x1 t) := by
  unfold edgeClose
  simp (maxDischargeDepth := 60) [h]

@[simp] theorem keeps_execFlipFlopEdge (x0) (x1) (x2) (x3) (x4) {s t : State} (h : Keeps s t) : ResKeeps s (@execFlipFlopEdge x0 x1 x2 x3 x4 t) := by
  unfold execFlipFlopEdge
  simp (maxDischargeDepth := 60) [h]

@[simp] theorem keeps_stageLate (x0) {s t : State} (h : Keeps s t) : Keeps s (@stageLate x0 t) := by
  unfold stageLate
  simp (maxDischargeDepth := 60) [h]

@[simp] theorem keeps_unitTake (x0) {s t : State} (h : Keeps s t) : Keeps s (@unitTake x0 t) := by
  unfold unitTake
  simp (maxDischargeDepth := 60) [h]

@[simp] theorem keeps_reedApply (x0) {s t : State} (h : Keeps s t) : Keeps s (@reedApply x0 t) := by
  unfold reedApply
  simp (maxDischargeDepth := 60) [h]

@[simp] theorem keeps_bankApply (x0) {s t : State} (h : Keeps s t) : Keeps s (@bankApply x0 t) := by
  unfold bankApply
  simp (maxDischargeDepth := 60) [h]

@[simp] theorem keeps_gpioApply {s t : State} (h : Keeps s t) : Keeps s (@gpioApply t) := by
  unfold gpioApply
  simp (maxDischargeDepth := 60) [h]

@[simp] theorem keeps_unitApply (x0) (x1) {s t : State} (h : Keeps s t) : Keeps s (@unitApply x0 x1 t) := by
  unfold unitApply
  simp (maxDischargeDepth := 60) [h]

@[simp] theorem keeps_policyApply (x0) {s t : State} (h : Keeps s t) : Keeps s (@policyApply x0 t) := by
  unfold policyApply
  simp (maxDischargeDepth := 60) [h]

@[simp] theorem keeps_sliceBoundary (x0) {s t : State} (h : Keeps s t) : Keeps s (@sliceBoundary x0 t) := by
  unfold sliceBoundary
  simp (maxDischargeDepth := 60) [h]

@[simp] theorem keeps_strobeArm {s t : State} (h : Keeps s t) : Keeps s (@strobeArm t) := by
  unfold strobeArm
  simp (maxDischargeDepth := 60) [h]

@[simp] theorem keeps_fenceLog (x0) (x1) (x2) {s t : State} (h : Keeps s t) : Keeps s (@fenceLog x0 x1 x2 t) := by
  unfold fenceLog
  simp (maxDischargeDepth := 60) [h]

@[simp] theorem keeps_fenceLane (x0) {s t : State} (h : Keeps s t) : Keeps s (@fenceLane x0 t) := by
  unfold fenceLane
  simp (maxDischargeDepth := 60) [h]

@[simp] theorem keeps_fenceUnit (x0) (x1) {s t : State} (h : Keeps s t) : Keeps s (@fenceUnit x0 x1 t) := by
  unfold fenceUnit
  (repeat' split) <;> simp (maxDischargeDepth := 60) [h]

@[simp] theorem keeps_fenceBank (x0) (x1) {s t : State} (h : Keeps s t) : Keeps s (@fenceBank x0 x1 t) := by
  unfold fenceBank
  simp (maxDischargeDepth := 60) [h]

theorem keeps_commitUnit (n : Nat) (parity : List Nat) (und : Bool) (hu : Nat) (x : Nat × State) :
    Keeps x.2 (commitUnit n parity und hu x).2 := by
  unfold commitUnit
  split
  · extract_lets banks
    refine keeps_foldl2 _ (fun y b => ?_) _ _ (by simp)
    extract_lets c
    split <;> simp
  · extract_lets c
    split <;> simp

@[simp] theorem keeps_modeCommit (n : Nat) (parity : List Nat) (m : RMode) {s t : State} (h : Keeps s t) : Keeps s (modeCommit n parity m t) := by
  unfold modeCommit
  extract_lets units r
  have k : Keeps s r.2 := keeps_foldl2 _ (fun x u => keeps_commitUnit _ _ _ _ _) _ _ h
  clear_value r
  exact keeps_modeUpd _ _ k

@[simp] theorem keeps_modeCut (x0) {s t : State} (h : Keeps s t) : Keeps s (@modeCut x0 t) := by
  unfold modeCut
  simp (maxDischargeDepth := 60) [h]

@[simp] theorem keeps_countTo (x0) {s t : State} (h : Keeps s t) : Keeps s (@countTo x0 t) := by
  unfold countTo
  try dsimp only
  (repeat' (first | split | (refine keeps_forL _ _ (fun x u => ?_) ?_) | (refine keeps_forN _ _ (fun x u => ?_) ?_) | (refine keeps_foldl2 _ (fun x u => ?_) _ _ ?_) | (refine keeps_foldl22 _ (fun x u => ?_) _ _ ?_))) <;> simp (maxDischargeDepth := 60) [h, -List.reduceReplicate]

@[simp] theorem keeps_isolateAt (x0) {s t : State} (h : Keeps s t) : Keeps s (@isolateAt x0 t) := by
  unfold isolateAt
  simp (maxDischargeDepth := 60) [h]

@[simp] theorem keeps_thawAt (x0) {s t : State} (h : Keeps s t) : Keeps s (@thawAt x0 t) := by
  unfold thawAt
  simp (maxDischargeDepth := 60) [h]

@[simp] theorem keeps_planeAt (x0) {s t : State} (h : Keeps s t) : Keeps s (@planeAt x0 t) := by
  unfold planeAt
  simp (maxDischargeDepth := 60) [h]

@[simp] theorem keeps_keptPast (x0) {s t : State} (h : Keeps s t) : Keeps s (@keptPast x0 t) := by
  unfold keptPast
  simp (maxDischargeDepth := 60) [h]

@[simp] theorem keeps_boundary (x0) (x1) {s t : State} (h : Keeps s t) : Keeps s (@boundary x0 x1 t) := by
  unfold boundary
  simp (maxDischargeDepth := 60) [h]

@[simp] theorem keeps_execPickBoundary (x0) {s t : State} (h : Keeps s t) : ResKeeps s (@execPickBoundary x0 t) := by
  unfold execPickBoundary
  simp (maxDischargeDepth := 60) [h]

@[simp] theorem keeps_tapSet (x0) {s t : State} (h : Keeps s t) : Keeps s (@tapSet x0 t) := by
  unfold tapSet
  simp (maxDischargeDepth := 60) [h]

@[simp] theorem keeps_execTapReset {s t : State} (h : Keeps s t) : ResKeeps s (@execTapReset t) := by
  unfold execTapReset
  simp (maxDischargeDepth := 60) [h]

@[simp] theorem keeps_tapOut (x0) (x1) {s t : State} (h : Keeps s t) : Keeps s (@tapOut x0 x1 t) := by
  unfold tapOut
  simp (maxDischargeDepth := 60) [h]

@[simp] theorem keeps_execTapUpdateIr (x0) {s t : State} (h : Keeps s t) : ResKeeps s (@execTapUpdateIr x0 t) := by
  unfold execTapUpdateIr
  simp (maxDischargeDepth := 60) [h]

@[simp] theorem keeps_drOther {s t : State} (h : Keeps s t) : Keeps s (@drOther t) := by
  unfold drOther
  simp (maxDischargeDepth := 60) [h]

@[simp] theorem keeps_execBoundaryScanUpdate (x0) {s t : State} (h : Keeps s t) : ResKeeps s (@execBoundaryScanUpdate x0 t) := by
  unfold execBoundaryScanUpdate
  simp (maxDischargeDepth := 60) [h]

@[simp] theorem keeps_dbgLevelSet (x0) {s t : State} (h : Keeps s t) : Keeps s (@dbgLevelSet x0 t) := by
  unfold dbgLevelSet
  simp (maxDischargeDepth := 60) [h]

@[simp] theorem keeps_chalReq {s t : State} (h : Keeps s t) : Keeps s (@chalReq t) := by
  unfold chalReq
  simp (maxDischargeDepth := 60) [h]

@[simp] theorem keeps_execChalReq {s t : State} (h : Keeps s t) : ResKeeps s (@execChalReq t) := by
  unfold execChalReq
  simp (maxDischargeDepth := 60) [h]

@[simp] theorem keeps_verifyStart {s t : State} (h : Keeps s t) : Keeps s (@verifyStart t) := by
  unfold verifyStart
  simp (maxDischargeDepth := 60) [h]

@[simp] theorem keeps_execVerify {s t : State} (h : Keeps s t) : ResKeeps s (@execVerify t) := by
  unfold execVerify
  simp (maxDischargeDepth := 60) [h]

@[simp] theorem keeps_relock {s t : State} (h : Keeps s t) : Keeps s (@relock t) := by
  unfold relock
  simp (maxDischargeDepth := 60) [h]

@[simp] theorem keeps_execVerifyDone (x0) {s t : State} (h : Keeps s t) : ResKeeps s (@execVerifyDone x0 t) := by
  unfold execVerifyDone
  (repeat' split) <;> simp (maxDischargeDepth := 60) [h]

@[simp] theorem keeps_execRelock {s t : State} (h : Keeps s t) : ResKeeps s (@execRelock t) := by
  unfold execRelock
  simp (maxDischargeDepth := 60) [h]

@[simp] theorem keeps_nocGo {s t : State} (h : Keeps s t) : Keeps s (@nocGo t) := by
  unfold nocGo
  simp (maxDischargeDepth := 60) [h]

@[simp] theorem keeps_execDbgNocGo {s t : State} (h : Keeps s t) : ResKeeps s (@execDbgNocGo t) := by
  unfold execDbgNocGo
  simp (maxDischargeDepth := 60) [h]

@[simp] theorem keeps_nocPut (x0) (x1) {s t : State} (h : Keeps s t) : Keeps s (@nocPut x0 x1 t) := by
  unfold nocPut
  simp (maxDischargeDepth := 60) [h]

@[simp] theorem keeps_nocGot (x0) (x1) (x2) (x3) {s t : State} (h : Keeps s t) : Keeps s (@nocGot x0 x1 x2 x3 t) := by
  unfold nocGot
  simp (maxDischargeDepth := 60) [h]

@[simp] theorem keeps_dbgReq (x0) {s t : State} (h : Keeps s t) : Keeps s (@dbgReq x0 t) := by
  unfold dbgReq
  simp (maxDischargeDepth := 60) [h]

@[simp] theorem keeps_execDbgReq (x0) {s t : State} (h : Keeps s t) : ResKeeps s (@execDbgReq x0 t) := by
  unfold execDbgReq
  simp (maxDischargeDepth := 60) [h]

@[simp] theorem keeps_raccReadCc (x0) (x1) {s t : State} (h : Keeps s t) : PairKeeps s (@raccReadCc x0 x1 t) := by
  unfold raccReadCc
  (repeat' split) <;> simp (maxDischargeDepth := 60) [h]

@[simp] theorem keeps_raccWriteCc (x0) (x1) (x2) {s t : State} (h : Keeps s t) : OptKeeps s (@raccWriteCc x0 x1 x2 t) := by
  unfold raccWriteCc
  (repeat' split) <;> simp (maxDischargeDepth := 60) [h]

@[simp] theorem keeps_raccWriteSc (x0) (x1) (x2) {s t : State} (h : Keeps s t) : OptKeeps s (@raccWriteSc x0 x1 x2 t) := by
  unfold raccWriteSc
  (repeat' split) <;> simp (maxDischargeDepth := 60) [h]

@[simp] theorem keeps_raccRead (x0) {s t : State} (h : Keeps s t) : Keeps s (@raccRead x0 t) := by
  unfold raccRead
  try dsimp only
  (repeat' (first | split | (refine keeps_forL _ _ (fun x u => ?_) ?_) | (refine keeps_forN _ _ (fun x u => ?_) ?_) | (refine keeps_foldl2 _ (fun x u => ?_) _ _ ?_) | (refine keeps_foldl22 _ (fun x u => ?_) _ _ ?_))) <;> (first | simp (maxDischargeDepth := 60) [h, -List.reduceReplicate] | exact ResKeeps.out ‹_ = .next _› (by simp (maxDischargeDepth := 60) [h]) | (have hk := PairKeeps.out (s := s) ‹_ = some (_, _)› (by simp (maxDischargeDepth := 60) [h]); simp (maxDischargeDepth := 60) [hk]) | (have hk := OptKeeps.out (s := s) ‹_ = some _› (by simp (maxDischargeDepth := 60) [h]); simp (maxDischargeDepth := 60) [hk]) | (have hk := keeps_snd (s := s) ‹_ = (_, _)› (by simp (maxDischargeDepth := 60) [h]); simp (maxDischargeDepth := 60) [hk]) | (have hk := keeps_snd2 (s := s) ‹_ = (_, _, _)› (by simp (maxDischargeDepth := 60) [h]); simp (maxDischargeDepth := 60) [hk]))

@[simp] theorem keeps_raccWrite (x0) {s t : State} (h : Keeps s t) : Keeps s (@raccWrite x0 t) := by
  unfold raccWrite
  try dsimp only
  (repeat' (first | split | (refine keeps_forL _ _ (fun x u => ?_) ?_) | (refine keeps_forN _ _ (fun x u => ?_) ?_) | (refine keeps_foldl2 _ (fun x u => ?_) _ _ ?_) | (refine keeps_foldl22 _ (fun x u => ?_) _ _ ?_))) <;> (first | simp (maxDischargeDepth := 60) [h, -List.reduceReplicate] | exact ResKeeps.out ‹_ = .next _› (by simp (maxDischargeDepth := 60) [h]) | (have hk := PairKeeps.out (s := s) ‹_ = some (_, _)› (by simp (maxDischargeDepth := 60) [h]); simp (maxDischargeDepth := 60) [hk]) | (have hk := OptKeeps.out (s := s) ‹_ = some _› (by simp (maxDischargeDepth := 60) [h]); simp (maxDischargeDepth := 60) [hk]) | (have hk := keeps_snd (s := s) ‹_ = (_, _)› (by simp (maxDischargeDepth := 60) [h]); simp (maxDischargeDepth := 60) [hk]) | (have hk := keeps_snd2 (s := s) ‹_ = (_, _, _)› (by simp (maxDischargeDepth := 60) [h]); simp (maxDischargeDepth := 60) [hk]))

@[simp] theorem keeps_execDbgRaccRead (x0) (x1) {s t : State} (h : Keeps s t) : ResKeeps s (@execDbgRaccRead x0 x1 t) := by
  unfold execDbgRaccRead
  simp (maxDischargeDepth := 60) [h]

@[simp] theorem keeps_execDbgRaccWrite (x0) (x1) (x2) {s t : State} (h : Keeps s t) : ResKeeps s (@execDbgRaccWrite x0 x1 x2 t) := by
  unfold execDbgRaccWrite
  simp (maxDischargeDepth := 60) [h]

@[simp] theorem keeps_dbgResume (x0) {s t : State} (h : Keeps s t) : Keeps s (@dbgResume x0 t) := by
  unfold dbgResume
  simp (maxDischargeDepth := 60) [h]

@[simp] theorem keeps_execDbgResume (x0) (x1) {s t : State} (h : Keeps s t) : ResKeeps s (@execDbgResume x0 x1 t) := by
  unfold execDbgResume
  simp (maxDischargeDepth := 60) [h]

@[simp] theorem keeps_mboxIn (x0) (x1) {s t : State} (h : Keeps s t) : Keeps s (@mboxIn x0 x1 t) := by
  unfold mboxIn
  simp (maxDischargeDepth := 60) [h]

@[simp] theorem keeps_execMboxInWrite (x0) (x1) {s t : State} (h : Keeps s t) : ResKeeps s (@execMboxInWrite x0 x1 t) := by
  unfold execMboxInWrite
  simp (maxDischargeDepth := 60) [h]

@[simp] theorem keeps_mboxOut (x0) (x1) {s t : State} (h : Keeps s t) : Keeps s (@mboxOut x0 x1 t) := by
  unfold mboxOut
  simp (maxDischargeDepth := 60) [h]

@[simp] theorem keeps_execMboxOutWrite (x0) (x1) {s t : State} (h : Keeps s t) : ResKeeps s (@execMboxOutWrite x0 x1 t) := by
  unfold execMboxOutWrite
  simp (maxDischargeDepth := 60) [h]

theorem keeps_resState {s t : State} (r : Res) (hr : ResKeeps s r) (h : Keeps s t) : Keeps s (resState r t) := by
  unfold resState
  split
  · exact hr _ rfl
  · exact h

end Sys2Proof.Machine
end

