-- ==== Sys2Proof/Laws/KeepsRuns.lean ====
section
/-!
SUPPORT. Register access over the network, and the tick on an empty queue: for each operation that answers a state, that it leaves the queue alone and keeps the canonical form of the register cells and of the memories (`Keeps`).
-/
namespace Sys2Proof.Machine

@[simp] theorem keeps_plainWrite (x0) (x1) (x2) (x3) (x4) {s t : State} (h : Keeps s t) : Keeps s (@plainWrite x0 x1 x2 x3 x4 t) := by
  unfold plainWrite
  simp (maxDischargeDepth := 60) [h]

@[simp] theorem keeps_hdrWrite (x0) (x1) (x2) (x3) {s t : State} (h : Keeps s t) : Keeps s (@hdrWrite x0 x1 x2 x3 t) := by
  unfold hdrWrite
  simp (maxDischargeDepth := 60) [h]

@[simp] theorem keeps_clkWrite (x : CsrReg) (w : Nat) {s t : State} (h : Keeps s t) : OptKeeps s (clkWrite x w t) := by
  have k := keeps_resState _ (keeps_execLineForceClr w h) h
  unfold clkWrite
  generalize resState (execLineForceClr w t) t = u at k ⊢
  generalize x.r.is R.SPLL_CFG = c1
  generalize x.r.is R.FPLL_CFG = c2
  generalize x.r.is R.GLINE_CFG = c3
  generalize x.r.is R.DOM_CTL = c4
  generalize x.r.is R.LINE_FORCE_CLR = c5
  cases c1 <;> cases c2 <;> cases c3 <;> cases c4 <;> cases c5 <;> simp [h, k]

@[simp] theorem keeps_pwrWrite (x0) (x1) {s t : State} (h : Keeps s t) : OptKeeps s (@pwrWrite x0 x1 t) := by
  unfold pwrWrite
  simp (maxDischargeDepth := 60) [h]

@[simp] theorem keeps_irqWrite (x0) (x1) (x2) {s t : State} (h : Keeps s t) : OptKeeps s (@irqWrite x0 x1 x2 t) := by
  unfold irqWrite
  simp (maxDischargeDepth := 60) [h]

@[simp] theorem keeps_hdWrite (x0) (x1) (x2) (x3) {s t : State} (h : Keeps s t) : OptKeeps s (@hdWrite x0 x1 x2 x3 t) := by
  unfold hdWrite
  simp (maxDischargeDepth := 60) [h]

@[simp] theorem keeps_ctlWrite (x0) (x1) (x2) (x3) {s t : State} (h : Keeps s t) : OptKeeps s (@ctlWrite x0 x1 x2 x3 t) := by
  unfold ctlWrite
  simp (maxDischargeDepth := 60) [h]

@[simp] theorem keeps_bistWrite (x0) (x1) {s t : State} (h : Keeps s t) : OptKeeps s (@bistWrite x0 x1 t) := by
  unfold bistWrite
  simp (maxDischargeDepth := 60) [h]

@[simp] theorem keeps_dbgWrite (x0) (x1) (x2) (x3) (x4) {s t : State} (h : Keeps s t) : OptKeeps s (@dbgWrite x0 x1 x2 x3 x4 t) := by
  unfold dbgWrite
  simp (maxDischargeDepth := 60) [h]

@[simp] theorem keeps_gpioWrite (x0) (x1) (x2) (x3) {s t : State} (h : Keeps s t) : OptKeeps s (@gpioWrite x0 x1 x2 x3 t) := by
  unfold gpioWrite
  simp (maxDischargeDepth := 60) [h]

@[simp] theorem keeps_ioWrite (x0) (x1) (x2) (x3) {s t : State} (h : Keeps s t) : OptKeeps s (@ioWrite x0 x1 x2 x3 t) := by
  unfold ioWrite
  simp (maxDischargeDepth := 60) [h]

@[simp] theorem keeps_winWrite (x : CsrReg) (w : Nat) (low high : Bool) {s t : State} (h : Keeps s t) : OptKeeps s (winWrite x w low high t) := by
  unfold winWrite
  refine .ite (optKeeps_some.2 (.ite (keeps_laneCtlWrite _ _ h) (.ite (keeps_laneReacq _ h) h))) ?_
  refine .ite (optKeeps_some.2 (.ite (keeps_quadOwnerWrite _ _ (keeps_plainWrite _ _ _ _ _ h)) (keeps_plainWrite _ _ _ _ _ h))) ?_
  refine .ite (optKeeps_some.2 (.ite (keeps_holdReset _ (keeps_plainWrite _ _ _ _ _ h)) (keeps_plainWrite _ _ _ _ _ h))) ?_
  refine .ite (optKeeps_some.2 (.ite (keeps_poisonClear _ h) h)) ?_
  refine .ite (optKeeps_some.2 (.ite (keeps_bayScrubWrite _ _ h) h)) ?_
  refine .ite (optKeeps_some.2 (.ite (keeps_consentWrite _ _ h) h)) ?_
  refine .ite (optKeeps_some.2 (.ite h (.ite (keeps_scResetCore _ h) (.ite (keeps_scStartCore _ h) h)))) ?_
  refine .ite (optKeeps_some.2 (.ite h (.ite (keeps_coreReset _ h) (.ite (keeps_vstart _ h) h)))) ?_
  refine .ite (optKeeps_some.2 (.ite (keeps_mpCtlWrite _ _ h) h)) ?_
  refine .ite (optKeeps_some.2 ?_) (.ite (optKeeps_some.2 (keeps_warpCfgWrite _ _ h)) optKeeps_none)
  have k1 := keeps_plainWrite x w low high (fun f => f.is F.MP_REMAP_ADDR && (t.bit F.MP_REMAP_VALID x.win x.i || t.bit F.MP_REMAP_BUSY x.win x.i)) h
  have k2 : ∀ u, Keeps s u → Keeps s (if (low && bitOf w 0) = true then resState (execMpRemapInstall x.win x.i u) u else u) :=
    fun u k => .ite (keeps_resState _ (keeps_execMpRemapInstall _ _ k) k) k
  exact .ite (keeps_resState _ (keeps_execMpRemapRelease _ _ (k2 _ k1)) (k2 _ k1)) (k2 _ k1)

@[simp] theorem keeps_hookWrite (x0) (x1) (x2) (x3) (x4) {s t : State} (h : Keeps s t) : OptKeeps s (@hookWrite x0 x1 x2 x3 x4 t) := by
  unfold hookWrite
  (repeat' split) <;> simp (maxDischargeDepth := 60) [h]

@[simp] theorem keeps_regWrite (init : Nat) (x : CsrReg) (v : Nat) (low high : Bool) {s t : State} (h : Keeps s t) :
    Keeps s (regWrite init x v low high t).2 := by
  unfold regWrite
  split
  · exact h
  split
  · exact keeps_hdrWrite _ _ _ _ h
  split
  · exact h
  · extract_lets w s1
    have k1 : Keeps s s1 := by
      simp only [s1]
      split
      · exact OptKeeps.out ‹_› (keeps_hookWrite _ _ _ _ _ h)
      · exact keeps_plainWrite _ _ _ _ _ h
    exact keeps_stageLate _ k1

@[simp] theorem keeps_regRead (x0) (x1) (x2) (x3) {s t : State} (h : Keeps s t) : Keeps s (@regRead x0 x1 x2 x3 t).2 := by
  unfold regRead
  simp (maxDischargeDepth := 60) [h]

@[simp] theorem keeps_msixPut (x0) (x1) {s t : State} (h : Keeps s t) : Keeps s (@msixPut x0 x1 t) := by
  unfold msixPut
  simp (maxDischargeDepth := 60) [h]

@[simp] theorem keeps_csrErr (x0) (x1) {s t : State} (h : Keeps s t) : Keeps s (@csrErr x0 x1 t) := by
  unfold csrErr
  simp (maxDischargeDepth := 60) [h]

@[simp] theorem keeps_placeWrite (init off n v : Nat) (p : CsrPlace) {s t : State} (h : Keeps s t) : Keeps s (placeWrite init off n v p t).2 := by
  unfold placeWrite
  extract_lets low high v8 s1
  have k1 : Keeps s (if high = true then t else t) := by split <;> exact h
  split
  · exact h
  · exact h
  · exact keeps_regWrite _ _ _ _ _ h
  · refine keeps_foldl2 _ (fun b x => ?_) _ _ h
    exact keeps_regWrite _ _ _ _ _ (Keeps.refl _)
  · refine keeps_forL _ _ (fun c u => ?_) h
    exact keeps_ccWindow _ _ _ _ _ (Keeps.refl _)
  · refine keeps_msixDrain ?_
    (repeat' split) <;> simp [h]
  · exact h

@[simp] theorem keeps_placeRead (x0) (x1) (x2) (x3) {s t : State} (h : Keeps s t) : Keeps s (@placeRead x0 x1 x2 x3 t).2.2 := by
  unfold placeRead
  (repeat' split) <;> simp (maxDischargeDepth := 60) [h]

@[simp] theorem keeps_csrWrite (x0) (x1) (x2) (x3) (x4) {s t : State} (h : Keeps s t) : Keeps s (@csrWrite x0 x1 x2 x3 x4 t).2 := by
  unfold csrWrite
  (repeat' split) <;> simp (maxDischargeDepth := 60) [h]

@[simp] theorem keeps_csrRead (x0) (x1) (x2) {s t : State} (h : Keeps s t) : Keeps s (@csrRead x0 x1 x2 t).2.2 := by
  unfold csrRead
  (repeat' split) <;> simp (maxDischargeDepth := 60) [h]

@[simp] theorem keeps_collide (x0) (x1) (x2) (x3) {s t : State} (h : Keeps s t) : Keeps s (@collide x0 x1 x2 x3 t) := by
  unfold collide
  simp (maxDischargeDepth := 60) [h]

@[simp] theorem keeps_collideAt (x0) (x1) (x2) (x3) {s t : State} (h : Keeps s t) : Keeps s (@collideAt x0 x1 x2 x3 t) := by
  unfold collideAt
  (repeat' split) <;> simp (maxDischargeDepth := 60) [h]

@[simp] theorem keeps_execCsrWrite (x0) (x1) (x2) (x3) {s t : State} (h : Keeps s t) : ResKeeps s (@execCsrWrite x0 x1 x2 x3 t) := by
  unfold execCsrWrite
  simp (maxDischargeDepth := 60) [h]

@[simp] theorem keeps_splitAt (x0) {s t : State} (h : Keeps s t) : Keeps s (@splitAt x0 t) := by
  unfold splitAt
  simp (maxDischargeDepth := 60) [h]

@[simp] theorem keeps_execStageWrite (x0) (x1) (x2) (x3) (x4) {s t : State} (h : Keeps s t) : ResKeeps s (@execStageWrite x0 x1 x2 x3 x4 t) := by
  unfold execStageWrite
  simp (maxDischargeDepth := 60) [h]

@[simp] theorem keeps_execStageDiscard (x0) {s t : State} (h : Keeps s t) : ResKeeps s (@execStageDiscard x0 t) := by
  unfold execStageDiscard
  simp (maxDischargeDepth := 60) [h]

@[simp] theorem keeps_dpAccess (x0) (x1) (x2) {s t : State} (h : Keeps s t) : Keeps s (@dpAccess x0 x1 x2 t).2.2 := by
  unfold dpAccess
  try dsimp only
  (repeat' (first | split | (refine keeps_forL _ _ (fun x u => ?_) ?_) | (refine keeps_forN _ _ (fun x u => ?_) ?_) | (refine keeps_foldl2 _ (fun x u => ?_) _ _ ?_) | (refine keeps_foldl22 _ (fun x u => ?_) _ _ ?_))) <;> simp (maxDischargeDepth := 60) [h, -List.reduceReplicate]

@[simp] theorem keeps_dpPoll {s t : State} (h : Keeps s t) : Keeps s (@dpPoll t) := by
  unfold dpPoll
  (repeat' split) <;> simp (maxDischargeDepth := 60) [h]

@[simp] theorem keeps_execDpaccAccess (x0) (x1) (x2) {s t : State} (h : Keeps s t) : ResKeeps s (@execDpaccAccess x0 x1 x2 t) := by
  unfold execDpaccAccess
  simp (maxDischargeDepth := 60) [h]

@[simp] theorem keeps_vifill (x0) (x1) (x2) {s t : State} (h : Keeps s t) : Keeps s (@vifill x0 x1 x2 t) := by
  unfold vifill
  try dsimp only
  (repeat' (first | split | (refine keeps_forL _ _ (fun x u => ?_) ?_) | (refine keeps_forN _ _ (fun x u => ?_) ?_) | (refine keeps_foldl2 _ (fun x u => ?_) _ _ ?_) | (refine keeps_foldl22 _ (fun x u => ?_) _ _ ?_))) <;> simp (maxDischargeDepth := 60) [h, -List.reduceReplicate]

@[simp] theorem keeps_vstoreErr (x0) (x1) (x2) {s t : State} (h : Keeps s t) : Keeps s (@vstoreErr x0 x1 x2 t) := by
  unfold vstoreErr
  simp (maxDischargeDepth := 60) [h]

@[simp] theorem keeps_vaccErr (x0) (x1) (x2) (x3) {s t : State} (h : Keeps s t) : Keeps s (@vaccErr x0 x1 x2 x3 t) := by
  unfold vaccErr
  simp (maxDischargeDepth := 60) [h]

@[simp] theorem keeps_vread (x0) (x1) (x2) (x3) {s t : State} (h : Keeps s t) : Keeps s (@vread x0 x1 x2 x3 t) := by
  unfold vread
  try dsimp only
  (repeat' (first | split | (refine keeps_forL _ _ (fun x u => ?_) ?_) | (refine keeps_forN _ _ (fun x u => ?_) ?_) | (refine keeps_foldl2 _ (fun x u => ?_) _ _ ?_) | (refine keeps_foldl22 _ (fun x u => ?_) _ _ ?_))) <;> simp (maxDischargeDepth := 60) [h, -List.reduceReplicate]

@[simp] theorem keeps_vwbDone (x0) (x1) (x2) {s t : State} (h : Keeps s t) : Keeps s (@vwbDone x0 x1 x2 t) := by
  unfold vwbDone
  (repeat' split) <;> simp (maxDischargeDepth := 60) [h]

@[simp] theorem keeps_vwinDone (x0) (x1) (x2) (x3) {s t : State} (h : Keeps s t) : Keeps s (@vwinDone x0 x1 x2 x3 t) := by
  unfold vwinDone
  (repeat' split) <;> simp (maxDischargeDepth := 60) [h]

@[simp] theorem keeps_execRouteChange (x0) {s t : State} (h : Keeps s t) : ResKeeps s (@execRouteChange x0 t) := by
  unfold execRouteChange
  simp (maxDischargeDepth := 60) [h]

@[simp] theorem keeps_issueReq (x0) (x1) (x2) {s t : State} (h : Keeps s t) : Keeps s (@issueReq x0 x1 x2 t) := by
  unfold issueReq
  simp (maxDischargeDepth := 60) [h]

@[simp] theorem keeps_execNocRequestIssue (x0) (x1) (x2) {s t : State} (h : Keeps s t) : ResKeeps s (@execNocRequestIssue x0 x1 x2 t) := by
  unfold execNocRequestIssue
  (repeat' split) <;> simp (maxDischargeDepth := 60) [h]

@[simp] theorem keeps_csrServe (x0) {s t : State} (h : Keeps s t) : Keeps s (@csrServe x0 t) := by
  unfold csrServe
  simp (maxDischargeDepth := 60) [h]

@[simp] theorem keeps_hopDeliver (x0) {s t : State} (h : Keeps s t) : Keeps s (@hopDeliver x0 t) := by
  unfold hopDeliver
  try dsimp only
  (repeat' (first | split | (refine keeps_forL _ _ (fun x u => ?_) ?_) | (refine keeps_forN _ _ (fun x u => ?_) ?_) | (refine keeps_foldl2 _ (fun x u => ?_) _ _ ?_) | (refine keeps_foldl22 _ (fun x u => ?_) _ _ ?_))) <;> simp (maxDischargeDepth := 60) [h, -List.reduceReplicate]

@[simp] theorem keeps_hopMove (x0) (x1) {s t : State} (h : Keeps s t) : Keeps s (@hopMove x0 x1 t) := by
  unfold hopMove
  simp (maxDischargeDepth := 60) [h]

@[simp] theorem keeps_execNocRouterForward (x0) (x1) (x2) {s t : State} (h : Keeps s t) : ResKeeps s (@execNocRouterForward x0 x1 x2 t) := by
  unfold execNocRouterForward
  (repeat' split) <;> simp (maxDischargeDepth := 60) [h]

@[simp] theorem keeps_traceDone (x0) (x1) {s t : State} (h : Keeps s t) : Keeps s (@traceDone x0 x1 t) := by
  unfold traceDone
  simp (maxDischargeDepth := 60) [h]

@[simp] theorem keeps_deliver (x0) (x1) (x2) (x3) (x4) {s t : State} (h : Keeps s t) : Keeps s (@deliver x0 x1 x2 x3 x4 t) := by
  unfold deliver
  (repeat' split) <;> simp (maxDischargeDepth := 60) [h]

@[simp] theorem keeps_execNocResponseArrival (x0) {s t : State} (h : Keeps s t) : ResKeeps s (@execNocResponseArrival x0 t) := by
  unfold execNocResponseArrival
  (repeat' split) <;> simp (maxDischargeDepth := 60) [h]

@[simp] theorem keeps_execNocTimeout (x0) (x1) {s t : State} (h : Keeps s t) : ResKeeps s (@execNocTimeout x0 x1 t) := by
  unfold execNocTimeout
  (repeat' split) <;> simp (maxDischargeDepth := 60) [h]

@[simp] theorem keeps_execTagHoldExpiry (x0) (x1) {s t : State} (h : Keeps s t) : ResKeeps s (@execTagHoldExpiry x0 x1 t) := by
  unfold execTagHoldExpiry
  (repeat' split) <;> simp (maxDischargeDepth := 60) [h]

@[simp] theorem keeps_execTraceWrite {s t : State} (h : Keeps s t) : ResKeeps s (@execTraceWrite t) := by
  unfold execTraceWrite
  (repeat' split) <;> simp (maxDischargeDepth := 60) [h]

@[simp] theorem keeps_valu3 (x0) (x1) (x2) (x3) (x4) (x5) {s t : State} (h : Keeps s t) : ResKeeps s (@valu3 x0 x1 x2 x3 x4 x5 t) := by
  unfold valu3
  simp (maxDischargeDepth := 60) [h]

@[simp] theorem keeps_valuI (x0) (x1) (x2) (x3) (x4) (x5) {s t : State} (h : Keeps s t) : ResKeeps s (@valuI x0 x1 x2 x3 x4 x5 t) := by
  unfold valuI
  simp (maxDischargeDepth := 60) [h]

@[simp] theorem keeps_vdivide (x0) (x1) (x2) (x3) (x4) (x5) {s t : State} (h : Keeps s t) : ResKeeps s (@vdivide x0 x1 x2 x3 x4 x5 t) := by
  unfold vdivide
  simp (maxDischargeDepth := 60) [h]

@[simp] theorem keeps_execAdd (x0) (x1) (x2) (x3) (x4) {s t : State} (h : Keeps s t) : ResKeeps s (@execAdd x0 x1 x2 x3 x4 t) := by
  unfold execAdd
  simp (maxDischargeDepth := 60) [h]

@[simp] theorem keeps_execSub (x0) (x1) (x2) (x3) (x4) {s t : State} (h : Keeps s t) : ResKeeps s (@execSub x0 x1 x2 x3 x4 t) := by
  unfold execSub
  simp (maxDischargeDepth := 60) [h]

@[simp] theorem keeps_execAdc (x0) (x1) (x2) (x3) (x4) {s t : State} (h : Keeps s t) : ResKeeps s (@execAdc x0 x1 x2 x3 x4 t) := by
  unfold execAdc
  simp (maxDischargeDepth := 60) [h]

@[simp] theorem keeps_execSbc (x0) (x1) (x2) (x3) (x4) {s t : State} (h : Keeps s t) : ResKeeps s (@execSbc x0 x1 x2 x3 x4 t) := by
  unfold execSbc
  simp (maxDischargeDepth := 60) [h]

@[simp] theorem keeps_execNeg (x0) (x1) (x2) (x3) {s t : State} (h : Keeps s t) : ResKeeps s (@execNeg x0 x1 x2 x3 t) := by
  unfold execNeg
  simp (maxDischargeDepth := 60) [h]

@[simp] theorem keeps_execCmp (x0) (x1) (x2) (x3) {s t : State} (h : Keeps s t) : ResKeeps s (@execCmp x0 x1 x2 x3 t) := by
  unfold execCmp
  simp (maxDischargeDepth := 60) [h]

@[simp] theorem keeps_execAnd (x0) (x1) (x2) (x3) (x4) {s t : State} (h : Keeps s t) : ResKeeps s (@execAnd x0 x1 x2 x3 x4 t) := by
  unfold execAnd
  simp (maxDischargeDepth := 60) [h]

@[simp] theorem keeps_execOr (x0) (x1) (x2) (x3) (x4) {s t : State} (h : Keeps s t) : ResKeeps s (@execOr x0 x1 x2 x3 x4 t) := by
  unfold execOr
  simp (maxDischargeDepth := 60) [h]

@[simp] theorem keeps_execXor (x0) (x1) (x2) (x3) (x4) {s t : State} (h : Keeps s t) : ResKeeps s (@execXor x0 x1 x2 x3 x4 t) := by
  unfold execXor
  simp (maxDischargeDepth := 60) [h]

@[simp] theorem keeps_execAndn (x0) (x1) (x2) (x3) (x4) {s t : State} (h : Keeps s t) : ResKeeps s (@execAndn x0 x1 x2 x3 x4 t) := by
  unfold execAndn
  simp (maxDischargeDepth := 60) [h]

@[simp] theorem keeps_execMin (x0) (x1) (x2) (x3) (x4) {s t : State} (h : Keeps s t) : ResKeeps s (@execMin x0 x1 x2 x3 x4 t) := by
  unfold execMin
  simp (maxDischargeDepth := 60) [h]

@[simp] theorem keeps_execMax (x0) (x1) (x2) (x3) (x4) {s t : State} (h : Keeps s t) : ResKeeps s (@execMax x0 x1 x2 x3 x4 t) := by
  unfold execMax
  simp (maxDischargeDepth := 60) [h]

@[simp] theorem keeps_execMinu (x0) (x1) (x2) (x3) (x4) {s t : State} (h : Keeps s t) : ResKeeps s (@execMinu x0 x1 x2 x3 x4 t) := by
  unfold execMinu
  simp (maxDischargeDepth := 60) [h]

@[simp] theorem keeps_execMaxu (x0) (x1) (x2) (x3) (x4) {s t : State} (h : Keeps s t) : ResKeeps s (@execMaxu x0 x1 x2 x3 x4 t) := by
  unfold execMaxu
  simp (maxDischargeDepth := 60) [h]

@[simp] theorem keeps_execClz (x0) (x1) (x2) (x3) {s t : State} (h : Keeps s t) : ResKeeps s (@execClz x0 x1 x2 x3 t) := by
  unfold execClz
  simp (maxDischargeDepth := 60) [h]

@[simp] theorem keeps_execPopc (x0) (x1) (x2) (x3) {s t : State} (h : Keeps s t) : ResKeeps s (@execPopc x0 x1 x2 x3 t) := by
  unfold execPopc
  simp (maxDischargeDepth := 60) [h]

@[simp] theorem keeps_execAddi (x0) (x1) (x2) (x3) {s t : State} (h : Keeps s t) : ResKeeps s (@execAddi x0 x1 x2 x3 t) := by
  unfold execAddi
  simp (maxDischargeDepth := 60) [h]

@[simp] theorem keeps_execCmpi (x0) (x1) (x2) (x3) {s t : State} (h : Keeps s t) : ResKeeps s (@execCmpi x0 x1 x2 x3 t) := by
  unfold execCmpi
  simp (maxDischargeDepth := 60) [h]

@[simp] theorem keeps_execAndi (x0) (x1) (x2) (x3) {s t : State} (h : Keeps s t) : ResKeeps s (@execAndi x0 x1 x2 x3 t) := by
  unfold execAndi
  simp (maxDischargeDepth := 60) [h]

@[simp] theorem keeps_execOri (x0) (x1) (x2) (x3) {s t : State} (h : Keeps s t) : ResKeeps s (@execOri x0 x1 x2 x3 t) := by
  unfold execOri
  simp (maxDischargeDepth := 60) [h]

@[simp] theorem keeps_execXori (x0) (x1) (x2) (x3) {s t : State} (h : Keeps s t) : ResKeeps s (@execXori x0 x1 x2 x3 t) := by
  unfold execXori
  simp (maxDischargeDepth := 60) [h]

@[simp] theorem keeps_execSetw (x0) (x1) (x2) (x3) (x4) {s t : State} (h : Keeps s t) : ResKeeps s (@execSetw x0 x1 x2 x3 x4 t) := by
  unfold execSetw
  simp (maxDischargeDepth := 60) [h]

@[simp] theorem keeps_execInsw (x0) (x1) (x2) (x3) (x4) {s t : State} (h : Keeps s t) : ResKeeps s (@execInsw x0 x1 x2 x3 x4 t) := by
  unfold execInsw
  simp (maxDischargeDepth := 60) [h]

@[simp] theorem keeps_execMul (x0) (x1) (x2) (x3) (x4) {s t : State} (h : Keeps s t) : ResKeeps s (@execMul x0 x1 x2 x3 x4 t) := by
  unfold execMul
  simp (maxDischargeDepth := 60) [h]

@[simp] theorem keeps_execMulh (x0) (x1) (x2) (x3) (x4) {s t : State} (h : Keeps s t) : ResKeeps s (@execMulh x0 x1 x2 x3 x4 t) := by
  unfold execMulh
  simp (maxDischargeDepth := 60) [h]

@[simp] theorem keeps_execMulhu (x0) (x1) (x2) (x3) (x4) {s t : State} (h : Keeps s t) : ResKeeps s (@execMulhu x0 x1 x2 x3 x4 t) := by
  unfold execMulhu
  simp (maxDischargeDepth := 60) [h]

@[simp] theorem keeps_execDiv (x0) (x1) (x2) (x3) (x4) {s t : State} (h : Keeps s t) : ResKeeps s (@execDiv x0 x1 x2 x3 x4 t) := by
  unfold execDiv
  simp (maxDischargeDepth := 60) [h]

@[simp] theorem keeps_execDivu (x0) (x1) (x2) (x3) (x4) {s t : State} (h : Keeps s t) : ResKeeps s (@execDivu x0 x1 x2 x3 x4 t) := by
  unfold execDivu
  simp (maxDischargeDepth := 60) [h]

@[simp] theorem keeps_execRem (x0) (x1) (x2) (x3) (x4) {s t : State} (h : Keeps s t) : ResKeeps s (@execRem x0 x1 x2 x3 x4 t) := by
  unfold execRem
  simp (maxDischargeDepth := 60) [h]

@[simp] theorem keeps_execRemu (x0) (x1) (x2) (x3) (x4) {s t : State} (h : Keeps s t) : ResKeeps s (@execRemu x0 x1 x2 x3 x4 t) := by
  unfold execRemu
  simp (maxDischargeDepth := 60) [h]

@[simp] theorem keeps_execSll (x0) (x1) (x2) (x3) (x4) {s t : State} (h : Keeps s t) : ResKeeps s (@execSll x0 x1 x2 x3 x4 t) := by
  unfold execSll
  simp (maxDischargeDepth := 60) [h]

@[simp] theorem keeps_execSrl (x0) (x1) (x2) (x3) (x4) {s t : State} (h : Keeps s t) : ResKeeps s (@execSrl x0 x1 x2 x3 x4 t) := by
  unfold execSrl
  simp (maxDischargeDepth := 60) [h]

@[simp] theorem keeps_execSra (x0) (x1) (x2) (x3) (x4) {s t : State} (h : Keeps s t) : ResKeeps s (@execSra x0 x1 x2 x3 x4 t) := by
  unfold execSra
  simp (maxDischargeDepth := 60) [h]

@[simp] theorem keeps_execRor (x0) (x1) (x2) (x3) (x4) {s t : State} (h : Keeps s t) : ResKeeps s (@execRor x0 x1 x2 x3 x4 t) := by
  unfold execRor
  simp (maxDischargeDepth := 60) [h]

@[simp] theorem keeps_execSlli (x0) (x1) (x2) (x3) (x4) {s t : State} (h : Keeps s t) : ResKeeps s (@execSlli x0 x1 x2 x3 x4 t) := by
  unfold execSlli
  simp (maxDischargeDepth := 60) [h]

@[simp] theorem keeps_execSrli (x0) (x1) (x2) (x3) (x4) {s t : State} (h : Keeps s t) : ResKeeps s (@execSrli x0 x1 x2 x3 x4 t) := by
  unfold execSrli
  simp (maxDischargeDepth := 60) [h]

@[simp] theorem keeps_execSrai (x0) (x1) (x2) (x3) (x4) {s t : State} (h : Keeps s t) : ResKeeps s (@execSrai x0 x1 x2 x3 x4 t) := by
  unfold execSrai
  simp (maxDischargeDepth := 60) [h]

@[simp] theorem keeps_execRori (x0) (x1) (x2) (x3) (x4) {s t : State} (h : Keeps s t) : ResKeeps s (@execRori x0 x1 x2 x3 x4 t) := by
  unfold execRori
  simp (maxDischargeDepth := 60) [h]

@[simp] theorem keeps_tick {s t : State} (h : Keeps s t) : Keeps s (@tick t) := by
  unfold tick
  simp (maxDischargeDepth := 60) [h]

end Sys2Proof.Machine
end

