-- ==== Sys2Proof/Laws/State.lean ====
section
/-!
SUPPORT. The laws of the state's named updates: what each field reads after each of them, and that a register field is
changed by a write of that field, unit and copy alone.
-/
namespace Sys2Proof.Machine

theorem pairN_inj {a b c d : Nat} : pairN a b = pairN c d ↔ a = c ∧ b = d := by
  constructor
  · intro h
    unfold pairN at h
    have hs : a + b = c + d := by
      rcases Nat.lt_trichotomy (a + b) (c + d) with l | e | g
      · have : (a + b + 1) * (a + b + 1) ≤ (c + d) * (c + d) := Nat.mul_le_mul l l
        nlinarith
      · exact e
      · have : (c + d + 1) * (c + d + 1) ≤ (a + b) * (a + b) := Nat.mul_le_mul g g
        nlinarith
    rw [hs] at h
    omega
  · rintro ⟨rfl, rfl⟩; rfl

/-- Two cells of the register store are the same exactly when field number, unit and copy are. -/
theorem fkey_inj {f g : Field} {u v i j : Nat} : fkey f u i = fkey g v j ↔ f.id = g.id ∧ u = v ∧ i = j := by
  unfold fkey
  rw [pairN_inj, pairN_inj]

/-- A field reads as written, cut to its width. -/
@[simp] theorem fld_setFld_same (s : State) (f : Field) (u i v : Nat) : (s.setFld f u i v).fld f u i = v % 2 ^ f.w := by
  unfold State.fld State.setFld
  simp

/-- A write of one field leaves every other field alone. -/
theorem fld_setFld_id (s : State) (f g : Field) (u i v u' i' : Nat) (h : g.id ≠ f.id) :
    (s.setFld f u i v).fld g u' i' = s.fld g u' i' := by
  unfold State.fld State.setFld
  simp only
  rw [SMap.get_set_ne _ _ _ _ (fun e => h (fkey_inj.1 e).1)]

/-- A write of one unit's field leaves the other units alone. -/
theorem fld_setFld_unit (s : State) (f g : Field) (u i v u' i' : Nat) (h : u' ≠ u) :
    (s.setFld f u i v).fld g u' i' = s.fld g u' i' := by
  unfold State.fld State.setFld
  simp only
  rw [SMap.get_set_ne _ _ _ _ (fun e => h (fkey_inj.1 e).2.1)]

/-- A write of one copy of a field leaves the other copies alone. -/
theorem fld_setFld_copy (s : State) (f g : Field) (u i v u' i' : Nat) (h : i' ≠ i) :
    (s.setFld f u i v).fld g u' i' = s.fld g u' i' := by
  unfold State.fld State.setFld
  simp only
  rw [SMap.get_set_ne _ _ _ _ (fun e => h (fkey_inj.1 e).2.2)]

/-- A byte reads as written; the others keep their values. -/
theorem rdB_wrB (s : State) (a b : Nat) (v : Byte) : (s.wrB a v).rdB b = if b = a then v else s.rdB b := by
  unfold State.rdB State.wrB
  exact SMap.get_set _ _ _ _

/-- A write stores correct check bits. -/
theorem ecc_wrB (s : State) (a b : Nat) (v : Byte) : (s.wrB a v).ecc.get b = if b = a then 0 else s.ecc.get b := by
  unfold State.wrB
  exact SMap.get_set _ _ _ _

/-- The poison marker leaves the data bytes alone. -/
@[simp] theorem rdB_poisonB (s : State) (a b : Nat) : (s.poisonB a).rdB b = s.rdB b := rfl

/-- A fold of state updates over no element. -/
@[simp] theorem forL_nil {α : Type} (f : α → State → State) (s : State) : forL [] f s = s := rfl

@[simp] theorem forL_cons {α : Type} (a : α) (l : List α) (f : α → State → State) (s : State) :
    forL (a :: l) f s = forL l f (f a s) := rfl

@[simp] theorem forN_zero (f : Nat → State → State) (s : State) : forN 0 f s = s := rfl

theorem forN_succ (n : Nat) (f : Nat → State → State) (s : State) : forN (n + 1) f s = f n (forN n f s) := by
  unfold forN
  rw [List.range_succ, List.foldl_append]
  rfl

theorem setBit_eq (s : State) (f : Field) (u i : Nat) : s.setBit f u i = s.setFld f u i 1 := rfl
theorem clrFld_eq (s : State) (f : Field) (u i : Nat) : s.clrFld f u i = s.setFld f u i 0 := rfl

/-! ### One lemma per field and update -/

@[simp] theorem staged_setFld (s : State) (f : Field) (u i v : Nat) : (s.setFld f u i v).staged = s.staged := rfl
@[simp] theorem mem_setFld (s : State) (f : Field) (u i v : Nat) : (s.setFld f u i v).mem = s.mem := rfl
@[simp] theorem ecc_setFld (s : State) (f : Field) (u i v : Nat) : (s.setFld f u i v).ecc = s.ecc := rfl
@[simp] theorem vc_setFld (s : State) (f : Field) (u i v : Nat) : (s.setFld f u i v).vc = s.vc := rfl
@[simp] theorem sc_setFld (s : State) (f : Field) (u i v : Nat) : (s.setFld f u i v).sc = s.sc := rfl
@[simp] theorem cmpLatch_setFld (s : State) (f : Field) (u i v : Nat) : (s.setFld f u i v).cmpLatch = s.cmpLatch := rfl
@[simp] theorem startup_setFld (s : State) (f : Field) (u i v : Nat) : (s.setFld f u i v).startup = s.startup := rfl
@[simp] theorem romOverlay_setFld (s : State) (f : Field) (u i v : Nat) : (s.setFld f u i v).romOverlay = s.romOverlay := rfl
@[simp] theorem reqs_setFld (s : State) (f : Field) (u i v : Nat) : (s.setFld f u i v).reqs = s.reqs := rfl
@[simp] theorem hops_setFld (s : State) (f : Field) (u i v : Nat) : (s.setFld f u i v).hops = s.hops := rfl
@[simp] theorem nocRr_setFld (s : State) (f : Field) (u i v : Nat) : (s.setFld f u i v).nocRr = s.nocRr := rfl
@[simp] theorem noRouter_setFld (s : State) (f : Field) (u i v : Nat) : (s.setFld f u i v).noRouter = s.noRouter := rfl
@[simp] theorem traceQ_setFld (s : State) (f : Field) (u i v : Nat) : (s.setFld f u i v).traceQ = s.traceQ := rfl
@[simp] theorem tgen_setFld (s : State) (f : Field) (u i v : Nat) : (s.setFld f u i v).tgen = s.tgen := rfl
@[simp] theorem irqWin_setFld (s : State) (f : Field) (u i v : Nat) : (s.setFld f u i v).irqWin = s.irqWin := rfl
@[simp] theorem irqHeld_setFld (s : State) (f : Field) (u i v : Nat) : (s.setFld f u i v).irqHeld = s.irqHeld := rfl
@[simp] theorem dev_setFld (s : State) (f : Field) (u i v : Nat) : (s.setFld f u i v).dev = s.dev := rfl
@[simp] theorem domSw_setFld (s : State) (f : Field) (u i v : Nat) : (s.setFld f u i v).domSw = s.domSw := rfl
@[simp] theorem loadLines_setFld (s : State) (f : Field) (u i v : Nat) : (s.setFld f u i v).loadLines = s.loadLines := rfl
@[simp] theorem ffs_setFld (s : State) (f : Field) (u i v : Nat) : (s.setFld f u i v).ffs = s.ffs := rfl
@[simp] theorem ffWait_setFld (s : State) (f : Field) (u i v : Nat) : (s.setFld f u i v).ffWait = s.ffWait := rfl
@[simp] theorem bregs_setFld (s : State) (f : Field) (u i v : Nat) : (s.setFld f u i v).bregs = s.bregs := rfl
@[simp] theorem gpioAtt_setFld (s : State) (f : Field) (u i v : Nat) : (s.setFld f u i v).gpioAtt = s.gpioAtt := rfl
@[simp] theorem laneAtt_setFld (s : State) (f : Field) (u i v : Nat) : (s.setFld f u i v).laneAtt = s.laneAtt := rfl
@[simp] theorem strobe_setFld (s : State) (f : Field) (u i v : Nat) : (s.setFld f u i v).strobe = s.strobe := rfl
@[simp] theorem owed_setFld (s : State) (f : Field) (u i v : Nat) : (s.setFld f u i v).owed = s.owed := rfl
@[simp] theorem bayFrom_setFld (s : State) (f : Field) (u i v : Nat) : (s.setFld f u i v).bayFrom = s.bayFrom := rfl
@[simp] theorem holds_setFld (s : State) (f : Field) (u i v : Nat) : (s.setFld f u i v).holds = s.holds := rfl
@[simp] theorem fdiff_setFld (s : State) (f : Field) (u i v : Nat) : (s.setFld f u i v).fdiff = s.fdiff := rfl
@[simp] theorem blkOut_setFld (s : State) (f : Field) (u i v : Nat) : (s.setFld f u i v).blkOut = s.blkOut := rfl
@[simp] theorem blkWb_setFld (s : State) (f : Field) (u i v : Nat) : (s.setFld f u i v).blkWb = s.blkWb := rfl
@[simp] theorem blkWin_setFld (s : State) (f : Field) (u i v : Nat) : (s.setFld f u i v).blkWin = s.blkWin := rfl
@[simp] theorem spad_setFld (s : State) (f : Field) (u i v : Nat) : (s.setFld f u i v).spad = s.spad := rfl
@[simp] theorem slices_setFld (s : State) (f : Field) (u i v : Nat) : (s.setFld f u i v).slices = s.slices := rfl
@[simp] theorem missed_setFld (s : State) (f : Field) (u i v : Nat) : (s.setFld f u i v).missed = s.missed := rfl
@[simp] theorem lanes_setFld (s : State) (f : Field) (u i v : Nat) : (s.setFld f u i v).lanes = s.lanes := rfl
@[simp] theorem warp_setFld (s : State) (f : Field) (u i v : Nat) : (s.setFld f u i v).warp = s.warp := rfl
@[simp] theorem disco_setFld (s : State) (f : Field) (u i v : Nat) : (s.setFld f u i v).disco = s.disco := rfl
@[simp] theorem pcie_setFld (s : State) (f : Field) (u i v : Nat) : (s.setFld f u i v).pcie = s.pcie := rfl
@[simp] theorem reed_setFld (s : State) (f : Field) (u i v : Nat) : (s.setFld f u i v).reed = s.reed := rfl
@[simp] theorem mp_setFld (s : State) (f : Field) (u i v : Nat) : (s.setFld f u i v).mp = s.mp := rfl
@[simp] theorem dramErr_setFld (s : State) (f : Field) (u i v : Nat) : (s.setFld f u i v).dramErr = s.dramErr := rfl
@[simp] theorem dramDef_setFld (s : State) (f : Field) (u i v : Nat) : (s.setFld f u i v).dramDef = s.dramDef := rfl
@[simp] theorem mpr_setFld (s : State) (f : Field) (u i v : Nat) : (s.setFld f u i v).mpr = s.mpr := rfl
@[simp] theorem mcache_setFld (s : State) (f : Field) (u i v : Nat) : (s.setFld f u i v).mcache = s.mcache := rfl
@[simp] theorem keys_setFld (s : State) (f : Field) (u i v : Nat) : (s.setFld f u i v).keys = s.keys := rfl
@[simp] theorem cmds_setFld (s : State) (f : Field) (u i v : Nat) : (s.setFld f u i v).cmds = s.cmds := rfl
@[simp] theorem slots_setFld (s : State) (f : Field) (u i v : Nat) : (s.setFld f u i v).slots = s.slots := rfl
@[simp] theorem load_setFld (s : State) (f : Field) (u i v : Nat) : (s.setFld f u i v).load = s.load := rfl
@[simp] theorem hdq_setFld (s : State) (f : Field) (u i v : Nat) : (s.setFld f u i v).hdq = s.hdq := rfl
@[simp] theorem insts_setFld (s : State) (f : Field) (u i v : Nat) : (s.setFld f u i v).insts = s.insts := rfl
@[simp] theorem lastInst_setFld (s : State) (f : Field) (u i v : Nat) : (s.setFld f u i v).lastInst = s.lastInst := rfl
@[simp] theorem spools_setFld (s : State) (f : Field) (u i v : Nat) : (s.setFld f u i v).spools = s.spools := rfl
@[simp] theorem moving_setFld (s : State) (f : Field) (u i v : Nat) : (s.setFld f u i v).moving = s.moving := rfl
@[simp] theorem migs_setFld (s : State) (f : Field) (u i v : Nat) : (s.setFld f u i v).migs = s.migs := rfl
@[simp] theorem capts_setFld (s : State) (f : Field) (u i v : Nat) : (s.setFld f u i v).capts = s.capts := rfl
@[simp] theorem keepForm_setFld (s : State) (f : Field) (u i v : Nat) : (s.setFld f u i v).keepForm = s.keepForm := rfl
@[simp] theorem lastEdge_setFld (s : State) (f : Field) (u i v : Nat) : (s.setFld f u i v).lastEdge = s.lastEdge := rfl
@[simp] theorem blkByA_setFld (s : State) (f : Field) (u i v : Nat) : (s.setFld f u i v).blkByA = s.blkByA := rfl
@[simp] theorem frozen_setFld (s : State) (f : Field) (u i v : Nat) : (s.setFld f u i v).frozen = s.frozen := rfl
@[simp] theorem scrub_setFld (s : State) (f : Field) (u i v : Nat) : (s.setFld f u i v).scrub = s.scrub := rfl
@[simp] theorem intake_setFld (s : State) (f : Field) (u i v : Nat) : (s.setFld f u i v).intake = s.intake := rfl
@[simp] theorem bayq_setFld (s : State) (f : Field) (u i v : Nat) : (s.setFld f u i v).bayq = s.bayq := rfl
@[simp] theorem occ_setFld (s : State) (f : Field) (u i v : Nat) : (s.setFld f u i v).occ = s.occ := rfl
@[simp] theorem bist_setFld (s : State) (f : Field) (u i v : Nat) : (s.setFld f u i v).bist = s.bist := rfl
@[simp] theorem dbg_setFld (s : State) (f : Field) (u i v : Nat) : (s.setFld f u i v).dbg = s.dbg := rfl
@[simp] theorem gpio_setFld (s : State) (f : Field) (u i v : Nat) : (s.setFld f u i v).gpio = s.gpio := rfl
@[simp] theorem vin_setFld (s : State) (f : Field) (u i v : Nat) : (s.setFld f u i v).vin = s.vin := rfl
@[simp] theorem hot_setFld (s : State) (f : Field) (u i v : Nat) : (s.setFld f u i v).hot = s.hot := rfl
@[simp] theorem limCap_setFld (s : State) (f : Field) (u i v : Nat) : (s.setFld f u i v).limCap = s.limCap := rfl
@[simp] theorem retHold_setFld (s : State) (f : Field) (u i v : Nat) : (s.setFld f u i v).retHold = s.retHold := rfl
@[simp] theorem deepWait_setFld (s : State) (f : Field) (u i v : Nat) : (s.setFld f u i v).deepWait = s.deepWait := rfl
@[simp] theorem laneRail_setFld (s : State) (f : Field) (u i v : Nat) : (s.setFld f u i v).laneRail = s.laneRail := rfl
@[simp] theorem freeCtr_setFld (s : State) (f : Field) (u i v : Nat) : (s.setFld f u i v).freeCtr = s.freeCtr := rfl
@[simp] theorem out_setFld (s : State) (f : Field) (u i v : Nat) : (s.setFld f u i v).out = s.out := rfl
@[simp] theorem pending_setFld (s : State) (f : Field) (u i v : Nat) : (s.setFld f u i v).pending = s.pending := rfl

@[simp] theorem regs_wrB (s : State) (a : Nat) (b : Byte) : (s.wrB a b).regs = s.regs := rfl
@[simp] theorem staged_wrB (s : State) (a : Nat) (b : Byte) : (s.wrB a b).staged = s.staged := rfl
@[simp] theorem vc_wrB (s : State) (a : Nat) (b : Byte) : (s.wrB a b).vc = s.vc := rfl
@[simp] theorem sc_wrB (s : State) (a : Nat) (b : Byte) : (s.wrB a b).sc = s.sc := rfl
@[simp] theorem cmpLatch_wrB (s : State) (a : Nat) (b : Byte) : (s.wrB a b).cmpLatch = s.cmpLatch := rfl
@[simp] theorem startup_wrB (s : State) (a : Nat) (b : Byte) : (s.wrB a b).startup = s.startup := rfl
@[simp] theorem romOverlay_wrB (s : State) (a : Nat) (b : Byte) : (s.wrB a b).romOverlay = s.romOverlay := rfl
@[simp] theorem reqs_wrB (s : State) (a : Nat) (b : Byte) : (s.wrB a b).reqs = s.reqs := rfl
@[simp] theorem hops_wrB (s : State) (a : Nat) (b : Byte) : (s.wrB a b).hops = s.hops := rfl
@[simp] theorem nocRr_wrB (s : State) (a : Nat) (b : Byte) : (s.wrB a b).nocRr = s.nocRr := rfl
@[simp] theorem noRouter_wrB (s : State) (a : Nat) (b : Byte) : (s.wrB a b).noRouter = s.noRouter := rfl
@[simp] theorem traceQ_wrB (s : State) (a : Nat) (b : Byte) : (s.wrB a b).traceQ = s.traceQ := rfl
@[simp] theorem tgen_wrB (s : State) (a : Nat) (b : Byte) : (s.wrB a b).tgen = s.tgen := rfl
@[simp] theorem irqWin_wrB (s : State) (a : Nat) (b : Byte) : (s.wrB a b).irqWin = s.irqWin := rfl
@[simp] theorem irqHeld_wrB (s : State) (a : Nat) (b : Byte) : (s.wrB a b).irqHeld = s.irqHeld := rfl
@[simp] theorem dev_wrB (s : State) (a : Nat) (b : Byte) : (s.wrB a b).dev = s.dev := rfl
@[simp] theorem domSw_wrB (s : State) (a : Nat) (b : Byte) : (s.wrB a b).domSw = s.domSw := rfl
@[simp] theorem loadLines_wrB (s : State) (a : Nat) (b : Byte) : (s.wrB a b).loadLines = s.loadLines := rfl
@[simp] theorem ffs_wrB (s : State) (a : Nat) (b : Byte) : (s.wrB a b).ffs = s.ffs := rfl
@[simp] theorem ffWait_wrB (s : State) (a : Nat) (b : Byte) : (s.wrB a b).ffWait = s.ffWait := rfl
@[simp] theorem bregs_wrB (s : State) (a : Nat) (b : Byte) : (s.wrB a b).bregs = s.bregs := rfl
@[simp] theorem gpioAtt_wrB (s : State) (a : Nat) (b : Byte) : (s.wrB a b).gpioAtt = s.gpioAtt := rfl
@[simp] theorem laneAtt_wrB (s : State) (a : Nat) (b : Byte) : (s.wrB a b).laneAtt = s.laneAtt := rfl
@[simp] theorem strobe_wrB (s : State) (a : Nat) (b : Byte) : (s.wrB a b).strobe = s.strobe := rfl
@[simp] theorem owed_wrB (s : State) (a : Nat) (b : Byte) : (s.wrB a b).owed = s.owed := rfl
@[simp] theorem bayFrom_wrB (s : State) (a : Nat) (b : Byte) : (s.wrB a b).bayFrom = s.bayFrom := rfl
@[simp] theorem holds_wrB (s : State) (a : Nat) (b : Byte) : (s.wrB a b).holds = s.holds := rfl
@[simp] theorem fdiff_wrB (s : State) (a : Nat) (b : Byte) : (s.wrB a b).fdiff = s.fdiff := rfl
@[simp] theorem blkOut_wrB (s : State) (a : Nat) (b : Byte) : (s.wrB a b).blkOut = s.blkOut := rfl
@[simp] theorem blkWb_wrB (s : State) (a : Nat) (b : Byte) : (s.wrB a b).blkWb = s.blkWb := rfl
@[simp] theorem blkWin_wrB (s : State) (a : Nat) (b : Byte) : (s.wrB a b).blkWin = s.blkWin := rfl
@[simp] theorem spad_wrB (s : State) (a : Nat) (b : Byte) : (s.wrB a b).spad = s.spad := rfl
@[simp] theorem slices_wrB (s : State) (a : Nat) (b : Byte) : (s.wrB a b).slices = s.slices := rfl
@[simp] theorem missed_wrB (s : State) (a : Nat) (b : Byte) : (s.wrB a b).missed = s.missed := rfl
@[simp] theorem lanes_wrB (s : State) (a : Nat) (b : Byte) : (s.wrB a b).lanes = s.lanes := rfl
@[simp] theorem warp_wrB (s : State) (a : Nat) (b : Byte) : (s.wrB a b).warp = s.warp := rfl
@[simp] theorem disco_wrB (s : State) (a : Nat) (b : Byte) : (s.wrB a b).disco = s.disco := rfl
@[simp] theorem pcie_wrB (s : State) (a : Nat) (b : Byte) : (s.wrB a b).pcie = s.pcie := rfl
@[simp] theorem reed_wrB (s : State) (a : Nat) (b : Byte) : (s.wrB a b).reed = s.reed := rfl
@[simp] theorem mp_wrB (s : State) (a : Nat) (b : Byte) : (s.wrB a b).mp = s.mp := rfl
@[simp] theorem dramErr_wrB (s : State) (a : Nat) (b : Byte) : (s.wrB a b).dramErr = s.dramErr := rfl
@[simp] theorem dramDef_wrB (s : State) (a : Nat) (b : Byte) : (s.wrB a b).dramDef = s.dramDef := rfl
@[simp] theorem mpr_wrB (s : State) (a : Nat) (b : Byte) : (s.wrB a b).mpr = s.mpr := rfl
@[simp] theorem mcache_wrB (s : State) (a : Nat) (b : Byte) : (s.wrB a b).mcache = s.mcache := rfl
@[simp] theorem keys_wrB (s : State) (a : Nat) (b : Byte) : (s.wrB a b).keys = s.keys := rfl
@[simp] theorem cmds_wrB (s : State) (a : Nat) (b : Byte) : (s.wrB a b).cmds = s.cmds := rfl
@[simp] theorem slots_wrB (s : State) (a : Nat) (b : Byte) : (s.wrB a b).slots = s.slots := rfl
@[simp] theorem load_wrB (s : State) (a : Nat) (b : Byte) : (s.wrB a b).load = s.load := rfl
@[simp] theorem hdq_wrB (s : State) (a : Nat) (b : Byte) : (s.wrB a b).hdq = s.hdq := rfl
@[simp] theorem insts_wrB (s : State) (a : Nat) (b : Byte) : (s.wrB a b).insts = s.insts := rfl
@[simp] theorem lastInst_wrB (s : State) (a : Nat) (b : Byte) : (s.wrB a b).lastInst = s.lastInst := rfl
@[simp] theorem spools_wrB (s : State) (a : Nat) (b : Byte) : (s.wrB a b).spools = s.spools := rfl
@[simp] theorem moving_wrB (s : State) (a : Nat) (b : Byte) : (s.wrB a b).moving = s.moving := rfl
@[simp] theorem migs_wrB (s : State) (a : Nat) (b : Byte) : (s.wrB a b).migs = s.migs := rfl
@[simp] theorem capts_wrB (s : State) (a : Nat) (b : Byte) : (s.wrB a b).capts = s.capts := rfl
@[simp] theorem keepForm_wrB (s : State) (a : Nat) (b : Byte) : (s.wrB a b).keepForm = s.keepForm := rfl
@[simp] theorem lastEdge_wrB (s : State) (a : Nat) (b : Byte) : (s.wrB a b).lastEdge = s.lastEdge := rfl
@[simp] theorem blkByA_wrB (s : State) (a : Nat) (b : Byte) : (s.wrB a b).blkByA = s.blkByA := rfl
@[simp] theorem frozen_wrB (s : State) (a : Nat) (b : Byte) : (s.wrB a b).frozen = s.frozen := rfl
@[simp] theorem scrub_wrB (s : State) (a : Nat) (b : Byte) : (s.wrB a b).scrub = s.scrub := rfl
@[simp] theorem intake_wrB (s : State) (a : Nat) (b : Byte) : (s.wrB a b).intake = s.intake := rfl
@[simp] theorem bayq_wrB (s : State) (a : Nat) (b : Byte) : (s.wrB a b).bayq = s.bayq := rfl
@[simp] theorem occ_wrB (s : State) (a : Nat) (b : Byte) : (s.wrB a b).occ = s.occ := rfl
@[simp] theorem bist_wrB (s : State) (a : Nat) (b : Byte) : (s.wrB a b).bist = s.bist := rfl
@[simp] theorem dbg_wrB (s : State) (a : Nat) (b : Byte) : (s.wrB a b).dbg = s.dbg := rfl
@[simp] theorem gpio_wrB (s : State) (a : Nat) (b : Byte) : (s.wrB a b).gpio = s.gpio := rfl
@[simp] theorem vin_wrB (s : State) (a : Nat) (b : Byte) : (s.wrB a b).vin = s.vin := rfl
@[simp] theorem hot_wrB (s : State) (a : Nat) (b : Byte) : (s.wrB a b).hot = s.hot := rfl
@[simp] theorem limCap_wrB (s : State) (a : Nat) (b : Byte) : (s.wrB a b).limCap = s.limCap := rfl
@[simp] theorem retHold_wrB (s : State) (a : Nat) (b : Byte) : (s.wrB a b).retHold = s.retHold := rfl
@[simp] theorem deepWait_wrB (s : State) (a : Nat) (b : Byte) : (s.wrB a b).deepWait = s.deepWait := rfl
@[simp] theorem laneRail_wrB (s : State) (a : Nat) (b : Byte) : (s.wrB a b).laneRail = s.laneRail := rfl
@[simp] theorem freeCtr_wrB (s : State) (a : Nat) (b : Byte) : (s.wrB a b).freeCtr = s.freeCtr := rfl
@[simp] theorem out_wrB (s : State) (a : Nat) (b : Byte) : (s.wrB a b).out = s.out := rfl
@[simp] theorem pending_wrB (s : State) (a : Nat) (b : Byte) : (s.wrB a b).pending = s.pending := rfl

@[simp] theorem regs_poisonB (s : State) (a : Nat) : (s.poisonB a).regs = s.regs := rfl
@[simp] theorem staged_poisonB (s : State) (a : Nat) : (s.poisonB a).staged = s.staged := rfl
@[simp] theorem mem_poisonB (s : State) (a : Nat) : (s.poisonB a).mem = s.mem := rfl
@[simp] theorem vc_poisonB (s : State) (a : Nat) : (s.poisonB a).vc = s.vc := rfl
@[simp] theorem sc_poisonB (s : State) (a : Nat) : (s.poisonB a).sc = s.sc := rfl
@[simp] theorem cmpLatch_poisonB (s : State) (a : Nat) : (s.poisonB a).cmpLatch = s.cmpLatch := rfl
@[simp] theorem startup_poisonB (s : State) (a : Nat) : (s.poisonB a).startup = s.startup := rfl
@[simp] theorem romOverlay_poisonB (s : State) (a : Nat) : (s.poisonB a).romOverlay = s.romOverlay := rfl
@[simp] theorem reqs_poisonB (s : State) (a : Nat) : (s.poisonB a).reqs = s.reqs := rfl
@[simp] theorem hops_poisonB (s : State) (a : Nat) : (s.poisonB a).hops = s.hops := rfl
@[simp] theorem nocRr_poisonB (s : State) (a : Nat) : (s.poisonB a).nocRr = s.nocRr := rfl
@[simp] theorem noRouter_poisonB (s : State) (a : Nat) : (s.poisonB a).noRouter = s.noRouter := rfl
@[simp] theorem traceQ_poisonB (s : State) (a : Nat) : (s.poisonB a).traceQ = s.traceQ := rfl
@[simp] theorem tgen_poisonB (s : State) (a : Nat) : (s.poisonB a).tgen = s.tgen := rfl
@[simp] theorem irqWin_poisonB (s : State) (a : Nat) : (s.poisonB a).irqWin = s.irqWin := rfl
@[simp] theorem irqHeld_poisonB (s : State) (a : Nat) : (s.poisonB a).irqHeld = s.irqHeld := rfl
@[simp] theorem dev_poisonB (s : State) (a : Nat) : (s.poisonB a).dev = s.dev := rfl
@[simp] theorem domSw_poisonB (s : State) (a : Nat) : (s.poisonB a).domSw = s.domSw := rfl
@[simp] theorem loadLines_poisonB (s : State) (a : Nat) : (s.poisonB a).loadLines = s.loadLines := rfl
@[simp] theorem ffs_poisonB (s : State) (a : Nat) : (s.poisonB a).ffs = s.ffs := rfl
@[simp] theorem ffWait_poisonB (s : State) (a : Nat) : (s.poisonB a).ffWait = s.ffWait := rfl
@[simp] theorem bregs_poisonB (s : State) (a : Nat) : (s.poisonB a).bregs = s.bregs := rfl
@[simp] theorem gpioAtt_poisonB (s : State) (a : Nat) : (s.poisonB a).gpioAtt = s.gpioAtt := rfl
@[simp] theorem laneAtt_poisonB (s : State) (a : Nat) : (s.poisonB a).laneAtt = s.laneAtt := rfl
@[simp] theorem strobe_poisonB (s : State) (a : Nat) : (s.poisonB a).strobe = s.strobe := rfl
@[simp] theorem owed_poisonB (s : State) (a : Nat) : (s.poisonB a).owed = s.owed := rfl
@[simp] theorem bayFrom_poisonB (s : State) (a : Nat) : (s.poisonB a).bayFrom = s.bayFrom := rfl
@[simp] theorem holds_poisonB (s : State) (a : Nat) : (s.poisonB a).holds = s.holds := rfl
@[simp] theorem fdiff_poisonB (s : State) (a : Nat) : (s.poisonB a).fdiff = s.fdiff := rfl
@[simp] theorem blkOut_poisonB (s : State) (a : Nat) : (s.poisonB a).blkOut = s.blkOut := rfl
@[simp] theorem blkWb_poisonB (s : State) (a : Nat) : (s.poisonB a).blkWb = s.blkWb := rfl
@[simp] theorem blkWin_poisonB (s : State) (a : Nat) : (s.poisonB a).blkWin = s.blkWin := rfl
@[simp] theorem spad_poisonB (s : State) (a : Nat) : (s.poisonB a).spad = s.spad := rfl
@[simp] theorem slices_poisonB (s : State) (a : Nat) : (s.poisonB a).slices = s.slices := rfl
@[simp] theorem missed_poisonB (s : State) (a : Nat) : (s.poisonB a).missed = s.missed := rfl
@[simp] theorem lanes_poisonB (s : State) (a : Nat) : (s.poisonB a).lanes = s.lanes := rfl
@[simp] theorem warp_poisonB (s : State) (a : Nat) : (s.poisonB a).warp = s.warp := rfl
@[simp] theorem disco_poisonB (s : State) (a : Nat) : (s.poisonB a).disco = s.disco := rfl
@[simp] theorem pcie_poisonB (s : State) (a : Nat) : (s.poisonB a).pcie = s.pcie := rfl
@[simp] theorem reed_poisonB (s : State) (a : Nat) : (s.poisonB a).reed = s.reed := rfl
@[simp] theorem mp_poisonB (s : State) (a : Nat) : (s.poisonB a).mp = s.mp := rfl
@[simp] theorem dramErr_poisonB (s : State) (a : Nat) : (s.poisonB a).dramErr = s.dramErr := rfl
@[simp] theorem dramDef_poisonB (s : State) (a : Nat) : (s.poisonB a).dramDef = s.dramDef := rfl
@[simp] theorem mpr_poisonB (s : State) (a : Nat) : (s.poisonB a).mpr = s.mpr := rfl
@[simp] theorem mcache_poisonB (s : State) (a : Nat) : (s.poisonB a).mcache = s.mcache := rfl
@[simp] theorem keys_poisonB (s : State) (a : Nat) : (s.poisonB a).keys = s.keys := rfl
@[simp] theorem cmds_poisonB (s : State) (a : Nat) : (s.poisonB a).cmds = s.cmds := rfl
@[simp] theorem slots_poisonB (s : State) (a : Nat) : (s.poisonB a).slots = s.slots := rfl
@[simp] theorem load_poisonB (s : State) (a : Nat) : (s.poisonB a).load = s.load := rfl
@[simp] theorem hdq_poisonB (s : State) (a : Nat) : (s.poisonB a).hdq = s.hdq := rfl
@[simp] theorem insts_poisonB (s : State) (a : Nat) : (s.poisonB a).insts = s.insts := rfl
@[simp] theorem lastInst_poisonB (s : State) (a : Nat) : (s.poisonB a).lastInst = s.lastInst := rfl
@[simp] theorem spools_poisonB (s : State) (a : Nat) : (s.poisonB a).spools = s.spools := rfl
@[simp] theorem moving_poisonB (s : State) (a : Nat) : (s.poisonB a).moving = s.moving := rfl
@[simp] theorem migs_poisonB (s : State) (a : Nat) : (s.poisonB a).migs = s.migs := rfl
@[simp] theorem capts_poisonB (s : State) (a : Nat) : (s.poisonB a).capts = s.capts := rfl
@[simp] theorem keepForm_poisonB (s : State) (a : Nat) : (s.poisonB a).keepForm = s.keepForm := rfl
@[simp] theorem lastEdge_poisonB (s : State) (a : Nat) : (s.poisonB a).lastEdge = s.lastEdge := rfl
@[simp] theorem blkByA_poisonB (s : State) (a : Nat) : (s.poisonB a).blkByA = s.blkByA := rfl
@[simp] theorem frozen_poisonB (s : State) (a : Nat) : (s.poisonB a).frozen = s.frozen := rfl
@[simp] theorem scrub_poisonB (s : State) (a : Nat) : (s.poisonB a).scrub = s.scrub := rfl
@[simp] theorem intake_poisonB (s : State) (a : Nat) : (s.poisonB a).intake = s.intake := rfl
@[simp] theorem bayq_poisonB (s : State) (a : Nat) : (s.poisonB a).bayq = s.bayq := rfl
@[simp] theorem occ_poisonB (s : State) (a : Nat) : (s.poisonB a).occ = s.occ := rfl
@[simp] theorem bist_poisonB (s : State) (a : Nat) : (s.poisonB a).bist = s.bist := rfl
@[simp] theorem dbg_poisonB (s : State) (a : Nat) : (s.poisonB a).dbg = s.dbg := rfl
@[simp] theorem gpio_poisonB (s : State) (a : Nat) : (s.poisonB a).gpio = s.gpio := rfl
@[simp] theorem vin_poisonB (s : State) (a : Nat) : (s.poisonB a).vin = s.vin := rfl
@[simp] theorem hot_poisonB (s : State) (a : Nat) : (s.poisonB a).hot = s.hot := rfl
@[simp] theorem limCap_poisonB (s : State) (a : Nat) : (s.poisonB a).limCap = s.limCap := rfl
@[simp] theorem retHold_poisonB (s : State) (a : Nat) : (s.poisonB a).retHold = s.retHold := rfl
@[simp] theorem deepWait_poisonB (s : State) (a : Nat) : (s.poisonB a).deepWait = s.deepWait := rfl
@[simp] theorem laneRail_poisonB (s : State) (a : Nat) : (s.poisonB a).laneRail = s.laneRail := rfl
@[simp] theorem freeCtr_poisonB (s : State) (a : Nat) : (s.poisonB a).freeCtr = s.freeCtr := rfl
@[simp] theorem out_poisonB (s : State) (a : Nat) : (s.poisonB a).out = s.out := rfl
@[simp] theorem pending_poisonB (s : State) (a : Nat) : (s.poisonB a).pending = s.pending := rfl

@[simp] theorem regs_zeroRange (s : State) (a n : Nat) : (s.zeroRange a n).regs = s.regs := rfl
@[simp] theorem staged_zeroRange (s : State) (a n : Nat) : (s.zeroRange a n).staged = s.staged := rfl
@[simp] theorem vc_zeroRange (s : State) (a n : Nat) : (s.zeroRange a n).vc = s.vc := rfl
@[simp] theorem sc_zeroRange (s : State) (a n : Nat) : (s.zeroRange a n).sc = s.sc := rfl
@[simp] theorem cmpLatch_zeroRange (s : State) (a n : Nat) : (s.zeroRange a n).cmpLatch = s.cmpLatch := rfl
@[simp] theorem startup_zeroRange (s : State) (a n : Nat) : (s.zeroRange a n).startup = s.startup := rfl
@[simp] theorem romOverlay_zeroRange (s : State) (a n : Nat) : (s.zeroRange a n).romOverlay = s.romOverlay := rfl
@[simp] theorem reqs_zeroRange (s : State) (a n : Nat) : (s.zeroRange a n).reqs = s.reqs := rfl
@[simp] theorem hops_zeroRange (s : State) (a n : Nat) : (s.zeroRange a n).hops = s.hops := rfl
@[simp] theorem nocRr_zeroRange (s : State) (a n : Nat) : (s.zeroRange a n).nocRr = s.nocRr := rfl
@[simp] theorem noRouter_zeroRange (s : State) (a n : Nat) : (s.zeroRange a n).noRouter = s.noRouter := rfl
@[simp] theorem traceQ_zeroRange (s : State) (a n : Nat) : (s.zeroRange a n).traceQ = s.traceQ := rfl
@[simp] theorem tgen_zeroRange (s : State) (a n : Nat) : (s.zeroRange a n).tgen = s.tgen := rfl
@[simp] theorem irqWin_zeroRange (s : State) (a n : Nat) : (s.zeroRange a n).irqWin = s.irqWin := rfl
@[simp] theorem irqHeld_zeroRange (s : State) (a n : Nat) : (s.zeroRange a n).irqHeld = s.irqHeld := rfl
@[simp] theorem dev_zeroRange (s : State) (a n : Nat) : (s.zeroRange a n).dev = s.dev := rfl
@[simp] theorem domSw_zeroRange (s : State) (a n : Nat) : (s.zeroRange a n).domSw = s.domSw := rfl
@[simp] theorem loadLines_zeroRange (s : State) (a n : Nat) : (s.zeroRange a n).loadLines = s.loadLines := rfl
@[simp] theorem ffs_zeroRange (s : State) (a n : Nat) : (s.zeroRange a n).ffs = s.ffs := rfl
@[simp] theorem ffWait_zeroRange (s : State) (a n : Nat) : (s.zeroRange a n).ffWait = s.ffWait := rfl
@[simp] theorem bregs_zeroRange (s : State) (a n : Nat) : (s.zeroRange a n).bregs = s.bregs := rfl
@[simp] theorem gpioAtt_zeroRange (s : State) (a n : Nat) : (s.zeroRange a n).gpioAtt = s.gpioAtt := rfl
@[simp] theorem laneAtt_zeroRange (s : State) (a n : Nat) : (s.zeroRange a n).laneAtt = s.laneAtt := rfl
@[simp] theorem strobe_zeroRange (s : State) (a n : Nat) : (s.zeroRange a n).strobe = s.strobe := rfl
@[simp] theorem owed_zeroRange (s : State) (a n : Nat) : (s.zeroRange a n).owed = s.owed := rfl
@[simp] theorem bayFrom_zeroRange (s : State) (a n : Nat) : (s.zeroRange a n).bayFrom = s.bayFrom := rfl
@[simp] theorem holds_zeroRange (s : State) (a n : Nat) : (s.zeroRange a n).holds = s.holds := rfl
@[simp] theorem fdiff_zeroRange (s : State) (a n : Nat) : (s.zeroRange a n).fdiff = s.fdiff := rfl
@[simp] theorem blkOut_zeroRange (s : State) (a n : Nat) : (s.zeroRange a n).blkOut = s.blkOut := rfl
@[simp] theorem blkWb_zeroRange (s : State) (a n : Nat) : (s.zeroRange a n).blkWb = s.blkWb := rfl
@[simp] theorem blkWin_zeroRange (s : State) (a n : Nat) : (s.zeroRange a n).blkWin = s.blkWin := rfl
@[simp] theorem spad_zeroRange (s : State) (a n : Nat) : (s.zeroRange a n).spad = s.spad := rfl
@[simp] theorem slices_zeroRange (s : State) (a n : Nat) : (s.zeroRange a n).slices = s.slices := rfl
@[simp] theorem missed_zeroRange (s : State) (a n : Nat) : (s.zeroRange a n).missed = s.missed := rfl
@[simp] theorem lanes_zeroRange (s : State) (a n : Nat) : (s.zeroRange a n).lanes = s.lanes := rfl
@[simp] theorem warp_zeroRange (s : State) (a n : Nat) : (s.zeroRange a n).warp = s.warp := rfl
@[simp] theorem disco_zeroRange (s : State) (a n : Nat) : (s.zeroRange a n).disco = s.disco := rfl
@[simp] theorem pcie_zeroRange (s : State) (a n : Nat) : (s.zeroRange a n).pcie = s.pcie := rfl
@[simp] theorem reed_zeroRange (s : State) (a n : Nat) : (s.zeroRange a n).reed = s.reed := rfl
@[simp] theorem mp_zeroRange (s : State) (a n : Nat) : (s.zeroRange a n).mp = s.mp := rfl
@[simp] theorem dramErr_zeroRange (s : State) (a n : Nat) : (s.zeroRange a n).dramErr = s.dramErr := rfl
@[simp] theorem dramDef_zeroRange (s : State) (a n : Nat) : (s.zeroRange a n).dramDef = s.dramDef := rfl
@[simp] theorem mpr_zeroRange (s : State) (a n : Nat) : (s.zeroRange a n).mpr = s.mpr := rfl
@[simp] theorem mcache_zeroRange (s : State) (a n : Nat) : (s.zeroRange a n).mcache = s.mcache := rfl
@[simp] theorem keys_zeroRange (s : State) (a n : Nat) : (s.zeroRange a n).keys = s.keys := rfl
@[simp] theorem cmds_zeroRange (s : State) (a n : Nat) : (s.zeroRange a n).cmds = s.cmds := rfl
@[simp] theorem slots_zeroRange (s : State) (a n : Nat) : (s.zeroRange a n).slots = s.slots := rfl
@[simp] theorem load_zeroRange (s : State) (a n : Nat) : (s.zeroRange a n).load = s.load := rfl
@[simp] theorem hdq_zeroRange (s : State) (a n : Nat) : (s.zeroRange a n).hdq = s.hdq := rfl
@[simp] theorem insts_zeroRange (s : State) (a n : Nat) : (s.zeroRange a n).insts = s.insts := rfl
@[simp] theorem lastInst_zeroRange (s : State) (a n : Nat) : (s.zeroRange a n).lastInst = s.lastInst := rfl
@[simp] theorem spools_zeroRange (s : State) (a n : Nat) : (s.zeroRange a n).spools = s.spools := rfl
@[simp] theorem moving_zeroRange (s : State) (a n : Nat) : (s.zeroRange a n).moving = s.moving := rfl
@[simp] theorem migs_zeroRange (s : State) (a n : Nat) : (s.zeroRange a n).migs = s.migs := rfl
@[simp] theorem capts_zeroRange (s : State) (a n : Nat) : (s.zeroRange a n).capts = s.capts := rfl
@[simp] theorem keepForm_zeroRange (s : State) (a n : Nat) : (s.zeroRange a n).keepForm = s.keepForm := rfl
@[simp] theorem lastEdge_zeroRange (s : State) (a n : Nat) : (s.zeroRange a n).lastEdge = s.lastEdge := rfl
@[simp] theorem blkByA_zeroRange (s : State) (a n : Nat) : (s.zeroRange a n).blkByA = s.blkByA := rfl
@[simp] theorem frozen_zeroRange (s : State) (a n : Nat) : (s.zeroRange a n).frozen = s.frozen := rfl
@[simp] theorem scrub_zeroRange (s : State) (a n : Nat) : (s.zeroRange a n).scrub = s.scrub := rfl
@[simp] theorem intake_zeroRange (s : State) (a n : Nat) : (s.zeroRange a n).intake = s.intake := rfl
@[simp] theorem bayq_zeroRange (s : State) (a n : Nat) : (s.zeroRange a n).bayq = s.bayq := rfl
@[simp] theorem occ_zeroRange (s : State) (a n : Nat) : (s.zeroRange a n).occ = s.occ := rfl
@[simp] theorem bist_zeroRange (s : State) (a n : Nat) : (s.zeroRange a n).bist = s.bist := rfl
@[simp] theorem dbg_zeroRange (s : State) (a n : Nat) : (s.zeroRange a n).dbg = s.dbg := rfl
@[simp] theorem gpio_zeroRange (s : State) (a n : Nat) : (s.zeroRange a n).gpio = s.gpio := rfl
@[simp] theorem vin_zeroRange (s : State) (a n : Nat) : (s.zeroRange a n).vin = s.vin := rfl
@[simp] theorem hot_zeroRange (s : State) (a n : Nat) : (s.zeroRange a n).hot = s.hot := rfl
@[simp] theorem limCap_zeroRange (s : State) (a n : Nat) : (s.zeroRange a n).limCap = s.limCap := rfl
@[simp] theorem retHold_zeroRange (s : State) (a n : Nat) : (s.zeroRange a n).retHold = s.retHold := rfl
@[simp] theorem deepWait_zeroRange (s : State) (a n : Nat) : (s.zeroRange a n).deepWait = s.deepWait := rfl
@[simp] theorem laneRail_zeroRange (s : State) (a n : Nat) : (s.zeroRange a n).laneRail = s.laneRail := rfl
@[simp] theorem freeCtr_zeroRange (s : State) (a n : Nat) : (s.zeroRange a n).freeCtr = s.freeCtr := rfl
@[simp] theorem out_zeroRange (s : State) (a n : Nat) : (s.zeroRange a n).out = s.out := rfl
@[simp] theorem pending_zeroRange (s : State) (a n : Nat) : (s.zeroRange a n).pending = s.pending := rfl

@[simp] theorem regs_emit (s : State) (o : Out) : (s.emit o).regs = s.regs := rfl
@[simp] theorem staged_emit (s : State) (o : Out) : (s.emit o).staged = s.staged := rfl
@[simp] theorem mem_emit (s : State) (o : Out) : (s.emit o).mem = s.mem := rfl
@[simp] theorem ecc_emit (s : State) (o : Out) : (s.emit o).ecc = s.ecc := rfl
@[simp] theorem vc_emit (s : State) (o : Out) : (s.emit o).vc = s.vc := rfl
@[simp] theorem sc_emit (s : State) (o : Out) : (s.emit o).sc = s.sc := rfl
@[simp] theorem cmpLatch_emit (s : State) (o : Out) : (s.emit o).cmpLatch = s.cmpLatch := rfl
@[simp] theorem startup_emit (s : State) (o : Out) : (s.emit o).startup = s.startup := rfl
@[simp] theorem romOverlay_emit (s : State) (o : Out) : (s.emit o).romOverlay = s.romOverlay := rfl
@[simp] theorem reqs_emit (s : State) (o : Out) : (s.emit o).reqs = s.reqs := rfl
@[simp] theorem hops_emit (s : State) (o : Out) : (s.emit o).hops = s.hops := rfl
@[simp] theorem nocRr_emit (s : State) (o : Out) : (s.emit o).nocRr = s.nocRr := rfl
@[simp] theorem noRouter_emit (s : State) (o : Out) : (s.emit o).noRouter = s.noRouter := rfl
@[simp] theorem traceQ_emit (s : State) (o : Out) : (s.emit o).traceQ = s.traceQ := rfl
@[simp] theorem tgen_emit (s : State) (o : Out) : (s.emit o).tgen = s.tgen := rfl
@[simp] theorem irqWin_emit (s : State) (o : Out) : (s.emit o).irqWin = s.irqWin := rfl
@[simp] theorem irqHeld_emit (s : State) (o : Out) : (s.emit o).irqHeld = s.irqHeld := rfl
@[simp] theorem dev_emit (s : State) (o : Out) : (s.emit o).dev = s.dev := rfl
@[simp] theorem domSw_emit (s : State) (o : Out) : (s.emit o).domSw = s.domSw := rfl
@[simp] theorem loadLines_emit (s : State) (o : Out) : (s.emit o).loadLines = s.loadLines := rfl
@[simp] theorem ffs_emit (s : State) (o : Out) : (s.emit o).ffs = s.ffs := rfl
@[simp] theorem ffWait_emit (s : State) (o : Out) : (s.emit o).ffWait = s.ffWait := rfl
@[simp] theorem bregs_emit (s : State) (o : Out) : (s.emit o).bregs = s.bregs := rfl
@[simp] theorem gpioAtt_emit (s : State) (o : Out) : (s.emit o).gpioAtt = s.gpioAtt := rfl
@[simp] theorem laneAtt_emit (s : State) (o : Out) : (s.emit o).laneAtt = s.laneAtt := rfl
@[simp] theorem strobe_emit (s : State) (o : Out) : (s.emit o).strobe = s.strobe := rfl
@[simp] theorem owed_emit (s : State) (o : Out) : (s.emit o).owed = s.owed := rfl
@[simp] theorem bayFrom_emit (s : State) (o : Out) : (s.emit o).bayFrom = s.bayFrom := rfl
@[simp] theorem holds_emit (s : State) (o : Out) : (s.emit o).holds = s.holds := rfl
@[simp] theorem fdiff_emit (s : State) (o : Out) : (s.emit o).fdiff = s.fdiff := rfl
@[simp] theorem blkOut_emit (s : State) (o : Out) : (s.emit o).blkOut = s.blkOut := rfl
@[simp] theorem blkWb_emit (s : State) (o : Out) : (s.emit o).blkWb = s.blkWb := rfl
@[simp] theorem blkWin_emit (s : State) (o : Out) : (s.emit o).blkWin = s.blkWin := rfl
@[simp] theorem spad_emit (s : State) (o : Out) : (s.emit o).spad = s.spad := rfl
@[simp] theorem slices_emit (s : State) (o : Out) : (s.emit o).slices = s.slices := rfl
@[simp] theorem missed_emit (s : State) (o : Out) : (s.emit o).missed = s.missed := rfl
@[simp] theorem lanes_emit (s : State) (o : Out) : (s.emit o).lanes = s.lanes := rfl
@[simp] theorem warp_emit (s : State) (o : Out) : (s.emit o).warp = s.warp := rfl
@[simp] theorem disco_emit (s : State) (o : Out) : (s.emit o).disco = s.disco := rfl
@[simp] theorem pcie_emit (s : State) (o : Out) : (s.emit o).pcie = s.pcie := rfl
@[simp] theorem reed_emit (s : State) (o : Out) : (s.emit o).reed = s.reed := rfl
@[simp] theorem mp_emit (s : State) (o : Out) : (s.emit o).mp = s.mp := rfl
@[simp] theorem dramErr_emit (s : State) (o : Out) : (s.emit o).dramErr = s.dramErr := rfl
@[simp] theorem dramDef_emit (s : State) (o : Out) : (s.emit o).dramDef = s.dramDef := rfl
@[simp] theorem mpr_emit (s : State) (o : Out) : (s.emit o).mpr = s.mpr := rfl
@[simp] theorem mcache_emit (s : State) (o : Out) : (s.emit o).mcache = s.mcache := rfl
@[simp] theorem keys_emit (s : State) (o : Out) : (s.emit o).keys = s.keys := rfl
@[simp] theorem cmds_emit (s : State) (o : Out) : (s.emit o).cmds = s.cmds := rfl
@[simp] theorem slots_emit (s : State) (o : Out) : (s.emit o).slots = s.slots := rfl
@[simp] theorem load_emit (s : State) (o : Out) : (s.emit o).load = s.load := rfl
@[simp] theorem hdq_emit (s : State) (o : Out) : (s.emit o).hdq = s.hdq := rfl
@[simp] theorem insts_emit (s : State) (o : Out) : (s.emit o).insts = s.insts := rfl
@[simp] theorem lastInst_emit (s : State) (o : Out) : (s.emit o).lastInst = s.lastInst := rfl
@[simp] theorem spools_emit (s : State) (o : Out) : (s.emit o).spools = s.spools := rfl
@[simp] theorem moving_emit (s : State) (o : Out) : (s.emit o).moving = s.moving := rfl
@[simp] theorem migs_emit (s : State) (o : Out) : (s.emit o).migs = s.migs := rfl
@[simp] theorem capts_emit (s : State) (o : Out) : (s.emit o).capts = s.capts := rfl
@[simp] theorem keepForm_emit (s : State) (o : Out) : (s.emit o).keepForm = s.keepForm := rfl
@[simp] theorem lastEdge_emit (s : State) (o : Out) : (s.emit o).lastEdge = s.lastEdge := rfl
@[simp] theorem blkByA_emit (s : State) (o : Out) : (s.emit o).blkByA = s.blkByA := rfl
@[simp] theorem frozen_emit (s : State) (o : Out) : (s.emit o).frozen = s.frozen := rfl
@[simp] theorem scrub_emit (s : State) (o : Out) : (s.emit o).scrub = s.scrub := rfl
@[simp] theorem intake_emit (s : State) (o : Out) : (s.emit o).intake = s.intake := rfl
@[simp] theorem bayq_emit (s : State) (o : Out) : (s.emit o).bayq = s.bayq := rfl
@[simp] theorem occ_emit (s : State) (o : Out) : (s.emit o).occ = s.occ := rfl
@[simp] theorem bist_emit (s : State) (o : Out) : (s.emit o).bist = s.bist := rfl
@[simp] theorem dbg_emit (s : State) (o : Out) : (s.emit o).dbg = s.dbg := rfl
@[simp] theorem gpio_emit (s : State) (o : Out) : (s.emit o).gpio = s.gpio := rfl
@[simp] theorem vin_emit (s : State) (o : Out) : (s.emit o).vin = s.vin := rfl
@[simp] theorem hot_emit (s : State) (o : Out) : (s.emit o).hot = s.hot := rfl
@[simp] theorem limCap_emit (s : State) (o : Out) : (s.emit o).limCap = s.limCap := rfl
@[simp] theorem retHold_emit (s : State) (o : Out) : (s.emit o).retHold = s.retHold := rfl
@[simp] theorem deepWait_emit (s : State) (o : Out) : (s.emit o).deepWait = s.deepWait := rfl
@[simp] theorem laneRail_emit (s : State) (o : Out) : (s.emit o).laneRail = s.laneRail := rfl
@[simp] theorem freeCtr_emit (s : State) (o : Out) : (s.emit o).freeCtr = s.freeCtr := rfl
@[simp] theorem pending_emit (s : State) (o : Out) : (s.emit o).pending = s.pending := rfl

@[simp] theorem fld_wrB (s : State) (a : Nat) (b : Byte) (g : Field) (x y : Nat) : (s.wrB a b).fld g x y = s.fld g x y := rfl
@[simp] theorem fld_poisonB (s : State) (a : Nat) (g : Field) (x y : Nat) : (s.poisonB a).fld g x y = s.fld g x y := rfl
@[simp] theorem fld_zeroRange (s : State) (a n : Nat) (g : Field) (x y : Nat) : (s.zeroRange a n).fld g x y = s.fld g x y := rfl
@[simp] theorem fld_emit (s : State) (o : Out) (g : Field) (x y : Nat) : (s.emit o).fld g x y = s.fld g x y := rfl
@[simp] theorem rdB_setFld (s : State) (f : Field) (u i v a : Nat) : (s.setFld f u i v).rdB a = s.rdB a := rfl
@[simp] theorem rdB_emit (s : State) (o : Out) (a : Nat) : (s.emit o).rdB a = s.rdB a := rfl

end Sys2Proof.Machine
end

