-- ==== Sys2Proof/Laws/Virelo.lean ====
section
/-!
SUPPORT. What the shared operations of Virelo instructions do: an issued instruction runs its body, retirement, and a
result with flags.
-/
namespace Sys2Proof.Machine

/-- An instruction that the core issues runs its body in the state after the fetch and the comparators. -/
theorem vop_issued {c : Nat} {body : State → State} {s : State} (h1 : vready s c = true)
    (h2 : vfetch (vleaveRom c s) c = .ok) (h3 : (vbreak c (vleaveRom c s)).1 = false) :
    vop c 0 body s = .next (body (vbreak c (vleaveRom c s)).2) := by
  unfold vop vissue
  simp only [h1, Bool.not_true, Bool.false_eq_true, if_false, h2, if_true]
  rcases hb : vbreak c (vleaveRom c s) with ⟨b, s1⟩
  rw [hb] at h3
  simp only at h3
  subst h3
  rfl

@[simp] theorem updVc_fld (s : State) (c : Nat) (f : VCore → VCore) (g : Field) (u i : Nat) :
    (s.updVc c f).fld g u i = s.fld g u i := rfl

@[simp] theorem updVc_bit (s : State) (c : Nat) (f : VCore → VCore) (g : Field) (u i : Nat) :
    (s.updVc c f).bit g u i = s.bit g u i := rfl

@[simp] theorem updVc_vc_same (s : State) (c : Nat) (f : VCore → VCore) : (s.updVc c f).vc.get c = f (s.vc.get c) := by
  simp [State.updVc, SMap.upd]

theorem updVc_vc_ne (s : State) (c k : Nat) (f : VCore → VCore) (h : k ≠ c) : (s.updVc c f).vc.get k = s.vc.get k := by
  simp [State.updVc, SMap.upd, SMap.get_set_ne _ _ _ _ h]

@[simp] theorem vc_setFld' (s : State) (f : Field) (u i v c : Nat) : ((s.setFld f u i v).vc.get c) = s.vc.get c := rfl

/-- The registers of a core depend on its own register file and on TW and CWP alone. -/
theorem vget_congr {s t : State} {c n : Nat} (hr : (t.vc.get c).regs = (s.vc.get c).regs)
    (h1 : t.bit F.PSTATE_TW c = s.bit F.PSTATE_TW c) (h2 : t.fld F.WSTATE_CWP c = s.fld F.WSTATE_CWP c) :
    t.vget c n = s.vget c n := by
  unfold State.vget vphys
  rw [hr, h1, h2]

/-- Distinct register numbers below 32 name distinct physical registers. -/
theorem vphys_inj {s : State} {c m n : Nat} (hm : m < 32) (hn : n < 32) (h : vphys s c m = vphys s c n) : m = n := by
  unfold vphys at h
  simp only at h
  have hw : s.fld F.WSTATE_CWP c + 1 ≠ s.fld F.WSTATE_CWP c := by omega
  split_ifs at h <;> omega

/-- After a write, `rd` reads the value and every other register what it read before; G0 stays 0. -/
theorem vget_vset {s : State} {c rd n : Nat} {v : Word} (hd : rd < 32) (hn : n < 32) :
    (s.vset c rd v).vget c n = if n = rd ∧ n ≠ 0 then v else s.vget c n := by
  unfold State.vset
  by_cases h0 : rd = 0
  · subst h0
    simp only [if_true]
    rw [if_neg (by omega)]
  · rw [if_neg h0]
    unfold State.vget
    by_cases hn0 : n = 0
    · simp [hn0]
    · rw [if_neg hn0, if_neg hn0]
      have hp : ∀ k, vphys (s.updVc c (fun k => { k with regs := k.regs.set (vphys s c rd) v })) c k = vphys s c k := fun _ => rfl
      rw [hp]
      simp only [updVc_vc_same]
      by_cases he : n = rd
      · subst he; simp [hn0]
      · rw [SMap.get_set_ne _ _ _ _ (fun e => he (vphys_inj hn hd e)), if_neg (by simp [he])]

/-- Retirement sets the PC and the retirement fields of the core and changes nothing else. -/
theorem vretireTo_fld {s : State} {c : Nat} {npc : Word} {g : Field} {v i : Nat}
    (h1 : g.id = F.RETIRED.id → v ≠ c) (h2 : g.id = F.CC_PC_PC.id → v ≠ c) (h3 : g.id = F.DSTATUS_SKIP.id → v ≠ c) :
    (vretireTo c npc s).fld g v i = s.fld g v i := by
  have key : ∀ (u : State) (f : Field) (x : Nat), (g.id = f.id → v ≠ c) → (u.setFld f c 0 x).fld g v i = u.fld g v i := by
    intro u f x h
    by_cases e : g.id = f.id
    · exact fld_setFld_unit _ _ _ _ _ _ _ _ (h e)
    · exact fld_setFld_id _ _ _ _ _ _ _ _ e
  unfold vretireTo
  simp only [State.clrFld, State.bumpWrap]
  split <;> simp [key _ _ _ h1, key _ _ _ h2, key _ _ _ h3]

@[simp] theorem vretireTo_pc (s : State) (c : Nat) (npc : Word) : (vretireTo c npc s).vpc c = npc := by
  unfold vretireTo State.vpc
  simp only [State.clrFld, State.bumpWrap]
  split <;> simp

theorem vretireTo_vc_ne (s : State) (c k : Nat) (npc : Word) (h : k ≠ c) : (vretireTo c npc s).vc.get k = s.vc.get k := by
  unfold vretireTo
  simp only [State.clrFld, State.bumpWrap]
  split <;> simp [updVc_vc_ne _ _ _ _ h]

@[simp] theorem vretireTo_regs (s : State) (c : Nat) (npc : Word) : ((vretireTo c npc s).vc.get c).regs = (s.vc.get c).regs := by
  unfold vretireTo
  simp only [State.clrFld, State.bumpWrap]
  split <;> simp

@[simp] theorem vretireTo_wait (s : State) (c : Nat) (npc : Word) : ((vretireTo c npc s).vc.get c).wait = .none := by
  unfold vretireTo
  simp only [State.clrFld, State.bumpWrap]
  split <;> simp

@[simp] theorem vretireTo_dcache (s : State) (c : Nat) (npc : Word) : ((vretireTo c npc s).vc.get c).dcache = (s.vc.get c).dcache := by
  unfold vretireTo
  simp only [State.clrFld, State.bumpWrap]
  split <;> simp

@[simp] theorem vretireTo_icache (s : State) (c : Nat) (npc : Word) : ((vretireTo c npc s).vc.get c).icache = (s.vc.get c).icache := by
  unfold vretireTo
  simp only [State.clrFld, State.bumpWrap]
  split <;> simp

theorem vretireTo_retired (s : State) (c : Nat) (npc : Word) :
    (vretireTo c npc s).fld F.RETIRED c = (s.fld F.RETIRED c + 1) % 2 ^ F.RETIRED.w := by
  unfold vretireTo
  simp only [State.clrFld, State.bumpWrap]
  split <;> simp [fld_setFld_id _ F.DSTATUS_SKIP F.RETIRED _ _ _ _ _ (by decide), fld_setFld_id _ F.CC_PC_PC F.RETIRED _ _ _ _ _ (by decide)]

theorem vretireTo_ccpc (s : State) (c : Nat) (npc : Word) :
    (vretireTo c npc s).fld F.CC_PC_PC c = (s.vpc c).toNat % 2 ^ F.CC_PC_PC.w := by
  unfold vretireTo
  simp only [State.clrFld, State.bumpWrap]
  split <;> simp [fld_setFld_id _ F.DSTATUS_SKIP F.CC_PC_PC _ _ _ _ _ (by decide), fld_setFld_id _ F.RETIRED F.CC_PC_PC _ _ _ _ _ (by decide)]

/-- Retirement touches the register store and the cores alone. -/
theorem vretireTo_frame (s : State) (c : Nat) (npc : Word) :
    vretireTo c npc s = { s with regs := (vretireTo c npc s).regs, vc := (vretireTo c npc s).vc } := by
  unfold vretireTo
  simp only [State.clrFld, State.bumpWrap]
  split <;> rfl

end Sys2Proof.Machine
end

