-- ==== Sys2Proof/Tests/Slice0.lean ====
section
/-!
SUPPORT. Tests: for every statement a concrete state and operands that meet its hypotheses, clause by clause; a term for each
check of `Instr.wf` that it refuses; words of instructions written out from the spec's tables; and worked examples of the spec.
-/
namespace Sys2Proof.Tests
open Sys2Proof Machine Claims
set_option Elab.async false

/-- `s` with register fields set: field, unit, copy, value. -/
def fs (l : List (Field × Nat × Nat × Nat)) (s : State) : State := l.foldl (fun s e => s.setFld e.1 e.2.1 e.2.2.1 e.2.2.2) s
/-- The state that an outcome answers. -/
def nx (r : Res) : State := match r with | .next t => t | _ => State.reset
/-- Core `c` runs at the first instruction of the ROM. -/
def cc (c : Nat) : State := (fs [(F.CC_STATUS_STATE, c, 0, 1)] State.reset).updVc c (fun k => { k with pc := 0x200800E000000400 })
/-- Core 7 so, with `a` in register 1. -/
def cr (a : Word) : State := (cc 7).vset 7 1 a
/-- Core 7 so, in user mode, with one window that lets it fetch there and no more. -/
def ct (a : Word) : State := fs [(F.PSTATE_TASK, 7, 0, 1), (F.TAW_BASE_BASE, 7, 0, 0x200800E000000), (F.TAW_LAST_LAST, 7, 0, 0x200800E000000),
  (F.TAW_BASE_PERM, 7, 0, 4)] (cr a)
/-- Core 7 so, with a posted store that has not been answered. -/
def cs (a : Word) : State := { cr a with reqs := [{ pkt := { init := 0x307 }, why := .ccStore 7 0 }] }
/-- Core 7 so, with this device's DRAM from 0 cacheable. -/
def ch (a : Word) (lines : List DLine) : State :=
  (fs [(F.CACHE_BASE_EN, 7, 0, 1), (F.CACHE_BASE_BASE, 7, 0, 0x2000_0000_0000_0000 / 64), (F.CACHE_LIM_LAST, 7, 0, 0x2000_0000_0000_FFC0 / 64)] (cr a)).updVc 7
    (fun k => { k with dcache := lines })
/-- Signal core `n` runs at bundle 0. -/
def sn (n : Nat) : State := fs [(F.SC_STATUS_STATE, n, 0, 1)] State.reset

/-! ### Witnesses: control cores. Each theorem gives, clause by clause, states and operands that meet the hypotheses. -/

/-- What core 7 sees of `s` as its instruction acts. -/
def u7 (s : State) : State := issued 7 s

/-- The instruction's own register 1. -/
def r1 (s : State) : Word := (u7 s).vget 7 1

theorem witness_AddLogicForms : Issues (cc 0) 0 ∧ Issues (cc 7) 7 ∧ 31 < 32 ∧ 3 < 4 := by
  unfold Issues; decide +kernel

theorem witness_MultiplyDivideForms :
    (Issues (cr 1) 7 ∧ r1 (cr 1) ≠ 0) ∧ (Issues (cr 0) 7 ∧ r1 (cr 0) = 0 ∧ (u7 (cr 0)).bit F.PSTATE_TRAPDZ 7 = false) := by
  unfold Issues; decide +kernel

theorem witness_ShiftForms : Issues (cr 64) 7 ∧ 0 < 32 ∧ 127 < 128 := by unfold Issues; decide +kernel

theorem witness_LoadStoreForms_private :
    (Issues (cr 0x200800E00000FFF8) 7 ∧ Reaches (u7 (cr 0x200800E00000FFF8)) 7 0x200800E00000FFF8 8 [0] ∧
      Reaches (u7 (cr 0x200800E00000FFF8)) 7 0x200800E00000FFF8 8 [1] ∧ r1 (cr 0x200800E00000FFF8) = 0x200800E00000FFF8 ∧
      vresolve (u7 (cr 0x200800E00000FFF8)) 0x200800E00000FFF8 = .lim 0xFFF8 ∧ limWritable (u7 (cr 0x200800E00000FFF8)) 7 0xFFF8 = true) ∧
    (Reaches (u7 (cr 0x200800E00001FFFF)) 7 0x200800E00001FFFF 1 [0] ∧
      vresolve (u7 (cr 0x200800E00001FFFF)) 0x200800E00001FFFF = .ldm 0xFFFF ∧ vstoresOut (u7 (cr 0x200800E00001FFFF)) 7 = false) ∧
    (Reaches (u7 (fs [(F.CCFG_LIMRO, 7, 0, 1)] (cr 0x200800E000000000))) 7 0x200800E000000000 8 [1] ∧
      limWritable (u7 (fs [(F.CCFG_LIMRO, 7, 0, 1)] (cr 0x200800E000000000))) 7 0 = false ∧
      (u7 (fs [(F.CCFG_LIMRO, 7, 0, 1)] (cr 0x200800E000000000))).bit F.PSTATE_TW 7 = false) := by
  unfold Issues Reaches; decide +kernel

/-- A line of the data cache at the start of this device's DRAM. -/
def ln0 (dirty : Bool) : DLine := { a := 0, key := 0, dirty := dirty, data := List.replicate 64 0 }

theorem witness_LoadStoreForms_network :
    (Issues (cr 0x2000000000000000) 7 ∧ Reaches (u7 (cr 0x2000000000000000)) 7 0x2000000000000000 8 [0] ∧
      vresolve (u7 (cr 0x2000000000000000)) 0x2000000000000000 = .noc 0 0 ∧ vcacheable (u7 (cr 0x2000000000000000)) 7 0x2000000000000000 = false) ∧
    (Issues (ch 0x2000000000000000 [ln0 false]) 7 ∧ Reaches (u7 (ch 0x2000000000000000 [ln0 false])) 7 0x2000000000000000 8 [1] ∧
      vcacheable (u7 (ch 0x2000000000000000 [ln0 false])) 7 0x2000000000000000 = true ∧
      dline (u7 (ch 0x2000000000000000 [ln0 false])) 7 (sysAddr 0 0) 0 = some (ln0 false)) ∧
    (Issues (ch 0x200000000000FFF8 []) 7 ∧ Reaches (u7 (ch 0x200000000000FFF8 [])) 7 0x200000000000FFF8 8 [0] ∧
      vcacheable (u7 (ch 0x200000000000FFF8 [])) 7 0x200000000000FFF8 = true ∧ dline (u7 (ch 0x200000000000FFF8 [])) 7 (sysAddr 0 0xFFF8) 0 = none) := by
  unfold Issues Reaches; decide +kernel

theorem witness_LoadStoreForms_traps :
    (Issues (cr 1) 7 ∧ (u7 (cr 1)).bit F.PSTATE_TW 7 = false ∧ (r1 (cr 1)).toNat % 2 ≠ 0) ∧
    (Issues (cr 0x4000000000000000) 7 ∧ (r1 (cr 0x4000000000000000)).toNat % 8 = 0 ∧
      vresolve (u7 (cr 0x4000000000000000)) (r1 (cr 0x4000000000000000)) = .bad) ∧
    (Issues (ct 0x200800E000000000) 7 ∧ vallowed (u7 (ct 0x200800E000000000)) 7 0x200800E000000000 8 [0] = false ∧
      (u7 (ct 0x200800E000000000)).bit F.PSTATE_TW 7 = false) := by
  unfold Issues; decide +kernel

theorem witness_AtomicForms :
    (Issues (cr 0x200800E00001FFF8) 7 ∧ Reaches (u7 (cr 0x200800E00001FFF8)) 7 0x200800E00001FFF8 8 [0, 1] ∧
      vresolve (u7 (cr 0x200800E00001FFF8)) 0x200800E00001FFF8 = .ldm 0xFFF8 ∧ vstoresOut (u7 (cr 0x200800E00001FFF8)) 7 = false) ∧
    (Reaches (u7 (cr 0x2000000000000000)) 7 0x2000000000000000 8 [0, 1] ∧ vresolve (u7 (cr 0x2000000000000000)) 0x2000000000000000 = .noc 0 0 ∧
      isMemTarget 0 = true ∧ vcacheable (u7 (cr 0x2000000000000000)) 7 0x2000000000000000 = false) ∧
    (Reaches (u7 (cr 0x200800F000000000)) 7 0x200800F000000000 8 [0, 1] ∧
      vresolve (u7 (cr 0x200800F000000000)) 0x200800F000000000 = .noc 0 0x800F000000000 ∧ isMemTarget 0x800F000000000 = false) ∧
    (Issues (ch 0x2000000000000000 []) 7 ∧ Reaches (u7 (ch 0x2000000000000000 [])) 7 0x2000000000000000 8 [0, 1] ∧
      vcacheable (u7 (ch 0x2000000000000000 [])) 7 0x2000000000000000 = true) := by
  unfold Issues Reaches; decide +kernel

theorem witness_CacheSpillForms_cache :
    (Issues (cr 0) 7 ∧ (u7 (cr 0)).bit F.PSTATE_TASK 7 = false ∧ (dlinesOf (u7 (cr 0)) 7 none).filter (·.dirty) = []) ∧
    (Issues (ch 0x2000000000000000 [ln0 true]) 7 ∧ vresolve (u7 (ch 0x2000000000000000 [ln0 true])) 0x2000000000000000 = .noc 0 0 ∧
      (dlinesOf (u7 (ch 0x2000000000000000 [ln0 true])) 7 (some 0x2000000000000000)).filter (·.dirty) ≠ []) ∧
    (Issues (ct 0) 7 ∧ (u7 (ct 0)).bit F.PSTATE_TASK 7 = true ∧ (u7 (ct 0)).bit F.PSTATE_TW 7 = false) := by
  unfold Issues; decide +kernel

/-- Core 7 with `d` windows below the current one, which is `w`, and `a` in register 1. -/
def cw (a : Word) (w d : Nat) : State := fs [(F.WSTATE_CWP, 7, 0, w), (F.WSTATE_WDEPTH, 7, 0, d)] ((cc 7).updVc 7 (fun k =>
  { k with regs := k.regs.set 1 a }))

theorem witness_CacheSpillForms_windows :
    (Issues (cw 0x200800E000010000 11 1) 7 ∧ (u7 (cw 0x200800E000010000 11 1)).bit F.PSTATE_TASK 7 = false ∧
      (r1 (cw 0x200800E000010000 11 1)).toNat % 8 = 0 ∧ vresolve (u7 (cw 0x200800E000010000 11 1)) (r1 (cw 0x200800E000010000 11 1)) = .ldm 0 ∧
      (u7 (cw 0x200800E000010000 11 1)).fld F.WSTATE_CWP 7 = 11 ∧ (u7 (cw 0x200800E000010000 11 1)).fld F.WSTATE_WDEPTH 7 = 1 ∧
      vstoresOut (u7 (cw 0x200800E000010000 11 1)) 7 = false) ∧
    (vresolve (u7 (cw 0x200800E00001FFA0 0 9)) (r1 (cw 0x200800E00001FFA0 0 9)) = .ldm 0xFFA0 ∧ 0xFFA0 + 96 ≤ 0x1_0000 ∧
      (u7 (cw 0x200800E00001FFA0 0 9)).fld F.WSTATE_WDEPTH 7 = 9) ∧
    (Issues (cw 0 0 10) 7 ∧ (u7 (cw 0 0 10)).fld F.WSTATE_WDEPTH 7 = 10 ∧ (u7 (cw 0 0 10)).bit F.PSTATE_TW 7 = false) ∧
    (Issues (cw 0 0 0) 7 ∧ (u7 (cw 0 0 0)).fld F.WSTATE_WDEPTH 7 = 0) ∧
    (Issues (cw 1 0 5) 7 ∧ (r1 (cw 1 0 5)).toNat % 8 ≠ 0) := by
  unfold Issues; decide +kernel

theorem witness_BranchCallForms : Issues (cr 0) 7 ∧ 15 < 16 ∧ (u7 (cr 0)).bit F.PSTATE_TW 7 = false := by
  unfold Issues; decide +kernel

theorem witness_WindowForms :
    (Issues (cw 0 11 9) 7 ∧ (u7 (cw 0 11 9)).fld F.WSTATE_WDEPTH 7 < 10 ∧ (u7 (cw 0 11 9)).fld F.WSTATE_CWP 7 < 12) ∧
    (Issues (cw 0 11 15) 7 ∧ 0 < (u7 (cw 0 11 15)).fld F.WSTATE_WDEPTH 7 ∧ (u7 (cw 0 11 15)).fld F.WSTATE_WDEPTH 7 < 16) ∧
    (10 ≤ (u7 (cw 0 0 10)).fld F.WSTATE_WDEPTH 7) ∧
    ((u7 (cw 0 0 0)).fld F.WSTATE_WDEPTH 7 = 0 ∧ (u7 (cw 0 0 0)).bit F.PSTATE_TW 7 = false) := by
  unfold Issues; decide +kernel

theorem witness_SystemRegisterForms :
    (Issues (cr 0x0A0B) 7 ∧ (u7 (cr 0x0A0B)).bit F.PSTATE_TASK 7 = false ∧ (u7 (cr 0x0A0B)).bit F.DCTL_OWN 7 = false) ∧
    ((vsrFind (u7 (cr 0)) 7 0).isSome = true ∧ (vsrFind (u7 (cr 0)) 7 1).isSome = true ∧ (vsrFind (u7 (cr 0)) 7 3).isSome = true ∧
      (vsrFind (u7 (cr 0)) 7 0x30).isSome = true ∧ (vsrFind (u7 (cr 0)) 7 0x69).isSome = true) ∧
    (Issues (ct 0) 7 ∧ (u7 (ct 0)).bit F.PSTATE_TASK 7 = true) ∧
    (vsrFind (u7 (cr 0)) 7 0xFFF = none ∧ (u7 (cr 0)).bit F.PSTATE_TW 7 = false) := by
  unfold Issues; decide +kernel

/-- Core 7 with a zero divisor and TRAPDZ set; core 7 in the trap window. -/
def cz : State := fs [(F.PSTATE_TRAPDZ, 7, 0, 1)] (cr 0)
def cx : State := fs [(F.PSTATE_TW, 7, 0, 1)] (cr 0)

theorem witness_WaitTrapForms :
    (Issues (cr 0) 7 ∧ vstoresOut (u7 (cr 0)) 7 = false ∧ (u7 (cr 0)).bit F.PSTATE_TASK 7 = false) ∧
    (Issues (cs 0) 7 ∧ vstoresOut (u7 (cs 0)) 7 = true) ∧
    (Issues cz 7 ∧ r1 cz = 0 ∧ (u7 cz).bit F.PSTATE_TRAPDZ 7 = true ∧ (u7 cz).bit F.PSTATE_TW 7 = false) ∧
    (Issues (ct 0) 7 ∧ (u7 (ct 0)).bit F.PSTATE_TASK 7 = true ∧ (u7 (ct 0)).bit F.PSTATE_TW 7 = false) ∧
    (Issues cx 7 ∧ (u7 cx).bit F.PSTATE_TW 7 = true) := by
  unfold Issues; decide +kernel

/-- A source is pending, enabled and names core 7; core 7 has an SBUS, or a debug event; core 7 waits and has an SBUS. -/
def ci : State := fs [(F.PSTATE_IE, 7, 0, 1), (F.IRQ_SRC_PENDING, 0, 0x47F, 1), (F.IRQ_SRC_ENABLE, 0, 0x47F, 1), (F.IRQ_SRC_PRIO, 0, 0x47F, 15),
  (F.IRQ_SRC_KIND, 0, 0x47F, 1), (F.IRQ_SRC_INDEX, 0, 0x47F, 7)] (cc 7)
def cb : State := (cc 7).updVc 7 (fun k => { k with sbus := true })
def cd : State := (cc 7).updVc 7 (fun k => { k with dbg := 0x1000 })
def ck : State := fs [(F.CC_STATUS_STATE, 7, 0, 2)] cb

theorem witness_ControlCoreEvents :
    (vbetween ci 7 = true ∧ ci.bit F.PSTATE_IE 7 = true ∧ (ci.vc.get 7).sbus = false ∧ (ci.vc.get 7).dbg = 0 ∧
      irqPresented ci (tgtCc 7) = some 0x47F) ∧
    (vbetween cb 7 = true ∧ (cb.vc.get 7).sbus = true) ∧
    (vbetween cd 7 = true ∧ (cd.vc.get 7).sbus = false ∧ (cd.vc.get 7).dbg ≠ 0) ∧
    (ck.dev = .run ∧ (ck.vc.get 7).romWait = false ∧ ck.fld F.CC_STATUS_STATE 7 = 2 ∧ vwakes ck 7 = true) ∧
    (State.reset.fld F.CC_STATUS_STATE 7 = 0 ∧ ccDead State.reset 7 = false ∧ underTest State.reset 6 7 = false) ∧
    (0x3_FFF8 < 0x4_0000 ∧ 0x3_FFF8 % 8 = 0 ∧ 0x3_FFFC % 4 = 0) := by
  decide +kernel

/-- A boot record of 64 bytes of zeros for the LIM and none for the LDM, unsigned; its check value was computed apart. -/
def rec0 : List Byte :=
  bytesLE 4 0x544F4F42 ++ bytesLE 2 1 ++ bytesLE 2 0 ++ bytesLE 4 64 ++ bytesLE 4 0 ++ bytesLE 4 0 ++ bytesLE 2 0 ++ bytesLE 2 0xFFFF ++ bytesLE 4 0x9648 ++
  bytesLE 4 192 ++ List.replicate 96 0 ++ bytesLE 4 0x444E4558 ++ bytesLE 4 0 ++ bytesLE 8 192 ++ List.replicate 0x2C 0 ++ bytesLE 4 0xfb12995c
/-- A device of revision 0 without an owner key. -/
def open0 : State := { State.reset with regs := ⟨[(fkey F.CFG_POLICY_DIG_PRESENT 0 0, F.CFG_POLICY_DIG_PRESENT.resetAt 0 0),
  (fkey F.REVISION 0 0, F.REVISION.resetAt 0 0)]⟩ }

theorem open0_unowned : open0.fld F.CFG_POLICY_DIG_PRESENT 0 0 = 0 := Nat.xor_self (F.CFG_POLICY_DIG_PRESENT.resetAt 0 0)
theorem open0_revision : open0.fld F.REVISION 0 0 = 0 := Nat.xor_self (F.REVISION.resetAt 0 0)

set_option maxRecDepth 20000 in
theorem witness_BootRelease_record : recHeader open0 rec0 = 0 ∧ recBody open0 rec0 = 0 := by
  simp only [recHeader, recBody, open0_unowned, open0_revision]
  decide +kernel

theorem witness_BootRelease : (open0.startup = true ∧ open0.vin = true ∧ open0.dev = .run ∧ bootCore open0 = 0 ∧ privBad open0 4 = false ∧
    privBad open0 5 = false ∧ privBad open0 6 = false) ∧ recHeader State.reset [] ≠ 0 ∧
    recHeader (State.reset.setFld F.BOOT_STATUS_CODE_A 0 0 (recHeader State.reset [])) [] ≠ 0 := by decide +kernel

/-! ### Witnesses: signal cores -/

/-- What core 95 sees of `s` as its bundle acts. -/
def u95 (s : State) : State := scIssued 95 s
/-- Signal core 95 with `a` in address register 7. -/
def sa (a : Word) : State := (sn 95).updSc 95 (fun k => { k with ap := k.ap.set 7 a })

theorem witness_SignalArithmeticForms : ScIssues (sn 0) 0 ∧ ScIssues (sn 95) 95 ∧ 3 < 4 ∧ 31 < 32 ∧ 63 < 64 ∧ 2 < 3 := by
  unfold ScIssues; decide +kernel

theorem witness_SignalDataForms : ScIssues (sn 95) 95 ∧ 31 < 32 ∧ 7 < 8 ∧ 3 < 4 ∧ 2 < 3 ∧ (0xFFFF : BitVec 24).toNat < 65536 := by
  unfold ScIssues; decide +kernel

theorem witness_SignalMemoryForms :
    (ScIssues (sa 0x200800E00001FFF8) 95 ∧ ((u95 (sa 0x200800E00001FFF8)).sc.get 95).ap.get 7 = 0x200800E00001FFF8 ∧
      scResolve (u95 (sa 0x200800E00001FFF8)) 95 0x200800E00001FFF8 = .own 0x1FFF8 ∧ 0x1FFF8 + 8 ≤ 0x2_0000 ∧
      scOut (u95 (sa 0x200800E00001FFF8)) 95 = false ∧ ∀ j < 8, (u95 (sa 0x200800E00001FFF8)).ecc.get (aSc 95 (0x1FFF8 + j)) = 0) ∧
    (ScIssues (sa 0x2000000000000000) 95 ∧ scResolve (u95 (sa 0x2000000000000000)) 95 0x2000000000000000 = .noc 0 0) ∧
    (ScIssues (sa 2) 95 ∧ (((u95 (sa 2)).sc.get 95).ap.get 7).toNat % 4 ≠ 0 ∧ (u95 (sa 2)).bit F.S_SSTATUS_INTRAP 95 = false) ∧
    (ScIssues (sa 0x4000000000000000) 95 ∧ scResolve (u95 (sa 0x4000000000000000)) 95 0x4000000000000000 = .bad) := by
  unfold ScIssues; decide +kernel

/-- Signal core 95 in the last bundle of a loop. -/
def sl : State := fs [(F.S_SSTATUS_LACT, 95, 0, 1), (F.S_LSTART_LSTART, 95, 0, 1), (F.S_LEND_LEND, 95, 0, 3), (F.S_LCOUNT_LCOUNT, 95, 0, 1)]
  ((sn 95).updSc 95 (fun k => { k with pc := 3 }))

theorem witness_SignalControlForms :
    (ScIssues (sn 95) 95 ∧ (u95 (sn 95)).bit F.S_SSTATUS_LACT 95 = false ∧ (u95 (sn 95)).bit F.S_SSTATUS_INTRAP 95 = false ∧
      scOut (u95 (sn 95)) 95 = false ∧ irqOpen (u95 (sn 95)) = true ∧ 1 ≤ 16 ∧ 511 < 512) ∧
    (ScIssues sl 95 ∧ (u95 sl).bit F.S_SSTATUS_LACT 95 = true ∧ ((u95 sl).sc.get 95).pc = (u95 sl).fld F.S_LEND_LEND 95) := by
  unfold ScIssues; decide +kernel

/-- A request of `n` bytes at the window of signal core 95 and at its offset `off`. -/
def sh (opc off n : Nat) : State :=
  { State.reset with hops := [{ pkt := { opc := opc, len := n - 1, addr := 0x8_0001_017C_0000 + off, init := 0x300, data := List.replicate n 1 }, arrived := true }] }

theorem witness_SignalRegisterForms :
    (ScIssues (sn 95) 95 ∧ (u95 (sn 95)).bit F.S_SSTATUS_LACT 95 = false ∧ (ssrFind 0).isSome = true ∧ (ssrFind 2).isSome = true ∧
      (ssrFind 9).map (·.2) = some 2) ∧
    (domRuns (sh opWRITE 0x1_FFF8 8) 2 = true ∧ ((sh opWRITE 0x1_FFF8 8).hops.find? (fun x => x.atTarget (.sc 95))).map
        (fun h => (scWinStatus h.pkt, decide (h.pkt.len + 1 ≤ 8 - h.pkt.addr % 0x4_0000 % 8), h.pkt.pmask)) = some (0, true, 0) ∧
      ((sh opWRITE 0x1_FFF8 8).sc.get 95).win = {}) ∧
    (((sh opREAD 0x2_7FF8 8).hops.find? (fun x => x.atTarget (.sc 95))).map (fun h => (scWinStatus h.pkt, decide (0x2_0000 ≤ h.pkt.addr % 0x4_0000))) =
      some (0, true)) ∧
    ((sh opREAD 0x2_8000 8).hops.find? (fun x => x.atTarget (.sc 95))).map (fun h => scWinStatus h.pkt) = some eUNMAPPED := by
  unfold ScIssues; decide +kernel

/-- A source names signal core 95; the core has an SBUS, a debug event; it waits; it has a byte to write back. -/
def si : State := fs [(F.S_SSTATUS_IE, 95, 0, 1), (F.IRQ_SRC_PENDING, 0, 0x047, 1), (F.IRQ_SRC_ENABLE, 0, 0x047, 1), (F.IRQ_SRC_PRIO, 0, 0x047, 1),
  (F.IRQ_SRC_KIND, 0, 0x047, 2), (F.IRQ_SRC_INDEX, 0, 0x047, 95)] (sn 95)
def sb : State := (sn 95).updSc 95 (fun k => { k with sbus := true })
def sd : State := (sn 95).updSc 95 (fun k => { k with dbg := 0x2007, dbgAddr := 9 })
def sk : State := fs [(F.SC_STATUS_STATE, 95, 0, 2)] sb
def sw (e : Nat) : State := { State.reset.updSc 95 (fun k => { k with wb := [0x1FFFF] }) with ecc := ⟨if e = 0 then [] else [(aSc 95 0x1FFFF, e)]⟩ }

theorem witness_SignalCoreEvents :
    (scBetween si 95 = true ∧ si.bit F.S_SSTATUS_IE 95 = true ∧ (si.sc.get 95).sbus = false ∧ (si.sc.get 95).dbg = 0 ∧
      irqPresented si (tgtSc 95) = some 0x047) ∧
    (scBetween sb 95 = true ∧ (sb.sc.get 95).sbus = true) ∧ (scBetween sd 95 = true ∧ (sd.sc.get 95).sbus = false ∧ (sd.sc.get 95).dbg ≠ 0) ∧
    (sk.dev = .run ∧ sk.fld F.SC_STATUS_STATE 95 = 2 ∧ scWakes sk 95 = true) ∧
    (State.reset.fld F.SC_STATUS_STATE 95 = 0 ∧ scBad State.reset 95 = false ∧ underTest State.reset 3 95 = false) ∧
    (((sw 0).sc.get 95).wb = [0x1FFFF] ∧ domRuns (sw 0) 2 = true ∧ (sw 0).checkAt (aSc 95 0x1FFFF) = .good ∧
      (sw 1).checkAt (aSc 95 0x1FFFF) = .corr none ∧ (sw 3).checkAt (aSc 95 0x1FFFF) = .bad) := by
  decide +kernel

/-! ### Witnesses: registers, bays, blocks, slices -/

/-- HD_WEIGHT as the register path finds it; a unit header armed. -/
def xw : CsrReg := { hu := 5, win := 0, u := 0, r := R.HD_WEIGHT, i := 0 }
def armed5 : State := fs [(F.UNIT_STATUS_ARMED, 5, 0, 1)] State.reset

theorem witness_CsrWriteForms :
    (csrRuns State.reset = true ∧ 2 ^ 64 - 1 < 2 ^ 64 ∧ csrPlace State.reset 0x300 0x50_0100 true = .reg xw ∧ csrBlind 0x300 xw = false ∧
      xw.r.blk ≠ .hdr ∧ armedWrite xw true true State.reset = false ∧ hookWrite 0x300 xw (2 ^ 64 - 1) true true State.reset = none) ∧
    (csrPlace armed5 0x300 0x50_0100 true = .reg xw ∧ armedWrite xw true true armed5 = true) ∧
    csrPlace State.reset 0x300 0x400_0000 true = .err eUNMAPPED ∧ csrSized 0x50_0100 2 = false ∧ csrPlace State.reset 0x300 0x50_00F8 true = .hole := by
  decide +kernel

theorem witness_StageForms :
    csrPlace State.reset 0x300 0x50_0100 true = .reg xw ∧ (∃ f ∈ xw.r.fields, f.acc = .rws ∧ 0 < f.reps) ∧ State.reset.bit F.UNIT_STATUS_ARMED xw.hu = false ∧
    hookWrite 0x300 xw 1 true true State.reset = none ∧
    hookWrite 0x300 xw (wholeValue State.reset xw 1 true false) true false State.reset = none ∧ armed5.bit F.UNIT_STATUS_ARMED 5 = true := by
  decide +kernel

/-- Bay 767 belongs to instance 1, runs, and its clock input 7 is bound to a line that runs. -/
def bays (extra : List (Field × Nat × Nat × Nat)) : State :=
  let s := fs ([(F.BAY_STATUS_OWNER, 767, 0, 1), (F.HD_MAP_OWNER, 0, 767, 1), (F.HD_MAP_OSTATE, 0, 767, 2), (F.BAY_STATUS_LOADED, 767, 0, 1),
    (F.CLK_GOOD_GOOD, 0, 0, 2 ^ 32 + 3), (F.BAY_CTL_CLK_EN, 767, 0, 0xFF),
    (F.BAY_STATUS_OUT_HELD, 767, 0, 0), (F.BAY_STATUS_WE_HELD, 767, 0, 0), (F.BAY_STATUS_RST_HELD, 767, 0, 0)] ++ (List.range 8).flatMap (fun k => [(F.BAY_CLK_BIND_LINE, 767, k, 24), (F.BAY_CLK_BIND_BOUND, 767, k, 1)]) ++ extra) State.reset
  { s with insts := s.insts.set 1 (some { c := 23, r := 31, w := 1, h := 1, ostate := oLOADED }), missed := s.missed.set 767 0xFF00 }
def k1 : Skein := { c := 23, r := 31, w := 1, h := 1, ostate := oLOADED }
def hold1 (stage : Nat) : State := { bays [] with holds := [{ inst := 1, hold := true, stage := stage }] }

theorem witness_BayControlForms_holds :
    mapOwner State.reset 767 = 0 ∧
    (mapOwner (bays []) 767 ≠ 0 ∧ ostate (bays []) 767 ≠ oLOADING ∧ (bays []).occ = none ∧ instOf (bays []) 1 = some k1 ∧ k1.ostate = oLOADED ∧
      allHeld (bays []) k1 = false ∧ ∃ h ∈ (hold1 1).holds, h.inst = mapOwner (hold1 1) 767) ∧
    (hdRuns (hold1 1) = true ∧ (hold1 1).holds.find? (fun x => x.inst == 1) = some { inst := 1, hold := true, stage := 1 } ∧ 1 < 3) ∧
    ((hold1 3).holds.find? (fun x => x.inst == 1) = some { inst := 1, hold := true, stage := 3 } ∧ k1.bays = [767]) := by
  decide +kernel

theorem witness_BayControlForms_release :
    (({ bays [] with holds := [{ inst := 1, hold := false, stage := 3 }] } : State).holds.find? (fun x => x.inst == 1)).map (fun h => (h.hold, h.pick, h.ticket)) =
      some (false, none, 0) ∧ clusterFrame (bays []) 767 1023 = 0 ∧ bayClk (bays []) 767 (ctlClk 0 0) = true ∧ bayClk State.reset 767 7 = false := by
  decide +kernel

/-- A response of 16 bytes, poisoned in `pm`, waits at bay 767. -/
def beat (pm : Nat) : State := { bays [] with bayq := (bays []).bayq.set 767 [{ id := 3, pm := pm, data := List.replicate 16 0 }] }
/-- Entry 63 of the translation table of bay 767 maps handle 0xFFFF, read only where `ro` is 1. -/
def xlat (ro : Nat) : State := bays [(F.XLATE0_VALID, 767, 63, 1), (F.XLATE0_HANDLE, 767, 63, 0xFFFF), (F.XLATE0_SIZE, 767, 63, 1), (F.XLATE0_RO, 767, 63, ro)]
/-- A request at bay 767, at `off` of its range. -/
def breq (opc off n : Nat) (s : State) : State :=
  { s with hops := [{ pkt := { opc := opc, len := n - 1, addr := 0x8_0002_2FF0_0000 + off, data := List.replicate n 7 }, arrived := true }] }

theorem witness_BayControlForms_port :
    ((beat 0).bayq.get 767 = [{ id := 3, pm := 0, data := List.replicate 16 0 }] ∧ bayClk (beat 0) 767 0 = true) ∧
    ((beat 31).bayq.get 767 = [{ id := 3, pm := 31, data := List.replicate 16 0 }] ∧ bayClk (beat 31) 767 0 = true) ∧
    bayClk State.reset 767 0 = false ∧ (bayAccepts (xlat 0) 767 opREAD 64 0 false && !(xlat 0).frozen.contains 767) = true ∧
    (bayClk (xlat 0) 767 0 = true ∧ (xlat 0).fld F.BAY_STATUS_OUT_HELD 767 ≠ 1 ∧ (xlat 0).fld F.BAY_STATUS_OWNER 767 ≠ 0 ∧
      (xlat 0).fld F.XLATE0_VALID 767 63 = 1 ∧ (xlat 0).fld F.XLATE0_HANDLE 767 63 = 0xFFFF ∧
      (∀ j < 63, (xlat 0).fld F.XLATE0_VALID 767 j ≠ 1) ∧ 4095 + 1 ≤ (xlat 0).fld F.XLATE0_SIZE 767 63 * 4096 ∧ (xlat 0).fld F.XLATE0_RO 767 63 ≠ 1) ∧
    ((xlat 1).fld F.XLATE0_RO 767 63 = 1 ∧ (xlat 1).fld F.XLATE0_SIZE 767 63 * 4096 < 4096 + 1) ∧
    (∀ e < 64, (bays []).fld F.XLATE0_VALID 767 e ≠ 1) ∧
    ((targetReq (breq opREAD 0x7_FFFF 1 (bays [])) 767).map (fun p => p.addr % 0x10_0000) = some 0x7_FFFF ∧
      (targetReq (breq opREAD 0x8_0000 8 (bays [])) 767).map (fun p => (p.addr % 0x10_0000, p.pmask)) = some (0x8_0000, 0) ∧
      (targetReq (breq opATOMIC 0x8_0000 8 (bays [])) 767).isSome = true ∧ bayClk (breq opWRITE 0x8_0000 8 (bays [])) 767 0 = true ∧
      (targetReq (breq opWRITE 0x8_0000 8 (bays [])) 767).map (fun p => (p.opc, p.pmask)) = some (opWRITE, 0) ∧ targetOff (breq opREAD 0x8_0000 8 State.reset) 767 = true) := by
  decide +kernel

/-- What the spec leaves to the interface that the image loads decides alone whether the target port answers (log entry 35). -/
theorem witness_BayControlForms_target (h : Config.targetIface ((breq opREAD 0x8_0000 8 (bays [])).rdBytes (aFrame 767 1864 0) 2048) = true) :
    targetOff (breq opREAD 0x8_0000 8 (bays [])) 767 = false := by
  unfold targetOff
  rw [h]
  decide +kernel

/-- Bay 767 with word 0 of block 23, or its check bits, changed. -/
def blk (e : Nat) : State := { bays [] with ecc := ⟨if e = 0 then [] else [(aBlock 767 23 0, e)]⟩ }

theorem witness_MemoryBlockForms_edges :
    (bayClk (blk 0) 767 (blkClk (blk 0) 767 23 0) = true ∧ bayClk State.reset 767 (blkClk State.reset 767 23 0) = false) ∧
    (blkOp (blk 0) 767 23 0 { en := true, addr := 0x3FFF } = .read ∧ ueBytes (blk 0) (aBlock 767 23 0) (blkWidth (blk 0) 767 23 0) = [] ∧
      ceBytes (blk 0) (aBlock 767 23 0) 1 = [] ∧ blkOreg (blk 0) 767 23 0 = false) ∧
    (ceBytes (blk 1) (aBlock 767 23 0) 1 = [0] ∧ ueBytes (blk 1) (aBlock 767 23 0) 1 = []) ∧
    (blkOp (blk 0) 767 23 1 { en := true, we := 1, addr := 0x2FFF } = .write ∧ blkOp (blk 0) 767 0 1 { en := true, we := 1 } = .write ∧
      (blk 0).checkAt (aBlock 767 23 4095) ≠ .bad ∧ (blk 3).checkAt (aBlock 767 23 0) ≠ .good ∧ 0x2FFF / 4096 % 4 = 2) ∧
    (blkCollide (blk 0) 767 0 { en := true, we := 1 } { en := true } = true ∧ blkOreg (blk 0) 767 0 0 = false ∧ blkOreg (blk 0) 767 0 1 = false) := by
  decide +kernel

/-- The window of block 23 of bay 767 is writable by word 16 of its configuration frame. -/
def win : State := { bays [] with mem := ⟨[(aFrame 767 1815 2, 2)]⟩ }
def wbs (e : Nat) : State := { bays [] with blkWb := ⟨[(767 * 24 + 23, 4096)]⟩, ecc := ⟨if e = 0 then [] else [(aBlock 767 23 4095, e)]⟩ }

theorem witness_MemoryBlockForms_window :
    ((wbs 0).blkWb.get (767 * 24 + 23) = 4096 ∧ bayClk (wbs 0) 767 (blkClk (wbs 0) 767 23 1) = true ∧ (wbs 0).checkAt (aBlock 767 23 4095) = .good ∧
      (wbs 1).checkAt (aBlock 767 23 4095) = .corr none ∧ (wbs 3).checkAt (aBlock 767 23 4095) = .bad) ∧
    ((blkWinReq (breq opWRITE 0x1_7FF8 8 win) 767).map (fun p => (blkWinStatus (breq opWRITE 0x1_7FF8 8 win) 767 p, p.pmask)) = some (0, 0) ∧
      (breq opWRITE 0x1_7FF8 8 win).blkWin.get 767 = {} ∧ 7 + 1 ≤ 8 - 0x1_7FF8 % 8) ∧
    ((blkWinReq (breq opREAD 0x1_7FFF 1 win) 767).map (fun p => blkWinStatus (breq opREAD 0x1_7FFF 1 win) 767 p) = some 0) ∧
    ((blkWinReq (breq opREAD 0x1_7FFF 1 (bays [])) 767).map (fun p => blkWinStatus (breq opREAD 0x1_7FFF 1 (bays [])) 767 p) = some eUNMAPPED ∧
      ((breq opREAD 0x1_7FFF 1 (bays [])).blkWin.get 767).done = 0) := by
  decide +kernel

/-- Scratchpad bank 63 in state `st`, with `q` in its first queue. -/
def spd (st : Nat) (k : SpadBank) (e : Nat := 0) : State := fs [(F.SPB_PWR_STATE_STATE, 0, 63, st), (F.SPB_PWR_REQ_PWR, 0, 63, 2)]
  { State.reset with spad := ⟨[(63, k)]⟩, ecc := ⟨if e = 0 then [] else [(aSpad 63 0x1F_FFFF, e)]⟩ }
/-- A request of core `init` at the last bytes of bank 63. -/
def spk (opc n init : Nat) : Packet := { opc := opc, len := n - 1, addr := 0x8_0000_0800_0000 - n, init := init, data := List.replicate n 9 }
def spreq (st opc pm : Nat) : State := { spd st { wb := some 1 } with hops := [{ pkt := { spk opc 8 0x300 with pmask := pm }, arrived := true }] }

theorem witness_ScratchpadForms_requests :
    ((spreq 2 opREAD 0).hops.find? (fun h => h.atTarget (.spad 63))).isSome = true ∧ spadState (spreq 2 opREAD 0) 63 = 2 ∧
    spadState (spreq 1 opREAD 0) 63 ≠ 2 ∧ (spk opATOMIC 8 0x300).opc = opATOMIC ∧ procClass 0x300 = true ∧ procClass 0x3FF = false ∧
    ((spd 2 { q1 := [{ pkt := spk opREAD 64 0x300 }] }).spad.get 63).q1 = [{ pkt := spk opREAD 64 0x300 }] ∧
    (spk opREAD 64 0x300).addr % 64 + (spk opREAD 64 0x300).len < 64 ∧
    (∀ j < 64, (spd 2 {}).ecc.get (aSpad 63 ((spk opREAD 64 0x300).addr % 0x20_0000) + j) = 0) ∧
    ((spd 2 { wb := some 0x1F_FFFF }).spad.get 63).wb = some 0x1F_FFFF ∧ (spd 2 { wb := some 0x1F_FFFF }).checkAt (aSpad 63 0x1F_FFFF) = .good ∧
    (spd 2 {} 1).checkAt (aSpad 63 0x1F_FFFF) = .corr none ∧ (spd 2 {} 3).checkAt (aSpad 63 0x1F_FFFF) = .bad ∧
    spadClk (spreq 2 opREAD 0) = true ∧ spadClk (spd 2 {}) = true ∧ spadClk (fs [(F.DOM_STATUS_STATE, 0, 0, 4)] State.reset) = false := by
  decide +kernel

theorem witness_ScratchpadForms_power :
    bankBad (spd 2 {}) 63 = false ∧ bankBad (fs [(F.UNUSABLE_BANK_BANK, 0, 0, 2 ^ 63)] State.reset) 63 = true ∧ spadState (spd 2 {}) 63 = 2 ∧
    spadClk (spd 3 { moving := 1 }) = true ∧ 1 ∉ [0, 5, 6] ∧ ((spd 3 { moving := 6 }).spad.get 63).moving ∈ [0, 5, 6] ∧
    (spadState (spd 3 { moving := 1 }) 63 = 3 ∧ ((spd 3 { moving := 1 }).spad.get 63).moving = 1 ∧ spadPartial ((spd 3 { moving := 1 }).spad.get 63) = false) ∧
    ((spd 3 { moving := 3 }).spad.get 63).moving = 3 ∧ (spd 3 { moving := 3 }).fld F.SPB_PWR_REQ_PWR 0 63 = 2 ∧
    ((spd 3 { moving := 5 }).spad.get 63).moving = 5 := by
  decide +kernel

/-- Slice 31 of bay 767 on clock 7 is given the operation of code 1, with its configuration word in memory: CLK 7, OP 1. -/
def slc : State := { bays [] with mem := ⟨[(aFrame 767 1847 0, 7), (aFrame 767 1847 1, 0x40)]⟩ }

theorem witness_SliceForms :
    (bayClk slc 767 7 = true ∧ edgeOwed slc 767 7 = false ∧ slc.fld F.BAY_STATUS_RST_HELD 767 ≠ 1 ∧ slc.fld F.BAY_STATUS_WE_HELD 767 ≠ 1 ∧
      slcClk slc 767 31 = 7 ∧ slcCfg slc 767 31 3 1 = 0 ∧ slcCfg slc 767 31 4 1 = 0 ∧ slcCfg slc 767 31 5 1 = 0 ∧ slcCfg slc 767 31 6 1 = 0 ∧
      (slc.slices.get (767 * 32 + 31)).pipe = [] ∧ slcCfg slc 767 31 13 1 = 0 ∧ slcCfg slc 767 31 14 4 = 1 ∧ orZero 3 (slcCfg slc 767 31 22 2) = 0) ∧
    (slcSwapFabric slc 767 31 = false ∧ slcSwapFabric { slc with mem := ⟨[(aFrame 767 1847 3, 0x40)]⟩ } 767 31 = true) ∧
    bayClk State.reset 767 7 = false := by
  decide +kernel

/-- Bay 767 with all clock inputs in use and its resets held, its values kept or not. -/
def ffh (keep : Bool) : State := { bays [(F.BAY_STATUS_RST_HELD, 767, 0, 1)] with keepForm := if keep then [767] else [] }

theorem witness_FlipFlopForms :
    (bayClk (bays []) 767 0 = true ∧ edgeOwed (bays []) 767 0 = false ∧ (bays []).fld F.BAY_STATUS_RST_HELD 767 ≠ 1 ∧
      (bays []).keepForm.contains 767 = false ∧ ctlClk (clusterFrame (bays []) 767 1023) 0 = 0 ∧ groupClk (bays []) 767 31 = 0 ∧
      groupClk (bays []) 767 31 ≠ 7 ∧ bayClk State.reset 767 0 = false) ∧
    ((ffh true).fld F.BAY_STATUS_RST_HELD 767 = 1 ∧ (ffh true).keepForm.contains 767 = true ∧ (ffh false).keepForm.contains 767 = false ∧
      bayClk (ffh false) 767 7 = true ∧ edgeOwed (ffh false) 767 7 = false) ∧
    (clusterEval (clusterFrame (bays []) 767 1023) (clusterSettle (clusterFrame (bays []) 767 1023) 0 (2 ^ 64 - 1) true 17) 0 (2 ^ 64 - 1) true).1 =
      clusterSettle (clusterFrame (bays []) 767 1023) 0 (2 ^ 64 - 1) true 17 ∧
    [({ b := 767, u := 31, k := 0, lines := [], below := [] } : EdgeUnit)].Pairwise (fun x y => (x.b, x.u) ≠ (y.b, y.u)) := by
  decide +kernel

/-! ### Witnesses: loom, images, Heddle, migration, scrubbing, intake -/

/-- The first bytes of a descriptor, filled up with zeros. -/
def desc (b : List Byte) : List Byte := b ++ List.replicate (64 - b.length) 0
/-- Core 7 with a descriptor at the last line of its LDM, in `cl` of its 16 slots a command each. -/
def lm (d : List Byte) (cl : Nat) : State :=
  let s := (cr 0x200800E00001FFC0).wrBytes (aPriv 7 0x1_FFC0) (desc d)
  { s with slots := ⟨(List.range cl).map (fun k => (16 * 7 + k, { gen := 4095, used := true, status := none }))⟩ }
/-- The ticket of slot 0 of core 7 in its last generation. -/
def tk7 : Nat := 16 * 4095 + 65536 * 7
/-- Core 7 with that ticket in register 1, its slot taken with a status word or none, and `c` the commands waiting. -/
def lt (st : Option Nat) (c : List LCmd) : State :=
  { cr (BitVec.ofNat 64 tk7) with slots := ⟨[(16 * 7, { gen := 4095, used := true, status := st })]⟩, cmds := c }

theorem witness_LoomIssueWaitForms_issue :
    (Issues (lm [1, 0, 1] 0) 7 ∧ (u7 (lm [1, 0, 1] 0)).bit F.PSTATE_TASK 7 = false ∧ r1 (lm [1, 0, 1] 0) = 0x200800E00001FFC0 ∧
      descRead (u7 (lm [1, 0, 1] 0)) 7 fLREL 0x200800E00001FFC0 = .inr (desc [1, 0, 1], []) ∧ ((u7 (lm [1, 0, 1] 0)).slots.get (16 * 7)).used = false) ∧
    (descRead (u7 (lm [2, 0, 1] 15)) 7 fLHOLD 0x200800E00001FFC0 = .inr (desc [2, 0, 1], []) ∧ (u7 (lm [2, 0, 1] 15)).occ = none ∧
      (u7 (lm [2, 0, 1] 15)).cmds = [] ∧ ((u7 (lm [2, 0, 1] 15)).slots.get (16 * 7 + 15)).used = false ∧
      ∀ j < 15, ((u7 (lm [2, 0, 1] 15)).slots.get (16 * 7 + j)).used = true) ∧
    (∀ k < 16, ((u7 (lm [1, 0, 1] 16)).slots.get (16 * 7 + k)).used = true) ∧
    (descRead (u7 (lm [1, 0, 1] 0)) 7 fLHOLD 0x200800E00001FFC0 = .inl 2 ∧ (u7 (lm [1, 0, 1] 0)).bit F.PSTATE_TW 7 = false) ∧
    (descRead (u7 (cr 0x4000000000000000)) 7 fLREL 0x4000000000000000 = .inl 0 ∧ (u7 (cr 0x4000000000000000)).bit F.PSTATE_TW 7 = false) ∧
    (Issues (ct 0) 7 ∧ (u7 (ct 0)).bit F.PSTATE_TASK 7 = true) := by
  unfold Issues; decide +kernel

def cmd0 : LCmd := { ticket := tk7, desc := desc [1, 0, 1], inst := 1 }

theorem witness_LoomIssueWaitForms_wait :
    (Issues (cr 0) 7 ∧ tkLive (u7 (cr 0)) 0 = false ∧ cmdOf (u7 (cr 0)) 0 = none) ∧
    (tkLive (u7 (lt (some 0x2FF) [])) tk7 = true ∧ tkCore tk7 = 7 ∧ ((u7 (lt (some 0x2FF) [])).slots.get (tkKey tk7)).status = some 0x2FF) ∧
    (((u7 (lt none [cmd0])).slots.get (tkKey tk7)).status = none ∧ cmdOf (u7 (lt none [cmd0])) tk7 = some cmd0 ∧ cmd0.phase = 0 ∧
      tkLive (u7 (lt none [cmd0])) tk7 = true ∧ (u7 (lt none [cmd0])).load = none ∧ (u7 (lt none [cmd0])).migs = []) ∧
    (u7 (fs [(F.LP_STATUS_STATE, 7, 0, 2)] (cr 0))).fld F.LP_STATUS_STATE 7 = 2 ∧ (u7 (fs [(F.LP_STATUS_STATE, 7, 0, 3)] (cr 0))).fld F.LP_STATUS_STATE 7 = 3 ∧
    (u7 (cr 0)).fld F.LP_STATUS_STATE 7 = 0 := by
  unfold Issues; decide +kernel

/-- The command of descriptor `d` on instance 1, in phase `p`, with bay 767 held where `held` is 1. -/
def cmdD (d : List Byte) (p : Nat) (part : Nat := 0) : LCmd := { ticket := tk7, desc := desc d, inst := fieldLE (desc d) 2 2, phase := p, part := part }
def lc (d : List Byte) (p held : Nat) (part : Nat := 0) : State :=
  { bays [(F.BAY_STATUS_OUT_HELD, 767, 0, held), (F.BAY_STATUS_WE_HELD, 767, 0, held), (F.BAY_STATUS_RST_HELD, 767, 0, held)] with
    cmds := [cmdD d p part], slots := ⟨[(16 * 7, { gen := 4095, used := true, status := none })]⟩ }

theorem witness_LoomCommandForms :
    (cmdOf (lc [1, 2, 1] 0 1) tk7 = some (cmdD [1, 2, 1] 0) ∧ cfgRuns (lc [1, 2, 1] 0 1) = true ∧ instReady (lc [1, 2, 1] 0 1) (cmdD [1, 2, 1] 0) = true ∧
      privBad (lc [1, 2, 1] 0 1) 0 = false ∧ notOn (lc [1, 2, 1] 0 1) (cmdD [1, 2, 1] 0) = false ∧ instOf (lc [1, 2, 1] 0 1) 1 = some k1 ∧
      (lc [1, 2, 1] 0 1).holds = [] ∧ allReleased (lc [1, 2, 1] 0 1) k1 = false ∧ (cmdD [1, 2, 1] 0).atPick = true ∧
      pickPassed (lc [1, 2, 1] 0 1) (cmdD [1, 2, 1] 0).pick = true ∧ (cmdD [1, 0, 1] 0).atPick = false) ∧
    (instOf (lc [1, 0, 2] 0 1) 2 = none ∧ (cmdD [1, 0, 2] 0).opc = fLREL) ∧
    ((cmdD [3, 0, 1] 0).opc = fLFREE ∧ framePathFree (lc [3, 0, 1] 0 1) tk7 = true ∧ allHeld (lc [3, 0, 1] 0 1) k1 = true) ∧
    ((cmdD [11] 0).opc = fLKEY ∧ (lc [11] 0 0).occ = none ∧ keyNamed (lc [11] 0 0) 63 = false ∧ privBad (lc [11] 0 0) 1 = false ∧
      blobKey 0 ((lc [11] 0 0).rdBytes (aPriv 7 0x1_0000) 64) = none) ∧
    ((cmdD [1, 0, 1] 3).phase = 3 ∧ tkLive (lc [1, 0, 1] 3 0) tk7 = true ∧ (cmdD [1, 0, 1] 3).drop = false ∧ (cmdD [1, 0, 1] 3).flag 0 = false ∧
      ((lc [1, 0, 1] 3 0).vc.get 7).wait = .none) ∧
    ((cmdD [3, 0, 1] 1 2).opc = fLFREE ∧ (cmdD [3, 0, 1] 1 2).part = 2 ∧ cfgRuns (lc [3, 0, 1] 1 1 2) = true) := by
  decide +kernel

/-- The wrapped key in the LDM unwraps to what the device's own wrapping key gives, which the spec does not state (log entry 6). -/
theorem witness_LoomCommandForms_key (v : List Byte) (h : keyUnwrap 0 (List.replicate 40 0) = some v) :
    blobKey 0 (bytesLE 4 0x4B594250 ++ List.replicate 60 0) = some v := by
  unfold blobKey
  rw [if_pos (by decide +kernel)]
  exact h

/-- An image header of one bay, of `n` bytes in all, filled up to `len`. -/
def img (n len : Nat) : List Byte := List.replicate 8 0 ++ bytesLE 8 n ++ List.replicate 8 0 ++ bytesLE 1 1 ++ bytesLE 1 1 ++ List.replicate (len - 26) 0
/-- A load of the image at the start of scratchpad bank 0, with `m` there from byte 320 on. -/
def lo (l : LoadSt) (m : List Byte) (sp : List Byte := []) : State :=
  let s := { bays [(F.HD_MAP_OSTATE, 0, 767, 1)] with
    cmds := [{ ticket := tk7, desc := List.replicate 16 0 ++ bytesLE 8 0x8_0000_0000_0000 ++ List.replicate 40 0, inst := 1, phase := 1, spools := sp }],
    load := some { l with ticket := tk7 } }
  s.wrBytes (0x8_0000_0000_0000 + 320) m
/-- A FRAMES section of one record, at its record. -/
def lr : LoadSt := { ticket := tk7, part := 1, seen := img 1024 320, secEnd := 640, sec := 1 }
def rec1 : List Byte := bytesLE 4 1 ++ bytesLE 4 1407 ++ bytesLE 4 1 ++ List.replicate 52 0
def sr1 : State := (loadTake 64 (lo lr rec1)).2

theorem witness_ImageForms_record :
    (loadInst (lo lr rec1)).isSome = true ∧ cfgRuns (lo lr rec1) = true ∧ regionOn (lo lr rec1) k1 = true ∧ (loadTake 64 (lo lr rec1)).1 = none ∧
    loadPlain sr1 (sr1.load.getD lr) lr.pos 64 = rec1 ∧ recordBad lr rec1 (lr.secEnd - lr.pos - 64) = false ∧ fieldLE rec1 4 4 = 1407 ∧
    (loadTake (recordLen rec1) sr1).1 = none ∧ loadInst State.reset = none ∧ loadWaits (lo lr rec1) 64 = false ∧ loadWaits sr1 (recordLen rec1) = false := by
  decide +kernel

/-- At the trailer. -/
def lt1 : LoadSt := { ticket := tk7, part := 1, seen := img 384 320, last := 1 }
def trl : List Byte := bytesLE 4 0x444E_4558 ++ bytesLE 4 0 ++ bytesLE 8 384 ++ List.replicate 48 0
/-- Past the trailer of an image of 68 bytes whose check value was computed apart, or is 0. -/
def lp (crc : Nat) : LoadSt := { ticket := tk7, part := 2, seen := img 68 64 ++ bytesLE 4 crc }

theorem witness_ImageForms_trailer :
    (lt1.pos = lt1.tail ∧ lt1.tops = fieldLE lt1.hdr 0x1D 1 ∧ lt1.ebm = ihFlag lt1.hdr 2 ∧ (lt1.sigAt != 0) = ihFlag lt1.hdr 1 ∧
      (loadTake 64 (lo lt1 trl)).1 = none ∧ loadWaits (lo lt1 trl) 64 = false ∧ fieldLE trl 8 8 = ihLen lt1.hdr ∧ allZero trl 4 4 = true ∧ allZero trl 0x10 0x2C = true) ∧
    (imageCheck (lo (lp 0xbab985c7) []) (lp 0xbab985c7) = (0, 0) ∧ (loadInst (lo (lp 0) [])).isSome = true ∧ imageCheck (lo (lp 0) []) (lp 0) ≠ (0, 0)) ∧
    (loadInst (lo { lp 0 with part := 3 } [])).map (fun e => (e.1.part, e.2.1.phase, spoolNext e.2.1 0)) = some (3, 1, none) := by
  decide +kernel

/-- A placement query for a region of `w` by 1 bays at the head of Heddle's queue. -/
def lq (w : Nat) : State :=
  { State.reset with hdq := [tk7], cmds := [{ ticket := tk7, desc := desc [5], spools := List.replicate 24 0 ++ [BitVec.ofNat 8 w, 1] ++ List.replicate 230 0 }] }

theorem witness_HeddleOriginForms_query :
    (lq 1).hdq = [tk7] ∧ hdRuns (lq 1) = true ∧ (cmdOf (lq 1) tk7).map (fun c => (c.opc, c.pin, c.phase)) = some (fLPLACE, false, 0) ∧
    (cmdOf (lq 1) tk7).map (fun c => (ihAnchors c.spools, ihW c.spools, ihH c.spools)) = some ([], 1, 1) ∧
    ostate (lq 1) 767 = oFREE ∧ hstate (lq 1) 767 < 2 ∧ bayCap (lq 1) 767 = false ∧ (lq 1).fld F.PWR_BAY_STATE_STATE 0 767 ≠ 3 ∧
    (cmdOf (lq 25) tk7).map (fun c => ihW c.spools) = some 25 := by decide +kernel

/-- Pool 31 spans scratchpad bank 0, or a granule too few or too many. -/
def pool (last : Nat) (extra : List (Field × Nat × Nat × Nat)) : State :=
  fs ([(F.HD_POOL_BASE_BASE, 0, 31, 0x80_0000_0000), (F.HD_POOL_LAST_LAST, 0, 31, last)] ++ extra) (bays [(F.HD_MAP_OSTATE, 0, 767, 1)])

theorem witness_HeddleOriginForms_pool :
    (pool 0x80_0000_01FF []).fld F.HD_POOL_CTL_USED 0 31 = 0 ∧ (pool 0x80_0000_01FF [(F.HD_POOL_CTL_USED, 0, 31, 1)]).fld F.HD_POOL_CTL_USED 0 31 ≠ 0 ∧
    poolBad (pool 0x80_0000_01FF []) 31 = false ∧ poolBad (pool 0x80_0000_0200 []) 31 = true := by decide +kernel

/-- An entry of a spool list: kind, flags, handle, users, key ID, pool, size or spool. -/
def ent (kind fl n : Nat) : List Byte := bytesLE 1 kind ++ bytesLE 1 fl ++ bytesLE 2 0xBEEF ++ bytesLE 2 0xFFFF ++ [0, if kind = 1 then 0xFF else 0] ++ bytesLE 4 n ++ bytesLE 4 0
/-- The load of instance 1 at its spools, with `e` the only entry; pool 31 enabled; spools 1 (of instance 1) and 4095 live where given. -/
def spl (part : Nat) (e : List Byte) (sp : List (Nat × Option Spool)) (mine : List Nat) : State :=
  let s := pool 0x80_0000_01FF [(F.HD_POOL_CTL_EN, 0, 31, 1)]
  { s with cmds := [{ ticket := tk7, desc := desc [], inst := 1, phase := 1, spools := e }], load := some { ticket := tk7, part := part },
           spools := ⟨sp⟩, insts := s.insts.set 1 (some { k1 with spools := mine }) }
def sp1 : Spool := { pool := 31, owner := 1, base := 0x80_0000_0000, size := 1 }

theorem witness_SpoolForms_place :
    ((loadInst (spl 4 (ent 0 0 0) [] [])).isSome = true ∧ entryBad (spl 4 (ent 0 0 0) [] []) k1 (ent 0 0 0) ≠ 0) ∧
    ((loadInst (spl 4 (ent 2 0 4095) [(4095, some sp1)] [])).map (fun e => spoolNext e.2.1 e.1.entry) = some (some (0, ent 2 0 4095)) ∧
      entryBad (spl 4 (ent 2 0 4095) [(4095, some sp1)] []) k1 (ent 2 0 4095) = 0) ∧
    (entryBad (spl 4 (ent 1 1 512) [] []) k1 (ent 1 1 512) = 0 ∧ (spl 4 (ent 1 1 512) [] []).spools.get 1 = none ∧
      poolEligible (spl 4 (ent 1 1 512) [] []) 31 (ent 1 1 512) = true) ∧
    ((loadInst (spl 5 (ent 1 1 1) [(1, some sp1)] [1])).map (fun e => (e.1.part, e.2.2.spools.getLast?)) = some (5, some 1) ∧
      (spoolZero 1 (spl 5 (ent 1 1 1) [(1, some sp1)] [1])).1 = 0 ∧ userBays (ent 1 1 1) 1 1 = [(0, 0)] ∧
      xlValid (spl 5 (ent 1 1 1) [(1, some sp1)] [1]) 767 0 = false ∧ spoolWaits (spl 5 (ent 1 1 1) [(1, some sp1)] [1]) 1 = false) ∧
    spoolWaits { spl 5 (ent 1 1 1) [(1, some sp1)] [1] with noRouter := List.range 96 } 1 = true ∧ spoolWaits (fs [(F.SPB_PWR_STATE_STATE, 0, 0, 0)] (spl 5 (ent 1 1 1) [(1, some sp1)] [1])) 1 = false ∧
    (spoolZero 1 (fs [(F.SPB_PWR_STATE_STATE, 0, 0, 0)] (spl 5 (ent 1 1 1) [(1, some sp1)] [1]))).1 ≠ 0 := by decide +kernel

/-- A reservation for spool 1 in pool 31, which waits for a pick or not. -/
def mv (st pick : Nat) : State :=
  { fs [(F.HD_MOVE_CTL_STATE, 0, 0, st), (F.HD_MOVE_PICK_PICK, 0, 0, pick)] (spl 0 (ent 1 1 1) [(1, some sp1), (4095, some sp1)] [1]) with moving := some (1, 31) }

theorem witness_SpoolForms_move :
    (hdRuns (mv 0 0) = true ∧ (mv 0 0).spools.get 4095 = some sp1 ∧ (mv 0 0).fld F.HD_MOVE_CTL_STATE = 0 ∧ (mv 0 0).bit F.HD_POOL_CTL_EN 0 31 = true ∧
      poolUp (mv 0 0) 31 = true ∧ (poolFit (mv 0 0) 31 1).isSome = true ∧ (mv 0 0).bit F.HD_POOL_CTL_EN 0 0 = false) ∧
    ((mv 1 0).fld F.HD_MOVE_CTL_STATE = 1 ∧ (mv 1 0).moving = some (1, 31) ∧ (mv 1 0).spools.get 1 = some sp1 ∧ pickPassed (mv 1 0) 0 = true ∧
      pickPassed (mv 1 1) ((mv 1 1).fld F.HD_MOVE_PICK_PICK) = false) ∧
    ({ mv 1 0 with moving := none } : State).moving = none ∧
    (hdRuns { mv 0 0 with dev := .deepSleep } = false ∧ loadInst (mv 0 0) ≠ none) := by decide +kernel

/-- A migration of instance 1 from bay 767 to bay 0, in part `p`. -/
def mg (p : Nat) (fail : Option (Nat × Nat)) (err : List (Nat × Nat) := []) : State :=
  { bays [] with migs := [{ ticket := tk7, inst := 1, src := (23, 31), dst := (0, 0), n := 1, m := 2, part := p, fail := fail }], fdiff := ⟨err⟩,
                 cmds := [{ ticket := tk7, desc := List.replicate 16 0 ++ bytesLE 8 0x8_0000_0000_0000 ++ List.replicate 40 0, inst := 1, phase := 1 }] }

set_option maxRecDepth 20000 in
theorem witness_MigrationForms :
    (migOf (mg 3 none) 0 = none ∧ (migOf (mg 3 none) tk7).isSome = true ∧ cfgRuns (mg 3 none) = true ∧ k1.baysAt (23, 31) = [767] ∧ k1.baysAt (0, 0) = [0] ∧
      copyDue (mg 3 none) { ticket := tk7, inst := 1, src := (23, 31), dst := (0, 0), n := 1, m := 2, part := 3 } k1 = true ∧
      framePathFree (mg 3 none) tk7 = true ∧ copyDue (mg 4 none) { ticket := tk7, inst := 1, src := (23, 31), dst := (0, 0), n := 1, m := 2, part := 4 } k1 = false ∧
      engWaits (mg 4 none) initCfg 0x8_0000_0000_0000 k1.snapLen = false) ∧
    ((engRead initCfg 0x8_0000_0000_0000 128 (mg 4 none)).1 = 0 ∧ snapCrcOk (engRead initCfg 0x8_0000_0000_0000 128 (mg 4 none)).2.2.1 = false ∧
      snapCrcOk (List.replicate 4 0) = true) ∧
    (frameReserved 1407 = false ∧ frameContent 1407 = false ∧ frameErrs (mg 3 none) 767 1407 = []) ∧
    (migOf (mg 6 (some (2, 0))) tk7).map (fun e => (e.1.part, e.1.fail)) = some (6, some (2, 0)) := by decide +kernel

set_option maxRecDepth 20000 in
/-- A word of frame 0 of bay 767 with two bits wrong has an error that cannot be corrected. -/
theorem witness_MigrationForms_error : ∃ e ∈ frameErrs (mg 3 none [(aFrameCheck 767 0 31, 3)]) 767 0, e.cls = 2 ∨ e.cls = 3 := by decide +kernel

/-- A capture of 64 bytes to the start of scratchpad bank 0 that waits for the edges `w`. -/
def cpt (w : List (Nat × Nat)) : State := { bays [] with capts := [{ ticket := tk7, inst := 1, bays := [767], dest := 0x8_0000_0000_0000, head := List.replicate 64 1, wait := w }] }

set_option maxRecDepth 20000 in
theorem witness_MigrationForms_capture :
    cfgRuns (cpt []) = true ∧ (captureStopped (cpt [])).capts = (cpt []).capts ∧
    (captureStopped (cpt [])).capts.map (fun x => (engWaits (captureStopped (cpt [])) initCfg x.dest x.bytes.length,
      (engWrite initCfg x.dest x.bytes { captureStopped (cpt []) with capts := [] }).1)) = [(false, 0)] ∧
    ((captureStopped (cpt [(767, 0)])).capts.map (fun x => x.wait)) = [[(767, 0)]] ∧ State.reset.capts = [] := by decide +kernel

/-- Continuous scrubbing stands at frame `f` of bay 767, whose check word 0 differs by `e`. -/
def sb0 (f e : Nat) : State :=
  { bays [(F.SCRUB_CTL_CONT, 0, 0, 1)] with scrub := { bay := 767, frame := f }, fdiff := ⟨if e = 0 then [] else [(aFrameCheck 767 f 0, e)]⟩ }

set_option maxRecDepth 20000 in
theorem witness_ScrubForms :
    (hdRuns (sb0 1407 0) = true ∧ privBad (sb0 1407 0) 0 = false ∧ (sb0 1407 0).scrub.passes = [] ∧ (sb0 1407 0).fld F.SCRUB_CTL_CONT = 1 ∧
      scrubSeek (sb0 1407 0) 767 1407 = (767, 1407) ∧ frameErrs (sb0 1407 0) 767 1407 = []) ∧
    (frameErrs (sb0 0 1) 767 0 ≠ [] ∧ ∀ e ∈ frameErrs (sb0 0 1) 767 0, e.cls ≤ 1) ∧ (∃ e ∈ frameErrs (sb0 0 3) 767 0, e.cls = 3) ∧
    (bays [(F.SCRUB_CTL_CONT, 0, 0, 0)]).fld F.SCRUB_CTL_CONT ≠ 1 ∧ State.reset.scrub.passes = [] := by decide +kernel

/-- Core 7 takes the last of 4096 queue entries at the start of scratchpad bank `b`. -/
def lpq (b : Nat) : State :=
  fs [(F.LPQ_CFG_EN, 7, 0, 1), (F.LPQ_CFG_LOG2N, 7, 0, 12), (F.LPQ_HEAD_HEAD, 7, 0, 4095), (F.LPQ_BASE_BASE, 7, 0, (0x8_0000_0000_0000 + b * 0x20_0000) / 64),
    (F.SPB_PWR_STATE_STATE, 0, 63, 0)] State.reset

theorem witness_IntakeForms_entry :
    (intakeRuns (lpq 0) = true ∧ (lpq 0).bit F.LPQ_CFG_EN 7 = true ∧ lpqSize (lpq 0) 7 = 4096 ∧ (lpq 0).fld F.LPQ_TAIL_TAIL 7 = 0 ∧
      (lpq 0).fld F.LP_STATUS_STATE 7 = 0 ∧ ((lpq 0).intake.get 7).waiting = []) ∧
    engWaits (lpq 0) (initCc 7) ((lpq 0).fld F.LPQ_BASE_BASE 7 * 64 + 64 * 4095) 64 = false ∧
    engWaits (lpq 63) (initCc 7) ((lpq 63).fld F.LPQ_BASE_BASE 7 * 64 + 64 * 4095) 64 = false ∧
    (engRead (initCc 7) ((lpq 0).fld F.LPQ_BASE_BASE 7 * 64 + 64 * 4095) 64 (lpq 0)).1 = 0 ∧
    (engRead (initCc 7) ((lpq 63).fld F.LPQ_BASE_BASE 7 * 64 + 64 * 4095) 64 (lpq 63)).1 ≠ 0 := by decide +kernel

/-- Core 7 has a package at `a`, and the bytes at the start of scratchpad bank 0 are `p`; the device is of revision 0 and has no owner key. -/
def pk (a : Nat) (p : List Byte) : State :=
  { State.reset with
    intake := ⟨[(7, { pkg := a })]⟩, mem := (State.reset.wrBytes 0x8_0000_0000_0000 p).mem,
    regs := ⟨(fkey F.CFG_POLICY_DIG_PRESENT 0 0, F.CFG_POLICY_DIG_PRESENT.resetAt 0 0) :: (fkey F.REVISION 0 0, F.REVISION.resetAt 0 0) ::
      (fs [(F.LP_STATUS_STATE, 7, 0, 1), (F.CC_PROG_LIM_PAGES, 7, 0, 1)] State.reset).regs.cells⟩ }
/-- The package that loads 64 bytes of zeros; its check value was computed apart. -/
def pkg0 : List Byte := bytesLE 4 0x4750_504C ++ (rec0.drop 4).take 184 ++ bytesLE 4 0x23d8c55f

theorem witness_IntakeForms_package :
    intakeRuns (pk 0x8_0000_0000_0000 []) = true ∧ (pk 0x8_0000_0000_0000 []).fld F.LP_STATUS_STATE 7 = 1 ∧
    ((pk 0x8_0000_0000_0020 []).intake.get 7).pkg % 64 ≠ 0 ∧ ((pk 0x8_0000_0000_0000 []).intake.get 7).pkg % 64 = 0 ∧
    (engRead (initCc 7) 0x8_0002_0000_0000 64 (pk 0x8_0002_0000_0000 [])).1 ≠ 0 ∧
    engWaits (pk 0x8_0000_0000_0000 pkg0) (initCc 7) 0x8_0000_0000_0000 64 = false ∧
    engWaits (engRead (initCc 7) 0x8_0000_0000_0000 64 (pk 0x8_0000_0000_0000 pkg0)).2.2.2 (initCc 7) 0x8_0000_0000_0040 128 = false ∧
    engWaits { pk 0x8_0000_0000_0000 pkg0 with noRouter := List.range 96 } (initCc 7) 0x8_0000_0000_0000 64 = true ∧
    (engRead (initCc 7) 0x8_0000_0000_0000 64 (pk 0x8_0000_0000_0000 pkg0)).1 = 0 ∧
    (engRead (initCc 7) 0x8_0000_0000_0000 64 (pk 0x8_0000_0000_0000 pkg0)).2.2.1 = pkg0.take 64 ∧
    (engRead (initCc 7) 0x8_0000_0000_0040 128 (pk 0x8_0000_0000_0000 pkg0)).1 = 0 ∧ recTotal (pkg0.take 64) = 192 ∧
    (engRead (initCc 7) 0x8_0000_0000_0040 128 (pk 0x8_0000_0000_0000 pkg0)).2.2.1 = pkg0.drop 64 := by decide +kernel

theorem pk_revision (a : Nat) (p : List Byte) : (pk a p).fld F.REVISION 0 0 = 0 := Nat.xor_self (F.REVISION.resetAt 0 0)
theorem pk_unowned (a : Nat) (p : List Byte) : (pk a p).fld F.CFG_POLICY_DIG_PRESENT 0 0 = 0 := Nat.xor_self (F.CFG_POLICY_DIG_PRESENT.resetAt 0 0)

set_option maxRecDepth 20000 in
theorem witness_IntakeForms_checks :
    pkgHeader (pk 0x8_0000_0000_0000 []) 7 (List.replicate 64 0) = 1 ∧ pkgHeader (pk 0x8_0000_0000_0000 []) 7 (pkg0.take 64) = 0 ∧
    recBody (pk 0x8_0000_0000_0000 []) pkg0 = 0 ∧ recBody (pk 0x8_0000_0000_0000 []) (pkg0.take 188 ++ [0, 0, 0, 0]) = 5 := by
  simp only [pkgHeader, recBody, pk_revision, pk_unowned]
  decide +kernel

/-- Core 7 has a completion to write, or waits in LEXIT with its result, the tail at the last of 4096 entries. -/
def lcq (w : List (Nat × Nat × Nat × Bool)) (v : VWait) : State :=
  { fs [(F.LCQ_CFG_LOG2N, 7, 0, 12), (F.LCQ_TAIL_TAIL, 7, 0, 4095), (F.LCQ_HEAD_HEAD, 7, 0, 1)] State.reset with
    intake := ⟨[(7, { waiting := w })]⟩, vc := ⟨[(7, { wait := v })]⟩ }

theorem witness_IntakeForms_completion :
    (lcq [] .none).fld F.LCQ_TAIL_TAIL 7 = 4095 ∧ lcqSize (lcq [] .none) 7 = 4096 ∧ (4095 + 1) % 4096 ≠ (lcq [] .none).fld F.LCQ_HEAD_HEAD 7 ∧
    ((lcq [(5, 0, 8, true)] .none).intake.get 7).waiting = [(5, 0, 8, true)] ∧ ((lcq [] (.lexit 9)).vc.get 7).wait = .lexit 9 ∧
    intakeRuns (lcq [] .none) = true ∧
    engWaits (lcq [] .none) (initCc 7) ((lcq [] .none).fld F.LCQ_BASE_BASE 7 * 16 + 16 * 4095) 16 = false := by decide +kernel

/-- Initiator 5 has request `p` to send to scratchpad bank 0, or to the address `a`. -/
def nq (a ph tag : Nat) : State := { State.reset with reqs := [{ pkt := { init := 5, tag := tag, addr := a }, why := .bay 5 1, phase := ph }] }
/-- A packet of initiator 5 to `a` stands at router `r` on its way to `d`. -/
def hp (a r d : Nat) : Hop := { pkt := { opc := 1, init := 5, addr := a }, at_ := r, src := 0, dst := d, inp := 1024 }
def hs (a r d : Nat) : State := { State.reset with hops := [hp a r d] }
/-- Router 9 is marked as one that cannot be used. -/
def rb : State := fs [(F.UNUSABLE_RTR_RTR, 0, 0, 0x200)] State.reset

theorem witness_NocTransportForms_issue :
    (nocRuns State.reset = true ∧ State.reset.reqs = [] ∧ nocRuns { State.reset with dev := .off } = false) ∧
    (mayIssue (nq 0x8_0000_0000_0000 0 0) [] { pkt := { init := 5, addr := 0x8_0000_0000_0000 }, why := .bay 5 1 } 255 = true ∧
      mayIssue (nq 0x8_0000_0000_0000 0 0) [] { pkt := { init := 5, addr := 0x8_0000_0000_0000 }, why := .bay 5 1 } 256 = false ∧
      packetRouter (nq 0x8_0000_0000_0000 0 0) { init := 5, addr := 0x8_0000_0000_0000 } = some 95) ∧
    (mayIssue (nq (2 ^ 52) 0 0) [] { pkt := { init := 5, addr := 2 ^ 52 }, why := .bay 5 1 } 0 = true ∧ targetOf (2 ^ 52) = .unmapped ∧
      (nq (2 ^ 52) 0 0).fld F.DEV_ID = 0 ∧ targetOf (2 ^ 51 - 1) = .dram 15) ∧
    (nq 0x8_0000_0000_0000 1 9).reqs.map (fun e => (e.pkt.init, e.phase, e.pkt.tag)) = [(5, 1, 9)] := by decide +kernel

theorem witness_NocTransportForms_forward :
    grantHead State.reset 1 1 [] = none ∧
    (grantHead (hs 0x8_0002_0000_0000 1 0) 1 1 [] = some (hp 0x8_0002_0000_0000 1 0) ∧ (hs 0x8_0002_0000_0000 1 0).noRouter = []) ∧
    (grantHead (hs 0x8_0002_0000_0000 0 0) 0 1024 [] = some (hp 0x8_0002_0000_0000 0 0) ∧ packetOk (hp 0x8_0002_0000_0000 0 0).pkt = true ∧
      packetDev (hp 0x8_0002_0000_0000 0 0).pkt = 0 ∧ targetOf 0x8_0002_0000_0000 = .bay 0) := by decide +kernel

theorem witness_NocTransportForms_route :
    (∀ p < 12, (State.reset.warp.get p).rx = []) ∧ State.reset.noRouter.contains 9 = rtrOut State.reset 9 ∧ rb.noRouter.contains 9 = !rtrOut rb 9 ∧ rb.hops = [] := by decide +kernel

/-- A response to initiator 5's tag 9 has arrived; the request stands at phase `ph`. -/
def ar (ph : Nat) (why : Purpose) (inp : Nat := 5) : State :=
  { State.reset with hops := [{ pkt := { opc := 8, init := inp, tag := 9 }, arrived := true }],
                     reqs := [{ pkt := { init := 5, tag := 9 }, why := why, phase := ph, toExp := 20 }] }
/-- Two trace records wait; a stopped ring of 2^12 bytes is full at 4032 when the read pointer is at 0. -/
def tr (stop rp : Nat) : State :=
  { fs [(F.TRACE_CFG_STOP, 0, 0, stop), (F.TRACE_RP_RP, 0, 0, rp), (F.TRACE_WP_WP, 0, 0, 4032)] State.reset with
    traceQ := [List.replicate 32 1, List.replicate 32 2] }

theorem witness_NocAnswerForms :
    (((ar 0 (.bay 5 1)).hops.find? (fun h => h.arrived && 8 ≤ h.pkt.opc && h.pkt.init == 5)).isSome = true ∧
      (ar 0 (.bay 5 1)).reqs.find? (answers { opc := 8, init := 5, tag := 9 }) = none ∧
      ((ar 2 (.bay 5 1)).reqs.find? (answers { opc := 8, init := 5, tag := 9 })).map (·.phase) = some 2 ∧
      ((ar 1 (.bay 5 1)).reqs.find? (answers { opc := 8, init := 5, tag := 9 })).map (·.why) = some (.bay 5 1) ∧
      ((ar 1 .trace).reqs.find? (answers { opc := 8, init := 5, tag := 9 })).map (fun q => (q.why, q.phase)) = some (.trace, 1) ∧
      ((ar 1 .dropped).reqs.find? (answers { opc := 8, init := 5, tag := 9 })).map (·.why) = some .dropped) ∧
    (State.reset.hops = [] ∧ reqOf State.reset 5 9 1 = none ∧ reqOf State.reset 5 9 2 = none) ∧
    ((reqOf (ar 1 (.bay 5 1) 6) 5 9 1).map (fun q => (q.toExp, answered (ar 1 (.bay 5 1) 6) q)) = some (20, false) ∧
      (reqOf (ar 1 (.bay 5 1)) 5 9 1).map (fun q => answered (ar 1 (.bay 5 1)) q) = some true ∧ (reqOf (ar 1 (.bay 5 1)) 5 9 1).map (·.toExp) = some 20 ∧ nocRuns (ar 1 (.bay 5 1)) = true ∧ (reqOf (ar 2 (.bay 5 1)) 5 9 2).isSome = true ∧
      (ar 1 (.bay 5 1)).bit F.NOC_TOLOG_VALID = false) ∧
    (State.reset.traceQ.length < 2 ∧ (tr 1 0).traceQ.length = 2 ∧ nocRuns (tr 1 0) = true ∧ traceOut (tr 1 0) = false ∧
      traceOut { tr 1 0 with reqs := [{ pkt := {}, why := .trace }] } = true ∧ (tr 1 0).fld F.TRACE_WP_WP = 4032 ∧ traceSize (tr 1 0) = 4096 ∧
      (tr 1 0).fld F.TRACE_RP_RP = 0 ∧ (tr 1 64).fld F.TRACE_RP_RP = 64 ∧ (tr 0 0).bit F.TRACE_CFG_STOP = false ∧ (tr 1 0).bit F.TRACE_CFG_STOP = true) := by
  decide +kernel

theorem witness_NocAnswerForms_logged : (fs [(F.NOC_TOLOG_VALID, 0, 0, 1)] (ar 1 (.bay 5 1))).bit F.NOC_TOLOG_VALID = true := by decide +kernel

/-- Memory port 3 serves 2^37 bytes; it holds `m`, the fields `l` are set, and `p` has arrived for it. -/
def mq (m : MPort) (l : List (Field × Nat × Nat × Nat)) (p : Packet := {}) : State :=
  { fs ([(F.DOM_STATUS_STATE, 0, 4, 0), (F.MP_STATUS_STATE, 3, 0, 2), (F.MP_GEOM_CAP_LOG2, 3, 0, 37)] ++ l) State.reset with
    mp := ⟨[(3, m)]⟩, hops := [{ pkt := p, arrived := true }] }
/-- A request of initiator 5 at the start of port 3's space plus `a`. -/
def pq (opc a len : Nat) (data : List Byte := []) : Packet := { opc := opc, addr := 3 * 2 ^ 41 + a, len := len, init := 5, data := data }
/-- Region 9 of port 3: 2 MiB at 2^21, its metadata at 2^22, keys 1 and slot 1, active. -/
def rgn : List (Field × Nat × Nat × Nat) :=
  [(F.MPR_CTL_VALID, 0, 9, 1), (F.MPR_CTL_STATE, 0, 9, 1), (F.MPR_CTL_PORT, 0, 9, 3), (F.MPR_CTL_LOG2SIZE, 0, 9, 21), (F.MPR_CTL_KEYID, 0, 9, 1),
   (F.MPR_CTL_SLOT_CUR, 0, 9, 1), (F.MPR_BASE_BASE, 0, 9, 1), (F.MPR_META_META, 0, 9, 8), (F.MPE_KEY_LOADED, 0, 0, 1)]
/-- A write-queue entry of block 0 with the bytes of mask `x`, and a queued read of block `b`. -/
def we (x : Nat) : WEntry := { blk := 0, data := List.replicate 64 7, mask := x }
def rq (b kind : Nat) (issued : Bool := false) (g : MSnap := { blk := b, data := List.replicate 64 7 }) : MRead :=
  { pkt := pq 1 (64 * b) 0, kind := kind, snaps := [g], issued := issued, seq := 1 }

theorem witness_MemPortServiceForms_order :
    mpEarlier {} 1 (pq 1 0 0) = false ∧ mpEarlier { rq := [{ pkt := pq 1 0 0 }] } 1 (pq 1 0 0) = true ∧
    ((mq {} []).mp.get 3).ready = [] := by decide +kernel

theorem witness_MemPortServiceForms_accept :
    (State.reset.takeArrived (.dram 3)).isNone = true ∧
    ((((mq {} [] (pq 1 0 0)).takeArrived (.dram 3)).map (·.1)) = some (pq 1 0 0) ∧ memRuns (mq {} []) = true ∧
      memRuns (mq {} [(F.DOM_STATUS_STATE, 0, 4, 3)]) = false ∧ mpCheck (mq {} [(F.DOM_STATUS_STATE, 0, 4, 3)]) 3 (pq 1 0 0) = 0 ∧
      mpCheck (mq {} []) 3 (pq 1 (2 ^ 37 - 1) 1) ≠ 0 ∧ mpCheck (mq {} [(F.MP_STATUS_STATE, 3, 0, 5)]) 3 (pq 1 0 0) ≠ 0) ∧
    (pipeDecide (mq {} rgn) 3 { pq 1 (2 ^ 21) 0 with keyid := 1 } = .region 9 ∧ pipeDecide (mq {} rgn) 3 (pq 1 (2 ^ 21) 0) = .conflict 6 (some 9) ∧
      pipeDecide (mq {} rgn) 3 { pq 1 (2 ^ 21) 0 with keyid := 1, init := 0x380 } = .blocked 9 ∧
      pipeDecide (mq {} rgn) 3 (pq 1 (2 ^ 21 - 1) 0) = .plain ∧ pipeDecide (mq {} []) 3 { pq 4 56 7 with pmask := 1 } = .err eACCESS) ∧
    ((mq {} [] (pq 1 63 0)).mp.get 3).rq.length < 64 ∧
    (remapOf (mq {} []) 3 0 = none ∧ ((mq { wq := [we 1] } []).mp.get 3).wq.find? (fun e => e.blk == 0) = some (we 1) ∧
      (we 1).mask &&& maskOf 0 1 = maskOf 0 1 ∧ ((mq {} []).mp.get 3).wq.find? (fun e => e.blk == 0) = none) ∧
    ({ mq {} [] with dramDef := ⟨[(blkKey 3 0, true)]⟩ }).dramDef.get (blkKey 3 0) = true := by decide +kernel

theorem witness_MemPortServiceForms_full :
    64 ≤ ((mq { rq := List.replicate 64 (rq 9 0) } []).mp.get 3).rq.length ∧
    64 < ((mq { wq := List.replicate 64 (we 1) } []).mp.get 3).wq.length + mpNeeds (mq { wq := List.replicate 64 (we 1) } []) 3 (pq 2 64 63) ∧
    pipeDecide (mq { wq := List.replicate 64 (we 1) } []) 3 (pq 2 64 63) = .plain := by decide +kernel

theorem witness_MemPortServiceForms_write :
    (pipeDecide (mq { wq := [we fullMask] } []) 3 (pq 2 60 3) = .plain ∧ (pq 2 60 3).opc = opWRITE ∧ 60 + (pq 2 60 3).len < 64 ∧
      ((mq { wq := [we fullMask] } []).mp.get 3).wq.length < 64 ∧
      ((mq { wq := [we fullMask] } []).mp.get 3).wq.length + mpNeeds (mq { wq := [we fullMask] } []) 3 (pq 2 60 3) ≤ 64) ∧
    (pipeDecide (mq {} []) 3 { pq 3 0 63 with mask := 2 ^ 63 } = .plain ∧ (2 ^ 63) % 2 ^ 64 ≠ 0 ∧ opMWRITE = 3) ∧
    (pipeDecide (mq { wq := [we fullMask] } []) 3 (pq 4 56 7) = .plain ∧ opATOMIC = 4 ∧
      ((mq { wq := [we fullMask] } []).mp.get 3).wq.find? (fun e => e.blk == 0) = some (we fullMask)) := by decide +kernel

theorem witness_MemPortServiceForms_slot :
    (memRuns (mq {} []) = true ∧ (mq {} []).fld F.MP_STATUS_STATE 3 = 2 ∧ (mq {} [(F.MP_STATUS_STATE, 3, 0, 5)]).fld F.MP_STATUS_STATE 3 = 5 ∧
      State.reset.fld F.MP_STATUS_STATE 3 = 0) ∧
    ((List.range (mpRanks (mq {} []) 3)).find? (fun r => (List.range 4).any (fun b => refLimit (mq {} []) 3 ≤ (⟨[(3, 4)]⟩ : SMap Nat).get (r * 4 + b))) = some 0 ∧
      (List.range (mpRanks (mq {} []) 3)).find? (fun r => (List.range 4).any (fun b => refLimit (mq {} []) 3 ≤ (⟨[]⟩ : SMap Nat).get (r * 4 + b))) = none ∧
      ({} : SMap Nat).keys = []) ∧
    ([rq 2 0, rq 3 0].filter (readEligible { rq := [rq 2 0, rq 3 0] } false) = [rq 2 0, rq 3 0] ∧
      ([] : List MRead).filter (readEligible {} false) = []) ∧
    ((mq {} [(F.MP_SCHED_WQ_HI, 3, 0, 1), (F.MP_SCHED_WQ_LO, 3, 0, 0)]).fld F.MP_SCHED_WQ_HI 3 ≤ [we 1].length ∧
      0 ≤ (mq {} [(F.MP_SCHED_WQ_HI, 3, 0, 1)]).fld F.MP_SCHED_WQ_LO 3) ∧
    (releasing (mq {} [(F.MP_REMAP_VALID, 3, 7, 1), (F.MP_REMAP_BUSY, 3, 7, 1)]) 3 = some 7 ∧ releasing (mq {} []) 3 = none ∧
      (mq {} []).ecc.get (aRemap 3 7 63) = 0) ∧
    ((we fullMask).data.length = 64 ∧ (mq {} []).dramErr.get (blkKey 3 0) = 0) ∧
    (sbRefresh (mq { debt := ⟨[(2, 1)]⟩ } []) 3 = some (0, 2) ∧ sbRefresh (mq {} []) 3 = none) := by decide +kernel

/-- A bank whose count has reached the limit asks for refresh management. -/
theorem witness_MemPortServiceForms_rfm :
    (⟨[(0, Config.raammt 3 + 1)]⟩ : SMap Nat).keys.find? (fun b => Config.raammt 3 + 1 ≤ (⟨[(0, Config.raammt 3 + 1)]⟩ : SMap Nat).get b) = some 0 := by
  simp [SMap.keys, SMap.get, SMap.getL]

theorem witness_MemPortServiceForms_return :
    (((mq { rq := [rq 2 0 true] } []).mp.get 3).rq.find? (fun r => r.issued && r.kind != 2) = some (rq 2 0 true) ∧
      ((mq {} []).mp.get 3).rq.find? (fun r => r.issued && r.kind != 2) = none) ∧
    (rq 2 1 true { blk := 2, data := [], cls := 1, dev := 19 }).snaps = [{ blk := 2, data := [], cls := 1, dev := 19 }] ∧
    (rq 2 0 true { blk := 2, data := [], cls := 2, psn := true }).snaps = [{ blk := 2, data := [], cls := 2, psn := true }] ∧
    (rq 2 0 true { blk := 2, data := [], cls := 3, psn := true }).snaps = [{ blk := 2, data := [], cls := 3, psn := true }] ∧
    (rq 2 0).pkt.addr % 64 + (rq 2 0).pkt.len < 64 ∧ 2 < 2 ^ F.MP_CELOG_ADDR.w ∧ (mq {} []).bit F.MP_CELOG_VALID 3 15 = false ∧
    (mq {} []).bit F.MP_UE_LOG_VALID 3 = false := by decide +kernel

/-- Every entry of the corrected-error list of port 3 is taken, none by block 2. -/
theorem witness_MemPortServiceForms_full_list :
    (List.range 16).all (fun e => (fs ((List.range 16).flatMap (fun e => [(F.MP_CELOG_VALID, 3, e, 1), (F.MP_CELOG_ADDR, 3, e, 100 + e)])) State.reset).bit F.MP_CELOG_VALID 3 e &&
      (fs ((List.range 16).flatMap (fun e => [(F.MP_CELOG_VALID, 3, e, 1), (F.MP_CELOG_ADDR, 3, e, 100 + e)])) State.reset).fld F.MP_CELOG_ADDR 3 e != 2) = true := by
  decide +kernel

theorem witness_MemPortServiceForms_patrol :
    (mq {} [(F.MP_ECC_PATROL_INT, 3, 0, 5)]).fld F.MP_ECC_PATROL_INT 3 = 5 ∧ ((mq {} []).mp.get 3).rq.length < 64 ∧
    (mq {} [(F.MP_ECC_PATROL_INT, 3, 0, 0)]).fld F.MP_ECC_PATROL_INT 3 = 0 ∧ remapOf (mq {} []) 3 1 = none := by decide +kernel

/-- Port 3 in state `st` at training step `step`. -/
def tp (st step : Nat) (m : MPort := {}) : State := mq m [(F.MP_STATUS_STATE, 3, 0, st), (F.MP_STATUS_STEP, 3, 0, step)]

theorem witness_MemPortStateForms_train :
    ((tp 2 0).fld F.MP_STATUS_STATE 3 = 2 ∧ (tp 0 0).fld F.MP_STATUS_STATE 3 = 0 ∧ (tp 4 0).fld F.MP_STATUS_STATE 3 = 4 ∧
      (tp 0 0).fld F.DOM_STATUS_STATE 0 4 = 0 ∧ State.reset.fld F.DOM_STATUS_STATE 0 4 ≠ 0 ∧ State.reset.fld F.MP_STATUS_STATE 3 = 0) ∧
    (memRuns (tp 1 1) = true ∧ (tp 1 1).fld F.MP_STATUS_STATE 3 = 1 ∧ (tp 1 1).fld F.MP_STATUS_STEP 3 = 1 ∧ (tp 1 9).fld F.MP_STATUS_STEP 3 = 9 ∧
      (tp 1 8 { zfill := true }).fld F.MP_STATUS_STEP 3 = 8 ∧ ((tp 1 8 { zfill := true }).mp.get 3).zfill = true ∧ ((tp 1 8).mp.get 3).zfill = false ∧
      ∀ r ∈ ((tp 1 8).mp.get 3).rq, r.kind ≠ 2) ∧
    (rgValid (mq {} rgn) 9 = true ∧ (mq {} rgn).fld F.MPR_CTL_PORT 0 9 = 3) := by decide +kernel

theorem witness_MemPortStateForms_refresh :
    (memRuns (tp 5 0 { flushed := true }) = true ∧ (tp 5 0 { flushed := true }).fld F.MP_STATUS_STATE 3 = 5 ∧ ((tp 5 0 { flushed := true }).mp.get 3).flushed = true ∧
      ((tp 5 0 { flushed := true, wq := [we fullMask] }).mp.get 3).wq = [we fullMask] ∧ ((tp 5 0).mp.get 3).rq = [] ∧ ((tp 5 0).mp.get 3).flushed = false) ∧
    ((tp 3 0).fld F.MP_STATUS_STATE 3 = 3 ∧ rateKept (fs [(F.DOM_STATUS_CUR_SRC, 0, 4, 0)] (tp 3 0 { rate := (2000000, 1) })) 3 = true ∧
      ((tp 3 0).mp.get 3).exiting = false ∧ ((tp 3 0 { exiting := true }).mp.get 3).exiting = true ∧ rateKept (tp 3 0) 3 = false) := by decide +kernel

/-- Port 3 with remap entry 7 at the last block of 2^37 bytes, VALID and BUSY as given. -/
def rm (v y blk : Nat) (m : MPort := {}) : State := mq m [(F.MP_REMAP_ADDR, 3, 7, blk), (F.MP_REMAP_VALID, 3, 7, v), (F.MP_REMAP_BUSY, 3, 7, y)]

theorem witness_MemPortStateForms_remap :
    ((rm 0 0 (2 ^ 31 - 1)).fld F.MP_REMAP_ADDR 3 7 = 2 ^ 31 - 1 ∧ (rm 0 0 0).bit F.MP_REMAP_VALID 3 7 = false ∧ (rm 0 0 0).bit F.MP_REMAP_BUSY 3 7 = false ∧
      (rm 0 0 0).fld F.MP_GEOM_CAP_LOG2 3 = 37 ∧ 64 * (2 ^ 31 - 1) < 2 ^ 37 ∧ remapOf (rm 0 0 (2 ^ 31 - 1)) 3 (2 ^ 31 - 1) = none ∧ ¬(64 * 2 ^ 31 < 2 ^ 37)) ∧
    (((rm 0 0 0 { wq := [we 1] }).mp.get 3).wq.find? (fun x => x.blk == 0) = some (we 1) ∧ (we 1).psn = false ∧ bitOf (we 1).mask 0 = true ∧
      ((rm 0 0 0).mp.get 3).wq = []) ∧
    (memRuns (rm 0 1 0) = true ∧ (rm 0 1 0).fld F.MP_STATUS_STATE 3 = 2 ∧ (rm 0 1 0).bit F.MP_REMAP_BUSY 3 7 = true ∧ ((rm 0 1 0 { rq := [{ rq 0 2 with e := 7 }] }).mp.get 3).rq.find? (fun r => r.kind == 2 && r.e == 7) =
        some { rq 0 2 with e := 7 } ∧ (rq 0 2).pkt.mask = 0 ∧ ((rm 0 1 0).mp.get 3).rq.find? (fun r => r.kind == 2 && r.e == 7) = none ∧
      (rm 1 0 0).bit F.MP_REMAP_VALID 3 7 = true) := by decide +kernel

/-- Region 9 of port 3 as `rgn` gives it, with the fields `l` changed and the hidden state `g`; the port holds `m` and its metadata cache `c`. -/
def rs (l : List (Field × Nat × Nat × Nat)) (g : MRegion := {}) (m : MPort := {}) (c : List MEnt := []) : State :=
  { mq m (rgn ++ l) with mpr := ⟨[(9, g)]⟩, mcache := ⟨[(3, c)]⟩ }
/-- The region's fields before it is enabled. -/
def off9 : List (Field × Nat × Nat × Nat) := [(F.MPR_CTL_VALID, 0, 9, 0), (F.MPR_CTL_STATE, 0, 9, 0)]
/-- Rotation of region 9 from slot 1 to slot 2 stands at leaf `w`. -/
def rot9 (w : Nat) : List (Field × Nat × Nat × Nat) :=
  [(F.MPR_CTL_STATE, 0, 9, 2), (F.MPR_CTL_SLOT_NEW, 0, 9, 2), (F.MPE_KEY_LOADED, 0, 0, 3), (F.MPR_ROT_WMARK, 0, 9, w)]

theorem witness_ProtectRegionForms_enable :
    mprRefusal (rs off9) 9 = 0 ∧ rgValid (rs off9) 9 = false ∧ rgValid (rs []) 9 = true ∧ mprRefusal (rs ((F.MPR_CTL_LOG2SIZE, 0, 9, 20) :: off9)) 9 = 1 ∧
    bitOf (2 ^ 63) 61 = false ∧ bitOf (2 ^ 63) 62 = false ∧ ((rs []).mp.get 3).pipe = [] := by decide +kernel

theorem witness_ProtectRegionForms_rotate :
    rgValid (rs []) 9 = bitOf (2 ^ 63 + 2 ^ 62 + 2 * 2 ^ 48) 63 ∧
    rotRefusal (rs [(F.MPR_CTL_SLOT_NEW, 0, 9, 2), (F.MPE_KEY_LOADED, 0, 0, 3)]) 9 = 0 ∧ rotRefusal (rs []) 9 ≠ 0 ∧
    (rgState (rs [(F.MPR_CTL_STATE, 0, 9, 3)]) 9 = 3 ∧ ((rs []).mpr.get 9).ctrMax = false ∧ ((rs [] { ctrMax := true }).mpr.get 9).ctrMax = true) := by
  decide +kernel

/-- Every metadata entry that leaf `0` of region 9 needs, with the leaf's bytes `d` and tag line `t`. -/
def path9 (d t : List Byte) : List MEnt :=
  { r := 9, lvl := 99, idx := 0, data := t } :: (List.range 5).map (fun k => { r := 9, lvl := k, idx := 0, data := if k = 0 then d else List.replicate 64 0 })
/-- A leaf whose minor counter 0 is 1. -/
def leaf1 : List Byte := mkLeaf 0 [1] false

theorem witness_ProtectRegionForms_sweep :
    (rgState (rs (rot9 0)) 9 = 2 ∧ (rs (rot9 0)).fld F.MP_STATUS_STATE 3 = 2 ∧ memRuns (rs (rot9 0)) = true ∧ rgCount (rs (rot9 0)) 9 0 = 512 ∧
      (rs (rot9 0)).fld F.MPR_ROT_WMARK 0 9 = 0 ∧ (rs (rot9 512)).fld F.MPR_ROT_WMARK 0 9 = 512) ∧
    (mcFind (rs (rot9 0)) 3 9 (rgTop (rs (rot9 0)) 9) 0 = none ∧ ((rs (rot9 0)).mpr.get 9).roots.get 0 = 0 ∧ rgTop (rs (rot9 0)) 9 = 2) ∧
    ((List.range 3).all (fun k => (mcFind (rs (rot9 0) {} {} (path9 (List.replicate 64 0) [])) 3 9 k (0 / 8 ^ k)).isSome) = true ∧
      leafEmpty (leafOf (rs (rot9 0) {} {} (path9 (List.replicate 64 0) [])) 3 9 0) = true) ∧
    (leafEmpty (leafOf (rs (rot9 0) {} {} (path9 leaf1 [])) 3 9 0) = false ∧ leafEpoch leaf1 ≠ newEpoch (rs (rot9 0)) 9) := by decide +kernel

/-- The write queue holds the poisoned block at byte `a` of the port. -/
def pw (a : Nat) : List WEntry := [{ blk := a / 64, data := List.replicate 64 0, mask := fullMask, psn := true }]

theorem witness_ProtectRegionForms_reencrypt :
    (reencrypt 3 9 0 none (rs (rot9 0) {} { wq := pw (2 ^ 21) } (path9 leaf1 (List.replicate 64 0)))).1 = 0 ∧
    (reencrypt 3 9 0 none (rs (rot9 0) {} { wq := pw (2 ^ 22) } ((path9 leaf1 []).drop 1))).1 = 3 ∧
    rgMeta (rs []) 9 = 2 ^ 22 ∧ rgBase (rs []) 9 = 2 ^ 21 ∧
    (List.range 3).all (fun k => (mcFind (rs (rot9 0) {} {} ((path9 leaf1 []).drop 1)) 3 9 k 0).isSome) = true := by decide +kernel

/-- Region 9 with a request in the pipe of port 3, leaf bytes `d` and a queued block of the region. -/
def pp (p : Packet) (d : List Byte) (l : List (Field × Nat × Nat × Nat) := []) : State :=
  rs l {} { pipe := [{ seq := 1, act := 0, pkt := p }], wq := [{ blk := 2 ^ 21 / 64, data := List.replicate 64 0, mask := fullMask }] } (path9 d (List.replicate 64 0))

theorem witness_ProtectPipeForms_serve :
    (memRuns (pp (pq 1 (2 ^ 21) 0) leaf1) = true ∧ ((pp (pq 1 (2 ^ 21) 0) leaf1).mp.get 3).pipe = [{ seq := 1, act := 0, pkt := pq 1 (2 ^ 21) 0 }] ∧ ((rs []).mp.get 3).pipe = []) ∧
    (rgAt (rs []) 3 (2 ^ 21 - 1) = none ∧ rgAt (rs []) 3 (2 ^ 21) = some 9 ∧ rgAt (rs []) 3 (2 ^ 22 - 1) = some 9 ∧ rgAt (rs []) 3 (2 ^ 22) = none ∧
      3 ≤ rgState (rs [(F.MPR_CTL_STATE, 0, 9, 3)]) 9 ∧ rgState (rs []) 9 < 3) ∧
    ((List.range 3).all (fun k => (mcFind (pp (pq 1 (2 ^ 21) 0) leaf1) 3 9 k 0).isSome) = true ∧
      leafMinor (leafOf (pp (pq 1 (2 ^ 21) 0) leaf1) 3 9 0) 0 = 1 ∧ leafMinor (leafOf (pp (pq 1 (2 ^ 21) 0) leaf1) 3 9 0) 1 = 0 ∧
      (mcFind (pp (pq 1 (2 ^ 21) 0) leaf1) 3 9 lvlTag 0).isSome = true) ∧
    (remapOf (pp (pq 1 (2 ^ 21) 0) leaf1) 3 (2 ^ 21 / 64) = none ∧
      ((pp (pq 1 (2 ^ 21) 0) leaf1).mp.get 3).wq.find? (fun x => x.blk == 2 ^ 21 / 64) = some { blk := 2 ^ 21 / 64, data := List.replicate 64 0, mask := fullMask } ∧
      ∀ x ∈ ((pp (pq 1 (2 ^ 21) 0) leaf1).mp.get 3).wq, x.clean ≤ fullMask) ∧
    ((pq 2 (2 ^ 21) 63 (List.replicate 64 1)).data.length = 64 ∧ bitOf (pq 2 (2 ^ 21) 63).pmask 0 = false ∧ opWRITE = 2 ∧ opREAD = 1) := by decide +kernel

/-- A write queue that is full, with no entry of region 9. -/
def fullq : List WEntry := (List.range 64).map (fun j => { blk := 2 ^ 20 + j, data := List.replicate 64 0, mask := fullMask })
theorem witness_ProtectPipeForms_full :
    64 ≤ ((rs [] {} { pipe := [{ seq := 1, act := 0, pkt := pq 2 (2 ^ 21) 63 (List.replicate 64 1) }], wq := fullq }).mp.get 3).wq.length ∧
    fullq.any (fun x => x.blk == 2 ^ 21 / 64) = false ∧ (fullq.head?.map WEntry.blk) = some (2 ^ 20) ∧ (∀ x ∈ fullq, x.clean ≤ fullMask) ∧
    ((rs []).mp.get 3).wq.length < 64 := by decide +kernel

/-- A full queue writes its oldest entry out before it takes another (R446). -/
theorem test_full_queue_drains :
    (((mpEnqueue 3 5 [] 1 false (rs [] {} { wq := fullq })).mp.get 3).wq.length, ((mpEnqueue 3 5 [] 1 false (rs [] {} { wq := fullq })).mp.get 3).wq.any (fun x => x.blk == 2 ^ 20)) =
      (63, false) := by decide +kernel

/-- A port that flushes its pipe, its metadata cache `c`. -/
def pf (c : List MEnt) : State := rs [(F.MP_STATUS_STATE, 3, 0, 5)] {} {} c
theorem witness_ProtectPipeForms_flush :
    memRuns (pf []) = true ∧ (pf []).fld F.MP_STATUS_STATE 3 = 5 ∧ ((pf []).mp.get 3).pipe = [] ∧ (pf []).mcache.get 3 = [] ∧
    (pf [{ r := 9, lvl := lvlTag, idx := 0, data := [], dirty := true }]).mcache.get 3 = [{ r := 9, lvl := lvlTag, idx := 0, data := [], dirty := true }] ∧
    remapOf (pf []) 3 (rgEntOff (pf []) 9 lvlTag 0 / 64) = none := by decide +kernel

/-- Lane `l`, enabled in a quad of owner `o`, is in state `st`; the fields `f` are set and the lane holds `k`. -/
def ln (l o st : Nat) (f : List (Field × Nat × Nat × Nat) := []) (k : Lane := {}) : State :=
  { fs ([(F.QUAD_CFG_OWNER, l / 4, 0, o), (F.LANE_CTL_EN, l, 0, 1), (F.LANE_STATUS_STATE, l, 0, st), (F.QREF_GOOD_GOOD, 0, 0, 2 ^ 48 - 1)] ++ f) State.reset with
    lanes := ⟨[(l, k)]⟩ }
/-- Lanes 188 and 191 make a bonded group. -/
def bonded (st : Nat) : State :=
  ln 191 1 st [(F.LANE_CTL_EN, 188, 0, 1), (F.LANE_STATUS_STATE, 188, 0, st), (F.LANE_BOND_GROUP, 188, 0, 5), (F.LANE_BOND_GROUP, 191, 0, 5),
    (F.LANE_BOND_AM_EN, 188, 0, 1), (F.LANE_BOND_AM_EN, 191, 0, 1), (F.LANE_BOND_POS, 191, 0, 1), (F.LANE_STATUS_AM_LOCK, 188, 0, 1)]

theorem witness_LaneControlForms_owner :
    (quadOwner State.reset 3 = 2 ∧ quadBad State.reset 3 = false ∧ (∀ m ∈ quadLanes 3, State.reset.bit F.LANE_CTL_EN m = false ∧ laneSt State.reset m = 0)) ∧
    (ln 12 0 0).bit F.LANE_CTL_EN 12 = true ∧ quadOwner (ln 12 1 0) 3 = 1 ∧ ¬(16 / 4 < 4) := by decide +kernel

theorem witness_LaneControlForms_write :
    (bitOf 1 63 = false ∧ (ln 191 1 0).bit F.LANE_CTL_EN 191 = true ∧ State.reset.bit F.LANE_CTL_EN 191 = false ∧ bitsOf 1 2 1 = 0 ∧
      (ln 191 1 0 [(F.QUAD_CFG_RATE, 47, 0, 10)]).fld F.QUAD_CFG_RATE 47 = 10 ∧ (ln 191 1 0 [(F.QUAD_CFG_RATE, 47, 0, 5)]).fld F.QUAD_CFG_RATE 47 = 5) ∧
    (quadOwner State.reset 47 ≠ 1 ∧ quadOwner (ln 191 1 0) 47 = 1 ∧ stepQuad (ln 191 1 0) 47 = false ∧ stepQuad (ln 191 1 0 [(F.QUAD_CFG_BRINGUP, 47, 0, 1)]) 47 = true) ∧
    ((ln 191 1 0 [(F.LANE_BOND_GROUP, 191, 0, 7)]).fld F.LANE_BOND_GROUP 191 = 7 ∧ (groupNames (ln 191 1 0 [(F.LANE_BOND_GROUP, 191, 0, 7)]) 191).length < 2) ∧
    (7 ≤ laneSt (ln 191 1 7) 191 ∧ laneSt (ln 191 1 6) 191 < 7 ∧ (ln 191 1 7 [(F.LANE_STATUS_BURST, 191, 0, 1)]).bit F.LANE_STATUS_BURST 191 = true) := by
  decide +kernel

theorem witness_LaneControlForms_bringup :
    ((∀ st ∈ [1, 2, 3, 4, 5, 6, 9], laneSt (ln 191 1 st) 191 = st ∧ laneOn (ln 191 1 st) 191 = true ∧ quadDead (ln 191 1 st) 47 = false) ∧
      laneOn State.reset 191 = false) ∧
    (bitOf ((ln 191 1 1).fld F.QREF_GOOD_GOOD) (quadRef (ln 191 1 1) 47) = true ∧
      bitOf ((ln 191 1 1 [(F.QREF_GOOD_GOOD, 0, 0, 0)]).fld F.QREF_GOOD_GOOD) (quadRef (ln 191 1 1) 47) = false) ∧
    (remaining (ln 191 1 4 [] { trained := true }) 47 = [191] ∧ remaining (ln 191 1 4) 47 ≠ [] ∧ ((ln 191 1 4).lanes.get 191).trained = false ∧
      ownMask (ln 191 1 4) 47 &&& 0 = 0 ∧ ownMask (ln 191 1 4) 47 &&& 1 ≠ 0) ∧
    (groupFormed (ln 191 1 6) 191 = false ∧ groupFormed (bonded 6) 191 = true ∧ groupNames (bonded 6) 191 = [188, 191] ∧ laneSt (bonded 6) 188 = 6 ∧
      (bonded 6).bit F.LANE_STATUS_AM_LOCK 188 = true ∧ laneSt (fs [(F.LANE_STATUS_STATE, 188, 0, 5)] (bonded 6)) 188 ≠ 6 ∧
      groupFormed (fs [(F.LANE_STATUS_STATE, 188, 0, 5)] (bonded 6)) 191 = true) ∧
    (quadOwner (ln 191 3 6) 47 = 3 ∧ portOfQuad (ln 191 3 6) 47 = none ∧ groupFormed (ln 191 3 6) 191 = false ∧
      laneOn (ln 191 3 6 [(F.WARP_CFG_EN, 11, 0, 1), (F.WARP_CFG_QUAD, 11, 0, 47)]) 191 = true) ∧
    ((ln 191 1 9 [(F.LANE_STATUS_LOS, 191, 0, 1)]).bit F.LANE_STATUS_LOS 191 = true ∧ (ln 191 1 9).bit F.LANE_STATUS_LOS 191 = false) := by
  decide +kernel

theorem witness_LaneControlForms_loss :
    (¬(stepQuad (ln 191 1 3) 47 = true ∧ ((ln 191 1 3).lanes.get 188).atRate = true) ∧
      stepQuad (ln 188 1 3 [(F.QUAD_CFG_BRINGUP, 47, 0, 1)] { atRate := true }) 47 = true ∧ ((ln 188 1 3 [] { atRate := true }).lanes.get 188).atRate = true ∧
      remaining (ln 188 1 3 [(F.QUAD_CFG_BRINGUP, 47, 0, 1)] { atRate := true }) 47 = [188]) ∧
    ((ln 191 1 7 [(F.LANE_TO_LOS_TO, 191, 0, 3)]).fld F.LANE_TO_LOS_TO 191 ≠ 0 ∧ (ln 191 1 7 [(F.LANE_TO_LOS_TO, 191, 0, 0)]).fld F.LANE_TO_LOS_TO 191 = 0 ∧
      groupFormed (ln 191 1 7) 191 = false ∧ laneGroup (bonded 7) 191 = [188, 191] ∧ laneSt (bonded 7) 188 = 7) ∧
    (laneSt (ln 191 1 8 [] { timer := true }) 191 = 8 ∧ ((ln 191 1 8 [] { timer := true }).lanes.get 191).timer = true ∧
      ((ln 191 1 8).lanes.get 191).timer = false) := by decide +kernel

/-- The training word of lane 191 with its acknowledgement bit set. -/
def tw : Nat := trainWord (ln 191 1 4 [] { trSame := 8 }) 191
theorem witness_LaneControlForms_training :
    (bitsOf tw 0 16 = 0xB5C3 ∧ bitsOf tw 16 4 = 1 ∧ bitsOf tw 56 8 = trainCrc tw ∧ bitOf tw 24 = true ∧ bitsOf 0 0 16 ≠ 0xB5C3) ∧
    (8 ≤ ((ln 191 1 4 [] { trAckTx := 8, trAckRx := 7 }).lanes.get 191).trAckTx ∧ ((ln 191 1 4 [] { trAckTx := 8, trAckRx := 7 }).lanes.get 191).trAckRx = 7 ∧
      ((ln 191 1 4).lanes.get 191).trAckTx < 8) ∧
    (188 ∈ remaining (fs [(F.LANE_STATUS_STATE, 188, 0, 3)] (bonded 4)) (191 / 4) ∧ laneSt (fs [(F.LANE_STATUS_STATE, 188, 0, 3)] (bonded 4)) 188 ≠ 4) := by
  decide +kernel

theorem witness_LaneControlForms_quad :
    (stepQuad (ln 191 1 4 [(F.QUAD_CFG_BRINGUP, 47, 0, 1)]) 47 = true ∧ remaining (ln 191 1 4 [(F.QUAD_CFG_BRINGUP, 47, 0, 1)]) 47 = [191] ∧
      quadOwner (ln 191 1 4 [(F.QUAD_CFG_BRINGUP, 47, 0, 1)]) 47 = 1 ∧ remaining State.reset 47 = []) ∧
    remaining (ln 191 1 1) 47 = [191] := by decide +kernel

/-- Lane `l` so, its bay's outputs released. -/
def lx (l st : Nat) (f : List (Field × Nat × Nat × Nat) := []) (k : Lane := {}) : State := ln l 1 st ((F.BAY_STATUS_OUT_HELD, laneBay l, 0, 0) :: f) k
/-- A word that is an alignment marker. -/
def mkw : Nat := 0xA3C596F05C3A690F * (1 + 2 ^ 128) + (2 ^ 64 - 1) * 2 ^ 192

theorem witness_LaneDataForms_receive :
    (laneOn (lx 191 7) 191 = true ∧ (lx 191 7).fld F.LANE_CTL_LPBK 191 = 0 ∧ (lx 191 7 [(F.LANE_CTL_LPBK, 191, 0, 2)]).fld F.LANE_CTL_LPBK 191 = 2 ∧
      laneSt (lx 191 6) 191 ≠ 7 ∧ quadOwner (lx 191 7) (191 / 4) = 1) ∧
    (amOn (lx 191 7 [(F.LANE_BOND_AM_EN, 191, 0, 1)]) 191 = true ∧ amOn (lx 191 7) 191 = false ∧ isMarkerWord mkw = true ∧ isMarkerWord 0 = false ∧
      mkw < 2 ^ 256 ∧ 1023 + 1 = amPeriod (lx 191 7) 191 ∧ ((lx 191 7 [] { amSeen := true, amRx := 1023, amMiss := 3 }).lanes.get 191).amMiss = 3) ∧
    ((lx 191 7).bit F.LANE_CTL_MODE 191 = false ∧ ((lx 191 7).lanes.get 191).rxq.length < 16 ∧
      16 ≤ ((lx 191 7 [] { rxq := List.replicate 16 (0, 0, 1) }).lanes.get 191).rxq.length) ∧
    ((lx 191 7 [(F.LANE_CTL_MODE, 191, 0, 1)]).bit F.LANE_CTL_MODE 191 = true ∧ ((lx 191 7).lanes.get 191).segs = [] ∧
      (0 + 4096) % strmSize (lx 191 7) 191 = (lx 191 7).fld F.STRM_RP_RP 191 * 4096 % strmSize (lx 191 7) 191 ∧
      (lx 191 7 [(F.STRM_CFG_WRAP, 191, 0, 1)]).bit F.STRM_CFG_WRAP 191 = true ∧ (lx 191 7).bit F.STRM_CFG_WRAP 191 = false) ∧
    (laneOn (ln 191 1 0 [(F.LANE_CTL_EN, 191, 0, 0)]) 191 = false ∧ quadBad (lx 191 7) 47 = false ∧ bitOf 1 0 = true ∧ bitOf 16 0 = false ∧
      ((lx 191 0 [] { rxq := [(5, 6, 1)] }).lanes.get 191).rxq = [(5, 6, 1)]) := by decide +kernel

/-- The bay of lane 191 so, its clocks running, in a quad of owner `o`, with `a` in the attach port and `k` in the lane. -/
def att (o : Nat) (a : LaneAtt) (k : Lane := {}) : State :=
  { bays [(F.QUAD_CFG_OWNER, 47, 0, o)] with laneAtt := ⟨[(191, a)]⟩, lanes := ⟨[(191, k)]⟩ }

theorem witness_LaneDataForms_attach :
    laneBay 191 = 767 ∧ (bayClk (att 1 {}) 767 7 = true ∧ edgeOwed (att 1 {}) 767 7 = false ∧ attachOn (att 1 {}) 47 = true) ∧
    (bayClk (att 2 {}) 767 7 = true ∧ edgeOwed (att 2 {}) 767 7 = false ∧ attachOn (att 2 {}) 47 = false) ∧
    ((att 1 { rxf := 1 }).laneAtt.get 191 = { rxf := 1 } ∧ bitOf 1 0 = true ∧ bitOf (linesOf (att 1 {}) 767 []) 265 = false ∧ bitOf (2 ^ 265) 265 = true) ∧
    (((att 1 {} { rxq := [(5, 6, 1)] }).lanes.get 191).rxq = [(5, 6, 1)] ∧ ((att 1 {}).lanes.get 191).rxq = [] ∧
      ((att 1 { txv := true, tx := 9 }).laneAtt.get 191).txv = true) := by decide +kernel

theorem witness_LaneDataForms_transmit :
    (quadOwner State.reset 3 = 2 ∧ quadOwner (lx 191 7) 47 < 2 ∧ laneSafe (lx 191 7) 191 = false ∧ laneSafe (ln 191 1 7) 191 = true) ∧
    (laneSt (lx 191 4) 191 = 4 ∧ ((lx 191 4).lanes.get 191).trAckRx < 8 ∧ laneSafe (lx 191 4) 191 = false) ∧
    ((lx 191 7 [(F.LANE_CTL_LPBK, 191, 0, 3)] { far := some 9 }).fld F.LANE_CTL_LPBK 191 = 3 ∧ ((lx 191 7 [] { far := some 9 }).lanes.get 191).far = some 9 ∧
      ((lx 191 7).lanes.get 191).far = none ∧ laneSafe (lx 191 7 [(F.LANE_CTL_LPBK, 191, 0, 3)]) 191 = false) ∧
    (amOn (lx 191 7 [(F.LANE_BOND_AM_EN, 191, 0, 1)] { amTx := 1023 }) 191 = true ∧ 1023 + 1 = amPeriod (lx 191 7 [(F.LANE_BOND_AM_EN, 191, 0, 1)]) 191 ∧
      laneSafe (lx 191 7 [(F.LANE_BOND_AM_EN, 191, 0, 1)]) 191 = false) ∧
    ((lx 191 7).fld F.LANE_CTL_TX_SRC 191 = 0 ∧ (lx 191 7 [(F.LANE_CTL_TX_SRC, 191, 0, 1)]).fld F.LANE_CTL_TX_SRC 191 = 1 ∧
      (lx 191 7 [(F.LANE_CTL_TX_SRC, 191, 0, 3)]).fld F.LANE_CTL_TX_SRC 191 = 3 ∧ ((lx 191 7).lanes.get 191).txq = [] ∧
      ((lx 191 7 [] { txq := [(1, 2)] }).lanes.get 191).txq = [(1, 2)] ∧ laneSafe (lx 191 7 [(F.LANE_CTL_TX_SRC, 191, 0, 1)]) 191 = false) ∧
    (txsWords (lx 191 7 [(F.LANE_CTL_TX_SRC, 191, 0, 2), (F.TXS_CTL_LEN, 191, 0, 1)]) 191 = 2 ∧
      ({ txSend := 1, txBuf := [(1, some 9)] } : Lane).txBuf.find? (fun e => e.1 == 1) = some (1, some 9) ∧ 1 + 1 = 2 ∧
      (lx 191 7).bit F.TXS_CTL_LOOP 191 = false) ∧
    ((lx 191 7 [(F.LANE_CTL_LPBK, 191, 0, 1), (F.LANE_CTL_TX_SRC, 191, 0, 3)]).fld F.LANE_CTL_LPBK 191 = 1 ∧
      laneSafe (lx 191 7 [(F.LANE_CTL_LPBK, 191, 0, 1), (F.LANE_CTL_TX_SRC, 191, 0, 3)]) 191 = false) := by decide +kernel

theorem witness_LaneDataForms_segments :
    (((lx 191 7 [] { segs := [{ id := 1, off := 0, closed := true }] }).lanes.get 191).segs = [{ id := 1, off := 0, closed := true }] ∧
      ((lx 191 7 [] { segs := [{ id := 1, off := 0, closed := true, hdr := 2 }] }).lanes.get 191).segs = [{ id := 1, off := 0, closed := true, hdr := 2 }] ∧
      ((lx 191 7).lanes.get 191).segs = []) ∧
    (let s := lx 191 7 [(F.LANE_CTL_TX_SRC, 191, 0, 2), (F.TXS_CTL_LEN, 191, 0, 16)] { txRead := 30 }
     quadOwner s 47 = 1 ∧ s.bit F.LANE_CTL_EN 191 = true ∧ s.fld F.LANE_CTL_TX_SRC 191 = 2 ∧ txsWords s 191 = 32 ∧ (s.lanes.get 191).txRead - (s.lanes.get 191).txSend < 32) ∧
    txsWords (lx 191 7) 191 = 0 := by decide +kernel

/-- The PCIe link is up and the device is started; the fields `f` are set and the endpoint holds `c`. -/
def pl (f : List (Field × Nat × Nat × Nat) := []) (c : PcieSt := {}) : State :=
  { fs ((F.PCIE_LINK_LINKUP, 0, 0, 1) :: f) State.reset with startup := false, pcie := c }
/-- An aperture whose page is the register space. -/
def csrApt : List (Field × Nat × Nat × Nat) := [(F.APT_BASE_BASE, 0, 63, 0x8_00F0_0000_0000 / 2 ^ 30)]

theorem witness_PcieForms_link :
    linkUp State.reset = false ∧ bitOf ((fs [(F.QREF_GOOD_GOOD, 0, 0, 1)] State.reset).fld F.QREF_GOOD_GOOD) 0 = true ∧ (State.reset.lanes.get 0).pllLost = false ∧
    State.reset.laneRail = false ∧ State.reset.dev ≠ .deepSleep ∧ State.reset.dev ≠ .off ∧ 16 ∈ [1, 2, 4, 8, 16] := by decide +kernel

theorem witness_PcieForms_bar :
    (linkUp (pl []) = true ∧ (pl []).pcie.bar = [] ∧ barServed (pl []) = true ∧ barServed (pl [(F.PCIE_STATUS_DSTATE, 0, 0, 3)]) = false ∧
      ((pl [] { bar := [{ tag := 5 }] }).pcie.bar).any (fun x => x.tag == 5) = true) ∧
    ((barTarget (pl []) 2 255).isSome = true ∧ 255 % 256 + 1 ≤ 256 ∧ barTarget (pl []) 2 (63 * 2 ^ 30) = none ∧
      (barTarget (pl []) 0 0).isSome = true) ∧
    ((pl []).bit F.PCIE_WERR_VALID = false ∧ (pl [(F.PCIE_WERR_VALID, 0, 0, 1)]).bit F.PCIE_WERR_VALID = true) := by decide +kernel

theorem witness_PcieForms_aperture :
    targetOf ((fs csrApt State.reset).fld F.APT_BASE_BASE 0 63 * 2 ^ 30) = .csr ∧ targetOf (State.reset.fld F.APT_BASE_BASE 0 63 * 2 ^ 30) ≠ .csr := by decide +kernel

/-- A DMA descriptor that moves `len` bytes from (`dir` 0) or to the host, at device address 0x100. -/
def dsc (dir len : Nat) : List Byte := bytesLE 8 0x1000 ++ bytesLE 8 (2 ^ 61 + 0x100) ++ bytesLE 4 len ++ bytesLE 1 dir ++ bytesLE 1 1 ++ List.replicate 42 0
/-- Queue 63 is enabled, has one entry to fetch, and holds `ds`. -/
def dq (ds : List DmaDesc) (f : List (Field × Nat × Nat × Nat) := []) : State :=
  pl ([(F.Q_CFG_EN, 0, 63, 1), (F.SQ_TAIL_TAIL, 0, 63, 1)] ++ f) { dma := ⟨[(63, { descs := ds })]⟩ }

theorem witness_PcieForms_dma :
    (dmaServed (dq []) = true ∧ (dq []).bit F.Q_CFG_EN 0 63 = true ∧ (dq []).fld F.SQ_HEAD_HEAD 0 63 ≠ (dq []).fld F.SQ_TAIL_TAIL 0 63 ∧
      ((dq []).pcie.dma.get 63).descs = [] ∧ (dsc 0 4).length = 64 ∧ State.reset.bit F.Q_CFG_EN 0 63 = false) ∧
    (((dq [{ idx := 0, bytes := dsc 0 4, started := true }]).pcie.dma.get 63).descs = [{ idx := 0, bytes := dsc 0 4, started := true }] ∧
      (0 + 1) % ringLen ((dq []).fld F.Q_CFG_CQ_LOG2N 0 63) ≠ (dq []).fld F.CQ_HEAD_HEAD 0 63 ∧ bitOf (fieldLE (dsc 0 4) 21 1) 0 = true) ∧
    (badDesc (dsc 0 4) = false ∧ badDesc (dsc 2 4) = true ∧ badDesc (dsc 0 0) = true ∧ fieldLE (dsc 0 4) 20 1 = 0 ∧ fieldLE (dsc 1 256) 20 1 ≠ 0 ∧ badDesc (dsc 1 256) = false ∧
      (descDev (dq []) (dsc 1 256)).2 = 0x100 ∧ 0x100 % 256 + 256 ≤ 256) ∧
    (({ idx := 0, bytes := dsc 0 4, started := true, host := 4 } : DmaDesc).host ≠ 0) := by decide +kernel

/-- Interrupt source 0x061 waits for host vector 4095. -/
def ms (f : List (Field × Nat × Nat × Nat) := []) (c : PcieSt := {}) : State :=
  pl ([(F.IRQ_SRC_KIND, 0, 0x061, 3), (F.IRQ_SRC_INDEX, 0, 0x061, 2047), (F.IRQ_SRC_ENABLE, 0, 0x061, 1), (F.IRQ_SRC_PENDING, 0, 0x061, 1), (F.IRQ_SRC_PRIO, 0, 0x061, 1)] ++ f) c
/-- The same with MSI-X on and the vector's mask bit clear. -/
def mo (c : PcieSt := {}) : State := (ms [] { c with msixEn := true, bme := true }).wrBytes (aMsix (16 * 2047 + 12)) [1]

theorem witness_PcieForms_msix :
    (irqHostReady (ms []) 0x061 = true ∧ ((ms []).irqWin.get (irqTarget (ms []) 0x061)).st = 0 ∧ irqOpen (ms []) = true ∧ irqTarget (ms []) 0x061 % 4096 = 2047 ∧
      irqHostReady State.reset 0x061 = false) ∧
    (msixMasked (ms []) 2047 = true ∧ msixMasked (mo {}) 2047 = false) ∧
    ((mo { pba := ⟨[(2047, true)]⟩ }).pcie.pba.keys = [2047] ∧ linkUp (mo {}) = true ∧ (mo {}).pcie.pba.keys = []) := by decide +kernel

/-- Warp port 11 uses quad 47 and is in state `st`; the fields `f` are set and the port holds `w`. -/
def wl (st : Nat) (w : WPort := {}) (f : List (Field × Nat × Nat × Nat) := []) : State :=
  { fs ([(F.QUAD_CFG_OWNER, 47, 0, 3), (F.WARP_CFG_EN, 11, 0, 1), (F.WARP_CFG_QUAD, 11, 0, 47), (F.WARP_STATUS_STATE, 11, 0, st), (F.QREF_GOOD_GOOD, 0, 0, 2 ^ 48 - 1)] ++ f) State.reset with
    warp := ⟨[(11, w)]⟩ }

theorem witness_WarpLinkForms_enable :
    quadOwner (fs [(F.QUAD_CFG_OWNER, 47, 0, 3)] State.reset) 47 = 3 ∧ portOfQuad (fs [(F.QUAD_CFG_OWNER, 47, 0, 3)] State.reset) 47 = none ∧
    State.reset.bit F.WARP_CFG_EN 11 = false ∧ State.reset.fld F.WARP_STATUS_STATE 11 = 0 ∧ quadOwner State.reset 47 ≠ 3 ∧ bitsOf (47 * 2 ^ 8) 8 6 = 47 ∧
    (fs [(F.WARP_STATUS_STATE, 11, 0, 4)] State.reset).fld F.WARP_STATUS_STATE 11 ≠ 0 := by decide +kernel

/-- Lane 190 of the warp port's quad is in state `st` and holds `k`. -/
def wlane (st : Nat) (k : Lane := {}) : State := { wl 1 {} [(F.LANE_STATUS_STATE, 190, 0, st)] with lanes := ⟨[(190, k)]⟩ }
theorem witness_LaneDataForms_warp :
    (quadOwner (wlane 4) 47 = 3 ∧ laneOn (wlane 4) 190 = true ∧ quadSilent (wlane 4) 47 = false ∧ quadSilent (wl 1 {} [(F.QREF_GOOD_GOOD, 0, 0, 0)]) 47 = true) ∧
    (laneSt (wlane 4) 190 = 4 ∧ ((wlane 4).lanes.get 190).trAckRx < 8 ∧ laneSt (wlane 7) 190 = 7 ∧ laneSt (wlane 1) 190 ∈ [0, 1, 10]) ∧
    ((wlane 7 { amTx := 16383 }).lanes.get 190).amTx + 1 = 2 ^ 14 ∧ ((wlane 7).lanes.get 190).amTx + 1 ≠ 2 ^ 14 := by decide +kernel

/-- A lane of a warp port in TRAIN sends its training word: SYNC, VER 1, POS 2 (lane 190 is lane 2 of its quad), MASK 0xFFF (Table 17.3). -/
theorem test_warp_training_word :
    (match exec (.laneTxWord 47 2) (wlane 4) with
     | .next t => (match t.out with | [.laneWord 190 2 w] => bitsOf w 0 48 == 0xFFF_0021_B5C3 | _ => false)
     | _ => false) = true := by decide +kernel

/-- A flit that waits for acknowledgement, and a one-slot packet to send. -/
def uf (n : Nat) : SentFlit := { seq := n, kind := 1, body := [] }
theorem witness_WarpLinkForms_send :
    (warpSilent (wl 3) 11 = false ∧ warpSilent (wl 2) 11 = false ∧ warpSilent (wl 3 {} [(F.QREF_GOOD_GOOD, 0, 0, 0)]) 11 = true) ∧
    (((wl 3 { reedTx := [(5, 2, [])] }).warp.get 11).reedTx = [(5, 2, [])] ∧ ((wl 3 { ackOwed := true }).warp.get 11).ackOwed = true ∧
      ((wl 3).warp.get 11).reedTx = [] ∧ ((wl 3).warp.get 11).ackOwed = false) ∧
    (({ unacked := [uf 4, uf 5], replay := 1 } : WPort).unacked[2 - 1]? = some (uf 5) ∧ ((wl 3).warp.get 11).replay = 0 ∧
      64 ≤ ((wl 3 { unacked := (List.range 64).map uf }).warp.get 11).unacked.length ∧ ((wl 3).warp.get 11).unacked.length < 64) ∧
    (((wl 2 { disc := [[1]] }).warp.get 11).disc = [[1]] ∧ ((wl 3).warp.get 11).disc = [] ∧ ((wl 3).warp.get 11).half = none) := by decide +kernel

/-- A unit with credit, and one without. -/
theorem witness_WarpLinkForms_credit :
    (⟨[(2, 1)]⟩ : SMap Nat).get 2 ≠ 0 ∧ ({} : SMap Nat).get 2 = 0 := by decide +kernel

/-- The header of a flit: TYPE, SEQ, ACK, ACKV, RTRY and RSEQ. -/
def fh (kind seq ack : Nat) (v r : Nat) (rseq : Nat := 0) : Nat := kind + seq * 2 ^ 4 + ack * 2 ^ 16 + v * 2 ^ 28 + r * 2 ^ 29 + rseq * 2 ^ 48

set_option maxRecDepth 50000 in
/-- A flit of TYPE 0 that acknowledges 5 reads back. -/
theorem witness_WarpLinkForms_idle : (readFlit (mkFlit (fh 0 0 5 1 0) [])).2.map (fun d => fieldLE d 0 8) = some (fh 0 0 5 1 0) := by decide +kernel
set_option maxRecDepth 50000 in
/-- A flit of TYPE 0 that asks for a replay reads back. -/
theorem witness_WarpLinkForms_retry : (readFlit (mkFlit (fh 0 0 5 0 1) [])).2.map (fun d => fieldLE d 0 8) = some (fh 0 0 5 0 1) := by decide +kernel
set_option maxRecDepth 50000 in
/-- A flit of TYPE 3 reads back. -/
theorem witness_WarpLinkForms_reed : (readFlit (mkFlit (fh 3 0 0 0 0 9) [])).2.map (fun d => fieldLE d 0 8) = some (fh 3 0 0 0 0 9) := by decide +kernel
set_option maxRecDepth 50000 in
/-- A flit of TYPE 1 with SEQ 7 and no slots reads back. -/
theorem witness_WarpLinkForms_data :
    (readFlit (mkFlit (fh 1 7 0 0 0) [])).2.map (fun d => (fieldLE d 0 8, fieldLE d 8 8)) = some (fh 1 7 0 0 0, 0) := by decide +kernel
set_option maxRecDepth 50000 in
/-- A flit of a TYPE above 3 reads back. -/
theorem witness_WarpLinkForms_other : (readFlit (mkFlit (fh 4 0 0 0 0) [])).2.map (fun d => fieldLE d 0 8) = some (fh 4 0 0 0 0) := by decide +kernel
set_option maxRecDepth 50000 in
/-- Bytes of zeros are no flit: their check value is wrong. -/
theorem witness_WarpLinkForms_bad : (readFlit []).2 = none := by decide +kernel

theorem witness_WarpLinkForms_receive :
    (fh 0 0 5 1 0 % 16 = 0 ∧ bitOf (fh 0 0 5 1 0) 28 = true ∧ bitOf (fh 0 0 5 1 0) 29 = false ∧ bitsOf (fh 0 0 5 1 0) 16 12 = 5 ∧
      ({ unacked := [uf 4, uf 5] } : WPort).unacked.findIdx? (fun f => f.seq == 5) = some 1) ∧
    (fh 0 0 5 0 1 % 16 = 0 ∧ bitOf (fh 0 0 5 0 1) 28 = false ∧ bitOf (fh 0 0 5 0 1) 29 = true) ∧
    (({ replay := 1, replayAck := some 5 } : WPort).replay ≠ 0 ∧ ({ replays := 15 } : WPort).replays = 15 ∧ ({ replays := 14 } : WPort).replays < 15 ∧
      ({ unacked := [uf 4] } : WPort).unacked ≠ [] ∧ ({} : WPort).unacked = []) ∧
    (fh 3 0 0 0 0 9 % 16 = 3 ∧ bitsOf (fh 3 0 0 0 0 9) 48 16 = 9 ∧ bitOf (fh 3 0 0 0 0 9) 29 = false) ∧
    (fh 1 7 0 0 0 % 16 = 1 ∧ bitsOf (fh 1 7 0 0 0) 4 12 = 7 ∧ bitOf (fh 1 7 0 0 0) 28 = false ∧ bitOf (fh 1 7 0 0 0) 29 = false) ∧ 3 < fh 4 0 0 0 0 % 16 := by
  decide +kernel

theorem witness_WarpLinkForms_down :
    (wl 3).fld F.WARP_STATUS_STATE 11 = 3 ∧ (wl 4).fld F.WARP_STATUS_STATE 11 = 4 ∧ (wl 4).bit F.WARP_CFG_EN 11 = true ∧ quadOwner (wl 4) 47 = 3 ∧
    (wl 4).fld F.WARP_CFG_QUAD 11 = 47 ∧ (wl 4 {} [(F.WARP_CFG_EN, 11, 0, 0)]).bit F.WARP_CFG_EN 11 = false := by decide +kernel

/-- The body of a DISC flit of kind `k` from device `uid` with generation `gen`. -/
def db (k uid gen : Nat) : List Byte := bytesLE 1 k ++ bytesLE 1 3 ++ bytesLE 6 0 ++ bytesLE 8 uid ++ bytesLE 4 gen
/-- Discovery in state `st`, this device's UID the number `uid`, with the links `f`. -/
def dv (uid st : Nat) (d : Discovery := {}) (f : List (Field × Nat × Nat × Nat) := []) : State :=
  { wl 3 {} f with disco := d, regs := ⟨(fkey F.DEV_UID 0 0, F.DEV_UID.resetAt 0 0 ^^^ uid) :: (fs [(F.WARP_SYS_STATUS_STATE, 0, 0, st)] (wl 3 {} f)).regs.cells⟩ }
theorem dv_uid (uid st : Nat) (d : Discovery) (f : List (Field × Nat × Nat × Nat)) : (dv uid st d f).fld F.DEV_UID 0 0 = uid := by
  show (F.DEV_UID.resetAt 0 0 ^^^ uid) ^^^ F.DEV_UID.resetAt 0 0 = uid
  rw [Nat.xor_comm (F.DEV_UID.resetAt 0 0) uid, Nat.xor_assoc, Nat.xor_self, Nat.xor_zero]

theorem witness_DiscoveryForms_start :
    State.reset.fld F.WARP_SYS_STATUS_STATE = 0 ∧ (fs [(F.WARP_SYS_STATUS_STATE, 0, 0, 1)] State.reset).fld F.WARP_SYS_STATUS_STATE = 1 ∧
    (fs [(F.WARP_SYS_STATUS_STATE, 0, 0, 3)] State.reset).fld F.WARP_SYS_STATUS_STATE = 3 := by decide +kernel

set_option maxRecDepth 50000 in
/-- A HELLO and a record of device 5 read back. -/
theorem witness_DiscoveryForms_flits :
    (readFlit (mkFlit (fh 2 0 0 0 0) (db 1 5 0))).2.map (fun d => (fieldLE d 0 8, fieldLE d 8 1, (discRec (slice d 8 232)).uid)) = some (fh 2 0 0 0 0, 1, 5) ∧
    (readFlit (mkFlit (fh 2 0 0 0 0) (db 2 5 9))).2.map (fun d => (fieldLE d 8 1, (discRec (slice d 8 232)).uid, (discRec (slice d 8 232)).gen)) = some (2, 5, 9) ∧
    fh 2 0 0 0 0 % 16 = 2 ∧ bitsOf (fh 2 0 0 0 0) 4 12 = ((wl 2).warp.get 11).expect ∧ (wl 2).fld F.WARP_STATUS_STATE 11 = 2 := by decide +kernel

theorem witness_DiscoveryForms_records :
    ((dv 5 2 {} []).fld F.DEV_UID = 5 ∧ (dv 6 2 {} []).fld F.DEV_UID ≠ 5) ∧
    (({ recs := [{ uid := 5, gen := 8 }] } : Discovery).recs.find? (fun x => x.uid == 5) = some { uid := 5, gen := 8 } ∧
      ({ recs := [{ uid := 5, gen := 9 }] } : Discovery).recs.find? (fun x => x.uid == 5) = some { uid := 5, gen := 9 } ∧
      ({} : Discovery).recs.find? (fun x => x.uid == 5) = none) := by
  rw [show (dv 5 2 {} []).fld F.DEV_UID = 5 from dv_uid 5 2 {} [], show (dv 6 2 {} []).fld F.DEV_UID = 6 from dv_uid 6 2 {} []]
  decide +kernel

/-- Device 5 has a link from port 11 to port 2 of device 3, which holds `i`. -/
def d2 (m : List (Nat × Nat)) (root : Nat) (i : Option Nat) : State :=
  dv 5 1 { changed := true, members := m, root := root, recs := [{ uid := 3, held := i, links := [(2, 5, 11)] }] }
    [(F.PEER_UID, 11, 0, 3), (F.WARP_STATUS_PEER_PORT, 11, 0, 2)]
theorem d2_uid (m : List (Nat × Nat)) (root : Nat) (i : Option Nat) : (d2 m root i).fld F.DEV_UID 0 0 = 5 := dv_uid 5 1 _ _

/-- Device 5 settles with device 3 and takes 1; it is turned away where both hold 0; alone it does not continue a membership of three. -/
theorem witness_DiscoveryForms_settle :
    ((d2 [] 0 none).fld F.WARP_SYS_STATUS_STATE = 1 ∧ (d2 [] 0 none).disco.changed = true ∧ (d2 [] 0 none).disco.isolating = false ∧
      (d2 [] 0 none).reed.colls = [] ∧ (d2 [] 0 none).reed.modes = [] ∧ (d2 [] 0 none).reed.kept = []) ∧
    (settlePart (settleRecs (d2 [] 0 none)) 5 = [5, 3] ∧ continues [] 0 [5, 3] = true ∧
      (assignIds (settleRecs (d2 [] 0 none)) [5, 3]).find? (fun e => e.1 == 5) = some (5, 1)) ∧
    (settlePart (settleRecs (d2 [(5, 0), (3, 0)] 3 (some 0))) 5 = [5, 3] ∧ continues [5, 3] 3 [5, 3] = true ∧
      (assignIds (settleRecs (d2 [(5, 0), (3, 0)] 3 (some 0))) [5, 3]).all (fun e => e.1 != 5) = true) ∧
    (continues [3, 4, 5] 3 [5] = false) := by
  simp only [settleRecs, ownRec, d2_uid]
  decide +kernel

theorem witness_DiscoveryForms_cut : settlePart (settleRecs (dv 5 1 { changed := true, members := [(3, 0), (4, 1), (5, 2)], root := 3 } [])) 5 = [5] := by
  simp only [settleRecs, ownRec, dv_uid]
  decide +kernel

/-- Operation slot 7 holds operation `op`; the fields `f` are set and Reed holds `r`. -/
def so (op : Nat) (f : List (Field × Nat × Nat × Nat) := []) (r : ReedSt := {}) : State :=
  { fs ((F.REED_OP_CTL_OP, 0, 7, op) :: f) State.reset with reed := r }

theorem witness_ReedSlotForms_go :
    (∀ op ∈ [1, 2, 3, 4, 5, 6], (so op).fld F.REED_OP_CTL_OP 0 7 = op ∧ (so op).fld F.REED_OP_CTL_STATE 0 7 ≠ 1) ∧
    ((so 1 [(F.WARP_SYS_STATUS_STATE, 0, 0, 4)]).fld F.WARP_SYS_STATUS_STATE = 4 ∧ (so 1).fld F.WARP_SYS_STATUS_STATE = 0) ∧
    (isRoot (so 1) = true ∧ childPorts (so 1) = [] ∧ (so 1).reed.colls = [] ∧ hasParent (so 1 [(F.TB_TREE_LEVEL, 0, 0, 1)]) = true ∧
      childPorts (so 1 [(F.TB_TREE_LEVEL, 0, 0, 1)]) = []) ∧
    ((so 3 [(F.REED_OP_CTL_FUNC, 0, 7, 7)]).fld F.REED_OP_CTL_FUNC 0 7 = 7 ∧ (so 3).fld F.REED_OP_CTL_FUNC 0 7 ≠ 7) ∧
    ((so 2).fld F.REED_OP_LEN_LEN 0 7 = 0 ∧ (so 2 [(F.REED_OP_LEN_LEN, 0, 7, 256)]).fld F.REED_OP_LEN_LEN 0 7 = 256 ∧
      (so 2 [(F.REED_OP_LEN_LEN, 0, 7, 256)]).fld F.REED_OP_BUF_BUF 0 7 < 2 ^ 62) := by decide +kernel

theorem witness_ReedSlotForms_scheduled :
    (∀ k < 8, (so 4).reed.busy.get k ≠ nextOpid (so 4) 7 + 1) ∧
    (¬((so 4).pick < (so 4).fld F.REED_OP_PICK_PICK 0 7)) ∧
    ((so 4 [(F.REED_OP_PICK_PICK, 0, 7, 1)]).pick < (so 4 [(F.REED_OP_PICK_PICK, 0, 7, 1)]).fld F.REED_OP_PICK_PICK 0 7 ∧
      (so 4 [(F.REED_OP_PICK_PICK, 0, 7, 1)]).now + 10 + (so 4 [(F.REED_OP_PICK_PICK, 0, 7, 1)]).fld F.TB_TREE_DEPTH * 80 + 100 ≤ bTime (so 4 [(F.REED_OP_PICK_PICK, 0, 7, 1)]) 1) := by
  decide +kernel

/-- A mode change at boundary `n` that its units decide on by boundary `d`, of scope `sc`. -/
def md (d n sc : Nat) (r : ReedSt := {}) : State := so 6 [(F.REED_OP_ARG_ARG, 0, 7, d), (F.REED_OP_PICK_PICK, 0, 7, n), (F.REED_OP_CTL_SCOPE, 0, 7, sc)] r
theorem witness_ReedSlotForms_mode :
    ((md 5 5 0).fld F.REED_OP_PICK_PICK 0 7 ≤ (md 5 5 0).fld F.REED_OP_ARG_ARG 0 7) ∧
    ((md 1 2 1).fld F.REED_OP_ARG_ARG 0 7 < (md 1 2 1).fld F.REED_OP_PICK_PICK 0 7 ∧ (md 1 2 1).bit F.REED_OP_CTL_SCOPE 0 7 = true ∧ (md 1 2 1).reed.modes = [] ∧
      (md 1 2 1 { modes := [{ opid := 0 }] }).reed.modes ≠ [] ∧ modeLead (md 1 2 1) ((md 1 2 1).now + 10) 1 2 0 = true ∧
      modeLead (md 0 2 1) ((md 0 2 1).now + 10) 0 2 0 = false) ∧
    ((md 1 2 0).bit F.REED_OP_CTL_SCOPE 0 7 = false ∧ (∀ k < 8, (md 1 2 0).reed.busy.get k ≠ nextOpid (md 1 2 0) 7 + 1) ∧
      (md 1 2 0).fld F.TB_TREE_DEPTH = 0 ∧ ({ opid := 0 } : RMode).sys = true ∧ ({ opid := 0, sys := false } : RMode).sys = false) := by decide +kernel

/-- A device below the root with a mode change that it has joined and not yet reported. -/
def mr : State := so 6 [(F.TB_TREE_LEVEL, 0, 0, 1)] { modes := [{ opid := 4 }] }
theorem witness_ReedSlotForms_ready :
    mr.reed.modes = [{ opid := 4 }] ∧ hasParent mr = true ∧ childPorts mr = [] ∧ mr.bit F.TB_EVT_PICKMM = false ∧ armedUnits mr = [] ∧ State.reset.reed.modes = [] := by
  decide +kernel

/-- The broadcast ring has an entry to write, its write pointer at `wp`. -/
def br (wp : Nat) : State := so 2 [(F.BC_WP_WP, 0, 0, wp)] { ringQ := [{ opid := 1, len := 2, time := 3, data := [1, 2] }] }
theorem witness_ReedSlotForms_ring :
    ((br 15).fld F.BC_WP_WP + 1) % ringSize (br 15) = (br 15).fld F.BC_RP_RP % ringSize (br 15) ∧
    ((br 14).fld F.BC_WP_WP + 1) % ringSize (br 14) ≠ (br 14).fld F.BC_RP_RP % ringSize (br 14) ∧ (br 15).reed.ringOut = none ∧ State.reset.reed.ringQ = [] := by
  decide +kernel

/-- A collective of slot 7 waits. -/
def rcw : State := so 3 [(F.REED_OP_CTL_STATE, 0, 7, 1), (F.REED_TO, 0, 0, 5)] { colls := [{ coll := 0, slots := [7] }] }
theorem witness_ReedSlotForms_timeout :
    rcw.fld F.REED_OP_CTL_STATE 0 7 = 1 ∧ rcw.fld F.REED_TO ≠ 0 ∧ rcw.reed.colls.any (fun c => c.slots.contains 7) = true := by decide +kernel

/-- Port 11 has received the symbol `y` with RSEQ `r`; the tree's fields `f` are set and Reed holds `d`. -/
def hy (y : RSym) (r : Nat) (f : List (Field × Nat × Nat × Nat) := []) (d : ReedSt := {}) : State :=
  { wl 3 { reedIn := [(r, symBytes y 0 false)] } f with reed := d }
/-- The fields that put port 11 above this device, or below it. -/
def above : List (Field × Nat × Nat × Nat) := [(F.TB_TREE_LEVEL, 0, 0, 1), (F.TB_TREE_PPORT, 0, 0, 11)]
def below : List (Field × Nat × Nat × Nat) := [(F.TB_TREE_CHILDREN, 0, 0, 2 ^ 11)]

theorem witness_ReedHopForms_measure :
    (hasParent State.reset = false ∧ hasParent (hy {} 0 above) = true ∧ (hy {} 0 above).fld F.WARP_STATUS_STATE ((hy {} 0 above).fld F.TB_TREE_PPORT) = 3 ∧
      ((hy {} 0 above).warp.get 11).reedUnacked.length < 8) ∧
    (State.reset.fld F.TB_STATUS_STATE = 0 ∧ (hy {} 0 [(F.TB_STATUS_STATE, 0, 0, 4)]).fld F.TB_STATUS_STATE = 4 ∧ (hy {} 0 [] { par := some (1, 2, 3) }).reed.par ≠ none) := by
  decide +kernel

theorem witness_ReedHopForms_receive :
    (((hy { kind := 3 } 0).warp.get 11).reedIn = [(0, symBytes { kind := 3 } 0 false)] ∧ (State.reset.warp.get 11).reedIn = []) ∧
    (∀ y ∈ ([{ kind := 3 }, { kind := 4, pick := 9 }, { kind := 5, pick := 9, arg := 10, count := 20, ext := (1000, 0, 0) }, { kind := 1, op := 3, arg := 7 }, { kind := 2, op := 3 }] : List RSym),
      bitOf (fieldLE (symBytes y 0 false) 6 1) 0 = false ∧ (symOf (symBytes y 0 false)).kind = y.kind ∧ (symOf (symBytes y 0 false)).op = y.op) ∧
    (((hy {} 1).warp.get 11).rexpect ≠ 1 ∧ ((hy {} 0).warp.get 11).rexpect = 0) ∧
    ((hy {} 0 ((F.TB_STATUS_STATE, 0, 0, 1) :: above)).fld F.TB_STATUS_STATE = 1 ∧ (hy {} 0 ((F.TB_STATUS_STATE, 0, 0, 2) :: above)).fld F.TB_STATUS_STATE = 2 ∧
      15 ≤ (hy {} 0 [] { good := 15 }).reed.good ∧ (1000, 0, 0) = schedule (hy {} 0) ∧ (1, 0, 0) ≠ schedule (hy {} 0)) ∧
    (((tsDiff 10 9 - tsDiff 30 20) * 1000 / 512).natAbs ≤ 100 ∧ 100 < ((tsDiff 10 9 - tsDiff 300 20) * 1000 / 512).natAbs) := by
  decide +kernel

theorem witness_ReedHopForms_collective :
    (symRoom (hy {} 0) { kind := 1, op := 3, opid := 65535 * 2 ^ 48 } = true ∧ opGen (65535 * 2 ^ 48) ≠ (hy {} 0).fld F.WARP_SYS_STATUS_GEN ∧ (hy {} 0).reed.colls = []) ∧
    (isRoot (hy {} 0 below) = true ∧ childPorts (hy {} 0 below) = [11] ∧ opGen 0 = (hy {} 0 below).fld F.WARP_SYS_STATUS_GEN ∧
      (hy {} 0 ((F.REED_OP_CTL_OP, 0, 7, 3) :: below)).fld F.REED_OP_CTL_OP 0 7 = 3 ∧ (hy {} 0 below).fld F.REED_OP_CTL_FUNC 0 7 = 0 ∧
      (hy {} 0 below { colls := [{ coll := 0, slots := [7] }] }).reed.colls = [{ coll := opColl 0, slots := [7] }]) := by decide +kernel

/-- SPLL `n` is enabled, with the fields `f` set. -/
def sp (n : Nat) (f : List (Field × Nat × Nat × Nat) := []) : State := fs ((F.SPLL_CFG_EN, 0, n, 1) :: f) State.reset
/-- A value of SPLL_CFG that names the crystal and a setting in range. -/
def spv : Nat := 2 ^ 63 + 2 * 2 ^ 40 + 80 * 2 ^ 24 + 1 * 2 ^ 16

theorem witness_ClockForms_pll :
    (pllValid ⟨50000, 1⟩ (bitsOf spv 16 3) (bitsOf spv 24 8) (bitsOf spv 40 7) = true ∧ bitsOf spv 56 2 = 0 ∧ pllValid ⟨50000, 1⟩ 0 0 0 = false) ∧
    (State.reset.bit F.SPLL_CFG_EN 0 4 = false ∧ memBusy State.reset = false ∧ memBusy (fs [(F.MP_STATUS_STATE, 15, 0, 2)] State.reset) = true ∧ (sp 4).bit F.SPLL_CFG_EN 0 4 = true) ∧
    (spllSwitching (sp 3) 3 = false ∧ spllSwitching (sp 3 [(F.DOM_STATUS_STATE, 0, 3, 1), (F.DOM_CTL_SRC, 0, 3, 0)]) 3 = true ∧
      (sp 3 [(F.DOM_STATUS_CUR_SRC, 0, 3, 0)]).fld F.DOM_STATUS_CUR_SRC 0 3 = 0 ∧ (sp 3 [(F.DOM_STATUS_CUR_SRC, 0, 3, 0)]).fld F.DOM_STATUS_STATE 0 3 < 3) ∧
    (lineBusy { State.reset with loadLines := [23] } 23 = true ∧ (fs [(F.FPLL_CFG_EN, 0, 23, 1)] State.reset).bit F.FPLL_CFG_EN 0 23 = true ∧
      State.reset.bit F.FPLL_CFG_EN 0 23 = false) := by decide +kernel

/-- No bay is loaded at reset, so no line is in use. -/
theorem witness_ClockForms_free : lineBusy State.reset 23 = false ∧ lineBusy State.reset 24 = false ∧ lineBusy { State.reset with loadLines := [27] } 27 = true := by
  decide +kernel

theorem witness_ClockForms_good :
    (srcReady State.reset 0 = true ∧ srcStopped State.reset 0 = false ∧ srcReady State.reset 2 = false ∧ srcStopped { State.reset with vin := false } 35 = true) ∧
    (srcReady (sp 4 [(F.CLK_GOOD_GOOD, 0, 0, 3)]) 6 = true ∧ srcReady (fs [(F.FPLL_CFG_EN, 0, 23, 1), (F.CLK_GOOD_GOOD, 0, 0, 3)] State.reset) 31 = true) ∧
    ({ sp 4 with domSw := ⟨[(4, { waits := true })]⟩ }.domSw.get 4).waits = true ∧ domSrc 4 0 = some 6 ∧
    (srcReady (sp 5 [(F.CLK_GOOD_GOOD, 0, 0, 3)]) 7 = true ∧ (fs [(F.SPLL_STATUS_FAIL, 0, 5, 1), (F.TB_STATUS_STATE, 0, 0, 2)] State.reset).bit F.SPLL_STATUS_FAIL 0 5 = true ∧
      (fs [(F.TB_STATUS_STATE, 0, 0, 2)] State.reset).fld F.TB_STATUS_STATE ≠ 0) := by decide +kernel

/-- Domain 2 in state `st` on source `cur`, its control naming `src` and divider `div`, every clock source good but those `bad`. -/
def dm (st cur src div : Nat) (w : DomSw) (bad : Nat := 0) : State :=
  { fs [(F.DOM_STATUS_STATE, 0, 2, st), (F.DOM_STATUS_CUR_SRC, 0, 2, cur), (F.DOM_CTL_SRC, 0, 2, src), (F.DOM_CTL_DDIV, 0, 2, div),
      (F.CLK_GOOD_GOOD, 0, 0, 2 ^ 36 - 1 - bad), (F.DOM_CTL_ALT_EN, 0, 2, 1)] State.reset with domSw := ⟨[(2, w)]⟩ }
theorem witness_ClockForms_switch :
    ((dm 0 1 1 1 {}).fld F.DOM_STATUS_STATE 0 2 = 0 ∧ (dm 1 1 1 1 {}).fld F.DOM_STATUS_STATE 0 2 = 1 ∧ (dm 3 3 1 1 {}).fld F.DOM_STATUS_STATE 0 2 = 3 ∧
      0 ≠ (dm 0 1 1 1 {}).fld F.DOM_STATUS_CUR_SRC 0 2 ∧ domSrcGood (dm 0 1 1 1 {}) 2 0 = true ∧ domSrcGood (dm 0 1 1 1 {} (2 ^ 4)) 2 0 = false ∧
      1 = (dm 0 1 1 1 {}).fld F.DOM_STATUS_CUR_DDIV 0 2) ∧
    ((({ phase := 1 } : DomSw).phase = 1) ∧ (dm 1 0 1 1 { phase := 1 }).fld F.DOM_STATUS_CUR_DDIV 0 2 < 32 ∧ (dm 1 0 1 1 { phase := 1 }).fld F.DOM_CTL_DDIV 0 2 < 32 ∧
      Freq.le ((domFreq (dm 1 1 2 1 { phase := 1 }) 2 1).div 1) ((domFreq (dm 1 1 2 1 { phase := 1 }) 2 2).div 1) = false ∧
      Freq.le ((domFreq (dm 1 2 1 1 { phase := 1 }) 2 2).div 1) ((domFreq (dm 1 2 1 1 { phase := 1 }) 2 1).div 1) = true) ∧
    ((dm 1 1 1 3 { phase := 3 }).domSw.get 2).phase = 3 := by decide +kernel

theorem witness_ClockForms_fail :
    (srcStopped State.reset (min 131 35) = false ∧ srcGood (dm 0 0 0 1 {}) 4 = true ∧ (dm 0 0 0 1 {}).fld F.DOM_STATUS_CUR_SRC 0 2 = 0 ∧ ((dm 0 0 0 1 {}).domSw.get 2).phase ≠ 1 ∧
      (dm 0 1 1 1 {}).fld F.DOM_STATUS_CUR_SRC 0 2 = 1 ∧ srcGood (dm 0 0 0 1 {}) 35 = true ∧ irqOpen State.reset = true ∧ State.reset.bit F.IRQ_SRC_ACTIVE 0 0x040 = false) ∧
    (domSrcGood (dm 3 3 0 1 {}) 2 0 = true ∧ domSrcGood (dm 3 3 0 1 { failed := true } (2 ^ 4)) 2 0 = false ∧ domSrcGood (dm 3 3 0 1 { failed := true } (2 ^ 4)) 2 1 = true ∧
      (dm 3 3 0 1 {}).bit F.DOM_CTL_ALT_EN 0 2 = true ∧ (dm 3 3 0 1 {}).bit F.DOM_CTL_ALT 0 2 = false) := by decide +kernel

theorem witness_InterruptForms_event :
    (irqAssigned 0x04D = false ∧ irqAssigned 0x04C = true ∧ irqOpen State.reset = true ∧ irqOpen { State.reset with dev := .off } = false) ∧
    (irqLevelLine State.reset 0x043 = none ∧ irqLevelLine State.reset 0x061 = some false ∧
      irqLevelLine (fs [(F.PWR_EVT_LIMIT, 0, 0, 1)] State.reset) 0x061 = some true ∧ State.reset.bit F.IRQ_SRC_ACTIVE 0 0x061 = false ∧
      State.reset.bit F.IRQ_SRC_PENDING 0 0x061 = false ∧ irqLine State.reset 0x043 = false ∧ irqLine (fs [(F.PWR_EVT_LIMIT, 0, 0, 1)] State.reset) 0x061 = true) := by
  decide +kernel

/-- Source 0x061 is taken by target (kind 1, number 7); the target's window is `w`. -/
def ia (w : IrqWin := {}) : State :=
  { fs [(F.IRQ_SRC_KIND, 0, 0x061, 1), (F.IRQ_SRC_INDEX, 0, 0x061, 7), (F.IRQ_SRC_ACTIVE, 0, 0x061, 1)] State.reset with irqWin := ⟨[(1 * 4096 + 7, w)]⟩ }
theorem witness_InterruptForms_source :
    (bitOf (2 ^ 40 + 7 * 2 ^ 16) 62 = false ∧ bitOf (2 ^ 40 + 7 * 2 ^ 16) 61 = false ∧ irqKindCount 1 ≤ bitsOf (2 ^ 40 + 8 * 2 ^ 16) 16 11 ∧
      ¬(irqKindCount 1 ≤ bitsOf (2 ^ 40 + 7 * 2 ^ 16) 16 11) ∧ ia.bit F.IRQ_SRC_ACTIVE 0 0x061 = true ∧ bitsOf (2 ^ 40 + 6 * 2 ^ 16) 16 11 ≠ ia.fld F.IRQ_SRC_INDEX 0 0x061) ∧
    (irqTarget ia 0x061 = 1 * 4096 + 7 ∧ State.reset.bit F.IRQ_SRC_ACTIVE 0 0x061 = false ∧
      (fs [(F.IRQ_SRC_KIND, 0, 0x061, 3), (F.IRQ_SRC_ACTIVE, 0, 0x061, 1)] State.reset).fld F.IRQ_SRC_KIND 0 0x061 = 3) ∧
    (((ia { st := 1, timed := true }).irqWin.get (1 * 4096 + 7)).st = 1 ∧ ((ia { st := 1, timed := true }).irqWin.get (1 * 4096 + 7)).timed = true ∧
      ((ia {}).irqWin.get (1 * 4096 + 7)).st ≠ 1) := by decide +kernel

/-- Port 5 V etc. of the supply: no supply; OFF; a sleep state. -/
def noVin : State := { State.reset with vin := false }
def offS (hot : Bool) : State := { State.reset with dev := .off, hot := hot }
theorem witness_SupplyForms :
    (State.reset.vin = true ∧ noVin.vin = false ∧ State.reset.dev ≠ .off ∧ (offS false).dev = .off) ∧
    (State.reset.fld F.PWR_GPIO_V_VSEL 0 19 = 0 ∧ (fs [(F.PWR_GPIO_V_VSEL, 0, 19, 4)] State.reset).fld F.PWR_GPIO_V_VSEL 0 19 ≠ 0 ∧ 4 % 8 ≤ 4 ∧ 4 < 5 % 8) ∧
    (State.reset.fld F.PWR_LIMIT_MW_LIMIT_MW < 2 ^ 32 - 1 ∧ 0 ≤ State.reset.fld F.PWR_LIMIT_MW_LIMIT_MW ∧ 7000 < 7001) ∧ quadOwner State.reset 0 = 2 := by decide +kernel

/-- 115 degrees are beyond the limit of either temperature grade. -/
theorem witness_SupplyForms_hot (g : Nat) : 16 * ((if g = 2 then 105 else 100) + 10) ≤ 16 * 115 ∧ ¬(16 * ((if g = 2 then 105 else 100) + 10) ≤ 16 * 100) := by
  split <;> omega

/-- The voltage loop of bay 767 runs at `mv`, at its limit where `mx` is 1. -/
def vb (mv mx : Nat) : State := fs [(F.PWR_BAY_V_MV, 0, 767, mv), (F.PWR_BAY_V_MAXED, 0, 767, mx), (F.PWR_BAY_STATE_STATE, 0, 767, 2)] State.reset
theorem witness_SupplyForms_loop :
    ((vb 847 0).fld F.PWR_BAY_STATE_STATE 0 767 = 2 ∧ underTest (vb 847 0) 2 767 = false ∧ (vb 847 0).fld F.PWR_BAY_V_MV 0 767 = 847 ∧ 850 ≤ 847 + 3 ∧
      ¬(850 ≤ (vb 846 0).fld F.PWR_BAY_V_MV 0 767 + 3)) ∧ (vb 850 1).bit F.PWR_BAY_V_MAXED 0 767 = true ∧ (vb 850 0).bit F.PWR_BAY_V_MAXED 0 767 = false := by
  decide +kernel

/-- Bay 767 is in power state `st` with request `r` and use state `os`. -/
def pb (st r os : Nat) : State := fs [(F.PWR_BAY_STATE_STATE, 0, 767, st), (F.PWR_BAY_REQ_REQ, 0, 767, r), (F.HD_MAP_OSTATE, 0, 767, os), (F.HD_MAP_OWNER, 0, 767, os)] State.reset
theorem witness_PowerStateForms_bay :
    ((pb 2 2 oFREE).fld F.HD_MAP_OSTATE 0 767 = oFREE ∧ (pb 2 2 oLOADED).fld F.HD_MAP_OSTATE 0 767 = oLOADED ∧ (pb 2 2 oERASING).fld F.HD_MAP_OSTATE 0 767 = oERASING ∧
      (pb 3 0 oFREE).fld F.PWR_BAY_STATE_STATE 0 767 = 3 ∧ (pb 2 2 oFREE).fld F.PWR_BAY_STATE_STATE 0 767 = 2) ∧
    ((pb 3 0 oFREE).fld F.PWR_BAY_REQ_REQ 0 767 = 0 ∧ (pb 3 1 oFREE).fld F.PWR_BAY_REQ_REQ 0 767 = 1 ∧ (pb 3 2 oFREE).fld F.PWR_BAY_REQ_REQ 0 767 = 2) ∧
    (State.reset.fld F.HD_MAP_OWNER 0 0 ≠ (pb 2 2 oLOADED).fld F.HD_MAP_OWNER 0 767) := by decide +kernel

/-- The mode register asks for mode `m` and core 7 waits. -/
def slp (m : Nat) : State := { fs [(F.PWR_MODE_MODE, 0, 0, m), (F.CC_STATUS_STATE, 7, 0, 2)] State.reset with deepWait := true }
theorem witness_PowerStateForms_sleep :
    (coresWait (slp 1) = true ∧ pwrBlock (slp 1) = 0 ∧ (slp 1).fld F.PWR_MODE_MODE = 1 ∧ (slp 2).fld F.PWR_MODE_MODE = 2 ∧ (slp 3).fld F.PWR_MODE_MODE = 3 ∧
      pwrBlock (slp 3) = 0 ∧ coresWait State.reset = false) ∧
    (wakeAt { fs [(F.PWR_WAKE_TIME_TIME, 0, 0, 5), (F.SYSTIME, 0, 0, 5)] State.reset with dev := .sleep } 5 = true ∧
      wakeAt { State.reset with dev := .deepSleep, irqHeld := [0x061] } 1 = false ∧
      wakeAt { fs [(F.IRQ_SRC_ENABLE, 0, 0x061, 1), (F.IRQ_SRC_KIND, 0, 0x061, 1)] State.reset with dev := .sleep, irqHeld := [0x061] } 1 = true ∧
      wakeAt { fs [(F.PWR_WAKE_GPIO_BANKS, 0, 0, 2 ^ 19), (F.GPIO_EVT_EVT, 19, 0, 1)] State.reset with dev := .deepSleep } 6 = true) ∧
    (({ offS true with hot := true } : State).hot = true ∧ (offS false).hot = false) := by decide +kernel

theorem witness_PowerStateForms_reset :
    (bitOf 0x1A5 8 = true ∧ 0x1A5 % 256 = 0xA5 ∧ bitOf 0xA5 8 = false) ∧
    ((fs [(F.WDT_CFG_EN, 0, 0, 1)] State.reset).bit F.WDT_CFG_EN = true ∧ State.reset.bit F.WDT_CFG_EN = false ∧ State.reset.bit F.WDT_STATUS_STAGE = false ∧
      (fs [(F.WDT_STATUS_STAGE, 0, 0, 1)] State.reset).bit F.WDT_STATUS_STAGE = true ∧ (fs [(F.WDT_CFG_ACTION, 0, 0, 0)] State.reset).fld F.WDT_CFG_ACTION = 0 ∧
      (fs [(F.WDT_CFG_ACTION, 0, 0, 1)] State.reset).fld F.WDT_CFG_ACTION = 1 ∧ 2 ≤ (fs [(F.WDT_CFG_ACTION, 0, 0, 2)] State.reset).fld F.WDT_CFG_ACTION) ∧
    (fs [(F.HD_MAP_HSTATE, 0, 767, 3)] State.reset).fld F.HD_MAP_HSTATE 0 767 = 3 := by decide +kernel

/-- The self-test engine holds `k`. -/
def bt (k : BistSt) : State := { State.reset with bist := k }
theorem witness_SelfTestForms_request :
    (bistRuns State.reset = true ∧ bistRuns noVin = true ∧ bistRuns (offS false) = false ∧ State.reset.bist.held.isSome = false ∧
      (bt { held := some { fam := 2, idx := 767 } }).bist.held.isSome = true ∧ (bt { asked := some { fam := 2, idx := 767 } }).bist.asked.isSome = true) ∧
    (State.reset.bist.run = none ∧ (bt { asked := some { fam := 2, idx := 767 } }).bist.asked = some { fam := 2, idx := 767 } ∧
      testRefusal (bt {}) { fam := 2, idx := 767 } = 0 ∧ testRefusal (bt {}) { fam := 2, idx := 768 } = 8 ∧ testRefusal (bt {}) { fam := 7, idx := 63 } = 0 ∧
      State.reset.fld F.HD_MAP_OSTATE 0 767 = oFREE) := by decide +kernel

/-- Bay 767 is occupied by instance 1, which consents, and boundary 1 is ahead. -/
def ocp : State := bays [(F.BAY_BIST_CONSENT, 767, 0, 1), (F.SPLL_STATUS_LOCK, 0, 5, 1)]
theorem witness_SelfTestForms_occupied :
    testRefusal ocp { fam := 2, idx := 767, n := 1, m := 10 ^ 12 } = 0 ∧ ocp.fld F.HD_MAP_OSTATE 0 767 = oLOADED ∧ ocp.bist.run = none := by decide +kernel

theorem witness_SelfTestForms_end :
    ((bt { run := some { fam := 2, idx := 767 } }).bist.run = some { fam := 2, idx := 767 } ∧ (bt {}).occ = none ∧ State.reset.bit F.BIST_LOG_VALID = false ∧
      (∀ f ∈ [(1, 191), (3, 95), (6, 7), (7, 63), (8, 95)], (if f.1 = 1 then f.2 / 4 else f.2) < famCount f.1)) ∧
    (({ bt { run := some { fam := 2, idx := 767 } } with occ := some { bay := 767, inst := 1, n := 1, m := 9, part := 2 } } : State).occ).map (·.part) = some 2 := by
  decide +kernel

/-- The sweep of free bays is on, its next bay 767, which is condemned where `h` is 3. -/
def swp (h : Nat) : State := { fs [(F.BIST_CTL_AUTO, 0, 0, 1), (F.HD_MAP_HSTATE, 0, 767, h)] State.reset with bist := { next := 767 } }
theorem witness_SelfTestForms_sweep :
    ((swp 0).bit F.BIST_CTL_AUTO = true ∧ (swp 0).bist.run = none ∧ Sweepable (swp 0) ((767 + 0) % 768) ∧ ¬Sweepable (swp 3) ((767 + 0) % 768) ∧
      Sweepable (swp 3) ((767 + 1) % 768)) ∧ State.reset.fld F.BAY_STATUS_OWNER 767 = 0 ∧ (bays []).fld F.BAY_STATUS_OWNER 767 = 1 := by
  unfold Sweepable; decide +kernel

theorem witness_HealthForms :
    (767 < 768 ∧ 7 % 4 = 3) ∧ (95 < famCount 8 ∧ famCount 8 ≤ 96) ∧ bistRuns State.reset = true ∧
    0 < ageFactor 400 none ∧ 0 < ageFactor 400 (some 800) := by decide +kernel

/-- An hour count of 100 is reached whatever the ageing factor; the drift 1 is below the limit, 0 and -1 are not above 0. -/
theorem witness_HealthForms_prediction (af : Nat) :
    100 * 2 ^ 32 ≤ (fs [(F.AGE_BAY_T_TAU, 0, 767, 100)] State.reset).fld F.AGE_BAY_T_TAU 0 767 * 2 ^ 32 + 0 + af ∧ 0 < (BitVec.ofNat 16 1).toInt ∧
    (BitVec.ofNat 16 0).toInt ≤ 0 ∧ (BitVec.ofNat 16 0xFFFF).toInt ≤ 0 ∧
    (BitVec.ofNat 16 1).toInt.toNat < max 1 ((fs [(F.AGE_CFG_DLIM, 0, 0, 2)] State.reset).fld F.AGE_CFG_DLIM) ∧
    max 1 ((fs [(F.AGE_CFG_DLIM, 0, 0, 2)] State.reset).fld F.AGE_CFG_DLIM) ≤ (BitVec.ofNat 16 2).toInt.toNat := by
  have h : (fs [(F.AGE_BAY_T_TAU, 0, 767, 100)] State.reset).fld F.AGE_BAY_T_TAU 0 767 = 100 := by decide +kernel
  refine ⟨?_, by decide +kernel⟩
  rw [h]; omega

/-- The debug port is at level `l`, its other state `d`; the fields `f` are set. -/
def dg (l : Nat) (d : DbgSt := {}) (f : List (Field × Nat × Nat × Nat) := []) : State :=
  { State.reset with dbg := d, regs := ⟨(fkey F.DBG_STATUS_LEVEL 0 0, F.DBG_STATUS_LEVEL.resetAt 0 0 ^^^ l) :: (fs f State.reset).regs.cells⟩ }
theorem dg_level (l : Nat) (d : DbgSt) (f : List (Field × Nat × Nat × Nat)) : (dg l d f).fld F.DBG_STATUS_LEVEL 0 0 = l := by
  show (F.DBG_STATUS_LEVEL.resetAt 0 0 ^^^ l) ^^^ F.DBG_STATUS_LEVEL.resetAt 0 0 = l
  rw [Nat.xor_comm (F.DBG_STATUS_LEVEL.resetAt 0 0) l, Nat.xor_assoc, Nat.xor_self, Nat.xor_zero]

theorem witness_DebugPortForms :
    (State.reset.vin = true ∧ State.reset.dev ≠ .off ∧ State.reset.dev ≠ .deepSleep ∧ (offS false).dev = .off) ∧
    ((dg 2 { ir := 1 }).dbg.ir = 1 ∧ (dg 2 { ir := 2 }).dbg.ir = 2 ∧ (dg 2 { ir := 0xFF }).dbg.ir ∉ [0, 1, 2, 0x10] ∧ tapOn (dg 2 { ir := 2 }) = true) ∧
    (tapOn (dg 2 { ir := 0x10 }) = true ∧ (dg 2 { ir := 0x10 }).dbg.wait = none ∧ csrRuns (dg 2) = true ∧ csrRuns { dg 2 with dev := .sleep } = false ∧
      tapOn { dg 2 with dev := .sleep } = true ∧ (dg 2 { ir := 0x10, wait := some (1, 0, 0) }).dbg.wait ≠ none) ∧
    ((dg 2).fld F.DBG_STATUS_FAILCNT ≠ 16 ∧ (dg 2 {} [(F.DBG_STATUS_FAILCNT, 0, 0, 16)]).fld F.DBG_STATUS_FAILCNT = 16 ∧ (dg 2).dbg.verify = none ∧
      (dg 2 { verify := some (3, true) }).dbg.verify = some (3, true) ∧ (dg 2).bit F.DBG_STATUS_CHAL_VALID = false ∧
      (dg 2 {} [(F.DBG_STATUS_CHAL_VALID, 0, 0, 1)]).bit F.DBG_STATUS_CHAL_VALID = true) := by decide +kernel

/-- Offset 0 of the debug block is its identity register, 0x428 takes writes only, and 0xF8 is a hole; the levels they need. -/
def dbReg (off : Nat) : Option Bool := match placeSingle (dg 2) portInit 10 .dbg off with | .reg x => some (allWo x.r) | _ => none
theorem witness_DebugPortForms_registers :
    dbReg 0 = some false ∧ dbReg 0x428 = some true ∧ dbReg 0xF8 = none ∧
    dpLevel 0 ≤ 2 ∧ 0 < dpLevel 0 ∧ dpLevel 0x108 = 0 ∧ dpLevel 0x428 = 1 := by decide +kernel

/-- The debug initiator has the address `a`, the length `n` and the operation `wr`, and is busy or not. -/
def dn (a n wr busy : Nat) : State := dg 2 {} [(F.DBG_NOC_ADDR_ADDR, 0, 0, a), (F.DBG_NOC_CTL_LEN, 0, 0, n), (F.DBG_NOC_CTL_OP, 0, 0, wr), (F.DBG_NOC_STAT_BUSY, 0, 0, busy)]
theorem dn_level (a n wr busy : Nat) : (dn a n wr busy).fld F.DBG_STATUS_LEVEL 0 0 = 2 := dg_level 2 {} _

theorem witness_DebugCoreForms :
    ((dn 63 0 0 0).bit F.DBG_NOC_STAT_BUSY = false ∧ (dn 63 0 0 1).bit F.DBG_NOC_STAT_BUSY = true ∧
      (dn 63 0 0 0).fld F.DBG_NOC_ADDR_ADDR % 64 + (dn 63 0 0 0).fld F.DBG_NOC_CTL_LEN + 1 ≤ 64 ∧ (dn 63 0 0 0).fld F.DBG_NOC_ADDR_ADDR < 2 ^ 62 ∧
      ¬((dn 63 1 0 0).fld F.DBG_NOC_ADDR_ADDR % 64 + (dn 63 1 0 0).fld F.DBG_NOC_CTL_LEN + 1 ≤ 64) ∧
      (dn 63 0 1 0).bit F.DBG_NOC_CTL_OP = true ∧ (dn 63 0 0 0).bit F.DBG_NOC_CTL_OP = false) ∧
    (State.reset.fld F.CC_STATUS_STATE 7 = 0 ∧ State.reset.fld F.SC_STATUS_STATE 95 = 0 ∧ (cc 7).fld F.CC_STATUS_STATE 7 = 1 ∧
      (fs [(F.CC_STATUS_STATE, 7, 0, 3)] State.reset).fld F.CC_STATUS_STATE 7 = 3 ∧
      (fs [(F.SC_STATUS_STATE, 95, 0, 3)] State.reset).fld F.SC_STATUS_STATE 95 = 3) ∧
    (0x4000 / 4096 = 4 ∧ 0x108F / 4096 = 1 ∧ 0x108F % 4096 = 143 ∧ 0x5000 / 4096 = 5 ∧ 0x3007 % 4096 < 8 ∧ 0xFFFF < 2 ^ 16 ∧ 6 ≤ 0xFFFF / 4096) ∧
    (irqOpen State.reset = true ∧ State.reset.bit F.IRQ_SRC_ACTIVE 0 (0xA0 + 7) = false) := by decide +kernel

/-- Bank 19 has its rail, the fields `f` set. -/
def gb (f : List (Field × Nat × Nat × Nat)) : State := fs ([(F.PWR_GPIO_V_VSEL, 0, 19, 4), (F.PWR_GPIO_V_READY, 0, 19, 1)] ++ f) State.reset

theorem witness_GpioForms :
    (gpioSampled (gb []) = true ∧ gpioSampled { gb [] with vin := false } = false ∧ gpioRail (gb []) 19 = true ∧
      bitOf (gpioInputs { gb [] with gpio := { (gb []).gpio with pads := (gb []).gpio.pads.set 19 (2 ^ 23) } } 19) 23 = true ∧
      bitOf ((gb []).gpio.seen.get 19) 23 = false ∧ ∀ m ∈ [1, 2, 3, 4, 5], (gb [(F.GPIO_CFG_IRQ_MODE, 19, 23, m)]).fld F.GPIO_CFG_IRQ_MODE 19 23 = m) ∧
    (bitsOf ((gb []).fld F.GPIO_OSEL_OSEL 19) (2 * 23) 2 = 0 ∧ bitsOf ((gb [(F.GPIO_OSEL_OSEL, 19, 0, 3 * 2 ^ 46)]).fld F.GPIO_OSEL_OSEL 19) (2 * 23) 2 = 3 ∧
      bitOf ((gb []).fld F.GPIO_TSEL_TSEL 19) 23 = false ∧ bitOf ((gb [(F.GPIO_TSEL_TSEL, 19, 0, 2 ^ 23)]).fld F.GPIO_TSEL_TSEL 19) 23 = true ∧
      bitsOf 5 0 15 ≠ (gb []).fld F.GPIO_TSET_SET0 19 23) ∧
    (irqOpen (gb []) = true ∧ (gb []).bit F.IRQ_SRC_ACTIVE 0 (0x600 + 24 * 19 + 23) = false) := by decide +kernel

/-- Time runs one nanosecond before boundary 1, with `g` staged, POLICY `p` and STAGE_PICK `a` at unit 5. -/
def bnd (g : List Staged) (p a : Nat) (f : List (Field × Nat × Nat × Nat) := []) : State :=
  { fs ([(F.SPLL_STATUS_LOCK, 0, 5, 1), (F.STAGE_CTL_POLICY, 5, 0, p), (F.STAGE_PICK_PICK, 5, 0, a)] ++ f) State.reset with staged := g }
/-- A staged value of HD_WEIGHT. -/
def sg : Staged := { hu := 5, fld := F.HD_WEIGHT_W_EDGE, u := 0, i := 0, v := 9 }

theorem witness_BoundaryForms :
    (timeRuns State.reset = false ∧ timeRuns (bnd [] 0 0) = true ∧ (bnd [] 0 0).fld F.PICK_CNT + 1 < 2 ^ 64) ∧
    ((bnd [sg] 0 0).owed = [] ∧ (bnd [sg] 0 0).reed.modes = [] ∧ (bnd [sg] 0 0).reed.kept = [] ∧ (bnd [sg] 0 0).reed.resync = false ∧
      (bnd [sg] 0 0).disco.isolating = false ∧ (bnd [sg] 0 0).cmds = [] ∧ (bnd [sg] 0 0).holds = [] ∧ (bnd [sg] 0 0).migs = [] ∧ (bnd [sg] 0 0).occ = none ∧
      (bnd [sg] 0 0).fld F.HD_MOVE_CTL_STATE ≠ 2 ∧ (bnd [sg] 0 0).dev ≠ .deepSleep) ∧
    ((bnd [sg] 0 0).staged = [sg] ∧ (bnd [sg] 0 0).fld F.STAGE_CTL_POLICY 5 = 0 ∧ (bnd [sg] 1 1).fld F.STAGE_CTL_POLICY 5 = 1 ∧
      (bnd [sg] 1 1).fld F.STAGE_PICK_PICK 5 = 1 ∧ (bnd [sg] 1 0).fld F.STAGE_PICK_PICK 5 < 1 ∧ 1 < (bnd [sg] 1 2).fld F.STAGE_PICK_PICK 5 ∧
      2 ≤ (bnd [sg] 2 0).fld F.STAGE_CTL_POLICY 5 ∧ domRuns (bnd [sg] 0 0) 3 = true ∧ domRuns (bnd [sg] 0 0 [(F.DOM_STATUS_STATE, 0, 3, 3)]) 3 = false ∧
      timeRuns (bnd [sg] 0 0 [(F.DOM_STATUS_STATE, 0, 3, 3)]) = true) := by decide +kernel

/-- No bay has a swap to take at reset. -/
theorem witness_BoundaryForms_noSwap : NoSwap (bnd [] 0 0) := by
  unfold NoSwap; decide +kernel

/-- Slice 31 of bay 767 has its clock and a swap to take, on fabric request or by SEL; a RESET is scheduled for boundary 1. -/
theorem witness_BoundaryForms_slices :
    (slc.frozen.contains 767 = false ∧ slc.fld F.HD_MAP_OSTATE 0 767 ≠ oMIGDEST ∧ bayClk slc 767 (slcClk slc 767 31) = true ∧
      slcSwapFabric slc 767 31 = false ∧ bayClk State.reset 767 (slcClk State.reset 767 31) = false) ∧
    ((bays [(F.BAY_COEF_ACT_PEND, 767, 0, 2 ^ 31)]).fld F.BAY_COEF_ACT_PEND 767 ≠ 0 ∧ (bays [(F.BAY_COEF_SEL_SEL, 767, 0, 1)]).fld F.BAY_COEF_SEL_SEL 767 ≠
      (bays [(F.BAY_COEF_SEL_SEL, 767, 0, 1)]).fld F.BAY_COEF_ACT_ACT 767) ∧
    (∃ k ∈ [({ sym := { kind := 1, op := 5, pick := 1 } } : RSched)], k.sym.op = 5 ∧ (k.late = true ∨ k.sym.pick = 1)) := by decide +kernel

/-! ### The step -/

theorem witness_StepRunsFront :
    State.reset.pending = [] ∧ State.reset.dbg.wait = none ∧ State.reset.reed.modes = [] ∧ tickFree State.reset = false ∧ tickFree (bnd [] 0 0) = true ∧
    tickFree { bnd [] 0 0 with dev := .deepSleep } = true := by decide +kernel

theorem witness_StepKeepsCanonical : Canonical State.reset ∧ (match step State.reset with | .next t => decide (t = State.reset) | _ => false) = true := by
  unfold Canonical; decide +kernel

/-! ### Well-formedness: a term for each check, which the check refuses, beside one that it passes -/

theorem test_wf_core : (Instr.ccStart 7).wf = true ∧ (Instr.ccStart 8).wf = false := by decide
theorem test_wf_signal_core : (Instr.scStart 95).wf = true ∧ (Instr.scStart 96).wf = false := by decide
theorem test_wf_port : (Instr.mpRequestAccept 15).wf = true ∧ (Instr.mpRequestAccept 16).wf = false := by decide
theorem test_wf_bay : (Instr.bayHoldReset 767).wf = true ∧ (Instr.bayHoldReset 768).wf = false := by decide
theorem test_wf_block : (Instr.blockCorrWriteback 0 23).wf = true ∧ (Instr.blockCorrWriteback 0 24).wf = false := by decide
theorem test_wf_slice : (Instr.sliceSwapReq 0 31).wf = true ∧ (Instr.sliceSwapReq 0 32).wf = false := by decide
theorem test_wf_bank : (Instr.spadGrant 63).wf = true ∧ (Instr.spadGrant 64).wf = false := by decide
theorem test_wf_gpio : (Instr.gpioFencedClear 19).wf = true ∧ (Instr.gpioFencedClear 20).wf = false := by decide
theorem test_wf_lane : (Instr.laneTxWord 47 3).wf = true ∧ (Instr.laneTxWord 48 0).wf = false := by decide
theorem test_wf_source : (Instr.irqEvent 2047).wf = true ∧ (Instr.irqEvent 2048).wf = false := by decide
theorem test_wf_region : (Instr.rotationSweepStep 31).wf = true ∧ (Instr.rotationSweepStep 32).wf = false := by decide
theorem test_wf_router : (Instr.nocRouterForward 95 0 []).wf = true ∧ (Instr.nocRouterForward 96 0 []).wf = false := by decide
theorem test_wf_initiator : (Instr.nocResponseArrival 0x4FF).wf = true ∧ (Instr.nocResponseArrival 0x500).wf = false := by decide
theorem test_wf_warp_port : (Instr.reedResendTimeout 11).wf = true ∧ (Instr.reedResendTimeout 12).wf = false := by decide
theorem test_wf_slot : (Instr.reedCollectiveTimeout 7).wf = true ∧ (Instr.reedCollectiveTimeout 8).wf = false := by decide
theorem test_wf_dma : (Instr.dmaQueueStop 63).wf = true ∧ (Instr.dmaQueueStop 64).wf = false := by decide
theorem test_wf_register : (Instr.add 0 31 0 0 0).wf = true ∧ (Instr.add 0 32 0 0 0).wf = false := by decide
theorem test_wf_field : (Instr.slli 0 1 1 127 0).wf = true ∧ (Instr.slli 0 1 1 128 0).wf = false := by decide

/-! ### Words of instructions, written out bit by bit from Tables 7.5 to 7.14, 9.1, 12.5 and 12.6 -/

/-- 0x1393_FFF8 spells ADDI W12, W3, -8: op 000100, rd 11100, rs1 10011 (W12 is register 28, W3 register 19). -/
theorem test_word_addi : vireloWord 2 0b000100_11100_10011_1111111111111000 = .addi 2 28 19 0xFFF8 := by decide
/-- R223. 0x0000_0000 is ADD G0, G0, G0; NOP is 0x1000_0000; 0xFFFF_FFFF is ILLEGAL. -/
theorem test_word_rule : vireloWord 0 0 = .add 0 0 0 0 0 ∧ vireloWord 0 0x10000000 = .addi 0 0 0 0 ∧ vireloWord 0 0xFFFFFFFF = .add 0 0 0 0 1 := by decide
/-- ROR, op 000010, fn 000011. -/
theorem test_word_ror : vireloWord 0 0b000010_00001_00010_00011_00000_000011 = .ror 0 1 2 3 0 := by decide
/-- DIVU, op 000001, fn 000101; fn 3 is unlisted. -/
theorem test_word_divu : vireloWord 0 0b000001_00001_00010_00011_00000_000101 = .divu 0 1 2 3 0 ∧
    vireloWord 0 0b000001_00001_00010_00011_00000_000011 = .add 0 0 0 0 1 := by decide
/-- SD, op 011000; CAS, op 011100, fn 2; a branch, op 100000. -/
theorem test_word_memory : vireloWord 0 0b011000_00001_00010_0000000000001000 = .sd 0 1 2 8 ∧
    vireloWord 0 0b011100_00001_00010_00011_00000_000010 = .cas 0 1 2 3 0 ∧
    vireloWord 0 0b100000_0001_1111111111111111111111 = .bcc 0 1 0x3FFFFF := by decide
/-- LLOAD W2, W1 and LWAIT W3, W2 (Table 9.1). -/
theorem test_word_loom : vireloWord 0 0xFA510000 = .lload 0 18 17 0 ∧ vireloWord 0 0xFA720010 = .lwait 0 19 18 0 := by decide
/-- A bundle of zeros does nothing; MUL with d = 1, a = 2, b = 3 and SAT; a reserved MAC word. -/
theorem test_word_bundle : bundleWord 4 0 = .scMacNop 4 0 0 ∧
    bundleWord 4 (0b000001_01_00010_00011_100000 * 2 ^ 40) = .scMul 4 1 2 3 true false 0 0 0 ∧
    bundleWord 4 (0b111111_00_00000_00000_000000 * 2 ^ 40) = .scAccclr 4 0 1 0 0 := by decide
/-- No row of the table has bits. -/
theorem test_word_table (nbits w : Nat) : decodeTableWord nbits w = none := rfl

/-! ### The spec's worked examples -/

/-- The example of R443: a byte of memory port 9's DRAM. Its block lies in bank group 5, bank 3, column 0x2B, row 0x21F4A of logical
rank 9: DIMM 1, physical rank 0, chip 2. -/
def ex443 : State := fs [(F.MP_GEOM_CAP_LOG2, 9, 0, 41), (F.MP_GEOM_L, 9, 0, 4), (F.MP_GEOM_DIMMS, 9, 0, 1), (F.MP_GEOM_PRANKS, 9, 0, 1), (F.MP_GEOM_STACK, 9, 0, 2)] State.reset

theorem test_decode_443 : blkBank ex443 9 (0x10FA54EAEC0 / 64) = 9 * 32 + 5 * 4 + 3 ∧
    blkRow ex443 9 (0x10FA54EAEC0 / 64) = 0x21F4A ∧ 0x10FA54EAEC0 / 64 / 16 % 128 = 0x2B ∧
    0x10FA54EAEC0 / 64 % 2 = 1 ∧ rankParts ex443 9 9 = (1, 0, 2) := by decide +kernel

/-- R229. DIV by 0 gives all ones and REM the dividend. -/
theorem test_div_zero : (nx (exec (.div 7 2 1 0 0) (cr 5))).vget 7 2 = -1 ∧ (nx (exec (.rem 7 2 1 0 0) (cr 5))).vget 7 2 = 5 := by decide +kernel
/-- The example of R63: LC in ARITH mode with table 0x8866 adds: A = B = 1, CI = 0 gives S = 0 and CO = 1. -/
theorem test_adder_cell : lcEval (0x8866 + 2 ^ 16) true true false false false = (false, false, true) := by decide
/-- The example of R115: the check bits of 0x3C, and d2 flipped. -/
theorem test_check_bits : checkBits 0x3C = 0b10010 ∧ classify ((checkBits 0x3C) ^^^ checkBits 0x38) = .corr (some 2) := by decide
/-- The example of R32: 0x0_A3C4_0001_2340 has key ID 5, port 1, offset 0x1C4_0001_2340. -/
theorem test_dram_address : targetOf 0xA3C400012340 = .dram 1 ∧ keyBits 0xA3C400012340 = 5 ∧ dramOff 0xA3C400012340 = 0x1C400012340 := by
  decide
/-- The ring of 24 words in OB0. -/
theorem test_ring_pointer : apAdd 0x200800E000000150 0x60 0x10 = 0x200800E000000100 ∧
    apAdd 0x200800E000000100 0x60 (-0x1C) = 0x200800E000000144 := by decide
/-- 625 MHz from the timebase: 1 GHz with PREDIV 2, FBDIV 10, POSTDIV 8, ODIV 1. -/
theorem test_fpll_frequency : (pllOut ⟨1000000, 1⟩ 2 10 8 1).num = 625000 * (pllOut ⟨1000000, 1⟩ 2 10 8 1).den := by decide
/-- Bay 295 of chapter 24: WEAR 123, and about 81,300 h left with AF = 0.2642. -/
theorem test_ageing : wearOf 500 600 = 123 ∧ eolHours (20000 * 2 ^ 32) 1134730000 500 600 / 1000 = 81 ∧
    eolHours (20000 * 2 ^ 32) 1134730000 500 600 / 100 = 812 := by decide
/-- The bundle of a two-tap filter (chapter 12): its MAC slot is DMAC ACC0, V0, V16 with SAT = 1. -/
theorem test_word_filter : bundleWord 4 0x140420080300C0B0 = .scDmac 4 0 0 16 true false 0 0x8030 0xC0B0 := by decide
/-- FIPS 197, C.3: AES-256. -/
theorem test_aes : aes256 ((List.range 32).map (BitVec.ofNat 8)) ((List.range 16).map (fun j => BitVec.ofNat 8 (0x11 * j))) =
    [0x8E, 0xA2, 0xB7, 0xCA, 0x51, 0x67, 0x45, 0xBF, 0xEA, 0xFC, 0x49, 0x90, 0x4B, 0x49, 0x60, 0x89] := by decide +kernel
/-- FIPS 180-4: SHA-384 of "abc". -/
theorem test_sha : sha384 [0x61, 0x62, 0x63] = bytesBE 48 0xCB00753F45A35E8BB5A03D699AC65007272C32AB0EDED1631A8B605A43FF5BED8086072BA1E7CC2358BAECA134C825A7 := by
  decide +kernel
/-- FIPS 186: the base point of P-384 lies on the curve. -/
theorem test_p384 : onCurve g384 = true := by decide +kernel

/-- ADD wraps at 64 bits, with a carry out and no overflow (R228). -/
theorem test_add_wraps : (nx (exec (.add 7 2 1 1 0) (cr (-1)))).vget 7 2 = 0xFFFFFFFFFFFFFFFE := by decide +kernel
/-- Register amounts of a shift are not masked: SRL by 64 gives 0 (R231). -/
theorem test_srl_64 : (nx (exec (.srl 7 2 1 1 0) (cr 64))).vget 7 2 = 0 ∧ (nx (exec (.ror 7 2 1 1 0) (cr 64))).vget 7 2 = 64 := by decide +kernel
/-- A command acts with the queue's rest: the second command still waits. -/
theorem test_queue : (nx (step { State.reset with pending := [.irqEvent 0x040, .wdtKick] })).pending = [.wdtKick] := by decide +kernel
/-- A bank with no request in its queue grants none. -/
theorem test_grant_empty : (nx (exec (.spadGrant 3) State.reset)) = State.reset := by decide +kernel

end Sys2Proof.Tests
end

section
/-!
SUPPORT. The step keeps the canonical form of the register cells and of the memories and takes the front of the queue: what each
command's meaning keeps (`Keeps`), put together over the commands and the tick.
-/
namespace Sys2Proof.Machine

/-- Every command keeps the canonical form and the queue that it is given: by cases on the command, each arm of `exec` being the
meaning that one of the `keeps_exec` lemmas speaks of. -/
theorem keeps_exec (i : Instr) (s : State) : ResKeeps s (exec i s) := by
  cases i <;> simp [exec]

/-- What `Keeps` says of a state in canonical form. -/
theorem Keeps.canonical {s t : State} (k : Keeps s t) (h : Canonical s) : Canonical t := by
  obtain ⟨-, kregs, kmem, kecc⟩ := k
  obtain ⟨hregs, hmem, hecc⟩ := h
  exact ⟨kregs hregs, kmem hmem, kecc hecc⟩

/-- A step is a command or the tick on the state without its front command, so it keeps what they keep. -/
theorem keeps_step (s : State) : ResKeeps { s with pending := s.pending.tail } (step s) := by
  unfold step
  cases hq : s.pending with
  | nil =>
    have hs : { s with pending := [] } = s := by rw [← hq]
    simp [hs]
  | cons c q => exact keeps_exec c { s with pending := q }

/-- Settles O59, for each command by what its meaning keeps (`keeps_exec`) and for the empty queue by what the tick keeps. The canonical form
is that of the model's own sparse maps (log entry 46), and the queue is the model's too (log entry 7): no rule of the spec gives either. -/
theorem stepKeepsCanonical : Obligations.StepKeepsCanonical := by
  intro s t hs hstep
  have k : Keeps { s with pending := s.pending.tail } t := keeps_step s t hstep
  exact ⟨k.canonical hs, k.1⟩

end Sys2Proof.Machine
end

section
/-!
SUPPORT. Folds of state updates, bits of numbers, and what the shared shows and interrupt samples leave alone.
-/
namespace Sys2Proof.Machine
open Claims

/-! ### Folds of state updates -/

/-- What every step of a fold leaves alone, the fold leaves alone. -/
theorem forL_proj {α β : Type} (g : State → β) {l : List α} {f : α → State → State} (h : ∀ a ∈ l, ∀ s, g (f a s) = g s) (s : State) :
    g (forL l f s) = g s := by
  induction l generalizing s with
  | nil => rfl
  | cons a l ih => exact (ih (fun b hb => h b (List.mem_cons_of_mem _ hb)) (f a s)).trans (h a List.mem_cons_self s)

theorem forN_proj {β : Type} (g : State → β) {n : Nat} {f : Nat → State → State} (h : ∀ i < n, ∀ s, g (f i s) = g s) (s : State) :
    g (forN n f s) = g s := forL_proj g (fun i hi => h i (List.mem_range.1 hi)) s

/-- A fact about each element that its own step brings about and no other step undoes holds of all of them after the fold. -/
theorem forL_all {α : Type} (I : State → Prop) (P : α → State → Prop) {l : List α} {f : α → State → State}
    (hI : ∀ a ∈ l, ∀ s, I s → I (f a s)) (hset : ∀ a ∈ l, ∀ s, I s → P a (f a s))
    (hkeep : ∀ a ∈ l, ∀ b ∈ l, b ≠ a → ∀ s, I s → P b s → P b (f a s)) {s : State} (hs : I s) : ∀ b ∈ l, P b (forL l f s) := by
  have keeps : ∀ (m : List α), m ⊆ l → ∀ b ∈ l, ∀ s, I s → P b s → P b (forL m f s) := by
    intro m
    induction m with
    | nil => exact fun _ _ _ _ _ h => h
    | cons a m ih =>
      intro hm b hbl s hs hb
      have ha : a ∈ l := hm List.mem_cons_self
      refine ih (fun x hx => hm (List.mem_cons_of_mem _ hx)) b hbl _ (hI a ha s hs) ?_
      by_cases e : b = a
      · subst e
        exact hset b ha s hs
      · exact hkeep a ha b hbl e s hs hb
  have all : ∀ (m : List α), m ⊆ l → ∀ s, I s → ∀ b ∈ m, P b (forL m f s) := by
    intro m
    induction m with
    | nil => simp
    | cons a m ih =>
      intro hm s hs b hb
      have ha : a ∈ l := hm List.mem_cons_self
      have hm' : m ⊆ l := fun x hx => hm (List.mem_cons_of_mem _ hx)
      rcases List.mem_cons.1 hb with rfl | hb
      · exact keeps m hm' b ha _ (hI b ha s hs) (hset b ha s hs)
      · exact ih hm' _ (hI a ha s hs) b hb
  exact all l (fun _ h => h) s hs

end Sys2Proof.Machine

namespace Sys2Proof.Claims
open Machine

/-! ### Register fields that stay -/

theorem FldSame.refl (s : State) (ws : List (Field × Nat)) : FldSame s s ws := fun _ _ _ _ => rfl

theorem FldSame.trans {s t u : State} {ws : List (Field × Nat)} (h : FldSame s t ws) (k : FldSame t u ws) : FldSame s u ws :=
  fun g v i hw => (k g v i hw).trans (h g v i hw)

theorem FldSame.mono {s t : State} {ws xs : List (Field × Nat)} (h : FldSame s t ws) (hs : ws ⊆ xs) : FldSame s t xs :=
  fun g v i hw => h g v i (fun w hm => hw w (hs hm))

theorem fldSame_of_regs {s t : State} (h : t.regs = s.regs) (ws : List (Field × Nat)) : FldSame s t ws := by
  intro g v i _
  unfold State.fld
  rw [h]

/-- A write of one field leaves the fields of other numbers or units alone. -/
theorem fldSame_setFld (s : State) (f : Field) (u i v : Nat) {ws : List (Field × Nat)} (h : (f, u) ∈ ws) :
    FldSame s (s.setFld f u i v) ws := by
  intro g x j hw
  by_cases e : g.id = f.id
  · exact fld_setFld_unit _ _ _ _ _ _ _ _ (hw _ h e)
  · exact fld_setFld_id _ _ _ _ _ _ _ _ e

theorem fldSame_forL {α : Type} {l : List α} {f : α → State → State} {ws : List (Field × Nat)}
    (h : ∀ a ∈ l, ∀ s, FldSame s (f a s) ws) (s : State) : FldSame s (forL l f s) ws :=
  fun g v i hw => forL_proj (fun s => s.fld g v i) (fun a ha s => h a ha s g v i hw) s

/-- A field of a number outside the list reads the same. -/
theorem FldSame.fld_id {s t : State} {ws : List (Field × Nat)} (h : FldSame s t ws) {g : Field} (hg : ∀ w ∈ ws, g.id ≠ w.1.id) (v i : Nat) :
    t.fld g v i = s.fld g v i := h g v i (fun w hw e => absurd e (hg w hw))

end Sys2Proof.Claims

namespace Sys2Proof.Machine
open Claims

/-- A fold whose steps each write one unit's copy of a field: each unit of the list reads what its step gives. -/
theorem forL_fld {α : Type} {l : List α} {f : α → State → State} (g : Field) (unit : α → Nat) (v : Nat)
    (hset : ∀ a ∈ l, ∀ s, (f a s).fld g (unit a) = v) (hkeep : ∀ a ∈ l, ∀ u s, u ≠ unit a → (f a s).fld g u = s.fld g u) (s : State) :
    ∀ a ∈ l, (forL l f s).fld g (unit a) = v := by
  refine forL_all (fun _ => True) (fun a s => s.fld g (unit a) = v) (fun _ _ _ _ => trivial) (fun a ha s _ => hset a ha s) ?_ trivial
  intro a ha b _ _ s _ hb
  by_cases e : unit b = unit a
  · exact e ▸ hset a ha s
  · rw [hkeep a ha _ s e, hb]

/-! ### Bits of numbers -/

theorem bitOf_eq_testBit (v n : Nat) : bitOf v n = v.testBit n := by
  rw [Nat.testBit_eq_decide_div_mod_eq, bitOf]
  rfl

theorem bitOf_mod_two_pow (v w n : Nat) (h : n < w) : bitOf (v % 2 ^ w) n = bitOf v n := by
  simp [bitOf_eq_testBit, Nat.testBit_mod_two_pow, h]

theorem bitOf_zero (n : Nat) : bitOf 0 n = false := by simp [bitOf]

/-- Setting bit `n` changes that bit alone. -/
theorem bitOf_withBit (v n m : Nat) (b : Bool) : bitOf (withBit v n b) m = if m = n then b else bitOf v m := by
  have hw : withBit v n b = 2 ^ n * (2 * (v / 2 ^ n / 2) + ofBool b) + v % 2 ^ n := by
    have h1 := Nat.div_add_mod v (2 ^ n)
    have h2 := Nat.div_add_mod (v / 2 ^ n) 2
    have h3 : 2 ^ n * (v / 2 ^ n) = 2 ^ n * (2 * (v / 2 ^ n / 2)) + v / 2 ^ n % 2 * 2 ^ n := by
      rw [Nat.mul_comm (v / 2 ^ n % 2), ← Nat.mul_add, h2]
    unfold withBit
    rw [Nat.mul_add, Nat.mul_comm (2 ^ n) (ofBool b)]
    omega
  have hlo : v % 2 ^ n < 2 ^ n := Nat.mod_lt _ (Nat.two_pow_pos n)
  rw [bitOf_eq_testBit, hw, Nat.testBit_two_pow_mul_add _ hlo, bitOf_eq_testBit]
  by_cases hm : m < n
  · rw [if_pos hm, if_neg (by omega), Nat.testBit_mod_two_pow]
    simp [hm]
  · rw [if_neg hm]
    obtain ⟨d, rfl⟩ : ∃ d, m = n + d := ⟨m - n, by omega⟩
    rw [Nat.add_sub_cancel_left]
    cases d with
    | zero => cases b <;> simp [ofBool, Nat.testBit_zero]
    | succ d =>
      have hdiv : (2 * (v / 2 ^ n / 2) + ofBool b) / 2 = v / 2 ^ n / 2 := by
        have : ofBool b ≤ 1 := by cases b <;> decide
        omega
      rw [if_neg (by omega), Nat.testBit_succ, hdiv, ← Nat.testBit_succ, Nat.testBit_div_two_pow, Nat.add_comm]

/-- The number that a sum of bits spells. -/
theorem sumBits_lt (p : Nat → Bool) (n : Nat) : (List.range n).foldl (fun a i => a + ofBool (p i) * 2 ^ i) 0 < 2 ^ n := by
  induction n with
  | zero => simp
  | succ n ih =>
    rw [List.range_succ, List.foldl_append]
    simp only [List.foldl_cons, List.foldl_nil]
    have : ofBool (p n) ≤ 1 := by unfold ofBool; split <;> omega
    have := Nat.mul_le_mul_right (2 ^ n) this
    omega

theorem bitOf_sumBits (p : Nat → Bool) {n i : Nat} (h : i < n) :
    bitOf ((List.range n).foldl (fun a i => a + ofBool (p i) * 2 ^ i) 0) i = p i := by
  induction n with
  | zero => omega
  | succ n ih =>
    rw [List.range_succ, List.foldl_append]
    simp only [List.foldl_cons, List.foldl_nil]
    have hlt := sumBits_lt p n
    generalize (List.range n).foldl (fun a i => a + ofBool (p i) * 2 ^ i) 0 = a at ih hlt
    rw [Nat.add_comm, Nat.mul_comm, bitOf_eq_testBit, Nat.testBit_two_pow_mul_add _ hlt]
    by_cases hi : i < n
    · rw [if_pos hi, ← bitOf_eq_testBit, ih hi]
    · obtain rfl : i = n := by omega
      rw [if_neg hi, Nat.sub_self]
      cases p i <;> rfl

/-! ### Pins and interrupt sources -/

/-- Showing the pins changes the pins' record and what has left the block, and nothing else. -/
theorem gpioShowAll_proj {β : Type} (g : State → β) (h : ∀ (s : State) x y, g { s with gpio := x, out := y } = g s) (s : State) :
    g (gpioShowAll s) = g s := by
  refine forN_proj g (fun b _ s => ?_) s
  simp only [gpioShow]
  split
  · rfl
  · exact h s _ _

@[simp] theorem fld_gpioShowAll (s : State) (f : Field) (u i : Nat) : (gpioShowAll s).fld f u i = s.fld f u i :=
  gpioShowAll_proj (fun s => s.fld f u i) (fun _ _ _ => rfl) s

/-- Counting an event in a window of its target changes the windows alone. -/
theorem irqNote_proj {β : Type} (g : State → β) (h : ∀ (s : State) w, g { s with irqWin := w } = g s) (n : Nat) (merged others : Bool) (s : State) :
    g (irqNote n merged others s) = g s := by
  simp only [irqNote, apply_ite g, h, ite_self]

/-- An event changes the register store and the windows alone. -/
theorem irqSet_proj {β : Type} (g : State → β) (h : ∀ (s : State) r w, g { s with regs := r, irqWin := w } = g s) (n : Nat) (s : State) :
    g (irqSet n s) = g s := by
  unfold irqSet
  split
  · rfl
  · rw [irqNote_proj g (fun s w => h s s.regs w)]
    split <;> exact h s _ s.irqWin

theorem fldSame_irqSet (n : Nat) (s : State) : FldSame s (irqSet n s) irqFs := by
  unfold irqSet
  split
  · exact FldSame.refl _ _
  · intro g v i hw
    rw [irqNote_proj (fun s => s.fld g v i) (fun _ _ => rfl)]
    split <;> exact fldSame_setFld _ _ _ _ _ (by simp [irqFs]) g v i hw

/-- A level source that is evaluated changes what the interrupt controller records, and nothing else. -/
theorem irqSample_proj {β : Type} (g : State → β) (h : ∀ (s : State) r w l, g { s with regs := r, irqWin := w, irqHeld := l } = g s)
    (n : Nat) (s : State) : g (irqSample n s) = g s := by
  unfold irqSample
  split_ifs
  · exact irqSet_proj g (fun s r w => h s r w s.irqHeld) n s
  · rfl
  · exact h s s.regs s.irqWin _
  · rfl

theorem irqSample_frame (n : Nat) (s : State) : ∃ r w l, irqSample n s = { s with regs := r, irqWin := w, irqHeld := l } :=
  ⟨_, _, _, congrArg (fun u : State => { u with regs := (irqSample n s).regs, irqWin := (irqSample n s).irqWin, irqHeld := (irqSample n s).irqHeld })
    (irqSample_proj (fun u : State => ({ u with regs := {}, irqWin := {}, irqHeld := [] } : State)) (fun _ _ _ _ => rfl) n s)⟩

theorem fldSame_irqSample (n : Nat) (s : State) : FldSame s (irqSample n s) irqFs := by
  unfold irqSample
  split_ifs
  · exact fldSame_irqSet n s
  · exact FldSame.refl _ _
  · exact fldSame_of_regs rfl _
  · exact FldSame.refl _ _

end Sys2Proof.Machine
end

section
/-!
SUPPORT. What stage 3 of a hold does in a bay: the clock inputs that run, the flip-flops that take INIT, and what it leaves alone.
-/
namespace Sys2Proof.Machine
open Claims

/-! ### Clock inputs of bays -/

/-- The register fields that decide whether clock inputs of bays deliver edges. -/
def bayClkFs : List Field :=
  [F.BAY_CLK_BIND_BOUND, F.BAY_CLK_BIND_LINE, F.BAY_CTL_CLK_EN, F.PWR_BAY_STATE_STATE, F.CLK_GOOD_GOOD, F.FPLL_STATUS_LOCK]

/-- Clock inputs depend on those fields, the frozen bays and their last edges alone. -/
theorem bayClk_congr {s t : State} (hfr : t.frozen = s.frozen) (hle : t.lastEdge = s.lastEdge)
    (hf : ∀ f ∈ bayClkFs, ∀ u i, t.fld f u i = s.fld f u i) (b k : Nat) : bayClk t b k = bayClk s b k := by
  simp only [bayClkFs, List.forall_mem_cons] at hf
  obtain ⟨hbound, hline, hen, hon, hgood, hlock, -⟩ := hf
  have hruns : ∀ l, lineRuns t l = lineRuns s l := fun l => by simp only [lineRuns, srcGood, State.bit, hgood, hlock]
  simp only [bayClk, bayBound, bayLine, bayOn, State.bit, hfr, hle, hbound, hline, hen, hon, hruns]

/-- An operation that keeps the frozen bays and changes none of those fields keeps the clock inputs. -/
theorem bayClk_of_fldSame {s t : State} {ws : List (Field × Nat)} (hfr : t.frozen = s.frozen) (hle : t.lastEdge = s.lastEdge)
    (h : FldSame s t ws) (hws : ∀ f ∈ bayClkFs, ∀ w ∈ ws, f.id ≠ w.1.id) (b k : Nat) : bayClk t b k = bayClk s b k :=
  bayClk_congr hfr hle (fun f hf u i => h.fld_id (hws f hf) u i) b k

/-! ### Slices -/

/-- The fields that stage 3 of a hold and a boundary change in the slices of a bay. -/
def slcFs (b : Nat) : List (Field × Nat) := [(F.BAY_COEF_ACT_ACT, b), (F.BAY_COEF_ACT_PEND, b)]

theorem slcReset_proj {β : Type} (g : State → β) (h : ∀ (s : State) r x, g { s with regs := r, slices := x } = g s) (b k : Nat) (s : State) :
    g (slcReset b k s) = g s := by
  unfold slcReset
  simp only
  split <;> exact h s _ _

theorem fldSame_slcReset (b k : Nat) (s : State) : FldSame s (slcReset b k s) (slcFs b) := by
  unfold slcReset
  simp only [State.setFlag]
  split
  · exact ((fldSame_of_regs rfl _).trans (fldSame_setFld _ _ _ _ _ (by simp [slcFs]))).trans (fldSame_setFld _ _ _ _ _ (by simp [slcFs]))
  · exact (fldSame_of_regs rfl _).trans (fldSame_setFld _ _ _ _ _ (by simp [slcFs]))

theorem slcResetOn_proj {β : Type} (g : State → β) (h : ∀ (s : State) r x, g { s with regs := r, slices := x } = g s) (b k : Nat) (s : State) :
    g (slcResetOn b k s) = g s := by
  refine forN_proj g (fun i _ s => ?_) s
  split
  · exact slcReset_proj g h b i s
  · rfl

theorem fldSame_slcResetOn (b k : Nat) (s : State) : FldSame s (slcResetOn b k s) (slcFs b) := by
  refine fldSame_forL (fun i _ s => ?_) s
  split
  · exact fldSame_slcReset b i s
  · exact FldSame.refl _ _

/-! ### Flip-flops -/

/-- Q of a cluster with the flip-flops on clock input `k` at INIT. -/
def ffInit (fr k q : Nat) : Nat :=
  (List.range 16).foldl (fun a i =>
    a + ofBool (if ctlClk fr (bitsOf (bitsOf fr (26 * i) 26) 19 1) = k then bitOf (bitsOf fr (26 * i) 26) 23 else bitOf q i) * 2 ^ i) 0

theorem bitOf_ffInit (fr k q : Nat) {i : Nat} (hi : i < 16) :
    bitOf (ffInit fr k q) i =
      if ctlClk fr (bitsOf (bitsOf fr (26 * i) 26) 19 1) = k then bitOf (bitsOf fr (26 * i) 26) 23 else bitOf q i :=
  bitOf_sumBits (fun i => if ctlClk fr (bitsOf (bitsOf fr (26 * i) 26) 19 1) = k then bitOf (bitsOf fr (26 * i) 26) 23 else bitOf q i) hi

/-- The flip-flops of cluster `c` of a bay on clock input `k` take INIT. -/
def clusterInit (b k c : Nat) (s : State) : State :=
  { s with ffs := s.ffs.set (b * 1024 + c) (ffInit (clusterFrame s b c) k (s.ffs.get (b * 1024 + c))) }

theorem clusterFrame_congr {s t : State} (h : t.mem = s.mem) (b c : Nat) : clusterFrame t b c = clusterFrame s b c := by
  unfold clusterFrame State.rdBytes State.rdB
  rw [h]

theorem mem_forN_clusterInit (b k n : Nat) (s : State) : (forN n (clusterInit b k) s).mem = s.mem :=
  forN_proj (f := clusterInit b k) (·.mem) (fun _ _ _ => rfl) s

theorem ffs_forN_clusterInit (b k c n : Nat) (s : State) :
    (forN n (clusterInit b k) s).ffs.get (b * 1024 + c) =
      if c < n then ffInit (clusterFrame s b c) k (s.ffs.get (b * 1024 + c)) else s.ffs.get (b * 1024 + c) := by
  induction n with
  | zero => rfl
  | succ n ih =>
    rw [forN_succ, clusterInit, SMap.get_set, clusterFrame_congr (mem_forN_clusterInit b k n s)]
    by_cases hc : c = n
    · subst hc
      simp [ih]
    · rw [if_neg (by omega), ih]
      exact if_congr (by omega) rfl rfl

theorem ffResetOn_proj {β : Type} (g : State → β) (h : ∀ (s : State) x y, g { s with ffs := x, bregs := y } = g s) (b k : Nat) (s : State) :
    g (ffResetOn b k s) = g s := by
  unfold ffResetOn
  refine (forN_proj g (fun j _ s => ?_) _).trans (forN_proj g (fun c _ s => h s _ s.bregs) s)
  split
  · exact h s s.ffs _
  · rfl

theorem ffs_ffResetOn (b k : Nat) (s : State) : (ffResetOn b k s).ffs = (forN 1024 (clusterInit b k) s).ffs := by
  refine forN_proj (·.ffs) (fun j _ s => ?_) (forN 1024 (clusterInit b k) s)
  split <;> rfl

/-- The clusters of the bay take INIT in the flip-flops on the clock input. -/
theorem ffs_ffResetOn_same (b k : Nat) (s : State) {c : Nat} (hc : c < 1024) :
    (ffResetOn b k s).ffs.get (b * 1024 + c) = ffInit (clusterFrame s b c) k (s.ffs.get (b * 1024 + c)) := by
  rw [ffs_ffResetOn, ffs_forN_clusterInit, if_pos hc]

theorem ffs_ffResetOn_ne {b x : Nat} (k : Nat) (s : State) (hx : x ≠ b) {c : Nat} (hc : c < 1024) :
    (ffResetOn b k s).ffs.get (x * 1024 + c) = s.ffs.get (x * 1024 + c) := by
  rw [ffs_ffResetOn]
  exact forN_proj (fun s => s.ffs.get (x * 1024 + c)) (fun i hi s => SMap.get_set_ne _ _ _ _ (by omega)) s

/-! ### Stage 3 of a hold -/

/-- Stage 3 of a hold at clock input `k` of a bay: at once, or owed to its first edge (R94). -/
def inputReset (b k : Nat) (s : State) : State :=
  if bayClk s b k then { ffResetOn b k (slcResetOn b k s) with missed := s.missed.upd b (fun m => withBit m (8 + k) true) }
  else { s with missed := s.missed.upd b (fun m => withBit m (8 + k) false) }

theorem bayReset_eq (b : Nat) (s : State) : bayReset b s = forN 8 (inputReset b) s := rfl

theorem inputReset_proj {β : Type} (g : State → β)
    (h : ∀ (s : State) r x f y m, g { s with regs := r, slices := x, ffs := f, bregs := y, missed := m } = g s) (b k : Nat) (s : State) :
    g (inputReset b k s) = g s := by
  have hm : ∀ (s : State) m, g { s with missed := m } = g s := fun s m => h s s.regs s.slices s.ffs s.bregs m
  unfold inputReset
  split
  · rw [hm, ffResetOn_proj g (fun s f y => h s s.regs s.slices f y s.missed),
      slcResetOn_proj g (fun s r x => h s r x s.ffs s.bregs s.missed)]
  · exact hm s _

theorem fldSame_inputReset (b k : Nat) (s : State) : FldSame s (inputReset b k s) (slcFs b) := by
  unfold inputReset
  split
  · exact (fldSame_slcResetOn b k s).trans (fldSame_of_regs (ffResetOn_proj (·.regs) (fun _ _ _ => rfl) b k _) _)
  · exact fldSame_of_regs rfl _

theorem missed_inputReset (b k : Nat) (s : State) :
    (inputReset b k s).missed = s.missed.set b (withBit (s.missed.get b) (8 + k) (bayClk s b k)) := by
  unfold inputReset
  split <;> rename_i h <;> simp [SMap.upd, h]

theorem ffs_inputReset_same (b k : Nat) (s : State) {c : Nat} (hc : c < 1024) :
    (inputReset b k s).ffs.get (b * 1024 + c) =
      if bayClk s b k then ffInit (clusterFrame s b c) k (s.ffs.get (b * 1024 + c)) else s.ffs.get (b * 1024 + c) := by
  have hmem : (slcResetOn b k s).mem = s.mem := slcResetOn_proj (·.mem) (fun _ _ _ => rfl) b k s
  have hffs : (slcResetOn b k s).ffs = s.ffs := slcResetOn_proj (·.ffs) (fun _ _ _ => rfl) b k s
  unfold inputReset
  split
  · rw [ffs_ffResetOn_same _ _ _ hc, clusterFrame_congr hmem, hffs]
  · rfl

theorem ffs_inputReset_ne {b x : Nat} (k : Nat) (s : State) (hx : x ≠ b) {c : Nat} (hc : c < 1024) :
    (inputReset b k s).ffs.get (x * 1024 + c) = s.ffs.get (x * 1024 + c) := by
  unfold inputReset
  split
  · rw [ffs_ffResetOn_ne _ _ hx hc, slcResetOn_proj (·.ffs) (fun _ _ _ => rfl) b k s]
  · rfl

theorem bayReset_proj {β : Type} (g : State → β)
    (h : ∀ (s : State) r x f y m, g { s with regs := r, slices := x, ffs := f, bregs := y, missed := m } = g s) (b : Nat) (s : State) :
    g (bayReset b s) = g s := forN_proj g (fun k _ s => inputReset_proj g h b k s) s

theorem fldSame_forN_inputReset (b n : Nat) (s : State) : FldSame s (forN n (inputReset b) s) (slcFs b) :=
  fldSame_forL (fun k _ s => fldSame_inputReset b k s) s

theorem bayClk_forN_inputReset (b n : Nat) (s : State) (x k : Nat) : bayClk (forN n (inputReset b) s) x k = bayClk s x k :=
  bayClk_of_fldSame (forN_proj (·.frozen) (fun k _ s => inputReset_proj _ (fun _ _ _ _ _ _ => rfl) b k s) s)
    (forN_proj (·.lastEdge) (fun k _ s => inputReset_proj _ (fun _ _ _ _ _ _ => rfl) b k s) s)
    (fldSame_forN_inputReset b n s) (by simp [bayClkFs, slcFs]; decide) x k

/-- Each clock input below `n` notes whether it has taken the stage. -/
theorem missed_forN_inputReset (b n : Nat) (s : State) (k : Nat) (hk : k < n) :
    bitOf ((forN n (inputReset b) s).missed.get b) (8 + k) = bayClk s b k := by
  induction n with
  | zero => omega
  | succ n ih =>
    rw [forN_succ, missed_inputReset, SMap.get_set_same, bitOf_withBit, bayClk_forN_inputReset]
    by_cases e : k = n
    · rw [if_pos (by omega), e]
    · rw [if_neg (by omega), ih (by omega)]

/-- The flip-flops on the running clock inputs below `n` hold INIT. -/
theorem ffs_forN_inputReset (b n : Nat) (s : State) {c i : Nat} (hc : c < 1024) (hi : i < 16) :
    let lc := bitsOf (clusterFrame s b c) (26 * i) 26
    let k := ctlClk (clusterFrame s b c) (bitsOf lc 19 1)
    k < n → bayClk s b k = true → bitOf ((forN n (inputReset b) s).ffs.get (b * 1024 + c)) i = bitOf lc 23 := by
  intro lc k hk hclk
  induction n with
  | zero => omega
  | succ n ih =>
    have hmem : (forN n (inputReset b) s).mem = s.mem :=
      forN_proj (·.mem) (fun k _ s => inputReset_proj _ (fun _ _ _ _ _ _ => rfl) b k s) s
    rw [forN_succ, ffs_inputReset_same _ _ _ hc, bayClk_forN_inputReset, clusterFrame_congr hmem]
    by_cases e : k = n
    · rw [if_pos (e ▸ hclk), bitOf_ffInit _ _ _ hi, if_pos e]
    · have old := ih (by omega)
      split
      · rw [bitOf_ffInit _ _ _ hi, if_neg e, old]
      · exact old

end Sys2Proof.Machine
end

section
/-!
SUPPORT. Holds and releases of a skein: how one begins, what its stages do in the bays, and HOLD_RESET (R95, R195, Table 3.11).
-/
namespace Sys2Proof.Machine
open Claims

/-! ### A hold begins -/

theorem cmdEnd_proj {β : Type} (g : State → β) (h : ∀ (s : State) c, g { s with cmds := c } = g s) (n res detail : Nat) (s : State) :
    g (cmdEnd n res detail s) = g s := h s _

/-- After `cmdEnd` the command with the ticket has ended, and one that had ended before still has. -/
theorem cmdEnd_phase {n res detail : Nat} {s : State} {c : LCmd} (hc : c ∈ (cmdEnd n res detail s).cmds) :
    ∃ x ∈ s.cmds, c.ticket = x.ticket ∧ (x.ticket = n ∨ x.phase = 3 → c.phase = 3) := by
  obtain ⟨x, hx, rfl⟩ := List.mem_map.1 hc
  refine ⟨x, hx, ?_⟩
  by_cases h1 : x.ticket = n
  · by_cases h2 : x.phase = 3 <;> simp [h1, h2]
  · simp [h1]

theorem holdBegin_proj {β : Type} (g : State → β) (h : ∀ (s : State) x c, g { s with holds := x, cmds := c } = g s) (o : HoldOp) (s : State) :
    g (holdBegin o s) = g s :=
  (h _ _ _).trans (forL_proj g (fun x _ s => cmdEnd_proj g (fun s c => h s s.holds c) (x.ticket - 1) rABORTED 0 s) s)

theorem holdBegin_holds (o : HoldOp) (s : State) : (holdBegin o s).holds = s.holds.filter (fun x => x.inst != o.inst) ++ [o] := by
  have h : ∀ (l : List HoldOp), (forL l (fun x s => cmdEnd (x.ticket - 1) rABORTED 0 s) s).holds = s.holds := fun l =>
    forL_proj (·.holds) (fun x _ s => cmdEnd_proj (·.holds) (fun _ _ => rfl) _ _ _ s) s
  simp only [holdBegin, holdStart, h]

/-- The command of a hold or release that was under way for the skein has ended (R195). -/
theorem holdBegin_ends {o x : HoldOp} {s : State} (hx : x ∈ s.holds) (hi : x.inst = o.inst) (h0 : x.ticket ≠ 0) (hne : x.ticket ≠ o.ticket) :
    ∀ c ∈ (holdBegin o s).cmds, c.ticket = x.ticket - 1 → c.phase = 3 := by
  refine forL_all (fun _ => True) (fun (x : HoldOp) (s : State) => ∀ c ∈ s.cmds, c.ticket = x.ticket - 1 → c.phase = 3)
    (f := fun x s => cmdEnd (x.ticket - 1) rABORTED 0 s) (fun _ _ _ _ => trivial) ?_ ?_ trivial x (List.mem_filter.2 ⟨hx, by simp [hi, h0, hne]⟩)
  · intro a _ s _ c hc ht
    obtain ⟨y, -, hty, hy⟩ := cmdEnd_phase hc
    exact hy (Or.inl (hty ▸ ht))
  · intro a _ b _ _ s _ hb c hc ht
    obtain ⟨y, hym, hty, hy⟩ := cmdEnd_phase hc
    exact hy (Or.inr (hb y hym (hty ▸ ht)))

/-- HOLD_RESET in a bay of a loaded skein that is not wholly held, or for which a hold or release is under way (R95). -/
theorem holdReset_loaded {s : State} {b : Nat} {k : Skein} (ho : mapOwner s b ≠ 0) (hl : ostate s b ≠ oLOADING) (hocc : s.occ = none)
    (hk : instOf s (mapOwner s b) = some k) (hks : k.ostate = oLOADED)
    (hh : allHeld s k = false ∨ ∃ h ∈ s.holds, h.inst = mapOwner s b) :
    holdReset b s = holdBegin { inst := mapOwner s b, hold := true } s := by
  have hnot : (allHeld s k && s.holds.all (fun h => h.inst != mapOwner s b)) = false := by
    rcases hh with h | ⟨h, hm, hi⟩
    · simp [h]
    · rw [Bool.and_eq_false_iff]
      exact Or.inr (List.all_eq_false.2 ⟨h, hm, by simp [hi]⟩)
  unfold holdReset
  simp only [if_neg ho, if_neg hl, hocc, hk, hks, hnot]
  rfl

/-! ### The stages in a bay -/

/-- The field that a stage of a hold sets. -/
def stageField (n : Nat) : Field :=
  match n with
  | 1 => F.BAY_STATUS_OUT_HELD
  | 2 => F.BAY_STATUS_WE_HELD
  | _ => F.BAY_STATUS_RST_HELD

/-- Stages 1 and 2 set their field and end a hold that only retention applied. -/
theorem bayStage_early {n : Nat} (hn : n = 1 ∨ n = 2) (hold : Bool) (b : Nat) (s : State) :
    ∃ x, bayStage hold n b s = { s.setFld (stageField n) b 0 (ofBool hold) with retHold := x } := by
  rcases hn with rfl | rfl <;> exact ⟨_, rfl⟩

/-- Stage 3 without what it does to the bay's contents. -/
def rstHeld (hold : Bool) (b : Nat) (s : State) : State :=
  { s.setFld F.BAY_STATUS_RST_HELD b 0 (ofBool hold) with keepForm := s.keepForm.filter (· != b) }

theorem bayStage_hold (b : Nat) (s : State) : bayStage true 3 b s = bayReset b (rstHeld true b s) := rfl

theorem bayStage_release (b : Nat) (s : State) :
    bayStage false 3 b s = if bayClk s b 0 then rstHeld false b s
      else { rstHeld false b s with missed := (rstHeld false b s).missed.upd b (fun m => withBit m 16 true) } :=
  rfl

theorem bayStage_release_proj {β : Type} (g : State → β) (h : ∀ (s : State) m, g { s with missed := m } = g s) (b : Nat) (s : State) :
    g (bayStage false 3 b s) = g (rstHeld false b s) := by
  rw [bayStage_release]
  split
  · rfl
  · exact h _ _

theorem fldSame_rstHeld (hold : Bool) (b : Nat) (s : State) : FldSame s (rstHeld hold b s) [(F.BAY_STATUS_RST_HELD, b)] :=
  (fldSame_setFld s F.BAY_STATUS_RST_HELD b 0 (ofBool hold) List.mem_cons_self).trans
    (fldSame_of_regs (s := s.setFld F.BAY_STATUS_RST_HELD b 0 (ofBool hold)) (t := rstHeld hold b s) rfl _)

theorem bayClk_rstHeld (hold : Bool) (b : Nat) (s : State) (x k : Nat) : bayClk (rstHeld hold b s) x k = bayClk s x k :=
  bayClk_of_fldSame (s := s) (t := rstHeld hold b s) rfl rfl (fldSame_rstHeld hold b s) (by simp [bayClkFs]; decide) x k

theorem bayStage_hold_proj {β : Type} (g : State → β)
    (h : ∀ (s : State) r kf x f y m, g { s with regs := r, keepForm := kf, slices := x, ffs := f, bregs := y, missed := m } = g s)
    (b : Nat) (s : State) : g (bayStage true 3 b s) = g s :=
  (bayReset_proj g (fun s r x f y m => h s r s.keepForm x f y m) b (rstHeld true b s)).trans
    (h s (rstHeld true b s).regs (rstHeld true b s).keepForm s.slices s.ffs s.bregs s.missed)

theorem fldSame_bayStage_hold (b : Nat) (s : State) : FldSame s (bayStage true 3 b s) ((F.BAY_STATUS_RST_HELD, b) :: slcFs b) :=
  ((fldSame_rstHeld true b s).mono (by simp)).trans ((fldSame_forN_inputReset b 8 (rstHeld true b s)).mono (by simp))

theorem bayClk_bayStage_hold (b : Nat) (s : State) (x k : Nat) : bayClk (bayStage true 3 b s) x k = bayClk s x k :=
  bayClk_of_fldSame (bayStage_hold_proj (·.frozen) (fun _ _ _ _ _ _ _ => rfl) b s)
    (bayStage_hold_proj (·.lastEdge) (fun _ _ _ _ _ _ _ => rfl) b s) (fldSame_bayStage_hold b s) (by simp [bayClkFs, slcFs]; decide) x k

/-- What stage 3 of a hold makes of a bay (R94, Table 3.11): the flip-flops on running clock inputs hold INIT, and each clock input
notes whether it has taken the stage. -/
def TakenBy (s t : State) (b : Nat) : Prop :=
  t.fld F.BAY_STATUS_RST_HELD b = 1 ∧ (∀ n < 8, bitOf (t.missed.get b) (8 + n) = bayClk s b n) ∧
  ∀ c < 1024, ∀ i < 16, bayClk s b (ctlClk (clusterFrame s b c) (bitsOf (bitsOf (clusterFrame s b c) (26 * i) 26) 19 1)) = true →
    bitOf (t.ffs.get (b * 1024 + c)) i = bitOf (bitsOf (clusterFrame s b c) (26 * i) 26) 23

theorem ctlClk_lt (fr k : Nat) : ctlClk fr k < 8 := Nat.mod_lt _ (by decide)

theorem takenBy_bayStage (b : Nat) (s : State) : TakenBy s (bayStage true 3 b s) b := by
  refine ⟨?_, fun n hn => ?_, fun c hc i hi hclk => ?_⟩
  · rw [bayStage_hold, bayReset_eq, (fldSame_forN_inputReset b 8 (rstHeld true b s)).fld_id (by simp [slcFs]; decide)]
    exact fld_setFld_same _ _ _ _ _
  · rw [bayStage_hold, bayReset_eq, missed_forN_inputReset _ _ _ _ hn, bayClk_rstHeld]
  · rw [← bayClk_rstHeld true b s] at hclk
    exact ffs_forN_inputReset b 8 (rstHeld true b s) hc hi (ctlClk_lt _ _) hclk

/-- Stage 3 in one bay leaves what another bay has taken. -/
theorem takenBy_bayStage_ne {a b : Nat} (hne : b ≠ a) {s u : State} (h : TakenBy s u b) : TakenBy s (bayStage true 3 a u) b := by
  obtain ⟨hheld, hmissed, hffs⟩ := h
  refine ⟨?_, fun n hn => ?_, fun c hc i hi hclk => ?_⟩
  · rw [fldSame_bayStage_hold a u _ _ _ (by simp [slcFs, hne]), hheld]
  · have hm : (bayStage true 3 a u).missed.get b = u.missed.get b :=
      forN_proj (f := inputReset a) (fun s => s.missed.get b) (fun k _ s => by rw [missed_inputReset, SMap.get_set_ne _ _ _ _ hne]) (rstHeld true a u)
    rw [hm, hmissed n hn]
  · have hf : (bayStage true 3 a u).ffs.get (b * 1024 + c) = u.ffs.get (b * 1024 + c) :=
      forN_proj (f := inputReset a) (fun s => s.ffs.get (b * 1024 + c)) (fun k _ s => ffs_inputReset_ne k s hne hc) (rstHeld true a u)
    rw [hf, hffs c hc i hi hclk]

/-- Clock inputs and configuration frames are as in `s`, so that stage 3 means the same in both states. -/
def SameClocks (s u : State) : Prop := u.mem = s.mem ∧ ∀ b k, bayClk u b k = bayClk s b k

theorem TakenBy.of_sameClocks {s u t : State} {b : Nat} (h : SameClocks s u) (k : TakenBy u t b) : TakenBy s t b := by
  obtain ⟨hmem, hclk⟩ := h
  simp only [TakenBy, hclk, clusterFrame_congr hmem] at k
  exact k

/-- Stage 3 of a hold over a list of bays: each of them takes it. -/
theorem takenBy_bays (l : List Nat) (s : State) : ∀ b ∈ l, TakenBy s (forL l (bayStage true 3) s) b := by
  refine forL_all (SameClocks s) (fun b u => TakenBy s u b) ?_ ?_ ?_ ⟨rfl, fun _ _ => rfl⟩
  · rintro a - u ⟨hmem, hclk⟩
    exact ⟨(bayStage_hold_proj (·.mem) (fun _ _ _ _ _ _ _ => rfl) a u).trans hmem, fun b k => (bayClk_bayStage_hold a u b k).trans (hclk b k)⟩
  · exact fun a _ u hu => (takenBy_bayStage a u).of_sameClocks hu
  · exact fun a _ b _ hne u _ hb => takenBy_bayStage_ne hne hb

end Sys2Proof.Machine
end

section
/-!
SUPPORT. Bay control: the stages of a hold or release of a skein, poison records and clears, and the attach port of a bay.
-/
namespace Sys2Proof.Machine
open Claims

/-! ### An issued stage takes effect (R195) -/

/-- The command shows the pins after the stage, unless a release waits for its boundary. -/
theorem execHoldStageEffect_runs {s : State} {h : HoldOp} (hrun : hdRuns s = true) (hfind : s.holds.find? (fun x => x.inst == h.inst) = some h)
    (hgo : h.hold = false → h.stage = 3 → h.pick = none) : execHoldStageEffect h.inst s = .next (gpioShowAll (holdStep h s)) := by
  have hwait : (!h.hold && h.stage == 3 && h.pick.isSome) = false := by
    cases hh : h.hold
    · by_cases h3 : h.stage = 3
      · simp [hgo hh h3]
      · simp [h3]
    · simp
  unfold execHoldStageEffect
  simp [hfind, hrun, hwait]

/-- Stages 1 and 2 change their field in the bays given, and no more than what retention remembers beside. -/
theorem bays_bayStage_early {n : Nat} (hn : n = 1 ∨ n = 2) (hold : Bool) (l : List Nat) (s : State) :
    (∀ b ∈ l, (forL l (bayStage hold n) s).fld (stageField n) b = ofBool hold) ∧
    FldSame s (forL l (bayStage hold n) s) (l.map (fun b => (stageField n, b))) ∧
    ∃ r x, forL l (bayStage hold n) s = { s with regs := r, retHold := x } := by
  have hfld : ∀ a (u : State) g v i, (bayStage hold n a u).fld g v i = (u.setFld (stageField n) a 0 (ofBool hold)).fld g v i := by
    intro a u g v i
    obtain ⟨x, hx⟩ := bayStage_early hn hold a u
    rw [hx]
    rfl
  have hset : ∀ a (u : State), (bayStage hold n a u).fld (stageField n) a = ofBool hold := by
    intro a u
    rw [hfld, fld_setFld_same]
    rcases hn with rfl | rfl <;> cases hold <;> rfl
  refine ⟨forL_fld _ id _ (fun a _ u => hset a u) (fun a _ x u hne => ?_) s, ?_, ?_⟩
  · rw [hfld]
    exact fld_setFld_unit _ _ _ _ _ _ _ _ hne
  · refine fldSame_forL (fun a ha u g v i hw => ?_) s
    rw [hfld]
    exact fldSame_setFld u _ a 0 _ (List.mem_map_of_mem ha) g v i hw
  · have hrest : ∀ u : State, ({ forL l (bayStage hold n) u with regs := {}, retHold := {} } : State) = { u with regs := {}, retHold := {} } := by
      refine forL_proj (fun u : State => ({ u with regs := {}, retHold := {} } : State)) (fun a _ u => ?_)
      obtain ⟨x, hx⟩ := bayStage_early hn hold a u
      rw [hx]
      rfl
    exact ⟨_, _, congrArg (fun u : State => { u with regs := (forL l (bayStage hold n) s).regs, retHold := (forL l (bayStage hold n) s).retHold }) (hrest s)⟩

/-- A stage before the last takes effect in every bay, and the next is issued. -/
theorem holdStep_issues {s : State} {h : HoldOp} {k : Skein} (hk : instOf s h.inst = some k) (hn : h.stage = 1 ∨ h.stage = 2) (hlast : h.stage < h.last) :
    (∀ b ∈ k.bays, (holdStep h s).fld (stageField h.stage) b = ofBool h.hold) ∧
    (holdStep h s).holds = s.holds.map (fun x => if x.inst = h.inst then { x with stage := h.stage + 1 } else x) ∧
    FldSame s (holdStep h s) (k.bays.map (fun b => (stageField h.stage, b))) ∧
    ∃ r o x, holdStep h s = { s with regs := r, holds := o, retHold := x } := by
  obtain ⟨hset, hsame, r, x, hrest⟩ := bays_bayStage_early hn h.hold k.bays s
  have hstep : holdStep h s = { forL k.bays (bayStage h.hold h.stage) s with
      holds := (forL k.bays (bayStage h.hold h.stage) s).holds.map (fun x => if x.inst = h.inst then { x with stage := h.stage + 1 } else x) } := by
    unfold holdStep
    simp only [hk, if_pos hlast]
  refine ⟨fun b hb => ?_, ?_, ?_, ?_⟩
  · rw [hstep]
    exact hset b hb
  · rw [hstep, hrest]
  · rw [hstep]
    exact hsame.trans (fldSame_of_regs rfl _)
  · rw [hstep, hrest]
    exact ⟨_, _, _, rfl⟩

/-- Stage 3 of a hold or release that no command waits for takes effect in every bay and ends it. -/
theorem holdStep_ends {s : State} {h : HoldOp} {k : Skein} (hk : instOf s h.inst = some k) (h3 : h.stage = 3) (hlast : h.last = 3) (h0 : h.ticket = 0) :
    holdStep h s = { forL k.bays (bayStage h.hold 3) s with
      holds := (forL k.bays (bayStage h.hold 3) s).holds.filter (fun x => x.inst != h.inst) } := by
  unfold holdStep holdDone
  simp only [hk, h3, hlast, h0, Nat.lt_irrefl, if_false, if_true]

theorem bays_release_proj {β : Type} (g : State → β) (h : ∀ (s : State) r kf m, g { s with regs := r, keepForm := kf, missed := m } = g s)
    (l : List Nat) (s : State) : g (forL l (bayStage false 3) s) = g s :=
  forL_proj g (fun b _ s => (bayStage_release_proj g (fun s m => h s s.regs s.keepForm m) b s).trans
    (h s (rstHeld false b s).regs (rstHeld false b s).keepForm s.missed)) s

/-- Stage 3 of a release clears RST_HELD in every bay and changes no other register field. -/
theorem bays_release_fld (l : List Nat) (s : State) :
    (∀ b ∈ l, (forL l (bayStage false 3) s).fld F.BAY_STATUS_RST_HELD b = 0) ∧
    FldSame s (forL l (bayStage false 3) s) (l.map (fun b => (F.BAY_STATUS_RST_HELD, b))) := by
  have hfld : ∀ a (u : State) g v i, (bayStage false 3 a u).fld g v i = (rstHeld false a u).fld g v i := fun a u g v i =>
    bayStage_release_proj (fun s => s.fld g v i) (fun _ _ => rfl) a u
  have hset : ∀ a (u : State), (bayStage false 3 a u).fld F.BAY_STATUS_RST_HELD a = 0 := fun a u =>
    (hfld a u _ _ _).trans (fld_setFld_same u F.BAY_STATUS_RST_HELD a 0 0)
  refine ⟨forL_fld _ id _ (fun a _ u => hset a u) (fun a _ x u hne => ?_) s, fldSame_forL (fun a ha u g v i hw => ?_) s⟩
  · rw [hfld, fldSame_rstHeld false a u _ _ _ (by simpa using hne)]
  · rw [hfld]
    exact (fldSame_rstHeld false a u).mono (by simpa using ha) g v i hw

/-- Stage 3 leaves the memories and the holds alone. -/
theorem bays_stage3_proj {β : Type} (g : State → β)
    (h : ∀ (s : State) r kf x f y m, g { s with regs := r, keepForm := kf, slices := x, ffs := f, bregs := y, missed := m } = g s)
    (hold : Bool) (l : List Nat) (s : State) : g (forL l (bayStage hold 3) s) = g s := by
  cases hold
  · exact bays_release_proj g (fun s r kf m => h s r kf s.slices s.ffs s.bregs m) l s
  · exact forL_proj g (fun b _ s => bayStage_hold_proj g h b s) s

/-! ### Poison (R86, R87) -/

/-- The bays that a clear or a record of poison at bay `b` reaches: those of its skein. -/
def poisonBays (s : State) (b : Nat) : List Nat :=
  if s.fld F.BAY_STATUS_OWNER b = 0 then [b] else skeinBays s (s.fld F.BAY_STATUS_OWNER b)

/-- A fold that writes one value of a field in a list of bays. -/
theorem forL_setFld (f : Field) (v : Nat) (l : List Nat) (s : State) :
    (∀ x ∈ l, (forL l (fun x s => s.setFld f x 0 v) s).fld f x = v % 2 ^ f.w) ∧
    OnlyRegs s (forL l (fun x s => s.setFld f x 0 v) s) (l.map (fun x => (f, x))) := by
  have hrest := forL_proj (f := fun x s => s.setFld f x 0 v) (l := l) (fun u : State => ({ u with regs := {} } : State)) (fun _ _ _ => rfl) s
  exact ⟨forL_fld f id _ (fun a _ u => fld_setFld_same u f a 0 v) (fun a _ x u hne => fld_setFld_unit u f f a 0 v x 0 hne) s,
    congrArg (fun u : State => { u with regs := (forL l (fun x s => s.setFld f x 0 v) s).regs }) hrest,
    fldSame_forL (fun a ha u => fldSame_setFld u f a 0 v (List.mem_map_of_mem ha)) s⟩

theorem sum_bits_eq_length (p : Nat → Bool) (l : List Nat) (a : Nat) :
    l.foldl (fun a k => a + ofBool (p k)) a = a + (l.filter p).length := by
  induction l generalizing a with
  | nil => rfl
  | cons x l ih =>
    rw [List.foldl_cons, ih, List.filter_cons]
    cases p x
    · simp [ofBool]
    · simp [ofBool]
      omega

/-- The register writes of poisoned beats at bay `b`: the input of the skein, the counter and the summary bit. -/
def poisonFlds (b pm : Nat) (s : State) : State :=
  ((forL (poisonBays s b) (fun x s => s.setFld F.BAY_STATUS_POISON x 0 1) s).bump F.BAY_POISON_CNT_COUNT b 0
    ((List.range 5).foldl (fun a k => a + ofBool (bitOf pm k)) 0)).setFlag F.BAY_PSN_SUM_SUM 0 (b / 64) (b % 64)

theorem bayPoison_eq (b : Nat) {pm : Nat} (h : pm ≠ 0) (s : State) : bayPoison b pm s = irqSample 0x04A (poisonFlds b pm s) := by
  unfold bayPoison
  rw [if_neg h]
  rfl

theorem bayPoison_zero (b : Nat) (s : State) : bayPoison b 0 s = s := rfl

/-- The fields that poisoned beats at bay `b` change, but for what the interrupt controller records. -/
def poisonFs (s : State) (b : Nat) : List (Field × Nat) :=
  [(F.BAY_POISON_CNT_COUNT, b), (F.BAY_PSN_SUM_SUM, 0)] ++ (poisonBays s b).map (fun x => (F.BAY_STATUS_POISON, x))

theorem poisonFlds_onlyRegs (b pm : Nat) (s : State) : OnlyRegs s (poisonFlds b pm s) (poisonFs s b) := by
  obtain ⟨-, hrest, hsame⟩ := forL_setFld F.BAY_STATUS_POISON 1 (poisonBays s b) s
  constructor
  · unfold poisonFlds
    rw [hrest]
    rfl
  · exact ((hsame.mono (by simp [poisonFs])).trans (fldSame_setFld _ _ _ _ _ (by simp [poisonFs]))).trans
      (fldSame_setFld _ _ _ _ _ (by simp [poisonFs]))

/-- Poisoned beats set POISON in the bays of the skein. -/
theorem poisonFlds_poison (b pm : Nat) (s : State) {x : Nat} (hx : x ∈ poisonBays s b) : (poisonFlds b pm s).fld F.BAY_STATUS_POISON x = 1 := by
  unfold poisonFlds
  simp only [State.setFlag, State.bump]
  rw [fld_setFld_id _ _ _ _ _ _ _ _ (by decide), fld_setFld_id _ _ _ _ _ _ _ _ (by decide)]
  exact (forL_setFld F.BAY_STATUS_POISON 1 (poisonBays s b) s).1 x hx

/-- The counter counts the poisoned beats and stops at all ones. -/
theorem poisonFlds_count (b pm : Nat) (s : State) :
    Counts s (poisonFlds b pm s) F.BAY_POISON_CNT_COUNT b 0 ((List.range 5).filter (bitOf pm)).length := by
  obtain ⟨-, -, hsame⟩ := forL_setFld F.BAY_STATUS_POISON 1 (poisonBays s b) s
  have hold : (forL (poisonBays s b) (fun x s => s.setFld F.BAY_STATUS_POISON x 0 1) s).fld F.BAY_POISON_CNT_COUNT b = s.fld F.BAY_POISON_CNT_COUNT b :=
    hsame.fld_id (List.forall_mem_map.2 fun _ _ => by simp; decide) b 0
  unfold Counts poisonFlds
  simp only [State.setFlag, State.bump]
  rw [fld_setFld_id _ _ _ _ _ _ _ _ (by decide), fld_setFld_same, hold, sum_bits_eq_length (bitOf pm), Nat.zero_add, satAdd]
  exact Nat.mod_eq_of_lt (by have := Nat.two_pow_pos F.BAY_POISON_CNT_COUNT.w; omega)

/-- The summary bit of the receiving bay sets. -/
theorem poisonFlds_sum (b pm : Nat) (s : State) : bitOf ((poisonFlds b pm s).fld F.BAY_PSN_SUM_SUM 0 (b / 64)) (b % 64) = true := by
  unfold poisonFlds
  have hw : b % 64 < F.BAY_PSN_SUM_SUM.w := Nat.mod_lt b (by decide)
  rw [State.setFlag, fld_setFld_same, bitOf_mod_two_pow _ _ _ hw, bitOf_withBit, if_pos rfl]

/-- What poisoned beats delivered at bay `b` record (R86, R87). -/
theorem bayPoison_records (b : Nat) {pm : Nat} (h : pm ≠ 0) (s : State) :
    (∀ x ∈ poisonBays s b, (bayPoison b pm s).fld F.BAY_STATUS_POISON x = 1) ∧
    Counts s (bayPoison b pm s) F.BAY_POISON_CNT_COUNT b 0 ((List.range 5).filter (bitOf pm)).length ∧
    bitOf ((bayPoison b pm s).fld F.BAY_PSN_SUM_SUM 0 (b / 64)) (b % 64) = true ∧ OnlyIrq s (bayPoison b pm s) (poisonFs s b) := by
  obtain ⟨hrest, hsame⟩ := poisonFlds_onlyRegs b pm s
  have hirq : ∀ f : Field, (∀ w ∈ irqFs, f.id ≠ w.1.id) → ∀ u i, (bayPoison b pm s).fld f u i = (poisonFlds b pm s).fld f u i := fun f hf u i => by
    rw [bayPoison_eq b h, (fldSame_irqSample _ _).fld_id hf]
  refine ⟨fun x hx => ?_, ?_, ?_, ?_, ?_⟩
  · rw [hirq _ (by simp [irqFs]; decide), poisonFlds_poison b pm s hx]
  · unfold Counts
    rw [hirq _ (by simp [irqFs]; decide), poisonFlds_count b pm s]
  · rw [hirq _ (by simp [irqFs]; decide), poisonFlds_sum b pm s]
  · rw [bayPoison_eq b h]
    obtain ⟨r, w, l, hirq⟩ := irqSample_frame 0x04A (poisonFlds b pm s)
    rw [hirq, hrest]
  · rw [bayPoison_eq b h]
    exact (hsame.mono (by simp)).trans ((fldSame_irqSample _ _).mono (by simp))

/-! ### The attach port (R20, R84, R326) -/

/-- The entry that `xlFind` finds is the first valid one with the handle. -/
theorem xlFind_first {s : State} {b hd e : Nat} (he : e < 64) (hit : s.fld F.XLATE0_VALID b e = 1 ∧ s.fld F.XLATE0_HANDLE b e = hd)
    (hfirst : ∀ j < e, ¬(s.fld F.XLATE0_VALID b j = 1 ∧ s.fld F.XLATE0_HANDLE b j = hd)) : xlFind s b hd = some e := by
  unfold xlFind
  rw [List.find?_range_eq_some]
  refine ⟨by simpa [State.bit] using hit, List.mem_range.2 he, fun j hj => ?_⟩
  simpa [State.bit, imp_iff_not_or] using hfirst j hj

theorem xlFind_none {s : State} {b hd : Nat} (h : ∀ e < 64, ¬(s.fld F.XLATE0_VALID b e = 1 ∧ s.fld F.XLATE0_HANDLE b e = hd)) :
    xlFind s b hd = none := by
  unfold xlFind
  rw [List.find?_eq_none]
  intro e he
  simpa [State.bit] using h e (List.mem_range.1 he)

end Sys2Proof.Machine
end

section
/-!
SUPPORT. What each command of a bay does (O21): HOLD_RESET, the stages of a hold or release, the delivery of a response, a request at the
bay port, and a request at the target channel.
-/
namespace Sys2Proof.Machine
open Claims

/-- HOLD_RESET in a bay of a loaded skein: what was under way ends and a hold begins. -/
theorem execBayHoldReset_loaded {s : State} {b : Nat} {k : Skein} (hb : b < 768) (ho : mapOwner s b ≠ 0) (hl : ostate s b ≠ oLOADING)
    (hocc : s.occ = none) (hk : instOf s (mapOwner s b) = some k) (hks : k.ostate = oLOADED)
    (hh : allHeld s k = false ∨ ∃ h ∈ s.holds, h.inst = mapOwner s b) :
    ∃ t, execBayHoldReset b s = .next t ∧
      t.holds = s.holds.filter (fun x => x.inst != mapOwner s b) ++ [{ inst := mapOwner s b, hold := true }] ∧
      (∀ h ∈ s.holds, h.inst = mapOwner s b → h.ticket ≠ 0 → ∀ c ∈ t.cmds, c.ticket = h.ticket - 1 → c.phase = 3) ∧
      t = { s with holds := t.holds, cmds := t.cmds } := by
  refine ⟨holdBegin { inst := mapOwner s b, hold := true } s, ?_, holdBegin_holds _ s, fun h hm hi h0 => holdBegin_ends hm hi h0 h0, ?_⟩
  · rw [execBayHoldReset, if_pos hb, holdReset_loaded ho hl hocc hk hks hh]
  · generalize ht : holdBegin { inst := mapOwner s b, hold := true } s = t
    have hrest := holdBegin_proj (fun u : State => ({ u with holds := [], cmds := [] } : State)) (fun _ _ _ => rfl) { inst := mapOwner s b, hold := true } s
    rw [ht] at hrest
    exact congrArg (fun u : State => { u with holds := t.holds, cmds := t.cmds }) hrest

/-- Stage 1 or 2 of a hold or release: its field in every bay, the next stage, and the pins. -/
theorem execHoldStageEffect_early {s : State} {h : HoldOp} {k : Skein} (hrun : hdRuns s = true)
    (hfind : s.holds.find? (fun x => x.inst == h.inst) = some h) (hk : instOf s h.inst = some k) (hn : h.stage = 1 ∨ h.stage = 2) (hlast : h.stage < h.last) :
    ∃ v t, execHoldStageEffect h.inst s = .next t ∧ (∀ b ∈ k.bays, t.fld (stageField h.stage) b = ofBool h.hold) ∧
      t.holds = s.holds.map (fun x => if x.inst = h.inst then { x with stage := h.stage + 1 } else x) ∧
      FldSame s t (k.bays.map (fun b => (stageField h.stage, b))) ∧ t = gpioShowAll v ∧
      v = { s with regs := v.regs, holds := v.holds, retHold := v.retHold } := by
  obtain ⟨hset, hholds, hsame, r, o, x, hrest⟩ := holdStep_issues hk hn hlast
  refine ⟨holdStep h s, _, execHoldStageEffect_runs hrun hfind (fun _ h3 => by omega), fun b hb => ?_, ?_, fun g v i hw => ?_, rfl, ?_⟩
  · rw [fld_gpioShowAll, hset b hb]
  · rw [gpioShowAll_proj (·.holds) (fun _ _ _ => rfl), hholds]
  · rw [fld_gpioShowAll, hsame g v i hw]
  · rw [hrest]

/-- Stage 3: RST_HELD in every bay, the end of the hold or release, and what it does to the flip-flops. -/
theorem execHoldStageEffect_last {s : State} {h : HoldOp} {k : Skein} (hrun : hdRuns s = true)
    (hfind : s.holds.find? (fun x => x.inst == h.inst) = some h) (hk : instOf s h.inst = some k) (h3 : h.stage = 3) (hlast : h.last = 3)
    (h0 : h.ticket = 0) (hpick : h.hold = false → h.pick = none) :
    ∃ t, execHoldStageEffect h.inst s = .next t ∧ (∀ b ∈ k.bays, t.fld F.BAY_STATUS_RST_HELD b = ofBool h.hold) ∧
      t.holds = s.holds.filter (fun x => x.inst != h.inst) ∧ MemSame s t ∧
      (h.hold = false → t.ffs = s.ffs ∧ FldSame s t (k.bays.map (fun b => (F.BAY_STATUS_RST_HELD, b)))) ∧
      (h.hold = true → ∀ b ∈ k.bays, TakenBy s t b) := by
  have hshow : ∀ {β : Type} (g : State → β), (∀ (u : State) o x y, g { u with holds := o, gpio := x, out := y } = g u) →
      g (gpioShowAll (holdStep h s)) = g (forL k.bays (bayStage h.hold 3) s) := fun g hg => by
    rw [gpioShowAll_proj g (fun u x y => hg u u.holds x y), holdStep_ends hk h3 hlast h0]
    exact hg _ _ _ _
  have hfld : ∀ f u i, (gpioShowAll (holdStep h s)).fld f u i = (forL k.bays (bayStage h.hold 3) s).fld f u i := fun f u i =>
    hshow (fun s => s.fld f u i) (fun _ _ _ _ => rfl)
  have hffs := hshow (·.ffs) (fun _ _ _ _ => rfl)
  have hmissed := hshow (·.missed) (fun _ _ _ _ => rfl)
  refine ⟨_, execHoldStageEffect_runs hrun hfind (fun hh _ => hpick hh), fun b hb => ?_, ?_, fun a => ⟨?_, ?_⟩, fun hh => ⟨?_, ?_⟩, fun hh b hb => ?_⟩
  · rw [hfld]
    cases hh : h.hold
    · exact (bays_release_fld k.bays s).1 b hb
    · exact (takenBy_bays k.bays s b hb).1
  · rw [gpioShowAll_proj (·.holds) (fun _ _ _ => rfl), holdStep_ends hk h3 hlast h0, bays_stage3_proj (·.holds) (fun _ _ _ _ _ _ _ => rfl)]
  · exact (hshow (fun s => s.rdB a) (fun _ _ _ _ => rfl)).trans (bays_stage3_proj (fun s => s.rdB a) (fun _ _ _ _ _ _ _ => rfl) _ _ s)
  · exact (hshow (fun s => s.ecc.get a) (fun _ _ _ _ => rfl)).trans (bays_stage3_proj (fun s => s.ecc.get a) (fun _ _ _ _ _ _ _ => rfl) _ _ s)
  · rw [hffs, hh, bays_release_proj (·.ffs) (fun _ _ _ _ => rfl)]
  · intro g v i hw
    rw [hfld, hh, (bays_release_fld k.bays s).2 g v i hw]
  · rw [hh] at hfld hffs hmissed
    unfold TakenBy
    rw [hfld, hffs, hmissed]
    exact takenBy_bays k.bays s b hb

/-- The oldest response that waits is delivered and leaves the queue; its poisoned beats are recorded. -/
theorem execBayPortResponseDeliver_eq {s : State} {b : Nat} {r : BayBeat} {q : List BayBeat} (hb : b < 768) (hclk : bayClk s b 0 = true)
    (hq : s.bayq.get b = r :: q) :
    execBayPortResponseDeliver b s =
      .next (bayPoison b r.pm { s with bayq := s.bayq.set b q, out := s.out ++ [.skein b 0 r.st r.pm r.data] }) := by
  unfold execBayPortResponseDeliver
  simp only [hq, hb, hclk, decide_true, Bool.and_self, if_true]
  rfl

/-- What the delivery of a poisoned response records (R86, R87). -/
theorem execBayPortResponseDeliver_poisoned {s : State} {b : Nat} {r : BayBeat} {q : List BayBeat} (hb : b < 768) (hclk : bayClk s b 0 = true)
    (hq : s.bayq.get b = r :: q) (hpm : r.pm ≠ 0) :
    ∃ t, execBayPortResponseDeliver b s = .next t ∧ t.bayq.get b = q ∧ t.out = s.out ++ [.skein b 0 r.st r.pm r.data] ∧
      (∀ x ∈ poisonBays s b, t.fld F.BAY_STATUS_POISON x = 1) ∧
      Counts s t F.BAY_POISON_CNT_COUNT b 0 (((List.range 5).filter (bitOf r.pm)).length) ∧
      bitOf (t.fld F.BAY_PSN_SUM_SUM 0 (b / 64)) (b % 64) = true ∧
      t = { s with regs := t.regs, bayq := t.bayq, out := t.out, irqWin := t.irqWin, irqHeld := t.irqHeld } ∧
      FldSame s t (irqFs ++ poisonFs s b) := by
  obtain ⟨hset, hcount, hsum, hrest, hsame⟩ := bayPoison_records b hpm
    { s with bayq := s.bayq.set b q, out := s.out ++ [.skein b 0 r.st r.pm r.data] }
  refine ⟨_, execBayPortResponseDeliver_eq hb hclk hq, ?_, ?_, hset, hcount, hsum, ?_, hsame⟩
  · rw [hrest]
    exact SMap.get_set_same _ _ _
  · rw [hrest]
  · rw [hrest]

/-- The port takes a request in a bay with an owner that is neither held nor frozen and whose clock input 0 runs. -/
theorem execBayPortRequest_takes {s : State} {b id hd off opc n atop mask pm : Nat} {rlx : Bool} {d : List Byte} (hb : b < 768) (h1 : 1 ≤ n) (hn : n ≤ 256)
    (hclk : bayClk s b 0 = true) (hheld : s.fld F.BAY_STATUS_OUT_HELD b ≠ 1) (ho : s.fld F.BAY_STATUS_OWNER b ≠ 0)
    (htakes : (bayAccepts s b opc n off rlx && !s.frozen.contains b) = true) :
    execBayPortRequest b id hd off opc n atop mask pm rlx d s = .next (bayRequest b id hd off opc n atop mask pm rlx d s) := by
  rw [Bool.and_eq_true, Bool.not_eq_true'] at htakes
  obtain ⟨hacc, hfrozen⟩ := htakes
  have hfrozen : b ∉ s.frozen := by simpa using hfrozen
  simp [execBayPortRequest, State.bit, hb, h1, hn, hclk, hheld, ho, hacc, hfrozen]

theorem execBayPortRequest_idle {s : State} {b id hd off opc n atop mask pm : Nat} {rlx : Bool} {d : List Byte}
    (h : bayClk s b 0 = false ∨ s.fld F.BAY_STATUS_OUT_HELD b = 1 ∨ s.fld F.BAY_STATUS_OWNER b = 0 ∨
      (bayAccepts s b opc n off rlx && !s.frozen.contains b) = false) :
    execBayPortRequest b id hd off opc n atop mask pm rlx d s = .next s := by
  rw [execBayPortRequest, if_neg]
  rw [Bool.and_eq_false_iff, Bool.not_eq_false'] at h
  rcases h with h | h | h | h | h <;> simp [State.bit, h, -List.contains_eq_mem]

theorem bayRequest_unmapped {s : State} {b id hd off opc n atop mask pm : Nat} {rlx : Bool} {d : List Byte} (h : xlFind s b hd = none) :
    bayRequest b id hd off opc n atop mask pm rlx d s = { s with bayq := s.bayq.set b (s.bayq.get b ++ [{ id := id, st := eUNMAPPED }]) } := by
  simp only [bayRequest, h]
  rfl

theorem bayRequest_access {s : State} {b id hd off opc n atop mask pm e : Nat} {rlx : Bool} {d : List Byte} (h : xlFind s b hd = some e)
    (hbad : s.fld F.XLATE0_SIZE b e * 4096 < off + n ∨ (opc ≠ opREAD ∧ s.fld F.XLATE0_RO b e = 1)) :
    bayRequest b id hd off opc n atop mask pm rlx d s = { s with bayq := s.bayq.set b (s.bayq.get b ++ [{ id := id, st := eACCESS }]) } := by
  have hc : (s.fld F.XLATE0_SIZE b e * 4096 < off + n || (opc != opREAD && s.bit F.XLATE0_RO b e)) = true := by
    simpa [State.bit] using hbad
  simp only [bayRequest, h, hc, if_true]
  rfl

theorem bayRequest_leaves {s : State} {b id hd off opc n atop mask pm e : Nat} {rlx : Bool} {d : List Byte} (h : xlFind s b hd = some e)
    (hsize : off + n ≤ s.fld F.XLATE0_SIZE b e * 4096) (hro : opc ≠ opREAD → s.fld F.XLATE0_RO b e ≠ 1) :
    bayRequest b id hd off opc n atop mask pm rlx d s =
      s.request b (s.fld F.DEV_ID) (s.fld F.XLATE1_BASE b e * 4096 + off) opc (n - 1) d (.bay b id) 0 atop mask pm rlx := by
  have hc : (s.fld F.XLATE0_SIZE b e * 4096 < off + n || (opc != opREAD && s.bit F.XLATE0_RO b e)) = false := by
    simpa [State.bit, hsize] using hro
  simp only [bayRequest, h, hc]
  rfl

theorem length_freePoison (p : Packet) (pm : Nat) (d : List Byte) (s : State) : (freePoison p pm d s).1.length = d.length := by
  by_cases h : pm = 0 <;> simp [freePoison, State.freshBytes, h]

theorem freePoison_clean (p : Packet) (d : List Byte) (s : State) : freePoison p 0 d s = (d, s) := by
  simp [freePoison]

/-- A request at an unmapped offset of the window, or to a bay that has no target channel. -/
theorem execBayTargetRequest_unmapped {s : State} {b : Nat} {ans : List Byte} {p : Packet} (hreq : targetReq s b = some p)
    (h : p.addr % 0x10_0000 < 0x8_0000 ∨ targetOff s b = true) :
    execBayTargetRequest b ans s = .next ((s.dropArrived p).respond p eUNMAPPED) := by
  simp [execBayTargetRequest, hreq, h]

theorem execBayTargetRequest_atomic {s : State} {b : Nat} {ans : List Byte} {p : Packet} (hreq : targetReq s b = some p)
    (hoff : 0x8_0000 ≤ p.addr % 0x10_0000) (hon : targetOff s b = false) (hop : p.opc = opATOMIC) :
    execBayTargetRequest b ans s = .next ((s.dropArrived p).respond p eACCESS) := by
  have hoff : ¬p.addr % 0x10_0000 < 0x8_0000 := by omega
  simp [execBayTargetRequest, hreq, hoff, hon, hop]

theorem execBayTargetRequest_stopped {s : State} {b : Nat} {ans : List Byte} {p : Packet} (hreq : targetReq s b = some p)
    (hoff : 0x8_0000 ≤ p.addr % 0x10_0000) (hon : targetOff s b = false) (hop : p.opc ≠ opATOMIC) (hclk : bayClk s b 0 = false) :
    execBayTargetRequest b ans s = .next s := by
  have hoff : ¬p.addr % 0x10_0000 < 0x8_0000 := by omega
  simp [execBayTargetRequest, hreq, hoff, hon, hop, hclk]

/-- A request at the target channel that user logic sees: it reads as sent, but for poisoned beats, and is answered with status 0. -/
theorem execBayTargetRequest_shown {s : State} {b : Nat} {ans : List Byte} {p : Packet} (hreq : targetReq s b = some p)
    (hoff : 0x8_0000 ≤ p.addr % 0x10_0000) (hon : targetOff s b = false) (hatomic : p.opc ≠ opATOMIC) (hclk : bayClk s b 0 = true) :
    execBayTargetRequest b ans s =
      .next ((bayPoison b p.pmask ((freePoison p p.pmask p.data (s.dropArrived p)).2.emit
        (.skein b 1 p.opc p.pmask (freePoison p p.pmask p.data (s.dropArrived p)).1))).respond p 0
          (if p.opc = opREAD then (ans ++ List.replicate (p.len + 1) 0).take (p.len + 1) else [])) := by
  have hoff : ¬p.addr % 0x10_0000 < 0x8_0000 := by omega
  simp [execBayTargetRequest, hreq, hoff, hon, hatomic, hclk]

/-- Settles O21, clause by clause: HOLD_RESET, the stages of a hold or release over the bays of the skein, poison, and the two
directions of the attach port. The free bytes of poisoned beats are log entry 49. -/
theorem bayControlForms : Obligations.BayControlForms := by
  refine ⟨⟨?_, ?_, ?_⟩, ⟨?_, ?_⟩, ?_, ?_⟩
  · intro s b hb ho
    show execBayHoldReset b s = _
    simp [execBayHoldReset, hb, holdReset, ho]
  · exact fun s b k hb ho hl hocc hk hks hh => execBayHoldReset_loaded hb ho hl hocc hk hks hh
  · intro s h k hrun hfind hk
    refine ⟨fun n f hf hn hlast => ?_, fun h3 hlast h0 hpick => ?_⟩
    · obtain ⟨hn12, rfl⟩ : (h.stage = 1 ∨ h.stage = 2) ∧ f = stageField h.stage := by
        simp only [List.mem_cons, Prod.mk.injEq, List.not_mem_nil, or_false] at hf
        rcases hf with ⟨rfl, rfl⟩ | ⟨rfl, rfl⟩
        · exact ⟨Or.inl hn, by rw [hn]; rfl⟩
        · exact ⟨Or.inr hn, by rw [hn]; rfl⟩
      subst hn
      exact execHoldStageEffect_early hrun hfind hk hn12 hlast
    · obtain ⟨t, hexec, hset, hholds, hmem, hrel, htaken⟩ := execHoldStageEffect_last hrun hfind hk h3 hlast h0 hpick
      refine ⟨t, hexec, hset, hholds, hmem, hrel, fun hh b hb c hc i hi hclk => ?_, fun hh b hb n hn => ?_⟩
      · obtain ⟨-, -, hrun⟩ := htaken hh b hb
        exact hrun c hc i hi hclk
      · obtain ⟨-, hstopped, -⟩ := htaken hh b hb
        exact hstopped n hn
  · intro s b hb
    obtain ⟨hset, honly⟩ := forL_setFld F.BAY_STATUS_POISON 0 (poisonBays s b) s
    exact ⟨poisonClear b s, congrArg _ (if_pos hb), hset, honly⟩
  · intro s b r q hb hclk hq
    refine ⟨fun hpm => ?_, fun hpm => ?_⟩
    · refine (execBayPortResponseDeliver_eq hb hclk hq).trans ?_
      rw [hpm, bayPoison_zero]
    · obtain ⟨t, hexec, hbayq, hout, hset, hcount, hsum, hrest, hsame⟩ := execBayPortResponseDeliver_poisoned hb hclk hq hpm
      exact ⟨t, hexec, hbayq, hout, hset, hcount, hsum, hrest, by rw [List.append_assoc]; exact hsame⟩
  · intro s b id hd off opc n atop mask rlx d hb h1 hn
    refine ⟨execBayPortRequest_idle, fun hclk hheld ho htakes => ?_⟩
    have hexec : exec (.bayPortRequest b id hd off opc n atop mask 0 rlx d) s = _ := execBayPortRequest_takes hb h1 hn hclk hheld ho htakes
    refine ⟨fun hmiss => ?_, fun e he hit hfirst => ⟨fun hbad => ?_, fun hsize hro => ?_⟩⟩
    · rw [hexec, bayRequest_unmapped (xlFind_none hmiss)]
    · rw [hexec, bayRequest_access (xlFind_first he hit hfirst) hbad]
    · rw [hexec, bayRequest_leaves (xlFind_first he hit hfirst) hsize hro]
      exact ⟨_, rfl, rfl, rfl, rfl, rfl, rfl, rfl, rfl, rfl, rfl, rfl, rfl⟩
  · intro s b ans p hreq
    refine ⟨execBayTargetRequest_unmapped hreq, fun hoff hon => ⟨execBayTargetRequest_atomic hreq hoff hon,
      execBayTargetRequest_stopped hreq hoff hon, fun hop hclk hpm hlen => ?_, fun hop hat hclk => ⟨?_, ?_, ?_⟩⟩⟩
    · refine (execBayTargetRequest_shown hreq hoff hon (by rw [hop]; decide) hclk).trans ?_
      rw [hpm, freePoison_clean, bayPoison_zero, if_pos hop, List.take_append_of_le_length hlen]
      rfl
    · refine (execBayTargetRequest_shown hreq hoff hon hat hclk).trans ?_
      rw [if_neg hop]
    · intro hpm
      rw [hpm, freePoison_clean]
    · exact length_freePoison _ _ _ _

end Sys2Proof.Machine
end

section
/-!
SUPPORT. A pick boundary that nothing but staged values and slices waits for: the counters, and the parts of the boundary that do nothing then
(R594, R595, R616).
-/
namespace Sys2Proof.Machine
open Claims

/-- A fold over distinct elements acts on what belongs to one of them once: in a state that agrees with the first in it. -/
theorem forL_at {α β : Type} (I : State → Prop) (g : State → β) {l : List α} {f : α → State → State} {b : α} (hnd : l.Nodup) (hb : b ∈ l)
    (hI : ∀ a ∈ l, ∀ s, I s → I (f a s)) (hne : ∀ a ∈ l, a ≠ b → ∀ s, g (f a s) = g s) {s : State} (hs : I s) :
    ∃ t, I t ∧ g t = g s ∧ g (forL l f s) = g (f b t) := by
  induction l generalizing s with
  | nil => simp at hb
  | cons a l ih =>
    obtain ⟨hal, hnd⟩ := List.nodup_cons.1 hnd
    by_cases e : a = b
    · subst e
      refine ⟨s, hs, rfl, forL_proj g (fun x hx => hne x (List.mem_cons_of_mem _ hx) (fun h => hal (h ▸ hx))) (f a s)⟩
    · have hbl : b ∈ l := (List.mem_cons.1 hb).resolve_left (Ne.symm e)
      obtain ⟨u, hu, hgu, hgf⟩ := ih hnd hbl (fun x hx => hI x (List.mem_cons_of_mem _ hx)) (fun x hx => hne x (List.mem_cons_of_mem _ hx))
        (hI a List.mem_cons_self s hs)
      exact ⟨u, hu, hgu.trans (hne a List.mem_cons_self e s), hgf⟩

/-! ### The counters (R594, R595) -/

/-- The counters at boundary `n`. -/
def counted (n : Nat) (s : State) : State := (s.setFld F.SYSTIME 0 0 (bTime0 s n)).setFld F.PICK_CNT 0 0 n

/-- The fields that count. -/
def countFs : List (Field × Nat) := [(F.PICK_CNT, 0), (F.SYSTIME, 0)]

theorem countTo_eq {s : State} (h : s.reed.resync = false) (n : Nat) : countTo n s = counted n s := by
  have hr : ((s.setFld F.SYSTIME 0 0 (bTime0 s n)).setFld F.PICK_CNT 0 0 n).reed.resync = false := h
  unfold countTo
  simp only [hr]
  rfl

theorem fldSame_counted (n : Nat) (s : State) : FldSame s (counted n s) countFs :=
  (fldSame_setFld _ _ _ _ _ (by simp [countFs])).trans (fldSame_setFld _ _ _ _ _ (by simp [countFs]))

theorem counted_pick {n : Nat} (hn : n < 2 ^ 64) (s : State) : (counted n s).fld F.PICK_CNT = n :=
  (fld_setFld_same _ _ _ _ _).trans (Nat.mod_eq_of_lt hn)

theorem counted_systime (n : Nat) (s : State) : (counted n s).fld F.SYSTIME = bTime0 s n % 2 ^ 64 :=
  (fld_setFld_id _ _ _ _ _ _ _ _ (by decide)).trans (fld_setFld_same _ _ _ _ _)

/-! ### What does nothing -/

/-- `Quiet` without what waits for the boundary's first acts: nothing of Reed, of the configuration plane or of the self-test engine. -/
def Calm (s : State) : Prop :=
  s.reed.modes = [] ∧ s.reed.kept = [] ∧ s.disco.isolating = false ∧ s.cmds = [] ∧ s.holds = [] ∧ s.migs = [] ∧ s.occ = none ∧
  s.fld F.HD_MOVE_CTL_STATE ≠ 2

theorem calm_of_quiet {s : State} (h : Quiet s) : Calm s := by
  obtain ⟨-, hmodes, hkept, -, hiso, hcmds, hholds, hmigs, hocc, hmove⟩ := h
  exact ⟨hmodes, hkept, hiso, hcmds, hholds, hmigs, hocc, hmove⟩

/-- An operation that touches neither those queues nor that field keeps the calm. -/
theorem Calm.of_same {s t : State} (h : Calm s)
    (hq : (t.reed, t.disco, t.cmds, t.holds, t.migs, t.occ) = (s.reed, s.disco, s.cmds, s.holds, s.migs, s.occ))
    (hf : t.fld F.HD_MOVE_CTL_STATE = s.fld F.HD_MOVE_CTL_STATE) : Calm t := by
  simp only [Prod.mk.injEq] at hq
  obtain ⟨hreed, hdisco, hcmds, hholds, hmigs, hocc⟩ := hq
  simp only [Calm, hreed, hdisco, hcmds, hholds, hmigs, hocc, hf]
  exact h

theorem keptPast_calm {s : State} (h : Calm s) (n : Nat) : keptPast n s = s := by
  obtain ⟨-, hkept, -⟩ := h
  have hr : ({ s.reed with kept := [] } : ReedSt) = s.reed := by rw [← hkept]
  simp only [keptPast, hkept, State.updReed, List.filter_nil, forL_nil, hr]

theorem thawAt_calm {s : State} (h : Calm s) (n : Nat) : thawAt n s = s := by
  obtain ⟨-, -, -, -, -, hmigs, hocc, -⟩ := h
  simp only [thawAt, migBoundary, hmigs, List.filter_nil, forL_nil, occThaw, hocc, ite_self]

theorem planeAt_calm {s : State} (h : Calm s) (n : Nat) : planeAt n s = s := by
  obtain ⟨-, -, -, hcmds, hholds, -, hocc, hmove⟩ := h
  simp [planeAt, releasesAt, holdsAt, capturesAt, occFreeze, hcmds, hholds, hocc, hmove]

theorem isolateAt_calm {s : State} (h : Calm s) (n : Nat) : isolateAt n s = s := by
  obtain ⟨-, -, hiso, -⟩ := h
  simp [isolateAt, hiso]

theorem modes_calm {s : State} (h : Calm s) (n : Nat) (f : RMode → State → State) : modeOutcomes (forL (modesAt n s) f s) = s := by
  obtain ⟨hmodes, -⟩ := h
  have hnone : modesAt n s = [] := by simp [modesAt, hmodes]
  rw [hnone, forL_nil, modeOutcomes, hmodes, forL_nil]

/-- At a boundary for which nothing but staged values and slices waits, these alone act on the counted state, and PICK_STB rises. -/
theorem boundary_quiet {s : State} (h : Quiet s) (n : Nat) (parity : List Nat) (hp : Calm (policyApply n (counted n s)))
    (hx : Calm (sliceBoundary (counted n s) (policyApply n (counted n s)))) :
    boundary n parity s = strobeArm (sliceBoundary (counted n s) (policyApply n (counted n s))) := by
  have hcalm := calm_of_quiet h
  obtain ⟨howed, hmodes, hkept, hresync, -⟩ := h
  have hcount : Calm (counted n s) := hcalm.of_same rfl ((fldSame_counted n s).fld_id (by simp [countFs]; decide) 0 0)
  have hfirst : modeDecide n (countTo n (modeProgress (settleOwed s))) = counted n s := by
    rw [settleOwed, howed, forL_nil, modeProgress, hmodes, forL_nil, countTo_eq hresync, modeDecide]
    simp [hcount.1]
  have hno : (resetsAt n s).isEmpty = true := by simp [resetsAt, hkept]
  unfold boundary
  simp only [hno, if_true, hfirst, thawAt_calm hcount, modes_calm hp, keptPast_calm hx, planeAt_calm hx, isolateAt_calm hx]

/-! ### Bank swaps that are not due, and PICK_STB -/

theorem NoSwap_congr {s t : State} (hfr : t.frozen = s.frozen)
    (hf : ∀ f ∈ [F.HD_MAP_OSTATE, F.BAY_COEF_ACT_PEND, F.BAY_COEF_SEL_SEL, F.BAY_COEF_ACT_ACT], ∀ u i, t.fld f u i = s.fld f u i) (h : NoSwap s) :
    NoSwap t := by
  simp only [List.forall_mem_cons] at hf
  obtain ⟨hos, hpend, hsel, hact, -⟩ := hf
  simp only [NoSwap, hfr, hos, hpend, hsel, hact]
  exact h

theorem sliceBoundary_noSwap {s : State} (h : NoSwap s) (s0 : State) : sliceBoundary s0 s = s := by
  unfold sliceBoundary
  rw [List.filter_eq_nil_iff.2, forL_nil]
  intro b hb
  have hns := h b (List.mem_range.1 hb)
  rcases hns with h | h | ⟨h1, h2⟩
  · simp [-List.contains_eq_mem, h]
  · simp [ostate, h]
  · simp [h1, h2]

/-- The strobes of one bay rise. -/
def strobeBay (b : Nat) (s : State) : State :=
  if ofBits ((List.range 8).map (bayClk s b)) = 0 then s
  else { s with strobe := s.strobe.upd b (fun m => m / 256 * 256 + ofBits ((List.range 8).map (bayClk s b))) }

theorem strobeArm_eq (s : State) : strobeArm s = forL ((List.range 768).filter (fun b => s.fld F.BAY_STATUS_OWNER b != 0)) strobeBay s := rfl

theorem strobeBay_proj {β : Type} (g : State → β) (h : ∀ (s : State) x, g { s with strobe := x } = g s) (b : Nat) (s : State) :
    g (strobeBay b s) = g s := by
  unfold strobeBay
  split
  · rfl
  · exact h _ _

theorem strobeArm_frame (s : State) : ∃ x, strobeArm s = { s with strobe := x } := by
  have hrest := forL_proj (l := (List.range 768).filter (fun b => s.fld F.BAY_STATUS_OWNER b != 0)) (f := strobeBay)
    (fun u : State => ({ u with strobe := {} } : State)) (fun b _ s => strobeBay_proj (fun u : State => ({ u with strobe := {} } : State)) (fun _ _ => rfl) b s) s
  rw [← strobeArm_eq] at hrest
  generalize strobeArm s = v at hrest ⊢
  exact ⟨v.strobe, congrArg (fun u : State => { u with strobe := v.strobe }) hrest⟩

theorem strobeArm_strobe (s : State) {b : Nat} (hb : b < 768) :
    (strobeArm s).strobe.get b =
      if s.fld F.BAY_STATUS_OWNER b = 0 ∨ ofBits ((List.range 8).map (bayClk s b)) = 0 then s.strobe.get b
      else s.strobe.get b / 256 * 256 + ofBits ((List.range 8).map (bayClk s b)) := by
  rw [strobeArm_eq]
  have hne : ∀ a, a ≠ b → ∀ u, (strobeBay a u).strobe.get b = u.strobe.get b := by
    intro a ha u
    unfold strobeBay
    split
    · rfl
    · exact SMap.get_set_ne _ _ _ _ (Ne.symm ha)
  by_cases ho : s.fld F.BAY_STATUS_OWNER b = 0
  · rw [if_pos (Or.inl ho)]
    refine forL_proj (fun u => u.strobe.get b) (fun a ha u => hne a ?_ u) s
    rintro rfl
    simp [ho] at ha
  · have hmem : b ∈ (List.range 768).filter (fun b => s.fld F.BAY_STATUS_OWNER b != 0) :=
      List.mem_filter.2 ⟨List.mem_range.2 hb, by simpa using ho⟩
    obtain ⟨u, hclk, hu, hfinal⟩ := forL_at (fun u => ∀ k, bayClk u b k = bayClk s b k) (fun u => u.strobe.get b)
      (List.nodup_range.filter _) hmem
      (fun a _ u hu k => (strobeBay_proj (fun u => bayClk u b k) (fun _ _ => rfl) a u).trans (hu k)) (fun a _ ha u => hne a ha u) (fun _ => rfl)
    have hrun : (List.range 8).map (bayClk u b) = (List.range 8).map (bayClk s b) := List.map_congr_left fun k _ => hclk k
    rw [hfinal, strobeBay, hrun]
    by_cases hz : ofBits ((List.range 8).map (bayClk s b)) = 0
    · rw [if_pos hz, if_pos (Or.inr hz), hu]
    · rw [if_neg hz, if_neg (by simp [ho, hz])]
      simp only [SMap.upd, SMap.get_set_same, hu]

end Sys2Proof.Machine
end

section
/-!
SUPPORT. What a quiet boundary answers: the counters, the strobes, and the staged values of a plain unit by its POLICY (R24, R57, R59, R82).
-/
namespace Sys2Proof.Machine
open Claims

/-! ### What every quiet boundary shows -/

/-- The fields that the counters, the strobes and the rest of a quiet boundary are judged by. -/
def boundaryFs : List Field := [F.PICK_CNT, F.SYSTIME, F.BAY_STATUS_OWNER, F.HD_MOVE_CTL_STATE] ++ bayClkFs

/-- None of the fields in `ws` is one of those. -/
def Apart (ws : List (Field × Nat)) : Prop := ∀ f ∈ boundaryFs, ∀ w ∈ ws, f.id ≠ w.1.id

theorem mem_boundaryFs_of_clk {f : Field} (h : f ∈ bayClkFs) : f ∈ boundaryFs := List.mem_append_right _ h

theorem apart_bayClk {s t : State} {ws : List (Field × Nat)} (h : FldSame s t ws) (hws : Apart ws) (hfr : t.frozen = s.frozen) (hle : t.lastEdge = s.lastEdge)
    (b k : Nat) : bayClk t b k = bayClk s b k :=
  bayClk_of_fldSame hfr hle h (fun f hf => hws f (mem_boundaryFs_of_clk hf)) b k

theorem bayClk_counted (n : Nat) (s : State) (b k : Nat) : bayClk (counted n s) b k = bayClk s b k :=
  bayClk_of_fldSame (s := s) (t := counted n s) rfl rfl (fldSame_counted n s) (by simp [bayClkFs, countFs]; decide) b k

/-- A state `p` that differs from the counted one by fields in `ws`, and from `u` by its registers, shows the boundary as `PassesTo` says. -/
theorem passesTo_strobeArm {s u p : State} {n : Nat} {ws : List (Field × Nat)} (hn : n < 2 ^ 64) (hsame : FldSame (counted n s) p ws) (hws : Apart ws)
    (hp : p = { u with regs := p.regs }) (hfr : u.frozen = s.frozen) (hle : u.lastEdge = s.lastEdge) (hst : u.strobe = s.strobe) :
    PassesTo s u (strobeArm p) n ∧ ∀ f v i, (strobeArm p).fld f v i = p.fld f v i := by
  have hpfr : p.frozen = s.frozen := by rw [hp]; exact hfr
  have hple : p.lastEdge = s.lastEdge := by rw [hp]; exact hle
  have hpst : p.strobe = s.strobe := by rw [hp]; exact hst
  have hclk : ∀ b, bayClk p b = bayClk s b := fun b => funext fun k => (apart_bayClk hsame hws hpfr hple b k).trans (bayClk_counted n s b k)
  have howner : ∀ b, p.fld F.BAY_STATUS_OWNER b = s.fld F.BAY_STATUS_OWNER b := fun b =>
    (hsame.fld_id (hws _ (by simp [boundaryFs])) b 0).trans ((fldSame_counted n s).fld_id (by simp [countFs]; decide) b 0)
  have hstrobe : ∀ b < 768, (strobeArm p).strobe.get b = _ := fun b hb => strobeArm_strobe p hb
  obtain ⟨x, hx⟩ := strobeArm_frame p
  have hfld : ∀ f v i, (strobeArm p).fld f v i = p.fld f v i := fun f v i => by
    rw [hx]
    rfl
  refine ⟨⟨⟨?_, ?_⟩, fun b hb => ?_, ?_⟩, hfld⟩
  · rw [hfld, hsame.fld_id (hws _ (by simp [boundaryFs])), counted_pick hn]
  · rw [hfld, hsame.fld_id (hws _ (by simp [boundaryFs])), counted_systime]
    rfl
  · rw [hstrobe b hb, howner, hclk, hpst]
  · rw [hx, hp]

/-! ### A plain unit's staged values -/

/-- The fields of the plain units: Heddle's weights and the probes of the network. -/
def plainFs : List Field :=
  [F.HD_WEIGHT_W_EDGE, F.HD_WEIGHT_W_DIST, F.HD_WEIGHT_W_POWER, F.HD_WEIGHT_W_WEAR, F.HD_WEIGHT_W_HEALTH, F.HD_SWEIGHT_W_FILL, F.HD_SWEIGHT_W_SDIST,
   F.PROBE_CTL_EN]

theorem plainFs_id : ∀ f ∈ plainFs, ∀ g ∈ plainFs, f.id = g.id → f = g := by decide

/-- What the staged values of a plain unit are. -/
def Plain (hu : Nat) (l : List Staged) : Prop := ∀ g ∈ l, g.hu = hu ∧ g.fld ∈ plainFs

/-- Each copy of a field is staged once. -/
def Single (l : List Staged) : Prop := ∀ g ∈ l, ∀ g' ∈ l, g.fld = g'.fld → g.u = g'.u → g.i = g'.i → g = g'

theorem Plain.apart {hu : Nat} {l : List Staged} (h : Plain hu l) : Apart (l.map (fun g => (g.fld, g.u))) := by
  intro f hf w hw
  obtain ⟨g, hg, rfl⟩ := List.mem_map.1 hw
  have hall : ∀ f ∈ boundaryFs, ∀ g ∈ plainFs, f.id ≠ g.id := by decide
  exact hall f hf _ (h g hg).2

theorem Plain.isOf_iff {hu : Nat} {l : List Staged} (h : Plain hu l) (hs : Single l) {g x : Staged} (hg : g ∈ l) (hx : x ∈ l) :
    g.isOf x.fld x.u x.i = true ↔ g = x := by
  simp only [Staged.isOf, Bool.and_eq_true, beq_iff_eq]
  constructor
  · rintro ⟨⟨hid, hu'⟩, hi⟩
    exact hs g hg x hx (plainFs_id _ (h g hg).2 _ (h x hx).2 hid) hu' hi
  · rintro rfl
    exact ⟨⟨rfl, rfl⟩, rfl⟩

theorem stagedUnits_plain {s : State} {hu : Nat} (h : Plain hu s.staged) (hne : s.staged ≠ []) : stagedUnits s = [hu] := by
  unfold stagedUnits
  cases hl : s.staged with
  | nil => exact absurd hl hne
  | cons g l =>
    rw [hl] at h
    have hall : ∀ x ∈ l.map (·.hu), x = hu := by
      intro x hx
      obtain ⟨y, hy, rfl⟩ := List.mem_map.1 hx
      exact (h y (List.mem_cons_of_mem _ hy)).1
    rw [List.map_cons, List.eraseDups_cons, (h g List.mem_cons_self).1, List.filter_eq_nil_iff.2 fun x hx => by simp [hall x hx]]
    rfl

/-- The clock of a plain unit runs: the configuration domain for Heddle, the NoC domain for the NoC block. -/
def Clocked (s : State) (hu : Nat) : Prop := (hu = 5 → domRuns s 3 = true) ∧ (hu = 7 → domRuns s 0 = true)

theorem ownParts_plain {g : Staged} (h : g.fld ∈ plainFs) : ownParts g = [g] := by
  have hall : ∀ f ∈ plainFs, f.id ≠ F.BAY_CTL_CLK_EN.id := by decide
  rw [ownParts, if_neg (hall _ h)]

theorem ownClock_plain {s : State} {g : Staged} (h : g.fld ∈ plainFs) (h11 : g.hu ≠ 11) : ownClock s g = true ↔ Clocked s g.hu := by
  have hall : ∀ f ∈ plainFs, f.id ≠ F.BAY_CTL_CLK_EN.id := by decide
  rw [ownClock, if_neg (hall _ h), Clocked]
  by_cases h5 : g.hu = 5
  · simp [h5]
  · by_cases h7 : g.hu = 7
    · simp [h7]
    · simp [h5, h7, h11]

theorem unitTake_plain {s : State} {hu : Nat} (h : Plain hu s.staged) : unitTake hu s = forL s.staged ownApply { s with staged := [] } := by
  have hall : s.staged.filter (fun g => g.hu == hu) = s.staged := List.filter_eq_self.2 fun g hg => by simp [(h g hg).1]
  have hnone : s.staged.filter (fun g => g.hu != hu) = [] := List.filter_eq_nil_iff.2 fun g hg => by simp [(h g hg).1]
  have hparts : s.staged.flatMap ownParts = s.staged := by
    rw [List.flatMap_congr fun g hg => ownParts_plain (h g hg).2, List.flatMap_singleton']
  simp only [unitTake, hall, hnone, hparts]

/-- A staged value is written as it stands. -/
def setStaged (g : Staged) (s : State) : State := s.setFld g.fld g.u g.i g.v

/-- On a running clock a plain unit's values are written as they stand. -/
theorem forL_ownApply_clocked {hu : Nat} (h11 : hu ≠ 11) {l : List Staged} (h : Plain hu l) {s : State} (hclk : Clocked s hu) (howed : s.owed = []) :
    forL l ownApply s = forL l setStaged s := by
  induction l generalizing s with
  | nil => rfl
  | cons g l ih =>
    obtain ⟨⟨hg, hgf⟩, hl⟩ := List.forall_mem_cons.1 h
    have hid : ∀ f ∈ plainFs, f.id ≠ F.BAY_CTL_CLK_EN.id ∧ F.DOM_STATUS_STATE.id ≠ f.id := by decide
    have hfilter : ({ s with owed := s.owed.filter (fun x => !x.isOf g.fld g.u g.i) } : State) = s := by
      rw [howed, List.filter_nil, ← howed]
    have hstep : ownApply g s = setStaged g s := by
      have hck : ownClock s g = true := (ownClock_plain hgf (hg ▸ h11)).2 (hg ▸ hclk)
      simp only [ownApply, hfilter, hck, Bool.not_true, Bool.false_eq_true, if_false, if_neg (hid _ hgf).1, setStaged]
    have hdom : ∀ d, domRuns (setStaged g s) d = domRuns s d := fun d => by
      simp only [domRuns, setStaged, fld_setFld_id _ _ _ _ _ _ _ _ (hid _ hgf).2]
    rw [forL_cons, forL_cons, hstep]
    exact ih hl (by simpa [Clocked, hdom] using hclk) howed

/-- Where the clock is stopped a plain unit's values are owed. -/
theorem forL_ownApply_stopped {hu : Nat} (h11 : hu ≠ 11) {l o : List Staged} (h : Plain hu (o ++ l)) (hs : Single (o ++ l)) {s : State}
    (hclk : ¬Clocked s hu) (howed : s.owed = o) :
    ∃ x, forL l ownApply s = { s with owed := x } ∧ ∀ g, g ∈ x ↔ g ∈ o ++ l := by
  induction l generalizing s o with
  | nil => exact ⟨o, by rw [← howed]; rfl, by simp⟩
  | cons g l ih =>
    have hgm : g ∈ o ++ g :: l := by simp
    obtain ⟨hg, hgf⟩ := h g hgm
    have hck : ownClock { s with owed := s.owed.filter (fun x => !x.isOf g.fld g.u g.i) } g = false := by
      rw [← Bool.not_eq_true, ownClock_plain hgf (hg ▸ h11), hg]
      exact hclk
    have hck : ownClock s g = false := hck
    have hstep : ownApply g s = { s with owed := o.filter (fun x => !x.isOf g.fld g.u g.i) ++ [g] } := by
      simp only [ownApply, hck, howed]
      rfl
    have hmem : ∀ y, y ∈ o.filter (fun x => !x.isOf g.fld g.u g.i) ++ [g] ++ l ↔ y ∈ o ++ g :: l := by
      intro y
      have hy : y ∈ o → (y.isOf g.fld g.u g.i = true ↔ y = g) := fun hy => h.isOf_iff hs (List.mem_append_left _ hy) hgm
      simp only [List.mem_append, List.mem_filter, List.mem_cons, List.not_mem_nil, or_false, Bool.not_eq_true']
      by_cases e : y = g
      · simp [e]
      · constructor
        · rintro ((⟨h1, -⟩ | h1) | h1) <;> simp [h1]
        · rintro (h1 | h1 | h1)
          · exact Or.inl (Or.inl ⟨h1, by rw [← Bool.not_eq_true, hy h1]; exact e⟩)
          · exact absurd h1 e
          · exact Or.inr h1
    obtain ⟨x, hx, hxm⟩ := ih (o := o.filter (fun x => !x.isOf g.fld g.u g.i) ++ [g]) (s := ownApply g s)
      (fun y hy => h y ((hmem y).1 hy)) (fun y hy z hz => hs y ((hmem y).1 hy) z ((hmem z).1 hz)) (by rw [hstep]; exact hclk) (by rw [hstep])
    refine ⟨x, ?_, fun y => (hxm y).trans (hmem y)⟩
    rw [forL_cons, hx, hstep]

/-- The values that a fold writes, each once, are there after it. -/
theorem forL_setStaged {hu : Nat} {l : List Staged} (h : Plain hu l) (hs : Single l) (s : State) :
    (∀ g ∈ l, (forL l setStaged s).fld g.fld g.u g.i = g.v % 2 ^ g.fld.w) ∧
    OnlyRegs s (forL l setStaged s) (l.map (fun g => (g.fld, g.u))) := by
  have hrest := forL_proj (f := fun g s => s.setFld g.fld g.u g.i g.v) (l := l) (fun u : State => ({ u with regs := {} } : State)) (fun _ _ _ => rfl) s
  refine ⟨forL_all (fun _ => True) (fun (g : Staged) u => u.fld g.fld g.u g.i = g.v % 2 ^ g.fld.w) (fun _ _ _ _ => trivial)
      (fun (g : Staged) _ u _ => fld_setFld_same u g.fld g.u g.i g.v) (fun a ha b hb hne u _ hval => ?_) trivial,
    congrArg (fun u : State => { u with regs := (forL l setStaged s).regs }) hrest,
    fldSame_forL (fun (g : Staged) hg u => fldSame_setFld u g.fld g.u g.i g.v (List.mem_map_of_mem (f := fun g : Staged => (g.fld, g.u)) hg)) s⟩
  by_cases hid : b.fld.id = a.fld.id
  · by_cases hu' : b.u = a.u
    · have hi : b.i ≠ a.i := fun hi => hne (hs b hb a ha (plainFs_id _ (h b hb).2 _ (h a ha).2 hid) hu' hi)
      rw [fld_setFld_copy _ _ _ _ _ _ _ _ hi, hval]
    · rw [fld_setFld_unit _ _ _ _ _ _ _ _ hu', hval]
  · rw [fld_setFld_id _ _ _ _ _ _ _ _ hid, hval]

end Sys2Proof.Machine
end

section
/-!
SUPPORT. Quiet boundaries without a bank swap: nothing staged, and a plain unit's staged values by its POLICY (R57, R59, log entry 17).
-/
namespace Sys2Proof.Machine
open Claims

/-! ### POLICY -/

theorem policyApply_none {s : State} (h : s.staged = []) (n : Nat) : policyApply n s = s := by
  have hu : stagedUnits s = [] := by rw [stagedUnits, h]; rfl
  simp only [policyApply, hu, List.filter_nil, forL_nil]

/-- A unit that takes boundaries as it stands: it is no lane, bay, Reed or GPIO block. -/
def PlainUnit (hu : Nat) : Prop := hu ≠ 8 ∧ hu ≠ 11 ∧ hu / 0x1000 ≠ 1 ∧ hu / 0x1000 ≠ 2

theorem PlainUnit.not_gpio {hu : Nat} (h : PlainUnit hu) : hu ≠ 11 := by
  obtain ⟨-, h11, -, -⟩ := h
  exact h11

/-- POLICY of a unit names boundary `n`. -/
def Due (s : State) (n hu : Nat) : Prop :=
  s.fld F.STAGE_CTL_POLICY hu = 0 ∨ (s.fld F.STAGE_CTL_POLICY hu = 1 ∧ s.fld F.STAGE_PICK_PICK hu = n)

theorem unitAsleep_plain {s : State} {hu : Nat} (hdev : s.dev ≠ .deepSleep) (h : PlainUnit hu) : unitAsleep s hu = false := by
  obtain ⟨-, -, -, h2⟩ := h
  simp [unitAsleep, hdev, h2]

theorem unitApply_plain {n hu : Nat} (h : PlainUnit hu) (s : State) : unitApply n hu s = unitTake hu s := by
  obtain ⟨h8, h11, h1, -⟩ := h
  simp only [unitApply, if_neg h8, if_neg h11, if_neg h1]

/-- What a plain unit's own application leaves staged. -/
theorem staged_unitTake {s : State} {hu : Nat} (h : Plain hu s.staged) : (unitTake hu s).staged = [] := by
  rw [unitTake_plain h]
  refine forL_proj (·.staged) (fun g _ u => ?_) _
  unfold ownApply
  simp only [State.setFlag]
  split_ifs <;> rfl

/-- Boundary `n` at the one unit with something staged, whose POLICY names it. -/
theorem policyApply_due {s : State} {n hu : Nat} (h : Plain hu s.staged) (hne : s.staged ≠ []) (hdev : s.dev ≠ .deepSleep) (hp : PlainUnit hu)
    (hdue : Due s n hu) : policyApply n s = unitTake hu s := by
  have hfilter : (!unitAsleep s hu && (s.fld F.STAGE_CTL_POLICY hu == 0 ||
      (s.fld F.STAGE_CTL_POLICY hu == 1 && s.fld F.STAGE_PICK_PICK hu == n))) = true := by
    simpa [unitAsleep_plain hdev hp, Due] using hdue
  have hnone : stagedUnits (unitTake hu s) = [] := by rw [stagedUnits, staged_unitTake h]; rfl
  simp only [policyApply, stagedUnits_plain h hne, List.filter_cons, List.filter_nil, hfilter, if_true, forL_cons, forL_nil, unitApply_plain hp, hnone]

/-- Boundary `n` at the one unit with something staged, whose POLICY does not name it. -/
theorem policyApply_waits {s : State} {n hu : Nat} (h : Plain hu s.staged) (hne : s.staged ≠ []) (hdue : ¬Due s n hu) :
    policyApply n s = stageLate hu s := by
  have hfilter : (!unitAsleep s hu && (s.fld F.STAGE_CTL_POLICY hu == 0 ||
      (s.fld F.STAGE_CTL_POLICY hu == 1 && s.fld F.STAGE_PICK_PICK hu == n))) = false := by
    rw [Bool.and_eq_false_iff, ← Bool.not_eq_true (_ || _)]
    exact Or.inr (by simpa [Due] using hdue)
  simp only [policyApply, stagedUnits_plain h hne, List.filter_cons, List.filter_nil, hfilter, Bool.false_eq_true, if_false, forL_cons, forL_nil]

/-! ### The boundary -/

theorem exec_pickBoundary {s : State} (h : timeRuns s = true) (parity : List Nat) :
    exec (.pickBoundary parity) s = .next (gpioShowAll (boundary (s.fld F.PICK_CNT + 1) parity s)) := by
  show execPickBoundary parity s = _
  rw [execPickBoundary, if_pos h]
  rfl

/-- The fields that say whether a bay has a bank swap to take. -/
def swapFs : List Field := [F.HD_MAP_OSTATE, F.BAY_COEF_ACT_PEND, F.BAY_COEF_SEL_SEL, F.BAY_COEF_ACT_ACT]

/-- A quiet boundary without a bank swap shows what the policies make of the counted state. -/
theorem boundary_noSwap {s p : State} {x o : List Staged} {n : Nat} {ws : List (Field × Nat)} (hq : Quiet s) (hns : NoSwap s) (hn : n < 2 ^ 64)
    (parity : List Nat) (hpol : policyApply n (counted n s) = p) (hrest : p = { s with staged := x, owed := o, regs := p.regs })
    (hsame : FldSame (counted n s) p ws) (hws : Apart ws) (hsw : ∀ f ∈ swapFs, ∀ w ∈ ws, f.id ≠ w.1.id) :
    boundary n parity s = strobeArm p ∧ PassesTo s { s with staged := x, owed := o } (strobeArm p) n ∧
      (∀ f v i, (strobeArm p).fld f v i = p.fld f v i) ∧ FldSame s (strobeArm p) (countFs ++ ws) := by
  have hcounted : ∀ f ∈ swapFs, ∀ u i, p.fld f u i = s.fld f u i := fun f hf u i =>
    (hsame.fld_id (hsw f hf) u i).trans ((fldSame_counted n s).fld_id ((by simp [swapFs, countFs]; decide : ∀ f ∈ swapFs, ∀ w ∈ countFs, f.id ≠ w.1.id) f hf) u i)
  have hnsp : NoSwap p := NoSwap_congr (by rw [hrest]) hcounted hns
  have hmove : p.fld F.HD_MOVE_CTL_STATE = s.fld F.HD_MOVE_CTL_STATE :=
    (hsame.fld_id (hws _ (by simp [boundaryFs])) 0 0).trans ((fldSame_counted n s).fld_id (by simp [countFs]; decide) 0 0)
  have hcalm : Calm p := (calm_of_quiet hq).of_same (by rw [hrest]) hmove
  obtain ⟨hpass, hfld⟩ := passesTo_strobeArm hn hsame hws (u := { s with staged := x, owed := o }) hrest rfl rfl rfl
  refine ⟨?_, hpass, hfld, fun g v i hw => ?_⟩
  · rw [boundary_quiet hq n parity (by rw [hpol]; exact hcalm) (by rw [hpol, sliceBoundary_noSwap hnsp]; exact hcalm), hpol, sliceBoundary_noSwap hnsp]
  · rw [hfld]
    exact (((fldSame_counted n s).mono (List.subset_append_left _ _)).trans (hsame.mono (List.subset_append_right _ _))) g v i hw

/-- With nothing staged and no swap due, the counters and the strobes alone change. -/
theorem boundary_empty {s : State} (hq : Quiet s) (hns : NoSwap s) (hst : s.staged = []) {n : Nat} (hn : n < 2 ^ 64) (parity : List Nat) :
    ∃ v, boundary n parity s = v ∧ PassesTo s s v n ∧ FldSame s v countFs := by
  obtain ⟨hb, hpass, -, hsame⟩ := boundary_noSwap (x := s.staged) (o := s.owed) (ws := []) hq hns hn parity
    (policyApply_none (s := counted n s) hst n) rfl (FldSame.refl _ _) (by simp [Apart]) (by simp)
  exact ⟨_, hb, hpass, hsame.mono (by simp)⟩

/-! ### A plain unit's values at the boundary -/

theorem plainFs_swapFs : ∀ f ∈ swapFs, ∀ g ∈ plainFs, f.id ≠ g.id := by decide

/-- The unit's registers read as before in the counted state. -/
theorem due_counted {s : State} {n hu : Nat} : Due (counted n s) n hu ↔ Due s n hu := by
  have hsame := fldSame_counted n s
  rw [Due, Due, hsame.fld_id (by simp [countFs]; decide), hsame.fld_id (by simp [countFs]; decide)]

theorem clocked_counted {s : State} {n hu : Nat} : Clocked (counted n s) hu ↔ Clocked s hu := by
  have hdom : ∀ d, domRuns (counted n s) d = domRuns s d := fun d => by
    rw [domRuns, domRuns, (fldSame_counted n s).fld_id (by simp [countFs]; decide)]
  rw [Clocked, Clocked, hdom, hdom]

section
variable {s : State} {n hu : Nat} (hq : Quiet s) (hns : NoSwap s) (hn : n < 2 ^ 64) (hplain : Plain hu s.staged) (hsingle : Single s.staged)
  (hne : s.staged ≠ []) (hunit : PlainUnit hu) (hdev : s.dev ≠ .deepSleep) (parity : List Nat)
include hq hns hn hplain hsingle hne hunit hdev

/-- The values of a unit whose POLICY names the boundary apply together. -/
theorem boundary_due_clocked (hdue : Due s n hu) (hclk : Clocked s hu) :
    ∃ v, boundary n parity s = v ∧ PassesTo s { s with staged := [] } v n ∧ (∀ g ∈ s.staged, v.fld g.fld g.u g.i = g.v % 2 ^ g.fld.w) ∧
      FldSame s v (countFs ++ s.staged.map (fun g => (g.fld, g.u))) := by
  have howed : s.owed = [] := hq.1
  have hpol : policyApply n (counted n s) = forL s.staged setStaged { counted n s with staged := [] } := by
    rw [policyApply_due (s := counted n s) hplain hne hdev hunit (due_counted.2 hdue), unitTake_plain (s := counted n s) hplain]
    exact forL_ownApply_clocked hunit.not_gpio hplain (clocked_counted.2 hclk) howed
  obtain ⟨hset, hrest, hsame⟩ := forL_setStaged hplain hsingle { counted n s with staged := [] }
  obtain ⟨hb, hpass, hfld, hall⟩ := boundary_noSwap (x := []) (o := s.owed) hq hns hn parity hpol hrest hsame hplain.apart
    (fun f hf => List.forall_mem_map.2 fun g hg => plainFs_swapFs f hf _ (hplain g hg).2)
  exact ⟨_, hb, hpass, fun g hg => (hfld _ _ _).trans (hset g hg), hall⟩

/-- Where the unit's clock is stopped they wait for its first edge (log entry 17). -/
theorem boundary_due_stopped (hdue : Due s n hu) (hclk : ¬Clocked s hu) :
    ∃ v o, boundary n parity s = v ∧ PassesTo s { s with staged := [], owed := o } v n ∧ FldSame s v countFs ∧ ∀ g, g ∈ o ↔ g ∈ s.staged := by
  have howed : s.owed = [] := hq.1
  obtain ⟨o, ho, hmem⟩ := forL_ownApply_stopped (l := s.staged) (o := []) (s := { counted n s with staged := [] }) hunit.not_gpio hplain hsingle
    (clocked_counted.not.2 hclk) howed
  have hpol : policyApply n (counted n s) = { counted n s with staged := [], owed := o } := by
    rw [policyApply_due (s := counted n s) hplain hne hdev hunit (due_counted.2 hdue), unitTake_plain (s := counted n s) hplain]
    exact ho
  obtain ⟨hb, hpass, -, hsame⟩ := boundary_noSwap (x := []) (o := o) (ws := []) hq hns hn parity hpol rfl (fldSame_of_regs rfl _)
    (by simp [Apart]) (by simp)
  exact ⟨_, o, hb, hpass, hsame.mono (by simp), by simpa using hmem⟩

omit hsingle hunit hdev

/-- Values whose boundary has passed stay, with LATE. -/
theorem boundary_late (hpol : s.fld F.STAGE_CTL_POLICY hu = 1) (hlate : s.fld F.STAGE_PICK_PICK hu < n) :
    ∃ v, boundary n parity s = v ∧ PassesTo s s v n ∧ v.fld F.UNIT_STATUS_LATE hu = 1 ∧ FldSame s v (countFs ++ [(F.UNIT_STATUS_LATE, hu)]) := by
  have hcounted := fldSame_counted n s
  have hnot : ¬Due (counted n s) n hu := fun h => by
    rcases due_counted.1 h with h | ⟨-, h⟩ <;> omega
  have hin : (counted n s).stagedIn hu = true := by
    obtain ⟨g, hg⟩ := List.exists_mem_of_ne_nil _ hne
    exact List.any_eq_true.2 ⟨g, hg, by simp [(hplain g hg).1]⟩
  have hstep : policyApply n (counted n s) = (counted n s).setFld F.UNIT_STATUS_LATE hu 0 1 := by
    rw [policyApply_waits (s := counted n s) hplain hne hnot, stageLate, if_pos]
    · rfl
    · have hpick : (counted n s).pick = n := counted_pick hn s
      have hle : s.fld F.STAGE_PICK_PICK hu ≤ n := by omega
      simp [hin, hpick, hcounted.fld_id (g := F.STAGE_CTL_POLICY) (by simp [countFs]; decide), hpol,
        hcounted.fld_id (g := F.STAGE_PICK_PICK) (by simp [countFs]; decide), hle]
  obtain ⟨hb, hpass, hfld, hsame⟩ := boundary_noSwap (x := s.staged) (o := s.owed) (ws := [(F.UNIT_STATUS_LATE, hu)]) hq hns hn parity hstep rfl
    (fldSame_setFld _ _ _ _ _ (by simp)) (by simp [Apart, boundaryFs, bayClkFs]; decide) (by simp [swapFs]; decide)
  exact ⟨_, hb, hpass, (hfld _ _ _).trans (fld_setFld_same _ _ _ _ _), hsame⟩

/-- Values whose boundary is to come, or whose POLICY names none, stay as they are. -/
theorem boundary_stays (h : 2 ≤ s.fld F.STAGE_CTL_POLICY hu ∨ (s.fld F.STAGE_CTL_POLICY hu = 1 ∧ n < s.fld F.STAGE_PICK_PICK hu)) :
    ∃ v, boundary n parity s = v ∧ PassesTo s s v n ∧ FldSame s v countFs := by
  have hcounted := fldSame_counted n s
  have hnot : ¬Due (counted n s) n hu := fun hd => by
    rcases due_counted.1 hd with hd | ⟨hd, he⟩ <;> omega
  have hstep : policyApply n (counted n s) = counted n s := by
    rw [policyApply_waits (s := counted n s) hplain hne hnot, stageLate, if_neg]
    have hpick : (counted n s).pick = n := counted_pick hn s
    simp only [hpick, hcounted.fld_id (g := F.STAGE_CTL_POLICY) (by simp [countFs]; decide),
      hcounted.fld_id (g := F.STAGE_PICK_PICK) (by simp [countFs]; decide), Bool.and_eq_true, decide_eq_true_eq]
    omega
  obtain ⟨hb, hpass, -, hsame⟩ := boundary_noSwap (x := s.staged) (o := s.owed) (ws := []) hq hns hn parity hstep rfl (FldSame.refl _ _)
    (by simp [Apart]) (by simp)
  exact ⟨_, hb, hpass, hsame.mono (by simp)⟩

end

end Sys2Proof.Machine
end

section
/-!
SUPPORT. Bank swaps of slices at a quiet boundary (R151 to R153): what each slice on a running clock input takes, and what a stopped input notes.
-/
namespace Sys2Proof.Machine
open Claims

/-! ### One slice -/

/-- The active bank of slice `k` of a bay and whether it has a pending swap request. -/
def slcBits (s : State) (b k : Nat) : Bool × Bool := (bitOf (s.fld F.BAY_COEF_ACT_ACT b) k, bitOf (s.fld F.BAY_COEF_ACT_PEND b) k)

/-- What they become at a boundary: a request of the fabric toggles the bank, else the bank follows SEL (R151, R152). -/
def slcTaken (s : State) (b k : Nat) : Bool × Bool :=
  if slcSwapFabric s b k then ((slcBits s b k).1 != (slcBits s b k).2, false) else (bitOf (s.fld F.BAY_COEF_SEL_SEL b) k, (slcBits s b k).2)

theorem bitOf_setFlag (s : State) (f : Field) (u i n k : Nat) (x : Bool) (hk : k < f.w) :
    bitOf ((s.setFlag f u i n x).fld f u i) k = if k = n then x else bitOf (s.fld f u i) k := by
  rw [State.setFlag, fld_setFld_same, bitOf_mod_two_pow _ _ _ hk, bitOf_withBit]

theorem fld_setFlag_id (s : State) (f g : Field) (u i n v j : Nat) (x : Bool) (h : g.id ≠ f.id) : (s.setFlag f u i n x).fld g v j = s.fld g v j :=
  fld_setFld_id _ _ _ _ _ _ _ _ h

/-- A slice that takes the boundary changes its own bits alone. -/
theorem slcBits_slcBoundary (s : State) (b i : Nat) {k : Nat} (hk : k < 32) :
    slcBits (slcBoundary b i s) b k = if k = i then slcTaken s b k else slcBits s b k := by
  have hact : k < F.BAY_COEF_ACT_ACT.w := hk
  have hpend : k < F.BAY_COEF_ACT_PEND.w := hk
  unfold slcBoundary slcTaken slcBits
  by_cases e : k = i
  · subst e
    by_cases hfab : slcSwapFabric s b k = true
    · by_cases hreq : bitOf (s.fld F.BAY_COEF_ACT_PEND b) k = true
      · simp only [if_pos hfab, bitOf_setFlag _ _ _ _ _ _ _ hpend, fld_setFlag_id _ F.BAY_COEF_ACT_PEND F.BAY_COEF_ACT_ACT _ _ _ _ _ _ (by decide),
          bitOf_setFlag _ _ _ _ _ _ _ hact, if_true, hreq, Bool.bne_true]
      · simp [hfab, hreq]
    · simp only [if_neg hfab, bitOf_setFlag _ _ _ _ _ _ _ hact, fld_setFlag_id _ F.BAY_COEF_ACT_ACT F.BAY_COEF_ACT_PEND _ _ _ _ _ _ (by decide), if_true]
  · rw [if_neg e]
    simp only
    split_ifs
    · simp only [bitOf_setFlag _ _ _ _ _ _ _ hpend, fld_setFlag_id _ F.BAY_COEF_ACT_PEND F.BAY_COEF_ACT_ACT _ _ _ _ _ _ (by decide),
        bitOf_setFlag _ _ _ _ _ _ _ hact, fld_setFlag_id _ F.BAY_COEF_ACT_ACT F.BAY_COEF_ACT_PEND _ _ _ _ _ _ (by decide), if_neg e]
    · rfl
    · simp only [bitOf_setFlag _ _ _ _ _ _ _ hact, fld_setFlag_id _ F.BAY_COEF_ACT_ACT F.BAY_COEF_ACT_PEND _ _ _ _ _ _ (by decide), if_neg e]

theorem slcBoundary_proj {β : Type} (g : State → β) (h : ∀ (s : State) r, g { s with regs := r } = g s) (b k : Nat) (s : State) :
    g (slcBoundary b k s) = g s := by
  unfold slcBoundary
  simp only
  split_ifs
  · exact (h _ _).trans (h _ _)
  · rfl
  · exact h _ _

theorem fldSame_slcBoundary (b k : Nat) (s : State) : FldSame s (slcBoundary b k s) (slcFs b) := by
  unfold slcBoundary
  simp only [State.setFlag]
  split_ifs
  · exact (fldSame_setFld _ _ _ _ _ (by simp [slcFs])).trans (fldSame_setFld _ _ _ _ _ (by simp [slcFs]))
  · exact FldSame.refl _ _
  · exact fldSame_setFld _ _ _ _ _ (by simp [slcFs])

/-! ### The slices on one clock input -/

/-- The configuration frames and SEL are as in `s`. -/
def SameSlices (s u : State) (b : Nat) : Prop := u.mem = s.mem ∧ u.fld F.BAY_COEF_SEL_SEL b = s.fld F.BAY_COEF_SEL_SEL b

theorem slcCfg_congr {s t : State} (h : t.mem = s.mem) (b k lo w : Nat) : slcCfg t b k lo w = slcCfg s b k lo w := by
  unfold slcCfg State.rdBytes State.rdB
  rw [h]

theorem slcClk_congr {s t : State} (h : t.mem = s.mem) (b k : Nat) : slcClk t b k = slcClk s b k := slcCfg_congr h b k 0 3

theorem slcTaken_congr {s t : State} {b k : Nat} (h : SameSlices s t b) (hbits : slcBits t b k = slcBits s b k) : slcTaken t b k = slcTaken s b k := by
  obtain ⟨hmem, hsel⟩ := h
  have hfab : slcSwapFabric t b k = slcSwapFabric s b k := by simp only [slcSwapFabric, slcCfg_congr hmem]
  simp only [slcTaken, hfab, hbits, hsel]

/-- The slice `i` of a bay, if it is on clock input `k`, takes the boundary. -/
def slcOn (b k i : Nat) (s : State) : State := if slcClk s b i = k then slcBoundary b i s else s

theorem slcBoundaryOn_eq (b k : Nat) (s : State) : slcBoundaryOn b k s = forN 32 (slcOn b k) s := rfl

theorem slcOn_proj {β : Type} (g : State → β) (h : ∀ (s : State) r, g { s with regs := r } = g s) (b k i : Nat) (s : State) : g (slcOn b k i s) = g s := by
  unfold slcOn
  split
  · exact slcBoundary_proj g h b i s
  · rfl

theorem fldSame_slcOn (b k i : Nat) (s : State) : FldSame s (slcOn b k i s) (slcFs b) := by
  unfold slcOn
  split
  · exact fldSame_slcBoundary b i s
  · exact FldSame.refl _ _

theorem fldSame_forN_slcOn (b k n : Nat) (s : State) : FldSame s (forN n (slcOn b k) s) (slcFs b) := fldSame_forL (fun i _ s => fldSame_slcOn b k i s) s

theorem sameSlices_forN_slcOn (b k n : Nat) (s : State) : SameSlices s (forN n (slcOn b k) s) b :=
  ⟨forN_proj (f := slcOn b k) (·.mem) (fun i _ s => slcOn_proj (·.mem) (fun _ _ => rfl) b k i s) s,
    (fldSame_forN_slcOn b k n s).fld_id (by simp [slcFs]; decide) b 0⟩

theorem slcBits_forN_slcOn (s : State) (b k n : Nat) {i : Nat} (hi : i < 32) :
    slcBits (forN n (slcOn b k) s) b i = if i < n ∧ slcClk s b i = k then slcTaken s b i else slcBits s b i := by
  induction n with
  | zero => simp
  | succ n ih =>
    have hsame := sameSlices_forN_slcOn b k n s
    rw [forN_succ, slcOn, slcClk_congr hsame.1]
    by_cases e : i = n
    · subst e
      rw [if_neg (by omega)] at ih
      by_cases hk : slcClk s b i = k
      · rw [if_pos hk, slcBits_slcBoundary _ _ _ hi, if_pos rfl, slcTaken_congr hsame ih, if_pos ⟨by omega, hk⟩]
      · rw [if_neg hk, ih, if_neg (fun h => hk h.2)]
    · have hlt : i < n + 1 ↔ i < n := by omega
      simp only [hlt]
      split
      · rw [slcBits_slcBoundary _ _ _ hi, if_neg e, ih]
      · exact ih

/-- Every slice of a bay on a clock input takes the boundary there. -/
theorem slcBits_slcBoundaryOn (s : State) (b k : Nat) {i : Nat} (hi : i < 32) :
    slcBits (slcBoundaryOn b k s) b i = if slcClk s b i = k then slcTaken s b i else slcBits s b i := by
  rw [slcBoundaryOn_eq, slcBits_forN_slcOn _ _ _ _ hi]
  exact if_congr (by simp [hi]) rfl rfl

end Sys2Proof.Machine
end

section
/-!
SUPPORT. Bank swaps at a quiet boundary: the clock inputs of a bay, all bays, and the boundary itself (R151 to R153).
-/
namespace Sys2Proof.Machine
open Claims

/-! ### What swaps may change -/

/-- The fields of the slices of all bays. -/
def allSlcFs : List (Field × Nat) := (List.range 768).flatMap slcFs

theorem slcFs_subset {b : Nat} (hb : b < 768) : slcFs b ⊆ allSlcFs := fun _ hw => List.mem_flatMap.2 ⟨b, List.mem_range.2 hb, hw⟩

/-- `u` differs from `s` by fields of slices and by missed boundaries. -/
def Swapped (s u : State) : Prop := u = { s with missed := u.missed, regs := u.regs } ∧ FldSame s u allSlcFs

theorem Swapped.refl (s : State) : Swapped s s := ⟨rfl, FldSame.refl s _⟩

theorem Swapped.trans {s t u : State} (h : Swapped s t) (k : Swapped t u) : Swapped s u := by
  obtain ⟨hrest, hsame⟩ := h
  obtain ⟨krest, ksame⟩ := k
  exact ⟨by rw [krest, hrest], hsame.trans ksame⟩

theorem forall_mem_allSlcFs {P : Field × Nat → Prop} (h : ∀ b, P (F.BAY_COEF_ACT_ACT, b) ∧ P (F.BAY_COEF_ACT_PEND, b)) : ∀ w ∈ allSlcFs, P w := by
  intro w hw
  obtain ⟨b, -, hw⟩ := List.mem_flatMap.1 hw
  simp only [slcFs, List.mem_cons, List.not_mem_nil, or_false] at hw
  rcases hw with rfl | rfl
  · exact (h b).1
  · exact (h b).2

theorem apart_allSlcFs : Apart allSlcFs := fun f hf => forall_mem_allSlcFs fun _ =>
  (by decide : ∀ f ∈ boundaryFs, f.id ≠ F.BAY_COEF_ACT_ACT.id ∧ f.id ≠ F.BAY_COEF_ACT_PEND.id) f hf

theorem Swapped.sameSlices {s u : State} (h : Swapped s u) (b : Nat) : SameSlices s u b :=
  ⟨by rw [h.1], h.2.fld_id (forall_mem_allSlcFs fun _ =>
    (by decide : F.BAY_COEF_SEL_SEL.id ≠ F.BAY_COEF_ACT_ACT.id ∧ F.BAY_COEF_SEL_SEL.id ≠ F.BAY_COEF_ACT_PEND.id)) b 0⟩

theorem Swapped.bayClk {s u : State} (h : Swapped s u) (b k : Nat) : bayClk u b k = bayClk s b k :=
  apart_bayClk h.2 apart_allSlcFs (by rw [h.1]) (by rw [h.1]) b k

/-! ### One clock input of a bay -/

/-- Clock input `k` of a bay missed the boundary, or did not. -/
def noteMissed (b k : Nat) (x : Bool) (s : State) : State := { s with missed := s.missed.upd b (fun m => withBit m k x) }

/-- Clock input `k` of a bay sees the boundary. -/
def inputBoundary (s0 : State) (b k : Nat) (s : State) : State :=
  if bayClk s0 b k || bayClk s b k then slcBoundaryOn b k (noteMissed b k false s) else noteMissed b k true s

theorem inputBoundary_of_swapped {s0 s : State} (h : Swapped s0 s) (b k : Nat) :
    inputBoundary s0 b k s = if bayClk s0 b k then slcBoundaryOn b k (noteMissed b k false s) else noteMissed b k true s := by
  rw [inputBoundary, h.bayClk, Bool.or_self]

theorem slcBoundaryOn_proj {β : Type} (g : State → β) (h : ∀ (s : State) r, g { s with regs := r } = g s) (b k : Nat) (s : State) :
    g (slcBoundaryOn b k s) = g s := forN_proj (f := slcOn b k) g (fun i _ s => slcOn_proj g h b k i s) s

theorem inputBoundary_proj {β : Type} (g : State → β) (h : ∀ (s : State) r m, g { s with regs := r, missed := m } = g s) (s0 : State) (b k : Nat)
    (s : State) : g (inputBoundary s0 b k s) = g s := by
  unfold inputBoundary
  split
  · exact (slcBoundaryOn_proj g (fun s r => h s r s.missed) _ _ _).trans (h s s.regs _)
  · exact h s s.regs _

theorem fldSame_inputBoundary (s0 : State) (b k : Nat) (s : State) : FldSame s (inputBoundary s0 b k s) (slcFs b) := by
  unfold inputBoundary
  split
  · exact (fldSame_of_regs (t := noteMissed b k false s) rfl _).trans (fldSame_forN_slcOn b k 32 _)
  · exact fldSame_of_regs rfl _

theorem swapped_inputBoundary (s0 : State) {b : Nat} (hb : b < 768) (k : Nat) (s : State) : Swapped s (inputBoundary s0 b k s) :=
  ⟨congrArg (fun u : State => { u with regs := (inputBoundary s0 b k s).regs, missed := (inputBoundary s0 b k s).missed })
    (inputBoundary_proj (fun u : State => ({ u with regs := {}, missed := {} } : State)) (fun _ _ _ => rfl) s0 b k s),
    (fldSame_inputBoundary s0 b k s).mono (slcFs_subset hb)⟩

theorem missed_inputBoundary {s0 s : State} (h : Swapped s0 s) (b k : Nat) :
    (inputBoundary s0 b k s).missed = s.missed.upd b (fun m => withBit m k (!bayClk s0 b k)) := by
  rw [inputBoundary_of_swapped h]
  cases bayClk s0 b k
  · rfl
  · exact slcBoundaryOn_proj (·.missed) (fun _ _ => rfl) b k _

/-! ### One bay -/

theorem swapped_forN_inputBoundary (s0 : State) {b : Nat} (hb : b < 768) (n : Nat) {s : State} (h : Swapped s0 s) :
    Swapped s0 (forN n (inputBoundary s0 b) s) := by
  induction n with
  | zero => exact h
  | succ n ih =>
    rw [forN_succ]
    exact ih.trans (swapped_inputBoundary s0 hb n _)

theorem bitOf_missed_forN {s0 s : State} (h : Swapped s0 s) {b : Nat} (hb : b < 768) (n j : Nat) :
    bitOf ((forN n (inputBoundary s0 b) s).missed.get b) j = if j < n then !bayClk s0 b j else bitOf (s.missed.get b) j := by
  induction n with
  | zero => rfl
  | succ n ih =>
    rw [forN_succ, missed_inputBoundary (swapped_forN_inputBoundary s0 hb n h), SMap.upd, SMap.get_set_same, bitOf_withBit, ih]
    by_cases e : j = n
    · subst e
      simp
    · simp only [if_neg e, show j < n + 1 ↔ j < n by omega]

/-- Each slice of a bay whose clock input is among the first `n` and runs takes the boundary. -/
theorem slcBits_forN_inputBoundary {s0 s : State} (h : Swapped s0 s) {b : Nat} (hb : b < 768) (n : Nat) {k : Nat} (hk : k < 32) :
    slcBits (forN n (inputBoundary s0 b) s) b k =
      if slcClk s0 b k < n ∧ bayClk s0 b (slcClk s0 b k) = true then slcTaken s b k else slcBits s b k := by
  induction n with
  | zero => simp
  | succ n ih =>
    have hn := swapped_forN_inputBoundary s0 hb n h
    rw [forN_succ, inputBoundary_of_swapped hn]
    generalize forN n (inputBoundary s0 b) s = t at ih hn
    have hclk : slcClk t b k = slcClk s0 b k := slcClk_congr (hn.sameSlices b).1 b k
    by_cases e : slcClk s0 b k = n
    · rw [if_neg (by omega)] at ih
      by_cases hrun : bayClk s0 b n = true
      · have hsame : SameSlices s t b :=
          ⟨(hn.sameSlices b).1.trans (h.sameSlices b).1.symm, (hn.sameSlices b).2.trans (h.sameSlices b).2.symm⟩
        have hstep : slcBits (slcBoundaryOn b n (noteMissed b n false t)) b k =
            if slcClk t b k = n then slcTaken t b k else slcBits t b k := slcBits_slcBoundaryOn (noteMissed b n false t) b n hk
        rw [if_pos hrun, hstep, hclk, if_pos e, slcTaken_congr hsame ih, e, if_pos ⟨by omega, hrun⟩]
      · rw [if_neg hrun, if_neg (by rw [e]; exact fun h => hrun h.2)]
        exact ih
    · simp only [show slcClk s0 b k < n + 1 ↔ slcClk s0 b k < n by omega]
      rw [← ih]
      split
      · have hstep : slcBits (slcBoundaryOn b n (noteMissed b n false t)) b k =
            if slcClk t b k = n then slcTaken t b k else slcBits t b k := slcBits_slcBoundaryOn (noteMissed b n false t) b n hk
        rw [hstep, hclk, if_neg e]
      · rfl

theorem slcClk_lt (s : State) (b k : Nat) : slcClk s b k < 8 := by
  rw [slcClk, slcCfg, bitsOf]
  exact Nat.mod_lt _ (Nat.two_pow_pos 3)

/-! ### All bays -/

/-- A bay takes bank swaps at boundaries: it is not frozen and does not wait to take over a migrating skein. -/
abbrev Takes (s : State) (b : Nat) : Prop := s.frozen.contains b = false ∧ s.fld F.HD_MAP_OSTATE 0 b ≠ oMIGDEST

/-- A request is pending in a bay, or SEL asks for other banks than the active ones. -/
abbrev Asks (s : State) (b : Nat) : Prop := s.fld F.BAY_COEF_ACT_PEND b ≠ 0 ∨ s.fld F.BAY_COEF_SEL_SEL b ≠ s.fld F.BAY_COEF_ACT_ACT b

/-- The bays that have a swap to take. -/
def swapBays (s : State) : List Nat :=
  (List.range 768).filter (fun b => !s.frozen.contains b && ostate s b != oMIGDEST &&
    (s.fld F.BAY_COEF_ACT_PEND b != 0 || s.fld F.BAY_COEF_SEL_SEL b != s.fld F.BAY_COEF_ACT_ACT b))

theorem mem_swapBays {s : State} {b : Nat} : b ∈ swapBays s ↔ b < 768 ∧ Takes s b ∧ Asks s b := by
  simp only [swapBays, List.mem_filter, List.mem_range, Bool.and_eq_true, Bool.or_eq_true, Bool.not_eq_true', bne_iff_ne, ostate, Takes, Asks]

theorem sliceBoundary_eq (s0 s : State) : sliceBoundary s0 s = forL (swapBays s) (fun b => forN 8 (inputBoundary s0 b)) s := rfl

theorem swapped_sliceBoundary (s : State) : Swapped s (sliceBoundary s s) := by
  have hall : ∀ l : List Nat, (∀ b ∈ l, b < 768) → ∀ t, Swapped s t → Swapped s (forL l (fun b => forN 8 (inputBoundary s b)) t) := by
    intro l
    induction l with
    | nil => exact fun _ _ h => h
    | cons b l ih => exact fun hl t h => ih (fun x hx => hl x (List.mem_cons_of_mem _ hx)) _ (swapped_forN_inputBoundary s (hl b List.mem_cons_self) 8 h)
  rw [sliceBoundary_eq]
  exact hall (swapBays s) (fun b hb => (mem_swapBays.1 hb).1) s (Swapped.refl s)

/-- What a boundary may change of one bay. -/
def slcView (b : Nat) (s : State) : Nat × Nat × Nat := (s.missed.get b, s.fld F.BAY_COEF_ACT_ACT b, s.fld F.BAY_COEF_ACT_PEND b)

theorem slcBits_of_view {s t : State} {b : Nat} (h : slcView b t = slcView b s) (k : Nat) : slcBits t b k = slcBits s b k := by
  simp only [slcView, Prod.mk.injEq] at h
  obtain ⟨-, hact, hpend⟩ := h
  rw [slcBits, slcBits, hact, hpend]

theorem missed_of_view {s t : State} {b : Nat} (h : slcView b t = slcView b s) : t.missed.get b = s.missed.get b := (Prod.mk.inj h).1

theorem slcView_inputBoundary_ne (s0 : State) {a b : Nat} (h : a ≠ b) (k : Nat) (s : State) : slcView b (inputBoundary s0 a k s) = slcView b s := by
  have hunit : ∀ f : Field, (inputBoundary s0 a k s).fld f b = s.fld f b := fun f =>
    fldSame_inputBoundary s0 a k s f b 0 (by simp [slcFs, Ne.symm h])
  have hmissed : (inputBoundary s0 a k s).missed.get b = s.missed.get b := by
    unfold inputBoundary
    split
    · rw [slcBoundaryOn_proj (·.missed) (fun _ _ => rfl)]
      exact SMap.get_set_ne _ _ _ _ (Ne.symm h)
    · exact SMap.get_set_ne _ _ _ _ (Ne.symm h)
  rw [slcView, slcView, hunit, hunit, hmissed]

theorem slcView_bay_ne (s0 : State) {a b : Nat} (h : a ≠ b) (s : State) : slcView b (forN 8 (inputBoundary s0 a) s) = slcView b s :=
  forN_proj (slcView b) (fun k _ s => slcView_inputBoundary_ne s0 h k s) s

/-- A bay with a swap to take sees the boundary once, as it stood. -/
theorem slcView_sliceBoundary {s : State} {b : Nat} (h : b ∈ swapBays s) :
    ∃ t, Swapped s t ∧ slcView b t = slcView b s ∧ slcView b (sliceBoundary s s) = slcView b (forN 8 (inputBoundary s b) t) :=
  forL_at (f := fun b => forN 8 (inputBoundary s b)) (Swapped s) (slcView b) (List.nodup_range.filter _) h
    (fun _ ha _ ht => swapped_forN_inputBoundary s (mem_swapBays.1 ha).1 8 ht) (fun _ _ hne t => slcView_bay_ne s hne t) (Swapped.refl s)

/-- The other bays do not. -/
theorem slcView_sliceBoundary_of_not_mem {s : State} {b : Nat} (h : b ∉ swapBays s) : slcView b (sliceBoundary s s) = slcView b s :=
  forL_proj (f := fun b => forN 8 (inputBoundary s b)) (slcView b) (fun a ha t => slcView_bay_ne s (a := a) (fun e => h (by rwa [← e])) t) s

theorem slcTaken_of_not_asks {s : State} {b : Nat} (h : ¬Asks s b) (k : Nat) : slcTaken s b k = slcBits s b k := by
  simp only [Asks, not_or, not_not] at h
  obtain ⟨hpend, hsel⟩ := h
  simp [slcTaken, slcBits, hpend, hsel, bitOf_zero]

/-- Each slice on a running clock input of a bay that takes swaps takes the boundary. -/
theorem slcBits_sliceBoundary (s : State) {b k : Nat} (hb : b < 768) (hk : k < 32) :
    slcBits (sliceBoundary s s) b k = if Takes s b ∧ bayClk s b (slcClk s b k) = true then slcTaken s b k else slcBits s b k := by
  by_cases hmem : b ∈ swapBays s
  · obtain ⟨-, htakes, -⟩ := mem_swapBays.1 hmem
    obtain ⟨t, ht, hview, hfinal⟩ := slcView_sliceBoundary hmem
    rw [slcBits_of_view hfinal, slcBits_forN_inputBoundary ht hb 8 hk, slcTaken_congr (ht.sameSlices b) (slcBits_of_view hview k),
      slcBits_of_view hview]
    exact if_congr ⟨fun h => ⟨htakes, h.2⟩, fun h => ⟨slcClk_lt s b k, h.2⟩⟩ rfl rfl
  · rw [slcBits_of_view (slcView_sliceBoundary_of_not_mem hmem)]
    split
    · next h => rw [slcTaken_of_not_asks fun hasks => hmem (mem_swapBays.2 ⟨hb, h.1, hasks⟩)]
    · rfl

/-- Each clock input of a bay with a swap to take notes whether it missed the boundary. -/
theorem bitOf_missed_sliceBoundary (s : State) {b : Nat} (hb : b < 768) (j : Nat) :
    bitOf ((sliceBoundary s s).missed.get b) j =
      if Takes s b ∧ j < 8 ∧ Asks s b then !bayClk s b j else bitOf (s.missed.get b) j := by
  by_cases hmem : b ∈ swapBays s
  · obtain ⟨-, htakes, hasks⟩ := mem_swapBays.1 hmem
    obtain ⟨t, ht, hview, hfinal⟩ := slcView_sliceBoundary hmem
    rw [missed_of_view hfinal, bitOf_missed_forN ht hb, missed_of_view hview]
    exact if_congr ⟨fun h => ⟨htakes, h, hasks⟩, fun ⟨_, h, _⟩ => h⟩ rfl rfl
  · rw [missed_of_view (slcView_sliceBoundary_of_not_mem hmem), if_neg]
    exact fun ⟨htakes, _, hasks⟩ => hmem (mem_swapBays.2 ⟨hb, htakes, hasks⟩)

end Sys2Proof.Machine
end

section
/-!
SUPPORT. What a quiet boundary with bank swaps answers (R151 to R153).
-/
namespace Sys2Proof.Machine
open Claims

/-! ### The slices of the counted state -/

theorem fld_counted {f : Field} (h : ∀ w ∈ countFs, f.id ≠ w.1.id) (n : Nat) (s : State) (u i : Nat) : (counted n s).fld f u i = s.fld f u i :=
  (fldSame_counted n s).fld_id h u i

theorem swapFs_countFs : ∀ f ∈ swapFs, ∀ w ∈ countFs, f.id ≠ w.1.id := by simp [swapFs, countFs]; decide

theorem slcView_counted (n : Nat) (s : State) (b : Nat) : slcView b (counted n s) = slcView b s := by
  rw [slcView, slcView, fld_counted (swapFs_countFs _ (by simp [swapFs])), fld_counted (swapFs_countFs _ (by simp [swapFs]))]
  rfl

theorem sameSlices_counted (n : Nat) (s : State) (b : Nat) : SameSlices s (counted n s) b :=
  ⟨rfl, fld_counted (swapFs_countFs _ (by simp [swapFs])) n s b 0⟩

theorem takes_counted {n : Nat} {s : State} {b : Nat} : Takes (counted n s) b ↔ Takes s b := by
  rw [Takes, Takes, fld_counted (swapFs_countFs _ (by simp [swapFs]))]
  rfl

theorem asks_counted {n : Nat} {s : State} {b : Nat} : Asks (counted n s) b ↔ Asks s b := by
  simp only [Asks, fld_counted (swapFs_countFs F.BAY_COEF_ACT_PEND (by simp [swapFs])), fld_counted (swapFs_countFs F.BAY_COEF_SEL_SEL (by simp [swapFs])),
    fld_counted (swapFs_countFs F.BAY_COEF_ACT_ACT (by simp [swapFs]))]

/-! ### The boundary -/

/-- A quiet boundary with nothing staged shows what the slices make of the counted state. -/
theorem boundary_swaps {s p : State} (hq : Quiet s) (hst : s.staged = []) {n : Nat} (hn : n < 2 ^ 64) (parity : List Nat)
    (hp : sliceBoundary (counted n s) (counted n s) = p) :
    boundary n parity s = strobeArm p ∧ PassesTo s { s with missed := p.missed } (strobeArm p) n ∧
      (∀ f u i, (strobeArm p).fld f u i = p.fld f u i) ∧ FldSame s (strobeArm p) (countFs ++ allSlcFs) := by
  have hpol : policyApply n (counted n s) = counted n s := policyApply_none (s := counted n s) hst n
  have hmove : (counted n s).fld F.HD_MOVE_CTL_STATE = s.fld F.HD_MOVE_CTL_STATE := fld_counted (by simp [countFs]; decide) n s 0 0
  have hcalm : Calm (counted n s) := (calm_of_quiet hq).of_same rfl hmove
  obtain ⟨hrest, hsame⟩ : Swapped (counted n s) p := hp ▸ swapped_sliceBoundary (counted n s)
  have hx : Calm p := hcalm.of_same (by rw [hrest]) (hsame.fld_id (apart_allSlcFs _ (by simp [boundaryFs])) 0 0)
  obtain ⟨hpass, hfld⟩ := passesTo_strobeArm (u := { s with missed := p.missed }) hn hsame apart_allSlcFs hrest rfl rfl rfl
  refine ⟨?_, hpass, hfld, fun g u i hw => ?_⟩
  · rw [boundary_quiet hq n parity (by rw [hpol]; exact hcalm) (by rw [hpol, hp]; exact hx), hpol, hp]
  · rw [hfld]
    exact (((fldSame_counted n s).mono (List.subset_append_left _ _)).trans (hsame.mono (List.subset_append_right _ _))) g u i hw

section
variable {s p v : State} {n : Nat} (hp : sliceBoundary (counted n s) (counted n s) = p) (hv : ∀ f u i, v.fld f u i = p.fld f u i) {b k : Nat}
  (hb : b < 768)
include hp hb

theorem bitOf_missed_boundary (j : Nat) :
    bitOf (p.missed.get b) j = if Takes s b ∧ j < 8 ∧ Asks s b then !bayClk s b j else bitOf (s.missed.get b) j := by
  rw [← hp, bitOf_missed_sliceBoundary _ hb, bayClk_counted]
  exact if_congr (by rw [takes_counted, asks_counted]) rfl rfl

include hv

theorem slcBits_boundary (hk : k < 32) :
    slcBits v b k = if Takes s b ∧ bayClk s b (slcClk s b k) = true then slcTaken s b k else slcBits s b k := by
  have hbits : slcBits v b k = slcBits p b k := by simp only [slcBits, hv]
  have hsame := sameSlices_counted n s b
  have hview := slcBits_of_view (slcView_counted n s b) k
  rw [hbits, ← hp, slcBits_sliceBoundary _ hb hk, slcTaken_congr hsame hview, hview, slcClk_congr hsame.1, bayClk_counted]
  exact if_congr (by rw [takes_counted]) rfl rfl

theorem slcBits_boundary_kept (hk : k < 32) (h : ¬Takes s b ∨ bayClk s b (slcClk s b k) = false) : slcBits v b k = slcBits s b k := by
  rw [slcBits_boundary hp hv hb hk, if_neg]
  rintro ⟨htakes, hclk⟩
  rcases h with h | h
  · exact h htakes
  · rw [hclk] at h
    exact Bool.noConfusion h

theorem slcBits_boundary_taken (hk : k < 32) (htakes : Takes s b) (hclk : bayClk s b (slcClk s b k) = true) : slcBits v b k = slcTaken s b k := by
  rw [slcBits_boundary hp hv hb hk, if_pos ⟨htakes, hclk⟩]

end

end Sys2Proof.Machine
end

section
/-!
SUPPORT. What a Reed system reset sets: the register cells by their keys, the start-up, and the reset itself (R684, R686, Table 23.8).
-/
namespace Sys2Proof.Machine
open Claims

/-! ### The key of a register cell -/

theorem rootFrom_eq_sqrt {n : Nat} : ∀ {k r : Nat}, r * r ≤ n → n < (r + 2 ^ k) * (r + 2 ^ k) → rootFrom n k r = n.sqrt
  | 0, _, hle, hlt => Nat.eq_sqrt.2 ⟨hle, hlt⟩
  | k + 1, r, hle, hlt => by
    rw [rootFrom]
    rw [pow_succ, Nat.mul_two, ← Nat.add_assoc] at hlt
    split
    · next h => exact rootFrom_eq_sqrt h hlt
    · next h => exact rootFrom_eq_sqrt hle (Nat.lt_of_not_le h)

theorem unpairN_pairN (a b : Nat) : unpairN (pairN a b) = (a, b) := by
  have hroot : ∀ n, rootFrom n (n.log2 / 2 + 1) 0 = n.sqrt := fun n => by
    refine rootFrom_eq_sqrt (Nat.zero_le n) ?_
    rw [Nat.zero_add, ← pow_add]
    exact Nat.lt_of_lt_of_le Nat.lt_log2_self (Nat.pow_le_pow_right (by decide) (by omega))
  have hsqrt : (pairN a b).sqrt = a + b := Nat.sqrt_add_eq (a + b) (by omega)
  have hrest : pairN a b - (a + b) * (a + b) = a := Nat.add_sub_cancel_left _ _
  simp only [unpairN, hroot, hsqrt, hrest, Nat.add_sub_cancel_left]

/-- Every field, with its block. -/
def regCells : List (Blk × Field) := allRegs.flatMap (fun r => r.fields.map (fun f => (r.blk, f)))

theorem mem_regCells {r : Reg} {f : Field} (hr : r ∈ allRegs) (hf : f ∈ r.fields) : (r.blk, f) ∈ regCells :=
  List.mem_flatMap.2 ⟨r, hr, List.mem_map_of_mem hf⟩

/-- The fields are numbered in the order of the tables. -/
theorem regCells_rising : (regCells.map (fun c => c.2.id)).IsChain (· < ·) := by decide +kernel

theorem regCells_id {c d : Blk × Field} (hc : c ∈ regCells) (hd : d ∈ regCells) (h : c.2.id = d.2.id) : c = d :=
  List.inj_on_of_nodup_map (f := fun c : Blk × Field => c.2.id) ((List.isChain_iff_pairwise.1 regCells_rising).imp Nat.ne_of_lt) hc hd h

/-- A field's number names the field. -/
theorem fieldOf_id {r : Reg} {f : Field} (hr : r ∈ allRegs) (hf : f ∈ r.fields) : fieldOf f.id = some (r.blk, f) := by
  have hsome : (fieldOf f.id).isSome := List.findSome?_isSome_iff.2 ⟨r, hr, by
    rw [Option.isSome_map, List.find?_isSome]
    exact ⟨f, hf, beq_self_eq_true _⟩⟩
  obtain ⟨⟨b, g⟩, hfind⟩ := Option.isSome_iff_exists.1 hsome
  obtain ⟨q, hq, hg⟩ := List.exists_of_findSome?_eq_some hfind
  obtain ⟨g', hg', hbg⟩ := Option.map_eq_some_iff.1 hg
  obtain ⟨rfl, rfl⟩ := Prod.mk.inj hbg
  have hid : g'.id = f.id := beq_iff_eq.1 (List.find?_some (p := fun x : Field => x.id == f.id) hg')
  rw [hfind, regCells_id (mem_regCells hq (List.mem_of_find?_eq_some hg')) (mem_regCells hr hf) hid]

theorem cellKept_fkey {r : Reg} {f : Field} (hr : r ∈ allRegs) (hf : f ∈ r.fields) (k : ResetKind) (s : State) (u i : Nat) :
    cellKept k s (fkey f u i) = fieldKept k s r.blk f u := by
  simp only [cellKept, fkey, unpairN_pairN, fieldOf_id hr hf]

/-! ### The stored state after a reset -/

theorem getL_filter {α : Type} [Inhabited α] {p : Nat → α → Bool} {k : Nat} (h : ∀ v, p k v = false) (m : List (Nat × α)) :
    SMap.getL (m.filter (fun c => p c.1 c.2)) k = default := by
  induction m with
  | nil => rfl
  | cons c m ih =>
    rw [List.filter_cons]
    split
    · next hc =>
      rw [SMap.getL, if_neg, ih]
      rintro rfl
      rw [h] at hc
      exact Bool.noConfusion hc
    · exact ih

/-- A cell that a reset does not keep reads its reset value. -/
theorem fld_resetTo {k : ResetKind} {s : State} {r : Reg} {f : Field} (hr : r ∈ allRegs) (hf : f ∈ r.fields) {u : Nat}
    (h : fieldKept k s r.blk f u = false) (i : Nat) : (resetTo k s).fld f u i = f.resetAt u i := by
  have hget : (resetTo k s).regs.get (fkey f u i) = 0 :=
    getL_filter (p := fun key _ => cellKept k s key) (fun _ => (cellKept_fkey hr hf k s u i).trans h) s.regs.cells
  rw [State.fld, hget, Nat.zero_xor]

/-! ### The start-up -/

/-- The fields that the start-up writes. -/
def startUpFs : List (Field × Nat) := irqFs ++ [(F.CLK_GOOD_GOOD, 0), (F.GLINE_FREQ_FREQ_KHZ, 0), (F.HD_MAP_HSTATE, 0)]

theorem irqEdge_proj {β : Type} (g : State → β) (h : ∀ (s : State) r w l, g { s with regs := r, irqWin := w, irqHeld := l } = g s) (n : Nat)
    (s : State) : g (irqEdge n s) = g s := by
  unfold irqEdge
  split
  · exact irqSet_proj g (fun s r w => h s r w s.irqHeld) n s
  · exact h s s.regs s.irqWin _

theorem fldSame_irqEdge (n : Nat) (s : State) : FldSame s (irqEdge n s) irqFs := by
  unfold irqEdge
  split
  · exact fldSame_irqSet n s
  · exact fldSame_of_regs rfl _

theorem privRaise_proj {β : Type} (g : State → β) (h : ∀ (s : State) r w l, g { s with regs := r, irqWin := w, irqHeld := l } = g s)
    (s : State) : g (privRaise s) = g s := by
  unfold privRaise
  split
  · exact irqEdge_proj g h _ s
  · rfl

theorem fldSame_privRaise (s : State) : FldSame s (privRaise s) irqFs := by
  unfold privRaise
  split
  · exact fldSame_irqEdge _ s
  · exact FldSame.refl _ _

theorem glineRefresh_proj {β : Type} (g : State → β) (h : ∀ (s : State) r, g { s with regs := r } = g s) (s : State) : g (glineRefresh s) = g s :=
  forN_proj g (fun _ _ s => (h _ _).trans (h s _)) s

theorem fldSame_glineRefresh (s : State) : FldSame s (glineRefresh s) startUpFs :=
  fldSame_forL (fun _ _ _ => (fldSame_setFld _ _ _ _ _ (by simp [startUpFs])).trans (fldSame_setFld _ _ _ _ _ (by simp [startUpFs]))) s

/-- The start-up changes registers and what the interrupt controller records, and nothing else. -/
theorem startUp_proj {β : Type} (g : State → β) (h : ∀ (s : State) r w l, g { s with regs := r, irqWin := w, irqHeld := l } = g s)
    (bad : List Nat) (s : State) : g (startUp bad s) = g s := by
  have hregs : ∀ (s : State) r, g { s with regs := r } = g s := fun s r => h s r s.irqWin s.irqHeld
  calc g (startUp bad s)
      = g (forN 2048 irqSample (forL bad (fun b s => s.setFld F.HD_MAP_HSTATE 0 b 3) (glineRefresh s))) := privRaise_proj g h _
    _ = g (forL bad (fun b s => s.setFld F.HD_MAP_HSTATE 0 b 3) (glineRefresh s)) := forN_proj g (fun n _ s => irqSample_proj g h n s) _
    _ = g (glineRefresh s) := forL_proj g (fun _ _ s => hregs s _) _
    _ = g s := glineRefresh_proj g hregs s

theorem fldSame_startUp (bad : List Nat) (s : State) : FldSame s (startUp bad s) startUpFs := by
  have hirq : irqFs ⊆ startUpFs := List.subset_append_left _ _
  have hbad : FldSame (glineRefresh s) (forL bad (fun b s => s.setFld F.HD_MAP_HSTATE 0 b 3) (glineRefresh s)) startUpFs :=
    fldSame_forL (fun _ _ _ => fldSame_setFld _ _ _ _ _ (by simp [startUpFs])) _
  have hsample : ∀ u, FldSame u (forN 2048 irqSample u) startUpFs := fldSame_forL (fun n _ s => (fldSame_irqSample n s).mono hirq)
  exact (((fldSame_glineRefresh s).trans hbad).trans (hsample _)).trans ((fldSame_privRaise _).mono hirq)

end Sys2Proof.Machine
end

section
/-!
SUPPORT. A scheduled Reed system reset: what it sets, and the boundary that brings it (R614, R626, R686; log entry 14 for the blocks it leaves alone).
-/
namespace Sys2Proof.Machine
open Claims

/-! ### What a Reed system reset sets -/

/-- The fields that a Reed system reset sets in every unit. -/
def reedSets (b : Blk) (f : Field) : Bool :=
  f.form == .every && !railLog f && f.id != F.DEV_ID.id && f.id != F.PWR_GPIO_V_READY.id &&
    !([Blk.pcie, .dbg, .dcmp, .clk, .spb, .mp, .mpe, .warp, .reed, .hdr, .lane].contains b)

theorem fieldKept_reed {b : Blk} {f : Field} (h : reedSets b f = true) (s : State) (u : Nat) : fieldKept .reed s b f u = false := by
  simp only [reedSets, Bool.and_eq_true, Bool.not_eq_true', bne_iff_ne, beq_iff_eq] at h
  obtain ⟨⟨⟨⟨hform, hrail⟩, hdev⟩, hready⟩, hblk⟩ := h
  simp only [List.contains_eq_mem, decide_eq_false_iff_not, List.mem_cons, List.not_mem_nil, or_false, not_or] at hblk
  simp [fieldKept, hform, hrail, hdev, hready, hblk]

/-- The state that a Reed system reset starts up. -/
def reedBase (s : State) : State := ((resetTo .reed s).setFld F.RST_CAUSE_CAUSE 0 0 5).bump F.RST_CAUSE_COUNT

theorem deviceReset_reed (s : State) : deviceReset .reed 5 s = gpioShowAll (startUp (badBays s) (reedBase s)) := rfl

/-- What showing the pins and starting up leave alone. -/
theorem deviceReset_reed_proj {β : Type} (g : State → β)
    (h : ∀ (s : State) r w l x y, g { s with regs := r, irqWin := w, irqHeld := l, gpio := x, out := y } = g s) (s : State) :
    g (deviceReset .reed 5 s) = g (resetTo .reed s) := by
  have hregs : ∀ (s : State) r w l, g { s with regs := r, irqWin := w, irqHeld := l } = g s := fun s r w l => h s r w l s.gpio s.out
  calc g (deviceReset .reed 5 s)
      = g (startUp (badBays s) (reedBase s)) := gpioShowAll_proj g (fun s x y => h s s.regs s.irqWin s.irqHeld x y) _
    _ = g (reedBase s) := startUp_proj g hregs _ _
    _ = g (resetTo .reed s) := hregs (resetTo .reed s) _ _ _

theorem fldSame_deviceReset_reed (s : State) :
    FldSame (resetTo .reed s) (deviceReset .reed 5 s) (startUpFs ++ [(F.RST_CAUSE_CAUSE, 0), (F.RST_CAUSE_COUNT, 0)]) := by
  have hbase : FldSame (resetTo .reed s) (reedBase s) [(F.RST_CAUSE_CAUSE, 0), (F.RST_CAUSE_COUNT, 0)] :=
    (fldSame_setFld _ _ _ _ _ (by simp)).trans (fldSame_setFld _ _ _ _ _ (by simp))
  intro g v i hw
  rw [deviceReset_reed, fld_gpioShowAll]
  exact ((hbase.mono (List.subset_append_right _ _)).trans ((fldSame_startUp _ _).mono (List.subset_append_left _ _))) g v i hw

theorem rstCause_deviceReset_reed (s : State) : (deviceReset .reed 5 s).fld F.RST_CAUSE_CAUSE = 5 := by
  rw [deviceReset_reed, fld_gpioShowAll, (fldSame_startUp _ _).fld_id (by simp [startUpFs, irqFs]; decide), reedBase, State.bump,
    fld_setFld_id _ _ _ _ _ _ _ _ (by decide), fld_setFld_same]
  rfl

theorem startUpFs_startFs : ∀ w ∈ startUpFs ++ [(F.RST_CAUSE_CAUSE, 0), (F.RST_CAUSE_COUNT, 0)], w.1 ∈ startFs := by
  simp [startUpFs, irqFs, startFs]

/-- A Reed system reset is done. -/
theorem resetDone_deviceReset_reed (s : State) {q : State} (hpend : (deviceReset .reed 5 s).pending = q.pending) :
    ResetDone q (deviceReset .reed 5 s) 5 reedSets := by
  have hgone : ∀ {β : Type} (g : State → β),
      (∀ (s : State) r w l x y, g { s with regs := r, irqWin := w, irqHeld := l, gpio := x, out := y } = g s) →
      g (deviceReset .reed 5 s) = g (resetTo .reed s) := fun g h => deviceReset_reed_proj g h s
  refine ⟨rstCause_deviceReset_reed s, hgone (·.cmds) fun _ _ _ _ _ _ => rfl, hgone (·.load) fun _ _ _ _ _ _ => rfl,
    hgone (·.holds) fun _ _ _ _ _ _ => rfl, hgone (·.migs) fun _ _ _ _ _ _ => rfl, hgone (·.capts) fun _ _ _ _ _ _ => rfl,
    hgone (·.occ) fun _ _ _ _ _ _ => rfl, hgone (·.bist.run) fun _ _ _ _ _ _ => rfl, hpend, ?_⟩
  intro r hr f hf u i hset hstart
  rw [(fldSame_deviceReset_reed s).fld_id (fun w hw => hstart _ (startUpFs_startFs w hw))]
  exact fld_resetTo hr hf (fieldKept_reed hset s u) i

/-! ### The boundary -/

theorem resetsAt_ne_nil {s : State} {n : Nat} (h : ∃ k ∈ s.reed.kept, k.sym.op = 5 ∧ (k.late = true ∨ k.sym.pick = n)) :
    (resetsAt n s).isEmpty = false := by
  obtain ⟨k, hk, hop, hnow⟩ := h
  rw [List.isEmpty_eq_false_iff]
  exact List.ne_nil_of_mem (List.mem_filter.2 ⟨hk, by simpa [hop] using hnow⟩)

/-- At the boundary of a scheduled reset, or of one that came late, the device is reset. -/
theorem boundary_reset {s : State} {n : Nat} (h : ∃ k ∈ s.reed.kept, k.sym.op = 5 ∧ (k.late = true ∨ k.sym.pick = n)) (parity : List Nat) :
    ∃ u, boundary n parity s = deviceReset .reed 5 u := by
  unfold boundary
  simp only [resetsAt_ne_nil h, Bool.false_eq_true, if_false]
  exact ⟨_, rfl⟩

theorem resetDone_gpioShowAll {q t : State} {cause : Nat} {p : Blk → Field → Bool} (h : ResetDone q t cause p) :
    ResetDone q (gpioShowAll t) cause p := by
  obtain ⟨hcause, hcmds, hload, hholds, hmigs, hcapts, hocc, hrun, hpend, hfld⟩ := h
  have hkeep : ∀ {β : Type} (g : State → β), (∀ (s : State) x y, g { s with gpio := x, out := y } = g s) → g (gpioShowAll t) = g t :=
    fun g hg => gpioShowAll_proj g hg t
  refine ⟨(fld_gpioShowAll _ _ _ _).trans hcause, (hkeep (·.cmds) fun _ _ _ => rfl).trans hcmds, (hkeep (·.load) fun _ _ _ => rfl).trans hload,
    (hkeep (·.holds) fun _ _ _ => rfl).trans hholds, (hkeep (·.migs) fun _ _ _ => rfl).trans hmigs, (hkeep (·.capts) fun _ _ _ => rfl).trans hcapts,
    (hkeep (·.occ) fun _ _ _ => rfl).trans hocc, (hkeep (·.bist.run) fun _ _ _ => rfl).trans hrun, (hkeep (·.pending) fun _ _ _ => rfl).trans hpend,
    fun r hr f hf u i hset hstart => (fld_gpioShowAll _ _ _ _).trans (hfld r hr f hf u i hset hstart)⟩

/-- A scheduled reset at its boundary. -/
theorem exec_pickBoundary_reset {s : State} (htime : timeRuns s = true)
    (h : ∃ k ∈ s.reed.kept, k.sym.op = 5 ∧ (k.late = true ∨ k.sym.pick = s.fld F.PICK_CNT + 1)) (parity : List Nat) :
    ∃ t, exec (.pickBoundary parity) s = .next t ∧ t.dev = .run ∧ ResetDone s t 5 reedSets := by
  obtain ⟨u, hu⟩ := boundary_reset h parity
  have hexec := exec_pickBoundary htime parity
  rw [hu] at hexec
  have hkeeps : Keeps s (gpioShowAll (deviceReset .reed 5 u)) := keeps_execPickBoundary parity (Keeps.refl s) _ hexec
  have hpend : (deviceReset .reed 5 u).pending = s.pending :=
    (gpioShowAll_proj (·.pending) (fun _ _ _ => rfl) _).symm.trans hkeeps.1
  refine ⟨_, hexec, ?_, resetDone_gpioShowAll (resetDone_deviceReset_reed u hpend)⟩
  exact (gpioShowAll_proj (·.dev) (fun _ _ _ => rfl) _).trans (deviceReset_reed_proj (·.dev) (fun _ _ _ _ _ _ => rfl) u)

end Sys2Proof.Machine
end

section
/-!
SUPPORT. What the command of a pick boundary answers (family 01): the boundary's forms, assembled.
-/
namespace Sys2Proof.Machine
open Claims

/-- With no clock no boundary passes. -/
theorem exec_pickBoundary_stopped {s : State} (h : timeRuns s = false) (parity : List Nat) : exec (.pickBoundary parity) s = .next s := by
  show execPickBoundary parity s = _
  rw [execPickBoundary, if_neg (by simp [h])]

/-- The bits of a bay's slices after a quiet boundary, by whether the slice takes it. -/
theorem slices_boundary {s p v : State} {n : Nat} (hp : sliceBoundary (counted n s) (counted n s) = p) (hv : ∀ f u i, v.fld f u i = p.fld f u i)
    {b : Nat} (hb : b < 768) :
    let takes := s.frozen.contains b = false ∧ s.fld F.HD_MAP_OSTATE 0 b ≠ oMIGDEST
    (∀ j, bitOf (p.missed.get b) j = if takes ∧ j < 8 ∧ (s.fld F.BAY_COEF_ACT_PEND b ≠ 0 ∨ s.fld F.BAY_COEF_SEL_SEL b ≠ s.fld F.BAY_COEF_ACT_ACT b)
      then !bayClk s b j else bitOf (s.missed.get b) j) ∧
    ∀ k < 32,
      let act := bitOf (s.fld F.BAY_COEF_ACT_ACT b) k
      let pend := bitOf (s.fld F.BAY_COEF_ACT_PEND b) k
      let act' := bitOf (v.fld F.BAY_COEF_ACT_ACT b) k
      let pend' := bitOf (v.fld F.BAY_COEF_ACT_PEND b) k
      (¬takes ∨ bayClk s b (slcClk s b k) = false → act' = act ∧ pend' = pend) ∧
      (takes → bayClk s b (slcClk s b k) = true → slcSwapFabric s b k = true → act' = (act != pend) ∧ pend' = false) ∧
      (takes → bayClk s b (slcClk s b k) = true → slcSwapFabric s b k = false → pend' = pend ∧ act' = bitOf (s.fld F.BAY_COEF_SEL_SEL b) k) := by
  refine ⟨fun j => bitOf_missed_boundary hp hb j, fun k hk => ⟨fun h => ?_, fun htakes hclk hfab => ?_, fun htakes hclk hfab => ?_⟩⟩
  · exact Prod.mk.inj (slcBits_boundary_kept hp hv hb hk h)
  · have hbits := slcBits_boundary_taken hp hv hb hk htakes hclk
    rw [slcTaken, if_pos hfab] at hbits
    exact Prod.mk.inj hbits
  · have hbits := slcBits_boundary_taken hp hv hb hk htakes hclk
    rw [slcTaken, if_neg (by simp [hfab])] at hbits
    exact (Prod.mk.inj hbits).symm

/-- Settles O56: a quiet boundary counts, raises the strobes, and applies what a plain unit has staged and what slices ask for; a value for a stopped
clock waits (log entry 17). A scheduled reset is a Reed system reset, which leaves the blocks of log entry 14 alone. -/
theorem boundaryForms : Obligations.BoundaryForms := by
  unfold Obligations.BoundaryForms
  intro s parity
  refine ⟨fun h => exec_pickBoundary_stopped h parity, fun htime hn hq hns hst => ?_, fun htime hn hq hns hdev hu hplain hsingle hne h8 h11 h1 h2 => ?_,
    fun htime hn hq hst => ?_, fun htime h => exec_pickBoundary_reset htime h parity⟩
  all_goals rw [exec_pickBoundary htime]
  · obtain ⟨v, rfl, hv⟩ := boundary_empty hq hns hst hn parity
    exact ⟨_, rfl, hv⟩
  · have hunit : PlainUnit hu := ⟨h8, h11, h1, h2⟩
    refine ⟨fun hdue => ⟨fun hclk => ?_, fun hclk => ?_⟩, fun hpol hlate => ?_, fun hwait => ?_⟩
    · obtain ⟨v, rfl, hv⟩ := boundary_due_clocked hq hns hn hplain hsingle hne hunit hdev parity hdue hclk
      exact ⟨_, rfl, hv⟩
    · obtain ⟨v, o, rfl, hv⟩ := boundary_due_stopped hq hns hn hplain hsingle hne hunit hdev parity hdue hclk
      exact ⟨_, o, rfl, hv⟩
    · obtain ⟨v, rfl, hv⟩ := boundary_late hq hns hn hplain hne parity hpol hlate
      exact ⟨_, rfl, hv⟩
    · obtain ⟨v, rfl, hv⟩ := boundary_stays hq hns hn hplain hne parity hwait
      exact ⟨_, rfl, hv⟩
  · obtain ⟨hb, hpass, hfld, hsame⟩ := boundary_swaps hq hst hn parity rfl
    refine ⟨_, _, by rw [hb], hpass, fun g v j hcnt htime' hact hpend => ?_, fun b hb => slices_boundary rfl hfld hb⟩
    exact hsame.fld_id (List.forall_mem_append.2 ⟨by simp [countFs, hcnt, htime'], forall_mem_allSlcFs fun _ => ⟨hact, hpend⟩⟩) v j

end Sys2Proof.Machine
end

section
/-!
SUPPORT. The step and the state after reset (family 02): the front of the queue, the tick with nothing under way, and the values that
reset gives.
-/
namespace Sys2Proof.Machine
open Claims

/-! ### The step -/

/-- With no access of the debug port waiting and no mode change in progress, a tick advances system time alone. -/
theorem tick_idle {s : State} (hwait : s.dbg.wait = none) (hmodes : s.reed.modes = []) :
    tick s = if tickFree s then s.setFld F.SYSTIME 0 0 (s.now + tickNs s) else s := by
  have hpoll : dpPoll s = s := by rw [dpPoll, hwait]
  have hmode : modeProgress s = s := by rw [modeProgress, hmodes, forL_nil]
  simp only [tick, hpoll, hmode]

theorem step_nil {s : State} (h : s.pending = []) : step s = .next (tick s) := by rw [step, h]

/-- Settles O57: the front command runs with the queue's rest (the queue is the model's, log entry 7), and on an empty queue the
tick is what the idle device does (log entry 8; the 20 ns of DEEP SLEEP are R680's). -/
theorem stepRunsFront : Obligations.StepRunsFront := by
  unfold Obligations.StepRunsFront
  intro s c q
  refine ⟨rfl, fun hnil hwait hmodes => ?_⟩
  rw [step_nil hnil, tick_idle hwait hmodes]
  refine ⟨fun hstop => by rw [if_neg (by simp [hstop])], fun hfree => ?_⟩
  rw [if_pos hfree]
  refine ⟨_, rfl, ?_, rfl, fldSame_setFld _ _ _ _ _ List.mem_cons_self⟩
  rw [fld_setFld_same, tickNs, State.now]
  simp only [beq_iff_eq]
  rfl

/-! ### Reset -/

/-- A field of the state after reset reads its reset value: no cell of the store is listed. -/
theorem fld_reset (f : Field) (u i : Nat) : State.reset.fld f u i = f.resetAt u i := Nat.zero_xor _

/-- Settles O58: the register store is empty after reset, so a field reads what its table gives; the fields that reset as form X
read the model's zero (log entry 1). -/
theorem resetState : Obligations.ResetState := by
  unfold Obligations.ResetState Canonical
  have hbays : ∀ b < 768, State.reset.fld F.PWR_BAY_STATE_STATE 0 b = 2 := fun b _ => fld_reset _ _ _
  have hdoms : ∀ d < 6, d ≠ 4 → State.reset.fld F.DOM_STATUS_CUR_SRC 0 d = 1 := by
    simp only [fld_reset]
    decide
  exact ⟨fld_reset, fun _ => ⟨rfl, rfl⟩, rfl, rfl, rfl, rfl, rfl, rfl, ⟨rfl, rfl, rfl⟩, fld_reset _ _ _, fld_reset _ _ _, fld_reset _ _ _,
    fld_reset _ _ _, hbays, hdoms, fld_reset _ _ _, fld_reset _ _ _⟩

end Sys2Proof.Machine
end

section
/-!
SUPPORT. What the register path leads to (family 02): every register that an access reaches is in the catalogue, and what the catalogue
says of a register's fields: numbers of their own, widths that are not 0, none of a unit header but in the header.
-/
namespace Sys2Proof.Machine

/-! ### Registers of the catalogue -/

theorem regsOf_subset (b : Blk) : regsOf b ⊆ allRegs :=
  fun _ hr => List.mem_flatMap.2 ⟨b, by cases b <;> decide, hr⟩

/-- A place that is one register is a register of the catalogue. -/
def CsrPlace.Listed (p : CsrPlace) : Prop := ∀ x, p = .reg x → x.r ∈ allRegs

theorem listed_reg {x : CsrReg} (h : x.r ∈ allRegs) : (CsrPlace.reg x).Listed := by
  rintro _ ⟨⟩
  exact h

theorem listed_err (c : Nat) : (CsrPlace.err c).Listed := nofun

theorem listed_hole : CsrPlace.hole.Listed := nofun

theorem listed_ite {c : Prop} [Decidable c] {p q : CsrPlace} (hp : p.Listed) (hq : q.Listed) : (if c then p else q).Listed := by
  split <;> assumption

theorem listed_placeIn (b : Blk) (hu win u off : Nat) : (placeIn (regsOf b) hu win u off).Listed := by
  unfold placeIn
  split
  · next r i hfind =>
    obtain ⟨q, hq, hqi⟩ := List.exists_of_findSome?_eq_some hfind
    obtain ⟨k, hk, hri⟩ := Option.map_eq_some_iff.1 hqi
    obtain ⟨rfl, rfl⟩ := Prod.mk.inj hri
    exact listed_reg (regsOf_subset b hq)
  · exact listed_hole

theorem listed_placeReg (b : Blk) {r : Reg} (h : r ∈ regsOf b) (hu u i : Nat) : (placeReg hu u r i).Listed :=
  listed_reg (regsOf_subset b h)

theorem listed_placeDbg (s : State) (init off : Nat) : (placeDbg s init off).Listed := by
  refine listed_ite (listed_ite listed_hole ?_) (listed_ite (listed_ite listed_hole (listed_placeReg .dcmp (by decide) _ _ _)) (listed_ite
    (listed_ite listed_hole (listed_placeReg .dcmp (by decide) _ _ _)) (listed_ite (listed_placeReg .dbg (by decide) _ _ _) (listed_ite
    (listed_ite listed_hole (listed_placeIn .dbg _ _ _ _)) (listed_placeIn .dbg _ _ _ _)))))
  dsimp only
  split <;> exact listed_placeReg .dcmp (by decide) _ _ _

theorem listed_placeSingle (s : State) (init k : Nat) (b : Blk) (off : Nat) : (placeSingle s init k b off).Listed := by
  refine listed_ite (listed_placeIn .hdr _ _ _ _) ?_
  split
  · exact listed_placeDbg _ _ _
  · exact listed_ite (listed_placeIn .gpio _ _ _ _) listed_hole
  · exact listed_ite nofun (listed_ite nofun (listed_placeIn .pcie _ _ _ _))
  · exact listed_ite (listed_placeReg .global (by decide) _ _ _) (listed_placeIn .global _ _ _ _)
  · exact listed_ite (listed_placeReg .hd (by decide) _ _ _) (listed_ite (listed_placeReg .hd (by decide) _ _ _) (listed_placeIn .hd _ _ _ _))
  · exact listed_placeIn b _ _ _ _

theorem listed_placeWindow (fam u : Nat) (b : Blk) (off : Nat) : (placeWindow fam u b off).Listed := by
  have hquad : R.QUAD_CFG ∈ allRegs := regsOf_subset .lane (by decide)
  exact listed_ite (listed_placeIn .hdr _ _ _ _) (listed_ite nofun (listed_ite (listed_reg hquad) (listed_placeIn b _ _ _ _)))

theorem listed_placeMany (s : State) (fam count : Nat) (b : Blk) (off : Nat) : (placeMany s fam count b off).Listed := by
  refine listed_ite nofun ?_
  split <;> exact nofun

/-- An access that reaches one register reaches one of the catalogue. -/
theorem csrPlace_listed {s : State} {init off : Nat} {wr : Bool} {x : CsrReg} (h : csrPlace s init off wr = .reg x) : x.r ∈ allRegs := by
  have hsel : R.SEL ∈ allRegs := regsOf_subset .fam (by decide)
  have hinfo : R.FAMILY_INFO ∈ allRegs := regsOf_subset .fam (by decide)
  have hl : (csrPlace s init off wr).Listed := by
    refine listed_ite (listed_err _) ?_
    split
    · exact listed_placeSingle _ _ _ _ _
    · exact listed_ite (listed_err _) (listed_ite (listed_ite (listed_reg hsel) (listed_ite (listed_reg hinfo) listed_hole))
        (listed_ite (listed_ite (listed_placeMany _ _ _ _ _) (listed_err _)) (listed_ite (listed_err _) (listed_placeWindow _ _ _ _))))
    · exact listed_err _
  exact hl x h

/-! ### Fields of a register -/

theorem fields_nodup {r : Reg} (hr : r ∈ allRegs) : (r.fields.map (·.id)).Nodup := by
  have hall : ∀ r ∈ allRegs, (r.fields.map (·.id)).Nodup := by decide +kernel
  exact hall r hr

theorem field_w_pos {r : Reg} (hr : r ∈ allRegs) {f : Field} (hf : f ∈ r.fields) : 0 < f.w := by
  have hall : ∀ c ∈ regCells, 0 < c.2.w := by decide +kernel
  exact hall _ (mem_regCells hr hf)

/-- A field of a register outside the unit headers is none of a header's. -/
theorem field_ne_hdr {r : Reg} (hr : r ∈ allRegs) (hblk : r.blk ≠ .hdr) {f g : Field} (hf : f ∈ r.fields) (hg : (Blk.hdr, g) ∈ regCells) :
    g.id ≠ f.id := fun e =>
  hblk (Prod.mk.inj (regCells_id hg (mem_regCells hr hf) e)).1.symm

/-- The fields of a unit header that staging reads and sets. -/
theorem hdr_cells : ∀ g ∈ [F.UNIT_STATUS_LATE, F.UNIT_STATUS_SPLIT, F.UNIT_STATUS_COLLIDE, F.STAGE_CTL_POLICY], (Blk.hdr, g) ∈ regCells := by
  decide +kernel

/-- SHADOW_VIEW lies in a register without staged fields. -/
theorem shadowView_apart {r : Reg} (hr : r ∈ allRegs) (hs : ∃ f ∈ r.fields, f.acc = .rws ∧ 0 < f.reps) :
    ∀ f ∈ r.fields, F.INIT_CTL_SHADOW_VIEW.id ≠ f.id := by
  have hall : ∀ r ∈ allRegs, (∃ f ∈ r.fields, f.acc = .rws ∧ 0 < f.reps) → ∀ f ∈ r.fields, F.INIT_CTL_SHADOW_VIEW.id ≠ f.id := by decide +kernel
  exact hall r hr hs

/-! ### Copies of fields -/

/-- The copies of the fields of a register: field and number in the register. -/
def Reg.cells (r : Reg) : List (Field × Nat) := r.fields.flatMap (fun f => (List.range f.reps).map (fun j => (f, j)))

theorem mem_cells {r : Reg} {f : Field} {j : Nat} : (f, j) ∈ r.cells ↔ f ∈ r.fields ∧ j < f.reps := by
  simp only [Reg.cells, List.mem_flatMap, List.mem_map, List.mem_range, Prod.mk.injEq]
  constructor
  · rintro ⟨g, hg, k, hk, rfl, rfl⟩
    exact ⟨hg, hk⟩
  · rintro ⟨hf, hj⟩
    exact ⟨f, hf, j, hj, rfl, rfl⟩

theorem mem_cells_field {r : Reg} {c : Field × Nat} (hc : c ∈ r.cells) : c.1 ∈ r.fields := by
  obtain ⟨f, j⟩ := c
  exact (mem_cells.1 hc).1

theorem cells_nodup {r : Reg} (hr : r ∈ allRegs) : r.cells.Nodup := by
  refine List.nodup_flatMap.2 ⟨fun f _ => List.nodup_range.map fun _ _ h => (Prod.mk.inj h).2, ?_⟩
  refine (List.Nodup.of_map _ (fields_nodup hr)).imp fun hne => ?_
  rintro ⟨f, j⟩ hf hg
  obtain ⟨k, hk, hfk⟩ := List.mem_map.1 hf
  obtain ⟨l, hl, hgl⟩ := List.mem_map.1 hg
  exact hne ((Prod.mk.inj hfk).1.trans (Prod.mk.inj hgl).1.symm)

/-- A fold over the fields of a register and their copies is one over the copies. -/
theorem forL_cells (r : Reg) (g : Field → Nat → State → State) (s : State) :
    forL r.fields (fun f s => forN f.reps (g f) s) s = forL r.cells (fun c s => g c.1 c.2 s) s := by
  unfold forL forN Reg.cells
  rw [List.foldl_flatMap]
  simp only [List.foldl_map]

/-- Where copy `c` of a field of a register lies among the copies of the field in its unit. -/
def CsrReg.copy (x : CsrReg) (c : Field × Nat) : Nat := x.i * c.1.reps + c.2

/-- Two copies of fields of a register lie apart. -/
theorem cells_apart {x : CsrReg} (hr : x.r ∈ allRegs) {c d : Field × Nat} (hc : c ∈ x.r.cells) (hd : d ∈ x.r.cells) (hne : c ≠ d) :
    ¬(d.1.id = c.1.id ∧ x.u = x.u ∧ x.copy d = x.copy c) := by
  obtain ⟨f, j⟩ := c
  obtain ⟨g, k⟩ := d
  rintro ⟨hid, -, hcopy⟩
  have hfg := regCells_id (mem_regCells hr (mem_cells_field hd)) (mem_regCells hr (mem_cells_field hc)) hid
  obtain rfl : g = f := (Prod.mk.inj hfg).2
  exact hne (Prod.ext rfl (Nat.add_left_cancel hcopy).symm)

/-- A write of another copy leaves a copy alone. -/
theorem fld_setFld_apart (s : State) {f g : Field} {u i v j : Nat} (w : Nat) (h : ¬(g.id = f.id ∧ v = u ∧ j = i)) :
    (s.setFld f u i w).fld g v j = s.fld g v j := by
  rw [State.fld, State.setFld, SMap.get_set_ne _ _ _ _ (fun e => h (fkey_inj.1 e)), State.fld]

end Sys2Proof.Machine
end

section
/-!
SUPPORT. What a plain write of a register does (family 02): each reached copy of a field takes what its access code says, the rest stays
(R42, R56).
-/
namespace Sys2Proof.Machine
open Claims

/-! ### Shadows -/

/-- A shadow depends on what is staged and on the active value alone. -/
theorem shadow_congr {s t : State} (hs : t.staged = s.staged) {f : Field} {u i : Nat} (hf : t.fld f u i = s.fld f u i) :
    t.shadow f u i = s.shadow f u i := by
  rw [State.shadow, State.shadow, hs, hf]

theorem shadow_stage_same (s : State) (hu : Nat) (f : Field) (u i v : Nat) : (s.stage hu f u i v).shadow f u i = v % 2 ^ f.w := by
  have hnone : (s.staged.filter (fun g => !g.isOf f u i)).find? (fun g => g.isOf f u i) = none :=
    List.find?_eq_none.2 fun g hg => by simpa using (List.mem_filter.1 hg).2
  simp only [State.shadow, State.stage, List.find?_append, hnone]
  simp [Staged.isOf]

/-- Staging one copy of a field leaves the shadows of the others. -/
theorem shadow_stage_apart (s : State) (hu : Nat) {f g : Field} {u i v j : Nat} (w : Nat) (h : ¬(g.id = f.id ∧ v = u ∧ j = i)) :
    (s.stage hu f u i w).shadow g v j = s.shadow g v j := by
  have hboth : ∀ a : Staged, a.isOf g v j = true → a.isOf f u i = false := fun a ha => by
    simp only [Staged.isOf, Bool.and_eq_true, beq_iff_eq] at ha
    obtain ⟨⟨hid, hu'⟩, hi⟩ := ha
    rw [← Bool.not_eq_true]
    simp only [Staged.isOf, Bool.and_eq_true, beq_iff_eq, hid, hu', hi]
    exact fun h' => h (and_assoc.1 h')
  have hfind : ∀ y : Staged, y.isOf f u i = true →
      (s.staged.filter (fun g => !g.isOf f u i) ++ [y]).find? (fun a => a.isOf g v j) = s.staged.find? (fun a => a.isOf g v j) := fun y hy => by
    have hlast : y.isOf g v j = false := by
      rw [← Bool.not_eq_true]
      exact fun hg => by simp [hboth y hg] at hy
    rw [List.find?_append, List.find?_filter, List.find?_singleton, hlast]
    simp only [Bool.false_eq_true, if_false, Option.or_none]
    congr 1
    funext a
    by_cases ha : a.isOf g v j = true
    · simp [ha, hboth a ha]
    · simp [ha]
  unfold State.shadow State.stage
  simp only
  rw [hfind _ (by simp [Staged.isOf])]
  rfl

theorem stagedIn_stage (s : State) (hu : Nat) (f : Field) (u i v : Nat) : (s.stage hu f u i v).stagedIn hu = true := by
  simp [State.stagedIn, State.stage]

/-! ### One copy of a field -/

/-- What a field holds after a write of `b` by its access code (Table 2.3); a staged field keeps its active value. -/
def written (f : Field) (old b : Nat) : Nat :=
  match f.acc with
  | .rw => b % 2 ^ f.w
  | .w1c => clearBits f.w old b % 2 ^ f.w
  | .w1s => (old ||| b) % 2 ^ f.w
  | .hw => if hwWritable f then b % 2 ^ f.w else old
  | .rws | .ro | .wo | .rc => old

section
variable (hu u : Nat) (sw : Bool) (f : Field) (k b : Nat) (s : State)

/-- A plain write leaves the state, writes the copy, or stages a value for it. -/
theorem writeField_cases : writeField hu u sw f k b s = s ∨ (∃ v, writeField hu u sw f k b s = s.setFld f u k v) ∨
    writeField hu u sw f k b s = s.stage hu f u k b := by
  unfold writeField
  cases f.acc with
  | ro | wo | rc => exact .inl rfl
  | rw | w1c | w1s => exact .inr (.inl ⟨_, rfl⟩)
  | rws => exact .inr (.inr rfl)
  | hw =>
    cases sw with
    | true => exact .inr (.inl ⟨_, rfl⟩)
    | false => exact .inl rfl

theorem writeField_proj {β : Type} (g : State → β) (h : ∀ (s : State) r l, g { s with regs := r, staged := l } = g s) :
    g (writeField hu u sw f k b s) = g s := by
  obtain he | ⟨v, he⟩ | he := writeField_cases hu u sw f k b s <;> rw [he]
  · exact h s _ s.staged
  · exact h s s.regs _

theorem fldSame_writeField : FldSame s (writeField hu u sw f k b s) [(f, u)] := by
  obtain he | ⟨v, he⟩ | he := writeField_cases hu u sw f k b s <;> rw [he]
  · exact FldSame.refl _ _
  · exact fldSame_setFld _ _ _ _ _ List.mem_cons_self
  · exact fldSame_of_regs rfl _

/-- A plain write of one copy of a field leaves the others, and what is staged for them. -/
theorem writeField_apart {g : Field} {v j : Nat} (h : ¬(g.id = f.id ∧ v = u ∧ j = k)) :
    (writeField hu u sw f k b s).fld g v j = s.fld g v j ∧ (writeField hu u sw f k b s).shadow g v j = s.shadow g v j := by
  obtain he | ⟨w, he⟩ | he := writeField_cases hu u sw f k b s <;> rw [he]
  · exact ⟨rfl, rfl⟩
  · exact ⟨fld_setFld_apart _ _ h, shadow_congr (s := s) (t := s.setFld f u k w) rfl (fld_setFld_apart _ _ h)⟩
  · exact ⟨rfl, shadow_stage_apart _ _ _ h⟩

/-- PENDING of the unit does not clear. -/
theorem stagedIn_writeField (h : s.stagedIn hu = true) : (writeField hu u sw f k b s).stagedIn hu = true := by
  obtain he | ⟨v, he⟩ | he := writeField_cases hu u sw f k b s <;> rw [he]
  · exact h
  · exact h
  · exact stagedIn_stage _ _ _ _ _ _

/-- Values staged for the fields of other units stay. -/
theorem staged_writeField {g : Staged} (hg : g.u ≠ u) : g ∈ (writeField hu u sw f k b s).staged ↔ g ∈ s.staged := by
  obtain he | ⟨v, he⟩ | he := writeField_cases hu u sw f k b s <;> rw [he]
  · rfl
  · have hne : ∀ w : Nat, g ≠ { hu := hu, fld := f, u := u, i := k, v := w } := fun w e => hg (by rw [e])
    simp [State.stage, Staged.isOf, hg, hne]

theorem fld_writeField_same : (writeField hu u (hwWritable f) f k b s).fld f u k = written f (s.fld f u k) b := by
  unfold writeField written
  cases f.acc with
  | rws | ro | wo | rc => rfl
  | rw | w1c | w1s => exact fld_setFld_same _ _ _ _ _
  | hw => simp only [apply_ite (fun t : State => t.fld f u k), fld_setFld_same]

/-- A write of a staged field puts the bits in its shadow. -/
theorem shadow_writeField_rws (hacc : f.acc = .rws) : (writeField hu u sw f k b s).shadow f u k = b % 2 ^ f.w := by
  simp only [writeField, hacc]
  exact shadow_stage_same _ _ _ _ _ _

theorem stagedIn_writeField_rws (hacc : f.acc = .rws) : (writeField hu u sw f k b s).stagedIn hu = true := by
  simp only [writeField, hacc]
  exact stagedIn_stage _ _ _ _ _ _

end

/-! ### A register -/

/-- The written bits of a copy of a field. -/
def cellBits (v : Nat) (c : Field × Nat) : Nat := bitsOf v (c.1.lo + c.2 * c.1.step) c.1.w

/-- A write reaches the copy. -/
def reached (low high : Bool) (c : Field × Nat) : Bool := halfMeets (c.1.lo + c.2 * c.1.step) c.1.w low high

/-- A whole write reaches every copy. -/
theorem reached_whole {c : Field × Nat} (h : 0 < c.1.w) : reached true true c = true := by
  simp only [reached, halfMeets, Bool.true_and, Bool.or_eq_true, decide_eq_true_eq]
  omega

/-- The plain effect of a write on one copy. -/
def writeCell (x : CsrReg) (v : Nat) (low high : Bool) (c : Field × Nat) (s : State) : State :=
  if !reached low high c then s else writeField x.hu x.u (hwWritable c.1) c.1 (x.copy c) (cellBits v c) s

theorem plainWrite_eq (x : CsrReg) (v : Nat) (low high : Bool) (s : State) :
    plainWrite x v low high (fun _ => false) s = forL x.r.cells (writeCell x v low high) s := by
  unfold plainWrite
  simp only [Bool.false_or]
  exact forL_cells x.r (fun f j => writeCell x v low high (f, j)) s

theorem writeCell_reached {x : CsrReg} {v : Nat} {low high : Bool} {c : Field × Nat} (h : reached low high c = true) (s : State) :
    writeCell x v low high c s = writeField x.hu x.u (hwWritable c.1) c.1 (x.copy c) (cellBits v c) s := by
  simp [writeCell, h]

theorem writeCell_unreached {x : CsrReg} {v : Nat} {low high : Bool} {c : Field × Nat} (h : reached low high c = false) (s : State) :
    writeCell x v low high c s = s := by
  simp [writeCell, h]

section
variable (x : CsrReg) (v : Nat) (low high : Bool) (s : State)

theorem plainWrite_proj {β : Type} (g : State → β) (h : ∀ (s : State) r l, g { s with regs := r, staged := l } = g s) :
    g (plainWrite x v low high (fun _ => false) s) = g s := by
  rw [plainWrite_eq]
  refine forL_proj g (fun c _ s => ?_) s
  unfold writeCell
  split
  · rfl
  · exact writeField_proj _ _ _ _ _ _ _ g h

theorem fldSame_plainWrite : FldSame s (plainWrite x v low high (fun _ => false) s) (x.r.fields.map (fun f => (f, x.u))) := by
  rw [plainWrite_eq]
  refine fldSame_forL (fun c hc s => ?_) s
  unfold writeCell
  split
  · exact FldSame.refl _ _
  · exact (fldSame_writeField _ _ _ _ _ _ _).mono
      (List.cons_subset.2 ⟨List.mem_map_of_mem (f := fun f => (f, x.u)) (mem_cells_field hc), List.nil_subset _⟩)

theorem staged_plainWrite {g : Staged} (hg : g.u ≠ x.u) : g ∈ (plainWrite x v low high (fun _ => false) s).staged ↔ g ∈ s.staged := by
  rw [plainWrite_eq, ← eq_iff_iff]
  refine forL_proj (fun s : State => g ∈ s.staged) (fun c _ s => ?_) s
  unfold writeCell
  split
  · rfl
  · exact propext (staged_writeField _ _ _ _ _ _ _ hg)

/-- A copy of a field sees the one write of its own place. -/
theorem plainWrite_at (hr : x.r ∈ allRegs) {c : Field × Nat} (hc : c ∈ x.r.cells) :
    ∃ t, (t.fld c.1 x.u (x.copy c) = s.fld c.1 x.u (x.copy c) ∧ t.shadow c.1 x.u (x.copy c) = s.shadow c.1 x.u (x.copy c)) ∧
      (plainWrite x v low high (fun _ => false) s).fld c.1 x.u (x.copy c) = (writeCell x v low high c t).fld c.1 x.u (x.copy c) ∧
      (plainWrite x v low high (fun _ => false) s).shadow c.1 x.u (x.copy c) = (writeCell x v low high c t).shadow c.1 x.u (x.copy c) := by
  have hothers : ∀ d ∈ x.r.cells, d ≠ c → ∀ s : State, ((writeCell x v low high d s).fld c.1 x.u (x.copy c),
      (writeCell x v low high d s).shadow c.1 x.u (x.copy c)) = (s.fld c.1 x.u (x.copy c), s.shadow c.1 x.u (x.copy c)) := fun d hd hne s => by
    unfold writeCell
    split
    · rfl
    · obtain ⟨hfld, hshadow⟩ := writeField_apart x.hu x.u (hwWritable d.1) d.1 (x.copy d) (cellBits v d) s (cells_apart hr hd hc hne)
      exact congrArg₂ Prod.mk hfld hshadow
  obtain ⟨t, -, hsame, hown⟩ := forL_at (fun _ => True) (fun s : State => (s.fld c.1 x.u (x.copy c), s.shadow c.1 x.u (x.copy c)))
    (cells_nodup hr) hc (fun _ _ _ _ => trivial) hothers (s := s) trivial
  rw [plainWrite_eq]
  exact ⟨t, Prod.mk.inj hsame, Prod.mk.inj hown⟩

variable {x v low high s}

/-- What a reached copy holds after the write. -/
theorem plainWrite_reached (hr : x.r ∈ allRegs) {c : Field × Nat} (hc : c ∈ x.r.cells) (h : reached low high c = true) :
    (plainWrite x v low high (fun _ => false) s).fld c.1 x.u (x.copy c) = written c.1 (s.fld c.1 x.u (x.copy c)) (cellBits v c) ∧
    (c.1.acc = .rws → (plainWrite x v low high (fun _ => false) s).shadow c.1 x.u (x.copy c) = cellBits v c) := by
  obtain ⟨t, ⟨hfld, -⟩, hown, hshadow⟩ := plainWrite_at x v low high s hr hc
  rw [hown, hshadow, writeCell_reached h, fld_writeField_same, hfld]
  exact ⟨rfl, fun hacc => (shadow_writeField_rws _ _ _ _ _ _ _ hacc).trans (Nat.mod_mod _ _)⟩

/-- A copy that the write does not reach keeps its value and its shadow. -/
theorem plainWrite_unreached (hr : x.r ∈ allRegs) {c : Field × Nat} (hc : c ∈ x.r.cells) (h : reached low high c = false) :
    (plainWrite x v low high (fun _ => false) s).fld c.1 x.u (x.copy c) = s.fld c.1 x.u (x.copy c) ∧
    (plainWrite x v low high (fun _ => false) s).shadow c.1 x.u (x.copy c) = s.shadow c.1 x.u (x.copy c) := by
  obtain ⟨t, ⟨hfld, hsh⟩, hown, hshadow⟩ := plainWrite_at x v low high s hr hc
  rw [hown, hshadow, writeCell_unreached h]
  exact ⟨hfld, hsh⟩

/-- A write that reaches a staged field sets PENDING of the unit. -/
theorem stagedIn_plainWrite {c : Field × Nat} (hc : c ∈ x.r.cells) (h : reached low high c = true) (hacc : c.1.acc = .rws) :
    (plainWrite x v low high (fun _ => false) s).stagedIn x.hu = true := by
  rw [plainWrite_eq]
  refine forL_all (fun _ => True) (fun (c : Field × Nat) (s : State) => reached low high c = true → c.1.acc = .rws → s.stagedIn x.hu = true)
    (fun _ _ _ _ => trivial) (fun c _ s _ h hacc => ?_) (fun d _ c _ _ s _ hs h hacc => ?_) trivial c hc h hacc
  · rw [writeCell_reached h]
    exact stagedIn_writeField_rws _ _ _ _ _ _ _ hacc
  · unfold writeCell
    split
    · exact hs h hacc
    · exact stagedIn_writeField _ _ _ _ _ _ _ (hs h hacc)

end

/-! ### The write with what it makes late (R59) -/

theorem stageLate_cases (hu : Nat) (s : State) : stageLate hu s = s ∨ stageLate hu s = s.setBit F.UNIT_STATUS_LATE hu := by
  unfold stageLate
  split
  · exact .inr rfl
  · exact .inl rfl

theorem stageLate_onlyRegs (hu : Nat) (s : State) : OnlyRegs s (stageLate hu s) [(F.UNIT_STATUS_LATE, hu)] := by
  obtain h | h := stageLate_cases hu s <;> rw [h]
  · exact ⟨rfl, FldSame.refl _ _⟩
  · exact ⟨rfl, fldSame_setFld _ _ _ _ _ List.mem_cons_self⟩

/-- What a write of the reached halves of a register that starts nothing makes of the state. -/
def csrStored (x : CsrReg) (v : Nat) (low high : Bool) (s : State) : State :=
  stageLate x.hu (plainWrite x (wholeValue s x v low high) low high (fun _ => false) s)

/-- A write that starts nothing beyond its fields, of a unit that is not armed. -/
theorem regWrite_plain {init : Nat} {x : CsrReg} {v : Nat} {low high : Bool} {s : State} (hblind : csrBlind init x = false)
    (hblk : x.r.blk ≠ .hdr) (harm : armedWrite x low high s = false) (hook : hookWrite init x (wholeValue s x v low high) low high s = none) :
    regWrite init x v low high s = (0, csrStored x v low high s) := by
  simp [regWrite, csrStored, hblind, hblk, harm, hook]

theorem regWrite_armed {init : Nat} {x : CsrReg} {v : Nat} {low high : Bool} {s : State} (hblind : csrBlind init x = false)
    (hblk : x.r.blk ≠ .hdr) (harm : armedWrite x low high s = true) : regWrite init x v low high s = (eACCESS, s) := by
  simp [regWrite, hblind, hblk, harm]

section
variable (x : CsrReg) (v : Nat) (low high : Bool) (s : State)

theorem csrStored_proj {β : Type} (g : State → β) (h : ∀ (s : State) r l, g { s with regs := r, staged := l } = g s) :
    g (csrStored x v low high s) = g s := by
  obtain ⟨hrest, -⟩ := stageLate_onlyRegs x.hu (plainWrite x (wholeValue s x v low high) low high (fun _ => false) s)
  rw [csrStored, hrest]
  exact (h _ _ _).trans (plainWrite_proj _ _ _ _ _ g h)

theorem staged_csrStored : (csrStored x v low high s).staged = (plainWrite x (wholeValue s x v low high) low high (fun _ => false) s).staged := by
  obtain ⟨hrest, -⟩ := stageLate_onlyRegs x.hu (plainWrite x (wholeValue s x v low high) low high (fun _ => false) s)
  rw [csrStored, hrest]

/-- A write changes the fields of its register, and LATE of the unit. -/
theorem fldSame_csrStored : FldSame s (csrStored x v low high s) ((F.UNIT_STATUS_LATE, x.hu) :: x.r.fields.map (fun f => (f, x.u))) :=
  ((fldSame_plainWrite _ _ _ _ _).mono (List.subset_cons_self _ _)).trans
    ((stageLate_onlyRegs _ _).2.mono (List.cons_subset_cons _ (List.nil_subset _)))

theorem csrStored_frame : csrStored x v low high s = { s with regs := (csrStored x v low high s).regs, staged := (csrStored x v low high s).staged } :=
  congrArg (fun u : State => { u with regs := (csrStored x v low high s).regs, staged := (csrStored x v low high s).staged })
    (csrStored_proj x v low high s (fun u : State => ({ u with regs := {}, staged := [] } : State)) (fun _ _ _ => rfl))

variable {x} in
/-- LATE lies in the unit header, so the copies of the register are as the plain write leaves them. -/
theorem csrStored_cell (hr : x.r ∈ allRegs) (hblk : x.r.blk ≠ .hdr) {f : Field} (hf : f ∈ x.r.fields) (u k : Nat) :
    (csrStored x v low high s).fld f u k = (plainWrite x (wholeValue s x v low high) low high (fun _ => false) s).fld f u k ∧
    (csrStored x v low high s).shadow f u k = (plainWrite x (wholeValue s x v low high) low high (fun _ => false) s).shadow f u k := by
  have hfld := (stageLate_onlyRegs x.hu (plainWrite x (wholeValue s x v low high) low high (fun _ => false) s)).2.fld_id
    (g := f) (List.forall_mem_singleton.2 (field_ne_hdr hr hblk hf (hdr_cells F.UNIT_STATUS_LATE (by simp))).symm) u k
  exact ⟨hfld, shadow_congr (staged_csrStored x v low high s) hfld⟩

variable {x v s}

/-- A whole write leaves in each copy what its access code says, and stages the bits for a staged field. -/
theorem csrStored_whole (hr : x.r ∈ allRegs) (hblk : x.r.blk ≠ .hdr) {c : Field × Nat} (hc : c ∈ x.r.cells) :
    (csrStored x v true true s).fld c.1 x.u (x.copy c) = written c.1 (s.fld c.1 x.u (x.copy c)) (cellBits v c) ∧
    (c.1.acc = .rws → (csrStored x v true true s).shadow c.1 x.u (x.copy c) = cellBits v c ∧ (csrStored x v true true s).stagedIn x.hu = true) := by
  have hf : c.1 ∈ x.r.fields := mem_cells_field hc
  have hreach := reached_whole (c := c) (field_w_pos hr hf)
  obtain ⟨hfld, hshadow⟩ := csrStored_cell v true true s hr hblk hf x.u (x.copy c)
  obtain ⟨hval, hsh⟩ := plainWrite_reached (v := v) (s := s) hr hc hreach
  refine ⟨hfld.trans hval, fun hacc => ⟨hshadow.trans (hsh hacc), ?_⟩⟩
  rw [State.stagedIn, staged_csrStored]
  exact stagedIn_plainWrite hc hreach hacc

end

end Sys2Proof.Machine
end

section
/-!
SUPPORT. Write accesses to the register space (family 02): an access that fails, a plain write, and a write that hardware meets in the
same cycle (R36 to R38, R55, R619).
-/
namespace Sys2Proof.Machine
open Claims

/-! ### The command -/

theorem exec_csrWrite {s : State} (hruns : csrRuns s = true) (init off n : Nat) (d : CsrData) :
    exec (.csrWrite init off n d) s = .next (
      (if (csrWrite init off n d.v false s).1 = 0 then
        collideAt off n d.upd (csrPlace s init (off / 8 * 8) true) (csrWrite init off n d.v false s).2
       else (csrWrite init off n d.v false s).2).emit (.reply init (csrWrite init off n d.v false s).1 [])) := by
  show execCsrWrite init off n d s = _
  rw [execCsrWrite, if_neg (by simp [hruns])]

/-! ### Accesses that fail -/

/-- The fields that record a failing access. -/
def errFs : List (Field × Nat) :=
  [(F.ERR_STAT_ERR_COUNT, 0), (F.ERR_STAT_ERR_VALID, 0), (F.ERR_REC_ERR_OFFSET, 0), (F.ERR_REC_ERR_INIT, 0)]

/-- A failing access counts, and the first one since ERR_VALID was cleared leaves its offset and its initiator (Table 2.9). -/
def csrErrFirst (init off : Nat) (s : State) : State :=
  ((s.setBit F.ERR_STAT_ERR_VALID).setFld F.ERR_REC_ERR_OFFSET 0 0 off).setFld F.ERR_REC_ERR_INIT 0 0 init

theorem csrErr_cases (init off : Nat) (s : State) :
    (s.bit F.ERR_STAT_ERR_VALID = true ∧ csrErr init off s = s.bump F.ERR_STAT_ERR_COUNT) ∨
    (s.bit F.ERR_STAT_ERR_VALID = false ∧ csrErr init off s = csrErrFirst init off (s.bump F.ERR_STAT_ERR_COUNT)) := by
  have hvalid : (s.bump F.ERR_STAT_ERR_COUNT).bit F.ERR_STAT_ERR_VALID = s.bit F.ERR_STAT_ERR_VALID := by
    rw [State.bit, State.bump, fld_setFld_id _ _ _ _ _ _ _ _ (by decide), State.bit]
  unfold csrErr
  simp only [hvalid]
  cases hs : s.bit F.ERR_STAT_ERR_VALID
  · exact .inr ⟨rfl, rfl⟩
  · exact .inl ⟨rfl, rfl⟩

theorem csrErrFirst_valid (init off : Nat) (s : State) : (csrErrFirst init off s).bit F.ERR_STAT_ERR_VALID = true := by
  rw [State.bit, csrErrFirst, fld_setFld_id _ _ _ _ _ _ _ _ (by decide), fld_setFld_id _ _ _ _ _ _ _ _ (by decide), setBit_eq, fld_setFld_same]
  rfl

theorem csrErrFirst_record (init off : Nat) (s : State) :
    (csrErrFirst init off s).fld F.ERR_REC_ERR_OFFSET = off % 2 ^ F.ERR_REC_ERR_OFFSET.w ∧
    (csrErrFirst init off s).fld F.ERR_REC_ERR_INIT = init % 2 ^ F.ERR_REC_ERR_INIT.w :=
  ⟨(fld_setFld_id _ _ _ _ _ _ _ _ (by decide)).trans (fld_setFld_same _ _ _ _ _), fld_setFld_same _ _ _ _ _⟩

theorem bump_count (s : State) :
    (s.bump F.ERR_STAT_ERR_COUNT).fld F.ERR_STAT_ERR_COUNT = min (s.fld F.ERR_STAT_ERR_COUNT + 1) (2 ^ F.ERR_STAT_ERR_COUNT.w - 1) := by
  rw [State.bump, fld_setFld_same, satAdd]
  exact Nat.mod_eq_of_lt (by have := Nat.two_pow_pos F.ERR_STAT_ERR_COUNT.w; omega)

theorem fldSame_csrErrFirst (init off : Nat) (s : State) : FldSame s (csrErrFirst init off s) (errFs.drop 1) :=
  ((fldSame_setFld _ _ _ _ _ (by simp [errFs])).trans (fldSame_setFld _ _ _ _ _ (by simp [errFs]))).trans
    (fldSame_setFld _ _ _ _ _ (by simp [errFs]))

/-- What the record of a failing access changes. -/
theorem csrErr_onlyRegs (init off : Nat) (s : State) : OnlyRegs s (csrErr init off s) errFs := by
  have hcount : FldSame s (s.bump F.ERR_STAT_ERR_COUNT) errFs := fldSame_setFld _ _ _ _ _ (by simp [errFs])
  obtain ⟨-, h⟩ | ⟨-, h⟩ := csrErr_cases init off s <;> rw [h]
  · exact ⟨rfl, hcount⟩
  · exact ⟨rfl, hcount.trans ((fldSame_csrErrFirst _ _ _).mono (List.drop_subset _ _))⟩

theorem csrErr_count (init off : Nat) (s : State) :
    (csrErr init off s).fld F.ERR_STAT_ERR_COUNT = min (s.fld F.ERR_STAT_ERR_COUNT + 1) (2 ^ F.ERR_STAT_ERR_COUNT.w - 1) := by
  obtain ⟨-, h⟩ | ⟨-, h⟩ := csrErr_cases init off s <;> rw [h]
  · exact bump_count s
  · exact ((fldSame_csrErrFirst _ _ _).fld_id (by simp [errFs]; decide) _ _).trans (bump_count s)

theorem csrErr_valid (init off : Nat) (s : State) : (csrErr init off s).bit F.ERR_STAT_ERR_VALID = true := by
  obtain ⟨hs, h⟩ | ⟨-, h⟩ := csrErr_cases init off s <;> rw [h]
  · rw [State.bit, State.bump, fld_setFld_id _ _ _ _ _ _ _ _ (by decide)]
    exact hs
  · exact csrErrFirst_valid _ _ _

theorem csrErr_record (init off : Nat) {s : State} (h : s.bit F.ERR_STAT_ERR_VALID = false) :
    (csrErr init off s).fld F.ERR_REC_ERR_OFFSET = off % 2 ^ F.ERR_REC_ERR_OFFSET.w ∧
    (csrErr init off s).fld F.ERR_REC_ERR_INIT = init % 2 ^ F.ERR_REC_ERR_INIT.w := by
  obtain ⟨hs, -⟩ | ⟨-, he⟩ := csrErr_cases init off s
  · rw [h] at hs
    exact Bool.noConfusion hs
  · exact he ▸ csrErrFirst_record _ _ _

/-- An access that leads nowhere answers its error. -/
theorem csrWrite_err {s : State} {init off c : Nat} (h : csrPlace s init (off / 8 * 8) true = .err c) (n v : Nat) (poison : Bool) :
    csrWrite init off n v poison s = (c, csrErr init off s) := by
  simp only [csrWrite, h]

/-- An access of another size or alignment answers ACCESS. -/
theorem csrWrite_unsized {s : State} {init off n : Nat} {x : CsrReg} (h : csrPlace s init (off / 8 * 8) true = .reg x)
    (hn : csrSized off n = false) (v : Nat) : csrWrite init off n v false s = (eACCESS, csrErr init off s) := by
  simp [csrWrite, h, hn]

/-- An access that is refused answers its code and is recorded. -/
theorem exec_csrWrite_refused {s : State} {init off n v code : Nat} (hruns : csrRuns s = true)
    (h : csrWrite init off n v false s = (code, csrErr init off s))
    (hplace : code = eACCESS ∨ ∃ c, csrPlace s init (off / 8 * 8) true = .err c) :
    exec (.csrWrite init off n { v := v }) s = .next ((csrErr init off s).emit (.reply init code [])) := by
  rw [exec_csrWrite hruns]
  simp only [h]
  obtain rfl | ⟨c, hc⟩ := hplace
  · rfl
  · rw [hc]
    simp only [collideAt, ite_self]

/-! ### A register that the access reaches whole or by its low half -/

theorem div_mul_eight {off : Nat} (h : off % 8 = 0) : off / 8 * 8 = off := Nat.div_mul_cancel (Nat.dvd_of_mod_eq_zero h)

theorem csrSized_at {off n : Nat} (h8 : off % 8 = 0) (hn : n = 8 ∨ n = 4) : csrSized off n = true := by
  obtain rfl | rfl := hn
  · simp [csrSized, h8]
  · have h4 : off % 4 = 0 := by omega
    simp [csrSized, h4]

section
variable {s : State} {init off n : Nat} {x : CsrReg} {v : Nat} (h8 : off % 8 = 0)
  (hplace : csrPlace s init off true = .reg x) (hn : n = 8 ∨ n = 4)
include h8 hplace hn

/-- The write of a register at an 8-byte boundary: its low half, and its high half where the access has 8 bytes. -/
theorem csrWrite_reg : csrWrite init off n v false s =
    ((regWrite init x v true (n == 8) s).1, if (regWrite init x v true (n == 8) s).1 = 0 then (regWrite init x v true (n == 8) s).2
      else csrErr init off (regWrite init x v true (n == 8) s).2) := by
  simp [csrWrite, div_mul_eight h8, hplace, csrSized_at h8 hn, placeWrite, h8]

theorem csrWrite_plain (hblind : csrBlind init x = false) (hblk : x.r.blk ≠ .hdr) (harm : armedWrite x true (n == 8) s = false)
    (hook : hookWrite init x (wholeValue s x v true (n == 8)) true (n == 8) s = none) :
    csrWrite init off n v false s = (0, csrStored x v true (n == 8) s) := by
  rw [csrWrite_reg h8 hplace hn, regWrite_plain hblind hblk harm hook]
  rfl

end

/-! ### A hardware update in the same cycle (R55) -/

/-- What a field holds when hardware updates it by `h` in the cycle in which it is written: `old` is the written value. -/
def collided (f : Field) (h old : Nat) : Nat :=
  if h = 0 then old
  else if f.acc = .w1c then (old ||| h) % 2 ^ f.w
  else if advanced f = true then old
  else if hwWritable f = true ∧ f.acc = .hw then (if wrapping f then (old + h) % 2 ^ f.w else min (2 ^ f.w - 1) (old + h))
  else old

/-- The hardware update of one copy of a field. -/
def collideCell (x : CsrReg) (upd : Nat) (c : Field × Nat) (s : State) : State :=
  let h := cellBits upd c
  if h = 0 || !reached true true c then s
  else if c.1.acc == .w1c then s.setFld c.1 x.u (x.copy c) (s.fld c.1 x.u (x.copy c) ||| h)
  else if advanced c.1 then s.setBit F.UNIT_STATUS_COLLIDE x.hu
  else if hwWritable c.1 && c.1.acc == .hw then
    s.setFld c.1 x.u (x.copy c) (if wrapping c.1 then s.fld c.1 x.u (x.copy c) + h else min (2 ^ c.1.w - 1) (s.fld c.1 x.u (x.copy c) + h))
  else s

theorem collide_eq (x : CsrReg) (upd : Nat) (s : State) : collide x upd true true s = forL x.r.cells (collideCell x upd) s :=
  forL_cells x.r (fun f j => collideCell x upd (f, j)) s

/-- An update leaves the state, writes its own copy, or sets COLLIDE. -/
theorem collideCell_cases (x : CsrReg) (upd : Nat) (c : Field × Nat) (s : State) :
    collideCell x upd c s = s ∨ (∃ w, collideCell x upd c s = s.setFld c.1 x.u (x.copy c) w) ∨
    collideCell x upd c s = s.setBit F.UNIT_STATUS_COLLIDE x.hu := by
  unfold collideCell
  extract_lets h
  split_ifs
  · exact .inl rfl
  · exact .inr (.inl ⟨_, rfl⟩)
  · exact .inr (.inr rfl)
  · exact .inr (.inl ⟨_, rfl⟩)
  · exact .inr (.inl ⟨_, rfl⟩)
  · exact .inl rfl

theorem collide_out (x : CsrReg) (upd : Nat) (s : State) : (collide x upd true true s).out = s.out := by
  rw [collide_eq]
  refine forL_proj (·.out) (fun c _ s => ?_) s
  obtain h | ⟨w, h⟩ | h := collideCell_cases x upd c s <;> rw [h] <;> rfl

section
variable {x : CsrReg} (hr : x.r ∈ allRegs) (hblk : x.r.blk ≠ .hdr) {c : Field × Nat} (hc : c ∈ x.r.cells)
include hr hblk hc

theorem cell_ne_collide : F.UNIT_STATUS_COLLIDE.id ≠ c.1.id :=
  field_ne_hdr hr hblk (mem_cells_field hc) (hdr_cells F.UNIT_STATUS_COLLIDE (by simp))

theorem collideCell_own (upd : Nat) (s : State) :
    (collideCell x upd c s).fld c.1 x.u (x.copy c) = collided c.1 (cellBits upd c) (s.fld c.1 x.u (x.copy c)) := by
  have hreach : reached true true c = true := reached_whole (field_w_pos hr (mem_cells_field hc))
  have hmin : ∀ a, min (2 ^ c.1.w - 1) a % 2 ^ c.1.w = min (2 ^ c.1.w - 1) a := fun a =>
    Nat.mod_eq_of_lt (by have := Nat.two_pow_pos c.1.w; omega)
  have hcol := (cell_ne_collide hr hblk hc).symm
  unfold collideCell collided
  simp only [hreach, Bool.not_true, Bool.or_false, decide_eq_true_eq, beq_iff_eq, Bool.and_eq_true]
  split_ifs <;> simp only [fld_setFld_same, setBit_eq, fld_setFld_id _ _ _ _ _ _ _ _ hcol, hmin]

/-- A copy of a field takes its own update and no other's. -/
theorem collide_cell (upd : Nat) (s : State) :
    (collide x upd true true s).fld c.1 x.u (x.copy c) = collided c.1 (cellBits upd c) (s.fld c.1 x.u (x.copy c)) := by
  have hothers : ∀ d ∈ x.r.cells, d ≠ c → ∀ s, (collideCell x upd d s).fld c.1 x.u (x.copy c) = s.fld c.1 x.u (x.copy c) := fun d hd hne s => by
    obtain h | ⟨w, h⟩ | h := collideCell_cases x upd d s <;> rw [h]
    · exact fld_setFld_apart _ _ (cells_apart hr hd hc hne)
    · exact fld_setFld_id _ _ _ _ _ _ _ _ (cell_ne_collide hr hblk hc).symm
  obtain ⟨t, -, hsame, hown⟩ := forL_at (fun _ => True) (fun s : State => s.fld c.1 x.u (x.copy c)) (cells_nodup hr) hc
    (fun _ _ _ _ => trivial) hothers (s := s) trivial
  rw [collide_eq, hown, collideCell_own hr hblk hc, hsame]

/-- A pointer that hardware advances against the write sets COLLIDE of the unit. -/
theorem collide_bit {upd : Nat} (s : State) (h0 : cellBits upd c ≠ 0) (hacc : c.1.acc ≠ .w1c) (hadv : advanced c.1 = true) :
    (collide x upd true true s).bit F.UNIT_STATUS_COLLIDE x.hu = true := by
  rw [collide_eq]
  refine forL_all (fun _ => True) (fun (c : Field × Nat) (s : State) => cellBits upd c ≠ 0 → c.1.acc ≠ .w1c → advanced c.1 = true →
    s.bit F.UNIT_STATUS_COLLIDE x.hu = true) (fun _ _ _ _ => trivial) (fun c hc s _ h0 hacc hadv => ?_)
    (fun d hd c hc _ s _ hs h0 hacc hadv => ?_) trivial c hc h0 hacc hadv
  · have hreach : reached true true c = true := reached_whole (field_w_pos hr (mem_cells_field hc))
    have hstep : collideCell x upd c s = s.setBit F.UNIT_STATUS_COLLIDE x.hu := by simp [collideCell, h0, hreach, hacc, hadv]
    rw [hstep, State.bit, setBit_eq, fld_setFld_same]
    rfl
  · have hbit := hs h0 hacc hadv
    obtain h | ⟨w, h⟩ | h := collideCell_cases x upd d s <;> rw [h]
    · exact hbit
    · rw [State.bit, fld_setFld_id _ _ _ _ _ _ _ _ (cell_ne_collide hr hblk hd)]
      exact hbit
    · rw [State.bit, setBit_eq, fld_setFld_same]
      rfl

end

/-- With nothing to add, no copy of a field changes. -/
theorem collide_zero (x : CsrReg) (s : State) : collide x 0 true true s = s := by
  have hzero : ∀ c, cellBits 0 c = 0 := fun c => by simp [cellBits, bitsOf]
  rw [collide_eq]
  exact forL_proj (f := collideCell x 0) id (fun c _ s => by simp [collideCell, hzero]) s

end Sys2Proof.Machine
end

section
/-!
SUPPORT. The forms of register writes (family 02): what a write of a register shows, assembled.
-/
namespace Sys2Proof.Machine
open Claims

/-- A refused access answers, counts and records, and changes nothing else. -/
theorem csrErr_shown (init off code : Nat) (s : State) :
    let t := (csrErr init off s).emit (.reply init code [])
    t.out = s.out ++ [.reply init code []] ∧
    t.fld F.ERR_STAT_ERR_COUNT = min (s.fld F.ERR_STAT_ERR_COUNT + 1) (2 ^ F.ERR_STAT_ERR_COUNT.w - 1) ∧
    t.bit F.ERR_STAT_ERR_VALID = true ∧
    (s.bit F.ERR_STAT_ERR_VALID = false → t.fld F.ERR_REC_ERR_OFFSET = off % 2 ^ F.ERR_REC_ERR_OFFSET.w ∧
      t.fld F.ERR_REC_ERR_INIT = init % 2 ^ F.ERR_REC_ERR_INIT.w) ∧
    t = { s with regs := t.regs, out := t.out } ∧ FldSame s t errFs := by
  obtain ⟨hrest, hsame⟩ := csrErr_onlyRegs init off s
  have hout : (csrErr init off s).out = s.out := by rw [hrest]
  refine ⟨congrArg (· ++ _) hout, csrErr_count init off s, csrErr_valid init off s, csrErr_record init off, ?_, hsame⟩
  exact congrArg (fun u : State => { u with regs := (csrErr init off s).regs, out := (csrErr init off s).out ++ [Out.reply init code []] }) hrest

section
variable {s : State} {init off v : Nat} {x : CsrReg} (hruns : csrRuns s = true) (h8 : off % 8 = 0) (hplace : csrPlace s init off true = .reg x)
  (hblind : csrBlind init x = false) (hblk : x.r.blk ≠ .hdr) (harm : armedWrite x true true s = false)
  (hook : hookWrite init x v true true s = none)
include hruns h8 hplace hblind hblk harm hook

/-- A whole write of a register that starts nothing, with what hardware does in the same cycle. -/
theorem exec_csrWrite_plain (upd : Nat) : exec (.csrWrite init off 8 { v := v, upd := upd }) s =
    .next ((collide x upd true true (csrStored x v true true s)).emit (.reply init 0 [])) := by
  rw [exec_csrWrite hruns, csrWrite_plain h8 hplace (.inl rfl) hblind hblk harm hook, div_mul_eight h8, hplace]
  rfl

end

/-- What a whole write leaves in a copy of a field, by its access code. -/
theorem written_forms (f : Field) (old v lo : Nat) :
    let b := bitsOf v lo f.w
    (f.acc = .rw → written f old b = b) ∧ (f.acc = .w1c → written f old b = clearBits f.w old b) ∧
    (f.acc = .w1s → written f old b = (old ||| b) % 2 ^ f.w) ∧ (f.acc = .rws → written f old b = old) ∧
    (f.acc = .hw → written f old b = if hwWritable f then b else old) ∧ (f.acc = .ro ∨ f.acc = .wo ∨ f.acc = .rc → written f old b = old) := by
  have hb : bitsOf v lo f.w % 2 ^ f.w = bitsOf v lo f.w := Nat.mod_mod _ _
  have hclear : ∀ m, clearBits f.w old m < 2 ^ f.w := fun m =>
    Nat.lt_of_le_of_lt Nat.and_le_right (Nat.xor_lt_two_pow (Nat.sub_lt (Nat.two_pow_pos _) Nat.one_pos) (Nat.mod_lt _ (Nat.two_pow_pos _)))
  unfold written
  refine ⟨fun h => ?_, fun h => ?_, fun h => ?_, fun h => ?_, fun h => ?_, fun h => ?_⟩
  · simp only [h, hb]
  · simp only [h, Nat.mod_eq_of_lt (hclear _)]
  · simp only [h]
  · simp only [h]
  · simp only [h, hb]
  · obtain h | h | h := h <;> simp only [h]

/-- Settles O19: a refused access is recorded, a plain write acts on each copy of each field alone, and a hardware update of the same cycle
on what the write has left there. -/
theorem csrWriteForms : Obligations.CsrWriteForms := by
  unfold Obligations.CsrWriteForms
  intro s init off v hruns hv
  refine ⟨fun x h8 hplace hblind hblk => ⟨fun harm => ?_, fun harm hook => ?_⟩, fun n c hplace => ?_, fun n x hplace hsize => ?_, fun h8 hplace => ?_⟩
  · refine ⟨_, exec_csrWrite_refused hruns ?_ (.inl rfl), csrErr_shown init off eACCESS s⟩
    rw [csrWrite_reg h8 hplace (.inl rfl), beq_self_eq_true, regWrite_armed hblind hblk harm]
    rfl
  · have hexec := exec_csrWrite_plain hruns h8 hplace hblind hblk harm hook
    have hr := csrPlace_listed hplace
    refine ⟨(csrStored x v true true s).emit (.reply init 0 []), ?_, fun f hf j hj => ?_, fldSame_csrStored x v true true s, ?_, fun upd => ?_⟩
    · exact (hexec 0).trans (by rw [collide_zero])
    · obtain ⟨hval, hshadow⟩ := csrStored_whole (v := v) (s := s) hr hblk (mem_cells.2 ⟨hf, hj⟩)
      obtain ⟨hrw, hw1c, hw1s, hrws, hhw, hkept⟩ := written_forms f (s.fld f x.u (x.i * f.reps + j)) v (f.lo + j * f.step)
      exact ⟨fun h => hval.trans (hrw h), fun h => hval.trans (hw1c h), fun h => hval.trans (hw1s h),
        fun h => ⟨hval.trans (hrws h), hshadow h⟩, fun h => hval.trans (hhw h), fun h => hval.trans (hkept h)⟩
    · exact congrArg (fun u : State => u.emit (.reply init 0 [])) (csrStored_frame x v true true s)
    · refine ⟨_, hexec upd, congrArg (· ++ [Out.reply init 0 []]) (collide_out x upd _), fun f hf j hj => ?_⟩
      have hc : (f, j) ∈ x.r.cells := mem_cells.2 ⟨hf, hj⟩
      have hval := collide_cell hr hblk hc upd (csrStored x v true true s)
      have hbit := collide_bit (upd := upd) hr hblk hc (csrStored x v true true s)
      dsimp only
      split_ifs with h0 hacc hadv hhw hwrap
      · exact hval.trans (if_pos h0)
      · exact hval.trans ((if_neg h0).trans (if_pos hacc))
      · exact ⟨hval.trans ((if_neg h0).trans ((if_neg hacc).trans (if_pos hadv))), hbit h0 hacc hadv⟩
      all_goals refine hval.trans ((if_neg h0).trans ((if_neg hacc).trans ((if_neg hadv).trans ?_)))
      · exact (if_pos hhw).trans (if_pos hwrap)
      · exact (if_pos hhw).trans (if_neg hwrap)
      · exact if_neg hhw
  · exact ⟨_, exec_csrWrite_refused hruns (csrWrite_err hplace _ _ _) (.inr ⟨c, hplace⟩), csrErr_shown init off c s⟩
  · exact ⟨_, exec_csrWrite_refused hruns (csrWrite_unsized hplace hsize _) (.inl rfl), csrErr_shown init off eACCESS s⟩
  · rw [exec_csrWrite hruns]
    simp [csrWrite, div_mul_eight h8, hplace, csrSized, h8, placeWrite, collideAt, State.emit]

end Sys2Proof.Machine
end

section
/-!
SUPPORT. Staging (family 02): writes of staged fields, their split at a boundary, and the discard of what is staged (R56, R58, R60).
-/
namespace Sys2Proof.Machine
open Claims

/-! ### The command -/

/-- An access reaches a staged field of a register. -/
def reachesStaged (x : CsrReg) (low high : Bool) : Bool :=
  x.r.fields.any (fun f => f.acc == .rws && (List.range f.reps).any (fun j => halfMeets (f.lo + j * f.step) f.w low high))

theorem armedWrite_unarmed {s : State} {x : CsrReg} (h : s.bit F.UNIT_STATUS_ARMED x.hu = false) (low high : Bool) :
    armedWrite x low high s = false := by
  rw [armedWrite, h, Bool.false_and]

/-- A whole write of a register with a staged field reaches it. -/
theorem reachesStaged_whole {x : CsrReg} (hr : x.r ∈ allRegs) (h : ∃ f ∈ x.r.fields, f.acc = .rws ∧ 0 < f.reps) :
    reachesStaged x true true = true := by
  obtain ⟨f, hf, hacc, hreps⟩ := h
  have hreach : halfMeets (f.lo + 0 * f.step) f.w true true = true := reached_whole (c := (f, 0)) (field_w_pos hr hf)
  refine List.any_eq_true.2 ⟨f, hf, ?_⟩
  rw [hacc, beq_self_eq_true, Bool.true_and]
  exact List.any_eq_true.2 ⟨0, List.mem_range.2 hreps, hreach⟩

/-- What a staging write makes of the state, whether it lands in the application-edge cycle of a boundary (`edge`) or not. -/
def stageStored (x : CsrReg) (v : Nat) (high edge : Bool) (s : State) : State :=
  if edge then splitAt x.hu (csrStored x v true high s) else csrStored x v true high s

section
variable {s : State} {init off n v : Nat} {x : CsrReg} (edge : Bool) (hruns : csrRuns s = true) (h8 : off % 8 = 0)
  (hplace : csrPlace s init off true = .reg x) (hn : n = 8 ∨ n = 4)
include h8 hplace

theorem placeUnits_reg : placeUnits off n (csrPlace s init (off / 8 * 8) true) = if reachesStaged x true (n == 8) then [x.hu] else [] := by
  simp [placeUnits, reachesStaged, div_mul_eight h8, hplace, h8]

/-- A staging write that reaches no staged field is none. -/
theorem exec_stageWrite_none (h : reachesStaged x true (n == 8) = false) : exec (.stageWrite init off n v edge) s = .next s := by
  show execStageWrite init off n v edge s = _
  simp [execStageWrite, placeUnits_reg h8 hplace, h]

include hruns hn

theorem exec_stageWrite_plain (hblind : csrBlind init x = false) (hblk : x.r.blk ≠ .hdr) (harm : s.bit F.UNIT_STATUS_ARMED x.hu = false)
    (hook : hookWrite init x (wholeValue s x v true (n == 8)) true (n == 8) s = none) (h : reachesStaged x true (n == 8) = true) :
    exec (.stageWrite init off n v edge) s = .next ((stageStored x v (n == 8) edge s).emit (.reply init 0 [])) := by
  have hfilter : [x.hu].filter (fun hu => !s.bit F.UNIT_STATUS_ARMED hu) = [x.hu] := by simp [harm]
  have hwrite := csrWrite_plain (v := v) h8 hplace hn hblind hblk (armedWrite_unarmed harm _ _) hook
  show execStageWrite init off n v edge s = _
  simp only [execStageWrite, placeUnits_reg h8 hplace, h, if_true, hruns, hwrite, hfilter, csrSized_at h8 hn, stageStored, forL_cons, forL_nil]
  simp

end

/-! ### The split at a boundary (R58) -/

theorem splitAt_cases (hu : Nat) (s : State) : splitAt hu s = s ∨ splitAt hu s = s.setBit F.UNIT_STATUS_SPLIT hu := by
  unfold splitAt
  split
  · exact .inr rfl
  · exact .inl rfl

section
variable (x : CsrReg) (v : Nat) (high edge : Bool) (s : State)

theorem stageStored_onlyRegs : OnlyRegs (csrStored x v true high s) (stageStored x v high edge s) [(F.UNIT_STATUS_SPLIT, x.hu)] := by
  unfold stageStored
  split
  · obtain h | h := splitAt_cases x.hu (csrStored x v true high s) <;> rw [h]
    · exact ⟨rfl, FldSame.refl _ _⟩
    · exact ⟨rfl, fldSame_setFld _ _ _ _ _ List.mem_cons_self⟩
  · exact ⟨rfl, FldSame.refl _ _⟩

theorem staged_stageStored : (stageStored x v high edge s).staged = (csrStored x v true high s).staged := by
  obtain ⟨hrest, -⟩ := stageStored_onlyRegs x v high edge s
  rw [hrest]

theorem stageStored_proj {β : Type} (g : State → β) (h : ∀ (s : State) r l, g { s with regs := r, staged := l } = g s) :
    g (stageStored x v high edge s) = g s := by
  obtain ⟨hrest, -⟩ := stageStored_onlyRegs x v high edge s
  rw [hrest]
  exact (h _ _ _).trans (csrStored_proj x v true high s g h)

theorem fldSame_stageStored :
    FldSame s (stageStored x v high edge s) ([(F.UNIT_STATUS_LATE, x.hu), (F.UNIT_STATUS_SPLIT, x.hu)] ++ x.r.fields.map (fun f => (f, x.u))) :=
  ((fldSame_csrStored x v true high s).mono (by simp)).trans ((stageStored_onlyRegs x v high edge s).2.mono (by simp))

/-- Values staged for the fields of other units stay. -/
theorem mem_staged_stageStored {g : Staged} (hg : g.u ≠ x.u) : g ∈ (stageStored x v high edge s).staged ↔ g ∈ s.staged := by
  rw [staged_stageStored, staged_csrStored, staged_plainWrite _ _ _ _ _ hg]

theorem memSame_stageStored : MemSame s (stageStored x v high edge s) := by
  have hmem := stageStored_proj x v high edge s State.mem fun _ _ _ => rfl
  have hecc := stageStored_proj x v high edge s State.ecc fun _ _ _ => rfl
  exact fun a => ⟨by rw [State.rdB, State.rdB, hmem], by rw [hecc]⟩

variable {x} (hr : x.r ∈ allRegs) (hblk : x.r.blk ≠ .hdr)
include hr hblk

/-- SPLIT lies in the unit header, so the copies of the register are as the write leaves them. -/
theorem stageStored_cell {f : Field} (hf : f ∈ x.r.fields) (u k : Nat) :
    (stageStored x v high edge s).fld f u k = (csrStored x v true high s).fld f u k ∧
    (stageStored x v high edge s).shadow f u k = (csrStored x v true high s).shadow f u k := by
  have hfld := (stageStored_onlyRegs x v high edge s).2.fld_id (g := f)
    (List.forall_mem_singleton.2 (field_ne_hdr hr hblk hf (hdr_cells F.UNIT_STATUS_SPLIT (by simp))).symm) u k
  exact ⟨hfld, shadow_congr (staged_stageStored x v high edge s) hfld⟩

/-- A staged field keeps its active value, and its shadow takes the bits. -/
theorem stageStored_whole {f : Field} (hf : f ∈ x.r.fields) (hacc : f.acc = .rws) {j : Nat} (hj : j < f.reps) :
    (stageStored x v true edge s).fld f x.u (x.i * f.reps + j) = s.fld f x.u (x.i * f.reps + j) ∧
    (stageStored x v true edge s).shadow f x.u (x.i * f.reps + j) = bitsOf v (f.lo + j * f.step) f.w := by
  obtain ⟨hval, hshadow⟩ := csrStored_whole (v := v) (s := s) hr hblk (mem_cells.2 ⟨hf, hj⟩)
  obtain ⟨hfld, hsh⟩ := stageStored_cell v true edge s hr hblk hf x.u (x.i * f.reps + j)
  have hkept : written f (s.fld f x.u (x.i * f.reps + j)) (cellBits v (f, j)) = s.fld f x.u (x.i * f.reps + j) := by rw [written, hacc]
  exact ⟨hfld.trans (hval.trans hkept), hsh.trans (hshadow hacc).1⟩

/-- A field in the half that a 32-bit write does not reach keeps its active value and its shadow. -/
theorem stageStored_unreached {f : Field} (hf : f ∈ x.r.fields) {j : Nat} (hj : j < f.reps) (hlo : 32 ≤ f.lo + j * f.step) :
    (stageStored x v false edge s).fld f x.u (x.i * f.reps + j) = s.fld f x.u (x.i * f.reps + j) ∧
    (stageStored x v false edge s).shadow f x.u (x.i * f.reps + j) = s.shadow f x.u (x.i * f.reps + j) := by
  have hreach : reached true false (f, j) = false := by simp [reached, halfMeets, hlo]
  obtain ⟨hfld, hsh⟩ := stageStored_cell v false edge s hr hblk hf x.u (x.i * f.reps + j)
  obtain ⟨hfld', hsh'⟩ := csrStored_cell v true false s hr hblk hf x.u (x.i * f.reps + j)
  obtain ⟨hkept, hkept'⟩ := plainWrite_unreached (v := wholeValue s x v true false) (s := s) hr (mem_cells.2 ⟨hf, hj⟩) hreach
  exact ⟨hfld.trans (hfld'.trans hkept), hsh.trans (hsh'.trans hkept')⟩

variable (hs : ∃ f ∈ x.r.fields, f.acc = .rws ∧ 0 < f.reps)
include hs

/-- A whole write of a register with a staged field sets PENDING. -/
theorem csrStored_pending : (csrStored x v true true s).stagedIn x.hu = true := by
  obtain ⟨f, hf, hacc, hreps⟩ := hs
  exact ((csrStored_whole hr hblk (mem_cells.2 ⟨hf, hreps⟩)).2 hacc).2

/-- With POLICY NEXT a write in the application-edge cycle sets SPLIT. -/
theorem stageStored_split (hpol : s.fld F.STAGE_CTL_POLICY x.hu = 0) : (stageStored x v true true s).fld F.UNIT_STATUS_SPLIT x.hu = 1 := by
  have hlate : F.STAGE_CTL_POLICY.id ≠ F.UNIT_STATUS_LATE.id := by decide
  have hfields : ∀ w ∈ x.r.fields.map (fun f => (f, x.u)), F.STAGE_CTL_POLICY.id ≠ w.1.id :=
    List.forall_mem_map.2 fun f hf => field_ne_hdr hr hblk hf (hdr_cells F.STAGE_CTL_POLICY (by simp))
  have hkept : (csrStored x v true true s).fld F.STAGE_CTL_POLICY x.hu = 0 :=
    ((fldSame_csrStored x v true true s).fld_id (List.forall_mem_cons.2 ⟨hlate, hfields⟩) _ _).trans hpol
  have hsplit : splitAt x.hu (csrStored x v true true s) = (csrStored x v true true s).setBit F.UNIT_STATUS_SPLIT x.hu := by
    simp [splitAt, csrStored_pending v s hr hblk hs, hkept]
  rw [stageStored, if_pos rfl, hsplit]
  exact fld_setFld_same _ _ _ _ _

omit hblk in
/-- A staging write leaves SHADOW_VIEW of every initiator. -/
theorem shadowView_stageStored (init : Nat) :
    (stageStored x v true edge s).bit F.INIT_CTL_SHADOW_VIEW init = s.bit F.INIT_CTL_SHADOW_VIEW init := by
  have hhdr : F.INIT_CTL_SHADOW_VIEW.id ≠ F.UNIT_STATUS_LATE.id ∧ F.INIT_CTL_SHADOW_VIEW.id ≠ F.UNIT_STATUS_SPLIT.id := by decide
  have hfields : ∀ w ∈ x.r.fields.map (fun f => (f, x.u)), F.INIT_CTL_SHADOW_VIEW.id ≠ w.1.id :=
    List.forall_mem_map.2 fun f hf => shadowView_apart hr hs f hf
  exact congrArg (· == 1) ((fldSame_stageStored x v true edge s).fld_id
    (List.forall_mem_cons.2 ⟨hhdr.1, List.forall_mem_cons.2 ⟨hhdr.2, hfields⟩⟩) init 0)

end

/-! ### Discard (R60) -/

theorem exec_stageDiscard_armed {s : State} {hu : Nat} (h : s.bit F.UNIT_STATUS_ARMED hu = true) : exec (.stageDiscard hu) s = .next s := by
  show execStageDiscard hu s = _
  rw [execStageDiscard, if_pos h]

theorem exec_stageDiscard {s : State} {hu : Nat} (h : s.bit F.UNIT_STATUS_ARMED hu = false) :
    exec (.stageDiscard hu) s = .next (s.discard hu) := by
  show execStageDiscard hu s = _
  rw [execStageDiscard, if_neg (by simp [h])]

theorem stagedIn_discard (s : State) (hu : Nat) : (s.discard hu).stagedIn hu = false := by
  simp [State.stagedIn, State.discard]

/-! ### The forms -/

/-- A staged field reads as its shadow for an initiator with SHADOW_VIEW, else as its active value (R56). -/
theorem csrField_rws {s : State} {init : Nat} {x : CsrReg} {f : Field} {k : Nat} (hview : viewField s init x.hu x.u f k = none)
    (hacc : f.acc = .rws) : csrField s init x f k = if s.bit F.INIT_CTL_SHADOW_VIEW init then s.shadow f x.u k else s.fld f x.u k := by
  simp only [csrField, hview, hacc]

/-- Settles O20: a staging write is a plain write of the register and what the boundary's edge makes of it (`stageStored`); a discard drops
what the unit has staged and what it is owed. -/
theorem stageForms : Obligations.StageForms := by
  unfold Obligations.StageForms
  intro s init off v edge x hruns hv h8 hplace hblind hblk hs harm
  have hr := csrPlace_listed hplace
  refine ⟨fun hook => ?_, fun hook => ?_, ⟨_, exec_stageDiscard harm, stagedIn_discard s x.hu, rfl, fun g => ?_, fun g => ?_⟩,
    fun hu h => exec_stageDiscard_armed h⟩
  · refine ⟨_, exec_stageWrite_plain edge hruns h8 hplace (.inl rfl) hblind hblk harm hook (reachesStaged_whole hr hs),
      ?_, ?_, fun f hf hacc j hj => ?_, fun hedge hpol => ?_, fun g => ?_, fldSame_stageStored x v true edge s, memSame_stageStored x v true edge s⟩
    · have hpending := csrStored_pending v s hr hblk hs
      rw [State.stagedIn, ← staged_stageStored x v true edge s] at hpending
      exact hpending
    · exact congrArg (· ++ [Out.reply init 0 []]) (stageStored_proj x v true edge s State.out fun _ _ _ => rfl)
    · obtain ⟨hactive, hshadow⟩ := stageStored_whole v edge s hr hblk hf hacc hj
      refine ⟨hactive, hshadow, fun hplain => (csrField_rws hplain hacc).trans ?_⟩
      exact if_congr (by rw [← shadowView_stageStored v edge s hr hs init]; rfl) hshadow hactive
    · subst hedge
      exact stageStored_split v s hr hblk hs hpol
    · by_cases hg : g.u = x.u
      · exact .inr hg
      · exact .inl (and_congr_left' (mem_staged_stageStored x v true edge s hg))
  · cases hreach : reachesStaged x true false with
    | true =>
      exact ⟨_, exec_stageWrite_plain edge hruns h8 hplace (.inr rfl) hblind hblk harm hook hreach,
        fun f hf _ j hj hlo => stageStored_unreached v edge s hr hblk hf hj hlo⟩
    | false => exact ⟨s, exec_stageWrite_none edge h8 hplace hreach, fun _ _ _ _ _ _ => ⟨rfl, rfl⟩⟩
  · simp [State.discard]
  · simp [State.discard]

end Sys2Proof.Machine
end

section
/-!
SUPPORT. A clock edge in a cluster (family 03): the carry of its column and its flip-flops (R64, R65, R68).
-/
namespace Sys2Proof.Machine

/-! ### A cluster whose logic settles -/

/-- The logic of a cluster settles with these inputs: its F gives itself. -/
def Settles (fr q lines : Nat) (cin : Bool) : Prop :=
  (clusterEval fr (clusterSettle fr q lines cin 17) q lines cin).1 = clusterSettle fr q lines cin 17

theorem clusterF_settled {fr q lines : Nat} {cin : Bool} (h : Settles fr q lines cin) (s : State) :
    clusterF fr q lines cin s = (clusterSettle fr q lines cin 17, s) := if_pos h

theorem clusterF_frame (fr q lines : Nat) (cin : Bool) (s : State) :
    (clusterF fr q lines cin s).2 = { s with freeCtr := (clusterF fr q lines cin s).2.freeCtr } := by
  unfold clusterF
  dsimp only
  split <;> rfl

/-- The carry that comes up a column draws free values for clusters that do not settle, and changes nothing. -/
theorem columnCarry_frame (s0 : State) (b c : Nat) (cin : Bool) (col : List Nat) (s : State) :
    (columnCarry s0 b c cin col s).2 = { s with freeCtr := (columnCarry s0 b c cin col s).2.freeCtr } := by
  induction col generalizing c cin s with
  | nil => rfl
  | cons lines rest ih =>
    rw [columnCarry, ih, clusterF_frame]

/-- The carry out of a cluster that settles is CO of its LC15. -/
theorem columnCarry_settled {s0 : State} {b c lines : Nat} {cin : Bool}
    (h : Settles (clusterFrame s0 b c) (s0.ffs.get (b * 1024 + c)) lines cin) (s : State) :
    columnCarry s0 b c cin [lines] s =
      ((clusterEval (clusterFrame s0 b c) (clusterSettle (clusterFrame s0 b c) (s0.ffs.get (b * 1024 + c)) lines cin 17)
        (s0.ffs.get (b * 1024 + c)) lines cin).2.2, s) := by
  simp only [columnCarry, clusterF_settled h]

/-! ### The flip-flops of a cluster -/

/-- Q and the synchroniser of cell `i` of a cluster after an edge of clock input `k`; with `k` = 8 after its asynchronous SR alone. -/
def cellEdge (fr f q w ss lines : Nat) (held : Bool) (k i : Nat) : Bool × Bool :=
  let lc := bitsOf fr (26 * i) 26
  let cs := bitsOf lc 19 1
  if k = 8 then (if !held && bitOf lc 21 && ctlAsync fr cs && ctlSr fr f q lines cs then (bitOf lc 22, true) else (bitOf q i, bitOf w i))
  else if ctlClk fr cs = k then ffEdge fr lc f q ss lines held i (bitOf w i)
  else (bitOf q i, bitOf w i)

/-- A fold that sums the bits of pairs is the pair of the sums. -/
theorem foldl_sumBits_pair (p : Nat → Bool × Bool) (l : List Nat) (x y : Nat) :
    l.foldl (fun (a : Nat × Nat) i => (a.1 + ofBool (p i).1 * 2 ^ i, a.2 + ofBool (p i).2 * 2 ^ i)) (x, y) =
      (l.foldl (fun a i => a + ofBool (p i).1 * 2 ^ i) x, l.foldl (fun a i => a + ofBool (p i).2 * 2 ^ i) y) := by
  induction l generalizing x y with
  | nil => rfl
  | cons i l ih => exact ih _ _

section
variable (s0 : State) (b c k lines : Nat) (cin : Bool)

/-- What the cells of a cluster that settles take, from the state `s0` before the edge. -/
def settledCell (i : Nat) : Bool × Bool :=
  let fr := clusterFrame s0 b c
  let q := s0.ffs.get (b * 1024 + c)
  let f := clusterSettle fr q lines cin 17
  cellEdge fr f q (s0.ffWait.get (b * 1024 + c)) (clusterEval fr f q lines cin).2.1 lines (s0.bit F.BAY_STATUS_RST_HELD b) k i

/-- A cluster that settles has taken its edge: its flip-flops and their synchronisers, and nothing else. -/
def settledEdge (s : State) : State :=
  { s with
    ffs := s.ffs.set (b * 1024 + c) ((List.range 16).foldl (fun a i => a + ofBool (settledCell s0 b c k lines cin i).1 * 2 ^ i) 0)
    ffWait := s.ffWait.set (b * 1024 + c) ((List.range 16).foldl (fun a i => a + ofBool (settledCell s0 b c k lines cin i).2 * 2 ^ i) 0) }

/-- The user state of a bay that a hold keeps stays. -/
theorem clusterEdge_kept (h : (s0.bit F.BAY_STATUS_RST_HELD b && s0.keepForm.contains b) = true) (s : State) :
    clusterEdge s0 b c k lines cin s = s := if_pos h

variable {s0 b c lines cin} in
theorem clusterEdge_settled (hkept : (s0.bit F.BAY_STATUS_RST_HELD b && s0.keepForm.contains b) = false)
    (h : Settles (clusterFrame s0 b c) (s0.ffs.get (b * 1024 + c)) lines cin) (s : State) :
    clusterEdge s0 b c k lines cin s = settledEdge s0 b c k lines cin s := by
  unfold clusterEdge
  simp only [clusterF_settled h, hkept]
  exact congrArg (fun r : Nat × Nat => ({ s with ffs := s.ffs.set (b * 1024 + c) r.1, ffWait := s.ffWait.set (b * 1024 + c) r.2 } : State))
    (foldl_sumBits_pair (settledCell s0 b c k lines cin) (List.range 16) 0 0)

theorem bitOf_settledEdge (s : State) {i : Nat} (hi : i < 16) :
    bitOf ((settledEdge s0 b c k lines cin s).ffs.get (b * 1024 + c)) i = (settledCell s0 b c k lines cin i).1 := by
  rw [settledEdge, SMap.get_set_same]
  exact bitOf_sumBits (fun i => (settledCell s0 b c k lines cin i).1) hi

theorem ffs_settledEdge_ne (s : State) {j : Nat} (hj : j ≠ b * 1024 + c) :
    (settledEdge s0 b c k lines cin s).ffs.get j = s.ffs.get j := SMap.get_set_ne _ _ _ _ hj

/-- Settled or not, an edge of a cluster changes its flip-flops, their synchronisers and the count of free values alone. -/
theorem clusterEdge_proj {β : Type} (g : State → β) (h : ∀ (s : State) x y n, g { s with ffs := x, ffWait := y, freeCtr := n } = g s)
    (s : State) : g (clusterEdge s0 b c k lines cin s) = g s := by
  unfold clusterEdge
  dsimp only
  split
  · rfl
  · rw [clusterF_frame]
    exact h s _ _ _

end

section
variable (fr f q w ss lines : Nat) (held : Bool) (i : Nat)

/-- Asynchronous SR acts without an edge, not under a hold (R65). -/
theorem cellEdge_async : (cellEdge fr f q w ss lines held 8 i).1 =
    if held = false ∧ bitOf (bitsOf fr (26 * i) 26) 21 = true ∧ ctlAsync fr (bitsOf (bitsOf fr (26 * i) 26) 19 1) = true ∧
      ctlSr fr f q lines (bitsOf (bitsOf fr (26 * i) 26) 19 1) = true
    then bitOf (bitsOf fr (26 * i) 26) 22 else bitOf q i := by
  simp only [cellEdge, if_true, Bool.and_eq_true, Bool.not_eq_true', and_assoc, apply_ite Prod.fst]

/-- INIT, SRVAL, the value before the edge or what the data selection gives, in this order (R64). -/
theorem ffEdge_fst (lc : Nat) (wait : Bool) : (ffEdge fr lc f q ss lines held i wait).1 =
    if held = true then bitOf lc 23
    else if bitOf lc 21 && ctlSr fr f q lines (bitsOf lc 19 1) then bitOf lc 22
    else if wait || (bitOf lc 20 && !ctlCe fr f q lines (bitsOf lc 19 1)) then bitOf q i
    else if bitsOf lc 17 2 = 1 then bitOf ss i
    else if bitsOf lc 17 2 = 2 then xbar fr f q lines (4 * i + 3)
    else bitOf f i := by
  have hdata : ∀ (n : Nat) (x y z : Bool), (match n with | 1 => x | 2 => y | _ => z) = if n = 1 then x else if n = 2 then y else z :=
    fun n x y z => by split <;> simp_all
  unfold ffEdge
  dsimp only
  cases held with
  | true => rfl
  | false =>
    cases bitOf lc 21 && ctlSr fr f q lines (bitsOf lc 19 1) with
    | true => rfl
    | false =>
      cases wait with
      | true => rfl
      | false =>
        cases bitOf lc 20 && !ctlCe fr f q lines (bitsOf lc 19 1) with
        | true => rfl
        | false => exact hdata _ _ _ _

/-- A cell on another clock input keeps its value. -/
theorem cellEdge_clocked {k : Nat} (hk : k < 8) : (cellEdge fr f q w ss lines held k i).1 =
    if ctlClk fr (bitsOf (bitsOf fr (26 * i) 26) 19 1) ≠ k then bitOf q i
    else (ffEdge fr (bitsOf fr (26 * i) 26) f q ss lines held i (bitOf w i)).1 := by
  simp only [cellEdge, if_neg (show k ≠ 8 by omega), ite_not, apply_ite Prod.fst]

end

end Sys2Proof.Machine
end

section
/-!
SUPPORT. The command of a clock edge (family 03): the units that it lists, the inputs that deliver it, what it closes on each of them, and
a boundary group among other units (R73, R74, R76, R82).
-/
namespace Sys2Proof.Machine

/-! ### The units of a command -/

/-- The carry that comes up the column of cluster `u` of bay `b`, and the state after the free values that it draws. -/
def carryUp (s : State) (b u : Nat) (below : List (List TrackSrc)) : Bool × State :=
  columnCarry s b (u % 64) false ((List.range (u / 64)).map (fun r => linesOf s b (below.getD r []))) s

theorem clusterUnit_eq (s : State) (e : EdgeUnit) :
    clusterUnit s e s = clusterEdge s e.b e.u e.k (linesOf s e.b e.lines) (carryUp s e.b e.u e.below).1 (carryUp s e.b e.u e.below).2 := rfl

theorem carryUp_frame (s : State) (b u : Nat) (below : List (List TrackSrc)) :
    (carryUp s b u below).2 = { s with freeCtr := (carryUp s b u below).2.freeCtr } := columnCarry_frame _ _ _ _ _ _

theorem unitEdge_stopped {s0 : State} {e : EdgeUnit} (hk : e.k < 8) (h : bayClk s0 e.b e.k = false) (s : State) : unitEdge s0 e s = s := by
  simp [unitEdge, h, show e.k ≠ 8 by omega]

theorem unitEdge_async {s0 : State} {e : EdgeUnit} (hb : e.b < 768) (hk : e.k = 8) (hu : e.u < 1024) (s : State) :
    unitEdge s0 e s = clusterUnit s0 e s := by
  simp [unitEdge, Nat.not_le.2 hb, hk, hu]

section
variable {s0 : State} {e : EdgeUnit} (hb : e.b < 768) (hk : e.k < 8) (hclk : bayClk s0 e.b e.k = true)
include hb hk hclk

theorem unitEdge_cluster (hu : e.u < 1024) (s : State) : unitEdge s0 e s = clusterUnit s0 e s := by
  simp [unitEdge, Nat.not_le.2 hb, show e.k ≠ 8 by omega, show ¬8 < e.k by omega, hclk, hu]

theorem unitEdge_group {j : Nat} (hu : e.u = 1024 + j) (hj : j < 32) (s : State) :
    unitEdge s0 e s = groupEdge s0 e.b j e.k (linesOf s0 e.b e.lines) s := by
  simp [unitEdge, Nat.not_le.2 hb, show e.k ≠ 8 by omega, show ¬8 < e.k by omega, hclk, hu, show ¬1024 + j < 1024 by omega,
    show 1024 + j < 1056 by omega]

end

theorem groupEdge_stays {s0 : State} {b j k : Nat} (v : Nat)
    (h : (s0.bit F.BAY_STATUS_RST_HELD b && s0.keepForm.contains b) = true ∨ groupClk s0 b j ≠ k) (s : State) : groupEdge s0 b j k v s = s :=
  if_pos (by rcases h with h | h <;> simp only [bne_iff_ne.2, h, Bool.or_true, Bool.true_or, ne_eq, not_false_eq_true])

theorem groupEdge_takes {s0 : State} {b j k : Nat} (v : Nat) (hkept : (s0.bit F.BAY_STATUS_RST_HELD b && s0.keepForm.contains b) = false)
    (hg : groupClk s0 b j = k) (s : State) :
    groupEdge s0 b j k v s = { s with bregs := s.bregs.set (b * 32 + j) (if s0.bit F.BAY_STATUS_RST_HELD b then 0 else v % 2 ^ 64) } :=
  if_neg (by rw [hkept, hg, bne_self_eq_false]; exact Bool.false_ne_true)

/-! ### The command -/

theorem mem_edgeInputs {s : State} {us : List EdgeUnit} {x : Nat × Nat} :
    x ∈ edgeInputs s us ↔ ∃ e ∈ us, (e.b < 768 ∧ e.k < 8 ∧ bayClk s e.b e.k = true) ∧ (e.b, e.k) = x := by
  simp [edgeInputs, List.mem_eraseDups, and_assoc]

theorem bayFirstEdge_not_owed {s : State} {b k : Nat} (h : edgeOwed s b k = false) : bayFirstEdge b k s = s := by
  have howed := h
  simp only [edgeOwed, Bool.or_eq_false_iff, Bool.not_eq_false'] at howed
  obtain ⟨⟨hboundary, hreset⟩, -⟩ := howed
  simp [bayFirstEdge, h, hboundary, hreset]

section
variable {s : State} {cells groups gpios lanes srs : List EdgeUnit}

/-- The units take the edge from the state as it is where no input owes anything. -/
theorem exec_flipFlopEdge (h : ∀ x ∈ edgeInputs s (edgeUnits cells groups gpios lanes srs), edgeOwed s x.1 x.2 = false) :
    exec (.flipFlopEdge cells groups gpios lanes srs) s =
      .next (forL (edgeInputs s (edgeUnits cells groups gpios lanes srs)) (fun x => edgeClose x.1 x.2)
        (forL (edgeUnits cells groups gpios lanes srs) (unitEdge s) s)) := by
  have hfirst : forL (edgeInputs s (edgeUnits cells groups gpios lanes srs)) (fun x => bayFirstEdge x.1 x.2) s = s := by
    generalize edgeInputs s _ = ins at h
    induction ins with
    | nil => rfl
    | cons x ins ih =>
      rw [forL_cons, bayFirstEdge_not_owed (h x List.mem_cons_self)]
      exact ih fun y hy => h y (List.mem_cons_of_mem _ hy)
  show execFlipFlopEdge cells groups gpios lanes srs s = _
  simp only [execFlipFlopEdge, hfirst]

theorem exec_flipFlopEdge_stopped (h : ∀ e ∈ edgeUnits cells groups gpios lanes srs, e.k < 8 ∧ bayClk s e.b e.k = false) :
    exec (.flipFlopEdge cells groups gpios lanes srs) s = .next s := by
  have hins : edgeInputs s (edgeUnits cells groups gpios lanes srs) = [] := List.eq_nil_iff_forall_not_mem.2 fun x hx => by
    obtain ⟨e, he, ⟨-, -, hclk⟩, -⟩ := mem_edgeInputs.1 hx
    rw [(h e he).2] at hclk
    exact Bool.false_ne_true hclk
  rw [exec_flipFlopEdge (by simp [hins]), hins, forL_nil]
  exact congrArg _ (forL_proj id (fun e he s => unitEdge_stopped (h e he).1 (h e he).2 s) s)

/-- One unit on a running input. -/
theorem exec_flipFlopEdge_one {e : EdgeUnit} (hus : edgeUnits cells groups gpios lanes srs = [e]) (hb : e.b < 768) (hk : e.k < 8)
    (hclk : bayClk s e.b e.k = true) (howed : edgeOwed s e.b e.k = false) :
    exec (.flipFlopEdge cells groups gpios lanes srs) s = .next (edgeClose e.b e.k (unitEdge s e s)) := by
  have hins : edgeInputs s [e] = [(e.b, e.k)] := by simp [edgeInputs, hb, hk, hclk, List.eraseDups_cons]
  rw [exec_flipFlopEdge (by simpa [hus, hins] using howed), hus, hins]
  rfl

end

/-- A cluster whose asynchronous SR acts. -/
theorem exec_flipFlopEdge_async {s : State} {e : EdgeUnit} (hb : e.b < 768) (hu : e.u < 1024) :
    exec (.flipFlopEdge [] [] [] [] [e]) s =
      .next (clusterEdge s e.b e.u 8 (linesOf s e.b e.lines) (carryUp s e.b e.u e.below).1 (carryUp s e.b e.u e.below).2) := by
  have hus : edgeUnits [] [] [] [] [e] = [{ e with k := 8 }] := by simp [edgeUnits, hu]
  have hins : edgeInputs s [{ e with k := 8 }] = [] := by simp [edgeInputs]
  rw [exec_flipFlopEdge (by simp [hus, hins]), hus, hins, forL_nil, forL_cons, forL_nil, unitEdge_async (e := { e with k := 8 }) hb rfl hu,
    clusterUnit_eq]

theorem exec_flipFlopEdge_cluster {s : State} {e : EdgeUnit} (hb : e.b < 768) (hk : e.k < 8) (hu : e.u < 1024)
    (hclk : bayClk s e.b e.k = true) (howed : edgeOwed s e.b e.k = false) :
    exec (.flipFlopEdge [e] [] [] [] []) s = .next (edgeClose e.b e.k
      (clusterEdge s e.b e.u e.k (linesOf s e.b e.lines) (carryUp s e.b e.u e.below).1 (carryUp s e.b e.u e.below).2)) := by
  have hus : edgeUnits [e] [] [] [] [] = [e] := by simp [edgeUnits, hu, hk]
  rw [exec_flipFlopEdge_one hus hb hk hclk howed, unitEdge_cluster hb hk hclk hu, clusterUnit_eq]

theorem exec_flipFlopEdge_group {s : State} {e : EdgeUnit} (hb : e.b < 768) (hk : e.k < 8) (hu : e.u < 32)
    (hclk : bayClk s e.b e.k = true) (howed : edgeOwed s e.b e.k = false) :
    exec (.flipFlopEdge [] [e] [] [] []) s = .next (edgeClose e.b e.k (groupEdge s e.b e.u e.k (linesOf s e.b e.lines) s)) := by
  have hus : edgeUnits [] [e] [] [] [] = [{ e with u := 1024 + e.u }] := by simp [edgeUnits, hu, hk]
  rw [exec_flipFlopEdge_one hus hb hk hclk howed, unitEdge_group (e := { e with u := 1024 + e.u }) hb hk hclk rfl hu]

/-! ### What an edge closes -/

/-- PICK_STB of the input moves on by one cycle (R82). -/
theorem strobeEdge_strobe (b k : Nat) (s : State) :
    bitOf ((strobeEdge b k s).strobe.get b) (8 + k) = bitOf (s.strobe.get b) k ∧ bitOf ((strobeEdge b k s).strobe.get b) k = false := by
  unfold strobeEdge
  dsimp only
  split
  · simp [bitOf_withBit]
  next h =>
    simp only [Bool.or_eq_true, not_or, Bool.not_eq_true] at h
    exact ⟨h.2.trans h.1.symm, h.1⟩

theorem captureEdge_wait (b k : Nat) (s : State) : ∀ x ∈ (captureEdge b k s).capts, (b, k) ∉ x.wait := by
  unfold captureEdge
  split
  next h => simpa using h
  · simp only [List.forall_mem_map]
    intro x hx
    unfold captEdge
    split
    next h => simpa using h
    · simp

theorem edgeClose_proj {β : Type} (g : State → β) (h : ∀ (s : State) x y z, g { s with strobe := x, capts := y, lastEdge := z } = g s)
    (b k : Nat) (s : State) : g (edgeClose b k s) = g s := by
  have hstrobe : ∀ s, g (strobeEdge b k s) = g s := fun s => by
    unfold strobeEdge
    dsimp only
    split
    · exact h s _ s.capts s.lastEdge
    · rfl
  have hcapture : ∀ s, g (captureEdge b k s) = g s := fun s => by
    unfold captureEdge
    split
    · rfl
    · exact h s s.strobe _ s.lastEdge
  have hlast : ∀ (s : State) z, g { s with lastEdge := z } = g s := fun s z => h s s.strobe s.capts z
  exact (hlast (captureEdge b k (strobeEdge b k s)) _).trans ((hcapture _).trans (hstrobe s))

theorem edgeClose_strobe (b k : Nat) (s : State) : (edgeClose b k s).strobe = (strobeEdge b k s).strobe := by
  unfold edgeClose captureEdge
  dsimp only
  split <;> rfl

/-! ### A boundary group among other units -/

/-- Showing the pins of a bank changes the pins' record and what has left the block, and nothing else. -/
theorem gpioShow_proj {β : Type} (g : State → β) (h : ∀ (s : State) x y, g { s with gpio := x, out := y } = g s) (n : Nat) (s : State) :
    g (gpioShow n s) = g s := by
  simp only [gpioShow]
  split
  · rfl
  · exact h s _ _

theorem bregs_gpioPortEdge (n p v : Nat) (s : State) : (gpioPortEdge n p v s).bregs = s.bregs := by
  unfold gpioPortEdge
  dsimp only
  split <;> rfl

/-- An edge of an attach port leaves the boundary registers alone. -/
theorem bregs_attachEdge (l v : Nat) (s : State) : (attachEdge l v s).bregs = s.bregs := by
  have hdrop : (rxDrop l s).bregs = s.bregs := irqSample_proj State.bregs (fun _ _ _ _ => rfl) _ _
  have hpresent : ∀ t : State, (attachPresent l t).bregs = t.bregs := fun t => by
    unfold attachPresent
    split <;> rfl
  simp only [attachEdge, apply_ite State.bregs, hpresent]
  simp only [State.updLane, apply_ite State.bregs, hdrop, ite_self]

theorem bregs_clusterUnit (s0 s : State) (e : EdgeUnit) : (clusterUnit s0 e s).bregs = s.bregs := by
  have hcarry : ∀ c col, (columnCarry s0 e.b c false col s).2.bregs = s.bregs := fun c col => by rw [columnCarry_frame]
  exact (clusterEdge_proj _ _ _ _ _ _ State.bregs (fun _ _ _ _ => rfl) _).trans (hcarry _ _)

/-- A boundary group leaves the registers of the others alone. -/
theorem bregs_groupEdge_ne {b x i j : Nat} (k v : Nat) (hi : i < 32) (hj : j < 32) (h : ¬(x = b ∧ i = j)) (s0 s : State) :
    (groupEdge s0 x i k v s).bregs.get (b * 32 + j) = s.bregs.get (b * 32 + j) := by
  unfold groupEdge
  split
  · rfl
  · exact SMap.get_set_ne _ _ _ _ (by omega)

/-- A unit other than group `j` of bay `b` leaves its register alone. -/
theorem bregs_unitEdge_ne {b j : Nat} (hj : j < 32) (s0 : State) {e : EdgeUnit} (he : ¬(e.b = b ∧ e.u = 1024 + j)) (s : State) :
    (unitEdge s0 e s).bregs.get (b * 32 + j) = s.bregs.get (b * 32 + j) := by
  have hgpio : ∀ n p v, (gpioShow n (gpioPortEdge n p v s)).bregs = s.bregs := fun n p v =>
    (gpioShow_proj State.bregs (fun _ _ _ => rfl) n _).trans (bregs_gpioPortEdge n p v s)
  have hgroup : ¬e.u < 1024 → e.u < 1056 → (groupEdge s0 e.b (e.u - 1024) e.k (linesOf s0 e.b e.lines) s).bregs.get (b * 32 + j) =
      s.bregs.get (b * 32 + j) := fun hlo hhi => bregs_groupEdge_ne _ _ (by omega) hj (by omega) s0 s
  simp only [unitEdge]
  split_ifs with hb hk8 hcl hk hcl' hgr hgp hln
  · rfl
  · rw [bregs_clusterUnit]
  · rfl
  · rfl
  · rw [bregs_clusterUnit]
  · exact hgroup hcl' hgr
  · rw [hgpio]
  · rw [bregs_attachEdge]
  · rfl

section
variable {cells groups gpios lanes srs : List EdgeUnit} {e : EdgeUnit} {j : Nat}

/-- The units of a command in the numbers of the boundary groups are its groups. -/
theorem mem_edgeUnits_group (hj : j < 32) (he : e ∈ edgeUnits cells groups gpios lanes srs) (hu : e.u = 1024 + j) :
    ∃ x ∈ groups, x.u = j ∧ e = { x with u := 1024 + x.u } := by
  simp only [edgeUnits, List.mem_append, List.mem_map, List.mem_filter, Bool.and_eq_true, decide_eq_true_eq] at he
  rcases he with (((⟨-, h⟩ | ⟨x, ⟨hx, -⟩, rfl⟩) | ⟨x, -, rfl⟩) | ⟨x, -, rfl⟩) | ⟨x, ⟨-, h⟩, rfl⟩
  · omega
  · exact ⟨x, hx, Nat.add_left_cancel hu, rfl⟩
  · exact absurd (show 2048 + x.u = 1024 + j from hu) (by omega)
  · exact absurd (show 4096 + x.u = 1024 + j from hu) (by omega)
  · exact absurd (show x.u = 1024 + j from hu) (by omega)

theorem group_mem_edgeUnits (he : e ∈ groups) (hu : e.u < 32) (hk : e.k < 8) :
    { e with u := 1024 + e.u } ∈ edgeUnits cells groups gpios lanes srs := by
  simp only [edgeUnits, List.mem_append, List.mem_map, List.mem_filter]
  exact .inl (.inl (.inl (.inr ⟨e, ⟨he, by simp [hu, hk]⟩, rfl⟩)))

/-- Whatever other units take the same edge, a boundary register has its lines as they stood before the edge (R73, R74). -/
theorem bregs_exec_flipFlopEdge {s : State} (he : e ∈ groups) (hb : e.b < 768) (hk : e.k < 8) (hu : e.u < 32)
    (hg : groupClk s e.b e.u = e.k) (hclk : bayClk s e.b e.k = true) (hheld : s.bit F.BAY_STATUS_RST_HELD e.b = false)
    (hne : groups.Pairwise (fun x y => (x.b, x.u) ≠ (y.b, y.u)))
    (howed : ∀ x ∈ edgeUnits cells groups gpios lanes srs, x.b < 768 → x.k < 8 → edgeOwed s x.b x.k = false) :
    ∃ t, exec (.flipFlopEdge cells groups gpios lanes srs) s = .next t ∧ t.bregs.get (e.b * 32 + e.u) = linesOf s e.b e.lines % 2 ^ 64 := by
  refine ⟨_, exec_flipFlopEdge fun x hx => ?_, ?_⟩
  · obtain ⟨y, hy, ⟨hyb, hyk, -⟩, rfl⟩ := mem_edgeInputs.1 hx
    exact howed y hy hyb hyk
  have hown : ∀ x ∈ edgeUnits cells groups gpios lanes srs, x.b = e.b ∧ x.u = 1024 + e.u → x = { e with u := 1024 + e.u } := by
    rintro x hx ⟨hxb, hxu⟩
    obtain ⟨y, hy, hyu, rfl⟩ := mem_edgeUnits_group hu hx hxu
    rw [List.inj_on_of_nodup_map (List.pairwise_map.2 hne) hy he (Prod.ext hxb hyu)]
  have hset : ∀ t, (unitEdge s { e with u := 1024 + e.u } t).bregs.get (e.b * 32 + e.u) = linesOf s e.b e.lines % 2 ^ 64 := fun t => by
    rw [unitEdge_group (e := { e with u := 1024 + e.u }) hb hk hclk rfl hu, groupEdge_takes _ (by rw [hheld]; rfl) hg, hheld]
    exact SMap.get_set_same _ _ _
  have hclose : ∀ (x : Nat × Nat) t, (edgeClose x.1 x.2 t).bregs.get (e.b * 32 + e.u) = t.bregs.get (e.b * 32 + e.u) := fun x t =>
    edgeClose_proj (fun s => s.bregs.get (e.b * 32 + e.u)) (fun _ _ _ _ => rfl) x.1 x.2 t
  rw [forL_proj (fun s => s.bregs.get (e.b * 32 + e.u)) (fun x _ => hclose x)]
  refine forL_all (fun _ => True)
    (fun x t => x = { e with u := 1024 + e.u } → t.bregs.get (e.b * 32 + e.u) = linesOf s e.b e.lines % 2 ^ 64)
    (fun _ _ _ _ => trivial) ?_ ?_ trivial _ (group_mem_edgeUnits he hu hk) rfl
  · rintro x - t - rfl
    exact hset t
  · rintro x hx y - hyx t - ht rfl
    rw [bregs_unitEdge_ne hu s (fun h => hyx (hown x hx h).symm), ht rfl]

end

end Sys2Proof.Machine
end

section
/-!
SUPPORT. The forms of a clock edge at the units of the fabric (family 03), assembled.
-/
namespace Sys2Proof.Machine

/-- A cluster that settles changes its own flip-flops, their synchronisers and the count of free values that its column draws. -/
theorem settledEdge_only (s : State) (b u k lines : Nat) (below : List (List TrackSrc)) :
    let c := carryUp s b u below
    let t := settledEdge s b u k lines c.1 c.2
    t = { s with ffs := t.ffs, ffWait := t.ffWait, freeCtr := c.2.freeCtr } ∧ ∀ j, j ≠ b * 1024 + u → t.ffs.get j = s.ffs.get j := by
  obtain ⟨n, hn⟩ : ∃ n, (carryUp s b u below).2 = { s with freeCtr := n } := ⟨_, carryUp_frame s b u below⟩
  dsimp only
  rw [hn]
  exact ⟨rfl, fun j hj => ffs_settledEdge_ne s b u k lines _ _ hj⟩

/-- A unit on a clock input that does not run. -/
theorem exec_flipFlopEdge_idle {s : State} {e : EdgeUnit} (hk : e.k < 8) (hclk : bayClk s e.b e.k = false) :
    exec (.flipFlopEdge [e] [] [] [] []) s = .next s ∧ exec (.flipFlopEdge [] [e] [] [] []) s = .next s := by
  constructor <;> refine exec_flipFlopEdge_stopped fun x hx => ?_
  · obtain ⟨rfl, -⟩ : x = e ∧ x.u < 1024 ∧ x.k < 8 := by simpa [edgeUnits] using hx
    exact ⟨hk, hclk⟩
  · obtain ⟨-, rfl⟩ : (e.u < 32 ∧ e.k < 8) ∧ { e with u := 1024 + e.u } = x := by simpa [edgeUnits] using hx
    exact ⟨hk, hclk⟩

/-- Settles O25: the units of a command take the edge from the state before it (`exec_flipFlopEdge`), a cluster that settles by its cells
(`clusterEdge_settled`), a boundary group by its lines (`groupEdge_takes`), and the edge then closes on its clock input. -/
theorem flipFlopForms : Obligations.FlipFlopForms := by
  unfold Obligations.FlipFlopForms
  intro s b k l below hb unit edge group lines held kept carry
  have hheld : s.bit F.BAY_STATUS_RST_HELD b = true ↔ held := beq_iff_eq
  have hfree : s.bit F.BAY_STATUS_RST_HELD b = false ↔ ¬held := by rw [← hheld, Bool.not_eq_true]
  have hkept : (s.bit F.BAY_STATUS_RST_HELD b && s.keepForm.contains b) = true ↔ kept := by rw [Bool.and_eq_true, hheld]
  have hlost : (s.bit F.BAY_STATUS_RST_HELD b && s.keepForm.contains b) = false ↔ ¬kept := by rw [← hkept, Bool.not_eq_true]
  have hcell : k < 8 → ∀ u, edge u k = .flipFlopEdge [unit u k] [] [] [] [] := fun hk u => if_neg (by omega)
  refine ⟨fun u _ v => ⟨rfl, fun x h => columnCarry_settled h v⟩, fun u hu => ?_, fun hk => ⟨fun u hstop => ?_, fun hclk howed j hj => ?_, ?_,
    fun v => ?_⟩⟩
  · have hasync : exec (edge u 8) s = .next (clusterEdge s b u 8 lines (carry u).1 (carry u).2) :=
      exec_flipFlopEdge_async (e := unit u k) hb hu
    refine ⟨fun h => ?_, fun h hset => ⟨_, ?_, settledEdge_only s b u 8 lines below, fun i hi => ?_⟩, fun hk hclk howed => ?_⟩
    · rw [hasync, clusterEdge_kept _ _ _ _ _ _ (hkept.2 h)]
    · rw [hasync, clusterEdge_settled _ (hlost.2 h) hset]
      rfl
    · rw [bitOf_settledEdge _ _ _ _ _ _ _ hi, settledCell, cellEdge_async]
      exact if_congr (and_congr_left' hfree) rfl rfl
    · have hedge : exec (edge u k) s = .next (edgeClose b k (clusterEdge s b u k lines (carry u).1 (carry u).2)) := by
        rw [hcell hk]
        exact exec_flipFlopEdge_cluster (e := unit u k) hb hk hu hclk howed
      refine ⟨fun h => ?_, fun h hset => ⟨_, ?_, settledEdge_only s b u k lines below, fun i hi => ?_⟩⟩
      · rw [hedge, clusterEdge_kept _ _ _ _ _ _ (hkept.2 h)]
      · rw [hedge, clusterEdge_settled _ (hlost.2 h) hset]
        rfl
      · rw [bitOf_settledEdge _ _ _ _ _ _ _ hi, settledCell, cellEdge_clocked _ _ _ _ _ _ _ _ hk, ffEdge_fst]
        exact if_congr Iff.rfl rfl (if_congr hheld rfl rfl)
  · rw [hcell hk]
    exact exec_flipFlopEdge_idle (e := unit u k) hk hstop
  · have hgroup : exec (group j) s = .next (edgeClose b k (groupEdge s b j k lines s)) :=
      exec_flipFlopEdge_group (e := unit j k) hb hk hj hclk howed
    refine ⟨fun h => ?_, fun h hg => ?_⟩
    · rw [hgroup, groupEdge_stays _ (h.imp_left hkept.2)]
    · rw [hgroup, groupEdge_takes _ (hlost.2 h) hg]
      simp only [hheld]
  · rintro cells groups gpios lanes srs e j he rfl rfl rfl hj hg hclk h hne howed
    exact bregs_exec_flipFlopEdge he hb hk hj hg hclk (hfree.2 h) hne howed
  · obtain ⟨hnow, hnext⟩ := strobeEdge_strobe b k v
    rw [← edgeClose_strobe] at hnow hnext
    exact ⟨edgeClose_proj State.ffs (fun _ _ _ _ => rfl) b k v, edgeClose_proj State.ffWait (fun _ _ _ _ => rfl) b k v,
      edgeClose_proj State.bregs (fun _ _ _ _ => rfl) b k v, edgeClose_proj State.regs (fun _ _ _ _ => rfl) b k v,
      edgeClose_proj State.mem (fun _ _ _ _ => rfl) b k v, edgeClose_proj State.ecc (fun _ _ _ _ => rfl) b k v,
      edgeClose_proj State.out (fun _ _ _ _ => rfl) b k v, hnow, hnext, by simp [edgeClose], captureEdge_wait b k (strobeEdge b k v)⟩

end Sys2Proof.Machine
end

section
/-!
SUPPORT. The numbers of the slices and of the signal cores (family 05): a value read as signed or unsigned, an exact result
brought into a range (R143, R146, R378, R379), and the roundings of R146.
-/
namespace Sys2Proof.Machine
open Claims

/-! ### Values as integers -/

@[simp] theorem asInt_unsigned {w : Nat} (x : BitVec w) : asInt false w x.toNat = x.toNat := by
  simp [asInt, Nat.mod_eq_of_lt x.isLt]

theorem asInt_signed {w : Nat} (x : BitVec w) : asInt true w x.toNat = x.toInt := by
  have hmsb : bitOf x.toNat (w - 1) = x.msb := by
    rw [bitOf_eq_testBit, BitVec.msb_eq_getLsbD_last, BitVec.getLsbD]
  simp only [asInt, Nat.mod_eq_of_lt x.isLt, hmsb, Bool.true_and, BitVec.toInt_eq_msb_cond]

/-! ### Ranges -/

theorem lowBits_eq (w : Nat) (x : Int) : lowBits w x = (BitVec.ofInt w x).toNat := (BitVec.toNat_ofInt x).symm

/-- A value lies between the bounds of a range or leaves it. -/
theorem leaves_eq_false_iff {w : Nat} {sgn : Bool} {x : Int} : leaves w (!sgn) x = false ↔ rangeLo sgn w ≤ x ∧ x ≤ rangeHi sgn w := by
  have hpow (n : Nat) : ((2 ^ n : Nat) : Int) = 2 ^ n := Nat.cast_pow 2 n
  cases sgn <;> simp only [leaves, rangeLo, rangeHi, hpow, Bool.not_true, Bool.not_false, if_true, Bool.false_eq_true, if_false,
    decide_eq_false_iff_not] <;> omega

/-- Bringing a value into a range gives the value of R143 and says whether it left the range. -/
theorem fitRange_eq (sgn sat : Bool) (w : Nat) (x : Int) :
    fitRange sgn sat w x = ((brought w sat (!sgn) x).toNat, leaves w (!sgn) x) := by
  unfold fitRange brought
  by_cases h : leaves w (!sgn) x = false
  · simp [h, leaves_eq_false_iff.1 h, lowBits_eq]
  · have hbound : (if x < rangeLo sgn w then rangeLo sgn w else rangeHi sgn w) =
        if !sgn then (if x < 0 then 0 else 2 ^ w - 1) else (if x < 0 then -(2 ^ (w - 1) : Int) else 2 ^ (w - 1) - 1) := by
      have hpos : (0 : Int) < 2 ^ (w - 1) := by positivity
      rw [leaves_eq_false_iff] at h
      cases sgn <;> simp only [rangeLo, rangeHi, Nat.cast_pow, Nat.cast_ofNat, Bool.not_true, Bool.not_false, if_true,
        Bool.false_eq_true, if_false] at h ⊢ 
      split_ifs <;> omega
    rw [if_neg (fun hin => h (leaves_eq_false_iff.2 hin)), hbound, lowBits_eq, lowBits_eq, Bool.eq_true_of_not_eq_false h]
    cases sat <;> rfl

/-- A value of the width stays itself, saturated or not. -/
theorem leaves_toInt {w : Nat} (x : BitVec w) : leaves w false x.toInt = false := by
  refine (leaves_eq_false_iff (sgn := true)).2 ?_
  simp only [rangeLo, rangeHi, if_true]
  obtain rfl | hw := Nat.eq_zero_or_pos w
  · simp [BitVec.toInt_zero_length]
  · have hlo := BitVec.le_toInt x
    have hhi := BitVec.toInt_lt (x := x)
    push_cast
    omega

theorem brought_toInt {w : Nat} (sat : Bool) (x : BitVec w) : brought w sat false x.toInt = x := by
  simp [brought, leaves_toInt]

/-! ### Rounding (R146) -/

/-- The roundings by the quotient and what is left of the value. -/
theorem roundShift_eq (rnd sh : Nat) (v : Int) :
    roundShift rnd sh v =
      let q : Int := v / 2 ^ sh
      let r : Int := v - q * 2 ^ sh
      if sh = 0 then v else if rnd = 1 then (if 2 ^ sh ≤ 2 * r then q + 1 else q)
      else if rnd = 2 then (if 2 ^ sh < 2 * r ∨ (2 ^ sh = 2 * r ∧ q % 2 = 1) then q + 1 else q) else q := by
  simp only [roundShift, Nat.cast_pow, Nat.cast_ofNat]

theorem roundShift_trunc (sh : Nat) (v : Int) : roundShift 0 sh v = v / 2 ^ sh := by
  rw [roundShift_eq]
  by_cases h : sh = 0 <;> simp [h]

theorem roundShift_halfUp {sh : Nat} (h : sh ≠ 0) (v : Int) : roundShift 1 sh v = (v + 2 ^ (sh - 1)) / 2 ^ sh := by
  have hp : (0 : Int) < 2 ^ (sh - 1) := by positivity
  have hpow : (2 : Int) ^ sh = 2 * 2 ^ (sh - 1) := by rw [← pow_succ', Nat.sub_add_cancel (Nat.pos_of_ne_zero h)]
  have hsplit := Int.mul_ediv_add_emod v (2 * 2 ^ (sh - 1))
  have hlo := Int.emod_nonneg v (b := 2 * 2 ^ (sh - 1)) (by omega)
  have hhi := Int.emod_lt_of_pos v (b := 2 * 2 ^ (sh - 1)) (by omega)
  simp only [roundShift_eq, if_neg h, if_true, hpow]
  refine ((Int.ediv_eq_iff_of_pos (by omega)).2 ?_).symm
  split_ifs with hr
  · exact ⟨by linarith, by linarith⟩
  · exact ⟨by linarith, by linarith⟩

end Sys2Proof.Machine
end

section
/-!
SUPPORT. A bundle of a signal core with an operation in the MAC slot and empty move slots (family 05): its issue, and what
accumulators and V registers hold after the writes of the slot (R370, R377, R378, R379).
-/
namespace Sys2Proof.Machine
open Claims

/-! ### Issue (R376, R388) -/

/-- A bundle with empty move slots has no condition that stops it, no access, and its MAC slot's effect alone. -/
theorem scStart_mac (n : Nat) (op : MacOp) (u : State) : scStart n { mac := op } u = scSeq u n .nop (macExec u n op u) := by
  have hacc : bundleAccs u n { mac := op } = [] := rfl
  have hloads : nocLoads u n { mac := op } = [] := rfl
  have hcmp (v : State) : scDataCmp u n { mac := op } v = v := by
    simp [scDataCmp, hacc]
  simp only [scStart, hacc, hloads, List.any_nil, Bool.false_and, Bool.false_eq_true, if_false, List.isEmpty_nil, if_true]
  simp [scFinish, scLoads, scLoaded, m2Lower, moveAcc, respErr, moveExec, hcmp, scSeq]

theorem scEarlyTrap_mac {op : MacOp} (h : op ≠ .bad) (n : Nat) (u : State) : scEarlyTrap u n { mac := op } = none := by
  have hacc : bundleAccs u n { mac := op } = [] := rfl
  have hlegal : scIllegal u n { mac := op } = none := by simp [scIllegal, moveIllegal, moveWrites, clash, h]
  simp [scEarlyTrap, hlegal, hacc]

/-- A bundle that the core issues has the effect of its MAC slot, and its sequence goes on. -/
theorem scMacCmd_issued {n : Nat} {s : State} {op : MacOp} (hs : ScIssues s n) (hop : op ≠ .bad) :
    scMacCmd n (macField 0 op) 0 0 s = .next (scSeq (scIssued n s) n .nop (macExec (scIssued n s) n op (scIssued n s))) := by
  obtain ⟨hready, hfetch, hbreak⟩ := hs
  have hbr : scBreak n (scFetch n s).2 = (false, scIssued n s) := Prod.ext hbreak rfl
  have hmoves : movesOf 0 0 = (.nop, .nop) := by decide
  simp only [scMacCmd, macField, if_true, hmoves, scIssue, hready, Bool.not_true, Bool.false_eq_true, if_false, hfetch, hbr,
    scEarlyTrap_mac hop, scStart_mac]

/-! ### Registers of a signal core -/

@[simp] theorem fld_updSc (s : State) (n : Nat) (f : SCore → SCore) (g : Field) (u i : Nat) : (s.updSc n f).fld g u i = s.fld g u i := rfl

@[simp] theorem sc_updSc_same (s : State) (n : Nat) (f : SCore → SCore) : (s.updSc n f).sc.get n = f (s.sc.get n) := by
  simp [State.updSc, SMap.upd]

theorem sc_updSc_ne (s : State) {n k : Nat} (f : SCore → SCore) (h : k ≠ n) : (s.updSc n f).sc.get k = s.sc.get k := by
  simp [State.updSc, SMap.upd, SMap.get_set_ne _ _ _ _ h]

/-- A signal core's registers read as integers as the spec reads them. -/
theorem sInt_eq_sVal (u : State) (n v : Nat) (uns : Bool) : sInt u n v uns = sVal u n v uns := by
  cases uns
  · exact asInt_signed _
  · exact asInt_unsigned _

theorem aInt_eq_aVal (u : State) (n d : Nat) (uns : Bool) : aInt u n d uns = aVal u n d uns := by
  cases uns
  · exact asInt_signed _
  · exact asInt_unsigned _

/-! ### Accumulators -/

theorem saget_saset (s : State) (n : Nat) {d j : Nat} (x : Acc) (hd : d < 4) (hj : j < 4) :
    (saset n d x s).saget n j = if j = d then x else s.saget n j := by
  simp only [State.saget, saset, sc_updSc_same, SMap.get_set, Nat.mod_eq_of_lt hd, Nat.mod_eq_of_lt hj]

/-- A write of an accumulator changes the accumulators of its core alone. -/
theorem saset_onlySc (s : State) (n d : Nat) (x : Acc) :
    (saset n d x s).sc.get n = { s.sc.get n with acc := ((saset n d x s).sc.get n).acc } ∧ OnlySc s (saset n d x s) n [] := by
  refine ⟨?_, rfl, FldSame.refl _ _, fun k hk => sc_updSc_ne _ _ hk⟩
  simp [saset]

/-- An accumulator takes an exact result, with its OVA bit (R378). -/
theorem accTakes_accPut (u : State) (n : Nat) {d : Nat} (hd : d < 4) (sat uns : Bool) (t : Int) :
    AccTakes u (accPut n d sat uns t u) n d sat uns t := by
  have hput : accPut n d sat uns t u = setOva n d (leaves 56 uns t) (saset n d (brought 56 sat uns t) u) := by
    simp [accPut, fitRange_eq]
  rw [hput]
  obtain ⟨hself, hall, hsame, hother⟩ := saset_onlySc u n d (brought 56 sat uns t)
  cases hleaves : leaves 56 uns t
  · refine ⟨fun k hk => saget_saset u n _ hd hk, fun k hk => ?_, hself, hall, fldSame_of_regs rfl _, hother⟩
    simp [setOva, hleaves, saset]
  · refine ⟨fun k hk => saget_saset u n _ hd hk, fun k hk => ?_, hself, ?_, ?_, hother⟩
    · have hw : k < F.S_SFLAGS_OVA.w := hk
      simp only [setOva, if_true, bitOf_setFlag _ _ _ _ _ _ _ hw, Nat.mod_eq_of_lt hd, hleaves]
      by_cases e : k = d <;> simp [e, saset]
    · rfl
    · exact fldSame_setFld _ _ _ _ _ List.mem_cons_self

/-! ### V registers -/

theorem scRot_cases (s : State) (n : Nat) : scRot s n = 0 ∨ scRot s n = 8 ∨ scRot s n = 16 ∨ scRot s n = 32 := by
  unfold scRot
  split <;> simp

/-- Distinct logical registers name distinct physical ones (R370). -/
theorem scPhys_inj {s : State} {n v w : Nat} (hv : v < 32) (hw : w < 32) (h : scPhys s n v = scPhys s n w) : v = w := by
  simp only [scPhys, Nat.mod_eq_of_lt hv, Nat.mod_eq_of_lt hw] at h
  obtain hr | hr | hr | hr := scRot_cases s n <;> rw [hr] at h <;> split_ifs at h <;> omega

theorem scPhys_congr {s t : State} {n : Nat} (hsize : t.fld F.S_RCFG_RSIZE n = s.fld F.S_RCFG_RSIZE n)
    (hrrb : t.fld F.S_RCFG_RRB n = s.fld F.S_RCFG_RRB n) (v : Nat) : scPhys t n v = scPhys s n v := by
  have hrot : scRot t n = scRot s n := by rw [scRot, scRot, hsize]
  simp only [scPhys, hrot, hrrb]

/-- A V register takes a value beside fields of the state that do not name registers. -/
theorem vTakes_svset {u w : State} {n rd : Nat} {ws : List (Field × Nat)} (hrd : rd < 32) (hw : OnlyRegs u w ws)
    (hsize : ∀ p ∈ ws, F.S_RCFG_RSIZE.id ≠ p.1.id) (hrrb : ∀ p ∈ ws, F.S_RCFG_RRB.id ≠ p.1.id) (x : SWord) :
    VTakes u (svset u n rd x w) n rd x ws := by
  obtain ⟨hregs, hsame⟩ := hw
  have hsc : w.sc = u.sc := by rw [hregs]
  have hself : (svset u n rd x w).sc.get n = { u.sc.get n with v := (u.sc.get n).v.set (scPhys u n rd) x } := by
    rw [svset, sc_updSc_same, hsc]
  have hname : ∀ k, scPhys (svset u n rd x w) n k = scPhys u n k :=
    scPhys_congr (hsame.fld_id hsize n 0) (hsame.fld_id hrrb n 0)
  refine ⟨fun k hk => ?_, ?_, ?_, hsame, fun k hk => ?_⟩
  · simp only [State.svget, hname, hself, SMap.get_set]
    exact if_congr ⟨scPhys_inj hk hrd, congrArg _⟩ rfl rfl
  · rw [hself]
  · rw [svset, State.updSc, hregs]
  · rw [svset, sc_updSc_ne _ _ hk, hsc]

end Sys2Proof.Machine
end

section
/-!
SUPPORT. The arithmetic of the signal cores' MAC slot (family 05), operation by operation, and its forms assembled.
-/
namespace Sys2Proof.Machine
open Claims

/-! ### Operations on accumulators (R378) -/

/-- An operation of the MAC slot that brings an exact result to accumulator `d`. -/
theorem accSlot_takes {s : State} {n d : Nat} {sat uns : Bool} {op : MacOp} {t : Int} (hs : ScIssues s n) (hd : d < 4) (hop : op ≠ .bad)
    (hexec : macExec (scIssued n s) n op (scIssued n s) = accPut n d sat uns t (scIssued n s)) :
    ∃ w, scMacCmd n (macField 0 op) 0 0 s = .next (scSeq (scIssued n s) n .nop w) ∧ AccTakes (scIssued n s) w n d sat uns t :=
  ⟨_, scMacCmd_issued hs hop, hexec ▸ accTakes_accPut _ n hd sat uns t⟩

/-- An operation of the MAC slot that brings two exact results to accumulators `d` and `d'`. -/
theorem accSlot_takes_pair {s : State} {n d d' : Nat} {sat uns : Bool} {op : MacOp} {t t' : Int} (hs : ScIssues s n) (hd : d < 4) (hd' : d' < 4)
    (hop : op ≠ .bad) (hexec : macExec (scIssued n s) n op (scIssued n s) = accPut n d' sat uns t' (accPut n d sat uns t (scIssued n s))) :
    ∃ w v, scMacCmd n (macField 0 op) 0 0 s = .next (scSeq (scIssued n s) n .nop w) ∧ AccTakes (scIssued n s) v n d sat uns t ∧
      AccTakes v w n d' sat uns t' :=
  ⟨_, _, scMacCmd_issued hs hop, accTakes_accPut _ n hd sat uns t, hexec ▸ accTakes_accPut _ n hd' sat uns t'⟩

/-- An operation of the MAC slot that writes accumulator `d` alone. -/
theorem accSlot_sets {s : State} {n d : Nat} {op : MacOp} {x : Acc} (hs : ScIssues s n) (hd : d < 4) (hop : op ≠ .bad)
    (hexec : macExec (scIssued n s) n op (scIssued n s) = saset n d x (scIssued n s)) :
    ∃ w, scMacCmd n (macField 0 op) 0 0 s = .next (scSeq (scIssued n s) n .nop w) ∧
      (∀ j < 4, w.saget n j = if j = d then x else (scIssued n s).saget n j) ∧
      w.sc.get n = { (scIssued n s).sc.get n with acc := (w.sc.get n).acc } ∧ OnlySc (scIssued n s) w n [] :=
  ⟨_, scMacCmd_issued hs hop, hexec ▸ ⟨fun _ hj => saget_saset _ n x hd hj, saset_onlySc _ n d x⟩⟩

/-! ### Operations on V registers (R379, R380) -/

/-- Writes a 24-bit result with the flag of one that left its range. -/
def vPut (u : State) (n rd : Nat) (f : Field) (sat uns : Bool) (t : Int) : State :=
  svset u n rd (brought 24 sat uns t) (if leaves 24 uns t then u.setBit f n else u)

theorem vTakes_vPut (u : State) (n : Nat) {rd : Nat} (hrd : rd < 32) {f : Field} (hf : f = F.S_SFLAGS_OV24 ∨ f = F.S_SFLAGS_OVX)
    (sat uns : Bool) (t : Int) :
    VTakes u (vPut u n rd f sat uns t) n rd (brought 24 sat uns t) [(f, n)] ∧
      (vPut u n rd f sat uns t).fld f n = if leaves 24 uns t then 1 else u.fld f n := by
  have hbit : OnlyRegs u (if leaves 24 uns t then u.setBit f n else u) [(f, n)] := by
    split
    · exact ⟨rfl, fldSame_setFld _ _ _ _ _ List.mem_cons_self⟩
    · exact ⟨rfl, FldSame.refl _ _⟩
  refine ⟨vTakes_svset hrd hbit ?_ ?_ _, ?_⟩
  · obtain rfl | rfl := hf <;> simp <;> decide
  · obtain rfl | rfl := hf <;> simp <;> decide
  · have hone : 1 % 2 ^ f.w = 1 := by obtain rfl | rfl := hf <;> rfl
    unfold vPut svset
    rw [fld_updSc]
    split
    · rw [setBit_eq, fld_setFld_same, hone]
    · rfl

/-- The second operand of a 24-bit operation: a V register, or the immediate of SHLI, SHRI and SRAI. -/
def aluOperand (u : State) (n op b : Nat) : SWord := if 0x1D ≤ op ∧ op ≤ 0x1F then BitVec.ofNat 24 b else u.svget n b

theorem macExec_alu (u : State) (n op a b rd : Nat) (sat : Bool) :
    macExec u n (.alu op a b rd sat) u =
      vPut u n rd F.S_SFLAGS_OV24 (sat || op == 0x20) false (aluExact op (u.svget n a) (aluOperand u n op b)) := by
  simp only [macExec, macAlu, fitRange_eq, vPut, aluOperand, BitVec.ofNat_toNat, BitVec.setWidth_eq, Bool.not_true] <;> rfl

theorem macExec_ext (u : State) (n src rd shift rnd : Nat) (sat uns : Bool) :
    macExec u n (.ext src rd shift rnd sat uns) u =
      vPut u n rd F.S_SFLAGS_OVX sat uns (roundShift rnd (min 32 shift) (aVal u n src uns)) := by
  simp only [macExec, macExt, fitRange_eq, vPut, aInt_eq_aVal, BitVec.ofNat_toNat, BitVec.setWidth_eq, Bool.not_not]

/-- A 24-bit operation that may leave the range. -/
theorem aluSlot_takes {s : State} {n op a b rd : Nat} {sat st : Bool} {z : Int} (hs : ScIssues s n) (hrd : rd < 32) (hst : (sat || op == 0x20) = st)
    (hz : aluExact op ((scIssued n s).svget n a) (aluOperand (scIssued n s) n op b) = z) :
    ∃ w, scMacCmd n (macField 0 (.alu op a b rd sat)) 0 0 s = .next (scSeq (scIssued n s) n .nop w) ∧
      VTakes (scIssued n s) w n rd (brought 24 st false z) [(F.S_SFLAGS_OV24, n)] ∧
      w.fld F.S_SFLAGS_OV24 n = if leaves 24 false z then 1 else (scIssued n s).fld F.S_SFLAGS_OV24 n := by
  refine ⟨_, scMacCmd_issued hs (by simp), ?_⟩
  rw [macExec_alu, hst, hz]
  exact vTakes_vPut _ n hrd (.inl rfl) st false z

/-- A 24-bit operation whose result always fits. -/
theorem aluSlot_fits {s : State} {n op a b rd : Nat} {x : SWord} (hs : ScIssues s n) (hrd : rd < 32)
    (hx : aluExact op ((scIssued n s).svget n a) (aluOperand (scIssued n s) n op b) = x.toInt) :
    ∃ w, scMacCmd n (macField 0 (.alu op a b rd false)) 0 0 s = .next (scSeq (scIssued n s) n .nop w) ∧ VTakes (scIssued n s) w n rd x [] := by
  refine ⟨_, scMacCmd_issued hs (by simp), ?_⟩
  rw [macExec_alu, hx, vPut, brought_toInt, leaves_toInt]
  exact vTakes_svset hrd ⟨rfl, FldSame.refl _ _⟩ (by simp) (by simp) x

/-- EXT brings the rounded accumulator to 24 bits, with its flag. -/
theorem extSlot_takes {s : State} {n src rd sh rnd : Nat} {sat uns : Bool} {z : Int} (hs : ScIssues s n) (hrd : rd < 32) (hsh : sh < 64)
    (hrnd : rnd < 3) (hz : roundShift rnd (min 32 sh) (aVal (scIssued n s) n src uns) = z) :
    ∃ w, exec (.scExt n src rd sh rnd sat uns 0 0 0) s = .next (scSeq (scIssued n s) n .nop w) ∧
      VTakes (scIssued n s) w n rd (brought 24 sat uns z) [(F.S_SFLAGS_OVX, n)] ∧
      w.fld F.S_SFLAGS_OVX n = if leaves 24 uns z then 1 else (scIssued n s).fld F.S_SFLAGS_OVX n := by
  have hext : exec (.scExt n src rd sh rnd sat uns 0 0 0) s = scMacCmd n (macField 0 (.ext src rd sh rnd sat uns)) 0 0 s := by
    show scMacCmd n (macField 0 (if rnd % 4 = 3 then .bad else .ext src rd (sh % 64) (rnd % 4) sat uns)) 0 0 s = _
    rw [Nat.mod_eq_of_lt hsh, Nat.mod_eq_of_lt (by omega : rnd < 4), if_neg (by omega)]
  rw [hext]
  refine ⟨_, scMacCmd_issued hs (by simp), ?_⟩
  rw [macExec_ext, hz]
  exact vTakes_vPut _ n hrd (.inr rfl) sat uns z

theorem natAbs_eq_ite (x : Int) : (if x < 0 then -x else x) = (x.natAbs : Int) := by
  split_ifs <;> omega

/-- The amount of an immediate shift. -/
theorem toNat_aluOperand_imm (u : State) (n : Nat) {op k : Nat} (hop : 0x1D ≤ op ∧ op ≤ 0x1F) (hk : k < 32) :
    (aluOperand u n op (k % 32)).toNat = k := by
  rw [aluOperand, if_pos hop, BitVec.toNat_ofNat]
  omega

/-- An arithmetic shift right by 24 or more leaves the sign. -/
theorem toInt_sshiftRight_split (x : SWord) (k : Nat) :
    (x.sshiftRight k).toInt = if 24 ≤ k then (if x.toInt < 0 then -1 else 0) else x.toInt / 2 ^ k := by
  have hlo := BitVec.le_toInt x
  have hhi := BitVec.toInt_lt (x := x)
  rw [BitVec.toInt_sshiftRight, Int.shiftRight_eq_div_pow]
  by_cases h : 24 ≤ k
  · have hpow : (2 : Int) ^ 24 ≤ 2 ^ k := pow_le_pow_right₀ (by decide) h
    rw [if_pos h]
    split_ifs with hneg
    · rw [Int.ediv_eq_iff_of_pos (by positivity)]
      push_cast
      omega
    · exact Int.ediv_eq_zero_of_lt (by omega) (by push_cast; omega)
  · simp [h]

/-- An accumulator shifted right arithmetically is divided, rounding down. -/
theorem ofInt_toInt_div (x : Acc) (k : Nat) : BitVec.ofInt 56 (x.toInt / 2 ^ k) = x.sshiftRight k := by
  have hdiv : x.toInt / 2 ^ k = (x.sshiftRight k).toInt := by
    rw [BitVec.toInt_sshiftRight, Int.shiftRight_eq_div_pow]
    norm_cast
  rw [hdiv, BitVec.ofInt_toInt]

/-- Settles O13: a bundle with empty move slots has the effect of its MAC slot alone (`scMacCmd_issued`); a result in an accumulator is
`accTakes_accPut`, one in a V register `vTakes_vPut`, for the exact value that each operation's row gives. -/
theorem signalArithmeticForms : Obligations.SignalArithmeticForms := by
  unfold Obligations.SignalArithmeticForms
  refine ⟨?_, ?_⟩
  · intro s n d a b k sat uns hs hd ha hb hk u m m' c x
    have hd' : d ^^^ 1 < 4 := by interval_cases d <;> decide
    refine ⟨fun i r h => ?_, fun i r r' h => ?_, ?_, ?_, ?_⟩
    · simp only [List.mem_cons, List.not_mem_nil, or_false, Prod.mk.injEq] at h
      rcases h with ⟨rfl, rfl⟩ | ⟨rfl, rfl⟩ | ⟨rfl, rfl⟩ | ⟨rfl, rfl⟩ | ⟨rfl, rfl⟩ | ⟨rfl, rfl⟩ | ⟨rfl, rfl⟩ | ⟨rfl, rfl⟩
      all_goals
        refine accSlot_takes hs hd (by simp) ?_
        simp only [macExec, macMul, sInt_eq_sVal, aInt_eq_aVal, if_true, Bool.false_eq_true, if_false]
        rfl
    · simp only [List.mem_cons, List.not_mem_nil, or_false, Prod.mk.injEq] at h
      rcases h with ⟨rfl, rfl, rfl⟩ | ⟨rfl, rfl, rfl⟩
      all_goals
        refine accSlot_takes_pair hs hd hd' (by simp) ?_
        simp only [macExec, macMul, sInt_eq_sVal, aInt_eq_aVal]
        rfl
    · exact accSlot_sets hs hd (by simp) (by rw [macExec, sInt_eq_sVal, Nat.mod_mod])
    · refine accSlot_sets hs hd (by simp) ?_
      rw [macExec, Nat.mod_eq_of_lt hk, ofInt_toInt_div]
    · exact accSlot_sets hs hd (by simp) rfl
  · intro s n a b rd k sh rnd src sat uns hs ha hb hrd hk hsh hrnd hsrc u A B x y v e q r rounded m mr fm
    refine ⟨fun i st z h => ?_, fun i z h => ?_, ?_, scMacCmd_issued hs (by simp)⟩
    · simp only [List.mem_cons, List.not_mem_nil, or_false, Prod.mk.injEq] at h
      rcases h with ⟨rfl, rfl, rfl⟩ | ⟨rfl, rfl, rfl⟩ | ⟨rfl, rfl, rfl⟩ | ⟨rfl, rfl, rfl⟩ | ⟨rfl, rfl, rfl⟩ | ⟨rfl, rfl, rfl⟩ | ⟨rfl, rfl, rfl⟩
      · exact aluSlot_takes hs hrd (by simp) rfl
      · exact aluSlot_takes hs hrd (by simp) rfl
      · exact aluSlot_takes hs hrd (by simp) rfl
      · exact aluSlot_takes hs hrd (by simp) (natAbs_eq_ite x)
      · exact aluSlot_takes hs hrd (by simp) rfl
      · refine aluSlot_takes hs hrd (by simp) ?_
        simp only [aluExact, toNat_aluOperand_imm _ n (by decide : 0x1D ≤ 0x1D ∧ 0x1D ≤ 0x1F) hk]
        rfl
      · exact aluSlot_takes hs hrd (by simp) (roundShift_eq 2 23 _)
    · simp only [List.mem_cons, List.not_mem_nil, or_false, Prod.mk.injEq] at h
      rcases h with ⟨rfl, rfl⟩ | ⟨rfl, rfl⟩ | ⟨rfl, rfl⟩ | ⟨rfl, rfl⟩ | ⟨rfl, rfl⟩ | ⟨rfl, rfl⟩ | ⟨rfl, rfl⟩ | ⟨rfl, rfl⟩ | ⟨rfl, rfl⟩
      · exact aluSlot_fits hs hrd (apply_ite BitVec.toInt _ _ _).symm
      · exact aluSlot_fits hs hrd (apply_ite BitVec.toInt _ _ _).symm
      · exact aluSlot_fits hs hrd rfl
      · exact aluSlot_fits hs hrd rfl
      · exact aluSlot_fits hs hrd rfl
      · exact aluSlot_fits hs hrd rfl
      · refine aluSlot_fits hs hrd ?_
        simp only [aluExact, toNat_aluOperand_imm _ n (by decide : 0x1D ≤ 0x1E ∧ 0x1E ≤ 0x1F) hk]
        rfl
      · exact aluSlot_fits hs hrd (toInt_sshiftRight_split _ _).symm
      · refine aluSlot_fits hs hrd ?_
        simp only [aluExact, toNat_aluOperand_imm _ n (by decide : 0x1D ≤ 0x1F ∧ 0x1F ≤ 0x1F) hk]
        exact (toInt_sshiftRight_split _ _).symm
    · exact extSlot_takes hs hrd hsh hrnd (roundShift_eq rnd e v)

end Sys2Proof.Machine
end

section
/-!
SUPPORT. An edge of an arithmetic slice (family 05): what it may write, and its result for the operations that compute T (R139 to
R143, R146, R149).
-/
namespace Sys2Proof.Machine
open Claims

/-! ### Sticky bits -/

/-- Sets bit `k` of a field of sticky bits where `c` holds. -/
def flagIf (f : Field) (b k : Nat) (c : Bool) (s : State) : State := if c then s.setFlag f b 0 k else s

theorem flagIf_proj {β : Type} (g : State → β) (h : ∀ (s : State) r, g { s with regs := r } = g s) (f : Field) (b k : Nat) (c : Bool) (s : State) :
    g (flagIf f b k c s) = g s := by
  cases c
  · rfl
  · exact h s _

theorem fldSame_flagIf (f : Field) (b k : Nat) (c : Bool) (s : State) : FldSame s (flagIf f b k c s) [(f, b)] := by
  cases c
  · exact FldSame.refl _ _
  · exact fldSame_setFld _ _ _ _ _ List.mem_cons_self

theorem bitOf_flagIf (f : Field) (b k : Nat) (c : Bool) (s : State) {i : Nat} (hi : i < f.w) :
    bitOf ((flagIf f b k c s).fld f b) i = (bitOf (s.fld f b) i || (i == k && c)) := by
  cases c
  · simp [flagIf]
  · rw [flagIf, if_pos rfl, bitOf_setFlag _ _ _ _ _ _ _ hi]
    by_cases e : i = k <;> simp [e]

/-! ### What an edge writes -/

/-- A slice takes a value and sets its sticky bits. -/
def sliceTakes (b k : Nat) (v : Slice) (ovf yov : Bool) (s : State) : State :=
  flagIf F.BAY_SLICE_FLAG_YOV b k yov (flagIf F.BAY_SLICE_FLAG_OVF b k ovf { s with slices := s.slices.set (b * 32 + k) v })

/-- The fields of the sticky bits of a bay's slices. -/
def sliceFlagFs (b : Nat) : List (Field × Nat) := [(F.BAY_SLICE_FLAG_OVF, b), (F.BAY_SLICE_FLAG_YOV, b)]

/-- The sticky bits of slice `i` of a bay, OVF and YOV. -/
def sliceFlags (s : State) (b i : Nat) : Bool × Bool := (bitOf (s.fld F.BAY_SLICE_FLAG_OVF b) i, bitOf (s.fld F.BAY_SLICE_FLAG_YOV b) i)

section
variable (b k : Nat) (v : Slice) (ovf yov : Bool) (s : State)

theorem sliceTakes_proj {β : Type} (g : State → β) (h : ∀ (s : State) r x, g { s with regs := r, slices := x } = g s) :
    g (sliceTakes b k v ovf yov s) = g s := by
  unfold sliceTakes
  rw [flagIf_proj g (fun s r => h s r s.slices), flagIf_proj g (fun s r => h s r s.slices)]
  exact h s s.regs _

theorem slices_sliceTakes : (sliceTakes b k v ovf yov s).slices = s.slices.set (b * 32 + k) v := by
  cases ovf <;> cases yov <;> rfl

theorem fldSame_sliceTakes : FldSame s (sliceTakes b k v ovf yov s) (sliceFlagFs b) := by
  have hslices : FldSame s { s with slices := s.slices.set (b * 32 + k) v } (sliceFlagFs b) := fldSame_of_regs rfl _
  unfold sliceTakes
  exact (hslices.trans ((fldSame_flagIf _ b k ovf _).mono (by simp [sliceFlagFs]))).trans
    ((fldSame_flagIf _ b k yov _).mono (by simp [sliceFlagFs]))

theorem sliceFlags_sliceTakes {i : Nat} (hi : i < 32) :
    sliceFlags (sliceTakes b k v ovf yov s) b i = ((sliceFlags s b i).1 || (i == k && ovf), (sliceFlags s b i).2 || (i == k && yov)) := by
  have hwO : i < F.BAY_SLICE_FLAG_OVF.w := hi
  have hwY : i < F.BAY_SLICE_FLAG_YOV.w := hi
  have hO (t : State) : (flagIf F.BAY_SLICE_FLAG_YOV b k yov t).fld F.BAY_SLICE_FLAG_OVF b = t.fld F.BAY_SLICE_FLAG_OVF b :=
    (fldSame_flagIf _ b k yov t).fld_id (by simp; decide) b 0
  have hY (t : State) : (flagIf F.BAY_SLICE_FLAG_OVF b k ovf t).fld F.BAY_SLICE_FLAG_YOV b = t.fld F.BAY_SLICE_FLAG_YOV b :=
    (fldSame_flagIf _ b k ovf t).fld_id (by simp; decide) b 0
  simp only [sliceFlags, sliceTakes, bitOf_flagIf _ _ _ _ _ hwY, hO, bitOf_flagIf _ _ _ _ _ hwO, hY]
  rfl

end

/-! ### An edge -/

/-- An edge gives its slice one value and its sticky bits, all from the state before the edge alone (R149). -/
theorem slcEdge_takes (s0 : State) (b k : Nat) (x : SliceIn) : ∃ v ovf yov, ∀ s, slcEdge s0 b k x s = sliceTakes b k v ovf yov s := by
  obtain ⟨o, rest, hq⟩ : ∃ o rest, (s0.slices.get (b * 32 + k)).pipe ++ [slcSample s0 b k x] = o :: rest :=
    List.exists_cons_of_ne_nil (by simp)
  unfold slcEdge
  simp only [hq]
  by_cases h : (o :: rest).length ≤ slcDepth s0 b k
  · simp only [if_pos h]
    exact ⟨_, false, false, fun _ => rfl⟩
  · simp only [if_neg h]
    exact ⟨_, _, _, fun _ => rfl⟩

/-! ### The operation that an edge samples (R140, R141) -/

/-- The pre-adder's sum before it saturates. -/
def slcRaw (s : State) (b k : Nat) (x : SliceIn) : Int :=
  let sgn := slcCfg s b k 9 1 == 1
  if slcPre s b k = 1 then asInt sgn 24 x.a + asInt sgn 24 x.d
  else if slcPre s b k = 2 then asInt sgn 24 x.a - asInt sgn 24 x.d else asInt sgn 24 x.a

/-- The pre-adder's sum, saturated. -/
def slcX (s : State) (b k : Nat) (x : SliceIn) : Int :=
  let sgn := slcCfg s b k 9 1 == 1
  max (rangeLo sgn 24) (min (rangeHi sgn 24) (slcRaw s b k x))

/-- The multiplier's other operand: the selected coefficient of the active bank, or B. -/
def slcK (s : State) (b k : Nat) (x : SliceIn) : Int :=
  asInt (slcCfg s b k 10 1 == 1) 24
    (if slcCfg s b k 11 1 = 1 then
      (s.slices.get (b * 32 + k)).coef.get (ofBool (bitOf (s.fld F.BAY_COEF_ACT_ACT b) k) * 16 + x.caddr % 16) else x.b)

/-- The operation code that an edge samples. -/
def slcOp (s : State) (b k : Nat) (x : SliceIn) : Nat := if slcCfg s b k 13 1 = 1 then x.opIn % 16 else slcCfg s b k 14 4

theorem rangeLo_le_rangeHi (sgn : Bool) (w : Nat) : rangeLo sgn w ≤ rangeHi sgn w := by
  have hw : 1 ≤ 2 ^ w := Nat.one_le_two_pow
  have hhalf : 1 ≤ 2 ^ (w - 1) := Nat.one_le_two_pow
  cases sgn <;> simp only [rangeLo, rangeHi, if_true, Bool.false_eq_true, if_false] <;> omega

/-- A sum that is stopped at the bounds of its range, and whether it was. -/
theorem clamp_eq {lo hi : Int} (h : lo ≤ hi) (v : Int) :
    (if v < lo then (lo, true) else if hi < v then (hi, true) else (v, false)) = (max lo (min hi v), decide (v ≠ max lo (min hi v))) := by
  split_ifs with hlo hhi
  · have hmax : max lo (min hi v) = lo := by omega
    simp [hmax, hlo.ne]
  · have hmax : max lo (min hi v) = hi := by omega
    simp [hmax, hhi.ne']
  · have hmax : max lo (min hi v) = v := by omega
    simp [hmax]

theorem preAdd_slcRaw (s : State) (b k : Nat) (x : SliceIn) :
    preAdd (slcPre s b k) (slcCfg s b k 9 1 == 1) x.a x.d = (slcX s b k x, decide (slcRaw s b k x ≠ slcX s b k x)) := by
  have hclamp := clamp_eq (rangeLo_le_rangeHi (slcCfg s b k 9 1 == 1) 24)
  unfold slcX slcRaw preAdd
  generalize slcPre s b k = pre
  match pre with
  | 0 => exact hclamp _
  | 1 => exact hclamp _
  | 2 => exact hclamp _
  | pre + 3 => exact hclamp _

theorem slcSample_eq (s : State) (b k : Nat) (x : SliceIn) :
    slcSample s b k x = { m := slcX s b k x * slcK s b k x, preOv := decide (slcRaw s b k x ≠ slcX s b k x), c := x.c % 2 ^ 56,
                          op := orZero 10 (slcOp s b k x), first := x.first } := by
  simp only [slcSample, preAdd_slcRaw]
  rfl

/-! ### The accumulator and Y (R142, R143, R146) -/

/-- The selected Z. -/
def slcZ (s : State) (b k cas : Nat) (v : Slice) (o : SliceOp) : Int :=
  let sgn := slcCfg s b k 12 1 == 1
  if o.first then 0 else match slcZsel s b k with
    | 0 => asInt sgn 56 v.acc
    | 1 => asInt sgn 56 cas
    | 2 => asInt sgn 56 o.c
    | _ => 0

/-- The exact results of operations 1 to 5. -/
def slcExact (s : State) (b k cas : Nat) (v : Slice) (o : SliceOp) : List (Nat × Int) :=
  let z := slcZ s b k cas v o
  let c := asInt (slcCfg s b k 12 1 == 1) 56 o.c
  [(1, o.m), (2, z + o.m), (3, z - o.m), (4, z + c), (5, z - c)]

/-- The accumulator takes T brought to 56 bits, and OVF says that T left the range. -/
theorem slcAccumulate_exact {s : State} {b k cas : Nat} {v : Slice} {o : SliceOp} {T : Int} (hT : (o.op, T) ∈ slcExact s b k cas v o) :
    slcAccumulate s b k cas v o = { v with acc := (brought 56 (slcCfg s b k 20 1 == 1) (!(slcCfg s b k 12 1 == 1)) T).toNat,
                                           ovf := leaves 56 (!(slcCfg s b k 12 1 == 1)) T } := by
  simp only [slcExact, List.mem_cons, List.not_mem_nil, or_false, Prod.mk.injEq] at hT
  rcases hT with ⟨hop, rfl⟩ | ⟨hop, rfl⟩ | ⟨hop, rfl⟩ | ⟨hop, rfl⟩ | ⟨hop, rfl⟩
  all_goals
    simp only [slcAccumulate, hop, fitRange_eq] <;> rfl

/-- Y is the accumulator shifted by SHIFT, truncated or rounded half up, and brought to 24 bits. -/
theorem slcY_rounded {s : State} {b k acc : Nat} {r : Int}
    (hr : orZero 3 (slcCfg s b k 22 2) = 0 ∧ r = asInt (slcCfg s b k 12 1 == 1) 56 acc / 2 ^ slcShift s b k ∨
      orZero 3 (slcCfg s b k 22 2) = 1 ∧ slcShift s b k ≠ 0 ∧
        r = (asInt (slcCfg s b k 12 1 == 1) 56 acc + 2 ^ (slcShift s b k - 1)) / 2 ^ slcShift s b k) :
    slcY s b k acc = ((brought 24 (slcCfg s b k 21 1 == 1) (!(slcCfg s b k 12 1 == 1)) r).toNat, leaves 24 (!(slcCfg s b k 12 1 == 1)) r) := by
  have hround : roundShift (orZero 3 (slcCfg s b k 22 2)) (slcShift s b k) (asInt (slcCfg s b k 12 1 == 1) 56 acc) = r := by
    obtain ⟨hmode, rfl⟩ | ⟨hmode, hsh, rfl⟩ := hr
    · rw [hmode, roundShift_trunc]
    · rw [hmode, roundShift_halfUp hsh]
  simp only [slcY, hround, fitRange_eq]

/-! ### An edge without pipeline registers -/

/-- The slice has no pipeline register, and no operation is in flight. -/
def SlicePlain (s : State) (b k : Nat) : Prop :=
  slcCfg s b k 3 1 = 0 ∧ slcCfg s b k 4 1 = 0 ∧ slcCfg s b k 5 1 = 0 ∧ slcCfg s b k 6 1 = 0 ∧ (s.slices.get (b * 32 + k)).pipe = []

/-- The cascade input: the accumulator of the slice below before the edge. -/
def slcCas (s : State) (b k : Nat) : Nat := if k = 0 then 0 else (s.slices.get (b * 32 + k - 1)).acc

/-- What such a slice holds after an edge. -/
def slicePlainNext (s : State) (b k : Nat) (x : SliceIn) : Slice :=
  let o := slcSample s b k x
  let a := slcAccumulate s b k (slcCas s b k) (s.slices.get (b * 32 + k)) o
  let y := slcY s b k a.acc
  { a with preOv := o.preOv, pipe := [], y := y.1, yov := y.2, yNext := y }

theorem slcEdge_plain {s0 : State} {b k : Nat} {x : SliceIn} (hplain : SlicePlain s0 b k) (hheld : s0.bit F.BAY_STATUS_WE_HELD b = false)
    (hop : (slcSample s0 b k x).op ≠ 0) (s : State) :
    slcEdge s0 b k x s = sliceTakes b k (slicePlainNext s0 b k x) (slicePlainNext s0 b k x).ovf (slicePlainNext s0 b k x).yov s := by
  obtain ⟨hin, had, hm, hy, hpipe⟩ := hplain
  have hdepth : slcDepth s0 b k = 0 := by simp [slcDepth, hin, had, hm]
  have hfull : ¬[slcSample s0 b k x].length ≤ slcDepth s0 b k := by simp [hdepth]
  unfold slcEdge
  simp only [hpipe, List.nil_append, if_neg hfull, hy, hheld, decide_eq_false hop, bne, beq_eq_false_iff_ne.2 hop, Bool.not_false, Bool.true_and,
    Bool.or_false, Bool.false_eq_true, if_false]
  rfl

/-- The accumulator and its flags after the edge, for an operation that computes T. -/
theorem slicePlainNext_exact {s : State} {b k : Nat} {x : SliceIn} {T : Int}
    (hT : ((slcSample s b k x).op, T) ∈ slcExact s b k (slcCas s b k) (s.slices.get (b * 32 + k)) (slcSample s b k x)) :
    let v := slicePlainNext s b k x
    v.acc = (brought 56 (slcCfg s b k 20 1 == 1) (!(slcCfg s b k 12 1 == 1)) T).toNat ∧ v.ovf = leaves 56 (!(slcCfg s b k 12 1 == 1)) T ∧
      v.preOv = decide (slcRaw s b k x ≠ slcX s b k x) ∧ v.coef = (s.slices.get (b * 32 + k)).coef := by
  have hacc := slcAccumulate_exact hT
  exact ⟨congrArg Slice.acc hacc, congrArg Slice.ovf hacc, congrArg SliceOp.preOv (slcSample_eq s b k x),
    (congrArg Slice.coef hacc :)⟩

/-- Y after the edge. -/
theorem slicePlainNext_y {s : State} {b k : Nat} {x : SliceIn} {r : Int}
    (hr : orZero 3 (slcCfg s b k 22 2) = 0 ∧ r = asInt (slcCfg s b k 12 1 == 1) 56 (slicePlainNext s b k x).acc / 2 ^ slcShift s b k ∨
      orZero 3 (slcCfg s b k 22 2) = 1 ∧ slcShift s b k ≠ 0 ∧
        r = (asInt (slcCfg s b k 12 1 == 1) 56 (slicePlainNext s b k x).acc + 2 ^ (slcShift s b k - 1)) / 2 ^ slcShift s b k) :
    let v := slicePlainNext s b k x
    v.y = (brought 24 (slcCfg s b k 21 1 == 1) (!(slcCfg s b k 12 1 == 1)) r).toNat ∧ v.yov = leaves 24 (!(slcCfg s b k 12 1 == 1)) r := by
  have hy := slcY_rounded hr
  exact ⟨congrArg Prod.fst hy, congrArg Prod.snd hy⟩

end Sys2Proof.Machine
end

section
/-!
SUPPORT. The slices of a bay on one clock input, coefficient writes and swap requests (family 05), and the forms of the slices
assembled.
-/
namespace Sys2Proof.Machine
open Claims

/-! ### The slices of an edge (R139, R149) -/

/-- What the edge of clock input `k` does to slice `i`, from the state `s0` before it. -/
def sliceStep (s0 : State) (b k : Nat) (xs : List SliceIn) (i : Nat) (s : State) : State :=
  if slcClk s0 b i = k && (xs.getD i {}).ce then slcShow b i (slcEdge s0 b i (xs.getD i {}) s) else s

theorem exec_sliceOperation {s : State} {b k : Nat} (hb : b < 768) (hk : k < 8) (hclk : bayClk s b k = true) (howed : edgeOwed s b k = false)
    (hheld : s.fld F.BAY_STATUS_RST_HELD b ≠ 1) (xs : List SliceIn) :
    exec (.sliceOperation b k xs) s = .next (forN 32 (sliceStep s b k xs) s) := by
  have hrst : s.bit F.BAY_STATUS_RST_HELD b = false := beq_eq_false_iff_ne.2 hheld
  show execSliceOperation b k xs s = _
  simp only [execSliceOperation, hb, hk, hclk, hrst, bayFirstEdge_not_owed howed, decide_true, Bool.not_false, Bool.and_true, if_true]
  rfl

theorem exec_sliceOperation_stopped {s : State} {b k : Nat} (hclk : bayClk s b k = false) (xs : List SliceIn) :
    exec (.sliceOperation b k xs) s = .next s := by
  show execSliceOperation b k xs s = _
  simp [execSliceOperation, hclk]

section
variable {s0 : State} {b k : Nat} {xs : List SliceIn}

theorem sliceStep_idle {i : Nat} (h : ¬(slcClk s0 b i = k ∧ (xs.getD i {}).ce = true)) (s : State) : sliceStep s0 b k xs i s = s := by
  rw [sliceStep, if_neg (by simpa using h)]

theorem sliceStep_taken {i : Nat} (hclk : slcClk s0 b i = k) (hce : (xs.getD i {}).ce = true) (s : State) :
    sliceStep s0 b k xs i s = slcShow b i (slcEdge s0 b i (xs.getD i {}) s) := by
  rw [sliceStep, if_pos (by simp only [hce, hclk, decide_true, Bool.and_true])]

/-- A slice that the edge reaches takes a value and shows it; another one keeps everything. -/
theorem sliceStep_cases (s0 : State) (b k : Nat) (xs : List SliceIn) (i : Nat) :
    (∀ s, sliceStep s0 b k xs i s = s) ∨
      (slcClk s0 b i = k ∧ (xs.getD i {}).ce = true) ∧ ∃ v ovf yov, ∀ s, sliceStep s0 b k xs i s = slcShow b i (sliceTakes b i v ovf yov s) := by
  by_cases h : slcClk s0 b i = k ∧ (xs.getD i {}).ce = true
  · obtain ⟨v, ovf, yov, hv⟩ := slcEdge_takes s0 b i (xs.getD i {})
    exact .inr ⟨h, v, ovf, yov, fun s => by rw [sliceStep_taken h.1 h.2, hv]⟩
  · exact .inl (sliceStep_idle h)

theorem sliceStep_proj {β : Type} (g : State → β) (h : ∀ (s : State) r x o, g { s with regs := r, slices := x, out := o } = g s) (i : Nat) (s : State) :
    g (sliceStep s0 b k xs i s) = g s := by
  obtain hidle | ⟨-, v, ovf, yov, hv⟩ := sliceStep_cases s0 b k xs i
  · rw [hidle]
  · rw [hv]
    exact (h _ _ _ _).trans (sliceTakes_proj b i v ovf yov s g (fun s r x => h s r x s.out))

theorem fldSame_sliceStep (i : Nat) (s : State) : FldSame s (sliceStep s0 b k xs i s) (sliceFlagFs b) := by
  obtain hidle | ⟨-, v, ovf, yov, hv⟩ := sliceStep_cases s0 b k xs i
  · rw [hidle]
    exact FldSame.refl _ _
  · rw [hv]
    exact fldSame_sliceTakes b i v ovf yov s

theorem slices_sliceStep_ne {i j : Nat} (hj : slcClk s0 b i = k → (xs.getD i {}).ce = true → j ≠ b * 32 + i) (s : State) :
    (sliceStep s0 b k xs i s).slices.get j = s.slices.get j := by
  obtain hidle | ⟨⟨hclk, hce⟩, v, ovf, yov, hv⟩ := sliceStep_cases s0 b k xs i
  · rw [hidle]
  · rw [hv, slcShow, slices_emit, slices_sliceTakes, SMap.get_set_ne _ _ _ _ (hj hclk hce)]

/-- What slice `i` of a bay holds, with its sticky bits. -/
def sliceView (b i : Nat) (s : State) : Slice × Bool × Bool := (s.slices.get (b * 32 + i), sliceFlags s b i)

theorem sliceView_sliceStep_ne {i j : Nat} (hi : i < 32) (h : j ≠ i) (s : State) : sliceView b i (sliceStep s0 b k xs j s) = sliceView b i s := by
  have hslice : (sliceStep s0 b k xs j s).slices.get (b * 32 + i) = s.slices.get (b * 32 + i) := slices_sliceStep_ne (fun _ _ => by omega) s
  refine Prod.ext hslice ?_
  obtain hidle | ⟨-, v, ovf, yov, hv⟩ := sliceStep_cases s0 b k xs j
  · rw [hidle]
  · rw [hv]
    refine (sliceFlags_sliceTakes b j v ovf yov s hi).trans ?_
    simp [sliceView, beq_eq_false_iff_ne.2 h.symm]

/-- After the edge a slice that it reaches holds what its own step gives. -/
theorem sliceView_edge {i : Nat} (hi : i < 32) (hclk : slcClk s0 b i = k) (hce : (xs.getD i {}).ce = true) (hplain : SlicePlain s0 b i)
    (hheld : s0.bit F.BAY_STATUS_WE_HELD b = false) (hop : (slcSample s0 b i (xs.getD i {})).op ≠ 0) :
    let v := slicePlainNext s0 b i (xs.getD i {})
    sliceView b i (forN 32 (sliceStep s0 b k xs) s0) = (v, (sliceFlags s0 b i).1 || v.ovf, (sliceFlags s0 b i).2 || v.yov) := by
  intro v
  obtain ⟨t, -, hview, hfold⟩ := forL_at (fun _ => True) (sliceView b i) (l := List.range 32) (f := sliceStep s0 b k xs) List.nodup_range
    (List.mem_range.2 hi) (fun _ _ _ _ => trivial) (fun j _ hj => sliceView_sliceStep_ne hi hj) (s := s0) trivial
  have hflags : sliceFlags t b i = sliceFlags s0 b i := congrArg Prod.snd hview
  refine hfold.trans ?_
  rw [sliceStep_taken hclk hce, slcEdge_plain hplain hheld hop]
  refine Prod.ext ?_ ?_
  · show (sliceTakes b i _ _ _ t).slices.get (b * 32 + i) = _
    rw [slices_sliceTakes, SMap.get_set_same]
  · refine (sliceFlags_sliceTakes b i _ _ _ t hi).trans ?_
    simp [hflags, v]

end

/-! ### Coefficient writes and swap requests (R150, R152) -/

section
variable {s : State} {b i : Nat} (hb : b < 768) (hi : i < 32)
include hb hi

theorem exec_sliceSwapReq (hclk : bayClk s b (slcClk s b i) = true) : exec (.sliceSwapReq b i) s =
    .next (if s.fld F.BAY_STATUS_WE_HELD b ≠ 1 ∧ slcSwapFabric s b i = true then (bayFirstEdge b (slcClk s b i) s).setFlag F.BAY_COEF_ACT_PEND b 0 i
      else bayFirstEdge b (slcClk s b i) s) := by
  show execSliceSwapReq b i s = _
  simp [execSliceSwapReq, hb, hi, hclk, State.bit]

theorem exec_sliceCoefWrite (hclk : bayClk s b (slcClk s b i) = true) (addr data : Nat) : exec (.sliceCoefWrite b i addr data) s =
    .next (let s1 := bayFirstEdge b (slcClk s b i) s
      if s.fld F.BAY_STATUS_WE_HELD b = 1 then s1
      else { s1 with slices := s1.slices.upd (b * 32 + i) (fun v =>
        { v with coef := v.coef.set (ofBool (!bitOf (s1.fld F.BAY_COEF_ACT_ACT b) i) * 16 + addr % 16) (data % 2 ^ 24) }) }) := by
  show execSliceCoefWrite b i addr data s = _
  simp [execSliceCoefWrite, hb, hi, hclk, State.bit]

end

theorem exec_slice_stopped {s : State} {b i : Nat} (hclk : bayClk s b (slcClk s b i) = false) :
    (∀ addr data, exec (.sliceCoefWrite b i addr data) s = .next s) ∧ exec (.sliceSwapReq b i) s = .next s := by
  refine ⟨fun addr data => ?_, ?_⟩
  · show execSliceCoefWrite b i addr data s = _
    simp [execSliceCoefWrite, hclk]
  · show execSliceSwapReq b i s = _
    simp [execSliceSwapReq, hclk]

/-- Settles O24, slice by slice: an edge gives each slice on its input one value from the state before it (`sliceView_edge`), which without
pipeline registers is T and Y brought to their widths (`slicePlainNext_exact`, `slicePlainNext_y`). That what missed boundaries and holds owe
an input takes effect before a coefficient write or a swap request is the model's choice (log entry 19). -/
theorem sliceForms : Obligations.SliceForms := by
  unfold Obligations.SliceForms
  intro s b k hb
  refine ⟨fun xs _ hclk => exec_sliceOperation_stopped hclk xs, fun xs hk hclk howed hrst hwe => ?_, fun i hi hclk => ?_,
    fun i _ hclk => exec_slice_stopped hclk⟩
  · have hproj {β : Type} (g : State → β) (h : ∀ (s : State) r x o, g { s with regs := r, slices := x, out := o } = g s) :
        g (forN 32 (sliceStep s b k xs) s) = g s := forN_proj g (fun i _ => sliceStep_proj g h i) s
    have hmem : MemSame s (forN 32 (sliceStep s b k xs) s) := fun a =>
      ⟨hproj (·.rdB a) fun _ _ _ _ => rfl, hproj (·.ecc.get a) fun _ _ _ _ => rfl⟩
    have hother : ∀ j, (∀ i < 32, slcClk s b i = k → (xs.getD i {}).ce = true → j ≠ b * 32 + i) →
        (forN 32 (sliceStep s b k xs) s).slices.get j = s.slices.get j :=
      fun j hj => forN_proj (·.slices.get j) (fun i hi => slices_sliceStep_ne (hj i hi)) s
    refine ⟨_, exec_sliceOperation hb hk hclk howed hrst xs, hmem, hproj State.ffs fun _ _ _ _ => rfl,
      fldSame_forL (fun i _ => fldSame_sliceStep i) s, hother, ?_⟩
    intro i hi hik hce x g v v' uns xsg raw X K M C Z op hin had hm hy hpipe o T hT hop
    have hsample : slcSample s b i x = { m := M, preOv := decide (raw ≠ X), c := x.c % 2 ^ 56, op := orZero 10 op, first := x.first } :=
      slcSample_eq s b i x
    have hrange : 1 ≤ o ∧ o ≤ 5 := by
      simp only [List.mem_cons, List.not_mem_nil, or_false, Prod.mk.injEq] at hT
      omega
    have hcode : (slcSample s b i x).op = o := by
      rw [hsample]
      exact (if_pos (by omega)).trans hop
    have hexact : ((slcSample s b i x).op, T) ∈ slcExact s b i (slcCas s b i) v (slcSample s b i x) := by
      rw [hcode, hsample]
      exact hT
    have hview := sliceView_edge hi hik hce ⟨hin, had, hm, hy, hpipe⟩ (beq_eq_false_iff_ne.2 hwe) (by rw [hcode]; omega)
    have hv' : v' = slicePlainNext s b i x := congrArg Prod.fst hview
    have hflagO : bitOf ((forN 32 (sliceStep s b k xs) s).fld F.BAY_SLICE_FLAG_OVF b) i = ((sliceFlags s b i).1 || v'.ovf) :=
      hv' ▸ congrArg (fun y => y.2.1) hview
    have hflagY : bitOf ((forN 32 (sliceStep s b k xs) s).fld F.BAY_SLICE_FLAG_YOV b) i = ((sliceFlags s b i).2 || v'.yov) :=
      hv' ▸ congrArg (fun y => y.2.2) hview
    obtain ⟨hacc, hovf, hpre, hcoef⟩ := hv' ▸ slicePlainNext_exact hexact
    refine ⟨hacc, hovf, hpre, hcoef, fun hleaves => by rw [hflagO, hovf, hleaves, Bool.or_true], fun r hr => ?_⟩
    rw [Bool.not_not, hv'] at hr
    obtain ⟨hy, hyov⟩ := hv' ▸ slicePlainNext_y hr
    exact ⟨hy, hyov, fun hleaves => by rw [hflagY, hyov, hleaves, Bool.or_true]⟩
  · intro s1
    refine ⟨bayFirstEdge_not_owed, fun h => ?_, fun h addr data => ?_, fun hfree => ⟨fun addr data => ?_, fun hfab => ?_⟩⟩
    · rw [exec_sliceSwapReq hb hi hclk, if_neg (by simpa [Classical.or_iff_not_imp_left] using h)]
    · rw [exec_sliceCoefWrite hb hi hclk]
      exact congrArg _ (if_pos h)
    · refine ⟨_, exec_sliceCoefWrite hb hi hclk addr data, ?_⟩
      simp only [if_neg hfree, SMap.upd, SMap.get_set_same]
      exact ⟨rfl, fun j => SMap.get_set _ _ _ _, rfl, fun j hj => SMap.get_set_ne _ _ _ _ hj⟩
    · refine ⟨_, exec_sliceSwapReq hb hi hclk, ?_⟩
      rw [if_pos ⟨hfree, hfab⟩]
      refine ⟨⟨rfl, fldSame_setFld _ _ _ _ _ List.mem_cons_self⟩, fun j hj => ?_⟩
      have hw : j < F.BAY_COEF_ACT_PEND.w := hj
      rw [bitOf_setFlag _ _ _ _ _ _ _ hw]
      by_cases e : j = i <;> simp [e, s1]

end Sys2Proof.Machine
end

section
/-!
SUPPORT. A frame record that names bay number 768: the model stores it as a frame of the selvage, without the masks of R163.
-/
namespace Sys2Proof.Machine

/-! ### A load outside the array -/

/-- Bytes that come without an error. -/
theorem loadTake_of_no_error {n : Nat} {s : State} (h : (loadTake n s).1 = none) : loadTake n s = (none, (loadTake n s).2) := Prod.ext h rfl

/-- An instance of one bay in row 32, one row past the array: its bay has the number of the selvage. -/
def strayInst : Skein := { c := 0, r := 32, w := 1, h := 1 }

/-- The LLOAD of an image at the start of scratchpad bank 0 into that instance. -/
def strayCmd : LCmd :=
  { ticket := 16, desc := List.replicate 16 0 ++ bytesLE 8 (aSpad 0 0) ++ List.replicate 40 0, inst := 1, phase := 1 }

/-- The engine stands in a FRAMES section of a skein image of one bay by one, before a record with a payload of one frame. -/
def strayLoad : LoadSt :=
  { ticket := 16, part := 1, seen := List.replicate 6 0 ++ [2] ++ List.replicate 17 0 ++ [1, 1] ++ List.replicate 294 0, secEnd := 640, sec := 1 }

/-- The header of the record there: kind DATA, column and row 0, one frame from frame 0 on (Table 6.8). -/
def strayRecord : List Byte := [1, 0, 0, 0, 0, 0, 0, 0, 1] ++ List.replicate 55 0

/-- The frame that the record carries: all 0 but the reserved code 0b11 of the first logic cell's DSEL (R62, R163). -/
def strayFrame : List Byte := [0, 0, 6] ++ List.replicate 253 0

/-- That load, with the record and its frame next in memory. -/
def strayState : State :=
  let s := State.reset.setFld F.PWR_BAY_STATE_STATE 0 selvage 2
  { s.wrBytes (aSpad 0 320) (strayRecord ++ strayFrame) with
    cmds := [strayCmd], load := some strayLoad, insts := s.insts.set 1 (some strayInst) }

/-- The header of the record has been consumed. -/
def strayHeader : State := (loadTake 64 strayState).2

/-- Its payload has been consumed. -/
def strayPayload : State := (loadTake 256 strayHeader).2

theorem strayState_consumes : loadInst strayState = some (strayLoad, strayCmd, strayInst) ∧ cfgRuns strayState = true ∧
    regionOn strayState strayInst = true ∧ loadWaits strayState 64 = false ∧ loadTake 64 strayState = (none, strayHeader) := by
  refine ⟨?_, ?_, ?_, ?_, loadTake_of_no_error ?_⟩ <;> decide +kernel

theorem strayHeader_plain :
    loadPlain strayHeader (strayHeader.load.getD strayLoad) strayLoad.pos 64 = strayRecord := by decide +kernel

theorem strayHeader_consumes : loadWaits strayHeader 256 = false ∧ loadTake 256 strayHeader = (none, strayPayload) :=
  ⟨by decide +kernel, loadTake_of_no_error (by decide +kernel)⟩

theorem strayPayload_plain :
    loadPlain strayPayload (strayPayload.load.getD strayLoad) (strayLoad.pos + 64) 256 = strayFrame := by decide +kernel

/-- The record breaks no rule and names frame 0 of a bay. -/
theorem strayRecord_sound : recordBad strayLoad strayRecord (strayLoad.secEnd - strayLoad.pos - 64) = false ∧ fieldLE strayRecord 0 1 = 1 ∧
    fieldLE strayRecord 8 4 = 1 ∧ fieldLE strayRecord 2 2 ≠ 0xFFFF ∧ fieldLE strayRecord 4 4 < 1408 := by
  decide +kernel

/-- The record stores the reserved code. -/
theorem exec_imageRecord_stray : ∃ t, exec .imageRecord strayState = .next t ∧ t.rdB (aFrame selvage 0 2) = 6 :=
  ⟨_, rfl, by decide +kernel⟩

/-- A bay's frame would hold code 0 in its place. -/
theorem frameMasked_strayFrame : (frameMasked 0 strayFrame).getD 2 0 = 0 := by decide +kernel

/-- Refutes O28 in its record clause. The clause names the bay by its row and column in the instance and leaves the instance's place open; for an
instance in row 32, which no load places, the bay has number 768, the selvage's, whose frames the model stores without the masks of
R163: a reserved DSEL code stays, where the clause has it loaded as 0. -/
theorem not_imageForms : ¬ Obligations.ImageForms := by
  unfold Obligations.ImageForms
  intro h
  obtain ⟨hload, hruns, hon, hwaits, htake⟩ := strayState_consumes
  obtain ⟨hwaits', htake'⟩ := strayHeader_consumes
  obtain ⟨hbad, hkind, hcount, hbay, hframe⟩ := strayRecord_sound
  obtain ⟨-, hrecord, -⟩ := (h strayState).2 _ _ _ hload hruns
  have hstored := hrecord strayHeader strayPayload rfl hon (by decide) rfl hwaits htake
  simp only [strayHeader_plain] at hstored
  obtain ⟨t, hexec, hbytes, -⟩ := hstored hbad hkind hcount hbay hframe hwaits' htake'
  obtain ⟨u, hexec', hkept⟩ := exec_imageRecord_stray
  obtain rfl : t = u := by simpa [hexec] using hexec'
  have hmasked : t.rdB (aFrame selvage 0 2) = (frameMasked 0 strayFrame).getD 2 0 := strayPayload_plain ▸ hbytes 2 (by decide +kernel)
  rw [hkept, frameMasked_strayFrame] at hmasked
  exact absurd hmasked (by decide)

end Sys2Proof.Machine
end

section
/-!
SUPPORT. What the instructions of the control cores share: the comparators, the state in which an issued instruction acts, what an
instruction does before it retires, and the trap that a condition takes.
-/
namespace Sys2Proof.Machine
open Claims

/-! ### Comparators (R732 to R735) -/

/-- What counting matches at core `x` may change. -/
def cmpFs (x : Nat) : List (Field × Nat) := irqFs ++ [(F.DCMP_CNT_CNT, x), (F.DSTATUS_HIT, x)]

theorem cmpCount_proj {β : Type} (g : State → β)
    (h : ∀ (s : State) r x w l, g { s with regs := r, cmpLatch := x, irqWin := w, irqHeld := l } = g s) (x : Nat) (ms : List Nat) (s : State) :
    g (cmpCount x ms s).2 = g s := by
  have hset : ∀ f i v (s : State), g (s.setFld f x i v) = g s := fun _ _ _ s => h s _ s.cmpLatch s.irqWin s.irqHeld
  have hflag : ∀ k (s : State), g (s.setFlag F.DSTATUS_HIT x 0 k) = g s := fun _ s => hset _ _ _ s
  have hlatch : ∀ (s : State) l, g { s with cmpLatch := l } = g s := fun s l => h s s.regs l s.irqWin s.irqHeld
  simp only [cmpCount]
  split
  · rw [irqEdge_proj g (fun s r w l => h s r s.cmpLatch w l), hlatch, forL_proj g (fun k _ s => hflag k s), forL_proj g (fun k _ s => hset _ k _ s)]
  · rw [hlatch, forL_proj g (fun k _ s => hflag k s), forL_proj g (fun k _ s => hset _ k _ s)]

theorem fldSame_cmpCount (x : Nat) (ms : List Nat) (s : State) : FldSame s (cmpCount x ms s).2 (cmpFs x) := by
  have hcnt : ∀ v k (s : State), FldSame s (s.setFld F.DCMP_CNT_CNT x k v) (cmpFs x) := fun v k s => fldSame_setFld _ _ _ _ _ (by simp [cmpFs])
  have hhit : ∀ k (s : State), FldSame s (s.setFlag F.DSTATUS_HIT x 0 k) (cmpFs x) := fun k s => fldSame_setFld _ _ _ _ _ (by simp [cmpFs])
  have hfires : ∀ (ms fs : List Nat) (v : Nat → State → Nat), FldSame s (forL fs (fun k s => s.setFlag F.DSTATUS_HIT x 0 k)
      (forL ms (fun k s => s.setFld F.DCMP_CNT_CNT x k (v k s)) s)) (cmpFs x) := fun ms fs v =>
    (fldSame_forL (fun k _ s => hcnt (v k s) k s) s).trans (fldSame_forL (fun k _ s => hhit k s) _)
  simp only [cmpCount]
  split
  · exact (hfires _ _ _).trans ((fldSame_irqEdge _ _).mono (List.subset_append_left _ _))
  · exact hfires _ _ _

section
variable (c a n : Nat) (tw mon ld st : Bool) (s : State)

/-- Observing an access leaves the state, counts matches, or counts them and leaves a debug event at the core. -/
theorem vdataCmp_cases : vdataCmp c tw mon a n ld st s = s ∨ ∃ ms, vdataCmp c tw mon a n ld st s = (cmpCount c ms s).2 ∨
    ∃ d x : VCore → Nat, vdataCmp c tw mon a n ld st s = (cmpCount c ms s).2.updVc c (fun v => { v with dbg := d v, dbgAddr := x v }) := by
  unfold vdataCmp
  simp only
  split
  · exact .inl rfl
  split
  · exact .inl rfl
  refine .inr ⟨cmpData s c a n ld st (s.bit F.PSTATE_TASK c) (some (s.fld F.CTXID c)), ?_⟩
  split
  · next k s1 hk =>
    refine .inr ⟨fun v => if v.dbg = 0 then 0x3000 + k else v.dbg, fun v => if v.dbg = 0 then a else v.dbgAddr, ?_⟩
    rw [hk]
    congr 1
    funext v
    split <;> simp [*]
  · next s1 hk => exact .inl (by rw [hk])

theorem vdataCmp_proj {β : Type} (g : State → β)
    (h : ∀ (s : State) r v x w l, g { s with regs := r, vc := v, cmpLatch := x, irqWin := w, irqHeld := l } = g s) :
    g (vdataCmp c tw mon a n ld st s) = g s := by
  have hcount : ∀ ms, g (cmpCount c ms s).2 = g s := fun ms => cmpCount_proj g (fun s r x w l => h s r s.vc x w l) c ms s
  obtain he | ⟨ms, he | ⟨d, x, he⟩⟩ := vdataCmp_cases c a n tw mon ld st s
  · rw [he]
  · rw [he, hcount]
  · rw [he, ← hcount ms]
    exact h _ _ _ _ _ _

theorem fldSame_vdataCmp : FldSame s (vdataCmp c tw mon a n ld st s) (cmpFs c) := by
  obtain he | ⟨ms, he | ⟨d, x, he⟩⟩ := vdataCmp_cases c a n tw mon ld st s <;> rw [he]
  · exact FldSame.refl _ _
  · exact fldSame_cmpCount c ms s
  · exact fldSame_cmpCount c ms s

/-- Observing an access leaves at the core a debug event alone. -/
theorem vdataCmp_core {β : Type} (p : VCore → β) (h : ∀ (v : VCore) d x, p { v with dbg := d, dbgAddr := x } = p v) :
    p ((vdataCmp c tw mon a n ld st s).vc.get c) = p (s.vc.get c) := by
  have hcount : ∀ ms, (cmpCount c ms s).2.vc = s.vc := fun ms => cmpCount_proj State.vc (fun _ _ _ _ _ => rfl) c ms s
  obtain he | ⟨ms, he | ⟨d, x, he⟩⟩ := vdataCmp_cases c a n tw mon ld st s <;> rw [he]
  · rw [hcount]
  · rw [updVc_vc_same, h, hcount]

end

/-! ### Issue -/

theorem fldSame_issued (c : Nat) (s : State) : FldSame s (issued c s) (cmpFs c) := by
  have hrom : (vleaveRom c s).regs = s.regs := by
    unfold vleaveRom
    split <;> split <;> rfl
  refine (fldSame_of_regs hrom _).trans ?_
  unfold issued vbreak
  simp only
  split
  · exact FldSame.refl _ _
  split
  · exact FldSame.refl _ _
  split
  · next hk => exact (congrArg (fun p : Option Nat × State => FldSame (vleaveRom c s) p.2 (cmpFs c)) hk).mp (fldSame_cmpCount _ _ _)
  · next hk => exact (congrArg (fun p : Option Nat × State => FldSame (vleaveRom c s) p.2 (cmpFs c)) hk).mp (fldSame_cmpCount _ _ _)

section
variable {s : State} {c : Nat} {body : State → State}

theorem vop_issues (hs : Issues s c) : vop c 0 body s = .next (body (issued c s)) := by
  obtain ⟨hready, hfetch, hbreak⟩ := hs
  exact vop_issued hready hfetch hbreak

/-- An instruction with a must-be-zero bit set is ILLEGAL whatever its meaning (R221). -/
theorem vop_illegal {mbz : Nat} (hs : Issues s c) (h : mbz ≠ 0) : vop c mbz body s = .next (villegal c (issued c s)) := by
  rw [← vop_issues (body := villegal c) hs]
  simp [vop, h]

theorem vsup_supervisor (h : s.bit F.PSTATE_TASK c = false) : vsup c body s = body s := by simp [vsup, h]

theorem vsup_task (h : s.bit F.PSTATE_TASK c = true) : vsup c body s = vtrapAt c cPRIV 0 0 0 s := by simp [vsup, h]

end

/-! ### An instruction's own effect -/

@[simp] theorem vpc_setFld (s : State) (f : Field) (u i v c : Nat) : (s.setFld f u i v).vpc c = s.vpc c := rfl

theorem vset_cases (s : State) (c rd : Nat) (v : Word) :
    s.vset c rd v = s ∨ ∃ r : VCore → SMap Word, s.vset c rd v = s.updVc c (fun k => { k with regs := r k }) := by
  unfold State.vset
  split
  · exact .inl rfl
  · exact .inr ⟨_, rfl⟩

@[simp] theorem vpc_vset (s : State) (c rd : Nat) (v : Word) : (s.vset c rd v).vpc c = s.vpc c := by
  obtain he | ⟨r, he⟩ := vset_cases s c rd v <;> rw [he]
  simp [State.vpc]

@[simp] theorem fld_vset (s : State) (c rd : Nat) (v : Word) (g : Field) (u i : Nat) : (s.vset c rd v).fld g u i = s.fld g u i := by
  obtain he | ⟨r, he⟩ := vset_cases s c rd v <;> rw [he]
  rfl

/-- Changes of the register store and the cores, one after the other. -/
theorem frame_trans {s w t : State} (h : w = { s with regs := w.regs, vc := w.vc }) (k : t = { w with regs := t.regs, vc := t.vc }) :
    t = { s with regs := t.regs, vc := t.vc } := k.trans (congrArg (fun x : State => { x with regs := t.regs, vc := t.vc }) h)

/-- `w` differs from `s` in the general registers of core `c`, in what the core waits for, and in the fields `ws` alone: what an instruction
does before it retires. -/
def OnlyCore (s w : State) (c : Nat) (ws : List (Field × Nat)) : Prop :=
  w = { s with regs := w.regs, vc := w.vc } ∧ FldSame s w ws ∧ (∀ k, k ≠ c → w.vc.get k = s.vc.get k) ∧
  w.vc.get c = { s.vc.get c with regs := (w.vc.get c).regs, wait := (w.vc.get c).wait }

section
variable {s w t : State} {c : Nat} {ws : List (Field × Nat)}

theorem OnlyCore.refl (s : State) (c : Nat) (ws : List (Field × Nat)) : OnlyCore s s c ws := ⟨rfl, FldSame.refl _ _, fun _ _ => rfl, rfl⟩

theorem OnlyCore.trans (h : OnlyCore s w c ws) (k : OnlyCore w t c ws) : OnlyCore s t c ws := by
  obtain ⟨hw, hfld, hother, hcore⟩ := h
  obtain ⟨kt, kfld, kother, kcore⟩ := k
  refine ⟨frame_trans hw kt, hfld.trans kfld,
    fun x hx => (kother x hx).trans (hother x hx), kcore.trans (congrArg (fun x : VCore => { x with regs := (t.vc.get c).regs, wait := (t.vc.get c).wait }) hcore)⟩

theorem onlyCore_vset (s : State) (c rd : Nat) (v : Word) (ws : List (Field × Nat)) : OnlyCore s (s.vset c rd v) c ws := by
  obtain he | ⟨r, he⟩ := vset_cases s c rd v <;> rw [he]
  · exact OnlyCore.refl _ _ _
  · exact ⟨rfl, fldSame_of_regs rfl _, fun k hk => updVc_vc_ne _ _ _ _ hk, by simp⟩

theorem onlyCore_wait (s : State) (c : Nat) (x : VWait) (ws : List (Field × Nat)) : OnlyCore s (s.updVc c (fun v => { v with wait := x })) c ws :=
  ⟨rfl, fldSame_of_regs rfl _, fun k hk => updVc_vc_ne _ _ _ _ hk, by simp⟩

theorem onlyCore_of_onlyRegs (h : OnlyRegs s w ws) : OnlyCore s w c ws := by
  obtain ⟨hw, hfld⟩ := h
  have hvc : w.vc = s.vc := by rw [hw]
  refine ⟨?_, hfld, fun k _ => by rw [hvc], by rw [hvc]⟩
  rw [hvc]
  exact hw

theorem onlyRegs_setFld (s : State) (f : Field) (u i v : Nat) (h : (f, u) ∈ ws) : OnlyRegs s (s.setFld f u i v) ws :=
  ⟨rfl, fldSame_setFld _ _ _ _ _ h⟩

theorem OnlyCore.setFld (h : OnlyCore s w c ws) (f : Field) (u i v : Nat) (hf : (f, u) ∈ ws) : OnlyCore s (w.setFld f u i v) c ws :=
  h.trans (onlyCore_of_onlyRegs (onlyRegs_setFld w f u i v hf))

theorem OnlyCore.vpc (h : OnlyCore s w c ws) : w.vpc c = s.vpc c := by
  obtain ⟨-, -, -, hcore⟩ := h
  unfold State.vpc
  rw [hcore]

/-- An instruction that writes a field after it has retired. -/
theorem retires_setFld {npc : Word} {ws : List (Field × Nat)} (h : Retires s t c npc ws) (f : Field) (i v : Nat) (hf : (f, c) ∈ ws)
    (hret : F.RETIRED.id ≠ f.id) (hpc : F.CC_PC_PC.id ≠ f.id) : Retires s (t.setFld f c i v) c npc ws := by
  obtain ⟨hvpc, hretired, hccpc, hsame, hcores⟩ := h
  exact ⟨hvpc, (fld_setFld_id _ _ _ _ _ _ _ _ hret).trans hretired, (fld_setFld_id _ _ _ _ _ _ _ _ hpc).trans hccpc,
    hsame.trans (fldSame_setFld _ _ _ _ _ (List.mem_append_right _ hf)), hcores⟩

/-- What retirement writes. -/
def retireFs (c : Nat) : List (Field × Nat) := [(F.RETIRED, c), (F.CC_PC_PC, c), (F.DSTATUS_SKIP, c)]

theorem fldSame_vretireTo (s : State) (c : Nat) (npc : Word) : FldSame s (vretireTo c npc s) (retireFs c) := fun g v i hw =>
  vretireTo_fld (hw (F.RETIRED, c) (by simp [retireFs])) (hw (F.CC_PC_PC, c) (by simp [retireFs])) (hw (F.DSTATUS_SKIP, c) (by simp [retireFs]))

theorem OnlyCore.retire_fldSame (h : OnlyCore s w c ws) (npc : Word) : FldSame s (vretireTo c npc w) (retireFs c ++ ws) := by
  obtain ⟨-, hfld, -, -⟩ := h
  exact (hfld.mono (List.subset_append_right _ _)).trans ((fldSame_vretireTo w c npc).mono (List.subset_append_left _ _))

theorem OnlyCore.retire_frame (h : OnlyCore s w c ws) (npc : Word) :
    vretireTo c npc w = { s with regs := (vretireTo c npc w).regs, vc := (vretireTo c npc w).vc } := by
  obtain ⟨hw, -, -, -⟩ := h
  exact frame_trans hw (vretireTo_frame w c npc)

/-- An instruction whose own effect keeps to its core and the fields `ws` retires. -/
theorem OnlyCore.retires (h : OnlyCore s w c ws) (hws : ∀ x ∈ ws, F.RETIRED.id ≠ x.1.id) (npc : Word) : Retires s (vretireTo c npc w) c npc ws := by
  obtain ⟨-, hfld, hother, hcore⟩ := id h
  refine ⟨vretireTo_pc _ _ _, ?_, ?_, h.retire_fldSame npc, fun k hk => (vretireTo_vc_ne _ _ _ _ hk).trans (hother k hk), vretireTo_wait _ _ _, ?_, ?_⟩
  · rw [vretireTo_retired, hfld.fld_id hws]
  · rw [vretireTo_ccpc, h.vpc]
  · rw [vretireTo_dcache, hcore]
  · rw [vretireTo_icache, hcore]

end

/-! ### General registers (R208, R209) -/

section
variable {s w t : State} {c rd : Nat} {v : Word} {ws : List (Field × Nat)}

/-- The fields that choose the window. -/
def windowFs : List Field := [F.PSTATE_TW, F.WSTATE_CWP]

theorem vget_fldSame (hr : (t.vc.get c).regs = (w.vc.get c).regs) (hf : FldSame w t ws) (hws : ∀ f ∈ windowFs, ∀ x ∈ ws, f.id ≠ x.1.id) (n : Nat) :
    t.vget c n = w.vget c n := by
  refine vget_congr hr ?_ (hf.fld_id (hws F.WSTATE_CWP (by simp [windowFs])) _ _)
  unfold State.bit
  rw [hf.fld_id (hws F.PSTATE_TW (by simp [windowFs]))]

theorem regSet_vset (hrd : rd < 32) : RegSet s (s.vset c rd v) c rd v := fun _ hn => vget_vset hrd hn

/-- No register changes. -/
theorem regSet_none (h : ∀ n, t.vget c n = s.vget c n) : RegSet s t c 0 v := by
  intro n _
  rw [h, if_neg]
  omega

/-- A write to G0 is discarded, whatever the value. -/
theorem regSet_discard {x : Word} (h : RegSet s t c 0 v) : RegSet s t c 0 x := by
  intro n hn
  rw [h n hn, if_neg (by omega), if_neg (by omega)]

theorem regSet_congr (h : RegSet s w c rd v) (hr : (t.vc.get c).regs = (w.vc.get c).regs) (hf : FldSame w t ws)
    (hws : ∀ f ∈ windowFs, ∀ x ∈ ws, f.id ≠ x.1.id) : RegSet s t c rd v :=
  fun n hn => (vget_fldSame hr hf hws n).trans (h n hn)

theorem regSet_setFld (h : RegSet s w c rd v) (f : Field) (u i x : Nat) (hf : ∀ g ∈ windowFs, g.id ≠ f.id) : RegSet s (w.setFld f u i x) c rd v :=
  regSet_congr h rfl (fldSame_setFld w f u i x (ws := [(f, u)]) List.mem_cons_self) (by simpa using hf)

theorem retireFs_windowFs (c : Nat) : ∀ f ∈ windowFs, ∀ x ∈ retireFs c, f.id ≠ x.1.id := by simp [windowFs, retireFs]; decide

theorem regSet_retire (h : RegSet s w c rd v) (npc : Word) : RegSet s (vretireTo c npc w) c rd v :=
  regSet_congr h (vretireTo_regs _ _ _) (fldSame_vretireTo w c npc) (retireFs_windowFs c)

end

/-! ### Several fields of a core at once -/

/-- Writes fields of core `c`, in order. -/
def setFlds (c : Nat) (l : List (Field × Nat)) (s : State) : State := forL l (fun x s => s.setFld x.1 c 0 x.2) s

theorem onlyRegs_setFlds (c : Nat) (l : List (Field × Nat)) (s : State) : OnlyRegs s (setFlds c l s) (l.map (fun x => (x.1, c))) := by
  constructor
  · have h : ({ setFlds c l s with regs := {} } : State) = { s with regs := {} } :=
      forL_proj (fun s : State => { s with regs := {} }) (f := fun (x : Field × Nat) s => s.setFld x.1 c 0 x.2) (fun _ _ _ => rfl) s
    exact congrArg (fun t : State => { t with regs := (setFlds c l s).regs }) h
  · exact fldSame_forL (f := fun (x : Field × Nat) s => s.setFld x.1 c 0 x.2)
      (fun x hx s => fldSame_setFld s x.1 c 0 x.2 (List.mem_map.2 ⟨x, hx, rfl⟩)) s

/-- Each of several fields reads as written. -/
theorem fld_setFlds {l : List (Field × Nat)} (hl : (l.map (fun x => x.1.id)).Nodup) (c : Nat) (s : State) {x : Field × Nat} (hx : x ∈ l) :
    (setFlds c l s).fld x.1 c = x.2 % 2 ^ x.1.w := by
  induction l generalizing s with
  | nil => simp at hx
  | cons y l ih =>
    rw [List.map_cons, List.nodup_cons] at hl
    obtain ⟨hy, hl⟩ := hl
    rcases List.mem_cons.1 hx with rfl | hx
    · have hkeep := (onlyRegs_setFlds c l (s.setFld x.1 c 0 x.2)).2
      refine (hkeep.fld_id (fun w hw e => hy ?_) c 0).trans (fld_setFld_same _ _ _ _ _)
      obtain ⟨z, hz, rfl⟩ := List.mem_map.1 hw
      exact List.mem_map.2 ⟨z, hz, e.symm⟩
    · exact ih hl _ hx

/-! ### Traps (R240, R243) -/

section
variable {s : State} {c cause access info : Nat} {taddr tpc : Word}

/-- What trap entry writes. -/
def trapWrites (s : State) (c cause access : Nat) (tpc taddr : Word) (info : Nat) : List (Field × Nat) :=
  [(F.TPC, tpc.toNat), (F.TCAUSE_CAUSE, cause), (F.TCAUSE_ACCESS, access), (F.TADDR, taddr.toNat), (F.TINFO, info),
    (F.TPSTATE_TRAPDZ, s.fld F.PSTATE_TRAPDZ c), (F.TPSTATE_IE, s.fld F.PSTATE_IE c), (F.TPSTATE_TASK, s.fld F.PSTATE_TASK c),
    (F.PSTATE_TASK, 0), (F.PSTATE_IE, 0), (F.PSTATE_TW, 1)]

theorem vtrapEntry_eq : vtrapEntry c cause access tpc taddr info s =
    (setFlds c (trapWrites s c cause access tpc taddr info) s).updVc c (fun k =>
      { k with pc := BitVec.ofNat 64 (s.fld F.TBASE_BASE c * 2048 + 64 * cause), wait := .none, fetchErr := 0, fetched := none }) := rfl

theorem trapTaken_vtrapEntry (hcause : cause < 32) (haccess : access < 4) (hinfo : info < 2 ^ 16) :
    TrapTaken s (vtrapEntry c cause access tpc taddr info s) c cause access tpc taddr info := by
  have hnodup : ((trapWrites s c cause access tpc taddr info).map (fun x => x.1.id)).Nodup := by simp only [trapWrites, List.map_cons, List.map_nil]; decide
  have hread : ∀ x ∈ trapWrites s c cause access tpc taddr info, (vtrapEntry c cause access tpc taddr info s).fld x.1 c = x.2 % 2 ^ x.1.w :=
    fun x hx => fld_setFlds hnodup c s hx
  obtain ⟨hframe, hsame⟩ := onlyRegs_setFlds c (trapWrites s c cause access tpc taddr info) s
  have hvc : (setFlds c (trapWrites s c cause access tpc taddr info) s).vc = s.vc := by rw [hframe]
  simp only [trapWrites, List.forall_mem_cons] at hread
  obtain ⟨htpc, htcause, htaccess, htaddr, htinfo, htdz, htie, httask, htask, hie, htw, -⟩ := hread
  refine ⟨?_, htpc.trans (Nat.mod_eq_of_lt tpc.isLt), htcause.trans (Nat.mod_eq_of_lt hcause), htaccess.trans (Nat.mod_eq_of_lt haccess),
    htaddr.trans (Nat.mod_eq_of_lt taddr.isLt), htinfo.trans (Nat.mod_eq_of_lt hinfo), htdz, htie, httask, htask, hie, htw, hsame, fun k hk => ?_, ?_, ?_⟩
  · rw [vtrapEntry_eq, State.vpc, updVc_vc_same]
  · rw [vtrapEntry_eq, updVc_vc_ne _ _ _ _ hk, hvc]
  · rw [vtrapEntry_eq, updVc_vc_same, hvc]
  · conv_lhs => rw [vtrapEntry_eq, hframe]
    rfl

/-- Outside the trap window a condition takes its trap. -/
theorem trapTaken_vtrap (htw : s.bit F.PSTATE_TW c = false) (pc : Word) (hcause : cause < 32) (haccess : access < 4) (hinfo : info < 2 ^ 16) :
    TrapTaken s (vtrap c cause access pc tpc taddr info s) c cause access tpc taddr info := by
  rw [vtrap, if_neg (by simp [htw])]
  exact trapTaken_vtrapEntry hcause haccess hinfo

theorem trapTaken_vtrapAt (htw : s.bit F.PSTATE_TW c = false) (hcause : cause < 32) (haccess : access < 4) (hinfo : info < 2 ^ 16) :
    TrapTaken s (vtrapAt c cause access taddr info s) c cause access (s.vpc c) taddr info := trapTaken_vtrap htw _ hcause haccess hinfo

theorem trapTaken_villegal (htw : s.bit F.PSTATE_TW c = false) : TrapTaken s (villegal c s) c cILLEGAL 0 (s.vpc c) 0 0 :=
  trapTaken_vtrapAt htw (by decide) (by decide) (by decide)

end

end Sys2Proof.Machine
end

section
/-!
SUPPORT. Results and flags of the control cores: an instruction that writes rd and NZCV, and the numbers behind the rows of Tables 7.7 to 7.9
(R224, R228 to R232).
-/
namespace Sys2Proof.Machine
open Claims

/-! ### A result and its flags -/

theorem nzcvOf_lt (r : Word) (cf vf : Bool) : nzcvOf r cf vf < 2 ^ F.FLAGS_NZCV.w := by
  have h : ∀ b, ofBool b ≤ 1 := by decide
  have hn := h r.msb
  have hz := h (r == 0)
  have hc := h cf
  have hv := h vf
  show nzcvOf r cf vf < 16
  unfold nzcvOf
  omega

section
variable {s w : State} {c rd : Nat} {r : Word} {cf vf : Bool} {ws : List (Field × Nat)}

/-- What an instruction does that has written the fields `ws`, and then writes a result with its flags and retires. -/
theorem vwriteF_after (h : OnlyRegs s w ws) (hwindow : ∀ f ∈ windowFs, ∀ x ∈ ws, f.id ≠ x.1.id) (hret : ∀ x ∈ ws, F.RETIRED.id ≠ x.1.id)
    (hrd : rd < 32) :
    RegSet s (vwriteF c rd (flagged r cf vf) w) c rd r ∧ (vwriteF c rd (flagged r cf vf) w).fld F.FLAGS_NZCV c = nzcvOf r cf vf ∧
    Retires s (vwriteF c rd (flagged r cf vf) w) c (s.vpc c + 4) ((F.FLAGS_NZCV, c) :: ws) ∧
    vwriteF c rd (flagged r cf vf) w =
      { s with regs := (vwriteF c rd (flagged r cf vf) w).regs, vc := (vwriteF c rd (flagged r cf vf) w).vc } := by
  let x := (w.vset c rd r).setFld F.FLAGS_NZCV c 0 (nzcvOf r cf vf)
  have hx : OnlyCore s x c ((F.FLAGS_NZCV, c) :: ws) :=
    ((onlyCore_of_onlyRegs ⟨h.1, h.2.mono (List.subset_cons_self _ _)⟩).trans (onlyCore_vset _ _ _ _ _)).setFld _ _ _ _ List.mem_cons_self
  have ht : vwriteF c rd (flagged r cf vf) w = vretireTo c (s.vpc c + 4) x := by rw [← hx.vpc]; rfl
  have hvc : w.vc = s.vc := by rw [h.1]
  have hregs : RegSet s (w.vset c rd r) c rd r := fun n hn => by
    rw [regSet_vset hrd n hn, vget_fldSame (by rw [hvc]) h.2 hwindow]
  rw [ht]
  refine ⟨regSet_retire (regSet_setFld hregs _ _ _ _ (by decide)) _, ?_, hx.retires (by simpa using ⟨by decide, by simpa using hret⟩) _, hx.retire_frame _⟩
  rw [(fldSame_vretireTo x c _).fld_id (by simp [retireFs]; decide), fld_setFld_same, Nat.mod_eq_of_lt (nzcvOf_lt _ _ _)]

theorem aluDone_vwriteF (hrd : rd < 32) : AluDone s (vwriteF c rd (flagged r cf vf) s) c rd r cf vf :=
  vwriteF_after ⟨rfl, FldSame.refl _ _⟩ (by simp) (by simp) hrd

/-- An instruction that writes a result and its flags. -/
theorem alu_issued {F : State → Flagged} (hs : Issues s c) (hrd : rd < 32) (h : F (issued c s) = flagged r cf vf) :
    ∃ t, vop c 0 (fun s => vwriteF c rd (F s) s) s = .next t ∧ AluDone (issued c s) t c rd r cf vf :=
  ⟨_, vop_issues hs, h ▸ aluDone_vwriteF hrd⟩

end

/-! ### Additions and subtractions -/

theorem addF_eq (a b : Word) (cin : Bool) : addF a b cin = flagged (a + b + BitVec.ofNat 64 (ofBool cin))
    (decide (2 ^ 64 ≤ a.toNat + b.toNat + ofBool cin))
    (decide ((a + b + BitVec.ofNat 64 (ofBool cin)).toInt ≠ a.toInt + b.toInt + (ofBool cin : Int))) := by
  simp only [addF, ne_eq, decide_not, bne, beq_eq_decide]

theorem subF_eq (a b : Word) (bin : Bool) : subF a b bin = flagged (a - b - BitVec.ofNat 64 (ofBool bin))
    (decide (b.toNat + ofBool bin ≤ a.toNat))
    (decide ((a - b - BitVec.ofNat 64 (ofBool bin)).toInt ≠ a.toInt - b.toInt - (ofBool bin : Int))) := by
  simp only [subF, ne_eq, decide_not, bne, beq_eq_decide]

theorem addF_no_carry (a b : Word) : addF a b false =
    flagged (a + b) (decide (2 ^ 64 ≤ a.toNat + b.toNat)) (decide ((a + b).toInt ≠ a.toInt + b.toInt)) := by
  rw [addF_eq]
  simp [ofBool]

theorem subF_no_borrow (a b : Word) : subF a b false =
    flagged (a - b) (decide (b.toNat ≤ a.toNat)) (decide ((a - b).toInt ≠ a.toInt - b.toInt)) := by
  rw [subF_eq]
  simp [ofBool]

theorem subF_zero (a : Word) : subF 0 a false = flagged (-a) (decide (a = 0)) (decide ((-a).toInt ≠ -a.toInt)) := by
  have hz : a.toNat ≤ (0 : Word).toNat ↔ a = 0 :=
    ⟨fun h => BitVec.eq_of_toNat_eq (Nat.le_zero.1 h), fun h => by rw [h]⟩
  rw [subF_no_borrow]
  simp only [hz]
  simp

/-! ### Bits counted -/

theorem toNat_ofNat_clz {a : Word} (h : a ≠ 0) : (BitVec.ofNat 64 (clz a)).toNat = 63 - a.toNat.log2 ∧ a.toNat.log2 < 64 := by
  have h0 : a.toNat ≠ 0 := fun e => h (BitVec.eq_of_toNat_eq e)
  have hlt : a.toNat.log2 < 64 := (Nat.log2_lt h0).2 a.isLt
  refine ⟨?_, hlt⟩
  rw [clz, if_neg h, BitVec.toNat_ofNat, Nat.mod_eq_of_lt (by omega)]
  omega

theorem clz_highest {a : Word} (h : a ≠ 0) : (BitVec.ofNat 64 (clz a)).toNat < 64 ∧ a.getLsbD (63 - (BitVec.ofNat 64 (clz a)).toNat) = true ∧
    ∀ k, 63 - (BitVec.ofNat 64 (clz a)).toNat < k → a.getLsbD k = false := by
  obtain ⟨hr, hlt⟩ := toNat_ofNat_clz h
  have hk : 63 - (BitVec.ofNat 64 (clz a)).toNat = a.toNat.log2 := by omega
  rw [hk]
  refine ⟨by omega, Nat.testBit_log2 fun e => h (BitVec.eq_of_toNat_eq e), fun k hk => ?_⟩
  exact Nat.testBit_lt_two_pow (Nat.lt_log2_self.trans_le (Nat.pow_le_pow_right (by decide) hk))

theorem toNat_ofNat_popc (a : Word) : (BitVec.ofNat 64 (popc a)).toNat = ((List.range 64).filter (fun k => a.getLsbD k)).length := by
  have hle : ((List.range 64).filter (fun k => a.getLsbD k)).length ≤ 64 := (List.length_filter_le _ _).trans_eq List.length_range
  rw [popc, sum_bits_eq_length (fun k => a.getLsbD k), Nat.zero_add, BitVec.toNat_ofNat, Nat.mod_eq_of_lt (by omega)]

/-! ### Constants -/

/-- INSW replaces 16 bits. -/
theorem getLsbD_insw (x : Word) (imm : BitVec 16) {q k : Nat} (hk : k < 64) :
    ((x &&& ~~~((0xFFFF : Word) <<< (16 * q))) ||| (imm.zeroExtend 64 <<< (16 * q))).getLsbD k =
      if 16 * q ≤ k ∧ k < 16 * q + 16 then imm.getLsbD (k - 16 * q) else x.getLsbD k := by
  have hones : (0xFFFF : Word) = (BitVec.allOnes 16).setWidth 64 := by decide
  rw [hones]
  simp only [BitVec.getLsbD_or, BitVec.getLsbD_and, BitVec.getLsbD_not, BitVec.getLsbD_shiftLeft, BitVec.getLsbD_setWidth, BitVec.getLsbD_allOnes,
    BitVec.zeroExtend, hk, decide_true, Bool.true_and]
  by_cases h1 : k < 16 * q
  · simp [h1]
  by_cases h2 : k < 16 * q + 16
  · have hlow : k - 16 * q < 16 := by omega
    have hle : 16 * q ≤ k := by omega
    simp [h1, h2, hlow, hle, hlow.trans (by decide : 16 < 64)]
  · have hhigh : ¬ k - 16 * q < 16 := by omega
    simp [h1, h2, hhigh, BitVec.getLsbD_of_ge imm (k - 16 * q) (by omega)]

/-! ### A result without flags -/

/-- An instruction that writes one register, keeps the flags and goes on at `npc`. -/
theorem result_issued {s : State} {c rd : Nat} {body : State → State} {v npc : Word} (hs : Issues s c) (hrd : rd < 32)
    (h : body (issued c s) = vretireTo c npc ((issued c s).vset c rd v)) :
    ∃ t, vop c 0 body s = .next t ∧ RegSet (issued c s) t c rd v ∧ Retires (issued c s) t c npc [] ∧
      t = { issued c s with regs := t.regs, vc := t.vc } := by
  have hw : OnlyCore (issued c s) ((issued c s).vset c rd v) c [] := onlyCore_vset _ _ _ _ _
  refine ⟨_, (vop_issues hs).trans (congrArg _ h), regSet_retire (regSet_vset hrd) _, hw.retires (by simp) _, hw.retire_frame _⟩

/-- So an instruction that goes on at the next one. -/
theorem move_issued {s : State} {c rd : Nat} {V : State → Word} {v : Word} (hs : Issues s c) (hrd : rd < 32) (h : V (issued c s) = v) :
    ∃ t, vop c 0 (fun s => vretire c (s.vset c rd (V s))) s = .next t ∧ RegSet (issued c s) t c rd v ∧
      Retires (issued c s) t c ((issued c s).vpc c + 4) [] ∧ t = { issued c s with regs := t.regs, vc := t.vc } :=
  result_issued hs hrd (by rw [h, vretire, vpc_vset])

theorem vcarry_issued (c : Nat) (s : State) : vcarry (issued c s) c = vcarry s c := by
  rw [vcarry, vcarry, (fldSame_issued c s).fld_id (by simp [cmpFs, irqFs]; decide)]

section
variable {s : State} {c rd : Nat} {r : Word} {cf vf : Bool}

/-- An instruction that writes the flags of a result and discards the result. -/
theorem compare_issued {f : State → Flagged} (hs : Issues s c) (h : f (issued c s) = flagged r cf vf) :
    ∃ t, vop c 0 (fun s => vwriteF c 0 (f s) s) s = .next t ∧ RegSet (issued c s) t c 0 0 ∧ t.fld F.FLAGS_NZCV c = nzcvOf r cf vf ∧
      Retires (issued c s) t c ((issued c s).vpc c + 4) [(F.FLAGS_NZCV, c)] ∧ t = { issued c s with regs := t.regs, vc := t.vc } := by
  obtain ⟨t, ht, hregs, hrest⟩ := alu_issued (rd := 0) hs (by decide) h
  exact ⟨t, ht, regSet_discard hregs, hrest⟩

/-- An instruction of kind L (R224) whose result has a property. -/
theorem logic_issued {f : State → Word} {P : Word → Prop} (hs : Issues s c) (hrd : rd < 32) (h : P (f (issued c s))) :
    ∃ t r, vop c 0 (fun s => vwriteF c rd (logicF (f s)) s) s = .next t ∧ AluDone (issued c s) t c rd r false false ∧ P r := by
  obtain ⟨t, ht, hdone⟩ := alu_issued (F := fun u => logicF (f u)) hs hrd rfl
  exact ⟨t, _, ht, hdone, h⟩

end

/-- Settles O1 by the flag functions of Table 7.7: each form is a result with its flags (`alu_issued`), or a result alone (`move_issued`). -/
theorem addLogicForms : Obligations.AddLogicForms := by
  unfold Obligations.AddLogicForms
  constructor
  · intro s c rd rs1 rs2 imm hs hrd u a b i cy
    have hcy : vcarry s c = cy := (vcarry_issued c s).symm
    refine ⟨?_, ?_, ?_, ?_, ?_, ?_, ?_, ?_⟩
    · exact alu_issued (F := fun u => addF (u.vget c rs1) (u.vget c rs2) false) hs hrd (addF_no_carry _ _)
    · exact alu_issued (F := fun u => subF (u.vget c rs1) (u.vget c rs2) false) hs hrd (subF_no_borrow _ _)
    · exact alu_issued (F := fun u => addF (u.vget c rs1) (u.vget c rs2) (vcarry s c)) hs hrd (hcy ▸ addF_eq _ _ _)
    · exact alu_issued (F := fun u => subF (u.vget c rs1) (u.vget c rs2) (!vcarry s c)) hs hrd (hcy ▸ subF_eq _ _ _)
    · exact alu_issued (F := fun u => subF 0 (u.vget c rs1) false) hs hrd (subF_zero _)
    · exact compare_issued (f := fun u => subF (u.vget c rs1) (u.vget c rs2) false) hs (subF_no_borrow _ _)
    · exact alu_issued (F := fun u => addF (u.vget c rs1) i false) hs hrd (addF_no_carry _ _)
    · exact compare_issued (f := fun u => subF (u.vget c rs1) i false) hs (subF_no_borrow _ _)
  · intro s c rd rs1 rs2 q imm hs hrd hq u a b z
    have hqm : q % 4 = q := Nat.mod_eq_of_lt hq
    refine ⟨?_, ?_, ?_, ?_, ?_, ?_, ?_, ?_, ?_, ?_, ?_, ?_, ?_, ?_, ?_⟩
    · exact alu_issued (F := fun u => logicF (u.vget c rs1 &&& u.vget c rs2)) hs hrd rfl
    · exact alu_issued (F := fun u => logicF (u.vget c rs1 ||| u.vget c rs2)) hs hrd rfl
    · exact alu_issued (F := fun u => logicF (u.vget c rs1 ^^^ u.vget c rs2)) hs hrd rfl
    · exact alu_issued (F := fun u => logicF (u.vget c rs1 &&& ~~~u.vget c rs2)) hs hrd rfl
    · exact logic_issued (f := fun u => if (u.vget c rs1).toInt ≤ (u.vget c rs2).toInt then u.vget c rs1 else u.vget c rs2)
        (P := fun r => r.toInt = min a.toInt b.toInt) hs hrd ((apply_ite BitVec.toInt _ _ _).trans (min_def _ _).symm)
    · exact logic_issued (f := fun u => if (u.vget c rs1).toInt ≤ (u.vget c rs2).toInt then u.vget c rs2 else u.vget c rs1)
        (P := fun r => r.toInt = max a.toInt b.toInt) hs hrd ((apply_ite BitVec.toInt _ _ _).trans (max_def _ _).symm)
    · exact logic_issued (f := fun u => if (u.vget c rs1).toNat ≤ (u.vget c rs2).toNat then u.vget c rs1 else u.vget c rs2)
        (P := fun r => r.toNat = min a.toNat b.toNat) hs hrd ((apply_ite BitVec.toNat _ _ _).trans (min_def _ _).symm)
    · exact logic_issued (f := fun u => if (u.vget c rs1).toNat ≤ (u.vget c rs2).toNat then u.vget c rs2 else u.vget c rs1)
        (P := fun r => r.toNat = max a.toNat b.toNat) hs hrd ((apply_ite BitVec.toNat _ _ _).trans (max_def _ _).symm)
    · exact logic_issued (f := fun u => BitVec.ofNat 64 (clz (u.vget c rs1))) hs hrd ⟨fun h => by rw [show u.vget c rs1 = 0 from h]; rfl, fun h => clz_highest h⟩
    · exact logic_issued (f := fun u => BitVec.ofNat 64 (popc (u.vget c rs1))) hs hrd (toNat_ofNat_popc a)
    · exact alu_issued (F := fun u => logicF (u.vget c rs1 &&& z)) hs hrd rfl
    · exact alu_issued (F := fun u => logicF (u.vget c rs1 ||| z)) hs hrd rfl
    · exact alu_issued (F := fun u => logicF (u.vget c rs1 ^^^ z)) hs hrd rfl
    · exact move_issued (V := fun _ => z <<< (16 * (q % 4))) hs hrd (by rw [hqm])
    · obtain ⟨t, ht, hregs, hret, hframe⟩ := move_issued (c := c) (rd := rd)
        (V := fun u => (u.vget c rd &&& ~~~((0xFFFF : Word) <<< (16 * (q % 4)))) ||| (z <<< (16 * (q % 4)))) hs hrd rfl
      refine ⟨t, _, ht, hregs, fun k hk => ?_, hret, hframe⟩
      rw [hqm]
      exact getLsbD_insw _ _ hk

end Sys2Proof.Machine
end

section
/-!
SUPPORT. Multiplication, division and shifts of the control cores (Tables 7.8 and 7.9, R229 to R232).
-/
namespace Sys2Proof.Machine
open Claims

/-! ### Division (R229, R230) -/

/-- What a division by zero does before any trap: DZ is set, and the result stands in rd with its flags. -/
def vdivZero (c rd : Nat) (r : Word) (s : State) : State := vwriteF c rd (flagged r false false) (s.setBit F.FLAGS_DZ c)

section
variable {s : State} {c rd rs1 rs2 : Nat} {f : Word → Word → Flagged} {r : Word} {cf vf : Bool}

theorem vdivide_nonzero (hs : Issues s c) (hrd : rd < 32) (hb : (issued c s).vget c rs2 ≠ 0)
    (h : f ((issued c s).vget c rs1) ((issued c s).vget c rs2) = flagged r cf vf) :
    ∃ t, vdivide c rd rs1 rs2 0 f s = .next t ∧ AluDone (issued c s) t c rd r cf vf := by
  refine ⟨_, (vop_issues hs).trans ?_, aluDone_vwriteF hrd⟩
  simp only [hb, if_false, decide_false, Bool.false_and, Bool.false_eq_true, h]

/-- The DZ trap, if TRAPDZ asks for it, follows the completed division. -/
theorem vdivide_zero (hs : Issues s c) (hb : (issued c s).vget c rs2 = 0) (h : f ((issued c s).vget c rs1) 0 = flagged r false false) :
    vdivide c rd rs1 rs2 0 f s = .next (if (issued c s).bit F.PSTATE_TRAPDZ c
      then vtrap c cDZ 0 ((issued c s).vpc c) ((issued c s).vpc c + 4) 0 0 (vdivZero c rd r (issued c s)) else vdivZero c rd r (issued c s)) := by
  refine (vop_issues hs).trans ?_
  simp only [hb, if_true, decide_true, Bool.true_and, h]
  rfl

theorem vdivZero_done (s : State) (hrd : rd < 32) :
    RegSet s (vdivZero c rd r s) c rd r ∧ (vdivZero c rd r s).fld F.FLAGS_NZCV c = nzcvOf r false false ∧ (vdivZero c rd r s).fld F.FLAGS_DZ c = 1 ∧
    Retires s (vdivZero c rd r s) c (s.vpc c + 4) [(F.FLAGS_NZCV, c), (F.FLAGS_DZ, c)] ∧
    vdivZero c rd r s = { s with regs := (vdivZero c rd r s).regs, vc := (vdivZero c rd r s).vc } := by
  obtain ⟨hregs, hflags, hret, hframe⟩ := vwriteF_after (c := c) (r := r) (cf := false) (vf := false)
    (onlyRegs_setFld s F.FLAGS_DZ c 0 1 (ws := [(F.FLAGS_DZ, c)]) List.mem_cons_self) (by simp [windowFs]; decide) (by simp; decide) hrd
  obtain ⟨-, -, ⟨-, -, -, hsame, -⟩, -⟩ := aluDone_vwriteF (s := s.setBit F.FLAGS_DZ c) (c := c) (r := r) (cf := false) (vf := false) hrd
  exact ⟨hregs, hflags, (hsame.fld_id (by simp; decide) c 0).trans (fld_setFld_same s F.FLAGS_DZ c 0 1), hret, hframe⟩

end

/-- The quotient and the remainder of each division form by a zero divisor (Table 7.8). -/
theorem div_by_zero (a : Word) : divF a 0 = flagged (BitVec.allOnes 64) false false ∧ divuF a 0 = flagged (BitVec.allOnes 64) false false ∧
    remF a 0 = flagged a false false ∧ remuF a 0 = flagged a false false := ⟨rfl, rfl, rfl, rfl⟩

section
variable {a b : Word} (h : b ≠ 0)
include h

theorem divF_nonzero : divF a b =
    flagged (BitVec.ofInt 64 (a.toInt.tdiv b.toInt)) false (decide (a = BitVec.intMin 64 ∧ b = BitVec.allOnes 64)) := by
  rw [divF, if_neg h, Bool.decide_and]

theorem remF_nonzero : remF a b =
    flagged (BitVec.ofInt 64 (a.toInt.tmod b.toInt)) false (decide (a = BitVec.intMin 64 ∧ b = BitVec.allOnes 64)) := by
  rw [remF, if_neg h, Bool.decide_and]

theorem divuF_nonzero : divuF a b = flagged (BitVec.ofNat 64 (a.toNat / b.toNat)) false false := by
  rw [divuF, if_neg h, ← BitVec.toNat_udiv, BitVec.ofNat_toNat, BitVec.setWidth_eq]

theorem remuF_nonzero : remuF a b = flagged (BitVec.ofNat 64 (a.toNat % b.toNat)) false false := by
  rw [remuF, if_neg h, ← BitVec.toNat_umod, BitVec.ofNat_toNat, BitVec.setWidth_eq]

end

theorem mulF_eq (a b : Word) : mulF a b = flagged (a * b) false (decide ((a * b).toInt ≠ a.toInt * b.toInt)) := by
  simp only [mulF, ne_eq, decide_not, bne, beq_eq_decide]

/-- The four division forms with a zero divisor: what each leaves in rd. -/
theorem exec_div_zero {s : State} {c rd rs1 rs2 : Nat} (hs : Issues s c) (hb : (issued c s).vget c rs2 = 0) {i : Instr} {r : Word}
    (hi : (i, r) ∈ [(Instr.div c rd rs1 rs2 0, BitVec.allOnes 64), (.divu c rd rs1 rs2 0, BitVec.allOnes 64),
      (.rem c rd rs1 rs2 0, (issued c s).vget c rs1), (.remu c rd rs1 rs2 0, (issued c s).vget c rs1)]) :
    exec i s = .next (if (issued c s).bit F.PSTATE_TRAPDZ c
      then vtrap c cDZ 0 ((issued c s).vpc c) ((issued c s).vpc c + 4) 0 0 (vdivZero c rd r (issued c s)) else vdivZero c rd r (issued c s)) := by
  obtain ⟨hdiv, hdivu, hrem, hremu⟩ := div_by_zero ((issued c s).vget c rs1)
  simp only [List.mem_cons, Prod.mk.injEq, List.not_mem_nil, or_false] at hi
  obtain ⟨rfl, rfl⟩ | ⟨rfl, rfl⟩ | ⟨rfl, rfl⟩ | ⟨rfl, rfl⟩ := hi
  · exact vdivide_zero hs hb hdiv
  · exact vdivide_zero hs hb hdivu
  · exact vdivide_zero hs hb hrem
  · exact vdivide_zero hs hb hremu

/-- Settles O2: the products by their flag functions, the divisions by what a nonzero and a zero divisor give (`vdivide_nonzero`,
`exec_div_zero`). -/
theorem multiplyDivideForms : Obligations.MultiplyDivideForms := by
  unfold Obligations.MultiplyDivideForms
  intro s c rd rs1 rs2 hs hrd u a b ov
  refine ⟨?_, ?_, ?_, fun hb => ⟨?_, ?_, ?_, ?_⟩, fun hb hdz i r hi => ?_⟩
  · exact alu_issued (F := fun u => mulF (u.vget c rs1) (u.vget c rs2)) hs hrd (mulF_eq _ _)
  · exact alu_issued (F := fun u => mulhF (u.vget c rs1) (u.vget c rs2)) hs hrd rfl
  · exact alu_issued (F := fun u => mulhuF (u.vget c rs1) (u.vget c rs2)) hs hrd rfl
  · exact vdivide_nonzero hs hrd hb (divF_nonzero hb)
  · exact vdivide_nonzero hs hrd hb (divuF_nonzero hb)
  · exact vdivide_nonzero hs hrd hb (remF_nonzero hb)
  · exact vdivide_nonzero hs hrd hb (remuF_nonzero hb)
  · have hexec := exec_div_zero hs hb hi
    rw [if_neg (by rw [show (issued c s).bit F.PSTATE_TRAPDZ c = false from hdz]; decide)] at hexec
    exact ⟨_, hexec, vdivZero_done _ hrd⟩

/-! ### Shifts (R231, R232) -/

/-- What a shift of kind `kind` (0 left, 1 right, 2 arithmetic right, 3 rotation) by `k` gives, and the last bit shifted out. -/
def Shifts (a : Word) (k kind : Nat) (r : Word) (cf : Bool) : Prop :=
  (kind = 0 → r = BitVec.ofNat 64 (a.toNat * 2 ^ k) ∧ (cf = true ↔ 1 ≤ k ∧ k ≤ 64 ∧ a.getLsbD (64 - k) = true)) ∧
  (kind = 1 → r = BitVec.ofNat 64 (a.toNat / 2 ^ k) ∧ (cf = true ↔ 1 ≤ k ∧ k ≤ 64 ∧ a.getLsbD (k - 1) = true)) ∧
  (kind = 2 → r = BitVec.ofInt 64 (a.toInt / 2 ^ k) ∧ (cf = true ↔ 1 ≤ k ∧ (if k ≤ 64 then a.getLsbD (k - 1) else a.msb) = true)) ∧
  (kind = 3 → r = a.rotateRight (k % 64) ∧ (cf = true ↔ k % 64 ≠ 0 ∧ r.msb = true))

theorem ofNat_mul_two_pow (a : Word) (k : Nat) : BitVec.ofNat 64 (a.toNat * 2 ^ k) = if k < 64 then a <<< k else 0 := by
  apply BitVec.eq_of_toNat_eq
  split
  · rw [BitVec.toNat_shiftLeft, BitVec.toNat_ofNat, Nat.shiftLeft_eq]
  · next h =>
    obtain ⟨d, rfl⟩ := Nat.exists_eq_add_of_le (Nat.not_lt.1 h)
    rw [BitVec.toNat_ofNat, Nat.pow_add, Nat.mul_left_comm, Nat.mul_mod_right]
    rfl

theorem ofNat_div_two_pow (a : Word) (k : Nat) : BitVec.ofNat 64 (a.toNat / 2 ^ k) = if k < 64 then a >>> k else 0 := by
  apply BitVec.eq_of_toNat_eq
  rw [BitVec.toNat_ofNat, Nat.mod_eq_of_lt ((Nat.div_le_self _ _).trans_lt a.isLt)]
  split
  · rw [BitVec.toNat_ushiftRight, Nat.shiftRight_eq_div_pow]
  · next h => exact Nat.div_eq_of_lt (a.isLt.trans_le (Nat.pow_le_pow_right (by decide) (Nat.not_lt.1 h)))

theorem ofInt_div_two_pow (a : Word) (k : Nat) : BitVec.ofInt 64 (a.toInt / 2 ^ k) = a.sshiftRight (min k 64) := by
  have hk : a.sshiftRight (min k 64) = a.sshiftRight k := by
    refine BitVec.eq_of_getLsbD_eq fun i hi => ?_
    rw [BitVec.getLsbD_sshiftRight, BitVec.getLsbD_sshiftRight]
    by_cases h : k ≤ 64
    · rw [min_eq_left h]
    · rw [min_eq_right (by omega), if_neg (by omega), if_neg (by omega)]
  have hdiv : a.toInt / 2 ^ k = (a.sshiftRight k).toInt := by
    rw [BitVec.toInt_sshiftRight, Int.shiftRight_eq_div_pow]
    norm_cast
  rw [hk, hdiv, BitVec.ofInt_toInt]

theorem shifts_sllF (a : Word) (k : Nat) : Shifts a k 0 (sllF a k).val (sllF a k).c :=
  ⟨fun _ => ⟨(ofNat_mul_two_pow a k).symm, by simp [sllF, flagged, and_assoc]⟩, by simp, by simp, by simp⟩

theorem shifts_srlF (a : Word) (k : Nat) : Shifts a k 1 (srlF a k).val (srlF a k).c :=
  ⟨by simp, fun _ => ⟨(ofNat_div_two_pow a k).symm, by simp [srlF, flagged, and_assoc]⟩, by simp, by simp⟩

theorem shifts_sraF (a : Word) (k : Nat) : Shifts a k 2 (sraF a k).val (sraF a k).c := by
  refine ⟨by simp, by simp, fun _ => ⟨(ofInt_div_two_pow a k).symm, ?_⟩, by simp⟩
  by_cases h : k = 0
  · simp [sraF, flagged, h]
  · simp [sraF, flagged, h, Nat.one_le_iff_ne_zero]

theorem shifts_rorF (a : Word) (k : Nat) : Shifts a k 3 (rorF a k).val (rorF a k).c :=
  ⟨by simp, by simp, by simp, fun _ => ⟨rfl, by simp [rorF, flagged]⟩⟩

/-- A shift with V = 0. -/
theorem shift_issued {s : State} {c rd k kind : Nat} {F : State → Flagged} {a : Word} (hs : Issues s c) (hrd : rd < 32)
    (h : F (issued c s) = flagged (F (issued c s)).val (F (issued c s)).c false) (hsay : Shifts a k kind (F (issued c s)).val (F (issued c s)).c) :
    ∃ t r cf, vop c 0 (fun s => vwriteF c rd (F s) s) s = .next t ∧ AluDone (issued c s) t c rd r cf false ∧ Shifts a k kind r cf := by
  obtain ⟨t, ht, hdone⟩ := alu_issued hs hrd h
  exact ⟨t, _, _, ht, hdone, hsay⟩

/-- Settles O3, form by form: the amount of a register form is the whole register, that of an immediate form its seven bits. -/
theorem shiftForms : Obligations.ShiftForms := by
  unfold Obligations.ShiftForms
  intro s c rd rs1 rs2 amt hs hrd hamt u a i k kind hi
  have hmod : amt % 128 = amt := Nat.mod_eq_of_lt hamt
  simp only [List.mem_cons, Prod.mk.injEq, List.not_mem_nil, or_false] at hi
  obtain ⟨rfl, rfl, rfl⟩ | ⟨rfl, rfl, rfl⟩ | ⟨rfl, rfl, rfl⟩ | ⟨rfl, rfl, rfl⟩ | ⟨rfl, rfl, rfl⟩ | ⟨rfl, rfl, rfl⟩ | ⟨rfl, rfl, rfl⟩ | ⟨rfl, rfl, rfl⟩ := hi
  · exact shift_issued (F := fun u => sllF (u.vget c rs1) (u.vget c rs2).toNat) hs hrd rfl (shifts_sllF _ _)
  · exact shift_issued (F := fun u => sllF (u.vget c rs1) (k % 128)) hs hrd rfl (hmod.symm ▸ shifts_sllF _ _)
  · exact shift_issued (F := fun u => srlF (u.vget c rs1) (u.vget c rs2).toNat) hs hrd rfl (shifts_srlF _ _)
  · exact shift_issued (F := fun u => srlF (u.vget c rs1) (k % 128)) hs hrd rfl (hmod.symm ▸ shifts_srlF _ _)
  · exact shift_issued (F := fun u => sraF (u.vget c rs1) (u.vget c rs2).toNat) hs hrd rfl (shifts_sraF _ _)
  · exact shift_issued (F := fun u => sraF (u.vget c rs1) (k % 128)) hs hrd rfl (hmod.symm ▸ shifts_sraF _ _)
  · exact shift_issued (F := fun u => rorF (u.vget c rs1) (u.vget c rs2).toNat) hs hrd rfl (shifts_rorF _ _)
  · exact shift_issued (F := fun u => rorF (u.vget c rs1) (k % 128)) hs hrd rfl (hmod.symm ▸ shifts_rorF _ _)

end Sys2Proof.Machine
end

section
/-!
SUPPORT. Transfer of control and register windows (R208, R211, R222, R227, Table 7.16).
-/
namespace Sys2Proof.Machine
open Claims

/-! ### Targets and conditions -/

/-- A displacement counts words of four bytes, signed (R222). -/
theorem dispBytes_eq {w : Nat} (d : BitVec w) : dispBytes d = BitVec.ofInt 64 (4 * d.toInt) := by
  rw [dispBytes, BitVec.shiftLeft_eq_mul_twoPow, BitVec.signExtend, Int.mul_comm, BitVec.ofInt_mul]
  rfl

theorem vrel_eq {w : Nat} (s : State) (c : Nat) (d : BitVec w) : vrel s c d = s.vpc c + BitVec.ofInt 64 (4 * d.toInt) := by
  rw [vrel, dispBytes_eq]

/-- The conditions of Table 7.16. -/
theorem condHolds_table (f : Nat) : ∀ p ∈ [(0, true), (2, bitOf f 2), (3, !bitOf f 2), (4, !bitOf f 1), (5, bitOf f 1), (6, !bitOf f 1 || bitOf f 2),
    (7, bitOf f 1 && !bitOf f 2), (8, bitOf f 3 != bitOf f 0), (9, bitOf f 3 == bitOf f 0), (10, bitOf f 2 || bitOf f 3 != bitOf f 0),
    (11, !bitOf f 2 && bitOf f 3 == bitOf f 0), (12, bitOf f 3), (13, !bitOf f 3), (14, bitOf f 0), (15, !bitOf f 0)],
    condHolds p.1 f = some p.2 := by
  simp [condHolds]

theorem condHolds_reserved (f : Nat) : condHolds 1 f = none := rfl

/-! ### Branches -/

section
variable {s : State} {c : Nat} {body : State → State} {npc : Word}

/-- An instruction that does no more than to go on at `npc`. -/
theorem goes_issued (hs : Issues s c) (h : body (issued c s) = vretireTo c npc (issued c s)) :
    ∃ t, vop c 0 body s = .next t ∧ RegSet (issued c s) t c 0 0 ∧ Retires (issued c s) t c npc [] ∧
      t = { issued c s with regs := t.regs, vc := t.vc } := result_issued hs (by decide) h

theorem illegal_taken (hs : Issues s c) (htw : (issued c s).bit F.PSTATE_TW c = false) (h : body (issued c s) = villegal c (issued c s)) :
    ∃ t, vop c 0 body s = .next t ∧ TrapTaken (issued c s) t c cILLEGAL 0 ((issued c s).vpc c) 0 0 :=
  ⟨_, vop_issues hs, h ▸ trapTaken_villegal htw⟩

end

/-- Settles O7: a transfer of control retires to its target (`goes_issued`), a call with the next address in W11 (`result_issued`). -/
theorem branchCallForms : Obligations.BranchCallForms := by
  unfold Obligations.BranchCallForms
  intro s c rs1 cond d22 d26 imm hs hcond u pc f N Z C V far22 far26 far16 goes calls
  have hgoes : ∀ {body : State → State} {npc : Word}, body u = vretireTo c npc u → ∃ t, vop c 0 body s = .next t ∧ RegSet u t c 0 0 ∧
      Retires u t c npc [] ∧ t = { u with regs := t.regs, vc := t.vc } := fun h => goes_issued hs h
  refine ⟨fun b hb => hgoes ?_, fun htw => illegal_taken hs htw ?_, hgoes ?_, hgoes ?_, ?_, hgoes ?_, ?_, hgoes rfl⟩
  · have h : condHolds cond (u.fld F.FLAGS_NZCV c) = some b := condHolds_table f (cond, b) hb
    simp only [h, vrel_eq, vretire]
    cases b
    · rfl
    · rfl
  · simp only [condHolds_reserved]
  · simp only [vrel_eq, vretire]
    split
    · rfl
    · rfl
  · simp only [vrel_eq, vretire]
    split
    · rfl
    · rfl
  · exact result_issued hs (by decide) (by simp only [vrel_eq]; rfl)
  · simp only [vrel_eq]
    rfl
  · exact result_issued hs (by decide) rfl

/-! ### Windows (R211) -/

/-- Makes window `w` the current one, with `d` callers' windows resident. -/
def moveWindow (c w d : Nat) (s : State) : State := (s.setFld F.WSTATE_CWP c 0 w).setFld F.WSTATE_WDEPTH c 0 d

theorem moveWindow_retires (s : State) (c : Nat) {w d : Nat} (hw : w < 16) (hd : d < 16) :
    (vretire c (moveWindow c w d s)).fld F.WSTATE_CWP c = w ∧ (vretire c (moveWindow c w d s)).fld F.WSTATE_WDEPTH c = d ∧
    ((vretire c (moveWindow c w d s)).vc.get c).regs = (s.vc.get c).regs ∧
    Retires s (vretire c (moveWindow c w d s)) c (s.vpc c + 4) [(F.WSTATE_CWP, c), (F.WSTATE_WDEPTH, c)] ∧
    vretire c (moveWindow c w d s) =
      { s with regs := (vretire c (moveWindow c w d s)).regs, vc := (vretire c (moveWindow c w d s)).vc } := by
  have hmove : OnlyCore s (moveWindow c w d s) c [(F.WSTATE_CWP, c), (F.WSTATE_WDEPTH, c)] :=
    ((OnlyCore.refl _ _ _).setFld _ _ _ _ (by simp)).setFld _ _ _ _ (by simp)
  have hsame := fldSame_vretireTo (moveWindow c w d s) c (s.vpc c + 4)
  refine ⟨?_, ?_, vretireTo_regs _ _ _, hmove.retires (by simp; decide) _, hmove.retire_frame _⟩
  · exact (hsame.fld_id (by simp [retireFs]; decide) c 0).trans ((fld_setFld_id _ _ _ _ _ _ _ _ (by decide)).trans
      ((fld_setFld_same _ _ _ _ _).trans (Nat.mod_eq_of_lt hw)))
  · exact (hsame.fld_id (by simp [retireFs]; decide) c 0).trans ((fld_setFld_same _ _ _ _ _).trans (Nat.mod_eq_of_lt hd))

/-- Outside the trap window, W0 to W3 of a window are W12 to W15 of the one before it. -/
theorem vget_shared {s t : State} {c k : Nat} (hk : k < 4) (hregs : (t.vc.get c).regs = (s.vc.get c).regs)
    (hcwp : t.fld F.WSTATE_CWP c = (s.fld F.WSTATE_CWP c + 1) % 12) (hs : s.bit F.PSTATE_TW c = false) (ht : t.bit F.PSTATE_TW c = false) :
    t.vget c (16 + k) = s.vget c (28 + k) := by
  have hphys : vphys t c (16 + k) = vphys s c (28 + k) := by
    simp only [vphys, hs, ht, hcwp, Bool.false_eq_true, if_false]
    split_ifs <;> omega
  rw [State.vget, State.vget, if_neg (by omega), if_neg (by omega), hregs, hphys]

/-- Settles O8: a move of the window retires (`moveWindow_retires`), and neighbours share four registers (`vget_shared`). -/
theorem windowForms : Obligations.WindowForms := by
  unfold Obligations.WindowForms
  intro s c hs u w d
  refine ⟨fun hd hw => ?_, fun hd hd' hw => ?_, fun htw => ⟨fun hd => ?_, fun hd => ?_⟩⟩
  · obtain ⟨hcwp, hdepth, hregs, hret, hframe⟩ := moveWindow_retires u c (w := (w + 1) % 12) (d := d + 1) (by omega) (by omega)
    refine ⟨vretire c (moveWindow c ((w + 1) % 12) (d + 1) u), (vop_issues hs).trans ?_, hcwp, hdepth, fun htw k hk => ?_, hregs, hret, hframe⟩
    · exact congrArg _ (if_pos hd)
    · obtain ⟨-, -, -, hsame, -⟩ := hret
      refine vget_shared hk hregs hcwp htw ?_
      rw [State.bit, hsame.fld_id (by simp; decide)]
      exact htw
  · obtain ⟨hcwp, hdepth, hregs, hret, hframe⟩ := moveWindow_retires u c (w := (w + 11) % 12) (d := d - 1) (by omega) (by omega)
    exact ⟨vretire c (moveWindow c ((w + 11) % 12) (d - 1) u), (vop_issues hs).trans (congrArg _ (if_pos hd)), hcwp, hdepth, hregs, hret, hframe⟩
  · refine ⟨_, (vop_issues hs).trans (congrArg _ (if_neg (Nat.not_lt.2 hd))), trapTaken_vtrapAt htw (by decide) (by decide) (by decide)⟩
  · refine ⟨_, (vop_issues hs).trans (congrArg _ (if_neg ?_)), trapTaken_vtrapAt htw (by decide) (by decide) (by decide)⟩
    rw [show (issued c s).fld F.WSTATE_WDEPTH c = 0 from hd]
    decide

end Sys2Proof.Machine
end

section
/-!
SUPPORT. Fences, WAIT, the trap instruction and the return from a trap (R233, R240, R244, R255, R258, R261).
-/
namespace Sys2Proof.Machine
open Claims

/-! ### The source presented to a core (R653) -/

/-- The fields that decide it. -/
def presentFs : List Field := [F.IRQ_SRC_PENDING, F.IRQ_SRC_ENABLE, F.IRQ_SRC_ACTIVE, F.IRQ_SRC_PRIO, F.IRQ_SRC_KIND, F.IRQ_SRC_INDEX,
  F.IRQ_CC_THRESH_THRESH, F.IRQ_SC_THRESH_THRESH]

theorem irqPresented_congr {s t : State} (hwin : t.irqWin = s.irqWin) (h : ∀ f ∈ presentFs, ∀ u i, t.fld f u i = s.fld f u i) (x : Nat) :
    irqPresented t x = irqPresented s x := by
  simp only [presentFs, List.forall_mem_cons] at h
  obtain ⟨hpending, henable, hactive, hprio, hkind, hindex, hcc, hsc, -⟩ := h
  have hdeliver : irqDeliverable t x = irqDeliverable s x := by
    funext n
    simp only [irqDeliverable, irqTarget, State.bit, hpending, henable, hactive, hprio, hkind, hindex, hcc, hsc]
    rfl
  simp only [irqPresented, irqPending, State.bit, hwin, hpending, hprio, hdeliver]

/-! ### Waiting for earlier accesses (R233, R255, R258, R261) -/

section
variable {s : State} {c k : Nat}

theorem vdrain_held (h : vstoresOut s c = true) : vdrain c k s = s.updVc c (fun v => { v with wait := .drain k }) := by
  have h' : vstoresOut (s.updVc c (fun v => { v with wait := .drain k })) c = true := h
  rw [vdrain, vdrained, if_pos h']

/-- The state in which a fence has retired. -/
def vfenced (c k : Nat) (s : State) : State := vretire c (s.updVc c (fun v => { v with wait := .drain k }))

theorem vdrain_done (h : vstoresOut s c = false) :
    vdrain c k s = if k = 3 && !vwakes (vfenced c k s) c then venterWait c (vfenced c k s) else vfenced c k s := by
  have h' : vstoresOut (s.updVc c (fun v => { v with wait := .drain k })) c = false := h
  rw [vdrain, vdrained, if_neg (by rw [h']; decide), updVc_vc_same]
  rfl

theorem vfenced_done (c k : Nat) (s : State) (ws : List (Field × Nat)) (hws : ∀ x ∈ ws, F.RETIRED.id ≠ x.1.id) :
    RegSet s (vfenced c k s) c 0 0 ∧ Retires s (vfenced c k s) c (s.vpc c + 4) ws ∧
    vfenced c k s = { s with regs := (vfenced c k s).regs, vc := (vfenced c k s).vc } := by
  have hw := onlyCore_wait s c (.drain k) ws
  have ht : vfenced c k s = vretireTo c (s.vpc c + 4) (s.updVc c (fun v => { v with wait := .drain k })) := by rw [← hw.vpc]; rfl
  have hregs : ((vretireTo c (s.vpc c + 4) (s.updVc c (fun v => { v with wait := .drain k }))).vc.get c).regs = (s.vc.get c).regs := by
    rw [vretireTo_regs, updVc_vc_same]
  rw [ht]
  have hsame := List.append_nil (retireFs c) ▸ (onlyCore_wait s c (.drain k) []).retire_fldSame (s.vpc c + 4)
  exact ⟨regSet_none (vget_fldSame hregs hsame (retireFs_windowFs c)), hw.retires hws _, hw.retire_frame _⟩

theorem vwakes_venterWait (c x : Nat) (s : State) : vwakes (venterWait c s) x = vwakes s x := by
  have hfs : ∀ f ∈ presentFs, f.id ≠ F.CC_STATUS_STATE.id := by decide
  have hfld : ∀ f u i, f.id ≠ F.CC_STATUS_STATE.id → (venterWait c s).fld f u i = s.fld f u i := fun f u i hf => fld_setFld_id _ _ _ _ _ _ _ _ hf
  have h : irqPresented (venterWait c s) (tgtCc x) = irqPresented s (tgtCc x) := 
    irqPresented_congr (s := s) (t := venterWait c s) rfl (fun f hf u i => hfld f u i (hfs f hf)) (tgtCc x)
  rw [vwakes, h]
  rfl

end

/-! ### Return from a trap (R244, R739) -/

/-- What ERET writes. -/
def eretWrites (s : State) (c : Nat) : List (Field × Nat) :=
  [(F.PSTATE_TRAPDZ, s.fld F.TPSTATE_TRAPDZ c), (F.PSTATE_IE, s.fld F.TPSTATE_IE c), (F.PSTATE_TASK, s.fld F.TPSTATE_TASK c), (F.PSTATE_TW, 0)]

/-- The return itself, before the monitor is left. -/
def vreturned (c : Nat) (s : State) : State := setFlds c (eretWrites s c) (vretireTo c (BitVec.ofNat 64 (s.fld F.TPC c)) s)

theorem exec_eret {s : State} {c : Nat} (hs : Issues s c) (h : (issued c s).bit F.PSTATE_TASK c = false) :
    exec (.eret c 0) s = .next (vmonExit c (vreturned c (issued c s))) :=
  (vop_issues hs).trans (congrArg _ (vsup_supervisor h))

theorem vreturned_writes (c : Nat) (s : State) : ∀ x ∈ eretWrites s c, (vreturned c s).fld x.1 c = x.2 % 2 ^ x.1.w :=
  fun _ hx => fld_setFlds (by simp only [eretWrites, List.map_cons, List.map_nil]; decide) c _ hx

theorem vreturned_vc (c : Nat) (s : State) : (vreturned c s).vc = (vretireTo c (BitVec.ofNat 64 (s.fld F.TPC c)) s).vc := by
  rw [vreturned, (onlyRegs_setFlds _ _ _).1]

/-- The fields of core `c` that the return may change. -/
def eretFs (c : Nat) : List (Field × Nat) := retireFs c ++ [(F.PSTATE_TRAPDZ, c), (F.PSTATE_IE, c), (F.PSTATE_TASK, c), (F.PSTATE_TW, c)]

theorem fldSame_vreturned (c : Nat) (s : State) : FldSame s (vreturned c s) (eretFs c) :=
  ((fldSame_vretireTo s c _).mono (List.subset_append_left _ _)).trans ((onlyRegs_setFlds c _ _).2.mono (List.subset_append_right _ _))

theorem vreturned_frame (c : Nat) (s : State) : vreturned c s = { s with regs := (vreturned c s).regs, vc := (vreturned c s).vc } := by
  have h := vretireTo_frame s c (BitVec.ofNat 64 (s.fld F.TPC c))
  have h' := (onlyRegs_setFlds c (eretWrites s c) (vretireTo c (BitVec.ofNat 64 (s.fld F.TPC c)) s)).1
  rw [vreturned_vc]
  exact h'.trans (congrArg (fun x : State => { x with regs := (vreturned c s).regs }) h)

/-- Leaving the monitor changes MON, MONEXIT and the step that is armed. -/
theorem vmonExit_cases (c : Nat) (s : State) : vmonExit c s = s ∧ s.bit F.DCTL_MONEXIT c = false ∨
    ∃ b, vmonExit c s = (setFlds c [(F.DCTL_MON, 0), (F.DCTL_MONEXIT, 0)] s).updVc c (fun k => { k with stepArmed := b }) := by
  unfold vmonExit
  split
  · exact .inr ⟨_, rfl⟩
  · next h => exact .inl ⟨rfl, by simpa using h⟩

/-- The fields that leaving the monitor may change. -/
def monFs (c : Nat) : List (Field × Nat) := [(F.DCTL_MON, c), (F.DCTL_MONEXIT, c)]

theorem fldSame_vmonExit (c : Nat) (s : State) : FldSame s (vmonExit c s) (monFs c) := by
  obtain ⟨he, -⟩ | ⟨b, he⟩ := vmonExit_cases c s <;> rw [he]
  · exact FldSame.refl _ _
  · exact (onlyRegs_setFlds c [(F.DCTL_MON, 0), (F.DCTL_MONEXIT, 0)] s).2

theorem vmonExit_core {β : Type} (p : VCore → β) (h : ∀ (v : VCore) b, p { v with stepArmed := b } = p v) (c : Nat) (s : State) :
    p ((vmonExit c s).vc.get c) = p (s.vc.get c) := by
  obtain ⟨he, -⟩ | ⟨b, he⟩ := vmonExit_cases c s <;> rw [he]
  rw [updVc_vc_same, h, (onlyRegs_setFlds _ _ _).1]

theorem vmonExit_frame (c : Nat) (s : State) : vmonExit c s = { s with regs := (vmonExit c s).regs, vc := (vmonExit c s).vc } := by
  obtain ⟨he, -⟩ | ⟨b, he⟩ := vmonExit_cases c s <;> rw [he]
  exact congrArg (fun x : State => x.updVc c (fun k => { k with stepArmed := b })) (onlyRegs_setFlds c _ s).1

theorem vmonExit_leaves {c : Nat} {s : State} (h : s.bit F.DCTL_MONEXIT c = true) :
    (vmonExit c s).fld F.DCTL_MON c = 0 ∧ (vmonExit c s).fld F.DCTL_MONEXIT c = 0 := by
  obtain ⟨-, hoff⟩ | ⟨b, he⟩ := vmonExit_cases c s
  · simp [h] at hoff
  · rw [he]
    have hread : ∀ x ∈ [(F.DCTL_MON, 0), (F.DCTL_MONEXIT, 0)], (setFlds c [(F.DCTL_MON, 0), (F.DCTL_MONEXIT, 0)] s).fld x.1 c = x.2 % 2 ^ x.1.w :=
      fun x hx => fld_setFlds (by decide) c s hx
    simp only [List.forall_mem_cons] at hread
    obtain ⟨hmon, hexit, -⟩ := hread
    exact ⟨hmon, hexit⟩

/-! ### Fault-halt (R250, R251) -/

/-- What a fault-halt records. -/
def haltWrites (s : State) (c cause access : Nat) (pc addr : Word) : List (Field × Nat) :=
  [(F.CC_FAULT_VALID, 1), (F.CC_FAULT_FIRST, s.fld F.TCAUSE_CAUSE c), (F.CC_FAULT_ACCESS, access), (F.CC_FAULT_CAUSE, cause), (F.CC_FAULT_PC_PC, pc.toNat),
    (F.CC_FAULT_ADDR_ADDR, addr.toNat), (F.CC_STATUS_STATE, 3)]

theorem vfaultHalt_eq (c cause access : Nat) (pc addr : Word) (s : State) : vfaultHalt c cause access pc addr s =
    irqSample (4 * c) ((setFlds c (haltWrites s c cause access pc addr) s).updVc c (fun k => { k with wait := .none })) := rfl

/-- In the trap window a condition halts the core, which keeps its registers. -/
theorem vfaultHalt_records (s : State) {c cause : Nat} (hcause : cause < 32) (access : Nat) (pc addr : Word) :
    (vfaultHalt c cause access pc addr s).fld F.CC_STATUS_STATE c = 3 ∧ (vfaultHalt c cause access pc addr s).fld F.CC_FAULT_VALID c = 1 ∧
    (vfaultHalt c cause access pc addr s).fld F.CC_FAULT_CAUSE c = cause ∧ (vfaultHalt c cause access pc addr s).fld F.CC_FAULT_PC_PC c = pc.toNat ∧
    ((vfaultHalt c cause access pc addr s).vc.get c).regs = (s.vc.get c).regs := by
  have hnodup : ((haltWrites s c cause access pc addr).map (fun x => x.1.id)).Nodup := by simp only [haltWrites, List.map_cons, List.map_nil]; decide
  have hirq : ∀ x ∈ haltWrites s c cause access pc addr, ∀ w ∈ irqFs, x.1.id ≠ w.1.id := by simp only [haltWrites, irqFs, List.forall_mem_cons]; decide
  have hread : ∀ x ∈ haltWrites s c cause access pc addr, (vfaultHalt c cause access pc addr s).fld x.1 c = x.2 % 2 ^ x.1.w := fun x hx => by
    rw [vfaultHalt_eq, (fldSame_irqSample _ _).fld_id (hirq x hx), updVc_fld, fld_setFlds hnodup c s hx]
  simp only [haltWrites, List.forall_mem_cons] at hread
  obtain ⟨hvalid, -, -, hc, hpc, -, hstate, -⟩ := hread
  refine ⟨hstate, hvalid, hc.trans (Nat.mod_eq_of_lt hcause), hpc.trans (Nat.mod_eq_of_lt pc.isLt), ?_⟩
  rw [vfaultHalt_eq, irqSample_proj State.vc (fun _ _ _ _ => rfl), updVc_vc_same, (onlyRegs_setFlds _ _ _).1]

/-! ### The instructions -/

section
variable {s : State} {c : Nat}

/-- WAIT with no access out. -/
theorem wait_done (h : vstoresOut s c = false) :
    RegSet s (vdrain c 3 s) c 0 0 ∧ Retires s (vdrain c 3 s) c (s.vpc c + 4) [(F.CC_STATUS_STATE, c)] ∧
    vdrain c 3 s = { s with regs := (vdrain c 3 s).regs, vc := (vdrain c 3 s).vc, deepWait := (vdrain c 3 s).deepWait } ∧
    (vdrain c 3 s).fld F.CC_STATUS_STATE c = (if vwakes (vdrain c 3 s) c then s.fld F.CC_STATUS_STATE c else 2) ∧
    (vwakes (vdrain c 3 s) c = false → ((vdrain c 3 s).deepWait = true ↔ s.fld F.PWR_MODE_MODE ∈ [1, 2, 3])) := by
  obtain ⟨hregs, hret, hframe⟩ := vfenced_done c 3 s [(F.CC_STATUS_STATE, c)] (by simp; decide)
  obtain ⟨-, -, -, hsame, -⟩ := id hret
  obtain ⟨-, hret0, -⟩ := vfenced_done c 3 s [] (by simp)
  obtain ⟨-, -, -, hsame0, -⟩ := hret0
  cases hwakes : vwakes (vfenced c 3 s) c
  · have ht : vdrain c 3 s = venterWait c (vfenced c 3 s) := by rw [vdrain_done h, hwakes]; rfl
    have hmode : (vfenced c 3 s).fld F.PWR_MODE_MODE = s.fld F.PWR_MODE_MODE := hsame.fld_id (by simp; decide) 0 0
    rw [ht, vwakes_venterWait, hwakes]
    refine ⟨regSet_setFld hregs _ _ _ _ (by decide), retires_setFld hret _ _ _ (by simp) (by decide) (by decide), ?_, ?_, fun _ => ?_⟩
    · exact congrArg (fun x : State => venterWait c x) hframe
    · exact fld_setFld_same _ _ _ _ _
    · simp [venterWait, hmode, or_assoc]
  · have ht : vdrain c 3 s = vfenced c 3 s := by rw [vdrain_done h, hwakes]; rfl
    rw [ht, hwakes]
    refine ⟨hregs, hret, ?_, ?_, by simp⟩
    · have hdeep : (vfenced c 3 s).deepWait = s.deepWait := by rw [hframe]
      rw [hdeep]
      exact hframe
    · exact hsame0.fld_id (by simp; decide) c 0

end

section
variable {s : State} {c : Nat} (hs : Issues s c)
include hs

theorem wait_supervisor (h : (issued c s).bit F.PSTATE_TASK c = false) : exec (.wait c 0) s = .next (vdrain c 3 (issued c s)) :=
  (vop_issues hs).trans (congrArg _ (vsup_supervisor h))

/-- An instruction that the task level may not issue. -/
theorem priv_taken {body : State → State} (htw : (issued c s).bit F.PSTATE_TW c = false) (h : (issued c s).bit F.PSTATE_TASK c = true) :
    ∃ t, vop c 0 (vsup c body) s = .next t ∧ TrapTaken (issued c s) t c cPRIV 0 ((issued c s).vpc c) 0 0 :=
  ⟨_, (vop_issues hs).trans (congrArg _ (vsup_task h)), trapTaken_vtrapAt htw (by decide) (by decide) (by decide)⟩

/-- TRAP completes before its trap. -/
theorem trap_taken (htw : (issued c s).bit F.PSTATE_TW c = false) (n : BitVec 16) :
    ∃ t, exec (.trap c n 0) s = .next t ∧ TrapTaken (vretire c (issued c s)) t c cSWTRAP 0 ((issued c s).vpc c + 4) 0 n.toNat := by
  have htw' : (vretire c (issued c s)).bit F.PSTATE_TW c = false := by
    rw [State.bit, vretire, (fldSame_vretireTo _ _ _).fld_id (by simp [retireFs]; decide)]
    exact htw
  exact ⟨_, vop_issues hs, trapTaken_vtrap htw' _ (by decide) (by decide) n.isLt⟩

/-- ERET at supervisor level. -/
theorem eret_done (h : (issued c s).bit F.PSTATE_TASK c = false) : ∃ t, exec (.eret c 0) s = .next t ∧
    t.vpc c = BitVec.ofNat 64 ((issued c s).fld F.TPC c) ∧ (∀ x ∈ eretWrites (issued c s) c, t.fld x.1 c = x.2 % 2 ^ x.1.w) ∧
    ((issued c s).bit F.DCTL_MONEXIT c = true → t.fld F.DCTL_MON c = 0 ∧ t.fld F.DCTL_MONEXIT c = 0) ∧
    FldSame (issued c s) t (eretFs c ++ monFs c) ∧ (t.vc.get c).regs = ((issued c s).vc.get c).regs ∧
    t = { issued c s with regs := t.regs, vc := t.vc } := by
  have hexit : (vreturned c (issued c s)).bit F.DCTL_MONEXIT c = (issued c s).bit F.DCTL_MONEXIT c := by
    rw [State.bit, State.bit, (fldSame_vreturned c _).fld_id (by simp [eretFs, retireFs]; decide)]
  have hmon : ∀ x ∈ eretWrites (issued c s) c, ∀ w ∈ monFs c, x.1.id ≠ w.1.id := by simp [eretWrites, monFs]; decide
  refine ⟨_, exec_eret hs h, ?_, fun x hx => ?_, fun hm => vmonExit_leaves (hexit.trans hm), ?_, ?_, ?_⟩
  · rw [State.vpc, vmonExit_core VCore.pc (fun _ _ => rfl), vreturned_vc]
    exact vretireTo_pc _ _ _
  · rw [(fldSame_vmonExit c _).fld_id (hmon x hx), vreturned_writes c _ x hx]
  · exact ((fldSame_vreturned c _).mono (List.subset_append_left _ _)).trans ((fldSame_vmonExit c _).mono (List.subset_append_right _ _))
  · rw [vmonExit_core VCore.regs (fun _ _ => rfl), vreturned_vc, vretireTo_regs]
  · exact frame_trans (vreturned_frame c _) (vmonExit_frame c _)

end

/-- Settles O10, clause by clause: an instruction that waits for earlier accesses (`vfenced_done`, `wait_done`, `vdrain_held`), the return from
a trap (`eret_done`), and the traps that TRAP, a division by zero, a must-be-zero bit and the level take. -/
theorem waitTrapForms : Obligations.WaitTrapForms := by
  unfold Obligations.WaitTrapForms
  constructor
  · intro s c hs u
    refine ⟨fun hout => ⟨?_, fun htask => ?_⟩, fun hout => ⟨?_, fun htask => ?_⟩⟩
    · have hfence : ∀ k, k ≠ 3 → ∃ t, vop c 0 (vdrain c k) s = .next t ∧ RegSet u t c 0 0 ∧ Retires u t c (u.vpc c + 4) [] ∧
          t = { u with regs := t.regs, vc := t.vc } := fun k hk =>
        ⟨_, (vop_issues hs).trans (congrArg _ ((vdrain_done hout).trans (if_neg (by simp [hk])))), vfenced_done c k u [] (by simp)⟩
      simp only [List.forall_mem_cons]
      exact ⟨hfence 0 (by decide), hfence 1 (by decide), hfence 2 (by decide), by simp⟩
    · exact ⟨_, wait_supervisor hs htask, wait_done hout⟩
    · intro i k hi
      simp only [List.mem_cons, Prod.mk.injEq, List.not_mem_nil, or_false] at hi
      obtain ⟨rfl, rfl⟩ | ⟨rfl, rfl⟩ | ⟨rfl, rfl⟩ := hi <;> exact (vop_issues hs).trans (congrArg _ (vdrain_held hout))
    · exact (wait_supervisor hs htask).trans (congrArg _ (vdrain_held hout))
  · intro s c rd rs1 rs2 mbz n hs hrd u
    refine ⟨fun htask => ?_, fun htw => ⟨trap_taken hs htw n, fun hb hdz i r hi => ?_, fun hmbz => ?_, fun htask => ?_⟩, fun htw hmbz => ?_⟩
    · obtain ⟨t, ht, hpc, hwrites, hmon, hsame, hregs, hframe⟩ := eret_done hs htask
      simp only [eretWrites, List.forall_mem_cons] at hwrites
      obtain ⟨htdz, hie, htk, htw, -⟩ := hwrites
      exact ⟨t, ht, hpc, htdz, hie, htk, htw, hmon, hsame, hregs, hframe⟩
    · have hexec := exec_div_zero hs hb hi
      rw [if_pos hdz] at hexec
      obtain ⟨hregs, hflags, hzero, ⟨-, -, -, hsame, -⟩, -⟩ := vdivZero_done (c := c) (r := r) u hrd
      refine ⟨vdivZero c rd r u, _, hexec, hregs, hzero, hflags, trapTaken_vtrap ?_ _ (by decide) (by decide) (by decide)⟩
      rw [State.bit, hsame.fld_id (by simp; decide)]
      exact htw
    · have h : ∀ {body : State → State} {m : Nat}, m ≠ 0 → ∃ t, vop c m body s = .next t ∧ TrapTaken u t c cILLEGAL 0 (u.vpc c) 0 0 := fun hm =>
        ⟨_, vop_illegal hs hm, trapTaken_villegal htw⟩
      have hexit : (if rd = 0 then mbz else 1) ≠ 0 := by split <;> simp [hmbz]
      simp only [List.forall_mem_cons]
      exact ⟨h hmbz, h hmbz, h hmbz, h hmbz, h hmbz, h hmbz, h hmbz, h hmbz, h hmbz, h hmbz, h hmbz, h hmbz, h hmbz, h hmbz, h hmbz, h hmbz,
        h hexit, by simp⟩
    · simp only [List.forall_mem_cons]
      exact ⟨priv_taken hs htw htask, priv_taken hs htw htask, by simp⟩
    · have hhalt : villegal c u = vfaultHalt c cILLEGAL 0 (u.vpc c) 0 u := by rw [villegal, vtrapAt, vtrap, if_pos htw]
      exact ⟨_, (vop_illegal hs hmbz).trans (congrArg _ hhalt), vfaultHalt_records u (by decide) _ _ _⟩

end Sys2Proof.Machine
end

section
/-!
SUPPORT. System registers: what a number names, what MTSR stores in each field, and the two instructions (R214, R215, R219, R220, R246).
-/
namespace Sys2Proof.Machine
open Claims

/-! ### The registers that a number can name -/

/-- The registers of Tables 7.4 and 8.3, and the comparator registers of Table 25.5. -/
def vsrRegs : List Reg := regsOf .vsr ++ [R.DCMP_SEL, R.DCMP_LO, R.DCMP_HI, R.DCMP_CTL, R.DCMP_CNT, R.DCTL, R.DSTATUS]

theorem findReg_mem {rs : List Reg} {n i : Nat} {r : Reg} (h : findReg rs n = some (r, i)) : r ∈ rs := by
  obtain ⟨x, hx, hmap⟩ := List.exists_of_findSome?_eq_some h
  obtain ⟨j, -, hj⟩ := Option.map_eq_some_iff.1 hmap
  obtain ⟨rfl, rfl⟩ := Prod.mk.inj hj
  exact hx

theorem vsrFind_low {s : State} {c n i : Nat} {r : Reg} (hn : n < 0x60) (h : vsrFind s c n = some (r, i)) : r ∈ regsOf .vsr := by
  rw [vsrFind, if_neg (by omega)] at h
  exact findReg_mem h

theorem vsrFind_mem {s : State} {c n i : Nat} {r : Reg} (h : vsrFind s c n = some (r, i)) : r ∈ vsrRegs := by
  unfold vsrFind at h
  split at h
  · refine List.mem_append_right _ ?_
    simp only at h
    split_ifs at h <;> cases h <;> simp
  · exact List.mem_append_left _ (findReg_mem h)

theorem vsrFields_nodup : ∀ r ∈ vsrRegs, (r.fields.map (·.id)).Nodup := by decide

theorem vsrFields_reps : ∀ r ∈ vsrRegs, ∀ f ∈ r.fields, f.reps = 1 := by decide

/-- None of them is staged. -/
theorem vsrFields_acc : ∀ r ∈ vsrRegs, ∀ f ∈ r.fields, f.acc ≠ .rws := by decide

theorem vsrFields_pc : ∀ r ∈ vsrRegs, ∀ f ∈ r.fields, f.id ≠ F.CC_PC_PC.id := by decide

/-- Retirement writes no field that MTSR may write. -/
theorem vsrFields_rw : ∀ r ∈ vsrRegs, ∀ f ∈ r.fields, f.acc = .rw → f.id ≠ F.RETIRED.id ∧ f.id ≠ F.DSTATUS_SKIP.id := by decide

theorem vsrFields_hw : ∀ r ∈ regsOf .vsr, ∀ f ∈ r.fields, f.acc = .hw → f.id ≠ F.RETIRED.id ∧ f.id ≠ F.DSTATUS_SKIP.id := by decide

/-! ### What MTSR stores (R219, R220, R246, R736) -/

section
variable {s t : State} {c n k b : Nat} {f g : Field}

theorem vsrWriteField_cases (h : f.acc ≠ .rws) : vsrWriteField c n f k b s = s ∨
    f.id ≠ F.DCTL_OWN.id ∧ ∃ x, vsrWriteField c n f k b s = s.setFld f c k x := by
  unfold vsrWriteField
  split_ifs with h1 h2 hown h4
  · exact .inl rfl
  · exact .inl rfl
  · exact .inl rfl
  · exact .inl rfl
  · unfold writeField
    cases hacc : f.acc with
    | rws => exact absurd hacc h
    | ro | wo | rc => exact .inl rfl
    | rw | w1c | w1s => exact .inr ⟨hown, _, rfl⟩
    | hw =>
      simp only
      split
      · exact .inr ⟨hown, _, rfl⟩
      · exact .inl rfl

theorem vsrWriteField_onlyRegs (h : f.acc ≠ .rws) : OnlyRegs s (vsrWriteField c n f k b s) [(f, c)] := by
  obtain he | ⟨-, x, he⟩ := vsrWriteField_cases (s := s) (c := c) (n := n) (k := k) (b := b) h <;> rw [he]
  · exact ⟨rfl, FldSame.refl _ _⟩
  · exact onlyRegs_setFld _ _ _ _ _ List.mem_cons_self

/-- Who owns the comparators is not changed. -/
theorem own_vsrWriteField (h : f.acc ≠ .rws) : (vsrWriteField c n f k b s).bit F.DCTL_OWN c = s.bit F.DCTL_OWN c := by
  obtain he | ⟨hid, x, he⟩ := vsrWriteField_cases (s := s) (c := c) (n := n) (k := k) (b := b) h <;> rw [he]
  rw [State.bit, fld_setFld_id _ _ _ _ _ _ _ _ hid.symm]
  rfl

/-- What a field holds after the write depends on what it held and on who owns the comparators alone. -/
theorem fld_vsrWriteField_congr (hfld : t.fld f c k = s.fld f c k) (hown : t.bit F.DCTL_OWN c = s.bit F.DCTL_OWN c) :
    (vsrWriteField c n f k b t).fld f c k = (vsrWriteField c n f k b s).fld f c k := by
  have hplain : ∀ sw, (writeField 0 c sw f k b t).fld f c k = (writeField 0 c sw f k b s).fld f c k := by
    intro sw
    unfold writeField
    cases f.acc with
    | rw | w1c | w1s => simp only [fld_setFld_same, hfld]
    | ro | wo | rc => exact hfld
    | rws => exact hfld
    | hw =>
      cases sw with
      | true => simp only [if_true, fld_setFld_same]
      | false => exact hfld
  unfold vsrWriteField
  rw [hown]
  split_ifs
  · exact hfld
  · exact hfld
  · exact hfld
  · exact hfld
  · exact hplain _

/-- A field that software may write takes its bits. -/
theorem fld_vsrWriteField (hacc : f.acc = .rw ∨ (f.acc = .hw ∧ n < 0x60)) (hcwp : f.id = F.WSTATE_CWP.id → b ≤ 11)
    (hdepth : f.id = F.WSTATE_WDEPTH.id → b ≤ 10) (hown : f.id ≠ F.DCTL_OWN.id) (hn : n < 0x60 ∨ s.bit F.DCTL_OWN c = false) :
    (vsrWriteField c n f k b s).fld f c k = b % 2 ^ f.w := by
  unfold vsrWriteField
  rw [if_neg (by simpa using hcwp), if_neg (by simpa using hdepth), if_neg hown, if_neg ?_]
  · obtain h | ⟨h, hlow⟩ := hacc
    · rw [writeField, h]
      exact fld_setFld_same _ _ _ _ _
    · simp only [writeField, h, hlow, decide_true, Bool.true_or, if_true]
      exact fld_setFld_same _ _ _ _ _
  · obtain hlow | hoff := hn
    · simp [show ¬ 0x61 ≤ n by omega]
    · simp [hoff]

/-- A window that does not exist leaves its field. -/
theorem vsrWriteField_window (h : (f.id = F.WSTATE_CWP.id ∧ 11 < b) ∨ (f.id = F.WSTATE_WDEPTH.id ∧ 10 < b)) : vsrWriteField c n f k b s = s := by
  unfold vsrWriteField
  obtain ⟨hid, hb⟩ | ⟨hid, hb⟩ := h
  · rw [if_pos (by simp [hid, hb])]
  · rw [if_neg (by rw [hid]; simp [F.WSTATE_CWP, F.WSTATE_WDEPTH]), if_pos (by simp [hid, hb])]

theorem vsrWriteField_readOnly (h : f.acc = .ro) : vsrWriteField c n f k b s = s := by
  unfold vsrWriteField writeField
  rw [h]
  simp only [ite_self]

end

/-! ### A whole register -/

section
variable {c n i v : Nat}

/-- MTSR's write of one field. -/
def vsrStore (c n i v : Nat) (f : Field) (s : State) : State := vsrWriteField c n f i (bitsOf v f.lo f.w) s

theorem unpack_eq {r : Reg} (h : ∀ f ∈ r.fields, f.reps = 1) (s : State) :
    r.unpack i v (vsrWriteField c n) s = forL r.fields (vsrStore c n i v) s := by
  refine List.foldl_ext _ _ _ fun s f hf => ?_
  simp [h f hf, forN, vsrStore]

theorem forL_vsrStore_onlyRegs {l : List Field} (h : ∀ f ∈ l, f.acc ≠ .rws) (s : State) :
    OnlyRegs s (forL l (vsrStore c n i v) s) (l.map (fun f => (f, c))) := by
  induction l generalizing s with
  | nil => exact ⟨rfl, FldSame.refl _ _⟩
  | cons f l ih =>
    obtain ⟨hhead, hhead'⟩ := vsrWriteField_onlyRegs (s := s) (c := c) (n := n) (k := i) (b := bitsOf v f.lo f.w) (h f List.mem_cons_self)
    obtain ⟨htail, htail'⟩ := ih (fun g hg => h g (List.mem_cons_of_mem _ hg)) (vsrStore c n i v f s)
    refine ⟨htail.trans (congrArg (fun x : State => { x with regs := (forL l (vsrStore c n i v) (vsrStore c n i v f s)).regs }) hhead), ?_⟩
    exact (hhead'.mono (by simp)).trans (htail'.mono (by simp))

/-- Each field holds what its own write gives it. -/
theorem fld_forL_vsrStore {l : List Field} (hnodup : (l.map (·.id)).Nodup) (hacc : ∀ f ∈ l, f.acc ≠ .rws) (s : State) {f : Field} (hf : f ∈ l) :
    (forL l (vsrStore c n i v) s).fld f c i = (vsrStore c n i v f s).fld f c i := by
  induction l generalizing s with
  | nil => simp at hf
  | cons g l ih =>
    rw [List.map_cons, List.nodup_cons] at hnodup
    obtain ⟨hg, hnodup⟩ := hnodup
    have haccl : ∀ f ∈ l, f.acc ≠ .rws := fun f hf => hacc f (List.mem_cons_of_mem _ hf)
    have hne : ∀ f ∈ l, g.id ≠ f.id := fun f hf e => hg (List.mem_map.2 ⟨f, hf, e.symm⟩)
    rcases List.mem_cons.1 hf with rfl | hf
    · exact (forL_vsrStore_onlyRegs haccl _).2.fld_id (by simpa using hne) c i
    · refine (ih hnodup haccl _ hf).trans (fld_vsrWriteField_congr ?_ (own_vsrWriteField (hacc g List.mem_cons_self)))
      exact (vsrWriteField_onlyRegs (hacc g List.mem_cons_self)).2.fld_id (by simpa using (hne f hf).symm) c i

end

/-! ### MFSR and MTSR -/

theorem vsrTaskRead_iff {n : Nat} : vsrTaskRead n = true ↔ n ∈ [0, 1, 2, 0x30, 0x31, 0x38] := by
  simp [vsrTaskRead, or_assoc]

section
variable {s : State} {c rd rs1 i : Nat} {sr : BitVec 12} {r : Reg} (hs : Issues s c)
include hs

theorem exec_mfsr (h : vsrFind (issued c s) c sr.toNat = some (r, i)) (hlevel : (issued c s).bit F.PSTATE_TASK c = false ∨ vsrTaskRead sr.toNat = true) :
    exec (.mfsr c rd sr 0) s = .next (vretire c ((vsrRead (issued c s) c sr.toNat r i).2.vset c rd (vsrRead (issued c s) c sr.toNat r i).1)) := by
  refine (vop_issues hs).trans (congrArg _ ?_)
  simp only [h]
  rw [if_neg (by obtain hl | hl := hlevel <;> simp [hl])]

theorem exec_mtsr (h : vsrFind (issued c s) c sr.toNat = some (r, i)) (hlevel : (issued c s).bit F.PSTATE_TASK c = false ∨ sr.toNat = 1) :
    exec (.mtsr c sr rs1 0) s =
      .next (vretire c (r.unpack i ((issued c s).vget c rs1).toNat (vsrWriteField c sr.toNat) (issued c s))) := by
  refine (vop_issues hs).trans (congrArg _ ?_)
  simp only [h]
  rw [if_neg (by obtain hl | hl := hlevel <;> simp [hl])]

theorem exec_mfsr_priv (h : vsrFind (issued c s) c sr.toNat = some (r, i)) (htask : (issued c s).bit F.PSTATE_TASK c = true)
    (hread : vsrTaskRead sr.toNat = false) : exec (.mfsr c rd sr 0) s = .next (vtrapAt c cPRIV 0 0 0 (issued c s)) := by
  refine (vop_issues hs).trans (congrArg _ ?_)
  simp only [h, htask, hread]
  rfl

theorem exec_mtsr_priv (h : vsrFind (issued c s) c sr.toNat = some (r, i)) (htask : (issued c s).bit F.PSTATE_TASK c = true) (hn : sr.toNat ≠ 1) :
    exec (.mtsr c sr rs1 0) s = .next (vtrapAt c cPRIV 0 0 0 (issued c s)) := by
  refine (vop_issues hs).trans (congrArg _ ?_)
  simp only [h, htask]
  rw [if_pos (by simpa using hn)]

/-- MFSR of a register other than CYCLE. -/
theorem mfsr_done (hrd : rd < 32) (h : vsrFind (issued c s) c sr.toNat = some (r, i))
    (hlevel : (issued c s).bit F.PSTATE_TASK c = false ∨ vsrTaskRead sr.toNat = true) (hn : sr.toNat ≠ 0x30) :
    ∃ t, exec (.mfsr c rd sr 0) s = .next t ∧ RegSet (issued c s) t c rd (BitVec.ofNat 64 (r.pack i (vsrField (issued c s) c))) ∧
      Retires (issued c s) t c ((issued c s).vpc c + 4) [] ∧ t = { issued c s with regs := t.regs, vc := t.vc } := by
  have hread : vsrRead (issued c s) c sr.toNat r i = (BitVec.ofNat 64 (r.pack i (vsrField (issued c s) c)), issued c s) := if_neg hn
  have hw := onlyCore_vset (issued c s) c rd (BitVec.ofNat 64 (r.pack i (vsrField (issued c s) c))) []
  refine ⟨_, exec_mfsr hs h hlevel, ?_⟩
  rw [hread, vretire, hw.vpc]
  exact ⟨regSet_retire (regSet_vset hrd) _, hw.retires (by simp) _, hw.retire_frame _⟩

/-- MFSR of CYCLE: its last value and the cycles since, which it keeps (log entry 28). -/
theorem mfsr_cycle (hrd : rd < 32) (h : vsrFind (issued c s) c sr.toNat = some (r, i))
    (hlevel : (issued c s).bit F.PSTATE_TASK c = false ∨ vsrTaskRead sr.toNat = true) (hn : sr.toNat = 0x30) :
    ∃ t, let v := BitVec.ofNat 64 ((issued c s).fld F.CYCLE c) + Config.freeValue (issued c s).freeCtr
      exec (.mfsr c rd sr 0) s = .next t ∧ RegSet (issued c s) t c rd v ∧ t.fld F.CYCLE c = v.toNat ∧ t.freeCtr = (issued c s).freeCtr + 1 ∧
      Retires (issued c s) t c ((issued c s).vpc c + 4) [(F.CYCLE, c)] ∧
      t = { issued c s with regs := t.regs, vc := t.vc, freeCtr := t.freeCtr } := by
  let u := issued c s
  let v : Word := BitVec.ofNat 64 (u.fld F.CYCLE c) + Config.freeValue u.freeCtr
  let u1 : State := { u with freeCtr := u.freeCtr + 1 }
  let w := (u1.setFld F.CYCLE c 0 v.toNat).vset c rd v
  have hread : vsrRead u c sr.toNat r i = (v, u1.setFld F.CYCLE c 0 v.toNat) := if_pos hn
  have hcycle : OnlyRegs u1 (u1.setFld F.CYCLE c 0 v.toNat) [(F.CYCLE, c)] := onlyRegs_setFld _ _ _ _ _ List.mem_cons_self
  have hw : OnlyCore u1 w c [(F.CYCLE, c)] := (onlyCore_of_onlyRegs hcycle).trans (onlyCore_vset _ _ _ _ _)
  have ht : exec (.mfsr c rd sr 0) s = .next (vretireTo c (u.vpc c + 4) w) := by
    rw [exec_mfsr hs h hlevel, hread, vretire, hw.vpc]
    rfl
  have hkeep : ∀ n, (u1.setFld F.CYCLE c 0 v.toNat).vget c n = u.vget c n := vget_fldSame rfl hcycle.2 (by simp [windowFs]; decide)
  have hregs : RegSet u w c rd v := fun n hn => by rw [regSet_vset hrd n hn, hkeep]
  have hframe := hw.retire_frame (u.vpc c + 4)
  have hctr : (vretireTo c (u.vpc c + 4) w).freeCtr = u.freeCtr + 1 := by rw [hframe]
  refine ⟨_, ht, regSet_retire hregs _, ?_, hctr, hw.retires (by simp; decide) _, ?_⟩
  · rw [(fldSame_vretireTo _ _ _).fld_id (by simp [retireFs]; decide), fld_vset, fld_setFld_same]
    exact Nat.mod_eq_of_lt v.isLt
  · rw [hctr]
    exact hframe

end

/-- What MTSR leaves in the fields of the register. -/
theorem fld_mtsr {u : State} {c n i v : Nat} {r : Reg} (h : vsrFind u c n = some (r, i)) {f : Field} (hf : f ∈ r.fields)
    (hret : f.id ≠ F.RETIRED.id) (hskip : f.id ≠ F.DSTATUS_SKIP.id) :
    (vretire c (r.unpack i v (vsrWriteField c n) u)).fld f c i = (vsrStore c n i v f u).fld f c i := by
  have hr := vsrFind_mem h
  rw [vretire, (fldSame_vretireTo _ _ _).fld_id (by simp [retireFs, hret, vsrFields_pc r hr f hf, hskip]), unpack_eq (vsrFields_reps r hr)]
  exact fld_forL_vsrStore (vsrFields_nodup r hr) (vsrFields_acc r hr) u hf

theorem onlyRegs_unpack {u : State} {c n i : Nat} {r : Reg} (h : vsrFind u c n = some (r, i)) (v : Nat) :
    OnlyRegs u (r.unpack i v (vsrWriteField c n) u) (r.fields.map (fun f => (f, c))) := by
  rw [unpack_eq (vsrFields_reps r (vsrFind_mem h))]
  exact forL_vsrStore_onlyRegs (vsrFields_acc r (vsrFind_mem h)) u

/-- Number 3 is WSTATE. -/
theorem vsrFind_wstate (s : State) (c : Nat) : vsrFind s c 3 = some (R.WSTATE, 0) := rfl

/-- MTSR of WSTATE (R220). -/
theorem mtsr_wstate (u : State) (c v : Nat) (t : State) (ht : t = vretire c (R.WSTATE.unpack 0 v (vsrWriteField c 3) u)) :
    (v % 16 ≤ 11 → t.fld F.WSTATE_CWP c = v % 16) ∧ (11 < v % 16 → t.fld F.WSTATE_CWP c = u.fld F.WSTATE_CWP c) ∧
    (v / 256 % 16 ≤ 10 → t.fld F.WSTATE_WDEPTH c = v / 256 % 16) ∧ (10 < v / 256 % 16 → t.fld F.WSTATE_WDEPTH c = u.fld F.WSTATE_WDEPTH c) := by
  have hcwp := fld_mtsr (v := v) (vsrFind_wstate u c) (f := F.WSTATE_CWP) (by decide) (by decide) (by decide)
  have hdepth := fld_mtsr (v := v) (vsrFind_wstate u c) (f := F.WSTATE_WDEPTH) (by decide) (by decide) (by decide)
  have hbits : bitsOf v F.WSTATE_CWP.lo F.WSTATE_CWP.w = v % 16 := by simp [bitsOf, F.WSTATE_CWP]
  have hbits' : bitsOf v F.WSTATE_WDEPTH.lo F.WSTATE_WDEPTH.w = v / 256 % 16 := by simp [bitsOf, F.WSTATE_WDEPTH]
  rw [vsrStore, hbits] at hcwp
  rw [vsrStore, hbits'] at hdepth
  subst ht
  rw [hcwp, hdepth]
  refine ⟨fun h => ?_, fun h => ?_, fun h => ?_, fun h => ?_⟩
  · exact (fld_vsrWriteField (.inl rfl) (fun _ => h) (fun e => absurd e (by decide)) (by decide) (.inl (by decide))).trans (Nat.mod_mod _ _)
  · rw [vsrWriteField_window (.inl ⟨rfl, h⟩)]
  · exact (fld_vsrWriteField (.inl rfl) (fun e => absurd e (by decide)) (fun _ => h) (by decide) (.inl (by decide))).trans (Nat.mod_mod _ _)
  · rw [vsrWriteField_window (.inr ⟨rfl, h⟩)]

/-- Settles O9: what a number names decides the instruction (`exec_mfsr`, `exec_mtsr`), and each field of the register is written alone
(`fld_mtsr`). -/
theorem systemRegisterForms : Obligations.SystemRegisterForms := by
  unfold Obligations.SystemRegisterForms
  intro s c rd rs1 sr hs hrd u n task v
  refine ⟨fun r i hfind => ⟨fun hlevel => ?_, fun hlevel hown => ?_, fun htw htask => ⟨fun hn => ?_, fun hn => ?_⟩⟩, fun hfind htw => ?_⟩
  · rw [← vsrTaskRead_iff] at hlevel
    exact ⟨fun hn => mfsr_done hs hrd hfind hlevel hn, fun hn => mfsr_cycle hs hrd hfind hlevel hn⟩
  · have honly := onlyRegs_unpack hfind v
    have hw := onlyCore_of_onlyRegs (c := c) honly
    refine ⟨_, exec_mtsr hs hfind hlevel, ?_, ?_, fun f hf hacc hcwp hdepth hport => ?_, fun hn => ?_, fun f hf hacc hret hskip => ?_, hw.retire_fldSame _,
      hw.retire_frame _⟩
    · rw [vretire, hw.vpc, vretireTo_pc]
    · rw [vretire, vretireTo_regs, honly.1]
    · obtain ⟨hret, hskip⟩ : f.id ≠ F.RETIRED.id ∧ f.id ≠ F.DSTATUS_SKIP.id := by
        obtain hrw | ⟨hhw, hlow⟩ := hacc
        · exact vsrFields_rw r (vsrFind_mem hfind) f hf hrw
        · exact vsrFields_hw r (vsrFind_low hlow hfind) f hf hhw
      refine (fld_mtsr hfind hf hret hskip).trans ((fld_vsrWriteField hacc (fun e => absurd e hcwp) (fun e => absurd e hdepth) hport hown).trans ?_)
      exact Nat.mod_mod _ _
    · have hr : (r, i) = (R.WSTATE, 0) := Option.some.inj (hfind.symm.trans (hn ▸ vsrFind_wstate u c))
      obtain ⟨rfl, rfl⟩ := Prod.mk.inj hr
      exact mtsr_wstate u c v _ (by rw [← hn])
    · rw [fld_mtsr hfind hf hret hskip, vsrStore, vsrWriteField_readOnly hacc]
  · have hread : vsrTaskRead sr.toNat = false := by rw [← Bool.not_eq_true, vsrTaskRead_iff]; exact hn
    exact ⟨_, exec_mfsr_priv hs hfind htask hread, trapTaken_vtrapAt htw (by decide) (by decide) (by decide)⟩
  · exact ⟨_, exec_mtsr_priv hs hfind htask hn, trapTaken_vtrapAt htw (by decide) (by decide) (by decide)⟩
  · simp only [List.forall_mem_cons]
    exact ⟨illegal_taken hs htw (by simp only [show vsrFind (issued c s) c sr.toNat = none from hfind]),
      illegal_taken hs htw (by simp only [show vsrFind (issued c s) c sr.toNat = none from hfind]), by simp⟩

end Sys2Proof.Machine
end

section
/-!
SUPPORT. Data accesses of the control cores: bytes in memory, the checks before an access, and what follows one that is made at once or
requested (R201, R203, R204, R225, R253, R256).
-/
namespace Sys2Proof.Machine
open Claims

/-! ### Bytes in memory -/

@[simp] theorem length_bytesLE (n v : Nat) : (bytesLE n v).length = n := by
  induction n generalizing v with
  | zero => rfl
  | succ n ih => rw [bytesLE, List.length_cons, ih]

theorem getD_bytesLE {n j : Nat} (v : Nat) (h : j < n) : (bytesLE n v).getD j 0 = BitVec.ofNat 8 (v / 256 ^ j) := by
  induction n generalizing v j with
  | zero => omega
  | succ n ih =>
    cases j with
    | zero => simp [bytesLE]
    | succ j => rw [bytesLE, List.getD_cons_succ, ih _ (by omega), Nat.div_div_eq_div_mul, ← Nat.pow_succ']

theorem wrBytes_proj {β : Type} (g : State → β) (h : ∀ (s : State) m e, g { s with mem := m, ecc := e } = g s) (l : List Byte) (a : Nat) (s : State) :
    g (s.wrBytes a l) = g s := by
  induction l generalizing a s with
  | nil => rfl
  | cons b l ih => exact (ih _ _).trans (h s _ _)

theorem rdB_wrBytes (l : List Byte) (a x : Nat) (s : State) :
    (s.wrBytes a l).rdB x = if a ≤ x ∧ x < a + l.length then l.getD (x - a) 0 else s.rdB x := by
  induction l generalizing a s with
  | nil => rw [if_neg (by simp)]; rfl
  | cons b l ih =>
    rw [State.wrBytes, ih, rdB_wrB, List.length_cons]
    by_cases hx : x = a
    · subst hx
      rw [if_neg (by omega), if_pos rfl, if_pos (by omega), Nat.sub_self, List.getD_cons_zero]
    · by_cases hin : a + 1 ≤ x ∧ x < a + 1 + l.length
      · rw [if_pos hin, if_pos (by omega), show x - a = (x - (a + 1)) + 1 by omega, List.getD_cons_succ]
      · rw [if_neg hin, if_neg hx, if_neg (by omega)]

theorem ecc_wrBytes_outside (l : List Byte) {a x : Nat} (s : State) (h : x < a ∨ a + l.length ≤ x) : (s.wrBytes a l).ecc.get x = s.ecc.get x := by
  induction l generalizing a s with
  | nil => rfl
  | cons b l ih =>
    rw [List.length_cons] at h
    rw [State.wrBytes, ih _ (by omega), ecc_wrB, if_neg (by omega)]

/-- The low bytes of a value, stored. -/
theorem wrBytes_bytesLE (s : State) (m w v : Nat) :
    (∀ j < w, (s.wrBytes m (bytesLE w v)).rdB (m + j) = BitVec.ofNat 8 (v / 256 ^ j)) ∧ MemSameBut s (s.wrBytes m (bytesLE w v)) m w := by
  refine ⟨fun j hj => ?_, fun x hx => ⟨?_, ecc_wrBytes_outside _ _ (by rwa [length_bytesLE])⟩⟩
  · rw [rdB_wrBytes, length_bytesLE, if_pos (by omega), Nat.add_sub_cancel_left, getD_bytesLE v hj]
  · rw [rdB_wrBytes, length_bytesLE, if_neg (by omega)]

/-! ### After an access (R732) -/

theorem vdone_eq (c a n : Nat) (ld st : Bool) (s : State) : vdone c a n ld st s = vretire c (watched c a n ld st s) := rfl

section
variable (c a n : Nat) (ld st : Bool) (s : State)

theorem vdone_proj {β : Type} (g : State → β) (h : ∀ (s : State) r v x w l, g { s with regs := r, vc := v, cmpLatch := x, irqWin := w, irqHeld := l } = g s) :
    g (vdone c a n ld st s) = g s := by
  rw [vdone_eq, vretire, vretireTo_frame]
  exact (h _ _ _ (watched c a n ld st s).cmpLatch (watched c a n ld st s).irqWin (watched c a n ld st s).irqHeld).trans (vdataCmp_proj c a n _ _ ld st s g h)

theorem watched_vpc : (watched c a n ld st s).vpc c = s.vpc c := vdataCmp_core c a n _ _ ld st s VCore.pc (fun _ _ _ => rfl)

theorem vdone_vpc : (vdone c a n ld st s).vpc c = s.vpc c + 4 := by
  rw [vdone_eq, vretire, vretireTo_pc, watched_vpc]

theorem vdone_reqs : (vdone c a n ld st s).reqs = s.reqs := vdone_proj c a n ld st s State.reqs (fun _ _ _ _ _ _ => rfl)

theorem vdone_dcache : ((vdone c a n ld st s).vc.get c).dcache = (s.vc.get c).dcache := by
  rw [vdone_eq, vretire, vretireTo_dcache]
  exact vdataCmp_core c a n _ _ ld st s VCore.dcache (fun _ _ _ => rfl)

theorem vdone_mem : (vdone c a n ld st s).mem = s.mem ∧ (vdone c a n ld st s).ecc = s.ecc :=
  ⟨vdone_proj c a n ld st s State.mem (fun _ _ _ _ _ _ => rfl), vdone_proj c a n ld st s State.ecc (fun _ _ _ _ _ _ => rfl)⟩

/-- The instruction retires from the state in which the comparators have observed its access. -/
theorem vdone_retires : Retires (watched c a n ld st s) (vdone c a n ld st s) c (s.vpc c + 4) [] := by
  rw [vdone_eq, vretire, watched_vpc]
  exact (OnlyCore.refl _ _ _).retires (by simp) _

end

/-- An access that stores nothing in memory. -/
theorem memSame_vdone {s w : State} {c a n : Nat} {ld st : Bool} (hmem : w.mem = s.mem) (hecc : w.ecc = s.ecc) : MemSame s (vdone c a n ld st w) := by
  obtain ⟨hmem', hecc'⟩ := vdone_mem c a n ld st w
  intro x
  rw [State.rdB, hmem', hmem, hecc', hecc]
  exact ⟨rfl, rfl⟩

theorem regSet_vdone {s w : State} {c rd a n : Nat} {v : Word} {ld st : Bool} (h : RegSet s w c rd v) : RegSet s (vdone c a n ld st w) c rd v := by
  have hregs : ((watched c a n ld st w).vc.get c).regs = (w.vc.get c).regs := vdataCmp_core c a n _ _ ld st w VCore.regs (fun _ _ _ => rfl)
  exact regSet_retire (regSet_congr h hregs (fldSame_vdataCmp c a n _ _ ld st w) (by simp [windowFs, cmpFs, irqFs]; decide)) _

/-- An access that writes no register. -/
theorem regSet_vdone_none {s w : State} {c a n : Nat} {ld st : Bool} (hregs : (w.vc.get c).regs = (s.vc.get c).regs) (hflds : w.regs = s.regs) :
    RegSet s (vdone c a n ld st w) c 0 0 :=
  regSet_vdone (regSet_none (vget_fldSame hregs (fldSame_of_regs hflds []) (by simp)))

/-! ### Before an access (R203, R218, R241) -/

section
variable {s : State} {c n access : Nat} {a : Word} {ps : List Nat} {k : State → State}

theorem vcheck_reaches (h : Reaches s c a n ps) : vcheck c a n access ps k s = k s := by
  obtain ⟨halign, hresolve, hallowed⟩ := h
  rw [vcheck, if_neg (by simp [halign]), if_neg (by simp [hresolve, hallowed])]

theorem vcheck_align (h : a.toNat % n ≠ 0) : vcheck c a n access ps k s = vtrapAt c cALIGN access a 0 s := if_pos h

theorem vcheck_address (halign : a.toNat % n = 0) (h : vresolve s a = .bad ∨ vallowed s c a.toNat n ps = false) :
    vcheck c a n access ps k s = vtrapAt c cADDRESS access a 0 s := by
  rw [vcheck, if_neg (by simp [halign]), if_pos (by obtain h | h := h <;> simp [h])]

end

/-! ### Requests (R207, R253) -/

/-- A core that waits for what it has requested to read. -/
theorem vrequest_read (u : State) (c dev addr len : Nat) (x : VWait) : ∃ t p,
    vrequest c dev addr opREAD len [] (.ccRead c) 0 (u.updVc c (fun k => { k with wait := x })) = t ∧ t.reqs = u.reqs ++ [p] ∧ p.pkt.opc = opREAD ∧
    p.pkt.addr = addr ∧ p.pkt.dev = dev ∧ p.pkt.len = len ∧ p.pkt.keyid = u.fld F.KEYATTR c ∧ (t.vc.get c).wait = x ∧ t.vpc c = u.vpc c ∧
    t = { u with vc := t.vc, reqs := t.reqs } := by
  have hcore : (vrequest c dev addr opREAD len [] (.ccRead c) 0 (u.updVc c (fun k => { k with wait := x }))).vc.get c = { u.vc.get c with wait := x } :=
    updVc_vc_same u c _
  refine ⟨_, _, rfl, rfl, rfl, rfl, rfl, rfl, rfl, ?_, ?_, rfl⟩
  · rw [hcore]
  · rw [State.vpc, hcore]
    rfl

/-- A store that is posted. -/
theorem vrequest_write (u : State) (c dev addr len x : Nat) (data : List Byte) : ∃ t p,
    vrequest c dev addr opWRITE len data (.ccStore c x) 0 u = t ∧ t = { u with reqs := u.reqs ++ [p] } ∧ p.pkt.opc = opWRITE ∧ p.pkt.addr = addr ∧
    p.pkt.dev = dev ∧ p.pkt.len = len ∧ p.pkt.data = data ∧ p.why = .ccStore c x :=
  ⟨_, _, rfl, rfl, rfl, rfl, rfl, rfl, rfl, rfl⟩

/-! ### Loads -/

section
variable {s : State} {c rd rs1 rs2 w : Nat} {imm : BitVec 16} {i : Instr} (hs : Issues s c)
include hs

theorem exec_load {sgn : Bool} (hi : (i, w, sgn) ∈ [(Instr.ld c rd rs1 imm, 8, false), (.lw c rd rs1 imm, 4, true), (.lwu c rd rs1 imm, 4, false),
      (.lh c rd rs1 imm, 2, true), (.lhu c rd rs1 imm, 2, false), (.lb c rd rs1 imm, 1, true), (.lbu c rd rs1 imm, 1, false)]) :
    exec i s = .next (vload c rd w sgn (vea (issued c s) c rs1 imm) (issued c s)) := by
  simp only [List.mem_cons, Prod.mk.injEq, List.not_mem_nil, or_false] at hi
  obtain ⟨rfl, rfl, rfl⟩ | ⟨rfl, rfl, rfl⟩ | ⟨rfl, rfl, rfl⟩ | ⟨rfl, rfl, rfl⟩ | ⟨rfl, rfl, rfl⟩ | ⟨rfl, rfl, rfl⟩ | ⟨rfl, rfl, rfl⟩ := hi <;>
    exact vop_issues hs

theorem exec_store (hi : (i, w) ∈ [(Instr.sd c rs2 rs1 imm, 8), (.sw c rs2 rs1 imm, 4), (.sh c rs2 rs1 imm, 2), (.sb c rs2 rs1 imm, 1)]) :
    exec i s = .next (vstore c w ((issued c s).vget c rs2).toNat (vea (issued c s) c rs1 imm) (issued c s)) := by
  simp only [List.mem_cons, Prod.mk.injEq, List.not_mem_nil, or_false] at hi
  obtain ⟨rfl, rfl⟩ | ⟨rfl, rfl⟩ | ⟨rfl, rfl⟩ | ⟨rfl, rfl⟩ := hi <;> exact vop_issues hs

end

section
variable {u : State} {c rd w : Nat} {sgn : Bool} {a : Word}

/-- Where a load finds its value at once: the core's own memories and the lines of the data cache (R201, R204). -/
def LoadsNow (u : State) (c : Nat) (a : Word) (w v : Nat) : Prop :=
  (∃ off, vresolve u a = .lim off ∧ v = ofBytesLE ((List.range w).map (fun j => limByte u c (off + j)))) ∨
  (∃ off, vresolve u a = .ldm off ∧ v = ofBytesLE ((List.range w).map (fun j => u.rdB (aPriv c (0x1_0000 + off) + j)))) ∨
  (∃ dev l ln, vresolve u a = .noc dev l ∧ vcacheable u c a = true ∧
    dline u c (sysAddr dev l) (u.fld F.KEYATTR c) = some ln ∧ v = ofBytesLE ((ln.data.drop (l % 64)).take w))

theorem vload_now {v : Nat} (hreach : Reaches u c a w [0]) (h : LoadsNow u c a w v) : vload c rd w sgn a u = vloaded c rd w sgn a.toNat v u := by
  rw [vload, vcheck_reaches hreach]
  obtain ⟨off, hat, rfl⟩ | ⟨off, hat, rfl⟩ | ⟨dev, l, ln, hat, hcache, hline, rfl⟩ := h
  · simp only [hat]
  · simp only [hat]
    rfl
  · simp only [hat, hcache, if_true, hline]
    rfl

theorem vloaded_done (hrd : rd < 32) (v : Nat) :
    RegSet u (vloaded c rd w sgn a.toNat v u) c rd (extend w sgn v) ∧
    Retires (watched c a.toNat w true false (u.vset c rd (extend w sgn v))) (vloaded c rd w sgn a.toNat v u) c (u.vpc c + 4) [] ∧
    MemSame u (vloaded c rd w sgn a.toNat v u) := by
  have hret := vdone_retires c a.toNat w true false (u.vset c rd (extend w sgn v))
  rw [vpc_vset] at hret
  refine ⟨regSet_vdone (regSet_vset hrd), hret, memSame_vdone ?_ ?_⟩
  · rw [(onlyCore_vset u c rd (extend w sgn v) []).1]
  · rw [(onlyCore_vset u c rd (extend w sgn v) []).1]

theorem vload_uncached {dev l : Nat} (hreach : Reaches u c a w [0]) (hat : vresolve u a = .noc dev l) (hcache : vcacheable u c a = false) :
    vload c rd w sgn a u = vrequest c dev l opREAD (w - 1) [] (.ccRead c) 0 (u.updVc c (fun k => { k with wait := .load rd w sgn a.toNat })) := by
  rw [vload, vcheck_reaches hreach]
  simp only [hat, hcache, Bool.false_eq_true, if_false]

theorem vload_missing {dev l : Nat} (hreach : Reaches u c a w [0]) (hat : vresolve u a = .noc dev l) (hcache : vcacheable u c a = true)
    (hline : dline u c (sysAddr dev l) (u.fld F.KEYATTR c) = none) : vload c rd w sgn a u =
      vrequest c dev (l / 64 * 64) opREAD 63 [] (.ccRead c) 0 (u.updVc c (fun k => { k with wait := .fillLoad rd w sgn a.toNat })) := by
  rw [vload, vcheck_reaches hreach]
  simp only [hat, hcache, if_true, hline]

end

/-! ### Stores -/

section
variable {u : State} {c w v : Nat} {a : Word}

/-- Where a store is made at once, at memory address `m`: a LIM that may be written, and the LDM with no store out (R201, R256). -/
def StoresNow (u : State) (c : Nat) (a : Word) (m : Nat) : Prop :=
  (∃ off, vresolve u a = .lim off ∧ limWritable u c off = true ∧ m = aPriv c off) ∨
  (∃ off, vresolve u a = .ldm off ∧ vstoresOut u c = false ∧ m = aPriv c (0x1_0000 + off))

theorem vstore_now {m : Nat} (hreach : Reaches u c a w [1]) (h : StoresNow u c a m) :
    vstore c w v a u = vdone c a.toNat w false true (u.wrBytes m (bytesLE w v)) := by
  rw [vstore, vcheck_reaches hreach]
  obtain ⟨off, hat, hwritable, rfl⟩ | ⟨off, hat, hout, rfl⟩ := h
  · simp only [hat, hwritable, if_true]
  · simp only [hat, hout, Bool.false_eq_true, if_false, vldmStore]

theorem vstore_now_done (m : Nat) :
    (∀ j < w, (vdone c a.toNat w false true (u.wrBytes m (bytesLE w v))).rdB (m + j) = BitVec.ofNat 8 (v / 256 ^ j)) ∧
    MemSameBut u (vdone c a.toNat w false true (u.wrBytes m (bytesLE w v))) m w ∧
    RegSet u (vdone c a.toNat w false true (u.wrBytes m (bytesLE w v))) c 0 0 ∧
    Retires (watched c a.toNat w false true (u.wrBytes m (bytesLE w v))) (vdone c a.toNat w false true (u.wrBytes m (bytesLE w v))) c (u.vpc c + 4) [] := by
  obtain ⟨hbytes, hrest⟩ := wrBytes_bytesLE u m w v
  obtain ⟨hmem, hecc⟩ := vdone_mem c a.toNat w false true (u.wrBytes m (bytesLE w v))
  have hvc : (u.wrBytes m (bytesLE w v)).vc = u.vc := wrBytes_proj State.vc (fun _ _ _ => rfl) _ _ _
  have hret := vdone_retires c a.toNat w false true (u.wrBytes m (bytesLE w v))
  rw [show (u.wrBytes m (bytesLE w v)).vpc c = u.vpc c by rw [State.vpc, hvc]; rfl] at hret
  refine ⟨fun j hj => ?_, fun x hx => ?_, ?_, hret⟩
  · rw [State.rdB, hmem]
    exact hbytes j hj
  · rw [State.rdB, hmem, hecc]
    exact hrest x hx
  · exact regSet_vdone_none (by rw [hvc]) (wrBytes_proj State.regs (fun _ _ _ => rfl) _ _ _)

theorem vstore_uncached {dev l : Nat} (hreach : Reaches u c a w [1]) (hat : vresolve u a = .noc dev l) (hcache : vcacheable u c a = false) :
    ∃ t p, vstore c w v a u = t ∧ t.reqs = u.reqs ++ [p] ∧ p.pkt.opc = opWRITE ∧ p.pkt.addr = l ∧ p.pkt.dev = dev ∧ p.pkt.len = w - 1 ∧
      p.pkt.data = bytesLE w v ∧ p.why = .ccStore c a.toNat ∧ t.vpc c = u.vpc c + 4 ∧ RegSet u t c 0 0 ∧ MemSame u t := by
  have hstore : vstore c w v a u = vdone c a.toNat w false true (vrequest c dev l opWRITE (w - 1) (bytesLE w v) (.ccStore c a.toNat) 0 u) := by
    rw [vstore, vcheck_reaches hreach]
    simp only [hat, hcache, Bool.false_eq_true, if_false]
  obtain ⟨x, p, hx, rfl, hopc, haddr, hdev, hlen, hdata, hwhy⟩ := vrequest_write u c dev l (w - 1) a.toNat (bytesLE w v)
  rw [hx] at hstore
  exact ⟨_, p, hstore, vdone_reqs _ _ _ _ _ _, hopc, haddr, hdev, hlen, hdata, hwhy, vdone_vpc _ _ _ _ _ _, regSet_vdone_none rfl rfl,
    memSame_vdone rfl rfl⟩

theorem vstore_cached {dev l : Nat} {ln : DLine} (hreach : Reaches u c a w [1]) (hat : vresolve u a = .noc dev l) (hcache : vcacheable u c a = true)
    (hline : dline u c (sysAddr dev l) (u.fld F.KEYATTR c) = some ln) : ∃ t, vstore c w v a u = t ∧
      (t.vc.get c).dcache = putLine (u.vc.get c).dcache (ln.write l (bytesLE w v)) ∧ t.vpc c = u.vpc c + 4 ∧ RegSet u t c 0 0 ∧ MemSame u t ∧
      t.reqs = u.reqs := by
  have hstore : vstore c w v a u =
      vdone c a.toNat w false true (u.updVc c (fun k => { k with dcache := putLine k.dcache (ln.write l (bytesLE w v)) })) := by
    rw [vstore, vcheck_reaches hreach]
    simp only [hat, hcache, if_true, hline]
  refine ⟨_, hstore, ?_, ?_, regSet_vdone_none ?_ rfl, memSame_vdone rfl rfl, vdone_reqs _ _ _ _ _ _⟩
  · rw [vdone_dcache, updVc_vc_same]
  · rw [vdone_vpc, State.vpc, updVc_vc_same]
    rfl
  · rw [updVc_vc_same]

theorem vstore_protected {off : Nat} (hreach : Reaches u c a w [1]) (hat : vresolve u a = .lim off) (h : limWritable u c off = false) :
    vstore c w v a u = vtrapAt c cADDRESS 3 a 0 u := by
  rw [vstore, vcheck_reaches hreach]
  simp only [hat, h, Bool.false_eq_true, if_false]

end

/-- Settles O4, by where the access finds its bytes: at once (`vload_now`, `vstore_now`), in the cache, or on the network, and by the checks that come
before it. -/
theorem loadStoreForms : Obligations.LoadStoreForms := by
  unfold Obligations.LoadStoreForms
  constructor
  · intro s c rd rs1 imm hs hrd u a i w sgn hi
    have hexec : exec i s = .next (vload c rd w sgn a u) := exec_load hs hi
    refine ⟨fun hreach => ⟨fun v hv => ?_, fun dev l hat => ⟨fun hcache => ?_, fun hcache hline => ?_⟩⟩, fun htw => ⟨fun halign => ?_, fun halign hbad => ?_⟩⟩
    · exact ⟨_, hexec.trans (congrArg _ (vload_now hreach hv)), vloaded_done hrd v⟩
    · obtain ⟨t, p, ht, hp⟩ := vrequest_read u c dev l (w - 1) (.load rd w sgn a.toNat)
      exact ⟨t, p, hexec.trans (congrArg _ ((vload_uncached hreach hat hcache).trans ht)), hp⟩
    · obtain ⟨t, p, ht, hreq, hopc, haddr, hdev, hlen, -, hrest⟩ := vrequest_read u c dev (l / 64 * 64) 63 (.fillLoad rd w sgn a.toNat)
      exact ⟨t, p, hexec.trans (congrArg _ ((vload_missing hreach hat hcache hline).trans ht)), hreq, hopc, haddr, hdev, hlen, hrest⟩
    · exact ⟨_, hexec.trans (congrArg _ (vcheck_align halign)), trapTaken_vtrapAt htw (by decide) (by decide) (by decide)⟩
    · exact ⟨_, hexec.trans (congrArg _ (vcheck_address halign hbad)), trapTaken_vtrapAt htw (by decide) (by decide) (by decide)⟩
  · intro s c rs2 rs1 imm hs u a v i w hi
    have hexec : exec i s = .next (vstore c w v a u) := exec_store hs hi
    refine ⟨fun hreach => ⟨fun m hm => ?_, fun dev l hat => ⟨fun hcache => ?_, fun ln hcache hline => ?_⟩, fun off hat hlim htw => ?_⟩,
      fun htw => ⟨fun halign => ?_, fun halign hbad => ?_⟩⟩
    · exact ⟨_, hexec.trans (congrArg _ (vstore_now hreach hm)), vstore_now_done m⟩
    · obtain ⟨t, p, ht, hp⟩ := vstore_uncached (v := v) hreach hat hcache
      exact ⟨t, p, hexec.trans (congrArg _ ht), hp⟩
    · obtain ⟨t, ht, hdone⟩ := vstore_cached (v := v) hreach hat hcache hline
      exact ⟨t, hexec.trans (congrArg _ ht), hdone⟩
    · exact ⟨_, hexec.trans (congrArg _ (vstore_protected hreach hat hlim)), trapTaken_vtrapAt htw (by decide) (by decide) (by decide)⟩
    · exact ⟨_, hexec.trans (congrArg _ (vcheck_align halign)), trapTaken_vtrapAt htw (by decide) (by decide) (by decide)⟩
    · exact ⟨_, hexec.trans (congrArg _ (vcheck_address halign hbad)), trapTaken_vtrapAt htw (by decide) (by decide) (by decide)⟩

end Sys2Proof.Machine
end

section
/-!
SUPPORT. What happens to a control core between its instructions: interrupt, SBUS and debug event (R242, R254, R655, R738), start and reset
(R238, R239), and the window onto its memories (R729).
-/
namespace Sys2Proof.Claims
open Machine

/-! ### Writes of register fields, one after the other -/

section
variable {s w t : State} {ws : List (Field × Nat)}

theorem OnlyRegs.refl (s : State) (ws : List (Field × Nat)) : OnlyRegs s s ws := ⟨rfl, FldSame.refl _ _⟩

theorem OnlyRegs.trans (h : OnlyRegs s w ws) (k : OnlyRegs w t ws) : OnlyRegs s t ws := by
  obtain ⟨hw, hfld⟩ := h
  obtain ⟨ht, kfld⟩ := k
  exact ⟨ht.trans (congrArg (fun x : State => { x with regs := t.regs }) hw), hfld.trans kfld⟩

theorem OnlyRegs.mono {xs : List (Field × Nat)} (h : OnlyRegs s t ws) (hs : ws ⊆ xs) : OnlyRegs s t xs := ⟨h.1, FldSame.mono h.2 hs⟩

theorem onlyRegs_forL {α : Type} {l : List α} {f : α → State → State} (h : ∀ a ∈ l, ∀ s, OnlyRegs s (f a s) ws) (s : State) :
    OnlyRegs s (forL l f s) ws := by
  induction l generalizing s with
  | nil => exact OnlyRegs.refl s ws
  | cons a l ih => exact (h a List.mem_cons_self s).trans (ih (fun b hb => h b (List.mem_cons_of_mem _ hb)) (f a s))

theorem onlyRegs_setFldIf (s : State) (p : Prop) [Decidable p] (f : Field) (u i v : Nat) (h : (f, u) ∈ ws) :
    OnlyRegs s (if p then s.setFld f u i v else s) ws := by
  split
  · exact onlyRegs_setFld s f u i v h
  · exact OnlyRegs.refl s ws

theorem OnlyRegs.parts (h : OnlyRegs s t ws) : t.vc = s.vc ∧ t.reqs = s.reqs ∧ t.mem = s.mem ∧ t.ecc = s.ecc := by
  rw [h.1]
  exact ⟨rfl, rfl, rfl, rfl⟩

theorem memSame_of_eq (hmem : t.mem = s.mem) (hecc : t.ecc = s.ecc) : MemSame s t := by
  intro a
  rw [State.rdB, State.rdB, hmem, hecc]
  exact ⟨rfl, rfl⟩

theorem OnlyRegs.memSame (h : OnlyRegs s t ws) : MemSame s t := by
  obtain ⟨-, -, hmem, hecc⟩ := h.parts
  exact memSame_of_eq hmem hecc

end

end Sys2Proof.Claims

namespace Sys2Proof.Machine
open Claims

/-! ### Traps between two instructions (R242) -/

/-- The fields that trap entry writes. -/
def trapFs : List Field :=
  [F.TPC, F.TCAUSE_CAUSE, F.TCAUSE_ACCESS, F.TADDR, F.TINFO, F.TPSTATE_TRAPDZ, F.TPSTATE_IE, F.TPSTATE_TASK, F.PSTATE_TASK, F.PSTATE_IE, F.PSTATE_TW]

section
variable {s t : State} {c cause access info : Nat} {tpc taddr : Word}

/-- TINFO holds the low 16 bits of what a trap reports. -/
theorem vtrapEntry_info (s : State) (c cause access : Nat) (tpc taddr : Word) (info : Nat) :
    vtrapEntry c cause access tpc taddr info s = vtrapEntry c cause access tpc taddr (info % 2 ^ 16) s := by
  have hcut : ∀ w : State, w.setFld F.TINFO c 0 info = w.setFld F.TINFO c 0 (info % 2 ^ 16) := fun w => by
    rw [State.setFld, State.setFld, show F.TINFO.w = 16 from rfl, Nat.mod_mod]
  rw [vtrapEntry, hcut]
  rfl

theorem trapTaken_vtrapEntry_mod (s : State) (tpc taddr : Word) (info : Nat) (hcause : cause < 32) (haccess : access < 4) :
    TrapTaken s (vtrapEntry c cause access tpc taddr info s) c cause access tpc taddr (info % 2 ^ 16) := by
  rw [vtrapEntry_info]
  exact trapTaken_vtrapEntry hcause haccess (Nat.mod_lt _ (by decide))

/-- A field that no trap entry writes. -/
theorem fld_trapTaken (h : TrapTaken s t c cause access tpc taddr info) {g : Field} (hg : ∀ f ∈ trapFs, g.id ≠ f.id) (u i : Nat) :
    t.fld g u i = s.fld g u i := by
  obtain ⟨-, -, -, -, -, -, -, -, -, -, -, -, hsame, -⟩ := h
  refine hsame.fld_id (fun w hw => ?_) u i
  obtain ⟨f, hf, rfl⟩ := List.mem_map.1 hw
  exact hg f hf

end

/-! ### Interrupts (R242, R653, R655) -/

/-- A fold that keeps what it has or takes the element it meets ends with an element of the list. -/
theorem foldl_choice_mem {α : Type} {f : Option α → α → Option α} (h : ∀ b x, f b x = b ∨ f b x = some x) {l : List α} {b : Option α} {y : α}
    (hy : l.foldl f b = some y) : b = some y ∨ y ∈ l := by
  induction l generalizing b with
  | nil => exact .inl hy
  | cons x l ih =>
    obtain hb | hmem := ih hy
    · obtain hkeep | htake := h b x
      · exact .inl (hkeep ▸ hb)
      · obtain rfl : x = y := Option.some.inj (htake.symm.trans hb)
        exact .inr List.mem_cons_self
    · exact .inr (List.mem_cons_of_mem _ hmem)

/-- The source presented to a core is pending. -/
theorem irqPresented_pending {s : State} {x n : Nat} (h : irqPresented s x = some n) : n ∈ irqPending s := by
  unfold irqPresented at h
  split at h
  · cases h
  · refine (List.mem_filter.1 ((foldl_choice_mem (fun b m => ?_) h).resolve_left (by simp))).1
    cases b with
    | none => exact .inr rfl
    | some k =>
      simp only
      split
      · exact .inr rfl
      · exact .inl rfl

theorem irqPresented_lt {s : State} {x n : Nat} (h : irqPresented s x = some n) : n < 2048 :=
  List.mem_range.1 (List.mem_filter.1 (irqPresented_pending h)).1

theorem irqSettle_proj {β : Type} (g : State → β) (h : ∀ (s : State) w, g { s with irqWin := w } = g s) (x : Nat) (s : State) :
    g (irqSettle x s) = g s := by
  unfold irqSettle
  split
  · exact h _ _
  · rfl

/-- A claim leaves the source active and no longer pending (R651). -/
theorem irqClaimSrc_claims (n : Nat) (s : State) :
    (irqClaimSrc n s).fld F.IRQ_SRC_PENDING 0 n = 0 ∧ (irqClaimSrc n s).fld F.IRQ_SRC_ACTIVE 0 n = 1 := by
  constructor <;> rw [irqClaimSrc, irqSettle_proj (fun s : State => s.fld _ 0 n) (fun _ _ => rfl), State.setBit]
  · rw [fld_setFld_id _ _ _ _ _ _ _ _ (by decide), State.clrFld, fld_setFld_same]
    rfl
  · rw [fld_setFld_same]
    rfl

/-! ### Debug events (R738, R739) -/

/-- What a debug event ends as it is taken, by its KIND: a request clears its REQ, a comparator's event sets SKIP, a step's clears STEP. -/
def debugEnds (c kind : Nat) (s : State) : State :=
  let s1 := if kind = 1 then s.clrFld F.DBG_REQ_REQ c else s
  let s2 := if kind = 2 then s1.setBit F.DSTATUS_SKIP c else s1
  if kind = 4 then s2.clrFld F.DCTL_STEP c else s2

/-- The core enters the monitor, and the event is no longer pending. -/
def debugEnters (c kind : Nat) (s : State) : State :=
  (s.updVc c (fun v => { v with dbg := vdbgLeft s c kind, dbgAddr := 0 })).setBit F.DCTL_MON c

/-- The state from which the DEBUG trap is taken. -/
def debugClaimed (c kind : Nat) (s : State) : State := debugEnds c kind (debugEnters c kind s)

theorem onlyRegs_debugEnds (c kind : Nat) (s : State) :
    OnlyRegs s (debugEnds c kind s) [(F.DBG_REQ_REQ, c), (F.DSTATUS_SKIP, c), (F.DCTL_STEP, c)] :=
  ((onlyRegs_setFldIf s (kind = 1) F.DBG_REQ_REQ c 0 0 (by simp)).trans (onlyRegs_setFldIf _ (kind = 2) F.DSTATUS_SKIP c 0 1 (by simp))).trans
    (onlyRegs_setFldIf _ (kind = 4) F.DCTL_STEP c 0 0 (by simp))

theorem fldSame_debugEnters (c kind : Nat) (s : State) : FldSame s (debugEnters c kind s) [(F.DCTL_MON, c)] :=
  fldSame_setFld (s.updVc c _) F.DCTL_MON c 0 1 List.mem_cons_self

theorem debugClaimed_monitor (c kind : Nat) (s : State) : (debugClaimed c kind s).fld F.DCTL_MON c = 1 :=
  ((onlyRegs_debugEnds c kind _).2.fld_id (by simp; decide) c 0).trans (fld_setFld_same _ _ _ _ _)

theorem fldSame_debugClaimed (c kind : Nat) (s : State) :
    FldSame s (debugClaimed c kind s) [(F.DCTL_MON, c), (F.DBG_REQ_REQ, c), (F.DSTATUS_SKIP, c), (F.DCTL_STEP, c)] :=
  ((fldSame_debugEnters c kind s).mono (by simp)).trans ((onlyRegs_debugEnds c kind _).2.mono (List.subset_cons_self _ _))

theorem memSame_debugClaimed (c kind : Nat) (s : State) : MemSame s (debugClaimed c kind s) :=
  (onlyRegs_debugEnds c kind (debugEnters c kind s)).memSame

/-! ### The traps (R242, R254, R655, R738) -/

section
variable {s : State} {c : Nat} (hb : vbetween s c = true)
include hb

theorem exec_ccTakeInterrupt {n : Nat} (hie : s.bit F.PSTATE_IE c = true) (hsbus : (s.vc.get c).sbus = false) (hdbg : (s.vc.get c).dbg = 0)
    (hn : irqPresented s (tgtCc c) = some n) :
    exec (.ccTakeInterrupt c) s = .next (vtrapEntry c cINTERRUPT 0 (s.vpc c) 0 n (irqClaimSrc n s)) := by
  refine congrArg _ ((if_pos (by simp [hb, hie, hsbus, hdbg])).trans ?_)
  rw [irqClaim, hn]

theorem exec_ccTakeSbus (hsbus : (s.vc.get c).sbus = true) : exec (.ccTakeSbus c) s = .next (vtrapEntry c cSBUS 0 (s.vpc c)
    (BitVec.ofNat 64 (s.fld F.SERR_ADDR_ADDR c)) (s.fld F.SERR_CODE c) (s.updVc c (fun k => { k with sbus := false }))) :=
  congrArg _ (if_pos (by simp [hb, hsbus]))

theorem exec_ccTakeDebug (hsbus : (s.vc.get c).sbus = false) (hdbg : (s.vc.get c).dbg ≠ 0) :
    ∃ addr, exec (.ccTakeDebug c) s =
      .next (vtrapEntry c cDEBUG 0 (s.vpc c) addr (s.vc.get c).dbg (debugClaimed c ((s.vc.get c).dbg / 0x1000) s)) :=
  ⟨_, congrArg _ (if_pos (by simp [hb, hsbus, hdbg]))⟩

end

/-! ### Reset (R239) -/

/-- The system registers of core `c` cleared. -/
def vcleared (c : Nat) (s : State) : State := forL vsrCleared (fun f s => forN 8 (fun i s => s.clrFld f c i) s) s

theorem onlyRegs_clearCopies (f : Field) (c n : Nat) (s : State) : OnlyRegs s (forN n (fun i s => s.clrFld f c i) s) [(f, c)] :=
  onlyRegs_forL (fun i _ s => onlyRegs_setFld s f c i 0 List.mem_cons_self) s

theorem fld_clearCopies (f : Field) {c n i : Nat} (hi : i < n) (s : State) : (forN n (fun i s => s.clrFld f c i) s).fld f c i = 0 := by
  refine forL_all (fun _ => True) (fun i s => s.fld f c i = 0) (fun _ _ _ _ => trivial) (fun i _ s _ => ?_) (fun i _ j _ hne s _ hj => ?_) trivial
    i (List.mem_range.2 hi)
  · rw [State.clrFld, fld_setFld_same, Nat.zero_mod]
  · rw [State.clrFld, fld_setFld_copy _ _ _ _ _ _ _ _ hne, hj]

/-- The fields of the core's rings and programs that a reset clears (R301). -/
def programFs : List Field := [F.LPQ_TAIL_TAIL, F.LPQ_HEAD_HEAD, F.LCQ_TAIL_TAIL, F.LCQ_HEAD_HEAD, F.LP_STATUS_STATE, F.LP_STATUS_LAST_CODE]

/-- No system register is one of the other fields that a reset writes. -/
theorem vsrCleared_other : ∀ f ∈ vsrCleared, (∀ g ∈ programFs, f.id ≠ g.id) ∧ f.id ≠ F.DBG_REQ_REQ.id ∧ f.id ≠ F.CC_STATUS_STATE.id := by decide

theorem vsrCleared_nodup : (vsrCleared.map (·.id)).Nodup := by decide

theorem fld_vcleared {f : Field} (hf : f ∈ vsrCleared) (c : Nat) (s : State) : (vcleared c s).fld f c = 0 := by
  refine forL_all (fun _ => True) (fun f s => s.fld f c = 0) (fun _ _ _ _ => trivial) (fun f _ s _ => fld_clearCopies f (by decide) s)
    (fun f hf g hg hne s _ h0 => ?_) trivial f hf
  have hid : g.id ≠ f.id := fun e => hne (List.inj_on_of_nodup_map vsrCleared_nodup hg hf e)
  rw [(onlyRegs_clearCopies f c 8 s).2.fld_id (by simpa using hid), h0]

theorem onlyRegs_vcleared (c : Nat) (s : State) : OnlyRegs s (vcleared c s) (vsrCleared.map (fun f => (f, c))) :=
  onlyRegs_forL (fun f hf s => (onlyRegs_clearCopies f c 8 s).mono (by simpa using hf)) s

/-- What a request becomes when core `c` is reset: nothing waits for the core's own. -/
def dropOf (c : Nat) (r : Req) : Req := if r.pkt.init = initCc c then { r with why := .dropped } else r

/-- A reset once the system registers are cleared: the core is held in its reset state, and its requests are dropped. -/
def vheld (c : Nat) (s : State) : State :=
  let s1 := ((s.setFld F.TBASE_BASE c 0 (0x2008_00E0_0000_0000 / 2048)).clrFld F.DBG_REQ_REQ c).setFld F.CC_STATUS_STATE c 0 0
  { s1 with vc := s1.vc.set c {}, reqs := s1.reqs.map (dropOf c) }

theorem vheld_parts (c : Nat) (s : State) : (vheld c s).vc = s.vc.set c {} ∧ (vheld c s).reqs = s.reqs.map (dropOf c) ∧
    (vheld c s).mem = s.mem ∧ (vheld c s).ecc = s.ecc := ⟨rfl, rfl, rfl, rfl⟩

theorem vreset_eq (c : Nat) (s : State) : vreset c s = vheld c (vcleared c s) := rfl

/-- The core's slots are freed, its rings and programs are cleared, and its intake keeps what `left` says (R295, R301). -/
def programReset (c : Nat) (left : Intake) (s : State) : State :=
  (forL programFs (fun f s => s.clrFld f c) (loomCoreReset c s)).updIntake c (fun _ => left)

theorem coreReset_eq (c : Nat) (s : State) : ∃ left, coreReset c s = programReset c left (vreset c s) := ⟨_, rfl⟩

theorem fldSame_updIntake (s : State) (c : Nat) (f : Intake → Intake) (ws : List (Field × Nat)) : FldSame s (s.updIntake c f) ws :=
  fldSame_of_regs rfl ws

theorem loomCoreReset_proj {β : Type} (g : State → β) (h : ∀ (s : State) x y, g { s with slots := x, cmds := y } = g s) (c : Nat) (s : State) :
    g (loomCoreReset c s) = g s := by
  unfold loomCoreReset
  exact (h _ (State.slots _) _).trans (forN_proj g (fun k _ s => h s _ s.cmds) s)

theorem programReset_proj {β : Type} (g : State → β) (h : ∀ (s : State) r x y z, g { s with regs := r, slots := x, cmds := y, intake := z } = g s)
    (c : Nat) (left : Intake) (s : State) : g (programReset c left s) = g s := by
  unfold programReset
  refine (h _ (State.regs _) (State.slots _) (State.cmds _) _).trans ?_
  exact (forL_proj g (fun f _ s => h s _ s.slots s.cmds s.intake) _).trans (loomCoreReset_proj g (fun s x y => h s s.regs x y s.intake) c s)

theorem fldSame_programReset (c : Nat) (left : Intake) (s : State) : FldSame s (programReset c left s) (programFs.map (fun f => (f, c))) := by
  have hslots : (loomCoreReset c s).regs = s.regs := loomCoreReset_proj State.regs (fun _ _ _ => rfl) c s
  have hclears := onlyRegs_forL (l := programFs) (f := fun f s => s.clrFld f c) (ws := programFs.map (fun f => (f, c)))
    (fun f hf s => onlyRegs_setFld s f c 0 0 (List.mem_map.2 ⟨f, hf, rfl⟩)) (loomCoreReset c s)
  rw [programReset]
  exact ((fldSame_of_regs hslots _).trans hclears.2).trans (fldSame_updIntake _ _ _ _)

/-- Beside the register store, the slots, the commands and the intake, a reset changes the core's own state and what its requests wait for. -/
theorem coreReset_parts (c : Nat) (s : State) : (coreReset c s).vc = s.vc.set c {} ∧ (coreReset c s).reqs = s.reqs.map (dropOf c) ∧
    MemSame s (coreReset c s) := by
  obtain ⟨left, he⟩ := coreReset_eq c s
  obtain ⟨hvc, hreqs, hmem, hecc⟩ := vheld_parts c (vcleared c s)
  obtain ⟨hvc', hreqs', hmem', hecc'⟩ := (onlyRegs_vcleared c s).parts
  rw [he, vreset_eq]
  refine ⟨?_, ?_, memSame_of_eq ?_ ?_⟩
  · exact (programReset_proj State.vc (fun _ _ _ _ _ => rfl) _ _ _).trans (hvc.trans (congrArg (SMap.set · c {}) hvc'))
  · exact (programReset_proj State.reqs (fun _ _ _ _ _ => rfl) _ _ _).trans (hreqs.trans (congrArg (List.map (dropOf c)) hreqs'))
  · exact (programReset_proj State.mem (fun _ _ _ _ _ => rfl) _ _ _).trans (hmem.trans hmem')
  · exact (programReset_proj State.ecc (fun _ _ _ _ _ => rfl) _ _ _).trans (hecc.trans hecc')

theorem vheld_registers (c : Nat) (s : State) : (vheld c s).fld F.CC_STATUS_STATE c = 0 ∧
    (vheld c s).fld F.TBASE_BASE c = 0x2008_00E0_0000_0000 / 2048 := by
  refine ⟨fld_setFld_same _ _ _ _ _, ?_⟩
  refine (fld_setFld_id _ F.CC_STATUS_STATE _ _ _ _ _ _ (by decide)).trans ((fld_setFld_id _ F.DBG_REQ_REQ _ _ _ _ _ _ (by decide)).trans ?_)
  exact fld_setFld_same _ _ _ _ _

theorem fldSame_vheld (c : Nat) (s : State) : FldSame s (vheld c s) [(F.TBASE_BASE, c), (F.DBG_REQ_REQ, c), (F.CC_STATUS_STATE, c)] :=
  ((fldSame_setFld s F.TBASE_BASE c 0 _ (by simp)).trans (fldSame_setFld _ F.DBG_REQ_REQ c 0 0 (by simp))).trans
    (fldSame_setFld _ F.CC_STATUS_STATE c 0 0 (by simp))

/-- After a reset TBASE is the LIM base, the core is held, and every other system register reads 0. -/
theorem coreReset_registers (c : Nat) (s : State) : (coreReset c s).fld F.CC_STATUS_STATE c = 0 ∧
    (coreReset c s).fld F.TBASE_BASE c = 0x2008_00E0_0000_0000 / 2048 ∧
    ∀ f ∈ vsrCleared, f.id ≠ F.TBASE_BASE.id → (coreReset c s).fld f c = 0 := by
  obtain ⟨left, he⟩ := coreReset_eq c s
  rw [he, vreset_eq]
  obtain ⟨hstate, hbase⟩ := vheld_registers c (vcleared c s)
  have hkeep : ∀ g : Field, (∀ f ∈ programFs, g.id ≠ f.id) → (programReset c left (vheld c (vcleared c s))).fld g c = (vheld c (vcleared c s)).fld g c :=
    fun g hg => (fldSame_programReset c left _).fld_id (by simpa using hg) c 0
  refine ⟨(hkeep _ (by decide)).trans hstate, (hkeep _ (by decide)).trans hbase, fun f hf hne => ?_⟩
  obtain ⟨hprogram, hreq, hcore⟩ := vsrCleared_other f hf
  rw [hkeep f hprogram, (fldSame_vheld c _).fld_id (by simp [hne, hreq, hcore]), fld_vcleared hf]

theorem dropOf_why {c : Nat} {r : Req} (h : (dropOf c r).pkt.init = initCc c) : (dropOf c r).why = .dropped := by
  by_cases hr : r.pkt.init = initCc c
  · rw [dropOf, if_pos hr]
  · rw [dropOf, if_neg hr] at h
    contradiction

/-! ### The events -/

section
variable {s : State} {c : Nat}

theorem interrupt_taken {n : Nat} (hb : vbetween s c = true) (hie : s.bit F.PSTATE_IE c = true) (hsbus : (s.vc.get c).sbus = false)
    (hdbg : (s.vc.get c).dbg = 0) (hn : irqPresented s (tgtCc c) = some n) :
    ∃ t, exec (.ccTakeInterrupt c) s = .next t ∧ TrapTaken (irqClaimSrc n s) t c cINTERRUPT 0 (s.vpc c) 0 n ∧
      t.fld F.IRQ_SRC_PENDING 0 n = 0 ∧ t.fld F.IRQ_SRC_ACTIVE 0 n = 1 := by
  have hlt := irqPresented_lt hn
  have htrap : TrapTaken (irqClaimSrc n s) (vtrapEntry c cINTERRUPT 0 (s.vpc c) 0 n (irqClaimSrc n s)) c cINTERRUPT 0 (s.vpc c) 0 n :=
    trapTaken_vtrapEntry (by decide) (by decide) (by omega)
  obtain ⟨hpending, hactive⟩ := irqClaimSrc_claims n s
  exact ⟨_, exec_ccTakeInterrupt hb hie hsbus hdbg hn, htrap, (fld_trapTaken htrap (by decide) 0 n).trans hpending,
    (fld_trapTaken htrap (by decide) 0 n).trans hactive⟩

theorem sbus_taken (hb : vbetween s c = true) (hsbus : (s.vc.get c).sbus = true) :
    ∃ t, exec (.ccTakeSbus c) s = .next t ∧ (t.vc.get c).sbus = false ∧
      TrapTaken (s.updVc c (fun k => { k with sbus := false })) t c cSBUS 0 (s.vpc c)
        (BitVec.ofNat 64 (s.fld F.SERR_ADDR_ADDR c)) (s.fld F.SERR_CODE c % 2 ^ 16) := by
  refine ⟨_, exec_ccTakeSbus hb hsbus, ?_, trapTaken_vtrapEntry_mod _ _ _ _ (by decide) (by decide)⟩
  rw [vtrapEntry_eq, updVc_vc_same, (onlyRegs_setFlds _ _ _).1]
  exact congrArg VCore.sbus (updVc_vc_same _ _ _)

theorem debug_taken (hb : vbetween s c = true) (hsbus : (s.vc.get c).sbus = false) (hdbg : (s.vc.get c).dbg ≠ 0) :
    ∃ t, exec (.ccTakeDebug c) s = .next t ∧ t.fld F.DCTL_MON c = 1 ∧ t.fld F.TPC c = (s.vpc c).toNat ∧ t.fld F.TCAUSE_CAUSE c = cDEBUG ∧
      t.fld F.TINFO c = (s.vc.get c).dbg % 2 ^ 16 ∧ t.fld F.PSTATE_TW c = 1 ∧
      t.vpc c = BitVec.ofNat 64 (s.fld F.TBASE_BASE c * 2048 + 64 * cDEBUG) ∧ MemSame s t := by
  obtain ⟨addr, hexec⟩ := exec_ccTakeDebug hb hsbus hdbg
  have htrap := trapTaken_vtrapEntry_mod (c := c) (cause := cDEBUG) (access := 0) (debugClaimed c ((s.vc.get c).dbg / 0x1000) s) (s.vpc c) addr
    (s.vc.get c).dbg (by decide) (by decide)
  have hmon := (fld_trapTaken htrap (g := F.DCTL_MON) (by decide) c 0).trans (debugClaimed_monitor _ _ _)
  obtain ⟨hpc, htpc, hcause, -, -, hinfo, -, -, -, -, -, htw, -, -, -, hframe⟩ := htrap
  rw [(fldSame_debugClaimed _ _ _).fld_id (by simp; decide)] at hpc
  refine ⟨_, hexec, hmon, htpc, hcause, hinfo, htw, hpc, ?_⟩
  rw [hframe]
  exact memSame_debugClaimed _ _ _

theorem exec_ccWake (hc : c < 8) (hdev : s.dev = .run) (hrom : (s.vc.get c).romWait = false) (hwait : s.fld F.CC_STATUS_STATE c = 2)
    (hwakes : vwakes s c = true) : exec (.ccWake c) s = .next (s.setFld F.CC_STATUS_STATE c 0 1) :=
  congrArg _ (if_pos (by simp [hc, hdev, hrom, hwait, hwakes]))

/-- START of a held core that may run (R238). -/
theorem exec_ccStart (hc : c < 8) (hheld : s.fld F.CC_STATUS_STATE c = 0) (hdead : ccDead s c = false) (htest : underTest s 6 c = false) :
    exec (.ccStart c) s = .next (setFlds c [(F.PSTATE_TASK, 0), (F.CC_STATUS_STATE, 1)]
      (s.updVc c (fun k => { k with pc := BitVec.ofNat 64 (s.fld F.CC_ENTRY_ENTRY c * 4) }))) :=
  congrArg _ ((if_pos hc).trans (if_pos (by simp [hheld, hdead, htest])))

theorem start_runs (hc : c < 8) (hheld : s.fld F.CC_STATUS_STATE c = 0) (hdead : ccDead s c = false) (htest : underTest s 6 c = false) :
    ∃ t, exec (.ccStart c) s = .next t ∧ t.fld F.CC_STATUS_STATE c = 1 ∧ t.vpc c = BitVec.ofNat 64 (s.fld F.CC_ENTRY_ENTRY c * 4) ∧
      t.fld F.PSTATE_TASK c = 0 ∧ (t.vc.get c).regs = (s.vc.get c).regs ∧ FldSame s t [(F.CC_STATUS_STATE, c), (F.PSTATE_TASK, c)] ∧
      t = { s with regs := t.regs, vc := t.vc } := by
  have hnodup : ([(F.PSTATE_TASK, 0), (F.CC_STATUS_STATE, 1)].map (fun x => x.1.id)).Nodup := by decide
  obtain ⟨hframe, hsame⟩ := onlyRegs_setFlds c [(F.PSTATE_TASK, 0), (F.CC_STATUS_STATE, 1)]
    (s.updVc c (fun k => { k with pc := BitVec.ofNat 64 (s.fld F.CC_ENTRY_ENTRY c * 4) }))
  have hcore := congrArg (fun t : State => t.vc.get c) hframe
  simp only [updVc_vc_same] at hcore
  refine ⟨_, exec_ccStart hc hheld hdead htest, fld_setFlds hnodup c _ (x := (F.CC_STATUS_STATE, 1)) (by simp), congrArg VCore.pc hcore,
    fld_setFlds hnodup c _ (x := (F.PSTATE_TASK, 0)) (by simp), (congrArg VCore.regs hcore :), FldSame.mono hsame (by simp), ?_⟩
  exact frame_trans (w := s.updVc c (fun k => { k with pc := BitVec.ofNat 64 (s.fld F.CC_ENTRY_ENTRY c * 4) })) rfl hframe

theorem reset_holds (hc : c < 8) : ∃ t, exec (.ccReset c) s = .next t ∧ t.fld F.CC_STATUS_STATE c = 0 ∧ t.vc.get c = {} ∧
    t.fld F.TBASE_BASE c = 0x2008_00E0_0000_0000 / 2048 ∧ t.fld F.PSTATE_TW c = 0 ∧ t.fld F.WSTATE_WDEPTH c = 0 ∧
    (∀ r ∈ t.reqs, r.pkt.init = initCc c → r.why = .dropped) ∧ MemSame s t ∧ (∀ k, k ≠ c → t.vc.get k = s.vc.get k) := by
  have hexec : exec (.ccReset c) s = .next (coreReset c s) := congrArg _ (if_pos hc)
  obtain ⟨hvc, hreqs, hmem⟩ := coreReset_parts c s
  obtain ⟨hstate, hbase, hcleared⟩ := coreReset_registers c s
  refine ⟨_, hexec, hstate, ?_, hbase, hcleared _ (by decide) (by decide), hcleared _ (by decide) (by decide), fun r hr hinit => ?_, hmem,
    fun k hk => ?_⟩
  · rw [hvc, SMap.get_set_same]
  · rw [hreqs] at hr
    obtain ⟨q, -, rfl⟩ := List.mem_map.1 hr
    exact dropOf_why hinit
  · rw [hvc, SMap.get_set_ne _ _ _ _ hk]

end

/-! ### The window onto LIM and LDM (R729) -/

section
variable {s : State} {c off k : Nat} (hc : c < 8) (hk : k = 4 ∨ k = 8) (hlow : 0x2_0000 ≤ off) (hhigh : off < 0x4_0000) (halign : off % k = 0)
include hc hk hlow hhigh halign

theorem exec_ccWindow (init : Nat) (wr : Bool) (data : List Byte) : exec (.ccWindowMemoryAccess init c off k wr data) s =
    .next (if wr then (s.wrBytes (aPriv c (off - 0x2_0000)) (data.take k)).emit (.reply init 0 [])
      else s.emit (.reply init 0 (s.rdBytes (aPriv c (off - 0x2_0000)) k))) := by
  refine congrArg _ ((if_pos (by simp [hc, hlow, hhigh])).trans ?_)
  rw [ccWindow, if_neg (by omega)]
  cases wr <;> rfl

theorem window_reads (init : Nat) : ∃ t, exec (.ccWindowMemoryAccess init c off k false []) s = .next t ∧ MemSame s t ∧
    t = s.emit (.reply init 0 ((List.range k).map (fun j => s.rdB (aPriv c (off - 0x2_0000) + j)))) :=
  ⟨_, exec_ccWindow hc hk hlow hhigh halign init false [], memSame_of_eq rfl rfl, rfl⟩

theorem window_writes (init : Nat) (data : List Byte) (hlen : data.length = k) :
    ∃ t, exec (.ccWindowMemoryAccess init c off k true data) s = .next t ∧
      (∀ j < k, t.rdB (aPriv c (off - 0x2_0000) + j) = data.getD j 0) ∧ MemSameBut s t (aPriv c (off - 0x2_0000)) k ∧
      t.out = s.out ++ [.reply init 0 []] ∧ t.regs = s.regs := by
  have hexec := exec_ccWindow (s := s) hc hk hlow hhigh halign init true data
  rw [List.take_of_length_le hlen.le] at hexec
  refine ⟨_, hexec, fun j hj => ?_, fun x hx => ⟨?_, ?_⟩, ?_, wrBytes_proj State.regs (fun _ _ _ => rfl) _ _ _⟩
  · exact (rdB_wrBytes _ _ _ _).trans (by rw [if_pos (by omega), Nat.add_sub_cancel_left])
  · exact (rdB_wrBytes _ _ _ _).trans (if_neg (by omega))
  · exact ecc_wrBytes_outside _ _ (by rwa [hlen])
  · exact congrArg (· ++ _) (wrBytes_proj State.out (fun _ _ _ => rfl) _ _ _)

end

/-- Settles O11, event by event: each of the traps between two instructions is a trap entry (`trapTaken_vtrapEntry`) from the state in which its
cause has been taken. -/
theorem controlCoreEvents : Obligations.ControlCoreEvents := by
  unfold Obligations.ControlCoreEvents
  intro s c n
  refine ⟨interrupt_taken, sbus_taken, debug_taken, fun hc hdev hrom hwait hwakes => ?_, start_runs, reset_holds,
    fun hc init off k hk hlow hhigh halign => ⟨window_reads hc hk hlow hhigh halign init, window_writes hc hk hlow hhigh halign init⟩⟩
  exact ⟨_, exec_ccWake hc hdev hrom hwait hwakes, fld_setFld_same _ _ _ _ _, onlyRegs_setFld _ _ _ _ _ List.mem_cons_self⟩

end Sys2Proof.Machine
end

section
/-!
SUPPORT. Loom instructions (chapter 9): what a command instruction reads, accepts and answers, and what LWAIT, LSTAT, LABORT, LNEXT and LEXIT
do (R268 to R272, R274, R276, R282, R298, R300).
-/
namespace Sys2Proof.Machine
open Claims

/-! ### Descriptors (R269, R272) -/

section
variable {s : State} {c fn ti : Nat} {a : Word} {d sp : List Byte}

/-- The TINFO values of Table 9.2, and 0 for a bad address. -/
theorem descRead_code_le (h : descRead s c fn a = .inl ti) : ti ≤ 3 := by
  unfold descRead at h
  split at h
  case h_2 off =>
    dsimp only at h
    split_ifs at h <;> cases h <;> decide
  all_goals
    cases h
    decide

/-- A descriptor that passes carries the code of its instruction. -/
theorem descRead_fn (h : descRead s c fn a = .inr (d, sp)) : fieldLE d 0 1 = fn := by
  unfold descRead at h
  split at h
  case h_2 off =>
    dsimp only at h
    split_ifs at h with _ hfn <;> cases h <;> exact not_not.1 hfn
  all_goals cases h

end

/-! ### Acceptance (R270, R271, R274) -/

section
variable {s : State} {c k : Nat} {d sp : List Byte}

/-- The ticket of the next use of slot `k` of core `c`. -/
def nextTicket (s : State) (c k : Nat) : Nat := k + 16 * ((s.slots.get (16 * c + k)).gen % 4095 + 1) + 65536 * c

theorem nextTicket_ne_zero (s : State) (c k : Nat) : nextTicket s c k ≠ 0 := by
  unfold nextTicket
  omega

theorem cmdAccept_full (h : ∀ k < 16, (s.slots.get (16 * c + k)).used = true) : cmdAccept c d sp s = (0, s) := by
  have hnone : (List.range 16).find? (fun k => !(s.slots.get (16 * c + k)).used) = none := by
    rw [List.find?_range_eq_none]
    simpa using h
  rw [cmdAccept, hnone]

/-- Nothing of an instance is scheduled: a hold or free that is accepted ends nothing. -/
theorem cmdYield_idle {inst : Nat} (hocc : s.occ = none) (h : ∀ x ∈ s.cmds, x.inst = inst → cmdUnfired s x = false) : cmdYield inst s = s := by
  have hnil : s.cmds.filter (fun x => x.inst == inst && [fLREL, fLSNAP, fLMIGR].contains x.opc && cmdUnfired s x) = [] := by
    rw [List.filter_eq_nil_iff]
    intro x hx
    by_cases hi : x.inst = inst
    · simp [h x hx hi]
    · simp [hi]
  rw [cmdYield, hnil]
  show occAbort inst s = s
  rw [occAbort, hocc]

/-- A command joins the list, and slot `n` is in use with generation `g`. -/
def withCommand (x : LCmd) (n g : Nat) (s : State) : State :=
  { s with cmds := s.cmds ++ [x], slots := s.slots.set n { gen := g, used := true } }

/-- The state in which a command has taken slot `k`. -/
def cmdAccepted (c k : Nat) (d sp : List Byte) (s : State) : State :=
  withCommand { ticket := nextTicket s c k, desc := d, spools := sp, inst := fieldLE d 2 2 } (16 * c + k)
    ((s.slots.get (16 * c + k)).gen % 4095 + 1) s

theorem cmdAccept_slot (hk : k < 16) (hfree : (s.slots.get (16 * c + k)).used = false)
    (hbelow : ∀ j < k, (s.slots.get (16 * c + j)).used = true)
    (hidle : (fieldLE d 0 1 = fLHOLD ∨ fieldLE d 0 1 = fLFREE) → cmdYield (fieldLE d 2 2) s = s) :
    cmdAccept c d sp s = (nextTicket s c k, cmdAccepted c k d sp s) := by
  have hsome : (List.range 16).find? (fun k => !(s.slots.get (16 * c + k)).used) = some k := by
    rw [List.find?_range_eq_some]
    exact ⟨by simp [hfree], List.mem_range.2 hk, fun j hj => by simp [hbelow j hj]⟩
  rw [cmdAccept, hsome]
  have hstate : (if fieldLE d 0 1 = fLHOLD ∨ fieldLE d 0 1 = fLFREE then cmdYield (fieldLE d 2 2) s else s) = s := by
    split
    next hy => exact hidle hy
    next => rfl
  exact congrArg (fun w => (nextTicket s c k,
    withCommand { ticket := nextTicket s c k, desc := d, spools := sp, inst := fieldLE d 2 2 } (16 * c + k)
      ((s.slots.get (16 * c + k)).gen % 4095 + 1) w)) hstate

end

/-! ### The answer of a Loom instruction (R270, R276) -/

/-- An answer goes to rd and Z, and the instruction retires. -/
def loomAnswer (c rd : Nat) (v : Word) (z : Bool) (s : State) : State := vretire c (setZ c z (s.vset c rd v))

/-- Z reads `z`; N, C and V read as before. -/
def ZSays (s t : State) (c : Nat) (z : Bool) : Prop :=
  ∀ j < 4, bitOf (t.fld F.FLAGS_NZCV c) j = if j = 2 then z else bitOf (s.fld F.FLAGS_NZCV c) j

/-- What an answer does: rd, Z, and retirement. -/
theorem loomAnswer_done {rd : Nat} (hrd : rd < 32) (s : State) (c : Nat) (v : Word) (z : Bool) :
    let t := loomAnswer c rd v z s
    RegSet s t c rd v ∧ ZSays s t c z ∧ Retires s t c (s.vpc c + 4) [(F.FLAGS_NZCV, c)] ∧ t = { s with regs := t.regs, vc := t.vc } := by
  have hx : OnlyCore s (setZ c z (s.vset c rd v)) c [(F.FLAGS_NZCV, c)] := (onlyCore_vset _ _ _ _ _).setFld _ _ _ _ List.mem_cons_self
  have ht : loomAnswer c rd v z s = vretireTo c (s.vpc c + 4) (setZ c z (s.vset c rd v)) := by rw [← hx.vpc]; rfl
  dsimp only
  rw [ht]
  refine ⟨regSet_retire (regSet_setFld (regSet_vset hrd) _ _ _ _ (by decide)) _, fun j hj => ?_, hx.retires (by simp; decide) _, hx.retire_frame _⟩
  have hj' : j < F.FLAGS_NZCV.w := hj
  rw [(fldSame_vretireTo _ c _).fld_id (by simp [retireFs]; decide), setZ, bitOf_setFlag _ _ _ _ _ _ _ hj', fld_vset]

/-! ### Command instructions (R268 to R272) -/

section
variable {s : State} {c rd rs1 fn : Nat} {i : Instr}

/-- The command instructions with the codes of their descriptors (Table 9.1). -/
def loomCommands (c rd rs1 : Nat) : List (Instr × Nat) :=
  [(.lload c rd rs1 0, fLLOAD), (.lrel c rd rs1 0, fLREL), (.lhold c rd rs1 0, fLHOLD),
    (.lfree c rd rs1 0, fLFREE), (.lplace c rd rs1 0, fLPLACE), (.lsnap c rd rs1 0, fLSNAP), (.lrest c rd rs1 0, fLREST),
    (.lmigr c rd rs1 0, fLMIGR), (.lscrubSetRate c rd rs1 0, fLSCRUB), (.lscrubOnePass c rd rs1 0, fLSCRUB),
    (.lscrubContOn c rd rs1 0, fLSCRUB), (.lscrubContOff c rd rs1 0, fLSCRUB), (.lread c rd rs1 0, fLREAD),
    (.lkeyLoad c rd rs1 0, fLKEY), (.lkeyErase c rd rs1 0, fLKEY), (.lkeyWrap c rd rs1 0, fLKEY)]

/-- What the command of a ticket does at its acceptance: LSNAP starts. -/
def loomAccepted (fn tk : Nat) (s : State) : State := if fn = fLSNAP then cmdStart tk s else s

theorem exec_loomCommand (hi : (i, fn) ∈ loomCommands c rd rs1) (s : State) : exec i s = loomIssueThen (loomAccepted fn) c fn rd rs1 0 s := by
  simp only [loomCommands, List.mem_cons, Prod.mk.injEq, List.not_mem_nil, or_false] at hi
  rcases hi with ⟨rfl, rfl⟩ | ⟨rfl, rfl⟩ | ⟨rfl, rfl⟩ | ⟨rfl, rfl⟩ | ⟨rfl, rfl⟩ | ⟨rfl, rfl⟩ | ⟨rfl, rfl⟩ | ⟨rfl, rfl⟩ |
    ⟨rfl, rfl⟩ | ⟨rfl, rfl⟩ | ⟨rfl, rfl⟩ | ⟨rfl, rfl⟩ | ⟨rfl, rfl⟩ | ⟨rfl, rfl⟩ | ⟨rfl, rfl⟩ | ⟨rfl, rfl⟩ <;> rfl

theorem loomOp_task {body : State → State} (hs : Issues s c) (h : (issued c s).bit F.PSTATE_TASK c = true) :
    loomOp c 0 body s = .next (vtrapAt c cPRIV 0 0 0 (issued c s)) := by rw [loomOp, vop_issues hs, vsup_task h]

theorem loomOp_supervisor {body : State → State} (hs : Issues s c) (h : (issued c s).bit F.PSTATE_TASK c = false) :
    loomOp c 0 body s = .next (body (issued c s)) := by rw [loomOp, vop_issues hs, vsup_supervisor h]

end

section
variable {s : State} {c rd rs1 fn ti : Nat} {kk : Nat → State → State} {d sp : List Byte}

theorem loomIssueThen_bad (hs : Issues s c) (hsup : (issued c s).bit F.PSTATE_TASK c = false)
    (h : descRead (issued c s) c fn ((issued c s).vget c rs1) = .inl ti) :
    loomIssueThen kk c fn rd rs1 0 s = .next (if ti = 0 then vtrapAt c cADDRESS 2 ((issued c s).vget c rs1) 0 (issued c s)
      else vtrapAt c cLOOM 0 ((issued c s).vget c rs1) ti (issued c s)) := by
  rw [loomIssueThen, loomOp_supervisor hs hsup]
  dsimp only
  rw [h]

/-- An acceptance answers with the ticket in rd, and Z set where there is none. -/
theorem loomIssueThen_good (hs : Issues s c) (hsup : (issued c s).bit F.PSTATE_TASK c = false)
    (h : descRead (issued c s) c fn ((issued c s).vget c rs1) = .inr (d, sp)) {tk : Nat} {s1 : State} (ha : cmdAccept c d sp (issued c s) = (tk, s1)) :
    loomIssueThen kk c fn rd rs1 0 s =
      .next (if tk = 0 then loomAnswer c rd (BitVec.ofNat 64 tk) (tk == 0) s1 else kk tk (loomAnswer c rd (BitVec.ofNat 64 tk) (tk == 0) s1)) := by
  rw [loomIssueThen, loomOp_supervisor hs hsup]
  dsimp only
  rw [h]
  dsimp only
  rw [ha]
  rfl

end

/-! ### Polling and waiting (R276) -/

section
variable {s t : State} {c tk w : Nat}

theorem tkCollect_stale (h : tkLive s tk = false ∨ tkCore tk ≠ c) : tkCollect c tk s = (some rSTALE, s) := by
  rw [tkCollect, if_pos]
  simpa using h

theorem tkCollect_status (hlive : tkLive s tk = true) (hcore : tkCore tk = c) (hw : (s.slots.get (tkKey tk)).status = some w) :
    tkCollect c tk s = (some w, slotFree tk s) := by
  rw [tkCollect, if_neg (by simp [hlive, hcore]), hw]

theorem tkCollect_running (hlive : tkLive s tk = true) (hcore : tkCore tk = c) (hnone : (s.slots.get (tkKey tk)).status = none) :
    tkCollect c tk s = (none, s) := by
  rw [tkCollect, if_neg (by simp [hlive, hcore]), hnone]

theorem slotFree_used (tk : Nat) (s : State) : ((slotFree tk s).slots.get (tkKey tk)).used = false := by
  simp [slotFree, SMap.upd]

theorem slotFree_slots_ne (tk : Nat) (s : State) {n : Nat} (h : n ≠ tkKey tk) : (slotFree tk s).slots.get n = s.slots.get n :=
  SMap.get_set_ne _ _ _ _ h

end

/-- The instructions that retire with an answer, after a change of the command list and the slots. -/
theorem frame_slots {s t : State} {x : SMap LSlot} (h : t = { { s with slots := x } with regs := t.regs, vc := t.vc }) :
    t = { s with regs := t.regs, vc := t.vc, slots := t.slots } := by
  obtain rfl : t.slots = x := congrArg State.slots h
  exact h

theorem frame_withCommand {s t : State} {x : LCmd} {n g : Nat} (h : t = { withCommand x n g s with regs := t.regs, vc := t.vc }) :
    t = { s with regs := t.regs, vc := t.vc, cmds := t.cmds, slots := t.slots } := by
  have hcmds : t.cmds = s.cmds ++ [x] := congrArg State.cmds h
  have hslots : t.slots = s.slots.set n { gen := g, used := true } := congrArg State.slots h
  rw [hcmds, hslots]
  exact h

/-- Core `c` waits for `w`, and nothing else differs. -/
def Waits (s t : State) (c : Nat) (w : VWait) : Prop :=
  (t.vc.get c).wait = w ∧ (t.vc.get c).regs = (s.vc.get c).regs ∧ t.vpc c = s.vpc c ∧ (∀ k, k ≠ c → t.vc.get k = s.vc.get k) ∧
    t = { s with vc := t.vc }

theorem updVc_waits (s : State) (c : Nat) (w : VWait) : Waits s (s.updVc c (fun k => { k with wait := w })) c w :=
  ⟨by simp, by simp, by simp [State.vpc], fun _ hk => updVc_vc_ne _ _ _ _ hk, rfl⟩

/-- A core that waits may come to wait for something else. -/
theorem Waits.again {s t : State} {c : Nat} {w' : VWait} (h : Waits s t c w') (w : VWait) : Waits s (t.updVc c (fun k => { k with wait := w })) c w := by
  obtain ⟨-, hregs, hpc, hother, hframe⟩ := h
  obtain ⟨kwait, kregs, kpc, kother, -⟩ := updVc_waits t c w
  exact ⟨kwait, kregs.trans hregs, kpc.trans hpc, fun k hk => (kother k hk).trans (hother k hk),
    congrArg (fun x : State => { x with vc := (t.updVc c (fun k => { k with wait := w })).vc }) hframe⟩

/-! ### The pins after an abort (R282) -/

/-- The state with other commands, holds and queued demands, and a core changed. -/
def withCommands (v : SMap VCore) (x : List LCmd) (h : List HoldOp) (q : List Nat) (s : State) : State :=
  { s with vc := v, cmds := x, holds := h, hdq := q }

theorem gpioOuts_withCommands (v : SMap VCore) (x : List LCmd) (h : List HoldOp) (q : List Nat) (s : State) (b : Nat) :
    gpioOuts (withCommands v x h q s) b = gpioOuts s b := rfl

/-- What the pins show depends on no command, hold or core. -/
theorem gpioShow_withCommands (v : SMap VCore) (x : List LCmd) (h : List HoldOp) (q : List Nat) (b : Nat) (s : State) :
    gpioShow b (withCommands v x h q s) = withCommands v x h q (gpioShow b s) := by
  unfold gpioShow
  rw [gpioOuts_withCommands]
  dsimp only
  split
  next he => rw [if_pos (by exact he)]
  next he =>
    rw [if_neg (by exact he)]
    rfl

theorem gpioShowAll_withCommands (v : SMap VCore) (x : List LCmd) (h : List HoldOp) (q : List Nat) (s : State) :
    gpioShowAll (withCommands v x h q s) = withCommands v x h q (gpioShowAll s) := by
  have hstep : ∀ n, forN n gpioShow (withCommands v x h q s) = withCommands v x h q (forN n gpioShow s) := by
    intro n
    induction n with
    | zero => rfl
    | succ n ih => rw [forN_succ, forN_succ, ih, gpioShow_withCommands]
  exact hstep 20

/-- The state with what the pins show changed. -/
def withPins (g : GpioSt) (o : List Out) (s : State) : State := { s with gpio := g, out := o }

theorem vretire_withPins (c : Nat) (g : GpioSt) (o : List Out) (s : State) : vretire c (withPins g o s) = withPins g o (vretire c s) := by
  unfold vretire vretireTo
  dsimp only
  split
  next h => rw [if_pos (by exact h)]; rfl
  next h => rw [if_neg (by exact h)]; rfl

theorem eq_withPins {s t : State} (h : withPins {} [] t = withPins {} [] s) : t = withPins t.gpio t.out s := by
  have hpins : withPins t.gpio t.out (withPins {} [] t) = withPins t.gpio t.out (withPins {} [] s) := congrArg _ h
  exact hpins

theorem gpioShowAll_frame (s : State) : gpioShowAll s = withPins (gpioShowAll s).gpio (gpioShowAll s).out s :=
  eq_withPins (gpioShowAll_proj (withPins {} []) (fun _ _ _ => rfl) s)

/-- What LABORT does after the abort: the result goes to rd, the pins follow, and the instruction retires. -/
def abortAnswer (c rd v : Nat) (s : State) : State := vretire c (gpioShowAll (s.vset c rd (BitVec.ofNat 64 v)))

theorem pins_withCommands (v : SMap VCore) (x : List LCmd) (h : List HoldOp) (q : List Nat) (s : State) :
    (withCommands v x h q s).gpio = s.gpio ∧ (withCommands v x h q s).out = s.out := ⟨rfl, rfl⟩

theorem shown_withCommands (v : SMap VCore) (x : List LCmd) (h : List HoldOp) (q : List Nat) (s : State) :
    (gpioShowAll (withCommands v x h q s)).gpio = (gpioShowAll s).gpio ∧ (gpioShowAll (withCommands v x h q s)).out = (gpioShowAll s).out := by
  rw [gpioShowAll_withCommands]
  exact pins_withCommands _ _ _ _ _

theorem vset_withCommands (w : State) (c rd : Nat) (v : Word) :
    w.vset c rd v = withCommands (w.vset c rd v).vc w.cmds w.holds w.hdq w := by
  obtain he | ⟨r, he⟩ := vset_cases w c rd v <;> rw [he] <;> rfl

theorem shown_vset (w : State) (c rd : Nat) (v : Word) :
    (gpioShowAll (w.vset c rd v)).gpio = (gpioShowAll w).gpio ∧ (gpioShowAll (w.vset c rd v)).out = (gpioShowAll w).out := by
  rw [vset_withCommands]
  exact shown_withCommands _ _ _ _ _

theorem abortAnswer_eq (w : State) (c rd v : Nat) :
    abortAnswer c rd v w = withPins (gpioShowAll w).gpio (gpioShowAll w).out (vretire c (w.vset c rd (BitVec.ofNat 64 v))) := by
  obtain ⟨hgpio, hout⟩ := shown_vset w c rd (BitVec.ofNat 64 v)
  rw [abortAnswer, gpioShowAll_frame, hgpio, hout, vretire_withPins]

theorem frame_withCommands {u t : State} {x : List LCmd} {h : List HoldOp} {q : List Nat} {g : GpioSt} {o : List Out} {r : State}
    (ht : t = withPins g o r) (hr : r = { withCommands u.vc x h q u with regs := r.regs, vc := r.vc }) :
    t = { u with regs := t.regs, vc := t.vc, cmds := t.cmds, holds := t.holds, hdq := t.hdq, gpio := t.gpio, out := t.out } := by
  have hcmds : r.cmds = x := congrArg State.cmds hr
  have hholds : r.holds = h := congrArg State.holds hr
  have hhdq : r.hdq = q := congrArg State.hdq hr
  subst ht
  obtain ⟨rfl, rfl, rfl⟩ : r.cmds = x ∧ r.holds = h ∧ r.hdq = q := ⟨hcmds, hholds, hhdq⟩
  exact congrArg (withPins g o) hr

theorem frame_pins {u t : State}
    (h : t = { u with regs := t.regs, vc := t.vc, cmds := t.cmds, holds := t.holds, hdq := t.hdq, gpio := t.gpio, out := t.out })
    (hcmds : t.cmds = u.cmds) (hholds : t.holds = u.holds) (hhdq : t.hdq = u.hdq) :
    t = { u with regs := t.regs, vc := t.vc, gpio := t.gpio, out := t.out } := by
  rw [hcmds, hholds, hhdq] at h
  exact h

/-- A result is written and the instruction retires, with other commands and pins. -/
theorem retired_withPins {rd : Nat} (hrd : rd < 32) (u : State) (x : List LCmd) (h : List HoldOp) (q : List Nat) (g : GpioSt) (o : List Out)
    (c : Nat) (v : Word) {t : State} (ht : t = withPins g o (vretire c ((withCommands u.vc x h q u).vset c rd v))) :
    RegSet u t c rd v ∧ Retires u t c (u.vpc c + 4) [] ∧ (t.gpio = g ∧ t.out = o) ∧ (t.cmds = x ∧ t.holds = h ∧ t.hdq = q) ∧
      t = { u with regs := t.regs, vc := t.vc, cmds := t.cmds, holds := t.holds, hdq := t.hdq, gpio := t.gpio, out := t.out } := by
  have hw : OnlyCore (withCommands u.vc x h q u) ((withCommands u.vc x h q u).vset c rd v) c [] := onlyCore_vset _ _ _ _ _
  have hregs := regSet_retire (regSet_vset (s := withCommands u.vc x h q u) (v := v) (c := c) hrd) (u.vpc c + 4)
  have hret := hw.retires (by simp) (u.vpc c + 4)
  have hframe := hw.retire_frame (u.vpc c + 4)
  have hpc : (withCommands u.vc x h q u).vpc c = u.vpc c := rfl
  rw [vretire, hw.vpc, hpc] at ht
  generalize vretireTo c (u.vpc c + 4) ((withCommands u.vc x h q u).vset c rd v) = r at *
  subst ht
  exact ⟨hregs, hret, ⟨rfl, rfl⟩, ⟨congrArg State.cmds hframe, congrArg State.holds hframe, congrArg State.hdq hframe⟩, frame_withCommands rfl hframe⟩

/-- LABORT with the commands as the abort left them: rd, retirement, and the pins that follow. -/
theorem abortAnswer_done {rd : Nat} (hrd : rd < 32) (u : State) (x : List LCmd) (h : List HoldOp) (q : List Nat) (c v : Nat) {t : State}
    (ht : t = abortAnswer c rd v (withCommands u.vc x h q u)) :
    RegSet u t c rd (BitVec.ofNat 64 v) ∧ Retires u t c (u.vpc c + 4) [] ∧ (gpioShowAll u = u → t.gpio = u.gpio ∧ t.out = u.out) ∧
      (t.cmds = x ∧ t.holds = h ∧ t.hdq = q) ∧
      t = { u with regs := t.regs, vc := t.vc, cmds := t.cmds, holds := t.holds, hdq := t.hdq, gpio := t.gpio, out := t.out } := by
  obtain ⟨hgpio, hout⟩ := shown_withCommands u.vc x h q u
  rw [abortAnswer_eq, hgpio, hout] at ht
  obtain ⟨hregs, hret, ⟨hg, ho⟩, hrest⟩ := retired_withPins hrd u x h q _ _ c _ ht
  exact ⟨hregs, hret, fun hu => ⟨hg.trans (congrArg State.gpio hu), ho.trans (congrArg State.out hu)⟩, hrest⟩

/-! ### What an abort ends (R282) -/

/-- A command of `cmdEnd`'s list. -/
def endedAs (t res detail : Nat) (c : LCmd) : LCmd :=
  if c.ticket = t then (if c.phase = 3 then c else { c with phase := 3, res := res, detail := detail }) else c

theorem cmds_cmdEnd (t res detail : Nat) (s : State) : (cmdEnd t res detail s).cmds = s.cmds.map (endedAs t res detail) := rfl

section
variable {t res detail : Nat} {x : LCmd}

@[simp] theorem endedAs_ticket : (endedAs t res detail x).ticket = x.ticket := by
  unfold endedAs
  split_ifs <;> rfl

theorem endedAs_other (h : x.ticket ≠ t) : endedAs t res detail x = x := if_neg h

theorem endedAs_running (h : x.ticket = t) (hp : x.phase ≠ 3) : endedAs t res detail x = { x with phase := 3, res := res, detail := detail } := by
  rw [endedAs, if_pos h, if_neg hp]

theorem endedAs_phase (h : x.ticket = t) : (endedAs t res detail x).phase = 3 := by
  by_cases hp : x.phase = 3
  · rw [endedAs, if_pos h, if_pos hp, hp]
  · rw [endedAs_running h hp]

/-- Every other command stays in the list, and none comes. -/
theorem mem_map_endedAs {l : List LCmd} {y : LCmd} (hy : y.ticket ≠ t) : y ∈ l.map (endedAs t res detail) ↔ y ∈ l := by
  constructor
  · intro h
    obtain ⟨x, hx, rfl⟩ := List.mem_map.1 h
    rwa [endedAs_other (by simpa using hy)]
  · intro h
    exact List.mem_map.2 ⟨y, h, endedAs_other hy⟩

end

section
variable {s : State} {tk : Nat} {x : LCmd}

theorem mem_of_cmdOf (h : cmdOf s tk = some x) : x ∈ s.cmds := List.mem_of_find?_eq_some h

theorem ticket_of_cmdOf (h : cmdOf s tk = some x) : x.ticket = tk := by simpa using List.find?_some h

/-- What an abort leaves of the commands, the holds and the queued demands. -/
def abortedCommands (tk : Nat) (s : State) : State :=
  withCommands s.vc (s.cmds.map (endedAs tk rABORTED 0)) (s.holds.filter (fun h => h.ticket != tk + 1)) (s.hdq.filter (· != tk)) s

theorem ticketAbort_none (h : cmdOf s tk = none) : ticketAbort tk s = (2, s) := by rw [ticketAbort, h]

theorem ticketAbort_waiting (h : cmdOf s tk = some x) (hphase : x.phase = 0) (hlive : tkLive s tk = true) (hload : s.load = none)
    (hmigs : ∀ m ∈ s.migs, m.ticket ≠ tk) : ticketAbort tk s = (0, abortedCommands tk s) := by
  have hmig : s.migs.find? (fun m => m.ticket == tk) = none := by simpa [List.find?_eq_none] using hmigs
  have habort : cmdAbort tk s = abortedCommands tk s := by
    have hmig' : (cmdEnd tk rABORTED 0 { s with holds := s.holds.filter (fun h => h.ticket != tk + 1), hdq := s.hdq.filter (· != tk) }).migs.find?
        (fun m => m.ticket == tk) = none := hmig
    rw [cmdAbort, h]
    dsimp only
    rw [hmig']
    rfl
  simp [ticketAbort, h, hphase, hlive, hload, habort]

end

/-! ### What the instructions do -/

section
variable {s : State} {c rd rs1 fn tk w : Nat} {i : Instr}

/-- The state in which the Loom instruction acts, and its ticket. -/
theorem exec_lwait (hs : Issues s c) (hsup : (issued c s).bit F.PSTATE_TASK c = false) :
    exec (.lwait c rd rs1 0) s = .next (match tkCollect c ((issued c s).vget c rs1).toNat (issued c s) with
      | (some w, s1) => tkReturn c rd w s1
      | (none, s1) => s1.updVc c (fun k => { k with wait := .lwait rd ((issued c s).vget c rs1).toNat })) := loomOp_supervisor hs hsup

theorem exec_lstat (hs : Issues s c) (hsup : (issued c s).bit F.PSTATE_TASK c = false) :
    exec (.lstat c rd rs1 0) s = .next (match tkCollect c ((issued c s).vget c rs1).toNat (issued c s) with
      | (some w, s1) => tkReturn c rd w s1
      | (none, s1) => tkReturn c rd 1 s1) := loomOp_supervisor hs hsup

theorem exec_labort (hs : Issues s c) (hsup : (issued c s).bit F.PSTATE_TASK c = false) {r : Nat} {s1 : State}
    (h : ticketAbort ((issued c s).vget c rs1).toNat (issued c s) = (r, s1)) : exec (.labort c rd rs1 0) s = .next (abortAnswer c rd r s1) := by
  have hexec : exec (.labort c rd rs1 0) s = .next (abortAnswer c rd (ticketAbort ((issued c s).vget c rs1).toNat (issued c s)).1
      (ticketAbort ((issued c s).vget c rs1).toNat (issued c s)).2) := loomOp_supervisor hs hsup
  rwa [h] at hexec

theorem exec_lnext (hs : Issues s c) (hsup : (issued c s).bit F.PSTATE_TASK c = false) :
    exec (.lnext c rd 0 0) s = .next (if (issued c s).fld F.LP_STATUS_STATE c = 3 then vtrapAt c cLOOM 0 0 4 (issued c s)
      else if (issued c s).fld F.LP_STATUS_STATE c = 2 then programGive c rd (issued c s)
      else (issued c s).updVc c (fun k => { k with wait := .lnext rd })) := loomOp_supervisor hs hsup

theorem exec_lexit (hs : Issues s c) (hsup : (issued c s).bit F.PSTATE_TASK c = false) :
    exec (.lexit c 0 rs1 0) s = .next (if (issued c s).fld F.LP_STATUS_STATE c ≠ 3 then vretire c (issued c s)
      else vdrained c ((issued c s).updVc c (fun k => { k with wait := .lexitDrain (((issued c s).vget c rs1).toNat % 2 ^ 32) }))) :=
  loomOp_supervisor hs hsup

/-- A verified program is handed over: its entry point goes to rd, and it is active. -/
theorem programGive_done (hrd : rd < 32) (s : State) (c : Nat) :
    let t := programGive c rd s
    RegSet s t c rd (BitVec.ofNat 64 (s.intake.get c).entry) ∧ t.fld F.LP_STATUS_STATE c = 3 ∧
      Retires s t c (s.vpc c + 4) [(F.LP_STATUS_STATE, c)] ∧ t = { s with regs := t.regs, vc := t.vc } := by
  have hx : OnlyCore s ((s.vset c rd (BitVec.ofNat 64 (s.intake.get c).entry)).setFld F.LP_STATUS_STATE c 0 3) c [(F.LP_STATUS_STATE, c)] :=
    (onlyCore_vset _ _ _ _ _).setFld _ _ _ _ List.mem_cons_self
  dsimp only
  rw [programGive, vretire, hx.vpc]
  refine ⟨regSet_retire (regSet_setFld (regSet_vset hrd) _ _ _ _ (by decide)) _, ?_, hx.retires (by simp; decide) _, hx.retire_frame _⟩
  exact ((fldSame_vretireTo _ c _).fld_id (by simp [retireFs]; decide) _ _).trans (fld_setFld_same _ _ _ _ _)

/-- LEXIT of an active program waits for its accesses first, and for its completion entry then. -/
theorem vdrained_lexit (s : State) (c v : Nat) :
    Waits s (vdrained c (s.updVc c (fun k => { k with wait := .lexitDrain v }))) c (if vstoresOut s c then .lexitDrain v else .lexit v) := by
  let w := s.updVc c (fun k => { k with wait := .lexitDrain v })
  have hw : Waits s w c (.lexitDrain v) := updVc_waits _ _ _
  have hout : vstoresOut w c = vstoresOut s c := rfl
  have hwait : (w.vc.get c).wait = .lexitDrain v := hw.1
  show Waits s (vdrained c w) c _
  rw [vdrained, hout, hwait]
  split
  next => exact hw
  next => exact hw.again _

end

/-! ### The command instructions -/

section
variable {s : State} {c rd rs1 fn k : Nat} {i : Instr} {d sp : List Byte}

theorem loomCommand_task (hi : (i, fn) ∈ loomCommands c rd rs1) (hs : Issues s c) (htw : (issued c s).bit F.PSTATE_TW c = false)
    (htask : (issued c s).bit F.PSTATE_TASK c = true) :
    ∃ t, exec i s = .next t ∧ TrapTaken (issued c s) t c cPRIV 0 ((issued c s).vpc c) 0 0 :=
  ⟨_, (exec_loomCommand hi s).trans (loomOp_task hs htask), trapTaken_vtrapAt htw (by decide) (by decide) (by decide)⟩

theorem loomCommand_bad (hi : (i, fn) ∈ loomCommands c rd rs1) (hs : Issues s c) (hsup : (issued c s).bit F.PSTATE_TASK c = false)
    (htw : (issued c s).bit F.PSTATE_TW c = false) {ti : Nat} (h : descRead (issued c s) c fn ((issued c s).vget c rs1) = .inl ti) :
    ∃ t, exec i s = .next t ∧ (if ti = 0 then TrapTaken (issued c s) t c cADDRESS 2 ((issued c s).vpc c) ((issued c s).vget c rs1) 0
      else TrapTaken (issued c s) t c cLOOM 0 ((issued c s).vpc c) ((issued c s).vget c rs1) ti) := by
  have hti : ti < 2 ^ 16 := by
    have := descRead_code_le h
    omega
  refine ⟨_, (exec_loomCommand hi s).trans (loomIssueThen_bad hs hsup h), ?_⟩
  split
  · exact trapTaken_vtrapAt htw (by decide) (by decide) (by decide)
  · exact trapTaken_vtrapAt htw (by decide) (by decide) hti

theorem loomCommand_full (hi : (i, fn) ∈ loomCommands c rd rs1) (hs : Issues s c) (hrd : rd < 32) (hsup : (issued c s).bit F.PSTATE_TASK c = false)
    (h : descRead (issued c s) c fn ((issued c s).vget c rs1) = .inr (d, sp)) (hfull : ∀ k < 16, ((issued c s).slots.get (16 * c + k)).used = true) :
    ∃ t, exec i s = .next t ∧ RegSet (issued c s) t c rd 0 ∧ ZSays (issued c s) t c true ∧
      Retires (issued c s) t c ((issued c s).vpc c + 4) [(F.FLAGS_NZCV, c)] ∧ t = { issued c s with regs := t.regs, vc := t.vc } :=
  ⟨_, (exec_loomCommand hi s).trans (loomIssueThen_good hs hsup h (cmdAccept_full hfull)), loomAnswer_done hrd _ _ _ _⟩

theorem loomCommand_accepted (hi : (i, fn) ∈ loomCommands c rd rs1) (hs : Issues s c) (hrd : rd < 32)
    (hsup : (issued c s).bit F.PSTATE_TASK c = false) (h : descRead (issued c s) c fn ((issued c s).vget c rs1) = .inr (d, sp)) (hk : k < 16)
    (hfree : ((issued c s).slots.get (16 * c + k)).used = false) (hbelow : ∀ j < k, ((issued c s).slots.get (16 * c + j)).used = true)
    (hidle : (fn = fLHOLD ∨ fn = fLFREE) →
      (issued c s).occ = none ∧ ∀ x ∈ (issued c s).cmds, x.inst = fieldLE d 2 2 → cmdUnfired (issued c s) x = false) :
    ∃ t, exec i s = .next (loomAccepted fn (nextTicket (issued c s) c k) t) ∧
      RegSet (issued c s) t c rd (BitVec.ofNat 64 (nextTicket (issued c s) c k)) ∧ ZSays (issued c s) t c false ∧
      Retires (issued c s) t c ((issued c s).vpc c + 4) [(F.FLAGS_NZCV, c)] ∧
      t = { cmdAccepted c k d sp (issued c s) with regs := t.regs, vc := t.vc } := by
  have hyield : (fieldLE d 0 1 = fLHOLD ∨ fieldLE d 0 1 = fLFREE) → cmdYield (fieldLE d 2 2) (issued c s) = issued c s := fun hy => by
    rw [descRead_fn h] at hy
    exact cmdYield_idle (hidle hy).1 (hidle hy).2
  have hexec := loomIssueThen_good (rd := rd) (kk := loomAccepted fn) hs hsup h (cmdAccept_slot hk hfree hbelow hyield)
  rw [if_neg (nextTicket_ne_zero _ _ _), beq_eq_false_iff_ne.2 (nextTicket_ne_zero _ _ _)] at hexec
  exact ⟨_, (exec_loomCommand hi s).trans hexec, loomAnswer_done hrd (cmdAccepted c k d sp (issued c s)) _ _ _⟩

end

/-! ### The instructions on a ticket -/

section
variable {s : State} {c rd rs1 w : Nat} {i : Instr}

theorem tkReturn_issued (hrd : rd < 32) (h : exec i s = .next (tkReturn c rd w (issued c s))) :
    ∃ t, exec i s = .next t ∧ RegSet (issued c s) t c rd (BitVec.ofNat 64 w) ∧ ZSays (issued c s) t c (w % 256 == 0) ∧
      Retires (issued c s) t c ((issued c s).vpc c + 4) [(F.FLAGS_NZCV, c)] ∧ t = { issued c s with regs := t.regs, vc := t.vc } :=
  ⟨_, h, loomAnswer_done hrd _ _ _ _⟩

theorem tkReturn_freed (hrd : rd < 32) {tk : Nat} (h : exec i s = .next (tkReturn c rd w (slotFree tk (issued c s)))) :
    ∃ t, exec i s = .next t ∧ RegSet (issued c s) t c rd (BitVec.ofNat 64 w) ∧ ZSays (issued c s) t c (w % 256 == 0) ∧
      (t.slots.get (tkKey tk)).used = false ∧ (∀ n, n ≠ tkKey tk → t.slots.get n = (issued c s).slots.get n) ∧
      Retires (issued c s) t c ((issued c s).vpc c + 4) [(F.FLAGS_NZCV, c)] ∧
      t = { issued c s with regs := t.regs, vc := t.vc, slots := t.slots } := by
  obtain ⟨hregs, hz, hret, hframe⟩ := loomAnswer_done hrd (slotFree tk (issued c s)) c (BitVec.ofNat 64 w) (w % 256 == 0)
  have hused := congrArg (fun t : State => (t.slots.get (tkKey tk)).used) hframe
  have hother := fun n => congrArg (fun t : State => t.slots.get n) hframe
  exact ⟨_, h, hregs, hz, hused.trans (slotFree_used _ _), fun n hn => (hother n).trans (slotFree_slots_ne _ _ hn), hret, frame_slots hframe⟩

theorem lwait_waits {tk : Nat} (h : exec i s = .next ((issued c s).updVc c (fun k => { k with wait := .lwait rd tk }))) :
    ∃ t, exec i s = .next t ∧ Waits (issued c s) t c (.lwait rd tk) := ⟨_, h, updVc_waits _ _ _⟩

/-- LABORT of a command that waits ends it. -/
theorem labort_waiting (hs : Issues s c) (hrd : rd < 32) (hsup : (issued c s).bit F.PSTATE_TASK c = false) {tk : Nat} {x : LCmd}
    (htk : ((issued c s).vget c rs1).toNat = tk)
    (h : cmdOf (issued c s) tk = some x) (hphase : x.phase = 0) (hlive : tkLive (issued c s) tk = true) (hload : (issued c s).load = none)
    (hmigs : ∀ m ∈ (issued c s).migs, m.ticket ≠ tk) :
    ∃ t, exec (.labort c rd rs1 0) s = .next t ∧ RegSet (issued c s) t c rd 0 ∧ Retires (issued c s) t c ((issued c s).vpc c + 4) [] ∧
      (∀ y ∈ t.cmds, y.ticket = tk → y.phase = 3) ∧ (∃ y ∈ t.cmds, y.ticket = tk ∧ y.res = rABORTED) ∧
      (∀ y, y.ticket ≠ tk → (y ∈ t.cmds ↔ y ∈ (issued c s).cmds)) ∧ tk ∉ t.hdq ∧
      (gpioShowAll (issued c s) = issued c s → t.gpio = (issued c s).gpio ∧ t.out = (issued c s).out) ∧
      t = { issued c s with regs := t.regs, vc := t.vc, cmds := t.cmds, holds := t.holds, hdq := t.hdq, gpio := t.gpio, out := t.out } := by
  subst htk
  have hexec := exec_labort (rd := rd) hs hsup (ticketAbort_waiting h hphase hlive hload hmigs)
  generalize ht : abortAnswer c rd 0 _ = t at hexec
  obtain ⟨hregs, hret, hshown, ⟨hcmds, -, hhdq⟩, hframe⟩ := abortAnswer_done hrd (issued c s) _ _ _ c 0 ht.symm
  refine ⟨t, hexec, hregs, hret, ?_, ?_, ?_, ?_, hshown, hframe⟩
  · rw [hcmds]
    intro y hy htick
    obtain ⟨x, -, rfl⟩ := List.mem_map.1 hy
    exact endedAs_phase (by simpa using htick)
  · rw [hcmds]
    have htick := ticket_of_cmdOf h
    refine ⟨_, List.mem_map.2 ⟨x, mem_of_cmdOf h, rfl⟩, by simpa using htick, ?_⟩
    rw [endedAs_running htick (by omega)]
  · rw [hcmds]
    exact fun y hy => mem_map_endedAs hy
  · rw [hhdq]
    simp

end

/-- Settles O26: an issued Loom instruction runs its body in the state after the fetch; each body is an answer (rd, Z, retirement), a wait, or a
trap, after its change of the commands and slots. -/
theorem loomIssueWaitForms : Obligations.LoomIssueWaitForms := by
  refine ⟨fun s c rd rs1 hs hrd i fn hi => ⟨loomCommand_task hi hs, fun hsup => ⟨fun ti h htw => loomCommand_bad hi hs hsup htw h,
    fun d sp h => ⟨loomCommand_full hi hs hrd hsup h, fun k hk hfree hbelow hidle => ?_⟩⟩⟩, fun s c rd rs1 hs hrd hsup => ?_⟩
  · obtain ⟨t, hexec, hregs, hz, hret, hframe⟩ := loomCommand_accepted hi hs hrd hsup h hk hfree hbelow hidle
    refine ⟨t, hexec, hregs, hz, hret, congrArg State.cmds hframe, fun n => ?_, frame_withCommand hframe⟩
    rw [show t.slots = _ from congrArg State.slots hframe]
    exact SMap.get_set _ _ _ _
  refine ⟨fun h => ⟨?_, ?_⟩, fun hlive hcore => ⟨fun w hw => ?_, fun hnone => ⟨?_, ?_⟩⟩, fun h => ?_,
    fun x h hphase hlive hload hmigs => labort_waiting hs hrd hsup rfl h hphase hlive hload hmigs,
    fun h => ?_, fun h htw => ?_, fun h2 h3 => ?_, fun h => ?_, fun h => ?_⟩
  · exact tkReturn_issued hrd ((exec_lwait hs hsup).trans (by rw [tkCollect_stale h]; rfl))
  · exact tkReturn_issued hrd ((exec_lstat hs hsup).trans (by rw [tkCollect_stale h]; rfl))
  · simp only [List.forall_mem_cons]
    refine ⟨tkReturn_freed hrd ((exec_lwait hs hsup).trans ?_), tkReturn_freed hrd ((exec_lstat hs hsup).trans ?_), by simp⟩ <;>
      rw [tkCollect_status hlive hcore hw]
  · exact lwait_waits ((exec_lwait hs hsup).trans (by rw [tkCollect_running hlive hcore hnone]))
  · exact tkReturn_issued hrd ((exec_lstat hs hsup).trans (by rw [tkCollect_running hlive hcore hnone]))
  · obtain ⟨hregs, hret, hshown, ⟨hcmds, hholds, hhdq⟩, hframe⟩ := abortAnswer_done hrd (issued c s) (issued c s).cmds (issued c s).holds (issued c s).hdq c 2 rfl
    refine ⟨_, exec_labort hs hsup (ticketAbort_none h), hregs, hret, hshown, frame_pins hframe hcmds hholds hhdq⟩
  · exact ⟨_, (exec_lnext hs hsup).trans (by rw [if_neg (by omega), if_pos h]), programGive_done hrd _ _⟩
  · exact ⟨_, (exec_lnext hs hsup).trans (by rw [if_pos h]), trapTaken_vtrapAt htw (by decide) (by decide) (by decide)⟩
  · exact ⟨_, (exec_lnext hs hsup).trans (by rw [if_neg h3, if_neg h2]), updVc_waits _ _ _⟩
  · have hx : OnlyCore (issued c s) (issued c s) c [] := OnlyCore.refl _ _ _
    exact ⟨_, (exec_lexit hs hsup).trans (by rw [if_pos h, vretire]), regSet_none (fun n => vget_fldSame (vretireTo_regs _ _ _) (fldSame_vretireTo _ c _) (retireFs_windowFs c) n), hx.retires (by simp) _, hx.retire_frame _⟩
  · exact ⟨_, (exec_lexit hs hsup).trans (by rw [if_neg (by simp [h])]), vdrained_lexit _ _ _⟩

end Sys2Proof.Machine
end

section
/-!
SUPPORT. Loom commands when they run (R273, R274, R278, R283, R284, R292, R293, R188): when a waiting command begins, what it does to the list
of commands, its effect, its report, and the erase of a region.
-/
namespace Sys2Proof.Machine
open Claims

/-! ### Commands with a ticket -/

/-- No other command carries the ticket of `c`. -/
def OnlyTicket (s : State) (c : LCmd) : Prop := cmdOf s c.ticket = some c ∧ ∀ y ∈ s.cmds, y.ticket = c.ticket → y = c

/-- The command of a ticket is there, and has ended with a result. -/
def EndedWith (t : State) (tk r d : Nat) : Prop :=
  (∃ y ∈ t.cmds, y.ticket = tk) ∧ ∀ y ∈ t.cmds, y.ticket = tk → y.phase = 3 ∧ y.res = r ∧ y.detail = d

section
variable {s t : State} {c : LCmd} {r d : Nat}

/-- A running command ends. -/
theorem endedWith_map (hc : OnlyTicket s c) (hp : c.phase ≠ 3) (h : t.cmds = s.cmds.map (endedAs c.ticket r d)) : EndedWith t c.ticket r d := by
  obtain ⟨hof, honly⟩ := hc
  rw [EndedWith, h]
  refine ⟨⟨_, List.mem_map.2 ⟨c, mem_of_cmdOf hof, rfl⟩, endedAs_ticket⟩, fun y hy htick => ?_⟩
  obtain ⟨x, hx, rfl⟩ := List.mem_map.1 hy
  obtain rfl := honly x hx (by simpa using htick)
  rw [endedAs_running rfl hp]
  exact ⟨rfl, rfl, rfl⟩

theorem endedWith_cmdEnd (hc : OnlyTicket s c) (hp : c.phase ≠ 3) {w : State} (hw : w.cmds = s.cmds) :
    EndedWith (cmdEnd c.ticket r d w) c.ticket r d := endedWith_map hc hp (by rw [cmds_cmdEnd, hw])

/-- After its end, the command that carries a ticket reads as ended. -/
theorem cmdOf_cmdEnd_phase {tk : Nat} {x : LCmd} (h : cmdOf (cmdEnd tk r d s) tk = some x) : x.phase = 3 := by
  have htick := ticket_of_cmdOf h
  have hmem : x ∈ s.cmds.map (endedAs tk r d) := mem_of_cmdOf h
  obtain ⟨y, -, rfl⟩ := List.mem_map.1 hmem
  exact endedAs_phase (by simpa using htick)

end

/-! ### When a command begins (R273, R274, R340) -/

section
variable {s : State} {c : LCmd}

theorem cmdStart_stopped (h : cfgRuns s = false) (tk : Nat) : cmdStart tk s = s := by
  unfold cmdStart
  split
  next => rfl
  next => simp [h]

theorem cmdStart_held (hc : cmdOf s c.ticket = some c) (hphase : c.phase = 0) (h : instReady s c = false ∨ passEarlier s c = true) :
    cmdStart c.ticket s = s := by
  have hno : (instReady s c && !passEarlier s c && (!onFramePath c || (c.opc == fLFREE && c.atPick) || framePathFree s c.ticket)) = false := by
    rcases h with h | h <;> simp [h]
  rw [cmdStart, hc]
  dsimp only
  rw [if_pos hphase, hno]
  simp

/-- A command of the model's run: waiting, ready, and its path in order. -/
def CmdRuns (s : State) (c : LCmd) : Prop :=
  cfgRuns s = true ∧ c.phase = 0 ∧ instReady s c = true ∧ privBad s 0 = false ∧ notOn s c = false

theorem CmdRuns.running (h : CmdRuns s c) : c.phase ≠ 3 := by
  obtain ⟨-, h0, -⟩ := h
  omega

theorem cmdStart_runs (hc : cmdOf s c.ticket = some c) (h : CmdRuns s c) (hscrub : c.opc ≠ fLSCRUB)
    (hpath : onFramePath c = false ∨ framePathFree s c.ticket = true) : exec (.loomCommandStart c.ticket) s = .next (cmdRun c s) := by
  obtain ⟨hruns, hphase, hready, -, -⟩ := h
  have hpass : passEarlier s c = false := by simp [passEarlier, hscrub]
  have hgo : (instReady s c && !passEarlier s c && (!onFramePath c || (c.opc == fLFREE && c.atPick) || framePathFree s c.ticket)) = true := by
    rcases hpath with h | h <;> simp [hready, hpass, h]
  have hexec : exec (.loomCommandStart c.ticket) s = .next (cmdStart c.ticket s) := rfl
  rw [hexec, cmdStart, hc]
  dsimp only
  rw [if_pos hphase, hgo, hruns]
  rfl

theorem onFramePath_eq_false (h : c.opc = fLREL ∨ c.opc = fLHOLD ∨ c.opc = fLKEY) : onFramePath c = false := by
  unfold onFramePath
  rcases h with h | h | h <;> rw [h] <;> decide

/-- A command that is neither a capture nor a migration runs its own operation. -/
theorem cmdRun_of (h : CmdRuns s c) {op : Nat} (hop : c.opc = op) (hsnap : op ≠ fLSNAP) (hmigr : op ≠ fLMIGR) :
    cmdRun c s = if op = fLLOAD then loadStart c (updCmd c.ticket (fun x => { x with phase := 1 }) s) else if op = fLREL then relRun c s
      else if op = fLHOLD then holdRun c s else if op = fLFREE then freeRun c s else if op = fLPLACE then placeRun c s else if op = fLREST then restRun c s
      else if op = fLSCRUB then scrubRun c s else if op = fLREAD then readRun c s else keyRun c s := by
  obtain ⟨-, -, -, hpriv, hon⟩ := h
  simp only [cmdRun, hpriv, hon, hop, hsnap, hmigr, Bool.or_false, Bool.false_eq_true, if_false, beq_eq_false_iff_ne.2 hsnap,
    beq_eq_false_iff_ne.2 hmigr, Bool.false_and]

theorem cmdRun_rel (h : CmdRuns s c) (hop : c.opc = fLREL) : cmdRun c s = relRun c s := cmdRun_of h hop (by decide) (by decide)
theorem cmdRun_hold (h : CmdRuns s c) (hop : c.opc = fLHOLD) : cmdRun c s = holdRun c s := cmdRun_of h hop (by decide) (by decide)
theorem cmdRun_free (h : CmdRuns s c) (hop : c.opc = fLFREE) : cmdRun c s = freeRun c s := cmdRun_of h hop (by decide) (by decide)
theorem cmdRun_key (h : CmdRuns s c) (hop : c.opc = fLKEY) : cmdRun c s = keyRun c s := cmdRun_of h hop (by decide) (by decide)

end

/-! ### Release, hold and free (R283, R284) -/

section
variable {s : State} {c : LCmd} {k : Skein}

theorem relRun_late (hk : instOf s c.inst = some k) (hloaded : k.ostate = oLOADED) (hheld : allReleased s k = false) (hpick : c.atPick = true)
    (hpassed : pickPassed s c.pick = true) : relRun c s = cmdEnd c.ticket rLATE 0 s := by
  simp [relRun, hk, hloaded, hheld, hpick, hpassed]

theorem relRun_begins (hk : instOf s c.inst = some k) (hloaded : k.ostate = oLOADED) (hheld : allReleased s k = false) (hpick : c.atPick = false) :
    relRun c s = updCmd c.ticket (fun x => { x with phase := 1 }) (holdBegin { inst := c.inst, hold := false, pick := none, ticket := c.ticket + 1 } s) := by
  simp [relRun, hk, hloaded, hheld, hpick]

theorem holdRun_begins (hk : instOf s c.inst = some k) (hloaded : k.ostate = oLOADED) (hpick : c.atPick = false) :
    holdRun c s = updCmd c.ticket (fun x => { x with phase := 1, late := false }) (holdBegin { inst := c.inst, hold := true, ticket := c.ticket + 1 } s) := by
  simp [holdRun, hk, hloaded, hpick]

theorem freeRun_erases (hk : instOf s c.inst = some k) (hloaded : k.ostate = oLOADED) (hpick : c.atPick = false) (hheld : allHeld s k = true) :
    freeRun c s = freeErase c k (updCmd c.ticket (fun x => { x with phase := 1, late := false }) s) := by
  simp [freeRun, freeHold, freeHeld, hk, hloaded, hpick, hheld]

/-- With no hold under way, a hold or release begins alone. -/
theorem holdBegin_alone (h : s.holds = []) (o : HoldOp) : holdBegin o s = { s with holds := [o] } := by
  unfold holdBegin holdStart
  simp [h]

/-- A bay that is marked in the occupancy map reads as marked. -/
theorem marked_forL {o st : Nat} {l : List Nat} (s : State) :
    ∀ b ∈ l, ostate (forL l (markBay o st) s) b = st % 2 ^ F.HD_MAP_OSTATE.w ∧ mapOwner (forL l (markBay o st) s) b = o % 2 ^ F.HD_MAP_OWNER.w := by
  refine forL_all (fun _ => True) (fun b (s : State) => ostate s b = st % 2 ^ F.HD_MAP_OSTATE.w ∧ mapOwner s b = o % 2 ^ F.HD_MAP_OWNER.w)
    (fun _ _ _ _ => trivial) (fun b _ s _ => ⟨fld_setFld_same _ _ _ _ _, ?_⟩) (fun a _ b _ hne s _ hb => ?_) trivial
  · exact (fld_setFld_id _ _ _ _ _ _ _ _ (by decide)).trans (fld_setFld_same _ _ _ _ _)
  · have hstate : ostate (markBay o st a s) b = ostate s b := (fld_setFld_copy _ _ _ _ _ _ _ _ hne).trans (fld_setFld_copy _ _ _ _ _ _ _ _ hne)
    have howner : mapOwner (markBay o st a s) b = mapOwner s b := (fld_setFld_copy _ _ _ _ _ _ _ _ hne).trans (fld_setFld_copy _ _ _ _ _ _ _ _ hne)
    exact ⟨hstate.trans hb.1, howner.trans hb.2⟩

theorem instState_proj {β : Type} (g : State → β) (h : ∀ (s : State) r i, g { s with regs := r, insts := i } = g s) (i st : Nat) (s : State) :
    g (instState i st s) = g s := by
  unfold instState
  split
  next => rfl
  next k _ => exact (h _ _ _).trans (forL_proj g (fun b _ s => h s _ s.insts) s)

theorem instState_some {i st : Nat} (hk : instOf s i = some k) :
    instState i st s = updInst i (fun k => { k with ostate := st }) (forL k.bays (markBay i st) s) := by rw [instState, hk]

/-- The erase of LFREE: LOADED is cleared in every bay and the map shows ERASING. -/
theorem freeErase_done {s : State} {c : LCmd} {k : Skein} (hk : instOf s c.inst = some k) (hnone : s.holds = []) :
    let t := freeErase c k s
    (∀ b ∈ k.bays, t.fld F.BAY_STATUS_LOADED b = 0 ∧ ostate t b = oERASING) ∧ (∀ y ∈ t.cmds, y.ticket = c.ticket → y.phase = 1 ∧ y.part = 2) ∧
      MemSame s t := by
  let w := forL k.bays (fun b s => s.clrFld F.BAY_STATUS_LOADED b) s
  have hkw : instOf w c.inst = some k := (forL_proj (f := fun b s => s.clrFld F.BAY_STATUS_LOADED b) (fun s => instOf s c.inst) (fun _ _ _ => rfl) s).trans hk
  have hcleared : ∀ b ∈ k.bays, w.fld F.BAY_STATUS_LOADED b = 0 := (forL_setFld F.BAY_STATUS_LOADED 0 k.bays s).1
  have hnil : { s with holds := [] } = s := by rw [← hnone]
  have ht : freeErase c k s = updCmd c.ticket (fun x => { x with phase := 1, part := 2 })
      (updInst c.inst (fun k => { k with ostate := oERASING }) (forL k.bays (markBay c.inst oERASING) w)) := by
    rw [← instState_some hkw]
    simp only [freeErase, hnone, List.filter_nil, forL_nil, hnil, w]
  dsimp only
  rw [ht]
  refine ⟨fun b hb => ⟨?_, ?_⟩, fun y hy htick => ?_, memSame_of_eq ?_ ?_⟩
  · exact (forL_proj (fun s => s.fld F.BAY_STATUS_LOADED b)
      (fun a _ s => (fld_setFld_id _ _ _ _ _ _ _ _ (by decide)).trans (fld_setFld_id _ _ _ _ _ _ _ _ (by decide))) w).trans (hcleared b hb)
  · exact (marked_forL w b hb).1
  · obtain ⟨x, -, rfl⟩ := List.mem_map.1 hy
    by_cases e : x.ticket = c.ticket
    · rw [if_pos e]
      exact ⟨rfl, rfl⟩
    · rw [if_neg e] at htick
      exact absurd htick e
  · exact (forL_proj (f := markBay c.inst oERASING) (·.mem) (fun _ _ _ => rfl) w).trans (forL_proj (f := fun b s => s.clrFld F.BAY_STATUS_LOADED b) (·.mem) (fun _ _ _ => rfl) s)
  · exact (forL_proj (f := markBay c.inst oERASING) (·.ecc) (fun _ _ _ => rfl) w).trans (forL_proj (f := fun b s => s.clrFld F.BAY_STATUS_LOADED b) (·.ecc) (fun _ _ _ => rfl) s)

end

/-! ### Keys (R292, R293) -/

section
variable {s : State} {c : LCmd} {cl k : Nat}

/-- A key slot that LKEY may load, erase or wrap a key for. -/
def KeySlotOk (s : State) (cl k : Nat) : Prop :=
  (cl = 0 ∧ k ≤ 15) ∨ (cl = 1 ∧ 1 ≤ k ∧ k ≤ 63 ∧ keyNamed s k = false ∧ privBad s 1 = false)

/-- The flag of a key slot: VALID of an image key, LOADED of a memory-protection key. -/
def keyFlag (t : State) (cl k : Nat) : Bool := if cl = 0 then bitOf (t.fld F.CFG_IKEY_VALID) k else bitOf (t.fld F.MPE_KEY_LOADED) (k - 1)

theorem keySet_done (h : KeySlotOk s cl k) (v : List Byte) (w : State) :
    (keySet cl k v w).keys.get (keyCell cl k) = v ∧ keyFlag (keySet cl k v w) cl k = !v.isEmpty := by
  unfold keySet keyFlag
  rcases h with ⟨rfl, hk⟩ | ⟨rfl, hk1, hk2, -⟩
  · have hw : k < F.CFG_IKEY_VALID.w := Nat.lt_succ_of_le hk
    refine ⟨SMap.get_set_same _ _ _, ?_⟩
    simp only [if_true]
    rw [bitOf_setFlag _ _ _ _ _ _ _ hw, if_pos rfl]
  · have hw : k - 1 < F.MPE_KEY_LOADED.w := by
      show k - 1 < 63
      omega
    refine ⟨SMap.get_set_same _ _ _, ?_⟩
    simp only [Nat.one_ne_zero, if_false]
    rw [bitOf_setFlag _ _ _ _ _ _ _ hw, if_pos rfl]

theorem keySet_parts (cl k : Nat) (v : List Byte) (w : State) :
    (keySet cl k v w).mem = w.mem ∧ (keySet cl k v w).ecc = w.ecc ∧ (keySet cl k v w).cmds = w.cmds := by
  unfold keySet
  dsimp only
  split <;> exact ⟨rfl, rfl, rfl⟩

theorem keyBytes_inside {c o n : Nat} (h : o + n ≤ 0x1_0000) (s : State) : keyBytes c o n s = (s.rdBytes (aPriv c (0x1_0000 + o)) n, s) := by
  have hm : min n (0x1_0000 - o) = n := by omega
  simp only [keyBytes, hm, Nat.sub_self, State.freshBytes, List.range_zero, List.map_nil, List.append_nil, Nat.add_zero]

theorem keyBytes_frame (c o n : Nat) (s : State) : (keyBytes c o n s).2 = { s with freeCtr := (keyBytes c o n s).2.freeCtr } := rfl

/-- A wrapped key is 40 bytes long. -/
theorem length_keyWrap (cl : Nat) (b : List Byte) : (keyWrap cl b).length = 40 := by
  have hparts : ∀ l : List Nat, (l.flatMap (bytesBE 8)).length = 8 * l.length := by
    intro l
    induction l with
    | nil => rfl
    | cons x l ih => simp [bytesBE, ih]; omega
  have hfold : ∀ (f : Nat × List Nat → Nat → Nat × List Nat) (_ : ∀ acc t, (f acc t).2.length = acc.2.length) (l : List Nat) (acc : Nat × List Nat),
      (l.foldl f acc).2.length = acc.2.length := by
    intro f hf l
    induction l with
    | nil => exact fun _ => rfl
    | cons t l ih => exact fun acc => (ih (f acc t)).trans (hf acc t)
  unfold keyWrap
  dsimp only
  rw [List.length_append, hparts, hfold]
  · simp [bytesBE, keyParts]
  · exact fun acc t => List.length_set

/-- What LKEY writes to LDM for a wrapped key. -/
def wrapOut (cl : Nat) (b : List Byte) : List Byte := bytesLE 4 0x4B594250 ++ bytesLE 4 cl ++ padTo 40 (keyWrap cl b) ++ List.replicate 16 0

theorem length_wrapOut (cl : Nat) (b : List Byte) : (wrapOut cl b).length = 64 := by simp [wrapOut, padTo, length_keyWrap]

/-- The slot is checked before the operation. -/
theorem keyRun_slot (h : KeySlotOk s (c.f 0x11 1) (c.f 0x12 1)) :
    ¬((c.f 0x11 1 = 0 ∧ 15 < c.f 0x12 1) ∨ (c.f 0x11 1 = 1 ∧ (c.f 0x12 1 = 0 ∨ 63 < c.f 0x12 1))) ∧
      ¬(c.f 0x10 1 ≠ 2 ∧ c.f 0x11 1 = 1 ∧ keyNamed s (c.f 0x12 1) = true) ∧ (decide (c.f 0x11 1 = 1) && privBad s 1) = false := by
  rcases h with ⟨hcl, hk⟩ | ⟨hcl, hk1, hk2, hnamed, hpriv⟩
  · exact ⟨by omega, by omega, by simp [hcl]⟩
  · exact ⟨by omega, by simp [hnamed], by simp [hpriv]⟩

section
variable (h : KeySlotOk s (c.f 0x11 1) (c.f 0x12 1))
include h

theorem keyRun_load (hop : c.f 0x10 1 = 0) : keyRun c s =
    match blobKey (c.f 0x11 1) (keyBytes c.core (c.f 0x14 2) 64 s).1 with
    | some v => cmdEnd c.ticket rOK 0 (keySet (c.f 0x11 1) (c.f 0x12 1) v (keyBytes c.core (c.f 0x14 2) 64 s).2)
    | none => cmdEnd c.ticket rKEYERR 0 (keyBytes c.core (c.f 0x14 2) 64 s).2 := by
  obtain ⟨hrange, hnamed, hpriv⟩ := keyRun_slot h
  rw [keyRun]
  dsimp only
  rw [if_neg hrange, if_neg hnamed, hop, hpriv]
  rfl

theorem keyRun_erase (hop : c.f 0x10 1 = 1) : keyRun c s = cmdEnd c.ticket rOK 0 (keySet (c.f 0x11 1) (c.f 0x12 1) [] s) := by
  obtain ⟨hrange, hnamed, -⟩ := keyRun_slot h
  rw [keyRun]
  dsimp only
  rw [if_neg hrange, if_neg hnamed, hop]
  rfl

theorem keyRun_wrap (hop : c.f 0x10 1 = 2) : keyRun c s = cmdEnd c.ticket rOK 0
    ((keyBytes c.core (c.f 0x14 2) 32 s).2.wrBytes (aPriv c.core (0x1_0000 + c.f 0x16 2))
      ((wrapOut (c.f 0x11 1) (keyBytes c.core (c.f 0x14 2) 32 s).1).take (0x1_0000 - c.f 0x16 2))) := by
  obtain ⟨hrange, hnamed, -⟩ := keyRun_slot h
  rw [keyRun]
  dsimp only
  rw [if_neg hrange, if_neg hnamed, hop]
  rfl

end

end

/-! ### Cells that are dropped -/

theorem SMap.getL_filter {α : Type} [Inhabited α] (p : Nat → Bool) (l : List (Nat × α)) (k : Nat) :
    SMap.getL (l.filter (fun c => p c.1)) k = if p k then SMap.getL l k else default := by
  induction l with
  | nil => simp [SMap.getL]
  | cons c l ih =>
    by_cases hc : p c.1 = true
    · rw [List.filter_cons_of_pos (p := fun c : Nat × α => p c.1) hc, SMap.getL, SMap.getL, ih]
      by_cases e : k = c.1
      · simp [e, hc]
      · simp [e]
    · rw [List.filter_cons_of_neg (p := fun c : Nat × α => p c.1) hc, SMap.getL, ih]
      by_cases e : k = c.1
      · simp [e, hc]
      · simp [e]

/-- A key that is kept reads as before, one that is dropped as the default. -/
theorem SMap.get_keep {α : Type} [Inhabited α] (m : SMap α) (p : Nat → Bool) (k : Nat) :
    (m.keep (fun k _ => p k)).get k = if p k then m.get k else default := SMap.getL_filter p m.cells k

/-! ### Zero frames (R97, R188) -/

theorem zeroRange_mem (s : State) (a n : Nat) : (s.zeroRange a n).mem = s.mem.keep (fun k _ => k < a || a + n ≤ k) := rfl

theorem rdB_zeroRange (s : State) (a n x : Nat) : (s.zeroRange a n).rdB x = if a ≤ x ∧ x < a + n then 0 else s.rdB x := by
  show (s.mem.keep _).get x = _
  rw [SMap.get_keep]
  by_cases h : a ≤ x ∧ x < a + n
  · rw [if_pos h, if_neg (by simp; omega)]
    rfl
  · rw [if_neg h, if_pos (by simp; omega)]
    rfl

section
variable {s : State} {b x : Nat}

/-- A byte that is zero stays zero when a range is zeroed. -/
theorem zeroRange_zero (a n : Nat) (h : s.rdB x = 0) : (s.zeroRange a n).rdB x = 0 := by
  rw [rdB_zeroRange, h, ite_self]

/-- The state with `n` frames of a bay, and their maps, zero. -/
def framesCleared (n b : Nat) (s : State) : State := (s.zeroRange (aFrame b 0 0) (n * 256)).zeroRange (aMap b 0 0) (n * 256)

theorem framesCleared_zero (n b : Nat) (h : s.rdB x = 0) : (framesCleared n b s).rdB x = 0 := zeroRange_zero _ _ (zeroRange_zero _ _ h)

theorem framesCleared_frames {n : Nat} (hn : 2048 ≤ n) (s : State) (b : Nat) {o : Nat} (h : o < 2048 * 256) :
    (framesCleared n b s).rdB (aFrame b 0 o) = 0 := by
  refine zeroRange_zero _ _ ?_
  rw [rdB_zeroRange, if_pos]
  unfold aFrame
  omega

theorem mem_framesZero (s : State) (b : Nat) : (framesZero b s).mem =
    if b = selvage then (framesCleared 65536 b s).mem else ((framesCleared 2048 b s).zeroRange (aBlock b 0 0) (24 * 4096)).mem := by
  by_cases h : b = selvage
  · simp only [framesZero, if_pos h, framesCleared]
  · simp only [framesZero, if_neg h, framesCleared, zeroRange_mem]

/-- What zero frames make of a byte is what the cleared ranges make of it. -/
theorem rdB_framesZero (s : State) (b x : Nat) : (framesZero b s).rdB x =
    if b = selvage then (framesCleared 65536 b s).rdB x else ((framesCleared 2048 b s).zeroRange (aBlock b 0 0) (24 * 4096)).rdB x := by
  unfold State.rdB
  rw [mem_framesZero]
  split <;> rfl

theorem framesZero_zero (b : Nat) (h : s.rdB x = 0) : (framesZero b s).rdB x = 0 := by
  rw [rdB_framesZero]
  split
  · exact framesCleared_zero _ _ h
  · exact zeroRange_zero _ _ (framesCleared_zero _ _ h)

theorem framesZero_frames (s : State) (b : Nat) {o : Nat} (h : o < 2048 * 256) : (framesZero b s).rdB (aFrame b 0 o) = 0 := by
  rw [rdB_framesZero]
  split
  · exact framesCleared_frames (by decide) s b h
  · exact zeroRange_zero _ _ (framesCleared_frames (le_refl _) s b h)

theorem bayRegsClear_proj {β : Type} (g : State → β) (h : ∀ (s : State) r x o, g { s with regs := r, staged := x, owed := o } = g s) (b : Nat)
    (s : State) : g (bayRegsClear b s) = g s := by
  have hreset : ∀ (s : State) (f : Field) u i, g (s.resetFld f u i) = g s := fun s f u i => h s _ s.staged s.owed
  refine (forL_proj g (fun r _ s => forL_proj g (fun f _ s => ?_) s) _).trans ((forL_proj g (fun f _ s => hreset s f _ 0) _).trans (h s s.regs _ _))
  split
  next => rfl
  next => exact forN_proj g (fun i _ s => hreset s f b i) s

theorem rdB_bayClean (b x : Nat) (s : State) : (bayClean b s).rdB x = (framesZero b s).rdB x :=
  bayRegsClear_proj (fun s => s.rdB x) (fun _ _ _ _ => rfl) b _

/-- Every frame byte of a cleaned bay reads zero. -/
theorem forL_bayClean_frames (l : List Nat) (s : State) : ∀ b ∈ l, ∀ o < 2048 * 256, (forL l bayClean s).rdB (aFrame b 0 o) = 0 :=
  forL_all (fun _ => True) (fun b (s : State) => ∀ o < 2048 * 256, s.rdB (aFrame b 0 o) = 0) (fun _ _ _ _ => trivial)
    (fun b _ s _ _ ho => (rdB_bayClean _ _ _).trans (framesZero_frames s b ho))
    (fun _ _ _ _ _ _ _ hb o ho => (rdB_bayClean _ _ _).trans (framesZero_zero _ (hb o ho))) trivial

end

/-! ### The report (R278) -/

section
variable {s t : State} {c : LCmd} {tk n m : Nat}

theorem fld_setBit_pending (s : State) (m n : Nat) (h : m = n ∨ s.fld F.IRQ_SRC_PENDING 0 n = 1) :
    (s.setBit F.IRQ_SRC_PENDING 0 m).fld F.IRQ_SRC_PENDING 0 n = 1 := by
  by_cases e : n = m
  · rw [e]
    exact fld_setFld_same _ _ _ _ _
  · rw [State.setBit, fld_setFld_copy _ _ _ _ _ _ _ _ e]
    exact h.resolve_left (Ne.symm e)

/-- A source that an event reaches is pending, and one that was pending stays so. -/
theorem pending_irqSet (h : (m = n ∧ irqAssigned m = true) ∨ s.fld F.IRQ_SRC_PENDING 0 n = 1) : (irqSet m s).fld F.IRQ_SRC_PENDING 0 n = 1 := by
  unfold irqSet
  split
  next hno => exact h.resolve_left (fun h => by simp [h.2] at hno)
  next =>
    dsimp only
    rw [irqNote_proj (fun s => s.fld F.IRQ_SRC_PENDING 0 n) (fun _ _ => rfl)]
    split
    next hset =>
      rw [State.setBit, fld_setFld_id _ _ _ _ _ _ _ _ (by decide)]
      rcases h with ⟨rfl, -⟩ | h
      · simpa [State.bit] using hset
      · exact h
    next => exact fld_setBit_pending s m n (h.imp_left And.left)

theorem raised_irqEdge (h : irqAssigned n = true) (s : State) : Raised s (irqEdge n s) n := by
  unfold irqEdge
  split
  next ho => exact ⟨fun _ => pending_irqSet (.inl ⟨rfl, h⟩), fun hc => by simp [ho] at hc⟩
  next ho => exact ⟨fun hc => absurd hc ho, fun _ => List.mem_append_right _ (List.mem_singleton.2 rfl)⟩

/-- A source that has been raised stays so when another edge comes. -/
theorem raised_stays (h : Raised s t n) (m : Nat) : Raised s (irqEdge m t) n := by
  obtain ⟨hopen, hclosed⟩ := h
  unfold irqEdge
  split
  next =>
    refine ⟨fun ho => pending_irqSet (.inr (hopen ho)), fun hc => ?_⟩
    rw [irqSet_proj (·.irqHeld) (fun _ _ _ => rfl)]
    exact hclosed hc
  next => exact ⟨hopen, fun hc => List.mem_append_left _ (hclosed hc)⟩

/-- The report: the command leaves the list and its slot keeps the status word. -/
def cmdSettled (c : LCmd) (tk : Nat) (s : State) : State :=
  let s1 := { s with cmds := s.cmds.filter (fun x => x.ticket != tk) }
  if c.drop || !tkLive s tk then s1
  else if c.flag 0 then slotFree tk s1
  else { s1 with slots := s1.slots.upd (tkKey tk) (fun k => { k with status := some c.status }) }

/-- The sources of a completion rise. -/
def cmdRaised (c : LCmd) (s : State) : State :=
  let s3 := if c.res ≠ rOK then irqEdge (2 + 4 * c.core) s else s
  if c.flag 2 && !c.drop then irqEdge (1 + 4 * c.core) s3 else s3

theorem cmdReport_ended (hc : cmdOf s tk = some c) (h : c.phase = 3) : cmdReport tk s = tkWake c.core (cmdRaised c (cmdSettled c tk s)) := by
  rw [cmdReport, hc]
  dsimp only
  rw [if_neg (not_not.2 h)]
  rfl

theorem cmdSettled_proj {β : Type} (g : State → β) (h : ∀ (s : State) x y, g { s with cmds := x, slots := y } = g s) (c : LCmd) (tk : Nat) (s : State) :
    g (cmdSettled c tk s) = g s := by
  unfold cmdSettled
  dsimp only
  split_ifs
  · exact h s _ s.slots
  · exact h s _ _
  · exact h s _ _

theorem cmds_cmdSettled (c : LCmd) (tk : Nat) (s : State) : (cmdSettled c tk s).cmds = s.cmds.filter (fun x => x.ticket != tk) := by
  unfold cmdSettled
  dsimp only
  split_ifs <;> rfl

theorem cmdRaised_proj {β : Type} (g : State → β) (h : ∀ (s : State) r w l, g { s with regs := r, irqWin := w, irqHeld := l } = g s) (c : LCmd)
    (s : State) : g (cmdRaised c s) = g s := by
  have hedge : ∀ n s, g (irqEdge n s) = g s := fun n s => irqEdge_proj g h n s
  unfold cmdRaised
  dsimp only
  split_ifs <;> simp only [hedge]

theorem loomAnswer_frame (c rd : Nat) (v : Word) (z : Bool) (s : State) :
    loomAnswer c rd v z s = { s with regs := (loomAnswer c rd v z s).regs, vc := (loomAnswer c rd v z s).vc } := by
  have hx : OnlyCore s (setZ c z (s.vset c rd v)) c [(F.FLAGS_NZCV, c)] := (onlyCore_vset _ _ _ _ _).setFld _ _ _ _ List.mem_cons_self
  exact hx.retire_frame _

theorem loomAnswer_proj {β : Type} (g : State → β) (h : ∀ (s : State) r v, g { s with regs := r, vc := v } = g s) (c rd : Nat) (v : Word) (z : Bool)
    (s : State) : g (loomAnswer c rd v z s) = g s := by
  rw [loomAnswer_frame]
  exact h _ _ _

/-- A core that goes on from LWAIT changes its registers and its slot alone. -/
theorem tkWake_proj {β : Type} (g : State → β) (h : ∀ (s : State) r v y, g { s with regs := r, vc := v, slots := y } = g s) (c : Nat) (s : State) :
    g (tkWake c s) = g s := by
  have hanswer : ∀ rd w s, g (tkReturn c rd w s) = g s := fun rd w s => loomAnswer_proj g (fun s r v => h s r v s.slots) c rd _ _ s
  unfold tkWake
  split
  next rd tk _ =>
    unfold tkCollect
    split_ifs
    · exact hanswer rd rSTALE s
    · cases (s.slots.get (tkKey tk)).status with
      | none => rfl
      | some w => exact (hanswer rd w _).trans (h s s.regs s.vc _)
  next => rfl

theorem tkWake_idle {c : Nat} (h : ∀ rd n, (s.vc.get c).wait ≠ .lwait rd n) : tkWake c s = s := by
  unfold tkWake
  split
  next rd n hw => exact absurd hw (h rd n)
  next => rfl

/-- What the report of a command may write in the register store: its sources, and what a retirement writes. -/
def reportFs : List Field := [F.IRQ_SRC_PENDING, F.IRQ_SRC_MERGED, F.FLAGS_NZCV, F.RETIRED, F.CC_PC_PC, F.DSTATUS_SKIP]

section
variable {f : Field} (hf : ∀ g ∈ reportFs, f.id ≠ g.id)
include hf

theorem fld_loomAnswer (c rd : Nat) (v : Word) (z : Bool) (s : State) (u i : Nat) : (loomAnswer c rd v z s).fld f u i = s.fld f u i := by
  have hx : OnlyCore s (setZ c z (s.vset c rd v)) c [(F.FLAGS_NZCV, c)] := (onlyCore_vset _ _ _ _ _).setFld _ _ _ _ List.mem_cons_self
  refine (hx.retire_fldSame _).fld_id (fun w hw => hf w.1 ?_) u i
  simp only [retireFs, List.mem_append, List.mem_cons, List.not_mem_nil, or_false] at hw
  rcases hw with (rfl | rfl | rfl) | rfl <;> simp [reportFs]

theorem fld_cmdRaised (c : LCmd) (s : State) (u i : Nat) : (cmdRaised c s).fld f u i = s.fld f u i := by
  have hedge : ∀ n s, (irqEdge n s).fld f u i = s.fld f u i := fun n s => (fldSame_irqEdge n s).fld_id (fun w hw => hf w.1 (by
    simp only [irqFs, List.mem_cons, List.not_mem_nil, or_false] at hw
    rcases hw with rfl | rfl <;> simp [reportFs])) u i
  unfold cmdRaised
  dsimp only
  split_ifs <;> simp only [hedge]

theorem fld_tkWake (c : Nat) (s : State) (u i : Nat) : (tkWake c s).fld f u i = s.fld f u i := by
  unfold tkWake
  split
  next rd tk _ =>
    unfold tkCollect
    split_ifs
    · exact fld_loomAnswer hf _ _ _ _ _ _ _
    · cases (s.slots.get (tkKey tk)).status with
      | none => rfl
      | some w => exact fld_loomAnswer hf _ _ _ _ _ _ _
  next => rfl

theorem fld_cmdReport (tk : Nat) (s : State) (u i : Nat) : (cmdReport tk s).fld f u i = s.fld f u i := by
  cases hc : cmdOf s tk with
  | none => rw [cmdReport, hc]
  | some c =>
    by_cases h3 : c.phase = 3
    · rw [cmdReport_ended hc h3, fld_tkWake hf, fld_cmdRaised hf]
      exact cmdSettled_proj (fun s => s.fld f u i) (fun _ _ _ => rfl) c tk s
    · rw [cmdReport, hc]
      dsimp only
      rw [if_pos h3]

end

theorem cmdReport_proj {β : Type} (g : State → β)
    (h : ∀ (s : State) r v x y w l, g { s with regs := r, vc := v, cmds := x, slots := y, irqWin := w, irqHeld := l } = g s) (tk : Nat) (s : State) :
    g (cmdReport tk s) = g s := by
  cases hc : cmdOf s tk with
  | none => rw [cmdReport, hc]
  | some c =>
    by_cases h3 : c.phase = 3
    · rw [cmdReport_ended hc h3, tkWake_proj g (fun s r v y => h s r v s.cmds y s.irqWin s.irqHeld),
        cmdRaised_proj g (fun s r w l => h s r s.vc s.cmds s.slots w l), cmdSettled_proj g (fun s x y => h s s.regs s.vc x y s.irqWin s.irqHeld)]
    · rw [cmdReport, hc]
      dsimp only
      rw [if_pos h3]

/-- A command that has ended leaves the list. -/
theorem cmdReport_drops (h : ∀ c, cmdOf s tk = some c → c.phase = 3) : ∀ y ∈ (cmdReport tk s).cmds, y.ticket ≠ tk := by
  cases hc : cmdOf s tk with
  | none =>
    rw [cmdReport, hc]
    simpa [cmdOf, List.find?_eq_none] using hc
  | some c =>
    rw [cmdReport_ended hc (h c hc), tkWake_proj (·.cmds) (fun _ _ _ _ => rfl), cmdRaised_proj (·.cmds) (fun _ _ _ _ => rfl), cmds_cmdSettled]
    intro y hy
    simpa using (List.mem_filter.1 hy).2

/-- The slot of a command that is reported keeps its status word. -/
theorem cmdReport_status (hc : cmdOf s tk = some c) (h3 : c.phase = 3) (hlive : tkLive s tk = true) (hdrop : c.drop = false) (hrec : c.flag 0 = false)
    (hwait : ∀ rd n, (s.vc.get c.core).wait ≠ .lwait rd n) :
    ((cmdReport tk s).slots.get (tkKey tk)).status = some c.status ∧ ((cmdReport tk s).slots.get (tkKey tk)).used = true := by
  have hvc : (cmdRaised c (cmdSettled c tk s)).vc = s.vc :=
    (cmdRaised_proj (·.vc) (fun _ _ _ _ => rfl) _ _).trans (cmdSettled_proj (·.vc) (fun _ _ _ => rfl) _ _ _)
  have hslots : (cmdReport tk s).slots = (cmdSettled c tk s).slots := by
    rw [cmdReport_ended hc h3, tkWake_idle (by rw [hvc]; exact hwait), cmdRaised_proj (·.slots) (fun _ _ _ _ => rfl)]
  have hused : (s.slots.get (tkKey tk)).used = true := by
    simp only [tkLive, Bool.and_eq_true] at hlive
    exact hlive.1.2
  rw [hslots]
  simp [cmdSettled, hlive, hdrop, hrec, SMap.upd, hused]

/-- Its sources rise. -/
theorem cmdReport_raised (hc : cmdOf s tk = some c) (h3 : c.phase = 3) (hres : c.res ≠ rOK)
    (hwait : ∀ rd n, (s.vc.get c.core).wait ≠ .lwait rd n) : Raised s (cmdReport tk s) (2 + 4 * c.core) := by
  have hvc : (cmdRaised c (cmdSettled c tk s)).vc = s.vc :=
    (cmdRaised_proj (·.vc) (fun _ _ _ _ => rfl) _ _).trans (cmdSettled_proj (·.vc) (fun _ _ _ => rfl) _ _ _)
  have hcore : c.core < 8 := Nat.mod_lt _ (by decide)
  have hassigned : irqAssigned (2 + 4 * c.core) = true := by
    simp only [irqAssigned, Bool.or_eq_true, decide_eq_true_eq]
    omega
  have hopen : irqOpen (cmdSettled c tk s) = irqOpen s := cmdSettled_proj irqOpen (fun _ _ _ => rfl) _ _ _
  have hfirst : Raised s (irqEdge (2 + 4 * c.core) (cmdSettled c tk s)) (2 + 4 * c.core) := by
    have h := raised_irqEdge hassigned (cmdSettled c tk s)
    rwa [Raised, hopen] at h
  rw [cmdReport_ended hc h3, tkWake_idle (by rw [hvc]; exact hwait), cmdRaised, if_pos hres]
  split
  next => exact raised_stays hfirst _
  next => exact hfirst

end

/-! ### The erase of a region (R188, R284) -/

/-- The bays are marked free and the number is given up, after the bays are clean. -/
def regionFreed (i : Nat) (k : Skein) (s : State) : State :=
  { forL k.bays (markBay 0 oFREE) s with insts := s.insts.set i none }

theorem regionErase_eq {s : State} {i : Nat} {k : Skein} (hk : instOf s i = some k) :
    regionErase i s = regionFreed i k (if k.bolt then framesZero selvage (forL k.bays bayClean (instSpoolsDrop i (unlink i s)))
      else forL k.bays bayClean (instSpoolsDrop i (unlink i s))) := by
  rw [regionErase, hk]
  rfl

theorem regionFreed_done (i : Nat) (k : Skein) (w : State) :
    instOf (regionFreed i k w) i = none ∧ (∀ b ∈ k.bays, ostate (regionFreed i k w) b = oFREE ∧ mapOwner (regionFreed i k w) b = 0) ∧
      ∀ a, (regionFreed i k w).rdB a = w.rdB a := by
  refine ⟨?_, fun b hb => marked_forL w b hb, fun a => forL_proj (f := markBay 0 oFREE) (fun s => s.rdB a) (fun _ _ _ => rfl) w⟩
  unfold instOf
  split
  next => rfl
  next => exact SMap.get_set_same _ _ _

theorem regionErase_done {s : State} {i : Nat} {k : Skein} (hk : instOf s i = some k) :
    instOf (regionErase i s) i = none ∧ (∀ b ∈ k.bays, ostate (regionErase i s) b = oFREE ∧ mapOwner (regionErase i s) b = 0) ∧
      ∀ b ∈ k.bays, ∀ o < 2048 * 256, (regionErase i s).rdB (aFrame b 0 o) = 0 := by
  have hclean := forL_bayClean_frames k.bays (instSpoolsDrop i (unlink i s))
  rw [regionErase_eq hk]
  generalize forL k.bays bayClean (instSpoolsDrop i (unlink i s)) = w at hclean ⊢
  obtain ⟨hinst, hmap, hmem⟩ := regionFreed_done i k (if k.bolt then framesZero selvage w else w)
  refine ⟨hinst, hmap, fun b hb o ho => (hmem _).trans ?_⟩
  split
  · exact framesZero_zero _ (hclean b hb o ho)
  · exact hclean b hb o ho

section
variable {s : State} {c : LCmd} {k : Skein}

/-- A command of no skein ends. -/
theorem start_noskein (hc : OnlyTicket s c) (h : CmdRuns s c)
    (hop : c.opc = fLREL ∨ c.opc = fLHOLD ∨ (c.opc = fLFREE ∧ framePathFree s c.ticket = true)) (hnone : instOf s c.inst = none) :
    ∃ t, exec (.loomCommandStart c.ticket) s = .next t ∧ EndedWith t c.ticket rNOSKEIN 0 ∧ t = { s with cmds := t.cmds } := by
  have hend : EndedWith (cmdEnd c.ticket rNOSKEIN 0 s) c.ticket rNOSKEIN 0 := endedWith_cmdEnd hc h.running rfl
  rcases hop with hop | hop | ⟨hop, hpath⟩
  · refine ⟨_, (cmdStart_runs hc.1 h (hop ▸ by decide) (.inl (onFramePath_eq_false (.inl hop)))).trans (congrArg _ ?_), hend, rfl⟩
    rw [cmdRun_rel h hop, relRun, hnone]
  · refine ⟨_, (cmdStart_runs hc.1 h (hop ▸ by decide) (.inl (onFramePath_eq_false (.inr (.inl hop))))).trans (congrArg _ ?_), hend, rfl⟩
    rw [cmdRun_hold h hop, holdRun, hnone]
  · refine ⟨_, (cmdStart_runs hc.1 h (hop ▸ by decide) (.inr hpath)).trans (congrArg _ ?_), hend, rfl⟩
    rw [cmdRun_free h hop, freeRun, hnone]

theorem start_release_late (hc : OnlyTicket s c) (h : CmdRuns s c) (hop : c.opc = fLREL) (hk : instOf s c.inst = some k)
    (hloaded : k.ostate = oLOADED) (hheld : allReleased s k = false) (hpick : c.atPick = true) (hpassed : pickPassed s c.pick = true) :
    ∃ t, exec (.loomCommandStart c.ticket) s = .next t ∧ EndedWith t c.ticket rLATE 0 ∧ t = { s with cmds := t.cmds } := by
  refine ⟨_, (cmdStart_runs hc.1 h (hop ▸ by decide) (.inl (onFramePath_eq_false (.inl hop)))).trans (congrArg _ ?_), endedWith_cmdEnd hc h.running rfl, rfl⟩
  rw [cmdRun_rel h hop, relRun_late hk hloaded hheld hpick hpassed]

theorem start_release (hc : OnlyTicket s c) (h : CmdRuns s c) (hop : c.opc = fLREL) (hk : instOf s c.inst = some k)
    (hloaded : k.ostate = oLOADED) (hheld : allReleased s k = false) (hpick : c.atPick = false) (hnone : s.holds = []) :
    ∃ t, exec (.loomCommandStart c.ticket) s = .next t ∧ t.holds = [{ inst := c.inst, hold := false, pick := none, ticket := c.ticket + 1 }] ∧
      t = { s with cmds := t.cmds, holds := t.holds } := by
  refine ⟨_, (cmdStart_runs hc.1 h (hop ▸ by decide) (.inl (onFramePath_eq_false (.inl hop)))).trans (congrArg _ (cmdRun_rel h hop)), ?_⟩
  rw [relRun_begins hk hloaded hheld hpick, holdBegin_alone hnone]
  exact ⟨rfl, rfl⟩

theorem start_hold (hc : OnlyTicket s c) (h : CmdRuns s c) (hop : c.opc = fLHOLD) (hk : instOf s c.inst = some k)
    (hloaded : k.ostate = oLOADED) (hpick : c.atPick = false) (hnone : s.holds = []) :
    ∃ t, exec (.loomCommandStart c.ticket) s = .next t ∧ t.holds = [{ inst := c.inst, hold := true, ticket := c.ticket + 1 }] ∧
      t = { s with cmds := t.cmds, holds := t.holds } := by
  refine ⟨_, (cmdStart_runs hc.1 h (hop ▸ by decide) (.inl (onFramePath_eq_false (.inr (.inl hop))))).trans (congrArg _ (cmdRun_hold h hop)), ?_⟩
  rw [holdRun_begins hk hloaded hpick, holdBegin_alone hnone]
  exact ⟨rfl, rfl⟩

theorem start_free (hc : OnlyTicket s c) (h : CmdRuns s c) (hop : c.opc = fLFREE) (hk : instOf s c.inst = some k)
    (hloaded : k.ostate = oLOADED) (hpick : c.atPick = false) (hpath : framePathFree s c.ticket = true) (hheld : allHeld s k = true)
    (hnone : s.holds = []) :
    ∃ t, exec (.loomCommandStart c.ticket) s = .next t ∧ (∀ b ∈ k.bays, t.fld F.BAY_STATUS_LOADED b = 0 ∧ ostate t b = oERASING) ∧
      (∀ y ∈ t.cmds, y.ticket = c.ticket → y.phase = 1 ∧ y.part = 2) ∧ MemSame s t := by
  refine ⟨_, (cmdStart_runs hc.1 h (hop ▸ by decide) (.inr hpath)).trans (congrArg _ ?_),
    freeErase_done (s := updCmd c.ticket (fun x => { x with phase := 1, late := false }) s) hk hnone⟩
  rw [cmdRun_free h hop, freeRun_erases hk hloaded hpick hheld]

/-- The three operations of LKEY. -/
theorem start_key (hc : OnlyTicket s c) (h : CmdRuns s c) (hop : c.opc = fLKEY) :
    exec (.loomCommandStart c.ticket) s = .next (keyRun c s) :=
  (cmdStart_runs hc.1 h (hop ▸ by decide) (.inl (onFramePath_eq_false (.inr (.inr hop))))).trans (congrArg _ (cmdRun_key h hop))

end

section
variable {s : State} {c : LCmd} (hc : OnlyTicket s c) (h : CmdRuns s c) (hop : c.opc = fLKEY) (hslot : KeySlotOk s (c.f 0x11 1) (c.f 0x12 1))
include hc h hop hslot

theorem start_keyLoad (h0 : c.f 0x10 1 = 0) {v : List Byte} (hv : blobKey (c.f 0x11 1) (keyBytes c.core (c.f 0x14 2) 64 s).1 = some v) (hne : v ≠ []) :
    ∃ t, exec (.loomCommandStart c.ticket) s = .next t ∧ t.keys.get (keyCell (c.f 0x11 1) (c.f 0x12 1)) = v ∧
      keyFlag t (c.f 0x11 1) (c.f 0x12 1) = true ∧ EndedWith t c.ticket rOK 0 ∧ MemSame s t := by
  obtain ⟨hkey, hflag⟩ := keySet_done hslot v (keyBytes c.core (c.f 0x14 2) 64 s).2
  obtain ⟨hmem, hecc, hcmds⟩ := keySet_parts (c.f 0x11 1) (c.f 0x12 1) v (keyBytes c.core (c.f 0x14 2) 64 s).2
  refine ⟨_, (start_key hc h hop).trans (congrArg _ (keyRun_load hslot h0)), ?_⟩
  rw [hv]
  exact ⟨hkey, hflag.trans (by simp [hne]), endedWith_cmdEnd hc h.running hcmds, memSame_of_eq hmem hecc⟩

theorem start_keyBad (h0 : c.f 0x10 1 = 0) (hv : blobKey (c.f 0x11 1) (keyBytes c.core (c.f 0x14 2) 64 s).1 = none) :
    ∃ t, exec (.loomCommandStart c.ticket) s = .next t ∧ EndedWith t c.ticket rKEYERR 0 ∧
      t = { s with cmds := t.cmds, freeCtr := (keyBytes c.core (c.f 0x14 2) 64 s).2.freeCtr } := by
  refine ⟨_, (start_key hc h hop).trans (congrArg _ (keyRun_load hslot h0)), ?_⟩
  rw [hv]
  exact ⟨endedWith_cmdEnd hc h.running rfl, rfl⟩

theorem start_keyErase (h1 : c.f 0x10 1 = 1) :
    ∃ t, exec (.loomCommandStart c.ticket) s = .next t ∧ t.keys.get (keyCell (c.f 0x11 1) (c.f 0x12 1)) = [] ∧
      keyFlag t (c.f 0x11 1) (c.f 0x12 1) = false ∧ EndedWith t c.ticket rOK 0 ∧ MemSame s t := by
  obtain ⟨hkey, hflag⟩ := keySet_done hslot [] s
  obtain ⟨hmem, hecc, hcmds⟩ := keySet_parts (c.f 0x11 1) (c.f 0x12 1) [] s
  exact ⟨_, (start_key hc h hop).trans (congrArg _ (keyRun_erase hslot h1)), hkey, hflag, endedWith_cmdEnd hc h.running hcmds, memSame_of_eq hmem hecc⟩

theorem start_keyWrap (h2 : c.f 0x10 1 = 2) :
    ∃ t, exec (.loomCommandStart c.ticket) s = .next t ∧ EndedWith t c.ticket rOK 0 ∧ t.keys = s.keys ∧ t.regs = s.regs ∧
      (∀ j < 64, c.f 0x16 2 + j < 0x1_0000 → t.rdB (aPriv c.core (0x1_0000 + c.f 0x16 2) + j) =
        (wrapOut (c.f 0x11 1) (keyBytes c.core (c.f 0x14 2) 32 s).1).getD j 0) ∧
      MemSameBut s t (aPriv c.core (0x1_0000 + c.f 0x16 2)) (min 64 (0x1_0000 - c.f 0x16 2)) := by
  let out := wrapOut (c.f 0x11 1) (keyBytes c.core (c.f 0x14 2) 32 s).1
  let w := (keyBytes c.core (c.f 0x14 2) 32 s).2
  have hlen : out.length = 64 := length_wrapOut _ _
  have hlist : (out.take (0x1_0000 - c.f 0x16 2)).length = min 64 (0x1_0000 - c.f 0x16 2) := by rw [List.length_take, hlen, Nat.min_comm]
  refine ⟨_, (start_key hc h hop).trans (congrArg _ (keyRun_wrap hslot h2)), endedWith_cmdEnd hc h.running (wrBytes_proj (·.cmds) (fun _ _ _ => rfl) _ _ w),
    wrBytes_proj (·.keys) (fun _ _ _ => rfl) _ _ w, wrBytes_proj (·.regs) (fun _ _ _ => rfl) _ _ w, fun j hj hin => ?_, fun a ha => ⟨?_, ?_⟩⟩
  · refine (rdB_wrBytes (out.take (0x1_0000 - c.f 0x16 2)) _ _ w).trans ?_
    rw [if_pos ⟨by omega, by rw [hlist]; omega⟩, Nat.add_sub_cancel_left, List.getD_eq_getElem?_getD, List.getElem?_take_of_lt (by omega),
      ← List.getD_eq_getElem?_getD]
  · refine (rdB_wrBytes (out.take (0x1_0000 - c.f 0x16 2)) _ _ w).trans ?_
    rw [if_neg (by rw [hlist]; omega)]
    rfl
  · exact ecc_wrBytes_outside (out.take (0x1_0000 - c.f 0x16 2)) w (by rw [hlist]; exact ha)

end

section
variable {s : State} {c : LCmd} (hc : cmdOf s c.ticket = some c)
include hc

theorem exec_commandReport (h3 : c.phase = 3) : exec (.loomCommandComplete c.ticket) s = .next (cmdReport c.ticket s) := by
  have hexec : exec (.loomCommandComplete c.ticket) s = execLoomCommandComplete c.ticket s := rfl
  rw [hexec, execLoomCommandComplete, hc]
  dsimp only
  rw [if_pos h3]

/-- A free whose erase has been done: its region is freed, and it ends and is reported at once. -/
theorem exec_commandErase (hop : c.opc = fLFREE) (h1 : c.phase = 1) (h2 : c.part = 2) (hcfg : cfgRuns s = true) :
    exec (.loomCommandComplete c.ticket) s =
      .next (cmdReport c.ticket (cmdEnd c.ticket (if c.late then rLATE else rOK) 0 (regionErase c.inst s))) := by
  have hexec : exec (.loomCommandComplete c.ticket) s = execLoomCommandComplete c.ticket s := rfl
  rw [hexec, execLoomCommandComplete, hc]
  dsimp only
  rw [if_neg (by omega), if_pos ⟨hop, h1, h2, hcfg⟩]

end

/-- Settles O27: a command whose path is free runs its operation, which ends it or begins its work; its report settles its slot and sources. -/
theorem loomCommandForms : Obligations.LoomCommandForms := by
  intro s c hc x ends runs
  refine ⟨fun h => ?_, fun hruns honly => ⟨fun hop hnone => start_noskein ⟨hc, honly⟩ hruns hop hnone,
    fun k hk hloaded hholds => ⟨fun hop hheld =>
        ⟨start_release_late ⟨hc, honly⟩ hruns hop hk hloaded hheld, fun hpick => start_release ⟨hc, honly⟩ hruns hop hk hloaded hheld hpick hholds⟩,
      fun hop hpick => start_hold ⟨hc, honly⟩ hruns hop hk hloaded hpick hholds,
      fun hop hpick hpath hheld => start_free ⟨hc, honly⟩ hruns hop hk hloaded hpick hpath hheld hholds⟩, fun hop _ => ?_⟩,
    fun h3 => ?_, fun hop h1 h2 hcfg k hk => ?_⟩
  · have hexec : exec x s = .next (cmdStart c.ticket s) := rfl
    rw [hexec]
    rcases h with h | ⟨h0, h⟩
    · rw [cmdStart_stopped h]
    · rw [cmdStart_held hc h0 h]
  · intro cl k src dst ldm blob raw hslot flag
    exact ⟨fun n hn => keyBytes_inside hn s, fun h0 v hv hne => start_keyLoad ⟨hc, honly⟩ hruns hop hslot h0 hv hne,
      start_keyBad ⟨hc, honly⟩ hruns hop hslot, start_keyErase ⟨hc, honly⟩ hruns hop hslot, start_keyWrap ⟨hc, honly⟩ hruns hop hslot⟩
  · refine ⟨_, exec_commandReport hc h3, cmdReport_drops (fun y hy => ?_), fun hlive hdrop hrec hwait => cmdReport_status hc h3 hlive hdrop hrec hwait,
      fun hres _ hwait => cmdReport_raised hc h3 hres hwait, memSame_of_eq (cmdReport_proj (·.mem) (fun _ _ _ _ _ _ _ => rfl) _ _)
        (cmdReport_proj (·.ecc) (fun _ _ _ _ _ _ _ => rfl) _ _)⟩
    obtain rfl : c = y := Option.some.inj (hc.symm.trans hy)
    exact h3
  · obtain ⟨hinst, hmap, hzero⟩ := regionErase_done hk
    let w := cmdEnd c.ticket (if c.late then rLATE else rOK) 0 (regionErase c.inst s)
    refine ⟨_, exec_commandErase hc hop h1 h2 hcfg, (cmdReport_proj (fun s => instOf s c.inst) (fun _ _ _ _ _ _ _ => rfl) _ w).trans hinst,
      fun b hb => ⟨?_, ?_⟩, fun b hb o ho => (cmdReport_proj (fun s => s.rdB (aFrame b 0 o)) (fun _ _ _ _ _ _ _ => rfl) _ w).trans (hzero b hb o ho),
      cmdReport_drops (fun y hy => cmdOf_cmdEnd_phase hy)⟩
    · exact (fld_cmdReport (by decide) _ w _ _).trans (hmap b hb).1
    · exact (fld_cmdReport (by decide) _ w _ _).trans (hmap b hb).2

end Sys2Proof.Machine
end

section
/-!
SUPPORT. What no access of an engine changes (R126, R128, R368, R417, R435, R463 to R514): the configuration engine and the intake units reach
memory blocks, scratchpads, signal-core memories and DRAM behind its protection pipes; all else in the state stands.
-/
namespace Sys2Proof.Machine

/-! ### What an engine's access leaves -/

/-- The state without what an access to a memory may change: the register store, the memories and what stands before them, the interrupts, the
free values and the outputs. -/
def engRest (s : State) : State :=
  { s with regs := {}, mem := {}, ecc := {}, sc := {}, irqWin := {}, irqHeld := [], spad := {}, blkWb := {}, blkByA := {}, mp := {}, dramErr := {},
           dramDef := {}, mpr := {}, mcache := {}, keys := {}, freeCtr := 0, out := [] }

/-- Fields that no access of an engine writes, and that the engines themselves go on with: the domains that run, the program area of a core, and
stage 3 of a hold. -/
def engFields : List Field := [F.DOM_STATUS_STATE, F.CC_PROG_LIM_OFF, F.BAY_STATUS_RST_HELD]

/-- A field is none of them. -/
def engOther (f : Field) : Bool := engFields.all (fun g => g.id != f.id)

/-- What an engine's access leaves as it was. -/
def engView (s : State) : State × (Nat → Nat → List Nat) := (engRest s, fun u i => engFields.map (fun g => s.fld g u i))

theorem engView_eq {s t : State} (hrest : engRest t = engRest s) (hfld : ∀ g ∈ engFields, ∀ u i, t.fld g u i = s.fld g u i) : engView t = engView s :=
  Prod.ext hrest (funext fun u => funext fun i => List.map_congr_left fun g hg => hfld g hg u i)

theorem engFields_ne {f : Field} (h : engOther f = true) : ∀ g ∈ engFields, g.id ≠ f.id := by
  simpa [engOther] using h

section
variable {f : Field} (h : engOther f = true) (s : State) (u i n : Nat)
include h

@[simp] theorem engView_setFld (v : Nat) : engView (s.setFld f u i v) = engView s :=
  engView_eq rfl fun g hg _ _ => fld_setFld_id _ _ _ _ _ _ _ _ (engFields_ne h g hg)

@[simp] theorem engView_setBit : engView (s.setBit f u i) = engView s := engView_setFld h s u i 1
@[simp] theorem engView_clrFld : engView (s.clrFld f u i) = engView s := engView_setFld h s u i 0
@[simp] theorem engView_bump : engView (s.bump f u i n) = engView s := engView_setFld h s u i _
@[simp] theorem engView_setFlag (x : Bool) : engView (s.setFlag f u i n x) = engView s := engView_setFld h s u i _

end

/-! ### Interrupts -/

@[simp] theorem engView_irqEdge (n : Nat) (s : State) : engView (irqEdge n s) = engView s :=
  engView_eq (irqEdge_proj engRest (fun _ _ _ _ => rfl) n s) fun g hg u i => (fldSame_irqEdge n s).fld_id
    (by revert g; decide) u i

@[simp] theorem engView_irqSample (n : Nat) (s : State) : engView (irqSample n s) = engView s :=
  engView_eq (irqSample_proj engRest (fun _ _ _ _ => rfl) n s) fun g hg u i => (fldSame_irqSample n s).fld_id
    (by revert g; decide) u i

/-! ### Bytes, free values, ports -/

section
variable (s : State) (a n : Nat)

@[simp] theorem engView_wrB (v : Byte) : engView (s.wrB a v) = engView s := engView_eq rfl fun _ _ _ _ => rfl
@[simp] theorem engView_poisonB : engView (s.poisonB a) = engView s := engView_eq rfl fun _ _ _ _ => rfl
@[simp] theorem engView_wrBytes (l : List Byte) : engView (s.wrBytes a l) = engView s := wrBytes_proj engView (fun _ _ _ => engView_eq rfl fun _ _ _ _ => rfl) l a s
@[simp] theorem engView_fresh : engView s.fresh.2 = engView s := engView_eq rfl fun _ _ _ _ => rfl
@[simp] theorem engView_freshBytes : engView (s.freshBytes n).2 = engView s := engView_eq rfl fun _ _ _ _ => rfl
@[simp] theorem engView_freshBits : engView (s.freshBits n).2 = engView s := engView_eq rfl fun _ _ _ _ => rfl
@[simp] theorem engView_emit (o : Out) : engView (s.emit o) = engView s := engView_eq rfl fun _ _ _ _ => rfl
@[simp] theorem engView_updMp (f : MPort → MPort) : engView (s.updMp n f) = engView s := engView_eq rfl fun _ _ _ _ => rfl
@[simp] theorem engView_updRg (f : MRegion → MRegion) : engView (s.updRg n f) = engView s := engView_eq rfl fun _ _ _ _ => rfl
@[simp] theorem engView_updBank (f : SpadBank → SpadBank) : engView (s.updBank n f) = engView s := engView_eq rfl fun _ _ _ _ => rfl
@[simp] theorem engView_updSc (f : SCore → SCore) : engView (s.updSc n f) = engView s := engView_eq rfl fun _ _ _ _ => rfl

end

/-! ### Folds -/

/-- A fold whose every step leaves the view leaves it. -/
theorem engView_foldl {α β : Type} (st : β → State) {f : β → α → β} (h : ∀ x a, engView (st (f x a)) = engView (st x)) (l : List α) (x : β) :
    engView (st (l.foldl f x)) = engView (st x) := by
  induction l generalizing x with
  | nil => rfl
  | cons a l ih => exact (ih (f x a)).trans (h x a)

theorem engView_forL {α : Type} {l : List α} {f : α → State → State} (h : ∀ a s, engView (f a s) = engView s) (s : State) :
    engView (forL l f s) = engView s := forL_proj engView (fun a _ s => h a s) s

theorem engView_forN {n : Nat} {f : Nat → State → State} (h : ∀ a s, engView (f a s) = engView s) (s : State) :
    engView (forN n f s) = engView s := forN_proj engView (fun a _ s => h a s) s

/-! ### On-chip memories -/

@[simp] theorem engView_setEvt {f : Field} (h : engOther f = true) (s : State) (u i src : Nat) : engView (s.setEvt f u i src) = engView s :=
  (engView_irqSample _ _).trans (engView_setBit h _ _ _)

@[simp] theorem engView_bayRaise {f : Field} (h : engOther f = true) (src b : Nat) (s : State) : engView (bayRaise f src b s) = engView s :=
  (engView_irqSample _ _).trans (engView_setFlag h _ _ _ _ _)

@[simp] theorem engView_logTimeout (p : Packet) (s : State) : engView (logTimeout p s) = engView s := by
  unfold logTimeout
  dsimp only
  split <;> simp (disch := decide)

@[simp] theorem engView_blockErr (b blk path byte : Nat) (ue : Bool) (s : State) : engView (blockErr b blk path byte ue s) = engView s := by
  unfold blockErr
  dsimp only
  split_ifs <;> simp (disch := decide)

@[simp] theorem engView_spadErr (b init row byte : Nat) (ue : Bool) (s : State) : engView (spadErr b init row byte ue s) = engView s := by
  unfold spadErr
  dsimp only
  split_ifs <;> simp (disch := decide)

section
variable {err : Nat → Bool → State → State} (herr : ∀ j ue s, engView (err j ue s) = engView s)
include herr

theorem engView_noteErrs (a n : Nat) (s : State) : engView (noteErrs a n err s) = engView s :=
  (engView_forL (fun j s => herr j false s) _).trans (engView_forL (fun j s => herr j true s) s)

theorem engView_readRow (a n : Nat) (s : State) : engView (readRow a n err s).2.2 = engView s := by
  unfold readRow
  dsimp only
  split <;> exact engView_noteErrs herr a n s

end

@[simp] theorem engView_storeRow (p : Packet) (a k o n : Nat) (s : State) : engView (storeRow p a k o n s) = engView s :=
  engView_forN (fun j s => by split_ifs <;> simp) s

theorem engView_rowsServe (p : Packet) (a : Nat) {err : Nat → Bool → State → State} (herr : ∀ j ue s, engView (err j ue s) = engView s) (s : State) :
    engView (rowsServe p a err s).2 = engView s := by
  unfold rowsServe
  dsimp only
  split
  · refine engView_foldl Prod.snd (fun x t => ?_) _ _
    exact engView_readRow (fun j ue s => herr _ ue s) _ _ _
  · exact engView_forL (fun t s => engView_storeRow _ _ _ _ _ _) s

@[simp] theorem engView_blockRows (b k o : Nat) (p : Packet) (a : Nat) (s : State) :
    engView (rowsServe p a (fun j ue s => blockErr b k 2 (o + j) ue s) s).2 = engView s :=
  engView_rowsServe _ _ (fun _ _ _ => engView_blockErr _ _ _ _ _ _) s

@[simp] theorem engView_plainRows (p : Packet) (a : Nat) (s : State) : engView (rowsServe p a (fun _ _ s => s) s).2 = engView s :=
  engView_rowsServe _ _ (fun _ _ _ => rfl) s

@[simp] theorem engView_spadWritten (b o n : Nat) (wr : Nat → Bool) (s : State) : engView (spadWritten b o n wr s) = engView s := rfl

@[simp] theorem engView_spadQueueWb (b o n : Nat) (s : State) : engView (spadQueueWb b o n s) = engView s := by
  unfold spadQueueWb
  split
  · split_ifs <;> rfl
  · rfl

@[simp] theorem engView_blkQueueWb (b k byte n : Nat) (s : State) : engView (blkQueueWb b k byte n s) = engView s := by
  unfold blkQueueWb
  split
  · split_ifs <;> rfl
  · rfl

@[simp] theorem engView_blkWinWritten (b k o n : Nat) (s : State) : engView (blkWinWritten b k o n s) = engView s := rfl

@[simp] theorem engView_spadServe (b : Nat) (p : Packet) (s : State) : engView (spadServe b p s).2 = engView s := by
  unfold spadServe
  dsimp only
  split_ifs
  · rfl
  · exact (engView_rowsServe _ _ (fun _ _ _ => engView_spadErr _ _ _ _ _ _) _).trans (engView_spadQueueWb _ _ _ _)
  · simp

@[simp] theorem engView_bayServe (b : Nat) (p : Packet) (s : State) : engView (bayServe b p s).2 = engView s := by
  unfold bayServe
  dsimp only
  split_ifs <;> simp

/-! ### Signal-core memories -/

@[simp] theorem engView_scMemErr (n path off : Nat) (ue : Bool) (s : State) : engView (scMemErr n path off ue s) = engView s := by
  unfold scMemErr
  dsimp only
  split_ifs <;> simp (disch := decide)

@[simp] theorem engView_scBytes (n path off c : Nat) (s : State) : engView (scBytes n path off c s).2.2 = engView s :=
  engView_noteErrs (fun _ _ _ => engView_scMemErr _ _ _ _ _) _ _ s

@[simp] theorem engView_scWinRead (n o c : Nat) (s : State) : engView (scWinRead n o c s).2.2 = engView s := by
  unfold scWinRead
  split
  · exact engView_scBytes _ _ _ _ _
  · refine engView_foldl (fun r : List Byte × Bool × State => r.2.2) (fun x j => ?_) _ _
    dsimp only
    split_ifs <;> simp

@[simp] theorem engView_scPutByte (n off : Nat) (psn : Bool) (v : Byte) (s : State) : engView (scPutByte n off psn v s) = engView s := by
  unfold scPutByte
  dsimp only
  split_ifs <;> rfl

@[simp] theorem engView_scServe (n : Nat) (p : Packet) (s : State) : engView (scServe n p s).2 = engView s := by
  unfold scServe
  dsimp only
  split_ifs
  · rfl
  · refine engView_foldl Prod.snd (fun x t => ?_) _ _
    dsimp only
    split_ifs <;> simp
  · exact engView_forN (fun j s => engView_scPutByte _ _ _ _ _) s

/-! ### DRAM (R438 to R476) -/

@[simp] theorem engView_dramRaw (n blk : Nat) (s : State) : engView (dramRaw n blk s).2.2 = engView s := by
  unfold dramRaw
  dsimp only
  split <;> rfl

@[simp] theorem engView_dramDecode (n blk : Nat) (s : State) : engView (dramDecode n blk s).2.2.2 = engView s := engView_dramRaw n blk s

@[simp] theorem engView_dramStore (n blk : Nat) (d : List Byte) (psn : Bool) (s : State) : engView (dramStore n blk d psn s) = engView s :=
  engView_wrBytes s (aDram n (64 * blk)) (d.take 64)

@[simp] theorem engView_mpCommand (n kind blk : Nat) (s : State) : engView (mpCommand n kind blk s) = engView s := rfl

@[simp] theorem engView_mpEmit (n kind bank row : Nat) (s : State) : engView (mpEmit n kind bank row s) = engView s := rfl

@[simp] theorem engView_mpRaaSb (n bank : Nat) (s : State) : engView (mpRaaSb n bank s) = engView s := engView_forN (f := fun g s => mpRaaDown n (bank / 32 * 32 + g * 4 + bank % 4) s) (fun _ _ => engView_updMp _ _ _) s

@[simp] theorem engView_mpThrottle (n init src : Nat) (s : State) : engView (mpThrottle n init src s) = engView s := by
  unfold mpThrottle
  dsimp only
  split <;> simp (disch := decide)

@[simp] theorem engView_mpDisturb (n bank : Nat) (t : Track) (s : State) : engView (mpDisturb n bank t s) = engView s := by
  unfold mpDisturb
  dsimp only
  rw [engView_irqEdge]
  split_ifs <;> simp (disch := decide)

@[simp] theorem engView_mpActivate (n blk init src : Nat) (s : State) : engView (mpActivate n blk init src s) = engView s := by
  unfold mpActivate
  dsimp only
  split
  · rfl
  · split <;> simp

@[simp] theorem engView_mpBucket (n : Nat) (s : State) : engView (mpBucket n s) = engView s := by
  unfold mpBucket
  dsimp only
  split <;> simp (disch := decide)

@[simp] theorem engView_mpNoteCe (n blk dev : Nat) (s : State) : engView (mpNoteCe n blk dev s) = engView s := by
  unfold mpNoteCe
  dsimp only
  split
  · simp (disch := decide)
  · split
    · split <;> simp (disch := decide)
    · simp (disch := decide)

@[simp] theorem engView_mpNoteUe (n blk : Nat) (patrol : Bool) (s : State) : engView (mpNoteUe n blk patrol s) = engView s := by
  unfold mpNoteUe
  dsimp only
  split <;> simp (disch := decide)

@[simp] theorem engView_remapWrite (n e : Nat) (d : List Byte) (mask : Nat) (psn : Bool) (s : State) : engView (remapWrite n e d mask psn s) = engView s :=
  engView_forN (fun j s => by split_ifs <;> rfl) s

@[simp] theorem engView_remapRead (n e need : Nat) (s : State) : engView (remapRead n e need s).2.2 = engView s :=
  (engView_forL (fun _ s => by simp (disch := decide)) _).trans (engView_forL (fun _ s => by simp (disch := decide)) s)

@[simp] theorem engView_mpCount (n blk c p : Nat) (patrol : Bool) (s : State) : engView (mpCount n blk c p patrol s) = engView s := by
  unfold mpCount
  split <;> simp (disch := decide)

@[simp] theorem engView_mpWriteOut (n : Nat) (e : WEntry) (s : State) : engView (mpWriteOut n e s) = engView s := by
  unfold mpWriteOut
  dsimp only
  split <;> simp

@[simp] theorem engView_issueWrite (n : Nat) (e : WEntry) (s : State) : engView (issueWrite n e s) = engView s := by
  unfold issueWrite
  dsimp only
  rw [engView_updMp, engView_mpCommand, engView_mpWriteOut]
  split <;> simp

@[simp] theorem engView_mpMerge (n blk : Nat) (d : List Byte) (mask : Nat) (psn : Bool) (s : State) : engView (mpMerge n blk d mask psn s) = engView s := by
  unfold mpMerge
  split
  · split <;> simp
  · rfl

@[simp] theorem engView_mpRoom (n blk : Nat) (s : State) : engView (mpRoom n blk s) = engView s := by
  unfold mpRoom
  dsimp only
  split
  · rfl
  · split <;> simp

@[simp] theorem engView_mpEnqueue (n blk : Nat) (d : List Byte) (mask : Nat) (psn : Bool) (s : State) :
    engView (mpEnqueue n blk d mask psn s) = engView s := (engView_mpMerge _ _ _ _ _ _).trans (engView_mpRoom _ _ _)

@[simp] theorem engView_mpSnap (n blk need : Nat) (s : State) : engView (mpSnap n blk need s).2 = engView s := by
  unfold mpSnap
  split
  · split
    · exact engView_remapRead _ _ _ _
    · split <;> rfl
  · split
    · split
      · rfl
      · exact engView_dramDecode _ _ _
    · exact engView_dramDecode _ _ _

@[simp] theorem engView_mpNote (n : Nat) (patrol : Bool) (g : MSnap) (s : State) : engView (mpNote n patrol g s) = engView s := by
  unfold mpNote
  dsimp only
  split_ifs <;> simp

@[simp] theorem engView_mpFetch (n blk need : Nat) (s : State) : engView (mpFetch n blk need s).2 = engView s := by
  unfold mpFetch
  dsimp only
  split <;> simp

@[simp] theorem engView_mpFetches (n off len : Nat) (s : State) : engView (mpFetches n off len s).2 = engView s :=
  engView_foldl (fun r : List MSnap × State => r.2) (fun _ _ => engView_mpFetch _ _ _ _) _ _

@[simp] theorem engView_snapData (off len : Nat) (gs : List MSnap) (s : State) : engView (snapData off len gs s).2.2 = engView s := by
  refine engView_foldl (fun r : List Byte × Nat × State => r.2.2) (fun x a => ?_) _ _
  dsimp only
  split <;> rfl

@[simp] theorem engView_mpReadNow (n off len : Nat) (s : State) : engView (mpReadNow n off len s).2.2 = engView s :=
  (engView_snapData _ _ _ _).trans ((engView_forL (fun _ _ => engView_mpNote _ _ _ _) _).trans (engView_mpFetches _ _ _ _))

@[simp] theorem engView_mpWriteNow (n : Nat) (p : Packet) (s : State) : engView (mpWriteNow n p s) = engView s := by
  refine engView_forL (fun t s => ?_) s
  dsimp only
  split_ifs <;> simp

@[simp] theorem engView_mpAtomicNow (n : Nat) (p : Packet) (s : State) : engView (mpAtomicNow n p s).2.2 = engView s := by
  unfold mpAtomicNow
  dsimp only
  split <;> simp

/-! ### Alarms (R507 to R509) -/

@[simp] theorem engView_eraseSlot (k : Nat) (s : State) : engView (eraseSlot k s) = engView s := by
  unfold eraseSlot
  split
  · rfl
  · exact engView_setFlag (by decide) _ _ _ _ _

@[simp] theorem engView_dropCache (r : Nat) (s : State) : engView (dropCache r s) = engView s := rfl

@[simp] theorem engView_rgFall (r st : Nat) (s : State) : engView (rgFall r st s) = engView s := by
  unfold rgFall
  dsimp only
  split <;> simp (disch := decide)

@[simp] theorem engView_zeroise (r : Nat) (s : State) : engView (zeroise r s) = engView s := engView_forL (fun q s => by simp) s

@[simp] theorem engView_freeze (r : Nat) (s : State) : engView (freeze r s) = engView s := by
  unfold freeze
  split <;> simp

/-- The first alarm is recorded. -/
def alarmLog (reg : Option Nat) (cause init src addr : Nat) (s : State) : State :=
  if s.bit F.MPE_ALARM_LOG_VALID then s
  else ((((((s.setBit F.MPE_ALARM_LOG_VALID).setFld F.MPE_ALARM_LOG_NOREG 0 0 (ofBool reg.isNone)).setFld F.MPE_ALARM_LOG_CAUSE 0 0 cause).setFld
    F.MPE_ALARM_LOG_REGION 0 0 (reg.getD 0)).setFld F.MPE_ALARM_LOG_SRCDEV 0 0 src).setFld F.MPE_ALARM_LOG_INIT 0 0 init).setFld
    F.MPE_ALARM_ADDR_ADDR 0 0 addr

@[simp] theorem engView_alarmLog (reg : Option Nat) (cause init src addr : Nat) (s : State) : engView (alarmLog reg cause init src addr s) = engView s := by
  unfold alarmLog
  split <;> simp (disch := decide)

/-- An alarm is counted and recorded, and acts as its region says. -/
theorem alarm_eq (reg : Option Nat) (cause init src addr : Nat) (s : State) (act : Option Nat) : alarm reg cause init src addr s act =
    match reg with
    | none =>
      let t := alarmLog none cause init src addr (s.bump F.MPE_ALARM_CNT_COUNT)
      if t.bit F.MPE_CTL_NOREG_IRQ then irqEdge 0x049 t else t
    | some r =>
      let t := alarmLog (some r) cause init src addr ((s.bump F.MPE_ALARM_CNT_COUNT).bump F.MPR_STAT_ALARMS 0 r)
      match act.getD (t.fld F.MPR_CTL_ALARM_ACT 0 r) with
      | 0 => t
      | 1 => irqEdge 0x049 t
      | 2 => freeze r (irqEdge 0x049 t)
      | _ => zeroise r (irqEdge 0x049 t) := by
  cases reg <;> rfl

@[simp] theorem engView_alarm (reg : Option Nat) (cause init src addr : Nat) (s : State) (act : Option Nat) :
    engView (alarm reg cause init src addr s act) = engView s := by
  rw [alarm_eq]
  cases reg with
  | none =>
    dsimp only
    split <;> simp (disch := decide)
  | some r =>
    dsimp only
    split <;> simp (disch := decide)

/-! ### The metadata cache and the pipes (R492 to R501) -/

/-- The state with another metadata cache. -/
theorem engView_mcache (s : State) (x : SMap (List MEnt)) : engView { s with mcache := x } = engView s := engView_eq rfl fun _ _ _ _ => rfl

@[simp] theorem engView_mcWrite (n r lvl idx : Nat) (d : List Byte) (s : State) : engView (mcWrite n r lvl idx d s) = engView s := engView_mcache s _

@[simp] theorem engView_mcWriteBack (n : Nat) (e : MEnt) (s : State) : engView (mcWriteBack n e s) = engView s := by
  unfold mcWriteBack
  dsimp only
  split_ifs
  · rfl
  · exact (engView_mcache _ _).trans (engView_mpEnqueue _ _ _ _ _ _)
  · simp
  · exact (engView_mcache _ _).trans (by simp)
  · refine (engView_mcache _ _).trans ?_
    rw [engView_mpEnqueue]
    split <;> simp

@[simp] theorem engView_mcEvict (n : Nat) (e : MEnt) (s : State) : engView (mcEvict n e s) = engView s := by
  refine engView_forL (fun k s => ?_) s
  split
  · rfl
  · exact (engView_mcache _ _).trans (engView_mcWriteBack _ _ _)

@[simp] theorem engView_mcInsert (n : Nat) (e : MEnt) (s : State) : engView (mcInsert n e s) = engView s := by
  unfold mcInsert
  dsimp only
  refine (engView_mcache _ _).trans ?_
  split
  · rfl
  · split <;> simp

@[simp] theorem engView_mcNeedOne (n r lvl idx : Nat) (s : State) : engView (mcNeedOne n r lvl idx s).2 = engView s := by
  unfold mcNeedOne
  dsimp only
  split_ifs <;> simp

@[simp] theorem engView_mcNeed (n r lvl idx : Nat) (s : State) : engView (mcNeed n r lvl idx s).2 = engView s := by
  refine engView_foldl (fun r : Nat × State => r.2) (fun x k => ?_) _ _
  split <;> simp

@[simp] theorem engView_tagNeed (n r b : Nat) (s : State) : engView (tagNeed n r b s).2 = engView s := by
  unfold tagNeed
  dsimp only
  split_ifs <;> simp

@[simp] theorem engView_pipeReadBlk (n r b : Nat) (s : State) : engView (pipeReadBlk n r b s).2 = engView s := by
  unfold pipeReadBlk
  dsimp only
  split_ifs <;> simp

@[simp] theorem engView_pipePut (n r b major minor : Nat) (epoch : Bool) (d : List Byte) (psn : Bool) (s : State) :
    engView (pipePut n r b major minor epoch d psn s) = engView s := by
  unfold pipePut
  simp

@[simp] theorem engView_pageRead (n r l : Nat) (s : State) : engView (pageRead n r l s).2.2 = engView s := by
  refine engView_foldl (fun r : Nat × List (Nat × List Byte × Bool) × State => r.2.2) (fun x i => ?_) _ _
  dsimp only
  split <;> simp

@[simp] theorem engView_reencrypt (n r l : Nat) (new : Option (Nat × List Byte × Bool)) (s : State) : engView (reencrypt n r l new s).2 = engView s := by
  unfold reencrypt
  dsimp only
  split
  · simp
  · rw [engView_bump (by decide), engView_forL (fun x s => engView_pipePut _ _ _ _ _ _ _ _ _), engView_mcWrite,
      engView_forL (fun x s => engView_tagNeed _ _ _ _), engView_pageRead]

@[simp] theorem engView_pipeWriteBlk (n r b : Nat) (d : List Byte) (psn : Bool) (s : State) : engView (pipeWriteBlk n r b d psn s).2 = engView s := by
  unfold pipeWriteBlk
  dsimp only
  split_ifs <;> simp

@[simp] theorem engView_noteBlocked (r init src : Nat) (s : State) : engView (noteBlocked r init src s) = engView s := by
  unfold noteBlocked
  dsimp only
  split <;> simp (disch := decide)

/-- A pair that an access answers has the view of its state. -/
theorem engView_of_pair {α : Type} {x : α × State} {a : α} {s t : State} (h : x = (a, t)) (hx : engView x.2 = engView s) : engView t = engView s := by
  rw [h] at hx
  exact hx

theorem engView_of_triple {α β : Type} {x : α × β × State} {a : α} {b : β} {s t : State} (h : x = (a, b, t)) (hx : engView x.2.2 = engView s) :
    engView t = engView s := by
  rw [h] at hx
  exact hx

@[simp] theorem engView_pipeOlds (n r : Nat) (p : Packet) (s : State) : engView (pipeOlds n r p s).2.2 = engView s := by
  unfold pipeOlds
  refine engView_foldl (fun r : Nat × List PRead × State => r.2.2) (fun x t => ?_) _ _
  dsimp -iota only
  split
  · rfl
  · split
    next c s1 hneed =>
      have h1 := engView_of_pair hneed (engView_mcNeed _ _ _ _ _)
      split
      · exact h1
      split
      · split
        next c2 ds s2 hpage => exact (engView_of_triple hpage (engView_pageRead _ _ _ _)).trans h1
      split
      · split
        next c2 s2 htag => exact (engView_of_pair htag (engView_tagNeed _ _ _ _)).trans h1
      · split
        next q s2 hread => exact (engView_of_pair hread (engView_pipeReadBlk _ _ _ _)).trans h1

/-- The blocks of a write go through the pipe, each laid over its old contents, until one fails. -/
def pipeWrites (n r : Nat) (p : Packet) (s0 : State) (olds : List PRead) (s : State) : Nat × State :=
  ((blkParts (p.addr % 2 ^ 41) (p.len + 1)).zip olds).foldl (fun (acc : Nat × State) x =>
    if acc.1 ≠ 0 then acc
    else
      let t := x.1
      let mask := if p.opc = opMWRITE then p.mask % 2 ^ 64 else maskOf t.2.1 t.2.2.2
      let nd := List.replicate t.2.1 0 ++ (p.data.drop t.2.2.1).take t.2.2.2
      let psn := bitOf p.pmask (t.1 - p.addr % 2 ^ 41 / 64) || (x.2.psn && mask != fullMask)
      if mask = 0 then acc
      else pipeWriteBlk n r ((t.1 * 64 - rgBase s0 r) / 64) (layBytes x.2.data mask nd) psn acc.2) (0, s)

@[simp] theorem engView_pipeWrites (n r : Nat) (p : Packet) (s0 : State) (olds : List PRead) (s : State) :
    engView (pipeWrites n r p s0 olds s).2 = engView s := by
  refine engView_foldl (fun r : Nat × State => r.2) (fun x t => ?_) _ _
  dsimp only
  split_ifs <;> simp

@[simp] theorem engView_pipeServe (n r : Nat) (p : Packet) (act : Option Nat) (s : State) : engView (pipeServe n r p act s).2 = engView s := by
  have holds := engView_pipeOlds n r p s
  unfold pipeServe
  dsimp only
  generalize pipeOlds n r p s = o at holds ⊢
  have hwrites := (engView_pipeWrites n r p s o.2.1 o.2.2).trans holds
  split
  · exact (engView_alarm _ _ _ _ _ _ _).trans holds
  split
  · exact (engView_snapData _ _ _ _).trans holds
  split
  · split
    · split
      · exact (engView_freshBytes _ _).trans holds
      · split <;> simp [holds]
    · exact holds
  · by_cases hw : (pipeWrites n r p s o.2.1 o.2.2).1 ≠ 0
    · exact (congrArg (fun x : Served × State => engView x.2) (if_pos hw)).trans ((engView_alarm _ _ _ _ _ _ _).trans hwrites)
    · exact (congrArg (fun x : Served × State => engView x.2) (if_neg hw)).trans hwrites

@[simp] theorem engView_pipeRefuse (p : Packet) (d : PDecide) (s : State) : engView (pipeRefuse p d s).2 = engView s := by
  unfold pipeRefuse
  split <;> simp

@[simp] theorem engView_mpServing (n init src : Nat) (s : State) : engView (mpServing n init src s) = engView s := engView_updMp _ _ _

@[simp] theorem engView_dramServe (n : Nat) (p : Packet) (s : State) : engView (dramServe n p s).2 = engView s := by
  unfold dramServe
  dsimp only
  split
  · simp
  · split_ifs <;> simp
  · simp

/-! ### The accesses of an engine (log entry 30) -/

@[simp] theorem engView_directServe (p : Packet) (s : State) : engView (directServe p s).2 = engView s := by
  unfold directServe
  split
  · rfl
  · split <;> simp

@[simp] theorem engView_engRead (init addr n : Nat) (s : State) : engView (engRead init addr n s).2.2.2 = engView s := by
  refine engView_foldl (fun r : Nat × Nat × List Byte × State => r.2.2.2) (fun x k => ?_) _ _
  dsimp only
  split_ifs <;> simp

@[simp] theorem engView_engWrite (init addr : Nat) (data : List Byte) (s : State) : engView (engWrite init addr data s).2 = engView s := by
  refine engView_foldl (fun r : Nat × State => r.2) (fun x k => ?_) _ _
  dsimp only
  split <;> simp

end Sys2Proof.Machine
end

section
/-!
SUPPORT. The program intake (R296 to R300): the entry that it takes, the package that it reads and checks, and the completions that it writes.
-/
namespace Sys2Proof.Machine
open Claims

/-! ### What the intake goes on with after an access -/

section
variable {s t : State} (h : engView t = engView s)
include h

theorem engView_rest {β : Type} (g : State → β) (hg : ∀ s, g (engRest s) = g s) : g t = g s :=
  (hg t).symm.trans ((congrArg (fun x => g x.1) h).trans (hg s))

theorem engView_fld {f : Field} (hf : f ∈ engFields) (u i : Nat) : t.fld f u i = s.fld f u i := by
  have hlist : engFields.map (fun g => t.fld g u i) = engFields.map (fun g => s.fld g u i) := congrArg (fun x => x.2 u i) h
  exact List.map_inj_left.1 hlist f hf

theorem engView_intake : t.intake = s.intake := engView_rest h (·.intake) fun _ => rfl
theorem engView_vc : t.vc = s.vc := engView_rest h (·.vc) fun _ => rfl

/-- The program area of a core begins where it began. -/
theorem engView_limArea (c : Nat) : (limArea t c).1 = (limArea s c).1 := by
  unfold limArea
  rw [engView_fld h (by simp [engFields])]

theorem engView_irqOpen : irqOpen t = irqOpen s := by
  unfold irqOpen domRuns
  rw [engView_fld h (by simp [engFields]), engView_rest h (·.dev) fun _ => rfl]

end

/-- What a read answers, part by part. -/
theorem parts_eq {α β γ δ : Type} (r : α × β × γ × δ) : r = (r.1, r.2.1, r.2.2.1, r.2.2.2) := rfl

/-! ### Failures (R297) -/

theorem intake_updIntake (s : State) (c : Nat) (f : Intake → Intake) : (s.updIntake c f).intake.get c = f (s.intake.get c) :=
  SMap.get_set_same _ _ _

/-- A failed entry: the intake is idle with the code, and its completion waits. -/
theorem intakeFails {s w : State} {c code : Nat} (hcode : code < 256) (h : (w.intake.get c).waiting = (s.intake.get c).waiting) :
    IntakeFails s (intakeFail c code w) c code := by
  refine ⟨?_, ?_, ?_⟩
  · exact (fld_setFld_id _ _ _ _ _ _ _ _ (by decide)).trans (fld_setFld_same _ _ _ _ _)
  · exact (fld_setFld_same _ _ _ _ _).trans (Nat.mod_eq_of_lt hcode)
  · unfold intakeFail
    rw [intake_updIntake, ← h]
    rfl

theorem intakeFail_parts (c code : Nat) (w : State) :
    (intakeFail c code w).mem = w.mem ∧ (intakeFail c code w).ecc = w.ecc ∧
      (intakeFail c code w).fld F.LPQ_HEAD_HEAD c = w.fld F.LPQ_HEAD_HEAD c ∧
      ((intakeFail c code w).intake.get c).tag = (w.intake.get c).tag ∧ ((intakeFail c code w).intake.get c).irq = (w.intake.get c).irq := by
  refine ⟨rfl, rfl, (fld_setFld_id _ _ _ _ _ _ _ _ (by decide)).trans (fld_setFld_id _ _ _ _ _ _ _ _ (by decide)), ?_, ?_⟩ <;>
    unfold intakeFail <;> rw [intake_updIntake] <;> rfl

/-! ### Entries (R299) -/

/-- An idle intake takes an entry: its ring is enabled and not empty, nothing of it waits, and the read goes through. -/
def TakesEntry (s : State) (c : Nat) : Prop :=
  c < 8 ∧ intakeRuns s = true ∧ s.bit F.LPQ_CFG_EN c = true ∧ s.fld F.LPQ_HEAD_HEAD c % lpqSize s c ≠ s.fld F.LPQ_TAIL_TAIL c % lpqSize s c ∧
    s.fld F.LP_STATUS_STATE c = 0 ∧ (s.intake.get c).waiting = [] ∧
    engWaits s (initCc c) (s.fld F.LPQ_BASE_BASE c * 64 + 64 * (s.fld F.LPQ_HEAD_HEAD c % lpqSize s c)) 64 = false

/-- HEAD has advanced and the package is to be read. -/
def entryBegun (c hd : Nat) (s : State) : State := (s.setFld F.LPQ_HEAD_HEAD c 0 hd).setFld F.LP_STATUS_STATE c 0 1

/-- What the intake makes of the entry that it has read: its package, tag and interrupt flag, or a failure with a free tag. -/
def entryRead (c e : Nat) (d : List Byte) (s : State) : State :=
  if e ≠ 0 then intakeFail c 8 (s.fresh.2.updIntake c (fun k => { k with tag := s.fresh.1.toNat, irq := false }))
  else s.updIntake c (fun k => { k with tag := fieldLE d 8 8, irq := bitOf (fieldLE d 0x10 4) 0, pkg := fieldLE d 0 8 })

section
variable {s : State} {c : Nat}

theorem takesEntry_iff : TakesEntry s c ↔
    (!(c < 8 && intakeRuns s && s.bit F.LPQ_CFG_EN c && s.fld F.LPQ_HEAD_HEAD c % lpqSize s c != s.fld F.LPQ_TAIL_TAIL c % lpqSize s c &&
      s.fld F.LP_STATUS_STATE c == 0 && (s.intake.get c).waiting.isEmpty) ||
      engWaits s (initCc c) (s.fld F.LPQ_BASE_BASE c * 64 + 64 * (s.fld F.LPQ_HEAD_HEAD c % lpqSize s c)) 64) = false := by
  simp [TakesEntry, and_assoc]

theorem exec_takeEntry_idle (h : ¬TakesEntry s c) : exec (.intakeTakeEntry c) s = .next s := by
  have hexec : exec (.intakeTakeEntry c) s = execIntakeTakeEntry c s := rfl
  rw [takesEntry_iff, Bool.not_eq_false] at h
  rw [hexec, execIntakeTakeEntry]
  dsimp -iota only
  rw [if_pos h]

theorem exec_takeEntry (h : TakesEntry s c) {e off : Nat} {d : List Byte} {s1 : State}
    (hr : engRead (initCc c) (s.fld F.LPQ_BASE_BASE c * 64 + 64 * (s.fld F.LPQ_HEAD_HEAD c % lpqSize s c)) 64 s = (e, off, d, s1)) :
    exec (.intakeTakeEntry c) s = .next (entryRead c e d (entryBegun c ((s.fld F.LPQ_HEAD_HEAD c % lpqSize s c + 1) % lpqSize s c) s1)) := by
  have hexec : exec (.intakeTakeEntry c) s = execIntakeTakeEntry c s := rfl
  rw [takesEntry_iff] at h
  rw [hexec, execIntakeTakeEntry]
  dsimp -iota only
  rw [h, hr]
  rfl

end

/-- What taking an entry does. -/
theorem entryRead_done (c e hd : Nat) (d : List Byte) (hhd : hd < 2 ^ 12) {s s1 : State} (hv : engView s1 = engView s) :
    let t := entryRead c e d (entryBegun c hd s1)
    t.fld F.LPQ_HEAD_HEAD c = hd ∧ MemSame s1 t ∧
      (e = 0 → t.fld F.LP_STATUS_STATE c = 1 ∧ (t.intake.get c).pkg = fieldLE d 0 8 ∧ (t.intake.get c).tag = fieldLE d 8 8 ∧
        (t.intake.get c).irq = bitOf (fieldLE d 0x10 4) 0) ∧
      (e ≠ 0 → IntakeFails s t c 8 ∧ (t.intake.get c).tag = (Config.freeValue s1.freeCtr).toNat ∧ (t.intake.get c).irq = false) := by
  have hhead : (entryBegun c hd s1).fld F.LPQ_HEAD_HEAD c = hd :=
    (fld_setFld_id _ _ _ _ _ _ _ _ (by decide)).trans ((fld_setFld_same _ _ _ _ _).trans (Nat.mod_eq_of_lt hhd))
  have hintake : (entryBegun c hd s1).intake = s.intake := (engView_intake hv : s1.intake = s.intake)
  dsimp only
  unfold entryRead
  by_cases he : e = 0
  · rw [if_neg (not_not.2 he)]
    refine ⟨hhead, memSame_of_eq rfl rfl, fun _ => ⟨fld_setFld_same _ _ _ _ _, ?_, ?_, ?_⟩, fun h => absurd he h⟩ <;> rw [intake_updIntake]
  · rw [if_pos he]
    let w := (entryBegun c hd s1).fresh.2.updIntake c (fun k => { k with tag := (entryBegun c hd s1).fresh.1.toNat, irq := false })
    have hw : w.intake.get c = { s.intake.get c with tag := (entryBegun c hd s1).fresh.1.toNat, irq := false } := by
      rw [← hintake]
      exact intake_updIntake _ _ _
    obtain ⟨hmem, hecc, hfld, htag, hirq⟩ := intakeFail_parts c 8 w
    refine ⟨hfld.trans hhead, memSame_of_eq hmem hecc, fun h => absurd h he, fun _ => ⟨intakeFails (by decide) ?_, htag.trans ?_, hirq.trans ?_⟩⟩
    · exact congrArg (·.waiting) hw
    · exact congrArg (·.tag) hw
    · exact congrArg (·.irq) hw

/-! ### Packages (R296, R297) -/

theorem pkgHeader_le (s : State) (c : Nat) (h : List Byte) : pkgHeader s c h ≤ 4 := by
  unfold pkgHeader
  dsimp only
  split_ifs <;> decide

theorem recBody_le (s : State) (l : List Byte) : recBody s l ≤ 7 := by
  unfold recBody
  dsimp only
  split_ifs <;> decide

/-- A header that passes names code that fits the core's instruction area. -/
theorem pkgHeader_fits {s : State} {c : Nat} {h : List Byte} (hh : pkgHeader s c h = 0) : 64 ≤ recLim h ∧ recLim h ≤ (limArea s c).2 := by
  unfold pkgHeader at hh
  dsimp only at hh
  split_ifs at hh with _ _ _ hfit
  omega

/-- The area of a core ends at 64 KiB. -/
theorem limArea_end (s : State) (c : Nat) (h : 0 < (limArea s c).2) : (limArea s c).1 + (limArea s c).2 ≤ 0x1_0000 := by
  unfold limArea at h ⊢
  dsimp only at h ⊢
  omega

section
variable {s w : State} {c : Nat} {h body : List Byte}

@[simp] theorem engView_pkgCopy (c : Nat) (h body : List Byte) (s : State) : engView (pkgCopy c h body s) = engView s :=
  (engView_wrBytes _ _ _).trans (engView_wrBytes _ _ _)

/-- The code of a package stands in the instruction area; its data goes above it. -/
theorem rdB_pkgCopy {j : Nat} (hj : j < recLim h) (hbody : j < body.length) (hend : (limArea s c).1 + j < 0x1_0000) :
    (pkgCopy c h body s).rdB (aPriv c ((limArea s c).1 + j)) = body.getD j 0 := by
  unfold pkgCopy
  rw [rdB_wrBytes, if_neg, rdB_wrBytes, if_pos]
  · have hsub : aPriv c ((limArea s c).1 + j) - aPriv c (limArea s c).1 = j := by
      unfold aPriv
      omega
    rw [hsub, List.getD_eq_getElem?_getD, List.getElem?_take_of_lt hj, ← List.getD_eq_getElem?_getD]
  · rw [List.length_take]
    unfold aPriv
    omega
  · unfold aPriv
    omega

/-- A core reads its package. -/
def ChecksPackage (s : State) (c : Nat) : Prop := c < 8 ∧ intakeRuns s = true ∧ s.fld F.LP_STATUS_STATE c = 1

/-- A good package: its program is ready, and a core that waits in LNEXT takes it. -/
def packageReady (c : Nat) (h : List Byte) (s : State) : State :=
  programWake c (((s.setFld F.LP_STATUS_STATE c 0 2).setFld F.LP_STATUS_LAST_CODE c 0 0).updIntake c (fun k =>
    { k with entry := limBase + (limArea ((s.setFld F.LP_STATUS_STATE c 0 2).setFld F.LP_STATUS_LAST_CODE c 0 0) c).1 + recField h 0x10 4 }))

/-- What the intake makes of a package whose body it has read into `s`. -/
def packageBody (c : Nat) (h : List Byte) (e : Nat) (body : List Byte) (s : State) : State :=
  if e ≠ 0 then intakeFail c 8 (pkgCopy c h body s)
  else if recBody (pkgCopy c h body s) (h ++ body) ≠ 0 then intakeFail c (recBody (pkgCopy c h body s) (h ++ body)) (pkgCopy c h body s)
  else packageReady c h (pkgCopy c h body s)

/-- What the intake makes of the header that it has read. -/
def packageHead (c : Nat) (s : State) (e : Nat) (h : List Byte) (s1 : State) : State :=
  if e ≠ 0 then intakeFail c 8 s1
  else if pkgHeader s1 c h ≠ 0 then intakeFail c (pkgHeader s1 c h) s1
  else if engWaits s1 (initCc c) ((s.intake.get c).pkg + 64) (recTotal h - 64) then s
  else match engRead (initCc c) ((s.intake.get c).pkg + 64) (recTotal h - 64) s1 with
    | (e2, _, body, s2) => packageBody c h e2 body s2

theorem packageAddress_good {a : Nat} (halign : a % 64 = 0) (hrange : a < 2 ^ 52) : ¬(a % 64 ≠ 0 ∨ 2 ^ 52 ≤ a) := by omega

theorem checksPackage_iff : ChecksPackage s c ↔ (!(c < 8 && intakeRuns s && s.fld F.LP_STATUS_STATE c == 1)) = false := by
  simp [ChecksPackage, and_assoc]

theorem exec_package_idle (hgo : ¬ChecksPackage s c) : exec (.intakePackageChecked c) s = .next s := by
  have hexec : exec (.intakePackageChecked c) s = execIntakePackageChecked c s := rfl
  rw [checksPackage_iff, Bool.not_eq_false] at hgo
  rw [hexec, execIntakePackageChecked]
  dsimp -iota only
  rw [if_pos hgo]

section
variable (hgo : ChecksPackage s c)
include hgo

theorem exec_package_misaligned (ha : (s.intake.get c).pkg % 64 ≠ 0 ∨ 2 ^ 52 ≤ (s.intake.get c).pkg) :
    exec (.intakePackageChecked c) s = .next (intakeFail c 8 s) := by
  have hexec : exec (.intakePackageChecked c) s = execIntakePackageChecked c s := rfl
  rw [checksPackage_iff] at hgo
  rw [hexec, execIntakePackageChecked]
  dsimp -iota only
  rw [hgo, if_pos ha]
  rfl

variable (halign : (s.intake.get c).pkg % 64 = 0) (hrange : (s.intake.get c).pkg < 2 ^ 52)
include halign hrange

theorem exec_package_waits (hwait : engWaits s (initCc c) (s.intake.get c).pkg 64 = true) : exec (.intakePackageChecked c) s = .next s := by
  have hexec : exec (.intakePackageChecked c) s = execIntakePackageChecked c s := rfl
  rw [checksPackage_iff] at hgo
  rw [hexec, execIntakePackageChecked]
  dsimp -iota only
  rw [hgo, if_neg Bool.false_ne_true, if_neg (packageAddress_good halign hrange), hwait]
  rfl

variable (hwait : engWaits s (initCc c) (s.intake.get c).pkg 64 = false) {e off : Nat} {s1 : State}
  (hr : engRead (initCc c) (s.intake.get c).pkg 64 s = (e, off, h, s1))
include hwait hr

/-- With the header read, the intake fails on it, waits, or goes on with the body. -/
theorem exec_package_header {e2 off2 : Nat} {s2 : State}
    (hr2 : engRead (initCc c) ((s.intake.get c).pkg + 64) (recTotal h - 64) s1 = (e2, off2, body, s2)) :
    exec (.intakePackageChecked c) s = .next (
      if e ≠ 0 then intakeFail c 8 s1
      else if pkgHeader s1 c h ≠ 0 then intakeFail c (pkgHeader s1 c h) s1
      else if engWaits s1 (initCc c) ((s.intake.get c).pkg + 64) (recTotal h - 64) then s
      else packageBody c h e2 body s2) := by
  have hexec : exec (.intakePackageChecked c) s = execIntakePackageChecked c s := rfl
  rw [checksPackage_iff] at hgo
  rw [hexec, execIntakePackageChecked]
  dsimp -iota only
  rw [hgo, if_neg Bool.false_ne_true, if_neg (packageAddress_good halign hrange), hwait, hr]
  have hread : packageHead c s e h s1 = if e ≠ 0 then intakeFail c 8 s1
      else if pkgHeader s1 c h ≠ 0 then intakeFail c (pkgHeader s1 c h) s1
      else if engWaits s1 (initCc c) ((s.intake.get c).pkg + 64) (recTotal h - 64) then s
      else packageBody c h e2 body s2 := by
    rw [packageHead, hr2]
  exact congrArg _ hread

end

end

/-! ### A program that is ready (R298) -/

/-- What a core does that takes a program, before it retires. -/
theorem onlyCore_programGive (s : State) (c rd : Nat) :
    OnlyCore s ((s.vset c rd (BitVec.ofNat 64 (s.intake.get c).entry)).setFld F.LP_STATUS_STATE c 0 3) c [(F.LP_STATUS_STATE, c)] :=
  (onlyCore_vset _ _ _ _ _).setFld _ _ _ _ List.mem_cons_self

theorem programWake_proj {β : Type} (g : State → β) (h : ∀ (s : State) r v, g { s with regs := r, vc := v } = g s) (c : Nat) (s : State) :
    g (programWake c s) = g s := by
  unfold programWake
  split
  next rd _ =>
    have hframe := (onlyCore_programGive s c rd).retire_frame
    rw [programGive, vretire, hframe]
    exact h _ _ _
  next => rfl

theorem lastCode_programWake (c : Nat) (s : State) : (programWake c s).fld F.LP_STATUS_LAST_CODE c = s.fld F.LP_STATUS_LAST_CODE c := by
  unfold programWake
  split
  next rd _ => exact ((onlyCore_programGive s c rd).retire_fldSame _).fld_id (by simp [retireFs]; decide) _ _
  next => rfl

/-- What a good package does: its program is ready, or active in a core that waits in LNEXT. -/
theorem packageReady_done {s w : State} (hv : engView w = engView s) (c : Nat) (h : List Byte) :
    let t := packageReady c h w
    t.fld F.LP_STATUS_LAST_CODE c = 0 ∧ (t.intake.get c).entry = limBase + (limArea s c).1 + recField h 0x10 4 ∧ (∀ a, t.rdB a = w.rdB a) ∧
      ((∀ rd, (s.vc.get c).wait ≠ .lnext rd) → t.fld F.LP_STATUS_STATE c = 2) ∧
      (∀ rd < 32, (s.vc.get c).wait = .lnext rd → t.fld F.LP_STATUS_STATE c = 3 ∧ t.vpc c = s.vpc c + 4 ∧ (t.vc.get c).wait = .none ∧
        (rd ≠ 0 → t.vget c rd = BitVec.ofNat 64 (t.intake.get c).entry)) := by
  let x := (w.setFld F.LP_STATUS_STATE c 0 2).setFld F.LP_STATUS_LAST_CODE c 0 0
  let y := x.updIntake c (fun k => { k with entry := limBase + (limArea x c).1 + recField h 0x10 4 })
  have hx : engView x = engView s := (engView_setFld (by decide) _ _ _ _).trans ((engView_setFld (by decide) _ _ _ _).trans hv)
  have hvc : y.vc = s.vc := (engView_vc hx : x.vc = s.vc)
  have hentry : (y.intake.get c).entry = limBase + (limArea s c).1 + recField h 0x10 4 := by
    rw [← engView_limArea hx]
    exact congrArg Intake.entry (intake_updIntake x c _)
  have hintake : (packageReady c h w).intake = y.intake := programWake_proj (·.intake) (fun _ _ _ => rfl) c y
  refine ⟨(lastCode_programWake c y).trans (fld_setFld_same _ _ _ _ _), ?_, fun a => programWake_proj (fun s => s.rdB a) (fun _ _ _ => rfl) c y,
    fun hno => ?_, fun rd hrd hwait => ?_⟩
  · rw [hintake, hentry]
  · have hwake : packageReady c h w = y := by
      show programWake c y = y
      unfold programWake
      rw [hvc]
      split
      next rd hw => exact absurd hw (hno rd)
      next => rfl
    rw [hwake]
    exact (fld_setFld_id _ _ _ _ _ _ _ _ (by decide)).trans (fld_setFld_same _ _ _ _ _)
  · have hwake : packageReady c h w = programGive c rd y := by
      show programWake c y = _
      unfold programWake
      rw [hvc, hwait]
    obtain ⟨hregs, hstate, ⟨hpc, -, -, -, -, hidle, -, -⟩, -⟩ := programGive_done hrd y c
    rw [hwake]
    refine ⟨hstate, hpc.trans ?_, hidle, fun h0 => ?_⟩
    · unfold State.vpc
      rw [hvc]
    · have hi : (programGive c rd y).intake = y.intake := hwake ▸ hintake
      rw [hregs rd hrd, if_pos ⟨rfl, h0⟩, hi]

/-! ### Completions (R300) -/

/-- The ring's tail has moved on by one entry, and the phase bit turns where it wraps. -/
def ringMoved (c n tl : Nat) (s : State) : State :=
  (s.setFld F.LCQ_TAIL_TAIL c 0 ((tl + 1) % n)).updIntake c (fun k => if tl + 1 = n then { k with odd := !k.odd } else k)

/-- The tail has moved, and an entry that asked for it has raised the source of the core. -/
def ringReported (c n tl : Nat) (irq : Bool) (s : State) : State :=
  if irq then irqEdge (3 + 4 * c) (ringMoved c n tl s) else ringMoved c n tl s

/-- What `put` of the obligation says of a completion whose entry stands in `x`. -/
def CompletionPut (s x t : State) (c : Nat) (irq : Bool) : Prop :=
  t.fld F.LCQ_TAIL_TAIL c = (s.fld F.LCQ_TAIL_TAIL c % lcqSize s c + 1) % lcqSize s c ∧
    (t.intake.get c).odd = (if s.fld F.LCQ_TAIL_TAIL c % lcqSize s c + 1 = lcqSize s c then !(s.intake.get c).odd else (s.intake.get c).odd) ∧
    (irq = true → Raised s t (3 + 4 * c)) ∧ MemSame x t

theorem lpqSize_le (s : State) (c : Nat) : lpqSize s c ≤ 2 ^ 12 := Nat.pow_le_pow_right (by decide) (Nat.min_le_left _ _)
theorem lcqSize_le (s : State) (c : Nat) : lcqSize s c ≤ 2 ^ 12 := Nat.pow_le_pow_right (by decide) (Nat.min_le_left _ _)

theorem lpqSize_pos (s : State) (c : Nat) : 0 < lpqSize s c := Nat.pow_pos (by decide)
theorem lcqSize_pos (s : State) (c : Nat) : 0 < lcqSize s c := Nat.pow_pos (by decide)

theorem programSource_assigned {c : Nat} (hc : c < 8) : irqAssigned (3 + 4 * c) = true := by
  have hlt : 3 + 4 * c < 0x04D := by omega
  simp [irqAssigned, hlt]

section
variable {s x : State} {c : Nat} {irq : Bool}

theorem ringReported_proj {β : Type} (g : State → β) (h : ∀ (s : State) r w l k, g { s with regs := r, irqWin := w, irqHeld := l, intake := k } = g s)
    (n tl : Nat) (irq : Bool) (x : State) : g (ringReported c n tl irq x) = g x := by
  unfold ringReported
  split
  · exact (irqEdge_proj g (fun s r w l => h s r w l s.intake) _ _).trans (h x _ x.irqWin x.irqHeld _)
  · exact h x _ x.irqWin x.irqHeld _

theorem intake_ringReported (n tl : Nat) (irq : Bool) (x : State) : (ringReported c n tl irq x).intake.get c =
    if tl + 1 = n then { x.intake.get c with odd := !(x.intake.get c).odd } else x.intake.get c := by
  have hmoved : (ringReported c n tl irq x).intake = (ringMoved c n tl x).intake := by
    unfold ringReported
    split
    · exact irqEdge_proj (·.intake) (fun _ _ _ _ => rfl) _ _
    · rfl
  rw [hmoved]
  exact intake_updIntake _ _ _

theorem completionPut_ringReported (hc : c < 8) (hv : engView x = engView s) :
    CompletionPut s x (ringReported c (lcqSize s c) (s.fld F.LCQ_TAIL_TAIL c % lcqSize s c) irq x) c irq := by
  have htail : (ringMoved c (lcqSize s c) (s.fld F.LCQ_TAIL_TAIL c % lcqSize s c) x).fld F.LCQ_TAIL_TAIL c =
      (s.fld F.LCQ_TAIL_TAIL c % lcqSize s c + 1) % lcqSize s c :=
    (fld_setFld_same _ _ _ _ _).trans (Nat.mod_eq_of_lt ((Nat.mod_lt _ (lcqSize_pos s c)).trans_le (lcqSize_le s c)))
  refine ⟨?_, ?_, fun hirq => ?_, memSame_of_eq (ringReported_proj (·.mem) (fun _ _ _ _ _ => rfl) _ _ _ _) (ringReported_proj (·.ecc) (fun _ _ _ _ _ => rfl) _ _ _ _)⟩
  · unfold ringReported
    split
    · exact ((fldSame_irqEdge _ _).fld_id (by simp [irqFs]; decide) _ _).trans htail
    · exact htail
  · rw [intake_ringReported, engView_intake hv]
    split <;> rfl
  · have hopen : irqOpen (ringMoved c (lcqSize s c) (s.fld F.LCQ_TAIL_TAIL c % lcqSize s c) x) = irqOpen s := by
      refine (engView_irqOpen (engView_setFld (by decide) x c 0 _)).trans (engView_irqOpen hv)
    rw [hirq]
    have hraised := raised_irqEdge (programSource_assigned hc) (ringMoved c (lcqSize s c) (s.fld F.LCQ_TAIL_TAIL c % lcqSize s c) x)
    unfold Raised at hraised
    rw [hopen] at hraised
    exact hraised

end

/-- The bytes of a completion entry. -/
def completionBytes (odd : Bool) (tag st code : Nat) : List Byte :=
  bytesLE 8 tag ++ bytesLE 4 st ++ bytesLE 1 code ++ [0, 0, if odd then 0 else 1]

/-- The state in which the entry of a completion stands in its ring. -/
def completionWritten (c : Nat) (odd : Bool) (tag st code : Nat) (s : State) : State :=
  (engWrite (initCc c) (s.fld F.LCQ_BASE_BASE c * 16 + 16 * (s.fld F.LCQ_TAIL_TAIL c % lcqSize s c)) (completionBytes odd tag st code) s).2

theorem completionPut_eq {s : State} {c : Nat} {odd : Bool} (hodd : (s.intake.get c).odd = odd) (tag st code : Nat) (irq : Bool) :
    completionPut c (tag, st, code, irq) s =
      ringReported c (lcqSize s c) (s.fld F.LCQ_TAIL_TAIL c % lcqSize s c) irq (completionWritten c odd tag st code s) := by
  subst hodd
  have hodd : BitVec.ofNat 8 (ofBool (!(s.intake.get c).odd)) = if (s.intake.get c).odd then 0 else 1 := by
    cases (s.intake.get c).odd <;> rfl
  unfold completionPut completionWritten completionBytes ringReported ringMoved
  rw [hodd]

theorem engView_completionWritten (c : Nat) (odd : Bool) (tag st code : Nat) (s : State) : engView (completionWritten c odd tag st code s) = engView s :=
  engView_engWrite _ _ _ _

/-- A core writes a completion: its ring has room, and the write goes through. -/
def WritesCompletion (s : State) (c : Nat) : Prop :=
  c < 8 ∧ intakeRuns s = true ∧ (s.fld F.LCQ_TAIL_TAIL c + 1) % lcqSize s c ≠ s.fld F.LCQ_HEAD_HEAD c % lcqSize s c ∧
    engWaits s (initCc c) (s.fld F.LCQ_BASE_BASE c * 16 + 16 * (s.fld F.LCQ_TAIL_TAIL c % lcqSize s c)) 16 = false

/-- The completion of an LEXIT has been written: the program is no longer active, and the LEXIT retires. -/
def exitRetired (c : Nat) (s : State) : State := vretire c (s.setFld F.LP_STATUS_STATE c 0 0)

/-- What LEXIT does to its intake once its completion can be written. -/
def completionExit (c : Nat) (s : State) : State :=
  match (s.vc.get c).wait with
  | .lexit v => exitRetired c (completionPut c ((s.intake.get c).tag, v, 0, (s.intake.get c).irq) s)
  | _ => s

section
variable {s : State} {c : Nat}

theorem writesCompletion_iff : WritesCompletion s c ↔
    (!(c < 8 && intakeRuns s) || (s.fld F.LCQ_TAIL_TAIL c + 1) % lcqSize s c == s.fld F.LCQ_HEAD_HEAD c % lcqSize s c ||
      engWaits s (initCc c) (s.fld F.LCQ_BASE_BASE c * 16 + 16 * (s.fld F.LCQ_TAIL_TAIL c % lcqSize s c)) 16) = false := by
  simp [WritesCompletion, and_assoc]

theorem exec_completion_idle (h : ¬WritesCompletion s c) : exec (.completionEntryWrite c) s = .next s := by
  have hexec : exec (.completionEntryWrite c) s = execCompletionEntryWrite c s := rfl
  rw [writesCompletion_iff, Bool.not_eq_false] at h
  rw [hexec, execCompletionEntryWrite]
  dsimp -iota only
  rw [if_pos h]

theorem exec_completion_waiting (h : WritesCompletion s c) {e : Nat × Nat × Nat × Bool} {rest : List (Nat × Nat × Nat × Bool)}
    (hw : (s.intake.get c).waiting = e :: rest) :
    exec (.completionEntryWrite c) s = .next (completionPut c e (s.updIntake c (fun k => { k with waiting := rest }))) := by
  have hexec : exec (.completionEntryWrite c) s = execCompletionEntryWrite c s := rfl
  rw [writesCompletion_iff] at h
  rw [hexec, execCompletionEntryWrite]
  dsimp -iota only
  rw [h, if_neg Bool.false_ne_true, hw]

theorem exec_completion_exit (h : WritesCompletion s c) (hw : (s.intake.get c).waiting = []) :
    exec (.completionEntryWrite c) s = .next (completionExit c s) := by
  have hexec : exec (.completionEntryWrite c) s = execCompletionEntryWrite c s := rfl
  rw [writesCompletion_iff] at h
  rw [hexec, execCompletionEntryWrite]
  dsimp -iota only
  rw [h, if_neg Bool.false_ne_true, hw]
  rfl

theorem completionExit_none (h : ∀ v, (s.vc.get c).wait ≠ .lexit v) : completionExit c s = s := by
  unfold completionExit
  split
  next v hv => exact absurd hv (h v)
  next => rfl

end

/-- What the end of a program keeps of its completion, and what it adds. -/
theorem exitRetired_done {s x t : State} {c : Nat} {irq : Bool} (h : CompletionPut s x t c irq) (hvc : t.vc = s.vc) :
    let u := exitRetired c t
    CompletionPut s x u c irq ∧ u.fld F.LP_STATUS_STATE c = 0 ∧ u.vpc c = s.vpc c + 4 ∧ (u.vc.get c).wait = .none := by
  have hsame := fldSame_vretireTo (t.setFld F.LP_STATUS_STATE c 0 0) c ((t.setFld F.LP_STATUS_STATE c 0 0).vpc c + 4)
  have hframe := vretireTo_frame (t.setFld F.LP_STATUS_STATE c 0 0) c ((t.setFld F.LP_STATUS_STATE c 0 0).vpc c + 4)
  have hkept : ∀ f : Field, f.id ≠ F.LP_STATUS_STATE.id → (∀ w ∈ retireFs c, f.id ≠ w.1.id) → ∀ u i, (exitRetired c t).fld f u i = t.fld f u i :=
    fun f hf hret u i => (hsame.fld_id hret u i).trans (fld_setFld_id _ _ _ _ _ _ _ _ hf)
  obtain ⟨htail, hodd, hraised, hmem⟩ := h
  refine ⟨⟨(hkept _ (by decide) (by simp [retireFs]; decide) _ _).trans htail, ?_, fun hirq => ?_, ?_⟩, ?_, ?_, vretireTo_wait _ _ _⟩
  · rw [exitRetired, vretire, hframe]
    exact hodd
  · obtain ⟨hopen, hclosed⟩ := hraised hirq
    refine ⟨fun ho => (hkept _ (by decide) (by simp [retireFs]; decide) _ _).trans (hopen ho), fun hno => ?_⟩
    rw [exitRetired, vretire, hframe]
    exact hclosed hno
  · rw [exitRetired, vretire, hframe]
    exact hmem
  · exact (hsame.fld_id (by simp [retireFs]; decide) _ _).trans (fld_setFld_same _ _ _ _ _)
  · refine (vretireTo_pc _ _ _).trans ?_
    show t.vpc c + 4 = s.vpc c + 4
    unfold State.vpc
    rw [hvc]

/-! ### The parts of O33 -/

section
variable {s : State} {c : Nat}

/-- An entry that has been taken: HEAD, and the package, or a failure with a free tag. -/
theorem takeEntry_done (h : TakesEntry s c) :
    let n := lpqSize s c
    let hd := s.fld F.LPQ_HEAD_HEAD c % n
    let r := engRead (initCc c) (s.fld F.LPQ_BASE_BASE c * 64 + 64 * hd) 64 s
    ∃ t, exec (.intakeTakeEntry c) s = .next t ∧ t.fld F.LPQ_HEAD_HEAD c = (hd + 1) % n ∧ MemSame r.2.2.2 t ∧
      (r.1 = 0 → t.fld F.LP_STATUS_STATE c = 1 ∧ (t.intake.get c).pkg = fieldLE r.2.2.1 0 8 ∧ (t.intake.get c).tag = fieldLE r.2.2.1 8 8 ∧
        (t.intake.get c).irq = bitOf (fieldLE r.2.2.1 0x10 4) 0) ∧
      (r.1 ≠ 0 → IntakeFails s t c 8 ∧ (t.intake.get c).tag = (Config.freeValue r.2.2.2.freeCtr).toNat ∧ (t.intake.get c).irq = false) :=
  ⟨_, exec_takeEntry h (parts_eq _),
    entryRead_done c _ _ _ ((Nat.mod_lt _ (lpqSize_pos s c)).trans_le (lpqSize_le s c)) (engView_engRead _ _ _ _)⟩

/-- A package that has been read and passes: its code stands in the core, and its program is ready. -/
theorem packageReady_read {h body : List Byte} {s1 s2 : State} (hv1 : engView s1 = engView s) (hv2 : engView s2 = engView s)
    (hcode : pkgHeader s1 c h = 0) :
    let t := packageReady c h (pkgCopy c h body s2)
    t.fld F.LP_STATUS_LAST_CODE c = 0 ∧ (t.intake.get c).entry = limBase + (limArea s c).1 + recField h 0x10 4 ∧
      (∀ j < recLim h, j < body.length → t.rdB (aPriv c ((limArea s c).1 + j)) = body.getD j 0) ∧
      ((∀ rd, (s.vc.get c).wait ≠ .lnext rd) → t.fld F.LP_STATUS_STATE c = 2) ∧
      (∀ rd < 32, (s.vc.get c).wait = .lnext rd → t.fld F.LP_STATUS_STATE c = 3 ∧ t.vpc c = s.vpc c + 4 ∧ (t.vc.get c).wait = .none ∧
        (rd ≠ 0 → t.vget c rd = BitVec.ofNat 64 (t.intake.get c).entry)) := by
  obtain ⟨hlast, hentry, hbytes, hready, hactive⟩ := packageReady_done ((engView_pkgCopy c h body s2).trans hv2) c h
  refine ⟨hlast, hentry, fun j hj hbody => (hbytes _).trans ?_, hready, hactive⟩
  have hend := limArea_end s1 c
  obtain ⟨hpos, hfits⟩ := pkgHeader_fits hcode
  rw [← engView_limArea hv2]
  refine rdB_pkgCopy hj hbody ?_
  rw [engView_limArea hv2, ← engView_limArea hv1]
  omega

theorem intakeFails_view {w : State} {code : Nat} (hcode : code < 256) (hv : engView w = engView s) : IntakeFails s (intakeFail c code w) c code :=
  intakeFails hcode (by rw [engView_intake hv])

/-- Where its address is good and its header can be read, a package passes, or fails with the code of the first rule that it breaks. -/
theorem package_checked (hgo : ChecksPackage s c) (halign : (s.intake.get c).pkg % 64 = 0) (hrange : (s.intake.get c).pkg < 2 ^ 52)
    (hwait : engWaits s (initCc c) (s.intake.get c).pkg 64 = false) {e off e2 off2 : Nat} {h body : List Byte} {s1 s2 : State}
    (hr : engRead (initCc c) (s.intake.get c).pkg 64 s = (e, off, h, s1))
    (hr2 : engRead (initCc c) ((s.intake.get c).pkg + 64) (recTotal h - 64) s1 = (e2, off2, body, s2))
    (hv1 : engView s1 = engView s) (hv2 : engView s2 = engView s) :
    let hc := pkgHeader s1 c h
    let bc := recBody (pkgCopy c h body s2) (h ++ body)
    let wait2 := engWaits s1 (initCc c) ((s.intake.get c).pkg + 64) (recTotal h - 64)
    let fails := fun (code : Nat) => ∃ t, exec (.intakePackageChecked c) s = .next t ∧ IntakeFails s t c code
    (e = 0 → hc = 0 → wait2 = true → exec (.intakePackageChecked c) s = .next s) ∧
      (e ≠ 0 → fails 8) ∧ (e = 0 → hc ≠ 0 → fails hc) ∧ (e = 0 → hc = 0 → wait2 = false → e2 ≠ 0 → fails 8) ∧
      (e = 0 → hc = 0 → wait2 = false → e2 = 0 → bc ≠ 0 → fails bc) ∧
      (e = 0 → hc = 0 → wait2 = false → e2 = 0 → bc = 0 →
        exec (.intakePackageChecked c) s = .next (packageReady c h (pkgCopy c h body s2))) := by
  have hcopy : engView (pkgCopy c h body s2) = engView s := (engView_pkgCopy c h body s2).trans hv2
  have hheader := exec_package_header hgo halign hrange hwait hr hr2
  dsimp only
  refine ⟨fun he hhc hw => ?_, fun he => ⟨_, ?_, intakeFails_view (by decide) hv1⟩,
    fun he hhc => ⟨_, ?_, intakeFails_view ((pkgHeader_le _ _ _).trans_lt (by decide)) hv1⟩,
    fun he hhc hw he2 => ⟨_, ?_, intakeFails_view (by decide) hcopy⟩,
    fun he hhc hw he2 hbc => ⟨_, ?_, intakeFails_view ((recBody_le _ _).trans_lt (by decide)) hcopy⟩, fun he hhc hw he2 hbc => ?_⟩
  · rw [hheader, if_neg (not_not.2 he), if_neg (not_not.2 hhc), if_pos hw]
  · rw [hheader, if_pos he]
  · rw [hheader, if_neg (not_not.2 he), if_pos hhc]
  · rw [hheader, if_neg (not_not.2 he), if_neg (not_not.2 hhc), hw, if_neg Bool.false_ne_true, packageBody, if_pos he2]
  · rw [hheader, if_neg (not_not.2 he), if_neg (not_not.2 hhc), hw, if_neg Bool.false_ne_true, packageBody, if_neg (not_not.2 he2), if_pos hbc]
  · rw [hheader, if_neg (not_not.2 he), if_neg (not_not.2 hhc), hw, if_neg Bool.false_ne_true, packageBody, if_neg (not_not.2 he2), if_neg (not_not.2 hbc)]

/-- What a completion does is the same with another list of those that wait. -/
theorem completionPut_waiting {x t : State} {irq : Bool} {rest : List (Nat × Nat × Nat × Bool)}
    (h : CompletionPut (s.updIntake c (fun k => { k with waiting := rest })) x t c irq) : CompletionPut s x t c irq := by
  obtain ⟨htail, hphase, hraised, hmem⟩ := h
  rw [intake_updIntake] at hphase
  exact ⟨htail, hphase, hraised, hmem⟩

/-- A completion that waits is written, and those behind it wait on. -/
theorem completion_waiting (hgo : WritesCompletion s c) {tag st code : Nat} {irq : Bool} {rest : List (Nat × Nat × Nat × Bool)}
    (hw : (s.intake.get c).waiting = (tag, st, code, irq) :: rest) :
    let u := s.updIntake c (fun k => { k with waiting := rest })
    ∃ t, exec (.completionEntryWrite c) s = .next t ∧ CompletionPut s (completionWritten c (s.intake.get c).odd tag st code u) t c irq ∧
      (t.intake.get c).waiting = rest := by
  have ⟨hc, _⟩ := hgo
  let u := s.updIntake c (fun k => { k with waiting := rest })
  have hu : u.intake.get c = { s.intake.get c with waiting := rest } := intake_updIntake _ _ _
  have hv := engView_completionWritten c (s.intake.get c).odd tag st code u
  refine ⟨_, exec_completion_waiting hgo hw, ?_⟩
  rw [completionPut_eq (by rw [intake_updIntake]) tag st code irq]
  refine ⟨completionPut_waiting (completionPut_ringReported hc hv), ?_⟩
  rw [intake_ringReported, engView_intake hv, hu]
  split <;> rfl

/-- The completion of an LEXIT that waits is written, and the LEXIT retires. -/
theorem completion_exit (hgo : WritesCompletion s c) (hw : (s.intake.get c).waiting = []) {v : Nat} (hexit : (s.vc.get c).wait = .lexit v) :
    let k := s.intake.get c
    ∃ t, exec (.completionEntryWrite c) s = .next t ∧ CompletionPut s (completionWritten c k.odd k.tag v 0 s) t c k.irq ∧
      t.fld F.LP_STATUS_STATE c = 0 ∧ t.vpc c = s.vpc c + 4 ∧ (t.vc.get c).wait = .none := by
  have ⟨hc, _⟩ := hgo
  have hv := engView_completionWritten c (s.intake.get c).odd (s.intake.get c).tag v 0 s
  have hput := completionPut_eq (c := c) (s := s) rfl (s.intake.get c).tag v 0 (s.intake.get c).irq
  have hrun : completionExit c s = exitRetired c (completionPut c ((s.intake.get c).tag, v, 0, (s.intake.get c).irq) s) := by
    unfold completionExit
    rw [hexit]
  refine ⟨_, exec_completion_exit hgo hw, ?_⟩
  rw [hrun, hput]
  exact exitRetired_done (completionPut_ringReported hc hv) ((ringReported_proj (·.vc) (fun _ _ _ _ _ => rfl) _ _ _ _).trans (engView_vc hv))

end

/-- Settles O33: each step of the intake is idle, or ends in a state whose parts the lemmas above give. -/
theorem intakeForms : Obligations.IntakeForms := by
  refine ⟨fun s c => ⟨exec_takeEntry_idle, takeEntry_done⟩, fun s c => ?_, fun s c => ?_⟩
  · have hv1 := engView_engRead (initCc c) (s.intake.get c).pkg 64 s
    have hv2 := fun h : List Byte => (engView_engRead (initCc c) ((s.intake.get c).pkg + 64) (recTotal h - 64)
      (engRead (initCc c) (s.intake.get c).pkg 64 s).2.2.2).trans hv1
    have hchecked := fun hgo halign hrange hwait => package_checked (s := s) (c := c) hgo halign hrange hwait (parts_eq _) (parts_eq _) hv1 (hv2 _)
    refine ⟨exec_package_idle, fun hgo ha => ⟨_, exec_package_misaligned hgo ha, intakeFails (by decide) rfl⟩,
      fun hgo halign hrange hwaits => ?_, fun hgo halign hrange hwait => ?_⟩
    · by_cases hwait : engWaits s (initCc c) (s.intake.get c).pkg 64 = true
      · exact exec_package_waits hgo halign hrange hwait
      · obtain ⟨he, hhc, hw⟩ := hwaits.resolve_left hwait
        obtain ⟨hwaiting, -⟩ := hchecked hgo halign hrange (Bool.eq_false_iff.2 hwait)
        exact hwaiting he hhc hw
    · obtain ⟨-, hread, hheader, hread2, hbody, hready⟩ := hchecked hgo halign hrange hwait
      exact ⟨hread, hheader, hread2, hbody, fun he hhc hw he2 hbc =>
        ⟨_, hready he hhc hw he2 hbc, packageReady_read hv1 (hv2 _) hhc⟩⟩
  · refine ⟨exec_completion_idle, fun hgo tag st code irq rest hw => ?_, fun hgo hw hno => ?_, fun hgo hw v hexit => completion_exit hgo hw hexit⟩
    · exact completion_waiting hgo hw
    · rw [exec_completion_exit hgo hw, completionExit_none hno]

end Sys2Proof.Machine
end

section
/-!
SUPPORT. Live migration (R290, R331, R332, R334): its frame copy, its restore and its erase; and the capture that streams out (R355).
-/
namespace Sys2Proof.Machine
open Claims

/-! ### Migrations of a ticket -/

section
variable {s : State} {tk : Nat}

theorem exec_copyDone_none (h : migOf s tk = none ∨ cfgRuns s = false) : exec (.migrationCopyDone tk) s = .next s := by
  have hexec : exec (.migrationCopyDone tk) s = execMigrationCopyDone tk s := rfl
  rw [hexec, execMigrationCopyDone]
  cases hm : migOf s tk with
  | none => rfl
  | some e =>
    rw [h.resolve_left (by simp [hm])]
    rfl

theorem exec_restoreDone_none (h : migOf s tk = none ∨ cfgRuns s = false) : exec (.migrationRestoreDone tk) s = .next s := by
  have hexec : exec (.migrationRestoreDone tk) s = execMigrationRestoreDone tk s := rfl
  rw [hexec, execMigrationRestoreDone]
  cases hm : migOf s tk with
  | none => rfl
  | some e =>
    cases hc : cmdOf s tk with
    | none => rfl
    | some c =>
      dsimp -iota only
      rw [h.resolve_left (by simp [hm])]
      rfl

theorem exec_eraseDone_none (h : migOf s tk = none ∨ cfgRuns s = false) : exec (.migrationEraseDone tk) s = .next s := by
  have hexec : exec (.migrationEraseDone tk) s = execMigrationEraseDone tk s := rfl
  rw [hexec, execMigrationEraseDone]
  cases hm : migOf s tk with
  | none => rfl
  | some e =>
    rw [h.resolve_left (by simp [hm])]
    rfl

/-- What every migration of a ticket has become. -/
theorem mem_updMig {f : Migr → Migr} {P : Migr → Prop} (h : ∀ x ∈ s.migs, x.ticket = tk → P (f x)) :
    ∀ x ∈ (updMig tk f s).migs, x.ticket = tk → P x := by
  intro x hx htk
  obtain ⟨y, hy, rfl⟩ := List.mem_map.1 hx
  by_cases e : y.ticket = tk
  · rw [if_pos e]
    exact h y hy e
  · rw [if_neg e] at htk
    exact absurd htk e

/-- The end of a command, as it reads by its ticket. -/
theorem cmdOf_cmdEnd (tk r d : Nat) (s : State) : cmdOf (cmdEnd tk r d s) tk = (cmdOf s tk).map (endedAs tk r d) := by
  unfold cmdOf
  rw [cmds_cmdEnd, List.find?_map]
  congr 2
  funext x
  simp

theorem cmdEnd_result {r d : Nat} {c : LCmd} (hc : cmdOf s tk = some c) (hp : c.phase ≠ 3) :
    cmdOf (cmdEnd tk r d s) tk = some { c with phase := 3, res := r, detail := d } := by
  rw [cmdOf_cmdEnd, hc, Option.map_some, endedAs_running (ticket_of_cmdOf hc) hp]

end

/-! ### The erase (R334) -/

/-- A bay is clean and free. -/
def bayFreed (b : Nat) (s : State) : State := markBay 0 oFREE b (bayClean b s)

/-- The migration of a ticket is gone. -/
def migGone (tk : Nat) (s : State) : State := { s with migs := s.migs.filter (fun x => x.ticket != tk) }

/-- Migrations and commands stand outside what a bay's zero frames, its user state and its registers are. -/
def loomLists (s : State) : List Migr × List LCmd := (s.migs, s.cmds)

theorem loomLists_framesZero (b : Nat) (s : State) : loomLists (framesZero b s) = loomLists s := by
  unfold framesZero
  dsimp only
  split <;> rfl

theorem loomLists_bayUserClear (b : Nat) (s : State) : loomLists (bayUserClear b s) = loomLists s := rfl

theorem loomLists_bayClean (b : Nat) (s : State) : loomLists (bayClean b s) = loomLists s :=
  (bayRegsClear_proj loomLists (fun _ _ _ _ => rfl) b _).trans ((loomLists_bayUserClear b _).trans (loomLists_framesZero b s))

theorem loomLists_markBay (o st b : Nat) (s : State) : loomLists (markBay o st b s) = loomLists s := rfl

theorem marked_markBay (o st b : Nat) (s : State) :
    ostate (markBay o st b s) b = st % 2 ^ F.HD_MAP_OSTATE.w ∧ mapOwner (markBay o st b s) b = o % 2 ^ F.HD_MAP_OWNER.w :=
  ⟨fld_setFld_same _ _ _ _ _, (fld_setFld_id _ _ _ _ _ _ _ _ (by decide)).trans (fld_setFld_same _ _ _ _ _)⟩

theorem rdB_markBay (st b a : Nat) (s : State) : (markBay 0 st b s).rdB a = s.rdB a := rfl

/-- What the erase makes of a bay. -/
theorem bayFreed_done (b : Nat) (s : State) : loomLists (bayFreed b s) = loomLists s ∧
    ostate (bayFreed b s) b = oFREE ∧ mapOwner (bayFreed b s) b = 0 ∧ ∀ o < 2048 * 256, (bayFreed b s).rdB (aFrame b 0 o) = 0 :=
  ⟨(loomLists_markBay 0 oFREE b (bayClean b s)).trans (loomLists_bayClean b s), (marked_markBay 0 oFREE b (bayClean b s)).1,
    (marked_markBay 0 oFREE b (bayClean b s)).2,
    fun o ho => (rdB_markBay oFREE b (aFrame b 0 o) (bayClean b s)).trans ((rdB_bayClean b _ s).trans (framesZero_frames s b ho))⟩

section
variable {s : State} {tk a b : Nat} {m : Migr} {k : Skein}

theorem exec_eraseDone (hm : migOf s tk = some (m, k)) (hrun : cfgRuns s = true) (hsrc : k.baysAt m.src = [a]) (hdst : k.baysAt m.dst = [b])
    (hpart : m.part = 6) : exec (.migrationEraseDone tk) s = .next
      (cmdEnd tk (m.fail.getD (rOK, 0)).1 (m.fail.getD (rOK, 0)).2 (bayFreed (if m.swapped then a else b) (migGone tk s))) := by
  have hexec : exec (.migrationEraseDone tk) s = execMigrationEraseDone tk s := rfl
  have hbays : k.baysAt (if m.swapped then m.src else m.dst) = [if m.swapped then a else b] := by
    cases m.swapped
    · exact hdst
    · exact hsrc
  rw [hexec, execMigrationEraseDone, hm]
  dsimp only
  rw [hrun, if_neg (by simp [hpart]), hbays]
  cases m.fail <;> rfl

/-- The end of a migration whose erase has made `w`. -/
theorem migEnded {w : State} (hlists : loomLists w = loomLists (migGone tk s)) (hcmd : ∀ c, cmdOf s tk = some c → c.phase ≠ 3) :
    let t := cmdEnd tk (m.fail.getD (rOK, 0)).1 (m.fail.getD (rOK, 0)).2 w
    (∀ x ∈ t.migs, x.ticket ≠ tk) ∧ (∀ f u i, t.fld f u i = w.fld f u i) ∧ (∀ a, t.rdB a = w.rdB a) ∧
      (∀ c, cmdOf s tk = some c → (cmdOf t tk).map (fun y => (y.phase, y.res, y.detail)) =
        some (3, match m.fail with | some f => f | none => (rOK, 0))) := by
  have hmigs : w.migs = (migGone tk s).migs := congrArg Prod.fst hlists
  have hcmds : w.cmds = s.cmds := congrArg Prod.snd hlists
  refine ⟨fun x hx => ?_, fun _ _ _ => rfl, fun _ => rfl, fun c hc => ?_⟩
  · have hgone : x ∈ w.migs := hx
    rw [hmigs] at hgone
    simpa using (List.mem_filter.1 hgone).2
  · have hc' : cmdOf w tk = some c := by
      rw [cmdOf, hcmds]
      exact hc
    rw [cmdEnd_result hc' (hcmd c hc)]
    cases m.fail <;> rfl

theorem eraseDone (hm : migOf s tk = some (m, k)) (hrun : cfgRuns s = true) (hsrc : k.baysAt m.src = [a]) (hdst : k.baysAt m.dst = [b])
    (hpart : m.part = 6) (hcmd : ∀ c, cmdOf s tk = some c → c.phase ≠ 3) :
    ∃ t, exec (.migrationEraseDone tk) s = .next t ∧ (∀ x ∈ t.migs, x.ticket ≠ tk) ∧
      (let v := if m.swapped then a else b
       ostate t v = oFREE ∧ mapOwner t v = 0 ∧ ∀ o < 2048 * 256, t.rdB (aFrame v 0 o) = 0) ∧
      (∀ c, cmdOf s tk = some c → (cmdOf t tk).map (fun y => (y.phase, y.res, y.detail)) =
        some (3, match m.fail with | some f => f | none => (rOK, 0))) := by
  obtain ⟨hlists, hstate, howner, hzero⟩ := bayFreed_done (if m.swapped then a else b) (migGone tk s)
  obtain ⟨hgone, hfld, hmem, hresult⟩ := migEnded (m := m) hlists hcmd
  exact ⟨_, exec_eraseDone hm hrun hsrc hdst hpart, hgone,
    ⟨(hfld _ _ _).trans hstate, (hfld _ _ _).trans howner, fun o ho => (hmem _).trans (hzero o ho)⟩, hresult⟩

end

/-! ### Captures (R355) -/

/-- The bays of a capture that has been written are free for another. -/
def captFreed (bays : List Nat) (s : State) : State := forL bays (fun b s => (s.clrFld F.BAY_SCRUB_CAPBUSY b).clrFld F.BAY_BIST_CAPBUSY b) s

/-- What becomes of a capture whose bytes have been written, or whose write failed. -/
def captureWritten (x : Capt) (e : Nat) (s : State) : State :=
  let s3 := if e ≠ 0 then engScramble initCfg x.dest x.bytes.length (captFreed x.bays s) else captFreed x.bays s
  if s3.migs.any (fun m => m.ticket == x.ticket) then
    (if e ≠ 0 then migFail x.ticket rMEMERR e s3 else updMig x.ticket (fun m => { m with part := 3 }) s3)
  else cmdEnd x.ticket (if e ≠ 0 then rMEMERR else rOK) e s3

theorem captFreed_proj {β : Type} (g : State → β) (h : ∀ (s : State) r, g { s with regs := r } = g s) (bays : List Nat) (s : State) :
    g (captFreed bays s) = g s := forL_proj g (fun _ _ s => (h _ _).trans (h s _)) s

theorem captFreed_free (bays : List Nat) (s : State) :
    ∀ b ∈ bays, (captFreed bays s).fld F.BAY_SCRUB_CAPBUSY b = 0 ∧ (captFreed bays s).fld F.BAY_BIST_CAPBUSY b = 0 := by
  have hscrub : ∀ b ∈ bays, (captFreed bays s).fld F.BAY_SCRUB_CAPBUSY b = 0 := forL_fld F.BAY_SCRUB_CAPBUSY id 0
    (fun b _ s => (fld_setFld_id _ _ _ _ _ _ _ _ (by decide)).trans (fld_setFld_same _ _ _ _ _))
    (fun b _ u s hne => (fld_setFld_id _ _ _ _ _ _ _ _ (by decide)).trans (fld_setFld_unit _ _ _ _ _ _ _ _ hne)) s
  have hbist : ∀ b ∈ bays, (captFreed bays s).fld F.BAY_BIST_CAPBUSY b = 0 := forL_fld F.BAY_BIST_CAPBUSY id 0
    (fun b _ s => fld_setFld_same _ _ _ _ _)
    (fun b _ u s hne => (fld_setFld_unit _ _ _ _ _ _ _ _ hne).trans (fld_setFld_id _ _ _ _ _ _ _ _ (by decide))) s
  exact fun b hb => ⟨hscrub b hb, hbist b hb⟩

section
variable {s : State}

theorem exec_capture_idle (h : cfgRuns s = false) : exec .captureStreamDone s = .next s := by
  have hexec : exec .captureStreamDone s = execCaptureStreamDone s := rfl
  rw [hexec, execCaptureStreamDone, h]
  rfl

theorem exec_capture (h : cfgRuns s = true) : exec .captureStreamDone s = .next (captureDone s) := by
  have hexec : exec .captureStreamDone s = execCaptureStreamDone s := rfl
  rw [hexec, execCaptureStreamDone, h]
  rfl

theorem captureStopped_none (h : s.capts = []) : captureStopped s = s := by rw [captureStopped, h]; rfl

theorem captureDone_none (h : s.capts = []) : captureDone s = s := by
  have hstop := captureStopped_none h
  unfold captureDone
  dsimp -iota only
  rw [hstop, h]

variable {x : Capt} {rest : List Capt} (hcapts : (captureStopped s).capts = x :: rest)
include hcapts

theorem captureDone_cons : captureDone s =
    if !x.wait.isEmpty || engWaits (captureStopped s) initCfg x.dest x.bytes.length then captureStopped s
    else match engWrite initCfg x.dest x.bytes { captureStopped s with capts := rest } with
      | (e, s1) => captureWritten x e s1 := by
  unfold captureDone
  generalize captureStopped s = u at hcapts ⊢
  dsimp -iota only
  rw [hcapts]
  rfl

theorem captureDone_waits (h : x.wait ≠ [] ∨ engWaits (captureStopped s) initCfg x.dest x.bytes.length = true) : captureDone s = captureStopped s := by
  rw [captureDone_cons hcapts, if_pos (by simpa using h)]

theorem captureDone_written {s1 : State} (hw : x.wait = []) (hgo : engWaits (captureStopped s) initCfg x.dest x.bytes.length = false)
    (he : engWrite initCfg x.dest x.bytes { captureStopped s with capts := rest } = (0, s1)) (hmig : ∀ m ∈ s1.migs, m.ticket ≠ x.ticket) :
    captureDone s = cmdEnd x.ticket rOK 0 (captFreed x.bays s1) := by
  have hany : (captFreed x.bays s1).migs.any (fun m => m.ticket == x.ticket) = false := by
    rw [captFreed_proj (·.migs) (fun _ _ => rfl)]
    simpa using hmig
  rw [captureDone_cons hcapts, hw, hgo, if_neg (by simp), he]
  dsimp only
  rw [captureWritten, if_neg (not_not.2 rfl), hany]
  rfl

end

theorem captFreed_ended (x : Capt) (s1 : State) :
    let t := cmdEnd x.ticket rOK 0 (captFreed x.bays s1)
    t.capts = s1.capts ∧ (∀ b ∈ x.bays, t.fld F.BAY_SCRUB_CAPBUSY b = 0 ∧ t.fld F.BAY_BIST_CAPBUSY b = 0) ∧
      (∀ c, cmdOf s1 x.ticket = some c → c.phase ≠ 3 → (cmdOf t x.ticket).map (fun y => (y.phase, y.res)) = some (3, rOK)) ∧ MemSame s1 t := by
  refine ⟨captFreed_proj (·.capts) (fun _ _ => rfl) _ _, captFreed_free x.bays s1, fun c hc hp => ?_,
    memSame_of_eq (captFreed_proj (·.mem) (fun _ _ => rfl) _ _) (captFreed_proj (·.ecc) (fun _ _ => rfl) _ _)⟩
  have hc' : cmdOf (captFreed x.bays s1) x.ticket = some c := (captFreed_proj (cmdOf · x.ticket) (fun _ _ => rfl) _ _).trans hc
  rw [cmdEnd_result hc' hp]
  rfl

/-! ### The restore (R331, R359) -/

/-- The cells from `a` on that a fold has set. -/
theorem get_foldl_set {α : Type} [Inhabited α] [DecidableEq α] (m : SMap α) (a : Nat) (v : Nat → α) {n j : Nat} (h : j < n) :
    ((List.range n).foldl (fun m i => m.set (a + i) (v i)) m).get (a + j) = v j := by
  induction n with
  | zero => omega
  | succ n ih =>
    rw [List.range_succ, List.foldl_append, List.foldl_cons, List.foldl_nil]
    by_cases e : j = n
    · rw [e, SMap.get_set_same]
    · rw [SMap.get_set_ne _ _ _ _ (by omega), ih (by omega)]

/-- The fields that a restore writes (R362). -/
def restoredFields : List Field :=
  [F.BAY_COEF_SEL_SEL, F.BAY_CTL_CLK_EN, F.BAY_COEF_ACT_ACT, F.BAY_COEF_ACT_PEND, F.BAY_SLICE_FLAG_OVF, F.BAY_SLICE_FLAG_YOV, F.BAY_STATUS_POISON]

theorem restoreStaged_eq (f : Field) (b act stg : Nat) (s : State) :
    ∃ x, restoreStaged f b act stg s = { s.setFld f b 0 act with staged := x } := by
  unfold restoreStaged
  dsimp only
  split
  · exact ⟨_, rfl⟩
  · exact ⟨_, rfl⟩

theorem restoreStaged_proj {β : Type} (g : State → β) (h : ∀ (s : State) r x, g { s with regs := r, staged := x } = g s) (f : Field)
    (b act stg : Nat) (s : State) : g (restoreStaged f b act stg s) = g s := by
  obtain ⟨x, hx⟩ := restoreStaged_eq f b act stg s
  rw [hx]
  exact h s _ _

theorem fld_restoreStaged {f q : Field} (h : q.id ≠ f.id) (b act stg : Nat) (s : State) (u i : Nat) :
    (restoreStaged f b act stg s).fld q u i = s.fld q u i := by
  obtain ⟨x, hx⟩ := restoreStaged_eq f b act stg s
  rw [hx]
  exact fld_setFld_id _ _ _ _ _ _ _ _ h

theorem controlRestore_proj {β : Type} (g : State → β) (h : ∀ (s : State) r x, g { s with regs := r, staged := x } = g s) (b : Nat) (r : List Byte)
    (s : State) : g (controlRestore b r s) = g s := by
  have hset : ∀ (s : State) f v, g (s.setFld f b 0 v) = g s := fun s f v => h s _ s.staged
  exact (forL_proj g (fun x _ s => hset s x.1 x.2) _).trans ((restoreStaged_proj g h _ _ _ _ _).trans (restoreStaged_proj g h _ _ _ _ _))

theorem fld_controlRestore {q : Field} (hq : ∀ f ∈ restoredFields, q.id ≠ f.id) (b : Nat) (r : List Byte) (s : State) (u i : Nat) :
    (controlRestore b r s).fld q u i = s.fld q u i := by
  refine (forL_proj (fun s => s.fld q u i) (fun x hx s => fld_setFld_id _ _ _ _ _ _ _ _ (hq x.1 ?_)) _).trans
    ((fld_restoreStaged (hq _ (by simp [restoredFields])) _ _ _ _ _ _).trans (fld_restoreStaged (hq _ (by simp [restoredFields])) _ _ _ _ _ _))
  simp only [List.mem_cons, List.not_mem_nil, or_false] at hx
  rcases hx with rfl | rfl | rfl | rfl | rfl <;> simp [restoredFields]

/-- A restore is one of the control state, after the memory blocks, after what the record holds of the rest. -/
theorem restoreBay_eq (b : Nat) (r : List Byte) (s : State) : ∃ w : State,
    restoreBay b r s = controlRestore b (slice r 0x40 64) (w.wrBytes (aBlock b 0 0) (slice r 0x2A80 (24 * 4096))) ∧ w.regs = s.regs ∧
      w.ffs = (List.range 1024).foldl (fun m c => m.set (b * 1024 + c) (fieldLE r (0x80 + 2 * c) 2)) s.ffs := by
  unfold restoreBay
  refine ⟨_, rfl, rfl, ?_⟩
  dsimp only

theorem fld_restoreBay {q : Field} (hq : ∀ f ∈ restoredFields, q.id ≠ f.id) (b : Nat) (r : List Byte) (s : State) (u i : Nat) :
    (restoreBay b r s).fld q u i = s.fld q u i := by
  obtain ⟨w, hw, hregs, -⟩ := restoreBay_eq b r s
  have hblocks : ∀ l, (w.wrBytes (aBlock b 0 0) l).fld q u i = w.fld q u i := fun l => wrBytes_proj (fun s => s.fld q u i) (fun _ _ _ => rfl) l _ w
  rw [hw, fld_controlRestore hq, hblocks]
  unfold State.fld
  rw [hregs]

/-- The flip-flops of a restored bay are those of its record. -/
theorem ffs_restoreBay {n : Nat} (hn : n < 1024) (b : Nat) (r : List Byte) (s : State) :
    (restoreBay b r s).ffs.get (b * 1024 + n) = fieldLE r (0x80 + 2 * n) 2 := by
  obtain ⟨w, hw, -, hffs⟩ := restoreBay_eq b r s
  have hblocks : ∀ l, (w.wrBytes (aBlock b 0 0) l).ffs = w.ffs := fun l => wrBytes_proj (·.ffs) (fun _ _ _ => rfl) l _ w
  rw [hw, controlRestore_proj (·.ffs) (fun _ _ _ => rfl), hblocks, hffs]
  exact get_foldl_set _ _ (fun c => fieldLE r (0x80 + 2 * c) 2) hn

/-- Stages 1 and 2 of the hold of a bay are lifted. -/
def heldLifted (b : Nat) (s : State) : State := bayStage false 2 b (bayStage false 1 b s)

theorem heldLifted_done (b : Nat) (s : State) : (heldLifted b s).fld F.BAY_STATUS_OUT_HELD b = 0 ∧ (heldLifted b s).fld F.BAY_STATUS_WE_HELD b = 0 ∧
    (heldLifted b s).fld F.BAY_STATUS_RST_HELD b = s.fld F.BAY_STATUS_RST_HELD b ∧ (heldLifted b s).ffs = s.ffs := by
  obtain ⟨x, hx⟩ := bayStage_early (.inl rfl) false b s
  obtain ⟨y, hy⟩ := bayStage_early (.inr rfl) false b (bayStage false 1 b s)
  unfold heldLifted
  rw [hy, hx]
  refine ⟨(fld_setFld_id _ _ _ _ _ _ _ _ (by decide)).trans (fld_setFld_same _ _ _ _ _), fld_setFld_same _ _ _ _ _,
    (fld_setFld_id _ _ _ _ _ _ _ _ (by decide)).trans (fld_setFld_id _ _ _ _ _ _ _ _ (by decide)), rfl⟩

/-- A restored destination: the record of the snapshot, the outputs and write enables released, the migration one part on. -/
def migRestored (b tk : Nat) (d : List Byte) (s : State) : State :=
  gpioShowAll (updMig tk (fun m => { m with part := 5 }) (heldLifted b (restoreBay b (slice d 64 recordLength) s)))

theorem restoreBays_one (b : Nat) (d : List Byte) (s : State) : restoreBays [b] d s = restoreBay b (slice d 64 recordLength) s := by
  have hplace : 64 + recordLength * 0 = 64 := rfl
  rw [restoreBays, List.zipIdx_cons, List.zipIdx_nil, forL_cons, forL_nil, hplace]

/-- What becomes of a migration whose snapshot has been read. -/
def migRestoreRead (tk : Nat) (bays : List Nat) (e : Nat) (d : List Byte) (s : State) : State :=
  if e ≠ 0 then migFail tk rMEMERR e s
  else if !snapCrcOk d then migFail tk rMEMERR 0xFF s
  else gpioShowAll (updMig tk (fun m => { m with part := 5 }) (forL bays (fun b s => bayStage false 2 b (bayStage false 1 b s)) (restoreBays bays d s)))

theorem fld_updMig (tk : Nat) (f : Migr → Migr) (s : State) (g : Field) (u i : Nat) : (updMig tk f s).fld g u i = s.fld g u i := rfl

theorem ffs_updMig (tk : Nat) (f : Migr → Migr) (s : State) : (updMig tk f s).ffs = s.ffs := rfl

theorem fld_migRestored (b tk : Nat) (d : List Byte) (s : State) (f : Field) (u i : Nat) :
    (migRestored b tk d s).fld f u i = (heldLifted b (restoreBay b (slice d 64 recordLength) s)).fld f u i := by
  rw [migRestored, fld_gpioShowAll, fld_updMig]

theorem migRestored_proj {β : Type} (g : State → β) (h : ∀ (s : State) x y, g { s with gpio := x, out := y } = g s) (b tk : Nat) (d : List Byte)
    (s : State) : g (migRestored b tk d s) = g (updMig tk (fun m => { m with part := 5 }) (heldLifted b (restoreBay b (slice d 64 recordLength) s))) := by
  rw [migRestored, gpioShowAll_proj g h]

theorem migRestored_done (b tk : Nat) (d : List Byte) (s : State) :
    let t := migRestored b tk d s
    (∀ x ∈ t.migs, x.ticket = tk → x.part = 5) ∧
      t.fld F.BAY_STATUS_OUT_HELD b = 0 ∧ t.fld F.BAY_STATUS_WE_HELD b = 0 ∧ t.fld F.BAY_STATUS_RST_HELD b = s.fld F.BAY_STATUS_RST_HELD b ∧
      ∀ n < 1024, t.ffs.get (b * 1024 + n) = fieldLE (slice d 64 recordLength) (0x80 + 2 * n) 2 := by
  obtain ⟨hout, hwe, hrst, hffs⟩ := heldLifted_done b (restoreBay b (slice d 64 recordLength) s)
  dsimp only
  refine ⟨?_, ?_, ?_, ?_, fun n hn => ?_⟩
  · rw [migRestored_proj (·.migs) (fun _ _ _ => rfl)]
    exact mem_updMig (fun x _ _ => rfl)
  · rw [fld_migRestored, hout]
  · rw [fld_migRestored, hwe]
  · rw [fld_migRestored, hrst, fld_restoreBay (by simp [restoredFields]; decide)]
  · rw [migRestored_proj (·.ffs) (fun _ _ _ => rfl), ffs_updMig, hffs, ffs_restoreBay hn]

section
variable {s s1 : State} {tk b off : Nat} {m : Migr} {k : Skein} {c : LCmd} {d : List Byte}

theorem execMigrationRestoreDone_some (hm : migOf s tk = some (m, k)) (hc : cmdOf s tk = some c) :
    execMigrationRestoreDone tk s = .next (
      if !cfgRuns s || m.part ≠ 4 || m.fail.isSome || engWaits s initCfg (c.f 0x10 8) k.snapLen then s
      else match engRead initCfg (c.f 0x10 8) k.snapLen s with
        | (e, _, d, s1) => migRestoreRead tk (k.baysAt m.dst) e d s1) := by
  rw [execMigrationRestoreDone, hm, hc]
  rfl

theorem exec_restoreDone (hm : migOf s tk = some (m, k)) (hrun : cfgRuns s = true) (hdst : k.baysAt m.dst = [b]) (hpart : m.part = 4)
    (hfail : m.fail = none) (hc : cmdOf s tk = some c) (hwait : engWaits s initCfg (c.f 0x10 8) k.snapLen = false)
    (hr : engRead initCfg (c.f 0x10 8) k.snapLen s = (0, off, d, s1)) :
    exec (.migrationRestoreDone tk) s = .next (if snapCrcOk d then migRestored b tk d s1 else migFail tk rMEMERR 0xFF s1) := by
  have hexec : exec (.migrationRestoreDone tk) s = execMigrationRestoreDone tk s := rfl
  rw [hexec, execMigrationRestoreDone_some hm hc, hr, if_neg (by simp [hrun, hpart, hfail, hwait])]
  dsimp only
  rw [migRestoreRead, if_neg (not_not.2 rfl), hdst, restoreBays_one, forL_cons, forL_nil]
  cases snapCrcOk d
  · rw [if_neg Bool.false_ne_true]
    exact congrArg _ (if_pos rfl)
  · rw [if_pos rfl]
    exact congrArg _ (if_neg Bool.false_ne_true)

/-- A snapshot that does not read back well fails the migration. -/
theorem migFail_done (hone : ∀ x ∈ s.migs, x.ticket = tk → x = m) (hfail : m.fail = none) (hmigs : s1.migs = s.migs) (res detail : Nat) :
    let t := migFail tk res detail s1
    (∀ x ∈ t.migs, x.ticket = tk → x.fail = some (res, detail)) ∧ t = { s1 with migs := t.migs } := by
  refine ⟨mem_updMig (fun x hx htk => ?_), rfl⟩
  rw [hmigs] at hx
  rw [hone x hx htk, hfail]
  rfl

end

/-! ### What reading a frame leaves (R345, R351) -/

/-- The state without what the report of an error may change: registers and interrupts. -/
def readRest (s : State) : State := { s with regs := {}, irqWin := {}, irqHeld := [] }

/-- Fields of the copy that no report writes. -/
def readFields : List Field := [F.XLATE0_HANDLE, F.XLATE0_VALID, F.BAY_CLK_BIND_LINE]

/-- A field is none of them. -/
def readOther (f : Field) : Bool := readFields.all (fun g => g.id != f.id)

/-- What reading a frame leaves as it was. -/
def readView (s : State) : State × (Nat → Nat → List Nat) := (readRest s, fun u i => readFields.map (fun g => s.fld g u i))

theorem readView_eq {s t : State} (hrest : readRest t = readRest s) (hfld : ∀ g ∈ readFields, ∀ u i, t.fld g u i = s.fld g u i) :
    readView t = readView s :=
  Prod.ext hrest (funext fun u => funext fun i => List.map_congr_left fun g hg => hfld g hg u i)

theorem readFields_ne {f : Field} (h : readOther f = true) : ∀ g ∈ readFields, g.id ≠ f.id := by
  simpa [readOther] using h

section
variable {s t : State} (h : readView t = readView s)
include h

theorem readView_rest {β : Type} (g : State → β) (hg : ∀ s, g (readRest s) = g s) : g t = g s :=
  (hg t).symm.trans ((congrArg (fun x => g x.1) h).trans (hg s))

theorem readView_fld {f : Field} (hf : f ∈ readFields) (u i : Nat) : t.fld f u i = s.fld f u i := by
  have hlist : readFields.map (fun g => t.fld g u i) = readFields.map (fun g => s.fld g u i) := congrArg (fun x => x.2 u i) h
  exact List.map_inj_left.1 hlist f hf

end

section
variable {f : Field} (h : readOther f = true) (s : State) (u i n : Nat)
include h

@[simp] theorem readView_setFld (v : Nat) : readView (s.setFld f u i v) = readView s :=
  readView_eq rfl fun g hg _ _ => fld_setFld_id _ _ _ _ _ _ _ _ (readFields_ne h g hg)

@[simp] theorem readView_setBit : readView (s.setBit f u i) = readView s := readView_setFld h s u i 1
@[simp] theorem readView_bump : readView (s.bump f u i n) = readView s := readView_setFld h s u i _
@[simp] theorem readView_setFlag (x : Bool) : readView (s.setFlag f u i n x) = readView s := readView_setFld h s u i _

end

@[simp] theorem readView_irqSample (n : Nat) (s : State) : readView (irqSample n s) = readView s :=
  readView_eq (irqSample_proj readRest (fun _ _ _ _ => rfl) n s) fun g hg u i => (fldSame_irqSample n s).fld_id (by revert g; decide) u i

@[simp] theorem readView_bayRaise {f : Field} (h : readOther f = true) (src b : Nat) (s : State) : readView (bayRaise f src b s) = readView s :=
  (readView_irqSample _ _).trans (readView_setFlag h _ _ _ _ _)

@[simp] theorem readView_blockErr (b blk path byte : Nat) (ue : Bool) (s : State) : readView (blockErr b blk path byte ue s) = readView s := by
  unfold blockErr
  dsimp only
  split_ifs <;> simp (disch := decide)

@[simp] theorem readView_contentRead (b f : Nat) (s : State) : readView (contentRead b f s).2 = readView s :=
  (forL_proj readView (fun _ _ s => readView_blockErr _ _ _ _ _ s) _).trans (forL_proj readView (fun _ _ s => readView_blockErr _ _ _ _ _ s) s)

theorem readOther_errCounter (c : Nat) : readOther (errCounter c) = true := by
  unfold errCounter
  split <;> decide

@[simp] theorem readView_errReport (p b f : Nat) (es : List FrameErr) (s : State) : readView (errReport p b f es s) = readView s := by
  have hcount : readView (forL es (fun e s => s.bump (errCounter e.cls)) s) = readView s :=
    forL_proj readView (fun e _ s => readView_bump (readOther_errCounter e.cls) s 0 0 1) s
  unfold errReport
  dsimp only
  split
  next => exact hcount
  next e _ =>
    split
    · exact hcount
    · refine (forL_proj readView (fun x hx s => readView_setFld ?_ s 0 0 x.2) _).trans hcount
      simp only [List.mem_cons, List.not_mem_nil, or_false] at hx
      rcases hx with rfl | rfl | rfl | rfl | rfl | rfl | rfl | rfl <;> rfl

/-! ### The bytes of a frame -/

theorem ofBytesLE_lt (l : List Byte) : ofBytesLE l < 256 ^ l.length := by
  induction l with
  | nil => simp [ofBytesLE]
  | cons b l ih =>
    rw [ofBytesLE, List.length_cons, Nat.pow_succ]
    have hb := b.isLt
    omega

theorem bytesLE_ofBytesLE (l : List Byte) : bytesLE l.length (ofBytesLE l) = l := by
  induction l with
  | nil => rfl
  | cons b l ih =>
    have hb : b.toNat < 256 := b.isLt
    have hhead : BitVec.ofNat 8 (b.toNat + 256 * ofBytesLE l) = b := by
      apply BitVec.eq_of_toNat_eq
      rw [BitVec.toNat_ofNat]
      omega
    have htail : (b.toNat + 256 * ofBytesLE l) / 256 = ofBytesLE l := by omega
    rw [List.length_cons, ofBytesLE, bytesLE, hhead, htail, ih]

@[simp] theorem length_rdBytes (s : State) (x n : Nat) : (s.rdBytes x n).length = n := by simp [State.rdBytes]

theorem getD_rdBytes {n j : Nat} (h : j < n) (s : State) (x : Nat) : (s.rdBytes x n).getD j 0 = s.rdB (x + j) := by
  simp [State.rdBytes, h]

theorem rdBytes_congr {s t : State} {x n : Nat} (h : ∀ j < n, t.rdB (x + j) = s.rdB (x + j)) : t.rdBytes x n = s.rdBytes x n :=
  List.map_congr_left fun j hj => h j (List.mem_range.1 hj)

theorem rdBytes_add (s : State) (x m n : Nat) : s.rdBytes x (m + n) = s.rdBytes x m ++ s.rdBytes (x + m) n := by
  unfold State.rdBytes
  rw [List.range_add, List.map_append, List.map_map]
  simp [Function.comp_def, Nat.add_assoc]

/-- The words of a run of bytes, one after the other. -/
theorem flatMap_rdBytes (s : State) (x n : Nat) : (List.range n).flatMap (fun w => s.rdBytes (x + 8 * w) 8) = s.rdBytes x (8 * n) := by
  induction n with
  | zero => rfl
  | succ n ih => rw [List.range_succ, List.flatMap_append, ih, Nat.mul_succ, rdBytes_add, List.flatMap_singleton]

theorem length_flatMap_const {α β : Type} {l : List α} {f : α → List β} {n : Nat} (h : ∀ a ∈ l, (f a).length = n) : (l.flatMap f).length = l.length * n := by
  rw [List.length_flatMap, List.map_congr_left h, List.map_const', List.sum_replicate, smul_eq_mul]

/-- A frame is stored in 256 bytes. -/
theorem length_frameFixed (s : State) (b f : Nat) : (frameFixed s b f).length = 256 := by
  refine length_flatMap_const (n := 8) (fun w _ => ?_)
  dsimp only
  split <;> exact length_bytesLE _ _

theorem length_frameMasked (f : Nat) {d : List Byte} (h : d.length = 256) : (frameMasked f d).length = 256 := by
  unfold frameMasked
  dsimp only
  split_ifs
  · exact h
  · exact length_bytesLE _ _
  · exact length_bytesLE _ _
  · exact length_bytesLE _ _
  · exact length_bytesLE _ _
  · exact h

/-! ### Frames that stand -/

/-- A frame of a bay, its map and its stored check bits are as they were. -/
def FrameSame (s t : State) (a f : Nat) : Prop :=
  (∀ j < 256, t.rdB (aFrame a f j) = s.rdB (aFrame a f j)) ∧ (∀ j < 256, t.rdB (aMap a f j) = s.rdB (aMap a f j)) ∧
    ∀ w < 64, t.fdiff.get (aFrameCheck a f w) = s.fdiff.get (aFrameCheck a f w)

section
variable {s t : State} {a f w : Nat}

theorem rdBytes_frame (h : FrameSame s t a f) {o n : Nat} (ho : o + n ≤ 256) : t.rdBytes (aFrame a f o) n = s.rdBytes (aFrame a f o) n := by
  obtain ⟨hframe, -, -⟩ := h
  refine rdBytes_congr fun j hj => ?_
  have haddr : aFrame a f o + j = aFrame a f (o + j) := by
    unfold aFrame
    omega
  rw [haddr]
  exact hframe _ (by omega)

theorem mapWord_frame (h : FrameSame s t a f) (hw : w < 32) : mapWord t a f w = mapWord s a f w ∧ mapParityBad t a f w = mapParityBad s a f w := by
  obtain ⟨-, hmap, hdiff⟩ := h
  have hparity : mapParityBad t a f w = mapParityBad s a f w := by
    unfold mapParityBad
    rw [hdiff 33 (by decide)]
  have hbytes : t.rdBytes (aMap a f (8 * w)) 8 = s.rdBytes (aMap a f (8 * w)) 8 := by
    refine rdBytes_congr fun j hj => ?_
    have haddr : aMap a f (8 * w) + j = aMap a f (8 * w + j) := by
      unfold aMap
      omega
    rw [haddr]
    exact hmap _ (by omega)
  refine ⟨?_, hparity⟩
  unfold mapWord
  rw [hparity, hbytes]

theorem frameFixed_frame (h : FrameSame s t a f) : frameFixed t a f = frameFixed s a f := by
  refine List.flatMap_congr fun w hw => ?_
  have hw : w < 32 := List.mem_range.1 hw
  have hdiff : t.fdiff.get (aFrameCheck a f w) = s.fdiff.get (aFrameCheck a f w) := h.2.2 w (by omega)
  rw [rdBytes_frame h (by omega), hdiff]

theorem any_range_congr {n : Nat} {p q : Nat → Bool} (h : ∀ w < n, p w = q w) : (List.range n).any p = (List.range n).any q := by
  rw [Bool.eq_iff_iff, List.any_eq_true, List.any_eq_true]
  exact exists_congr fun w => and_congr_right fun hw => by rw [h w (List.mem_range.1 hw)]

theorem all_range_congr {n : Nat} {p q : Nat → Bool} (h : ∀ w < n, p w = q w) : (List.range n).all p = (List.range n).all q := by
  rw [Bool.eq_iff_iff, List.all_eq_true, List.all_eq_true]
  exact forall_congr' fun w => forall_congr' fun hw => by rw [h w (List.mem_range.1 hw)]

/-- The errors of a frame are what its bytes, its map and its check bits give. -/
theorem frameErrs_frame (h : FrameSame s t a f) : frameErrs t a f = frameErrs s a f := by
  have hdiff : ∀ w < 64, t.fdiff.get (aFrameCheck a f w) = s.fdiff.get (aFrameCheck a f w) := h.2.2
  have hfixed := frameFixed_frame h
  have hbytes : t.rdBytes (aFrame a f 0) 256 = s.rdBytes (aFrame a f 0) 256 := rdBytes_frame h (by decide)
  have hess : (List.range 32).any (fun w => mapWord t a f w != 0) = (List.range 32).any (fun w => mapWord s a f w != 0) :=
    any_range_congr fun w hw => by rw [(mapWord_frame h hw).1]
  have hclean : (List.range 32).all (fun w => (wordSynd (t.fdiff.get (aFrameCheck a f w))).1 != 3) =
      (List.range 32).all (fun w => (wordSynd (s.fdiff.get (aFrameCheck a f w))).1 != 3) := all_range_congr fun w hw => by rw [hdiff w (by omega)]
  unfold frameErrs
  dsimp only
  rw [hfixed, hbytes, hdiff 32 (by decide), hess, hclean]
  refine congrArg₂ HAppend.hAppend (congrArg₂ HAppend.hAppend (congrArg₂ HAppend.hAppend (List.filterMap_congr fun w hw => ?_) rfl) rfl)
    (congrArg _ (List.filter_congr fun w hw => (mapWord_frame h (List.mem_range.1 hw)).2))
  have hw : w < 32 := List.mem_range.1 hw
  simp only [hdiff w (by omega), (mapWord_frame h hw).1]

end

/-- A frame without errors is read as it is stored. -/
theorem frameFixed_clean {s : State} {a f : Nat} (h : frameErrs s a f = []) : frameFixed s a f = s.rdBytes (aFrame a f 0) 256 := by
  have hword : ∀ w < 32, (wordSynd (s.fdiff.get (aFrameCheck a f w))).1 = 0 := by
    intro w hw
    unfold frameErrs at h
    simp only [List.append_eq_nil_iff, List.filterMap_eq_nil_iff, List.mem_range] at h
    have hnone := h.1.1.1 w hw
    split at hnone
    next heq => rw [heq]
    all_goals simp at hnone
  have hwords : frameFixed s a f = (List.range 32).flatMap (fun w => s.rdBytes (aFrame a f 0 + 8 * w) 8) := by
    refine List.flatMap_congr fun w hw => ?_
    have hzero := hword w (List.mem_range.1 hw)
    have haddr : aFrame a f (8 * w) = aFrame a f 0 + 8 * w := by
      unfold aFrame
      omega
    have hbytes := bytesLE_ofBytesLE (s.rdBytes (aFrame a f (8 * w)) 8)
    rw [length_rdBytes] at hbytes
    dsimp only
    split
    next heq => simp [heq] at hzero
    next => rw [hbytes, haddr]
  rw [hwords, flatMap_rdBytes]

/-! ### What writing a frame leaves (R161, R163, R164) -/

section
variable {s : State} {a b f g : Nat} {d : List Byte}

theorem get_fdiffClear {q : Nat} (h : ∀ w < 33, q ≠ aFrameCheck b f w) (s : State) : (fdiffClear b f s).fdiff.get q = s.fdiff.get q := by
  have hfold : ∀ n ≤ 33, ((List.range n).foldl (fun (m : SMap Nat) i => m.set (aFrameCheck b f i) 0) s.fdiff).get q = s.fdiff.get q := by
    intro n hn
    induction n with
    | zero => rfl
    | succ n ih =>
      rw [List.range_succ, List.foldl_append, List.foldl_cons, List.foldl_nil, SMap.get_set_ne _ _ _ _ (h n (by omega)), ih (by omega)]
  exact hfold 33 (le_refl _)

theorem frameWrite_proj {β : Type} (g : State → β)
    (h : ∀ (s : State) m e x y, g { s with mem := m, ecc := e, fdiff := x, slices := y } = g s) (b f : Nat) (d : List Byte) (s : State) :
    g (frameWrite b f d s) = g s := by
  have hbytes : ∀ a l (s : State), g (s.wrBytes a l) = g s := fun a l s => wrBytes_proj g (fun s m e => h s m e s.fdiff s.slices) l a s
  have hclear : ∀ s, g (fdiffClear b f s) = g s := fun s => h s s.mem s.ecc _ s.slices
  have hstore : g (frameStore b f d s) = g s := by
    unfold frameStore
    split_ifs
    · exact (hclear _).trans (hbytes _ _ _)
    · exact hbytes _ _ _
    · rfl
    · exact (hclear _).trans (hbytes _ _ _)
  unfold frameWrite
  dsimp only
  split_ifs
  · exact hstore
  · exact (h (frameStore b f d s) _ _ _ _).trans hstore
  · exact hstore

/-- What the store of a frame makes of bytes and check bits, the engine's write makes of them. -/
theorem frameWrite_store (g : State → Nat → Byte × Nat) (h : ∀ (s : State) y, g { s with slices := y } = g s) (b f : Nat) (d : List Byte) (s : State) :
    g (frameWrite b f d s) = g (frameStore b f d s) := by
  unfold frameWrite
  dsimp only
  split_ifs
  · rfl
  · exact h _ _
  · rfl

theorem rdB_frameWrite (x : Nat) : (frameWrite b f d s).rdB x = (frameStore b f d s).rdB x :=
  congrArg Prod.fst (congrFun (frameWrite_store (fun s x => (s.rdB x, 0)) (fun _ _ => rfl) b f d s) x)

theorem fdiff_frameWrite (x : Nat) : (frameWrite b f d s).fdiff.get x = (frameStore b f d s).fdiff.get x :=
  congrArg Prod.snd (congrFun (frameWrite_store (fun s x => (0, s.fdiff.get x)) (fun _ _ => rfl) b f d s) x)

theorem mem_fdiffClear : (fdiffClear b f s).mem = s.mem := by rw [fdiffClear]

theorem rdB_fdiffClear (x : Nat) : (fdiffClear b f s).rdB x = s.rdB x := congrArg (fun m => m.get x) mem_fdiffClear

variable (hb : b < 768) (hd : d.length = 256)
include hb hd

/-- A stored frame goes to its own 256 bytes, and a content frame to its block. -/
theorem rdB_frameStore_ne {x : Nat} (hframe : x < aFrame b f 0 ∨ aFrame b f 0 + 256 ≤ x) (hblock : 2 ^ 53 ≤ x) (hf : f < 2048) :
    (frameStore b f d s).rdB x = s.rdB x := by
  have hsel : b ≠ selvage := by
    unfold selvage
    omega
  unfold frameStore
  rw [if_neg hsel]
  split_ifs
  · rw [rdB_wrBytes, if_neg]
    rw [hd]
    unfold aBlock
    omega
  · rfl
  · rw [rdB_fdiffClear, rdB_wrBytes, if_neg]
    rw [length_frameMasked f hd]
    omega

/-- Frames of other bays stand. -/
theorem frameSame_frameWrite (ha : a < 768) (hab : a ≠ b) (hf : f < 2048) (hg : g < 2048) : FrameSame s (frameWrite b f d s) a g := by
  have hsel : b ≠ selvage := by
    unfold selvage
    omega
  refine ⟨fun j hj => ?_, fun j hj => ?_, fun w hw => ?_⟩
  · rw [rdB_frameWrite, rdB_frameStore_ne hb hd ?_ ?_ hf]
    · unfold aFrame
      omega
    · unfold aFrame
      omega
  · rw [rdB_frameWrite, rdB_frameStore_ne hb hd ?_ ?_ hf]
    · unfold aMap aFrame
      omega
    · unfold aMap
      omega
  · have hclear : ∀ s : State, (fdiffClear b f s).fdiff.get (aFrameCheck a g w) = s.fdiff.get (aFrameCheck a g w) :=
      get_fdiffClear fun w' hw' => by
        unfold aFrameCheck
        omega
    have hbytes : ∀ x l, (s.wrBytes x l).fdiff = s.fdiff := fun x l => wrBytes_proj (·.fdiff) (fun _ _ _ => rfl) l x s
    rw [fdiff_frameWrite]
    unfold frameStore
    rw [if_neg hsel]
    split_ifs
    · rw [hbytes]
    · rfl
    · rw [hclear, hbytes]

/-- Another frame of the bay keeps its bytes. -/
theorem rdB_frameWrite_ne (hf : f < 2048) (hfg : g ≠ f) {j : Nat} (hj : j < 256) : (frameWrite b f d s).rdB (aFrame b g j) = s.rdB (aFrame b g j) := by
  rw [rdB_frameWrite, rdB_frameStore_ne hb hd ?_ ?_ hf]
  · unfold aFrame
    omega
  · unfold aFrame
    omega

/-- A plain frame is stored with its bits without a field at 0. -/
theorem rdB_frameWrite_same (hres : frameReserved f = false) (hcon : frameContent f = false) {j : Nat} (hj : j < 256) :
    (frameWrite b f d s).rdB (aFrame b f j) = (frameMasked f d).getD j 0 := by
  have hsel : b ≠ selvage := by
    unfold selvage
    omega
  have hoff : aFrame b f j - aFrame b f 0 = j := by
    unfold aFrame
    omega
  rw [rdB_frameWrite, frameStore, if_neg hsel, hcon, if_neg Bool.false_ne_true, hres, if_neg Bool.false_ne_true, rdB_fdiffClear, rdB_wrBytes, if_pos, hoff]
  rw [length_frameMasked f hd]
  unfold aFrame
  omega

end

/-! ### The frame copy (R345) -/

/-- One frame of the copy: whether a word was uncorrectable. -/
def frameCopied (a b f : Nat) (s : State) : Bool × State :=
  if frameReserved f then (false, s)
  else if frameContent f then (false, frameWrite b f (contentRead a f s).1 (contentRead a f s).2)
  else ((frameRead 2 a f s).2.1, frameWrite b f (frameRead 2 a f s).1 (frameRead 2 a f s).2.2)

/-- The first `n` frames of the copy. -/
def framesCopied (a b n : Nat) (s : State) : Bool × State :=
  (List.range n).foldl (fun (acc : Bool × State) f => (acc.1 || (frameCopied a b f acc.2).1, (frameCopied a b f acc.2).2)) (false, s)

theorem frameCopy_eq (a b : Nat) (s : State) : frameCopy a b s = framesCopied a b 2048 s := by
  unfold frameCopy framesCopied
  refine congrArg (fun step => List.foldl step (false, s) (List.range 2048)) (funext fun acc => funext fun f => ?_)
  unfold frameCopied
  split_ifs
  · rw [Bool.or_false]
  · rw [Bool.or_false]
  · rfl

/-- A frame that the copy reads word by word. -/
def plainFrame (f : Nat) : Bool := !frameReserved f && !frameContent f

/-- A word of a frame cannot be corrected. -/
def frameBad (s : State) (a f : Nat) : Bool := (frameErrs s a f).any (fun e => e.cls == 2 || e.cls == 3)

/-- What a copy from bay `a` to bay `b` keeps: the migrations, the frames of the source, and the fields that it copies after the frames. -/
def CopyKeeps (s t : State) (a : Nat) : Prop :=
  t.migs = s.migs ∧ (∀ f < 2048, FrameSame s t a f) ∧ ∀ q ∈ readFields, ∀ u i, t.fld q u i = s.fld q u i

theorem FrameSame.trans {s t u : State} {a f : Nat} (h : FrameSame s t a f) (k : FrameSame t u a f) : FrameSame s u a f := by
  obtain ⟨hframe, hmap, hdiff⟩ := h
  obtain ⟨kframe, kmap, kdiff⟩ := k
  exact ⟨fun j hj => (kframe j hj).trans (hframe j hj), fun j hj => (kmap j hj).trans (hmap j hj), fun w hw => (kdiff w hw).trans (hdiff w hw)⟩

theorem CopyKeeps.trans {s t u : State} {a : Nat} (h : CopyKeeps s t a) (k : CopyKeeps t u a) : CopyKeeps s u a := by
  obtain ⟨hmigs, hframes, hfld⟩ := h
  obtain ⟨kmigs, kframes, kfld⟩ := k
  exact ⟨kmigs.trans hmigs, fun f hf => (hframes f hf).trans (kframes f hf), fun q hq v i => (kfld q hq v i).trans (hfld q hq v i)⟩

theorem CopyKeeps.refl (s : State) (a : Nat) : CopyKeeps s s a :=
  ⟨rfl, fun _ _ => ⟨fun _ _ => rfl, fun _ _ => rfl, fun _ _ => rfl⟩, fun _ _ _ _ => rfl⟩

/-- Reading keeps it all. -/
theorem copyKeeps_of_view {s t : State} (h : readView t = readView s) (a : Nat) : CopyKeeps s t a := by
  have hmem : ∀ x, t.rdB x = s.rdB x := fun x => readView_rest h (fun s => s.rdB x) fun _ => rfl
  have hdiff : t.fdiff = s.fdiff := readView_rest h (·.fdiff) fun _ => rfl
  exact ⟨readView_rest h (·.migs) fun _ => rfl, fun _ _ => ⟨fun _ _ => hmem _, fun _ _ => hmem _, fun _ _ => by rw [hdiff]⟩,
    fun q hq u i => readView_fld h hq u i⟩

section
variable {s : State} {a b f g : Nat}

theorem copyKeeps_frameWrite (ha : a < 768) (hb : b < 768) (hab : a ≠ b) (hf : f < 2048) {d : List Byte} (hd : d.length = 256) (s : State) :
    CopyKeeps s (frameWrite b f d s) a :=
  ⟨frameWrite_proj (·.migs) (fun _ _ _ _ _ => rfl) b f d s, fun _ hg => frameSame_frameWrite hb hd ha hab hf hg,
    fun q _ u i => frameWrite_proj (fun s => s.fld q u i) (fun _ _ _ _ _ => rfl) b f d s⟩

theorem length_contentRead (a f : Nat) (s : State) : (contentRead a f s).1.length = 256 := by
  unfold contentRead corrected
  rw [List.length_map, List.length_range]

variable (ha : a < 768) (hb : b < 768) (hab : a ≠ b) (hf : f < 2048)
include ha hb hab hf

theorem copyKeeps_frameCopied (s : State) : CopyKeeps s (frameCopied a b f s).2 a := by
  unfold frameCopied
  split_ifs
  · exact CopyKeeps.refl s a
  · exact (copyKeeps_of_view (readView_contentRead a f s) a).trans (copyKeeps_frameWrite ha hb hab hf (length_contentRead a f s) _)
  · exact (copyKeeps_of_view (readView_errReport 2 a f _ s) a).trans (copyKeeps_frameWrite ha hb hab hf (length_frameFixed s a f) _)

omit ha hab in
theorem rdB_frameCopied_ne (hfg : g ≠ f) {j : Nat} (hj : j < 256) : (frameCopied a b f s).2.rdB (aFrame b g j) = s.rdB (aFrame b g j) := by
  unfold frameCopied
  split_ifs
  · rfl
  · rw [rdB_frameWrite_ne hb (length_contentRead a f s) hf hfg hj]
    exact readView_rest (readView_contentRead a f s) (fun s => s.rdB _) fun _ => rfl
  · refine (rdB_frameWrite_ne hb (length_frameFixed s a f) hf hfg hj).trans ?_
    exact readView_rest (readView_errReport 2 a f _ s) (fun s => s.rdB _) fun _ => rfl

omit ha hab hf in
theorem rdB_frameCopied_same (hplain : plainFrame f = true) {j : Nat} (hj : j < 256) :
    (frameCopied a b f s).2.rdB (aFrame b f j) = (frameMasked f (frameFixed s a f)).getD j 0 := by
  simp only [plainFrame, Bool.and_eq_true, Bool.not_eq_true'] at hplain
  obtain ⟨hres, hcon⟩ := hplain
  rw [frameCopied, hres, hcon, if_neg Bool.false_ne_true, if_neg Bool.false_ne_true]
  exact rdB_frameWrite_same hb (length_frameFixed s a f) hres hcon hj

omit ha hb hab hf in
theorem bad_frameCopied (s : State) (a b f : Nat) : (frameCopied a b f s).1 = (plainFrame f && frameBad s a f) := by
  unfold frameCopied plainFrame
  cases frameReserved f
  · cases frameContent f <;> rfl
  · rfl

end

section
variable {s : State} {a b : Nat} (ha : a < 768) (hb : b < 768) (hab : a ≠ b)
include ha hb hab

/-- The copy of the first frames: it keeps the source, says whether one of them was bad, and gives each plain one. -/
theorem framesCopied_done (s : State) {n : Nat} (hn : n ≤ 2048) :
    CopyKeeps s (framesCopied a b n s).2 a ∧ (framesCopied a b n s).1 = (List.range n).any (fun f => plainFrame f && frameBad s a f) ∧
      ∀ f < n, plainFrame f = true → ∀ j < 256, (framesCopied a b n s).2.rdB (aFrame b f j) = (frameMasked f (frameFixed s a f)).getD j 0 := by
  induction n with
  | zero => exact ⟨CopyKeeps.refl s a, rfl, fun f hf => absurd hf (by omega)⟩
  | succ n ih =>
    obtain ⟨hkeeps, hbad, hframes⟩ := ih (by omega)
    have hstep : framesCopied a b (n + 1) s = ((framesCopied a b n s).1 || (frameCopied a b n (framesCopied a b n s).2).1,
        (frameCopied a b n (framesCopied a b n s).2).2) := by
      unfold framesCopied
      rw [List.range_succ, List.foldl_append, List.foldl_cons, List.foldl_nil]
    have ⟨_, hsources, _⟩ := hkeeps
    have hsource : FrameSame s (framesCopied a b n s).2 a n := hsources n (by omega)
    clear hsources
    generalize framesCopied a b n s = acc at hkeeps hbad hframes hstep hsource
    rw [hstep]
    refine ⟨hkeeps.trans (copyKeeps_frameCopied ha hb hab (by omega) acc.2), ?_, fun f hf hplain j hj => ?_⟩
    · dsimp only
      rw [bad_frameCopied, hbad, List.range_succ, List.any_append, List.any_cons, List.any_nil, Bool.or_false, frameBad, frameBad, frameErrs_frame hsource]
    · by_cases e : f = n
      · rw [e]
        rw [e] at hplain
        exact (rdB_frameCopied_same hb hplain hj).trans (by rw [frameFixed_frame hsource])
      · exact (rdB_frameCopied_ne hb (by omega) e hj).trans (hframes f (by omega) hplain j hj)

end

/-! ### Bindings and translation entries (R331) -/

/-- The first `n` copies of a field of bay `b` are written as in bay `a`. -/
def fieldCopied (a b n : Nat) (f : Field) (s : State) : State := forN n (fun i s => s.setFld f b i (s.fld f a i)) s

/-- The same for a list of fields. -/
def fieldsCopied (a b n : Nat) (fs : List Field) (s : State) : State := forL fs (fieldCopied a b n) s

def xlateFields : List Field := [F.XLATE0_VALID, F.XLATE0_RO, F.XLATE0_SPOOL_ID, F.XLATE0_HANDLE, F.XLATE0_SIZE, F.XLATE1_BASE]
def boundaryFields : List Field := [F.BAY_BOUNDARY_WEST_EN, F.BAY_BOUNDARY_SOUTH_EN, F.BAY_BOUNDARY_EAST_EN, F.BAY_BOUNDARY_NORTH_EN]
def clockFields : List Field := [F.BAY_CLK_BIND_BOUND, F.BAY_CLK_BIND_LINE]

theorem bindCopy_eq (a b : Nat) (s : State) :
    bindCopy a b s = fieldsCopied a b 64 xlateFields (fieldsCopied a b 1 boundaryFields (fieldsCopied a b 8 clockFields s)) := rfl

theorem fieldCopied_proj {β : Type} (g : State → β) (h : ∀ (s : State) r, g { s with regs := r } = g s) (a b n : Nat) (f : Field) (s : State) :
    g (fieldCopied a b n f s) = g s := forN_proj g (fun _ _ s => h s _) s

theorem bindCopy_proj {β : Type} (g : State → β) (h : ∀ (s : State) r, g { s with regs := r } = g s) (a b : Nat) (s : State) :
    g (bindCopy a b s) = g s := by
  have hcopied : ∀ n fs (s : State), g (fieldsCopied a b n fs s) = g s := fun n fs s => forL_proj g (fun f _ s => fieldCopied_proj g h a b n f s) s
  rw [bindCopy_eq, hcopied, hcopied, hcopied]

section
variable {a b : Nat}

theorem fld_fieldCopied_ne {f q : Field} (h : q.id ≠ f.id) (n : Nat) (s : State) (u i : Nat) : (fieldCopied a b n f s).fld q u i = s.fld q u i :=
  forN_proj (fun s => s.fld q u i) (fun _ _ _ => fld_setFld_id _ _ _ _ _ _ _ _ h) s

theorem fld_fieldsCopied_ne {q : Field} {fs : List Field} (h : ∀ f ∈ fs, q.id ≠ f.id) (n : Nat) (s : State) (u i : Nat) :
    (fieldsCopied a b n fs s).fld q u i = s.fld q u i :=
  forL_proj (fun s => s.fld q u i) (fun f hf s => fld_fieldCopied_ne (h f hf) n s u i) s

variable (hab : a ≠ b)
include hab

theorem fld_fieldCopied_source (n : Nat) (f q : Field) (s : State) (i : Nat) : (fieldCopied a b n f s).fld q a i = s.fld q a i :=
  forN_proj (fun s => s.fld q a i) (fun _ _ _ => fld_setFld_unit _ _ _ _ _ _ _ _ hab) s

theorem fld_fieldsCopied_source (n : Nat) (fs : List Field) (q : Field) (s : State) (i : Nat) : (fieldsCopied a b n fs s).fld q a i = s.fld q a i :=
  forL_proj (fun s => s.fld q a i) (fun f _ s => fld_fieldCopied_source hab n f q s i) s

theorem fld_fieldCopied_same {n i : Nat} (hi : i < n) (f : Field) (s : State) : (fieldCopied a b n f s).fld f b i = s.fld f a i % 2 ^ f.w := by
  induction n with
  | zero => omega
  | succ n ih =>
    have hsource : (fieldCopied a b n f s).fld f a n = s.fld f a n := fld_fieldCopied_source hab n f f s n
    have hstep : fieldCopied a b (n + 1) f s = (fieldCopied a b n f s).setFld f b n (s.fld f a n) := by
      rw [← hsource]
      exact forN_succ n _ s
    rw [hstep]
    by_cases e : i = n
    · rw [e, fld_setFld_same]
    · rw [fld_setFld_copy _ _ _ _ _ _ _ _ e, ih (by omega)]

/-- Each field of the list reads in the one bay what it reads in the other. -/
theorem fld_fieldsCopied_same {fs : List Field} (hfs : ∀ f ∈ fs, ∀ q ∈ fs, q ≠ f → q.id ≠ f.id) {n i : Nat} (hi : i < n) (s : State) :
    ∀ f ∈ fs, (fieldsCopied a b n fs s).fld f b i = s.fld f a i % 2 ^ f.w := by
  refine forL_all (fun t => ∀ q, t.fld q a i = s.fld q a i) (fun f t => t.fld f b i = s.fld f a i % 2 ^ f.w) (fun f _ t ht q => ?_)
    (fun f _ t ht => ?_) (fun f hf q hq hne t _ hkept => ?_) (fun _ => rfl)
  · rw [fld_fieldCopied_source hab, ht]
  · rw [fld_fieldCopied_same hab hi, ht]
  · rw [fld_fieldCopied_ne (hfs f hf q hq hne), hkept]

theorem fld_bindCopy_xlate {i : Nat} (hi : i < 64) (s : State) : ∀ f ∈ xlateFields, (bindCopy a b s).fld f b i = s.fld f a i % 2 ^ f.w := by
  intro f hf
  rw [bindCopy_eq, fld_fieldsCopied_same hab (by decide) hi _ f hf, fld_fieldsCopied_source hab, fld_fieldsCopied_source hab]

theorem fld_bindCopy_clock {i : Nat} (hi : i < 8) (s : State) : ∀ f ∈ clockFields, (bindCopy a b s).fld f b i = s.fld f a i % 2 ^ f.w := by
  intro f hf
  have hx : ∀ f ∈ clockFields, ∀ q ∈ xlateFields, f.id ≠ q.id := by decide
  have hn : ∀ f ∈ clockFields, ∀ q ∈ boundaryFields, f.id ≠ q.id := by decide
  rw [bindCopy_eq, fld_fieldsCopied_ne (hx f hf), fld_fieldsCopied_ne (hn f hf), fld_fieldsCopied_same hab (by decide) hi _ f hf]

end

/-! ### The copy of a migration (R290, R331) -/

theorem rdB_updMig (tk : Nat) (f : Migr → Migr) (s : State) (x : Nat) : (updMig tk f s).rdB x = s.rdB x := rfl

section
variable {s : State} {tk a b : Nat} {m : Migr} {k : Skein}

theorem exec_copyDone_waits (hm : migOf s tk = some (m, k)) (h : copyDue s m k = false ∨ framePathFree s tk = false) :
    exec (.migrationCopyDone tk) s = .next s := by
  have hexec : exec (.migrationCopyDone tk) s = execMigrationCopyDone tk s := rfl
  rw [hexec, execMigrationCopyDone, hm]
  exact congrArg _ (if_pos (by rcases h with h | h <;> simp [h]))

theorem exec_copyDone (hm : migOf s tk = some (m, k)) (hrun : cfgRuns s = true) (hsrc : k.baysAt m.src = [a]) (hdst : k.baysAt m.dst = [b])
    (hdue : copyDue s m k = true) (hpath : framePathFree s tk = true) :
    exec (.migrationCopyDone tk) s = .next (
      if (framesCopied a b 2048 s).1 then migFail tk rMIGFAIL dFRAME (bindCopy a b (framesCopied a b 2048 s).2)
      else updMig tk (fun m => { m with part := 4 }) (bindCopy a b (framesCopied a b 2048 s).2)) := by
  have hexec : exec (.migrationCopyDone tk) s = execMigrationCopyDone tk s := rfl
  have hpairs : m.pairs k = [(a, b)] := by
    rw [Migr.pairs, hsrc, hdst]
    rfl
  rw [hexec, execMigrationCopyDone, hm]
  dsimp only
  rw [hpairs, List.foldl_cons, List.foldl_nil, frameCopy_eq, if_neg (by simp [hrun, hdue, hpath]), Bool.false_or]

variable (hm : migOf s tk = some (m, k)) (hrun : cfgRuns s = true) (hsrc : k.baysAt m.src = [a]) (hdst : k.baysAt m.dst = [b])
  (ha : a < 768) (hb : b < 768) (hab : a ≠ b) (hone : ∀ x ∈ s.migs, x.ticket = tk → x = m)
  (hdue : copyDue s m k = true) (hpath : framePathFree s tk = true) (hfail : m.fail = none)
include hm hrun hsrc hdst ha hb hab hone hdue hpath hfail

/-- A source without errors is copied. -/
theorem copyDone_clean (hclean : ∀ f < 2048, frameReserved f = false → frameContent f = false → frameErrs s a f = []) :
    ∃ t, exec (.migrationCopyDone tk) s = .next t ∧
      (∀ x ∈ t.migs, x.ticket = tk → x.part = 4 ∧ x.fail = none) ∧
      (∀ f < 2048, frameReserved f = false → frameContent f = false → ∀ j < 256,
        t.rdB (aFrame b f j) = (frameMasked f (s.rdBytes (aFrame a f 0) 256)).getD j 0) ∧
      (∀ e < 64, t.fld F.XLATE0_HANDLE b e = s.fld F.XLATE0_HANDLE a e % 2 ^ F.XLATE0_HANDLE.w ∧
        t.fld F.XLATE0_VALID b e = s.fld F.XLATE0_VALID a e % 2) ∧
      (∀ n < 8, t.fld F.BAY_CLK_BIND_LINE b n = s.fld F.BAY_CLK_BIND_LINE a n % 2 ^ F.BAY_CLK_BIND_LINE.w) := by
  have hexec := exec_copyDone hm hrun hsrc hdst hdue hpath
  obtain ⟨⟨hmigs, -, hfld⟩, hbad, hframes⟩ := framesCopied_done ha hb hab s (le_refl 2048)
  have hgood : (List.range 2048).any (fun f => plainFrame f && frameBad s a f) = false := by
    rw [List.any_eq_false]
    intro f hf hplain
    simp only [plainFrame, Bool.and_eq_true, Bool.not_eq_true'] at hplain
    obtain ⟨⟨hres, hcon⟩, herr⟩ := hplain
    rw [frameBad, hclean f (List.mem_range.1 hf) hres hcon] at herr
    exact absurd herr (by decide)
  rw [hbad, hgood, if_neg Bool.false_ne_true] at hexec
  generalize (framesCopied a b 2048 s).2 = w at hexec hmigs hfld hframes
  refine ⟨_, hexec, mem_updMig fun x hx htk => ?_, fun f hf hres hcon j hj => ?_, fun e he => ⟨?_, ?_⟩, fun n hn => ?_⟩
  · rw [bindCopy_proj (·.migs) (fun _ _ => rfl), hmigs] at hx
    rw [hone x hx htk]
    exact ⟨rfl, hfail⟩
  · have hbytes : ∀ x, (bindCopy a b w).rdB x = w.rdB x := fun x => bindCopy_proj (fun s => s.rdB x) (fun _ _ => rfl) a b w
    rw [rdB_updMig, hbytes, hframes f hf (by simp [plainFrame, hres, hcon]) j hj, frameFixed_clean (hclean f hf hres hcon)]
  · rw [fld_updMig, fld_bindCopy_xlate hab he w F.XLATE0_HANDLE (by simp [xlateFields]), hfld _ (by simp [readFields])]
  · rw [fld_updMig, fld_bindCopy_xlate hab he w F.XLATE0_VALID (by simp [xlateFields]), hfld _ (by simp [readFields])]
    rfl
  · rw [fld_updMig, fld_bindCopy_clock hab hn w F.BAY_CLK_BIND_LINE (by simp [clockFields]), hfld _ (by simp [readFields])]

/-- A word that cannot be corrected fails the migration. -/
theorem copyDone_bad (herr : ∃ f < 2048, frameReserved f = false ∧ frameContent f = false ∧ ∃ e ∈ frameErrs s a f, e.cls = 2 ∨ e.cls = 3) :
    ∃ t, exec (.migrationCopyDone tk) s = .next t ∧ ∀ x ∈ t.migs, x.ticket = tk → x.fail = some (rMIGFAIL, dFRAME) := by
  have hexec := exec_copyDone hm hrun hsrc hdst hdue hpath
  obtain ⟨⟨hmigs, -, -⟩, hbad, -⟩ := framesCopied_done ha hb hab s (le_refl 2048)
  obtain ⟨f, hf, hres, hcon, e, he, hcls⟩ := herr
  have hany : (List.range 2048).any (fun f => plainFrame f && frameBad s a f) = true := by
    refine List.any_eq_true.2 ⟨f, List.mem_range.2 hf, ?_⟩
    have hword : frameBad s a f = true := List.any_eq_true.2 ⟨e, he, by simpa using hcls⟩
    simp [plainFrame, hres, hcon, hword]
  rw [hbad, hany, if_pos rfl] at hexec
  have hw : (bindCopy a b (framesCopied a b 2048 s).2).migs = s.migs := (bindCopy_proj (·.migs) (fun _ _ => rfl) a b _).trans hmigs
  exact ⟨_, hexec, (migFail_done hone hfail hw rMIGFAIL dFRAME).1⟩

end

/-- Settles O31: its four instructions, each by the lemmas on what it waits for and what it does. -/
theorem migrationForms : Obligations.MigrationForms := by
  refine ⟨fun s tk h x hx => ?_, fun s tk m k a b hm hrun hsrc hdst ha hb hab hone => ⟨exec_copyDone_waits hm, fun hdue hpath hfail => ⟨?_, ?_⟩,
    fun c s1 d off hpart hfail hc hwait hr => ?_, eraseDone hm hrun hsrc hdst⟩,
    fun s => ⟨fun h => ?_, fun x rest hrun hcapts hwaits => ?_, fun x rest s1 hrun hcapts hw hgo he hmig => ?_⟩⟩
  · simp only [List.mem_cons, List.not_mem_nil, or_false] at hx
    rcases hx with rfl | rfl | rfl
    · exact exec_copyDone_none h
    · exact exec_restoreDone_none h
    · exact exec_eraseDone_none h
  · exact copyDone_clean hm hrun hsrc hdst ha hb hab hone hdue hpath hfail
  · exact copyDone_bad hm hrun hsrc hdst ha hb hab hone hdue hpath hfail
  · have hexec := exec_restoreDone hm hrun hdst hpart hfail hc hwait hr
    have hview : engView s1 = engView s := by
      have h := engView_engRead initCfg (c.f 0x10 8) k.snapLen s
      rw [hr] at h
      exact h
    refine ⟨fun hcrc => ?_, fun hcrc => ?_⟩
    · obtain ⟨hpart5, hout, hwe, hrst, hffs⟩ := migRestored_done b tk d s1
      rw [hcrc, if_pos rfl] at hexec
      exact ⟨_, hexec, hpart5, hout, hwe, hrst.trans (engView_fld hview (by simp [engFields]) _ _), hffs⟩
    · rw [hcrc, if_neg Bool.false_ne_true] at hexec
      exact ⟨_, hexec, migFail_done hone hfail (engView_rest hview (·.migs) fun _ => rfl) rMEMERR 0xFF⟩
  · rcases h with h | h
    · exact exec_capture_idle h
    · by_cases hrun : cfgRuns s = true
      · rw [exec_capture hrun, captureDone_none h]
      · exact exec_capture_idle (Bool.eq_false_iff.2 hrun)
  · rw [exec_capture hrun, captureDone_waits hcapts hwaits]
  · exact ⟨_, (exec_capture hrun).trans (congrArg _ (captureDone_written hcapts hw hgo he hmig)), captFreed_ended x s1⟩

end Sys2Proof.Machine
end

section
/-!
SUPPORT. The health of units (R305, R705 to R711): what a change of HSTATE and a retirement do, the bits of units that are unusable, and the
ageing monitors.
-/
namespace Sys2Proof.Machine
open Claims

/-! ### HSTATE of a bay (R305, R705) -/

/-- The fields that a change of a bay's HSTATE may write. -/
def healthFs : List (Field × Nat) :=
  irqFs ++ [(F.HD_MAP_HSTATE, 0), (F.HD_STATUS_CCOUNT, 0), (F.HD_STATUS_CINST, 0), (F.HD_STATUS_CONDEMN, 0)]

/-- HSTATE once it has its value, before an occupied bay is condemned. -/
def healthMarked (b v : Nat) (s : State) : State :=
  let s0 := if hstate s b = v then s else irqEdge 0x084 s
  (if 2 ≤ v then migHealth b s0 else s0).setFld F.HD_MAP_HSTATE 0 b v

/-- The skein of bay `b` is condemned, `o` its owner (R317). -/
def skeinCondemned (o : Nat) (s : State) : State :=
  let s2 := s.bump F.HD_STATUS_CCOUNT
  (if s2.bit F.HD_STATUS_CONDEMN then s2 else s2.setFld F.HD_STATUS_CINST 0 0 o).setEvt F.HD_STATUS_CONDEMN 0 0 0x048

theorem setHealth_cases (b v : Nat) (s : State) :
    setHealth b v s = healthMarked b v s ∨ setHealth b v s = skeinCondemned (mapOwner s b) (healthMarked b v s) := by
  by_cases h : (v = 3 && hstate s b != 3 && ostate s b == oLOADED) = true
  · exact .inr (if_pos h)
  · exact .inl (if_neg h)

section
variable {β : Type} (g : State → β) (h : ∀ (s : State) r w l m, g { s with regs := r, irqWin := w, irqHeld := l, migs := m } = g s)
include h

theorem setEvt_proj (f : Field) (u i src : Nat) (s : State) : g (s.setEvt f u i src) = g s :=
  (irqSample_proj g (fun s r w l => h s r w l s.migs) _ _).trans (h s _ s.irqWin s.irqHeld s.migs)

theorem healthMarked_proj (b v : Nat) (s : State) : g (healthMarked b v s) = g s := by
  have hedge : g (if hstate s b = v then s else irqEdge 0x084 s) = g s := by
    split
    · rfl
    · exact irqEdge_proj g (fun s r w l => h s r w l s.migs) _ s
  refine Eq.trans ?_ hedge
  unfold healthMarked
  dsimp only
  generalize (if hstate s b = v then s else irqEdge 0x084 s) = s0
  split <;> exact h s0 _ s0.irqWin s0.irqHeld _

theorem setHealth_proj (b v : Nat) (s : State) : g (setHealth b v s) = g s := by
  have hmarked := healthMarked_proj g h b v s
  obtain he | he := setHealth_cases b v s <;> rw [he]
  · exact hmarked
  · refine (setEvt_proj g h _ _ _ _ _).trans (Eq.trans ?_ hmarked)
    generalize healthMarked b v s = w
    have hset : ∀ (s : State) f u i v, g (s.setFld f u i v) = g s := fun s _ _ _ _ => h s _ s.irqWin s.irqHeld s.migs
    split
    · exact hset _ _ _ _ _
    · exact (hset _ _ _ _ _).trans (hset _ _ _ _ _)

theorem retireBay_proj (b cause : Nat) (s : State) : g (retireBay b cause s) = g s :=
  (h _ _ (State.irqWin _) (State.irqHeld _) (State.migs _)).trans (setHealth_proj g h b 3 s)

end

theorem fldSame_setEvt (s : State) (f : Field) (u i src : Nat) {ws : List (Field × Nat)} (hirq : irqFs ⊆ ws) (hf : (f, u) ∈ ws) :
    FldSame s (s.setEvt f u i src) ws :=
  (fldSame_setFld s f u i 1 hf).trans ((fldSame_irqSample src _).mono hirq)

theorem irqFs_sub_healthFs : irqFs ⊆ healthFs := List.subset_append_left _ _

/-- The register fields that a bay's health marks, but for the interrupt controller's, are HSTATE alone. -/
theorem fldSame_healthMarked (b v : Nat) (s : State) : FldSame s (healthMarked b v s) (irqFs ++ [(F.HD_MAP_HSTATE, 0)]) := by
  have hedge : FldSame s (if hstate s b = v then s else irqEdge 0x084 s) (irqFs ++ [(F.HD_MAP_HSTATE, 0)]) := by
    split
    · exact FldSame.refl _ _
    · exact (fldSame_irqEdge _ s).mono (List.subset_append_left _ _)
  refine hedge.trans ?_
  unfold healthMarked
  dsimp only
  generalize (if hstate s b = v then s else irqEdge 0x084 s) = s0
  split
  · exact (fldSame_of_regs (s := s0) (t := migHealth b s0) rfl _).trans (fldSame_setFld _ F.HD_MAP_HSTATE 0 b v (by simp))
  · exact fldSame_setFld _ _ _ _ _ (by simp)

theorem fldSame_skeinCondemned (o : Nat) (s : State) :
    FldSame s (skeinCondemned o s) (irqFs ++ [(F.HD_STATUS_CCOUNT, 0), (F.HD_STATUS_CINST, 0), (F.HD_STATUS_CONDEMN, 0)]) := by
  refine FldSame.trans ?_ (fldSame_setEvt _ F.HD_STATUS_CONDEMN 0 0 _ (List.subset_append_left _ _) (by simp))
  have hcount := fldSame_setFld s F.HD_STATUS_CCOUNT 0 0 (satAdd F.HD_STATUS_CCOUNT.w (s.fld F.HD_STATUS_CCOUNT) 1)
    (ws := irqFs ++ [(F.HD_STATUS_CCOUNT, 0), (F.HD_STATUS_CINST, 0), (F.HD_STATUS_CONDEMN, 0)]) (by simp)
  split
  · exact hcount
  · exact hcount.trans (fldSame_setFld _ F.HD_STATUS_CINST 0 0 o (by simp))

theorem fldSame_setHealth (b v : Nat) (s : State) : FldSame s (setHealth b v s) healthFs := by
  have hmarked := (fldSame_healthMarked b v s).mono (xs := healthFs) (by simp [healthFs])
  obtain he | he := setHealth_cases b v s <;> rw [he]
  · exact hmarked
  · exact hmarked.trans ((fldSame_skeinCondemned _ _).mono (by simp [healthFs]))

/-- HSTATE of a bay reads as set, and every other bay's as before. -/
theorem hstate_setHealth (b v : Nat) (s : State) (x : Nat) :
    (setHealth b v s).fld F.HD_MAP_HSTATE 0 x = if x = b then v % 4 else s.fld F.HD_MAP_HSTATE 0 x := by
  have hmarked : (healthMarked b v s).fld F.HD_MAP_HSTATE 0 x = if x = b then v % 4 else s.fld F.HD_MAP_HSTATE 0 x := by
    have hedge : (if hstate s b = v then s else irqEdge 0x084 s).fld F.HD_MAP_HSTATE 0 x = s.fld F.HD_MAP_HSTATE 0 x := by
      split
      · rfl
      · exact (fldSame_irqEdge _ s).fld_id (by decide) 0 x
    rw [← hedge]
    unfold healthMarked
    dsimp only
    generalize (if hstate s b = v then s else irqEdge 0x084 s) = s0
    by_cases hx : x = b
    · subst hx
      rw [if_pos rfl]
      exact fld_setFld_same _ _ _ _ _
    · rw [if_neg hx, fld_setFld_copy _ _ _ _ _ _ _ _ hx]
      split <;> rfl
  obtain he | he := setHealth_cases b v s <;> rw [he]
  · exact hmarked
  · exact ((fldSame_skeinCondemned _ _).fld_id (by decide) 0 x).trans hmarked

theorem memSame_trans {s w t : State} (h : MemSame s w) (k : MemSame w t) : MemSame s t := fun a =>
  ⟨(k a).1.trans (h a).1, (k a).2.trans (h a).2⟩

/-! ### The retirement of a bay -/

theorem memSame_retireBay (b cause : Nat) (s : State) : MemSame s (retireBay b cause s) :=
  memSame_of_eq (retireBay_proj State.mem (fun _ _ _ _ _ => rfl) b cause s) (retireBay_proj State.ecc (fun _ _ _ _ _ => rfl) b cause s)

/-- The fields that retirements of bays write. -/
def bayRetireFs : List (Field × Nat) := healthFs ++ [(F.AGE_BAY_T_HCAUSE, 0)]

theorem fldSame_retireBay (b cause : Nat) (s : State) : FldSame s (retireBay b cause s) bayRetireFs :=
  ((fldSame_setHealth b 3 s).mono (List.subset_append_left _ _)).trans (fldSame_setFld _ F.AGE_BAY_T_HCAUSE 0 b cause (by simp))

theorem hstate_retireBay (b cause : Nat) (s : State) (x : Nat) :
    (retireBay b cause s).fld F.HD_MAP_HSTATE 0 x = if x = b then 3 else s.fld F.HD_MAP_HSTATE 0 x :=
  (fld_setFld_id _ _ _ _ _ _ _ _ (by decide)).trans (hstate_setHealth b 3 s x)

theorem hcause_retireBay (b cause : Nat) (s : State) (x : Nat) :
    (retireBay b cause s).fld F.AGE_BAY_T_HCAUSE 0 x = if x = b then cause % 16 else s.fld F.AGE_BAY_T_HCAUSE 0 x := by
  by_cases hx : x = b
  · subst hx
    rw [if_pos rfl]
    exact fld_setFld_same _ _ _ _ _
  · rw [if_neg hx]
    exact (fld_setFld_copy _ _ _ _ _ _ _ _ hx).trans ((fldSame_setHealth b 3 s).fld_id (by decide) 0 x)

/-- Each bay of a list that retires is unusable, for the cause given. -/
theorem retired_forL (cause : Nat) (l : List Nat) (s : State) : ∀ b ∈ l,
    (forL l (retireBay · cause) s).fld F.HD_MAP_HSTATE 0 b = 3 ∧ (forL l (retireBay · cause) s).fld F.AGE_BAY_T_HCAUSE 0 b = cause % 16 := by
  refine forL_all (fun _ => True) (fun b s => s.fld F.HD_MAP_HSTATE 0 b = 3 ∧ s.fld F.AGE_BAY_T_HCAUSE 0 b = cause % 16) (fun _ _ _ _ => trivial)
    (fun b _ s _ => ?_) (fun a _ b _ hne s _ hb => ?_) trivial
  · rw [hstate_retireBay, hcause_retireBay]
    simp
  · rw [hstate_retireBay, hcause_retireBay, if_neg hne, if_neg hne]
    exact hb

/-! ### The bits of unusable units (R706, Table 24.5) -/

/-- The families whose units have such bits. -/
theorem fam_of_famCount {fam u : Nat} (hu : u < famCount fam) : fam = 1 ∨ fam = 3 ∨ fam = 6 ∨ fam = 7 ∨ fam = 8 := by
  unfold famCount at hu
  split at hu
  case h_6 => omega
  all_goals simp

/-- The fields that hold the bits, and the causes of those units that have a monitor. -/
def unitFs : List Field :=
  [F.UNUSABLE_QUAD_QUAD, F.UNUSABLE_SC_SC, F.UNUSABLE_CC_CC, F.UNUSABLE_BANK_BANK, F.UNUSABLE_RTR_RTR, F.AGE_QUAD_T_HCAUSE, F.AGE_SC_T_HCAUSE,
    F.AGE_CC_T_HCAUSE]

/-- The bit of a unit of a family lies within its field. -/
theorem unusableBit_lt {fam u : Nat} (hu : u < famCount fam) : (unusableBit fam u).2.2 < (unusableBit fam u).1.w := by
  obtain rfl | rfl | rfl | rfl | rfl := fam_of_famCount hu
  · exact hu
  · exact Nat.mod_lt u (by decide)
  · exact hu
  · exact hu
  · exact Nat.mod_lt u (by decide)

/-- The fields of the bits are no causes and none of the interrupt controller's. -/
def bitFs : List Field := [F.UNUSABLE_QUAD_QUAD, F.UNUSABLE_SC_SC, F.UNUSABLE_CC_CC, F.UNUSABLE_BANK_BANK, F.UNUSABLE_RTR_RTR]

theorem bitFs_apart : ∀ f ∈ bitFs, f ∈ unitFs ∧
    ∀ w ∈ irqFs ++ [(F.AGE_QUAD_T_HCAUSE, 0), (F.AGE_SC_T_HCAUSE, 0), (F.AGE_CC_T_HCAUSE, 0)], f.id ≠ w.1.id := by decide

theorem unusableBit_field (fam u : Nat) : (unusableBit fam u).1 ∈ bitFs := by
  unfold unusableBit
  split <;> simp [bitFs]

theorem outOfService_setUnusable {fam u : Nat} (hu : u < famCount fam) (bad : Bool) (s : State) : OutOfService (setUnusable fam u bad s) fam u bad := by
  by_cases h : bitOf (s.fld (unusableBit fam u).1 0 (unusableBit fam u).2.1) (unusableBit fam u).2.2 = bad
  · rw [show setUnusable fam u bad s = s from if_pos h]
    exact h
  · rw [show setUnusable fam u bad s = irqEdge 0x084 (s.setFlag (unusableBit fam u).1 0 (unusableBit fam u).2.1 (unusableBit fam u).2.2 bad) from if_neg h]
    unfold OutOfService
    rw [(fldSame_irqEdge _ _).fld_id (fun w hw => (bitFs_apart _ (unusableBit_field fam u)).2 w (List.mem_append_left _ hw)), State.setFlag, fld_setFld_same,
      bitOf_mod_two_pow _ _ _ (unusableBit_lt hu), bitOf_withBit, if_pos rfl]

theorem memSame_setUnusable (fam u : Nat) (bad : Bool) (s : State) : MemSame s (setUnusable fam u bad s) := by
  have hproj : ∀ {β : Type} (g : State → β), (∀ (s : State) r w l, g { s with regs := r, irqWin := w, irqHeld := l } = g s) →
      g (setUnusable fam u bad s) = g s := fun g h => by
    unfold setUnusable
    dsimp only
    split
    · rfl
    · exact (irqEdge_proj g h _ _).trans (h s _ s.irqWin s.irqHeld)
  exact memSame_of_eq (hproj State.mem fun _ _ _ _ => rfl) (hproj State.ecc fun _ _ _ _ => rfl)

/-! ### The reset of a signal core (R393) -/

/-- The fields of Table 12.4. -/
def ssrFields : List Field := (regsOf .ssr).flatMap (·.fields)

/-- What a reset of signal core `n` does to the registers. -/
def scCleared (n : Nat) (s : State) : State :=
  ((forL ssrFields (fun f s => s.clrFld f n) s).clrFld F.DBG_REQ_REQ (8 + n)).setFld F.SC_STATUS_STATE n 0 0

theorem onlyRegs_scCleared (n : Nat) (s : State) :
    OnlyRegs s (scCleared n s) (ssrFields.map (fun f => (f, n)) ++ [(F.DBG_REQ_REQ, 8 + n), (F.SC_STATUS_STATE, n)]) :=
  ((onlyRegs_forL (fun f hf s => onlyRegs_setFld s f n 0 0 (by simp [hf])) s).trans
    (onlyRegs_setFld _ F.DBG_REQ_REQ (8 + n) 0 0 (by simp))).trans (onlyRegs_setFld _ F.SC_STATUS_STATE n 0 0 (by simp))

/-- Beside the registers, a reset changes the core's own state and what its requests wait for. -/
theorem scResetCore_proj {β : Type} (g : State → β) (h : ∀ (s : State) x y, g { s with sc := x, reqs := y } = g s) (n : Nat) (s : State) :
    g (scResetCore n s) = g (scCleared n s) := h (scCleared n s) _ _

/-! ### The retirement of another unit -/

/-- What a unit's retirement does beside its mark and its cause (Table 24.3): a core is held in reset, and the bays of a bay router go with it. -/
def unitDown (fam idx : Nat) (s : State) : State :=
  match fam with
  | 3 => scResetCore idx s
  | 6 => coreReset idx s
  | 8 => if idx < 64 then forL ((List.range 768).filter (fun b => bayRouter b == idx)) (retireBay · 4) s else s
  | _ => s

theorem retireUnit_eq (fam idx cause : Nat) (s : State) :
    retireUnit fam idx cause s = unitDown fam idx (setCause fam idx cause (setUnusable fam idx true s)) := rfl

theorem ssrFields_other : ∀ f ∈ unitFs, ∀ g ∈ ssrFields ++ [F.DBG_REQ_REQ, F.SC_STATUS_STATE], f.id ≠ g.id := by decide

theorem vsrCleared_unitFs : ∀ f ∈ unitFs, ∀ g ∈ vsrCleared ++ programFs ++ [F.TBASE_BASE, F.DBG_REQ_REQ, F.CC_STATUS_STATE], f.id ≠ g.id := by decide

/-- It leaves what the retirement has recorded. -/
theorem unitDown_fld {f : Field} (hf : f ∈ unitFs) (fam idx : Nat) (s : State) (u i : Nat) : (unitDown fam idx s).fld f u i = s.fld f u i := by
  unfold unitDown
  split
  · rw [scResetCore_proj (fun s => s.fld f u i) (fun _ _ _ => rfl)]
    refine (onlyRegs_scCleared idx s).2.fld_id (fun w hw => ssrFields_other f hf w.1 ?_) u i
    simp only [List.mem_append, List.mem_map, List.mem_cons, List.not_mem_nil, or_false] at hw ⊢
    rcases hw with ⟨g, hg, rfl⟩ | rfl | rfl <;> simp [*]
  · have hids := vsrCleared_unitFs f hf
    obtain ⟨left, he⟩ := coreReset_eq idx s
    rw [he, vreset_eq]
    refine ((fldSame_programReset idx left _).fld_id ?_ u i).trans (((fldSame_vheld idx _).fld_id ?_ u i).trans
      ((onlyRegs_vcleared idx s).2.fld_id ?_ u i))
    · exact fun w hw => by
        obtain ⟨g, hg, rfl⟩ := List.mem_map.1 hw
        exact hids g (by simp [hg])
    · exact fun w hw => by
        simp only [List.mem_cons, List.not_mem_nil, or_false] at hw
        rcases hw with rfl | rfl | rfl <;> exact hids _ (by simp)
    · exact fun w hw => by
        obtain ⟨g, hg, rfl⟩ := List.mem_map.1 hw
        exact hids g (by simp [hg])
  · split
    · exact (fldSame_forL (fun b _ s => fldSame_retireBay b 4 s) s).fld_id (by revert f; decide) u i
    · rfl
  · rfl

theorem memSame_unitDown (fam idx : Nat) (s : State) : MemSame s (unitDown fam idx s) := by
  unfold unitDown
  split
  · obtain ⟨-, -, hmem, hecc⟩ := (onlyRegs_scCleared idx s).parts
    exact memSame_of_eq ((scResetCore_proj State.mem (fun _ _ _ => rfl) idx s).trans hmem)
      ((scResetCore_proj State.ecc (fun _ _ _ => rfl) idx s).trans hecc)
  · exact (coreReset_parts idx s).2.2
  · split
    · exact memSame_of_eq (forL_proj State.mem (fun b _ s => retireBay_proj State.mem (fun _ _ _ _ _ => rfl) b 4 s) s)
        (forL_proj State.ecc (fun b _ s => retireBay_proj State.ecc (fun _ _ _ _ _ => rfl) b 4 s) s)
    · exact memSame_of_eq rfl rfl
  · exact memSame_of_eq rfl rfl

/-- The cause is recorded for quads and cores; nothing but a cause is written. -/
theorem setCause_fields (fam idx cause : Nat) (s : State) :
    (fam = 1 → (setCause fam idx cause s).fld F.AGE_QUAD_T_HCAUSE 0 idx = cause % 16) ∧
    (fam = 3 → (setCause fam idx cause s).fld F.AGE_SC_T_HCAUSE 0 idx = cause % 16) ∧
    (fam = 6 → (setCause fam idx cause s).fld F.AGE_CC_T_HCAUSE 0 idx = cause % 16) ∧
    OnlyRegs s (setCause fam idx cause s) [(F.AGE_QUAD_T_HCAUSE, 0), (F.AGE_SC_T_HCAUSE, 0), (F.AGE_CC_T_HCAUSE, 0)] := by
  refine ⟨?_, ?_, ?_, ?_⟩
  · rintro rfl
    exact fld_setFld_same _ _ _ _ _
  · rintro rfl
    exact fld_setFld_same _ _ _ _ _
  · rintro rfl
    exact fld_setFld_same _ _ _ _ _
  · unfold setCause
    split
    · exact onlyRegs_setFld _ _ _ _ _ (by simp)
    · exact onlyRegs_setFld _ _ _ _ _ (by simp)
    · exact onlyRegs_setFld _ _ _ _ _ (by simp)
    · exact OnlyRegs.refl _ _

/-- A unit leaves service (R706, Table 24.3). -/
theorem unitRetired_retireUnit {fam u : Nat} (hu : u < famCount fam) (s : State) :
    UnitRetired (retireUnit fam u 5 s) fam u 5 ∧ MemSame s (retireUnit fam u 5 s) := by
  have hbit := outOfService_setUnusable hu true s
  have hmem := memSame_setUnusable fam u true s
  obtain ⟨hquad, hsc, hcc, hregs⟩ := setCause_fields fam u 5 (setUnusable fam u true s)
  rw [retireUnit_eq]
  generalize setUnusable fam u true s = s1 at *
  generalize setCause fam u 5 s1 = s2 at *
  obtain ⟨hfield, hids⟩ := bitFs_apart _ (unusableBit_field fam u)
  refine ⟨⟨?_, fun h => ?_, fun h => ⟨?_, ?_⟩, fun h => ⟨?_, ?_⟩, fun h hlt b hb hr => ?_⟩, memSame_trans hmem (memSame_trans hregs.memSame (memSame_unitDown fam u s2))⟩
  · unfold OutOfService
    rw [unitDown_fld hfield, hregs.2.fld_id (fun w hw => hids w (List.mem_append_right _ hw))]
    exact hbit
  · exact (unitDown_fld (by simp [unitFs]) _ _ _ _ _).trans (hquad h)
  · exact (unitDown_fld (by simp [unitFs]) _ _ _ _ _).trans (hsc h)
  · subst h
    exact (scResetCore_proj (fun s => s.fld F.SC_STATUS_STATE u) (fun _ _ _ => rfl) u s2).trans (fld_setFld_same _ _ _ _ _)
  · exact (unitDown_fld (by simp [unitFs]) _ _ _ _ _).trans (hcc h)
  · subst h
    exact (coreReset_registers u s2).1
  · subst h
    rw [show unitDown 8 u s2 = forL ((List.range 768).filter (fun b => bayRouter b == u)) (retireBay · 4) s2 from if_pos hlt]
    exact retired_forL 4 _ s2 b (List.mem_filter.2 ⟨List.mem_range.2 hb, by simpa using hr⟩)

/-! ### EOL_HOURS and WEAR (R709) -/

section
variable {tau af l : Nat} {d : Int}

theorem eolHours_unknown (h : tau < 100 * 2 ^ 32 ∨ d ≤ 0) : eolHours tau af d l = 0xFFFF_FFFF := if_pos h

theorem eolHours_of_known (htau : 100 * 2 ^ 32 ≤ tau) (hd : 0 < d) :
    eolHours tau af d l = if l ≤ d.toNat then 0 else if af = 0 then 0xFFFF_FFFE else min 0xFFFF_FFFE (tau * (l ^ 4 - d.toNat ^ 4) / (d.toNat ^ 4 * af)) :=
  if_neg (by omega)

theorem eolHours_lt : eolHours tau af d l < 2 ^ 32 := by
  unfold eolHours
  split_ifs <;> omega

theorem wearOf_lt : wearOf d l < 2 ^ 8 := by
  unfold wearOf
  split_ifs <;> omega

end

/-! ### Fields of one copy, written together -/

/-- Writes copy `i` of fields of a single block, in order. -/
def setCopies (i : Nat) (l : List (Field × Nat)) (s : State) : State := forL l (fun x s => s.setFld x.1 0 i x.2) s

theorem onlyRegs_setCopies (i : Nat) (l : List (Field × Nat)) (s : State) : OnlyRegs s (setCopies i l s) (l.map (fun x => (x.1, 0))) :=
  onlyRegs_forL (fun x hx s => onlyRegs_setFld s x.1 0 i x.2 (List.mem_map.2 ⟨x, hx, rfl⟩)) s

theorem fld_setCopies {l : List (Field × Nat)} (hl : (l.map (fun x => x.1.id)).Nodup) (i : Nat) (s : State) :
    ∀ x ∈ l, (setCopies i l s).fld x.1 0 i = x.2 % 2 ^ x.1.w := by
  refine forL_all (fun _ => True) (fun (x : Field × Nat) s => s.fld x.1 0 i = x.2 % 2 ^ x.1.w) (fun _ _ _ _ => trivial)
    (fun x _ s _ => fld_setFld_same s x.1 0 i x.2) (fun x hx y hy hne s _ h => ?_) trivial
  exact (fld_setFld_id _ _ _ _ _ _ _ _ (fun e => hne (List.inj_on_of_nodup_map hl hy hx e))).trans h

/-! ### The monitors (R707 to R711) -/

/-- The monitors of a family: how many units have one, their registers, and the event of the family. -/
structure Monitor where
  fam : Nat
  count : Nat
  eol : Field
  temp : Field
  drift : Field
  warn : Field
  tau : Field
  ev : Field

def monitors : List Monitor :=
  [⟨1, 48, F.AGE_QUAD_EOL_HOURS, F.AGE_QUAD_TEMP, F.AGE_QUAD_DRIFT, F.AGE_QUAD_T_WARN, F.AGE_QUAD_T_TAU, F.AGE_EVT_WARN_QUAD⟩,
   ⟨2, 768, F.AGE_BAY_EOL_HOURS, F.AGE_BAY_TEMP, F.AGE_BAY_DRIFT, F.AGE_BAY_T_WARN, F.AGE_BAY_T_TAU, F.AGE_EVT_WARN_BAY⟩,
   ⟨3, 96, F.AGE_SC_EOL_HOURS, F.AGE_SC_TEMP, F.AGE_SC_DRIFT, F.AGE_SC_T_WARN, F.AGE_SC_T_TAU, F.AGE_EVT_WARN_CORE⟩,
   ⟨6, 8, F.AGE_CC_EOL_HOURS, F.AGE_CC_TEMP, F.AGE_CC_DRIFT, F.AGE_CC_T_WARN, F.AGE_CC_T_TAU, F.AGE_EVT_WARN_CORE⟩]

/-- The fields that a measurement writes. -/
def Monitor.fields (m : Monitor) : List Field := [m.temp, m.drift, m.tau, m.eol] ++ (if m.fam = 2 then [F.HD_MAP_WEAR] else []) ++ [m.warn]

/-- The registers of a monitor stand apart from one another and from what a change of health writes. -/
theorem monitors_apart : ∀ m ∈ monitors, (m.fields.map (·.id)).Nodup ∧ (∀ f ∈ m.fields, ∀ y ∈ healthFs ++ [(m.ev, 0)], f.id ≠ y.1.id) ∧
    (∀ y ∈ healthFs, m.ev.id ≠ y.1.id) ∧ (∀ f ∈ m.ev :: m.fields, F.HD_MAP_HSTATE.id ≠ f.id) ∧
    m.eol.w = 32 ∧ m.temp.w = 16 ∧ m.drift.w = 16 ∧ m.warn.w = 1 ∧ m.tau.w = 32 ∧ m.ev.w = 1 := by decide

/-- What a measurement of a drift `d` and a temperature with TAU at `tau` writes. -/
def Monitor.writes (m : Monitor) (temp drift tau eol wear : Nat) (w : Bool) : List (Field × Nat) :=
  [(m.temp, temp), (m.drift, drift), (m.tau, tau / 2 ^ 32), (m.eol, eol)] ++ (if m.fam = 2 then [(F.HD_MAP_WEAR, wear)] else []) ++ [(m.warn, ofBool w)]

theorem Monitor.map_writes (m : Monitor) (temp drift tau eol wear : Nat) (w : Bool) : (m.writes temp drift tau eol wear w).map Prod.fst = m.fields := by
  unfold writes fields
  split <;> rfl

/-- The event of a warning sets the first time (R710). -/
def warnTold (ev : Field) (key : Nat) (w : Bool) (s : State) : State :=
  if w && !s.bist.warned.contains key then
    let s2 := s.setEvt ev 0 0 0x082
    { s2 with bist := { s2.bist with warned := s2.bist.warned ++ [key] } }
  else s

/-- The state with what a measurement writes, and with what is left of TAU below an hour. -/
def ageRecorded (key idx tau : Nat) (l : List (Field × Nat)) (s : State) : State :=
  { setCopies idx l s with bist := { s.bist with frac := s.bist.frac.set key (tau % 2 ^ 32) } }

/-- A bay in service is DEGRADED while its WARN is 1, else GOOD (R705). -/
def ageHealth (fam idx : Nat) (w serves : Bool) (s : State) : State := if fam = 2 && serves then setHealth idx (ofBool w) s else s

/-- The registers of a measurement but WARN. -/
def ageMeasured (m : Monitor) (idx temp drift tau eol wear : Nat) (s : State) : State :=
  let s1 := ((s.setFld m.temp 0 idx temp).setFld m.drift 0 idx drift).setFld m.tau 0 idx (tau / 2 ^ 32)
  let s2 := { s1.setFld m.eol 0 idx eol with bist := { s1.bist with frac := s1.bist.frac.set (m.fam * 4096 + idx) (tau % 2 ^ 32) } }
  if m.fam = 2 then s2.setFld F.HD_MAP_WEAR 0 idx wear else s2

theorem ageRecorded_writes (m : Monitor) (idx temp drift tau eol wear : Nat) (w : Bool) (s : State) :
    (ageMeasured m idx temp drift tau eol wear s).setFld m.warn 0 idx (ofBool w) =
      ageRecorded (m.fam * 4096 + idx) idx tau (m.writes temp drift tau eol wear w) s := by
  unfold ageMeasured Monitor.writes
  dsimp only
  split <;> rfl

section
variable {m : Monitor} (hm : m ∈ monitors)
include hm

/-- WARN takes its value, the event of a first warning, the health of a bay. -/
theorem warnSet_eq (idx : Nat) (w : Bool) (s : State) : warnSet m.fam idx w s =
    ageHealth m.fam idx w (decide (hstate s idx < 2)) (warnTold m.ev (m.fam * 4096 + idx) w (s.setFld m.warn 0 idx (ofBool w))) := by
  have htold : warnTold m.ev (m.fam * 4096 + idx) w (s.setFld m.warn 0 idx (ofBool w)) =
      if w && !s.bist.warned.contains (m.fam * 4096 + idx) then
        { (s.setFld m.warn 0 idx (ofBool w)).setEvt m.ev 0 0 0x082 with
          bist := { ((s.setFld m.warn 0 idx (ofBool w)).setEvt m.ev 0 0 0x082).bist with
            warned := ((s.setFld m.warn 0 idx (ofBool w)).setEvt m.ev 0 0 0x082).bist.warned ++ [m.fam * 4096 + idx] } }
      else s.setFld m.warn 0 idx (ofBool w) := rfl
  have hm' := hm
  simp only [monitors, List.mem_cons, List.not_mem_nil, or_false] at hm'
  rw [htold]
  unfold warnSet
  dsimp only
  cases w && !s.bist.warned.contains (m.fam * 4096 + idx) <;> rcases hm' with rfl | rfl | rfl | rfl <;> simp [ageHealth, ageFields]

/-- What a measurement does: its registers, the event of a first warning, the health of a bay. -/
theorem execAgeing_eq (idx drift temp : Nat) (s : State) :
    exec (.ageingMeasurement m.fam idx drift temp) s = .next (if m.count ≤ idx || !bistRuns s then s else
      let d := (BitVec.ofNat 16 drift).toInt
      let l := max 1 (s.fld F.AGE_CFG_DLIM)
      let af := ageFactor (BitVec.ofNat 16 temp).toInt (if m.fam = 2 then some (s.fld F.PWR_BAY_V_MV 0 idx) else none)
      let tau := s.fld m.tau 0 idx * 2 ^ 32 + s.bist.frac.get (m.fam * 4096 + idx) + af * max 1 (s.fld F.AGE_CFG_PERIOD_MS) / 3600000
      let eol := eolHours tau af d l
      warnSet m.fam idx (eol != 0xFFFF_FFFF && decide (eol < s.fld F.AGE_CFG_EOL_WARN)) (ageMeasured m idx temp drift tau eol (wearOf d l) s)) := by
  simp only [monitors, List.mem_cons, List.not_mem_nil, or_false] at hm
  rcases hm with rfl | rfl | rfl | rfl <;> rfl

end

theorem warnTold_proj {β : Type} (g : State → β) (h : ∀ (s : State) r x l k, g { s with regs := r, irqWin := x, irqHeld := l, bist := k } = g s)
    (ev : Field) (key : Nat) (w : Bool) (s : State) : g (warnTold ev key w s) = g s := by
  unfold warnTold
  dsimp only
  split
  · exact (h _ (State.regs _) (State.irqWin _) (State.irqHeld _) _).trans ((irqSample_proj g (fun s r x l => h s r x l s.bist) _ _).trans
      (h s _ s.irqWin s.irqHeld s.bist))
  · rfl

theorem fldSame_warnTold (ev : Field) (key : Nat) (w : Bool) (s : State) : FldSame s (warnTold ev key w s) (irqFs ++ [(ev, 0)]) := by
  unfold warnTold
  dsimp only
  split
  · exact (fldSame_setEvt s ev 0 0 0x082 (List.subset_append_left _ _) (by simp)).trans (fldSame_of_regs rfl _)
  · exact FldSame.refl _ _

theorem frac_warnTold (ev : Field) (key : Nat) (w : Bool) (s : State) : (warnTold ev key w s).bist.frac = s.bist.frac := by
  unfold warnTold
  dsimp only
  split
  · exact irqSample_proj (fun s => s.bist.frac) (fun _ _ _ _ => rfl) _ _
  · rfl

/-- The first warning of a unit sets the event of its family and is remembered. -/
theorem warnTold_first {ev : Field} (hw : ev.w = 1) (hirq : ∀ y ∈ irqFs, ev.id ≠ y.1.id) {key : Nat} {s : State} (hkey : key ∉ s.bist.warned) :
    (warnTold ev key true s).fld ev = 1 ∧ key ∈ (warnTold ev key true s).bist.warned := by
  have hc : s.bist.warned.contains key = false := by simpa using hkey
  unfold warnTold
  dsimp only
  rw [if_pos (by rw [hc]; rfl)]
  refine ⟨?_, List.mem_append_right _ (List.mem_singleton.2 rfl)⟩
  refine ((fldSame_irqSample 0x082 (s.setBit ev 0 0)).fld_id hirq 0 0).trans ?_
  rw [State.setBit, fld_setFld_same, hw]
  rfl

theorem ageHealth_proj {β : Type} (g : State → β) (h : ∀ (s : State) r w l m, g { s with regs := r, irqWin := w, irqHeld := l, migs := m } = g s)
    (fam idx : Nat) (w serves : Bool) (s : State) : g (ageHealth fam idx w serves s) = g s := by
  unfold ageHealth
  split
  · exact setHealth_proj g h _ _ _
  · rfl

theorem fldSame_ageHealth (fam idx : Nat) (w serves : Bool) (s : State) : FldSame s (ageHealth fam idx w serves s) healthFs := by
  unfold ageHealth
  split
  · exact fldSame_setHealth _ _ _
  · exact FldSame.refl _ _

/-- What a measurement leaves (R707 to R711): the registers that it writes, TAU's fraction, the event and the health of a bay. -/
structure Measured (m : Monitor) (idx tau : Nat) (w : Bool) (l : List (Field × Nat)) (s t : State) : Prop where
  fields : ∀ x ∈ l, t.fld x.1 0 idx = x.2 % 2 ^ x.1.w
  frac : t.bist.frac.get (m.fam * 4096 + idx) = tau % 2 ^ 32
  event : w = true → m.fam * 4096 + idx ∉ s.bist.warned → t.fld m.ev = 1 ∧ m.fam * 4096 + idx ∈ t.bist.warned
  health : m.fam = 2 → t.fld F.HD_MAP_HSTATE 0 idx = if s.fld F.HD_MAP_HSTATE 0 idx < 2 then ofBool w else s.fld F.HD_MAP_HSTATE 0 idx
  mem : MemSame s t

section
variable {m : Monitor} (hm : m ∈ monitors)
include hm

/-- What a measurement writes, read back; HSTATE is not among it. -/
theorem ageRecorded_reads (idx temp drift tau eol wear : Nat) (w : Bool) (s : State) :
    let r := ageRecorded (m.fam * 4096 + idx) idx tau (m.writes temp drift tau eol wear w) s
    (∀ x ∈ m.writes temp drift tau eol wear w, x.1 ∈ m.fields ∧ r.fld x.1 0 idx = x.2 % 2 ^ x.1.w) ∧
    (∀ i, r.fld F.HD_MAP_HSTATE 0 i = s.fld F.HD_MAP_HSTATE 0 i) ∧ MemSame s r := by
  obtain ⟨hnodup, -, -, hstay, -⟩ := monitors_apart m hm
  have hfields := m.map_writes temp drift tau eol wear w
  have hregs := onlyRegs_setCopies idx (m.writes temp drift tau eol wear w) s
  generalize m.writes temp drift tau eol wear w = l at *
  have hmem : ∀ x ∈ l, x.1 ∈ m.fields := fun x hx => hfields ▸ List.mem_map_of_mem hx
  have hids : (l.map (fun x => x.1.id)).Nodup := by
    rw [← hfields, List.map_map] at hnodup
    exact hnodup
  refine ⟨fun x hx => ⟨hmem x hx, fld_setCopies hids idx s x hx⟩, hregs.2.fld_id (fun y hy => ?_) 0, hregs.memSame⟩
  obtain ⟨x, hx, rfl⟩ := List.mem_map.1 hy
  exact hstay x.1 (List.mem_cons_of_mem _ (hmem x hx))

theorem measured_warnSet (idx temp drift tau eol wear : Nat) (w : Bool) (s : State) :
    Measured m idx tau w (m.writes temp drift tau eol wear w) s (warnSet m.fam idx w (ageMeasured m idx temp drift tau eol wear s)) := by
  obtain ⟨-, hapart, hev, hstay, -, -, -, -, -, hw1⟩ := monitors_apart m hm
  obtain ⟨hreads, hkeeps, hmem⟩ := ageRecorded_reads hm idx temp drift tau eol wear w s
  have hserves : hstate (ageMeasured m idx temp drift tau eol wear s) idx = s.fld F.HD_MAP_HSTATE 0 idx := by
    rw [← hkeeps idx, ← ageRecorded_writes]
    exact (fld_setFld_id _ _ _ _ _ _ _ _ (hstay m.warn (by simp [Monitor.fields]))).symm
  rw [warnSet_eq hm, ageRecorded_writes, hserves]
  have hfrac : (ageRecorded (m.fam * 4096 + idx) idx tau (m.writes temp drift tau eol wear w) s).bist.frac =
      s.bist.frac.set (m.fam * 4096 + idx) (tau % 2 ^ 32) := rfl
  have hwarned : (ageRecorded (m.fam * 4096 + idx) idx tau (m.writes temp drift tau eol wear w) s).bist.warned = s.bist.warned := rfl
  generalize ageRecorded (m.fam * 4096 + idx) idx tau (m.writes temp drift tau eol wear w) s = r at *
  have htold := fldSame_warnTold m.ev (m.fam * 4096 + idx) w r
  have hhealth := fun serves => fldSame_ageHealth m.fam idx w serves (warnTold m.ev (m.fam * 4096 + idx) w r)
  have hbist := fun serves => ageHealth_proj State.bist (fun _ _ _ _ _ => rfl) m.fam idx w serves (warnTold m.ev (m.fam * 4096 + idx) w r)
  refine ⟨fun x hx => ?_, ?_, fun hw hkey => ?_, fun hf => ?_, memSame_trans hmem (memSame_of_eq ?_ ?_)⟩
  · obtain ⟨hf, hx⟩ := hreads x hx
    have hids := hapart x.1 hf
    rw [(hhealth _).fld_id (fun y hy => hids y (List.mem_append_left _ hy)), htold.fld_id (fun y hy => hids y ?_), hx]
    simp only [List.mem_append] at hy ⊢
    exact hy.imp_left (fun h => irqFs_sub_healthFs h)
  · rw [hbist, frac_warnTold, hfrac, SMap.get_set_same]
  · subst hw
    obtain ⟨hevent, hin⟩ := warnTold_first hw1 (fun y hy => hev y (irqFs_sub_healthFs hy)) (hwarned ▸ hkey)
    rw [hbist, (hhealth _).fld_id hev]
    exact ⟨hevent, hin⟩
  · have hkept : (warnTold m.ev (m.fam * 4096 + idx) w r).fld F.HD_MAP_HSTATE 0 idx = s.fld F.HD_MAP_HSTATE 0 idx :=
      (htold.fld_id (fun y hy => by
        simp only [List.mem_append, List.mem_singleton] at hy
        rcases hy with hy | rfl
        · revert y; decide
        · exact hstay m.ev List.mem_cons_self) 0 idx).trans (hkeeps idx)
    unfold ageHealth
    by_cases hlt : s.fld F.HD_MAP_HSTATE 0 idx < 2
    · rw [if_pos (by simp [hf, hlt]), if_pos hlt, hstate_setHealth, if_pos rfl]
      cases w <;> rfl
    · rw [if_neg (by simp [hlt]), if_neg hlt, hkept]
  · exact (ageHealth_proj State.mem (fun _ _ _ _ _ => rfl) _ _ _ _ _).trans (warnTold_proj State.mem (fun _ _ _ _ _ => rfl) _ _ _ _)
  · exact (ageHealth_proj State.ecc (fun _ _ _ _ _ => rfl) _ _ _ _ _).trans (warnTold_proj State.ecc (fun _ _ _ _ _ => rfl) _ _ _ _)

/-- The registers after a measurement. -/
theorem Measured.reads {idx temp drift tau eol wear : Nat} {w : Bool} {s t : State} (h : Measured m idx tau w (m.writes temp drift tau eol wear w) s t)
    (heol : eol < 2 ^ 32) (hwear : wear < 2 ^ 8) :
    t.fld m.temp 0 idx = temp % 2 ^ 16 ∧ t.fld m.drift 0 idx = drift % 2 ^ 16 ∧ t.fld m.tau 0 idx = tau / 2 ^ 32 % 2 ^ 32 ∧
      t.fld m.eol 0 idx = eol ∧ t.fld m.warn 0 idx = ofBool w ∧ (m.fam = 2 → t.fld F.HD_MAP_WEAR 0 idx = wear) := by
  obtain ⟨-, -, -, -, hwe, hwt, hwd, hww, hwu, -⟩ := monitors_apart m hm
  have hfields := h.fields
  have hin : ∀ x ∈ [(m.temp, temp), (m.drift, drift), (m.tau, tau / 2 ^ 32), (m.eol, eol), (m.warn, ofBool w)], x ∈ m.writes temp drift tau eol wear w := by
    intro x hx
    simp only [Monitor.writes, List.mem_append, List.mem_cons] at hx ⊢
    tauto
  have hread : ∀ (f : Field) (v n : Nat), f.w = n →
      (f, v) ∈ [(m.temp, temp), (m.drift, drift), (m.tau, tau / 2 ^ 32), (m.eol, eol), (m.warn, ofBool w)] → t.fld f 0 idx = v % 2 ^ n :=
    fun f v n hn hv => hn ▸ hfields (f, v) (hin _ hv)
  refine ⟨hread _ _ _ hwt (by simp), hread _ _ _ hwd (by simp), hread _ _ _ hwu (by simp), ?_, ?_, fun hf => ?_⟩
  · exact (hread _ eol _ hwe (by simp)).trans (Nat.mod_eq_of_lt heol)
  · refine (hread _ (ofBool w) _ hww (by simp)).trans (Nat.mod_eq_of_lt ?_)
    cases w <;> decide
  · exact (hfields (F.HD_MAP_WEAR, wear) (by simp [Monitor.writes, hf])).trans (Nat.mod_eq_of_lt hwear)

/-- A measurement of a monitor that runs. -/
theorem exec_measures {idx : Nat} {s : State} (hidx : idx < m.count) (hrun : bistRuns s = true) (drift temp : Nat) :
    let d := (BitVec.ofNat 16 drift).toInt
    let l := max 1 (s.fld F.AGE_CFG_DLIM)
    let af := ageFactor (BitVec.ofNat 16 temp).toInt (if m.fam = 2 then some (s.fld F.PWR_BAY_V_MV 0 idx) else none)
    let tau := s.fld m.tau 0 idx * 2 ^ 32 + s.bist.frac.get (m.fam * 4096 + idx) + af * max 1 (s.fld F.AGE_CFG_PERIOD_MS) / 3600000
    let eol := eolHours tau af d l
    let w := decide (eol ≠ 0xFFFF_FFFF ∧ eol < s.fld F.AGE_CFG_EOL_WARN)
    ∃ t, exec (.ageingMeasurement m.fam idx drift temp) s = .next t ∧ Measured m idx tau w (m.writes temp drift tau eol (wearOf d l) w) s t := by
  intro d l af tau eol w
  have hw : w = (eol != 0xFFFF_FFFF && decide (eol < s.fld F.AGE_CFG_EOL_WARN)) := by
    by_cases h : eol = 0xFFFF_FFFF <;> simp [w, h]
  refine ⟨_, (execAgeing_eq hm idx drift temp s).trans (congrArg _ (if_neg (by simp [hidx, hrun]))), ?_⟩
  rw [hw]
  exact measured_warnSet hm _ _ _ _ _ _ _ _

end

/-! ### The statement -/

theorem exec_hstateWrite (b v : Nat) (s : State) : exec (.hstateWrite b v) s = .next (if b < 768 ∧ v % 4 = 3 then retireBay b 5 s else s) := by
  have hexec : exec (.hstateWrite b v) s = execHstateWrite b v s := rfl
  rw [hexec, execHstateWrite]
  simp only [Bool.and_eq_true, decide_eq_true_eq, beq_iff_eq]

theorem exec_unusableWrite (fam u : Nat) (s : State) : exec (.unusableWrite fam u) s = .next (if u < famCount fam then retireUnit fam u 5 s else s) := rfl

/-- Settles O52: a bay and another unit that software retires, and a measurement by what it writes. -/
theorem healthForms : Obligations.HealthForms := by
  refine ⟨fun s b v => ⟨fun h => ?_, fun hb hv => ?_⟩, fun s fam u => ⟨fun h => ?_, fun hu => ?_⟩,
    fun s fam idx drift temp fe ft fd fw fu ev count hmon => ?_⟩
  · rw [exec_hstateWrite, if_neg h]
  · refine ⟨_, (exec_hstateWrite b v s).trans (congrArg _ (if_pos ⟨hb, hv⟩)), ?_, ?_, memSame_retireBay b 5 s, fun x hx => ?_⟩
    · rw [hstate_retireBay, if_pos rfl]
    · rw [hcause_retireBay, if_pos rfl]
    · rw [hstate_retireBay, if_neg hx]
  · rw [exec_unusableWrite, if_neg (by omega)]
  · exact ⟨_, (exec_unusableWrite fam u s).trans (congrArg _ (if_pos hu)), unitRetired_retireUnit hu s⟩
  · have hm : (⟨fam, count, fe, ft, fd, fw, fu, ev⟩ : Monitor) ∈ monitors := by
      simpa [monitors] using hmon
    refine ⟨fun h => ?_, fun hidx hrun => ?_⟩
    · exact (execAgeing_eq hm idx drift temp s).trans (congrArg _ (if_pos (by simpa using h)))
    · obtain ⟨t, hexec, hdone⟩ := exec_measures hm hidx hrun drift temp
      refine ⟨t, hexec, ?_⟩
      intro d l af tau e warns
      obtain ⟨htemp, hdrift, htau, heol, hwarn, hwear⟩ := hdone.reads hm eolHours_lt wearOf_lt
      have he : e = eolHours tau af d l := heol
      have hw : (if warns then 1 else 0) = ofBool (decide (eolHours tau af d l ≠ 0xFFFF_FFFF ∧ eolHours tau af d l < s.fld F.AGE_CFG_EOL_WARN)) := by
        simp only [warns, he, ofBool, decide_eq_true_eq]
      have hevent : warns → fam * 4096 + idx ∉ s.bist.warned → t.fld ev = 1 ∧ fam * 4096 + idx ∈ t.bist.warned := fun h =>
        hdone.event (decide_eq_true (he ▸ h))
      rw [hw]
      refine ⟨htemp, hdrift, htau, hdone.frac, fun h => he.trans (eolHours_unknown h), fun htau hd hl => ?_, fun htau hd hl haf => ?_, hwarn, hevent,
        fun hf => ⟨hwear hf, fun hlt => ?_, fun hge => ?_⟩, hdone.mem⟩
      · rw [he, eolHours_of_known htau hd, if_pos hl]
      · rw [he, eolHours_of_known htau hd, if_neg (by omega), if_neg (by omega)]
      · exact (hdone.health hf).trans (if_pos hlt)
      · exact (hdone.health hf).trans (if_neg (by omega))

end Sys2Proof.Machine
end

section
/-!
SUPPORT. Heddle's answer to a placement query (R305 to R310, R315, R316) and the enable of a pool (R320).
-/
namespace Sys2Proof.Claims
open Machine

theorem OnlyRegs.setFld {s w : State} {ws : List (Field × Nat)} (h : OnlyRegs s w ws) (f : Field) (u i v : Nat) (hf : (f, u) ∈ ws) :
    OnlyRegs s (w.setFld f u i v) ws := h.trans (onlyRegs_setFld w f u i v hf)

end Sys2Proof.Claims

namespace Sys2Proof.Machine
open Claims

/-! ### The choice of lowest score (R309) -/

/-- A fold that keeps the better of what it has and the next keeps the first of lowest value. -/
theorem foldl_best {α : Type} (f : α → Nat) (l : List α) (x : α) :
    ∃ y, l.foldl (fun (b : Option (α × Nat)) o => match b with
      | none => some (o, f o)
      | some x => if f o < x.2 then some (o, f o) else b) (some (x, f x)) = some (y, f y) ∧ y ∈ x :: l ∧ ∀ z ∈ x :: l, f y ≤ f z := by
  induction l generalizing x with
  | nil => exact ⟨x, rfl, List.mem_cons_self, by simp⟩
  | cons a l ih =>
    rw [List.foldl_cons]
    by_cases h : f a < f x
    · obtain ⟨y, hy, hmem, hmin⟩ := ih a
      refine ⟨y, (by simpa [h] using hy), List.mem_cons_of_mem _ hmem, fun z hz => ?_⟩
      rcases List.mem_cons.1 hz with rfl | hz
      · exact (hmin a List.mem_cons_self).trans h.le
      · exact hmin z hz
    · obtain ⟨y, hy, hmem, hmin⟩ := ih x
      refine ⟨y, (by simpa [h] using hy), ?_, fun z hz => ?_⟩
      · rcases List.mem_cons.1 hmem with rfl | hmem
        · exact List.mem_cons_self
        · exact List.mem_cons_of_mem _ (List.mem_cons_of_mem _ hmem)
      · rcases List.mem_cons.1 hz with rfl | hz
        · exact hmin z List.mem_cons_self
        · rcases List.mem_cons.1 hz with rfl | hz
          · exact (hmin x List.mem_cons_self).trans (not_lt.1 h)
          · exact hmin z (List.mem_cons_of_mem _ hz)

theorem bestBy_some {α : Type} (f : α → Nat) {l : List α} (hne : l ≠ []) : ∃ y, bestBy f l = some y ∧ y ∈ l ∧ ∀ z ∈ l, f y ≤ f z := by
  obtain ⟨a, l, rfl⟩ := List.exists_cons_of_ne_nil hne
  obtain ⟨y, hy, hmem, hmin⟩ := foldl_best f l a
  refine ⟨y, ?_, hmem, hmin⟩
  have hbest : bestBy f (a :: l) = (some (y, f y)).map Prod.fst := congrArg (Option.map Prod.fst) hy
  exact hbest

/-! ### The filters (R305, R306, R315) -/

/-- The candidates that pass every filter, whichever of them is met first. -/
theorem originPass_snd (fs : List (Nat × (Nat × Nat → Bool))) (cs : List (Nat × Nat)) :
    (originPass fs cs).2 = cs.filter (fun o => fs.all (fun f => f.2 o)) := by
  have hstep : ∀ (fs : List (Nat × (Nat × Nat → Bool))) (acc : Nat × List (Nat × Nat)),
      (fs.foldl (fun acc f => if acc.2.isEmpty then acc else let l := acc.2.filter f.2; if l.isEmpty then (f.1, []) else (0, l)) acc).2 =
        acc.2.filter (fun o => fs.all (fun f => f.2 o)) := by
    intro fs
    induction fs with
    | nil => intro acc; simp
    | cons f fs ih =>
      intro acc
      rw [List.foldl_cons, ih]
      by_cases h : acc.2.isEmpty = true
      · rw [if_pos h, List.isEmpty_iff.1 h]
        rfl
      · rw [if_neg h]
        have hl : (if (acc.2.filter f.2).isEmpty then ((f.1, []) : Nat × List (Nat × Nat)) else (0, acc.2.filter f.2)).2 = acc.2.filter f.2 := by
          split
          next he => exact (List.isEmpty_iff.1 he).symm
          next => rfl
        dsimp only
        rw [hl, List.filter_filter]
        simp only [List.all_cons, Bool.and_comm]
  exact hstep fs (0, cs)

/-- An origin at which a request without pin or anchor may be placed. -/
def OriginFits (s : State) (w h : Nat) (o : Nat × Nat) : Prop :=
  o.1 < 24 ∧ o.2 < 32 ∧ o.1 + w ≤ 24 ∧ o.2 + h ≤ 32 ∧
    ∀ b ∈ regionBays o.1 o.2 w h, ostate s b = oFREE ∧ hstate s b < 2 ∧ bayCap s b = false ∧ s.fld F.PWR_BAY_STATE_STATE 0 b ≠ 3

/-- The candidates that pass the filters of a request. -/
def originLeft (s : State) (q : OriginReq) : List (Nat × Nat) :=
  (originPass (originFilters s q ++ [(5, fun o => (regionBays o.1 o.2 q.w q.h).all (bayTakable s q o))]) (originCands q)).2

section
variable {s : State} {q : OriginReq} (hanchors : q.anchors = []) (hpin : q.pinned = false) (honly : q.only = none)

omit hanchors hpin in
include honly in
theorem mem_originCands (o : Nat × Nat) : o ∈ originCands q ↔ o.1 < 24 ∧ o.2 < 32 := by
  unfold originCands
  rw [honly]
  simp only [List.mem_flatMap, List.mem_map, List.mem_range]
  constructor
  · rintro ⟨r, hr, c, hc, rfl⟩
    exact ⟨hc, hr⟩
  · exact fun ⟨hc, hr⟩ => ⟨o.2, hr, o.1, hc, rfl⟩

include hanchors hpin honly

theorem mem_originLeft (o : Nat × Nat) : o ∈ originLeft s q ↔ OriginFits s q.w q.h o := by
  unfold originLeft
  rw [originPass_snd, List.mem_filter, mem_originCands honly]
  simp only [originFilters, bayTakable, hanchors, hpin, List.cons_append, List.nil_append, List.all_cons, List.all_nil, Bool.and_true, Bool.true_and,
    Bool.false_and, Bool.or_false, Bool.and_eq_true, decide_eq_true_eq, List.all_eq_true, Bool.not_eq_true', bne_iff_ne, beq_iff_eq]
  unfold OriginFits
  constructor
  · rintro ⟨⟨h1, h2⟩, ⟨h3, h4⟩, hhealth, hpower, hfree⟩
    exact ⟨h1, h2, h3, h4, fun b hb => ⟨hfree b hb, hhealth b hb, hpower b hb⟩⟩
  · rintro ⟨h1, h2, h3, h4, hb⟩
    exact ⟨⟨h1, h2⟩, ⟨h3, h4⟩, fun b h => (hb b h).2.1, fun b h => (hb b h).2.2, fun b h => (hb b h).1⟩

/-- Heddle chooses a candidate of lowest score, where one is left. -/
theorem originFind_fits (h : ∃ o, OriginFits s q.w q.h o) :
    ∃ o, originFind s q = .inr o ∧ OriginFits s q.w q.h o ∧ ∀ o', OriginFits s q.w q.h o' → originScore s q [] o ≤ originScore s q [] o' := by
  have hleft : ∀ o, o ∈ originLeft s q ↔ OriginFits s q.w q.h o := mem_originLeft hanchors hpin honly
  have hfind : originFind s q = match originLeft s q with
      | [] => .inl (originPass (originFilters s q ++ [(5, fun o => (regionBays o.1 o.2 q.w q.h).all (bayTakable s q o))]) (originCands q)).1
      | o :: rest => if rest.isEmpty then .inr o else .inr ((bestBy (originScore s q []) (originLeft s q)).getD o) := rfl
  obtain ⟨o, ho⟩ := h
  rw [hfind]
  cases hl : originLeft s q with
  | nil => exact absurd ((hleft o).2 ho) (by simp [hl])
  | cons a rest =>
    obtain ⟨y, hy, hmem, hmin⟩ := bestBy_some (originScore s q []) (List.cons_ne_nil a rest)
    rw [hl] at hleft
    by_cases hrest : rest.isEmpty = true
    · rw [List.isEmpty_iff] at hrest
      subst hrest
      exact ⟨a, rfl, (hleft a).1 List.mem_cons_self, fun o' h' => by rw [List.mem_singleton.1 ((hleft o').2 h')]⟩
    · dsimp only
      rw [if_neg hrest, hy]
      exact ⟨y, rfl, (hleft y).1 hmem, fun o' h' => hmin o' ((hleft o').2 h')⟩

theorem originFind_none (h : ∀ o, ¬OriginFits s q.w q.h o) : ∃ d, originFind s q = .inl d := by
  have hnil : originLeft s q = [] := List.eq_nil_iff_forall_not_mem.2 fun o ho => h o ((mem_originLeft hanchors hpin honly o).1 ho)
  refine ⟨(originPass (originFilters s q ++ [(5, fun o => (regionBays o.1 o.2 q.w q.h).all (bayTakable s q o))]) (originCands q)).1, ?_⟩
  have hfind : originFind s q = match originLeft s q with
      | [] => .inl (originPass (originFilters s q ++ [(5, fun o => (regionBays o.1 o.2 q.w q.h).all (bayTakable s q o))]) (originCands q)).1
      | o :: rest => if rest.isEmpty then .inr o else .inr ((bestBy (originScore s q []) (originLeft s q)).getD o) := rfl
  rw [hfind, hnil]

end

/-! ### The suggestion of evictions (R316) -/

/-- The fields of a suggestion. -/
def suggestFs : List (Field × Nat) :=
  [(F.HD_NOFIT_ORG_VALID, 0), (F.HD_NOFIT_ORG_ORG_R, 0), (F.HD_NOFIT_ORG_ORG_C, 0), (F.HD_NOFIT_ORG_COUNT, 0), (F.HD_NOFIT_VICT_VICT, 0)]

theorem onlyRegs_evictSuggest (n : Nat) (q : OriginReq) (s : State) : OnlyRegs s (evictSuggest n q s) suggestFs := by
  unfold evictSuggest
  dsimp only
  split
  · exact onlyRegs_setFld _ _ _ _ _ (by simp [suggestFs])
  · next x _ =>
    exact ((((OnlyRegs.refl s suggestFs).setFld F.HD_NOFIT_ORG_VALID 0 n 1 (by simp [suggestFs])).setFld F.HD_NOFIT_ORG_ORG_R 0 n x.1.2
      (by simp [suggestFs])).setFld F.HD_NOFIT_ORG_ORG_C 0 n x.1.1 (by simp [suggestFs])).setFld F.HD_NOFIT_ORG_COUNT 0 n x.2.length (by simp [suggestFs])
      |>.trans (onlyRegs_forL (fun v _ s => onlyRegs_setFld s F.HD_NOFIT_VICT_VICT 0 _ _ (by simp [suggestFs])) _)

/-! ### Commands by their ticket -/

/-- A change of a command that keeps its ticket, as it reads by the ticket. -/
theorem cmdOf_updCmd {f : LCmd → LCmd} (tk : Nat) (hf : ∀ c, (f c).ticket = c.ticket) (s : State) : cmdOf (updCmd tk f s) tk = (cmdOf s tk).map f := by
  unfold cmdOf updCmd
  dsimp only
  rw [List.find?_map]
  have hpred : ((fun c : LCmd => c.ticket == tk) ∘ fun c => if c.ticket = tk then f c else c) = fun c => c.ticket == tk := by
    funext c
    dsimp only [Function.comp]
    split
    · rw [hf]
    · rfl
  rw [hpred]
  cases h : s.cmds.find? (fun c => c.ticket == tk) with
  | none => rfl
  | some c => simp [show c.ticket = tk by simpa using List.find?_some h]

/-! ### The answer to LPLACE (R285) -/

/-- What a placement query without pin and anchors asks. -/
def placeReq (c : LCmd) : OriginReq := { w := ihW c.spools, h := ihH c.spools, prio := if c.flag 5 then c.f 6 1 else ihPrio c.spools }

section
variable {s : State} {tk : Nat} {q : List Nat} {c : LCmd} (hq : s.hdq = tk :: q) (hrun : hdRuns s = true) (hc : cmdOf s tk = some c)
  (hphase : c.phase ≠ 3) (hop : c.opc = fLPLACE) (hpin : c.pin = false) (hanchors : ihAnchors c.spools = [])
include hq hrun hc hphase hop hpin hanchors

theorem exec_placeOrigin : exec .heddleOriginRequest s = .next (match originServe c.core (placeReq c) { s with hdq := q } with
    | (.inl d, s1) => cmdEnd tk rNOFIT d s1
    | (.inr o, s1) => cmdEnd tk rOK 0 (updCmd tk (fun x => { x with org := o }) s1)) := by
  have hexec : exec .heddleOriginRequest s = execHeddleOriginRequest s := rfl
  have hc' : cmdOf { s with hdq := q } tk = some c := hc
  rw [hexec, execHeddleOriginRequest, hq]
  dsimp only
  rw [hrun, hc']
  dsimp only
  rw [if_neg (by decide), if_neg hphase, if_neg (by rw [hop]; decide), if_neg (by rw [hop]; decide)]
  have hreq : originRequest { s with hdq := q } none (ihW c.spools) (ihH c.spools) (if c.flag 5 then c.f 6 1 else ihPrio c.spools) [] [] =
    .inr (placeReq c, []) := rfl
  unfold placeOrigin
  dsimp only
  rw [hpin, if_neg (by decide), hanchors, hreq, ticket_of_cmdOf hc] <;> rfl

/-- A request that can be placed ends OK with its origin. -/
theorem place_fits (h : ∃ o, OriginFits s (ihW c.spools) (ihH c.spools) o) : ∃ t o, exec .heddleOriginRequest s = .next t ∧
    OriginFits s (ihW c.spools) (ihH c.spools) o ∧
    (∀ o', OriginFits s (ihW c.spools) (ihH c.spools) o' → originScore s (placeReq c) [] o ≤ originScore s (placeReq c) [] o') ∧
    (cmdOf t tk).map (fun y => (y.phase, y.res, y.org)) = some (3, rOK, o) ∧ t.hdq = q ∧ t = { s with cmds := t.cmds, hdq := q } := by
  obtain ⟨o, hfind, hfits, hmin⟩ := originFind_fits (s := { s with hdq := q }) (q := placeReq c) rfl rfl rfl h
  refine ⟨_, o, exec_placeOrigin hq hrun hc hphase hop hpin hanchors, hfits, hmin, ?_⟩
  rw [originServe, hfind]
  refine ⟨?_, rfl, rfl⟩
  have hc' : cmdOf (updCmd tk (fun x => { x with org := o }) { s with hdq := q }) tk = some { c with org := o } :=
    (cmdOf_updCmd (f := fun x => { x with org := o }) tk (fun _ => rfl) { s with hdq := q }).trans (congrArg (Option.map _) hc)
  rw [cmdEnd_result hc' hphase]
  rfl

/-- One that cannot ends NOFIT. -/
theorem place_nofit (h : ∀ o, ¬OriginFits s (ihW c.spools) (ihH c.spools) o) : ∃ t, exec .heddleOriginRequest s = .next t ∧
    (cmdOf t tk).map (fun y => (y.phase, y.res)) = some (3, rNOFIT) ∧ t.hdq = q ∧ t = { s with cmds := t.cmds, hdq := q, regs := t.regs } ∧
    FldSame s t suggestFs := by
  obtain ⟨d, hfind⟩ := originFind_none (s := { s with hdq := q }) (q := placeReq c) rfl rfl rfl h
  refine ⟨_, exec_placeOrigin hq hrun hc hphase hop hpin hanchors, ?_⟩
  rw [originServe, hfind]
  dsimp only
  have hregs : OnlyRegs { s with hdq := q } (if d = 5 && 0 < (placeReq c).prio then evictSuggest c.core (placeReq c) { s with hdq := q } else { s with hdq := q })
      suggestFs := by
    split
    · exact onlyRegs_evictSuggest _ _ _
    · exact OnlyRegs.refl _ _
  generalize (if d = 5 && 0 < (placeReq c).prio then evictSuggest c.core (placeReq c) { s with hdq := q } else { s with hdq := q }) = w at *
  obtain ⟨hw, hsame⟩ := hregs
  have hc' : cmdOf w tk = some c := by
    rw [hw]
    exact hc
  refine ⟨?_, ?_, ?_, hsame⟩
  · rw [cmdEnd_result hc' hphase]
    rfl
  · exact congrArg State.hdq hw
  · exact congrArg (fun x : State => { x with cmds := (cmdEnd tk rNOFIT d w).cmds }) hw

end

/-! ### The enable of a pool (R320) -/

/-- The fields of HD_POOLp_CTL that a write takes while no granule is used. -/
def poolTaken (p x : Nat) (s : State) : State :=
  if s.fld F.HD_POOL_CTL_USED 0 p ≠ 0 then s
  else ((s.setFld F.HD_POOL_CTL_DRAM 0 p (bitsOf x 62 1)).setFld F.HD_POOL_CTL_UNIT 0 p (bitsOf x 48 6)).setFld F.HD_POOL_CTL_KEYID 0 p (bitsOf x 40 6)

/-- The enable after that: EN, or POOLERR. -/
def poolDecided (p : Nat) (s : State) : State := if poolBad s p then s.setBit F.HD_STATUS_POOLERR else s.setBit F.HD_POOL_CTL_EN 0 p

theorem exec_poolEnable {p : Nat} (hp : p < 32) (v : Nat) (s : State) :
    exec (.poolEnable p v) s = .next (poolDecided p (poolTaken p (withBit v 63 true) s)) := by
  have hexec : exec (.poolEnable p v) s = .next (if p < 32 then poolCtlWrite p (withBit v 63 true) s else s) := rfl
  have hen : bitOf (withBit v 63 true) 63 = true := by rw [bitOf_withBit, if_pos rfl]
  rw [hexec, if_pos hp, poolCtlWrite, hen]
  rfl

/-- What a pool is refused for depends on the pools' places and on the other pools that are enabled. -/
theorem poolBad_congr {s t : State} {p : Nat} (hdram : t.fld F.HD_POOL_CTL_DRAM 0 p = s.fld F.HD_POOL_CTL_DRAM 0 p)
    (hunit : t.fld F.HD_POOL_CTL_UNIT 0 p = s.fld F.HD_POOL_CTL_UNIT 0 p) (hbase : ∀ q, poolBase t q = poolBase s q) (hlast : ∀ q, poolLast t q = poolLast s q)
    (hen : ∀ q, q ≠ p → t.bit F.HD_POOL_CTL_EN 0 q = s.bit F.HD_POOL_CTL_EN 0 q) : poolBad t p = poolBad s p := by
  have hd : poolDram t p = poolDram s p := by unfold poolDram State.bit; rw [hdram]
  unfold poolBad
  rw [hd, hunit, hbase, hlast]
  have hany : ∀ f g : Nat → Bool, (∀ q, f q = g q) → (List.range 32).any f = (List.range 32).any g := fun f g h => by rw [funext h]
  refine congrArg (_ || ·) (hany _ _ fun q => ?_)
  by_cases hq : q = p
  · simp [hq]
  · rw [hen q hq, hbase, hlast]

section
variable (p x : Nat) (s : State)

theorem onlyRegs_poolTaken :
    OnlyRegs s (poolTaken p x s) [(F.HD_POOL_CTL_DRAM, 0), (F.HD_POOL_CTL_UNIT, 0), (F.HD_POOL_CTL_KEYID, 0)] := by
  unfold poolTaken
  split
  · exact OnlyRegs.refl _ _
  · exact ((onlyRegs_setFld s F.HD_POOL_CTL_DRAM 0 p _ (by simp)).setFld F.HD_POOL_CTL_UNIT 0 p _ (by simp)).setFld F.HD_POOL_CTL_KEYID 0 p _ (by simp)

theorem poolTaken_unused (h : s.fld F.HD_POOL_CTL_USED 0 p = 0) :
    (poolTaken p x s).fld F.HD_POOL_CTL_DRAM 0 p = bitsOf x 62 1 ∧ (poolTaken p x s).fld F.HD_POOL_CTL_UNIT 0 p = bitsOf x 48 6 ∧
      (poolTaken p x s).fld F.HD_POOL_CTL_KEYID 0 p = bitsOf x 40 6 := by
  unfold poolTaken
  rw [if_neg (by simp [h])]
  refine ⟨?_, ?_, ?_⟩
  · rw [fld_setFld_id _ _ _ _ _ _ _ _ (by decide), fld_setFld_id _ _ _ _ _ _ _ _ (by decide), fld_setFld_same]
    exact Nat.mod_mod _ _
  · rw [fld_setFld_id _ _ _ _ _ _ _ _ (by decide), fld_setFld_same]
    exact Nat.mod_mod _ _
  · rw [fld_setFld_same]
    exact Nat.mod_mod _ _

theorem poolTaken_used (h : s.fld F.HD_POOL_CTL_USED 0 p ≠ 0) : poolTaken p x s = s := if_pos h

theorem poolTaken_other {q : Nat} (hq : q ≠ p) (f : Field) : (poolTaken p x s).fld f 0 q = s.fld f 0 q := by
  unfold poolTaken
  split
  · rfl
  · rw [fld_setFld_copy _ _ _ _ _ _ _ _ hq, fld_setFld_copy _ _ _ _ _ _ _ _ hq, fld_setFld_copy _ _ _ _ _ _ _ _ hq]

theorem onlyRegs_poolDecided : OnlyRegs s (poolDecided p s) [(F.HD_POOL_CTL_EN, 0), (F.HD_STATUS_POOLERR, 0)] := by
  unfold poolDecided
  split <;> exact onlyRegs_setFld _ _ _ _ _ (by simp)

theorem poolDecided_other {q : Nat} (hq : q ≠ p) : (poolDecided p s).fld F.HD_POOL_CTL_EN 0 q = s.fld F.HD_POOL_CTL_EN 0 q := by
  unfold poolDecided
  split
  · exact fld_setFld_id _ _ _ _ _ _ _ _ (by decide)
  · exact fld_setFld_copy _ _ _ _ _ _ _ _ hq

theorem poolDecided_bad (h : poolBad s p = true) :
    (poolDecided p s).fld F.HD_STATUS_POOLERR = 1 ∧ (poolDecided p s).fld F.HD_POOL_CTL_EN 0 p = s.fld F.HD_POOL_CTL_EN 0 p := by
  rw [poolDecided, if_pos h]
  exact ⟨fld_setFld_same _ _ _ _ _, fld_setFld_id _ _ _ _ _ _ _ _ (by decide)⟩

theorem poolDecided_good (h : poolBad s p = false) :
    (poolDecided p s).fld F.HD_POOL_CTL_EN 0 p = 1 ∧ (poolDecided p s).fld F.HD_STATUS_POOLERR = s.fld F.HD_STATUS_POOLERR := by
  rw [poolDecided, if_neg (by simp [h])]
  exact ⟨fld_setFld_same _ _ _ _ _, fld_setFld_id _ _ _ _ _ _ _ _ (by decide)⟩

/-- Neither the bit nor the error enters into what decides. -/
theorem poolBad_poolDecided : poolBad (poolDecided p s) p = poolBad s p :=
  have hsame := (onlyRegs_poolDecided p s).2
  poolBad_congr (hsame.fld_id (by decide) _ _) (hsame.fld_id (by decide) _ _) (fun q => hsame.fld_id (by decide) 0 q) (fun q => hsame.fld_id (by decide) 0 q)
    fun _ hq => congrArg (· == 1) (poolDecided_other p s hq)

end

/-- Settles O29: the empty or stopped queue, the query at its head by what the filters leave, and the enable of a pool. -/
theorem heddleOriginForms : Obligations.HeddleOriginForms := by
  refine ⟨fun s h => ?_, fun s tk q c hq hrun hc hphase hop hpin hanchors => ⟨fun h => ?_, fun h => ?_⟩, fun s p v hp => ?_⟩
  · have hexec : exec .heddleOriginRequest s = execHeddleOriginRequest s := rfl
    rw [hexec, execHeddleOriginRequest]
    cases hq : s.hdq with
    | nil => rfl
    | cons tk q =>
      rw [h.resolve_left (by simp [hq])]
      rfl
  · exact place_fits hq hrun hc hphase hop hpin hanchors h
  · exact place_nofit hq hrun hc hphase hop hpin hanchors h
  · intro used x
    have htaken := onlyRegs_poolTaken p x s
    have hdecided := onlyRegs_poolDecided p (poolTaken p x s)
    have hsame := hdecided.2
    refine ⟨_, exec_poolEnable hp v s, fun h => ?_, fun h => ?_, fun h => ?_, fun h => ?_, fun q hq f hf => ?_, ?_⟩
    · obtain ⟨hdram, hunit, hkey⟩ := poolTaken_unused p x s h
      exact ⟨(hsame.fld_id (by decide) 0 p).trans hdram, (hsame.fld_id (by decide) 0 p).trans hunit, (hsame.fld_id (by decide) 0 p).trans hkey⟩
    · rw [poolTaken_used p _ s h]
      exact onlyRegs_poolDecided p s
    · obtain ⟨herr, hen⟩ := poolDecided_bad p _ (poolBad_poolDecided p _ ▸ h)
      exact ⟨herr, hen.trans (htaken.2.fld_id (by decide) 0 p)⟩
    · obtain ⟨hen, herr⟩ := poolDecided_good p _ (poolBad_poolDecided p _ ▸ h)
      exact ⟨hen, herr.trans (htaken.2.fld_id (by decide) 0 0)⟩
    · refine Eq.trans ?_ (poolTaken_other p x s hq f)
      by_cases he : f = F.HD_POOL_CTL_EN
      · subst he
        exact poolDecided_other p _ hq
      · exact hsame.fld_id (by revert f; decide) 0 q
    · exact (htaken.mono (by simp)).trans (hdecided.mono (by simp))

end Sys2Proof.Machine
end

section
/-!
SUPPORT. The move of a spool (R328, R329): its reservation, its commit and its cancellation.
-/
namespace Sys2Proof.Machine
open Claims

/-! ### What a pool offers (R321, R322) -/

/-- The fields that say what a pool offers. -/
def poolFs : List Field :=
  [F.HD_POOL_CTL_EN, F.HD_POOL_CTL_DRAM, F.HD_POOL_CTL_UNIT, F.HD_POOL_CTL_KEYID, F.HD_POOL_BASE_BASE, F.HD_POOL_LAST_LAST, F.MP_STATUS_STATE,
    F.MP_GEOM_CAP_LOG2, F.SPB_PWR_STATE_STATE, F.UNUSABLE_BANK_BANK, F.HD_MOVE_BASE_BASE]

section
variable {s t : State} {ws : List (Field × Nat)} (h : OnlyRegs s t ws) (hws : ∀ f ∈ poolFs, ∀ w ∈ ws, f.id ≠ w.1.id)
include h hws

theorem poolFs_same {f : Field} (hf : f ∈ poolFs) (u i : Nat) : t.fld f u i = s.fld f u i := h.2.fld_id (hws f hf) u i

theorem poolDram_same (p : Nat) : poolDram t p = poolDram s p := congrArg (· == 1) (poolFs_same h hws (by simp [poolFs]) 0 p)

theorem keyGran_same (p : Nat) : keyGran t p = keyGran s p := by
  unfold keyGran
  rw [poolDram_same h hws, poolFs_same h hws (f := F.HD_POOL_CTL_KEYID) (by simp [poolFs])]

theorem poolUp_same (p : Nat) : poolUp t p = poolUp s p := by
  have hst : ∀ b, spadState t b = spadState s b := fun b => poolFs_same h hws (f := F.SPB_PWR_STATE_STATE) (by simp [poolFs]) 0 b
  have hbad : ∀ b, bankBad t b = bankBad s b := fun b => congrArg (bitOf · b) (poolFs_same h hws (f := F.UNUSABLE_BANK_BANK) (by simp [poolFs]) 0 0)
  unfold poolUp poolLast
  dsimp only
  rw [poolDram_same h hws, poolFs_same h hws (f := F.HD_POOL_CTL_UNIT) (by simp [poolFs]), poolFs_same h hws (f := F.MP_STATUS_STATE) (by simp [poolFs]),
    poolFs_same h hws (f := F.MP_GEOM_CAP_LOG2) (by simp [poolFs]), poolFs_same h hws (f := F.HD_POOL_LAST_LAST) (by simp [poolFs]), hst, hbad]

theorem poolFit_same (p n : Nat) : poolFit t p n = poolFit s p n := by
  have hbase : poolBase t p = poolBase s p := poolFs_same h hws (f := F.HD_POOL_BASE_BASE) (by simp [poolFs]) 0 p
  have hlast : poolLast t p = poolLast s p := poolFs_same h hws (f := F.HD_POOL_LAST_LAST) (by simp [poolFs]) 0 p
  have hused : poolUsed t p = poolUsed s p := by
    have hspools : t.spools = s.spools := by rw [h.1]
    have hmoving : t.moving = s.moving := by rw [h.1]
    unfold poolUsed
    rw [hspools, hmoving, poolFs_same h hws (f := F.HD_MOVE_BASE_BASE) (by simp [poolFs])]
  unfold poolFit
  rw [hbase, hlast, hused]

end

/-! ### GO (R328) -/

/-- HD_MOVE_CTL names spool `id` and pool `p`. -/
def moveNamed (id p : Nat) (s : State) : State := (s.setFld F.HD_MOVE_CTL_POOL 0 0 p).setFld F.HD_MOVE_CTL_SPOOL_ID 0 0 id

theorem onlyRegs_moveNamed (id p : Nat) (s : State) : OnlyRegs s (moveNamed id p s) [(F.HD_MOVE_CTL_POOL, 0), (F.HD_MOVE_CTL_SPOOL_ID, 0)] :=
  (onlyRegs_setFld s F.HD_MOVE_CTL_POOL 0 0 p (by simp)).trans (onlyRegs_setFld _ F.HD_MOVE_CTL_SPOOL_ID 0 0 id (by simp))

/-- The reservation of `n` granules from `a` on for spool `id` in pool `p`. -/
def moveReserved (id p n a : Nat) (s : State) : State :=
  { poolTake p n ((s.setFld F.HD_MOVE_BASE_BASE 0 0 (a + keyGran s p)).setFld F.HD_MOVE_CTL_STATE 0 0 1) with moving := some (id, p) }

section
variable {s : State} {id p : Nat} {k : Spool} (hid : id < 4096) (hp : p < 32) (hk : s.spools.get id = some k)
  (hstate : s.fld F.HD_MOVE_CTL_STATE = 0 ∨ s.fld F.HD_MOVE_CTL_STATE = 3)
include hid hp hk hstate

/-- GO finds an extent and reserves it, or fails. -/
theorem moveGo_eq : moveGo (moveNamed id p s) = if s.bit F.HD_POOL_CTL_EN 0 p && poolUp s p then
      match poolFit s p k.size with
      | some a => moveReserved id p k.size a (moveNamed id p s)
      | none => (moveNamed id p s).setFld F.HD_MOVE_CTL_STATE 0 0 3
    else (moveNamed id p s).setFld F.HD_MOVE_CTL_STATE 0 0 3 := by
  have hregs := onlyRegs_moveNamed id p s
  have hpool : (moveNamed id p s).fld F.HD_MOVE_CTL_POOL = p :=
    ((fld_setFld_id _ _ _ _ _ _ _ _ (by decide)).trans (fld_setFld_same _ _ _ _ _)).trans (Nat.mod_eq_of_lt hp)
  have hspool : (moveNamed id p s).fld F.HD_MOVE_CTL_SPOOL_ID = id := (fld_setFld_same _ _ _ _ _).trans (Nat.mod_eq_of_lt hid)
  have hst : (moveNamed id p s).fld F.HD_MOVE_CTL_STATE = s.fld F.HD_MOVE_CTL_STATE := hregs.2.fld_id (by decide) 0 0
  have hidle : ([0, 3].contains (s.fld F.HD_MOVE_CTL_STATE)) = true := by
    rcases hstate with h | h <;> rw [h] <;> rfl
  have hk' : (moveNamed id p s).spools.get id = some k := hk
  have hen : (moveNamed id p s).bit F.HD_POOL_CTL_EN 0 p = s.bit F.HD_POOL_CTL_EN 0 p :=
    congrArg (· == 1) (poolFs_same hregs (by decide) (by simp [poolFs]) 0 p)
  unfold moveGo
  dsimp only
  rw [hst, hidle, hspool, hk']
  dsimp only
  rw [hpool, hen, poolUp_same hregs (by decide), poolFit_same hregs (by decide)]
  rfl

theorem moveGo_reserves {a : Nat} (hen : s.bit F.HD_POOL_CTL_EN 0 p = true) (hup : poolUp s p = true) (hfit : poolFit s p k.size = some a) :
    moveGo (moveNamed id p s) = moveReserved id p k.size a (moveNamed id p s) := by
  rw [moveGo_eq hid hp hk hstate, hen, hup, hfit]
  rfl

theorem moveGo_fails (h : s.bit F.HD_POOL_CTL_EN 0 p = false ∨ poolUp s p = false ∨ poolFit s p k.size = none) :
    moveGo (moveNamed id p s) = (moveNamed id p s).setFld F.HD_MOVE_CTL_STATE 0 0 3 := by
  rw [moveGo_eq hid hp hk hstate]
  rcases h with h | h | h
  · rw [h]; rfl
  · rw [h, Bool.and_false]; rfl
  · rw [h]; exact ite_self _

end

/-- What a reservation leaves. -/
theorem moveReserved_reads (id p n a : Nat) (s : State) :
    let t := moveReserved id p n a (moveNamed id p s)
    t.fld F.HD_MOVE_CTL_STATE = 1 ∧ t.fld F.HD_MOVE_BASE_BASE = (a + keyGran s p) % 2 ^ F.HD_MOVE_BASE_BASE.w ∧
      t.fld F.HD_POOL_CTL_USED 0 p = (s.fld F.HD_POOL_CTL_USED 0 p + n) % 2 ^ F.HD_POOL_CTL_USED.w := by
  have hregs := onlyRegs_moveNamed id p s
  refine ⟨?_, ?_, ?_⟩
  · exact (fld_setFld_id _ F.HD_POOL_CTL_USED _ _ _ _ _ _ (by decide)).trans (fld_setFld_same _ _ _ _ _)
  · rw [← keyGran_same hregs (by decide) p]
    exact (fld_setFld_id _ F.HD_POOL_CTL_USED _ _ _ _ _ _ (by decide)).trans
      ((fld_setFld_id _ F.HD_MOVE_CTL_STATE _ _ _ _ _ _ (by decide)).trans (fld_setFld_same _ _ _ _ _))
  · refine (fld_setFld_same _ _ _ _ _).trans (congrArg (fun x => (x + n) % 2 ^ F.HD_POOL_CTL_USED.w) ?_)
    exact (fld_setFld_id _ F.HD_MOVE_CTL_STATE _ _ _ _ _ _ (by decide)).trans
      ((fld_setFld_id _ F.HD_MOVE_BASE_BASE _ _ _ _ _ _ (by decide)).trans (hregs.2.fld_id (by decide) 0 p))

theorem exec_spoolMoveGo {s : State} (hrun : hdRuns s = true) (id p : Nat) : exec (.spoolMoveGo id p) s = .next (moveGo (moveNamed id p s)) :=
  congrArg _ (if_pos hrun)

/-- GO reserves an extent or reports that it found none. -/
theorem go_done {s : State} {id p : Nat} {k : Spool} (hrun : hdRuns s = true) (hid : id < 4096) (hp : p < 32) (hk : s.spools.get id = some k)
    (hstate : s.fld F.HD_MOVE_CTL_STATE = 0 ∨ s.fld F.HD_MOVE_CTL_STATE = 3) :
    ∃ t, exec (.spoolMoveGo id p) s = .next t ∧ t.spools = s.spools ∧
      (∀ a, s.bit F.HD_POOL_CTL_EN 0 p = true → poolUp s p = true → poolFit s p k.size = some a →
        t.fld F.HD_MOVE_CTL_STATE = 1 ∧ t.fld F.HD_MOVE_BASE_BASE = (a + keyGran s p) % 2 ^ F.HD_MOVE_BASE_BASE.w ∧ t.moving = some (id, p) ∧
        t.fld F.HD_POOL_CTL_USED 0 p = (s.fld F.HD_POOL_CTL_USED 0 p + k.size) % 2 ^ F.HD_POOL_CTL_USED.w) ∧
      ((s.bit F.HD_POOL_CTL_EN 0 p = false ∨ poolUp s p = false ∨ poolFit s p k.size = none) →
        t.fld F.HD_MOVE_CTL_STATE = 3 ∧ t.moving = s.moving) := by
  refine ⟨_, exec_spoolMoveGo hrun id p, ?_, fun a hen hup hfit => ?_, fun h => ?_⟩
  · rw [moveGo_eq hid hp hk hstate]
    split
    · split <;> rfl
    · rfl
  · obtain ⟨hst, hbase, hused⟩ := moveReserved_reads id p k.size a s
    rw [moveGo_reserves hid hp hk hstate hen hup hfit]
    exact ⟨hst, hbase, rfl, hused⟩
  · rw [moveGo_fails hid hp hk hstate h]
    exact ⟨fld_setFld_same _ _ _ _ _, rfl⟩

/-! ### The end of a move -/

/-- STATE is IDLE and no COMMIT waits. -/
theorem moveIdle_reads (s : State) : (moveIdle s).fld F.HD_MOVE_CTL_STATE = 0 ∧ (moveIdle s).fld F.HD_MOVE_CTL_COMMIT = 0 ∧
    FldSame s (moveIdle s) [(F.HD_MOVE_CTL_STATE, 0), (F.HD_MOVE_CTL_COMMIT, 0)] := by
  refine ⟨?_, fld_setFld_same _ _ _ _ _, ?_⟩
  · exact (fld_setFld_id _ F.HD_MOVE_CTL_COMMIT _ _ _ _ _ _ (by decide)).trans (fld_setFld_same _ _ _ _ _)
  · exact (fldSame_setFld s F.HD_MOVE_CTL_STATE 0 0 0 (by simp)).trans (fldSame_setFld _ F.HD_MOVE_CTL_COMMIT 0 0 0 (by simp))

theorem exec_spoolMoveCancel {s : State} (hrun : hdRuns s = true) : exec .spoolMoveCancel s = .next (moveCancel s) := congrArg _ (if_pos hrun)

/-- CANCEL returns a reservation to its pool. -/
theorem cancel_reserved {s : State} {id p : Nat} {k : Spool} (hrun : hdRuns s = true) (hm : s.moving = some (id, p)) (hk : s.spools.get id = some k) :
    ∃ t, exec .spoolMoveCancel s = .next t ∧ t.fld F.HD_MOVE_CTL_STATE = 0 ∧ t.moving = none ∧ t.spools = s.spools ∧
      t.fld F.HD_POOL_CTL_USED 0 p = (s.fld F.HD_POOL_CTL_USED 0 p - k.size) % 2 ^ F.HD_POOL_CTL_USED.w := by
  obtain ⟨hst, -, hsame⟩ := moveIdle_reads s
  have hsize : moveSize s id = k.size := by rw [moveSize, hk]; rfl
  have heq : moveCancel s = poolGive p k.size (moveIdle s) := by rw [moveCancel, hm, ← hsize]
  refine ⟨_, exec_spoolMoveCancel hrun, ?_⟩
  rw [heq]
  refine ⟨(fld_setFld_id _ F.HD_POOL_CTL_USED _ _ _ _ _ _ (by decide)).trans hst, rfl, rfl, (fld_setFld_same _ _ _ _ _).trans ?_⟩
  rw [hsame.fld_id (by decide)]

/-- CANCEL ends a GO that failed. -/
theorem cancel_failed {s : State} (hrun : hdRuns s = true) (hm : s.moving = none) : ∃ t, exec .spoolMoveCancel s = .next t ∧
    t.fld F.HD_MOVE_CTL_STATE = 0 ∧ OnlyRegs s t [(F.HD_MOVE_CTL_STATE, 0), (F.HD_MOVE_CTL_COMMIT, 0)] := by
  obtain ⟨hst, -, hsame⟩ := moveIdle_reads s
  have heq : moveCancel s = moveIdle s := by rw [moveCancel, hm]
  refine ⟨_, exec_spoolMoveCancel hrun, ?_⟩
  rw [heq]
  refine ⟨hst, ?_, hsame⟩
  unfold moveIdle
  rw [← hm]
  rfl

/-! ### COMMIT (R329) -/

/-- A translation entry of spool `id` names a new base. -/
def xlMoved (id base b e : Nat) (s : State) : State :=
  if xlValid s b e && s.fld F.XLATE0_SPOOL_ID b e == id then s.setFld F.XLATE1_BASE b e base else s

/-- All entries of a bay do. -/
def bayMoved (id base b : Nat) (s : State) : State := forN 64 (fun e s => xlMoved id base b e s) s

theorem bayMoved_proj {β : Type} (g : State → β) (h : ∀ (s : State) b e v, g (s.setFld F.XLATE1_BASE b e v) = g s) (id base b : Nat) (s : State) :
    g (bayMoved id base b s) = g s := by
  refine forN_proj g (fun e _ s => ?_) s
  unfold xlMoved
  split
  · exact h _ _ _ _
  · rfl

theorem bayMoved_fld {f : Field} (hf : f.id ≠ F.XLATE1_BASE.id) (id base b : Nat) (s : State) (u i : Nat) : (bayMoved id base b s).fld f u i = s.fld f u i :=
  bayMoved_proj (fun s => s.fld f u i) (fun _ _ _ _ => fld_setFld_id _ _ _ _ _ _ _ _ hf) id base b s

/-- An entry is valid and names spool `id`. -/
def Names (id : Nat) (s : State) (b e : Nat) : Prop := s.fld F.XLATE0_VALID b e = 1 ∧ s.fld F.XLATE0_SPOOL_ID b e = id

theorem xlMoved_names {id b e : Nat} {s : State} (h : Names id s b e) (base : Nat) : xlMoved id base b e s = s.setFld F.XLATE1_BASE b e base := by
  obtain ⟨hv, hid⟩ := h
  exact if_pos (by simp [xlValid, State.bit, hv, hid])

theorem names_xlMoved (id base b e : Nat) (s : State) (x y : Nat) : Names id (xlMoved id base b e s) x y ↔ Names id s x y := by
  unfold Names xlMoved
  split
  · rw [fld_setFld_id _ _ _ _ _ _ _ _ (by decide), fld_setFld_id _ _ _ _ _ _ _ _ (by decide)]
  · rfl

theorem xlMoved_base_ne {id base b e : Nat} (s : State) {x y : Nat} (h : x ≠ b ∨ y ≠ e) :
    (xlMoved id base b e s).fld F.XLATE1_BASE x y = s.fld F.XLATE1_BASE x y := by
  unfold xlMoved
  split
  · rcases h with h | h
    · exact fld_setFld_unit _ _ _ _ _ _ _ _ h
    · exact fld_setFld_copy _ _ _ _ _ _ _ _ h
  · rfl

/-- After the fold over a bay, its entries of the spool name the new base. -/
theorem bayMoved_base (id base b : Nat) (s : State) : ∀ e < 64, Names id s b e →
    (bayMoved id base b s).fld F.XLATE1_BASE b e = base % 2 ^ F.XLATE1_BASE.w := by
  intro e he
  refine forL_all (fun t => ∀ y, Names id t b y ↔ Names id s b y) (fun e t => Names id s b e → t.fld F.XLATE1_BASE b e = base % 2 ^ F.XLATE1_BASE.w)
    (fun a _ t ht y => (names_xlMoved id base b a t b y).trans (ht y)) (fun a _ t ht hn => ?_) (fun a _ y _ hne t _ hy hn => ?_) (fun _ => Iff.rfl)
    e (List.mem_range.2 he)
  · rw [xlMoved_names ((ht a).2 hn)]
    exact fld_setFld_same _ _ _ _ _
  · exact (xlMoved_base_ne t (.inr hne)).trans (hy hn)

/-- Every entry of the spool, in every bay. -/
theorem allMoved_base (id base : Nat) (s : State) : ∀ b < 768, ∀ e < 64, Names id s b e →
    (forN 768 (bayMoved id base) s).fld F.XLATE1_BASE b e = base % 2 ^ F.XLATE1_BASE.w := by
  intro b hb
  have hother : ∀ (a x : Nat), x ≠ a → ∀ (t : State) e, (bayMoved id base a t).fld F.XLATE1_BASE x e = t.fld F.XLATE1_BASE x e := fun a x hne t e =>
    forN_proj (fun t => t.fld F.XLATE1_BASE x e) (fun _ _ s => xlMoved_base_ne s (.inl hne)) t
  refine forL_all (fun t => ∀ x y, Names id t x y ↔ Names id s x y)
    (fun b t => ∀ e < 64, Names id s b e → t.fld F.XLATE1_BASE b e = base % 2 ^ F.XLATE1_BASE.w)
    (fun a _ t ht x y => ?_) (fun a _ t ht e he hn => bayMoved_base id base a t e he ((ht a e).2 hn))
    (fun a _ x _ hne t _ hx e he hn => (hother a x hne t e).trans (hx e he hn)) (fun _ _ => Iff.rfl) b (List.mem_range.2 hb)
  refine Iff.trans ?_ (ht x y)
  unfold Names
  rw [bayMoved_fld (by decide), bayMoved_fld (by decide)]

/-- The state of a commit before the tables follow: the spool stands in its new extent, and the old one is free. -/
def spoolMoved (id p base : Nat) (k : Spool) (s : State) : State :=
  poolGive k.pool k.size { moveIdle s with spools := (moveIdle s).spools.set id (some { k with pool := p, base := base }) }

theorem moveCommit_eq {s : State} {id p : Nat} {k : Spool} (hm : s.moving = some (id, p)) (hk : s.spools.get id = some k) :
    moveCommit s = forN 768 (bayMoved id (s.fld F.HD_MOVE_BASE_BASE)) (spoolMoved id p (s.fld F.HD_MOVE_BASE_BASE) k s) := by
  have hk' : (moveIdle s).spools.get id = some k := hk
  unfold moveCommit
  rw [hm]
  dsimp only
  rw [hk]
  rfl

/-- ATPICK is written with COMMIT. -/
def commitWritten (atPick : Bool) (s : State) : State := s.setFld F.HD_MOVE_CTL_ATPICK 0 0 (ofBool atPick)

theorem exec_spoolMoveCommit {s : State} (hrun : hdRuns s = true) (atPick : Bool) :
    exec (.spoolMoveCommit atPick) s = .next (moveCommitWrite (commitWritten atPick s)) := congrArg _ (if_pos hrun)

section
variable {s : State} (hstate : s.fld F.HD_MOVE_CTL_STATE = 1)
include hstate

theorem commitWrite_now : moveCommitWrite (commitWritten false s) = moveCommit (commitWritten false s) := by
  have hst : (commitWritten false s).fld F.HD_MOVE_CTL_STATE = 1 := (fld_setFld_id _ _ _ _ _ _ _ _ (by decide)).trans hstate
  have hat : (commitWritten false s).bit F.HD_MOVE_CTL_ATPICK = false := congrArg (· == 1) (fld_setFld_same _ _ _ _ _)
  rw [moveCommitWrite, if_neg (by simp [hst]), if_pos (by simp [hat])]

theorem commitWrite_atPick : moveCommitWrite (commitWritten true s) =
    if pickPassed s (s.fld F.HD_MOVE_PICK_PICK) then (commitWritten true s).setBit F.HD_STATUS_MOVELATE
    else ((commitWritten true s).setFld F.HD_MOVE_CTL_STATE 0 0 2).setBit F.HD_MOVE_CTL_COMMIT := by
  have hst : (commitWritten true s).fld F.HD_MOVE_CTL_STATE = 1 := (fld_setFld_id _ _ _ _ _ _ _ _ (by decide)).trans hstate
  have hat : (commitWritten true s).bit F.HD_MOVE_CTL_ATPICK = true := congrArg (· == 1) (fld_setFld_same _ _ _ _ _)
  have hpick : (commitWritten true s).fld F.HD_MOVE_PICK_PICK = s.fld F.HD_MOVE_PICK_PICK := fld_setFld_id _ _ _ _ _ _ _ _ (by decide)
  have hpassed : ∀ n, pickPassed (commitWritten true s) n = pickPassed s n := fun n =>
    congrArg (fun x => decide (n ≤ x)) (fld_setFld_id s F.HD_MOVE_CTL_ATPICK F.PICK_CNT _ _ _ _ _ (by decide))
  rw [moveCommitWrite, if_neg (by simp [hst]), if_neg (by simp [hat]), hpick, hpassed]

end

section
variable {s : State} {id p : Nat} {k : Spool} (hrun : hdRuns s = true) (hstate : s.fld F.HD_MOVE_CTL_STATE = 1)
include hrun hstate

/-- COMMIT at once: the spool and every entry of it name the new extent. -/
theorem commit_now (hm : s.moving = some (id, p)) (hk : s.spools.get id = some k) :
    ∃ t, exec (.spoolMoveCommit false) s = .next t ∧ t.fld F.HD_MOVE_CTL_STATE = 0 ∧ t.fld F.HD_MOVE_CTL_COMMIT = 0 ∧ t.moving = none ∧
      t.spools.get id = some { k with pool := p, base := s.fld F.HD_MOVE_BASE_BASE } ∧
      (∀ b < 768, ∀ e < 64, s.fld F.XLATE0_VALID b e = 1 → s.fld F.XLATE0_SPOOL_ID b e = id →
        t.fld F.XLATE1_BASE b e = s.fld F.HD_MOVE_BASE_BASE % 2 ^ F.XLATE1_BASE.w) ∧ MemSame s t := by
  have hbase : (commitWritten false s).fld F.HD_MOVE_BASE_BASE = s.fld F.HD_MOVE_BASE_BASE := fld_setFld_id _ _ _ _ _ _ _ _ (by decide)
  have heq := moveCommit_eq (s := commitWritten false s) hm hk
  rw [hbase] at heq
  have hexec := exec_spoolMoveCommit hrun false
  rw [commitWrite_now hstate, heq] at hexec
  obtain ⟨hst, hcommit, hsame⟩ := moveIdle_reads (commitWritten false s)
  -- the tables' fold and the old extent's return leave the move's own fields alone
  have hfold : ∀ (f : Field), f.id ≠ F.XLATE1_BASE.id → f.id ≠ F.HD_POOL_CTL_USED.id → ∀ (u i : Nat),
      (forN 768 (bayMoved id (s.fld F.HD_MOVE_BASE_BASE)) (spoolMoved id p (s.fld F.HD_MOVE_BASE_BASE) k (commitWritten false s))).fld f u i =
        (moveIdle (commitWritten false s)).fld f u i := fun f h1 h2 u i =>
    (forN_proj (fun s => s.fld f u i) (fun _ _ s => bayMoved_fld h1 _ _ _ s u i) _).trans (fld_setFld_id _ _ _ _ _ _ _ _ h2)
  have hproj : ∀ {β : Type} (g : State → β), (∀ (s : State) b e v, g (s.setFld F.XLATE1_BASE b e v) = g s) →
      g (forN 768 (bayMoved id (s.fld F.HD_MOVE_BASE_BASE)) (spoolMoved id p (s.fld F.HD_MOVE_BASE_BASE) k (commitWritten false s))) =
        g (spoolMoved id p (s.fld F.HD_MOVE_BASE_BASE) k (commitWritten false s)) := fun g h => forN_proj g (fun _ _ s => bayMoved_proj g h _ _ _ s) _
  refine ⟨_, hexec, ?_, ?_, ?_, ?_, fun b hb e he hv hid => allMoved_base _ _ _ b hb e he ?_, memSame_of_eq ?_ ?_⟩
  · exact (hfold _ (by decide) (by decide) 0 0).trans hst
  · exact (hfold _ (by decide) (by decide) 0 0).trans hcommit
  · exact hproj State.moving fun _ _ _ _ => rfl
  · exact (hproj (fun s => s.spools.get id) fun _ _ _ _ => rfl).trans (SMap.get_set_same _ _ _)
  · have hkept : ∀ f : Field, f.id ≠ F.HD_POOL_CTL_USED.id → f.id ≠ F.HD_MOVE_CTL_STATE.id → f.id ≠ F.HD_MOVE_CTL_COMMIT.id →
        f.id ≠ F.HD_MOVE_CTL_ATPICK.id → (spoolMoved id p (s.fld F.HD_MOVE_BASE_BASE) k (commitWritten false s)).fld f b e = s.fld f b e :=
      fun f h1 h2 h3 h4 => (fld_setFld_id _ _ _ _ _ _ _ _ h1).trans ((hsame.fld_id (by simp [h2, h3]) b e).trans (fld_setFld_id _ _ _ _ _ _ _ _ h4))
    exact ⟨(hkept F.XLATE0_VALID (by decide) (by decide) (by decide) (by decide)).trans hv,
      (hkept F.XLATE0_SPOOL_ID (by decide) (by decide) (by decide) (by decide)).trans hid⟩
  · exact hproj State.mem fun _ _ _ _ => rfl
  · exact hproj State.ecc fun _ _ _ _ => rfl

/-- COMMIT past its pick is late. -/
theorem commit_late (hpassed : pickPassed s (s.fld F.HD_MOVE_PICK_PICK) = true) :
    ∃ t, exec (.spoolMoveCommit true) s = .next t ∧ t.fld F.HD_STATUS_MOVELATE = 1 ∧ t.moving = s.moving ∧ t.spools = s.spools := by
  refine ⟨_, exec_spoolMoveCommit hrun true, ?_⟩
  rw [commitWrite_atPick hstate, if_pos hpassed]
  exact ⟨fld_setFld_same _ _ _ _ _, rfl, rfl⟩

/-- COMMIT before its pick waits. -/
theorem commit_waits (hpassed : pickPassed s (s.fld F.HD_MOVE_PICK_PICK) = false) :
    ∃ t, exec (.spoolMoveCommit true) s = .next t ∧ t.fld F.HD_MOVE_CTL_STATE = 2 ∧ t.fld F.HD_MOVE_CTL_COMMIT = 1 ∧ t.moving = s.moving ∧
      t.spools = s.spools := by
  refine ⟨_, exec_spoolMoveCommit hrun true, ?_⟩
  rw [commitWrite_atPick hstate, if_neg (by simp [hpassed])]
  exact ⟨(fld_setFld_id _ F.HD_MOVE_CTL_COMMIT _ _ _ _ _ _ (by decide)).trans (fld_setFld_same _ _ _ _ _), fld_setFld_same _ _ _ _ _, rfl, rfl⟩

end

/-- Without Heddle's clock nothing of a move happens. -/
theorem move_stopped {s : State} (hrun : hdRuns s = false) :
    ∀ x ∈ [Instr.spoolMoveGo 0 0, .spoolMoveCommit true, .spoolMoveCommit false, .spoolMoveCancel], exec x s = .next s := by
  have hstop : ¬hdRuns s = true := by simp [hrun]
  intro x hx
  simp only [List.mem_cons, List.not_mem_nil, or_false] at hx
  rcases hx with rfl | rfl | rfl | rfl
  · exact congrArg _ (if_neg hstop)
  · exact congrArg _ (if_neg hstop)
  · exact congrArg _ (if_neg hstop)
  · exact congrArg _ (if_neg hstop)

end Sys2Proof.Machine
end

section
/-!
SUPPORT. The spools of a load (R319 to R325): what a placement reserves, what a failed one releases, and the translation entries that are written.
-/
namespace Sys2Proof.Machine
open Claims

/-! ### The load in hand -/

/-- A load in hand stands in the state with its skein. -/
theorem loadInst_parts {s : State} {l : LoadSt} {c : LCmd} {k : Skein} (h : loadInst s = some (l, c, k)) : s.load = some l ∧ instOf s c.inst = some k := by
  unfold loadInst at h
  split at h
  next => simp at h
  next x hload =>
    split at h
    next => simp at h
    next y _ =>
      obtain ⟨z, hz, heq⟩ := Option.map_eq_some_iff.1 h
      obtain ⟨rfl, rfl, rfl⟩ : x = l ∧ y = c ∧ z = k := by simpa using heq
      exact ⟨hload, hz⟩

theorem instOf_updInst {s : State} {i : Nat} {k : Skein} (h : instOf s i = some k) (f : Skein → Skein) : instOf (updInst i f s) i = some (f k) := by
  unfold instOf at h ⊢
  split at h
  next => simp at h
  next hi => rw [if_neg hi, updInst, SMap.upd, SMap.get_set_same, h]; rfl

/-! ### Translation entries (R325) -/

/-- The fields of a translation entry. -/
def xlFs : List Field := [F.XLATE0_VALID, F.XLATE0_RO, F.XLATE0_SPOOL_ID, F.XLATE0_HANDLE, F.XLATE0_SIZE, F.XLATE1_BASE]

/-- Translation entry `e` of bay `b` names spool `id`. -/
def xlWrite (ro : Bool) (id handle : Nat) (k : Spool) (b e : Nat) (s : State) : State :=
  (((((s.setBit F.XLATE0_VALID b e).setFld F.XLATE0_RO b e (ofBool ro)).setFld F.XLATE0_SPOOL_ID b e id).setFld F.XLATE0_HANDLE b e handle).setFld
    F.XLATE0_SIZE b e k.size).setFld F.XLATE1_BASE b e k.base

theorem xlPut_eq (ro : Bool) (id handle : Nat) (k : Spool) (b : Nat) (s : State) : xlPut ro id handle k b s =
    match (List.range 64).find? (fun e => !xlValid s b e) with | none => s | some e => xlWrite ro id handle k b e s := rfl

section
variable {β : Type} (g : State → β)

theorem xlWrite_proj {b : Nat} (h : ∀ (s : State), ∀ f ∈ xlFs, ∀ i v, g (s.setFld f b i v) = g s) (ro : Bool) (id handle : Nat) (k : Spool) (e : Nat) (s : State) :
    g (xlWrite ro id handle k b e s) = g s := by
  have hw : ∀ f ∈ xlFs, ∀ (s : State) v, g (s.setFld f b e v) = g s := fun f hf s v => h s f hf e v
  unfold xlWrite
  rw [hw _ (by simp [xlFs]), hw _ (by simp [xlFs]), hw _ (by simp [xlFs]), hw _ (by simp [xlFs]), hw _ (by simp [xlFs])]
  exact hw F.XLATE0_VALID (by simp [xlFs]) s 1

theorem xlPut_proj {b : Nat} (h : ∀ (s : State), ∀ f ∈ xlFs, ∀ i v, g (s.setFld f b i v) = g s) (ro : Bool) (id handle : Nat) (k : Spool) (s : State) :
    g (xlPut ro id handle k b s) = g s := by
  rw [xlPut_eq]
  split
  · rfl
  · exact xlWrite_proj g h _ _ _ _ _ _

theorem entryMap_proj (h : ∀ (s : State), ∀ f ∈ xlFs, ∀ u i v, g (s.setFld f u i v) = g s) (i id : Nat) (e : List Byte) (s : State) : g (entryMap i id e s) = g s := by
  unfold entryMap
  split
  · exact forL_proj g (fun b _ s => xlPut_proj g (fun s f hf => h s f hf b) _ _ _ _ s) s
  · rfl

end

theorem fld_entryMap {f : Field} (hf : ∀ x ∈ xlFs, f.id ≠ x.id) (i id : Nat) (e : List Byte) (s : State) (u j : Nat) :
    (entryMap i id e s).fld f u j = s.fld f u j :=
  entryMap_proj (fun s => s.fld f u j) (fun _ x hx _ _ _ => fld_setFld_id _ _ _ _ _ _ _ _ (hf x hx)) i id e s

/-! ### The end of a load's placement -/

/-- Going on with a load, or ending it, touches the load, its lines, the commands and the holds, and LOADING. -/
theorem loadSpools_proj {β : Type} (g : State → β) (h : ∀ (s : State) v x y z w, g { s.setFld F.CFG_LOAD_LOADING 0 0 v with load := x, loadLines := y, cmds := z, holds := w } = g s)
    (hload : ∀ (s : State) x, g { s with load := x } = g s) (c : LCmd) (n : Nat) (s : State) : g (loadSpools c n s) = g s := by
  unfold loadSpools
  split
  · exact hload _ _
  · unfold loadFinish
    dsimp only
    split
    · exact h s 0 none [] _ s.holds
    · split
      · exact h s 0 none [] _ s.holds
      · exact h s 0 none [] _ _

theorem fld_loadSpools {f : Field} (hf : f.id ≠ F.CFG_LOAD_LOADING.id) (c : LCmd) (n : Nat) (s : State) (u j : Nat) : (loadSpools c n s).fld f u j = s.fld f u j :=
  loadSpools_proj (fun s => s.fld f u j) (fun _ _ _ _ _ _ => fld_setFld_id _ _ _ _ _ _ _ _ hf) (fun _ _ => rfl) c n s

theorem spools_loadSpools (c : LCmd) (n : Nat) (s : State) : (loadSpools c n s).spools = s.spools :=
  loadSpools_proj (·.spools) (fun _ _ _ _ _ _ => rfl) (fun _ _ => rfl) c n s

theorem spools_entryMap (i id : Nat) (e : List Byte) (s : State) : (entryMap i id e s).spools = s.spools :=
  entryMap_proj (·.spools) (fun _ _ _ _ _ _ => rfl) i id e s

/-! ### A failed placement (R319, R323) -/

section
variable {β : Type} (g : State → β)

theorem moveCancel_proj (h : ∀ (s : State) r m, g { s with regs := r, moving := m } = g s) (s : State) : g (moveCancel s) = g s := by
  unfold moveCancel
  split
  · exact h s _ none
  · exact h s _ none

theorem spoolDrop_proj (h : ∀ (s : State) r x m, g { s with regs := r, spools := x, moving := m } = g s) (i : Nat) (s : State) : g (spoolDrop i s) = g s := by
  unfold spoolDrop
  split
  · rfl
  · split
    · refine (h (if (s.moving.map (·.1)) = some i then moveCancel s else s) _ _ _).trans ?_
      split
      · exact moveCancel_proj g (fun s r m => h s r s.spools m) s
      · rfl
    · exact h _ _ _ _

theorem xlClear_proj {b : Nat} (h : ∀ (s : State), ∀ f ∈ xlFs, ∀ i v, g (s.setFld f b i v) = g s) (s : State) : g (xlClear b s) = g s :=
  forN_proj g (fun i _ s => forL_proj g (fun f hf s => h s f hf i 0) s) s

end

/-- No entry of the bay is valid after its clear. -/
theorem xlClear_valid (b : Nat) (s : State) : ∀ e < 64, (xlClear b s).fld F.XLATE0_VALID b e = 0 := by
  have hclear : ∀ (t : State) e, (forL xlFs (fun f s => s.clrFld f b e) t).fld F.XLATE0_VALID b e = 0 := fun t e =>
    (forL_proj (l := xlFs.tail) (f := fun f s => s.clrFld f b e) (fun t => t.fld F.XLATE0_VALID b e)
      (fun f hf _ => fld_setFld_id _ _ _ _ _ _ _ _ (by revert f; decide)) (t.clrFld F.XLATE0_VALID b e)).trans
      (fld_setFld_same _ _ _ _ _)
  intro e he
  exact forL_all (fun _ => True) (fun e t => t.fld F.XLATE0_VALID b e = 0) (fun _ _ _ _ => trivial) (fun e _ t _ => hclear t e)
    (fun _ _ e _ hne t _ ht => (forL_proj (fun t => t.fld F.XLATE0_VALID b e) (fun f _ t => fld_setFld_copy _ _ _ _ _ _ _ _ hne) t).trans ht) trivial
    e (List.mem_range.2 he)

/-- No entry of the bays is valid after their clears. -/
theorem xlClear_all (bays : List Nat) (s : State) : ∀ b ∈ bays, ∀ e < 64, (forL bays xlClear s).fld F.XLATE0_VALID b e = 0 :=
  forL_all (fun _ => True) (fun b t => ∀ e < 64, t.fld F.XLATE0_VALID b e = 0) (fun _ _ _ _ => trivial) (fun b _ t _ => xlClear_valid b t)
    (fun _ _ b _ hne t _ ht e he => (xlClear_proj (fun t => t.fld F.XLATE0_VALID b e) (fun _ _ _ _ _ => fld_setFld_unit _ _ _ _ _ _ _ _ hne) t).trans (ht e he)) trivial

theorem instSpoolsDrop_eq {s : State} {i : Nat} {k : Skein} (h : instOf s i = some k) :
    instSpoolsDrop i s = updInst i (fun k => { k with spools := [] }) (forL k.bays xlClear (forL k.spools spoolDrop s)) := by
  unfold instSpoolsDrop
  rw [h]

/-- A failed placement releases what the load was given and goes on with the erasure of its region. -/
theorem loadSpoolFail_done {s : State} {c : LCmd} {l : LoadSt} {k : Skein} (hload : s.load = some l) (hinst : instOf s c.inst = some k) (d : Nat) :
    (loadSpoolFail c d s).load = some { l with part := 6, res := rSPOOL, detail := d } ∧
      (instOf (loadSpoolFail c d s) c.inst).map (·.spools) = some [] ∧ ∀ b ∈ k.bays, ∀ x < 64, (loadSpoolFail c d s).fld F.XLATE0_VALID b x = 0 := by
  let w := forL k.bays xlClear (forL k.spools spoolDrop s)
  have hproj : ∀ {β : Type} (g : State → β), (∀ (s : State) r x m, g { s with regs := r, spools := x, moving := m } = g s) → g w = g s := fun g h =>
    (forL_proj g (fun b _ s => xlClear_proj g (fun s _ _ _ _ => h s _ s.spools s.moving) s) _).trans (forL_proj g (fun i _ s => spoolDrop_proj g h i s) s)
  have heq : loadSpoolFail c d s = updLoad (fun l => { l with part := 6, res := rSPOOL, detail := d }) (updInst c.inst (fun k => { k with spools := [] }) w) := by
    rw [loadSpoolFail, instSpoolsDrop_eq hinst]
  have hinst' : instOf w c.inst = some k := (hproj (fun s => instOf s c.inst) fun _ _ _ _ => rfl).trans hinst
  have hload' : w.load = some l := (hproj (·.load) fun _ _ _ _ => rfl).trans hload
  rw [heq]
  refine ⟨?_, ?_, fun b hb x hx => xlClear_all k.bays _ b hb x hx⟩
  · exact congrArg (Option.map _) hload'
  · exact congrArg (Option.map _) (instOf_updInst hinst' _)

/-! ### A spool's place (R321, R322) -/

/-- An extent that a pool offers is free and inside the pool. -/
theorem poolFit_free {s : State} {p n a : Nat} (h : poolFit s p n = some a) :
    poolBase s p ≤ a ∧ a + n ≤ poolLast s p + 1 ∧ ∀ x ∈ poolUsed s p, a + n ≤ x.1 ∨ x.1 + x.2 ≤ a := by
  have hmem := List.min?_mem h
  have hok := (List.mem_filter.1 hmem).2
  simp only [Bool.and_eq_true, decide_eq_true_eq, List.all_eq_true, Bool.or_eq_true] at hok
  obtain ⟨⟨hbase, hlast⟩, hused⟩ := hok
  exact ⟨hbase, hlast, hused⟩

theorem poolFit_of_eligible {s : State} {p : Nat} {e : List Byte} (h : poolEligible s p e = true) : ∃ a, poolFit s p (fieldLE e 8 4) = some a := by
  unfold poolEligible at h
  exact Option.isSome_iff_exists.1 ((Bool.and_eq_true _ _).mp h).2

theorem not_and_else_of_ite_zero {p : Prop} [Decidable p] {a b : Nat} (h : (if p then a else b) = 0) (ha : a ≠ 0) : ¬p ∧ b = 0 := by
  split at h
  next => exact absurd h ha
  next hp => exact ⟨hp, h⟩

/-- An entry that can be placed names a spool, or has an eligible pool. -/
theorem entryBad_zero {s : State} {k : Skein} {e : List Byte} (h : entryBad s k e = 0) :
    (fieldLE e 0 1 = 2 → ∃ sp, s.spools.get (fieldLE e 8 4) = some sp) ∧ (fieldLE e 0 1 = 1 → ∃ p < 32, poolEligible s p e = true) := by
  unfold entryBad at h
  dsimp only at h
  obtain ⟨-, h⟩ := not_and_else_of_ite_zero h (by decide)
  obtain ⟨hshare, h⟩ := not_and_else_of_ite_zero h (by decide)
  obtain ⟨-, h⟩ := not_and_else_of_ite_zero h (by decide)
  obtain ⟨-, h⟩ := not_and_else_of_ite_zero h (by decide)
  obtain ⟨hnew, -⟩ := not_and_else_of_ite_zero h (by decide)
  refine ⟨fun h2 => Option.isSome_iff_exists.1 ?_, fun h1 => ?_⟩
  · simpa [h2, Option.isSome_iff_ne_none] using hshare
  · simpa [h1] using hnew

/-- Spool `id` is reserved on `n` granules from `a` on in pool `p`, for skein `i`. -/
def spoolReserved (i id p n a : Nat) (s : State) : State :=
  updInst i (fun k => { k with spools := k.spools ++ [id] })
    (poolTake p n (putSpool id (some { pool := p, owner := i, base := a + keyGran s p, size := n }) s))

/-- A NEW entry that can be placed takes the lowest free ID and an eligible pool of lowest score. -/
theorem spoolMake_done {s : State} {i id : Nat} {k : Skein} {e : List Byte} (hinst : instOf s i = some k) (h0 : 0 < id) (hid : id < 4096)
    (hfree : s.spools.get id = none) (hlow : ∀ j < id, j ≠ 0 → s.spools.get j ≠ none) (helig : ∃ p < 32, poolEligible s p e = true) :
    ∃ p a, p < 32 ∧ poolEligible s p e = true ∧ (∀ q < 32, poolEligible s q e = true → spoolScore s e k.c k.r k.w k.h p ≤ spoolScore s e k.c k.r k.w k.h q) ∧
      poolFit s p (fieldLE e 8 4) = some a ∧ spoolMake i e s = (id, spoolReserved i id p (fieldLE e 8 4) a s) := by
  have hfind : (List.range 4096).find? (fun x => x != 0 && (s.spools.get x).isNone) = some id := by
    refine List.find?_range_eq_some.2 ⟨?_, List.mem_range.2 hid, fun j hj => ?_⟩
    · simp [hfree, Nat.ne_of_gt h0]
    · by_cases hj0 : j = 0
      · simp [hj0]
      · simp [Option.isSome_iff_ne_none.2 (hlow j hj hj0)]
  have hne : (List.range 32).filter (fun p => poolEligible s p e) ≠ [] := by
    obtain ⟨q, hq, hqe⟩ := helig
    exact List.ne_nil_of_mem (List.mem_filter.2 ⟨List.mem_range.2 hq, hqe⟩)
  obtain ⟨p, hbest, hmem, hmin⟩ := bestBy_some (spoolScore s e k.c k.r k.w k.h) hne
  obtain ⟨hp, hpe⟩ := List.mem_filter.1 hmem
  obtain ⟨a, ha⟩ := poolFit_of_eligible hpe
  refine ⟨p, a, List.mem_range.1 hp, hpe, fun q hq hqe => hmin q (List.mem_filter.2 ⟨List.mem_range.2 hq, hqe⟩), ha, ?_⟩
  unfold spoolMake
  rw [hinst, hfind]
  dsimp only
  rw [hbest]
  dsimp only
  rw [ha]
  rfl

theorem spoolReserved_spool (i id p n a : Nat) (s : State) :
    (spoolReserved i id p n a s).spools.get id = some { pool := p, owner := i, base := a + keyGran s p, size := n } := SMap.get_set_same _ _ _

theorem spoolReserved_used (i id p n a : Nat) (s : State) :
    (spoolReserved i id p n a s).fld F.HD_POOL_CTL_USED 0 p = (s.fld F.HD_POOL_CTL_USED 0 p + n) % 2 ^ F.HD_POOL_CTL_USED.w :=
  (fld_setFld_same _ _ _ _ _).trans (congrArg (fun x => (x + n) % 2 ^ F.HD_POOL_CTL_USED.w) (fld_setFld_id s F.HD_STATUS_SPOOLS _ _ _ _ _ _ (by decide)))

/-! ### The placement -/

section
variable {s : State} {l : LoadSt} {c : LCmd} {k : Skein} {n : Nat} {e : List Byte} (hl : loadInst s = some (l, c, k)) (hrun : cfgRuns s = true)
  (hnext : spoolNext c l.entry = some (n, e)) (hpart : l.part = 4)
include hl hrun hnext hpart

/-- What a placement does with the entry in hand. -/
theorem exec_spoolPlacement : exec .spoolPlacement s = .next (
    if entryBad s k e ≠ 0 then loadSpoolFail c (entryBad s k e) s
    else if fieldLE e 0 1 = 2 then loadSpools c (n + 1) (entryMap c.inst (fieldLE e 8 4) e (updInst c.inst (fun k => { k with spools := k.spools ++ [fieldLE e 8 4] })
      { s with spools := s.spools.upd (fieldLE e 8 4) (fun x => x.map (fun y => { y with refs := y.refs + 1 })) }))
    else if bitOf (fieldLE e 1 1) 3 then updLoad (fun l => { l with part := 5, entry := n }) (spoolMake c.inst e s).2
    else loadSpools c (n + 1) (entryMap c.inst (spoolMake c.inst e s).1 e (spoolMake c.inst e s).2)) := by
  have hexec : exec .spoolPlacement s = execSpoolPlacement s := rfl
  rw [hexec, execSpoolPlacement, hl]
  dsimp only
  rw [if_neg (by simp [hrun, hpart]), hnext]

/-- An entry that cannot be placed fails the load. -/
theorem placement_fails (hbad : entryBad s k e ≠ 0) : ∃ t, exec .spoolPlacement s = .next t ∧
    t.load = some { l with part := 6, res := rSPOOL, detail := entryBad s k e } ∧ (instOf t c.inst).map (·.spools) = some [] ∧
    ∀ b ∈ k.bays, ∀ x < 64, t.fld F.XLATE0_VALID b x = 0 := by
  obtain ⟨hload, hinst⟩ := loadInst_parts hl
  refine ⟨_, exec_spoolPlacement hl hrun hnext hpart, ?_⟩
  rw [if_pos hbad]
  exact loadSpoolFail_done hload hinst _

/-- A SHARE entry adds a reference. -/
theorem placement_shares (hok : entryBad s k e = 0) (hkind : fieldLE e 0 1 = 2) : ∃ t sp, exec .spoolPlacement s = .next t ∧
    s.spools.get (fieldLE e 8 4) = some sp ∧ t.spools.get (fieldLE e 8 4) = some { sp with refs := sp.refs + 1 } := by
  obtain ⟨sp, hsp⟩ := (entryBad_zero hok).1 hkind
  refine ⟨_, sp, exec_spoolPlacement hl hrun hnext hpart, hsp, ?_⟩
  rw [if_neg (not_not.2 hok), if_pos hkind, spools_loadSpools, spools_entryMap]
  exact (SMap.get_set_same _ _ _).trans (congrArg (Option.map _) hsp)

/-- A NEW entry makes a spool. -/
theorem placement_makes (hok : entryBad s k e = 0) (hkind : fieldLE e 0 1 = 1) {id : Nat} (h0 : 0 < id) (hid : id < 4096) (hfree : s.spools.get id = none)
    (hlow : ∀ j < id, j ≠ 0 → s.spools.get j ≠ none) :
    ∃ t p a, exec .spoolPlacement s = .next t ∧ p < 32 ∧ poolEligible s p e = true ∧
      (∀ q < 32, poolEligible s q e = true → spoolScore s e k.c k.r k.w k.h p ≤ spoolScore s e k.c k.r k.w k.h q) ∧
      poolBase s p ≤ a ∧ a + fieldLE e 8 4 ≤ poolLast s p + 1 ∧ (∀ x ∈ poolUsed s p, a + fieldLE e 8 4 ≤ x.1 ∨ x.1 + x.2 ≤ a) ∧
      t.spools.get id = some { pool := p, owner := c.inst, base := a + keyGran s p, size := fieldLE e 8 4 } ∧
      t.fld F.HD_POOL_CTL_USED 0 p = (s.fld F.HD_POOL_CTL_USED 0 p + fieldLE e 8 4) % 2 ^ F.HD_POOL_CTL_USED.w := by
  obtain ⟨p, a, hp, hpe, hmin, hfit, hmake⟩ := spoolMake_done (loadInst_parts hl).2 h0 hid hfree hlow ((entryBad_zero hok).2 hkind)
  obtain ⟨hbase, hlast, hused⟩ := poolFit_free hfit
  have hexec := exec_spoolPlacement hl hrun hnext hpart
  rw [if_neg (not_not.2 hok), if_neg (by omega), hmake] at hexec
  refine ⟨_, p, a, hexec, hp, hpe, hmin, hbase, hlast, hused, ?_, ?_⟩
  · split
    · exact spoolReserved_spool _ _ _ _ _ _
    · rw [spools_loadSpools, spools_entryMap]
      exact spoolReserved_spool _ _ _ _ _ _
  · split
    · exact spoolReserved_used _ _ _ _ _ _
    · rw [fld_loadSpools (by decide), fld_entryMap (by decide)]
      exact spoolReserved_used _ _ _ _ _ _

end

end Sys2Proof.Machine
end

section
/-!
SUPPORT. No access of an engine writes a translation entry (R128, R324, R325, R368, R435, R463 to R514): the memory units that a request reaches
write their own logs and counters, the DRAM paths theirs, and the tables of the bays stand.
-/
namespace Sys2Proof.Machine

/-! ### The translation tables of the bays -/

/-- What the translation entries of the bays hold. -/
def xlView (s : State) : Nat → Nat → List Nat := fun u i => xlFs.map (fun g => s.fld g u i)

/-- A field is not of a translation entry. -/
def xlOther (f : Field) : Bool := xlFs.all (fun g => g.id != f.id)

theorem xlView_eq {s t : State} (h : ∀ g ∈ xlFs, ∀ u i, t.fld g u i = s.fld g u i) : xlView t = xlView s :=
  funext fun u => funext fun i => List.map_congr_left fun g hg => h g hg u i

theorem xlView_fld {s t : State} (h : xlView t = xlView s) {f : Field} (hf : f ∈ xlFs) (u i : Nat) : t.fld f u i = s.fld f u i :=
  List.map_inj_left.1 (congrFun (congrFun h u) i) f hf

section
variable {f : Field} (h : xlOther f = true) (s : State) (u i n : Nat)
include h

@[simp] theorem xlView_setFld (v : Nat) : xlView (s.setFld f u i v) = xlView s :=
  xlView_eq fun g hg _ _ => fld_setFld_id _ _ _ _ _ _ _ _ (by simpa using List.all_eq_true.1 h g hg)

@[simp] theorem xlView_setBit : xlView (s.setBit f u i) = xlView s := xlView_setFld h s u i 1
@[simp] theorem xlView_clrFld : xlView (s.clrFld f u i) = xlView s := xlView_setFld h s u i 0
@[simp] theorem xlView_bump : xlView (s.bump f u i n) = xlView s := xlView_setFld h s u i _
@[simp] theorem xlView_setFlag (x : Bool) : xlView (s.setFlag f u i n x) = xlView s := xlView_setFld h s u i _

end

/-! ### Interrupts -/

@[simp] theorem xlView_irqEdge (n : Nat) (s : State) : xlView (irqEdge n s) = xlView s :=
  xlView_eq fun g hg u i => (fldSame_irqEdge n s).fld_id (by revert g; decide) u i

@[simp] theorem xlView_irqSample (n : Nat) (s : State) : xlView (irqSample n s) = xlView s :=
  xlView_eq fun g hg u i => (fldSame_irqSample n s).fld_id (by revert g; decide) u i

/-! ### Bytes, free values, ports -/

section
variable (s : State) (a n : Nat)

@[simp] theorem xlView_wrB (v : Byte) : xlView (s.wrB a v) = xlView s := rfl
@[simp] theorem xlView_poisonB : xlView (s.poisonB a) = xlView s := rfl
@[simp] theorem xlView_wrBytes (l : List Byte) : xlView (s.wrBytes a l) = xlView s := wrBytes_proj xlView (fun _ _ _ => rfl) l a s
@[simp] theorem xlView_fresh : xlView s.fresh.2 = xlView s := rfl
@[simp] theorem xlView_freshBytes : xlView (s.freshBytes n).2 = xlView s := rfl
@[simp] theorem xlView_freshBits : xlView (s.freshBits n).2 = xlView s := rfl
@[simp] theorem xlView_emit (o : Out) : xlView (s.emit o) = xlView s := rfl
@[simp] theorem xlView_updMp (f : MPort → MPort) : xlView (s.updMp n f) = xlView s := rfl
@[simp] theorem xlView_updRg (f : MRegion → MRegion) : xlView (s.updRg n f) = xlView s := rfl
@[simp] theorem xlView_updBank (f : SpadBank → SpadBank) : xlView (s.updBank n f) = xlView s := rfl
@[simp] theorem xlView_updSc (f : SCore → SCore) : xlView (s.updSc n f) = xlView s := rfl

end

/-! ### Folds -/

/-- A fold whose every step leaves the view leaves it. -/
theorem xlView_foldl {α β : Type} (st : β → State) {f : β → α → β} (h : ∀ x a, xlView (st (f x a)) = xlView (st x)) (l : List α) (x : β) :
    xlView (st (l.foldl f x)) = xlView (st x) := by
  induction l generalizing x with
  | nil => rfl
  | cons a l ih => exact (ih (f x a)).trans (h x a)

theorem xlView_forL {α : Type} {l : List α} {f : α → State → State} (h : ∀ a s, xlView (f a s) = xlView s) (s : State) :
    xlView (forL l f s) = xlView s := forL_proj xlView (fun a _ s => h a s) s

theorem xlView_forN {n : Nat} {f : Nat → State → State} (h : ∀ a s, xlView (f a s) = xlView s) (s : State) :
    xlView (forN n f s) = xlView s := forN_proj xlView (fun a _ s => h a s) s

/-! ### On-chip memories -/

@[simp] theorem xlView_setEvt {f : Field} (h : xlOther f = true) (s : State) (u i src : Nat) : xlView (s.setEvt f u i src) = xlView s :=
  (xlView_irqSample _ _).trans (xlView_setBit h _ _ _)

@[simp] theorem xlView_bayRaise {f : Field} (h : xlOther f = true) (src b : Nat) (s : State) : xlView (bayRaise f src b s) = xlView s :=
  (xlView_irqSample _ _).trans (xlView_setFlag h _ _ _ _ _)

@[simp] theorem xlView_logTimeout (p : Packet) (s : State) : xlView (logTimeout p s) = xlView s := by
  unfold logTimeout
  dsimp only
  split <;> simp (disch := decide)

@[simp] theorem xlView_blockErr (b blk path byte : Nat) (ue : Bool) (s : State) : xlView (blockErr b blk path byte ue s) = xlView s := by
  unfold blockErr
  dsimp only
  split_ifs <;> simp (disch := decide)

@[simp] theorem xlView_spadErr (b init row byte : Nat) (ue : Bool) (s : State) : xlView (spadErr b init row byte ue s) = xlView s := by
  unfold spadErr
  dsimp only
  split_ifs <;> simp (disch := decide)

section
variable {err : Nat → Bool → State → State} (herr : ∀ j ue s, xlView (err j ue s) = xlView s)
include herr

theorem xlView_noteErrs (a n : Nat) (s : State) : xlView (noteErrs a n err s) = xlView s :=
  (xlView_forL (fun j s => herr j false s) _).trans (xlView_forL (fun j s => herr j true s) s)

theorem xlView_readRow (a n : Nat) (s : State) : xlView (readRow a n err s).2.2 = xlView s := by
  unfold readRow
  dsimp only
  split <;> exact xlView_noteErrs herr a n s

end

@[simp] theorem xlView_storeRow (p : Packet) (a k o n : Nat) (s : State) : xlView (storeRow p a k o n s) = xlView s :=
  xlView_forN (fun j s => by split_ifs <;> simp) s

theorem xlView_rowsServe (p : Packet) (a : Nat) {err : Nat → Bool → State → State} (herr : ∀ j ue s, xlView (err j ue s) = xlView s) (s : State) :
    xlView (rowsServe p a err s).2 = xlView s := by
  unfold rowsServe
  dsimp only
  split
  · refine xlView_foldl Prod.snd (fun x t => ?_) _ _
    exact xlView_readRow (fun j ue s => herr _ ue s) _ _ _
  · exact xlView_forL (fun t s => xlView_storeRow _ _ _ _ _ _) s

@[simp] theorem xlView_blockRows (b k o : Nat) (p : Packet) (a : Nat) (s : State) :
    xlView (rowsServe p a (fun j ue s => blockErr b k 2 (o + j) ue s) s).2 = xlView s :=
  xlView_rowsServe _ _ (fun _ _ _ => xlView_blockErr _ _ _ _ _ _) s

@[simp] theorem xlView_plainRows (p : Packet) (a : Nat) (s : State) : xlView (rowsServe p a (fun _ _ s => s) s).2 = xlView s :=
  xlView_rowsServe _ _ (fun _ _ _ => rfl) s

@[simp] theorem xlView_spadWritten (b o n : Nat) (wr : Nat → Bool) (s : State) : xlView (spadWritten b o n wr s) = xlView s := rfl

@[simp] theorem xlView_spadQueueWb (b o n : Nat) (s : State) : xlView (spadQueueWb b o n s) = xlView s := by
  unfold spadQueueWb
  split
  · split_ifs <;> rfl
  · rfl

@[simp] theorem xlView_blkQueueWb (b k byte n : Nat) (s : State) : xlView (blkQueueWb b k byte n s) = xlView s := by
  unfold blkQueueWb
  split
  · split_ifs <;> rfl
  · rfl

@[simp] theorem xlView_blkWinWritten (b k o n : Nat) (s : State) : xlView (blkWinWritten b k o n s) = xlView s := rfl

@[simp] theorem xlView_spadServe (b : Nat) (p : Packet) (s : State) : xlView (spadServe b p s).2 = xlView s := by
  unfold spadServe
  dsimp only
  split_ifs
  · rfl
  · exact (xlView_rowsServe _ _ (fun _ _ _ => xlView_spadErr _ _ _ _ _ _) _).trans (xlView_spadQueueWb _ _ _ _)
  · simp

@[simp] theorem xlView_bayServe (b : Nat) (p : Packet) (s : State) : xlView (bayServe b p s).2 = xlView s := by
  unfold bayServe
  dsimp only
  split_ifs <;> simp

/-! ### Signal-core memories -/

@[simp] theorem xlView_scMemErr (n path off : Nat) (ue : Bool) (s : State) : xlView (scMemErr n path off ue s) = xlView s := by
  unfold scMemErr
  dsimp only
  split_ifs <;> simp (disch := decide)

@[simp] theorem xlView_scBytes (n path off c : Nat) (s : State) : xlView (scBytes n path off c s).2.2 = xlView s :=
  xlView_noteErrs (fun _ _ _ => xlView_scMemErr _ _ _ _ _) _ _ s

@[simp] theorem xlView_scWinRead (n o c : Nat) (s : State) : xlView (scWinRead n o c s).2.2 = xlView s := by
  unfold scWinRead
  split
  · exact xlView_scBytes _ _ _ _ _
  · refine xlView_foldl (fun r : List Byte × Bool × State => r.2.2) (fun x j => ?_) _ _
    dsimp only
    split_ifs <;> simp

@[simp] theorem xlView_scPutByte (n off : Nat) (psn : Bool) (v : Byte) (s : State) : xlView (scPutByte n off psn v s) = xlView s := by
  unfold scPutByte
  dsimp only
  split_ifs <;> rfl

@[simp] theorem xlView_scServe (n : Nat) (p : Packet) (s : State) : xlView (scServe n p s).2 = xlView s := by
  unfold scServe
  dsimp only
  split_ifs
  · rfl
  · refine xlView_foldl Prod.snd (fun x t => ?_) _ _
    dsimp only
    split_ifs <;> simp
  · exact xlView_forN (fun j s => xlView_scPutByte _ _ _ _ _) s

/-! ### DRAM (R438 to R476) -/

@[simp] theorem xlView_dramRaw (n blk : Nat) (s : State) : xlView (dramRaw n blk s).2.2 = xlView s := by
  unfold dramRaw
  dsimp only
  split <;> rfl

@[simp] theorem xlView_dramDecode (n blk : Nat) (s : State) : xlView (dramDecode n blk s).2.2.2 = xlView s := xlView_dramRaw n blk s

@[simp] theorem xlView_dramStore (n blk : Nat) (d : List Byte) (psn : Bool) (s : State) : xlView (dramStore n blk d psn s) = xlView s :=
  xlView_wrBytes s (aDram n (64 * blk)) (d.take 64)

@[simp] theorem xlView_mpCommand (n kind blk : Nat) (s : State) : xlView (mpCommand n kind blk s) = xlView s := rfl

@[simp] theorem xlView_mpEmit (n kind bank row : Nat) (s : State) : xlView (mpEmit n kind bank row s) = xlView s := rfl

@[simp] theorem xlView_mpRaaSb (n bank : Nat) (s : State) : xlView (mpRaaSb n bank s) = xlView s := xlView_forN (f := fun g s => mpRaaDown n (bank / 32 * 32 + g * 4 + bank % 4) s) (fun _ _ => xlView_updMp _ _ _) s

@[simp] theorem xlView_mpThrottle (n init src : Nat) (s : State) : xlView (mpThrottle n init src s) = xlView s := by
  unfold mpThrottle
  dsimp only
  split <;> simp (disch := decide)

@[simp] theorem xlView_mpDisturb (n bank : Nat) (t : Track) (s : State) : xlView (mpDisturb n bank t s) = xlView s := by
  unfold mpDisturb
  dsimp only
  rw [xlView_irqEdge]
  split_ifs <;> simp (disch := decide)

@[simp] theorem xlView_mpActivate (n blk init src : Nat) (s : State) : xlView (mpActivate n blk init src s) = xlView s := by
  unfold mpActivate
  dsimp only
  split
  · rfl
  · split <;> simp

@[simp] theorem xlView_mpBucket (n : Nat) (s : State) : xlView (mpBucket n s) = xlView s := by
  unfold mpBucket
  dsimp only
  split <;> simp (disch := decide)

@[simp] theorem xlView_mpNoteCe (n blk dev : Nat) (s : State) : xlView (mpNoteCe n blk dev s) = xlView s := by
  unfold mpNoteCe
  dsimp only
  split
  · simp (disch := decide)
  · split
    · split <;> simp (disch := decide)
    · simp (disch := decide)

@[simp] theorem xlView_mpNoteUe (n blk : Nat) (patrol : Bool) (s : State) : xlView (mpNoteUe n blk patrol s) = xlView s := by
  unfold mpNoteUe
  dsimp only
  split <;> simp (disch := decide)

@[simp] theorem xlView_remapWrite (n e : Nat) (d : List Byte) (mask : Nat) (psn : Bool) (s : State) : xlView (remapWrite n e d mask psn s) = xlView s :=
  xlView_forN (fun j s => by split_ifs <;> rfl) s

@[simp] theorem xlView_remapRead (n e need : Nat) (s : State) : xlView (remapRead n e need s).2.2 = xlView s :=
  (xlView_forL (fun _ s => by simp (disch := decide)) _).trans (xlView_forL (fun _ s => by simp (disch := decide)) s)

@[simp] theorem xlView_mpCount (n blk c p : Nat) (patrol : Bool) (s : State) : xlView (mpCount n blk c p patrol s) = xlView s := by
  unfold mpCount
  split <;> simp (disch := decide)

@[simp] theorem xlView_mpWriteOut (n : Nat) (e : WEntry) (s : State) : xlView (mpWriteOut n e s) = xlView s := by
  unfold mpWriteOut
  dsimp only
  split <;> simp

@[simp] theorem xlView_issueWrite (n : Nat) (e : WEntry) (s : State) : xlView (issueWrite n e s) = xlView s := by
  unfold issueWrite
  dsimp only
  rw [xlView_updMp, xlView_mpCommand, xlView_mpWriteOut]
  split <;> simp

@[simp] theorem xlView_mpMerge (n blk : Nat) (d : List Byte) (mask : Nat) (psn : Bool) (s : State) : xlView (mpMerge n blk d mask psn s) = xlView s := by
  unfold mpMerge
  split
  · split <;> simp
  · rfl

@[simp] theorem xlView_mpRoom (n blk : Nat) (s : State) : xlView (mpRoom n blk s) = xlView s := by
  unfold mpRoom
  dsimp only
  split
  · rfl
  · split <;> simp

@[simp] theorem xlView_mpEnqueue (n blk : Nat) (d : List Byte) (mask : Nat) (psn : Bool) (s : State) :
    xlView (mpEnqueue n blk d mask psn s) = xlView s := (xlView_mpMerge _ _ _ _ _ _).trans (xlView_mpRoom _ _ _)

@[simp] theorem xlView_mpSnap (n blk need : Nat) (s : State) : xlView (mpSnap n blk need s).2 = xlView s := by
  unfold mpSnap
  split
  · split
    · exact xlView_remapRead _ _ _ _
    · split <;> rfl
  · split
    · split
      · rfl
      · exact xlView_dramDecode _ _ _
    · exact xlView_dramDecode _ _ _

@[simp] theorem xlView_mpNote (n : Nat) (patrol : Bool) (g : MSnap) (s : State) : xlView (mpNote n patrol g s) = xlView s := by
  unfold mpNote
  dsimp only
  split_ifs <;> simp

@[simp] theorem xlView_mpFetch (n blk need : Nat) (s : State) : xlView (mpFetch n blk need s).2 = xlView s := by
  unfold mpFetch
  dsimp only
  split <;> simp

@[simp] theorem xlView_mpFetches (n off len : Nat) (s : State) : xlView (mpFetches n off len s).2 = xlView s :=
  xlView_foldl (fun r : List MSnap × State => r.2) (fun _ _ => xlView_mpFetch _ _ _ _) _ _

@[simp] theorem xlView_snapData (off len : Nat) (gs : List MSnap) (s : State) : xlView (snapData off len gs s).2.2 = xlView s := by
  refine xlView_foldl (fun r : List Byte × Nat × State => r.2.2) (fun x a => ?_) _ _
  dsimp only
  split <;> rfl

@[simp] theorem xlView_mpReadNow (n off len : Nat) (s : State) : xlView (mpReadNow n off len s).2.2 = xlView s :=
  (xlView_snapData _ _ _ _).trans ((xlView_forL (fun _ _ => xlView_mpNote _ _ _ _) _).trans (xlView_mpFetches _ _ _ _))

@[simp] theorem xlView_mpWriteNow (n : Nat) (p : Packet) (s : State) : xlView (mpWriteNow n p s) = xlView s := by
  refine xlView_forL (fun t s => ?_) s
  dsimp only
  split_ifs <;> simp

@[simp] theorem xlView_mpAtomicNow (n : Nat) (p : Packet) (s : State) : xlView (mpAtomicNow n p s).2.2 = xlView s := by
  unfold mpAtomicNow
  dsimp only
  split <;> simp

/-! ### Alarms (R507 to R509) -/

@[simp] theorem xlView_eraseSlot (k : Nat) (s : State) : xlView (eraseSlot k s) = xlView s := by
  unfold eraseSlot
  split
  · rfl
  · exact xlView_setFlag (by decide) _ _ _ _ _

@[simp] theorem xlView_dropCache (r : Nat) (s : State) : xlView (dropCache r s) = xlView s := rfl

@[simp] theorem xlView_rgFall (r st : Nat) (s : State) : xlView (rgFall r st s) = xlView s := by
  unfold rgFall
  dsimp only
  split <;> simp (disch := decide)

@[simp] theorem xlView_zeroise (r : Nat) (s : State) : xlView (zeroise r s) = xlView s := xlView_forL (fun q s => by simp) s

@[simp] theorem xlView_freeze (r : Nat) (s : State) : xlView (freeze r s) = xlView s := by
  unfold freeze
  split <;> simp

@[simp] theorem xlView_alarmLog (reg : Option Nat) (cause init src addr : Nat) (s : State) : xlView (alarmLog reg cause init src addr s) = xlView s := by
  unfold alarmLog
  split <;> simp (disch := decide)

@[simp] theorem xlView_alarm (reg : Option Nat) (cause init src addr : Nat) (s : State) (act : Option Nat) :
    xlView (alarm reg cause init src addr s act) = xlView s := by
  rw [alarm_eq]
  cases reg with
  | none =>
    dsimp only
    split <;> simp (disch := decide)
  | some r =>
    dsimp only
    split <;> simp (disch := decide)

/-! ### The metadata cache and the pipes (R492 to R501) -/

/-- The state with another metadata cache. -/
theorem xlView_mcache (s : State) (x : SMap (List MEnt)) : xlView { s with mcache := x } = xlView s := rfl

@[simp] theorem xlView_mcWrite (n r lvl idx : Nat) (d : List Byte) (s : State) : xlView (mcWrite n r lvl idx d s) = xlView s := xlView_mcache s _

@[simp] theorem xlView_mcWriteBack (n : Nat) (e : MEnt) (s : State) : xlView (mcWriteBack n e s) = xlView s := by
  unfold mcWriteBack
  dsimp only
  split_ifs
  · rfl
  · exact (xlView_mcache _ _).trans (xlView_mpEnqueue _ _ _ _ _ _)
  · simp
  · exact (xlView_mcache _ _).trans (by simp)
  · refine (xlView_mcache _ _).trans ?_
    rw [xlView_mpEnqueue]
    split <;> simp

@[simp] theorem xlView_mcEvict (n : Nat) (e : MEnt) (s : State) : xlView (mcEvict n e s) = xlView s := by
  refine xlView_forL (fun k s => ?_) s
  split
  · rfl
  · exact (xlView_mcache _ _).trans (xlView_mcWriteBack _ _ _)

@[simp] theorem xlView_mcInsert (n : Nat) (e : MEnt) (s : State) : xlView (mcInsert n e s) = xlView s := by
  unfold mcInsert
  dsimp only
  refine (xlView_mcache _ _).trans ?_
  split
  · rfl
  · split <;> simp

@[simp] theorem xlView_mcNeedOne (n r lvl idx : Nat) (s : State) : xlView (mcNeedOne n r lvl idx s).2 = xlView s := by
  unfold mcNeedOne
  dsimp only
  split_ifs <;> simp

@[simp] theorem xlView_mcNeed (n r lvl idx : Nat) (s : State) : xlView (mcNeed n r lvl idx s).2 = xlView s := by
  refine xlView_foldl (fun r : Nat × State => r.2) (fun x k => ?_) _ _
  split <;> simp

@[simp] theorem xlView_tagNeed (n r b : Nat) (s : State) : xlView (tagNeed n r b s).2 = xlView s := by
  unfold tagNeed
  dsimp only
  split_ifs <;> simp

@[simp] theorem xlView_pipeReadBlk (n r b : Nat) (s : State) : xlView (pipeReadBlk n r b s).2 = xlView s := by
  unfold pipeReadBlk
  dsimp only
  split_ifs <;> simp

@[simp] theorem xlView_pipePut (n r b major minor : Nat) (epoch : Bool) (d : List Byte) (psn : Bool) (s : State) :
    xlView (pipePut n r b major minor epoch d psn s) = xlView s := by
  unfold pipePut
  simp

@[simp] theorem xlView_pageRead (n r l : Nat) (s : State) : xlView (pageRead n r l s).2.2 = xlView s := by
  refine xlView_foldl (fun r : Nat × List (Nat × List Byte × Bool) × State => r.2.2) (fun x i => ?_) _ _
  dsimp only
  split <;> simp

@[simp] theorem xlView_reencrypt (n r l : Nat) (new : Option (Nat × List Byte × Bool)) (s : State) : xlView (reencrypt n r l new s).2 = xlView s := by
  unfold reencrypt
  dsimp only
  split
  · simp
  · rw [xlView_bump (by decide), xlView_forL (fun x s => xlView_pipePut _ _ _ _ _ _ _ _ _), xlView_mcWrite,
      xlView_forL (fun x s => xlView_tagNeed _ _ _ _), xlView_pageRead]

@[simp] theorem xlView_pipeWriteBlk (n r b : Nat) (d : List Byte) (psn : Bool) (s : State) : xlView (pipeWriteBlk n r b d psn s).2 = xlView s := by
  unfold pipeWriteBlk
  dsimp only
  split_ifs <;> simp

@[simp] theorem xlView_noteBlocked (r init src : Nat) (s : State) : xlView (noteBlocked r init src s) = xlView s := by
  unfold noteBlocked
  dsimp only
  split <;> simp (disch := decide)

/-- A pair that an access answers has the view of its state. -/
theorem xlView_of_pair {α : Type} {x : α × State} {a : α} {s t : State} (h : x = (a, t)) (hx : xlView x.2 = xlView s) : xlView t = xlView s := by
  rw [h] at hx
  exact hx

theorem xlView_of_triple {α β : Type} {x : α × β × State} {a : α} {b : β} {s t : State} (h : x = (a, b, t)) (hx : xlView x.2.2 = xlView s) :
    xlView t = xlView s := by
  rw [h] at hx
  exact hx

@[simp] theorem xlView_pipeOlds (n r : Nat) (p : Packet) (s : State) : xlView (pipeOlds n r p s).2.2 = xlView s := by
  unfold pipeOlds
  refine xlView_foldl (fun r : Nat × List PRead × State => r.2.2) (fun x t => ?_) _ _
  dsimp -iota only
  split
  · rfl
  · split
    next c s1 hneed =>
      have h1 := xlView_of_pair hneed (xlView_mcNeed _ _ _ _ _)
      split
      · exact h1
      split
      · split
        next c2 ds s2 hpage => exact (xlView_of_triple hpage (xlView_pageRead _ _ _ _)).trans h1
      split
      · split
        next c2 s2 htag => exact (xlView_of_pair htag (xlView_tagNeed _ _ _ _)).trans h1
      · split
        next q s2 hread => exact (xlView_of_pair hread (xlView_pipeReadBlk _ _ _ _)).trans h1

@[simp] theorem xlView_pipeWrites (n r : Nat) (p : Packet) (s0 : State) (olds : List PRead) (s : State) :
    xlView (pipeWrites n r p s0 olds s).2 = xlView s := by
  refine xlView_foldl (fun r : Nat × State => r.2) (fun x t => ?_) _ _
  dsimp only
  split_ifs <;> simp

@[simp] theorem xlView_pipeServe (n r : Nat) (p : Packet) (act : Option Nat) (s : State) : xlView (pipeServe n r p act s).2 = xlView s := by
  have holds := xlView_pipeOlds n r p s
  unfold pipeServe
  dsimp only
  generalize pipeOlds n r p s = o at holds ⊢
  have hwrites := (xlView_pipeWrites n r p s o.2.1 o.2.2).trans holds
  split
  · exact (xlView_alarm _ _ _ _ _ _ _).trans holds
  split
  · exact (xlView_snapData _ _ _ _).trans holds
  split
  · split
    · split
      · exact (xlView_freshBytes _ _).trans holds
      · split <;> simp [holds]
    · exact holds
  · by_cases hw : (pipeWrites n r p s o.2.1 o.2.2).1 ≠ 0
    · exact (congrArg (fun x : Served × State => xlView x.2) (if_pos hw)).trans ((xlView_alarm _ _ _ _ _ _ _).trans hwrites)
    · exact (congrArg (fun x : Served × State => xlView x.2) (if_neg hw)).trans hwrites

@[simp] theorem xlView_pipeRefuse (p : Packet) (d : PDecide) (s : State) : xlView (pipeRefuse p d s).2 = xlView s := by
  unfold pipeRefuse
  split <;> simp

@[simp] theorem xlView_mpServing (n init src : Nat) (s : State) : xlView (mpServing n init src s) = xlView s := xlView_updMp _ _ _

@[simp] theorem xlView_dramServe (n : Nat) (p : Packet) (s : State) : xlView (dramServe n p s).2 = xlView s := by
  unfold dramServe
  dsimp only
  split
  · simp
  · split_ifs <;> simp
  · simp

/-! ### The accesses of an engine (log entry 30) -/

@[simp] theorem xlView_directServe (p : Packet) (s : State) : xlView (directServe p s).2 = xlView s := by
  unfold directServe
  split
  · rfl
  · split <;> simp

@[simp] theorem xlView_engWrite (init addr : Nat) (data : List Byte) (s : State) : xlView (engWrite init addr data s).2 = xlView s := by
  refine xlView_foldl (fun r : Nat × State => r.2) (fun x k => ?_) _ _
  dsimp only
  split <;> simp

end Sys2Proof.Machine
end

section
/-!
SUPPORT. The zero fill of a spool (R324): its writes go through the spool's unit, and the translation entries follow when they succeed.
-/
namespace Sys2Proof.Machine
open Claims

/-! ### The writes of zero -/

@[simp] theorem engView_spoolZero (id : Nat) (s : State) : engView (spoolZero id s).2 = engView s := by
  unfold spoolZero
  split
  · rfl
  · refine engView_foldl (fun r : Nat × State => r.2) (fun x j => ?_) _ _
    split <;> simp

@[simp] theorem xlView_spoolZero (id : Nat) (s : State) : xlView (spoolZero id s).2 = xlView s := by
  unfold spoolZero
  split
  · rfl
  · refine xlView_foldl (fun r : Nat × State => r.2) (fun x j => ?_) _ _
    split <;> simp

/-! ### The entries of the user bays (R325) -/

/-- A fold whose other steps leave a view of one element alone: the view is what that element's own step gives it. -/
theorem forL_nodup_view {α β : Type} (g : State → β) {f : α → State → State} {b : α} {l : List α} (hl : l.Nodup) (hb : b ∈ l)
    (h : ∀ a, a ≠ b → ∀ s, g (f a s) = g s) (s : State) : ∃ t, g t = g s ∧ g (forL l f s) = g (f b t) := by
  induction l generalizing s with
  | nil => simp at hb
  | cons a l ih =>
    obtain ⟨ha, hl⟩ := List.nodup_cons.1 hl
    by_cases e : b = a
    · subst e
      exact ⟨s, rfl, forL_proj g (fun x hx => h x fun e => ha (e ▸ hx)) (f b s)⟩
    · obtain ⟨t, ht, hfold⟩ := ih hl ((List.mem_cons.1 hb).resolve_left e) (f a s)
      exact ⟨t, ht.trans (h a (Ne.symm e) s), hfold⟩

theorem xlView_bay {s t : State} {b : Nat} (h : xlView t b = xlView s b) {f : Field} (hf : f ∈ xlFs) (i : Nat) : t.fld f b i = s.fld f b i :=
  List.map_inj_left.1 (congrFun h i) f hf

/-- The lowest free entry of the bay is written. -/
theorem xlPut_lowest {s : State} {b x : Nat} (hx : x < 64) (hfree : xlValid s b x = false) (hlow : ∀ y < x, xlValid s b y = true) (ro : Bool) (id handle : Nat)
    (k : Spool) : xlPut ro id handle k b s = xlWrite ro id handle k b x s := by
  have hfind : (List.range 64).find? (fun e => !xlValid s b e) = some x :=
    List.find?_range_eq_some.2 ⟨by simp [hfree], List.mem_range.2 hx, fun y hy => by simp [hlow y hy]⟩
  rw [xlPut_eq, hfind]

/-- Translation entry `x` of bay `b` gives spool `id` to a handle. -/
def XlReads (id handle : Nat) (k : Spool) (b x : Nat) (t : State) : Prop :=
  t.fld F.XLATE0_VALID b x = 1 ∧ t.fld F.XLATE0_HANDLE b x = handle % 2 ^ F.XLATE0_HANDLE.w ∧ t.fld F.XLATE0_SPOOL_ID b x = id % 2 ^ F.XLATE0_SPOOL_ID.w ∧
    t.fld F.XLATE1_BASE b x = k.base % 2 ^ F.XLATE1_BASE.w ∧ t.fld F.XLATE0_SIZE b x = k.size % 2 ^ F.XLATE0_SIZE.w

theorem xlReads_congr {s t : State} {b : Nat} (h : xlView t b = xlView s b) {id handle : Nat} {k : Spool} {x : Nat} (hs : XlReads id handle k b x s) :
    XlReads id handle k b x t := by
  obtain ⟨hvalid, hhandle, hid, hbase, hsize⟩ := hs
  exact ⟨(xlView_bay h (by simp [xlFs]) x).trans hvalid, (xlView_bay h (by simp [xlFs]) x).trans hhandle, (xlView_bay h (by simp [xlFs]) x).trans hid,
    (xlView_bay h (by simp [xlFs]) x).trans hbase, (xlView_bay h (by simp [xlFs]) x).trans hsize⟩

/-- A translation entry holds what was written. -/
theorem xlWrite_reads (ro : Bool) (id handle : Nat) (k : Spool) (b e : Nat) (s : State) : XlReads id handle k b e (xlWrite ro id handle k b e s) := by
  have hskip : ∀ (f x : Field), f.id ≠ x.id → ∀ (s : State) v, (s.setFld x b e v).fld f b e = s.fld f b e := fun f x h s v =>
    fld_setFld_id _ _ _ _ _ _ _ _ h
  refine ⟨?_, ?_, ?_, fld_setFld_same _ _ _ _ _, ?_⟩
  · unfold xlWrite
    rw [hskip _ _ (by decide), hskip _ _ (by decide), hskip _ _ (by decide), hskip _ _ (by decide), hskip _ _ (by decide)]
    exact fld_setFld_same _ _ _ _ _
  · unfold xlWrite
    rw [hskip _ _ (by decide), hskip _ _ (by decide)]
    exact fld_setFld_same _ _ _ _ _
  · unfold xlWrite
    rw [hskip _ _ (by decide), hskip _ _ (by decide), hskip _ _ (by decide)]
    exact fld_setFld_same _ _ _ _ _
  · unfold xlWrite
    rw [hskip _ _ (by decide)]
    exact fld_setFld_same _ _ _ _ _

/-- The absolute numbers of the user bays of an entry. -/
def entryUsers (k : Skein) (e : List Byte) : List Nat := (userBays e k.w k.h).map (fun u => (k.r + u.2) * 24 + k.c + u.1)

/-- An entry of another bay does not show in the view of a bay. -/
theorem xlPut_other {a b : Nat} (h : b ≠ a) (ro : Bool) (id handle : Nat) (k : Spool) (s : State) : xlView (xlPut ro id handle k a s) b = xlView s b :=
  xlPut_proj (fun s => xlView s b) (fun _ _ _ _ _ => funext fun _ => List.map_congr_left fun _ _ => fld_setFld_unit _ _ _ _ _ _ _ _ h) ro id handle k s

/-- Each user bay's lowest free entry names the spool. -/
theorem entryMap_reads {s : State} {i id : Nat} {k : Skein} {sp : Spool} {e : List Byte} (hinst : instOf s i = some k) (hsp : s.spools.get id = some sp)
    (hnd : (entryUsers k e).Nodup) {b x : Nat} (hb : b ∈ entryUsers k e) (hx : x < 64) (hfree : xlValid s b x = false) (hlow : ∀ y < x, xlValid s b y = true) :
    XlReads id (fieldLE e 2 2) sp b x (entryMap i id e s) := by
  have heq : entryMap i id e s = forL (entryUsers k e) (xlPut (bitOf (fieldLE e 1 1) 2) id (fieldLE e 2 2) sp) s := by
    unfold entryMap
    rw [hinst, hsp]
    rfl
  obtain ⟨w, hw, hfold⟩ := forL_nodup_view (fun w => xlView w b) hnd hb
    (fun a hne w => xlPut_other (Ne.symm hne) (bitOf (fieldLE e 1 1) 2) id (fieldLE e 2 2) sp w) s
  have hvalid : ∀ y, xlValid w b y = xlValid s b y := fun y => congrArg (· == 1) (xlView_bay hw (by simp [xlFs]) y)
  rw [xlPut_lowest hx ((hvalid x).trans hfree) (fun y hy => (hvalid y).trans (hlow y hy))] at hfold
  rw [heq]
  exact xlReads_congr hfold (xlWrite_reads _ _ _ _ _ _ _)

/-! ### The end of the fill -/

/-- The load and its skein stand after the writes of zero. -/
theorem zeroFill_keeps {s : State} {l : LoadSt} {c : LCmd} {k : Skein} (hl : loadInst s = some (l, c, k)) (id : Nat) :
    (spoolZero id s).2.load = some l ∧ instOf (spoolZero id s).2 c.inst = some k ∧
      (spoolZero id s).2.spools = s.spools := by
  obtain ⟨hload, hinst⟩ := loadInst_parts hl
  exact ⟨(engView_rest (engView_spoolZero id s) (·.load) fun _ => rfl).trans hload,
    (engView_rest (engView_spoolZero id s) (fun s => instOf s c.inst) fun _ => rfl).trans hinst, engView_rest (engView_spoolZero id s) (·.spools) fun _ => rfl⟩

section
variable {s : State} {l : LoadSt} {c : LCmd} {k : Skein} {n id : Nat} {e : List Byte} (hl : loadInst s = some (l, c, k)) (hrun : cfgRuns s = true)
  (hnext : spoolNext c l.entry = some (n, e)) (hpart : l.part = 5) (hlast : k.spools.getLast? = some id)
include hl hrun hnext hpart hlast

/-- What the end of a zero fill does. -/
theorem exec_spoolZeroFillDone : exec .spoolZeroFillDone s = .next (if spoolWaits s id then s
    else if (spoolZero id s).1 ≠ 0 then loadSpoolFail c 0x10 (spoolZero id s).2
    else loadSpools c (n + 1) (entryMap c.inst id e (spoolZero id s).2)) := by
  have hexec : exec .spoolZeroFillDone s = execSpoolZeroFillDone s := rfl
  rw [hexec, execSpoolZeroFillDone, hl]
  dsimp only
  rw [if_neg (by simp [hrun, hpart]), hnext, hlast]

/-- A fill whose target must wait changes nothing. -/
theorem zeroFill_waits (hwait : spoolWaits s id = true) : exec .spoolZeroFillDone s = .next s := by
  rw [exec_spoolZeroFillDone hl hrun hnext hpart hlast, if_pos hwait]

/-- A fill that fails fails the load. -/
theorem zeroFill_fails (hwait : spoolWaits s id = false) (herr : (spoolZero id s).1 ≠ 0) : ∃ t, exec .spoolZeroFillDone s = .next t ∧
    (t.load.map (fun x => (x.part, x.res, x.detail))) = some (6, rSPOOL, 0x10) ∧ (instOf t c.inst).map (·.spools) = some [] := by
  obtain ⟨hload, hinst, -⟩ := zeroFill_keeps hl id
  obtain ⟨hfail, hspools, -⟩ := loadSpoolFail_done hload hinst 0x10
  refine ⟨_, exec_spoolZeroFillDone hl hrun hnext hpart hlast, ?_⟩
  rw [if_neg (by simp [hwait]), if_pos herr, hfail]
  exact ⟨rfl, hspools⟩

/-- A fill that succeeds writes the translation entries. -/
theorem zeroFill_maps {sp : Spool} (hsp : s.spools.get id = some sp) (hwait : spoolWaits s id = false) (hok : (spoolZero id s).1 = 0)
    (hnd : (entryUsers k e).Nodup) : ∃ t, exec .spoolZeroFillDone s = .next t ∧
      ∀ b ∈ entryUsers k e, ∀ x < 64, xlValid s b x = false → (∀ y < x, xlValid s b y = true) → XlReads id (fieldLE e 2 2) sp b x t := by
  obtain ⟨-, hinst, hspools⟩ := zeroFill_keeps hl id
  have hvalid : ∀ b y, xlValid (spoolZero id s).2 b y = xlValid s b y := fun b y =>
    congrArg (· == 1) (xlView_fld (xlView_spoolZero id s) (f := F.XLATE0_VALID) (by simp [xlFs]) b y)
  refine ⟨_, exec_spoolZeroFillDone hl hrun hnext hpart hlast, fun b hb x hx hfree hlow => ?_⟩
  rw [if_neg (by simp [hwait]), if_neg (not_not.2 hok)]
  refine xlReads_congr ?_ (entryMap_reads hinst (hspools ▸ hsp) hnd hb hx ((hvalid b x).trans hfree) fun y hy => (hvalid b y).trans (hlow y hy))
  exact funext fun j => List.map_congr_left fun f hf => fld_loadSpools (by revert f; decide) _ _ _ _ _

end

end Sys2Proof.Machine
end

section
/-!
OBLIGATION. Spools are placed, filled, mapped and moved.
-/
namespace Sys2Proof.Machine
open Claims

/-- Without a load in hand, or without the clock, nothing of a placement or a fill happens. -/
theorem spools_stopped {s : State} (h : loadInst s = none ∨ cfgRuns s = false) : exec .spoolPlacement s = .next s ∧ exec .spoolZeroFillDone s = .next s := by
  have hplace : exec .spoolPlacement s = execSpoolPlacement s := rfl
  have hzero : exec .spoolZeroFillDone s = execSpoolZeroFillDone s := rfl
  rw [hplace, hzero, execSpoolPlacement, execSpoolZeroFillDone]
  rcases h with h | h
  · rw [h]
    exact ⟨rfl, rfl⟩
  · split
    · exact ⟨rfl, rfl⟩
    · simp [h]

end Sys2Proof.Machine

namespace Sys2Proof.Claims
open Machine

/-- Settles O30: a placement, a zero fill and a move each do what their own rule says, and an access of the fill leaves the tables alone. -/
theorem spoolForms : Obligations.SpoolForms := by
  unfold Obligations.SpoolForms
  intro s
  refine ⟨fun l c k n e hl hrun hnext => ⟨fun hpart => ?_, fun id sp hpart hlast hsp => ?_⟩, spools_stopped, move_stopped, fun hrun => ?_⟩
  · exact ⟨placement_fails hl hrun hnext hpart, placement_shares hl hrun hnext hpart, fun hok hkind id h0 hid hfree hlow =>
      placement_makes hl hrun hnext hpart hok hkind h0 hid hfree hlow⟩
  · exact ⟨zeroFill_waits hl hrun hnext hpart hlast, zeroFill_fails hl hrun hnext hpart hlast, fun hwait hok hnd =>
      zeroFill_maps hl hrun hnext hpart hlast hsp hwait hok hnd⟩
  · exact ⟨fun id p k hid hp hk hstate => go_done hrun hid hp hk hstate, fun id p k hstate hm hk =>
      ⟨commit_now hrun hstate hm hk, commit_late hrun hstate, commit_waits hrun hstate, cancel_reserved hrun hm hk⟩, cancel_failed hrun⟩

end Sys2Proof.Claims
end
